-- ==== Sys2Proof/Word.lean ====
section
/-! DEFINITION. The machine's smallest units: a byte and a 32-bit register word. -/

namespace Sys2Proof

/-- One byte of memory or of a message. -/
abbrev Byte := BitVec 8

/-- One 32-bit register word (R8, R489). -/
abbrev Word := BitVec 32

end Sys2Proof
end

