-- ==== Sys2Proof/Syntax.lean ====
section
/-! DEFINITION. The commands of the block, one constructor of `Instr` for each row of spec/opcode_table.json, with the
operands the row's rules give them. Instants are PT in whole nanoseconds. A quantity the device measures or estimates by a
law the spec does not state (a servo's filtered offset, a Gauge code, a measured delay) is an operand of the command that
brings it, so that every claim holds for every value of it (log entry 5). -/

namespace Sys2Proof

/-- A received EOP message: where it came from, its 24-byte header (R452) and what follows it. The op code is that of the
command that carries the message. -/
structure EopMsg where
  /-- receiving port 0 T0, 1 T1, 2 C0, 3 C1 -/
  port    : Nat
  /-- PT at which the last byte of the request reaches the pin -/
  at_     : Nat
  srcMac  : Nat
  /-- VID of the frame that carried the request (0xFFFF untagged), R604 -/
  vid     : Nat
  srcIp   : Nat
  srcUdp  : Nat
  /-- the frame was addressed to 255.255.255.255 (R652) -/
  broadcast : Bool
  magic   : Nat
  version : Nat
  flags   : Nat
  session : Nat
  id      : Nat
  counter : Nat
  length  : Nat
  keySlot : Nat
  /-- header byte 23 as sent -/
  reserved : Nat
  payload : List Byte
  tag     : List Byte
  deriving DecidableEq, Repr

/-- Who makes an object write or a register access: an EOP session slot (open or sealed), the host port (the mailbox of R481 or
HSPI), or a CORE task of the Weir. -/
inductive Origin where
  | openSession (slot : Nat)
  | sealedSession (slot : Nat)
  | hspi
  | weir
  deriving DecidableEq, Repr

/-- The path of a register access (R499, R505); `coreOther` is a core's narrow or wide access. -/
inductive Path where
  | hspi | core | window | coreOther
  deriving DecidableEq, Repr

/-- A received Ethernet frame: its stored bytes (destination address to the last byte before the FCS, R565) and what the PCS
and the FCS check found (R596). -/
structure EthFrame where
  at_      : Nat
  bytes    : List Byte
  fcsOk    : Bool
  symbolOk : Bool
  deriving DecidableEq, Repr

/-- Where a PTP message came in (R45, R56): its port, and whether it came over Layer 2 rather than UDP. -/
structure PtpRx where
  port : Nat
  l2   : Bool
  deriving DecidableEq, Repr

/-- How a return record came in: its lateness on the line in ps (R274), and the strand's stalls up to it that are not yet counted
(R256). -/
structure RecordRx where
  latenessPs : Nat
  stalls     : Nat
  deriving DecidableEq, Repr

/-- A PTP Announce's data set (R47), as IEEE 1588 orders it. -/
structure Announce where
  priority1 : Nat
  clockClass : Nat
  accuracy : Nat
  variance : Nat
  priority2 : Nat
  gm       : Nat
  stepsRemoved : Nat
  /-- the sender's port identity -/
  sender   : Nat
  logSync  : Int
  logAnnounce : Int
  deriving DecidableEq, Repr

/-- One sample row data header of an ST 2110-20 packet (R108). -/
structure Srd where
  length : Nat
  field  : Bool
  line   : Nat
  offset : Nat
  deriving DecidableEq, Repr

/-- An RTP packet of a VIDEO flow (R107, R108, R113). -/
structure VideoPacket where
  at_       : Nat
  version   : Nat
  payloadType : Nat
  marker    : Bool
  timestamp : Nat
  /-- 32-bit extended sequence number -/
  seq       : Nat
  srds      : List Srd
  data      : List Byte
  /-- the packet reached its ABORT cell (R580) -/
  aborted   : Bool
  deriving DecidableEq, Repr

/-- An E1.31 data packet (R122 to R129). -/
structure SacnPacket where
  at_        : Nat
  rootVector : Nat
  framingVector : Nat
  dmpVector  : Nat
  addrType   : Nat
  firstAddr  : Nat
  increment  : Nat
  propCount  : Nat
  startCode  : Nat
  priority   : Nat
  preview    : Bool
  terminated : Bool
  forceSync  : Bool
  syncAddr   : Nat
  seq        : Nat
  cid        : Nat
  uni        : Nat
  slots      : List Byte
  deriving DecidableEq, Repr

/-- A pattern of flipped bits found in one word of a page: the word's position, the flips of its 64 data bits and of its 8
light check bits (R536). -/
structure WordFlips where
  word  : Nat
  data  : BitVec 64
  check : BitVec 8
  deriving DecidableEq, Repr

/-- What the TDC reads on one pin and direction at one edge tap (R353): the STRAND periods it counted over the 256 edges together, and
how many of the edges fell into each TDC bin. -/
structure TdcReading where
  periods : Nat
  hits    : List Nat
  deriving DecidableEq, Repr

/-- What a calibration pass measures on one pin (R353, R358): the TDC's readings with the edge tap at 0 and at 63, and, for each
THRESHOLD tap and each PHASE tap, the valid records and the disagreements counted. -/
structure PinMeasure where
  pin      : Nat
  d0Rise   : TdcReading
  d63Rise  : TdcReading
  d0Fall   : TdcReading
  d63Fall  : TdcReading
  thr      : List (Nat × Nat)
  phase    : List (Nat × Nat)
  deriving DecidableEq, Repr

/-- One Gauge channel's converted code for a sample (R332). -/
structure GaugeCode where
  channel : Nat
  code    : Int
  deriving DecidableEq, Repr

/-- Demand of one DRAM consumer in an arbitration window, in bytes (R555). -/
structure Demand where
  rank   : Nat
  /-- 0 Head A, 1 Head B, for the head fetch ranks and writeback; 0 otherwise -/
  unit_   : Nat
  bytes  : Nat
  deriving DecidableEq, Repr

/-- The command table: one constructor per row of spec/opcode_table.json. -/
inductive Instr where
  -- power, reset and bring-up
  | powerOn (resetNLow : Bool) (porst : Option Nat := none)
  | pinReset (lowNs : Nat)
  | watchdogWarn
  | watchdogExpiry
  | resetAssert
  | resetRelease
  | railStartTimeout
  | bermService
  | dramState (ok : Bool) (gib : Nat) (channels : Nat)
  | serviceStart
  | vaonLoss
  | railWarning (rail : Nat)
  | brownout (rail : Nat)
  | clock (kind : Nat)
  | standby (v : Nat) (o : Origin)
  | hibernate (seconds : Nat) (o : Origin)
  | powerEntry
  | wake
  | wakeTimer
  | wakePatternMatch (f : EthFrame) (wakeToo : Bool)
  | reset (v : Nat) (o : Origin)
  | aonReset (key : Nat) (p : Path)
  -- time: `dom` is the domainNumber of a received message; of the device's own instants it is the servo, 0 A and 1 B
  | sync (dom : Nat) (rx : PtpRx) (at_ : Nat) (seq : Nat) (twoStep : Bool) (master : Nat) (filtered : Int) (freq : Int)
  | followUp (dom : Nat) (rx : PtpRx) (at_ : Nat) (seq : Nat) (master : Nat) (filtered : Int) (freq : Int)
  | announce (dom : Nat) (rx : PtpRx) (at_ : Nat) (a : Announce)
  | delayResp (dom : Nat) (rx : PtpRx) (seq : Nat) (receipt : Nat) (logInterval : Int)
  | delayReqSend (dom : Nat)
  | syncMissed (dom : Nat)
  | announceTimeout (dom : Nat) (port : Nat)
  | holdoverExpiry (dom : Nat)
  | domainRevert
  | switchAt (v : List Byte) (o : Origin)
  | timedSwitch
  | snapGo (v : Word) (p : Path)
  | pulse (row : Nat) (v : List Byte) (o : Origin)
  | pulseEdge (row : Nat)
  | tsiEdge (input : Nat) (at_ : Nat) (frac : Nat) (falling : Bool) (widthNs : Nat)
  -- EOP
  | read (m : EopMsg)
  | write (m : EopMsg)
  | readRow (m : EopMsg)
  | writeRow (m : EopMsg)
  | exec (m : EopMsg)
  | submit (m : EopMsg)
  | cancel (m : EopMsg)
  | hello (m : EopMsg)
  | heartbeat (m : EopMsg)
  | imageBlock (m : EopMsg)
  | sessionIdleTimeout (slot : Nat)
  | eventSend (slot : Nat)
  | checkpointStore (slot : Nat) (transmit : Bool)
  | settingsSave (ok : Bool := true)
  | settingsDefault (v : Nat) (o : Origin)
  | provisionKey (key : List Byte) (o : Origin)
  | key (row : Nat) (v : List Byte) (counter : Nat) (byKey0 : Bool)
  | eventSubscribe (mask : List Byte) (o : Origin)
  | hostDoorbellGo (v : Word)
  -- host port and registers
  | readBurst (addr : Word) (words : Nat)
  | writeBurst (addr : Word) (data : List Word)
  | hspiStatus
  | unknownOpcode (op : Option Nat)
  | lateFetchDone
  | registerWrite (p : Path) (addr : Word) (v : Word)
  | maskedWrite (p : Path) (addr : Word) (v : Word)
  | wolWrite (p : Path) (addr : Word) (v : Word)
  | counterLoRead (p : Path) (addr : Word)
  | culvAddrWrite (p : Path) (block : Nat) (v : Word)
  | culvDataRead (p : Path) (block : Nat)
  | culvDataWrite (p : Path) (block : Nat) (v : Word)
  | causeClear (p : Path) (bank : Nat) (v : Word)
  | sumClear (p : Path) (quire : Nat) (v : Word)
  | sysFaultClear (p : Path) (v : Word)
  | eventTest (p : Path) (v : Word)
  | cqPop (p : Path) (v : Word)
  | clearOverflow (p : Path) (v : Word)
  -- ports
  | frameReceive (port : Nat) (f : EthFrame)
  | frameTransmit (port : Nat)
  | linkChange (port : Nat) (up : Bool) (speedMbit : Nat)
  | pauseFrame (port : Nat) (at_ : Nat) (quanta : Nat)
  | pauseWindowEnd (port : Nat)
  | pauseRepeat (port : Nat)
  | arpRequest (port : Nat) (target : Nat) (senderMac : Nat) (senderIp : Nat) (vid : Nat)
  | portEnable (port : Nat) (v : Nat) (o : Origin)
  | portDrainDone (port : Nat)
  | ringProbeSend
  | ringProbe (at_ : Nat) (node : Nat)
  | ringProbeTimeout
  -- ingest
  | flowEnable (row : Nat) (v : Nat) (o : Origin)
  | flowDrainDone (row : Nat)
  | fence (f : Nat) (v : Nat) (o : Origin)
  | videoPacket (row : Nat) (p : VideoPacket)
  | arrivalWindowEnd (row : Nat)
  | fenceAdvance (row : Nat)
  | sacnData (row : Nat) (p : SacnPacket)
  | sacnSync (row : Nat) (at_ : Nat) (syncAddr : Nat) (rootVector : Nat) (framingVector : Nat)
  | sourceTimeout (row : Nat) (cid : Nat)
  | syncTimeout (syncAddr : Nat)
  -- heads
  | headEnable (head : Nat) (v : Nat) (o : Origin)
  | headDrainDone (head : Nat)
  | commitArm (head : Nat) (overBudget : Bool) (byRegister : Bool)
  | cutLine (head : Nat)
  | vblankStart (head : Nat)
  | lineZero (head : Nat)
  | lineMatch (head : Nat) (line : Nat)
  | underrun (head : Nat) (line : Nat) (column : Nat)
  | egressEnable (head : Nat) (v : Nat) (o : Origin)
  | egressPacket (head : Nat) (line : Nat) (offset : Nat)
  | writebackEnable (head : Nat) (v : Nat) (o : Origin)
  | writebackDone (head : Nat)
  -- collation
  | collateEntry (head : Nat)
  | sampleLate (head : Nat)
  -- strands
  | quireMode (quire : Nat) (v : Nat) (o : Origin)
  | quireDrainDone (quire : Nat)
  | quireLatch (quire : Nat)
  | frameStart (strand : Nat)
  | returnRecord (strand : Nat) (bits : BitVec 40) (rx : RecordRx)
  | returnWindowEnd (quire : Nat)
  | camegCommand (v : List Byte) (o : Origin)
  | enumerate (v : List Byte) (o : Origin)
  | camegRequestDone (quire : Nat)
  -- light
  | fade (row : Nat) (v : List Byte) (o : Origin)
  | fadeArm (row : Nat) (o : Origin)
  | fadeStop (row : Nat) (o : Origin)
  | fadeStart (row : Nat)
  | fadeEnd (row : Nat)
  | gaugeSample (codes : List GaugeCode) (refPpm : Int)
  | shortTest (mask : Nat) (o : Origin)
  | shortTestDone (high : List (Nat × Nat)) (stuck : List Nat)
  | faultClear (v : Nat) (o : Origin)
  | regionReset (row : Nat) (v : Nat) (o : Origin)
  -- calibration
  | reftPresence (ppm : Int)
  | reftMeasurement
  | reftMeasurementDone (cycles : Nat) (bins : List Nat)
  | calibrationPass (quire : Nat) (ms : List PinMeasure)
  | tapApply (quire : Nat)
  | refSession (v : List Byte) (o : Origin)
  | refReading (v : Nat) (o : Origin)
  | refCancel (v : Nat) (o : Origin)
  | refSessionEnd
  | refSessionTimeout
  | sensorGainReset (row : Nat) (v : Nat) (o : Origin)
  | calStoreSave (v : Nat) (o : Origin)
  | calStoreWrite (ok : Bool)
  -- twins
  | beatSend
  | dikeBeat (at_ : Nat) (bytes : List Byte)
  | heartbeatSend
  | dikeDropped
  | dikeDown
  | dikeBeatTimeout
  | chainTimeout
  | partnerOut
  | joinTimeout
  | holdElapsed
  | revertReq
  | handover
  | handoverWithdraw
  | demote (v : Nat) (o : Origin)
  | handoverAt (v : List Byte) (o : Origin)
  | rejoin (v : Nat) (o : Origin)
  -- weir
  | taskReady (slot : Nat)
  | taskDispatch (cls : Nat)
  | taskDeadline (slot : Nat)
  | taskComplete (slot : Nat) (status : Nat)
  -- integrity
  | scrubVisit (mem : Nat) (words : List WordFlips) (checks : List (Nat × Nat))
  | pageDecode (mem : Nat) (page : Nat) (words : List WordFlips) (checks : List (Nat × Nat)) (rank : Nat)
  | logClear (v : Nat) (o : Origin)
  | arbitrationWindow (delivered : Nat) (demands : List Demand)
  -- update
  | download (v : List Byte) (o : Origin)
  | eraseDone (ok : Bool)
  | blockProgramDone (block : Nat) (ok : Bool)
  | transferTimeout
  | verify (v : Nat) (o : Origin)
  | verifyDone
  | prepare (v : List Byte) (o : Origin)
  | commit (v : Nat) (o : Origin)
  | abort (v : Nat) (o : Origin)
  | confirm (v : Nat) (o : Origin)
  | activation
  | deferredActivation
  | trialTimeout
  | confirmHoldElapsed
  -- rows the table lists last
  | frameDone (head : Nat)
  | postedWriteDone
  | refreshRateChange (rate : Nat)
  | noSlotVerifies
  deriving DecidableEq, Repr

end Sys2Proof
end

