-- ==== Sys2Proof/Decode.lean ====
section
/-! DEFINITION. The decoder of the command table's words. -/

namespace Sys2Proof

/-- The command a word spells by the table's bits. No row of the table gives bits (every row's list of fields is empty: commands come
from outside with their operands), so no word spells a command. -/
def decodeTableWord (_nbits _w : Nat) : Option Instr := none

end Sys2Proof
end

