-- ==== Sys2Proof/Machine/Num.lean ====
section
/-! DEFINITION. Numbers: byte strings, two's complement, binary16 and binary32 words as exact rationals and their rounding,
rounding to whole numbers, and the exact rational arithmetic the light, composition and calibration chapters are written in. -/

namespace Sys2Proof.Machine

/-! ## Byte strings (R9, R443: wire forms are big-endian, memory is little-endian) -/

/-- The number a big-endian byte string spells. -/
def beNat (bs : List Byte) : Nat := bs.foldl (fun n b => n * 256 + b.toNat) 0

/-- The number a little-endian byte string spells. -/
def leNat : List Byte → Nat
  | [] => 0
  | b :: bs => b.toNat + 256 * leNat bs

/-- The low `n` bytes of a number, least significant first. -/
def leBytes : Nat → Nat → List Byte
  | 0, _ => []
  | n + 1, x => BitVec.ofNat 8 x :: leBytes n (x / 256)

/-- The low `n` bytes of a number, most significant first. -/
def beBytes (n x : Nat) : List Byte := (leBytes n x).reverse

/-- Bit `i` of a number. -/
def bit (x i : Nat) : Bool := x.testBit i

/-- Bits [hi:lo] of a number. -/
def bits (x hi lo : Nat) : Nat := (x / 2 ^ lo) % 2 ^ (hi + 1 - lo)

/-- A number with bit `i` set. -/
def setBit (x i : Nat) : Nat := x ||| 2 ^ i

/-- A number with bit `i` cleared. -/
def clrBit (x i : Nat) : Nat := if x.testBit i then x - 2 ^ i else x

/-- A flag as a number. -/
def b2n (b : Bool) : Nat := if b then 1 else 0

/-! ## Two's complement -/

/-- The signed value of an `n`-bit word. -/
def toI (n x : Nat) : Int := if x < 2 ^ (n - 1) then (x : Int) else (x : Int) - 2 ^ n

/-- The `n`-bit word of a signed value (wrapping). -/
def ofI (n : Nat) (x : Int) : Nat := (x % (2 ^ n : Int)).toNat

/-- Clamp between two bounds. -/
def clampI (lo hi x : Int) : Int := if x < lo then lo else if hi < x then hi else x

/-- The `n`-bit word of a signed value, saturating. -/
def satI (n : Nat) (x : Int) : Nat := ofI n (clampI (-(2 ^ (n - 1))) (2 ^ (n - 1) - 1) x)

/-- Clamp a natural number to an upper bound. -/
def capN (hi x : Nat) : Nat := if hi < x then hi else x

/-! ## Division -/

/-- The least natural number at or above a / b. -/
def cdiv (a b : Nat) : Nat := (a + b - 1) / b

/-! ## Rationals -/

/-- 2 to an integer power. -/
def pow2 (k : Int) : Rat := if 0 ≤ k then ((2 ^ k.toNat : Nat) : Rat) else 1 / ((2 ^ (-k).toNat : Nat) : Rat)

/-- The greatest integer k with 2^k at most the positive rational q. -/
def floorLog2 (q : Rat) : Int :=
  let k : Int := (Nat.log2 q.num.natAbs : Int) - (Nat.log2 q.den : Int)
  if pow2 k ≤ q then (if pow2 (k + 1) ≤ q then k + 1 else k) else k - 1

/-- Round to the nearest integer, ties to even. -/
def roundEven (q : Rat) : Int :=
  let f := q.floor
  let d := q - f
  if d < 1 / 2 then f else if 1 / 2 < d then f + 1 else if f % 2 = 0 then f else f + 1

/-- Round half up: the floor of q + 1/2. -/
def roundHalfUp (q : Rat) : Int := (q + 1 / 2).floor

/-- Clamp a rational. -/
def clampR (lo hi x : Rat) : Rat := if x < lo then lo else if hi < x then hi else x

/-- The lesser and the greater of two rationals. -/
def minR (a b : Rat) : Rat := if a ≤ b then a else b
def maxR (a b : Rat) : Rat := if a ≤ b then b else a

/-- Absolute value. -/
def absR (a : Rat) : Rat := if a < 0 then -a else a

/-! ## Binary floating point, eb exponent bits and mb fraction bits -/

/-- A binary word that is neither infinity nor NaN. -/
def fFinite (eb mb w : Nat) : Bool := decide ((w / 2 ^ mb) % 2 ^ eb ≠ 2 ^ eb - 1)

/-- The exact value of a finite binary word; an infinity or NaN is read as 0 (callers test `fFinite` first). -/
def fToRat (eb mb w : Nat) : Rat :=
  let e := (w / 2 ^ mb) % 2 ^ eb
  let m := w % 2 ^ mb
  let bias : Int := 2 ^ (eb - 1) - 1
  let mag : Rat :=
    if e = 2 ^ eb - 1 then 0
    else if e = 0 then (m : Rat) * pow2 (1 - bias - mb)
    else ((2 ^ mb + m : Nat) : Rat) * pow2 ((e : Int) - bias - mb)
  if (w / 2 ^ (eb + mb)) % 2 = 1 then -mag else mag

/-- The binary word nearest a rational, ties to even; overflow gives infinity. -/
def ratToF (eb mb : Nat) (q : Rat) : Nat :=
  let bias : Int := 2 ^ (eb - 1) - 1
  let a := absR q
  let sign := if q < 0 then 2 ^ (eb + mb) else 0
  if a = 0 then 0
  else
    let e := max (floorLog2 a) (1 - bias)
    let m := roundEven (a / pow2 (e - mb))
    let raw := (((e + bias - 1) * 2 ^ mb) + m).toNat
    sign + capN ((2 ^ eb - 1) * 2 ^ mb) raw

/-- The value of a binary32 word. -/
def f32 (w : Nat) : Rat := fToRat 8 23 w

/-- The binary32 word nearest a rational. -/
def toF32 (q : Rat) : Nat := ratToF 8 23 q

/-- A finite binary32 word. -/
def f32Finite (w : Nat) : Bool := fFinite 8 23 w

/-- The value of a binary16 word. -/
def f16 (w : Nat) : Rat := fToRat 5 10 w

/-- The binary16 word nearest a rational. -/
def toF16 (q : Rat) : Nat := ratToF 5 10 q

/-- A rational rounded to binary32 precision. -/
def rnd32 (q : Rat) : Rat := f32 (toF32 q)

/-- A rational rounded to binary16 precision; beyond the largest finite number the nearest is that number (log entry 80). -/
def rnd16 (q : Rat) : Rat := f16 (toF16 (clampR (-65504) 65504 q))

/-! ## Instants -/

/-- A PTIME field (80 bits) as whole nanoseconds (R41). -/
def ptNs (w : Nat) : Nat := (w / 2 ^ 32) * 1000000000 + w % 2 ^ 32

/-- Whole nanoseconds as a PTIME field, seconds wrapping at 48 bits. -/
def nsPt (t : Nat) : Nat := ((t / 1000000000) % 2 ^ 48) * 2 ^ 32 + t % 1000000000

/-- R40: a PTIME whose nanoseconds are 999,999,999 or less. -/
def ptOk (w : Nat) : Bool := decide (w % 2 ^ 32 < 1000000000)

/-- The first 2 ns TIME tick at or after an exact instant given in ns as num / den (R67). -/
def tickAt (num den : Nat) : Nat := 2 * cdiv num (2 * den)

end Sys2Proof.Machine
end

