-- ==== Sys2Proof/Machine/Crc.lean ====
section
/-! DEFINITION. The three CRCs of R16 and GF(2^8) arithmetic of the page code (R537 to R539) and the light code (R535, R536). -/

namespace Sys2Proof.Machine

/-- One bit step of a non-reflected CRC of width w. -/
def crcBit (w poly : Nat) (crc : Nat) (b : Bool) : Nat :=
  let top := crc.testBit (w - 1)
  let sh := (crc * 2) % 2 ^ w
  if top != b then sh ^^^ poly else sh

/-- Bits of a byte, most significant first. -/
def byteBits (b : Byte) : List Bool := [7, 6, 5, 4, 3, 2, 1, 0].map (fun i => b.toNat.testBit i)

/-- A non-reflected CRC over bits, most significant first. -/
def crcBits (w poly : Nat) (init : Nat) (bs : List Bool) : Nat := bs.foldl (crcBit w poly) init

/-- CRC-8/AUTOSAR (R16). -/
def crc8 (bs : List Byte) : Nat := crcBits 8 0x2F 0xFF (bs.flatMap byteBits) ^^^ 0xFF

/-- CRC-8/AUTOSAR over a bit string sent most significant first. -/
def crc8Bits (bs : List Bool) : Nat := crcBits 8 0x2F 0xFF bs ^^^ 0xFF

/-- CRC-16/CCITT-FALSE (R16). -/
def crc16 (bs : List Byte) : Nat := crcBits 16 0x1021 0xFFFF (bs.flatMap byteBits)

/-- One bit step of the reflected CRC-32C. -/
def crc32cBit (crc : Nat) : Nat := if crc.testBit 0 then (crc / 2) ^^^ 0x82F63B78 else crc / 2

/-- CRC-32C of bytes from a running value (no final XOR). -/
def crc32cRun (crc : Nat) (bs : List Byte) : Nat :=
  bs.foldl (fun c b => crc32cBit (crc32cBit (crc32cBit (crc32cBit (crc32cBit (crc32cBit (crc32cBit (crc32cBit (c ^^^ b.toNat))))))))) crc

/-- CRC-32C (Castagnoli) (R16). -/
def crc32c (bs : List Byte) : Nat := crc32cRun 0xFFFFFFFF bs ^^^ 0xFFFFFFFF

/-! ## The FCS of an Ethernet frame -/

/-- One bit step of the reflected CRC-32 of IEEE 802.3. -/
def crc32Bit (crc : Nat) : Nat := if crc.testBit 0 then (crc / 2) ^^^ 0xEDB88320 else crc / 2

/-- CRC-32 of bytes from a running value (no final XOR). -/
def crc32Run (crc : Nat) (bs : List Byte) : Nat :=
  bs.foldl (fun c b => crc32Bit (crc32Bit (crc32Bit (crc32Bit (crc32Bit (crc32Bit (crc32Bit (crc32Bit (c ^^^ b.toNat))))))))) crc

/-- The four FCS bytes that follow a frame's bytes, as IEEE 802.3 sends them (R618, log entry 85). -/
def ethFcs (bs : List Byte) : List Byte := leBytes 4 (crc32Run 0xFFFFFFFF bs ^^^ 0xFFFFFFFF)

/-! ## Records in flash (R16, R449, R642)

The spec gives the records' contents and their CRC-32C, and no layout: here each number is its bytes after their count (log entry 82). -/

/-- A number as its big-endian bytes, after a byte that counts them. -/
def natBytes (n : Nat) : List Byte :=
  let k := Nat.log2 n / 8 + 1
  beBytes 1 k ++ beBytes k n

/-- The rows of objects, by object and row. -/
def rowsBytes (t : List (Nat × List (Nat × List Nat))) : List Byte :=
  t.flatMap (fun o => natBytes o.1 ++ natBytes o.2.length ++
    o.2.flatMap (fun r => natBytes r.1 ++ natBytes r.2.length ++ r.2.flatMap natBytes))

/-! ## The light code (R535, R536) -/

/-- The i-th data code h_i: the (i + 1)-th integer from 3 up that is no power of two. -/
def hCodes : List Nat := (List.range 72).filter (fun n => decide (3 ≤ n) && decide (2 ^ Nat.log2 n ≠ n))

/-- Data code of bit i. -/
def hCode (i : Nat) : Nat := hCodes.getD i 0

/-- Check bits c_0 to c_6 of a data word. -/
def lightLow (d : BitVec 64) : Nat :=
  (List.range 64).foldl (fun c i => if d.getLsbD i then c ^^^ hCode i else c) 0

/-- Parity of a number's low n bits. -/
def parity (n x : Nat) : Bool := (List.range n).foldl (fun p i => p != x.testBit i) false

/-- The check byte of a data word. -/
def lightCheck (d : BitVec 64) : Nat :=
  let c := lightLow d
  if parity 64 d.toNat != parity 7 c then c + 128 else c

/-- Outcomes of a light-code check (R536). -/
inductive LightOutcome where
  | clean
  | checkBit
  | dataBit (i : Nat)
  | uncorrectable
  deriving DecidableEq, Repr

/-- The check of a word and its stored check byte. -/
def lightDecode (d : BitVec 64) (c : Nat) : LightOutcome :=
  let s := lightLow d ^^^ (c % 128)
  let p := parity 64 d.toNat != parity 8 c
  if !p then (if s = 0 then .clean else .uncorrectable)
  else if s = 0 then .checkBit
  else if 2 ^ Nat.log2 s = s then .checkBit
  else match hCodes.findIdx? (· == s) with
    | some i => if i < 64 then .dataBit i else .uncorrectable
    | none => .uncorrectable

/-! ## The page code (R537, R538) -/

/-- Multiply by α in GF(2^8) with 0x11D. -/
def gfX (a : Nat) : Nat := if a < 128 then 2 * a else (2 * a) ^^^ 0x11D

/-- Product in GF(2^8). -/
def gfMul (a b : Nat) : Nat :=
  ((List.range 8).foldl (fun (r, t) i => (if b.testBit i then r ^^^ t else r, gfX t)) (0, a)).1

/-- Coefficients of g(x) = (x + α^0) … (x + α^7) below x^8, highest first. -/
def gfGen : List Nat :=
  let step := fun (p : List Nat) (r : Nat) =>
    (p ++ [0]).zipWith (· ^^^ ·) (0 :: p.map (gfMul r))
  let alphas := (List.range 8).map (fun i => (List.range i).foldl (fun a _ => gfX a) 1)
  (alphas.foldl step [1]).drop 1

/-- The eight check symbols of a lane's 64 data symbols (R538): p_0 to p_7. -/
def pageLane (d : List Nat) : List Nat :=
  d.foldl (fun p x =>
    let f := x ^^^ p.headD 0
    ((p.drop 1) ++ [0]).zipWith (fun a g => a ^^^ gfMul f g) gfGen) (List.replicate 8 0)

/-- One power of x more, modulo g(x): the coefficients of x^7 to x^0. -/
def gfShift (p : List Nat) : List Nat := ((p.drop 1) ++ [0]).zipWith (fun a g => a ^^^ gfMul (p.headD 0) g) gfGen

/-- t[w][0] to t[w][7] (R539): the coefficients of x^(71 - w) mod g(x). -/
def pageCoefs (w : Nat) : List Nat := (List.range (63 - w)).foldl (fun p _ => gfShift p) gfGen

/-- The eight page check words after word w changes from a to b (R539). -/
def pageUpdate (checks : List Nat) (w a b : Nat) : List Nat :=
  let lane := fun (x j : Nat) => x / 2 ^ (8 * j) % 256
  let add := fun (t : Nat) => ((List.range 8).map (fun j => gfMul (lane (a ^^^ b) j) t * 2 ^ (8 * j))).sum
  if a = b then checks else checks.zipWith (fun p t => p ^^^ add t) (pageCoefs w)

end Sys2Proof.Machine
end

