-- ==== Sys2Proof/Config.lean ====
section
/-! DEFINITION. What an implementation fixes and what the spec leaves open. A constant without a body is a free value: no proof
can see what it is, so a claim holds whatever it is. -/

namespace Sys2Proof.Config

/-- A fresh free value for each index: the model's counter `freeIdx` is what it is applied to (log entry 6). -/
opaque freeNat : Nat → Nat

/-- A fresh free signed value for each index (log entry 6). -/
opaque freeInt : Nat → Int

/-- OD 0x1000.03, the identity Adesor put into OTP. -/
opaque uid : BitVec 64

/-- OD 0x1000.02, the silicon stepping. -/
opaque stepping : BitVec 8

/-- REVISION of block n's BLOCK_ID (R490). -/
opaque revision : Nat → BitVec 8

/-- The T0 MAC address; T1, C0 and C1 follow it (R599). -/
opaque macBase : BitVec 48

/-- The Adesor release key in the Boot ROM (R646): the 32 bytes of an Ed25519 public key, the first in the top bits. -/
opaque releaseKey : BitVec 256

/-- Fields of the delivered release's Colophon (R644, log entry 8): VERSION less 1, SECURITY_EPOCH, SETTINGS_FORMAT and
CAL_FORMAT. -/
opaque deliveredVersion : BitVec 16
opaque deliveredEpoch : BitVec 6
opaque deliveredSettings : BitVec 16
opaque deliveredCal : BitVec 16

/-- The error of a transfer function (R149) as a share of its tolerance: transfer, REF_NITS, code. -/
opaque transferError : Nat → Nat → Rat → Rat

/-- The error in codes of an output encoder (R200): transfer, REF_NITS, channel kind, exact value before rounding. -/
opaque encodeError : Nat → Nat → Nat → Rat → Int

/-- The weights of the built-in SMOOTH filter (R155): vertical, source size, destination size, phase, tap. -/
opaque smoothWeight : Bool → Nat → Nat → Nat → Nat → Rat

/-- Which of the free cells the n-th cell taken since reset is (R566, log entry 79). -/
opaque freeCell : Nat → Nat

/-- A word of a Collator row window, whose layout the spec does not give (R22): head, HEADx.FRAME, line of the raster, offset (log
entry 79). -/
opaque rowWindow : Nat → Nat → Nat → Nat → Word

/-- A byte of a Weir or flow context, whose layout the spec does not give (R22, R420): memory (0 Weir, 1 flows), the contexts written
since reset, place in the context (log entry 79). -/
opaque contextByte : Nat → Nat → Nat → Byte

/-- Identification, flags, time to live and UDP checksum of a frame the node originates, as one number: the cells taken before it
(log entry 86). -/
opaque headerFields : Nat → Nat

/-- Words that a head has fetched from an integrity page that is not valid, for one frame: index of free values (R541, log
entry 31). -/
opaque fetchedWords : Nat → Nat

/-- Whether targets that a region takes from its first cycle have the trace level of their sensor: R364 says so, R329 calls them untraced
(log entry 81). -/
opaque takenTraced : Bool

/-- Packing of a record of several fields into Culvert words: object, row, word (log entry 11). -/
opaque culvertWord : Nat → Nat → Nat → List Nat → Word

/-- The reverse of that packing, for a record written by the cores. -/
opaque culvertRecord : Nat → Nat → List Word → List Nat

end Sys2Proof.Config
end

