-- ==== Sys2Proof/Machine/KMap.lean ====
section
/-! DEFINITION. Sparse tables in one canonical form: a list of (key, value) pairs with strictly rising keys and no value
equal to what an unlisted key reads as. Every table of the block, its DRAM and its Vault are held so. -/

namespace Sys2Proof.Machine

/-- A sparse table: keys strictly rising, no value equal to the table's default. -/
abbrev Tbl (α : Type) := List (Nat × α)

/-- The value listed for a key. -/
def tfind {α : Type} : Tbl α → Nat → Option α
  | [], _ => none
  | (k, v) :: m, i => if k = i then some v else tfind m i

/-- Insert or replace. -/
def tins {α : Type} : Tbl α → Nat → α → Tbl α
  | [], i, x => [(i, x)]
  | (k, v) :: m, i, x =>
    if i < k then (i, x) :: (k, v) :: m
    else if i = k then (i, x) :: m
    else (k, v) :: tins m i x

/-- Remove a key. -/
def tdel {α : Type} : Tbl α → Nat → Tbl α
  | [], _ => []
  | (k, v) :: m, i => if k = i then tdel m i else (k, v) :: tdel m i

/-- Read a key: an unlisted one reads as `d`. -/
def tget {α : Type} (d : α) (m : Tbl α) (i : Nat) : α := (tfind m i).getD d

/-- Write a key and keep the canonical form: writing the default removes the entry. -/
def tset {α : Type} [DecidableEq α] (d : α) (m : Tbl α) (i : Nat) (x : α) : Tbl α :=
  if x = d then tdel m i else tins m i x

/-- Every key of the table is above `b`, and keys rise strictly. -/
def tabove {α : Type} : Nat → Tbl α → Bool
  | _, [] => true
  | b, (k, _) :: m => decide (b < k) && tabove k m

/-- Keys rise strictly. -/
def tsorted {α : Type} : Tbl α → Bool
  | [] => true
  | (k, _) :: m => tabove k m

/-- The canonical form of a table with default `d`. -/
def twf {α : Type} [DecidableEq α] (d : α) (m : Tbl α) : Bool := tsorted m && m.all (fun e => decide (e.2 ≠ d))

/-! ## Byte memories -/

/-- A byte memory: an unlisted address reads 0. -/
abbrev Mem := List Host.Cell

/-- Read one byte. -/
def mget (m : Mem) (a : Nat) : Byte := tget 0 m a

/-- Write one byte. -/
def mset (m : Mem) (a : Nat) (b : Byte) : Mem := tset 0 m a b

/-- Write bytes from an address up. -/
def msets : Mem → Nat → List Byte → Mem
  | m, _, [] => m
  | m, a, b :: bs => msets (mset m a b) (a + 1) bs

/-- Read `n` bytes from an address up. -/
def mgets (m : Mem) (a : Nat) : Nat → List Byte
  | 0 => []
  | n + 1 => mget m a :: mgets m (a + 1) n

/-- The canonical form of a byte memory. -/
def Memory.wf (m : Mem) : Bool := twf (0 : Byte) m

end Sys2Proof.Machine
end

