-- ==== Sys2Proof/Machine/Dict.lean ====
section
/-! DEFINITION. The form of the object dictionary (R441 to R448): wire types, fields with their ranges and defaults, access
codes, persistence and shapes, and how a value's bytes are split into fields and checked. An object is numbered index * 256 +
sub-index; a table has the number of its sub-index 0. The dictionary itself is in DictTable.lean. -/

namespace Sys2Proof.Machine

/-- A value, a row or a record in its wire fields: each field as the unsigned number its bytes spell (R443, R444). -/
abbrev Row := List Nat

/-- Wire types (R443); `u` and `i` carry their size in bytes. -/
inductive Ty where
  | bool
  | u (bytes : Nat)
  | i (bytes : Nat)
  | f32
  | ptime
  | octets (n : Nat)
  | text (n : Nat)
  deriving DecidableEq, Repr

/-- Bytes of a wire type (R443). -/
def Ty.size : Ty → Nat
  | .bool => 1
  | .u n => n
  | .i n => n
  | .f32 => 4
  | .ptime => 10
  | .octets n => n
  | .text n => n

/-- Access codes (R446). -/
inductive Acc where
  | ro | rw | wo | rws | c
  deriving DecidableEq, Repr

/-- Persistence (R448): kept in settings, kept in the identity area, or held until reset. -/
inductive Keep where
  | settings | identity | volatile_
  deriving DecidableEq, Repr

/-- Shapes (R441, R445, R443 for DOMAIN). -/
inductive Shape where
  | value
  | rows (n : Nat)
  | upTo (n : Nat)
  | domain
  deriving DecidableEq, Repr

/-- One field: its type, the range its chapter gives it, whether the device ignores what is written, and its default. -/
structure Fld where
  ty   : Ty
  ok   : Nat → Bool
  ro   : Bool
  dflt : Nat

/-- An object. `dflt r` is the default of row `r` (row 0 for a value). -/
structure ObjDef where
  name  : String
  acc   : Acc
  keep  : Keep
  shape : Shape
  flds  : List Fld
  dflt  : Nat → Row

/-! ## Fields -/

/-- A field with every value of its type. -/
def fAny (t : Ty) (d : Nat) : Fld := { ty := t, ok := fun _ => true, ro := false, dflt := d }

/-- An unsigned field of `n` bytes from lo to hi. -/
def fU (n lo hi d : Nat) : Fld := { ty := .u n, ok := fun x => decide (lo ≤ x) && decide (x ≤ hi), ro := false, dflt := d }

/-- An unsigned field with a test of its own. -/
def fUk (n : Nat) (ok : Nat → Bool) (d : Nat) : Fld := { ty := .u n, ok := ok, ro := false, dflt := d }

/-- A signed field of `n` bytes from lo to hi. -/
def fI (n : Nat) (lo hi d : Int) : Fld :=
  { ty := .i n, ok := fun x => decide (lo ≤ toI (8 * n) x) && decide (toI (8 * n) x ≤ hi), ro := false, dflt := ofI (8 * n) d }

/-- A binary32 field from lo to hi; each limit is the binary32 number nearest it (log entry 9). -/
def fF (lo hi d : Rat) : Fld :=
  { ty := .f32, ok := fun x => decide (rnd32 lo ≤ f32 x) && decide (f32 x ≤ rnd32 hi), ro := false, dflt := toF32 d }

/-- A binary32 field with every finite value. -/
def fFany (d : Rat) : Fld := fAny .f32 (toF32 d)

def u8 (d : Nat) : Fld := fAny (.u 1) d
def u16 (d : Nat) : Fld := fAny (.u 2) d
def u32 (d : Nat) : Fld := fAny (.u 4) d
def u64 (d : Nat) : Fld := fAny (.u 8) d
def fB (d : Nat) : Fld := fAny .bool d
def fPt : Fld := fAny .ptime 0
def fOct (n d : Nat) : Fld := fAny (.octets n) d
def i16 (d : Int) : Fld := fI 2 (-32768) 32767 d
def i32 (d : Int) : Fld := fI 4 (-2147483648) 2147483647 d
def i64 (d : Int) : Fld := fI 8 (-9223372036854775808) 9223372036854775807 d

/-- The same field, ignored when written. -/
def Fld.asRo (f : Fld) : Fld := { f with ro := true }

/-! ## Objects -/

def defaults (fs : List Fld) : Row := fs.map (·.dflt)

/-- A single value (or a record without sub-index). -/
def oVal (name : String) (a : Acc) (fs : List Fld) : ObjDef :=
  { name := name, acc := a, keep := if a = .rws then .settings else .volatile_, shape := .value, flds := fs, dflt := fun _ => defaults fs }

/-- A value kept in the identity area. -/
def oId (name : String) (fs : List Fld) : ObjDef :=
  { name := name, acc := .c, keep := .identity, shape := .value, flds := fs, dflt := fun _ => defaults fs }

/-- A table of a fixed row count. -/
def oTbl (name : String) (a : Acc) (n : Nat) (fs : List Fld) : ObjDef :=
  { name := name, acc := a, keep := if a = .rws then .settings else .volatile_, shape := .rows n, flds := fs, dflt := fun _ => defaults fs }

/-- A table of up to `n` rows (R445). -/
def oUpTo (name : String) (a : Acc) (n : Nat) (fs : List Fld) : ObjDef :=
  { name := name, acc := a, keep := if a = .rws then .settings else .volatile_, shape := .upTo n, flds := fs, dflt := fun _ => defaults fs }

/-- A DOMAIN object. -/
def oDom (name : String) (a : Acc) : ObjDef :=
  { name := name, acc := a, keep := .volatile_, shape := .domain, flds := [], dflt := fun _ => [] }

/-- The same object in the identity area. -/
def ObjDef.inIdentity (d : ObjDef) : ObjDef := { d with keep := .identity }

/-- The same object with defaults by row. -/
def ObjDef.withRows (d : ObjDef) (f : Nat → Row) : ObjDef := { d with dflt := f }

/-- Bytes of one row or value. -/
def rowBytes (fs : List Fld) : Nat := (fs.map (fun f => f.ty.size)).sum

/-! ## Splitting and checking -/

/-- R443: bytes before the first 0x00 are well-formed UTF-8 and every byte after it is 0x00. -/
def utf8Ok : List Byte → Bool
  | [] => true
  | b :: bs =>
    let x := b.toNat
    if x = 0 then bs.all (· == 0)
    else if x < 0x80 then utf8Ok bs
    else if x < 0xC2 then false
    else if x < 0xE0 then
      match bs with
      | c :: r => decide (c.toNat / 64 = 2) && utf8Ok r
      | _ => false
    else if x < 0xF0 then
      match bs with
      | c :: d :: r =>
        decide (c.toNat / 64 = 2) && decide (d.toNat / 64 = 2) &&
        (x != 0xE0 || decide (0xA0 ≤ c.toNat)) && (x != 0xED || decide (c.toNat < 0xA0)) && utf8Ok r
      | _ => false
    else if x < 0xF5 then
      match bs with
      | c :: d :: e :: r =>
        decide (c.toNat / 64 = 2) && decide (d.toNat / 64 = 2) && decide (e.toNat / 64 = 2) &&
        (x != 0xF0 || decide (0x90 ≤ c.toNat)) && (x != 0xF4 || decide (c.toNat < 0x90)) && utf8Ok r
      | _ => false
    else false

/-- The check of R443 for a wire type. -/
def tyOk : Ty → Nat → Bool
  | .bool, x => decide (x ≤ 1)
  | .f32, x => f32Finite x
  | .ptime, x => ptOk x
  | .text n, x => utf8Ok (beBytes n x)
  | _, _ => true

/-- Split a value's bytes into its fields. -/
def splitFields : List Fld → List Byte → Row
  | [], _ => []
  | f :: fs, bs => beNat (bs.take f.ty.size) :: splitFields fs (bs.drop f.ty.size)

/-- The bytes of a row (R444). -/
def joinFields : List Fld → Row → List Byte
  | [], _ => []
  | f :: fs, [] => beBytes f.ty.size 0 ++ joinFields fs []
  | f :: fs, x :: xs => beBytes f.ty.size x ++ joinFields fs xs

/-- R447 step 4: each field in range. A field the device ignores is not checked. -/
def rowInRange : List Fld → Row → Bool
  | [], _ => true
  | _ :: _, [] => false
  | f :: fs, x :: xs => (f.ro || (tyOk f.ty x && f.ok x)) && rowInRange fs xs

/-- A row as it will be held: a field the device ignores keeps what the old row holds. -/
def mergeRow : List Fld → Row → Row → Row
  | [], _, _ => []
  | f :: fs, old, new => (if f.ro then old.headD f.dflt else new.headD f.dflt) :: mergeRow fs old.tail new.tail

end Sys2Proof.Machine
end

