-- ==== Sys2Proof/Machine/DictA.lean ====
section
/-! DEFINITION. The object dictionary, first part: identity, sessions and keys, Polder and twins, time, ports and pool, Weir,
integrity, update, power and the event and access counters (R83, R440, R486, R530, R563, R587, R624, R671, R701 and the object
table of the twins' chapter). -/

namespace Sys2Proof.Machine

/-- A row of unsigned 64-bit counters. -/
def cnt64 (n : Nat) : List Fld := List.replicate n (u64 0)

/-- Identity and communication objects (R486). -/
def dictIdentity : List (Nat × ObjDef) := [
  (0x100001, oVal "SILICON_ID" .ro [u32 0x50477420]),
  (0x100002, oVal "STEPPING" .ro [u8 0]),
  (0x100003, oVal "UID" .ro [fOct 8 0]),
  (0x100004, oVal "COLOPHON_VERSION" .ro [u32 0]),
  (0x100005, oVal "BOOT_COUNT" .ro [u32 0]),
  (0x100006, oVal "RESET_CAUSE" .ro [u8 0]),
  (0x100101, oVal "DEVICE_NAME" .rws [fAny (.text 32) 0]),
  (0x100102, oId "ASSET_TAG" [fAny (.text 32) 0]),
  (0x100201, oVal "SETTINGS_FORMAT" .ro [u16 0]),
  (0x100202, oVal "SETTINGS_STATE" .ro [u8 0]),
  (0x100203, oVal "LAST_SAVE" .ro [fPt]),
  (0x110001, oId "EOP_UDP_PORT" [fU 2 1024 65535 48120]),
  (0x110002, oId "OPEN_ALLOWED" [fB 1]),
  (0x110003, oVal "SESSION_IDLE_S" .rws [fU 2 5 3600 60]),
  (0x110004, oId "EOP_PORTS" [fU 1 0 15 0x0F]),
  (0x110101, oId "NODE_IP" [u32 0]),
  (0x110102, oId "NETMASK" [u32 0]),
  (0x110103, oId "GATEWAY" [u32 0]),
  (0x111000, oTbl "KEY" .c 8 [fB 0, fOct 32 0]),
  (0x111100, oVal "PROVISION_KEY" .wo [fOct 32 0]),
  (0x111200, oTbl "KEY_STATUS" .ro 8 [fB 0, fOct 4 0, u64 0, u64 0]),
  (0x112000, oVal "EVENT_SUBSCRIBE" .rw [fOct 16 0]),
  (0x112100, oTbl "SESSIONS" .ro 64 [u16 0xFFFF, u8 0, u32 0, u16 0, fPt, fOct 16 0, u32 0]),
  (0x400000, oTbl "EVENT_COUNTS" .ro 128 [u32 0]),
  (0x400100, oTbl "ACCESS_COUNTERS" .ro 1 (cnt64 6)),
  (0x411000, oTbl "EOP_COUNTERS" .ro 1 (cnt64 14 ++ [u32 0, u16 0])),
  (0x500000, oVal "RESET" .c [fUk 1 (· == 0x5A) 0]),
  (0x500100, oVal "SETTINGS_DEFAULT" .c [fB 0])]

/-- Polder and twin objects (the object table of *Twins and Failover*). -/
def dictTwin : List (Nat × ObjDef) := [
  (0x120001, oId "NODE_ID" [fU 1 0 63 0]),
  (0x120002, oId "POLDER_SIZE" [fU 1 1 64 1]),
  (0x121001, oId "TWIN_ENABLE" [fB 0]),
  (0x121002, oId "PARTNER_ID" [fU 1 0 63 0]),
  (0x121003, oId "RANK" [fU 1 2 127 2]),
  (0x121004, oId "PRIMARY" [fB 0]),
  (0x121005, oVal "TWIN_QUIRES" .rws [u16 0xFFFF]),
  (0x121006, oId "PARTNER_IP" [u32 0]),
  (0x121007, oVal "HEARTBEAT_MS" .rws [fU 2 5 100 10]),
  (0x121008, oVal "CHAIN_MISSES" .rws [fU 1 2 10 3]),
  (0x121009, oVal "MISMATCH_FRAMES" .rws [fU 1 1 60 3]),
  (0x12100A, oVal "JOIN_FRAMES" .rws [fU 2 10 3600 120]),
  (0x12100B, oVal "JOIN_TIMEOUT_S" .rws [fU 2 10 3600 60]),
  (0x12100C, oVal "REVERT_HOLD_S" .rws [fU 2 10 3600 60]),
  (0x12100D, oVal "DEMOTE_HOLD_S" .rws [fU 2 1 3600 10]),
  (0x12100E, oId "HEARTBEAT_KEY_SLOT" [fUk 1 (fun x => decide (x ≤ 7) || x == 0xFF) 0xFF]),
  (0x121100, oVal "TWIN_STATUS" .ro [u8 0, u8 0, u8 0, u8 0, u8 0, u8 0, fB 0, u8 0, fPt, fPt]),
  (0x121200, oTbl "QUIRE_COMPARE" .ro 16 [u16 0, u32 0, u32 0, u16 0, u8 0, u8 0, u8 0]),
  (0x412000, oTbl "TWIN_COUNTERS" .ro 1 (cnt64 12)),
  (0x502000, oVal "DEMOTE" .c [fB 0]),
  (0x502100, oVal "HANDOVER_AT" .c [fPt]),
  (0x502200, oVal "REJOIN" .c [fB 0])]

/-- A domain's objects: base 0x1301 or 0x1302 (R83). -/
def dictDomain (b number enable : Nat) : List (Nat × ObjDef) := [
  (b * 256 + 0x01, oVal "DOMAIN_NUMBER" .rws [fU 1 0 127 number]),
  (b * 256 + 0x02, oVal "ENABLE" .rws [fB enable]),
  (b * 256 + 0x03, oVal "PORT_MASK" .rws [fU 1 0 15 0x0F]),
  (b * 256 + 0x04, oVal "TRANSPORTS" .rws [fU 1 0 3 0x03]),
  (b * 256 + 0x05, oVal "ANNOUNCE_TIMEOUT" .rws [fU 1 2 10 3]),
  (b * 256 + 0x06, oVal "SERVO_STATE" .ro [u8 0]),
  (b * 256 + 0x07, oVal "OFFSET" .ro [i64 0]),
  (b * 256 + 0x08, oVal "FREQ_PPB" .ro [i32 0]),
  (b * 256 + 0x09, oVal "MEAN_PATH_NS" .ro [u32 0]),
  (b * 256 + 0x0A, oVal "GM_IDENTITY" .ro [fOct 8 0]),
  (b * 256 + 0x0B, oVal "SOURCE_PORT" .ro [u8 0xFF])]

/-- A pulse row (R70); the range of NUM/DEN and of WIDTH_NS is the check of Time.lean. -/
def pulseFlds : List Fld :=
  [fU 1 0 2 0, fU 1 0 1 0, fPt, u32 0, u32 0, u32 0, u32 0, (u8 0).asRo]

/-- A capture row (R80, R41); the width of its edge and node state: log entry 78. -/
def captureFlds : List Fld := [fPt, u16 0, u8 0, u8 0]

/-- Time objects (R83). -/
def dictTime : List (Nat × ObjDef) := [
  (0x130001, oVal "NODE_TIME" .ro [fPt]),
  (0x130002, oVal "NODE_STATE" .ro [u8 0]),
  (0x130003, oVal "SELECTED_DOMAIN" .ro [u8 0]),
  (0x130004, oVal "SLEW_BOUND_PPM" .rws [fU 1 1 100 10]),
  (0x130005, oVal "DOMAIN_MODE" .rws [fU 1 0 3 2]),
  (0x130006, oVal "REVERT_ENABLE" .rws [fB 1]),
  (0x130007, oVal "REVERT_HOLD_S" .rws [fU 2 1 3600 60]),
  (0x130008, oVal "HOLDOVER_LIMIT_S" .rws [fU 4 10 86400 300]),
  (0x130009, oVal "SWITCH_AT" .c [fU 1 0 1 0, fPt]),
  (0x13000A, oVal "SWITCH_RESULT" .ro [u8 0])] ++
  dictDomain 0x1301 0 1 ++ dictDomain 0x1302 1 0 ++ [
  (0x130300, oVal "DOMAIN_DIFF" .ro [i64 0]),
  (0x131000, oTbl "PULSE" .rw 8 pulseFlds),
  (0x132000, oTbl "CAPTURE_EDGES" .rws 4 [fU 1 0 3 0]),
  (0x132100, oUpTo "CAPTURE_TSI0" .ro 16 captureFlds),
  (0x132200, oUpTo "CAPTURE_TSI1" .ro 16 captureFlds),
  (0x132300, oUpTo "CAPTURE_TSI2" .ro 16 captureFlds),
  (0x132400, oUpTo "CAPTURE_TSI3" .ro 16 captureFlds),
  (0x413001, oVal "STEPS" .ro [u32 0]),
  (0x413002, oVal "DOMAIN_SWITCHES" .ro [u32 0]),
  (0x413003, oVal "PTP_DROPPED" .ro [u64 0]),
  (0x413004, oVal "PULSES_MISSED" .ro [u32 0]),
  (0x413005, oVal "CAPTURE_OVERFLOWS" .ro [u32 0]),
  (0x413006, oVal "CAPTURE_GLITCHES" .ro [u32 0])]

/-- A port row (R623). The columns of other blocks are named there; FEC defaults to 2 on a trunk and reads 0 on a chain port
(log entry 10). -/
def portFlds : List Fld := [
  fU 1 0 1 0, fU 1 0 2 2, fB 1, fU 2 1518 9600 9600, fUk 2 (fun x => decide (x ≤ 4095) || x == 0xFFFF) 0xFFFF,
  fU 1 0 7 6, fU 1 0 7 0, fB 1, fB 0, fU 2 0 16384 2048, fU 2 0 16384 3072, fU 2 1 65535 65535, fB 1, fU 1 0 7 3]

/-- Defaults of a port's row: FEC 0 on the chain ports. -/
def portDflt (p : Nat) : Row := (defaults portFlds).set 1 (if p < 2 then 2 else 0)

/-- Rows of OD 0x1430 (R577). -/
def queueDflt (q : Nat) : Row :=
  if q < 32 then [2, 16, 512] else if q < 48 then [0, 32, 256] else if q < 64 then [0, 32, 1024] else [0, 0, 256]

/-- Port and pool objects (R587, R624). -/
def dictPorts : List (Nat × ObjDef) := [
  (0x141000, (oTbl "PORT" .rws 4 portFlds).withRows portDflt),
  (0x141100, oTbl "PORT_ENABLE" .rws 4 [fU 1 0 1 1]),
  (0x141200, oTbl "PORT_STATE" .ro 4 [u8 0, fB 0, fB 0, fB 0, fPt]),
  (0x141300, oUpTo "STATIC_MCAST" .rws 32 [fOct 6 0, fU 1 0 15 0]),
  (0x141400, oVal "RING_OWNER" .rws [fB 0]),
  (0x141500, oTbl "WAKE_PATTERN" .rws 4 [fB 0, fU 1 1 128 1, fOct 16 0, fOct 128 0]),
  (0x141600, oVal "RING_STATUS" .ro [u8 0, fPt, u32 0]),
  (0x141700, oTbl "MAC_ADDRESS" .ro 4 [fOct 6 0]),
  (0x143000, (oTbl "POOL_QUEUE" .rws 512 [fU 1 0 38 0, u16 0, fU 2 1 16384 256]).withRows queueDflt),
  (0x143100, oTbl "POOL_LEVEL" .ro 512 [u16 0, u16 0, u16 0]),
  (0x143200, oVal "POOL_LOW_WATER" .rws [fU 2 0 16384 1024]),
  (0x415000, oTbl "POOL_COUNTERS" .ro 512 (cnt64 6)),
  (0x416000, oTbl "PORT_COUNTERS" .ro 4 (cnt64 24))]

/-- Weir objects (R440). -/
def dictWeir : List (Nat × ObjDef) := [
  (0x300001, oVal "HOST_FREE" .ro [u16 960]),
  (0x300002, oVal "EDGES_FREE" .ro [u16 4096]),
  (0x300003, oVal "PREEMPT_LEVEL" .rws [fU 1 1 8 6]),
  (0x300100, oDom "SUBMIT" .wo),
  (0x300200, oVal "CANCEL" .wo [u32 0]),
  (0x301000, oTbl "TASK" .ro 1024 [u32 0, u8 0, u8 0, u8 0, u8 0, u8 0, u8 0, u8 0, fPt, fPt]),
  (0x301100, oTbl "COMPLETION_LOG" .ro 256 [u32 0, u8 0, fPt]),
  (0x301200, oTbl "DOMAIN_STATUS" .ro 256 [u32 0, u16 0]),
  (0x301300, oTbl "CORE_STATUS" .ro 6 [u32 0, u8 0, fPt]),
  (0x430000, oTbl "WEIR_COUNTERS" .ro 1 (cnt64 11))]

/-- Memory integrity objects (R563). -/
def dictInteg : List (Nat × ObjDef) := [
  (0x310000, (oTbl "REGION" .c 8 [u64 0, u64 0]).inIdentity),
  (0x310100, oTbl "REGION_ACTIVE" .ro 8 [u64 0, u64 0]),
  (0x310200, oVal "SCRUB_PASS_DRAM_S" .rws [fU 4 1 86400 60]),
  (0x310300, oVal "SCRUB_PASS_VAULT_S" .rws [fU 4 1 86400 10]),
  (0x310400, oVal "RATE_LIMIT" .rws [u32 1000]),
  (0x311000, oUpTo "ERROR_LOG" .ro 16 [u8 0, u64 0, u8 0, u8 0, u32 0, fPt, fPt]),
  (0x311100, oVal "LOG_CLEAR" .wo [fB 0]),
  (0x311200, oVal "LAST_UNCORRECTABLE" .ro [u8 0, u64 0, u8 0, fPt, u32 0]),
  (0x311300, oTbl "SCRUB_STATUS" .ro 2 [u32 0, u32 0, fPt, u32 0]),
  (0x312000, oVal "DRAM_INFO" .ro [u64 0, u64 0, u8 0, fB 0]),
  (0x431000, oTbl "INTEG_COUNTERS" .ro 2 (cnt64 8)),
  (0x431100, oTbl "GIVE_WAY" .ro 10 [u64 0])]

/-- A safe-look row (R639). -/
def safeLookFlds : List Fld := [
  fB 0, fU 2 1 4096 1, fUk 1 (fun x => decide (8 ≤ x) && decide (x ≤ 128) && x % 8 == 0) 64, u16 16384, fOct 16 0]

/-- Boot, update and power objects (R671, R701). -/
def dictBoot : List (Nat × ObjDef) := [
  (0x320000, oVal "UPDATE_STATUS" .ro [u8 0, u32 0, u16 0, u16 0, u16 0, u8 0, u8 0, u8 0, u8 0, u8 0, u32 0, fPt, u8 0]),
  (0x320100, oVal "DOWNLOAD" .c [fUk 4 (· != 0) 0, fU 2 2 14336 0, fB 0]),
  (0x320200, oVal "VERIFY" .c [fB 0]),
  (0x320300, oVal "VERIFY_RESULT" .ro [u8 0, u8 0, u32 0]),
  (0x320400, oVal "PREPARE" .c [u32 0, fPt]),
  (0x320500, oVal "COMMIT" .c [fB 0]),
  (0x320600, oVal "ABORT" .c [fB 0]),
  (0x320700, oVal "CONFIRM" .c [fB 0]),
  (0x320800, oVal "CONFIRM_MODE" .rws [fU 1 0 1 0]),
  (0x320900, oVal "CONFIRM_HOLD_S" .rws [fU 2 1 590 60]),
  (0x320A00, oTbl "SLOTS" .ro 2 [u32 0, u16 0, u16 0, u16 0, u8 0, u32 0]),
  (0x321000, (oTbl "SAFE_LOOK" .c 256 safeLookFlds).inIdentity),
  (0x322000, oVal "BROWNOUT_RETRY_S" .rws [fU 2 1 3600 2]),
  (0x322100, oVal "RETAIN" .rw [fOct 16 0]),
  (0x432000, oTbl "BOOT_COUNTERS" .ro 1 (cnt64 15)),
  (0x433000, oVal "DIE_TEMP" .ro [fFany 0, fFany 0]),
  (0x433100, oTbl "RAILS" .ro 10 [u16 0, u16 0, u32 0]),
  (0x500200, oVal "STANDBY" .c [fB 0]),
  (0x500300, oVal "HIBERNATE" .c [u32 0])]

end Sys2Proof.Machine
end

