-- ==== Sys2Proof/Machine/DictB.lean ====
section
/-! DEFINITION. The object dictionary, second part: ingest and the flow table, layers and heads (the object
tables of those chapters). -/

namespace Sys2Proof.Machine

/-! ## Ingest (R84, R98, R99, R105, R106, R121, R132) -/

def flowFlds : List Fld :=
  [fU 1 0 6 0, fU 1 0 15 0, fUk 2 (fun x => decide (x ≤ 4095) || x == 0xFFFF) 0, u16 0, u32 0, u32 0, u16 0, fU 2 0 511 0, u16 0]

def folioFlds : List Fld :=
  [fUk 8 (fun x => x % 256 == 0) 0, fUk 4 (fun x => decide (64 ≤ x) && decide (x ≤ 65536) && x % 64 == 0) 0,
   fU 2 1 8192 0, fU 2 1 4320 0, fU 1 0 5 0, u8 0xFF]

def ringFlds : List Fld := [fU 1 1 4 1, fU 1 0 127 0, fU 1 0 127 0, fU 1 0 127 0, fU 1 0 127 0]

def videoFlds : List Fld :=
  [fU 2 16 8192 1920, fU 2 16 4320 1080, fU 1 0 2 0, fU 1 0 1 0, fU 1 0 1 0,
   fUk 1 (fun x => (decide (96 ≤ x) && decide (x ≤ 127)) || x == 0xFF) 0xFF, fU 1 0 31 0, u32 1, u32 60, fU 4 0 100000 5000, fB 0]

def dictIngest : List (Nat × ObjDef) := [
  (0x140000, oTbl "FLOW" .rws 4096 flowFlds),
  (0x140100, oTbl "FLOW_ENABLE" .rws 4096 [fU 1 0 1 0]),
  (0x140200, oTbl "FLOW_STATE" .ro 4096 [u8 0]),
  (0x140300, oTbl "FLOW_REASON" .ro 4096 [u8 0]),
  (0x200000, oTbl "VIDEO" .rws 8 videoFlds),
  (0x200100, oTbl "UNIVERSE" .rws 256 [fU 2 1 63999 1, fU 1 0 1 0, fB 1]),
  (0x201000, oTbl "FENCE" .rw 256 [u32 0]),
  (0x201100, oTbl "FENCE_PRODUCER" .ro 256 [u8 0]),
  (0x202000, oTbl "FOLIO" .rws 128 folioFlds),
  (0x202100, oTbl "RING" .rws 32 ringFlds),
  (0x202200, oTbl "RING_HISTORY" .ro 128 [fB 0, u32 0, u32 0, fPt, fPt]),
  (0x203000, oTbl "UNIVERSE_STATUS" .ro 256 [u8 0, fB 1, fOct 16 0, u8 0, u16 0]),
  (0x414001, oVal "UNMATCHED" .ro [u64 0]),
  (0x414002, oVal "IP_ERRORS" .ro [u64 0]),
  (0x414003, oVal "UDP_CHECKSUM" .ro [u64 0]),
  (0x414100, oTbl "FLOW_COUNTERS" .ro 4096 (cnt64 11)),
  (0x420001, oVal "FRAMES_COMPLETE" .ro [u64 0]),
  (0x420002, oVal "FRAMES_INCOMPLETE" .ro [u64 0]),
  (0x420003, oVal "RING_FULL" .ro [u64 0]),
  (0x420004, oVal "YIELDS" .ro [u64 0])]

/-! ## Layers (R140, R141, R169) -/

/-- A layer row; row n's Z defaults to n, and GANG is 1 only on V0, V2, V4 and V6 (Layer checks). -/
def layerFlds : List Fld :=
  [fU 1 0 2 0, fB 0, fU 1 0 31 0, fU 1 0 1 0, fU 1 0 127 0, fU 1 0 31 0, u8 0xFF, u32 0,
   fU 2 0 8191 0, fU 2 0 4319 0, fU 2 1 8192 1920, fU 2 1 4320 1080, fI 2 (-8192) 8191 0, fI 2 (-8192) 8191 0,
   fU 2 1 8192 1920, fU 2 1 4320 1080, fU 1 0 3 2, fU 2 48 10000 203, fU 1 0 2 0, fU 1 0 2 0, fU 2 0 32768 32768, fB 0] ++
  [fU 2 0 1024 0, fU 2 0 1024 0, fU 2 0 1024 0, fU 2 0 1024 0, fU 2 0 1024 0, fU 2 0 1024 0,
   fU 1 0 3 2, fU 1 0 3 2, fB 0]

def layerDflt (n : Nat) : Row := (defaults layerFlds).set 2 n

def composeFlds : List Fld := [fU 1 0 1 0, fF 0 65504 0, fF 0 65504 0, fF 0 65504 0]

/-- Bilinear weights of phase k (R155), in units of 2^-14: horizontally on taps 3 and 4, vertically on taps 2 and 3 (R154). -/
def coeffDflt (r : Nat) : Row :=
  let k := r % 64
  let a := (64 - k) * 256
  let b := k * 256
  if (r / 64) % 2 = 0 then [0, 0, 0, a, b, 0, 0, 0] else [0, 0, a, b, 0, 0, 0, 0]

/-- A row of nine binary32 numbers, identity by default. -/
def matrixFlds (lim : Rat) : List Fld :=
  let f := fun d => fF (-lim) lim d
  [f 1, f 0, f 0, f 0, f 1, f 0, f 0, f 0, f 1]

def dictLayers : List (Nat × ObjDef) := [
  (0x210000, (oTbl "LAYER_STAGED" .rw 32 layerFlds).withRows layerDflt),
  (0x210100, (oTbl "LAYER_ACTIVE" .ro 32 layerFlds).withRows layerDflt),
  (0x210200, oTbl "LAYER_STATUS" .ro 32 [u8 0, u8 0xFF, u16 32768, u16 0xFFFF, u32 0]),
  (0x210300, (oTbl "SCALER_COEFF" .rw 1024 (List.replicate 8 (i16 0))).withRows coeffDflt),
  (0x210400, oTbl "LAYER_MATRIX" .rw 32 (matrixFlds 8)),
  (0x211000, oTbl "COMPOSE_STAGED" .rw 2 composeFlds),
  (0x211100, oTbl "COMPOSE_ACTIVE" .ro 2 composeFlds),
  (0x212000, oTbl "FETCH_ESTIMATE" .ro 2 [u32 0, u32 0, u32 0]),
  (0x421000, oTbl "LAYER_REJECTS" .ro 2 (List.replicate 8 (u32 0))),
  (0x421101, oVal "OVER_BUDGET_COMMITS_A" .ro [u32 0]),
  (0x421102, oVal "OVER_BUDGET_COMMITS_B" .ro [u32 0])]

/-! ## Heads (R170, R195, R201, R207, R220) -/

def timingFlds : List Fld :=
  [fUk 2 (fun x => decide (64 ≤ x) && decide (x ≤ 8192) && x % 4 == 0) 1920,
   fUk 2 (fun x => decide (96 ≤ x) && decide (x ≤ 16384) && x % 4 == 0) 2200,
   fU 2 64 4320 1080, fU 2 72 8187 1125, u32 1, u32 60, fPt, fU 4 0 999999 128000, fU 1 1 64 2]

def freezeFlds : List Fld := [fB 0, fU 2 0 8191 0, fU 2 0 4319 0, fU 2 1 8192 64, fU 2 1 4320 64, u8 0, fU 1 1 255 3]

def egressFlds : List Fld :=
  [fU 1 0 1 0, fU 2 0 8191 0, fU 2 0 4319 0, fU 2 1 8192 1920, fU 2 1 4320 1080, fU 1 0 2 0, fU 1 0 1 0, fU 1 1 3 2,
   fU 2 48 10000 203, fOct 6 0, fUk 4 (fun x => x != 0) 0xEF010101, fU 2 1 65535 5004, fU 2 1 65535 5004,
   fUk 2 (fun x => decide (x ≤ 4095) || x == 0xFFFF) 0xFFFF, fU 1 0 7 5, fU 1 0 63 34, fU 1 0 7 5, fU 1 96 127 96, u32 0,
   fU 1 0 1 0]

/-- A writeback row; R207 gives no default of REF_NITS, X and Y: log entry 16. -/
def writebackFlds : List Fld := [fU 1 0 31 0, u16 0, u16 0, fU 1 0 3 2, u16 203]

def dictHeads : List (Nat × ObjDef) := [
  (0x220000, oTbl "TIMING_STAGED" .rw 2 timingFlds),
  (0x220100, oTbl "TIMING_ACTIVE" .ro 2 timingFlds),
  (0x220200, oTbl "HEAD_ENABLE" .rw 2 [fU 1 0 1 0]),
  (0x220300, oTbl "HEAD_STATE" .ro 2 [u8 0]),
  (0x220400, oTbl "COMMIT_ARM" .wo 2 [fU 1 0 1 0]),
  (0x220500, oTbl "COMMIT_STATUS" .ro 2 [u8 0, u16 0xFFFF, u16 0xFFFF, u8 0, u32 0]),
  (0x220600, oTbl "CADENCE_LOCK" .ro 2 [fB 0, i32 0, fI 1 (-128) 127 0, i32 0]),
  (0x221000, oTbl "FREEZE_REGION" .rw 16 freezeFlds),
  (0x221100, oTbl "FREEZE_STATUS" .ro 16 [u32 0, u8 0, fB 0]),
  (0x222000, oTbl "EGRESS" .rw 2 egressFlds),
  (0x222100, oTbl "EGRESS_ENABLE" .rw 2 [fU 1 0 1 0]),
  (0x222200, oTbl "EGRESS_STATE" .ro 2 [u8 0]),
  (0x223000, oTbl "WRITEBACK" .rw 2 writebackFlds),
  (0x223100, oTbl "WRITEBACK_ENABLE" .rw 2 [fU 1 0 1 0]),
  (0x223200, oTbl "WRITEBACK_STATE" .ro 2 [u8 0]),
  (0x422000, oTbl "HEAD_COUNTERS" .ro 2 (cnt64 12))]

end Sys2Proof.Machine
end

