-- ==== Sys2Proof/Machine/DictC.lean ====
section
/-! DEFINITION. The object dictionary, third part: collation, Quires and strands, light control, the Gauge and calibration (R222,
R236, R250, R292, R293, R303, R304, R318, R324, R333, R347, R361, R372). -/

namespace Sys2Proof.Machine

/-! ## Collation (R222, R236, R250) -/

def mult64 (x : Nat) : Bool := x % 64 == 0

def mapFlds : List Fld := [fUk 8 mult64 0, fUk 8 mult64 0, fU 4 0 1048576 0]

def layoutFlds : List Fld :=
  [fU 1 1 8 3, fU 1 0 2 2, fB 1, fU 1 0 1 0, fF (1 / 16) 4 1, fF (1 / 16) 4 1, fF (1 / 16) 4 1, fF 0 1 1,
   fU 1 0 4 0, fU 1 0 4 1, fU 1 0 4 2, fU 1 0 4 3, fU 1 0 4 4, fU 1 0 4 4, fU 1 0 4 4, fU 1 0 4 4] ++ List.replicate 8 (fU 1 0 15 0)

/-- Default of entry i of a LUT (R240): round(65,535 i / 4095), ties up. -/
def lutDflt (r : Nat) : Row := [(2 * 65535 * (r % 4096) + 4095) / 8190]

def dictColl : List (Nat × ObjDef) := [
  (0x230000, oTbl "MAP_STAGED" .rw 2 mapFlds),
  (0x230100, oTbl "MAP_ACTIVE" .ro 2 mapFlds),
  (0x230200, oTbl "LAYOUT" .rws 256 layoutFlds),
  (0x230300, (oTbl "OUTPUT_LUT" .rws 65536 [u16 0]).withRows lutDflt),
  (0x230400, oVal "CLIP_LIMIT" .rws [u32 0]),
  (0x230500, oTbl "QUIRE_COLLATION" .ro 16 [u8 0, u32 0, fPt]),
  (0x423000, oTbl "COLL_COUNTERS" .ro 2 (cnt64 10)),
  (0x423100, oTbl "LEAD_MISSES" .ro 16 [u32 0])]

/-! ## Quires and strands (R292, R293, R303) -/

def quireFlds : List Fld :=
  [fU 1 0 1 0, fU 1 1 8 1, fU 1 0 4 0, fU 1 0 7 4, fB 1, fB 1, fUk 2 (fun x => x &&& 0xFE01 == 0) 0x00B4, u16 0]

def runBits (x : Nat) : Bool := decide (8 ≤ x) && decide (x ≤ 128) && x % 8 == 0

def strandFlds : List Fld :=
  [fU 2 1 4096 1, fU 2 0 4096 1, fU 2 0 4096 0, fU 2 0 4096 0, fU 2 0 4096 0, fUk 1 runBits 64, fUk 1 runBits 64, fUk 1 runBits 64,
   fUk 1 runBits 64, fU 1 0 1 1, u16 0]

def dictQuire : List (Nat × ObjDef) := [
  (0x240000, oTbl "QUIRE" .rws 16 quireFlds),
  (0x240100, oTbl "STRAND" .rws 256 strandFlds),
  (0x240200, oTbl "QUIRE_MODE" .rws 16 [fU 1 0 2 0]),
  (0x240300, oTbl "QUIRE_STATE" .ro 16 [u8 0]),
  (0x240400, oVal "CAMEG_COMMAND" .wo [fU 1 0 15 0, u16 0, u8 0, fB 0, fB 0, u16 0, u32 0]),
  (0x240500, oVal "ENUMERATE" .wo [fU 1 0 15 0, u8 0, u16 0]),
  (0x240600, oTbl "ENUM_RESULT" .ro 256 [u8 4, u16 0, u16 0]),
  (0x240700, oTbl "QUIRE_STATUS" .ro 16 [u16 0, fPt, u32 0, fB 0]),
  (0x240800, oTbl "DRIVER_TELEMETRY" .ro 1048576 [u16 0, u16 0, u8 0, u8 0, u16 0, u16 0, u16 0]),
  (0x240900, oVal "TELEMETRY_BASE" .rws [fUk 8 mult64 0]),
  (0x240A00, oTbl "WIRE_STATUS" .ro 256 [u16 0, u32 0]),
  (0x240B00, oVal "COMMAND_SHARE_BASE" .rws [fUk 8 mult64 0]),
  (0x240C00, oTbl "COMMAND_SHARES" .rw 1048576 [u32 0]),
  (0x424000, oTbl "QUIRE_COUNTERS" .ro 16 (cnt64 5)),
  (0x424100, oTbl "STRAND_COUNTERS" .ro 256 (cnt64 5))]

/-! ## Light and the Gauge (R304, R318, R324, R333, R347) -/

def fadeFlds : List Fld := [fU 1 0 4 0, u8 0, fU 1 0 3 0, fU 1 0 1 0, u16 0, u16 0, fPt, fU 4 0 86400000 1000, fB 0]

def derateFlds : List Fld :=
  [fB 0, fU 1 0 2 0, fU 1 32 47 32, fU 1 0 1 0, u16 65535, fF 20 150 70, fF 0 20 2, fF 5 100 40, fF 0 20 2, fF (1 / 10) 100 1,
   fU 4 100 60000 5000]

/-- A binary32 field of at least 0. -/
def fFpos (d : Rat) : Fld := { ty := .f32, ok := fun x => decide (0 ≤ f32 x), ro := false, dflt := toF32 d }

def regionFlds : List Fld :=
  [fB 0, u8 0, fU 1 0 1 0, fU 1 0 31 0, fU 2 0 4095 0, fF (5 / 100) 1 (1 / 2), fU 2 4 1024 16, fU 2 1 3600 60,
   fF (1 / 10000) (1 / 100) (2 / 1000), fF 0 (1 / 100) (5 / 10000), fF (1 / 4) 1 (1 / 2), fF 1 4 2, fFpos 0, fFpos 0, fFpos 0]

def gaugeFlds : List Fld :=
  [fU 1 0 4 0, fU 1 0 4 4, fU 2 1 1000 100, fF 100 1000000 10000, fF 100 1000000 10000, fF 1000 10000 3435, fF 1 100 1, fB 0,
   fFany 0, fFany 0]

/-- Nine finite binary32 numbers, identity by default. -/
def baseFlds : List Fld := [fFany 1, fFany 0, fFany 0, fFany 0, fFany 1, fFany 0, fFany 0, fFany 0, fFany 1]

def dictLight : List (Nat × ObjDef) := [
  (0x250000, oTbl "FADE" .rw 256 fadeFlds),
  (0x250100, oTbl "FADE_ARM" .rw 256 [fU 1 0 1 0]),
  (0x250200, oTbl "FADE_STATUS" .ro 256 [u8 0, u8 0, u16 0, u16 0, fPt]),
  (0x251000, oTbl "QUIRE_MASTER" .rws 16 [fU 2 0 32768 32768]),
  (0x251100, oTbl "STRAND_MASTER" .rws 256 [fU 2 0 32768 32768]),
  (0x251200, oTbl "MASTER_EFFECTIVE" .ro 256 [fFany 1, fFany 1, fFany 1]),
  (0x253000, oTbl "DERATE" .rws 256 derateFlds),
  (0x253100, oTbl "DERATE_STATUS" .ro 256 [fFany 0, fFany 0, fFany 1, fFany 1, u16 65535, fB 1]),
  (0x254000, oTbl "REGION" .rws 256 regionFlds),
  (0x254100, oTbl "REGION_GAIN" .rws 256 [u16 32768]),
  (0x254200, oTbl "REGION_BASE" .rws 256 baseFlds),
  (0x254300, oTbl "REGION_STATUS" .ro 256 [u8 0, u8 0, fFany 1, fFany 1, fFany 1, fFany 0, fFany 0, fFany 0, fPt]),
  (0x254400, oTbl "REGION_RESET" .wo 256 [u8 0]),
  (0x256000, oVal "SHORT_TEST" .wo [u16 0]),
  (0x256100, oUpTo "SHORT_RESULT" .ro 1024 [u8 0, u8 0, u8 0]),
  (0x256200, oUpTo "EXTRA_ADJACENCY" .rws 64 [u8 0, u8 0]),
  (0x256300, oVal "SHORT_ACTION" .rws [fU 1 0 1 1]),
  (0x256400, oTbl "QUARANTINE" .rw 256 [fB 0]),
  (0x257000, oUpTo "EMITTER_FAULTS" .ro 1024 [u8 0, u16 0, u8 0, u8 0, fPt, fPt]),
  (0x257100, oVal "FAULT_CLEAR" .wo [fB 0]),
  (0x260000, oTbl "GAUGE_CHANNEL" .rws 48 gaugeFlds),
  (0x260100, oTbl "GAUGE_VALUE" .ro 48 [i32 0, fFany 0, fFany 0, u8 0, u8 0]),
  (0x260200, oVal "GA_REF_VOLTS" .rws [fF 1 (3 / 2) (5 / 4)]),
  (0x425000, oTbl "LIGHT_COUNTERS" .ro 1 (cnt64 8)),
  (0x426000, oTbl "GAUGE_COUNTERS" .ro 48 (cnt64 5))]

/-! ## Calibration (R361, R372) -/

def calPinFlds : List Fld :=
  [fU 1 0 1 1, fU 1 0 1 1, fI 2 (-2000) 2000 0, fI 2 (-2000) 2000 0, fU 1 0 63 0, fU 1 0 63 0, fU 1 0 31 17, fU 1 0 15 8]

def sessionFlds : List Fld := [fU 1 0 1 0, fU 1 0 1 0, u8 0, fU 1 0 2 0, fFany 0, fU 4 1 4294967295 1, u32 0, fU 2 100 10000 100]

def dictCal : List (Nat × ObjDef) := [
  (0x261000, oTbl "CAL_PIN" .rws 256 calPinFlds),
  (0x261100, oTbl "CAL_PIN_STATUS" .ro 256 [u8 0, u8 0, u8 17, u8 8, fFany 40, fFany 40, i16 0, i16 0, u8 0, u8 0, u32 0, fPt]),
  (0x261200, oVal "PASS_INTERVAL_S" .rws [fU 2 10 3600 60]),
  (0x261300, oVal "REFT_STATUS" .ro [fB 0, i32 0, u32 0, fPt]),
  (0x261400, oVal "REFT_DECLARATION" .rws [u32 0, u32 0]),
  (0x262000, oVal "REF_SESSION" .wo sessionFlds),
  (0x262100, oVal "REF_READING" .wo [fFany 0]),
  (0x262200, oVal "REF_CANCEL" .wo [fB 0]),
  (0x262300, oTbl "SENSOR_GAIN" .ro 288 [fFany 1, u8 0, u32 0, u32 0, fPt]),
  (0x262400, oTbl "SENSOR_GAIN_RESET" .wo 288 [u8 0]),
  (0x262500, oVal "GA_REF_ID" .rws [u32 0]),
  (0x262600, oTbl "REGION_TRACE" .ro 256 [u8 0, u8 0, u32 0]),
  (0x263000, oVal "CAL_STORE_STATUS" .ro [u16 0, u8 2, fPt]),
  (0x263100, oVal "CAL_STORE_SAVE" .wo [fB 0]),
  (0x427000, oTbl "CAL_COUNTERS" .ro 1 (cnt64 9))]

end Sys2Proof.Machine
end

