-- ==== Sys2Proof/Machine/DictTable.lean ====
section
/-! DEFINITION. The whole object dictionary, and what an object's row reads as when nothing has been written to it. -/

namespace Sys2Proof.Machine

/-- Every object of the dictionary but the register windows and the diagnostics range. -/
def dict : List (Nat × ObjDef) :=
  dictIdentity ++ dictTwin ++ dictTime ++ dictPorts ++ dictWeir ++ dictInteg ++ dictBoot ++
    dictIngest ++ dictLayers ++ dictHeads ++ dictColl ++ dictQuire ++ dictLight ++ dictCal

/-- The object with number `o`. -/
def objDef (o : Nat) : Option ObjDef := (dict.find? (fun e => e.1 == o)).map (fun e => e.2)

/-- The row number under which a growing table keeps its row count (R445). -/
def cntRow : Nat := 2 ^ 32

/-- Default of row `r` of object `o`. -/
def dfltRow (o r : Nat) : Row :=
  if r = cntRow then [0]
  else match objDef o with
    | some d => d.dflt r
    | none => []

end Sys2Proof.Machine
end

