-- ==== Sys2Proof/Machine/State.lean ====
section
/-! DEFINITION. The state of the block, as plain data, and the state after reset.

The value of every object of the dictionary, its status and its counters live in `od`, keyed by object number (index * 256 +
sub-index) and row: that table is where a reader finds every register-like value the spec names, at the number the spec gives it.
What has no object of its own (queues, work in progress, latched rows, clocks, pads) is held in the structures below.
Instants named PT are node time in whole nanoseconds, instants named `elapsed` are nanoseconds since VAON rose. Rules cited are
those of spec/. -/

namespace Sys2Proof.Machine

/-- Reasons a step can stop with a fault. No meaning of this model faults: the block reports every error in its own
registers, events and answers, and goes on. The type is closed and has this one constructor. -/
inductive Fault where
  /-- raised by no command; safe, since it never happens -/
  | none_
  deriving DecidableEq, Repr

/-- Reasons a step can refuse a command. -/
inductive Refusal where
  /-- raised by the dispatch of a command that has no meaning yet; safe: nothing is claimed of it -/
  | notModelled (mnemonic : String)
  deriving DecidableEq, Repr

/-! ## Clocks and power -/

/-- The clocks. `rem` and `rate` belong to the conversion of elapsed time into node time. -/
structure Clock where
  /-- ns since VAON rose, on the node's own oscillator -/
  elapsed : Nat
  /-- node time in units of 2^-16 ns since PT 0 (R39) -/
  node    : Nat
  /-- the remainder of the rate division, in 10^-9 of a unit -/
  rem     : Nat
  /-- rate of node time against XIN in ppb: the selected servo's FREQ_PPB plus the slew (R56) -/
  rate    : Int
  /-- the timebase of heads and Quires less node time, in 10^-9 of a unit: 0 unless node time has been WITHDRAWN (R64) -/
  tb      : Int
  /-- rate of a detached timebase less that of node time, in ppb (R64) -/
  tbRate  : Int
  deriving DecidableEq, Repr

/-- Power states (R28). -/
inductive PowerState where
  | run | berm | standby | hibernate | off
  deriving DecidableEq, Repr

/-- BOOT.STATUS.SERVICE (R666). -/
inductive Service where
  | bootRom | berm | full
  deriving DecidableEq, Repr

/-- An entry into LINK STANDBY or HIBERNATE in progress (R32, R632, R633). -/
inductive Entry where
  | standby
  | hibernate (timer : Option Nat)
  | brownout (timer : Nat)
  deriving DecidableEq, Repr

/-- Sources of a wake, as AON.CAUSE.WAKE_SOURCE codes them (R668). -/
inductive WakeSource where
  | pin | timer | pattern (i : Nat)
  deriving DecidableEq, Repr

/-- Power, reset and the always-on logic's pad overrides. -/
structure Power where
  state     : PowerState
  service   : Service
  /-- the internal reset is asserted in every domain but AON -/
  inReset   : Bool
  /-- a request of cause 2 to 6 is recorded and its reset not yet asserted (R626) -/
  requested : Bool
  /-- a request has been recorded and the reset it leads to is not yet released (R627) -/
  recording : Bool
  /-- elapsed ns of the recorded request (R627) -/
  requestAt : Nat
  /-- RESET_N is held low (R626) -/
  pinLow    : Bool
  /-- elapsed ns at which RESET_N rises, when it is known -/
  pinUntil  : Nat
  /-- PWR_EN and LINK_EN (R677) -/
  pwrEn     : Bool
  linkEn    : Bool
  /-- elapsed ns at which PWR_EN was asserted (R678) -/
  pwrEnAt   : Nat
  /-- entry into LINK STANDBY or HIBERNATE in progress -/
  entry     : Option Entry
  /-- a brownout found during a reset, to be entered after it, with its wake timer in seconds (R682) -/
  brownoutDue : Option Nat
  /-- a wake trigger latched during an entry (R32) -/
  wakeLatch : Option WakeSource
  /-- strand quench override (R630, R631) -/
  quenched  : Bool
  /-- pins that a Quire has driven since the quench, bit s for ST s (R631) -/
  driven    : Nat
  /-- Dike pads overridden to static differential 0 (R382) -/
  dikeOverride : Bool
  /-- elapsed ns at which the wake timer expires (R632) -/
  wakeTimer : Option Nat
  /-- elapsed ns of the last watchdog restart, and whether event 5 has been raised since (R629) -/
  watchdogAt : Nat
  warned    : Bool
  /-- the C0 wake-pattern detector's rows, copied at entry (R617) -/
  detector  : List Row
  /-- elapsed ns of the last reset release -/
  releasedAt : Nat
  deriving DecidableEq, Repr

/-- The AON registers and the cause record (R667 to R670). -/
structure Aon where
  cause      : Nat
  also       : Nat
  entry      : Nat
  wakeFrom   : Nat
  wakeSource : Nat
  /-- AON.CAUSE_INFO and AON.CAUSE_ADDR: the uncorrectable page -/
  memory     : Nat
  source     : Nat
  addr       : Nat
  /-- PT of the integrity record and the BOOT_COUNT it was made under (OD 0x3112) -/
  recordAt   : Nat
  recordBoot : Nat
  /-- the copies of AON.CAUSE, AON.CAUSE_INFO and AON.CAUSE_ADDR that reads are served from (R667) -/
  copyCause  : Nat
  copyInfo   : Nat
  copyAddr   : Nat
  /-- the retention latch, AON.RETAIN0 to AON.RETAIN3 -/
  retain     : List Word
  deriving DecidableEq, Repr

/-! ## Flash and OTP -/

/-- What a firmware slot holds (R641, R644). -/
inductive SlotImage where
  /-- never programmed since its last erase -/
  | empty
  /-- the release the part is delivered with: it passes every check of R647 (log entry 8) -/
  | delivered
  /-- blocks programmed by a transfer, by block number, with the block count the transfer named -/
  | blocks (count : Nat) (held : Tbl (List Byte))
  deriving DecidableEq, Repr

/-- The boot record (R642). -/
structure BootRecord where
  active   : Nat
  /-- 0 A, 1 B, 0xFF none -/
  pending  : Nat
  trials   : Nat
  result   : Nat
  /-- 0 none, 1 PREPARED, 2 COMMITTED -/
  phase    : Nat
  version  : Nat
  /-- AT as a PTIME field; 0 means at commit -/
  at_      : Nat
  erases0  : Nat
  erases1  : Nat
  /-- CRC-32C of the journaled record (R642) -/
  crc      : Nat
  deriving DecidableEq, Repr

/-- One journaled settings copy (R449). -/
structure SettingsCopy where
  /-- CRC-32C over the contents (R449) -/
  crc    : Nat
  format : Nat
  seq    : Nat
  vals   : Tbl (Tbl Row)
  deriving DecidableEq, Repr

/-- A key slot of the key store: its key (none when empty) and its two checkpoints (R470, R473). -/
structure KeySlot where
  key : List Byte
  rxK : Nat
  txK : Nat
  deriving DecidableEq, Repr

/-- The calibration store in flash (R366): the object rows it carries, by object number and row. -/
structure CalStore where
  /-- CRC-32C of the journal record (R16, R367) -/
  crc    : Nat
  format : Nat
  vals   : Tbl (Tbl Row)
  /-- STRAND cycles, TDC bins and REF_ID of the last REFT measurement -/
  reft   : Option (Nat × List Nat × Nat)
  deriving DecidableEq, Repr

/-- Everything flash and OTP keep across every reset and power loss. -/
structure Flash where
  slotA     : SlotImage
  slotB     : SlotImage
  boot      : BootRecord
  settings0 : SettingsCopy
  settings1 : SettingsCopy
  /-- stored values of the identity-area objects (R448) -/
  identity  : Tbl (Tbl Row)
  keys      : Tbl KeySlot
  cal       : CalStore
  bootCount : Nat
  /-- RESETS_CAUSE1 to RESETS_CAUSE7 of OD 0x4320, keyed by cause -/
  resets    : Tbl Nat
  /-- the OTP provisioning key of slot 0 (R472) and the OTP security floor (R660) -/
  otpKey    : List Byte
  otpFloor  : Nat
  deriving DecidableEq, Repr

/-! ## Time -/

/-- A best Announce held for a port, with its domainNumber, its transport and the PT of its receipt (R47, R56). -/
structure PortAnnounce where
  data : Announce
  dom  : Nat
  l2   : Bool
  at_  : Nat
  deriving DecidableEq, Repr

/-- A two-step Sync waiting for its Follow_Up (R45). -/
structure PendingSync where
  port : Nat
  seq  : Nat
  rx   : Nat
  deriving DecidableEq, Repr

/-- The internals of one of the two servos (R48 to R57). Its state, offset, frequency, path delay, grandmaster and source port
are OD 0x1301 or OD 0x1302. -/
structure Servo where
  /-- PT of entry into the state -/
  since     : Nat
  best      : Tbl PortAnnounce
  /-- frequency estimates made in LOCKED with their PT, newest first (R49) -/
  lockedFreqs : List (Nat × Int)
  /-- consecutive filtered offsets within 100 ns, and beyond 1 us (R48) -/
  good      : Nat
  far       : Nat
  missed    : Nat
  /-- PT of the next expected Sync, once one has been received -/
  expected  : Option Nat
  twoStep   : Option PendingSync
  /-- the servo has had a master since reset (R56) -/
  hadMaster : Bool
  /-- logarithm of the Delay_Req interval (R45), and the request in flight: port, sequence and, once it has left the pins, its
  transmit timestamp (R42) -/
  delayLog  : Int
  delaySeq  : Nat
  delayTx   : Option (Nat × Nat × Option Nat)
  delayNext : Option Nat
  /-- one-way delay master to slave measured at the last Sync, in ns: receive PT minus origin (R45) -/
  lastSync  : Option Int
  /-- the master's time at the last offset estimate, in 2^-16 ns, and `elapsed` there (R56) -/
  prev      : Option (Int × Nat)
  deriving DecidableEq, Repr

/-- A pulse output's running state (R70 to R76). Its STATE code is the row's own field. -/
structure Pulse where
  /-- index k of the current period window -/
  k       : Nat
  emitted : Nat
  /-- the output is at its active level -/
  active  : Bool
  /-- the row in force while it runs or drains -/
  row     : Row
  /-- a row written while the pulse runs or drains waits for the end of the period (R74, R75) -/
  waiting : Bool
  /-- the Weir task that armed the row -/
  task    : Option Nat
  deriving DecidableEq, Repr

/-- The TIME block. -/
structure Time where
  servoA   : Servo
  servoB   : Servo
  stepped  : Bool
  everLocked : Bool
  far      : Bool
  /-- slew bound in force (R53) -/
  slewPpm  : Nat
  /-- offset still to be removed by slew, in 10^-9 of 2^-16 ns (R52), and the elapsed ns at which its removal began -/
  toSlew   : Int
  slewFrom : Nat
  /-- the timed switch: target and PT (R61) -/
  switchAt : Option (Nat × Nat)
  /-- PT since which the preferred servo has been LOCKED without a break (R59) -/
  preferSince : Option Nat
  /-- the level that ends at the next edge of an input lasts less than 8 ns (R78) -/
  glitch   : Tbl Bool
  /-- the snapshot, in 2^-16 ns (R43) -/
  snap     : Nat
  pulses   : Tbl Pulse
  /-- capture rows of each input, oldest first (R79, R80) -/
  captures : Tbl (List Row)
  deriving DecidableEq, Repr

/-! ## Event unit, SYS and the host port -/

/-- The event unit (R511 to R530). Bit e of `cause` and `enable` is event e; the counts of OD 0x4000 are in `od`. -/
structure Evt where
  cause  : BitVec 128
  enable : BitVec 128
  /-- EVT.ROUTE0 to EVT.ROUTE31, by register number; default 0x10101010 -/
  route  : Tbl Word
  raises : Nat
  /-- for an event raised at most once a window: the last window it was raised in, plus 1 -/
  windows : Tbl Nat
  deriving DecidableEq, Repr

/-- States of the JTAG test access port (R695: IEEE 1149.1). -/
inductive Tap where
  | reset | idle
  | selectDr | captureDr | shiftDr | exit1Dr | pauseDr | exit2Dr | updateDr
  | selectIr | captureIr | shiftIr | exit1Ir | pauseIr | exit2Ir | updateIr
  deriving DecidableEq, Repr

/-- SYS registers (R519 to R522), and the test access port. -/
structure Sys where
  /-- the JTAG port; TRST_N is low or open in operation, which holds it in reset with the IDCODE register selected (R695) -/
  tap       : Tap
  apbase    : Word
  lockReg   : Word
  /-- SYS.LOCK has been written since reset (R521) -/
  lockWritten : Bool
  lockViolation : Bool
  windowMiss : Bool
  hspiFail  : Bool
  missCount : Nat
  lockAddr  : Word
  missAddr  : Word
  failAddr  : Word
  lateAddr  : Word
  deriving DecidableEq, Repr

/-- A block's Culvert window (R506 to R510): its address, the rest of the record copied by a read of its first word, the
record words held by a write, and the PENDING flag. -/
structure Culvert where
  addr    : Nat
  hold    : List (Nat × Word)
  wheld   : List (Nat × Word)
  pending : Bool
  /-- `elapsed` until which a commit in a slow domain goes on (R497, R506) -/
  commit  : Nat := 0
  deriving DecidableEq, Repr

/-- The HSPI target (R491 to R498) and the three counter shadows (R505). -/
structure Hspi where
  ready    : Bool
  ignored  : Bool
  late     : Bool
  busError : Bool
  busy     : Bool
  /-- posted writes still to complete: (address, word) -/
  posted   : List (Word × Word)
  /-- address of the late fetch in progress -/
  fetching : Option Word
  /-- the read buffer: (address, word) -/
  buffer   : List (Word × Word)
  /-- words returned by the last read transaction, and the status byte last returned -/
  readData : List Word
  statusOut : Nat
  shadowHspi   : Word
  shadowCore   : Word
  shadowWindow : Word
  /-- the word returned by the last access of the core and of the window path -/
  coreData   : Word
  windowData : Word
  culverts : Tbl Culvert
  deriving DecidableEq, Repr

/-! ## EOP -/

/-- An answer kept for a request ID (R459): op, status, handle and the data after the ACK prefix. -/
structure Answer where
  op     : Nat
  status : Nat
  handle : Nat
  data   : List Byte
  deriving DecidableEq, Repr

/-- A session (R462 to R464, R477, R478). -/
structure Session where
  open_   : Bool
  /-- key slot of a sealed session, 0xFF for an open one -/
  slot    : Nat
  gen     : Nat
  mac     : Nat
  vid     : Nat
  port    : Nat
  ip      : Nat
  udp     : Nat
  /-- PT of the last request that passed step 6, or of the HELLO -/
  last    : Nat
  mask    : Nat
  evSeq   : Nat
  /-- events delivered in the current millisecond window: PT of the first, and the bits -/
  evAt    : Nat
  evBits  : Nat
  /-- later millisecond windows whose EVENT has not gone out either: PT of the first event, and the bits, oldest first (R13) -/
  evRest  : List (Nat × Nat) := []
  /-- the last 16 distinct request IDs with their answers, newest first -/
  answers : List (Nat × Answer)
  deriving DecidableEq, Repr

/-- Kinds of frames the node originates or relays (R604, R606). -/
inductive TxKind where
  | eop | heartbeat | arp | delayReq | egress | relay | imageRelay | ringProbe | pause
  deriving DecidableEq, Repr

/-- A frame the node originates, handed to a transmit queue: its kind, addresses and payload bytes. For a relayed frame the
bytes are the whole frame. -/
structure TxFrame where
  kind   : TxKind
  dstMac : Nat
  dstIp  : Nat
  dstUdp : Nat
  vid    : Nat
  pcp    : Nat
  bytes  : List Byte
  /-- raster egress: source UDP port and DSCP (R201) -/
  srcUdp : Nat := 0
  dscp   : Nat := 0
  /-- the frame ended with the complement of its FCS (R573) -/
  badFcs : Bool := false
  deriving DecidableEq, Repr

/-- A sealed message held until its transmit checkpoint is stored (R470): the slot, its counter, the port and the unsealed
frame. -/
structure HeldTx where
  slot  : Nat
  port  : Nat
  frame : TxFrame
  /-- the device's REPLY task that sends it, 0 for none (R416) -/
  task  : Nat := 0
  deriving DecidableEq, Repr

/-- The EOP engine and the mailbox; its counters are OD 0x4110. -/
structure Eop where
  sessions    : Tbl Session
  /-- receive high-water mark H and transmit counter T of each key slot (R468, R469) -/
  rxHigh   : Tbl Nat
  txCount  : Tbl Nat
  /-- checkpoint stores in progress: slot and the value to be stored (R470) -/
  rxStore  : Tbl Nat
  txStore  : Tbl Nat
  held     : List HeldTx
  /-- millisecond in which a port last sent an unsealed failure answer, plus 1 (R454) -/
  failMs   : Tbl Nat
  /-- EOP.HOST_REQ and EOP.HOST_RSP by byte offset -/
  hostReq  : Mem
  hostRsp  : List Byte
  hostBusy : Bool
  hostDone : Bool
  /-- the mailbox's last 16 request IDs with their answers (R459) -/
  hostAnswers : List (Nat × Answer)
  /-- PT by which a changed RWS value must be saved (R449) -/
  saveDue   : Option Nat
  /-- RWS objects changed since the last save -/
  dirty     : List Nat
  /-- the answer most recently given to a request or a write, whoever made it (the model's own record, log entry 13) -/
  lastAnswer : Answer
  deriving DecidableEq, Repr

/-! ## Weir -/

/-- A successor edge: the successor's handle and its policy (R413). -/
structure Edge where
  dst        : Nat
  propagate : Bool
  deriving DecidableEq, Repr

/-- A task slot (R404 to R416): a live task, or a free slot with the handle and status of its last task. -/
structure Task where
  /-- handle (generation << 10) | slot of the last allocation, 0 before the first -/
  handle : Nat
  /-- 0 FREE, 1 WAITING, 2 READY, 3 RUNNING -/
  state  : Nat
  /-- status of the retained completion -/
  status : Nat
  cls    : Nat
  prio   : Nat
  domain : Nat
  counter : Nat
  /-- session slot 0-63, 0xFE HSPI, 0xFF device -/
  createdBy : Nat
  /-- session ID for the COMPLETE, 0xFFFF none -/
  session : Nat
  flags  : Nat
  gate   : Nat
  deadline : Nat
  fence  : Nat
  fenceVal : Nat
  params : List Byte
  readyAt : Nat
  doneAt : Nat
  /-- creation order and the order of becoming READY -/
  seq    : Nat
  rseq   : Nat
  /-- the task has been dispatched (and perhaps pre-empted since) -/
  dispatched : Bool
  /-- created by an operation answered ACCEPTED (R433) -/
  accepted : Bool
  edges  : List Edge
  /-- a predecessor failed it in a cycle in which a cancel for it was still to come (R424) -/
  failDue : Bool := false
  deriving DecidableEq, Repr

/-- A control core's task (R419, OD 0x3013): its handle, 0 when idle, priority and the PT since which it runs. -/
structure CoreRun where
  handle : Nat
  prio   : Nat
  since  : Nat
  order  : Nat
  deriving DecidableEq, Repr

/-- A part of the Vault with its hidden storage: bytes, valid bits and light check bytes by 64-bit word, page check words by page
(R531, R535, R538), each counted from the start of the part. -/
structure Ram where
  bytes : Mem := []
  valid : Tbl Bool := []
  light : Tbl Nat := []
  pages : Tbl (List Nat) := []
  deriving DecidableEq, Repr

/-- The Weir; its counters are OD 0x4300. -/
structure Weir where
  slots   : Tbl Task
  /-- next host slot not yet used since reset, and the freed ones, longest first (R406) -/
  fresh   : Nat
  freed   : List Nat
  seq     : Nat
  rseq    : Nat
  cores   : Tbl CoreRun
  /-- completion queue, oldest first: handle and status (R434) -/
  cq      : List (Nat × Nat)
  cqOverflow : Bool
  /-- completion log, newest first: handle, status, PTIME (OD 0x3011) -/
  log     : List Row
  /-- the Weir context save area of the Vault (R22, R420), and the contexts saved since reset -/
  saved   : Ram := {}
  saves   : Nat := 0
  deriving DecidableEq, Repr

/-! ## Ports and pool -/

/-- A packet of a pool queue (R564 to R570). -/
structure Packet where
  cells   : Nat
  /-- the cells it occupies, in order (R564; which free cell is taken: log entry 79) -/
  place   : List Nat
  /-- stored bytes of a received frame -/
  bytes   : List Byte
  /-- a frame to be sent -/
  tx      : Option TxFrame
  flow    : Nat
  rxAt    : Nat
  aborted : Bool
  deriving DecidableEq, Repr

/-- A port's state beyond its objects (R591 to R610, R622). -/
structure Port where
  /-- an enable is latched during a drain (R593) -/
  latched  : Bool
  drainAt  : Nat
  /-- PT at which the partner's pause window ends (R608) -/
  pausedUntil : Nat
  /-- a window has begun and its end has not been taken -/
  paused   : Bool
  /-- MODE, FEC and MAX_FRAME in force (R591) -/
  mode     : Nat
  fec      : Nat
  autoneg  : Nat
  maxFrame : Nat
  /-- pause frames waiting for the next frame boundary: their quanta (R610) -/
  pauseTx  : List Nat
  /-- PT at which the generated pause is due again -/
  pauseAgain : Nat
  /-- last frame sent on the wire, with the PT of its start -/
  wire     : Option (Nat × TxFrame)
  deriving DecidableEq, Repr

/-- The ring owner's detector (R616). -/
structure Ring where
  last     : Option Nat
  /-- PT of the first probe of the unbroken run -/
  firstRun : Option Nat
  seq      : Nat
  nextSend : Nat
  deriving DecidableEq, Repr

/-- The four ports and the cell pool. -/
structure Net where
  ports   : Tbl Port
  ring    : Ring
  queues  : Tbl (List Packet)
  /-- POOL.LAST_FAULT (R585): none, or kind and queue -/
  lastFault : Option (Nat × Nat)
  poolDrops : Nat
  /-- cells taken since reset (the model's own: it numbers the free choice of a cell, log entry 79) -/
  cellSeq   : Nat
  /-- the cells' part of the Vault (R22, R564) -/
  cells     : Ram := {}
  deriving DecidableEq, Repr

/-! ## Memory integrity and DRAM -/

/-- A scrubber (R547 to R549); NEXT_PAGE, PASSES, LAST_PASS and BEHIND_PAGES are OD 0x3113. -/
structure Scrub where
  running : Bool
  pages   : Nat
  /-- pass period in force -/
  passS   : Nat
  /-- PT of the next visit, and its remainder -/
  nextAt  : Nat
  rem     : Nat
  deriving DecidableEq, Repr

/-- The integrity unit and the DRAM controller. -/
structure Integ where
  /-- valid bits of the Vault's 64-bit words, keyed by word number; default false (R541) -/
  vvalid  : Tbl Bool
  /-- light check bytes of the Vault's words, by word number, and the eight page check words of its pages, by page (R535, R538) -/
  vlight  : Tbl Nat
  vpages  : Tbl (List Nat)
  /-- the error log, oldest LATEST anywhere (R551) -/
  log     : List Row
  /-- memory, address and PT of each correction logged in the last 2 s, whether or not the log still holds it (R389) -/
  recent  : List (Nat × Nat × Nat)
  light   : Nat
  page    : Nat
  scrubV  : Scrub
  scrubD  : Scrub
  /-- corrections of the current second: second, count (R552) -/
  rateAt  : Nat
  rateN   : Nat
  /-- DRAM: TRAINING code, installed GiB, trained channels, refresh code, windows with a give-way (R562) -/
  training : Nat
  gib     : Nat
  channels : Nat
  refresh : Nat
  giveway : Nat
  /-- page whose decode has failed: memory and address (R553) -/
  failed  : Option (Nat × Nat) := none
  /-- the last arbitration window that fell short: rank and bytes served of each demand (R555) -/
  served  : List (Nat × Nat) := []
  /-- rank 10 was served nothing in the latest window that fell short; the telemetry records that wait for it, by row
  of OD 0x2408: frame index, type and value (R557) -/
  bulkHeld : Bool := false
  teleWait : Tbl Row := []
  deriving DecidableEq, Repr

/-! ## Update -/

/-- A transfer of an image into the inactive slot (R648 to R652). -/
structure Transfer where
  id      : Nat
  blocks  : Nat
  relay   : Bool
  /-- blocks programmed -/
  held    : List Nat
  /-- blocks complete and being programmed, with their data and the failures so far -/
  programming : Tbl (List Byte × Nat)
  /-- incomplete blocks: the SHA-256 named and the fragments held -/
  partials : Tbl (List Byte × Tbl (List Byte))
  /-- PT of the last accepted fragment -/
  last    : Nat
  handle  : Nat
  deriving DecidableEq, Repr

/-- Boot and update state; the rest is the boot record in flash and OD 0x3200 to 0x3203. -/
structure Update where
  /-- BOOT.STATUS.UPDATE -/
  state    : Nat
  transfer : Option Transfer
  /-- handle of a running VERIFY -/
  verifyHandle : Nat
  /-- version of a VERIFIED slot -/
  verifiedVersion : Nat
  /-- the slot full service runs from: 0 A, 1 B -/
  running  : Nat
  fallback : Bool
  /-- 0 none, 1 trial running, 2 last trial reverted (R666) -/
  trial    : Nat
  /-- PT of the start of full service -/
  serviceAt : Nat
  /-- a revert has been journaled and event 14 is due (R659) -/
  reverted : Bool
  /-- PT at which a deferred Leader activates (R658), once its partner's beat has fixed it -/
  deferAt  : Option Nat
  /-- the partner has restarted since AT (R658) -/
  partnerBack : Bool
  /-- COMMITTED since this reset, not before it (R657) -/
  commitNow : Bool := false
  /-- saves held until confirmation (R662) -/
  heldSettings : Bool
  heldCal  : Bool
  deriving DecidableEq, Repr



/-! ## Ingest -/

/-- A video frame being received (R113 to R118). -/
structure VFrame where
  ts      : Nat
  firstAt : Nat
  lastAt  : Nat
  /-- extended sequence numbers received -/
  seqs    : List Nat
  /-- sequence number of the marker packet -/
  marker  : Option Nat
  /-- ring entry being filled; none when no Folio qualified (R104) -/
  entry   : Option Nat
  pixels  : Nat
  deriving DecidableEq, Repr

/-- A flow beyond its objects. -/
structure Flow where
  latched  : Bool
  frame    : Option VFrame
  /-- timestamp of the newest closed frame -/
  closedTs : Option Nat
  /-- sequence number that the next frame begins at, when the last marker was received (R116) -/
  nextSeq  : Option Nat
  /-- fences to be advanced for complete frames (R117) -/
  advances : List Nat
  /-- PT of the latest FRAME_INCOMPLETE, RING_FULL or INGEST_YIELD (R389 bit 4) -/
  badAt    : Option Nat
  /-- the row of a flow that still drains after SETTINGS_DEFAULT has returned its settings row to the default (log entry 39) -/
  held     : Row := []
  deriving DecidableEq, Repr

/-- A live source of a universe (R123). -/
structure Source where
  cid  : Nat
  prio : Nat
  seq  : Nat
  last : Nat
  deriving DecidableEq, Repr

/-- A universe row beyond OD 0x2030 (R125 to R130). -/
structure Universe_ where
  sources : List Source
  /-- sync address the back copy is staged on -/
  staged  : Option Nat
  /-- Force_Synchronization of the latest packet -/
  force   : Bool
  /-- PT of the latest entry into LOSS or change of the followed source (R389 bit 6) -/
  changedAt : Option Nat
  deriving DecidableEq, Repr

/-- A synchronisation address (R129). -/
structure SyncAddr where
  last : Option Nat
  lost : Bool
  deriving DecidableEq, Repr

/-- The latest change of a fence (R97): the instant in 10^-9 of 2^-16 ns of the timebase, and the value before that instant. -/
structure FenceEdge where
  at_    : Int
  before : Nat
  deriving DecidableEq, Repr

/-- Ingest. -/
structure Ingest where
  /-- the latest change of each fence since reset -/
  edges     : Tbl FenceEdge
  flows     : Tbl Flow
  /-- ring entry last selected, plus 1 (R103) -/
  ringLast  : Tbl Nat
  universes : Tbl Universe_
  syncs     : Tbl SyncAddr
  /-- the flow contexts' part of the Vault (R22), and the contexts written since reset -/
  contexts  : Ram := {}
  writes    : Nat := 0
  deriving DecidableEq, Repr

/-! ## Heads -/

/-- A commit (R137, R184): what it copied, and how far it has come. -/
structure Commit where
  id     : Nat
  timing : Row
  compose : Row
  /-- copied staged rows by layer number -/
  layers : Tbl Row
  /-- layers whose staged ALPHA is carried (R139) -/
  alphas : List Nat
  /-- Folio rows named in mode FOLIO, held from arming on (R142) -/
  folios : List Nat
  /-- Folio chosen for each ring-mode layer at the cut line (R143) -/
  chosen : Tbl Nat
  /-- fixed for the coming blanking (R187) -/
  fixed  : Bool
  /-- fetch estimate and over-budget acceptance -/
  est    : Nat
  /-- Weir task that armed it -/
  task   : Option Nat
  /-- instant of arming, ns of the timebase (R187, R189) -/
  armedAt : Rat
  deriving DecidableEq, Repr

/-- A head's egress beyond its objects (R201 to R206). -/
structure Egress where
  latched : Bool
  /-- a frame is being sent: it began at a line 0 -/
  sending : Bool
  seq     : Nat
  /-- EGRESS_FAULT raised in this frame -/
  fault   : Bool
  deriving DecidableEq, Repr

/-- A head's writeback beyond its objects (R207 to R211). -/
structure Writeback where
  latched : Bool
  /-- ring entry being written and the PT of its line 0 -/
  busy    : Option (Nat × Nat)
  /-- every pixel of the frame has left the Spine (its writes stand in DRAM) -/
  written : Bool
  deriving DecidableEq, Repr

/-- What every sink of a frame computes its Spine pixels from: the object values and DRAM at the frame's line 0 (R198, log
entry 18). -/
structure Shot where
  od   : Tbl (Tbl Row)
  dram : Mem
  deriving DecidableEq, Repr

/-- A head beyond its objects (R170 to R211). -/
structure Head where
  latched : Bool
  /-- a DRAINING head has stopped its raster (R180) -/
  stopped : Bool
  /-- the enable commit of a STARTING head -/
  enable  : Option Commit
  queue   : List Commit
  /-- COMMIT_RESULT -/
  result  : Nat
  /-- start of the latest first blanking line, in ns of the timebase, the blanking lines of its frame, and the start of the next
  first blanking line (R176) -/
  blankAt : Rat
  blank   : Nat
  nextBlank : Rat
  /-- the raster is in vertical blanking -/
  inBlank : Bool
  /-- the cut line of this frame has passed, up to the next line 0 (R189) -/
  cutPast : Bool
  /-- FRAME_DONE of this frame has been raised -/
  frameDone : Bool
  /-- LINE_MATCH0 and LINE_MATCH1 -/
  match0  : Nat
  match1  : Nat
  /-- start of the latest line whose LINE_MATCH was taken (the model's own: each line begins once) -/
  lineAt  : Rat
  /-- underruns of the frame being scanned: line, first column (R192) -/
  underruns : List (Nat × Nat)
  /-- values of the fences at the previous start of blanking (R197) -/
  freezeFence : Tbl Nat
  /-- widest line that the head's Collator row window has held since reset (R231) -/
  windowW : Nat := 0
  /-- signatures of the frame last completed, by region 0-7 (R196) -/
  sigs    : Tbl Nat
  /-- Spine pixels of the last three lines of the frame last completed, by line: R, G and B of each column as FP16 words, for the
  egress packets still to leave (R198, R203), with the canvas primaries and the target index of that frame (R200, R202) -/
  tail    : Tbl (List Nat)
  tailPrim   : Nat := 0
  tailTarget : Nat := 0
  /-- what the frame being scanned is computed from -/
  shot    : Option Shot := none
  egress  : Egress
  wback   : Writeback
  deriving DecidableEq, Repr

/-- The heads and the layer pool. -/
structure Heads where
  heads : Tbl Head
  /-- a staged ALPHA has been changed since the last accepted commit that copied the layer (R139) -/
  alphaPending : Tbl Bool
  deriving DecidableEq, Repr

/-! ## Collation -/

/-- What the Collator takes at line 0 for every entry of a frame (R234). -/
structure Snapshot where
  /-- Mq, Ms and Ds of each strand, as binary32 words -/
  masters  : Tbl Row
  /-- region matrices (nine binary32 words) and witness values (three) -/
  matrices : Tbl Row
  witness  : Tbl Row
  /-- layout rows and output LUTs that differ from their defaults -/
  layouts  : Tbl Row
  luts     : Tbl Row
  /-- front copies of the universes -/
  slots    : Tbl (List Byte)
  deriving DecidableEq, Repr

/-- A head frame passing the Collator (R229 to R244). -/
structure CollFrame where
  /-- HEADx.FRAME of the frame -/
  frame   : Nat
  /-- start of line 0 and expected start of the next first blanking line, ns of the timebase -/
  zeroAt  : Rat
  blankAt : Rat
  snap    : Snapshot
  cursor  : Nat
  runMax  : Nat
  /-- pixels of entries still to come when the head has left the frame: the row window (R231), as binary32 words -/
  window  : Tbl Row
  /-- timing row and line time in ns of the frame (R191, R231) -/
  raster  : Row := []
  line    : Rat := 0
  /-- events 73, 74 and 75 have been raised in this frame, and the clips counted -/
  mapFault : Bool
  calFault : Bool
  late     : Bool
  clips    : Nat
  clipped  : Bool
  /-- an underrun happened in the frame, and the head was UNLOCKED at its first blanking line (R389) -/
  underrun : Bool
  unlocked : Bool
  /-- Quires the frame qualifies for and has not missed, with the latch index at which they would swap (R243, R244) -/
  quires   : List (Nat × Nat)
  /-- every entry has been processed -/
  done     : Bool
  deriving DecidableEq, Repr

/-- Collation of one head. -/
structure Coll where
  /-- PT of a staged map write waiting for its line 0 (R223) -/
  switchAt : Option Nat
  frame    : Option CollFrame
  /-- witness regions whose entry has been processed without fault in the latest frame (R330 reason 5) -/
  seen     : List Nat
  /-- the frame before, whose latch instant or last entries may come after the next line 0 (R231, R244), and its witness regions -/
  prev     : Option CollFrame
  prevSeen : List Nat
  deriving DecidableEq, Repr

/-! ## Quires and strands -/

/-- A Cameg command or enumeration request (R298, R421). -/
structure Request where
  handle : Nat
  /-- `elapsed` when it came to its Quire -/
  at_    : Nat
  /-- frame it is at: 0 its own, then of an enumeration 1 the SET_SHARE and 2 the select frame (R267); 3 when all have gone out -/
  phase  : Nat
  /-- that frame is on the lines or in its return window -/
  sent   : Bool
  /-- every frame before it has been acknowledged -/
  acked  : Bool
  enum   : Bool
  /-- strands of the Quire it goes to -/
  mask   : Nat
  opcode : Nat
  perDriver : Bool
  ret    : Bool
  arg    : Nat
  /-- acknowledgements received: strand * 4096 + driver -/
  acks   : List Nat
  /-- ENUM records received: strand * 4096 + index, and strands that reported OVERFLOW -/
  found  : List Nat
  ovr   : List Nat
  deriving DecidableEq, Repr

/-- A broadcast command the device sends on its own (R274, R321): strand, opcode and argument. -/
structure Broadcast where
  /-- `elapsed` when it was queued -/
  at_    : Nat
  strand : Nat
  opcode : Nat
  arg    : Nat
  deriving DecidableEq, Repr

/-- A signature kept for the twins (R388, R389). -/
structure Sig where
  seq   : Nat
  sig   : Nat
  marks : Nat
  deriving DecidableEq, Repr

/-- A Quire beyond its objects (R292 to R302). Its state is OD 0x2403 and its front set OD 0x2305. -/
structure Quire where
  /-- a mode written during a drain or a short test -/
  latched : Option Nat
  /-- state entered when the drain completes -/
  target  : Nat
  /-- `elapsed` from which IDLE runs, `elapsed` at which the last frame of SETUP leaves the lines free, and the PT of the write
  that started it -/
  idleFrom : Nat
  freeAt  : Nat
  startAt : Nat
  /-- index of the next latch instant while STARTING or RUNNING -/
  nextK   : Option Nat
  /-- QUIRE.SUMq -/
  sum     : Nat
  /-- marks of the set now front, and whether it is sent again (R244, R389) -/
  frontMarks : Nat
  repeated : Bool
  /-- the back and the front set wait to be cleared (R224) -/
  clearBack  : Bool
  clearFront : Bool
  requests : List Request
  broadcasts : List Broadcast
  /-- TELEMETRY_MASK has changed and its select frame has not gone out (R292) -/
  selectOwed : Bool
  /-- a return window is open, with the latch index and whether it began by a LATCH -/
  window  : Option (Nat × Bool)
  /-- a pixel frame is on the lines -/
  inFrame : Bool
  /-- frames latched since RUNNING began -/
  frames  : Nat
  sigs    : List Sig
  /-- PT of the last calibration pass's end (R354) -/
  passAt  : Nat
  /-- the request whose frame is on the lines while SETUP drains, `at_` its beginning (R280, R295) -/
  lastReq : Option Request := none
  /-- `elapsed` of the last application of taps, 0 before one (R359) -/
  tapAt   : Nat := 0
  deriving DecidableEq, Repr

/-- A strand beyond its objects. -/
structure Strand where
  /-- latch index and payload of the pixel frame last begun -/
  sentK   : Option Nat
  payload : List Byte
  /-- the frame last put on the line: its header with the CRC-16 (0 on a legacy strand), and the bytes of the cells after it, each
  share and word with its CRC-8 (R259 to R271) -/
  header  : Nat
  cells   : List Byte
  /-- `elapsed` at which the last frame, or the return window after it, left the line in IDLE (R270, R359) -/
  gapFrom : Nat
  /-- records of the current window: indices received -/
  got     : List Nat
  bad     : Nat
  /-- the record with the highest index: index and lateness in ps (R274) -/
  far     : Option (Nat × Nat)
  /-- latest TEMP of each driver: VALUE + 1 and the PT of its receipt (R319) -/
  temps   : Tbl (Nat × Nat)
  /-- frames that have ended on the strand, and that count plus 1 at each driver's latest record (AGE of OD 0x2408) -/
  aged    : Nat := 0
  heard   : Tbl Nat
  /-- selected input last reported by the entry driver, plus 1 -/
  input   : Nat
  /-- derating: hysteresis temperature and factor (R320) -/
  thetaH  : Option Rat
  g       : Rat
  target  : Rat
  present : Bool
  /-- frames since CURRENT_GAIN was last sent, and whether it is owed before the next first pixel frame (R322) -/
  gainAge : Nat
  gainOwed : Bool
  deriving DecidableEq, Repr

/-! ## Light -/

/-- A fade unit beyond OD 0x2500 to 0x2502 (R304 to R315). -/
structure Fade where
  /-- an arm latched during a drain, with its task -/
  latched : Option (Option Nat)
  task    : Option Nat
  /-- the unit is bound to its target, and the PT of the tick at which it bound -/
  bound   : Bool
  boundAt : Nat
  /-- the row in force while the unit is armed, runs or drains -/
  row     : Row
  /-- OUTPUT when the unit last left RUNNING or DRAINING (R704) -/
  lastOut : Nat := 0
  /-- the target's value at the tick at which the unit bound (R306, R314) -/
  under   : Nat := 0
  deriving DecidableEq, Repr

/-- A colour-loop region beyond OD 0x2540 to 0x2543 (R326 to R331). -/
structure Region where
  /-- latch index at which the current cycle began -/
  start   : Option Nat
  /-- sum and count of the sensor values of each phase -/
  sums    : List (Rat × Nat)
  /-- reasons found in this cycle, as a bit set -/
  faults  : Nat
  /-- the set now transmitted came from a frame whose WITNESS entry was processed without fault (R330 reason 5) -/
  lit     : Bool
  valid   : Bool
  deriving DecidableEq, Repr

/-- A Gauge channel beyond OD 0x2600 and 0x2601 (R332 to R336). -/
structure GaugeCh where
  /-- range in use, plus 1 once one has been chosen -/
  range  : Nat
  settle : Nat
  low    : Nat
  ovr   : Bool
  hist   : List Rat
  mean   : Rat
  at_    : Nat
  alarmed : Bool
  noValue : Bool
  deriving DecidableEq, Repr

/-- Light control and the Gauge. -/
structure Light where
  fades   : Tbl Fade
  regions : Tbl Region
  gauge   : Tbl GaugeCh
  refFault : Bool
  overAny : Bool
  gaugeAt : Nat
  /-- a short test: Quire mask and handle; `elapsed` at its start -/
  test    : Option (Nat × Nat)
  testAt  : Nat
  /-- results of the latest test beyond the 1024 that OD 0x2561 holds (R342) -/
  shortMore : List Row
  faultFull : Bool
  deriving DecidableEq, Repr

/-! ## Calibration -/

/-- A reference session (R361 to R363). -/
structure RefSession where
  row     : Row
  handle  : Nat
  startAt : Nat
  sum     : Rat
  count   : Nat
  fault   : Bool
  reading : Option Nat
  /-- the window has ended -/
  ended   : Bool
  deriving DecidableEq, Repr

/-- The CAL block beyond its objects. -/
structure Cal where
  /-- STRAND periods per REFT measurement and TDC bin counts in use, none before the first (R352) -/
  cycles  : Option Nat
  bins    : List Nat
  traced  : Nat
  /-- a REFT measurement in progress: PT of its start and REF_ID; PT of the next -/
  running : Option (Nat × Nat)
  nextAt  : Nat
  /-- taps staged for each pin: RISE, FALL, THRESHOLD, PHASE; and `elapsed` of the staging (R360) -/
  staged  : Tbl Row
  stagedAt : Tbl Nat
  /-- a staging of an earlier STRAND cycle that a newer one has not replaced yet: an application in the newer one's cycle takes it -/
  stagedOld : Tbl Row := []
  stagedOldAt : Tbl Nat := []
  session : Option RefSession
  /-- the store's contents have changed since its last write, a write is in progress, PT of the next automatic write -/
  changed : Bool
  writing : Bool
  writeAt : Nat
  deriving DecidableEq, Repr

/-! ## Twins -/

/-- What the partner's latest beat or heartbeat said. -/
structure Partner where
  state : Nat
  crest : Nat
  rank  : Nat
  flags : Nat
  handoverAt : Nat
  deriving DecidableEq, Repr

/-- A frame of a mismatch run (R391): either side marked. -/
structure Compared where
  seq  : Nat
  own  : Bool
  other : Bool
  deriving DecidableEq, Repr

/-- The comparison of one Quire beyond OD 0x1212 (R390, R391). -/
structure Compare where
  /-- sequences already compared -/
  done : List Nat
  run  : List Compared
  /-- the partner's latest entry: SEQ, VALID, MARKS and SIGNATURE -/
  seq   : Nat
  valid : Nat
  marks : Nat
  sig   : Nat
  deriving DecidableEq, Repr

/-- The twin block beyond its objects. -/
structure Twin where
  /-- PT of the last valid beat, and of the last valid heartbeat on either port -/
  beatAt  : Option Nat
  heartAt : Option Nat
  partner : Option Partner
  /-- beats received since entering REJOINING, PT of the first -/
  hearSince : Option Nat
  since   : Nat
  /-- PT since which the partner has been out of service -/
  outSince : Option Nat
  reason  : Nat
  /-- PTs of automatic rejoins -/
  rejoins : List Nat
  /-- a handover: T_h, PT of the first beat that carried it, acknowledged -/
  handover : Option (Nat × Option Nat × Bool)
  handoverTask : Option Nat
  /-- both nodes lead (R387) -/
  splitOn : Bool
  /-- source address of the partner's last valid heartbeat (R604) -/
  partnerMac : Option Nat
  revertReq : Bool
  beatSeq : Nat
  nextBeat : Nat
  nextHeart : Nat
  /-- the last beat sent, its first 148 bytes -/
  lastBeat : List Byte
  quires  : Tbl Compare
  /-- a node in Berm service must keep its pins quenched (R395) -/
  quenchBerm : Bool
  /-- bytes 0 to 147 of the partner's latest beat or heartbeat heard before Berm service, whose state it tells then (R395) -/
  bootBeat : List Byte := []
  deriving DecidableEq, Repr

/-! ## The whole state -/

/-- The machine. -/
structure State where
  /-- commands waiting, first in, first out -/
  pending : List Instr
  clk     : Clock
  /-- the model's own: index of the next free value (log entry 6) -/
  freeIdx : Nat
  /-- values of every object, by object number and row -/
  od      : Tbl (Tbl Row)
  /-- DRAM and Vault contents, by DRAM byte address and by Vault byte offset -/
  dram    : Mem
  vault   : Mem
  power   : Power
  aon     : Aon
  flash   : Flash
  time    : Time
  evt     : Evt
  sys     : Sys
  hspi    : Hspi
  eop     : Eop
  weir    : Weir
  net     : Net
  integ   : Integ
  update  : Update
  ingest  : Ingest
  disp    : Heads
  coll    : Tbl Coll
  quires  : Tbl Quire
  strands : Tbl Strand
  light   : Light
  cal     : Cal
  twin    : Twin

  deriving DecidableEq, Repr

/-! ## Reset -/

/-- A servo before it has heard anything: LISTENING or DISABLED is OD 0x1301.06. The Delay_Req interval begins at 1 s
(log entry 29). -/
def Servo.init : Servo :=
  { since := 0, best := [], lockedFreqs := [], good := 0, far := 0, missed := 0, expected := none, twoStep := none,
    hadMaster := false, delayLog := 0, delaySeq := 0, delayTx := none, delayNext := none, lastSync := none, prev := none }

/-- A scrubber that does not run. -/
def Scrub.init : Scrub := { running := false, pages := 0, passS := 0, nextAt := 0, rem := 0 }

/-- The boot record of a part as delivered (log entry 8). -/
def BootRecord.init : BootRecord :=
  { active := 0, pending := 0xFF, trials := 0, result := 0, phase := 0, version := 0, at_ := 0, erases0 := 0, erases1 := 0,
    crc := 3824387310 }

/-- A settings copy never written: erased flash in the place of its CRC. -/
def SettingsCopy.init : SettingsCopy := { crc := 0xFFFFFFFF, format := 0, seq := 0, vals := [] }

/-- Flash and OTP of a part as delivered and powered on once (log entry 8): slot A holds the delivered release, nothing else has
been written. -/
def Flash.init : Flash :=
  { slotA := .delivered, slotB := .empty, boot := BootRecord.init, settings0 := SettingsCopy.init, settings1 := SettingsCopy.init,
    identity := [], keys := [], cal := { crc := 0xFFFFFFFF, format := 0, vals := [], reft := none }, bootCount := 1, resets := [(1, 1)],
    otpKey := [], otpFloor := 0 }

/-- The always-on logic after a power-on (R628, R668): cause 1, the latch 0. -/
def Aon.init : Aon :=
  { cause := 1, also := 0, entry := 0, wakeFrom := 0, wakeSource := 0, memory := 0, source := 0, addr := 0, recordAt := 0,
    recordBoot := 0, copyCause := 1, copyInfo := 0, copyAddr := 0, retain := [0, 0, 0, 0] }

/-- Power at the release of the power-on reset: the Boot ROM runs, Crest is dropped (R382), the pins are quenched and the watchdog
has just restarted (R629). -/
def Power.init : Power :=
  { state := .berm, service := .bootRom, inReset := false, requested := false, recording := false, requestAt := 0, pinLow := false, pinUntil := 0,
    pwrEn := true, linkEn := true, pwrEnAt := 0, entry := none, brownoutDue := none, wakeLatch := none, quenched := true,
    driven := 0, dikeOverride := true, wakeTimer := none, watchdogAt := 0, warned := false, detector := [], releasedAt := 0 }

def Time.init : Time :=
  { servoA := Servo.init, servoB := Servo.init, stepped := false, everLocked := false, far := false, slewPpm := 10, toSlew := 0,
    slewFrom := 0, switchAt := none, preferSince := none, glitch := [], snap := 0, pulses := [], captures := [] }

def Evt.init : Evt := { cause := 0, enable := 0, route := [], raises := 0, windows := [] }

def Sys.init : Sys :=
  { tap := .reset, apbase := 0, lockReg := 0, lockWritten := false, lockViolation := false, windowMiss := false, hspiFail := false, missCount := 0,
    lockAddr := 0, missAddr := 0, failAddr := 0, lateAddr := 0 }

def Hspi.init : Hspi :=
  { ready := false, ignored := false, late := false, busError := false, busy := false, posted := [], fetching := none, buffer := [],
    readData := [], statusOut := 0, shadowHspi := 0, shadowCore := 0, shadowWindow := 0, coreData := 0, windowData := 0,
    culverts := [] }

def Eop.init : Eop :=
  { sessions := [], rxHigh := [], txCount := [], rxStore := [], txStore := [], held := [], failMs := [], hostReq := [],
    hostRsp := [], hostBusy := false, hostDone := false, hostAnswers := [], saveDue := none, dirty := [],
    lastAnswer := { op := 0, status := 0, handle := 0, data := [] } }

/-- The Weir with every slot free: slots 0 to 63 are the device's, 64 to 1023 the host's (R404). -/
def Weir.init : Weir :=
  { slots := [], fresh := 64, freed := [], seq := 0, rseq := 0, cores := [], cq := [], cqOverflow := false, log := [] }

def Net.init : Net :=
  { ports := [], ring := { last := none, firstRun := none, seq := 0, nextSend := 0 }, queues := [], lastFault := none, poolDrops := 0, cellSeq := 0 }

def Integ.init : Integ :=
  { vvalid := [], vlight := [], vpages := [], log := [], recent := [], light := 0, page := 0, scrubV := Scrub.init, scrubD := Scrub.init, rateAt := 0, rateN := 0,
    training := 0, gib := 0, channels := 0, refresh := 0, giveway := 0 }

def Update.init : Update :=
  { state := 0, transfer := none, verifyHandle := 0, verifiedVersion := 0, running := 0, fallback := false, trial := 0, serviceAt := 0,
    reverted := false, deferAt := none, partnerBack := false, heldSettings := false, heldCal := false }

def Ingest.init : Ingest := { edges := [], flows := [], ringLast := [], universes := [], syncs := [] }

def Heads.init : Heads := { heads := [], alphaPending := [] }

def Light.init : Light :=
  { fades := [], regions := [], gauge := [], refFault := false, overAny := false, gaugeAt := 0, test := none, testAt := 0,
    shortMore := [], faultFull := false }

def Cal.init : Cal :=
  { cycles := none, bins := [], traced := 0, running := none, nextAt := 0, staged := [], stagedAt := [],
    session := none, changed := false,
    writing := false, writeAt := 0 }

def Twin.init : Twin :=
  { beatAt := none, heartAt := none, partner := none, hearSince := none, since := 0, outSince := none, reason := 0, rejoins := [],
    handover := none, handoverTask := none, splitOn := false, partnerMac := none, revertReq := false, beatSeq := 0, nextBeat := 0,
    nextHeart := 0, lastBeat := [], quires := [], quenchBerm := false }

/-- The machine right after the release of its first power-on reset: every object at its default, memory with nothing listed,
every domain at its reset values (R515, R541, R628), cause 1 recorded. -/
def State.reset : State :=
  { pending := [], clk := { elapsed := 0, node := 0, rem := 0, rate := 0, tb := 0, tbRate := 0 }, freeIdx := 0, od := [], dram := [], vault := [],
    power := Power.init, aon := Aon.init, flash := Flash.init, time := Time.init, evt := Evt.init, sys := Sys.init,
    hspi := Hspi.init, eop := Eop.init, weir := Weir.init, net := Net.init, integ := Integ.init, update := Update.init,
    ingest := Ingest.init, disp := Heads.init, coll := [], quires := [], strands := [], light := Light.init, cal := Cal.init,
    twin := Twin.init }

end Sys2Proof.Machine
end

