-- ==== Sys2Proof/Machine/Ops.lean ====
section
/-! DEFINITION. The named operations every family's meanings are written over: object rows, the clock, free values, events,
lock violations and the byte memories. -/

namespace Sys2Proof.Machine

/-! ## Object rows -/

/-- Row `r` of object `o`. -/
def State.row (s : State) (o r : Nat) : Row := tget (dfltRow o r) (tget [] s.od o) r

/-- Write a row. -/
def State.setRow (s : State) (o r : Nat) (v : Row) : State :=
  { s with od := tset [] s.od o (tset (dfltRow o r) (tget [] s.od o) r v) }

/-- Field `c` of row `r` of object `o`. -/
def State.fld (s : State) (o r c : Nat) : Nat := (s.row o r).getD c 0

/-- A row with field `c` replaced; a row too short for it is filled up with zeros. -/
def rput : Row → Nat → Nat → Row
  | [], 0, v => [v]
  | [], c + 1, v => 0 :: rput [] c v
  | _ :: r, 0, v => v :: r
  | x :: r, c + 1, v => x :: rput r c v

/-- Write one field. -/
def State.setFld (s : State) (o r c v : Nat) : State := s.setRow o r (rput (s.row o r) c v)

/-- A single value. -/
def State.val (s : State) (o : Nat) : Nat := s.fld o 0 0

/-- Write a single value. -/
def State.setVal (s : State) (o v : Nat) : State := s.setRow o 0 [v]

/-- Rows held by a growing table (R445). -/
def State.rowCount (s : State) (o : Nat) : Nat := s.fld o cntRow 0

/-- Set the row count of a growing table. -/
def State.setRowCount (s : State) (o n : Nat) : State := s.setRow o cntRow [n]

/-- Add to a counter of 64 bits. -/
def State.add (s : State) (o r c n : Nat) : State := s.setFld o r c ((s.fld o r c + n) % 2 ^ 64)

/-- Add 1 to a counter of 64 bits. -/
def State.bump (s : State) (o r c : Nat) : State := s.add o r c 1

/-- Add 1 to a counter of 32 bits that stays at its maximum. -/
def State.bump32 (s : State) (o r c : Nat) : State := s.setFld o r c (capN (2 ^ 32 - 1) (s.fld o r c + 1))

/-- Replace every row of an object. -/
def State.setRows (s : State) (o : Nat) (m : Tbl Row) : State := { s with od := tset [] s.od o m }

/-- Return every row of an object to its default. -/
def State.clearObj (s : State) (o : Nat) : State := s.setRows o []

/-! ## The clock (R39, R52, R56) -/

/-- Node time now, as PT in whole nanoseconds (R41: truncated). -/
def State.now (s : State) : Nat := s.clk.node / 65536

/-- Node time now as a PTIME field. -/
def State.nowPt (s : State) : Nat := nsPt s.now

/-- The first TIME tick at or after an instant in whole ns (R67). -/
def tickUp (t : Nat) : Nat := tickAt t 1

/-- Offset removed by slew in `d` ns at `ppm`, at most the whole of it (R52); both in 10^-9 of 2^-16 ns. -/
def slewed (toSlew : Int) (ppm d : Nat) : Int :=
  let m : Int := (d * 65536000 * ppm : Nat)
  if toSlew < 0 then -(min (-toSlew) m) else min toSlew m

/-- Node time is WITHDRAWN (R51). -/
def State.withdrawn (s : State) : Bool := s.val 0x130002 == 4

/-- What the timebase slews in `d` ns in which node time slews by `sl` (R64, R65): toward node time, by no more than the bound
allows; while node time is WITHDRAWN it is detached and keeps its last rate. -/
def State.tbSlew (s : State) (sl : Int) (d : Nat) : Int :=
  let m : Int := (d * 65536000 * s.time.slewPpm : Nat)
  if s.withdrawn then (d * 65536 : Nat) * s.clk.tbRate else clampI (-m) m (sl - s.clk.tb)

/-- The timebase's offset to node time after `d` ns in which node time slews by `sl` (R64). -/
def State.tbAfter (s : State) (sl : Int) (d : Nat) : Int := s.clk.tb + s.tbSlew sl d - sl

/-- Let `d` ns pass: elapsed time, and node time at the selected servo's frequency plus the slew. -/
def State.pass (s : State) (d : Nat) : State :=
  let sl := slewed s.time.toSlew s.time.slewPpm d
  let num : Int := (d * 65536 : Nat) * (1000000000 + s.clk.rate) + s.clk.rem + sl
  { s with
    clk := { s.clk with
      elapsed := s.clk.elapsed + d
      node := ((s.clk.node : Int) + num / 1000000000).toNat
      rem := (num % 1000000000).toNat
      tb := s.tbAfter sl d }
    time := { s.time with toSlew := s.time.toSlew - sl } }

/-- The ns of `XIN` in which a clock that runs at the selected servo's frequency, plus what `slew` says it slews in that time,
gains `units` of 10^-9 of 2^-16 ns. Each round brings the slew's share, at most 100 ppm, closer. -/
def State.nsFor (s : State) (units : Int) (slew : Nat → Int) : Nat :=
  let v : Int := 65536 * (1000000000 + s.clk.rate)
  let plain := fun (u : Int) => ((2 * u + v) / (2 * v)).toNat
  let round := fun (d : Nat) => plain (units - slew d)
  round (round (round (plain units)))

/-- Let time pass until node time is `pt` (whole ns); nothing happens when it lies in the past. Within an external command's
instant the clock never runs backwards (log entry 2). -/
def State.advanceTo (s : State) (pt : Nat) : State :=
  if pt * 65536 ≤ s.clk.node then s
  else
    let d := s.nsFor ((pt * 65536 - s.clk.node : Nat) * 1000000000 - s.clk.rem) (fun d => slewed s.time.toSlew s.time.slewPpm d)
    let sl := slewed s.time.toSlew s.time.slewPpm d
    { s with
      clk := { s.clk with elapsed := s.clk.elapsed + d, node := pt * 65536, rem := 0, tb := s.tbAfter sl d }
      time := { s.time with toSlew := s.time.toSlew - sl } }

/-- The timebase of the heads and Quires now (R64), in 10^-9 of 2^-16 ns. -/
def State.tbUnits (s : State) : Int := (s.clk.node : Int) * 1000000000 + s.clk.rem + s.clk.tb

/-- The timebase of the heads and Quires now, in ns (R64). -/
def State.tbNow (s : State) : Rat := (s.tbUnits : Rat) / 65536000000000

/-- Let time pass until the timebase reaches `t` ns. -/
def State.advanceTb (s : State) (t : Rat) : State :=
  let target := (t * 65536000000000).ceil
  let units := target - s.tbUnits
  if units ≤ 0 then s
  else
    let sl := fun (d : Nat) => slewed s.time.toSlew s.time.slewPpm d
    let d := s.nsFor units (fun d => s.tbSlew (sl d) d)
    let tb := s.tbAfter (sl d) d
    { s with
      clk := { s.clk with elapsed := s.clk.elapsed + d, node := ((target - tb) / 1000000000).toNat,
                          rem := ((target - tb) % 1000000000).toNat, tb := tb }
      time := { s.time with toSlew := s.time.toSlew - sl d } }

/-- Let time pass until `elapsed` reaches `e`. -/
def State.advanceElapsed (s : State) (e : Nat) : State :=
  if e ≤ s.clk.elapsed then s else s.pass (e - s.clk.elapsed)

/-! ## Free values (log entry 6) -/

/-- The next free natural number, and the state that has used it. -/
def State.drawNat (s : State) : Nat × State := (Config.freeNat s.freeIdx, { s with freeIdx := s.freeIdx + 1 })

/-- The next free integer, and the state that has used it. -/
def State.drawInt (s : State) : Int × State := (Config.freeInt s.freeIdx, { s with freeIdx := s.freeIdx + 1 })

/-! ## Events (R511 to R516) -/

/-- Route byte of event `e` (R529). -/
def State.routeByte (s : State) (e : Nat) : Nat :=
  ((tget 0x10101010#32 s.evt.route (e / 4)).toNat / 2 ^ (8 * (e % 4))) % 256

/-- Add event e to the millisecond windows that wait behind the first: to the last of them, or in one of its own (R13, R478). -/
def laterEvent (e now : Nat) : List (Nat × Nat) → List (Nat × Nat)
  | [] => [(now, setBit 0 e)]
  | [w] => if w.1 / 1000000 = now / 1000000 then [(w.1, setBit w.2 e)] else [w, (now, setBit 0 e)]
  | w :: v :: ws => w :: laterEvent e now (v :: ws)

/-- Deliver event `e` to a session's EVENT window (R478). -/
def Session.deliver (x : Session) (e now : Nat) : Session :=
  if x.open_ && x.mask.testBit e then
    if x.evBits = 0 then { x with evAt := now, evBits := setBit 0 e }
    else if x.evRest.isEmpty && x.evAt / 1000000 == now / 1000000 then { x with evBits := setBit x.evBits e }
    else { x with evRest := laterEvent e now x.evRest }
  else x

/-- Apply a function to every listed value of a table. -/
def tmap {α : Type} (f : α → α) (m : Tbl α) : Tbl α := m.map (fun e => (e.1, f e.2))

/-- EOP notification of a raise (R478, R513). -/
def State.notify (s : State) (e : Nat) : State :=
  { s with eop := { s.eop with sessions := tmap (fun x => x.deliver e s.now) s.eop.sessions } }

/-- Raise event `e` (R511, R513): cause bit, counts, and EOP notification by its route byte. -/
def State.raise (s : State) (e : Nat) : State :=
  let s1 := { s with evt := { s.evt with cause := s.evt.cause ||| (1#128 <<< e), raises := (s.evt.raises + 1) % 2 ^ 64 } }
  let s2 := s1.bump32 0x400000 e 0
  if (s.routeByte e).testBit 4 then s2.notify e else s2

/-- Raise event `e` at most once in window number `w` of its kind (half-open windows, R13). -/
def State.raiseOnce (s : State) (e key w : Nat) : State :=
  if tget 0 s.evt.windows key = w + 1 then s
  else { s with evt := { s.evt with windows := tset 0 s.evt.windows key (w + 1) } }.raise e

/-- Raise event `e` at most once in the current millisecond of node time. -/
def State.raiseMs (s : State) (e : Nat) : State := s.raiseOnce e e (s.now / 1000000)

/-- Raise an event for each true flag, in order. -/
def State.raiseIf (s : State) (b : Bool) (e : Nat) : State := if b then s.raise e else s

/-- The events that drive pin IRQ_Nk (R512). -/
def State.irqEvents (s : State) (k : Nat) : List Nat :=
  if s.power.inReset then []
  else (List.range 128).filter (fun e => s.evt.cause.getLsbD e && s.evt.enable.getLsbD e && (s.routeByte e).testBit k)

/-- Pin IRQ_Nk is asserted (R512). -/
def State.irq (s : State) (k : Nat) : Bool := !(s.irqEvents k).isEmpty

/-! ## Lock violations and misses (R500, R504) -/

/-- A lock violation at an address. -/
def State.lockViolation (s : State) (addr : Word) : State :=
  let s1 := if s.sys.lockViolation then s else { s with sys := { s.sys with lockViolation := true, lockAddr := addr } }
  (s1.bump 0x400100 0 5).raise 126

/-- A window-class miss at an address. -/
def State.windowMissAt (s : State) (addr : Word) : State :=
  let s1 := { s with sys := { s.sys with missCount := capN 65535 (s.sys.missCount + 1) } }
  let s2 := if s1.sys.windowMiss then s1 else { s1 with sys := { s1.sys with windowMiss := true, missAddr := addr } }
  (s2.bump 0x400100 0 4).raise 127

/-- An HSPI bus error at an address. -/
def State.hspiBusError (s : State) (addr : Word) : State :=
  let s1 := { s with hspi := { s.hspi with busError := true } }
  let s2 := if s1.sys.hspiFail then s1 else { s1 with sys := { s1.sys with hspiFail := true, failAddr := addr } }
  s2.bump 0x400100 0 1

/-- A bus error of a core access. -/
def State.coreBusError (s : State) : State := s.bump 0x400100 0 0

/-! ## Node identity in force -/

/-- Node ID in force (OD 0x1200.01). -/
def State.nodeId (s : State) : Nat := s.val 0x120001

/-- MAC address of port p (R599): four consecutive addresses. -/
def macOf (p : Nat) : Nat := (Config.macBase.toNat + p) % 2 ^ 48

/-- The 8 bytes of the UID. -/
def uidBytes : List Byte := beBytes 8 Config.uid.toNat

end Sys2Proof.Machine
end

