-- ==== Sys2Proof/Machine/Ram.lean ====
section
/-! DEFINITION. A part of the Vault with its hidden storage (R531): a write makes the words it touches valid, with a fresh light check
byte, and gives the page check words the delta of each (R535, R539, R542, R544). -/

namespace Sys2Proof.Machine

/-- Mark n words from word w up valid (R542). -/
def markValid (m : Tbl Bool) (w : Nat) : Nat → Tbl Bool
  | 0 => m
  | n + 1 => markValid (tset false m w true) (w + 1) n

/-- Words that a run of n bytes from `a` touches. -/
def wordSpan (a n : Nat) : Nat := if n = 0 then 0 else (a + n - 1) / 8 - a / 8 + 1

/-- The eight page check words of an all-zero page: a codeword (R542). -/
def zeroChecks : List Nat := [0, 0, 0, 0, 0, 0, 0, 0]

/-- Word w of a byte memory. -/
def memWord (m : Mem) (w : Nat) : Nat := leNat (mgets m (8 * w) 8)

/-- The page check words after word w has changed from a to b. -/
def pageChange (m : Tbl (List Nat)) (w a b : Nat) : Tbl (List Nat) :=
  tset zeroChecks m (w / 64) (pageUpdate (tget zeroChecks m (w / 64)) (w % 64) a b)

/-- Write bytes from offset `a` on; an invalid word counts as 0 (R542), and the byte memory lists nothing there. -/
def Ram.put (x : Ram) (a : Nat) (bs : List Byte) : Ram :=
  let mem := msets x.bytes a bs
  let n := wordSpan a bs.length
  let ws := ((List.range n).map (a / 8 + ·)).filter (fun w => memWord x.bytes w != memWord mem w)
  { bytes := mem
    valid := markValid x.valid (a / 8) n
    light := ws.foldl (fun m w => tset 0 m w (lightCheck (BitVec.ofNat 64 (memWord mem w)))) x.light
    pages := ws.foldl (fun m w => pageChange m w (memWord x.bytes w) (memWord mem w)) x.pages }

/-- The word of offset `a` is valid. -/
def Ram.holds (x : Ram) (a : Nat) : Bool := tget false x.valid (a / 8)

end Sys2Proof.Machine
end

