-- ==== Sys2Proof/Machine/MemOps.lean ====
section
/-! DEFINITION. The Vault and the DRAM as the block reads and writes them: the Vault's layout (R22, R23), unwritten words (R541,
R542), the integrity regions and their page-valid bits (R534), and the DRAM runs an object may name (R533). -/

namespace Sys2Proof.Machine

/-! ## Vault (R22, R23): offsets from 0x1000_0000 -/

def vaultBase : Nat := 0x10000000
def vaultSize : Nat := 0x1800000
def vCellPool : Nat := 0x1000000
def vFirmware : Nat := 0x1400000
def vWeir : Nat := 0x1600000
def vPageValid : Nat := 0x1680000
def vRowWindows : Nat := 0x16C0000
def vFlowCtx : Nat := 0x1740000
def vGeneral : Nat := 0x1780000

/-- Buffer set b of strand st (R23). -/
def strandBuf (b st : Nat) : Nat := b * 0x800000 + st * 0x8000

/-- The parts of the Vault that hold neither cells nor contexts. -/
def State.vaultRam (s : State) : Ram :=
  { bytes := s.vault, valid := s.integ.vvalid, light := s.integ.vlight, pages := s.integ.vpages }

/-- Write bytes into the Vault outside the cells and contexts (R539, R542, R544). -/
def State.vaultPut (s : State) (a : Nat) (bs : List Byte) : State :=
  let x := s.vaultRam.put a bs
  { s with vault := x.bytes, integ := { s.integ with vvalid := x.valid, vlight := x.light, vpages := x.pages } }

/-- The part of the Vault that offset `a` lies in, and its start: cells, Weir contexts, flow contexts or the rest. -/
def State.ramAt (s : State) (a : Nat) : Ram × Nat :=
  if vCellPool ≤ a ∧ a < vFirmware then (s.net.cells, vCellPool)
  else if vWeir ≤ a ∧ a < vPageValid then (s.weir.saved, vWeir)
  else if vFlowCtx ≤ a ∧ a < vGeneral then (s.ingest.contexts, vFlowCtx)
  else (s.vaultRam, 0)

/-- Write bytes at an offset of any part (a core's write). -/
def State.vaultSet (s : State) (a : Nat) (bs : List Byte) : State :=
  if vCellPool ≤ a ∧ a < vFirmware then { s with net := { s.net with cells := s.net.cells.put (a - vCellPool) bs } }
  else if vWeir ≤ a ∧ a < vPageValid then { s with weir := { s.weir with saved := s.weir.saved.put (a - vWeir) bs } }
  else if vFlowCtx ≤ a ∧ a < vGeneral then { s with ingest := { s.ingest with contexts := s.ingest.contexts.put (a - vFlowCtx) bs } }
  else s.vaultPut a bs

/-- Widest line that head h's Collator row window has held since reset. -/
def State.windowWidth (s : State) (h : Nat) : Nat := ((tfind s.disp.heads h).map (fun x => x.windowW)).getD 0

/-- Head whose Collator row window lies at offset `a`. What its words hold is not laid out (R22); the state keeps which of them have been
filled (R231, log entry 79). -/
def windowHead (a : Nat) : Option Nat := if vRowWindows ≤ a ∧ a < vFlowCtx then some ((a - vRowWindows) / 0x40000) else none

/-- The word of offset `a` is valid (R531, R542). -/
def State.vValid (s : State) (a : Nat) : Bool :=
  match windowHead a with
  | some h => decide ((a - vRowWindows) % 65536 / 8 < s.windowWidth h)
  | none => (s.ramAt a).1.holds (a - (s.ramAt a).2)

/-- Read one byte of the Vault, in whichever part it lies. An unwritten word reads 0 (R541); the byte memory lists nothing there. -/
def State.vaultByte (s : State) (a : Nat) : Byte := mget (s.ramAt a).1.bytes (a - (s.ramAt a).2)

/-- Read bytes of the Vault. -/
def State.vaultGet (s : State) (a n : Nat) : List Byte := mgets s.vault a n

/-- Count a read of an unwritten word (R541): memory 0 the Vault, 1 DRAM. -/
def State.unwrittenRead (s : State) (mem : Nat) : State := s.bump 0x431000 mem 6

/-! ## DRAM -/

/-- Installed DRAM in bytes; 0 before training (R562). -/
def State.installed (s : State) : Nat := if s.integ.training = 2 then s.integ.gib * 2 ^ 30 else 0

/-- SHADOW_BASE (R533). -/
def State.shadowBase (s : State) : Nat := s.installed - 2 ^ 28

/-- A DRAM run lies within installed DRAM below the shadow (R98, R533). -/
def State.runOk (s : State) (base len : Nat) : Bool := decide (base + len ≤ s.shadowBase)

/-- Regions in force, in ascending row order: base and size (R532). -/
def State.regions (s : State) : List (Nat × Nat) :=
  ((List.range 8).map (fun r => (s.fld 0x310100 r 0, s.fld 0x310100 r 1))).filter (fun e => e.2 != 0)

/-- Page number of a DRAM address in the regions (R534), counting from page `p0`. -/
def pageIn : List (Nat × Nat) → Nat → Nat → Option Nat
  | [], _, _ => none
  | (b, n) :: rs, p0, a =>
    if b ≤ a ∧ a < b + n then some (p0 + (a - b) / 512) else pageIn rs (p0 + n / 512) a

/-- Page number of a DRAM address, none outside the regions. -/
def State.dramPage (s : State) (a : Nat) : Option Nat := pageIn s.regions 0 a

/-- DRAM address of page P of the regions. -/
def pageAddr : List (Nat × Nat) → Nat → Option Nat
  | [], _ => none
  | (b, n) :: rs, p => if p < n / 512 then some (b + 512 * p) else pageAddr rs (p - n / 512)

/-- Pages of the regions in force. -/
def State.dramPages (s : State) : Nat := (s.regions.map (fun e => e.2 / 512)).sum

/-- The page-valid bit of page P (R534): bit P mod 8 of byte P div 8 of the bitmap. -/
def State.pageValid (s : State) (p : Nat) : Bool := (s.vaultByte (vPageValid + p / 8)).toNat.testBit (p % 8)

/-- Set it (R542). -/
def State.setPageValid (s : State) (p : Nat) : State :=
  if s.pageValid p then s
  else s.vaultPut (vPageValid + p / 8) [BitVec.ofNat 8 (setBit (s.vaultByte (vPageValid + p / 8)).toNat (p % 8))]

/-- Set the page-valid bits of the pages that a run of n bytes touches. -/
def State.touchPages (s : State) (a n : Nat) : State :=
  if n = 0 then s
  else
    let go := fun (st : State) (x : Nat) => match st.dramPage x with
      | some p => st.setPageValid p
      | none => st
    (List.range ((a + n - 1) / 512 - a / 512 + 1)).foldl (fun st i => go st (if i = 0 then a else (a / 512 + i) * 512)) s

/-- The shadow's check bytes of the DRAM word at 8w after it changes from a to b, where it lies in an integrity page (R534, R535, R539). -/
def State.shadowWord (s : State) (m : Mem) (w a b : Nat) : Mem :=
  match s.dramPage (8 * w) with
  | none => m
  | some p =>
    if a = b then m
    else
      let base := s.shadowBase + 128 * p
      let i := w % 64
      let checks := (List.range 8).map (fun k => leNat (mgets m (base + 64 + 8 * k) 8))
      msets (msets m (base + i) (beBytes 1 (lightCheck (BitVec.ofNat 64 b)))) (base + 64)
        ((pageUpdate checks i a b).flatMap (leBytes 8))

/-- Write bytes into DRAM. A part of an invalid integrity page makes the page valid with its other bytes 0 (R542): the byte memory
lists nothing in an invalid page. Integrity pages keep their check bytes in the shadow (R534, R539). -/
def State.dramPut (s : State) (a : Nat) (bs : List Byte) : State :=
  let s1 := s.touchPages a bs.length
  let mem := msets s1.dram a bs
  let word := fun (m : Mem) (w : Nat) => leNat (mgets m (8 * w) 8)
  let change := fun (m : Mem) (i : Nat) => s1.shadowWord m (a / 8 + i) (word s1.dram (a / 8 + i)) (word mem (a / 8 + i))
  { s1 with dram := (List.range (if s1.regions.isEmpty then 0 else wordSpan a bs.length)).foldl change mem }

/-- DRAM bytes a to a + n - 1 are read: the words of pages that are not valid are counted (R541). -/
def State.dramRead (s : State) (a n : Nat) : State :=
  let bad := fun (i : Nat) => match s.dramPage ((a / 8 + i) * 8) with
    | some p => !s.pageValid p
    | none => false
  let k := if s.regions.isEmpty then 0 else ((List.range (wordSpan a n)).filter bad).length
  if k = 0 then s else s.add 0x431000 1 6 k

/-- Read one byte of DRAM. -/
def State.dramByte (s : State) (a : Nat) : Byte := mget s.dram a

/-- Read bytes of DRAM. -/
def State.dramGet (s : State) (a n : Nat) : List Byte := mgets s.dram a n

/-- Little-endian words (R9). -/
def State.dramWord (s : State) (a n : Nat) : Nat := leNat (s.dramGet a n)
def State.vaultWord (s : State) (a n : Nat) : Nat := leNat (s.vaultGet a n)

end Sys2Proof.Machine
end

