-- ==== Sys2Proof/Machine/Crypto.lean ====
section
/-! DEFINITION. The cryptographic functions that R15 names: SHA-256 and SHA-512 (FIPS 180-4) as one function over the word width,
HMAC-SHA-256 (RFC 2104), and the verification of an Ed25519 signature (RFC 8032). The round constants and initial values are computed
from what FIPS 180-4 defines them to be: fractional parts of cube and square roots of the first primes. -/

namespace Sys2Proof.Machine

/-! ## Roots of primes -/

/-- The first 80 primes. -/
def shaPrimes : List Nat :=
  [2, 3, 5, 7, 11, 13, 17, 19, 23, 29, 31, 37, 41, 43, 47, 53, 59, 61, 67, 71, 73, 79, 83, 89, 97, 101, 103, 107, 109, 113, 127, 131,
   137, 139, 149, 151, 157, 163, 167, 173] ++
  [179, 181, 191, 193, 197, 199, 211, 223, 227, 229, 233, 239, 241, 251, 257, 263, 269, 271, 277, 281, 283, 293, 307, 311, 313, 317,
   331, 337, 347, 349, 353, 359, 367, 373, 379, 383, 389, 397, 401, 409]

/-- The k-th root of n, rounded down, given a root r of its high part and b bits still to be found. -/
def rootBits (k n : Nat) : Nat → Nat → Nat
  | 0, r => r
  | b + 1, r => rootBits k n b (if (r + 2 ^ b) ^ k ≤ n then r + 2 ^ b else r)

/-- The first n bits of the fractional part of the k-th root of a prime below 512. -/
def rootFraction (n k p : Nat) : BitVec n := BitVec.ofNat n (rootBits k (p * 2 ^ (k * n)) (n + 5) 0)

/-! ## SHA-2 -/

/-- What FIPS 180-4 fixes for one word width: rounds, and the amounts of the functions Σ0, Σ1 (three rotations each) and σ0, σ1 (two
rotations and a shift each). -/
structure Sha where
  width  : Nat
  rounds : Nat
  big0   : Nat × Nat × Nat
  big1   : Nat × Nat × Nat
  small0 : Nat × Nat × Nat
  small1 : Nat × Nat × Nat

def Sha.s256 : Sha :=
  { width := 32, rounds := 64, big0 := (2, 13, 22), big1 := (6, 11, 25), small0 := (7, 18, 3), small1 := (17, 19, 10) }

def Sha.s512 : Sha :=
  { width := 64, rounds := 80, big0 := (28, 34, 39), big1 := (14, 18, 41), small0 := (1, 8, 7), small1 := (19, 61, 6) }

variable (c : Sha)

/-- A word of the hash. -/
abbrev Sha.Word := BitVec c.width

/-- Three rotations, summed bit by bit. -/
def Sha.big (r : Nat × Nat × Nat) (x : c.Word) : c.Word := x.rotateRight r.1 ^^^ x.rotateRight r.2.1 ^^^ x.rotateRight r.2.2

/-- Two rotations and a shift. -/
def Sha.small (r : Nat × Nat × Nat) (x : c.Word) : c.Word := x.rotateRight r.1 ^^^ x.rotateRight r.2.1 ^^^ (x >>> r.2.2)

/-- The round constants. -/
def Sha.constants : List c.Word := (shaPrimes.take c.rounds).map (rootFraction c.width 3)

/-- The initial hash value. -/
def Sha.start : List c.Word := (shaPrimes.take 8).map (rootFraction c.width 2)

/-- The message schedule of a block: n more words after the last sixteen, which `w` holds newest first. -/
def Sha.schedule : Nat → List c.Word → List c.Word
  | 0, w => w
  | n + 1, w => Sha.schedule n ((w.getD 15 0 + c.small c.small0 (w.getD 14 0) + w.getD 6 0 + c.small c.small1 (w.getD 1 0)) :: w)

/-- The eight working variables of a round. -/
structure Sha.Vars where
  a : c.Word
  b : c.Word
  c_ : c.Word
  d : c.Word
  e : c.Word
  f : c.Word
  g : c.Word
  h : c.Word

/-- One round with its constant and schedule word. -/
def Sha.round (v : Sha.Vars c) (k : c.Word × c.Word) : Sha.Vars c :=
  let choice := (v.e &&& v.f) ||| (~~~v.e &&& v.g)
  let majority := (v.a &&& (v.b ||| v.c_)) ||| (v.b &&& v.c_)
  let fresh := v.h + c.big c.big1 v.e + choice + k.1 + k.2
  { a := fresh + c.big c.big0 v.a + majority, b := v.a, c_ := v.b, d := v.c_, e := v.d + fresh, f := v.e, g := v.f, h := v.g }

/-- Add a block's work to the hash value. -/
def Sha.block (hash words : List c.Word) : List c.Word :=
  let at_ := fun (i : Nat) => hash.getD i 0
  let v0 : Sha.Vars c := { a := at_ 0, b := at_ 1, c_ := at_ 2, d := at_ 3, e := at_ 4, f := at_ 5, g := at_ 6, h := at_ 7 }
  let v := (c.constants.zip (c.schedule (c.rounds - 16) words.reverse).reverse).foldl c.round v0
  List.zipWith (fun x y => x + y) hash [v.a, v.b, v.c_, v.d, v.e, v.f, v.g, v.h]

/-- The big-endian words of a byte string, n of them. -/
def Sha.wordsOf : Nat → List Byte → List c.Word
  | 0, _ => []
  | n + 1, bs => BitVec.ofNat c.width (beNat (bs.take (c.width / 8))) :: Sha.wordsOf n (bs.drop (c.width / 8))

/-- Hash n blocks of 16 words. -/
def Sha.blocks : Nat → List c.Word → List Byte → List c.Word
  | 0, hash, _ => hash
  | n + 1, hash, bs => Sha.blocks n (c.block hash (c.wordsOf 16 bs)) (bs.drop (2 * c.width))

/-- The digest: a 1 bit, zeros up to the length, which takes the last two words of a block. -/
def Sha.digest (m : List Byte) : List Byte :=
  let size := 2 * c.width
  let tail := c.width / 4
  let n := (m.length + 1 + tail + size - 1) / size
  let padded := m ++ beBytes 1 0x80 ++ List.replicate (n * size - m.length - 1 - tail) 0#8 ++ beBytes tail (8 * m.length)
  (c.blocks n c.start padded).flatMap (fun x => beBytes (c.width / 8) x.toNat)

/-- SHA-256. -/
def sha256 (m : List Byte) : List Byte := Sha.s256.digest m

/-- SHA-512. -/
def sha512 (m : List Byte) : List Byte := Sha.s512.digest m

/-- XOR of two byte strings. -/
def xorBytes (a b : List Byte) : List Byte := List.zipWith (fun x y => x ^^^ y) a b

/-- HMAC-SHA-256 under a key of at most 64 bytes. -/
def hmacSha256 (key m : List Byte) : List Byte :=
  let under := fun (pad : Byte) => (List.range 64).map (fun i => key.getD i 0 ^^^ pad)
  sha256 (under 0x5C ++ sha256 (under 0x36 ++ m))

/-! ## Ed25519 (RFC 8032, section 5.1) -/

/-- The prime of the field. -/
def edP : Nat := 2 ^ 255 - 19

/-- The order of the base point. -/
def edL : Nat := 2 ^ 252 + 27742317777372353535851937790883648493

/-- b to the power e in the field, over the low n bits of e. -/
def edPow (b e : Nat) : Nat → Nat
  | 0 => 1
  | n + 1 =>
    let h := edPow b (e / 2) n
    let q := h * h % edP
    if e % 2 = 1 then q * b % edP else q

/-- The inverse in the field. -/
def edInv (x : Nat) : Nat := edPow x (edP - 2) 255

/-- The difference in the field. -/
def edSub (a b : Nat) : Nat := (a + (edP - b % edP)) % edP

/-- The curve's constant d = -121665/121666. -/
def edD : Nat := edSub 0 (121665 * edInv 121666 % edP)

/-- A point in extended homogeneous coordinates: x = X/Z, y = Y/Z, xy = T/Z. -/
structure EdPoint where
  x : Nat
  y : Nat
  z : Nat
  t : Nat
  deriving DecidableEq, Repr

/-- The sum of two points. -/
def EdPoint.add (p q : EdPoint) : EdPoint :=
  let lower := edSub p.y p.x * edSub q.y q.x % edP
  let upper := (p.y + p.x) * (q.y + q.x) % edP
  let cross := p.t * 2 * edD * q.t % edP
  let scale := p.z * 2 * q.z % edP
  let e := edSub upper lower
  let f := edSub scale cross
  let g := (scale + cross) % edP
  let h := (upper + lower) % edP
  { x := e * f % edP, y := g * h % edP, z := f * g % edP, t := e * h % edP }

/-- A point times the low n bits of k. -/
def EdPoint.mul (p : EdPoint) (k : Nat) : Nat → EdPoint
  | 0 => { x := 0, y := 1, z := 1, t := 0 }
  | n + 1 =>
    let half := EdPoint.mul p (k / 2) n
    let twice := half.add half
    if k % 2 = 1 then twice.add p else twice

/-- Two points are the same point of the curve. -/
def EdPoint.same (p q : EdPoint) : Bool :=
  p.x * q.z % edP == q.x * p.z % edP && p.y * q.z % edP == q.y * p.z % edP

/-- The point of a y coordinate and the sign of x; none where there is none. -/
def edRecover (y sign : Nat) : Option EdPoint :=
  let u := edSub (y * y) 1
  let v := (edD * (y * y) + 1) % edP
  let r := u * edPow v 3 2 % edP * edPow (u * edPow v 7 3) ((edP - 5) / 8) 255 % edP
  let square := v * (r * r) % edP
  let x := if square = u then some r else if square = edSub 0 u then some (r * edPow 2 ((edP - 1) / 4) 255 % edP) else none
  match x with
  | none => none
  | some x =>
    if edP ≤ y ∨ (x = 0 ∧ sign = 1) then none
    else
      let x' := if x % 2 = sign then x else edP - x
      some { x := x', y := y, z := 1, t := x' * y % edP }

/-- A point from its 32 bytes. -/
def edDecode (bs : List Byte) : Option EdPoint :=
  let n := leNat bs
  edRecover (n % 2 ^ 255) (n / 2 ^ 255 % 2)

/-- The base point: y = 4/5, x even. -/
def edBase : Option EdPoint := edRecover (4 * edInv 5 % edP) 0

/-- The signature of a message verifies under a public key of 32 bytes: the group equation times the cofactor 8. -/
def ed25519Verify (key m sig : List Byte) : Bool :=
  let s := leNat (sig.drop 32)
  match edDecode key, edDecode (sig.take 32), edBase with
  | some a, some r, some b =>
    let k := leNat (sha512 (sig.take 32 ++ key ++ m)) % edL
    decide (s < edL) && ((b.mul s 253).mul 8 4).same ((r.mul 8 4).add ((a.mul k 253).mul 8 4))
  | _, _, _ => false

end Sys2Proof.Machine
end

