-- ==== Sys2Proof/Machine/Pool.lean ====
section
/-! DEFINITION. The cell pool (R564 to R587): counts, grants, enqueue and free, the pause a port generates from the shared free
count (R610), and offering a frame to a transmit queue (R592, R604 to R607). -/

namespace Sys2Proof.Machine

/-! ## Columns of the port and pool objects -/

def oPort : Nat := 0x141000
def oPortEnable : Nat := 0x141100
def oPortState : Nat := 0x141200
def oPortCnt : Nat := 0x416000
def oPoolQueue : Nat := 0x143000
def oPoolCnt : Nat := 0x415000

/-! ## Ports -/

/-- The state of a port that no write has touched. -/
def Port.init : Port :=
  { latched := false, drainAt := 0, pausedUntil := 0, paused := false, mode := 0, fec := 0, autoneg := 0, maxFrame := 0,
    pauseTx := [], pauseAgain := 0, wire := none }

def State.port (s : State) (p : Nat) : Port := tget Port.init s.net.ports p

def State.setPort (s : State) (p : Nat) (x : Port) : State :=
  { s with net := { s.net with ports := tset Port.init s.net.ports p x } }

/-- STATE of port p: 0 DISABLED, 1 ENABLED, 2 DRAINING (R591). -/
def State.portState (s : State) (p : Nat) : Nat := s.fld oPortState p 0

/-- The port's link is UP (R590). -/
def State.linkUp (s : State) (p : Nat) : Bool := s.fld oPortState p 1 == 1

/-- Raise the event of port p (R620). -/
def State.portEvent (s : State) (p : Nat) : State := s.raise (116 + p)

/-- Count an error or drop of port p and raise its event at most once in the millisecond (R620). -/
def State.portErr (s : State) (p c : Nat) : State :=
  (s.bump oPortCnt p c).raiseOnce (116 + p) (1000 + p) (s.now / 1000000)

/-! ## Counts (R570, R575) -/

def State.queue (s : State) (q : Nat) : List Packet := tget [] s.net.queues q

/-- COUNT of queue q. -/
def qCells (ps : List Packet) : Nat := (ps.map (fun p => p.cells)).sum

def State.qCount (s : State) (q : Nat) : Nat := qCells (s.queue q)

/-- PKTS of queue q: frames enter whole, so every packet held is counted. -/
def State.qPkts (s : State) (q : Nat) : Nat := (s.queue q).length

/-- The shared free count (R575). -/
def State.sharedFree (s : State) : Nat :=
  16384 - ((List.range 512).map (fun q => max (s.qCount q) (s.fld oPoolQueue q 1))).sum

/-- Free cells. -/
def State.freeCells (s : State) : Nat := 16384 - ((List.range 512).map s.qCount).sum

/-- The shared free count is below OD 0x1432 (R582). -/
def State.poolLow (s : State) : Bool := decide (s.sharedFree < s.val 0x143200)

/-- Cells in use. -/
def State.cellsUsed (s : State) : List Nat := s.net.queues.flatMap (fun e => e.2.flatMap (fun p => p.place))

/-- Take n of the free cells; the k-th taken since reset is a free choice (R566, log entry 79). -/
def pickCells (free : List Nat) (k : Nat) : Nat → List Nat
  | 0 => []
  | n + 1 =>
    let c := free.getD (Config.freeCell k % free.length) 0
    c :: pickCells (free.erase c) (k + 1) n

/-- A packet that takes its cells. -/
def State.placed (s : State) (p : Packet) : Packet :=
  { p with place := pickCells ((List.range 16384).filter (fun c => !s.cellsUsed.contains c)) s.net.cellSeq p.cells }

/-- n cells have been taken. -/
def State.cellsTaken (s : State) (n : Nat) : State := { s with net := { s.net with cellSeq := s.net.cellSeq + n } }

/-- A packet's bytes fill its cells in order, 256 to a cell (R564, R565). -/
def Packet.fill (p : Packet) (x : Ram) : Ram :=
  (p.place.zipIdx).foldl (fun r e => r.put (256 * e.1) ((p.bytes.drop (256 * e.2)).take 256)) x

/-- Write a packet into its cells. -/
def State.fillCells (s : State) (p : Packet) : State := { s with net := { s.net with cells := p.fill s.net.cells } }

/-- Cells of the next `n` that queue q is granted, taken one by one (R575). -/
def State.grant (s : State) (q n : Nat) : Nat :=
  let c := s.qCount q
  let res := s.fld oPoolQueue q 1
  let lim := s.fld oPoolQueue q 2
  min n ((res - c) + min (lim - max c res) s.sharedFree)

/-! ## Generated pause (R610) -/

/-- One port's XOFF against the shared free count. -/
def State.pauseGen (s : State) (p : Nat) : State :=
  let free := s.sharedFree
  let x := s.port p
  let on := s.fld oPort p 8 == 1 && s.portState p != 0
  if on && s.fld oPortState p 3 == 0 && decide (free < s.fld oPort p 9) then
    let q := s.fld oPort p 11
    ((s.setFld oPortState p 3 1).setPort p { x with pauseTx := x.pauseTx ++ [q], pauseAgain := s.now }).portEvent p
  else if s.fld oPortState p 3 == 1 && (!on || decide (s.fld oPort p 10 ≤ free)) then
    ((s.setFld oPortState p 3 0).setPort p { x with pauseTx := x.pauseTx ++ (if on then [0] else []) }).portEvent p
  else s

/-- Every port's XOFF. -/
def State.pauseGenAll (s : State) : State := [0, 1, 2, 3].foldl State.pauseGen s

/-! ## Queue contents -/

/-- Replace the contents of queue q: the high-water mark follows, and event 120 is raised when the shared free count falls below
OD 0x1432 (R582). -/
def State.setQueue (s : State) (q : Nat) (ps : List Packet) : State :=
  let wasLow := s.poolLow
  let s1 := { s with net := { s.net with queues := tset [] s.net.queues q ps } }
  let s2 := s1.setFld 0x143100 q 2 (max (s1.fld 0x143100 q 2) (qCells ps))
  let s3 := if !wasLow && s2.poolLow then s2.raiseMs 120 else s2
  s3.pauseGenAll

/-- Record a drop or abandon of kind k of queue q (R582, R585). -/
def State.poolFault (s : State) (k q : Nat) : State :=
  let s1 := s.bump oPoolCnt q (2 + k)
  { s1 with net := { s1.net with lastFault := some (k, q), poolDrops := (s1.net.poolDrops + 1) % 2 ^ 64 } }.raiseMs 120

/-- What became of a frame offered to a queue; `withdrawn`: its producer found it bad after all its cells had been granted. -/
inductive Enq where
  | stored | dropped | freed | aborted | withdrawn
  deriving DecidableEq, Repr

/-- A packet takes its cells, fills them and stands at the tail of queue q. -/
def State.append (s : State) (q : Nat) (p : Packet) : State :=
  let k := s.placed p
  ((s.setQueue q (s.queue q ++ [k])).fillCells k).cellsTaken p.cells

/-- The consumer of queue q may have started a packet of which n cells are enqueued (R572, R581): its place in the queue does not
matter, as the example of R581 shows. -/
def State.mayStart (s : State) (q n : Nat) : Bool := decide (0 < s.fld oPoolQueue q 0) && decide (s.fld oPoolQueue q 0 ≤ n)

/-- Offer a frame to queue q (R575, R578, R579, R581): stored whole, dropped at its first cell, or abandoned at a later one. A frame that
its producer ends as bad (`aborted`) is withdrawn: its cells are freed, or it stays with ABORT once its consumer has started it (R597). -/
def State.enqueue (s : State) (q : Nat) (p : Packet) : Enq × State :=
  let g := s.grant q p.cells
  let lim := s.fld oPoolQueue q 2
  if g = p.cells then
    if p.aborted then (.withdrawn, if s.mayStart q g then s.append q p else (s.append q p).setQueue q (s.queue q))
    else (.stored, (s.append q p).bump oPoolCnt q 0)
  else
    let part : Packet := { p with cells := g, bytes := p.bytes.take (256 * g), aborted := true }
    if g = 0 then (.dropped, s.poolFault 0 q)
    else
      let s1 := if lim ≤ s.qCount q + g then s.bump oPoolCnt q 5 else s
      let s2 := s1.append q part
      if s.mayStart q g then (.aborted, s2.poolFault 2 q) else (.freed, (s2.setQueue q (s.queue q)).poolFault 1 q)

/-- The consumer frees the packet at the head of queue q. -/
def State.dequeue (s : State) (q : Nat) : Option Packet × State :=
  match s.queue q with
  | [] => (none, s)
  | p :: ps => (some p, (s.setQueue q ps).bump oPoolCnt q 1)

/-- Free the packet at the head of queue q, if there is one. -/
def State.consume (s : State) (q : Nat) : State := (s.dequeue q).2

/-- The consumer of queue q discards the packet that came last. -/
def State.discard (s : State) (q : Nat) : State := (s.setQueue q (s.queue q).dropLast).bump oPoolCnt q 1

/-- The oldest packet of flow r in the pool, and its queue: that of the flow's row when it came (R568: a queue may serve several
flows). -/
def State.flowPacket (s : State) (r : Nat) : Option (Nat × Packet) :=
  (s.net.queues.filterMap (fun e => if e.1 < 64 then none else (e.2.find? (fun p => p.flow == r)).map (fun p => (e.1, p)))).foldl
    (fun best x => match best with
      | none => some x
      | some b => if x.2.rxAt < b.2.rxAt then some x else some b) none

/-- That packet carries an ABORT cell (R580). -/
def State.flowAborted (s : State) (r : Nat) : Bool := (s.flowPacket r).any (fun e => e.2.aborted)

/-- Free that packet, if there is one. -/
def State.consumeFlow (s : State) (r : Nat) : State :=
  match s.flowPacket r with
  | none => s
  | some (q, _) => (s.setQueue q ((s.queue q).eraseP (fun p => p.flow == r))).bump oPoolCnt q 1

/-! ## Frames the node sends -/

/-- EtherType of a frame the node originates. -/
def TxFrame.etype (f : TxFrame) : Nat := match f.kind with
  | .arp => 0x0806
  | .ringProbe => 0x88B5
  | .pause => 0x8808
  | .delayReq => if f.dstUdp = 0 then 0x88F7 else 0x0800
  | _ => 0x0800

/-- It carries a tag (R604). -/
def TxFrame.tagged (f : TxFrame) : Bool := f.kind != .relay && f.vid != 0xFFFF && f.vid != 0

/-- Bytes of a frame before its payload: addresses, tag, type, and the IPv4 and UDP headers. -/
def TxFrame.headLen (f : TxFrame) : Nat :=
  if f.kind = .relay then 0 else 14 + (if f.tagged then 4 else 0) + (if f.etype = 0x0800 then 28 else 0)

/-- Bytes of a frame in its cells (R565): header, tag and padded payload, without FCS. -/
def TxFrame.stored (f : TxFrame) : Nat := max 60 (f.headLen + f.bytes.length)

/-- One's-complement sum of 16-bit words. -/
def onesSum (bs : List Byte) : Nat :=
  let rec go : List Byte → Nat
    | [] => 0
    | [a] => a.toNat * 256
    | a :: b :: r => a.toNat * 256 + b.toNat + go r
  let n := go bs
  let m := n % 65536 + n / 65536
  m % 65536 + m / 65536

/-- IPv4 and UDP headers of a frame. Identification, flags, time to live and the UDP checksum are free (`free`, log entry 86). -/
def TxFrame.ipHead (f : TxFrame) (src free : Nat) : List Byte :=
  let n := f.bytes.length
  let front := beBytes 1 0x45 ++ beBytes 1 (4 * f.dscp) ++ beBytes 2 (28 + n) ++ beBytes 4 free ++ beBytes 1 (free / 2 ^ 32) ++ beBytes 1 17
  let ips := beBytes 4 src ++ beBytes 4 f.dstIp
  front ++ beBytes 2 (65535 - onesSum (front ++ ips)) ++ ips ++
    beBytes 2 f.srcUdp ++ beBytes 2 f.dstUdp ++ beBytes 2 (8 + n) ++ beBytes 2 (free / 2 ^ 40)

/-- A frame as its cells hold it (R565): a relayed frame as it came, any other from the port's own address (R604), padded with zeros to
60 bytes. -/
def State.txImage (s : State) (p : Nat) (f : TxFrame) : List Byte :=
  if f.kind = .relay then f.bytes
  else
    let tag := if f.tagged then beBytes 2 0x8100 ++ beBytes 2 (f.pcp * 8192 + f.vid) else []
    let ip := if f.etype = 0x0800 then f.ipHead (s.val 0x110101) (Config.headerFields s.net.cellSeq) else []
    beBytes 6 f.dstMac ++ beBytes 6 (macOf p) ++ tag ++ beBytes 2 f.etype ++ ip ++ f.bytes ++
      List.replicate (60 - (f.headLen + f.bytes.length)) 0#8

/-- A transmit packet of port p. -/
def State.txPacket (s : State) (p : Nat) (f : TxFrame) : Packet :=
  { cells := cdiv f.stored 256, place := [], bytes := s.txImage p f, tx := some f, flow := 0, rxAt := s.now, aborted := false }

/-- What a transmitter that ends a frame after n bytes has sent of it (R573). -/
def TxFrame.cut (f : TxFrame) (n : Nat) : TxFrame := { f with bytes := f.bytes.take (n - f.headLen), badFcs := true }

/-! ## Packet tasks (R567) -/

/-- Put `bytes` into one of the device's queues 48 to 63 under a key: SUBMIT payloads in 48, stored answers in 49, image fragments in 50
(which queue holds what is the model's choice, log entry 86). -/
def State.taskPut (s : State) (q key : Nat) (bytes : List Byte) : State :=
  if bytes.isEmpty then s
  else (s.enqueue q { cells := cdiv bytes.length 256, place := [], bytes := bytes, tx := none, flow := key, rxAt := s.now, aborted := false }).2

/-- Free the packets with these keys from queue q. -/
def State.taskDrop (s : State) (q : Nat) (keys : Nat → Bool) : State :=
  let n := ((s.queue q).filter (fun p => keys p.flow)).length
  if n = 0 then s else (s.setQueue q ((s.queue q).filter (fun p => !keys p.flow))).add oPoolCnt q 1 n

/-- Offer a frame to transmit queue 8p + k (R592, R605 to R607). A port that is not ENABLED takes none (log entry 12). -/
def State.offer (s : State) (p k : Nat) (f : TxFrame) : State :=
  if s.portState p ≠ 1 then s.portErr p 19
  else if p < 2 ∧ !s.linkUp p then s.portErr p 18
  else (s.enqueue (8 * p + k) (s.txPacket p f)).2

/-- VID and PCP of a frame that answers no request (R604). -/
def State.ctlVid (s : State) (p : Nat) : Nat := s.fld oPort p 4
def State.ctlPcp (s : State) (p : Nat) : Nat := s.fld oPort p 5

end Sys2Proof.Machine
end

