-- ==== Sys2Proof/Machine/EopTx.lean ====
section
/-! DEFINITION. Sending EOP messages (R452, R453, R467 to R471, R475, R604): header, seal, transmit counter and checkpoint, and
the frame handed to transmit queue 6 of its port. -/

namespace Sys2Proof.Machine

/-- Status codes of answers and completions. -/
def stOk : Nat := 0x00
def stAccepted : Nat := 0x01
def stCancelled : Nat := 0x02
def stPredFailed : Nat := 0x03
def stAuthFail : Nat := 0x10
def stStale : Nat := 0x11
def stNoKey : Nat := 0x12
def stNoObject : Nat := 0x20
def stAccess : Nat := 0x21
def stType : Nat := 0x22
def stRange : Nat := 0x23
def stState : Nat := 0x24
def stBusy : Nat := 0x25
def stLocked : Nat := 0x26
def stTimeout : Nat := 0x30
def stResource : Nat := 0x31
def stInternal : Nat := 0x3F

/-- Columns of OD 0x4110. -/
def oEopCnt : Nat := 0x411000

def State.eopCount (s : State) (c : Nat) : State := s.bump oEopCnt 0 c

/-- The key of a slot, empty when the slot holds none (R472, R473). -/
def KeySlot.empty : KeySlot := { key := [], rxK := 0, txK := 0 }

def State.keySlot (s : State) (k : Nat) : KeySlot := tget KeySlot.empty s.flash.keys k

def State.slotKey (s : State) (k : Nat) : List Byte := if k = 0 then s.flash.otpKey else (s.keySlot k).key

def State.hasKey (s : State) (k : Nat) : Bool := decide (k ≤ 7) && !(s.slotKey k).isEmpty

/-- The 24 header bytes (R452). -/
def eopHeader (op flags session id counter len slot : Nat) : List Byte :=
  beBytes 2 0x454F ++ beBytes 1 1 ++ beBytes 1 op ++ beBytes 2 flags ++ beBytes 2 session ++ beBytes 4 id ++
    beBytes 8 counter ++ beBytes 2 len ++ beBytes 1 slot ++ [0#8]

/-- The tag of a sealed message (R467). -/
def eopTag (key header payload : List Byte) : List Byte := (hmacSha256 key (uidBytes ++ header ++ payload)).take 16

/-- Where a message goes. -/
structure Dest where
  port : Nat
  mac  : Nat
  vid  : Nat
  ip   : Nat
  udp  : Nat
  deriving DecidableEq, Repr

/-- FLAGS bits (R453). -/
def flResponse : Nat := 1
def flSealed : Nat := 2
def flNoSession : Nat := 8

/-- A node's EOP frame to a destination. -/
def eopFrame (s : State) (d : Dest) (kind : TxKind) (bytes : List Byte) : TxFrame :=
  { kind := kind, dstMac := d.mac, dstIp := d.ip, dstUdp := d.udp, vid := d.vid, pcp := s.ctlPcp d.port, bytes := bytes,
    srcUdp := s.val 0x110001 }

/-- Set the transmit counter of a slot. -/
def State.setTx (s : State) (slot t : Nat) : State := { s with eop := { s.eop with txCount := tset 0 s.eop.txCount slot t } }

/-- Send a message of the node, for REPLY task `task` (0 for none). Sealed, it carries T + 1 of its slot, and T becomes T + 1 (R469); when
that counter reaches KT + 65,536 the message waits for the store of the new KT (R470). -/
def State.sendMsg (s : State) (d : Dest) (k : Nat) (kind : TxKind) (op flags session id : Nat) (sl : Option Nat)
    (payload : List Byte) (task : Nat) : State :=
  match sl with
  | none =>
    s.offer d.port k (eopFrame s d kind (eopHeader op flags session id 0 payload.length 0xFF ++ payload))
  | some slot =>
    let c := tget 0 s.eop.txCount slot + 1
    let h := eopHeader op (flags + flSealed) session id c payload.length slot
    let f := eopFrame s d kind (h ++ payload ++ eopTag (s.slotKey slot) h payload)
    let s1 := s.setTx slot c
    if (s.keySlot slot).txK + 65536 ≤ c then
      { s1 with eop := { s1.eop with
        txStore := tset 0 s1.eop.txStore slot ((c / 65536) * 65536)
        held := s1.eop.held ++ [{ slot := slot, port := d.port, frame := f, task := task }] } }
    else s1.offer d.port k f

/-- An ACK's payload: the 8-byte prefix and the answer data (R456). -/
def ackPayload (a : Answer) : List Byte := beBytes 1 a.status ++ beBytes 1 a.op ++ [0#8, 0#8] ++ beBytes 4 a.handle ++ a.data

/-- Destination of a session's COMPLETE and EVENT messages (R604). -/
def Session.dest (x : Session) (s : State) : Dest :=
  { port := x.port, mac := x.mac, vid := s.ctlVid x.port, ip := x.ip, udp := x.udp }

/-- Seal of a session's messages (R471). -/
def Session.sealBy (x : Session) : Option Nat := if x.slot = 0xFF then none else some x.slot

def Session.closed : Session :=
  { open_ := false, slot := 0, gen := 0, mac := 0, vid := 0, port := 0, ip := 0, udp := 0, last := 0, mask := 0, evSeq := 0,
    evAt := 0, evBits := 0, answers := [] }

def State.session (s : State) (i : Nat) : Session := tget Session.closed s.eop.sessions i

def State.setSession (s : State) (i : Nat) (x : Session) : State :=
  { s with eop := { s.eop with sessions := tset Session.closed s.eop.sessions i x } }

/-- The session ID of slot i (R463): (generation << 6) | slot. -/
def Session.sid (x : Session) (i : Nat) : Nat := x.gen * 64 + i

/-- R464: the session's idle window has not ended. A request exactly at its end finds the session closed. -/
def State.sessionLive (s : State) (i : Nat) : Bool :=
  (s.session i).open_ && decide (s.now < (s.session i).last + s.val 0x110003 * 1000000000)

/-- Send the COMPLETE of a handle to the session that created it, if that session is still open (R475, R476). -/
def State.sendComplete (s : State) (slot sid handle status : Nat) (result : List Byte) : State :=
  let x := s.session slot
  if s.sessionLive slot && x.sid slot == sid then
    let payload := beBytes 1 status ++ [0#8] ++ beBytes 10 s.nowPt ++ beBytes 2 result.length ++ result
    (s.sendMsg (x.dest s) 6 .eop 0x11 flResponse sid handle x.sealBy payload 0).eopCount 11
  else s

end Sys2Proof.Machine
end

