-- ==== Sys2Proof/Machine/WeirBase.lean ====
section
/-! DEFINITION. The Weir's task slots (R404 to R415, R433, R434): allocation, completion with its successor edges, the completion
log and queue, and the handle an operation answered ACCEPTED takes (R407). Dispatch and SUBMIT are in Weir.lean. -/

namespace Sys2Proof.Machine

def oWeirCnt : Nat := 0x430000

/-- A slot that has never been allocated. -/
def Task.init : Task :=
  { handle := 0, state := 0, status := 0, cls := 0, prio := 0, domain := 0, counter := 0, createdBy := 0, session := 0xFFFF,
    flags := 0, gate := 0, deadline := 0, fence := 0, fenceVal := 0, params := [], readyAt := 0, doneAt := 0, seq := 0, rseq := 0,
    dispatched := false, accepted := false, edges := [] }

def State.task (s : State) (slot : Nat) : Task := tget Task.init s.weir.slots slot

def State.setTask (s : State) (slot : Nat) (t : Task) : State :=
  { s with weir := { s.weir with slots := tset Task.init s.weir.slots slot t } }

/-- The handle is live (R406). -/
def State.handleLive (s : State) (h : Nat) : Bool :=
  h != 0 && (s.task (h % 1024)).handle == h && (s.task (h % 1024)).state != 0

/-- The handle is retained (R406). -/
def State.handleRetained (s : State) (h : Nat) : Bool :=
  h != 0 && (s.task (h % 1024)).handle == h && (s.task (h % 1024)).state == 0

/-- Free host slots (R404). -/
def State.hostFree (s : State) : Nat := (1024 - s.weir.fresh) + s.weir.freed.length

/-- Overflow edges in use: each live task's edges beyond 4 (R415). -/
def State.edgesUsed (s : State) : Nat := (s.weir.slots.map (fun e => e.2.edges.length - 4)).sum

/-- The host slot that the next host task takes (R406), and the Weir with it taken. -/
def Weir.takeSlot (w : Weir) : Option (Nat × Weir) :=
  if w.fresh < 1024 then some (w.fresh, { w with fresh := w.fresh + 1 })
  else match w.freed with
    | [] => none
    | x :: xs => some (x, { w with freed := xs })

/-- The next generation of a slot (R405). -/
def nextGen (g : Nat) : Nat := if g = 2 ^ 22 - 1 then 1 else g + 1

/-! ## Device tasks (R404, R416) -/

/-- The lowest free device slot (log entry 71). -/
def State.deviceSlot (s : State) : Option Nat := (List.range 64).find? (fun i => (s.task i).state == 0)

/-- A device task completes: its slot is free again, and keeps its handle and status. -/
def State.deviceDone (s : State) (h : Nat) : State :=
  if s.handleLive h then s.setTask (h % 1024) { s.task (h % 1024) with state := 0, status := stOk, doneAt := s.nowPt } else s

/-- Send an EOP answer as a REPLY task of the device, which completes when the answer is queued for transmission (R416); while the answer
waits for a checkpoint (R470), the task runs. With 64 of them waiting, the answer is sent without one (log entry 71). -/
def State.reply (s : State) (d : Dest) (op flags session id : Nat) (sl : Option Nat) (payload : List Byte) : State :=
  match s.deviceSlot with
  | none => s.sendMsg d 6 .eop op flags session id sl payload 0
  | some i =>
    let h := nextGen ((s.task i).handle / 1024) * 1024 + i
    let t : Task := { Task.init with handle := h, state := 3, cls := 7, createdBy := 0xFF, readyAt := s.nowPt, dispatched := true }
    let s1 := (s.setTask i t).sendMsg d 6 .eop op flags session id sl payload h
    if s1.eop.held.any (fun x => x.task == h) then s1 else s1.deviceDone h

/-- The messages held for a store of slot k leave in order (R470); the REPLY task of each completes (R416). -/
def State.sendHeld (s : State) (k : Nat) : State :=
  (s.eop.held.filter (fun h => h.slot == k)).foldl (fun st h => (st.offer h.port 6 h.frame).deviceDone h.task)
    { s with eop := { s.eop with held := s.eop.held.filter (fun h => h.slot != k) } }

/-! ## Stored answers (R459, R567) -/

/-- Key of a stored answer in the pool: session slot, or 64 for the mailbox, and request ID. -/
def answerKey (i id : Nat) : Nat := i * 2 ^ 32 + id

/-- Close a session; its generation stays with the slot, and its stored answers are freed. -/
def State.closeSession (s : State) (i : Nat) : State :=
  (s.setSession i { Session.closed with gen := (s.session i).gen }).taskDrop 49 (fun k => k / 2 ^ 32 == i)

/-- Keep an answer among the last 16 distinct IDs (R459). -/
def keepAnswer (xs : List (Nat × Answer)) (id : Nat) (a : Answer) : List (Nat × Answer) := ((id, a) :: xs).take 16

/-- The stored answers `xs` of session slot i, or of the mailbox (64), now have that of request `id`: it takes cells, and those that are kept
no longer leave theirs (R567). -/
def State.answerKept (s : State) (i id : Nat) (a : Answer) (xs : List (Nat × Answer)) : State :=
  (s.taskPut 49 (answerKey i id) (ackPayload a)).taskDrop 49
    (fun k => k / 2 ^ 32 == i && !xs.any (fun e => e.1 == k % 2 ^ 32))

/-- Allocate a host slot for a task (its handle and creation order are filled in): the handle, or none when no slot is free. -/
def State.allocTask (s : State) (t : Task) : Option (Nat × State) :=
  match s.weir.takeSlot with
  | none => none
  | some (slot, w) =>
    let h := nextGen ((s.task slot).handle / 1024) * 1024 + slot
    let s1 := { s with weir := { w with seq := w.seq + 1 } }
    some (h, (s1.setTask slot { t with handle := h, seq := w.seq }).bump oWeirCnt 0 2)

/-- Add an entry to the completion queue (R434, R435). -/
def State.cqPush (s : State) (h st : Nat) : State :=
  if 256 ≤ s.weir.cq.length then
    ({ s with weir := { s.weir with cqOverflow := true } }.bump oWeirCnt 0 10).raise 123
  else
    let s1 := { s with weir := { s.weir with cq := s.weir.cq ++ [(h, st)] } }
    if s.weir.cq.isEmpty then s1.raise 122 else s1

/-- Column of OD 0x4300 that counts a completion status. -/
def completionCol (st : Nat) : Nat :=
  if st = stOk then 5 else if st = stCancelled then 6 else if st = stPredFailed then 7 else if st = stTimeout then 8 else 9

/-- A task lets go of its control core. -/
def State.freeCore (s : State) (h : Nat) : State :=
  { s with weir := { s.weir with cores := s.weir.cores.filter (fun e => e.2.handle != h) } }

/-- Deliver a completion (R433): COMPLETE to the creating session, and the completion queue. -/
def State.deliverCompletion (s : State) (t : Task) (st : Nat) (result : List Byte) : State :=
  let notify := t.flags.testBit 3
  let s1 := if (t.accepted || notify) && decide (t.createdBy < 64) then s.sendComplete t.createdBy t.session t.handle st result else s
  if notify || (t.accepted && t.createdBy == 0xFE) then s1.cqPush t.handle st else s1

/-- The payload of a WRITE of OD 0x3002 that names handle h (R422). -/
def cancelWrite (p : List Byte) (h : Nat) : Bool := p.take 8 == beBytes 2 0x3002 ++ [0#8, 0#8] ++ beBytes 4 h

/-- The mailbox holds a cancel of handle h (R422, R481). -/
def State.mailboxCancels (s : State) (h : Nat) : Bool :=
  let m := mgets s.eop.hostReq 0 32
  (m.getD 3 0#8 == 0x07#8 && (m.drop 8).take 4 == beBytes 4 h) || (m.getD 3 0#8 == 0x02#8 && cancelWrite (m.drop 24) h)

/-- A cancel of handle h waits that arrives at this instant, as a CANCEL, as a WRITE of OD 0x3002, or next in line in the mailbox: it is
applied before what else comes in its cycle (R421, R424). -/
def State.cancelComes (s : State) (h : Nat) : Bool :=
  s.pending.any (fun c => match c with
    | .cancel m => m.id == h && decide (m.at_ ≤ s.now)
    | .write m => cancelWrite m.payload h && decide (m.at_ ≤ s.now)
    | _ => false) ||
  (match s.pending with
    | .hostDoorbellGo _ :: _ => s.mailboxCancels h
    | _ => false)

/-- Act on one successor edge (R413, R414): the successor's handle when it must fail, and the state. A successor for which a cancel of this
cycle is still to come fails only if that cancel leaves it (R424). -/
def State.actEdge (s : State) (st : Nat) (e : Edge) : Option Nat × State :=
  if s.handleLive e.dst then
    if st = stOk || !e.propagate then
      let u := s.task (e.dst % 1024)
      (none, s.setTask (e.dst % 1024) { u with counter := u.counter - 1 })
    else if s.cancelComes e.dst then (none, s.setTask (e.dst % 1024) { s.task (e.dst % 1024) with failDue := true })
    else (some e.dst, s)
  else (none, s)

/-- Act on all edges of a completed task. -/
def State.actEdges (s : State) (st : Nat) : List Edge → List Nat × State
  | [] => ([], s)
  | e :: es =>
    let r := s.actEdge st e
    let q := r.2.actEdges st es
    (r.1.toList ++ q.1, q.2)

/-- Complete one task: it frees its slot, keeps its status, and acts on its edges (R406, R413). Answers the successors that fail
with it. A handle that is not live is left alone. -/
def State.finishOne (s : State) (h st : Nat) (result : List Byte) : List Nat × State :=
  if s.handleLive h then
    let slot := h % 1024
    let t := s.task slot
    let s1 := s.setTask slot { t with state := 0, status := st, doneAt := s.nowPt, edges := [], counter := 0 }
    let s2 := if 64 ≤ slot then
        { s1 with weir := { s1.weir with
            freed := s1.weir.freed ++ [slot]
            log := ([h, st, s.nowPt] :: s1.weir.log).take 256 } }
      else s1
    let s3 := (s2.freeCore h).bump oWeirCnt 0 (completionCol st)
    let s4 := if st = stInternal then s3.raise 123 else s3
    let s5 := s4.deliverCompletion t st result
    s5.actEdges st t.edges
  else ([], s)

/-- Complete tasks from a work list: a task that fails with PRED_FAILED acts on its own edges in turn (R414). `n` bounds the
number of completions; every task completes once at most, so 1024 are enough (log entry 14). -/
def State.finishAll : Nat → List (Nat × Nat) → State → State
  | 0, _, s => s
  | _, [], s => s
  | n + 1, (h, st) :: w, s =>
    let r := s.finishOne h st []
    State.finishAll n (w ++ r.1.map (fun x => (x, stPredFailed))) r.2

/-- A task completes with a status (R413). -/
def State.completeTask (s : State) (h st : Nat) : State := State.finishAll 5120 [(h, st)] s

/-- The optional handle of work in progress completes. -/
def State.completeOpt (s : State) (h : Option Nat) (st : Nat) : State :=
  match h with
  | none => s
  | some x => s.completeTask x st

/-! ## Settings -/

/-- A changed RWS value is to be saved within [write, write + 2 s) (R449). -/
def State.touchSettings (s : State) : State :=
  match s.eop.saveDue with
  | none => { s with eop := { s.eop with saveDue := some (s.now + 2000000000) } }
  | some _ => s

/-! ## Who writes -/

/-- The maker of an object write: the origin, the Weir task it runs under (0 for none), the counter of the message that carries
it and whether that message is sealed with key slot 0 (R473). -/
structure Who where
  origin  : Origin
  task    : Nat
  counter : Nat
  byKey0  : Bool
  deriving DecidableEq, Repr

/-- A write that no Weir task and no message carries. -/
def Who.of (o : Origin) : Who := { origin := o, task := 0, counter := 0, byKey0 := false }

/-- CREATED_BY of a task of this origin (OD 0x3010). -/
def originBy : Origin → Nat
  | .openSession i => i
  | .sealedSession i => i
  | .hspi => 0xFE
  | .weir => 0xFF

/-- Session ID that a COMPLETE of this origin's tasks goes to. -/
def State.originSession (s : State) : Origin → Nat
  | .openSession i => (s.session i).sid i
  | .sealedSession i => (s.session i).sid i
  | _ => 0xFFFF

/-- The origin may write objects of access C (R446). -/
def originCritical : Origin → Bool
  | .openSession _ => false
  | _ => true

/-- Answer of an object write: its status, the handle with ACCEPTED, and the state after it. -/
structure WRes where
  status : Nat
  handle : Nat
  st     : State

/-- A write refused with a status changes nothing (R447). -/
def refuse (s : State) (st : Nat) : WRes := { status := st, handle := 0, st := s }

/-- A write answered OK. -/
def done (s : State) : WRes := { status := stOk, handle := 0, st := s }

/-- Take a handle for an operation answered ACCEPTED (R407): the running task's own, or a new host slot. RESOURCE when no slot is
free, and then nothing is started. -/
def accept (s : State) (w : Who) (start : Nat → State → State) : WRes :=
  if w.task ≠ 0 then { status := stAccepted, handle := w.task, st := start w.task s }
  else
    match s.allocTask { Task.init with
        state := 3, cls := 0, createdBy := originBy w.origin, session := s.originSession w.origin, readyAt := s.nowPt,
        dispatched := true, accepted := true } with
    | none => refuse s stResource
    | some (h, s1) => { status := stAccepted, handle := h, st := start h s1 }

/-- Record the answer of a write made by a command of its own. -/
def WRes.record (r : WRes) : State :=
  { r.st with eop := { r.st.eop with lastAnswer := { op := 0x02, status := r.status, handle := r.handle, data := [] } } }

end Sys2Proof.Machine
end

