-- ==== Sys2Proof/Machine/Time.lean ====
section
/-! DEFINITION. Polder time (R39 to R83): the two servos and the port selection, the step and the slew, domain switches, cadences,
pulse outputs and capture inputs. -/

namespace Sys2Proof.Machine

/-! ## Objects -/

/-- Object `c` of domain d: OD 0x1301.c or OD 0x1302.c. -/
def oDomain (d c : Nat) : Nat := if d = 0 then 0x130100 + c else 0x130200 + c
def oNodeState : Nat := 0x130002
def oSelected : Nat := 0x130003
def oDomainMode : Nat := 0x130005
def oSwitchResult : Nat := 0x13000A
def oDomainDiff : Nat := 0x130300
def oPulse : Nat := 0x131000
def oPtpDropped : Nat := 0x413003

def State.servoState (s : State) (d : Nat) : Nat := s.val (oDomain d 6)
def State.servoOffset (s : State) (d : Nat) : Int := toI 64 (s.val (oDomain d 7))
def State.servoFreq (s : State) (d : Nat) : Int := toI 32 (s.val (oDomain d 8))
def State.sourcePort (s : State) (d : Nat) : Nat := s.val (oDomain d 0x0B)
def State.selected (s : State) : Nat := s.val oSelected

def State.servo (s : State) (d : Nat) : Servo := if d = 0 then s.time.servoA else s.time.servoB

def State.setServo (s : State) (d : Nat) (x : Servo) : State :=
  if d = 0 then { s with time := { s.time with servoA := x } } else { s with time := { s.time with servoB := x } }

/-- 2^l seconds in whole nanoseconds. -/
def log2Ns (l : Int) : Nat := if 0 ≤ l then 1000000000 * 2 ^ l.toNat else 1000000000 / 2 ^ (-l).toNat

/-- Full service (RUN). -/
def State.full (s : State) : Bool := s.power.service == .full && !s.power.inReset

/-- Berm service. -/
def State.berm (s : State) : Bool := s.power.service == .berm && !s.power.inReset

/-- The servos run: in Berm and full service (R54, R637). -/
def State.timeRuns (s : State) : Bool := s.full || s.berm

/-! ## Node time's state and the domain switch -/

/-- Node time's state from the selected servo (R51). -/
def nodeStateOf (s : State) : Nat :=
  if s.berm then 0
  else match s.servoState s.selected with
    | 3 => 2
    | 4 => 3
    | 2 => 1
    | _ => 4

/-- What the slew adds to the rate of node time now, in ppb (R52, R56). -/
def State.slewPpb (s : State) : Int :=
  if s.time.toSlew = 0 then 0 else if s.time.toSlew < 0 then -(1000 * s.time.slewPpm : Nat) else (1000 * s.time.slewPpm : Nat)

/-- What the slew adds to the rate of the timebase now, in ppb (R64): that of node time, or toward it under the bound. -/
def State.tbPpb (s : State) : Int :=
  if s.clk.tb = 0 then s.slewPpb else if s.clk.tb < 0 then (1000 * s.time.slewPpm : Nat) else -(1000 * s.time.slewPpm : Nat)

/-- Node time is withdrawn (R63, R64): it continues at the rate it last held, and the timebase, detached, at its own. -/
def State.holdRate (s : State) : State :=
  { s with
    clk := { s.clk with rate := s.clk.rate + s.slewPpb, tbRate := s.tbPpb - s.slewPpb }
    time := { s.time with toSlew := 0 } }

/-- The rate of node time is the selected servo's again (R56). -/
def State.servoRate (s : State) : State := { s with clk := { s.clk with rate := s.servoFreq s.selected } }

/-- Bring NODE_STATE up to date; a change raises event 112 (R51, R82). On becoming WITHDRAWN node time keeps its rate (R63); it
leaves that state at its servo's. -/
def State.updateNode (s : State) : State :=
  let n := nodeStateOf s
  if s.val oNodeState = n then s
  else
    let s1 := if n = 4 then s.holdRate else if s.withdrawn then s.servoRate else s
    (s1.setVal oNodeState n).raise 112

/-- Node time follows domain d from now on: its rate and the difference to be slewed are the new servo's (R60, R62). A servo in
HOLDOVER measures no offset, and node time runs at its frozen frequency only (R49); WITHDRAWN, node time keeps its rate (R63). -/
def State.follow (s : State) (d : Nat) : State :=
  let s1 := (s.setVal oSelected d).bump32 0x413002 0 0
  let s2 := if nodeStateOf s1 = 4 then s1
    else { s1 with
      clk := { s1.clk with rate := s.servoFreq d }
      time := { s1.time with toSlew := if s.servoState d = 4 then 0 else -(s.servoOffset d) * 1000000000 } }
  s2.updateNode

/-- A domain switch (R60): event 113. -/
def State.switchTo (s : State) (d : Nat) : State := (s.follow d).raise 113

/-- The domain a mode prefers or names (R58). -/
def modeDomain (m : Nat) : Nat := m % 2

/-- The preferred servo's continuous LOCKED time (R59): since it entered that state. -/
def State.trackPreferred (s : State) : State :=
  let d := modeDomain (s.val oDomainMode)
  { s with time := { s.time with preferSince := if s.servoState d = 3 then some (s.servo d).since else none } }

/-- The test of a timed switch at its tick (R61). -/
def State.timedTest (s : State) (target : Nat) : State :=
  let s0 := { s with time := { s.time with switchAt := none } }
  if s0.servoState target = 3 then
    let m := s0.val oDomainMode
    let s1 := if s0.selected = target then s0 else s0.follow target
    let s2 := (s1.setVal oDomainMode (if m < 2 then target else 2 + target)).touchSettings
    (s2.setVal oSwitchResult 2).trackPreferred.raise 113
  else (s0.setVal oSwitchResult 3).raise 113

/-- A timed switch whose tick has come goes before an automatic one of the same tick (R62). -/
def State.timedFirst (s : State) : State :=
  match s.time.switchAt with
  | none => s
  | some (target, at_) => if tickUp at_ ≤ s.now then s.timedTest target else s

/-- R59: in an automatic mode the selected servo is not LOCKED and the other one is. -/
def State.autoDue (s : State) : Bool :=
  decide (2 ≤ s.val oDomainMode) && s.servoState s.selected != 3 && s.servoState (1 - s.selected) == 3

/-- R59: in an automatic mode, leave a selected servo that is not LOCKED for another that is. -/
def State.autoSwitch (s : State) : State :=
  if s.autoDue then
    let s1 := s.timedFirst
    if s1.autoDue then s1.switchTo (1 - s1.selected) else s1
  else s

/-- The average of a list of estimates. -/
def avgI (xs : List Int) : Int := if xs.isEmpty then 0 else xs.sum / xs.length

/-- R49: the frozen frequency, the average over the last 64 s in LOCKED. -/
def Servo.frozen (x : Servo) (now : Nat) : Int :=
  avgI ((x.lockedFreqs.filter (fun e => decide (now < e.1 + 64000000000))).map (fun e => e.2))

/-- A domain's time now, in 2^-16 ns: its master's time at the last offset estimate, run on at its frequency (R49, R56). -/
def State.domainTime (s : State) (d : Nat) : Option Int :=
  (s.servo d).prev.map (fun e => e.1 + ((s.clk.elapsed - e.2 : Nat) : Int) * 65536 * (1000000000 + s.servoFreq d) / 1000000000)

/-- A servo is LOCKED or in HOLDOVER. -/
def State.tracking (s : State) (d : Nat) : Bool := s.servoState d == 3 || s.servoState d == 4

/-- OD 0x1303.00 now (R57): Domain B time minus Domain A time while both servos are LOCKED or in HOLDOVER, else the last value so
reported. -/
def State.diffNow (s : State) : Nat :=
  match s.domainTime 0, s.domainTime 1 with
  | some a, some b => if s.tracking 0 && s.tracking 1 then ofI 64 (b - a) else s.val oDomainDiff
  | _, _ => s.val oDomainDiff

/-- Note the reported difference, before a change ends its report (R57). -/
def State.updateDiff (s : State) : State := s.setVal oDomainDiff s.diffNow

/-- A servo changes state (R48): event 112, node time's state, the switching rule of R59. Entry into HOLDOVER freezes the
frequency, stops a phase correction under way (R49) and drops a Sync that still waits for its Follow_Up. -/
def State.setServoState (s0 : State) (d st : Nat) : State :=
  if s0.servoState d = st then s0
  else
    let s := s0.updateDiff
    let x := s.servo d
    let fz := if st = 4 ∧ !x.lockedFreqs.isEmpty then x.frozen s.now else s.servoFreq d
    let x1 := { x with since := s.now, good := 0, far := 0, missed := 0, prev := if st = 3 ∨ st = 4 then x.prev else none,
                       twoStep := if st = 4 then none else x.twoStep,
                       lockedFreqs := if st = 3 then [] else x.lockedFreqs }
    let s1 := ((s.setServo d x1).setVal (oDomain d 6) st).setVal (oDomain d 8) (ofI 32 fz)
    let s2 := if st = 4 ∧ d = s.selected then
        { s1 with clk := { s1.clk with rate := fz }, time := { s1.time with toSlew := 0 } }
      else s1
    let s3 := if st = 3 then { s2 with time := { s2.time with everLocked := true } } else s2
    ((s3.raise 112).trackPreferred.updateNode).autoSwitch

/-! ## Port selection (R47) -/

/-- IEEE 1588 data-set comparison of two Announces received on ports p and q: the first is at least as good. -/
def announceBetter (a : Announce) (p : Nat) (b : Announce) (q : Nat) : Bool :=
  let lex := fun (xs ys : List Nat) => decide (xs ≤ ys)
  if a.gm = b.gm then lex [a.stepsRemoved, a.sender, p] [b.stepsRemoved, b.sender, q]
  else lex [a.priority1, a.clockClass, a.accuracy, a.variance, a.priority2, a.gm]
           [b.priority1, b.clockClass, b.accuracy, b.variance, b.priority2, b.gm]

/-- A held Announce is of the domain's number, transports and ports, as they are now (R56). -/
def PortAnnounce.acceptable (a : PortAnnounce) (num mask transports p : Nat) : Bool :=
  a.dom == num && mask.testBit p && transports.testBit (b2n a.l2)

/-- Best of the ports enabled for the domain. -/
def pickPort (num mask transports : Nat) : Tbl PortAnnounce → Option (Nat × PortAnnounce)
  | [] => none
  | (p, a) :: m =>
    if a.acceptable num mask transports p then
      match pickPort num mask transports m with
      | none => some (p, a)
      | some (q, b) => if announceBetter a.data p b.data q then some (p, a) else some (q, b)
    else pickPort num mask transports m

/-- No acceptable master is left (R48): an ACQUIRING servo is LISTENING; a LOCKED one goes on until its Syncs have been missed. -/
def State.noMaster (s : State) (d : Nat) : State :=
  let s1 := s.setVal (oDomain d 0x0B) 0xFF
  if s1.servoState d = 2 then s1.setServoState d 1 else s1

/-- Recompute the selection of domain d and take the state change it brings (R47, R48). -/
def State.reselect (s : State) (d : Nat) : State :=
  let x := s.servo d
  match pickPort (s.val (oDomain d 1)) (s.val (oDomain d 3)) (s.val (oDomain d 4)) x.best with
  | none => s.noMaster d
  | some (p, a) =>
    let fresh := s.sourcePort d != p
    let s1 := (s.setVal (oDomain d 0x0B) p).setVal (oDomain d 0x0A) a.data.gm
    let s2 := s1.setServo d { s1.servo d with hadMaster := true }
    if s.servoState d = 1 ∨ (s.servoState d = 4 ∧ fresh) then s2.setServoState d 2 else s2

/-- The holdover window ends (R50): LISTENING, with no master; the Announces held for the servo are discarded (log entry 78). -/
def State.holdoverEnd (s : State) (d : Nat) : State :=
  if s.servoState d = 4 then
    let s1 := s.setServo d { s.servo d with best := [], expected := none }
    (s1.setVal (oDomain d 0x0B) 0xFF).setServoState d 1
  else s

/-- End of the holdover window of domain d. -/
def State.holdoverDue (s : State) (d : Nat) : Nat := (s.servo d).since + s.val 0x130008 * 1000000000

/-- A window that has ended without its command is taken first (R13, R50). -/
def State.holdoverCheck (s : State) (d : Nat) : State :=
  if s.servoState d = 4 ∧ s.holdoverDue d ≤ s.now then s.holdoverEnd d else s

/-! ## Cadences (R66 to R68) -/

/-- A cadence: epoch in ns, NUM and DEN. -/
structure Cadence where
  epoch : Nat
  num   : Nat
  den   : Nat
  deriving DecidableEq, Repr

/-- R66: 1/240 s to 1 s, both ends accepted, neither part 0. -/
def cadenceOk (num den : Nat) : Bool := decide (0 < num) && decide (0 < den) && decide (den ≤ 240 * num) && decide (num ≤ den)

/-- The tick of instant k (R67). -/
def Cadence.tick (c : Cadence) (k : Nat) : Nat := tickAt (c.epoch * c.den + k * c.num * 1000000000) c.den

/-- Instant k truncated to whole ns (R41, R67). -/
def Cadence.at_ (c : Cadence) (k : Nat) : Nat := c.epoch + k * c.num * 1000000000 / c.den

/-- The period in whole nanoseconds (the q of R67). -/
def Cadence.q (c : Cadence) : Nat := c.num * 1000000000 / c.den

/-- The fraction reported with instant k: the exact remainder, truncated to 2^-16 ns (R67). -/
def Cadence.frac (c : Cadence) (k : Nat) : Nat := k * c.num * 1000000000 % c.den * 65536 / c.den

/-- Index of the first instant at or after the exact instant n/m (R68). -/
def Cadence.firstAt (c : Cadence) (n m : Nat) : Nat :=
  if n ≤ c.epoch * m then 0 else cdiv ((n - c.epoch * m) * c.den) (c.num * 1000000000 * m)

/-- Index of the first instant at or after t (R68). -/
def Cadence.first (c : Cadence) (t : Nat) : Nat := c.firstAt t 1

/-! ## Offset estimates -/

/-- Absolute offset beyond a bound given in ns. -/
def beyond (off : Int) (ns : Nat) : Bool := decide ((ns * 65536 : Nat) < off.natAbs)

/-- TIME.STATUS.FAR (R55). -/
def State.testFar (s : State) (d : Nat) (off : Int) : State :=
  if d = s.selected then
    if s.full ∧ !s.time.stepped ∧ beyond off 1000000 then
      (if s.time.far then s else { s with time := { s.time with far := true } }.raise 112)
    else if s.time.far ∧ !beyond off 1000000 then { s with time := { s.time with far := false } }.raise 112
    else s
  else s

/-- R54: the single step, at the first offset estimate in BERM before any LOCKED. -/
def State.stepDue (s : State) (d : Nat) : Bool :=
  s.berm && !s.time.stepped && !s.time.everLocked && d == s.selected

/-- A PT noted before node time was stepped, on the stepped scale. -/
def stepPt (off : Int) (t : Nat) : Nat := ((t : Int) - off / 65536).toNat

/-- A servo's noted instants follow the step. -/
def Servo.stepped (x : Servo) (off : Int) : Servo :=
  { x with
    since := stepPt off x.since
    best := tmap (fun a => { a with at_ := stepPt off a.at_ }) x.best
    expected := x.expected.map (stepPt off)
    twoStep := x.twoStep.map (fun y => { y with rx := stepPt off y.rx })
    delayTx := x.delayTx.map (fun y => (y.1, y.2.1, y.2.2.map (stepPt off)))
    delayNext := x.delayNext.map (stepPt off) }

/-- The twin's noted instants follow the step. -/
def Twin.stepped (x : Twin) (off : Int) : Twin :=
  { x with
    beatAt := x.beatAt.map (stepPt off), heartAt := x.heartAt.map (stepPt off), hearSince := x.hearSince.map (stepPt off),
    since := stepPt off x.since, outSince := x.outSince.map (stepPt off), nextBeat := stepPt off x.nextBeat,
    nextHeart := stepPt off x.nextHeart }

/-- A pixel-running Quire of Berm service goes on at the first instant of its cadence on the stepped scale (R637). -/
def Quire.stepped (x : Quire) (off : Int) (tb : Rat) : Quire :=
  { x with
    nextK := x.nextK.map (fun _ => ({ epoch := 0, num := 1, den := 15 } : Cadence).first tb.ceil.toNat)
    startAt := stepPt off x.startAt }

/-- What was noted in PT before the step and is measured from there goes on as if node time had run through (log entry 48). -/
def State.stepNotes (s : State) (off : Int) : State :=
  { s with
    time := { s.time with servoA := s.time.servoA.stepped off, servoB := s.time.servoB.stepped off }
    eop := { s.eop with sessions := tmap (fun x => { x with last := stepPt off x.last, evAt := stepPt off x.evAt, evRest := x.evRest.map (fun w => (stepPt off w.1, w.2)) }) s.eop.sessions }
    net := { s.net with
      ring := { s.net.ring with firstRun := s.net.ring.firstRun.map (stepPt off), nextSend := stepPt off s.net.ring.nextSend }
      ports := tmap (fun x => { x with drainAt := stepPt off x.drainAt, pausedUntil := stepPt off x.pausedUntil,
                                       pauseAgain := stepPt off x.pauseAgain }) s.net.ports }
    update := { s.update with transfer := s.update.transfer.map (fun x => { x with last := stepPt off x.last }) }
    twin := s.twin.stepped off
    quires := tmap (fun x => x.stepped off s.tbNow) s.quires }

/-- Node time is set to the master's time. -/
def State.stepNode (s : State) (off : Int) : State :=
  let s1 := { s with
    clk := { s.clk with node := ((s.clk.node : Int) - off).toNat, rem := 0, tb := if s.withdrawn then s.clk.tb + off * 1000000000 else s.clk.tb }
    time := { s.time with stepped := true, toSlew := 0 } }
  ((s1.stepNotes off).bump32 0x413001 0 0).raise 112

/-- The offset that the tests of R48 take: the selected servo's own. Node time does not follow an unselected one, whose domain may
lie any distance away (R56, R62): of it they take what its offset has moved by since its last estimate, beside its master's
frequency (log entry 46). -/
def State.lockOffset (s : State) (d : Nat) (off : Int) : Int :=
  if d = s.selected then off
  else match s.domainTime d with
    | none => 0
    | some m => (s.clk.node : Int) - off - m

/-- A servo takes one filtered offset (node time minus master time, in 2^-16 ns) and one frequency estimate (R48, R52 to R57). The
step of R54 leaves none of the offset. Only an ACQUIRING or LOCKED servo estimates: node time runs at the frozen frequency of a
servo in HOLDOVER (R49). -/
def State.estimate (s : State) (d : Nat) (found freq : Int) : State :=
  let s0 := if s.stepDue d then s.stepNode found else s
  let off : Int := if s.stepDue d then 0 else found
  let s1 := (s0.setVal (oDomain d 7) (ofI 64 off)).setVal (oDomain d 8) (ofI 32 freq)
  let x := s1.servo d
  let dev := s1.lockOffset d off
  let x1 := { x with
    good := if beyond dev 100 then 0 else x.good + 1
    far := if beyond dev 1000 then x.far + 1 else 0
    prev := some ((s1.clk.node : Int) - off, s1.clk.elapsed)
    lockedFreqs := if s.servoState d = 3 then (s1.now, freq) :: x.lockedFreqs else x.lockedFreqs }
  let s2 := s1.setServo d x1
  let s3 := if d = s.selected then
      { s2 with clk := { s2.clk with rate := freq }, time := { s2.time with toSlew := -off * 1000000000 } }
    else s2
  let s4 :=
    if s.servoState d = 2 ∧ 16 ≤ x1.good then s3.setServoState d 3
    else if s.servoState d = 3 ∧ 4 ≤ x1.far then s3.setServoState d 2
    else s3
  (s4.testFar d off).updateDiff

/-- Interval of the selected master's Sync. -/
def State.syncInterval (s : State) (d : Nat) : Nat :=
  match tfind (s.servo d).best (s.sourcePort d) with
  | some a => log2Ns a.data.logSync
  | none => log2Ns (-3)

/-- Servo d takes a PTP message of domainNumber `num` received on port p, over Layer 2 or UDP (R45, R56). -/
def State.takes (s : State) (d num p : Nat) (l2 : Bool) : Bool :=
  s.timeRuns && s.servoState d != 0 && s.val (oDomain d 1) == num && (s.val (oDomain d 3)).testBit p &&
    (s.val (oDomain d 4)).testBit (b2n l2)

/-- No servo takes a message that reaches a running clock: it is dropped and counted (R45). -/
def State.ptpLost (s : State) (num p : Nat) (l2 : Bool) : Bool := s.timeRuns && !s.takes 0 num p l2 && !s.takes 1 num p l2

/-- Servo d takes a message from the port it follows. -/
def State.fromMaster (s : State) (d num p : Nat) (l2 : Bool) : Bool := s.takes d num p l2 && s.sourcePort d == p

/-- A valid Sync: it ends a HOLDOVER whose master it is, restarts the count of missed ones and takes a new slew bound
(R48, R50, R53). -/
def State.syncSeen (s : State) (d : Nat) : State :=
  let s1 := s.holdoverCheck d
  let s2 := if s1.servoState d = 4 then s1.setServoState d 2 else s1
  let s3 := s2.setServo d { s2.servo d with missed := 0, expected := some (s2.now + s2.syncInterval d) }
  if d = s3.selected then { s3 with time := { s3.time with slewPpm := s3.val 0x130004 } } else s3

/-- A Sync of servo d's master. -/
def State.syncFor (s : State) (d dom : Nat) (l2 : Bool) (p at_ seq : Nat) (twoStep : Bool) (master : Nat) (off freq : Int) : State :=
  if s.fromMaster d dom p l2 then
    let s1 := s.syncSeen d
    if s1.sourcePort d ≠ p then s1
    else if twoStep then s1.setServo d { s1.servo d with twoStep := some { port := p, seq := seq, rx := at_ } }
    else (s1.setServo d { s1.servo d with lastSync := some ((at_ : Int) - master) }).estimate d off freq
  else s

/-- SYNC (R45, R48). -/
def execSync (dom : Nat) (l2 : Bool) (p at_ seq : Nat) (twoStep : Bool) (master : Nat) (off freq : Int) (s0 : State) : State :=
  let s := s0.advanceTo at_
  if s.ptpLost dom p l2 then s.bump oPtpDropped 0 0
  else (s.syncFor 0 dom l2 p at_ seq twoStep master off freq).syncFor 1 dom l2 p at_ seq twoStep master off freq

/-- A Follow_Up of servo d's master: it completes the two-step Sync of its sequence number. -/
def State.followUpFor (s : State) (d dom : Nat) (l2 : Bool) (p seq master : Nat) (off freq : Int) : State :=
  if s.fromMaster d dom p l2 then
    match (s.servo d).twoStep with
    | none => s
    | some y =>
      if y.port = p ∧ y.seq = seq then
        (s.setServo d { s.servo d with twoStep := none, lastSync := some ((y.rx : Int) - master) }).estimate d off freq
      else s
  else s

/-- FOLLOW_UP (R45). -/
def execFollowUp (dom : Nat) (l2 : Bool) (p at_ seq master : Nat) (off freq : Int) (s0 : State) : State :=
  let s := s0.advanceTo at_
  if s.ptpLost dom p l2 then s.bump oPtpDropped 0 0
  else (s.followUpFor 0 dom l2 p seq master off freq).followUpFor 1 dom l2 p seq master off freq

/-- An Announce that servo d takes (R45, R47). A master whose logSyncInterval lies outside -7 to +1 is not selected, nor stays so. -/
def State.announceFor (s : State) (d dom : Nat) (l2 : Bool) (p : Nat) (a : Announce) : State :=
  if s.takes d dom p l2 then
    let s1 := s.holdoverCheck d
    let x := s1.servo d
    let same := match tfind x.best p with
      | some b => b.data.sender == a.sender
      | none => false
    if a.logSync < -7 ∨ 1 < a.logSync then
      (if same then (s1.setServo d { x with best := tdel x.best p }).reselect d else s1)
    else
      let keep := match tfind x.best p with
        | some b => b.acceptable dom (s.val (oDomain d 3)) (s.val (oDomain d 4)) p && !same && !announceBetter a p b.data p
        | none => false
      if keep then s1
      else (s1.setServo d { x with best := tins x.best p { data := a, dom := dom, l2 := l2, at_ := s1.now } }).reselect d
  else s

/-- ANNOUNCE (R45, R47). -/
def execAnnounce (dom : Nat) (l2 : Bool) (p at_ : Nat) (a : Announce) (s0 : State) : State :=
  let s := s0.advanceTo at_
  if s.ptpLost dom p l2 then s.bump oPtpDropped 0 0
  else (s.announceFor 0 dom l2 p a).announceFor 1 dom l2 p a

/-- A Delay_Resp that servo d takes (R45): the mean path delay, once its request has left the pins (R42), and the Delay_Req
interval clamped to 2^-4 to 2^5 s. -/
def State.delayRespFor (s : State) (d dom : Nat) (l2 : Bool) (p seq receipt : Nat) (logInterval : Int) : State :=
  if s.takes d dom p l2 then
    let x := s.servo d
    match x.delayTx with
    | some (q, n, some t3) =>
      if q = p ∧ n = seq then
        let mean : Int := ((x.lastSync.getD 0) + ((receipt : Int) - t3)) / 2
        let s1 := s.setServo d { x with delayTx := none, delayLog := clampI (-4) 5 logInterval }
        s1.setVal (oDomain d 9) ((clampI 0 (2 ^ 32 - 1) mean).toNat)
      else s
    | _ => s
  else s

/-- DELAY_RESP (R45). -/
def execDelayResp (dom : Nat) (l2 : Bool) (p seq receipt : Nat) (logInterval : Int) (s : State) : State :=
  if s.ptpLost dom p l2 then s.bump oPtpDropped 0 0
  else (s.delayRespFor 0 dom l2 p seq receipt logInterval).delayRespFor 1 dom l2 p seq receipt logInterval

/-- A Delay_Req message (44 bytes). -/
def delayReqBytes (domain seq : Nat) : List Byte :=
  beBytes 1 0x01 ++ beBytes 1 0x02 ++ beBytes 2 44 ++ beBytes 1 domain ++ beBytes 15 0 ++ uidBytes ++ beBytes 2 1 ++
    beBytes 2 seq ++ beBytes 1 1 ++ beBytes 1 0x7F ++ beBytes 10 0

/-- DELAY_REQ_SEND (R45, R604, R606): over UDP whenever the domain's TRANSPORTS name it (log entry 78). It is timestamped when it
leaves the pins (R42, State.wire). -/
def execDelayReqSend (d : Nat) (s0 : State) : State :=
  let s := match (s0.servo d).delayNext with
    | some t => s0.advanceTo t
    | none => s0
  let p := s.sourcePort d
  if s.timeRuns && d ≤ 1 && p < 4 then
    let x := s.servo d
    let udp := (s.val (oDomain d 4)).testBit 0
    let f : TxFrame := { kind := .delayReq, dstMac := if udp then 0x01005E000181 else 0x011B19000000,
                         dstIp := if udp then 0xE0000181 else 0, dstUdp := if udp then 319 else 0, vid := s.ctlVid p,
                         pcp := s.ctlPcp p, bytes := delayReqBytes (s.val (oDomain d 1)) x.delaySeq, srcUdp := 319 }
    let s1 := s.setServo d { x with delayTx := some (p, x.delaySeq, none), delaySeq := (x.delaySeq + 1) % 65536,
                                    delayNext := some (s.now + log2Ns x.delayLog) }
    s1.offer p 7 f
  else s

/-- SYNC_MISSED (R48): an expected Sync instant passes without a Sync. -/
def execSyncMissed (d : Nat) (s : State) : State :=
  if decide (d ≤ 1) && s.timeRuns then
    match (s.servo d).expected with
    | none => s
    | some e =>
      let s1 := s.advanceTo e
      let x := s1.servo d
      let s2 := s1.setServo d { x with missed := x.missed + 1, expected := some (e + s1.syncInterval d) }
      if s2.servoState d = 3 ∧ 4 ≤ x.missed + 1 then s2.setServoState d 4 else s2
  else s

/-- ANNOUNCE_TIMEOUT (R48): the receipt timeout of a port's best Announce ends at its receipt plus ANNOUNCE_TIMEOUT intervals. -/
def execAnnounceTimeout (d p : Nat) (s : State) : State :=
  if decide (d ≤ 1) && s.timeRuns then
    match tfind (s.servo d).best p with
    | none => s
    | some a =>
      let s1 := s.advanceTo (a.at_ + s.val (oDomain d 5) * log2Ns a.data.logAnnounce)
      let x := s1.servo d
      let s2 := s1.setServo d { x with best := tdel x.best p }
      if s1.sourcePort d = p then
        let s3 := (s2.setServo d { s2.servo d with expected := none }).setVal (oDomain d 0x0B) 0xFF
        (if s3.servoState d = 3 then s3.setServoState d 4 else s3).reselect d
      else s2
  else s

/-- HOLDOVER_EXPIRY (R50). -/
def execHoldoverExpiry (d : Nat) (s : State) : State :=
  if d ≤ 1 ∧ s.servoState d = 4 then (s.advanceTo (s.holdoverDue d)).holdoverEnd d else s

/-- DOMAIN_REVERT (R59). -/
def execDomainRevert (s : State) : State :=
  let m := s.val oDomainMode
  match s.time.preferSince with
  | none => s
  | some t =>
    if 2 ≤ m ∧ s.val 0x130006 = 1 ∧ s.selected ≠ modeDomain m then
      let s1 := (s.advanceTo (t + s.val 0x130007 * 1000000000)).timedFirst
      let d := modeDomain (s1.val oDomainMode)
      if s1.selected = d ∨ s1.servoState d ≠ 3 then s1 else s1.switchTo d
    else s

/-! ## Timed switches (R61, R62) -/

/-- The write of OD 0x1300.09 (R61): pending until its tick, tested at once when that has passed. -/
def writeSwitchAt (v : Row) (s : State) : State :=
  let target := v.headD 0
  let at_ := ptNs (v.getD 1 0)
  let s1 := ({ s with time := { s.time with switchAt := some (target, at_) } }.setRow 0x130009 0 v).setVal oSwitchResult 1
  if at_ ≤ s.now then s1.timedTest target else s1

/-- TIMED_SWITCH. -/
def execTimedSwitch (s : State) : State :=
  match s.time.switchAt with
  | none => s
  | some (target, at_) => (s.advanceTo (tickUp at_)).timedTest target

/-! ## Writes of the time objects -/

/-- A write of DOMAIN_MODE (R58): a manual mode follows its domain at once, an automatic one is tested under R59. An automatic mode
written while the other domain is selected and LOCKED leaves it by the revert of R59 only (log entry 78). -/
def afterDomainMode (s : State) : State :=
  let m := s.val oDomainMode
  if m < 2 ∧ s.selected ≠ m then (s.trackPreferred).switchTo m else s.trackPreferred.autoSwitch

/-- A write of a domain's ENABLE (R48). -/
def afterDomainEnable (d : Nat) (s : State) : State :=
  if s.val (oDomain d 2) = 0 then
    ((s.setServo d { s.servo d with best := [], expected := none, twoStep := none }).setVal (oDomain d 0x0B) 0xFF).setServoState d 0
  else if s.servoState d = 0 then s.setServoState d 1 else s

/-- The servos start on the settings' rows (R635, R637): the selected domain is the mode's (R58), unless R59 leaves it. A change of
the selected domain raises event 113 (R82). -/
def State.timeStart (s : State) : State :=
  let d := modeDomain (s.val oDomainMode)
  let s1 := if s.selected = d then s else s.switchTo d
  ((afterDomainEnable 1 (afterDomainEnable 0 s1)).trackPreferred.autoSwitch).updateNode

/-- The servos, which have run since Berm service, go on under the rows of full service: a row that has changed acts as a write of it
does (R58, R59), and an automatic mode stays on the domain it has selected. -/
def State.timeGoesOn (s : State) : State := (afterDomainMode (afterDomainEnable 1 (afterDomainEnable 0 s))).updateNode

/-- SNAP_GO (R43). -/
def snapWrite (v : Word) (s : State) : State :=
  if v.getLsbD 0 then { s with time := { s.time with snap := s.clk.node } } else s

/-! ## Pulse outputs (R70 to R76) -/

def Pulse.init : Pulse := { k := 0, emitted := 0, active := false, row := [], waiting := false, task := none }

def State.pulse (s : State) (r : Nat) : Pulse := tget Pulse.init s.time.pulses r

def State.setPulse (s : State) (r : Nat) (p : Pulse) : State :=
  { s with time := { s.time with pulses := tset Pulse.init s.time.pulses r p } }

/-- Columns of a pulse row. -/
def pMode (v : Row) : Nat := v.getD 0 0
def pStart (v : Row) : Nat := ptNs (v.getD 2 0)
def pNum (v : Row) : Nat := v.getD 3 0
def pDen (v : Row) : Nat := v.getD 4 0
def pWidth (v : Row) : Nat := v.getD 5 0
def pCount (v : Row) : Nat := v.getD 6 0

/-- R70 and R72: the period and width of a row. -/
def pulseOk (v : Row) : Bool :=
  match pMode v with
  | 0 => true
  | 1 => decide (8 ≤ pWidth v) && decide (pWidth v ≤ 1000000000)
  | _ =>
    let q := pNum v * 1000000000 / pDen v
    decide (0 < pNum v) && decide (0 < pDen v) && decide (pDen v ≤ 25000000 * pNum v) && decide (pNum v ≤ 1000 * pDen v) &&
      (pWidth v == 0 || (decide (8 ≤ pWidth v) && decide (pWidth v + 8 ≤ q)))

/-- Tick of rising edge k of a periodic row (R71). -/
def pulseRise (v : Row) (k : Nat) : Nat := tickAt (pStart v * pDen v + k * pNum v * 1000000000) (pDen v)

/-- Tick of falling edge k (R71, R72: width 0 is half the exact period). -/
def pulseFall (v : Row) (k : Nat) : Nat :=
  if pWidth v = 0 then tickAt (2 * pStart v * pDen v + (2 * k + 1) * pNum v * 1000000000) (2 * pDen v)
  else tickAt (pStart v * pDen v + k * pNum v * 1000000000 + pWidth v * pDen v) (pDen v)

/-- STATE of pulse row r (OD 0x1310). -/
def State.pulseState (s : State) (r : Nat) : Nat := s.fld oPulse r 7

def State.setPulseState (s : State) (r st : Nat) : State := s.setFld oPulse r 7 st

/-- Arm the row that OD 0x1310 holds at the exact instant n/m (R70 to R74), for a Weir task if there is one. -/
def State.armPulse (s : State) (r : Nat) (task : Option Nat) (n m : Nat) : State :=
  let v := s.row oPulse r
  let idle : Pulse := { Pulse.init with row := v, task := task }
  match pMode v with
  | 0 => ((s.setPulse r Pulse.init).setPulseState r 0).completeOpt task stOk
  | 1 =>
    if pStart v * m < n + 2000 * m then
      ((((s.setPulse r Pulse.init).setPulseState r 4).bump32 0x413004 0 0).raise 114).completeOpt task stTimeout
    else (s.setPulse r idle).setPulseState r 1
  | _ =>
    let c : Cadence := { epoch := pStart v, num := pNum v, den := pDen v }
    let x := { idle with k := c.firstAt n m, task := if pCount v = 0 then none else task }
    let s1 := (s.setPulse r x).setPulseState r 1
    if pCount v = 0 then s1.completeOpt task stOk else s1

/-- A row has been written to OD 0x1310 (R74, R75): a running or draining periodic row ends at its period, any other is armed at
once. A task whose pulse is replaced completes CANCELLED (log entry 15), and an output that is active completes its width
(log entry 78). -/
def State.pulseWritten (s : State) (r : Nat) (task : Option Nat) : State :=
  let st := s.pulseState r
  let x := s.pulse r
  let v := s.row oPulse r
  if (st = 2 ∨ st = 5) ∧ pMode x.row = 2 then
    if pMode v = 0 then
      (((s.completeOpt x.task stCancelled).setPulse r { x with waiting := false, task := none }).setPulseState r 5).completeOpt task stOk
    else ((s.completeOpt x.task stCancelled).setPulse r { x with waiting := true, task := task })
  else (s.completeOpt x.task stCancelled).armPulse r task s.now 1

/-- PULSE_EDGE (R71, R73 to R75): the next edge of an output, or the end of a period at which a row waits. A periodic row reaches its
COUNT at its last inactive edge (log entry 78), also while another row waits. -/
def execPulseEdge (r : Nat) (s : State) : State :=
  let x := s.pulse r
  let v := x.row
  let st := s.pulseState r
  if st = 0 ∨ st = 3 ∨ st = 4 then s
  else if pMode v = 1 then
    if x.active then
      let s1 := s.advanceTo (tickUp (pStart v + pWidth v))
      (s1.setPulse r { x with active := false }).setPulseState r 3
    else
      let s1 := s.advanceTo (tickUp (pStart v))
      (((s1.setPulse r { x with active := true, task := none }).setPulseState r 2).raise 114).completeOpt x.task stOk
  else if x.active then
    let s1 := s.advanceTo (pulseFall v x.k)
    let n := x.emitted + 1
    let s2 := s1.setPulse r { x with active := false, k := x.k + 1, emitted := n }
    if pCount v ≠ 0 ∧ pCount v = n then
      let s3 := s2.raise 114
      if st = 2 ∧ !x.waiting then
        ((s3.setPulse r { s2.pulse r with task := none }).setPulseState r 3).completeOpt x.task stOk
      else s3
    else s2
  else if st = 5 ∨ x.waiting then
    let s1 := s.advanceTo (pulseRise v x.k)
    if x.waiting then s1.armPulse r x.task (pStart v * pDen v + x.k * pNum v * 1000000000) (pDen v)
    else (s1.setPulse r Pulse.init).setPulseState r 0
  else
    let s1 := s.advanceTo (pulseRise v x.k)
    (s1.setPulse r { x with active := true }).setPulseState r 2

/-- The edge of output r that is due by now, if any, has come: the rise or fall of a pulse, or the end of a period. -/
def State.pulseCome (s : State) (r : Nat) : State :=
  let x := s.pulse r
  let st := s.pulseState r
  if st = 0 ∨ st = 3 ∨ st = 4 ∨ pMode x.row ≠ 2 then s
  else if (if x.active then pulseFall x.row x.k else pulseRise x.row x.k) ≤ s.now then execPulseEdge r s else s

/-- A row v is written to OD 0x1310 at its instant: an edge and a period end that lie at or before it come first, so that a write exactly
at the end of a period belongs to the next one (R13, R74). -/
def State.writePulseRow (s : State) (r : Nat) (v : Row) (task : Option Nat) : State :=
  (((s.pulseCome r).pulseCome r).setRow oPulse r v).pulseWritten r task

/-- The next edge of output r is due by now: a ONESHOT's first edge, or the edge that ends a pulse of a PERIODIC row. -/
def State.pulseDue (s : State) (r : Nat) : Bool :=
  let x := s.pulse r
  let st := s.pulseState r
  (st == 1 || st == 2) &&
    (if pMode x.row = 1 then !x.active && decide (tickUp (pStart x.row) ≤ s.now) else x.active && decide (pulseFall x.row x.k ≤ s.now))

/-- An edge of output r that is due has come, whatever else is done in its tick (R424). -/
def State.pulseSettle (s : State) (r : Nat) : State := if s.pulseDue r then execPulseEdge r s else s

/-! ## Capture inputs (R77 to R81) -/

def State.captures (s : State) (i : Nat) : List Row := tget [] s.time.captures i

def State.setCaptures (s : State) (i : Nat) (xs : List Row) : State :=
  { s with time := { s.time with captures := tset [] s.time.captures i xs } }

/-- TSI_EDGE (R77 to R80): an edge of input i whose level lasts `width` ns. A level shorter than 8 ns takes the timestamp from the
edge that begins it and from the edge that ends it, and is counted once (R78). -/
def execTsiEdge (i at_ frac : Nat) (falling : Bool) (width : Nat) (s0 : State) : State :=
  let s := s0.advanceTo at_
  if !s.full || decide (4 ≤ i) then s
  else
    let after := tget false s.time.glitch i
    let s := { s with time := { s.time with glitch := tset false s.time.glitch i (decide (width < 8)) } }
    if width < 8 then s.bump32 0x413006 0 0
    else if after then s
    else if (s.fld 0x132000 i 0).testBit (b2n falling) then
      let xs := s.captures i
      if 16 ≤ xs.length then (s.bump32 0x413005 0 0).raise 115
      else
        let s1 := s.setCaptures i (xs ++ [[nsPt at_, frac % 65536, b2n falling, s.val oNodeState]])
        if xs.isEmpty then s1.raise 115 else s1
    else s

end Sys2Proof.Machine
end

