-- ==== Sys2Proof/Machine/Ingest.lean ====
section
/-! DEFINITION. The flow table, fences, Folios and rings, ST 2110-20 receive and sACN universes (R84 to R132, R703). -/

namespace Sys2Proof.Machine

/-! ## Objects -/

def oFlow : Nat := 0x140000
def oFlowEnable : Nat := 0x140100
def oFlowState : Nat := 0x140200
def oFlowReason : Nat := 0x140300
def oVideo : Nat := 0x200000
def oUniverse : Nat := 0x200100
def oFence : Nat := 0x201000
def oProducer : Nat := 0x201100
def oFolio : Nat := 0x202000
def oRing : Nat := 0x202100
def oHistory : Nat := 0x202200
def oUniStatus : Nat := 0x203000
def oFlowCnt : Nat := 0x414100

/-- Raise event 70 at most once in the millisecond (R131). -/
def State.ingestDrop (s : State) : State := s.raiseMs 70

/-- Count a drop of flow row r in a column of OD 0x4141. These are the drops of R131 (log entry 79). -/
def State.flowDrop (s : State) (r c : Nat) : State := (s.bump oFlowCnt r c).ingestDrop

/-! ## Fences (R94 to R97) -/

/-- R94: fence value f has reached v. -/
def reached (f v : Nat) : Bool := decide ((f + 2 ^ 32 - v % 2 ^ 32) % 2 ^ 32 < 2 ^ 31)

def State.fence (s : State) (f : Nat) : Nat := s.fld oFence f 0

/-- Producer of a fence: 0 host, 1 flow, 2 writeback A, 3 writeback B (OD 0x2011). -/
def State.producer (s : State) (f : Nat) : Nat := s.fld oProducer f 0

/-- A test at instant t, in 10^-9 of 2^-16 ns of the timebase, sees a fence as it was before a change of that same instant (R13, R97). -/
def State.fenceSeen (s : State) (f : Nat) (t : Int) : Nat :=
  match tfind s.ingest.edges f with
  | some e => if t ≤ e.at_ then e.before else s.fence f
  | none => s.fence f

/-- Give a fence a new value, and note the change (R97). -/
def State.setFence (s : State) (f v : Nat) : State :=
  let e : FenceEdge := { at_ := s.tbUnits, before := s.fenceSeen f s.tbUnits }
  { s with ingest := { s.ingest with edges := tins s.ingest.edges f e } }.setFld oFence f 0 v

/-- The producer advances a fence by 1. -/
def State.advanceFence (s : State) (f : Nat) : State := s.setFence f ((s.fence f + 1) % 2 ^ 32)

/-- The check of a host write to a fence (R96), after its range: 0 when it passes. -/
def fenceCheck (s : State) (f v : Nat) : Nat :=
  if s.producer f ≠ 0 then stState else if reached v (s.fence f) then stOk else stRange

/-! ## Flow rows (R84 to R88, R703) -/

/-- PORT_MASKs of the enabled domains whose TRANSPORTS include bit t. -/
def ptpPorts (s : State) (t : Nat) : Nat :=
  let one := fun d => if s.val (oDomain d 2) = 1 ∧ (s.val (oDomain d 4)).testBit t then s.val (oDomain d 3) else 0
  one 0 ||| one 1

/-- Some domain is enabled with transport bit t. -/
def ptpOn (s : State) (t : Nat) : Bool :=
  [0, 1].any (fun d => s.val (oDomain d 2) == 1 && (s.val (oDomain d 4)).testBit t)

/-- Device rows 0 to 7 of OD 0x1400 with the values in force (R703). -/
def deviceFlow (s : State) (r : Nat) : Row :=
  match r with
  | 0 => [3, if s.berm then 0x0C &&& s.val 0x110004 else s.val 0x110004, 0xFFFF, 0x0800, s.val 0x110101, 0, s.val 0x110001, 32, 0]
  | 1 => [5, 0x0C, 0xFFFF, 0x0800, 0xFFFFFFFF, 0, s.val 0x110001, 35, 0]
  | 2 => [4, ptpPorts s 0, 0xFFFF, 0x0800, 0xE0000181, 0, 319, 33, 0]
  | 3 => [4, ptpPorts s 0, 0xFFFF, 0x0800, 0xE0000181, 0, 320, 33, 0]
  | 4 => [4, ptpPorts s 1, 0xFFFF, 0x88F7, 0, 0, 0, 33, 0]
  | 5 => [6, 0x0C, 0xFFFF, 0x0800, s.val 0x110101, s.val 0x121006, s.val 0x110001, 34, 0]
  | _ => [0, 0, 0, 0, 0, 0, 0, 0, 0]

/-- A device row is ENABLED (R703). -/
def deviceOn (s : State) (r : Nat) : Bool :=
  match r with
  | 0 => s.timeRuns
  | 1 => s.timeRuns
  | 2 => s.timeRuns && ptpOn s 0
  | 3 => s.timeRuns && ptpOn s 0
  | 4 => s.timeRuns && ptpOn s 1
  | 5 => s.timeRuns && s.val 0x121001 == 1
  | _ => false

/-- A flow row as it reads (R85, R703). -/
def State.flowShown (s : State) (r : Nat) : Row := if r < 8 then deviceFlow s r else s.row oFlow r

def Flow.init : Flow := { latched := false, frame := none, closedTs := none, nextSeq := none, advances := [], badAt := none }

def State.flow (s : State) (r : Nat) : Flow := tget Flow.init s.ingest.flows r

def State.setFlow (s : State) (r : Nat) (x : Flow) : State :=
  { s with ingest := { s.ingest with flows := tset Flow.init s.ingest.flows r x } }

/-- The 64-byte context of flow r as it stands in the Vault after this write (R22); its layout is free (log entry 79). -/
def State.writeContext (s : State) (r : Nat) : State :=
  { s with ingest := { s.ingest with
      contexts := s.ingest.contexts.put (64 * r) ((List.range 64).map (Config.contextByte 1 s.ingest.writes))
      writes := s.ingest.writes + 1 } }

/-- The row in force of a flow. -/
def State.flowRow (s : State) (r : Nat) : Row :=
  if 8 ≤ r ∧ !(s.flow r).held.isEmpty then (s.flow r).held else s.flowShown r

/-- State of flow r: 0 DISABLED, 1 ENABLED, 2 DRAINING. -/
def State.flowState (s : State) (r : Nat) : Nat := if r < 8 then b2n (deviceOn s r) else s.fld oFlowState r 0 % 16 % 4

/-- A VIDEO flow is SEEKING. -/
def State.seeking (s : State) (r : Nat) : Bool := (s.fld oFlowState r 0).testBit 4

def State.setFlowState (s : State) (r st : Nat) (seek : Bool) : State := s.setFld oFlowState r 0 (st + 16 * b2n seek)

/-- Columns of a flow row. -/
def fwType (v : Row) : Nat := v.getD 0 0
def fwPorts (v : Row) : Nat := v.getD 1 0
def fwQueue (v : Row) : Nat := v.getD 7 0
def fwIndex (v : Row) : Nat := v.getD 8 0

/-- Rows that are ENABLED or DRAINING, ascending: device rows and those listed in OD 0x1402. -/
def State.liveFlows (s : State) : List Nat :=
  (List.range 8).filter (deviceOn s) ++ ((tget [] s.od oFlowState).map (fun e => e.1)).filter (fun r => decide (8 ≤ r) && s.flowState r != 0)

/-- A non-wildcard field equals. -/
def fieldEq (wild x y : Nat) : Bool := x == wild || x == y

/-- Number of non-wildcard fields of a row (R86); the IP fields of a Layer 2 row are wildcards (R602). -/
def specificity (v : Row) : Nat :=
  b2n (v.getD 2 0 != 0xFFFF) + 1 +
    (if v.getD 3 0 = 0x0800 then b2n (v.getD 4 0 != 0) + b2n (v.getD 5 0 != 0) + b2n (v.getD 6 0 != 0) else 0)

/-- What of a packet the flow table compares. -/
structure FlowKey where
  port : Nat
  vlan : Nat
  etype : Nat
  dst  : Nat
  src  : Nat
  udp  : Nat
  deriving DecidableEq, Repr

/-- A row matches a packet (R86). A Layer 2 frame takes the IP fields as wildcards (R602). -/
def flowMatches (v : Row) (k : FlowKey) : Bool :=
  (fwPorts v).testBit k.port && fieldEq 0xFFFF (v.getD 2 0) k.vlan && v.getD 3 0 == k.etype &&
  (k.etype != 0x0800 || (fieldEq 0 (v.getD 4 0) k.dst && fieldEq 0 (v.getD 5 0) k.src && fieldEq 0 (v.getD 6 0) k.udp))

/-- The device rows' VLAN check (R602). -/
def deviceVlanOk (s : State) (p vlan : Nat) : Bool := s.ctlVid p == 0xFFFF || s.ctlVid p == vlan

/-- A device row that changed its state since `old` raises event 67 (R131). -/
def State.deviceEvents (s old : State) : State :=
  (List.range 8).foldl (fun t r => t.raiseIf (deviceOn old r != deviceOn s r) 67) s

/-- Best matching row: most non-wildcard fields, then the lowest number (R86). -/
def State.matchFlow (s : State) (k : FlowKey) : Option Nat :=
  (s.liveFlows.filter (fun r => flowMatches (s.flowRow r) k && (decide (8 ≤ r) || deviceVlanOk s k.port k.vlan))).foldl
    (fun best r => match best with
      | none => some r
      | some b => if specificity (s.flowRow b) < specificity (s.flowRow r) then some r else some b) none

/-! ## Folios and rings (R98 to R105) -/

/-- Bytes per pixel of a FORMAT (R146). -/
def formatBytes (f : Nat) : Nat := match f with
  | 0 => 2
  | 1 => 3
  | _ => 4

/-- R98 and R533: the run of a Folio row. -/
def folioRunOk (s : State) (v : Row) : Bool :=
  s.runOk (v.getD 0 0) (v.getD 1 0 * (v.getD 3 0 - 1) + v.getD 2 0 * formatBytes (v.getD 4 0))

/-- COUNT and the Folio row of entry k of ring r (R99). -/
def State.ringCount (s : State) (r : Nat) : Nat := s.fld oRing r 0
def State.ringFolio (s : State) (r k : Nat) : Nat := s.fld oRing r (1 + k)

/-- Folio rows of a ring. -/
def State.ringFolios (s : State) (r : Nat) : List Nat := (List.range (s.ringCount r)).map (s.ringFolio r)

/-- Entries of ring r with a complete frame: entry and fence value (R105). -/
def State.ringComplete (s : State) (r : Nat) : List (Nat × Nat) :=
  ((List.range (s.ringCount r)).filter (fun k => s.fld oHistory (4 * r + k) 0 == 1)).map (fun k => (k, s.fld oHistory (4 * r + k) 1))

/-- The entry that holds the newest complete frame (R143). -/
def State.newest (s : State) (r : Nat) : Option Nat :=
  ((s.ringComplete r).find? (fun e => (s.ringComplete r).all (fun x => reached e.2 x.2))).map (fun e => e.1)

/-- Folio rows that the heads hold (R102): those a queued commit names and those of the layers on the head. -/
def State.heldBy (s : State) (h : Nat) : List Nat :=
  let hd := tfind s.disp.heads h
  let q := match hd with
    | none => []
    | some x => ((x.enable.toList ++ x.queue).flatMap (fun c => c.folios ++ c.chosen.map (fun e => e.2)))
  q ++ ((List.range 32).filter (fun l => s.fld 0x210200 l 0 == h + 1)).map (fun l => s.fld 0x210200 l 1)

/-- A head holds Folio row f. -/
def State.folioHeld (s : State) (f : Nat) : Bool := (s.heldBy 0).contains f || (s.heldBy 1).contains f

/-- R103: the entry of ring r that a new frame fills. -/
def State.selectEntry (s : State) (r : Nat) : Option Nat :=
  let n := s.ringCount r
  let start := tget 0 s.ingest.ringLast r
  ((List.range n).map (fun i => (start + i) % n)).find?
    (fun k => !s.folioHeld (s.ringFolio r k) && s.newest r != some k)

/-- Select entry k of ring r: its history entry is cleared (R105). -/
def State.takeEntry (s : State) (r k : Nat) : State :=
  { s with ingest := { s.ingest with ringLast := tset 0 s.ingest.ringLast r (k + 1) } }.setRow oHistory (4 * r + k) [0, 0, 0, 0, 0]

/-- FORMAT that a sampling produces (R109). -/
def samplingFormat (m : Nat) : Nat := if m = 1 then 2 else 5

/-- The Folio checks of R101 for video row v. -/
def folioChecks (s : State) (v : Row) : Bool :=
  let fs := s.ringFolios (v.getD 6 0)
  let fence := s.fld oFolio (fs.headD 0) 5
  fence != 0xFF && fs.all (fun f =>
    let x := s.row oFolio f
    x.getD 2 0 == v.getD 0 0 && x.getD 3 0 == v.getD 1 0 && x.getD 4 0 == samplingFormat (v.getD 2 0) &&
    decide (4 * x.getD 2 0 ≤ x.getD 1 0) && x.getD 5 0 == fence)

/-- The fence that a ring's frames advance. -/
def State.ringFence (s : State) (r : Nat) : Nat := s.fld oFolio (s.ringFolio r 0) 5

/-- Ring of a VIDEO flow row. -/
def State.flowRing (s : State) (r : Nat) : Nat := s.fld oVideo (fwIndex (s.flowRow r)) 6

/-! ## Enabling and draining a flow (R89 to R93) -/

/-- Same match fields and a shared port (R93 reason 1). -/
def sameMatch (a b : Row) : Bool :=
  a.getD 2 0 == b.getD 2 0 && a.getD 3 0 == b.getD 3 0 && a.getD 4 0 == b.getD 4 0 && a.getD 5 0 == b.getD 5 0 &&
  a.getD 6 0 == b.getD 6 0 && (fwPorts a &&& fwPorts b) != 0

/-- The lowest reason that refuses an enable of flow r, 0 when none holds (R93). -/
def State.flowReason (s : State) (r : Nat) : Nat :=
  let v := s.flowRow r
  let others := (s.liveFlows.filter (· != r)).map s.flowRow
  let video := fwType v == 1
  let sacn := fwType v == 2
  let i := fwIndex v
  if others.any (sameMatch v) then 1
  else if (video && (decide (7 < i) || others.any (fun o => fwType o == 1 && fwIndex o == i))) ||
          (sacn && (decide (255 < i) || others.any (fun o => fwType o == 2 && fwIndex o == i))) then 2
  else if video && !folioChecks s (s.row oVideo i) then 3
  else if video && s.producer (s.ringFence (s.fld oVideo i 6)) != 0 then 4
  else if video && (fwPorts v &&& 0x0C) != 0 then 5
  else if video && decide (8 ≤ (others.filter (fun o => fwType o == 1)).length) then 6
  else if fwType v == 0 then 7
  else 0

/-- Status of a refused enable. -/
def reasonStatus (n : Nat) : Nat := if n = 0 then stOk else if n = 6 then stResource else stState

/-- Try to enable flow r: ENABLED, its counters from 0 (R132), or DISABLED with the reason held; event 67 either way. -/
def State.tryEnableFlow (s : State) (r : Nat) : State :=
  let n := s.flowReason r
  let s1 := s.setFld oFlowReason r 0 n
  if n = 0 then
    let video := fwType (s.flowRow r) == 1
    let s2 := ((s1.setFlow r { Flow.init with advances := (s.flow r).advances, badAt := (s.flow r).badAt }).setRow oFlowCnt r
      (dfltRow oFlowCnt r)).setFlowState r 1 video
    let s3 := if video then s2.setFld oProducer (s.ringFence (s.flowRing r)) 0 1 else s2
    (s3.writeContext r).raise 67
  else (s1.setFlowState r 0 false).raise 67

/-- The drain of flow r completes: DISABLED, its fence returns to the host, and a latched enable is tested (R91, R95). -/
def State.flowDisabled (s : State) (r : Nat) : State :=
  let x := s.flow r
  let s1 := if fwType (s.flowRow r) = 1 then s.setFld oProducer (s.ringFence (s.flowRing r)) 0 0 else s
  let s2 := ((s1.setFlow r { x with latched := false, frame := none, held := [] }).setFlowState r 0 false).raise 67
  if x.latched then s2.tryEnableFlow r else s2

/-- R90: nothing more is to come of flow r. -/
def State.flowDrained (s : State) (r : Nat) : Bool :=
  if fwType (s.flowRow r) = 1 then (s.flow r).frame.isNone else s.qCount (fwQueue (s.flowRow r)) == 0

/-- Start the drain of flow r; a VIDEO flow with no open frame ends it at once (R90). -/
def State.drainFlow (s : State) (r : Nat) : State :=
  let s1 := (s.setFlowState r 2 (s.seeking r)).raise 67
  if fwType (s.flowRow r) = 1 ∧ (s.flow r).frame.isNone then s1.flowDisabled r else s1

/-- A write of FLOW_ENABLE (R89, R91, R93). The value is stored by the caller. -/
def writeFlowEnable (r v : Nat) (s : State) : WRes :=
  match s.flowState r with
  | 0 =>
    if v = 1 then
      let s1 := s.tryEnableFlow r
      { status := reasonStatus (s.flowReason r), handle := 0, st := s1 }
    else done s
  | 1 => if v = 0 then done (s.drainFlow r) else done s
  | _ => done (s.setFlow r { s.flow r with latched := v == 1 })

/-- FLOW_DRAIN_DONE (R90, R91). -/
def execFlowDrainDone (r : Nat) (s : State) : State :=
  if 8 ≤ r ∧ s.flowState r = 2 ∧ s.flowDrained r then s.flowDisabled r else s

/-- Enables loaded at the start of full service, in ascending row order (R93). -/
def State.loadFlowEnables (s : State) : State :=
  (((tget [] s.od oFlowEnable).filter (fun e => decide (8 ≤ e.1) && decide (e.1 < 4096))).map (fun e => e.1)).foldl State.tryEnableFlow s

/-- An ENABLED or DRAINING flow of type t names row i in its INDEX (R100). -/
def State.indexLive (s : State) (t i : Nat) : Bool :=
  s.liveFlows.any (fun r => fwType (s.flowRow r) == t && fwIndex (s.flowRow r) == i)

/-- Ring r belongs to an ENABLED or DRAINING VIDEO flow (R100). -/
def State.ringLive (s : State) (r : Nat) : Bool :=
  s.liveFlows.any (fun f => fwType (s.flowRow f) == 1 && s.flowRing f == r)

/-- Folio f belongs to such a ring. -/
def State.folioLive (s : State) (f : Nat) : Bool :=
  (List.range 32).any (fun r => s.ringLive r && (s.ringFolios r).contains f)

/-! ## Pixels (R107 to R111) -/

/-- Bits of a byte string from bit `i` (most significant first), `n` of them. -/
def bitsAt (bs : List Byte) (i n : Nat) : Nat :=
  let k := (i + n + 7) / 8
  (beNat (bs.take k) / 2 ^ (8 * k - i - n)) % 2 ^ n

/-- Octets and pixels of a pixel group (R107). -/
def groupOctets (m : Nat) : Nat := match m with
  | 0 => 5
  | 1 => 3
  | _ => 15

def groupPixels (m : Nat) : Nat := match m with
  | 0 => 2
  | 1 => 1
  | _ => 4

/-- A code within the tolerance of R110: the real-arithmetic value rounded, with a free deviation of at most 1. -/
def tolerant (top : Int) (exact : Rat) (dev : Int) : Nat :=
  (clampI 0 top (roundHalfUp (clampR 0 1 exact * top) + clampI (-1) 1 dev)).toNat

/-- The deviation of a converted YCbCr code: a free function of the operands (log entry 7). -/
def ycDev (matrix range ch y cb cr : Nat) : Int :=
  Config.freeInt (2 ^ 64 + ((((matrix * 2 + range) * 4 + ch) * 1024 + y) * 1024 + cb) * 1024 + cr)

/-- R110: one pixel of a YCbCr group as an ARGB2101010 word. -/
def ycWord (matrix range y cb cr : Nat) : Nat :=
  let yy : Rat := if range = 0 then ((y : Int) - 64 : Int) / 876 else (y : Rat) / 1023
  let d : Rat := if range = 0 then 896 else 1023
  let b : Rat := (((cb : Int) - 512 : Int) : Rat) / d
  let r : Rat := (((cr : Int) - 512 : Int) : Rat) / d
  let rr := if matrix = 0 then yy + 15748 / 10000 * r else yy + 14746 / 10000 * r
  let gg := if matrix = 0 then yy - 1873 / 10000 * b - 4681 / 10000 * r else yy - 16455 / 100000 * b - 57135 / 100000 * r
  let bb := if matrix = 0 then yy + 18556 / 10000 * b else yy + 18814 / 10000 * b
  0xC0000000 + tolerant 1023 rr (ycDev matrix range 0 y cb cr) * 2 ^ 20 + tolerant 1023 gg (ycDev matrix range 1 y cb cr) * 2 ^ 10 +
    tolerant 1023 bb (ycDev matrix range 2 y cb cr)

/-- R111: an RGB code of a narrow-range stream expanded. -/
def rgbCode (bits10 : Bool) (range c : Nat) : Nat :=
  if range = 1 then c
  else if bits10 then (clampI 0 1023 (roundHalfUp ((1023 : Rat) * ((c : Int) - 64 : Int) / 876))).toNat
  else (clampI 0 255 (roundHalfUp ((255 : Rat) * ((c : Int) - 16 : Int) / 219))).toNat

/-- The Folio words of one pixel group (R109). -/
def groupWords (v : Row) (g : List Byte) : List Nat :=
  let range := v.getD 4 0
  match v.getD 2 0 with
  | 0 =>
    let cb := bitsAt g 0 10
    let cr := bitsAt g 20 10
    [ycWord (v.getD 3 0) range (bitsAt g 10 10) cb cr, ycWord (v.getD 3 0) range (bitsAt g 30 10) cb cr]
  | 1 =>
    let c := fun i => rgbCode false range (bitsAt g (8 * i) 8)
    [0xFF000000 + c 0 * 65536 + c 1 * 256 + c 2]
  | _ =>
    let c := fun i => rgbCode true range (bitsAt g (10 * i) 10)
    (List.range 4).map (fun p => 0xC0000000 + c (3 * p) * 2 ^ 20 + c (3 * p + 1) * 2 ^ 10 + c (3 * p + 2))

/-- Cut a byte string into pieces of n, at most k of them. -/
def chunk (n : Nat) : Nat → List Byte → List (List Byte)
  | 0, _ => []
  | k + 1, bs => if bs.length < n then [] else bs.take n :: chunk n k (bs.drop n)

/-- Write the data of one sample row at its line and offset into Folio row f (R109). -/
def State.writeSrd (s : State) (v : Row) (f : Nat) (d : Srd) (bs : List Byte) : State :=
  let x := s.row oFolio f
  let ws := (chunk (groupOctets (v.getD 2 0)) (d.length / groupOctets (v.getD 2 0)) bs).flatMap (groupWords v)
  s.dramPut (x.getD 0 0 + d.line * x.getD 1 0 + d.offset * 4) (ws.flatMap (leBytes 4))

/-- Write every sample row of a packet. -/
def State.writeSrds (s : State) (v : Row) (f : Nat) : List Srd → List Byte → State
  | [], _ => s
  | d :: ds, bs => (s.writeSrd v f d (bs.take d.length)).writeSrds v f ds (bs.drop d.length)

/-- Pixels of a sample row. -/
def srdPixels (m : Nat) (d : Srd) : Nat := d.length / groupOctets m * groupPixels m

/-- R108 for one sample row. -/
def srdOk (v : Row) (d : Srd) : Bool :=
  let m := v.getD 2 0
  !d.field && decide (d.line < v.getD 1 0) && d.length % groupOctets m == 0 && d.offset % groupPixels m == 0 &&
  decide (d.offset + srdPixels m d ≤ v.getD 0 0)

/-- R108: the packet is dropped as malformed. -/
def videoMalformed (v : Row) (p : VideoPacket) : Bool :=
  p.version != 2 || (v.getD 5 0 != 0xFF && v.getD 5 0 != p.payloadType) || p.srds.isEmpty || decide (3 < p.srds.length) ||
  p.srds.any (fun d => !srdOk v d) || decide (p.data.length < (p.srds.map (fun d => d.length)).sum)

/-! ## Frames (R113 to R119) -/

/-- Distance from sequence number a to b. -/
def seqDist (a b : Nat) : Nat := (b + 2 ^ 32 - a % 2 ^ 32) % 2 ^ 32

/-- The frame's first packet (R116): where it follows no frame, the smallest number received (log entry 79). -/
def VFrame.first (f : VFrame) (next : Option Nat) : Nat :=
  match next with
  | some n => n
  | none => f.seqs.foldl min (f.seqs.headD 0)

/-- The frame's last packet known: the marker, or the highest received (R118). -/
def VFrame.lastSeq (f : VFrame) (first : Nat) : Nat :=
  match f.marker with
  | some m => m
  | none => f.seqs.foldl (fun a b => if seqDist first a < seqDist first b then b else a) first

/-- Sequence numbers missing between first and last: none where the last lies behind the first (log entry 79). -/
def VFrame.missing (f : VFrame) (next : Option Nat) : Nat :=
  let a := f.first next
  let n := seqDist a (f.lastSeq a)
  if 2 ^ 31 ≤ n then 0 else (n + 1) - (f.seqs.filter (fun q => decide (seqDist a q ≤ n))).length

/-- Every packet of the frame has been received (R116): nothing more is to come of it (the table of R118). -/
def VFrame.allIn (f : VFrame) (next : Option Nat) : Bool := f.marker.isSome && f.missing next == 0

/-- R116. -/
def VFrame.complete (f : VFrame) (next : Option Nat) (v : Row) : Bool :=
  f.allIn next && f.entry.isSome && f.pixels == v.getD 0 0 * v.getD 1 0

/-- A complete frame closes (R105, R117): its history entry is written and its fence is to advance. -/
def State.closeComplete (s : State) (r : Nat) (f : VFrame) (k : Nat) : State :=
  let ring := s.flowRing r
  let fence := s.ringFence ring
  let x := s.flow r
  let val := (s.fence fence + x.advances.length + 1) % 2 ^ 32
  let s1 := s.setRow oHistory (4 * ring + k) [1, val, f.ts, nsPt f.firstAt, nsPt f.lastAt]
  let s2 := s1.setFlow r { x with frame := none, closedTs := some f.ts, nextSeq := f.marker.map (fun m => (m + 1) % 2 ^ 32),
                                   advances := x.advances ++ [fence] }
  (s2.bump oFlowCnt r 6).bump 0x420001 0 0

/-- Note an INGEST mark's condition (R389). -/
def State.flowBad (s : State) (r : Nat) : State := s.setFlow r { s.flow r with badAt := some s.now }

/-- An incomplete frame closes (R118). A frame that found no Folio was counted when it opened (R104). -/
def State.closeIncomplete (s : State) (r : Nat) (f : VFrame) : State :=
  let x := s.flow r
  let s1 := s.setFlow r { x with frame := none, closedTs := some f.ts, nextSeq := f.marker.map (fun m => (m + 1) % 2 ^ 32) }
  if f.entry.isNone then s1
  else ((((s1.flowBad r).add oFlowCnt r 5 (f.missing x.nextSeq)).bump oFlowCnt r 7).bump 0x420002 0 0).raise 65

/-- A drain ends when its open frame has closed (R90). -/
def State.drainAfterClose (s : State) (r : Nat) : State := if s.flowState r = 2 then s.flowDisabled r else s

/-- The open frame of flow r closes without completing. -/
def State.closeFrame (s : State) (r : Nat) : State :=
  match (s.flow r).frame with
  | none => s
  | some f => (s.closeIncomplete r f).drainAfterClose r

/-- End of a frame's arrival window (R115). -/
def State.windowEnd (s : State) (r : Nat) (f : VFrame) : Nat :=
  let v := s.row oVideo (fwIndex (s.flowRow r))
  f.firstAt + cdiv (v.getD 7 0 * 1000000000) (v.getD 8 0) + v.getD 9 0 * 1000

/-- An arrival window that has ended when a packet reaches the pin at `t` closes its frame first (R13, R115). -/
def State.windowCheck (s : State) (r t : Nat) : State :=
  match (s.flow r).frame with
  | none => s
  | some f => if s.windowEnd r f ≤ t then s.closeFrame r else s

/-- ARRIVAL_WINDOW_END (R115, R118). -/
def execArrivalWindowEnd (r : Nat) (s : State) : State :=
  match (s.flow r).frame with
  | none => s
  | some f => (s.advanceTo (s.windowEnd r f)).closeFrame r

/-- Open a frame at its first accepted packet, which reached the pin at `t` (R103, R104, R115). -/
def State.openFrame (s : State) (r ts t : Nat) : State :=
  let ring := s.flowRing r
  let e := s.selectEntry ring
  let f : VFrame := { ts := ts, firstAt := t, lastAt := t, seqs := [], marker := none, entry := e, pixels := 0 }
  let s1 := s.setFlow r { s.flow r with frame := some f }
  match e with
  | some k => s1.takeEntry ring k
  | none => (((s1.flowBad r).bump 0x420003 0 0).flowDrop r 8).raise 66

/-- Write a packet of the open frame (R114), and close the frame if nothing more is to come of it (R117, the table of R118). -/
def State.framePacket (s : State) (r : Nat) (f : VFrame) (p : VideoPacket) : State :=
  if f.seqs.contains p.seq then s.flowDrop r 3
  else
    let v := s.row oVideo (fwIndex (s.flowRow r))
    let f1 := { f with lastAt := p.at_, seqs := p.seq :: f.seqs, marker := if p.marker then some p.seq else f.marker,
                       pixels := f.pixels + (p.srds.map (srdPixels (v.getD 2 0))).sum }
    let s1 := s.setFlow r { s.flow r with frame := some f1 }
    match f.entry with
    | none => s1
    | some k =>
      let s2 := s1.writeSrds v (s.ringFolio (s.flowRing r) k) p.srds p.data
      if f1.complete (s.flow r).nextSeq v then (s2.closeComplete r f1 k).drainAfterClose r
      else if f1.allIn (s.flow r).nextSeq then s2.closeFrame r else s2

/-- A packet of a synchronised flow (R114). -/
def State.timedPacket (s : State) (r : Nat) (p : VideoPacket) : State :=
  let newer := fun (t : Nat) => reached p.timestamp t && p.timestamp != t
  match (s.flow r).frame with
  | some f =>
    if f.ts = p.timestamp then s.framePacket r f p
    else if newer f.ts then
      let s1 := s.closeFrame r
      if s1.flowState r = 1 ∧ s.flowState r = 1 then
        let s2 := s1.openFrame r p.timestamp p.at_
        match (s2.flow r).frame with
        | some g => s2.framePacket r g p
        | none => s2
      else (s1.bump 0x414001 0 0).ingestDrop
    else s.flowDrop r 4
  | none =>
    let fresh := match (s.flow r).closedTs with
      | none => true
      | some t => newer t
    if fresh then
      let s2 := s.openFrame r p.timestamp p.at_
      match (s2.flow r).frame with
      | some g => s2.framePacket r g p
      | none => s2
    else s.flowDrop r 4

/-- The newer of the closed frames' timestamps (R94, R114). -/
def newerTs (old : Option Nat) (ts : Nat) : Nat :=
  match old with
  | none => ts
  | some t => if reached ts t then ts else t

/-- R113: a packet of a SEEKING flow. The marker's timestamp is that of a closed frame, the newest unless YIELD closed a newer one. -/
def State.seekPacket (s : State) (r : Nat) (p : VideoPacket) : State :=
  let s1 := s.flowDrop r 2
  if p.marker then
    ((s1.setFlow r { s1.flow r with closedTs := some (newerTs (s1.flow r).closedTs p.timestamp), nextSeq := some ((p.seq + 1) % 2 ^ 32) }).setFlowState r
      (s.flowState r) false).raise 67
  else s1

/-- R580: pixels that an aborted packet had already written stay in the Folio. -/
def State.abortedPacket (s : State) (r : Nat) (p : VideoPacket) : State :=
  match (s.flow r).frame with
  | some f =>
    match f.entry with
    | some k =>
      if f.ts = p.timestamp ∧ !s.seeking r then
        s.writeSrds (s.row oVideo (fwIndex (s.flowRow r))) (s.ringFolio (s.flowRing r) k) p.srds p.data
      else s
    | none => s
  | none => s

/-- VIDEO_PACKET (R108, R113 to R118, R580): the flow's first packet in its queue is taken, also where the flow has become DISABLED. A
malformed or aborted packet of a SEEKING flow counts as that and not under SEEK (log entry 79). -/
def execVideoPacket (r : Nat) (p : VideoPacket) (s0 : State) : State :=
  let s1 := s0.advanceTo p.at_
  let v := s1.flowRow r
  let aborted := p.aborted || s1.flowAborted r
  if !s1.full || decide (r < 8) || s1.flowState r == 0 || fwType v != 1 then
    (if aborted then s1.consumeFlow r else ((s1.consumeFlow r).bump 0x414001 0 0).ingestDrop)
  else if aborted then ((s1.windowCheck r p.at_).consumeFlow r).abortedPacket r p
  else
    let s2 := (((s1.windowCheck r p.at_).consumeFlow r).writeContext r).bump oFlowCnt r 0
    if s2.flowState r = 0 then (s2.bump 0x414001 0 0).ingestDrop
    else if videoMalformed (s2.row oVideo (fwIndex v)) p then s2.flowDrop r 1
    else if s2.seeking r then s2.seekPacket r p
    else s2.timedPacket r p

/-- FENCE_ADVANCE (R117): the fence of a complete frame advances by 1. -/
def execFenceAdvance (r : Nat) (s : State) : State :=
  match (s.flow r).advances with
  | [] => s
  | f :: fs =>
    let s1 := (s.setFlow r { s.flow r with advances := fs }).advanceFence f
    if s.fld oVideo (fwIndex (s.flowRow r)) 10 = 1 then s1.raise 64 else s1

/-- Ingest gives way (R119): the open frame of flow r closes incomplete (R118), with cause YIELD, and the flow seeks again (R113). -/
def State.yieldFlow (s : State) (r : Nat) : State :=
  match (s.flow r).frame with
  | none => s
  | some f =>
    let s0 := s.closeIncomplete r f
    let s1 := s0.setFlow r { s0.flow r with nextSeq := none }
    let s2 := ((((s1.flowBad r).bump oFlowCnt r 9).bump 0x420004 0 0).raise 71)
    if s2.flowState r = 2 then s2.flowDisabled r else (s2.setFlowState r 1 true).raise 67

/-! ## sACN (R120 to R130) -/

def Universe_.init : Universe_ := { sources := [], staged := none, force := false, changedAt := none }

def State.uni (s : State) (u : Nat) : Universe_ := tget Universe_.init s.ingest.universes u

def State.setUni (s : State) (u : Nat) (x : Universe_) : State :=
  { s with ingest := { s.ingest with universes := tset Universe_.init s.ingest.universes u x } }

def SyncAddr.init : SyncAddr := { last := none, lost := false }

def State.syncAddr (s : State) (a : Nat) : SyncAddr := tget SyncAddr.init s.ingest.syncs a

def State.setSyncAddr (s : State) (a : Nat) (x : SyncAddr) : State :=
  { s with ingest := { s.ingest with syncs := tset SyncAddr.init s.ingest.syncs a x } }

/-- Offset of copy c of universe row u (R120). -/
def uniCopy (u c : Nat) : Nat := vGeneral + u * 0x400 + c * 0x200

/-- The 512 slots of a copy: the first n of those given, the rest 0 (R126). -/
def slots512 (bs : List Byte) (n : Nat) : List Byte :=
  let xs := bs.take (min n 512)
  xs ++ List.replicate (512 - xs.length) 0#8

/-- Slots a packet carries: its property count takes in the start code (R122). -/
def slotCount (p : SacnPacket) : Nat := p.propCount - 1

/-- Write slots into the back copy. -/
def State.writeBack (s : State) (u : Nat) (p : SacnPacket) : State :=
  s.vaultPut (uniCopy u (1 - s.fld oUniStatus u 0)) (slots512 p.slots (slotCount p))

/-- Make the back copy front. -/
def State.flipUni (s : State) (u : Nat) : State := s.setFld oUniStatus u 0 (1 - s.fld oUniStatus u 0)

/-- The source a universe follows (R125): highest priority; among equals the one followed, or else, also where that one is live at a
lower priority, the lowest CID (log entry 79). -/
def followOf (cur : Nat) (xs : List Source) : Option Source :=
  let top := (xs.map (fun x => x.prio)).foldl max 0
  let best := xs.filter (fun x => x.prio == top)
  match best.find? (fun x => x.cid == cur) with
  | some x => some x
  | none => best.foldl (fun b x => match b with
    | none => some x
    | some y => if x.cid < y.cid then some x else some y) none

/-- Note a SLOTS mark's condition (R389). -/
def State.uniChanged (s : State) (u : Nat) : State := s.setUni u { s.uni u with changedAt := some s.now }

/-- Recompute the followed source and LOSS of universe u (R125, R130). In LOSS the followed CID and priority read 0 (log entry 79). -/
def State.refollow (s : State) (u : Nat) : State :=
  let lost := s.fld oUniStatus u 1 == 1
  match followOf (s.fld oUniStatus u 2) (s.uni u).sources with
  | none =>
    if lost then s
    else
      let s1 := ((((s.uniChanged u).setFld oUniStatus u 1 1).setFld oUniStatus u 2 0).setFld oUniStatus u 3 0).raise 68
      if s.fld oUniverse u 1 = 1 then s1.vaultPut (uniCopy u (s1.fld oUniStatus u 0)) (slots512 [] 0) else s1
  | some x =>
    let s1 := ((s.setFld oUniStatus u 1 0).setFld oUniStatus u 2 x.cid).setFld oUniStatus u 3 x.prio
    if lost || s.fld oUniStatus u 2 != x.cid then (s1.uniChanged u).raise 68 else s1

/-- A source is live (R123). -/
def Source.live (x : Source) (now : Nat) : Bool := decide (now < x.last + 2500000000)

/-- Remove the sources that are no longer live. -/
def State.pruneSources (s : State) (u : Nat) : State :=
  let x := s.uni u
  if x.sources.all (fun y => y.live s.now) then s
  else (s.setUni u { x with sources := x.sources.filter (fun y => y.live s.now) }).refollow u

/-- R122. -/
def sacnOk (p : SacnPacket) : Bool :=
  p.rootVector == 4 && p.framingVector == 2 && p.dmpVector == 2 && p.addrType == 0xA1 && p.firstAddr == 0 && p.increment == 1 &&
  decide (1 ≤ p.propCount) && decide (p.propCount ≤ 513) && p.startCode == 0 && decide (p.priority ≤ 200) && !p.preview

/-- R124: the sequence number is late. -/
def sacnLate (s l : Nat) : Bool :=
  let d := toI 8 ((s + 256 - l % 256) % 256)
  decide (-19 ≤ d) && decide (d ≤ 0)

/-- Synchronisation on address a has been lost (R129): never where no synchronisation packet of it has come (log entry 79). -/
def State.syncLost (s : State) (a : Nat) : Bool :=
  match (s.syncAddr a).last with
  | none => false
  | some t => decide (t + 2500000000 ≤ s.now)

/-- Apply or stage a packet of the followed source (R126, R127, R129). OD 0x2030 shows its sync address (log entry 79). -/
def State.applyUni (s : State) (u : Nat) (p : SacnPacket) : State :=
  let s1 := (s.writeBack u p).setFld oUniStatus u 4 p.syncAddr
  let x := s1.uni u
  if p.syncAddr = 0 ∨ s.fld oUniverse u 2 = 0 ∨ (p.forceSync ∧ s.syncLost p.syncAddr) then
    (s1.flipUni u).setUni u { x with staged := none, force := p.forceSync }
  else s1.setUni u { x with staged := some p.syncAddr, force := p.forceSync }

/-- SACN_DATA (R122 to R127). A packet that ends in an ABORT cell is as never received (R580); PACKETS counts every other one that the
flow takes (log entry 79). -/
def execSacnData (r : Nat) (p : SacnPacket) (s0 : State) : State :=
  let s1 := s0.advanceTo p.at_
  let v := s1.flowRow r
  if s1.flowAborted r then s1.consumeFlow r
  else if !s1.full || decide (r < 8) || s1.flowState r == 0 || fwType v != 2 then
    ((s1.consumeFlow r).bump 0x414001 0 0).ingestDrop
  else
    let u := fwIndex v
    let s2 := ((((s1.consumeFlow r).writeContext r).bump oFlowCnt r 0).pruneSources u)
    if !sacnOk p then s2.flowDrop r 1
    else
      let x := s2.uni u
      let mine : Source := { cid := p.cid, prio := p.priority, seq := p.seq, last := s2.now }
      match x.sources.find? (fun y => y.cid == p.cid) with
      | some y =>
        if sacnLate p.seq y.seq then s2.flowDrop r 4
        else if p.terminated then (s2.setUni u { x with sources := x.sources.filter (fun y => y.cid != p.cid) }).refollow u
        else
          let s3 := (s2.setUni u { x with sources := x.sources.map (fun z => if z.cid == p.cid then mine else z) }).refollow u
          if s3.fld oUniStatus u 2 = p.cid then s3.applyUni u p else s3
      | none =>
        if 4 ≤ x.sources.length then s2.flowDrop r 10
        else if p.terminated then s2
        else
          let s3 := (s2.setUni u { x with sources := x.sources ++ [mine] }).refollow u
          if s3.fld oUniStatus u 2 = p.cid then s3.applyUni u p else s3

/-- Make every universe staged on address a front (R128). -/
def State.releaseSync (s : State) (a : Nat) : State :=
  (((s.ingest.universes).filter (fun e => e.2.staged == some a)).map (fun e => e.1)).foldl
    (fun st u => (st.flipUni u).setUni u { st.uni u with staged := none }) s

/-- SACN_SYNC (R128, R129), obeyed on a DRAINING flow as on an ENABLED one (log entry 79). Where 2.5 s had passed since the last one,
synchronisation was lost, and resumes. A packet with other vectors is no synchronisation packet: it is dropped, counted as MALFORMED and
raises event 70 (log entry 79). -/
def execSacnSync (r at_ a rootVector framingVector : Nat) (s0 : State) : State :=
  let s1 := s0.advanceTo at_
  let v := s1.flowRow r
  if s1.flowAborted r then s1.consumeFlow r
  else if !s1.full || decide (r < 8) || s1.flowState r == 0 || fwType v != 2 then
    ((s1.consumeFlow r).bump 0x414001 0 0).ingestDrop
  else
    let s2 := ((s1.consumeFlow r).writeContext r).bump oFlowCnt r 0
    if rootVector = 8 ∧ framingVector = 1 then
      let wasLost := (s2.syncAddr a).lost
      let s3 := s2.raiseIf (!wasLost && s2.syncLost a) 69
      let s4 := (s3.setSyncAddr a { last := some s3.now, lost := false }).releaseSync a
      s4.raiseIf (wasLost || s2.syncLost a) 69
    else s2.flowDrop r 1

/-- SYNC_TIMEOUT (R129). -/
def execSyncTimeout (a : Nat) (s : State) : State :=
  let x := s.syncAddr a
  match x.last with
  | none => s
  | some t =>
    if x.lost then s
    else ((s.advanceTo (t + 2500000000)).setSyncAddr a { x with lost := true }).raise 69

/-- SOURCE_TIMEOUT (R123, R125, R130): universe row u loses the source with that CID 2.5 s after its last packet. -/
def execSourceTimeout (u cid : Nat) (s : State) : State :=
  match (s.uni u).sources.find? (fun y => y.cid == cid) with
  | none => s
  | some y => (s.advanceTo (y.last + 2500000000)).pruneSources u

end Sys2Proof.Machine
end

