-- ==== Sys2Proof/Machine/Compose.lean ====
section
/-! DEFINITION. From DRAM to the Spine (R146 to R163, R196, R200): a layer's pixels, its scaler, the blend, the output encoder, and
what a commit may ask of the fetch and the line buffers (R156 to R160, R166). Every stage is computed in exact rationals and
rounded once to FP16 (R162); the two places where the spec allows an error, the transfer functions and the encoders, carry a
free error within it (log entry 17). -/

namespace Sys2Proof.Machine

def oLayerStaged : Nat := 0x210000
def oLayerActive : Nat := 0x210100
def oLayerStatus : Nat := 0x210200
def oScalerCoeff : Nat := 0x210300
def oLayerMatrix : Nat := 0x210400
def oComposeStaged : Nat := 0x211000
def oComposeActive : Nat := 0x211100
def oTimingActive : Nat := 0x220100

/-! ## Columns of a layer row (R140) -/

def lyHead (v : Row) : Nat := v.getD 0 0
def lyVisible (v : Row) : Bool := v.getD 1 0 == 1
def lyZ (v : Row) : Nat := v.getD 2 0
def lyRingMode (v : Row) : Bool := v.getD 3 0 == 1
def lyFolio (v : Row) : Nat := v.getD 4 0
def lyRing (v : Row) : Nat := v.getD 5 0
def lyWaitFence (v : Row) : Nat := v.getD 6 0
def lyWaitValue (v : Row) : Nat := v.getD 7 0
def lySrcX (v : Row) : Nat := v.getD 8 0
def lySrcY (v : Row) : Nat := v.getD 9 0
def lySrcW (v : Row) : Nat := v.getD 10 0
def lySrcH (v : Row) : Nat := v.getD 11 0
def lyDstX (v : Row) : Int := toI 16 (v.getD 12 0)
def lyDstY (v : Row) : Int := toI 16 (v.getD 13 0)
def lyTransfer (v : Row) : Nat := v.getD 16 0
def lyRef (v : Row) : Nat := v.getD 17 0
def lyPrimaries (v : Row) : Nat := v.getD 18 0
def lyAlphaMode (v : Row) : Nat := v.getD 19 0
def lyAlpha (v : Row) : Nat := v.getD 20 0
def lyKey (v : Row) : Bool := v.getD 21 0 == 1
def lyFilter (v : Row) (vertical : Bool) : Nat := v.getD (if vertical then 29 else 28) 0
def lyGang (v : Row) : Bool := v.getD 30 0 == 1

/-- Size of layer l on the canvas (R160): scaled for a video layer, the crop for a graphic one. -/
def lyW (l : Nat) (v : Row) : Nat := if l < 8 then v.getD 14 0 else lySrcW v
def lyH (l : Nat) (v : Row) : Nat := if l < 8 then v.getD 15 0 else lySrcH v

/-! ## Roots -/

/-- The greatest r < 2^n with r^k at most x. -/
def rootUpTo : Nat → Nat → Nat → Nat → Nat
  | 0, _, _, r => r
  | n + 1, k, x, r => if (r + 2 ^ n) ^ k ≤ x then rootUpTo n k x (r + 2 ^ n) else rootUpTo n k x r

/-- q^(p/k) for a rational q of at least 0, rounded down to a multiple of 2^-60; results below 2^22 (log entry 17). -/
def powQ (q : Rat) (p k : Nat) : Rat :=
  let x := ((q ^ p) * ((2 ^ (60 * k) : Nat) : Rat)).floor.toNat
  ((rootUpTo 82 k x 0 : Nat) : Rat) / ((2 ^ 60 : Nat) : Rat)

/-! ## Transfer functions (R149) -/

/-- Constants of ST 2084. -/
def pqC1 : Rat := 3424 / 4096
def pqC2 : Rat := 2413 / 128
def pqC3 : Rat := 2392 / 128

/-- The value of a transfer function before its tolerance: 0 LINEAR, 1 SRGB, 2 BT1886, 3 PQ. -/
def transferExact (kind ref : Nat) (c : Rat) : Rat :=
  match kind with
  | 0 => c
  | 1 => if c ≤ 4045 / 100000 then c / (1292 / 100) else powQ ((c + 55 / 1000) / (1055 / 1000)) 12 5
  | 2 => powQ c 12 5
  | _ =>
    let x := powQ c 32 2523
    10000 * powQ (maxR (x - pqC1) 0 / (pqC2 - pqC3 * x)) 16384 2610 / (ref : Rat)

/-- The error R149 allows: 0.25 %, or 2^-16 below 2^-6. -/
def transferTol (e : Rat) : Rat := if e < 1 / 64 then 1 / 65536 else e / 400

/-- Linear light of a normalised code (R149): the exact value with a free error within the tolerance. LINEAR is exact.
A PQ code above 1 at which the function has no value (only a PREMULTIPLIED colour above its alpha gives one) has a free one. -/
def transferFn (kind ref : Nat) (c : Rat) : Rat :=
  let e := transferExact kind ref c
  if kind = 0 then e
  else if kind = 3 ∧ pqC2 ≤ pqC3 * powQ c 32 2523 then clampR 0 65504 (Config.transferError kind ref c)
  else maxR 0 (e + transferTol e * clampR (-1) 1 (Config.transferError kind ref c))

/-! ## Source pixels (R146 to R152) -/

/-- A colour with alpha. -/
structure Rgba where
  r : Rat
  g : Rat
  b : Rat
  a : Rat

def Rgba.zero : Rgba := { r := 0, g := 0, b := 0, a := 0 }

def Rgba.scale (k : Rat) (p : Rgba) : Rgba := { r := k * p.r, g := k * p.g, b := k * p.b, a := k * p.a }

def Rgba.add (p q : Rgba) : Rgba := { r := p.r + q.r, g := p.g + q.g, b := p.b + q.b, a := p.a + q.a }

/-- A pixel's colour codes with their widths, and its alpha field (R146). -/
structure SrcCodes where
  r : Nat
  g : Nat
  b : Nat
  rBits : Nat
  gBits : Nat
  bBits : Nat
  /-- alpha as a fraction -/
  alpha : Rat

def unpackPixel (format w : Nat) : SrcCodes :=
  match format with
  | 0 => ⟨bits w 15 11, bits w 10 5, bits w 4 0, 5, 6, 5, 1⟩
  | 3 => ⟨bits w 23 16, bits w 15 8, bits w 7 0, 8, 8, 8, (bits w 31 24 : Rat) / 255⟩
  | 4 => ⟨bits w 29 20, bits w 19 10, bits w 9 0, 10, 10, 10, 1⟩
  | 5 => ⟨bits w 29 20, bits w 19 10, bits w 9 0, 10, 10, 10, (bits w 31 30 : Rat) / 3⟩
  | _ => ⟨bits w 23 16, bits w 15 8, bits w 7 0, 8, 8, 8, 1⟩

/-- Expansion of an n-bit code to 10 bits by replication (R147). -/
def expand10 (n c : Nat) : Nat :=
  match n with
  | 5 => c * 32 + c
  | 6 => c * 16 + c / 4
  | 8 => c * 4 + c / 64
  | _ => c

/-- A normalised code (R147). -/
def normCode (n c : Nat) : Rat := (c : Rat) / ((2 ^ n - 1 : Nat) : Rat)

/-- The colour key test (R152). -/
def keyed (v : Row) (p : SrcCodes) : Bool :=
  let inR := fun (n c k : Nat) => decide (v.getD (22 + k) 0 ≤ expand10 n c) && decide (expand10 n c < v.getD (25 + k) 0)
  lyKey v && inR p.rBits p.r 0 && inR p.gBits p.g 1 && inR p.bBits p.b 2

/-- The nine elements of the primaries matrix (R150). -/
def matrixOf (s : State) (l layer canvas : Nat) : List Rat :=
  match layer, canvas with
  | 2, _ => (s.row oLayerMatrix l).map f32
  | 0, 1 => [6274 / 10000, 3293 / 10000, 433 / 10000, 691 / 10000, 9195 / 10000, 114 / 10000, 164 / 10000, 880 / 10000, 8956 / 10000]
  | 1, 0 => [16605 / 10000, -5876 / 10000, -728 / 10000, -1246 / 10000, 11329 / 10000, -83 / 10000, -182 / 10000, -1006 / 10000,
             11187 / 10000]
  | _, _ => [1, 0, 0, 0, 1, 0, 0, 0, 1]

/-- Row i of M times a colour, clamped (R151). -/
def matRow (m : List Rat) (i : Nat) (r g b : Rat) : Rat :=
  clampR 0 65504 (m.getD (3 * i) 0 * r + m.getD (3 * i + 1) 0 * g + m.getD (3 * i + 2) 0 * b)

/-- Stages 1 to 7 for a pixel value `w` of layer l with row v on a canvas with primaries `canvas` (R148). -/
def stage7 (s : State) (l : Nat) (v : Row) (format canvas w : Nat) : Rgba :=
  let p := unpackPixel format w
  if keyed v p then Rgba.zero
  else
    let a := if lyAlphaMode v = 0 then 1 else p.alpha
    let un := fun (x : Rat) => if lyAlphaMode v = 2 then (if a = 0 then 0 else x / a) else x
    let t := fun (n c : Nat) => transferFn (lyTransfer v) (lyRef v) (un (normCode n c))
    let r := t p.rBits p.r
    let g := t p.gBits p.g
    let b := t p.bBits p.b
    let m := matrixOf s l (lyPrimaries v) canvas
    { r := a * matRow m 0 r g b, g := a * matRow m 1 r g b, b := a * matRow m 2 r g b, a := a }

/-- The value of a Folio's pixel (R146), from DRAM as it stands (log entry 18). -/
def State.folioPixel (s : State) (f x y : Nat) : Nat :=
  let v := s.row oFolio f
  let b := formatBytes (v.getD 4 0)
  s.dramWord (v.getD 0 0 + y * v.getD 1 0 + x * b) b

/-- A pixel of the crop rectangle after stage 7; indices outside take the nearest pixel inside (R154). -/
def State.cropPixel (s : State) (l : Nat) (v : Row) (f canvas : Nat) (x y : Int) : Rgba :=
  let cx := (clampI 0 ((lySrcW v : Int) - 1) x).toNat
  let cy := (clampI 0 ((lySrcH v : Int) - 1) y).toNat
  stage7 s l v (s.fld oFolio f 4) canvas (s.folioPixel f (lySrcX v + cx) (lySrcY v + cy))

/-! ## The scaler (R153 to R156) -/

/-- Integer source position and phase of output index x (R154). -/
def scalePos (src dst x : Nat) : Int × Nat :=
  let step : Int := ((src * 2 ^ 20 / dst : Nat) : Int)
  let p : Int := ((2 * (x : Int) + 1) * step - 2 ^ 20) / 2
  (p / 2 ^ 20, ((p / 2 ^ 14) % 64).toNat)

/-- Weights of a direction's taps, the first at source index i - 3 horizontally and i - 2 vertically (R155). -/
def tapWeights (s : State) (l : Nat) (v : Row) (vertical : Bool) (ph : Nat) : List Rat :=
  let n := if vertical then 6 else 8
  let c := if vertical then 2 else 3
  match lyFilter v vertical with
  | 0 => (List.range n).map (fun j => if j = (if ph < 32 then c else c + 1) then 1 else 0)
  | 1 => (List.range n).map (fun j => if j = c then ((64 - ph : Nat) : Rat) / 64 else if j = c + 1 then (ph : Rat) / 64 else 0)
  | 2 => (List.range n).map (fun j =>
      Config.smoothWeight vertical (if vertical then lySrcH v else lySrcW v) (if vertical then lyH l v else lyW l v) ph j)
  | _ => (List.range n).map (fun j => ((toI 16 (s.fld oScalerCoeff (128 * l + (if vertical then 64 else 0) + ph) j) : Int) : Rat) / 16384)

/-- A weighted sum of samples. -/
def weighted : List Rat → List Rgba → Rgba
  | w :: ws, p :: ps => (Rgba.scale w p).add (weighted ws ps)
  | _, _ => Rgba.zero

/-- Output pixel (x, y) of layer l before stage 9: scaled for a video layer, direct for a graphic one (R148, R153). -/
def State.layerPixel (s : State) (l : Nat) (v : Row) (f canvas x y : Nat) : Rgba :=
  if l < 8 then
    let px := scalePos (lySrcW v) (lyW l v) x
    let py := scalePos (lySrcH v) (lyH l v) y
    let line := fun (yy : Int) =>
      weighted (tapWeights s l v false px.2) ((List.range 8).map (fun (j : Nat) => s.cropPixel l v f canvas (px.1 - 3 + (j : Int)) yy))
    weighted (tapWeights s l v true py.2) ((List.range 6).map (fun (j : Nat) => line (py.1 - 2 + (j : Int))))
  else s.cropPixel l v f canvas x y

/-! ## The blend (R160 to R162) -/

/-- Layer row v of layer l covers canvas pixel (x, y). -/
def covers (l : Nat) (v : Row) (x y : Nat) : Bool :=
  decide (lyDstX v ≤ x) && decide ((x : Int) < lyDstX v + lyW l v) && decide (lyDstY v ≤ y) && decide ((y : Int) < lyDstY v + lyH l v)

/-- Insert a layer by ascending Z, then by number. -/
def insertZ (s : State) (l : Nat) : List Nat → List Nat
  | [] => [l]
  | m :: ms =>
    if lyZ (s.row oLayerActive l) < lyZ (s.row oLayerActive m) ∨ (lyZ (s.row oLayerActive l) = lyZ (s.row oLayerActive m) ∧ l < m)
    then l :: m :: ms else m :: insertZ s l ms

/-- The visible layers of head h, back to front (R161). -/
def State.stack (s : State) (h : Nat) : List Nat :=
  ((List.range 32).filter (fun l => s.fld oLayerStatus l 0 == h + 1 && lyVisible (s.row oLayerActive l))).foldr (insertZ s) []

/-- The background colour of head h, rounded to FP16 (R141). -/
def State.background (s : State) (h : Nat) : Rgba :=
  let c := fun i => rnd16 (f32 (s.fld oComposeActive h i))
  { r := c 1, g := c 2, b := c 3, a := 1 }

/-- Premultiplied source-over. -/
def ovr (p acc : Rgba) : Rgba := p.add (Rgba.scale (1 - p.a) acc)

/-- The exact canvas pixel before rounding (R161). -/
def State.canvasExact (s : State) (h x y : Nat) : Rgba :=
  (s.stack h).foldl (fun acc l =>
    let v := s.row oLayerActive l
    if covers l v x y then
      let p := s.layerPixel l v (s.fld oLayerStatus l 1) (s.fld oComposeActive h 0) ((x : Int) - lyDstX v).toNat ((y : Int) - lyDstY v).toNat
      ovr (Rgba.scale ((s.fld oLayerStatus l 2 : Rat) / 32768) p) acc
    else acc) (s.background h)

/-- Head h of the pool. -/
def Egress.init : Egress := { latched := false, sending := false, seq := 0, fault := false }

def Writeback.init : Writeback := { latched := false, busy := none, written := false }

/-- A head that has not run. -/
def Head.init : Head :=
  { latched := false, stopped := false, enable := none, queue := [], result := 0, blankAt := 0, blank := 0, nextBlank := 0,
    inBlank := false, cutPast := false, frameDone := false, match0 := 0, match1 := 0, lineAt := 0, underruns := [], freezeFence := [], sigs := [], tail := [],
    egress := Egress.init, wback := Writeback.init }

def State.head (s : State) (h : Nat) : Head := tget Head.init s.disp.heads h

def State.setHead (s : State) (h : Nat) (x : Head) : State :=
  { s with disp := { s.disp with heads := tset Head.init s.disp.heads h x } }

/-- The state that head h's present frame is computed from: every connected sink takes the same values (R198). -/
def State.onSpine (s : State) (h : Nat) : State :=
  match (s.head h).shot with
  | some k => { s with od := k.od, dram := k.dram }
  | none => s

/-- The pixel (x, y) that head h places on its Spine (R162, R192): FP16 values; from an underrun's column to the end of its line
the background. -/
def State.spine (s : State) (h x y : Nat) : Rgba :=
  let u := s.onSpine h
  if (s.head h).underruns.any (fun e => e.1 == y && decide (e.2 ≤ x)) then u.background h
  else
    let p := u.canvasExact h x y
    { r := rnd16 p.r, g := rnd16 p.g, b := rnd16 p.b, a := rnd16 p.a }

/-- A Spine pixel's 8 bytes (R196). -/
def spineBytes (p : Rgba) : List Byte :=
  leBytes 2 (toF16 p.r) ++ leBytes 2 (toF16 p.g) ++ leBytes 2 (toF16 p.b) ++ leBytes 2 (toF16 p.a)

/-- The signature of a region at (x, y) of size w by h (R196). -/
def State.signature (s : State) (hd x y w h : Nat) : Nat :=
  crc32c ((List.range h).flatMap (fun j => (List.range w).flatMap (fun i => spineBytes (s.spine hd (x + i) (y + j)))))

/-! ## The output encoder (R200) -/

/-- Transfer of the encoder: a code in [0, 1]; 0 is LINEAR (R207). -/
def encodeTransfer (kind ref : Nat) (l : Rat) : Rat :=
  match kind with
  | 0 => clampR 0 1 l
  | 1 =>
    let x := clampR 0 1 l
    if x ≤ 31308 / 10000000 then 1292 / 100 * x else 1055 / 1000 * powQ x 5 12 - 55 / 1000
  | 2 => powQ (clampR 0 1 l) 5 12
  | _ =>
    let y := powQ (clampR 0 1 (l * ref / 10000)) 2610 16384
    powQ ((pqC1 + pqC2 * y) / (1 + pqC3 * y)) 2523 32

/-- A code scaled to [lo, hi], rounded with ties up, with a free error of at most 1 (R200), kept within 0 to top. -/
def encodeCode (kind ref ch : Nat) (lo hi top : Int) (c : Rat) : Nat :=
  let e : Rat := (lo : Rat) + c * ((hi - lo : Int) : Rat)
  (clampI 0 top (roundHalfUp e + clampI (-1) 1 (Config.encodeError kind ref ch e))).toNat

/-! ## What a layer asks of the head (R158, R160, R166) -/

/-- Part of [pos, pos + size) inside [0, limit). -/
def coveredLen (pos : Int) (size limit : Nat) : Nat :=
  (min (pos + size) (limit : Int) - max pos 0).toNat

/-- Visible destination width on an active area ha by va (R160). -/
def visibleWidth (l : Nat) (v : Row) (ha va : Nat) : Nat :=
  if coveredLen (lyDstY v) (lyH l v) va = 0 then 0 else coveredLen (lyDstX v) (lyW l v) ha

/-- The Folio rows a layer row reads. -/
def State.layerFolios (s : State) (v : Row) : List Nat := if lyRingMode v then s.ringFolios (lyRing v) else [lyFolio v]

/-- bytes_l times v_l (R166), 0 for a layer that covers no canvas pixel. -/
def State.fetchOf (s : State) (l : Nat) (v : Row) (ha va : Nat) : Rat :=
  let n := visibleWidth l v ha va
  let b := formatBytes (s.fld oFolio ((s.layerFolios v).headD 0) 4)
  let w := if l < 8 then cdiv (n * lySrcW v) (lyW l v) else n
  let bytes := cdiv (b * w) 64 * 64
  let k : Rat := if l < 8 ∧ lyH l v < lySrcH v then (lySrcH v : Rat) / (lyH l v : Rat) else 1
  (bytes : Rat) * k

/-- The coefficient rule of R156 for one direction. -/
def State.coeffOk (s : State) (l : Nat) (vertical : Bool) : Bool :=
  (List.range 64).all (fun ph =>
    let c := (s.row oScalerCoeff (128 * l + (if vertical then 64 else 0) + ph)).map (toI 16)
    c.sum == 16384 && (!vertical || (c.getD 6 0 == 0 && c.getD 7 0 == 0)))

end Sys2Proof.Machine
end

