-- ==== Sys2Proof/Machine/Fade.lean ====
section
/-! DEFINITION. Fade units and masters (R304 to R317, R704): what a unit drives, its curve, arming, stopping, retargeting and
superseding, and the sampling of its target. -/

namespace Sys2Proof.Machine

def oFade : Nat := 0x250000
def oFadeStatus : Nat := 0x250200
def oQuireMaster : Nat := 0x251000
def oStrandMaster : Nat := 0x251100
def oRegionGain : Nat := 0x254100
def oLightCnt : Nat := 0x425000
def oQuire : Nat := 0x240000
def oQuireState : Nat := 0x240300
def oHeadState : Nat := 0x220300

def Fade.init : Fade := { latched := none, task := none, bound := false, boundAt := 0, row := [] }

def State.fade (s : State) (f : Nat) : Fade := tget Fade.init s.light.fades f

def State.setFade (s : State) (f : Nat) (x : Fade) : State :=
  { s with light := { s.light with fades := tset Fade.init s.light.fades f x } }

/-! ## Columns -/

def fdKind (v : Row) : Nat := v.getD 0 0
def fdIndex (v : Row) : Nat := v.getD 1 0
def fdCurve (v : Row) : Nat := v.getD 2 0
def fdCurrent (v : Row) : Bool := v.getD 3 0 == 0
def fdFrom (v : Row) : Nat := v.getD 4 0
def fdTo (v : Row) : Nat := v.getD 5 0
def fdStart (v : Row) : Nat := ptNs (v.getD 6 0)
def fdDur (v : Row) : Nat := v.getD 7 0 * 1000000
def fdNotify (v : Row) : Bool := v.getD 8 0 == 1

/-- First tick of the running window, and first tick after it (R306, R307). -/
def fdStartTick (v : Row) : Nat := tickUp (fdStart v)
def fdEndTick (v : Row) : Nat := tickUp (fdStart v + fdDur v)

def State.fadeState (s : State) (f : Nat) : Nat := s.fld oFadeStatus f 0

/-! ## Targets (R308) -/

/-- Base value of a target. -/
def State.fadeBase (s : State) (kind i : Nat) : Nat :=
  match kind with
  | 1 => s.fld oLayerActive i 20
  | 2 => s.fld oQuireMaster i 0
  | 3 => s.fld oStrandMaster i 0
  | 4 => s.fld oRegionGain i 0
  | _ => 0

/-- Write a target's base value. -/
def State.setFadeBase (s : State) (kind i v : Nat) : State :=
  match kind with
  | 1 => s.setFld oLayerActive i 20 v
  | 2 => (s.setFld oQuireMaster i 0 v).touchSettings
  | 3 => (s.setFld oStrandMaster i 0 v).touchSettings
  | 4 => (s.setFld oRegionGain i 0 v).touchSettings
  | _ => s

/-- The unit bound to a target. -/
def State.boundUnit (s : State) (kind i : Nat) : Option Nat :=
  if kind = 0 then none
  else (s.light.fades.find? (fun e => e.2.bound && fdKind e.2.row == kind && fdIndex e.2.row == i)).map (fun e => e.1)

/-- A consumer of a target is running (R311). -/
def State.consumer (s : State) (kind i : Nat) : Bool :=
  let headOn := fun h => s.fld oHeadState h 0 != 0
  let quireOn := fun q => s.fld oQuireState q 0 != 0 && headOn (s.fld oQuire q 0)
  match kind with
  | 1 => s.fld oLayerStatus i 0 != 0 && headOn (s.fld oLayerStatus i 0 - 1)
  | 2 => quireOn i
  | 3 => quireOn (i / 16)
  | 4 => headOn 0 || headOn 1
  | _ => false

/-! ## Output (R305, R313) -/

/-- The curve k(u). -/
def fadeCurve (curve : Nat) (u : Rat) : Rat :=
  match curve with
  | 0 => u
  | 1 => 3 * u * u - 2 * u * u * u
  | 2 => u * u
  | _ => 1 - (1 - u) * (1 - u)

/-- Output of a row in force at node time t in ns; before the START of a retarget it holds at FROM (R313). -/
def fadeOutput (v : Row) (t : Nat) : Nat :=
  let u : Rat := if t < fdStart v then 0 else if fdDur v = 0 then 1 else clampR 0 1 (((t : Int) - (fdStart v : Int) : Int) / ((fdDur v : Int) : Rat))
  (roundHalfUp ((fdFrom v : Rat) + ((fdTo v : Rat) - (fdFrom v : Rat)) * fadeCurve (fdCurve v) u)).toNat

/-- Output of unit f now. -/
def State.fadeOut (s : State) (f : Nat) : Nat := fadeOutput (s.fade f).row s.now

/-- What a consumer that samples a target now takes (R308). -/
def State.sample (s : State) (kind i : Nat) : Nat :=
  match s.boundUnit kind i with
  | some f => s.fadeOut f
  | none => s.fadeBase kind i

/-! ## Changes of state -/

def State.setFadeStatus (s : State) (f st result : Nat) : State :=
  s.setRow oFadeStatus f (rput (rput (s.row oFadeStatus f) 0 st) 1 result)

/-- A unit becomes DONE (R315): NOTIFY, its task, and its result. -/
def State.fadeDone (s : State) (f result out status : Nat) : State :=
  let x := s.fade f
  let left := if s.fadeState f = 2 then out else x.lastOut
  let s1 := ((s.setFadeStatus f 3 result).setFld oFadeStatus f 2 out).setFade f { x with bound := false, task := none, lastOut := left }
  let s2 := if fdNotify x.row then s1.raise 96 else s1
  s2.completeOpt x.task status

/-- The end of a unit (R307): TO becomes the base value. -/
def State.fadeEnds (s : State) (f : Nat) : State :=
  let v := (s.fade f).row
  let s1 := (s.setFadeBase (fdKind v) (fdIndex v) (fdTo v)).bump oLightCnt 0 0
  s1.fadeDone f 1 (fdTo v) stOk

/-- A unit is superseded (R314): it unbinds without writing its TO. -/
def State.fadeSuperseded (s : State) (f out : Nat) : State :=
  ((s.bump oLightCnt 0 1).raise 97).fadeDone f 3 out stCancelled

/-- A unit gives way in the tick it bound in, as if it had not (R314). -/
def State.fadeUnbound (s : State) (f : Nat) : State := (s.setFadeStatus f 1 0).fadeSuperseded f (s.fade f).lastOut

/-- A unit whose window has ended by a tick is DONE, whatever happens in that tick (R307, R312). -/
def State.fadeSettle (s : State) (f tick : Nat) : State :=
  if s.fadeState f = 2 ∧ fdEndTick (s.fade f).row ≤ tick then s.fadeEnds f else s

/-- A higher-numbered unit binds the same target in this tick (R314). -/
def State.outbid (s : State) (f tick : Nat) (v : Row) : Bool :=
  fdKind v != 0 && s.light.fades.any (fun e =>
    decide (f < e.1) && s.fadeState e.1 == 1 && fdKind e.2.row == fdKind v && fdIndex e.2.row == fdIndex v &&
      fdStartTick e.2.row == tick && fdDur e.2.row != 0)

/-- A unit enters its window now (R306, R314). -/
def State.fadeBegins (s0 : State) (f : Nat) : State :=
  let v := (s0.fade f).row
  let tick := tickUp s0.now
  let s := match s0.boundUnit (fdKind v) (fdIndex v) with
    | some h => s0.fadeSettle h tick
    | none => s0
  let x := s.fade f
  let holder := s.boundUnit (fdKind v) (fdIndex v)
  let same := holder.any (fun h => (s.fade h).boundAt == tick)
  let under := match holder with
    | some h => if same then (s.fade h).under else s.fadeOut h
    | none => s.fadeBase (fdKind v) (fdIndex v)
  let src := if fdCurrent v then under else fdFrom v
  let start := fun (st : State) =>
    ((st.setFade f { x with row := rput v 4 src, bound := fdKind v != 0, boundAt := tick, under := under }).setFadeStatus f 2 0).setFld
      oFadeStatus f 3 src
  if fdDur v = 0 then s.fadeEnds f
  else if s.outbid f tick v then s.fadeSuperseded f x.lastOut
  else match holder with
    | none => start s
    | some h =>
      if same && decide (f < h) then s.fadeSuperseded f x.lastOut
      else start (if same then s.fadeUnbound h else s.fadeSuperseded h (s.fadeOut h))

/-- Arm a unit that is IDLE or DONE (R310). -/
def State.fadeArmed (s : State) (f : Nat) (task : Option Nat) : State :=
  let v := s.row oFade f
  let s1 := (s.setFade f { Fade.init with row := v, task := task, lastOut := (s.fade f).lastOut }).setFadeStatus f 1 0
  let s2 := (s1.setFld oFadeStatus f 3 (fdFrom v)).setFld oFadeStatus f 4 (v.getD 6 0)
  if fdEndTick v ≤ s.now then s2.fadeEnds f
  else if fdStartTick v ≤ s.now then s2.fadeBegins f
  else s2

/-- The drain of a unit completes (R311): IDLE, and a latched arm is acted on. -/
def State.fadeDrained (s : State) (f : Nat) : State :=
  let x := s.fade f
  let s1 := (s.setFadeStatus f 0 2).setFade f { x with latched := none, lastOut := s.fld oFadeStatus f 2 }
  match x.latched with
  | none => s1
  | some t => s1.fadeArmed f t

/-- Complete the drains that a sampling of a target ends (R311). -/
def State.sampled (s : State) (kind i : Nat) : State :=
  ((s.light.fades.filter (fun e => fdKind e.2.row == kind && fdIndex e.2.row == i && s.fadeState e.1 == 4)).map (fun e => e.1)).foldl
    State.fadeDrained s

/-- Complete the drains whose last running consumer has stopped (R311). -/
def State.drainCheck (s : State) : State :=
  ((s.light.fades.filter (fun e => s.fadeState e.1 == 4 && !s.consumer (fdKind e.2.row) (fdIndex e.2.row))).map (fun e => e.1)).foldl
    State.fadeDrained s

/-! ## Writes (R304, R310 to R313) -/

/-- The limits of R304 that relate fields. -/
def fadeRowOk (v : Row) : Bool :=
  let k := fdKind v
  (k != 1 || decide (fdIndex v ≤ 31)) && (k != 2 || decide (fdIndex v ≤ 15)) &&
  ((k == 0 || k == 4) || (decide (fdFrom v ≤ 32768) && decide (fdTo v ≤ 32768)))

/-- A retarget (R313). -/
def State.fadeRetarget (s : State) (f : Nat) (v : Row) : State :=
  let x := s.fade f
  let src := fadeOutput x.row (tickUp s.now)
  let start := max (fdStart v) (tickUp s.now)
  let v1 := rput (rput v 4 src) 6 (nsPt start)
  ((s.setFade f { x with row := v1 }).setFld oFadeStatus f 3 src).setFld oFadeStatus f 4 (nsPt start)

/-- A write of OD 0x2500 (R312). -/
def writeFade (f : Nat) (v : Row) (s0 : State) : WRes :=
  let s := s0.fadeSettle f s0.now
  if !fadeRowOk v then refuse s0 stRange
  else match s.fadeState f with
    | 4 => refuse s stState
    | 2 =>
      let x := (s.fade f).row
      if fdKind v = fdKind x ∧ fdIndex v = fdIndex x ∧ fdCurrent v then done ((s.setRow oFade f v).fadeRetarget f v)
      else refuse s stState
    | 1 =>
      let s1 := (s.setRow oFade f v).setFade f { s.fade f with row := v }
      let s2 := (s1.setFld oFadeStatus f 3 (fdFrom v)).setFld oFadeStatus f 4 (v.getD 6 0)
      if fdEndTick v ≤ s.now then done (s2.fadeEnds f)
      else if fdStartTick v ≤ s.now then done (s2.fadeBegins f)
      else done s2
    | _ => done (s.setRow oFade f v)

/-- A write of 1 to OD 0x2501 (R310, R311), made for a Weir task or none. An arm latched before is displaced, and its task is
CANCELLED (log entry 81). -/
def armFade (f : Nat) (task : Option Nat) (s0 : State) : WRes :=
  let s := s0.fadeSettle f s0.now
  match s.fadeState f with
  | 0 => done (s.fadeArmed f task)
  | 3 => done (s.fadeArmed f task)
  | 4 =>
    let old := match (s.fade f).latched with
      | some t => t
      | none => none
    done ((s.setFade f { s.fade f with latched := some task }).completeOpt old stCancelled)
  | _ => refuse s stState

/-- A write of 0 to OD 0x2501 (R311). -/
def stopFade (f : Nat) (s0 : State) : WRes :=
  let s := s0.fadeSettle f s0.now
  let x := s.fade f
  match s.fadeState f with
  | 1 => done (((s.setFadeStatus f 0 2).setFade f { x with task := none }).completeOpt x.task stCancelled)
  | 2 =>
    let out := fadeOutput x.row (tickUp s.now)
    let kind := fdKind x.row
    let i := fdIndex x.row
    let s1 := (s.setFadeBase kind i out).setFade f { x with bound := false, task := none }
    let s2 := ((s1.setFadeStatus f 4 2).setFld oFadeStatus f 2 out).completeOpt x.task stCancelled
    done (if s.consumer kind i then s2 else s2.fadeDrained f)
  | 4 =>
    let s1 := s.setFade f { x with latched := none }
    match x.latched with
    | none => done s1
    | some t => done (s1.completeOpt t stCancelled)
  | _ => done s

/-- FADE_START (R306). -/
def execFadeStart (f : Nat) (s0 : State) : State :=
  if s0.fadeState f = 1 then (s0.advanceTo (fdStartTick (s0.fade f).row)).fadeBegins f else s0

/-- FADE_END (R307). -/
def execFadeEnd (f : Nat) (s0 : State) : State :=
  if s0.fadeState f = 2 then (s0.advanceTo (fdEndTick (s0.fade f).row)).fadeEnds f else s0

/-- OUTPUT as OD 0x2502 reports it (R704): while RUNNING, that of the latest TIME tick; in IDLE and ARMED what it was when the unit last
left RUNNING or DRAINING. -/
def State.fadeReported (s : State) (f : Nat) : Nat :=
  match s.fadeState f with
  | 2 => fadeOutput (s.fade f).row (s.now / 2 * 2)
  | 0 => (s.fade f).lastOut
  | 1 => (s.fade f).lastOut
  | _ => s.fld oFadeStatus f 2

end Sys2Proof.Machine
end

