-- ==== Sys2Proof/Machine/QuireBase.lean ====
section
/-! DEFINITION. Quires and strands as every family that uses them sees them (R33, R252, R292 to R302): configuration, cadence, frame
lengths, the checks of their rows, state changes and summary causes, and the CAL pin taps in force. -/

namespace Sys2Proof.Machine

def oStrand : Nat := 0x240100
def oQuireMode : Nat := 0x240200
def oEnumResult : Nat := 0x240600
def oQuireStatus : Nat := 0x240700
def oWire : Nat := 0x240A00
def oQuireCnt : Nat := 0x424000
def oStrandCnt : Nat := 0x424100
def oQuireColl : Nat := 0x230500
def oQuarantine : Nat := 0x256400
def oTimingStaged : Nat := 0x220000

def Quire.init : Quire :=
  { latched := none, target := 0, idleFrom := 0, freeAt := 0, startAt := 0, nextK := none, sum := 0, frontMarks := 0, repeated := false,
    clearBack := false, clearFront := false, requests := [], broadcasts := [], selectOwed := false, window := none, inFrame := false, frames := 0,
    sigs := [], passAt := 0 }

def Strand.init : Strand :=
  { sentK := none, payload := [], header := 0, cells := [], gapFrom := 0, got := [], bad := 0, far := none, temps := [], heard := [], input := 0, thetaH := none,
    g := 1, target := 1, present := false, gainAge := 0, gainOwed := false }

def State.quire (s : State) (q : Nat) : Quire := tget Quire.init s.quires q

def State.setQuire (s : State) (q : Nat) (x : Quire) : State := { s with quires := tset Quire.init s.quires q x }

def State.strand (s : State) (t : Nat) : Strand := tget Strand.init s.strands t

def State.setStrand (s : State) (t : Nat) (x : Strand) : State := { s with strands := tset Strand.init s.strands t x }

/-- State codes of R300: 0 OFF, 1 STARTING, 2 SETUP, 3 RUNNING, 4 DRAINING. -/
def State.quireState (s : State) (q : Nat) : Nat := s.fld oQuireState q 0

/-- Head state codes of R178. -/
def State.headState (s : State) (h : Nat) : Nat := s.fld oHeadState h 0

/-! ## Configuration (R292, R293) -/

def State.qHead (s : State) (q : Nat) : Nat := s.fld oQuire q 0
def State.qM (s : State) (q : Nat) : Nat := s.fld oQuire q 1

/-- Rate in force: Cameg-6 in Berm service whatever the row (R296). -/
def State.qRate (s : State) (q : Nat) : Nat := if s.berm then 2 else s.fld oQuire q 2

/-- The rate is one of the Legacy modes (R290). -/
def legacy (rate : Nat) : Bool := decide (3 ≤ rate)

/-- Cell period of a Cameg rate in ps (R252); bit period of a legacy one (R290). -/
def cellPs (rate : Nat) : Nat :=
  match rate with
  | 0 => 40000
  | 1 => 80000
  | 2 => 160000
  | 3 => 1250000
  | _ => 2500000

/-- The RUN_LEN and RUN_BITS pairs of a strand row. -/
def strandRuns (v : Row) : List (Nat × Nat) := (List.range 4).map (fun i => (v.getD (1 + i) 0, v.getD (5 + i) 0))

/-- Share length of driver k (R293). -/
def shareBits : List (Nat × Nat) → Nat → Nat
  | [], _ => 0
  | (n, b) :: rs, k => if k < n then b else shareBits rs (k - n)

/-- Configured payload length in bytes (R293). -/
def payloadLen (v : Row) : Nat := ((strandRuns v).map (fun e => e.1 * e.2 / 8)).sum

/-- Byte offset of driver k's share (R293). -/
def shareOffset : List (Nat × Nat) → Nat → Nat
  | [], _ => 0
  | (n, b) :: rs, k => if k < n then k * (b / 8) else n * (b / 8) + shareOffset rs (k - n)

def oSafeLook : Nat := 0x321000

/-- The strand row in force: in Berm service that of the stored safe look (R637, R639). -/
def State.strandCfg (s : State) (st : Nat) : Row :=
  if s.berm then
    let v := s.row oSafeLook st
    [v.getD 1 1, v.getD 1 1, 0, 0, 0, v.getD 2 64, 8, 8, 8, 0, 0]
  else s.row oStrand st

/-- D in force (R272): the row's WIRE_TRIM when MANUAL. -/
def State.wireD (s : State) (st : Nat) : Nat :=
  if (s.strandCfg st).getD 9 0 = 0 then (s.strandCfg st).getD 10 0 else s.fld oWire st 0

/-- The strand is used: its STRAND_MASK bit is 1 and its pin is not quarantined (R292, R342); in Berm service its safe-look row
is enabled. -/
def State.strandOn (s : State) (st : Nat) : Bool :=
  if s.berm then s.fld oSafeLook st 0 == 1
  else (s.fld oQuire (st / 16) 7).testBit (st % 16) && s.fld oQuarantine st 0 == 0

/-- Strands in use of a Quire, ascending. -/
def State.strandsOf (s : State) (q : Nat) : List Nat := ((List.range 16).map (fun i => 16 * q + i)).filter (fun st => s.strandOn st)

/-- Strands of a Quire whose STRAND_MASK bit is 1 (R388). -/
def State.maskedStrands (s : State) (q : Nat) : List Nat :=
  ((List.range 16).filter (fun i => (s.fld oQuire q 7).testBit i)).map (fun i => 16 * q + i)

/-! ## Cadence (R33, R297) -/

/-- The timing row in force on head h: for a STARTING head that of its enable commit (R297). -/
def State.timing (s : State) (h : Nat) : Row :=
  match s.headState h, (s.head h).enable with
  | 1, some c => c.timing
  | _, _ => s.row oTimingActive h

def tmHActive (v : Row) : Nat := v.getD 0 0
def tmHTotal (v : Row) : Nat := v.getD 1 0
def tmVActive (v : Row) : Nat := v.getD 2 0
def tmVTotal (v : Row) : Nat := v.getD 3 0
def tmNum (v : Row) : Nat := v.getD 4 0
def tmDen (v : Row) : Nat := v.getD 5 0
def tmLead (v : Row) : Nat := v.getD 7 0
def tmCut (v : Row) : Nat := v.getD 8 0

/-- The cadence of a timing row. -/
def tmCadence (v : Row) : Cadence := { epoch := ptNs (v.getD 6 0), num := tmNum v, den := tmDen v }

/-- Head period in ns. -/
def tmPeriod (v : Row) : Rat := (tmNum v : Rat) * 1000000000 / (tmDen v : Rat)

/-- Nominal line time in ns (R173). -/
def tmLine (v : Row) : Rat := tmPeriod v / (tmVTotal v : Rat)

/-- The cadence of Quire q: its head's epoch and M times its period (R33); in Berm service that of R637. -/
def State.quireCadence (s : State) (q : Nat) : Cadence :=
  if s.berm then { epoch := 0, num := 1, den := 15 } else
  let c := tmCadence (s.timing (s.qHead q))
  { c with num := s.qM q * c.num }

/-- Quire period in ns. -/
def State.quirePeriod (s : State) (q : Nat) : Rat := (s.qM q : Rat) * tmPeriod (s.timing (s.qHead q))

/-- Latch instant k on the timebase, in ns: the first TIME tick at or after its exact value (R67). -/
def State.latchAt (s : State) (q k : Nat) : Nat := (s.quireCadence q).tick k

/-- The next latch instant of a Quire that has one. -/
def State.nextLatch (s : State) (q : Nat) : Option Nat := (s.quire q).nextK.map (s.latchAt q)

/-- Head h feeds strands: a Quire that is not OFF takes its canvas from it (R182, R295). -/
def State.feeds (s : State) (h : Nat) : Bool := (List.range 16).any (fun q => s.quireState q != 0 && s.qHead q == h)

/-! ## Frame lengths (R17 to R20, R275, R291) -/

/-- Cells of a frame with divisor d (R18), lengthened for wiring trim D (R275). -/
def frameCells (v : Row) (d wire : Nat) : Nat :=
  let n := v.getD 0 0
  let bits := ((strandRuns v).map (fun e => e.1 * (e.2 + 8))).sum
  4 + 80 + bits + 4 + 2 * n + 8 + 2 * n + 40 * cdiv n d + 40 + cdiv wire 64 + cdiv wire 32

/-- The limits a strand row must keep in a Quire with row v and period num/den seconds (R17, R19, R20, R291, R294). -/
def strandFits (v sv : Row) (num den wire : Nat) : Bool :=
  let rate := v.getD 2 0
  let n := sv.getD 0 0
  let slow := decide (den ≤ 30 * num)
  let runsOk := ((strandRuns sv).map (fun e => e.1)).sum == n
  let bitsOk := decide (((strandRuns sv).map (fun e => e.1 * e.2)).sum ≤ 262144)
  let legacyOk :=
    decide (n ≤ (if rate = 3 then (if slow then 1024 else 552) else (if slow then 552 else 276))) &&
    decide ((24 * n * cellPs rate + 80000000) * den ≤ num * 1000000000000)
  let gapOk := decide (frameCells sv (2 ^ v.getD 3 0) wire + 16384 ≤ num * 1000000000000 / (den * cellPs rate))
  runsOk && bitsOk && (if legacy rate then legacyOk else gapOk)

/-- A Quire row with the strand rows as they are passes R294. -/
def quireRowOk (s : State) (q : Nat) (v : Row) : Bool :=
  let t := s.timing (v.getD 0 0)
  let num := v.getD 1 0 * tmNum t
  cadenceOk num (tmDen t) &&
  (List.range 16).all (fun i => strandFits v (s.row oStrand (16 * q + i)) num (tmDen t) (s.wireD (16 * q + i)))

/-- A strand row passes R294. -/
def strandRowOk (s : State) (st : Nat) (sv : Row) : Bool :=
  let v := s.row oQuire (st / 16)
  let t := s.timing (v.getD 0 0)
  let num := v.getD 1 0 * tmNum t
  cadenceOk num (tmDen t) && strandFits v sv num (tmDen t) (if sv.getD 9 0 = 0 then sv.getD 10 0 else s.fld oWire st 0)

/-! ## The quench (R630, R631) -/

/-- A Quire drives its pins: the quench no longer holds them. -/
def State.driveQuire (s : State) (q : Nat) : State :=
  { s with power := { s.power with driven := s.power.driven ||| (65535 * 2 ^ (16 * q)) } }

/-- The quench holds a Quire's pins again. -/
def State.undriveQuire (s : State) (q : Nat) : State :=
  { s with power := { s.power with driven := ((List.range 16).map (fun i => 16 * q + i)).foldl clrBit s.power.driven } }

/-- Pin ST p is held low by the quench (R631). -/
def State.pinQuenched (s : State) (p : Nat) : Bool := s.power.quenched && !s.power.driven.testBit p

/-! ## Summary causes and state changes (R301, R302) -/

/-- Set bit b of QUIRE.SUMq: event 80+q when it goes from 0 to 1 (R302). -/
def State.quireSum (s : State) (q b : Nat) : State :=
  let x := s.quire q
  if x.sum.testBit b then s else (s.setQuire q { x with sum := setBit x.sum b }).raise (80 + q)

/-- Change a Quire's state; SUM bit STATE. -/
def State.setQuireState (s : State) (q st : Nat) : State :=
  if s.quireState q = st then s else (s.setFld oQuireState q 0 st).quireSum q 0

/-! ## Records (R279) -/

/-- TEMP in degrees Celsius. -/
def tempC (v : Nat) : Rat := (v : Rat) / 64 - 64

end Sys2Proof.Machine
end

