-- ==== Sys2Proof/Machine/Cameg.lean ====
section
/-! DEFINITION. The frames the Girum composes on a Cameg line (R254, R259 to R271): headers with their CRC-16, shares and words with
their CRC-8, the index word of an enumeration, and the cells each frame takes. -/

namespace Sys2Proof.Machine

/-- A frame on a line: its type, the 80 header bits, and the bytes of the cells between the header and the closing LATCH or TURN. -/
structure CamegFrame where
  type   : Nat
  header : Nat
  cells  : List Byte

/-! ## Headers (R260, R261) -/

/-- The fields of a header that its sender chooses. -/
structure CamegHead where
  type    : Nat
  crest   : Nat
  seq     : Nat
  n       : Nat
  divCode : Nat
  phase   : Nat
  strip   : Nat
  ret     : Nat

/-- The 64 header bits, VERSION 1; 4096 drivers are written as 0. -/
def CamegHead.bits (h : CamegHead) : Nat :=
  2 ^ 60 + 2 ^ 56 * h.type + 2 ^ 48 * h.crest + 2 ^ 32 * h.seq + 2 ^ 19 * (h.n % 4096) + 2 ^ 16 * h.divCode + 2 ^ 8 * h.phase +
    2 ^ 7 * h.strip + 2 ^ 6 * h.ret

/-- The header as sent: its 64 bits and the CRC-16 over its 8 bytes (R260). -/
def CamegHead.sent (h : CamegHead) : Nat := 65536 * h.bits + crc16 (beBytes 8 h.bits)

/-! ## Words and shares (R262, R264, R266, R268, R271) -/

/-- Bytes followed by their CRC-8 (R262). -/
def withCrc8 (bs : List Byte) : List Byte := bs ++ beBytes 1 (crc8 bs)

/-- The payload of a pixel frame: each driver's share, cut by the strand's runs, with its CRC-8 (R264). -/
def shareCells : List (Nat × Nat) → List Byte → List Byte
  | [], _ => []
  | (n, b) :: rs, bs =>
    (List.range n).flatMap (fun k => withCrc8 ((bs.drop (k * (b / 8))).take (b / 8))) ++ shareCells rs (bs.drop (n * (b / 8)))

/-- The bits of a 16-bit half in the order sent, LSB first, as the bytes whose bits go out MSB first. -/
def lsbFirst (v : Nat) : List Byte :=
  (List.range 2).map (fun j => BitVec.ofNat 8 (((List.range 8).map (fun i => b2n (v.testBit (8 * j + i)) * 2 ^ (7 - i))).sum))

/-- The index word: v and its complement, each LSB first (R266). -/
def indexWord (v : Nat) : List Byte := lsbFirst v ++ lsbFirst (65535 - v % 65536)

/-- A command word (R268). -/
def commandWord (opcode : Nat) (perDriver : Bool) (arg : Nat) : List Byte :=
  withCrc8 (beBytes 4 (2 ^ 24 * opcode + 2 ^ 16 * b2n perDriver + arg))

/-- The SET_SHARE share of driver k of a strand row (R268, R293). -/
def setShareWord (v : Row) (k : Nat) : Nat :=
  2 ^ 28 * (shareBits (strandRuns v) k / 8 - 1) + 2 ^ 13 * shareOffset (strandRuns v) k

/-- Command shares, each with its CRC-8 (R268). -/
def commandShares (ws : List Nat) : List Byte := ws.flatMap (fun w => withCrc8 (beBytes 4 w))

/-- A select word: TYPE_MASK with only bits 1 to 8 (R271). -/
def selectWord (mask : Nat) : List Byte := withCrc8 (beBytes 4 (2 ^ 16 * (mask &&& 0x1FE)))

/-! ## Lengths in cells (R254, R259) -/

/-- Cells from the first of FRAME_START to the end of TURN of a frame that closes with TURN. -/
def CamegFrame.turnCells (f : CamegFrame) : Nat := 4 + 80 + (if f.type = 2 then 4 else 0) + 8 * f.cells.length + 4

/-- Cells of the return window after a LATCH or TURN (R278). -/
def windowCells (n d wire : Nat) : Nat := 4 * n + 48 + 40 * cdiv n d + cdiv wire 32

/-- `n` cells of Quire q's rate in whole ns, rounded up. -/
def State.cellsNs (s : State) (q n : Nat) : Nat := cdiv (n * cellPs (s.qRate q)) 1000

/-- Put a frame on a strand's line. -/
def State.putFrame (s : State) (st : Nat) (f : CamegFrame) : State :=
  s.setStrand st { s.strand st with header := f.header, cells := f.cells }

end Sys2Proof.Machine
end

