-- ==== Sys2Proof/Machine/Light.lean ====
section
/-! DEFINITION. Derating, the colour loop, the Gauge, the emitter fault list and the neighbour-pin short test (R316 to R342), with the
reference session's part in them (R362). -/

namespace Sys2Proof.Machine

def oDerate : Nat := 0x253000
def oDerateStatus : Nat := 0x253100
def oRegion : Nat := 0x254000
def oRegionBase : Nat := 0x254200
def oRegionStatus : Nat := 0x254300
def oShortResult : Nat := 0x256100
def oFaults : Nat := 0x257000
def oGauge : Nat := 0x260000
def oGaugeValue : Nat := 0x260100
def oGaRef : Nat := 0x260200
def oGaugeCnt : Nat := 0x426000
def oSensorGain : Nat := 0x262300
def oRegionTrace : Nat := 0x262600

/-! ## Masters (R316, R317) -/

/-- Ds of a strand: its derating factor with PATH CODE, otherwise 1 (R317). -/
def State.dsOf (s : State) (st : Nat) : Rat := if s.fld oDerate st 3 = 1 then (s.strand st).g else 1

/-- Mq, Ms and Ds of a strand as binary32 words. -/
def State.mastersNow (s : State) (st : Nat) : Row :=
  [toF32 ((s.sample 2 (st / 16) : Rat) / 32768), toF32 ((s.sample 3 st : Rat) / 32768), toF32 (s.dsOf st)]

/-! ## Derating (R318 to R323) -/

def GaugeCh.init : GaugeCh :=
  { range := 0, settle := 0, low := 0, ovr := false, hist := [], mean := 0, at_ := 0, alarmed := false, noValue := false }

def State.gaugeCh (s : State) (c : Nat) : GaugeCh := tget GaugeCh.init s.light.gauge c

def State.setGaugeCh (s : State) (c : Nat) (x : GaugeCh) : State :=
  { s with light := { s.light with gauge := tset GaugeCh.init s.light.gauge c x } }

/-- The greater of two optional temperatures. -/
def maxOpt : Option Rat → Option Rat → Option Rat
  | none, b => b
  | a, none => a
  | some a, some b => some (maxR a b)

/-- Strand temperature at node time t (R319). -/
def State.theta (s : State) (st t : Nat) : Option Rat :=
  let v := s.row oDerate st
  let age := v.getD 10 0 * 1000000
  let inW := fun (x : Nat) => decide (t ≤ x + age) && decide (x < t)
  let drivers := ((s.strand st).temps.filter (fun e => inW e.2.2)).foldl (fun m e => maxOpt m (some (tempC (e.2.1 - 1)))) none
  let ch := v.getD 2 0
  let g := s.gaugeCh ch
  let gauge := if s.fld oGauge ch 0 = 3 ∧ (s.fld oGaugeValue ch 4).testBit 0 ∧ inW g.at_ then some g.mean else none
  match v.getD 1 0 with
  | 0 => drivers
  | 1 => gauge
  | _ => maxOpt drivers gauge

/-- Percent fields as factors. -/
def pct (w : Nat) : Rat := f32 w / 100

/-- The hysteresis temperature after a new θ (R320). -/
def thNext (v : Row) (old : Option Rat) (th : Rat) : Rat :=
  match old with
  | none => th
  | some h => if h < th then th else if th < h - f32 (v.getD 8 0) then th + f32 (v.getD 8 0) else h

/-- The target factor (R320). -/
def derateTarget (v : Row) (theta : Option Rat) (th : Rat) : Rat :=
  if v.getD 0 0 = 0 then 1
  else match theta with
    | none => pct (v.getD 7 0)
    | some _ => minR 1 (maxR (pct (v.getD 7 0)) (1 - pct (v.getD 6 0) * (th - f32 (v.getD 5 0))))

/-- The gain to send (R321): BASE_GAIN times g with PATH GAIN, rounded with ties up; BASE_GAIN with PATH CODE. -/
def gainOf (v : Row) (g : Rat) : Nat :=
  if v.getD 3 0 = 1 then v.getD 4 0 else (roundHalfUp ((v.getD 4 0 : Rat) * g)).toNat

/-- Queue a broadcast on a strand (R270). -/
def State.broadcast (s : State) (st op arg : Nat) : State :=
  let x := s.quire (st / 16)
  s.setQuire (st / 16) { x with broadcasts := x.broadcasts ++ [{ at_ := s.clk.elapsed, strand := st, opcode := op, arg := arg }] }

/-- One update of a strand's factor at a latch instant (R320 to R323). CURRENT_GAIN goes to strands in use, at a Cameg rate (R290). -/
def State.derateStep (s : State) (t st : Nat) : State :=
  let v := s.row oDerate st
  let x := s.strand st
  let theta := s.theta st t
  let th := match theta with
    | some y => some (thNext v x.thetaH y)
    | none => x.thetaH
  let target := derateTarget v theta (th.getD 0)
  let ramp := pct (v.getD 9 0)
  let g := x.g + clampR (-ramp) ramp (target - x.g)
  let gain := gainOf v g
  let sent := s.fld oDerateStatus st 4
  let due := s.strandOn st && !legacy (s.qRate (st / 16)) && (gain != sent || decide (63 ≤ x.gainAge))
  let s1 := s.setStrand st { x with thetaH := th, g := g, target := target, present := theta.isSome,
                                    gainAge := if due then 0 else x.gainAge + 1 }
  let s2 := s1.setRow oDerateStatus st
    [toF32 (theta.getD 0), toF32 (th.getD 0), toF32 target, toF32 g, if due then gain else sent, b2n theta.isNone]
  let s3 := if theta.isNone then s2.bump oLightCnt 0 3 else s2
  let s4 := if due then (s3.bump oLightCnt 0 2).broadcast st 2 gain else s3
  let changed := (decide (x.target = 1) != decide (target = 1)) || (x.present && theta.isNone) ||
    (!x.present && theta.isSome && x.thetaH.isSome)
  let s5 := s4.raiseIf changed 98
  s5.raiseIf (decide (g = pct (v.getD 7 0)) && decide (x.g ≠ g)) 99

/-! ## The colour loop (R324 to R331) -/

def Region.init : Region := { start := none, sums := [(0, 0), (0, 0), (0, 0), (0, 0)], faults := 0, lit := false, valid := false }

def State.region (s : State) (r : Nat) : Region := tget Region.init s.light.regions r

def State.setRegion (s : State) (r : Nat) (x : Region) : State :=
  { s with light := { s.light with regions := tset Region.init s.light.regions r x } }

def rgOn (v : Row) : Bool := v.getD 0 0 == 1
def rgStrand (v : Row) : Nat := v.getD 1 0
def rgPhoto (v : Row) : Bool := v.getD 2 0 == 1
def rgDwell (v : Row) : Nat := v.getD 6 0

/-- Row of OD 0x2623 that holds a region's sensor gain (R372). -/
def sensorRow (r : Nat) (v : Row) : Nat := if rgPhoto v then 32 + r else v.getD 3 0

/-- The reference session uses the sensor of region r (R362). -/
def State.sessionHolds (s : State) (r : Nat) : Bool :=
  match s.cal.session with
  | none => false
  | some x =>
    let v := s.row oRegion r
    if x.row.getD 1 0 = 0 then !rgPhoto v && v.getD 3 0 == x.row.getD 2 0
    else rgPhoto v && (r == x.row.getD 2 0 || (rgStrand v == rgStrand (s.row oRegion (x.row.getD 2 0)) &&
      v.getD 4 0 == s.fld oRegion (x.row.getD 2 0) 4))

/-- The latch index at which the current cycle of region r began, or at which its first will: the next one of its Quire (R326). -/
def State.cycleStart (s : State) (r : Nat) : Option Nat :=
  let q := rgStrand (s.row oRegion r) / 16
  match (s.region r).start with
  | some a => some a
  | none => if s.quireState q = 1 ∨ s.quireState q = 3 then (s.quire q).nextK else none

/-- Witness values of region r for the frame that lights at latch k of its Quire (R326, R362). -/
def State.witnessOf (s : State) (r k : Nat) : Row :=
  let v := s.row oRegion r
  let lev := v.getD 5 0
  let only := fun (c : Nat) => (List.range 3).map (fun i => if i = c then lev else 0)
  match s.cal.session with
  | some x =>
    if s.sessionHolds r then (if x.row.getD 0 0 = 0 then [0, 0, 0] else only (x.row.getD 3 0))
    else match s.cycleStart r with
      | some a => if rgOn v ∧ a ≤ k then only ((k - a) / rgDwell v % 4) else [0, 0, 0]
      | none => [0, 0, 0]
  | none =>
    match s.cycleStart r with
    | some a => if rgOn v ∧ a ≤ k then only ((k - a) / rgDwell v % 4) else [0, 0, 0]
    | none => [0, 0, 0]

/-- The region matrix (R325) in single precision. -/
def State.regionMatrix (s : State) (r : Nat) : Row :=
  let gain := rnd32 ((s.sample 4 r : Rat) / 32768)
  (List.range 9).map (fun i => toF32 (rnd32 (gain * f32 (s.fld oRegionStatus r (2 + i / 3))) * f32 (s.fld oRegionBase r i)))

/-- Set a region's state and reason; event 100 at each change (R331). -/
def State.setRegionState (s : State) (r st reason : Nat) : State :=
  if s.fld oRegionStatus r 0 = st ∧ s.fld oRegionStatus r 1 = reason then s
  else (s.setRow oRegionStatus r (rput (rput (s.row oRegionStatus r) 0 st) 1 reason)).raise 100

/-- A region begins to run: MEASURING, or HOLD with reason 6 while a reference session has its sensor (R331, R362). -/
def State.regionBegins (s : State) (r : Nat) : State := if s.sessionHolds r then s.setRegionState r 3 6 else s.setRegionState r 1 0

/-- Note a reason against the cycle of region r (R330). -/
def State.regionFault (s : State) (r reason : Nat) : State :=
  let x := s.region r
  if x.start.isNone then s else s.setRegion r { x with faults := setBit x.faults reason }

/-- Phase of region r in whose second half the latch index k lies (R327). -/
def regionPhase (v : Row) (x : Region) (k : Nat) : Option Nat :=
  match x.start with
  | none => none
  | some a => if a ≤ k ∧ rgDwell v / 2 ≤ (k - a) % rgDwell v then some ((k - a) / rgDwell v % 4) else none

/-- Add a sensor value to a phase. -/
def State.regionAdd (s : State) (r ph : Nat) (y : Rat) : State :=
  let x := s.region r
  let e := x.sums.getD ph (0, 0)
  s.setRegion r { x with sums := x.sums.set ph (e.1 + y, e.2 + 1) }

/-- The mean of a phase. -/
def phaseMean (x : Region) (ph : Nat) : Rat :=
  let e := x.sums.getD ph (0, 0)
  if e.2 = 0 then 0 else e.1 / (e.2 : Rat)

/-- Trace level and REF_ID of a region's sensor (R364). -/
def State.sensorTrace (s : State) (r : Nat) : Nat × Nat :=
  let g := s.row oSensorGain (sensorRow r (s.row oRegion r))
  (g.getD 1 0, g.getD 2 0)

/-- One correction's update (R328): error, then the bounds. -/
def correct (v : Row) (c target r : Rat) : Rat :=
  let e := target / r
  let step := f32 (v.getD 8 0)
  if f32 (v.getD 9 0) < absR (e - 1) then clampR (f32 (v.getD 10 0)) (f32 (v.getD 11 0)) (rnd32 (c * clampR (1 - step) (1 + step) e)) else c

/-- A correction stands at C_MIN or C_MAX (R331). -/
def State.atLimit (s : State) (r : Nat) : Bool :=
  (List.range 3).any (fun i =>
    let c := f32 (s.fld oRegionStatus r (2 + i))
    decide (c = f32 (s.fld oRegion r 10)) || decide (c = f32 (s.fld oRegion r 11)))

/-- TRACKING or LIMIT, as the corrections stand (R331). -/
def State.tracks (s : State) (r : Nat) : State := s.setRegionState r (if s.atLimit r then 4 else 2) 0

/-- A region that is TRACKING or LIMIT follows a change of its bounds or corrections (R331). -/
def State.retrack (s : State) (r : Nat) : State :=
  if s.fld oRegionStatus r 0 = 2 ∨ s.fld oRegionStatus r 0 = 4 then s.tracks r else s

/-- What the calibration store holds of a region has changed, and what the settings hold of its corrections (R347, R367). -/
def State.calTouched (s : State) : State := { s.touchSettings with cal := { s.cal with changed := true } }

/-- Targets are taken or written: they have the sensor's level, and corrections are untraced until an update under them (R364,
R365, log entry 81). -/
def State.traceTargets (s : State) (r : Nat) : State :=
  let tr := s.sensorTrace r
  (s.setRow oRegionTrace r [tr.1, 0, tr.2]).calTouched

/-- Targets are taken from a first cycle: R329 calls them untraced and R364 gives them the sensor's level, so that which of the two they
have is free (log entry 81). -/
def State.traceTaken (s : State) (r : Nat) : State :=
  if Config.takenTraced then s.traceTargets r else (s.setRow oRegionTrace r [0, 0, 0]).calTouched

/-- Apply a valid cycle's update (R328, R329, R331, R364). -/
def State.regionUpdate (s : State) (r : Nat) (resp : List Rat) : State :=
  let v := s.row oRegion r
  let tr := s.sensorTrace r
  let s1 := s.setRow oRegionStatus r
    (rput (rput (rput (s.row oRegionStatus r) 5 (toF32 (resp.getD 0 0))) 6 (toF32 (resp.getD 1 0))) 7 (toF32 (resp.getD 2 0)))
  if v.getD 12 0 = 0 ∧ v.getD 13 0 = 0 ∧ v.getD 14 0 = 0 then
    let v1 := rput (rput (rput v 12 (toF32 (resp.getD 0 0))) 13 (toF32 (resp.getD 1 0))) 14 (toF32 (resp.getD 2 0))
    (((s1.setRow oRegion r v1).touchSettings).traceTaken r).tracks r
  else
    let last := s.fld oRegionStatus r 8
    let due := last = 0 ∨ ptNs last + v.getD 7 0 * 1000000000 ≤ s.now
    if due then
      let cs := (List.range 3).map (fun i => correct v (f32 (s.fld oRegionStatus r (2 + i))) (f32 (v.getD (12 + i) 0)) (resp.getD i 0))
      let atBound := fun (c : Rat) => decide (c = f32 (v.getD 10 0)) || decide (c = f32 (v.getD 11 0))
      let reached := (List.range 3).any (fun i => atBound (cs.getD i 0) && decide (cs.getD i 0 ≠ f32 (s.fld oRegionStatus r (2 + i))))
      let row := s1.row oRegionStatus r
      let s2 := (s1.setRow oRegionStatus r
        (rput (rput (rput (rput row 2 (toF32 (cs.getD 0 0))) 3 (toF32 (cs.getD 1 0))) 4 (toF32 (cs.getD 2 0))) 8 s.nowPt)).bump oLightCnt 0 4
      let traced := s.fld oRegionTrace r 0 == 2 && tr.1 == 2 && tr.2 == s.fld oRegionTrace r 2
      let s3 := (s2.setFld oRegionTrace r 1 (if traced then 2 else 0)).raiseIf reached 101
      s3.calTouched.tracks r
    else s1.tracks r

/-- Judge the cycle that ends now (R330). -/
def State.regionJudge (s : State) (r : Nat) : State :=
  let x := s.region r
  let resp := (List.range 3).map (fun c => phaseMean x c - phaseMean x 3)
  let f1 := if (List.range 4).any (fun p => (x.sums.getD p (0, 0)).2 == 0) then setBit x.faults 3 else x.faults
  let f2 := if resp.any (fun y => decide (y ≤ 0)) then setBit f1 4 else f1
  match (List.range 7).find? (fun i => f2.testBit i) with
  | some reason => (s.bump oLightCnt 0 5).setRegionState r 3 (if s.sessionHolds r then 6 else reason)
  | none => (s.setRegion r { x with valid := true }).regionUpdate r resp

/-- Reasons 1, 2, 5 and 6 of the cycle in progress at a latch instant (R330). -/
def State.regionTest (s : State) (r : Nat) : State :=
  let st := rgStrand (s.row oRegion r)
  let s1 := if s.quireState (st / 16) = 3 then s else s.regionFault r 1
  let s2 := if s1.fld oDerate st 3 = 0 ∧ gainOf (s1.row oDerate st) (s1.strand st).g ≠ s1.fld oDerate st 4 then s1.regionFault r 2 else s1
  let s3 := if (s2.region r).lit then s2 else s2.regionFault r 5
  if s3.sessionHolds r then s3.regionFault r 6 else s3

/-- A cycle of region r begins at latch instant k (R326). -/
def State.regionCycle (s : State) (r k : Nat) : State :=
  let s1 := s.setRegion r { s.region r with start := some k, sums := Region.init.sums, faults := 0 }
  if s1.fld oRegionStatus r 0 = 0 then s1.regionBegins r else s1

/-- Note whether the set that becomes front carries region r's witness (R330). -/
def State.regionLit (s : State) (seen : Option (List Nat)) (r : Nat) : State :=
  match seen with
  | some l => s.setRegion r { s.region r with lit := l.contains r }
  | none => s

/-- A latch instant k of region r's witness Quire (R326, R330); `seen` are the witness regions of the set that becomes front there,
none where the front set is sent again. -/
def State.regionLatch (s : State) (k : Nat) (seen : Option (List Nat)) (r : Nat) : State :=
  let v := s.row oRegion r
  if !rgOn v then s.regionLit seen r
  else
    let s1 := match (s.region r).start with
      | none => s.regionCycle r k
      | some a => if a + 4 * rgDwell v ≤ k then (s.regionJudge r).regionCycle r k else s
    (s1.regionTest r).regionLit seen r

/-- The witness Quire of region r leaves RUNNING: the cycle in progress is invalid by reason 1 (R330). -/
def State.regionCut (s : State) (r : Nat) : State :=
  if (s.region r).start.isNone then s
  else
    let s1 := (s.bump oLightCnt 0 5).setRegionState r 3 (if s.sessionHolds r then 6 else 1)
    s1.setRegion r { s1.region r with start := none }

/-- Regions whose witness strand belongs to Quire q, enabled or not. -/
def State.regionsAt (s : State) (q : Nat) : List Nat := (List.range 256).filter (fun r => rgStrand (s.row oRegion r) / 16 == q)

/-- A region stops: OFF, its corrections frozen (R331). -/
def State.regionOff (s : State) (r : Nat) : State :=
  (s.setRegion r { s.region r with start := none, valid := false }).setRegionState r 0 0

/-- Enabled regions whose witness strand belongs to Quire q. -/
def State.regionsOf (s : State) (q : Nat) : List Nat :=
  (List.range 256).filter (fun r => rgOn (s.row oRegion r) && rgStrand (s.row oRegion r) / 16 == q)

/-- A write of a region row (R324, R331, R364): ENABLE 0 freezes the corrections; written targets take the sensor's level. -/
def writeRegion (r : Nat) (v : Row) (s : State) : WRes :=
  let old := s.row oRegion r
  let s1 := s.setRow oRegion r v
  let s2 := if rgOn v then
      (if !rgOn old then s1.regionBegins r else if s1.sessionHolds r then s1.setRegionState r 3 6 else s1.retrack r)
    else s1.regionOff r
  let moved := decide (sensorRow r v ≠ sensorRow r old)
  let targets := f32 (v.getD 12 0) != 0 || f32 (v.getD 13 0) != 0 || f32 (v.getD 14 0) != 0 || decide (v.drop 12 ≠ old.drop 12)
  done (if targets then s2.traceTargets r else if moved then (s2.setFld oRegionTrace r 1 0).calTouched else s2)

/-- A write of 1 to OD 0x2544 (R331): the corrections move to 1.0, which raises event 101 where 1.0 is a bound. -/
def writeRegionReset (r v : Nat) (s : State) : WRes :=
  if v = 1 then
    let one := toF32 1
    let v := s.row oRegion r
    let bound := decide (f32 (v.getD 10 0) = 1) || decide (f32 (v.getD 11 0) = 1)
    let reached := bound && (List.range 3).any (fun i => decide (f32 (s.fld oRegionStatus r (2 + i)) ≠ 1))
    let s1 := s.setRow oRegionStatus r (rput (rput (rput (s.row oRegionStatus r) 2 one) 3 one) 4 one)
    done ((s1.raiseIf reached 101).retrack r).calTouched
  else done s

/-! ## The Gauge (R332 to R337) -/

/-- Full scale of a range in amperes (R333). -/
def fullScale (range : Nat) : Rat :=
  match range with
  | 0 => 1 / 100000000
  | 1 => 1 / 10000000
  | 2 => 1 / 1000000
  | _ => 1 / 100000

/-- 2 atanh(z) to 40 terms, z at most 1/3. -/
def atanh2 (z : Rat) : Rat := ((List.range 40).map (fun (n : Nat) => 2 * z ^ (2 * n + 1) / ((2 * n + 1 : Nat) : Rat))).sum

/-- The natural logarithm of a positive rational, to better than 2^-60 (log entry 19). -/
def lnQ (x : Rat) : Rat :=
  let k := floorLog2 x
  let m := x / pow2 k
  (k : Rat) * atanh2 (1 / 3) + atanh2 ((m - 1) / (m + 1))

/-- The modes a channel may have (R333). -/
def gaugeModeOk (c : Nat) (v : Row) : Bool := v.getD 0 0 == 0 || (if c < 32 then v.getD 0 0 == 1 else decide (2 ≤ v.getD 0 0))

/-- X of a code (R334). -/
def codeX (code : Int) : Rat := (code : Rat) / 8388607

/-- Engineering value of a code (R334): none for an NTC channel outside its range. -/
def State.gaugeEng (s : State) (c range : Nat) (code : Int) : Option Rat :=
  let v := s.row oGauge c
  let vref := f32 (s.val oGaRef)
  let volts := codeX code * vref
  match v.getD 0 0 with
  | 1 => some (codeX code * fullScale range * f32 (s.fld oSensorGain c 0))
  | 2 => some volts
  | 4 => some (volts * f32 (v.getD 6 0))
  | _ =>
    if volts ≤ 0 ∨ vref ≤ volts then none
    else
      let rt := f32 (v.getD 3 0) * volts / (vref - volts)
      some (1 / (100 / 29815 + lnQ (rt / f32 (v.getD 4 0)) / f32 (v.getD 5 0)) - 27315 / 100)

/-- Range in use of a channel: the row's, or the one AUTO has chosen (R335). -/
def State.gaugeRange (s : State) (c : Nat) : Nat :=
  if s.fld oGauge c 1 = 4 then (if (s.gaugeCh c).range = 0 then 3 else (s.gaugeCh c).range - 1) else s.fld oGauge c 1

/-- The session holds channel c's range (R362). -/
def State.sessionOn (s : State) (c : Nat) : Bool :=
  match s.cal.session with
  | some x => x.row.getD 1 0 == 0 && x.row.getD 2 0 == c
  | none => false

/-- Every region whose sensor is Gauge channel c loses its cycle to reason 3 (R330). -/
def State.gaugeSpoils (s : State) (c : Nat) : State :=
  let rs := (List.range 256).filter (fun r => rgOn (s.row oRegion r) && !rgPhoto (s.row oRegion r) && s.fld oRegion r 3 == c)
  rs.foldl (fun st r => st.regionFault r 3) s

/-- What ends the reference session in TIMEOUT has happened in its window (R363): its channel over range, or GA_REF at fault. -/
def State.sessionFault (s : State) : State :=
  match s.cal.session with
  | some x =>
    let w := x.startAt + 100000000
    if w < s.now ∧ s.now ≤ w + x.row.getD 7 0 * 1000000 then { s with cal := { s.cal with session := some { x with fault := true } } } else s
  | none => s

/-- A change of range (R335): event 104, counted, and the two samples after it are discarded. -/
def State.gaugeRangeTo (s : State) (c n : Nat) : State :=
  (((s.setGaugeCh c { s.gaugeCh c with range := n + 1, settle := 2, low := 0 }).bump oGaugeCnt c 2).raise 104).gaugeSpoils c

/-- A write of a channel's row (R333). Where the range in use changes, R335 applies; AUTO goes on from the range in use (log
entry 81). -/
def State.gaugeRow (s : State) (c : Nat) (v : Row) : State :=
  let old := s.row oGauge c
  let s1 := s.setRow oGauge c v
  let was := s.gaugeRange c
  if old.getD 0 0 = 1 ∧ v.getD 0 0 = 1 then
    if v.getD 1 0 = 4 then (if old.getD 1 0 = 4 then s1 else s1.setGaugeCh c { s1.gaugeCh c with range := was + 1, low := 0 })
    else if v.getD 1 0 = was then s1
    else s1.gaugeRangeTo c (v.getD 1 0)
  else s1

/-- The AUTO rule after a code (R335). -/
def State.gaugeAuto (s : State) (c : Nat) (code : Int) : State :=
  if s.fld oGauge c 0 = 1 ∧ s.fld oGauge c 1 = 4 ∧ !s.sessionOn c then
    let r := s.gaugeRange c
    let low := if code.natAbs < 671088 then (s.gaugeCh c).low + 1 else 0
    if 7549746 ≤ code.natAbs ∧ r < 3 then s.gaugeRangeTo c (r + 1)
    else if 16 ≤ low ∧ 0 < r then s.gaugeRangeTo c (r - 1)
    else s.setGaugeCh c { s.gaugeCh c with low := low }
  else s

/-- The alarm window (R336). -/
def State.gaugeAlarm (s : State) (c : Nat) (mean : Rat) : State :=
  let v := s.row oGauge c
  let out := !(decide (f32 (v.getD 8 0) ≤ mean) && decide (mean < f32 (v.getD 9 0)))
  let g := s.gaugeCh c
  if v.getD 7 0 = 1 ∧ out ≠ g.alarmed then ((s.setGaugeCh c { g with alarmed := out }).bump oGaugeCnt c 3).raise 105 else s

/-- Give a sample value to the regions and the session that use channel c; `from_` is the start of its window (R327, R362). -/
def State.gaugeUse (s : State) (c from_ : Nat) (y raw : Rat) : State :=
  let rs := (List.range 256).filter (fun r => rgOn (s.row oRegion r) && !rgPhoto (s.row oRegion r) && s.fld oRegion r 3 == c)
  let add := fun (st : State) (r : Nat) =>
    let v := st.row oRegion r
    let q := rgStrand v / 16
    match (st.quire q).nextK with
    | none => st
    | some k =>
      match regionPhase v (st.region r) (k - 1) with
      | some ph =>
        if st.latchAt q (((st.region r).start.getD 0) + ((k - 1 - (st.region r).start.getD 0) / rgDwell v) * rgDwell v + rgDwell v / 2) ≤ from_
        then st.regionAdd r ph y else st
      | none => st
  let s1 := rs.foldl add s
  match s1.cal.session with
  | some x =>
    if s1.sessionOn c ∧ x.startAt + 100000000 ≤ from_ ∧ from_ + 1000000 ≤ x.startAt + 100000000 + x.row.getD 7 0 * 1000000 then
      { s1 with cal := { s1.cal with session := some { x with sum := x.sum + raw, count := x.count + 1 } } }
    else s1
  | none => s1

/-- A value delivered on channel c (R333, R334). -/
def State.gaugeDeliver (s : State) (c from_ : Nat) (code : Int) (y : Rat) : State :=
  let g := s.gaugeCh c
  let hist := (y :: g.hist).take (s.fld oGauge c 2)
  let mean := hist.sum / (hist.length : Rat)
  let s1 := s.setGaugeCh c { g with hist := hist, mean := mean, at_ := s.now, noValue := false, ovr := false }
  let s2 := s1.setRow oGaugeValue c [ofI 32 code, toF32 y, toF32 mean, s.gaugeRange c, 1]
  (s2.gaugeUse c from_ y (codeX code * fullScale (s.gaugeRange c))).gaugeAlarm c mean

/-- One channel's part of a sample (R333 to R336). -/
def State.gaugeOne (s0 : State) (from_ : Nat) (x : GaugeCode) : State :=
  let c := x.channel
  if 48 ≤ c ∨ s0.fld oGauge c 0 = 0 then s0
  else
    let code := clampI (-8388607) 8388607 x.code
    let g0 := s0.gaugeCh c
    let s := (if g0.range = 0 then s0.setGaugeCh c { g0 with range := 4 } else s0).bump oGaugeCnt c 0
    let g := s.gaugeCh c
    if 0 < g.settle then
      (s.setGaugeCh c { g with settle := g.settle - 1 }).setRow oGaugeValue c
        (rput (rput (s.row oGaugeValue c) 0 (ofI 32 code)) 4 4)
    else if code.natAbs = 8388607 then
      let s1 := (s.setGaugeCh c { g with ovr := true }).bump oGaugeCnt c 1
      let s2 := if g.ovr then s1 else s1.raise 104
      let s2a := if s.fld oGauge c 0 = 3 ∧ !g.noValue then
          ((s2.setGaugeCh c { s2.gaugeCh c with noValue := true }).bump oGaugeCnt c 4).raise 106 else s2
      let s3a := (s2a.setRow oGaugeValue c (rput (rput (s2a.row oGaugeValue c) 0 (ofI 32 code)) 4 2)).gaugeSpoils c
      let s3 := if s3a.sessionOn c then s3a.sessionFault else s3a
      { s3 with light := { s3.light with overAny := true } }.gaugeAuto c code
    else
      match s.gaugeEng c (s.gaugeRange c) code with
      | none =>
        let s1 := s.setGaugeCh c { g with noValue := true, ovr := false }
        let s2 := s1.setRow oGaugeValue c (rput (rput (s1.row oGaugeValue c) 0 (ofI 32 code)) 4 0)
        if g.noValue then s2 else (s2.bump oGaugeCnt c 4).raise 106
      | some y => (s.gaugeDeliver c from_ code y).gaugeAuto c code

/-- GAUGE_SAMPLE (R332, R337): one conversion of all channels; `refPpm` is the difference between GA_REF and the internal
reference, in ppm of OD 0x2602. -/
def execGaugeSample (codes : List GaugeCode) (refPpm : Int) (s0 : State) : State :=
  if !s0.full then s0
  else
    let due := if s0.light.gaugeAt ≤ s0.now then (s0.now / 1000000 + 1) * 1000000 else s0.light.gaugeAt
    let s1 := s0.advanceTo due
    let bad := decide (20000 < refPpm.natAbs)
    let s2 := { s1 with light := { s1.light with gaugeAt := due + 1000000, refFault := bad, overAny := false } }
    let s3 := s2.raiseIf (bad != s0.light.refFault) 107
    if bad then (List.range 48).foldl (fun st c => (st.setFld oGaugeValue c 4 0).gaugeSpoils c) s3.sessionFault
    else codes.foldl (fun st x => st.gaugeOne (due - 1000000) x) s3

/-! ## Emitter faults (R338) -/

/-- An OPEN or SHORT record of driver k on strand st: channel bits. Answers whether a bit was new. -/
def State.emitterReport (s : State) (st k openBits shortBits : Nat) : State :=
  let n := s.rowCount oFaults
  let at_ := (List.range n).find? (fun i => s.fld oFaults i 0 == st && s.fld oFaults i 1 == k)
  if openBits = 0 ∧ shortBits = 0 then s
  else match at_ with
    | some i =>
      let v := s.row oFaults i
      s.setRow oFaults i ((rput (rput (rput v 2 (v.getD 2 0 ||| openBits)) 3 (v.getD 3 0 ||| shortBits)) 5 s.nowPt))
    | none =>
      if 1024 ≤ n then
        ({ s with light := { s.light with faultFull := true } }.bump oLightCnt 0 6).raise 102
      else ((s.setRowCount oFaults (n + 1)).setRow oFaults n [st, k, openBits, shortBits, s.nowPt, s.nowPt]).raise 102

/-- A write of 1 to OD 0x2571 (R338). -/
def writeFaultClear (v : Nat) (s : State) : WRes :=
  done (if v = 1 then { s.clearObj oFaults with light := { s.light with faultFull := false } } else s)

/-! ## The short test (R339 to R342) -/

/-- Two pins are adjacent in the ball block, or the board lists them (R339). -/
def State.adjacent (s : State) (a b : Nat) : Bool :=
  let near := fun (x y : Nat) => decide (x ≤ y + 1) && decide (y ≤ x + 1)
  a != b && ((near (a / 16) (b / 16) && near (a % 16) (b % 16)) ||
    (List.range (s.rowCount 0x256200)).any (fun i =>
      (s.fld 0x256200 i 0 == a && s.fld 0x256200 i 1 == b) || (s.fld 0x256200 i 0 == b && s.fld 0x256200 i 1 == a)))

/-- The Quire of a pin can be tested: OFF or SETUP. -/
def State.pinTestable (s : State) (p : Nat) : Bool := s.quireState (p / 16) == 0 || s.quireState (p / 16) == 2

/-- Pins of a Quire mask, ascending. -/
def maskPins (mask : Nat) : List Nat := (List.range 256).filter (fun p => mask.testBit (p / 16))

/-- A write of OD 0x2560 (R340). A second test while one runs is refused BUSY (log entry 20). -/
def writeShortTest (w : Who) (mask : Nat) (s : State) : WRes :=
  if !(List.range 16).all (fun q => !mask.testBit q || s.quireState q == 0 || s.quireState q == 2) then refuse s stState
  else if s.light.test.isSome then refuse s stBusy
  else
    let skipped := ((maskPins mask).map (fun a =>
      ((List.range 256).filter (fun b => s.adjacent a b && !mask.testBit (b / 16) && !s.pinTestable b)).length)).sum
    accept s w (fun h st => { st.clearObj oShortResult with
      light := { st.light with test := some (mask, h), testAt := st.clk.elapsed, shortMore := [] } }.add oLightCnt 0 7 skipped)

/-- Record one result and quarantine its pins (R342); past 1,024 they are only counted. -/
def State.shortResult (s : State) (a b kind : Nat) : State :=
  let n := s.rowCount oShortResult
  if (List.range n).any (fun i => s.row oShortResult i == [a, b, kind]) || s.light.shortMore.contains [a, b, kind] then s
  else
    let s1 := if n < 1024 then (s.setRowCount oShortResult (n + 1)).setRow oShortResult n [a, b, kind]
      else { s with light := { s.light with shortMore := [a, b, kind] :: s.light.shortMore } }
    if s.val 0x256300 = 1 then
      let s2 := s1.setFld oQuarantine a 0 1
      if kind = 1 then s2.setFld oQuarantine b 0 1 else s2
    else s1

end Sys2Proof.Machine
end

