-- ==== Sys2Proof/Machine/Collate.lean ====
section
/-! DEFINITION. Collation (R221 to R245): map segments, calibration records, the snapshot at line 0, the checks and the arithmetic of
an entry, its share in the back set, and the swap at a latch instant. -/

namespace Sys2Proof.Machine

def oMapStaged : Nat := 0x230000
def oMapActive : Nat := 0x230100
def oLayout : Nat := 0x230200
def oLut : Nat := 0x230300
def oClipLimit : Nat := 0x230400
def oCollCnt : Nat := 0x423000
def oLeadMiss : Nat := 0x423100
def oCadenceLock : Nat := 0x220600
def oMasterEff : Nat := 0x251200

def Coll.init : Coll := { switchAt := none, frame := none, seen := [], prev := none, prevSeen := [] }

def State.collOf (s : State) (h : Nat) : Coll := tget Coll.init s.coll h

def State.setColl (s : State) (h : Nat) (x : Coll) : State := { s with coll := tset Coll.init s.coll h x }

/-! ## Single precision (R233) -/

def fadd (a b : Rat) : Rat := rnd32 (a + b)
def fsub (a b : Rat) : Rat := rnd32 (a - b)
def fmul (a b : Rat) : Rat := rnd32 (a * b)
def fdiv (a b : Rat) : Rat := rnd32 (a / b)

/-! ## Map entries (R225, R226) -/

/-- The four words of a map entry. -/
structure MapEntry where
  w0 : Nat
  w1 : Nat
  w2 : Nat
  w3 : Nat

def MapEntry.kind (e : MapEntry) : Nat := bits e.w0 31 30
/-- Box size n: SAMPLE + 1 for CANVAS, otherwise 1. -/
def MapEntry.n (e : MapEntry) : Nat := if e.kind = 1 then bits e.w0 29 28 + 1 else 1
def MapEntry.key (e : MapEntry) : Nat := bits e.w0 25 0
def MapEntry.y (e : MapEntry) : Nat := bits e.w0 25 13
def MapEntry.x (e : MapEntry) : Nat := bits e.w0 12 0
def MapEntry.strand (e : MapEntry) : Nat := bits e.w1 31 24
def MapEntry.layout (e : MapEntry) : Nat := bits e.w1 23 16
def MapEntry.regionEn (e : MapEntry) : Bool := bit e.w1 15
def MapEntry.offset (e : MapEntry) : Nat := bits e.w1 14 0
def MapEntry.driver (e : MapEntry) : Nat := bits e.w2 31 20
def MapEntry.region (e : MapEntry) : Nat := bits e.w2 19 12
def MapEntry.universe_ (e : MapEntry) : Nat := bits e.w3 31 24
def MapEntry.slot (e : MapEntry) : Nat := bits e.w3 23 15
def MapEntry.slot16 (e : MapEntry) : Bool := bit e.w3 14

/-- Entry i of head h's active segment (R221). -/
def State.mapEntry (s : State) (h i : Nat) : MapEntry :=
  let a := s.fld oMapActive h 0 + 16 * i
  { w0 := s.dramWord a 4, w1 := s.dramWord (a + 4) 4, w2 := s.dramWord (a + 8) 4, w3 := s.dramWord (a + 12) 4 }

/-- The 12 words of calibration record i (R227). -/
def State.calRecord (s : State) (h i : Nat) : List Nat :=
  (List.range 12).map (fun j => s.dramWord (s.fld oMapActive h 1 + 24 * i + 2 * j) 2)

/-- Values of a record: a non-finite one is used as 0 (R228). -/
def calValues (ws : List Nat) : List Rat := ws.map (fun w => if fFinite 5 10 w then f16 w else 0)

/-- Non-finite values of a record. -/
def calBad (ws : List Nat) : Nat := (ws.filter (fun w => !fFinite 5 10 w)).length

/-! ## Layouts (R236, R238) -/

def laChannels (v : Row) : Nat := v.getD 0 0
def laBits (v : Row) : Nat := match v.getD 1 0 with
  | 0 => 8
  | 1 => 12
  | _ => 16
def laDither (v : Row) : Bool := v.getD 2 0 == 1

/-- Bytes of a share (R238). -/
def shareBytes (v : Row) : Nat := cdiv (laChannels v * laBits v) 8

/-- The layout in the snapshot. -/
def Snapshot.layout (p : Snapshot) (i : Nat) : Row := tget (dfltRow oLayout i) p.layouts i

/-- Entry i of LUT l in the snapshot. -/
def Snapshot.lut (p : Snapshot) (l i : Nat) : Nat := (tget (dfltRow oLut (4096 * l + i)) p.luts (4096 * l + i)).getD 0 0

/-- Mq times Ms times Ds of a strand. -/
def Snapshot.master (p : Snapshot) (st : Nat) : Rat :=
  let m := (tget [] p.masters st).map f32
  fmul (fmul (m.getD 0 0) (m.getD 1 0)) (m.getD 2 0)

/-! ## Stages (R233, R236 to R241) -/

/-- Row r of a 3 by 4 record applied to a colour, from left to right (log entry 21). -/
def calApply (m : List Rat) (r : Nat) (c : List Rat) : Rat :=
  fadd (fadd (fadd (fmul (m.getD (4 * r) 0) (c.getD 0 0)) (fmul (m.getD (4 * r + 1) 0) (c.getD 1 0)))
    (fmul (m.getD (4 * r + 2) 0) (c.getD 2 0))) (m.getD (4 * r + 3) 0)

/-- Row r of a 3 by 3 matrix applied to a colour. -/
def mat3Apply (m : List Rat) (r : Nat) (c : List Rat) : Rat :=
  fadd (fadd (fmul (m.getD (3 * r) 0) (c.getD 0 0)) (fmul (m.getD (3 * r + 1) 0) (c.getD 1 0))) (fmul (m.getD (3 * r + 2) 0) (c.getD 2 0))

/-- White extraction and channel sources (R236). -/
def layoutChannels (v : Row) (c : List Rat) : List Rat :=
  let wc := (List.range 3).map (fun i => f32 (v.getD (4 + i) 0))
  let w := if v.getD 3 0 = 1 then
      fmul (f32 (v.getD 7 0)) (minR (minR (fdiv (c.getD 0 0) (wc.getD 0 1)) (fdiv (c.getD 1 0) (wc.getD 1 1))) (fdiv (c.getD 2 0) (wc.getD 2 1)))
    else 0
  let rgb := if v.getD 3 0 = 1 then (List.range 3).map (fun i => fsub (c.getD i 0) (fmul w (wc.getD i 0))) else c
  (List.range (laChannels v)).map (fun k =>
    match v.getD (8 + k) 0 with
    | 0 => rgb.getD 0 0
    | 1 => rgb.getD 1 0
    | 2 => rgb.getD 2 0
    | 3 => w
    | _ => 0)

/-- Channel k of a DIRECT entry before the masters (R237). -/
def directValue (slots : List Byte) (e : MapEntry) (k : Nat) : Rat :=
  let b := fun (i : Nat) => (slots.getD i 0).toNat
  if e.slot16 then fdiv ((256 * b (e.slot + 2 * k) + b (e.slot + 2 * k + 1) : Nat) : Rat) 65535
  else fdiv ((b (e.slot + k) : Nat) : Rat) 255

/-- The output law (R240) of channel k. -/
def lutApply (p : Snapshot) (l : Nat) (x : Rat) : Rat :=
  let q := fmul x 4095
  let i := q.floor.toNat
  let lo : Rat := (p.lut l i : Rat)
  if 4095 ≤ i then (p.lut l 4095 : Rat) else fadd lo (fmul (fsub q (i : Rat)) (fsub (p.lut l (i + 1) : Rat) lo))

/-- The 4 bits of n reversed. -/
def rev4 (n : Nat) : Nat := (n % 2) * 8 + (n / 2 % 2) * 4 + (n / 4 % 2) * 2 + n / 8 % 2

/-- Quantisation (R241). -/
def quantise (nbits : Nat) (dither : Bool) (seq driver k : Nat) (y : Rat) : Nat :=
  let top : Nat := 2 ^ nbits - 1
  let v := fdiv (fmul y (top : Rat)) 65535
  let d : Rat := if dither then ((rev4 ((seq + driver + 4 * k) % 16) : Rat) + 1 / 2) / 16 else 1 / 2
  min (fadd v d).floor.toNat top

/-- Codes packed MSB first and padded to whole bytes (R238). -/
def packCodes (nbits : Nat) (codes : List Nat) : List Byte :=
  let n := codes.length * nbits
  let bytes := cdiv n 8
  beBytes bytes (codes.foldl (fun acc c => acc * 2 ^ nbits + c) 0 * 2 ^ (8 * bytes - n))

/-- Clamped channels, and how many were above 1 (R233 stage 7). -/
def clampChannels (cs : List Rat) : List Rat × Nat :=
  (cs.map (clampR 0 1), (cs.filter (fun c => decide (1 < c))).length)

/-- Stages 8 to 10 of channels already clamped. -/
def encodeShare (p : Snapshot) (v : Row) (dither : Bool) (seq driver : Nat) (cs : List Rat) : List Byte :=
  packCodes (laBits v) ((List.range (laChannels v)).map (fun k =>
    quantise (laBits v) dither seq driver k (lutApply p (v.getD (16 + k) 0) (cs.getD k 0))))

/-! ## Sources -/

/-- The mean of the box of a CANVAS entry on the Spine, from the first pixel on (R226, R233). -/
def State.boxMean (s : State) (h : Nat) (e : MapEntry) : List Rat :=
  let n := e.n
  let px := (List.range n).flatMap (fun j => (List.range n).map (fun i => s.spine h (e.x + 1 - n + i) (e.y + 1 - n + j)))
  let mean := fun (f : Rgba → Rat) => fdiv (px.foldl (fun a p => fadd a (f p)) 0) ((n * n : Nat) : Rat)
  [mean (·.r), mean (·.g), mean (·.b)]

/-- The box, or for n = 1 the key pixel, lies inside the active area (R230 reason 2). -/
def boxInside (e : MapEntry) (t : Row) : Bool :=
  decide (e.n ≤ e.x + 1) && decide (e.n ≤ e.y + 1) && decide (e.x < tmHActive t) && decide (e.y < tmVActive t)

/-- The mean a frame's entry i uses: from the Spine, or from the row window once the head has left the frame (R231). -/
def State.entryMean (s : State) (h i : Nat) (f : CollFrame) (e : MapEntry) : List Rat :=
  match tfind f.window i with
  | some ws => ws.map f32
  | none => s.boxMean h e

/-! ## Buffer sets (R224, R245) -/

def State.frontSet (s : State) (q : Nat) : Nat := s.fld oQuireColl q 0

/-- Set every byte of set b of Quire q to 0 (R224). -/
def State.clearSet (s : State) (q b : Nat) : State :=
  (List.range 16).foldl (fun st i => st.vaultPut (strandBuf b (16 * q + i)) (List.replicate 0x8000 0#8)) s

/-- Clear both sets of a Quire that is enabled (R224, R297). -/
def State.clearBoth (s : State) (q : Nat) : State :=
  let s1 := (s.clearSet q 0).clearSet q 1
  s1.setQuire q { s1.quire q with clearBack := false, clearFront := false }

/-- Write a share into the back set. -/
def State.putShare (s : State) (st offset : Nat) (bs : List Byte) : State :=
  s.vaultPut (strandBuf (1 - s.frontSet (st / 16)) st + offset) bs

/-! ## Map rows (R222, R223) -/

/-- The checks of a map row. -/
def mapRowOk (s : State) (h : Nat) (v : Row) : Bool :=
  s.runOk (v.getD 0 0) (16 * v.getD 2 0) && s.runOk (v.getD 1 0) (24 * v.getD 2 0) &&
  decide (v.getD 2 0 + s.fld oMapStaged (1 - h) 2 ≤ 1048576)

/-- The staged map row of head h takes effect (R223, R224). -/
def State.mapSwitch (s : State) (h : Nat) : State :=
  let s1 := (s.setRow oMapActive h (s.row oMapStaged h)).setColl h { s.collOf h with switchAt := none }
  let qs := (List.range 16).filter (fun q => s.qHead q == h && s.quireState q != 0)
  (qs.foldl (fun st q => st.setQuire q { st.quire q with clearBack := true, clearFront := true }) s1).raise 76

/-- A write of OD 0x2300 (R222, R223). -/
def writeMap (h : Nat) (v : Row) (s : State) : WRes :=
  if !mapRowOk s h v then refuse s stRange
  else
    let s1 := s.setRow oMapStaged h v
    if s.headState h ≤ 1 then done (s1.mapSwitch h)
    else done (s1.setColl h { s1.collOf h with switchAt := some s1.now })

/-! ## Line 0 (R223, R234, R243) -/

/-- The latch instant that a frame of head h qualifies for in Quire q (R243): first blanking line at b, line 0 at z. -/
def State.qualifies (s : State) (q : Nat) (z b : Rat) : Option Nat :=
  let c := s.quireCadence q
  let ph := tmPeriod (s.timing (s.qHead q))
  let k := c.first ((b + 64000).floor.toNat + 1)
  let l : Rat := (c.tick k : Rat)
  if b < l - 64000 ∧ l - 128000 - ph / 2 ≤ b ∧ l - s.quirePeriod q ≤ z then some k else none

/-- Quires that are enabled and bound to head h. -/
def State.boundQuires (s : State) (h : Nat) : List Nat := (List.range 16).filter (fun q => s.quireState q != 0 && s.qHead q == h)

/-- Front copies of the universes that hold a byte other than 0. -/
def State.slotsNow (s : State) : Tbl (List Byte) :=
  ((List.range 256).map (fun u => (u, s.vaultGet (uniCopy u (s.fld oUniStatus u 0)) 512))).filter (fun e => e.2.any (· != 0))

/-- The snapshot (R234), with the latch index at which each of the Quires qs takes the frame: it lights at the next one (R36, R326).
It holds every strand's masters, for a Quire may be enabled or bound to the head after line 0 (R243). -/
def State.snapshot (s : State) (qs : List (Nat × Nat)) : Snapshot :=
  let latchOf := fun (q : Nat) => match qs.find? (fun e => e.1 == q) with
    | some e => e.2
    | none => ((s.quire q).nextK.getD 0)
  { masters := (List.range 256).map (fun st => (st, s.mastersNow st))
    matrices := (List.range 256).map (fun r => (r, s.regionMatrix r))
    witness := (List.range 256).map (fun r => (r, s.witnessOf r (latchOf (rgStrand (s.row oRegion r) / 16) + 1)))
    layouts := tget [] s.od oLayout
    luts := tget [] s.od oLut
    slots := s.slotsNow }

/-- Report the masters taken (R317), and complete the drains that this sampling ends (R308, R311). -/
def State.snapshotTaken (s : State) (h : Nat) (p : Snapshot) : State :=
  let mine := p.masters.filter (fun e => (s.boundQuires h).contains (e.1 / 16))
  let s1 := mine.foldl (fun st e => st.setRow oMasterEff e.1 e.2) s
  let s2 := (s.boundQuires h).foldl (fun st q =>
    (List.range 16).foldl (fun u i => u.sampled 3 (16 * q + i)) (st.sampled 2 q)) s1
  (List.range 256).foldl (fun st r => st.sampled 4 r) s2

/-- Clear the sets that wait for it (R224). -/
def State.clearDue (s : State) (q : Nat) : State :=
  if (s.quire q).clearBack then
    let s1 := s.clearSet q (1 - s.frontSet q)
    s1.setQuire q { s1.quire q with clearBack := false }
  else s

/-- A staged map write of head h takes effect at a line 0 that begins at least 50 us after it (R223). -/
def State.mapSwitchDue (s : State) (h : Nat) : State :=
  match (s.collOf h).switchAt with
  | some w => if w + 50000 ≤ s.now then s.mapSwitch h else s
  | none => s

/-- The Collator's part of line 0 of head h: its frame begins (R223, R229, R234). z is the start of line 0, b the expected start
of the next first blanking line. -/
def State.collLineZero (s0 : State) (h : Nat) (z b : Rat) : State :=
  let s := s0.mapSwitchDue h
  let qs := (s.boundQuires h).filterMap (fun q => (s.qualifies q z b).map (fun k => (q, k)))
  let p := s.snapshot qs
  let s1 := (s.snapshotTaken h p)
  let s2 := (s1.boundQuires h).foldl State.clearDue s1
  let fr : CollFrame :=
    { frame := s2.fld 0x220500 h 4, zeroAt := z, blankAt := b, snap := p, cursor := 0, runMax := 0, window := [],
      raster := s.row oTimingActive h, line := (b - z) / (tmVActive (s.row oTimingActive h) : Rat),
      mapFault := false, calFault := false, late := false, clips := 0, clipped := false, underrun := false, unlocked := false,
      quires := qs, done := s2.fld oMapActive h 2 == 0 }
  let c := s2.collOf h
  s2.setColl h { c with seen := [], frame := some fr, prevSeen := c.seen,
                        prev := if (s.collOf h).switchAt == (s0.collOf h).switchAt || c.frame.any (fun f => f.done) then c.frame else none }

/-- A frame of head h for Quire q as it is bound and enabled now: it fills q's back set if it qualifies for a latch instant that is
still to come (R243). -/
def State.bindFrame (s : State) (h q : Nat) (f : CollFrame) : CollFrame :=
  let others := f.quires.filter (fun e => e.1 != q)
  let mine := if s.quireState q != 0 && s.qHead q == h then
      ((s.qualifies q f.zeroAt f.blankAt).toList.filter (fun k => decide (s.tbNow < (s.latchAt q k : Rat)))).map (fun k => (q, k))
    else []
  { f with quires := others ++ mine }

/-- Quire q has been enabled or its row rewritten: what the frames now passing the Collators fill of it (R243). -/
def State.bindFrames (s : State) (q : Nat) : State :=
  [0, 1].foldl (fun st h =>
    let c := st.collOf h
    st.setColl h { c with frame := c.frame.map (st.bindFrame h q), prev := c.prev.map (st.bindFrame h q) }) s

/-- The start of blanking: what the row window keeps of the entries still to come (R231), and the marks of the frame. -/
def State.collBlank (s : State) (h : Nat) : State :=
  let c := s.collOf h
  match c.frame with
  | none => s
  | some f =>
    let n := s.fld oMapActive h 2
    let keep := (List.range (n - f.cursor)).filterMap (fun j =>
      let i := f.cursor + j
      let e := s.mapEntry h i
      if e.kind = 1 ∧ boxInside e f.raster then some (i, (s.boxMean h e).map toF32) else none)
    s.setColl h { c with frame := some { f with window := keep, underrun := !(s.head h).underruns.isEmpty } }

/-! ## Entries (R229 to R233) -/

/-- The condition of R230 that an entry meets. -/
inductive EntryFault where
  | none | notCollated | binding | strandRange | order | activeArea | slotRange
  deriving DecidableEq, Repr

/-- R230, in the order of the table. -/
def State.entryFault (s : State) (h : Nat) (f : CollFrame) (e : MapEntry) : EntryFault :=
  let q := e.strand / 16
  let v := f.snap.layout e.layout
  if s.quireState q = 0 then .notCollated
  else if s.qHead q ≠ h then .binding
  else if payloadLen (s.row oStrand e.strand) < e.offset + shareBytes v then .strandRange
  else if e.key < f.runMax then .order
  else if !boxInside e f.raster then .activeArea
  else if e.kind = 2 ∧ 512 < e.slot + laChannels v * (if e.slot16 then 2 else 1) then .slotRange
  else .none

/-- The frame of head h fills the back set of the entry's Quire (R243). -/
def CollFrame.fills (f : CollFrame) (q : Nat) : Bool := f.quires.any (fun e => e.1 == q)

/-- Sequence of the pixel frame that first transmits the set (R241). -/
def CollFrame.seq (f : CollFrame) (q : Nat) : Nat :=
  match f.quires.find? (fun e => e.1 == q) with
  | some e => (e.2 + 1) % 65536
  | none => 0

/-- The share of an entry without fault, and its clips (R233). -/
def State.entryShare (s : State) (h i : Nat) (f : CollFrame) (e : MapEntry) : List Byte × Nat :=
  let v := f.snap.layout e.layout
  let m := f.snap.master e.strand
  let seq := f.seq (e.strand / 16)
  match e.kind with
  | 1 =>
    let rec_ := calValues (s.calRecord h i)
    let c0 := s.entryMean h i f e
    let c1 := (List.range 3).map (fun r => calApply rec_ r c0)
    let mat := (tget [] f.snap.matrices e.region).map f32
    let c2 := if e.regionEn then (List.range 3).map (fun r => mat3Apply mat r c1) else c1
    let c3 := c2.map (fun x => maxR 0 (fmul x m))
    let cs := clampChannels (layoutChannels v c3)
    (encodeShare f.snap v (laDither v) seq e.driver cs.1, cs.2)
  | 2 =>
    let slots := tget [] f.snap.slots e.universe_
    let cs := clampChannels ((List.range (laChannels v)).map (fun k => fmul (directValue slots e k) m))
    (encodeShare f.snap v (laDither v) seq e.driver cs.1, cs.2)
  | _ =>
    let c := ((tget [] f.snap.witness e.region).map f32).map (maxR 0)
    let cs := clampChannels (layoutChannels v c)
    (encodeShare f.snap v false seq e.driver cs.1, cs.2)

/-- Count a map fault by its column; event 73 once a frame. -/
def State.mapFaulted (s : State) (h : Nat) (f : CollFrame) (col : Nat) : CollFrame × State :=
  ({ f with mapFault := true }, (s.bump oCollCnt h col).raiseIf (!f.mapFault) 73)

/-- Advance a frame past its current entry. -/
def CollFrame.next (f : CollFrame) (n : Nat) : CollFrame := { f with cursor := f.cursor + 1, done := decide (n ≤ f.cursor + 1) }

/-- When entry e of a frame can be processed, and its deadline (R229, R231), on the timebase, by the frame's own raster. -/
def entryTime (f : CollFrame) (e : MapEntry) : Rat :=
  minR f.blankAt (f.zeroAt + ((e.y : Rat) + ((e.x + 1 : Nat) : Rat) / (tmHTotal f.raster : Rat)) * f.line)

def entryDeadline (f : CollFrame) (e : MapEntry) : Rat :=
  if e.y + 5 < tmVActive f.raster + e.n then f.zeroAt + ((e.y + 5 - e.n : Nat) : Rat) * f.line else f.blankAt + 64000

/-- Count clips; event 77 when a frame's clips exceed OD 0x2304 (R233, R247). -/
def State.countClips (s : State) (h : Nat) (f : CollFrame) (n : Nat) : CollFrame × State :=
  let total := f.clips + n
  let ovr := decide (0 < s.val oClipLimit) && decide (s.val oClipLimit < total) && !f.clipped
  ({ f with clips := total, clipped := f.clipped || ovr }, (s.add oCollCnt h 9 n).raiseIf ovr 77)

/-- The frame whose entry head h's Collator processes next: the frame before, while entries of it are left (R231). -/
def Coll.passing (c : Coll) : Option CollFrame :=
  if c.prev.any (fun f => !f.done) then c.prev else c.frame

/-- Replace the frame that `Coll.passing` gave. -/
def Coll.pass (c : Coll) (f : CollFrame) : Coll :=
  if c.prev.any (fun g => !g.done) then { c with prev := some f } else { c with frame := some f }

/-- Witness region r has been processed in the frame that passes. -/
def Coll.sees (c : Coll) (r : Nat) : Coll :=
  if c.prev.any (fun g => !g.done) then { c with prevSeen := r :: c.prevSeen } else { c with seen := r :: c.seen }

/-- Process entry i of the frame (R230, R233). -/
def State.collateOne (s : State) (h : Nat) (f : CollFrame) (i : Nat) : CollFrame × State :=
  let e := s.mapEntry h i
  let q := e.strand / 16
  let zero := fun (st : State) => if f.fills q then st.putShare e.strand e.offset (List.replicate (shareBytes (f.snap.layout e.layout)) 0#8) else st
  let read := (s.dramRead (s.fld oMapActive h 0 + 16 * i) 16)
  let s0 := (if e.kind = 1 then read.dramRead (s.fld oMapActive h 1 + 24 * i) 24 else read).bump oCollCnt h 0
  if e.kind = 0 then (f, s0.bump oCollCnt h 1)
  else
    let f0 := { f with runMax := max f.runMax e.key }
    match s.entryFault h f e with
    | .notCollated => (f0, s0)
    | .binding => s0.mapFaulted h f0 4
    | .strandRange => s0.mapFaulted h f0 5
    | .order => (zero s0).mapFaulted h f 2
    | .activeArea => (zero s0).mapFaulted h f0 3
    | .slotRange => (zero s0).mapFaulted h f0 6
    | .none =>
      let bad := if e.kind = 1 then calBad (s.calRecord h i) else 0
      let r := s.entryShare h i f0 e
      let s1 := if f.fills q then s0.putShare e.strand e.offset r.1 else s0
      let s2 := (s1.add oCollCnt h 7 bad).raiseIf (decide (0 < bad) && !f.calFault) 74
      let f1 := { f0 with calFault := f.calFault || decide (0 < bad) }
      let s3 := if e.kind = 3 then s2.setColl h ((s2.collOf h).sees e.region) else s2
      s3.countClips h f1 r.2

/-- COLLATE_ENTRY (R229, R233): the next entry of the frame passing head h's Collator. -/
def execCollateEntry (h : Nat) (s0 : State) : State :=
  match (s0.collOf h).passing with
  | none => s0
  | some f =>
    let n := s0.fld oMapActive h 2
    let e := s0.mapEntry h f.cursor
    if f.done ∨ n ≤ f.cursor then s0
    else if e.kind ≠ 0 ∧ f.runMax ≤ e.key ∧ entryDeadline f e ≤ s0.tbNow then s0
    else
      let s := if e.kind = 0 then s0 else s0.advanceTb (entryTime f e)
      let r := s.collateOne h f f.cursor
      r.2.setColl h ((r.2.collOf h).pass (r.1.next n))

/-- SAMPLE_LATE (R231): the next entry has not been processed by its deadline; zero codes are written. -/
def execSampleLate (h : Nat) (s0 : State) : State :=
  match (s0.collOf h).passing with
  | none => s0
  | some f =>
    let n := s0.fld oMapActive h 2
    let e := s0.mapEntry h f.cursor
    if f.done ∨ n ≤ f.cursor ∨ e.kind = 0 ∨ e.key < f.runMax then s0
    else
      let s := s0.advanceTb (entryDeadline f e)
      let v := f.snap.layout e.layout
      let ok := s.quireState (e.strand / 16) != 0 && s.qHead (e.strand / 16) == h &&
        decide (e.offset + shareBytes v ≤ payloadLen (s.row oStrand e.strand)) && f.fills (e.strand / 16)
      let s1 := if ok then s.putShare e.strand e.offset (List.replicate (shareBytes v) 0#8) else s
      let s2 := ((s1.bump oCollCnt h 0).bump oCollCnt h 8).raiseIf (!f.late) 75
      s2.setColl h ((s2.collOf h).pass ({ f with late := true, runMax := max f.runMax e.key }.next n))

/-! ## The swap (R244) -/

/-- Marks COLLATE, UNDERRUN and UNLOCKED of a frame (R389). -/
def CollFrame.marks (f : CollFrame) : Nat :=
  2 * b2n (f.late || f.mapFault || f.calFault) + 4 * b2n f.underrun + 8 * b2n f.unlocked

/-- A frame no longer fills Quire q for latch k. -/
def CollFrame.drop (f : CollFrame) (q k : Nat) : CollFrame := { f with quires := f.quires.filter (fun e => e != (q, k)) }

/-- The frames of head h no longer fill Quire q for latch instant k: entries still pending are abandoned (R244). -/
def State.collMissed (s : State) (h q k : Nat) : State :=
  let c := s.collOf h
  s.setColl h { c with frame := c.frame.map (fun f => f.drop q k), prev := c.prev.map (fun f => f.drop q k) }

/-- The frame that qualified for Quire q at latch instant k (R243). -/
def Coll.qualified (c : Coll) (q k : Nat) : Option CollFrame :=
  match c.prev.filter (fun f => f.quires.any (fun e => e == (q, k))) with
  | some f => some f
  | none => c.frame.filter (fun f => f.quires.any (fun e => e == (q, k)))

/-- The witness regions of that frame, or of the latest one. -/
def Coll.seenAt (c : Coll) (q k : Nat) : List Nat :=
  if c.prev.any (fun f => f.quires.any (fun e => e == (q, k))) then c.prevSeen else c.seen

/-- Every entry of the frame for Quire q has been processed (R244). -/
def State.entriesDone (s : State) (h q : Nat) (f : CollFrame) : Bool :=
  f.done || (List.range (s.fld oMapActive h 2 - f.cursor)).all (fun j =>
    let e := s.mapEntry h (f.cursor + j)
    e.kind == 0 || e.strand / 16 != q)

/-- Latch instant k of Quire q: the sets swap, or the front set is sent again (R244). -/
def State.collLatch (s : State) (q k : Nat) : State :=
  let h := s.qHead q
  let c := s.collOf h
  let x := s.quire q
  match (c.qualified q k).filter (fun f => s.entriesDone h q f) with
  | some f =>
    let s1 := s.setRow oQuireColl q [1 - s.frontSet q, f.frame, s.fld oQuireColl q 2]
    s1.setQuire q { x with frontMarks := f.marks, repeated := false, clearBack := x.clearFront, clearFront := x.clearBack }
  | none =>
    let s1 := s.setQuire q { x with repeated := true }
    let s2 := s1.collMissed h q k
    if s.headState h = 1 then s2
    else ((s2.bump32 oLeadMiss q 0).setFld oQuireColl q 2 s2.nowPt).raise 72

end Sys2Proof.Machine
end

