-- ==== Sys2Proof/Machine/Twin.lean ====
section
/-! DEFINITION. Twins and failover (R373 to R403): Crest, the two heartbeat paths, signature comparison, the state machine and the
handover. -/

namespace Sys2Proof.Machine

def oTwin : Nat := 0x121100
def oCompare : Nat := 0x121200
def oTwinCnt : Nat := 0x412000

/-! ## Configuration in force (R403) -/

def State.twinEnabled (s : State) : Bool := s.val 0x121001 == 1
def State.rank (s : State) : Nat := s.val 0x121003
def State.twinned (s : State) (q : Nat) : Bool := (s.val 0x121005).testBit q

/-- State codes of R377: 0 ALONE, 1 LEADER, 2 FOLLOWER, 3 DEMOTED, 4 REJOINING. -/
def State.twinState (s : State) : Nat := s.fld oTwin 0 0

def State.dike (s : State) : Nat := s.fld oTwin 0 4
def State.chainUp (s : State) : Bool := s.fld oTwin 0 5 == 1
def State.diverged (s : State) : Bool := s.fld oTwin 0 6 == 1

def State.twinCount (s : State) (c : Nat) : State := s.bump oTwinCnt 0 c

def State.setTwin (s : State) (x : Twin) : State := { s with twin := x }

/-- A flow chart's TWIN_STATUS column. -/
def State.setTwinCol (s : State) (c v : Nat) : State := s.setFld oTwin 0 c v

/-! ## Crest (R377, R378, R397) -/

/-- Crest of a state with a rank. -/
def crestFor (st rank : Nat) : Nat :=
  match st with
  | 0 => 0x80 ||| rank
  | 1 => 0x80 ||| rank
  | 2 => rank
  | _ => 0

/-- Crest on twinned Quires now. -/
def State.crest (s : State) : Nat := if s.berm then 1 else if s.full then crestFor s.twinState s.rank else 0

/-- The other role of a handover. -/
def swapRole (st : Nat) : Nat := if st = 1 then 2 else if st = 2 then 1 else st

/-- Crest of the frame of Quire q that latches at latch index k (R377, R378, R397). -/
def State.frameCrest (s : State) (q k : Nat) : Nat :=
  if s.berm then 1
  else if !s.twinned q then 0x80 ||| s.rank
  else
    let c := s.quireCadence q
    let before : Rat := (c.epoch : Rat) + (k : Rat) * (c.num : Rat) * 1000000000 / (c.den : Rat)
    match s.twin.handover with
    | some (th, _, true) => if (th : Rat) ≤ before then crestFor (swapRole s.twinState) s.rank else s.crest
    | _ => s.crest

/-! ## State changes (R393) -/

/-- Partner present (R385). -/
def State.partnerPresent (s : State) : Bool := s.dike != 2 && (s.dike == 1 || s.chainUp)

/-- STATE the partner last reported. -/
def State.partnerState (s : State) : Nat :=
  match s.twin.partner with
  | some p => p.state
  | none => 0xF

/-- Partner out of service (R386): lost, or present and reporting DEMOTED, REJOINING or BERM. -/
def State.partnerOut (s : State) : Bool :=
  !s.partnerPresent || s.partnerState == 3 || s.partnerState == 4 || s.partnerState == 7

/-- Partner in service. -/
def State.partnerIn (s : State) : Bool := s.partnerPresent && decide (s.partnerState ≤ 2)

/-- Reason of a loss (R393). -/
def State.lossReason (s : State) : Nat := if s.dike = 2 then 3 else if !s.partnerPresent then 2 else 4

/-- Enter a state with a reason. A handover then proposed or acknowledged completes where it is what brings the change, and is
cancelled where it is not (R400, log entry 81); REJOINING counts from now how long the partner is out of service. -/
def State.enterTwin (s : State) (st reason : Nat) : State :=
  let x := s.twin
  let out := if st = 4 ∧ s.partnerOut then some s.now else none
  let s1 := s.setTwin { x with since := s.now, outSince := out, hearSince := none, handover := none, handoverTask := none,
                               revertReq := false, reason := reason, splitOn := false }
  let s2 := ((s1.setTwinCol 0 st).setTwinCol 7 reason).setTwinCol 8 s.nowPt
  let s3 := (s2.setTwinCol 2 (crestFor st s.rank)).setTwinCol 9 0
  let s3a := if x.handover.isSome ∧ reason ≠ 5 then (s3.twinCount 10).raise 29 else s3
  let s4 := if st = 3 then s3a.twinCount 8 else s3a
  let s5 := (s4.twinCount 0).raise 24
  if reason = 5 then ((s5.twinCount 9).raise 29).completeOpt x.handoverTask stOk else s5.completeOpt x.handoverTask stCancelled

def Compare.init : Compare := { done := [], run := [], seq := 0, valid := 0, marks := 0, sig := 0 }

def State.compare (s : State) (q : Nat) : Compare := tget Compare.init s.twin.quires q

def State.setCompare (s : State) (q : Nat) (x : Compare) : State :=
  s.setTwin { s.twin with quires := tset Compare.init s.twin.quires q x }

/-- Twinned Quires that are RUNNING on both nodes: RUNNING here and valid in the partner's latest beat. -/
def State.bothRunning (s : State) : List Nat :=
  (List.range 16).filter (fun q => s.twinned q && s.quireState q == 3 && (s.compare q).valid % 4 == 3)

/-- The match runs that a join asks for (R393). -/
def State.joinReady (s : State) : Bool :=
  let qs := s.bothRunning
  if qs.isEmpty then
    match s.twin.hearSince with
    | some t => decide (t + 1000000000 ≤ s.now)
    | none => false
  else qs.all (fun q => decide (s.val 0x12100A ≤ s.fld oCompare q 3))

/-- The partner's rank. -/
def State.partnerRank (s : State) : Nat :=
  match s.twin.partner with
  | some p => p.rank
  | none => 0

/-- An acknowledged handover whose instant has come (R396). -/
def State.handoverDue (s : State) : Bool :=
  match s.twin.handover with
  | some (t, _, true) => decide (t ≤ s.now)
  | _ => false

/-- The first transition of R393 above PROOF that holds by what the node now knows and by now (R13, R394). `rx`: a beat or heartbeat of
the partner has just arrived. -/
def State.twinDueHigh (s : State) (rx : Bool) : Option (Nat × Nat) :=
  let st := s.twinState
  let heard := s.twin.partner.isSome && s.partnerPresent
  if !s.twinEnabled || !s.full then none
  else if st = 4 ∧ s.partnerIn ∧ s.joinReady then some (2, 1)
  else if st = 4 ∧ s.twin.outSince.any (fun t => decide (t + 2000000000 ≤ s.now)) then some (0, 4)
  else if st = 4 ∧ heard ∧ s.partnerState = 4 ∧ s.partnerRank < s.rank then some (0, 4)
  else if st = 4 ∧ s.twin.since + s.val 0x12100B * 1000000000 ≤ s.now then some (3, 9)
  else if (st = 1 ∨ st = 2) ∧ s.partnerOut then some (0, s.lossReason)
  else if st = 0 ∧ rx ∧ heard ∧ s.partnerState = 2 then some (1, 1)
  else if (st = 1 ∨ st = 2) ∧ s.handoverDue then some (swapRole st, 5)
  else none

/-- The first transition of R393 that holds by what the node now knows: those above PROOF, then SPLIT (R387) and RANK (R375), which a
beat or heartbeat of the partner brings. -/
def State.twinDue (s : State) (rx : Bool) : Option (Nat × Nat) :=
  let st := s.twinState
  let heard := rx && s.twin.partner.isSome && s.partnerPresent
  match s.twinDueHigh rx with
  | some t => some t
  | none =>
    if !s.twinEnabled || !s.full then none
    else if (st = 0 ∨ st = 1) ∧ heard ∧ s.partnerState ≤ 1 ∧ s.rank < s.partnerRank then some (4, 11)
    else if heard ∧ s.partnerRank = s.rank ∧ ¬(st = 3 ∧ s.twin.reason = 8) ∧ s.val 0x121002 < s.nodeId then some (3, 8)
    else none

/-- Track since when the partner has been out of service in REJOINING; a lost partner's beats no longer run on. -/
def State.trackOut (s : State) : State :=
  let x := { s.twin with hearSince := if s.partnerPresent then s.twin.hearSince else none }
  if s.twinState = 4 ∧ s.partnerOut then (match x.outSince with
    | none => s.setTwin { x with outSince := some s.now }
    | some _ => s.setTwin x)
  else s.setTwin { x with outSince := none }

/-- Event 31 when a beat or heartbeat shows that both nodes lead (R387). -/
def State.splitCheck (s : State) (rx : Bool) : State :=
  let on := s.full && s.twinEnabled && decide (s.twinState ≤ 1) && s.partnerPresent && decide (s.partnerState ≤ 1)
  let s1 := if rx && on && !s.twin.splitOn then (s.twinCount 11).raise 31 else s
  s1.setTwin { s1.twin with splitOn := on && (rx || s.twin.splitOn) }

/-- Re-evaluate (R385, R394): transitions one after another. -/
def State.twinEval (rx : Bool) : Nat → State → State
  | 0, s => s
  | n + 1, s =>
    match (s.splitCheck rx).twinDue rx with
    | some (st, reason) => State.twinEval rx n ((s.splitCheck rx).enterTwin st reason)
    | none => (s.splitCheck rx).trackOut

/-! ## Paths (R381, R384, R385) -/

/-- The Dike line's state changes. -/
def State.setDike (s : State) (d : Nat) : State :=
  if s.dike = d then s
  else
    let s1 := if s.dike = 1 then s.twinCount 2 else s
    let s2 := (s1.setTwinCol 4 d).raise 26
    if d = 2 then (s2.twinCount 1).raise 25 else s2

/-- The chain path's state changes. -/
def State.setChain (s : State) (up : Bool) : State :=
  if s.chainUp = up then s
  else ((if up then s else s.twinCount 3).setTwinCol 5 (b2n up)).raise 27

/-- Re-evaluate after a change of a path or a command. -/
def State.twinSettle (s : State) : State := State.twinEval false 4 s

/-- Re-evaluate after a beat or heartbeat of the partner. -/
def State.twinReceives (s : State) : State := State.twinEval true 4 s

/-- Header of a frame of R640: Crest of Berm service, and no pixel frame that it is bound to, so that its SEQUENCE is a free value
(R261, log entry 81). -/
def State.safeHead (s : State) (type n ret : Nat) : CamegHead :=
  { type := type, crest := 1, seq := s.drawNat.1 % 65536, n := n, divCode := 0, phase := 0, strip := 0, ret := ret }

/-- The frames of R640 on a strand, in order: its enumeration (R266, R267), SET_SHARE with BITS and offsets that follow each other, and
CURRENT_GAIN with the GAIN of its safe-look row. -/
def State.safeFrames (s : State) (st : Nat) : List CamegFrame :=
  let v := s.strandCfg st
  let n := v.getD 0 0
  [{ type := 2, header := (s.safeHead 2 4096 1).sent, cells := indexWord 0 },
   { type := 1, header := (s.drawNat.2.safeHead 1 n 0).sent
     cells := commandWord 1 true 0 ++ commandShares ((List.range n).map (setShareWord v)) },
   { type := 1, header := (s.drawNat.2.drawNat.2.safeHead 1 n 0).sent, cells := commandWord 2 false (s.fld oSafeLook st 3) }]

/-- The steps of R640 on a strand: its frames go out one after another. -/
def State.safeStrand (s : State) (st : Nat) : State := (s.safeFrames st).foldl (fun u f => (u.putFrame st f).drawNat.2) s

/-- The steps of R640 before a Quire's first safe-look frame. -/
def State.safeLookSteps (s : State) (q : Nat) : State :=
  if (s.strandsOf q).isEmpty then s
  else ((((s.strandsOf q).foldl State.safeStrand s).bump oQuireCnt q 2).add oQuireCnt q 1 2).driveQuire q

/-- Berm: keep the pins quenched while the partner reports LEADER or ALONE (R395). Pins of a Quire with a frame on its lines are
quenched at the end of that frame; when the node may light again, the steps of R640 run. -/
def State.bermQuench (s : State) : State :=
  let old := s.twin.quenchBerm
  let new := s.berm && s.twinEnabled && s.partnerPresent && decide (s.partnerState ≤ 1)
  let s1 := s.setTwin { s.twin with quenchBerm := new }
  if !old && new then
    (List.range 16).foldl (fun st q => if (st.quire q).inFrame then st else st.undriveQuire q) s1
  else if old && !new && s.berm then (List.range 16).foldl State.safeLookSteps s1
  else s1

/-! ## Signatures (R388 to R392) -/

/-- Evaluate a mismatch run (R391). While DIVERGED is set the twins keep their roles (R392), and a node that has just left LEADER and
FOLLOWER acts no more (R394). -/
def State.evaluateRun (s : State) (run : List Compared) : State :=
  let own := (run.filter (·.own)).length
  let other := (run.filter (·.other)).length
  let clear := fun (st : State) => (List.range 16).foldl (fun u q => (u.setFld oCompare q 4 0).setCompare q { u.compare q with run := [] }) st
  let s1 := ((clear s).twinCount 7).raise 28
  let acts := !s.diverged && (s.twinState == 1 || s.twinState == 2)
  if (1 ≤ own ∧ other = 0) ∨ (1 ≤ other ∧ other < own) ∨ (1 ≤ own ∧ own = other ∧ s.twinState = 2) then
    (if acts then s1.enterTwin 3 6 else s1)
  else if own = 0 ∧ other = 0 then s1.setTwinCol 6 1
  else s1

/-- DIVERGED clears after JOIN_FRAMES matches on every compared Quire (R392). -/
def State.divergedCheck (s : State) : State :=
  let qs := (List.range 16).filter (fun q => !(s.compare q).done.isEmpty)
  if s.diverged ∧ qs.all (fun q => decide (s.val 0x12100A ≤ s.fld oCompare q 3)) then s.setTwinCol 6 0 else s

/-- Compare a (Quire, sequence) pair once (R390, R391). -/
def State.compareQuire (s : State) (q : Nat) : State :=
  let x := s.compare q
  match (s.quire q).sigs.find? (fun e => e.seq == x.seq) with
  | none => s
  | some own =>
    if x.valid % 4 ≠ 3 ∨ !s.twinned q ∨ x.done.contains x.seq then s
    else
      let same := own.sig == x.sig
      let m := if same then capN 65535 (s.fld oCompare q 3 + 1) else 0
      let mm := if same then 0 else capN 255 (s.fld oCompare q 4 + 1)
      let run := if same then [] else
        ({ seq := x.seq, own := own.marks != 0, other := x.marks != 0 } :: x.run).take (s.val 0x121009)
      let s1 := s.setCompare q { x with done := (x.seq :: x.done).take 32, run := run }
      let s2 := (s1.setRow oCompare q [x.seq, own.sig, x.sig, m, mm, own.marks, x.marks]).twinCount 5
      let s3 := if same then s2.divergedCheck else s2.twinCount 6
      if !same ∧ s.val 0x121009 ≤ mm ∧ (s.twinState = 1 ∨ s.twinState = 2) then
        (match s3.twinDueHigh true with
         | some (st, reason) => (s3.enterTwin st reason).evaluateRun run
         | none => s3.evaluateRun run)
      else s3

/-! ## Beats (R383, R384) -/

/-- Quire q's entry of a beat. -/
def State.beatEntry (s : State) (q : Nat) : List Byte :=
  match (s.quire q).sigs with
  | e :: _ => beBytes 2 e.seq ++ beBytes 1 (1 + 2 * b2n (s.twinned q)) ++ beBytes 1 e.marks ++ beBytes 4 e.sig
  | [] => beBytes 2 0 ++ beBytes 1 (2 * b2n (s.twinned q)) ++ beBytes 5 0

/-- Bytes 0 to 147 of the node's current beat (R383). -/
def State.beatBytes (s : State) : List Byte :=
  let x := s.twin
  let ack := match x.handover with
    | some (_, _, true) => s.twinState == 2
    | _ => false
  let at_ := match x.handover with
    | some (t, _, _) => nsPt t
    | none => 0
  let flags := b2n (s.val 0x121004 == 1) + 2 * b2n x.revertReq + 4 * b2n ack + 8 * b2n s.diverged
  beBytes 1 1 ++ beBytes 1 s.nodeId ++ beBytes 1 (if s.berm then 7 else s.twinState) ++ beBytes 1 s.crest ++ beBytes 1 s.rank ++
    beBytes 1 flags ++ beBytes 2 x.beatSeq ++ beBytes 10 at_ ++ beBytes 2 0 ++ (List.range 16).flatMap s.beatEntry

/-- Note the first beat that carries a proposed handover (R396). -/
def Twin.stamped (x : Twin) (now : Nat) : Twin :=
  match x.handover with
  | some (t, none, a) => { x with handover := some (t, some now, a) }
  | _ => x

/-- BEAT_SEND (R382, R383, R395): every 250 us. In Berm service the beats have STATE 7, and the pads stand at the override of R382. -/
def execBeatSend (s0 : State) : State :=
  if s0.timeRuns && s0.twinEnabled then
    let s := s0.advanceTo s0.twin.nextBeat
    let body := s.beatBytes
    let x := s.twin.stamped s.now
    s.setTwin { x with beatSeq := (x.beatSeq + 1) % 65536, nextBeat := s.now + 250000, lastBeat := body ++ beBytes 4 (crc32c body) }
  else s0

/-- HEARTBEAT_SEND (R384): a heartbeat on each of C0 and C1, in Berm and full service. -/
def execHeartbeatSend (s0 : State) : State :=
  if s0.timeRuns && s0.twinEnabled then
    let s := s0.advanceTo s0.twin.nextHeart
    let body := s.beatBytes
    let slot := s.val 0x12100E
    let seal_ := if slot = 0xFF then none else some slot
    let send := fun (st : State) (p : Nat) =>
      let d : Dest := { port := p, mac := s.twin.partnerMac.getD 0xFFFFFFFFFFFF, vid := s.ctlVid p, ip := s.val 0x121006,
                        udp := s.val 0x110001 }
      st.sendMsg d 6 .heartbeat 0x20 0 0xFFFF 0 seal_ body 0
    let s1 := send (send s 2) 3
    let x := s1.twin.stamped s.now
    s1.setTwin { x with nextHeart := s.now + s.val 0x121007 * 1000000 }
  else s0

/-- Byte i of a beat as a number. -/
def beatByte (bs : List Byte) (i n : Nat) : Nat := beNat ((bs.drop i).take n)

/-- A proposal without its echo is withdrawn (R396): event 29, and its task is CANCELLED. -/
def State.withdraw (s : State) : State :=
  let s1 := (s.setTwin { s.twin with handover := none, handoverTask := none }).setTwinCol 9 0
  ((s1.twinCount 10).raise 29).completeOpt s.twin.handoverTask stCancelled

/-- The handover handshake on a beat from the partner (R396, R398): a FOLLOWER takes a T_h still to come from a LEADER, and an echo counts
until 100 ms before T_h. -/
def State.handshake (s : State) (p : Partner) : State :=
  let x := s.twin
  let running := (List.range 16).any (fun q => s.fld oCompare q 4 != 0)
  let th := ptNs p.handoverAt
  if s.twinState = 2 then
    if p.handoverAt ≠ 0 then
      if !s.diverged ∧ !running ∧ p.state = 1 ∧ s.now < th then (s.setTwin { x with handover := some (th, x.handover.bind (fun e => e.2.1), true) }).setTwinCol 9 p.handoverAt
      else s
    else match x.handover with
      | some (t, _, _) => if s.now < t then (((s.setTwin { x with handover := none }).setTwinCol 9 0).twinCount 10).raise 29 else s
      | none => s
  else if s.twinState = 1 then
    match x.handover with
    | some (t, f, false) =>
      if t ≤ s.now + 100000000 then s.withdraw
      else if p.flags.testBit 2 ∧ th = t then s.setTwin { x with handover := some (t, f, true) }
      else s
    | some _ => s
    | none =>
      if p.flags.testBit 1 ∧ !s.diverged then
        (s.setTwin { x with handover := some (s.now + 500000000, none, false) }).setTwinCol 9 (nsPt (s.now + 500000000))
      else s
  else s

/-- What a valid beat or heartbeat of the partner brings: bytes 0 to 147 (R383 to R390). -/
def State.partnerHeard (s : State) (bs : List Byte) : State :=
  let p : Partner := { state := beatByte bs 2 1, crest := beatByte bs 3 1, rank := beatByte bs 4 1, flags := beatByte bs 5 1,
                       handoverAt := beatByte bs 8 10 }
  let s1 := s.raiseIf (s.twin.partner.isSome && s.partnerState != p.state) 30
  let s2 := s1.setTwin { s1.twin with partner := some p, hearSince := some (s1.twin.hearSince.getD s.now) }
  let s3 := (s2.setTwinCol 1 p.state).setTwinCol 3 p.crest
  let s4 := (List.range 16).foldl (fun st q =>
    let i := 20 + 8 * q
    (st.setCompare q { st.compare q with seq := beatByte bs i 2, valid := beatByte bs (i + 2) 1, marks := beatByte bs (i + 3) 1,
                                         sig := beatByte bs (i + 4) 4 }).compareQuire q) s3
  (s4.handshake p).twinReceives.bermQuench

/-- After the release of a reset the Boot ROM runs, before Berm service. -/
def State.booting (s : State) : Bool := s.power.state == .berm && s.power.service == .bootRom && !s.power.inReset

/-- DIKE_BEAT (R381, R383): a beat is received. One that comes before Berm service tells then what state the partner is in (R395). -/
def execDikeBeat (at_ : Nat) (bs : List Byte) (s0 : State) : State :=
  let s := s0.advanceTo at_
  if s.booting then
    (if bs.length ≠ 152 ∨ crc32c (bs.take 148) ≠ beatByte bs 148 4 ∨ beatByte bs 0 1 ≠ 1 then s.twinCount 4
     else (s.setTwin { s.twin with beatAt := some s.now, bootBeat := bs.take 148 }).setDike 1)
  else if !s.timeRuns then s
  else if bs.length ≠ 152 ∨ crc32c (bs.take 148) ≠ beatByte bs 148 4 ∨ beatByte bs 0 1 ≠ 1 then s.twinCount 4
  else
    let s1 := (s.setTwin { s.twin with beatAt := some s.now }).setDike 1
    if s1.twinEnabled ∧ beatByte bs 1 1 = s1.val 0x121002 then s1.partnerHeard bs else s1.twinSettle

/-- A valid heartbeat from the partner, received on C0 or C1 (R384). -/
def State.heartbeatHeard (s : State) (srcMac : Nat) (bs : List Byte) : State :=
  if s.twinEnabled ∧ beatByte bs 0 1 = 1 ∧ beatByte bs 1 1 = s.val 0x121002 then
    ((s.setTwin { s.twin with heartAt := some s.now, partnerMac := some srcMac }).setChain true).partnerHeard bs
  else s

/-- DIKE_DROPPED (R381, R385). -/
def execDikeDropped (s : State) : State :=
  if s.booting then s.setDike 2 else if s.timeRuns then (s.setDike 2).twinSettle.bermQuench else s

/-- DIKE_DOWN (R381). -/
def execDikeDown (s : State) : State :=
  if s.booting then s.setDike 0 else if s.timeRuns then (s.setDike 0).twinSettle.bermQuench else s

/-- DIKE_BEAT_TIMEOUT (R381): 1 ms after the last valid beat. -/
def execDikeBeatTimeout (s : State) : State :=
  match s.twin.beatAt with
  | none => s
  | some t => if s.timeRuns ∧ s.dike = 1 then ((s.advanceTo (t + 1000000)).setDike 0).twinSettle.bermQuench else s

/-- CHAIN_TIMEOUT (R384). -/
def execChainTimeout (s : State) : State :=
  match s.twin.heartAt with
  | none => s
  | some t =>
    if s.timeRuns ∧ s.chainUp then
      ((s.advanceTo (t + s.val 0x121008 * s.val 0x121007 * 1000000)).setChain false).twinSettle.bermQuench
    else s

/-! ## Timed transitions (R393) -/

/-- The paths whose last beat or heartbeat is too old by now are down (R381, R384). -/
def State.pathsDue (s : State) : State :=
  let s1 := match s.twin.beatAt with
    | some t => if s.dike = 1 ∧ t + 1000000 ≤ s.now then s.setDike 0 else s
    | none => s
  let s2 := match s1.twin.heartAt with
    | some t => if s1.chainUp ∧ t + s1.val 0x121008 * s1.val 0x121007 * 1000000 ≤ s1.now then s1.setChain false else s1
    | none => s1
  s2.twinSettle.bermQuench

/-- PARTNER_OUT: out of service for 2 s in REJOINING. -/
def execPartnerOut (s : State) : State :=
  match s.twin.outSince with
  | none => s
  | some t => if s.full ∧ s.twinEnabled ∧ s.twinState = 4 then (s.advanceTo (t + 2000000000)).twinSettle else s

/-- JOIN_TIMEOUT, after the transitions that are due with it (R394). -/
def execJoinTimeout (s : State) : State :=
  if s.full ∧ s.twinEnabled ∧ s.twinState = 4 then (s.advanceTo (s.twin.since + s.val 0x12100B * 1000000000)).twinSettle else s

/-- HOLD_ELAPSED: an automatic rejoin, fewer than 3 in [now - 1 h, now). -/
def execHoldElapsed (s0 : State) : State :=
  if s0.full ∧ s0.twinEnabled ∧ s0.twinState = 3 ∧ (s0.twin.reason = 6 ∨ s0.twin.reason = 9) then
    let s := s0.advanceTo (s0.twin.since + s0.val 0x12100D * 1000000000)
    let recent := s.twin.rejoins.filter (fun t => decide (s.now ≤ t + 3600000000000) && decide (t < s.now))
    if recent.length < 3 then
      ((s.setTwin { s.twin with rejoins := s.now :: recent }).enterTwin 4 10).twinSettle
    else s
  else s0

/-- REVERT_REQ (R398). -/
def execRevertReq (s0 : State) : State :=
  if s0.full ∧ s0.twinEnabled ∧ s0.twinState = 2 ∧ s0.val 0x121004 = 1 ∧ s0.val 0x120002 ≤ 8 then
    let s := s0.advanceTo (s0.twin.since + s0.val 0x12100C * 1000000000)
    s.setTwin { s.twin with revertReq := true }
  else s0

/-! ## Handover (R396, R397, R399) -/

/-- HANDOVER: at T_h each node of an acknowledged handover changes role; a loss of the partner due by then comes first (R394). -/
def execHandover (s : State) : State :=
  match s.twin.handover with
  | some (t, _, true) => (s.advanceTo t).pathsDue
  | _ => s

/-- HANDOVER_WITHDRAW: no echo by T_h - 100 ms. -/
def execHandoverWithdraw (s0 : State) : State :=
  match s0.twin.handover with
  | some (t, _, false) =>
    if s0.twinState = 1 then (s0.advanceTo (t - 100000000)).withdraw else s0
  | _ => s0

/-- A write of OD 0x5020 (R393): from any state; a demotion for reason RANK stays one (R375, log entry 49). The transitions above it
that are due now come first (R394). -/
def writeDemote (v : Nat) (s0 : State) : WRes :=
  let s := s0.twinSettle
  if s0.twinEnabled ∧ v = 1 then done (if s.twinState = 3 ∧ s.twin.reason = 8 then s else s.enterTwin 3 7) else done s0

/-- A write of OD 0x5021 (R399). A handover already proposed gives way to the new T_h: it is cancelled (log entry 81). -/
def writeHandoverAt (w : Who) (v : Nat) (s0 : State) : WRes :=
  if s0.twinState ≠ 1 then refuse s0 stState
  else if ptNs v < s0.now + 200000000 then refuse s0 stRange
  else if s0.diverged then refuse s0 stState
  else
    let s := if s0.twin.handover.isSome then s0.withdraw else s0
    done ((s.setTwin { s.twin with handover := some (ptNs v, none, false),
                                   handoverTask := if w.task = 0 then none else some w.task }).setTwinCol 9 v)

/-- A write of OD 0x5022 (R393). -/
def writeRejoin (v : Nat) (s : State) : WRes :=
  if s.twinEnabled ∧ v = 1 ∧ s.twinState = 3 ∧ s.twin.reason ≠ 8 then done (s.enterTwin 4 7).twinSettle else done s

end Sys2Proof.Machine
end

