-- ==== Sys2Proof/Machine/Quire.lean ====
section
/-! DEFINITION. The Cameg sequencers (R251 to R302): Quire modes, pixel frames and latch instants, the return window, requests and
broadcasts, and the writes of the Quire and strand objects; with the completion of the short test (R341). -/

namespace Sys2Proof.Machine

def oTeleBase : Nat := 0x240900
def oShareBase : Nat := 0x240B00

/-! ## Frames of SETUP: their times (R259, R266 to R268, R278, R295) -/

/-- Strands a request goes to: those of its mask that are in use. -/
def State.requestStrands (s : State) (q mask : Nat) : List Nat := (s.strandsOf q).filter (fun st => mask.testBit (st % 16))

/-- Strands of the frame a request is at: what follows an enumeration goes to those whose OUTCOME is OK (R267). -/
def State.phaseStrands (s : State) (q : Nat) (r : Request) : List Nat :=
  let on := s.requestStrands q r.mask
  if r.enum && r.phase != 0 then on.filter (fun st => s.fld oEnumResult st 0 == 0) else on

/-- Cells of that frame on a strand, up to the end of TURN. -/
def State.phaseCells (s : State) (r : Request) (st : Nat) : Nat :=
  let n := (s.strandCfg st).getD 0 0
  if r.enum then (match r.phase with
    | 0 => 124
    | 1 => 128 + 40 * n
    | _ => 128)
  else if r.perDriver then 128 + 40 * n else 128

/-- Cells of its return window (R267, R278): every driver reports. -/
def State.phaseWindow (s : State) (r : Request) (st : Nat) : Nat :=
  let n := if r.enum && r.phase == 0 then 4096 else (s.strandCfg st).getD 0 0
  if r.ret then windowCells n 1 (s.wireD st) else 0

/-- `elapsed` from which a frame may begin after the last application of taps (R359). -/
def State.tapClear (s : State) (q : Nat) : Nat := if (s.quire q).tapAt = 0 then 0 else (s.quire q).tapAt + s.cellsNs q 64

/-- `elapsed` at which the frame a request is at begins: the lines are free, after 10 ms of IDLE (R295). -/
def State.requestFrom (s : State) (q : Nat) (r : Request) : Nat :=
  let x := s.quire q
  max (max x.freeAt (x.idleFrom + 10000000)) (max r.at_ (s.tapClear q))

/-- `elapsed` at which IDLE resumes after it on every strand (R278). -/
def State.phaseEnd (s : State) (q : Nat) (r : Request) : Nat :=
  s.requestFrom q r + ((s.phaseStrands q r).map (fun st => s.cellsNs q (s.phaseCells r st + s.phaseWindow r st))).foldl max 0

/-! ## State changes (R295 to R297) -/

/-- A request completes: its handle, and SUM bit COMMAND. -/
def State.requestDone (s : State) (q : Nat) (r : Request) (status : Nat) : State := (s.completeTask r.handle status).quireSum q 3

/-- Every pending request completes CANCELLED (R296). -/
def State.dropRequests (s : State) (q : Nat) : State :=
  let rs := (s.quire q).requests
  rs.foldl (fun st r => st.requestDone q r stCancelled) (s.setQuire q { s.quire q with requests := [] })

/-- Leaving RUNNING: θh and g stay, CURRENT_GAIN is owed, and cycles of regions end invalid (R322, R330). -/
def State.leaveRunning (s : State) (q : Nat) : State :=
  let s1 := (List.range 16).foldl (fun st i => st.setStrand (16 * q + i) { st.strand (16 * q + i) with gainOwed := true }) s
  (s1.regionsOf q).foldl State.regionCut s1

/-- The STRAND cycle of an instant: 2.5 ns each. -/
def strandCycle (t : Nat) : Nat := t * 2 / 5

/-- The taps of a pin that an application in STRAND cycle c takes (R360): those staged last before that cycle. -/
def State.tapsBefore (s : State) (p c : Nat) : Option Row :=
  match tfind s.cal.staged p with
  | none => none
  | some v =>
    if strandCycle (tget 0 s.cal.stagedAt p) < c then some v
    else if strandCycle (tget 0 s.cal.stagedOldAt p) < c then tfind s.cal.stagedOld p
    else none

/-- Pins of a Quire with taps staged before STRAND cycle c (R360). -/
def State.stagedPins (s : State) (q c : Nat) : List Nat :=
  ((List.range 16).map (fun i => 16 * q + i)).filter (fun p => (s.tapsBefore p c).isSome)

/-- What is staged for a pin is in force, but for a staging in STRAND cycle c or later. -/
def Cal.applied (x : Cal) (p c : Nat) : Cal :=
  let y := { x with stagedOld := tdel x.stagedOld p, stagedOldAt := tdel x.stagedOldAt p, changed := true }
  if strandCycle (tget 0 x.stagedAt p) < c then { y with staged := tdel x.staged p, stagedAt := tdel x.stagedAt p } else y

/-- The four taps of a row. -/
def taps4 (v : Row) : Row := (List.range 4).map (fun i => v.getD i 0)

/-- Taps of a Quire's pins that were staged before STRAND cycle c come into force together (R359, R360). -/
def State.applyTaps (s : State) (q c : Nat) : State :=
  let todo := s.stagedPins q c
  let one := fun (st : State) (p : Nat) =>
    match st.tapsBefore p c with
    | none => st
    | some v =>
      let old := st.row 0x261100 p
      let st1 := st.setRow 0x261100 p (taps4 v ++ old.drop 4)
      { st1 with cal := st1.cal.applied p c }
  if todo.isEmpty then s
  else
    let s1 := (todo.foldl one s).bump 0x427000 0 2
    s1.setQuire q { s1.quire q with tapAt := s1.clk.elapsed }

/-- Enter a state (R243, R295, R296, R311, R322, R359). IDLE runs on from SETUP; after pixel frames and after OFF it begins anew. -/
def State.quireTo (s : State) (q st : Nat) : State :=
  let old := s.quireState q
  let s2 := if old = 3 ∧ st ≠ 3 then s.leaveRunning q else s
  let s3 := if (old = 2 ∧ st ≠ 2) ∨ st = 0 then s2.dropRequests q else s2
  let x := s3.quire q
  let idle := if old = 0 ∨ old = 3 ∨ old = 4 then s3.clk.elapsed else x.idleFrom
  let s4 := s3.setQuire q { x with idleFrom := idle, nextK := if st = 1 ∨ st = 3 ∨ st = 4 then x.nextK else none,
                                   frames := if st = 3 ∨ st = 4 then x.frames else 0, inFrame := if st = 4 then x.inFrame else false,
                                   window := if st = 4 then x.window else none, broadcasts := if st = 4 then x.broadcasts else [] }
  let s5 := s4.setQuireState q st
  let s6 := if old = 0 ∧ st ≠ 0 then ((if s.twin.quenchBerm then s5 else s5.driveQuire q).clearBoth q).bindFrames q else s5
  if st = 0 then (s6.drainCheck).applyTaps q (strandCycle s6.clk.elapsed + 1) else s6

/-- RUN pending (R297). -/
def State.setRunPending (s : State) (q : Nat) (b : Bool) : State := s.setFld oQuireStatus q 3 (b2n b)

/-- The head check of R297 for a head that is STARTING or ENABLED. -/
def State.headCheck (s : State) (q : Nat) : Bool :=
  let t := s.timing (s.qHead q)
  tmLead t == 128000 && cadenceOk (s.qM q * tmNum t) (tmDen t)

/-- STARTING: the first latch instant at or after 10 ms from now (R295). -/
def State.quireStart (s : State) (q : Nat) : State :=
  let k := (s.quireCadence q).first (s.tbNow.ceil.toNat + 10000000)
  let s1 := (s.setRunPending q false).quireTo q 1
  s1.setQuire q { s1.quire q with nextK := some k, startAt := s1.now }

/-- The mode becomes RUN (R295, R297): whether it is allowed, and the state. A refused write leaves the Quire as it is; a latched or
loaded RUN that fails leaves it in SETUP. -/
def State.quireRun (s : State) (q : Nat) (written : Bool) : Bool × State :=
  let hs := s.headState (s.qHead q)
  if s.quireState q = 1 ∨ s.quireState q = 3 then (true, s)
  else if hs = 0 ∨ hs = 3 then
    let s1 := s.setRunPending q true
    (true, if s1.quireState q = 0 then s1.quireTo q 2 else s1)
  else if s.headCheck q then (true, s.quireStart q)
  else if written then (false, s)
  else
    let s1 := s.setRunPending q false
    let s2 := if s1.quireState q = 0 then s1.quireTo q 2 else s1
    (false, s2.quireSum q 0)

/-- Drain toward a state (R295): at once when no frame is on the lines. In SETUP the drain lasts until the frame of the request in
progress, with its return window, has left them. -/
def State.quireDrain (s : State) (q target : Nat) : State :=
  let x := s.quire q
  if s.quireState q = 2 then
    match x.requests with
    | r :: _ =>
      if r.phase < 3 ∧ (r.sent ∨ s.requestFrom q r < s.clk.elapsed) then
        (s.setQuire q { x with target := target, freeAt := s.phaseEnd q r, window := if r.ret then some (r.phase, false) else none,
                               lastReq := some { r with at_ := s.requestFrom q r } }).quireTo q 4
      else if s.clk.elapsed < x.freeAt then (s.setQuire q { x with target := target }).quireTo q 4
      else s.quireTo q target
    | [] => if s.clk.elapsed < x.freeAt then (s.setQuire q { x with target := target }).quireTo q 4 else s.quireTo q target
  else if x.inFrame || x.window.isSome then (s.setQuire q { x with target := target }).quireTo q 4
  else s.quireTo q target

/-- Act on a mode (R295). -/
def State.quireModeTo (s : State) (q m : Nat) (written : Bool) : Bool × State :=
  let st := s.quireState q
  if st = 4 then (true, s.setQuire q { s.quire q with latched := some m })
  else if m = 2 then s.quireRun q written
  else
    let s1 := s.setRunPending q false
    if m = 1 then (true, if st = 0 ∨ st = 1 then s1.quireTo q 2 else if st = 3 then s1.quireDrain q 2 else s1)
    else (true, if st = 1 then s1.quireTo q 0 else if st = 2 ∨ st = 3 then s1.quireDrain q 0 else s1)

/-- Quire q is under a short test (R340). -/
def State.underTest (s : State) (q : Nat) : Bool :=
  match s.light.test with
  | some (mask, _) => mask.testBit q
  | none => false

/-- A write of OD 0x2402 (R295, R297, R340). -/
def writeQuireMode (q m : Nat) (s : State) : WRes :=
  if s.underTest q then done ((s.setQuire q { s.quire q with latched := some m }).setFld oQuireMode q 0 m)
  else
    let r := s.quireModeTo q m true
    if r.1 then done (r.2.setFld oQuireMode q 0 m) else refuse s stState

/-- A latched mode is acted on. -/
def State.quireLatched (s : State) (q : Nat) : State :=
  match (s.quire q).latched with
  | none => s
  | some m => ((s.setQuire q { s.quire q with latched := none }).quireModeTo q m false).2

/-- Pending RUNs of the Quires bound to head h are checked as the head becomes STARTING (R297). -/
def State.pendingRuns (s : State) (h : Nat) : State :=
  ((List.range 16).filter (fun q => s.qHead q == h && s.fld oQuireStatus q 3 == 1)).foldl
    (fun st q => (st.quireModeTo q 2 false).2) s

/-- Modes loaded from settings at the start of full service (R297). -/
def State.loadQuireModes (s : State) : State :=
  (List.range 16).foldl (fun st q => (st.quireModeTo q (st.fld oQuireMode q 0) false).2) s

/-! ## Pixel frames (R259 to R264, R272, R273, R281, R290) -/

/-- Payload of the next frame of a strand: the front set, 24 bits a pixel on a legacy strand, or in Berm service the safe look (R264,
R290, R639). -/
def State.nextPayload (s : State) (st : Nat) : List Byte :=
  if s.berm then
    let v := s.row oSafeLook st
    (List.replicate (v.getD 1 0) ((beBytes 16 (v.getD 4 0)).take (v.getD 2 0 / 8))).flatten
  else s.vaultGet (strandBuf (s.frontSet (st / 16)) st)
    (if legacy (s.qRate (st / 16)) then 3 * s.fld oStrand st 0 else payloadLen (s.strandCfg st))

/-- The 80 header bits of the pixel frame for latch index k (R260, R261, R281). -/
def State.frameHeader (s : State) (q st k : Nat) : Nat :=
  let v := s.row oQuire q
  let d := if s.berm then 0 else v.getD 3 0
  let seq := k % 65536
  ({ type := 0, crest := s.frameCrest q k, seq := seq, n := (s.strandCfg st).getD 0 0, divCode := d, phase := seq % 2 ^ d,
     strip := if s.berm then 1 else v.getD 5 0, ret := if s.berm then 0 else v.getD 4 0 } : CamegHead).sent

/-- The pixel frame of a strand: Cameg shares with their CRC-8, or on a legacy strand the pixels alone (R264, R290). -/
def State.pixelFrame (s : State) (st k : Nat) : CamegFrame :=
  if legacy (s.qRate (st / 16)) then { type := 0, header := 0, cells := s.nextPayload st }
  else { type := 0, header := s.frameHeader (st / 16) st k, cells := shareCells (strandRuns (s.strandCfg st)) (s.nextPayload st) }

/-- Cells from FRAME_START to the end of LATCH (R259, R264). -/
def latchCells (v : Row) : Nat := 4 + 80 + ((strandRuns v).map (fun e => e.1 * (e.2 + 8))).sum + 4

/-- The end of LATCH at the pin, on the timebase in ns, for the frame that latches at `l` (R273). -/
def State.latchEnd (s : State) (st l : Nat) : Rat :=
  let v := s.strandCfg st
  let t : Rat := (cellPs (s.qRate (st / 16)) : Rat) / 1000
  (l : Rat) - 2 * ((v.getD 0 0 - 1 : Nat) : Rat) * t - (s.wireD st : Rat) * t / 64

/-- When the frame of a strand begins (R273, R290). -/
def State.frameStartAt (s : State) (st l : Nat) : Rat :=
  let v := s.strandCfg st
  let rate := s.qRate (st / 16)
  let t : Rat := (cellPs rate : Rat) / 1000
  if legacy rate then (l : Rat) - 80000 - ((24 * v.getD 0 0 : Nat) : Rat) * t
  else s.latchEnd st l - (latchCells v : Rat) * t

/-! ## The idle gap (R269, R270, R271, R274, R321, R322) -/

/-- The header of a command or select frame of a strand: in the gap of a pixel-running Quire its SEQUENCE is that of the next pixel
frame; elsewhere nothing binds it to one and it is a free value (R261, log entry 81). Every driver reports where RETURN is set. -/
def State.commandHead (s : State) (st type ret : Nat) : CamegHead :=
  let q := st / 16
  let n := (s.strandCfg st).getD 0 0
  match (s.quire q).nextK with
  | some k => { type := type, crest := s.frameCrest q k, seq := k % 65536, n := n, divCode := 0, phase := 0, strip := 0, ret := ret }
  | none => { type := type, crest := if s.twinned q then s.crest else 0x80 ||| s.rank, seq := s.drawNat.1 % 65536, n := n, divCode := 0,
              phase := 0, strip := 0, ret := ret }

/-- A broadcast command frame (R268). -/
def State.commandFrame (s : State) (st opcode arg ret : Nat) : CamegFrame :=
  { type := 1, header := (s.commandHead st 1 ret).sent, cells := commandWord opcode false arg }

/-- A telemetry-select frame (R271, R292). -/
def State.selectFrame (s : State) (st ret : Nat) : CamegFrame :=
  { type := 3, header := (s.commandHead st 3 ret).sent, cells := selectWord (s.fld oQuire (st / 16) 6) }

/-- When a frame of 128 cells that is ready at `elapsed` = at_ ends in the idle gap of a strand: not within a pixel frame or a return
window, from the margin after the last one on, and with 64 cells left before the next FRAME_START (R270). -/
def State.gapSlot (s : State) (st at_ : Nat) : Option Nat :=
  let q := st / 16
  let x := s.quire q
  let y := s.strand st
  let done_ := max (max (y.gapFrom + s.cellsNs q 64) at_) (s.tapClear q) + s.cellsNs q 128
  if x.window.isSome then none
  else match x.nextK with
    | none => some done_
    | some k =>
      if y.sentK = some k then none
      else if (done_ : Rat) + ((s.cellsNs q 64 : Nat) : Rat) ≤ (s.clk.elapsed : Rat) + (s.frameStartAt st (s.latchAt q k) - s.tbNow) then some done_
      else none

/-- A frame goes out in the gap of a strand. -/
def State.gapFrame (s : State) (st done_ : Nat) (f : CamegFrame) : State :=
  let s1 := s.putFrame st f
  s1.setStrand st { s1.strand st with gapFrom := done_ }

/-- One broadcast goes out, or waits for the next gap. A new wiring trim is in force for the frame after it (R269, R274). -/
def State.sendBroadcast (s : State) (b : Broadcast) : State :=
  let q := b.strand / 16
  let s1 := if b.opcode = 3 then s.setFld oWire b.strand 0 b.arg else s
  match s1.gapSlot b.strand b.at_ with
  | some d => ((s1.gapFrame b.strand d (s1.commandFrame b.strand b.opcode b.arg 0)).drawNat.2).bump oQuireCnt q 1
  | none => s.setQuire q { s.quire q with broadcasts := (s.quire q).broadcasts ++ [b] }

/-- The select frame owed after a change of TELEMETRY_MASK goes out on every strand in use (R292). -/
def State.sendSelect (s : State) (q : Nat) : State :=
  if (s.quire q).selectOwed ∧ !legacy (s.qRate q) ∧ !s.berm then
    let one := fun (u : State) (st : Nat) =>
      match u.gapSlot st 0 with
      | some d => (u.gapFrame st d (u.selectFrame st 0)).drawNat.2
      | none => u
    (((s.strandsOf q).foldl one s).setQuire q { s.quire q with selectOwed := false }).bump oQuireCnt q 1
  else s

/-- The device's own frames go out in the idle gap. -/
def State.sendBroadcasts (s : State) (q : Nat) : State :=
  let bs := (s.quire q).broadcasts
  (bs.foldl State.sendBroadcast (s.setQuire q { s.quire q with broadcasts := [] })).sendSelect q

/-- CURRENT_GAIN owed before the first pixel frame (R322); a legacy strand takes none (R290). -/
def State.oweGain (s : State) (st : Nat) : State :=
  let x := s.strand st
  if x.gainOwed ∧ !s.berm ∧ !legacy (s.qRate (st / 16)) then
    (((s.setStrand st { x with gainOwed := false, gainAge := 0 }).broadcast st 2 (s.fld oDerateStatus st 4)).bump oLightCnt 0 2)
  else s

/-- The Quire transmits pixel frames: it is RUNNING, or it drains and a strand of the current frame has begun (R295). -/
def State.pixelsRun (s : State) (q : Nat) : Bool := s.quireState q == 3 || (s.quireState q == 4 && (s.quire q).inFrame)

/-- FRAME_START (R273): a strand's pixel frame for the next latch instant begins, after what the line still owes its drivers. Too late
an instant leaves the line in IDLE; the latch finds the gap (R301). -/
def execFrameStart (st : Nat) (s0 : State) : State :=
  let q := st / 16
  match (s0.quire q).nextK with
  | none => s0
  | some k =>
    if s0.pixelsRun q ∧ s0.strandOn st ∧ (s0.strand st).sentK ≠ some k ∧ !s0.power.requested ∧ !s0.twin.quenchBerm then
      let s1 := if s0.quireState q = 3 then (s0.oweGain st).sendBroadcasts q else s0
      let at_ := s1.frameStartAt st (s1.latchAt q k)
      if s1.tbNow ≤ at_ then
        let s := s1.advanceTb at_
        let s2 := s.putFrame st (s.pixelFrame st k)
        let s3 := s2.setStrand st { s2.strand st with sentK := some k, payload := s.nextPayload st }
        s3.setQuire q { s3.quire q with inFrame := true }
      else s1
    else s0

/-! ## Latch instants (R36, R244, R295, R388, R389) -/

/-- A time within [t - w, t). -/
def within (t w : Nat) (x : Option Nat) : Bool :=
  match x with
  | some y => decide (t ≤ y + w) && decide (y < t)
  | none => false

/-- A universe is read by a DIRECT entry of Quire q. -/
def State.directUniverses (s : State) (q : Nat) : List Nat :=
  let h := s.qHead q
  (List.range (s.fld oMapActive h 2)).filterMap (fun i =>
    let e := s.mapEntry h i
    if e.kind = 2 ∧ e.strand / 16 = q then some e.universe_ else none)

/-- The ring of a VIDEO flow is shown by a visible layer of head h. -/
def State.ringShown (s : State) (h ring : Nat) : Bool :=
  (List.range 32).any (fun l => s.fld oLayerStatus l 0 == h + 1 && lyVisible (s.row oLayerActive l) && lyRingMode (s.row oLayerActive l) &&
    lyRing (s.row oLayerActive l) == ring)

/-- A correctable error logged within W in the Quire's strand buffers or the head's map or calibration runs (R389 bit 5), whether or not
the log still holds it. -/
def State.memoryMark (s : State) (q t w : Nat) : Bool :=
  let h := s.qHead q
  let m := s.row oMapActive h
  let hit := fun (e : Nat × Nat × Nat) =>
    let a := e.2.1
    within t w (some e.2.2) &&
    (if e.1 = 0 then
      let o := a - vaultBase
      decide (vaultBase ≤ a) && decide (o < 0x1000000) && decide ((o % 0x800000) / 0x80000 = q)
     else (decide (m.getD 0 0 ≤ a) && decide (a < m.getD 0 0 + 16 * m.getD 2 0)) ||
          (decide (m.getD 1 0 ≤ a) && decide (a < m.getD 1 0 + 24 * m.getD 2 0)))
  s.integ.recent.any hit

/-- MARKS of the frame that Quire q latches now (R389). -/
def State.latchMarks (s : State) (q : Nat) : Nat :=
  let x := s.quire q
  let t := s.now
  let w := (2 * s.quirePeriod q).floor.toNat
  let h := s.qHead q
  let ingest := s.ingest.flows.any (fun e => fwType (s.flowRow e.1) == 1 && within t w e.2.badAt && s.ringShown h (s.flowRing e.1))
  let slots := (s.directUniverses q).any (fun u => within t w (s.uni u).changedAt)
  let unlocked := x.frontMarks.testBit 3 || s.val oNodeState != 2
  b2n x.repeated + (x.frontMarks / 2 % 4) * 2 + 8 * b2n unlocked + 16 * b2n ingest + 32 * b2n (s.memoryMark q t w) + 64 * b2n slots

/-- Keep the signature of the frame that latches now (R388): over the strands that sent it. -/
def State.keepSignature (s : State) (q k : Nat) : State :=
  let body := ((s.maskedStrands q).filter (fun st => (s.strand st).sentK == some k)).flatMap (fun st => (s.strand st).payload)
  let x := s.quire q
  let e : Sig := { seq := k % 65536, sig := crc32c body, marks := s.latchMarks q }
  (s.setQuire q { x with sigs := (e :: x.sigs).take 16 }).compareQuire q

/-- Idle cells a strand's frame leaves in its period, with the lengthening of R275. GAP_CELLS of OD 0x2407 is the least of them over the
strands in use, 0 where there is none: the spec names the field only (log entry 81). -/
def State.gapCells (s : State) (st : Nat) : Nat :=
  let q := st / 16
  let c := s.quireCadence q
  let d := if s.berm then 1 else 2 ^ s.fld oQuire q 3
  c.num * 1000000000000 / (c.den * cellPs (s.qRate q)) - frameCells (s.strandCfg st) d (s.wireD st)

/-- No record at all has arrived on a strand, with a valid CRC or without (R280). -/
def State.silent (s : State) (st : Nat) : Bool := (s.strand st).got.isEmpty && (s.strand st).bad == 0

/-- The records of a strand's next frame are waited for. -/
def State.listenAnew (s : State) (st : Nat) : State := s.setStrand st { s.strand st with got := [], bad := 0, far := none }

/-- Store a value of driver k at its place in the telemetry run (R303, log entry 22); nothing is stored while the store has given way
(R557). -/
def State.storeTele (s : State) (st k offset n v : Nat) : State :=
  let base := s.val oTeleBase
  if base = 0 || s.integ.bulkHeld then s else s.dramPut (base + 16 * (4096 * st + k) + offset) (leBytes n v)

/-- A frame of a strand ends: the AGE of every driver heard on it, in frames since its latest record (R303). -/
def State.storeAges (s : State) (st : Nat) : State :=
  let n := (s.strand st).aged + 1
  (s.strand st).heard.foldl (fun u e => u.storeTele st e.1 10 2 (capN 65535 (n + 1 - e.2)))
    (s.setStrand st { s.strand st with aged := n })

/-- The end of a pixel frame at its latch (R261, R278, R301, R388). -/
def State.frameLatched (s : State) (q k : Nat) : State :=
  let on := s.strandsOf q
  let sent := on.filter (fun st => (s.strand st).sentK == some k)
  let missed := if s.pixelsRun q then on.filter (fun st => (s.strand st).sentK != some k) else []
  let ret := !s.berm && s.fld oQuire q 4 == 1 && !legacy (s.qRate q)
  let x := s.quire q
  let first := x.frames == 0
  let s1 := if sent.isEmpty then s else (s.bump oQuireCnt q 0)
  let s2 := if missed.isEmpty || first || s.twin.quenchBerm then s1 else (s1.add oQuireCnt q 4 missed.length).quireSum q 10
  let s3 := if sent.isEmpty ∨ s.berm then s2 else s2.keepSignature q k
  let s4 := on.foldl State.listenAnew (if s.twin.quenchBerm then s3.undriveQuire q else s3)
  let open_ := fun (u : State) (st : Nat) => (u.setStrand st { u.strand st with gapFrom := u.clk.elapsed }).storeAges st
  let s5 := on.foldl open_ s4
  s5.setQuire q { s5.quire q with inFrame := false, window := if ret && !sent.isEmpty then some (k, true) else none }

/-- The PTIME of a latch instant's exact value, truncated (R41, R67), on node time as the timebase now runs to it. -/
def State.latchPt (s : State) (q k : Nat) : Nat :=
  let c := s.quireCadence q
  let exact : Rat := (c.epoch : Rat) + ((k * c.num * 1000000000 : Nat) : Rat) / (c.den : Rat)
  nsPt (exact - (s.clk.tb : Rat) / 65536000000000).floor.toNat

/-- QUIRE_LATCH (R36, R244, R295, R320, R326): sets swap in every state that has latch instants; derating and the colour loop are those
of a RUNNING Quire. -/
def execQuireLatch (q : Nat) (s0 : State) : State :=
  let st := s0.quireState q
  match (s0.quire q).nextK with
  | none => s0
  | some k =>
    if st ≠ 1 ∧ st ≠ 3 ∧ st ≠ 4 then s0
    else
      let s := s0.advanceTb (s0.latchAt q k : Rat)
      let s1 := if st = 1 then s.quireTo q 3 else s.frameLatched q k
      let s2 := if s.berm then s1 else s1.collLatch q k
      let gaps := (s.strandsOf q).map s.gapCells
      let gap := match gaps with
        | [] => 0
        | g :: gs => gs.foldl min g
      let s3 := s2.setRow oQuireStatus q [k % 65536, s.latchPt q k, gap, s2.fld oQuireStatus q 3]
      let s4 := if s.berm ∨ st = 4 then s3
        else
          let s4a := (List.range 16).foldl (fun u i => u.derateStep s.now (16 * q + i)) s3
          let seen := if (s2.quire q).repeated then none else some ((s.collOf (s.qHead q)).seenAt q k)
          (s4a.regionsAt q).foldl (fun u r => u.regionLatch k seen r) s4a
      let x := s4.quire q
      s4.setQuire q { x with frames := x.frames + 1, nextK := if st = 4 then none else some (k + 1) }

/-! ## Frames of SETUP as sent (R266 to R268, R271, R299) -/

/-- The shares of a per-driver command: SET_SHARE's from the strand row, others from the command-share table (R293, R299). -/
def State.driverShares (s : State) (st opcode : Nat) : List Nat :=
  (List.range ((s.strandCfg st).getD 0 0)).map (fun k =>
    if opcode = 1 then setShareWord (s.strandCfg st) k else s.dramWord (s.val oShareBase + 4 * (4096 * st + k)) 4)

/-- The frame a request is at, on a strand. -/
def State.phaseFrame (s : State) (r : Request) (st : Nat) : CamegFrame :=
  if r.enum then (match r.phase with
    | 0 => { type := 2, header := ({ s.commandHead st 2 1 with seq := 0, n := 4096 } : CamegHead).sent, cells := indexWord 0 }
    | 1 => { type := 1, header := (s.commandHead st 1 1).sent, cells := commandWord 1 true 0 ++ commandShares (s.driverShares st 1) }
    | _ => s.selectFrame st 1)
  else
    { type := 1, header := (s.commandHead st 1 (b2n r.ret)).sent
      cells := commandWord r.opcode r.perDriver r.arg ++ (if r.perDriver then commandShares (s.driverShares st r.opcode) else []) }

/-- The oldest request of a Quire in SETUP puts its next frame on the lines, unless it has. -/
def State.beginPhase (s0 : State) (q : Nat) : State :=
  match (s0.quire q).requests with
  | [] => s0
  | r :: rs =>
    if s0.quireState q ≠ 2 ∨ r.sent ∨ 3 ≤ r.phase then s0
    else
      let s := s0.advanceElapsed (s0.requestFrom q r)
      let s1 := (s.phaseStrands q r).foldl (fun u st => (u.putFrame st (u.phaseFrame r st)).drawNat.2) s
      s1.setQuire q { s1.quire q with requests := { r with sent := true } :: rs, window := if r.ret then some (r.phase, false) else none }

/-! ## Return records (R274 to R280, R327, R338) -/

/-- Fields of a return record (R279). -/
def rrIndex (b : BitVec 40) : Nat := bits b.toNat 39 27
def rrType (b : BitVec 40) : Nat := bits b.toNat 26 23
def rrValue (b : BitVec 40) : Nat := bits b.toNat 22 8

/-- The CRC-8 of a record is right. -/
def rrOk (b : BitVec 40) : Bool := crc8 (beBytes 4 (b.toNat / 256)) == b.toNat % 256

/-- A PHOTO record reaches the regions and the session that use its driver (R327, R362). -/
def State.photoRecord (s : State) (st k v : Nat) : State :=
  let q := st / 16
  let latch := match (s.quire q).window with
    | some (j, _) => j
    | none => 0
  let rs := (List.range 256).filter (fun r =>
    rgOn (s.row oRegion r) && rgPhoto (s.row oRegion r) && rgStrand (s.row oRegion r) == st && s.fld oRegion r 4 == k)
  let add := fun (u : State) (r : Nat) =>
    match regionPhase (u.row oRegion r) (u.region r) latch with
    | some ph => u.regionAdd r ph ((v : Rat) * f32 (u.fld oSensorGain (32 + r) 0))
    | none => u
  let s1 := rs.foldl add s
  match s1.cal.session with
  | some x =>
    let r := x.row.getD 2 0
    if x.row.getD 1 0 = 1 ∧ rgStrand (s1.row oRegion r) = st ∧ s1.fld oRegion r 4 = k ∧ x.startAt + 100000000 ≤ s1.now ∧
        s1.now < x.startAt + 100000000 + x.row.getD 7 0 * 1000000 then
      { s1 with cal := { s1.cal with session := some { x with sum := x.sum + (v : Rat), count := x.count + 1 } } }
    else s1
  | none => s1

/-- Update the request in progress. -/
def State.onRequest (s : State) (q : Nat) (f : Request → Request) : State :=
  let x := s.quire q
  match x.requests with
  | r :: rs => s.setQuire q { x with requests := f r :: rs }
  | [] => s

/-- What a record of a type brings (R279). -/
def State.recordTyped (s : State) (st k ty v : Nat) : State :=
  let q := st / 16
  match ty with
  | 1 => s.onRequest q (fun r =>
      if bit v 14 then { r with ovr := st :: r.ovr } else { r with found := (4096 * st + k) :: r.found })
  | 2 =>
    let x := s.strand st
    (s.setStrand st { x with temps := tset (0, 0) x.temps k (v + 1, s.now) }).storeTele st k 0 2 v
  | 3 => s.storeTele st k 2 2 v
  | 4 =>
    let known := ((List.range (s.rowCount oFaults)).find? (fun i => s.fld oFaults i 0 == st && s.fld oFaults i 1 == k)).map (fun i => s.fld oFaults i 2)
    let fresh := (v % 256) &&& (255 - known.getD 0) != 0
    let s1 := (s.storeTele st k 4 1 (v % 256)).emitterReport st k (v % 256) 0
    if fresh then s1.quireSum q 6 else s1
  | 5 =>
    let known := ((List.range (s.rowCount oFaults)).find? (fun i => s.fld oFaults i 0 == st && s.fld oFaults i 1 == k)).map (fun i => s.fld oFaults i 3)
    let fresh := (v % 256) &&& (255 - known.getD 0) != 0
    let s1 := (s.storeTele st k 5 1 (v % 256)).emitterReport st k 0 (v % 256)
    if fresh then s1.quireSum q 7 else s1
  | 6 => (s.storeTele st k 6 2 v).photoRecord st k v
  | 7 =>
    let s1 := (s.storeTele st k 8 2 v).add oStrandCnt st 3 (v % 256)
    let s2 := if v % 256 = 0 then s1 else s1.quireSum q 5
    let sel := b2n (bit v 12) + 1
    let x := s2.strand st
    if k = 0 then
      let s3 := s2.setStrand st { x with input := sel }
      if x.input = 0 ∨ x.input = sel then s3 else (s3.bump oStrandCnt st 4).quireSum q 8
    else s2
  | 8 => s.onRequest q (fun r =>
      if r.phase = 2 ∨ v / 128 = (if r.enum then 1 else r.opcode) then { r with acks := (4096 * st + k) :: r.acks } else r)
  | _ => s

/-- The end of a strand's return window on the timebase (R278). -/
def State.windowEndAt (s : State) (st k : Nat) : Rat :=
  let q := st / 16
  let v := s.strandCfg st
  let t : Rat := (cellPs (s.qRate q) : Rat) / 1000
  let n := v.getD 0 0
  let d := 2 ^ s.fld oQuire q 3
  s.latchEnd st (s.latchAt q k) + ((4 * n + 48 + 40 * cdiv n d + cdiv (s.wireD st) 32 : Nat) : Rat) * t

/-- The request whose frame of SETUP is on the lines of Quire q, or in its return window, and its beginning; also while SETUP drains. -/
def State.requestOut (s : State) (q : Nat) : Option (Request × Nat) :=
  match (s.quire q).requests with
  | r :: _ => some (r, s.requestFrom q r)
  | [] => (s.quire q).lastReq.map (fun r => (r, r.at_))

/-- A record of driver k that begins `late` ps after its nominal arrival begins in the return window of its strand (R13, R276, R278,
R280). A record of a driver that does not report has no nominal arrival, and begins now. -/
def State.inWindow (s : State) (st k late : Nat) : Bool :=
  let q := st / 16
  let x := s.quire q
  let t : Rat := (cellPs (s.qRate q) : Rat) / 1000
  let n := (s.strandCfg st).getD 0 0
  match x.window with
  | none => false
  | some (j, true) =>
    let d := 2 ^ s.fld oQuire q 3
    let nominal := s.latchEnd st (s.latchAt q j) + ((4 * n + 8 + 40 * (k / d) : Nat) : Rat) * t
    let edge := if k < n ∧ k % d = j % d then nominal + (late : Rat) / 1000 else s.tbNow
    s.strandOn st && (s.strand st).sentK == some j && decide (maxR edge s.tbNow < s.windowEndAt st j)
  | some (_, false) =>
    match s.requestOut q with
    | none => false
    | some (r, from_) =>
      let m := if r.enum && r.phase == 0 then 4096 else n
      let edge := from_ + s.cellsNs q (s.phaseCells r st + 4 * m + 8 + 40 * k) + late / 1000
      (s.phaseStrands q r).contains st && decide (max edge s.clk.elapsed < from_ + s.cellsNs q (s.phaseCells r st + s.phaseWindow r st))

/-- A record with a valid CRC is filed under its INDEX (R279, R280, R303). While the store has given way it waits, in place of the
driver's record before it, which is dropped (R557). -/
def State.recordFiled (s : State) (st : Nat) (b : BitVec 40) (late : Nat) : State :=
  let k := rrIndex b
  let y := s.strand st
  let far := match y.far with
    | some (j, z) => if j ≤ k ∧ 0 < k then some (k, late) else some (j, z)
    | none => if 0 < k then some (k, late) else none
  if s.integ.bulkHeld then
    let s1 := (s.setStrand st { y with got := k :: y.got, far := far }).bump oStrandCnt st 0
    let s2 := s1.recordTyped st k (rrType b) (rrValue b)
    { s2 with integ := { s2.integ with teleWait := tins s2.integ.teleWait (4096 * st + k) [y.aged + 1, rrType b, rrValue b] } }
  else
    let s1 := (s.setStrand st { y with got := k :: y.got, far := far, heard := tset 0 y.heard k (y.aged + 1) }).bump oStrandCnt st 0
    (s1.recordTyped st k (rrType b) (rrValue b)).storeTele st k 10 2 0

/-- Place of the value of a record type in a telemetry row: offset and bytes (R279, R303). -/
def teleField (ty : Nat) : Option (Nat × Nat) := match ty with
  | 2 => some (0, 2)
  | 3 => some (2, 2)
  | 4 => some (4, 1)
  | 5 => some (5, 1)
  | 6 => some (6, 2)
  | 7 => some (8, 2)
  | _ => none

/-- The telemetry store is served again: the records that have waited are stored (R557). -/
def State.teleRelease (s : State) : State :=
  let ws := s.integ.teleWait
  let s0 := { s with integ := { s.integ with bulkHeld := false, teleWait := [] } }
  ws.foldl (fun st e =>
    let i := e.1 / 4096
    let k := e.1 % 4096
    let y := st.strand i
    let st1 := st.setStrand i { y with heard := tset 0 y.heard k (e.2.getD 0 0) }
    let st2 := match teleField (e.2.getD 1 0) with
      | some f => st1.storeTele i k f.1 f.2 (e.2.getD 2 0 % 2 ^ (8 * f.2))
      | none => st1
    st2.storeTele i k 10 2 (capN 65535 (y.aged + 1 - e.2.getD 0 0))) s0

/-- RETURN_RECORD (R256, R274, R280): a 40-cell record that begins in the return window is decoded on a strand, `late` ps after its
nominal arrival; `stalls` of its cells stalled. -/
def execReturnRecord (st : Nat) (b : BitVec 40) (late stalls : Nat) (s0 : State) : State :=
  let s := s0.beginPhase (st / 16)
  if !s.inWindow st (rrIndex b) late then s
  else
    let s1 := s.add oQuireCnt (st / 16) 3 stalls
    if rrOk b then s1.recordFiled st b late
    else (s1.setStrand st { s1.strand st with bad := (s1.strand st).bad + 1 }).bump oStrandCnt st 1

/-- Indices that report in the frame with sequence seq (R276, R281). -/
def reporters (n d seq : Nat) : List Nat := (List.range n).filter (fun k => k % d == seq % d)

/-- The wiring trim under AUTO after a frame (R274, R275). -/
def State.wireUpdate (s : State) (st : Nat) : State :=
  let q := st / 16
  let v := s.row oStrand st
  match (s.strand st).far with
  | none => s
  | some (k, late) =>
    let s1 := s.setFld oWire st 1 (late / 1000)
    let n := v.getD 0 0
    let d1 := capN 65535 (roundHalfUp ((64 * late * (n - 1) : Nat) / ((2 * k * cellPs (s.qRate q) : Nat) : Rat))).toNat
    let d0 := s.wireD st
    if v.getD 9 0 = 0 ∨ (d1 ≤ d0 + 2 ∧ d0 ≤ d1 + 2) then s1
    else
      let t := s.timing (s.qHead q)
      let fits := strandFits (s.row oQuire q) v (s.qM q * tmNum t) (tmDen t) d1
      (if fits then s1.broadcast st 3 d1 else s1).quireSum q 9

/-- The judgement of a strand's records at the end of its window (R280). -/
def State.windowJudge (s : State) (k st : Nat) : State :=
  let d := 2 ^ s.fld oQuire (st / 16) 3
  let want := reporters ((s.strandCfg st).getD 0 0) d (k % 65536)
  let got := (s.strand st).got
  let missing := (want.filter (fun i => !got.contains i)).length
  let s1 := s.add oStrandCnt st 2 missing
  s1.wireUpdate st

/-- The return window of a pixel frame ends: records are judged, and command frames may follow 64 cells later (R270, R278, R280). -/
def State.pixelWindowEnd (s0 : State) (q k : Nat) : State :=
  let on := (s0.strandsOf q).filter (fun st => (s0.strand st).sentK == some k)
  let ends := on.map (fun st => s0.windowEndAt st k)
  let s := s0.advanceTb (ends.foldl maxR 0)
  let s1 := on.foldl (fun u st => u.windowJudge k st) s
  let s2 := if on.any s.silent then s1.quireSum q 4 else s1
  let s3 := on.foldl State.listenAnew s2
  let margin := fun (u : State) (st : Nat) => u.setStrand st { u.strand st with gapFrom := u.clk.elapsed }
  let s4 := on.foldl margin s3
  s4.setQuire q { s4.quire q with window := none }

/-! ## Requests (R266 to R271, R298, R299) -/

/-- Put a request of Quire q in line, or complete it at once where nothing can be sent (R298, R299, log entry 23). -/
def State.putRequest (s : State) (q : Nat) (r : Request) : State :=
  let st := s.quireState q
  let cannot := st = 0 ∨ legacy (s.qRate q) ∨ ((r.enum ∨ r.perDriver) ∧ st ≠ 2) ∨
    (!r.enum ∧ r.perDriver ∧ r.opcode ≠ 1 ∧ s.val oShareBase = 0)
  if cannot then s.requestDone q r stState
  else s.setQuire q { s.quire q with requests := (s.quire q).requests ++ [{ r with at_ := s.clk.elapsed }] }

/-- Quire q holds 16 requests (R421). -/
def State.requestsFull (s : State) (q : Nat) : Bool := decide (16 ≤ (s.quire q).requests.length)

/-- A request as it is made. -/
def Request.fresh (handle mask : Nat) : Request :=
  { handle := handle, at_ := 0, phase := 0, sent := false, acked := true, enum := false, mask := mask, opcode := 0, perDriver := false,
    ret := true, arg := 0, acks := [], found := [], ovr := [] }

/-- A write of OD 0x2404 (R298). -/
def writeCameg (w : Who) (v : Row) (s : State) : WRes :=
  let q := v.getD 0 0
  if s.requestsFull q then refuse s stBusy
  else accept s w (fun h st => st.putRequest q
    { Request.fresh h (v.getD 1 0) with opcode := v.getD 2 0, perDriver := v.getD 3 0 == 1, ret := v.getD 4 0 == 1, arg := v.getD 5 0 })

/-- A write of OD 0x2405 (R298). -/
def writeEnumerate (w : Who) (v : Row) (s : State) : WRes :=
  let q := v.getD 0 0
  if s.requestsFull q then refuse s stBusy
  else accept s w (fun h st => st.putRequest q { Request.fresh h (v.getD 2 0) with enum := true })

/-- The outcome of an enumeration on a strand (R267): OUTCOME, FOUND, FIRST_MISSING. -/
def State.enumOutcome (s : State) (r : Request) (st : Nat) : Row :=
  let n := s.fld oStrand st 0
  let idx := ((r.found.filter (fun e => e / 4096 == st)).map (fun e => e % 4096)).eraseDups
  let missing := (List.range n).filter (fun k => !idx.contains k)
  let out := if r.ovr.contains st then 3 else if idx.isEmpty then 4 else if idx.any (fun k => decide (n ≤ k)) then 2
             else if missing.isEmpty then 0 else 1
  [out, idx.length, missing.headD 0]

/-- Hold an enumeration's result; SUM bits ENUM_FAULT and OVERLENGTH (R267). -/
def State.judgeStrand (s : State) (r : Request) (st : Nat) : State :=
  let v := s.enumOutcome r st
  let s1 := s.setRow oEnumResult st v
  match v.headD 0 with
  | 0 => s1
  | 3 => s1.quireSum (st / 16) 2
  | _ => s1.quireSum (st / 16) 1

/-- Every driver of a strand has acknowledged. -/
def State.allAcked (s : State) (r : Request) (st : Nat) : Bool :=
  (List.range (s.fld oStrand st 0)).all (fun k => r.acks.contains (4096 * st + k))

/-- Count the drivers whose record of a frame of SETUP is absent or failed its CRC (R280). -/
def State.missedRecords (s : State) (st : Nat) : State :=
  s.add oStrandCnt st 2 ((List.range (s.fld oStrand st 0)).filter (fun k => !(s.strand st).got.contains k)).length

/-- The return window of a frame of SETUP ends on the strands it went to (R274, R280): absent records are counted, no record at all sets
SUM bit RECORDS, and under AUTO the wiring trim follows the lateness. -/
def State.setupWindowEnd (s : State) (q : Nat) (on : List Nat) : State :=
  let s1 := on.foldl State.missedRecords (if on.any s.silent then s.quireSum q 4 else s)
  on.foldl State.wireUpdate s1

/-- The trims that a frame of SETUP asks for go out after it (R270, R274), and the lines are free when they have. -/
def State.setupTrims (s : State) (q : Nat) (on : List Nat) : State :=
  let bs := (s.quire q).broadcasts
  if bs.isEmpty then s
  else
    let mark := fun (u : State) (st : Nat) => u.setStrand st { u.strand st with gapFrom := u.clk.elapsed }
    let s1 := bs.foldl State.sendBroadcast (on.foldl mark (s.setQuire q { s.quire q with broadcasts := [] }))
    s1.setQuire q { s1.quire q with freeAt := (on.map (fun st => (s1.strand st).gapFrom)).foldl max (s1.quire q).freeAt }

/-- The frame the oldest request of Quire q is at has left the lines, and its return window is over (R267, R280, R298): its records
are judged, and an enumeration goes on with the strands it found to be OK. -/
def State.finishPhase (s0 : State) (q : Nat) : State :=
  let sb := s0.beginPhase q
  match (sb.quire q).requests with
  | [] => sb
  | r :: rs =>
    if sb.quireState q ≠ 2 ∨ 3 ≤ r.phase then sb
    else
      let on := sb.phaseStrands q r
      let ends := sb.phaseEnd q r
      let s := sb.advanceElapsed ends
      let s1 := s.bump oQuireCnt q (if r.enum && r.phase == 0 then 2 else 1)
      let s2 := if r.enum && r.phase == 0 then on.foldl (fun u st => u.judgeStrand r st) s1 else s1
      let s3 := if r.ret then s2.setupWindowEnd q on else s2
      let answered := !r.ret || (r.enum && r.phase == 0) || on.all (fun st => s.allAcked r st)
      let more := r.enum && r.phase != 2 && on.any (fun st => s3.fld oEnumResult st 0 == 0)
      let r1 := { r with phase := if more then r.phase + 1 else 3, sent := false, acked := r.acked && answered, acks := [] }
      let s4 := on.foldl State.listenAnew s3
      (s4.setQuire q { s4.quire q with requests := r1 :: rs, freeAt := ends, window := none }).setupTrims q on

/-- The return window of a frame of SETUP that drains ends (R280, R295). Its request is CANCELLED already, so nothing judges what an
enumeration found (log entry 85). -/
def State.drainWindowEnd (s0 : State) (q : Nat) : State :=
  match (s0.quire q).lastReq with
  | none => s0.setQuire q { s0.quire q with window := none }
  | some r =>
    let on := s0.phaseStrands q r
    let s := s0.advanceElapsed (s0.quire q).freeAt
    let s1 := if r.ret then on.foldl State.listenAnew (s.setupWindowEnd q on) else s
    s1.setQuire q { s1.quire q with window := none, lastReq := none, broadcasts := [] }

/-- QUIRE_DRAIN_DONE (R295): the frame or its return window has ended. -/
def execQuireDrainDone (q : Nat) (s0 : State) : State :=
  let s := if s0.quireState q = 4 ∧ (s0.quire q).window.any (fun w => !w.2) then s0.drainWindowEnd q else s0
  let x := s.quire q
  if s.quireState q = 4 ∧ !x.inFrame ∧ x.window.isNone then ((s.advanceElapsed x.freeAt).quireTo q x.target).quireLatched q
  else s0

/-- The select frame owed goes out in SETUP after 10 ms of IDLE, once no request is left (R292, R295). -/
def State.setupSelect (s : State) (q : Nat) : State :=
  let x := s.quire q
  if s.quireState q = 2 ∧ x.selectOwed ∧ x.requests.isEmpty ∧ max x.freeAt (x.idleFrom + 10000000) ≤ s.clk.elapsed then
    let s1 := s.sendSelect q
    s1.setQuire q { s1.quire q with freeAt := s1.clk.elapsed + s1.cellsNs q 128 }
  else s

/-- RETURN_WINDOW_END (R274, R278, R280): of a pixel frame, or of a frame of SETUP. -/
def execReturnWindowEnd (q : Nat) (s0 : State) : State :=
  match (s0.quire q).window with
  | none => s0
  | some (k, true) => s0.pixelWindowEnd q k
  | some (_, false) => if s0.quireState q = 2 then s0.finishPhase q else s0.drainWindowEnd q

/-- A broadcast command of a RUNNING Quire goes out in the idle gap with RETURN clear, on every strand of its mask (R270, R298). -/
def State.gapRequest (s : State) (q : Nat) (r : Request) (rs : List Request) : State :=
  let on := s.requestStrands q r.mask
  let slots := on.map (fun st => (st, s.gapSlot st r.at_))
  if slots.any (fun e => e.2.isNone) then s
  else
    let s1 := slots.foldl (fun u e => (u.gapFrame e.1 (e.2.getD 0) (u.commandFrame e.1 r.opcode r.arg 0)).drawNat.2) s
    let s2 := (s1.setQuire q { s1.quire q with requests := rs }).advanceElapsed ((slots.map (fun e => e.2.getD 0)).foldl max 0)
    (s2.bump oQuireCnt q 1).requestDone q r stOk

/-- CAMEG_REQUEST_DONE (R298): the oldest request of a Quire completes. With none left, a select frame owed goes out. -/
def execCamegRequestDone (q : Nat) (s0 : State) : State :=
  match (s0.quire q).requests with
  | [] =>
    if s0.quireState q = 2 ∧ (s0.quire q).selectOwed then
      (s0.advanceElapsed (max (s0.quire q).freeAt ((s0.quire q).idleFrom + 10000000))).setupSelect q
    else s0
  | r :: rs =>
    if s0.quireState q = 3 ∧ !r.enum ∧ !r.perDriver then s0.gapRequest q r rs
    else if s0.quireState q = 2 then
      let s := ((s0.finishPhase q).finishPhase q).finishPhase q
      let ok := (s.quire q).requests.head?.any (fun e => e.acked)
      let s1 := s.setQuire q { s.quire q with requests := rs }
      (s1.requestDone q r (if ok then stOk else stTimeout)).setupSelect q
    else s0

/-! ## Rows (R292 to R294, R299, R303) -/

/-- A write of OD 0x2400 (R294). A changed TELEMETRY_MASK owes the drivers a select frame (R292); a changed HEAD may end a drain
(R311), and the frames of the heads fill what the Quire now takes of them (R243). -/
def writeQuire (q : Nat) (v : Row) (s : State) : WRes :=
  if !quireRowOk s q v then refuse s stRange
  else if s.quireState q ≠ 0 ∧ s.quireState q ≠ 2 then refuse s stState
  else
    let owed := decide (v.getD 6 0 ≠ s.fld oQuire q 6) && !legacy (v.getD 2 0)
    let s1 := ((s.setRow oQuire q v).bindFrames q).drainCheck
    done ((s1.setQuire q { s1.quire q with selectOwed := (s1.quire q).selectOwed || owed }).setupSelect q)

/-- A write of OD 0x2401 (R294). -/
def writeStrand (st : Nat) (v : Row) (s : State) : WRes :=
  if !strandRowOk s st v then refuse s stRange
  else if s.quireState (st / 16) ≠ 0 ∧ s.quireState (st / 16) ≠ 2 then refuse s stState
  else done (s.setRow oStrand st v)

/-- A write of OD 0x2409 (R303). -/
def writeTeleBase (v : Nat) (s : State) : WRes := if s.runOk v 0x1000000 then done (s.setVal oTeleBase v) else refuse s stRange

/-- A write of OD 0x240B (R299). -/
def writeShareBase (v : Nat) (s : State) : WRes := if s.runOk v 0x400000 then done (s.setVal oShareBase v) else refuse s stRange

/-- A write of OD 0x240C (R299): no table while OD 0x240B is 0 (log entry 24). -/
def writeShare (r v : Nat) (s : State) : WRes :=
  if s.val oShareBase = 0 then refuse s stState else done (s.dramPut (s.val oShareBase + 4 * r) (leBytes 4 v))

/-- Row r of OD 0x240C as read. -/
def State.readShare (s : State) (r : Nat) : Row := [if s.val oShareBase = 0 then 0 else s.dramWord (s.val oShareBase + 4 * r) 4]

/-- Row r of OD 0x2408 as read: 0 while OD 0x2409 is 0 (R303). -/
def State.readTele (s : State) (r : Nat) : Row :=
  let base := s.val oTeleBase
  if base = 0 then [0, 0, 0, 0, 0, 0, 0]
  else
    let w := fun (o n : Nat) => s.dramWord (base + 16 * r + o) n
    [w 0 2, w 2 2, w 4 1, w 5 1, w 6 2, w 8 2, w 10 2]

/-! ## The short test completes (R341, R342) -/

/-- One step of the test: the pins next to aggressor p that sampled high, then the aggressor if it sampled low. -/
def State.shortStep (s : State) (high : List (Nat × Nat)) (stuck : List Nat) (p : Nat) : State :=
  let found := (List.range 256).filter (fun b => high.contains (p, b) && s.adjacent p b && s.pinTestable b)
  let s1 := found.foldl (fun u b => u.shortResult (min p b) (max p b) 1) s
  if stuck.contains p then s1.shortResult p 0xFF 2 else s1

/-- SHORT_TEST_DONE: `high` are the (aggressor, adjacent pin) pairs sampled high, `stuck` the aggressors sampled low. Each pin of the
masked Quires is aggressor for 4 us, in ascending order (R341). -/
def execShortTestDone (high : List (Nat × Nat)) (stuck : List Nat) (s0 : State) : State :=
  match s0.light.test with
  | none => s0
  | some (mask, h) =>
    let pins := maskPins mask
    let s := s0.advanceElapsed (s0.light.testAt + 4000 * pins.length)
    let s2 := pins.foldl (fun u p => u.shortStep high stuck p) s
    let s3 := { s2 with light := { s2.light with test := none } }
    let s4 := (s3.completeTask h stOk).raise 103
    ((List.range 16).filter (fun q => mask.testBit q)).foldl (fun u q => u.quireLatched q) s4

end Sys2Proof.Machine
end

