-- ==== Sys2Proof/Machine/Slots.lean ====
section
/-! DEFINITION. The firmware slots: the Colophon of an image and the checks that verify it (R641, R644 to R647), and the formats that
the settings and the calibration store are kept in (R450, R662). -/

namespace Sys2Proof.Machine

/-! ## Records that carry a CRC-32C (R16) -/

/-- The contents of a settings copy (R449). -/
def SettingsCopy.bytes (c : SettingsCopy) : List Byte := beBytes 2 c.format ++ beBytes 4 c.seq ++ rowsBytes c.vals

/-- A settings copy whose CRC verifies. -/
def SettingsCopy.valid (c : SettingsCopy) : Bool := c.crc == crc32c c.bytes

/-- A copy with the CRC over its contents. -/
def SettingsCopy.sealed (c : SettingsCopy) : SettingsCopy := { c with crc := crc32c c.bytes }

/-- The contents of a calibration store record (R366, R367). -/
def CalStore.bytes (c : CalStore) : List Byte :=
  beBytes 2 c.format ++ rowsBytes c.vals ++ (match c.reft with
    | none => []
    | some (n, bins, ref) => natBytes n ++ bins.flatMap natBytes ++ natBytes ref)

/-- A calibration store record whose CRC verifies. -/
def CalStore.valid (c : CalStore) : Bool := c.crc == crc32c c.bytes

/-- A record with the CRC over its contents. -/
def CalStore.sealed (c : CalStore) : CalStore := { c with crc := crc32c c.bytes }

/-- The contents of a boot record (R642). -/
def BootRecord.bytes (b : BootRecord) : List Byte :=
  [b.active, b.pending, b.trials, b.result, b.phase, b.version, b.at_, b.erases0, b.erases1].flatMap natBytes

/-- A boot record with the CRC over its contents. -/
def BootRecord.sealed (b : BootRecord) : BootRecord := { b with crc := crc32c b.bytes }

/-! ## Images -/

/-- Byte `i` of an image: a byte that no block holds reads as erased flash, 0xFF (log entry 25). -/
def imageByte (held : Tbl (List Byte)) (i : Nat) : Byte := ((tfind held (i / 4096)).getD []).getD (i % 4096) 0xFF#8

/-- Bytes of an image. -/
def imageBytes (held : Tbl (List Byte)) (off n : Nat) : List Byte := (List.range n).map (fun i => imageByte held (off + i))

/-- The big-endian number at an offset of an image. -/
def imageNat (held : Tbl (List Byte)) (off n : Nat) : Nat := beNat (imageBytes held off n)

/-- The slot that index `i` names: 0 A, 1 B. -/
def State.slot (s : State) (i : Nat) : SlotImage := if i = 0 then s.flash.slotA else s.flash.slotB

/-- VERSION of a slot's image (R644). -/
def SlotImage.version : SlotImage → Nat
  | .empty => 0
  | .delivered => Config.deliveredVersion.toNat + 1
  | .blocks _ h => imageNat h 8 4

/-- SECURITY_EPOCH of a slot's image. -/
def SlotImage.epoch : SlotImage → Nat
  | .empty => 0
  | .delivered => Config.deliveredEpoch.toNat
  | .blocks _ h => imageNat h 12 2

/-- SETTINGS_FORMAT of a slot's image. -/
def SlotImage.settings : SlotImage → Nat
  | .empty => 0
  | .delivered => Config.deliveredSettings.toNat
  | .blocks _ h => imageNat h 14 2

/-- CAL_FORMAT of a slot's image. -/
def SlotImage.cal : SlotImage → Nat
  | .empty => 0
  | .delivered => Config.deliveredCal.toNat
  | .blocks _ h => imageNat h 16 2

/-- A part entry (R645): TYPE, OFFSET, LENGTH and SHA256. -/
structure Part where
  type   : Nat
  offset : Nat
  length : Nat
  sha    : List Byte

/-- The six part entries. -/
def imageParts (h : Tbl (List Byte)) : List Part :=
  (List.range 6).map (fun i =>
    let at_ := 64 + 48 * i
    { type := imageNat h at_ 1, offset := imageNat h (at_ + 4) 4, length := imageNat h (at_ + 8) 4, sha := imageBytes h (at_ + 16) 32 })

/-- Two parts do not overlap. -/
def Part.apart (a b : Part) : Bool := decide (a.offset + a.length ≤ b.offset) || decide (b.offset + b.length ≤ a.offset)

/-- A part lies where R645 and R647 allow it, given the parts before it. -/
def Part.placed (blocks : Nat) (before : List Part) (p : Part) : Bool :=
  decide (1 ≤ p.type) && decide (p.type ≤ 6) && !before.any (fun q => q.type == p.type) && p.offset % 4096 == 0 &&
    decide (4096 ≤ p.offset) && decide (1 ≤ p.length) && decide (p.offset + p.length ≤ blocks * 4096) && before.all p.apart

/-- The first part that breaks check 5, by its type. -/
def badLayout (blocks : Nat) : List Part → List Part → Option Nat
  | _, [] => none
  | before, p :: ps => if p.placed blocks before then badLayout blocks (p :: before) ps else some p.type

/-- RESULT and PART of the checks of R647: (0, 0) for a slot that passes. A slot that holds no image fails check 1; of the delivered
release only the floor can have risen above it. -/
def verifySlot (floor : Nat) : SlotImage → Nat × Nat
  | .empty => (1, 0)
  | .delivered => (if Config.deliveredEpoch.toNat < floor then 3 else 0, 0)
  | .blocks _ h =>
    let blocks := imageNat h 18 2
    if imageNat h 0 4 ≠ 0x434F4C4F ∨ imageNat h 4 2 ≠ 1 ∨ imageNat h 6 2 ≠ 6 ∨ blocks < 2 ∨ 14336 < blocks then (1, 0)
    else if !ed25519Verify (beBytes 32 Config.releaseKey.toNat) (imageBytes h 0 352) (imageBytes h 352 64) then (2, 0)
    else if imageNat h 12 2 < floor then (3, 0)
    else if Config.stepping.toNat < imageNat h 20 1 then (4, 0)
    else match badLayout blocks [] (imageParts h) with
      | some t => (5, t)
      | none =>
        match (imageParts h).find? (fun p => sha256 (imageBytes h p.offset p.length) != p.sha) with
        | some p => (6, p.type)
        | none => (0, 0)

/-- The slot verifies (R647). -/
def State.slotVerified (s : State) (i : Nat) : Bool := (verifySlot s.flash.otpFloor (s.slot i)).1 == 0

/-- Formats of the firmware in force (R450, R368). -/
def State.settingsFormat (s : State) : Nat := (s.slot s.update.running).settings
def State.calFormat (s : State) : Nat := (s.slot s.update.running).cal

/-- R662: during a trial whose format differs from the ACTIVE slot's, saves into that store are held. -/
def State.holdSettings (s : State) : Bool := s.update.trial == 1 && s.settingsFormat != (s.slot s.flash.boot.active).settings
def State.holdCal (s : State) : Bool := s.update.trial == 1 && s.calFormat != (s.slot s.flash.boot.active).cal

end Sys2Proof.Machine
end

