-- ==== Sys2Proof/Machine/Reset.lean ====
section
/-! DEFINITION. Reset requests and the always-finishing operations (R625 to R631), the values that a reset returns every domain to
(R628), and the settings and identity copies that a start loads (R448 to R450). -/

namespace Sys2Proof.Machine

/-! ## What a request records (R625 to R627, R630) -/

/-- Crest is dropped and every pin quenched (R382, R630). -/
def State.quench (s : State) : State :=
  { s with power := { s.power with quenched := true, driven := 0, dikeOverride := true } }

/-- The record of a request of cause c (R627, R634, R668, R669). -/
def Aon.record (a : Aon) (c : Nat) (mem addr rank pt boot : Nat) : Aon :=
  if c = 4 then { a with cause := c, also := 0, entry := 0, wakeFrom := 0, wakeSource := 0, memory := mem, addr := addr,
                         source := rank, recordAt := pt, recordBoot := boot }
  else { a with cause := c, also := 0, entry := 0, wakeFrom := 0, wakeSource := 0, memory := 0, addr := 0, source := 0 }

/-- A request arrives while one is recorded (R627): its bit of ALSO, or, at the same instant, the lower code is recorded. -/
def State.requestAgain (s : State) (c mem addr rank : Nat) : State :=
  if s.power.requestAt = s.clk.elapsed ∧ s.power.requested ∧ c < s.aon.cause then
    let a := s.aon.record c mem addr rank s.now s.flash.bootCount
    { s with aon := { a with also := setBit s.aon.also (s.aon.cause - 1) } }
  else { s with aon := { s.aon with also := setBit s.aon.also (c - 1) } }

/-! ## Reset values (R628) -/

/-- OD 0x3220, whose home is the AON domain: a reset of the others leaves it (log entry 30). -/
def oRetry : Nat := 0x322000

/-- Every domain but AON at its reset values: what persists is the flash, the OTP, the AON registers, the retention latch and the
pads the always-on logic holds. DRAM and the Vault list nothing (log entry 31). Node time starts from 0 (log entry 32). An entry into
sleep is dropped, and a wake latched during it stays (R32, log entry 85). -/
def State.resetValues (s : State) : State :=
  { State.reset with
    pending := s.pending
    clk := { State.reset.clk with elapsed := s.clk.elapsed }
    freeIdx := s.freeIdx
    od := tset [] [] oRetry (tget [] s.od oRetry)
    power := { s.power with requested := false, entry := none, inReset := true, service := .bootRom, warned := false }
    aon := s.aon
    flash := s.flash
    update := { Update.init with reverted := s.update.reverted }
    eop := { Eop.init with lastAnswer := s.eop.lastAnswer } }

/-! ## Stored copies (R448 to R450) -/

/-- Objects kept in settings, and objects kept in the identity area. -/
def rwsObjs : List Nat := (dict.filter (fun e => e.2.keep == .settings)).map (fun e => e.1)
def idObjs : List Nat := (dict.filter (fun e => e.2.keep == .identity)).map (fun e => e.1)

/-- Objects take the values a copy holds, the default where it holds none. -/
def State.loadObjs (s : State) (os : List Nat) (vals : Tbl (Tbl Row)) : State :=
  { s with od := os.foldl (fun od o => tset [] od o (tget [] vals o)) s.od }

/-- The values that objects have now. -/
def State.objVals (s : State) (os : List Nat) : Tbl (Tbl Row) :=
  os.foldl (fun m o => tset [] m o (tget [] s.od o)) []

/-- The settings copy that is loaded: valid, with the higher save sequence. -/
def Flash.newest (f : Flash) : Option SettingsCopy :=
  match f.settings0.valid, f.settings1.valid with
  | true, true => if f.settings0.seq < f.settings1.seq then some f.settings1 else some f.settings0
  | true, false => some f.settings0
  | false, true => some f.settings1
  | false, false => none

/-- Write a copy in the place of the one that is not the newest. -/
def Flash.store (f : Flash) (c : SettingsCopy) : Flash :=
  match f.newest with
  | some d => if d = f.settings0 then { f with settings1 := c } else { f with settings0 := c }
  | none => { f with settings0 := c }

/-- The corrections of the colour loop, which come back from settings beside the region rows (R347): C_R, C_G and C_B of each region. -/
def State.keepCorrections (s : State) (m : Tbl (Tbl Row)) : Tbl (Tbl Row) :=
  tset [] m oRegionStatus (tmap (fun v => (v.drop 2).take 3) (tget [] s.od oRegionStatus))

/-- Corrections that a settings copy holds. -/
def State.loadCorrections (s : State) (m : Tbl (Tbl Row)) : State :=
  (tget [] m oRegionStatus).foldl (fun st e => st.setRow oRegionStatus e.1 ((dfltRow oRegionStatus e.1).take 2 ++ e.2 ++
    (dfltRow oRegionStatus e.1).drop 5)) s

/-- What a save writes: every RWS value of full service. In Berm service, which has loaded few of them, the values changed since the
last save go on top of the newest copy (log entry 33). -/
def State.saveVals (s : State) : Tbl (Tbl Row) :=
  if s.berm then
    s.eop.dirty.foldl (fun m o => tset [] m o (tget [] s.od o)) (match s.flash.newest with
      | some c => c.vals
      | none => [])
  else s.keepCorrections (s.objVals rwsObjs)

/-- A save of the settings completes (R449); held in memory during a trial of another format (R662). -/
def State.saveSettings (s : State) : State :=
  let s0 := { s with eop := { s.eop with saveDue := none, dirty := [] } }
  if s.holdSettings then ({ s0 with update := { s0.update with heldSettings := true } }).setVal 0x100201 s.settingsFormat
  else
    let seq := match s.flash.newest with
      | some c => (c.seq + 1) % 2 ^ 32
      | none => 1
    let c : SettingsCopy := { crc := 0, format := s.settingsFormat, seq := seq, vals := s.saveVals }
    (({ s0 with flash := s.flash.store c.sealed }).setVal 0x100203 s.nowPt).setVal 0x100201 s.settingsFormat

/-- The save that is due by now has been made in its interval [write, write + 2 s) (R13, R449). -/
def State.saveCome (s : State) : State :=
  match s.eop.saveDue with
  | none => s
  | some t => if t ≤ s.now then s.saveSettings else s

/-- SETTINGS_SAVE (R449): the values changed are saved. A save that fails raises event 6 (R664); what it would have saved stays to be
saved with the next change (log entry 84). -/
def execSettingsSave (ok : Bool) (s : State) : State :=
  match s.eop.saveDue with
  | none => s
  | some _ =>
    if !s.timeRuns then s
    else if ok then s.saveSettings
    else ({ s with eop := { s.eop with saveDue := none } }).raise 6

/-- Settings at the start of full service (R449, R450). -/
def State.loadSettings (s : State) : State :=
  match s.flash.newest with
  | none => (((s.loadObjs rwsObjs []).saveSettings).setVal 0x100202 2).raise 6
  | some c =>
    if c.format ≠ s.settingsFormat then (((s.loadObjs rwsObjs []).saveSettings).setVal 0x100202 1).raise 6
    else (((s.loadObjs rwsObjs c.vals).loadCorrections c.vals).setVal 0x100202 0).setVal 0x100201 c.format

/-- Settings that the Boot ROM reads itself: the rows of the ports and of the time domains (R635, R643). -/
def bermObjs : List Nat :=
  (rwsObjs.filter (fun o => o / 256 == 0x1300 || o / 256 == 0x1301 || o / 256 == 0x1302)) ++ [oPort, oPortEnable]

/-- What the Boot ROM reads from flash (R635). -/
def State.loadBerm (s : State) : State :=
  let s1 := s.loadObjs idObjs s.flash.identity
  match s.flash.newest with
  | none => s1
  | some c => (s1.loadObjs bermObjs c.vals).setVal 0x100201 c.format

/-! ## Requests of a reset (R626, R627) -/

/-- A request of cause 2 to 6 (R626): the cause is recorded, Crest is dropped and the strands are quenched; the reset follows 2 us
later. A save that has not completed is lost (R449). In LINK STANDBY, HIBERNATE and OFF there is nothing to reset. -/
def State.requestReset (s : State) (c mem addr rank : Nat) : State :=
  if s.power.state ≠ .run ∧ s.power.state ≠ .berm then s
  else if s.power.recording then s.requestAgain c mem addr rank
  else
    let s0 := s.saveCome
    let s1 := { s0 with
      aon := s.aon.record c mem addr rank s.now s.flash.bootCount
      eop := { s0.eop with saveDue := none, dirty := [] } }
    ({ s1 with power := { s1.power with requested := true, recording := true, requestAt := s.clk.elapsed } }).quench

/-- A request without details. -/
def State.requestCause (s : State) (c : Nat) : State := s.requestReset c 0 0 0

end Sys2Proof.Machine
end

