-- ==== Sys2Proof/Machine/Cal.lean ====
section
/-! DEFINITION. Calibration (R348 to R372): REFT, the passes of a Quire and its taps, reference sessions, and the calibration
store. -/

namespace Sys2Proof.Machine

def oCalPin : Nat := 0x261000
def oCalStatus : Nat := 0x261100
def oReft : Nat := 0x261300
def oReftDecl : Nat := 0x261400
def oCalStore : Nat := 0x263000
def oCalCnt : Nat := 0x427000

def State.setCal (s : State) (x : Cal) : State := { s with cal := x }

/-- Note that the store's contents have changed (R367). -/
def State.calChanged (s : State) : State := s.setCal { s.cal with changed := true }

/-! ## REFT (R350 to R352) -/

def State.reftPresent (s : State) : Bool := s.fld oReft 0 0 == 1

/-- The first TRUE instant of a 100 ms window's end after now. -/
def windowEnd100 (t : Nat) : Nat := (t / 100000000 + 1) * 100000000

/-- REFT_PRESENCE (R350): a window of 100 ms has counted a frequency `ppm` away from 10 MHz. The first measurement follows at once
(log entry 26). -/
def execReftPresence (ppm : Int) (s0 : State) : State :=
  if !s0.timeRuns then s0
  else
    let s := s0.advanceTo (windowEnd100 s0.now)
    let on := decide (ppm.natAbs ≤ 100)
    if on = s.reftPresent then s
    else
      let s1 := (s.setFld oReft 0 0 (b2n on)).raise 109
      if on then s1.setCal { s1.cal with nextAt := s1.now } else s1.setCal { s1.cal with running := none }

/-- REFT_MEASUREMENT (R351): a measurement starts, stamped with REF_ID. -/
def execReftMeasurement (s0 : State) : State :=
  if !s0.full || !s0.reftPresent || s0.cal.running.isSome then s0
  else
    let s := s0.advanceTo s0.cal.nextAt
    s.setCal { s.cal with running := some (s.now, s.fld oReftDecl 0 0), nextAt := s.now + 60000000000 }

/-- XIN error in ppb of a count of STRAND cycles over 100 ms (R351): nominal 40,000,000. -/
def xinPpb (cycles : Nat) : Int := ((cycles : Int) - 40000000) * 25

/-- Time of the two steps of R351: 1,000,000 REFT periods and 65,536 edges. -/
def reftNs : Nat := 106553600

/-- REFT_MEASUREMENT_DONE (R351): both steps are complete; with REFT still PRESENT the measurement replaces the previous one. -/
def execReftMeasurementDone (cycles : Nat) (bins : List Nat) (s0 : State) : State :=
  match s0.cal.running with
  | none => s0
  | some (start, ref) =>
    let s := s0.advanceTo (start + reftNs)
    let s1 := s.setCal { s.cal with running := none, cycles := some cycles, bins := bins, traced := ref, changed := true }
    (s1.setRow oReft 0 [s.fld oReft 0 0, ofI 32 (xinPpb cycles), ref, s.nowPt]).bump oCalCnt 0 4

/-- STRAND period in use, in ps (R351, R352). -/
def Cal.periodPs (x : Cal) : Rat :=
  match x.cycles with
  | some n => if n = 0 then 2500 else 100000000000 / (n : Rat)
  | none => 2500

/-- Widths of the 128 TDC bins in use, in ps (R351, R352): each bin's share of the edges times the STRAND period, or equal parts of it
without a measurement since reset. -/
def Cal.widths (x : Cal) : List Rat :=
  match x.cycles with
  | some _ => x.bins.map (fun (n : Nat) => (n : Rat) * x.periodPs / ((x.bins.sum : Nat) : Rat))
  | none => List.replicate 128 (x.periodPs / 128)

/-- The level and REF_ID of the TDC scaling in use (R364). -/
def Cal.tdcTrace (x : Cal) : Nat × Nat := if x.cycles.isSome && x.traced != 0 then (2, x.traced) else (0, 0)

/-! ## Taps (R348, R349, R359, R360) -/

def pinAutoEdge (v : Row) : Bool := v.getD 0 0 == 1
def pinAutoRx (v : Row) : Bool := v.getD 1 0 == 1

/-- The taps a pin will have once what is staged is applied. -/
def State.tapsAhead (s : State) (p : Nat) : Row :=
  match tfind s.cal.staged p with
  | some v => v
  | none => taps4 (s.row oCalStatus p)

/-- Stage taps for a pin; a later staging replaces an earlier one, which an application in the later one's STRAND cycle still takes
(R359, R360). -/
def State.stageTaps (s : State) (p : Nat) (v : Row) : State :=
  let x := s.cal
  let y := match tfind x.staged p with
    | some u =>
      if strandCycle (tget 0 x.stagedAt p) < strandCycle s.clk.elapsed then
        { x with stagedOld := tins x.stagedOld p u, stagedOldAt := tset 0 x.stagedOldAt p (tget 0 x.stagedAt p) }
      else x
    | none => { x with stagedOld := tdel x.stagedOld p, stagedOldAt := tdel x.stagedOldAt p }
  s.setCal { y with staged := tins x.staged p v, stagedAt := tset 0 x.stagedAt p s.clk.elapsed }

/-- A write of OD 0x2610 (R349, R359): MANUAL taps are staged, and a Quire in OFF takes them at once. -/
def writeCalPin (p : Nat) (v : Row) (s : State) : WRes :=
  let s1 := (s.setRow oCalPin p v).calChanged
  let t := s1.tapsAhead p
  let t1 := if pinAutoEdge v then t else rput (rput t 0 (v.getD 4 0)) 1 (v.getD 5 0)
  let t2 := if pinAutoRx v then t1 else rput (rput t1 2 (v.getD 6 0)) 3 (v.getD 7 0)
  let s2 := if pinAutoEdge v then s1
    else s1.setRow oCalStatus p (rput (rput (s1.row oCalStatus p) 9 0) 10 0)
  let s3 := if pinAutoEdge v && pinAutoRx v then s2 else s2.stageTaps p t2
  done (if s3.quireState (p / 16) = 0 then s3.applyTaps (p / 16) (strandCycle s3.clk.elapsed + 1) else s3)

/-- `elapsed` from which the lines of a Quire have been in IDLE: after the last frame or return window (R278, R295). -/
def State.idleSince (s : State) (q : Nat) : Nat :=
  let x := s.quire q
  if s.quireState q = 2 then max x.freeAt x.idleFrom
  else ((List.range 16).map (fun i => (s.strand (16 * q + i)).gapFrom)).foldl max 0

/-- `elapsed` of the first instant of the current idle gap that lies 64 cells after the last frame or return window and in no command or
select frame, none while a pixel frame, a request's frame or a return window is on the lines (R359). -/
def State.tapFrom (s : State) (q : Nat) : Option Nat :=
  let x := s.quire q
  if x.inFrame || x.window.isSome || x.requests.head?.any (fun r => r.sent) then none else some (s.idleSince q + s.cellsNs q 64)

/-- The first falling edge of an IDLE cell at or after `elapsed` e: a quarter into each cell since IDLE began (R253, R359),
which is counted from the Quire's strand that was idle last (log entry 69). A legacy line has no IDLE cells. -/
def State.idleFall (s : State) (q e : Nat) : Nat :=
  if legacy (s.qRate q) then e
  else
    let t := cellPs (s.qRate q) / 1000
    let a := s.idleSince q + t / 4
    a + t * cdiv (e - a) t

/-- `elapsed` of the next FRAME_START of a Quire's strands, none while none is to come. -/
def State.nextFrame (s : State) (q : Nat) : Option Rat :=
  let x := s.quire q
  match x.nextK with
  | some k => ((s.strandsOf q).map (fun st => (s.clk.elapsed : Rat) + (s.frameStartAt st (s.latchAt q k) - s.tbNow))).foldl
      (fun m t => some (match m with
        | none => t
        | some u => minR u t)) none
  | none => (x.requests.head?.filter (fun r => decide (r.phase < 3))).map (fun r => (s.requestFrom q r : Rat))

/-- TAP_APPLY (R359, R360): the taps staged in earlier STRAND cycles come into force at the first instant allowed; where none is left in
this idle gap they wait. -/
def execTapApply (q : Nat) (s0 : State) : State :=
  let ps := ((List.range 16).map (fun i => 16 * q + i)).filter (fun p => (tfind s0.cal.staged p).isSome)
  let first := fun (p : Nat) => if (tfind s0.cal.stagedOld p).isSome then tget 0 s0.cal.stagedOldAt p else tget 0 s0.cal.stagedAt p
  let staged := (ps.map (fun p => first p + 3)).foldl (fun m t => if m = 0 then t else min m t) 0
  match s0.tapFrom q with
  | none => s0
  | some a =>
    let at_ := s0.idleFall q (max (max a staged) s0.clk.elapsed)
    let room := match s0.nextFrame q with
      | none => true
      | some f => decide ((at_ : Rat) + ((s0.cellsNs q 64 : Nat) : Rat) ≤ f)
    if !s0.full || 16 ≤ q || ps.isEmpty || !room then s0
    else
      let s := s0.advanceElapsed at_
      s.applyTaps q (strandCycle s.clk.elapsed)

/-! ## Calibration passes (R353 to R358) -/

/-- One direction of one pin: launch delay, effective delay and tap size, in ps. -/
structure EdgeMeasure where
  d0  : Rat
  e   : Rat
  tap : Rat

/-- The middles of bins that follow each other, in ps from the start of the STRAND period (log entry 82). -/
def binMiddles : Rat → List Rat → List Rat
  | _, [] => []
  | a, w :: ws => (a + w / 2) :: binMiddles (a + w) ws

/-- The mean launch delay of a reading, in ps: whole STRAND periods, and the middle of the bin of each edge (R351, R353). -/
def Cal.delay (x : Cal) (r : TdcReading) : Rat :=
  let n := r.hits.sum
  let parts := (r.hits.zip (binMiddles 0 x.widths)).map (fun (e : Nat × Rat) => (e.1 : Rat) * e.2)
  if n = 0 then 0 else ((r.periods : Rat) * x.periodPs + parts.sum) / (n : Rat)

/-- Delays of a direction, with the pin's board offset (R353, R355). -/
def edgeMeasure (x : Cal) (d0 d63 : TdcReading) (offset : Int) : EdgeMeasure :=
  { d0 := x.delay d0, e := x.delay d0 + (offset : Rat), tap := (x.delay d63 - x.delay d0) / 63 }

/-- The edge tap of R355: tap, LIMIT and residual in ps. A tap size that is not positive leaves the quotient unstated: `free` then
stands for it (log entry 27). -/
def edgeTap (target : Rat) (m : EdgeMeasure) (free : Nat) : Nat × Bool × Int :=
  let n := if m.tap ≤ 0 then free % 64 else (roundHalfUp ((target - m.e) / m.tap)).toNat
  let k := capN 63 n
  (k, decide (63 < n), roundHalfUp (target - m.e - (k : Rat) * m.tap))

/-- The greatest of a list, 0 when empty. -/
def maxOf (xs : List Rat) : Rat := xs.foldl maxR (xs.headD 0)

/-- A tap passes (R358). -/
def tapPasses (x : Nat × Nat) : Bool := decide (8 ≤ x.1) && x.2 == 0

/-- Runs of passing taps: first tap and length, from tap `i` on. -/
def tapRuns : Nat → List (Nat × Nat) → List (Nat × Nat)
  | _, [] => []
  | i, x :: xs =>
    if tapPasses x then
      match tapRuns (i + 1) xs with
      | (a, n) :: rs => if a = i + 1 then (i, n + 1) :: rs else (i, 1) :: (a, n) :: rs
      | [] => [(i, 1)]
    else tapRuns (i + 1) xs

/-- The tap that a sweep chooses, moved at most 2 from the tap in force (R358). With no passing tap, or several widest runs, the
rule names none: `free` then stands for the centre (log entry 27). -/
def chooseTap (cur : Nat) (xs : List (Nat × Nat)) (free : Nat) : Nat :=
  let rs := tapRuns 0 xs
  let w := (rs.map (fun r => r.2)).foldl max 0
  let best := rs.filter (fun r => r.2 == w)
  let c := match best with
    | [] => free % xs.length
    | _ => match best[free % best.length]? with
      | some r => r.1 + (r.2 - 1) / 2
      | none => cur
  if cur + 2 < c then cur + 2 else if c + 2 < cur then cur - 2 else c

/-- Whether a pin's receive taps are chosen in this pass (R358). -/
def rxMeasured (m : PinMeasure) : Bool :=
  m.thr.length == 32 && m.phase.length == 16 && m.thr.all (fun x => decide (8 ≤ x.1)) && m.phase.all (fun x => decide (8 ≤ x.1))

/-- Take the results of one pin (R355, R357, R358, R364). -/
def State.passPin (s0 : State) (q : Nat) (targetR targetF : Rat) (m : PinMeasure) : State :=
  let p := m.pin
  let v := s0.row oCalPin p
  let r := edgeMeasure s0.cal m.d0Rise m.d63Rise (toI 16 (v.getD 2 0))
  let f := edgeMeasure s0.cal m.d0Fall m.d63Fall (toI 16 (v.getD 3 0))
  let (n1, s1) := s0.drawNat
  let (n2, s2) := s1.drawNat
  let (n3, s3) := s2.drawNat
  let (n4, s) := s3.drawNat
  let er := edgeTap targetR r n1
  let ef := edgeTap targetF f n2
  let limit := er.2.1 || ef.2.1
  let old := s.row oCalStatus p
  let was := (old.getD 8 0).testBit 0
  let tr := s.cal.tdcTrace
  let auto := pinAutoEdge v
  let row := taps4 old ++ [toF32 r.tap, toF32 f.tap, satI 16 er.2.2, satI 16 ef.2.2, b2n limit,
    if auto then tr.1 else 0, if auto then tr.2 else 0, s.nowPt]
  let sa := s.setRow oCalStatus p row
  let sb := if limit != was then sa.raise 108 else sa
  let sc := if limit && !was then sb.bump oCalCnt 0 1 else sb
  let t := sc.tapsAhead p
  let t1 := if auto then rput (rput t 0 er.1) 1 ef.1 else t
  let rx := pinAutoRx v && rxMeasured m && s.fld oQuire q 4 == 1
  let t2 := if rx then rput (rput t1 2 (chooseTap (old.getD 2 0) m.thr n3)) 3 (chooseTap (old.getD 3 0) m.phase n4) else t1
  let sd := if rx ∧ (t2.getD 2 0 ≠ old.getD 2 0 ∨ t2.getD 3 0 ≠ old.getD 3 0) then sc.bump oCalCnt 0 3 else sc
  if auto || rx then sd.stageTaps p t2 else sd

/-- The measurements of a pass: one for each strand in use, ascending (R354). -/
def State.passMeasures (s : State) (q : Nat) (ms : List PinMeasure) : List PinMeasure :=
  (s.strandsOf q).filterMap (fun p => ms.find? (fun m => m.pin == p))

/-- CALIBRATION_PASS (R354, R355): the pass of Quire q ends with these measurements; its taps are staged. -/
def execCalibrationPass (q : Nat) (ms : List PinMeasure) (s0 : State) : State :=
  if !s0.full || 16 ≤ q || legacy (s0.qRate q) || !(s0.quireState q == 2 || s0.quireState q == 3) then s0
  else
    let s := s0.advanceTo ((s0.quire q).passAt + s0.val 0x261200 * 1000000000)
    let xs := s.passMeasures q ms
    let tr := maxOf (xs.map (fun m => (edgeMeasure s.cal m.d0Rise m.d63Rise (toI 16 (s.fld oCalPin m.pin 2))).e))
    let tf := maxOf (xs.map (fun m => (edgeMeasure s.cal m.d0Fall m.d63Fall (toI 16 (s.fld oCalPin m.pin 3))).e))
    let s1 := xs.foldl (fun st m => st.passPin q tr tf m) s
    ((s1.setQuire q { s1.quire q with passAt := s1.now }).bump oCalCnt 0 0).calChanged

/-- A pass of Quire q is in progress (CAL.STATUS.PASS, R371): it is due and its end has not come. -/
def State.passOn (s : State) (q : Nat) : Bool :=
  s.full && !legacy (s.qRate q) && (s.quireState q == 2 || s.quireState q == 3) &&
    decide ((s.quire q).passAt + s.val 0x261200 * 1000000000 ≤ s.now)

/-! ## The store (R366 to R368) -/

/-- A write of the store is asked for (R367). -/
def State.calStoreDue (s : State) : State := s.setCal { s.cal with changed := true, writing := true }

/-- What R366 keeps of the present state. -/
def State.calVals (s : State) : Tbl (Tbl Row) :=
  let whole := fun (m : Tbl (Tbl Row)) (o : Nat) => tset [] m o (tget [] s.od o)
  let traced := fun (m : Tbl Row) => m.filter (fun e => s.fld oRegionTrace e.1 0 == 2)
  let m1 := [oCalPin, oCalStatus, oReft, oSensorGain].foldl whole []
  let m2 := tset [] m1 oRegion (traced (tget [] s.od oRegion))
  let m3 := tset [] m2 oRegionStatus (traced (tget [] s.od oRegionStatus))
  tset [] m3 oRegionTrace (traced (tget [] s.od oRegionTrace))

/-- The store holds a record in a format that this firmware cannot read: it is kept unchanged (R368, log entry 82). -/
def State.calUnreadable (s : State) : Bool := s.flash.cal.valid && s.flash.cal.format != s.calFormat

/-- A write of the store (R367): it completes or fails. In a trial whose CAL_FORMAT differs it is held, and made at the confirmation
(R662). -/
def State.calStoreWritten (ok confirm : Bool) (s0 : State) : State :=
  if !s0.full then s0
  else
    let s := if s0.cal.writing then s0 else s0.advanceTo s0.cal.writeAt
    if !s.cal.changed && !s.cal.writing then s0
    else if s.holdCal then
      { s.setCal { s.cal with writing := false, writeAt := s.now + 3600000000000 } with update := { s.update with heldCal := true } }
    else if s.calUnreadable && !confirm then s.setCal { s.cal with writing := false, writeAt := s.now + 3600000000000 }
    else if ok then
      let s1 := s.setCal { s.cal with changed := false, writing := false, writeAt := s.now + 3600000000000 }
      let record : CalStore := { crc := 0, format := s.calFormat, vals := s.calVals,
                                 reft := s.cal.cycles.map (fun n => (n, s.cal.bins, s.cal.traced)) }
      let s2 := { s1 with flash := { s1.flash with cal := record.sealed } }
      (s2.setRow oCalStore 0 [s.calFormat, 0, s.nowPt]).bump oCalCnt 0 7
    else
      ((s.setCal { s.cal with writing := false, writeAt := s.now + 3600000000000 }).bump oCalCnt 0 8).raise 111

/-- CAL_STORE_WRITE (R367): a journaled write completes or fails. -/
def execCalStoreWrite (ok : Bool) (s : State) : State := State.calStoreWritten ok false s

/-- A write of OD 0x2631 (R367). -/
def writeCalStoreSave (v : Nat) (s : State) : WRes := done (if v = 1 then s.calStoreDue else s)

/-- A region takes its targets, corrections and trace from the store when its settings row has all targets at 0.0 (R368). -/
def State.loadRegionCal (s : State) (m : Tbl (Tbl Row)) (r : Nat) : State :=
  let v := s.row oRegion r
  let st := tget (dfltRow oRegionStatus r) (tget [] m oRegionStatus) r
  match tfind (tget [] m oRegion) r, tfind (tget [] m oRegionTrace) r with
  | some w, some tr =>
    if v.getD 12 0 = 0 ∧ v.getD 13 0 = 0 ∧ v.getD 14 0 = 0 then
      let s1 := s.setRow oRegion r (rput (rput (rput v 12 (w.getD 12 0)) 13 (w.getD 13 0)) 14 (w.getD 14 0))
      let old := s1.row oRegionStatus r
      (s1.setRow oRegionStatus r (rput (rput (rput old 2 (st.getD 2 0)) 3 (st.getD 3 0)) 4 (st.getD 4 0))).setRow oRegionTrace r tr
    else s
  | _, _ => s

/-- Taps in force of a pin at load: the store's, or the row's in MANUAL (R349, R366). A pin whose settings row has no board offset takes
those of the store (R368, log entry 82). -/
def State.loadPinCal (s : State) (m : Tbl (Tbl Row)) (p : Nat) : State :=
  let v := s.row oCalPin p
  let w := tget (dfltRow oCalStatus p) (tget [] m oCalStatus) p
  let t := taps4 w
  let t1 := if pinAutoEdge v then t else rput (rput t 0 (v.getD 4 0)) 1 (v.getD 5 0)
  let t2 := if pinAutoRx v then t1 else rput (rput t1 2 (v.getD 6 0)) 3 (v.getD 7 0)
  let u := tget (dfltRow oCalPin p) (tget [] m oCalPin) p
  let s1 := if v.getD 2 0 = 0 ∧ v.getD 3 0 = 0 then s.setRow oCalPin p (rput (rput v 2 (u.getD 2 0)) 3 (u.getD 3 0)) else s
  s1.setRow oCalStatus p (t2 ++ w.drop 4)

/-- The store is loaded at each start of full service (R368); a format the firmware cannot read leaves it unused. -/
def State.loadCal (s : State) : State :=
  let c := s.flash.cal
  let pins := List.range 256
  if !c.valid then (pins.foldl (fun st p => st.loadPinCal [] p) s).setRow oCalStore 0 [s.calFormat, 2, 0]
  else if c.format ≠ s.calFormat then
    ((pins.foldl (fun st p => st.loadPinCal [] p) s).setRow oCalStore 0 [c.format, 1, 0]).raise 111
  else
    let s1 := pins.foldl (fun st p => st.loadPinCal c.vals p) s
    let reft := rput (tget (dfltRow oReft 0) (tget [] c.vals oReft) 0) 0 (s.fld oReft 0 0)
    let s2 := (s1.setRow oReft 0 reft).setRow oCalStore 0 [c.format, 0, 0]
    let s3 := s2.setRows oSensorGain (tget [] c.vals oSensorGain)
    (List.range 256).foldl (fun st r => st.loadRegionCal c.vals r) s3

/-! ## Reference sessions (R361 to R365) -/

def rsMeter (v : Row) : Bool := v.getD 0 0 == 1
def rsPhoto (v : Row) : Bool := v.getD 1 0 == 1
def rsIndex (v : Row) : Nat := v.getD 2 0
def rsReference (v : Row) : Rat := f32 (v.getD 4 0)

/-- Row of OD 0x2623 that a session's sensor has. -/
def rsSensor (v : Row) : Nat := if rsPhoto v then 32 + rsIndex v else rsIndex v

/-- The ranges of R361 that one field does not show. -/
def sessionInRange (v : Row) : Bool := (rsMeter v || decide (0 < rsReference v)) && (rsPhoto v || decide (rsIndex v ≤ 31))

/-- The sensor can be measured (R361). -/
def State.sessionReady (s : State) (v : Row) : Bool :=
  if rsPhoto v then
    let r := s.row oRegion (rsIndex v)
    rgPhoto r && s.quireState (rgStrand r / 16) == 3
  else s.fld oGauge (rsIndex v) 0 == 1

/-- Every region whose sensor is the session's is in HOLD with reason 6 (R362). -/
def State.sessionHolds6 (s : State) : State :=
  ((List.range 256).filter (fun r => rgOn (s.row oRegion r) && s.sessionHolds r)).foldl
    (fun st r => (st.regionFault r 6).setRegionState r 3 6) s

/-- A write of OD 0x2620 (R361). -/
def writeRefSession (w : Who) (v : Row) (s : State) : WRes :=
  if !sessionInRange v then refuse s stRange
  else if !s.sessionReady v then refuse s stState
  else if s.cal.session.isSome then refuse s stBusy
  else accept s w (fun h st => (st.setCal { st.cal with session := some { row := v, handle := h, startAt := st.now, sum := 0, count := 0,
                                                                          fault := false, reading := none, ended := false } }).sessionHolds6)

/-- A session completes: event 110 and its handle (R363). -/
def State.sessionDone (s : State) (x : RefSession) (status : Nat) : State :=
  let s1 := (s.setCal { s.cal with session := none }).bump oCalCnt 0 (if status = stOk then 5 else 6)
  (s1.raise 110).completeTask x.handle status

/-- Regions whose sensor is the sensor of row `k` of OD 0x2623. -/
def State.regionsOfSensor (s : State) (k : Nat) : List Nat :=
  (List.range 256).filter (fun r => sensorRow r (s.row oRegion r) == k)

/-- Store a sensor's gain with its trace; its regions' targets and corrections become UNTRACED (R363, R365). -/
def State.setGain (s : State) (k : Nat) (row : Row) : State :=
  (s.regionsOfSensor k).foldl (fun st r => st.setRow oRegionTrace r [0, 0, 0]) ((s.setRow oSensorGain k row).calChanged)

/-- The outcome of a session whose window is over (R363): `y` is REFERENCE or the reading. Without one sample in the window there is
no mean, and no gain from 0.1 to 10.0 (log entry 28). -/
def State.sessionGain (s : State) (x : RefSession) (y : Rat) : State :=
  let m := if x.count = 0 then 0 else x.sum / (x.count : Rat)
  let g := if m = 0 then 0 else y / m
  if x.fault then s.sessionDone x stTimeout
  else if 1 / 10 ≤ g ∧ g ≤ 10 then
    let s1 := s.setGain (rsSensor x.row) [toF32 g, 2, x.row.getD 5 0, x.row.getD 6 0, s.nowPt]
    s1.calStoreDue.sessionDone x stOk
  else s.sessionDone x stRange

/-- End of a session's averaging window (R362). -/
def RefSession.windowEnd (x : RefSession) : Nat := x.startAt + 100000000 + x.row.getD 7 0 * 1000000

/-- Take the end of a session's window: a METER session without its reading waits for it. -/
def State.sessionEnds (s : State) (x : RefSession) : State :=
  if x.fault then s.sessionDone x stTimeout
  else if rsMeter x.row then
    match x.reading with
    | some y => s.sessionGain x (f32 y)
    | none => s.setCal { s.cal with session := some { x with ended := true } }
  else s.sessionGain x (rsReference x.row)

/-- REF_SESSION_END (R362, R363). -/
def execRefSessionEnd (s0 : State) : State :=
  match s0.cal.session with
  | none => s0
  | some x => if x.ended then s0 else (s0.advanceTo x.windowEnd).sessionEnds x

/-- A write of OD 0x2621 (R362): the reading of a METER session, held until its window ends. -/
def writeRefReading (v : Nat) (s : State) : WRes :=
  match s.cal.session with
  | none => refuse s stState
  | some x =>
    if !rsMeter x.row then refuse s stState
    else
      let x1 := { x with reading := some v }
      if x.ended then done (s.sessionGain x1 (f32 v)) else done (s.setCal { s.cal with session := some x1 })

/-- A write of OD 0x2622 (R363). -/
def writeRefCancel (v : Nat) (s : State) : WRes :=
  match s.cal.session with
  | none => done s
  | some x => done (if v = 1 then s.sessionDone x stCancelled else s)

/-- REF_SESSION_TIMEOUT (R363): 600 s have passed without the reading. -/
def execRefSessionTimeout (s0 : State) : State :=
  match s0.cal.session with
  | none => s0
  | some x =>
    if rsMeter x.row ∧ x.reading.isNone then (s0.advanceTo (x.startAt + 600000000000)).sessionDone x stTimeout else s0

/-- A write of OD 0x2624 (R363): gain 1.0, untraced. -/
def writeGainReset (k v : Nat) (s : State) : WRes :=
  done (if v = 1 then s.setGain k [toF32 1, 0, 0, 0, s.nowPt] else s)

/-- CAL.STATUS.SESSION (R371). -/
def State.sessionCode (s : State) : Nat :=
  match s.cal.session with
  | none => 0
  | some x => if x.ended then 2 else 1

/-! ## Trace levels (R364) -/

/-- The corrections of R364 that carry a trace level. -/
inductive Traced where
  | tdc | edgeTaps (pin : Nat) | receiveTaps (pin : Nat) | sensor (row : Nat) | gaugeRef | targets (region : Nat)
  | corrections (region : Nat)
  deriving DecidableEq, Repr

/-- The level of a stored correction, 0 UNTRACED, 1 SELF, 2 TRACED, and the REF_ID it rests on (R364). -/
def State.traceOf (s : State) : Traced → Nat × Nat
  | .tdc => s.cal.tdcTrace
  | .edgeTaps p => (s.fld oCalStatus p 9, s.fld oCalStatus p 10)
  | .receiveTaps _ => (1, 0)
  | .sensor k => (s.fld oSensorGain k 1, s.fld oSensorGain k 2)
  | .gaugeRef => if s.val 0x262500 = 0 then (0, 0) else (2, s.val 0x262500)
  | .targets r => (s.fld oRegionTrace r 0, s.fld oRegionTrace r 2)
  | .corrections r => (s.fld oRegionTrace r 1, s.fld oRegionTrace r 2)

end Sys2Proof.Machine
end

