-- ==== Sys2Proof/Machine/Heads.lean ====
section
/-! DEFINITION. The heads (R133 to R145, R163 to R197, R212): commits and their validation, enabling and disabling, the cut line, the
start of vertical blanking with the cadence lock, line 0, line match, underrun and freeze detection. Egress and writeback are in
Sinks.lean. -/

namespace Sys2Proof.Machine

def oHeadEnable : Nat := 0x220200
def oCommitStatus : Nat := 0x220500
def oFreezeRegion : Nat := 0x221000
def oFreezeStatus : Nat := 0x221100
def oEgress : Nat := 0x222000
def oEgressEnable : Nat := 0x222100
def oEgressState : Nat := 0x222200
def oWback : Nat := 0x223000
def oWbackEnable : Nat := 0x223100
def oWbackState : Nat := 0x223200
def oHeadCnt : Nat := 0x422000
def oFetch : Nat := 0x212000
def oLayerRejects : Nat := 0x421000

/-- Raise the event of head h with this offset (R212). -/
def State.fire (s : State) (h off : Nat) : State := s.raise (32 + 16 * h + off)

/-- Count in column c of OD 0x4220. -/
def State.headCount (s : State) (h c : Nat) : State := s.bump oHeadCnt h c

/-! ## Projected state and what a commit carries (R137, R142) -/

/-- Commits that have been accepted and not applied, oldest first. -/
def Head.waiting (x : Head) : List Commit := x.enable.toList ++ x.queue

/-- Layer l is on head h in h's projected state (R137). -/
def State.projOn (s : State) (h l : Nat) : Bool :=
  match ((s.head h).waiting.reverse).find? (fun c => (tfind c.layers l).isSome) with
  | some c => lyHead ((tfind c.layers l).getD []) == h + 1
  | none => s.fld oLayerStatus l 0 == h + 1

/-- The timing row of h's projected state. -/
def State.projTiming (s : State) (h : Nat) : Row :=
  match (s.head h).waiting.getLast? with
  | some c => c.timing
  | none => s.row oTimingActive h

/-- Layers that a commit armed now on head h carries (R137). -/
def State.carried (s : State) (h : Nat) : List Nat :=
  (List.range 32).filter (fun l => lyHead (s.row oLayerStaged l) == h + 1 || s.projOn h l)

/-- The commit that arming on head h now makes (R137, R139, R142, R184). It holds the Folios of the layers it leaves on h (log entry
80). -/
def State.makeCommit (s : State) (h : Nat) (task : Option Nat) : Commit :=
  let ls := s.carried h
  let t := s.row oTimingStaged h
  let left := ls.filter (fun l => lyHead (s.row oLayerStaged l) == h + 1)
  let cost := fun l => if lyVisible (s.row oLayerStaged l) then s.fetchOf l (s.row oLayerStaged l) (tmHActive t) (tmVActive t) else 0
  { id := (s.fld oCommitStatus h 1 + 1) % 65536, timing := t, compose := s.row oComposeStaged h,
    layers := ls.map (fun l => (l, s.row oLayerStaged l)),
    alphas := ls.filter (fun l => tget false s.disp.alphaPending l),
    folios := (left.filter (fun l => !lyRingMode (s.row oLayerStaged l))).map (fun l => lyFolio (s.row oLayerStaged l)),
    chosen := [], fixed := false, est := (left.map cost).sum.ceil.toNat, task := task, armedAt := s.tbNow }

/-- The exact fetch estimate E of a commit (R166). -/
def State.commitFetch (s : State) (h : Nat) (c : Commit) : Rat :=
  (c.layers.map (fun e => if lyHead e.2 == h + 1 && lyVisible e.2 then s.fetchOf e.1 e.2 (tmHActive c.timing) (tmVActive c.timing) else 0)).sum

/-- The budget per line in bytes (R167, R173). -/
def fetchBudget (t : Row) : Rat := 20 * tmLine t

/-! ## Validation (R165, R171, R185) -/

/-- SRC_RANGE for one layer row. -/
def State.srcRangeBad (s : State) (v : Row) : Bool :=
  let fs := s.layerFolios v
  let f := s.row oFolio (fs.headD 0)
  decide (f.getD 2 0 < lySrcX v + lySrcW v) || decide (f.getD 3 0 < lySrcY v + lySrcH v) ||
    fs.any (fun g => ([2, 3, 4].map (fun i => s.fld oFolio g i)) != [2, 3, 4].map (fun i => f.getD i 0))

/-- A ganged even layer is active or queued (R159). -/
def State.gangedNow (s : State) (l : Nat) : Bool :=
  (s.fld oLayerStatus l 0 != 0 && lyGang (s.row oLayerActive l)) ||
  [0, 1].any (fun h => (s.head h).waiting.any (fun c =>
    match tfind c.layers l with
    | some v => lyGang v && lyHead v != 0
    | none => false))

/-- GANG_PARTNER for one carried layer. -/
def State.gangBad (s : State) (h : Nat) (e : Nat × Row) : Bool :=
  if 8 ≤ e.1 then false
  else if e.1 % 2 = 0 then
    lyGang e.2 && (s.projOn 0 (e.1 + 1) || s.projOn 1 (e.1 + 1) || lyHead (s.row oLayerStaged (e.1 + 1)) != 0)
  else lyHead e.2 == h + 1 && s.gangedNow (e.1 - 1)

/-- The reasons 1 to 8 that hold (R165), tested on the state that the commits queued leave (R135, log entry 80). -/
def State.layerReason (s : State) (h : Nat) (c : Commit) (ovr : Bool) (r : Nat) : Bool :=
  let t := c.timing
  let seen := c.layers.filter (fun e => lyVisible e.2)
  let video := seen.filter (fun e => decide (e.1 < 8))
  match r with
  | 1 => c.layers.any (fun e => lyHead e.2 == h + 1 && s.projOn (1 - h) e.1)
  | 2 => decide (16 < (c.layers.filter (fun e => lyHead e.2 == h + 1)).length)
  | 3 => video.any (fun e => decide ((if lyGang e.2 then 8192 else 4096) < visibleWidth e.1 e.2 (tmHActive t) (tmVActive t)))
  | 4 => !ovr && decide (fetchBudget t < s.commitFetch h c)
  | 5 => video.any (fun e => decide (4 * lyW e.1 e.2 < lySrcW e.2) || decide (4 * lyH e.1 e.2 < lySrcH e.2))
  | 6 => seen.any (fun e => s.srcRangeBad e.2)
  | 7 => c.layers.any (s.gangBad h)
  | 8 => video.any (fun e => (lyFilter e.2 false == 3 && !s.coeffOk e.1 false) || (lyFilter e.2 true == 3 && !s.coeffOk e.1 true))
  | _ => false

/-- Pixel clock of a timing row in Hz (R171). -/
def tmClock (v : Row) : Rat := (tmHTotal v * tmVTotal v * tmDen v : Nat) / (4 * tmNum v : Nat)

/-- The relations of R171. -/
def rasterOk (v : Row) : Bool :=
  decide (tmHActive v + 32 ≤ tmHTotal v) && decide (tmVActive v + 8 ≤ tmVTotal v) && decide ((tmLead v : Rat) < tmPeriod v) &&
    decide (25000000 ≤ tmClock v) && decide (tmClock v ≤ 600000000)

/-- A region lies inside the active area of a timing row. -/
def insideActive (t : Row) (x y w h : Nat) : Bool := decide (x + w ≤ tmHActive t) && decide (y + h ≤ tmVActive t)

/-- The timing row of head h's active area; that of the enable commit while the head is STARTING (log entry 50). -/
def State.areaTiming (s : State) (h : Nat) : Row :=
  match (s.head h).enable with
  | some c => c.timing
  | none => s.row oTimingActive h

/-- The region of head h's writeback (R207): X, Y, WIDTH, HEIGHT. -/
def State.wbRegion (s : State) (h : Nat) : Nat × Nat × Nat × Nat :=
  let v := s.row oWback h
  let f := s.ringFolio (v.getD 0 0) 0
  (v.getD 1 0, v.getD 2 0, s.fld oFolio f 2, s.fld oFolio f 3)

/-- SINK_RASTER (R185). -/
def State.sinkBad (s : State) (h : Nat) (t : Row) : Bool :=
  let p := s.projTiming h
  let e := s.row oEgress h
  let w := s.wbRegion h
  (s.feeds h && (tmHActive t != tmHActive p || tmVActive t != tmVActive p)) ||
  (s.fld oEgressState h 0 != 0 && !insideActive t (e.getD 1 0) (e.getD 2 0) (e.getD 3 0) (e.getD 4 0)) ||
  (s.fld oWbackState h 0 != 0 && !insideActive t w.1 w.2.1 w.2.2.1 w.2.2.2) ||
  (List.range 8).any (fun i =>
    let f := s.row oFreezeRegion (8 * h + i)
    f.getD 0 0 == 1 && !insideActive t (f.getD 1 0) (f.getD 2 0) (f.getD 3 0) (f.getD 4 0))

/-- The reasons 16 to 21 that hold (R185). -/
def State.headReason (s : State) (h : Nat) (c : Commit) (r : Nat) : Bool :=
  let p := s.projTiming h
  match r with
  | 16 => tmClock c.timing != tmClock p
  | 17 => [4, 5, 6, 7].any (fun i => c.timing.getD i 0 != p.getD i 0)
  | 18 => !rasterOk c.timing
  | 19 => s.sinkBad h c.timing
  | 20 => decide (4 ≤ (s.head h).queue.length)
  | 21 => s.headState h == 0 || s.headState h == 3
  | _ => false

/-- The lowest failing reason of a commit, 0 when it passes; an enable commit skips 16, 17 and 21 (R165, R179, R185). -/
def State.validate (s : State) (h : Nat) (c : Commit) (ovr enable : Bool) : Nat :=
  match [1, 2, 3, 4, 5, 6, 7, 8].find? (s.layerReason h c ovr) with
  | some r => r
  | none => (((if enable then [18, 19, 20] else [16, 17, 18, 19, 20, 21]).find? (s.headReason h c)).getD 0)

/-! ## Arming (R184 to R190) -/

/-- A rejected commit (R165, R185). -/
def State.rejectCommit (s : State) (h reason : Nat) : State :=
  let s1 := (s.setFld oCommitStatus h 3 reason).headCount h 4
  let s2 := if reason ≤ 8 then s1.bump32 oLayerRejects h (reason - 1) else s1
  s2.fire h 7

/-- An accepted commit (R139, R185, R186): its ID, and the staged ALPHAs it has copied. -/
def State.acceptCommit (s : State) (h : Nat) (c : Commit) : State :=
  let s1 := ((s.setFld oCommitStatus h 1 c.id).setFld oCommitStatus h 3 0)
  let s2 := if fetchBudget c.timing < s.commitFetch h c then s1.bump32 (if h = 0 then 0x421101 else 0x421102) 0 0 else s1
  { s2 with disp := { s2.disp with alphaPending := c.layers.foldl (fun m e => tdel m e.1) s2.disp.alphaPending } }

/-- Line time of head h's present frame: the pixel clock carries the frame's phase trim from its first blanking line on (R173, R175,
R176). -/
def State.lineTime (s : State) (h : Nat) : Rat :=
  ((s.head h).nextBlank - (s.head h).blankAt) / (((s.head h).blank + tmVActive (s.timing h) : Nat) : Rat)

/-- Start of line 0 of head h's present frame. -/
def State.lineZeroAt (s : State) (h : Nat) : Rat := (s.head h).blankAt + ((s.head h).blank : Rat) * s.lineTime h

/-- The cut instant of head h's present frame: the first clock of line V_ACTIVE - CUT_LINE (R187). -/
def State.cutAt (s : State) (h : Nat) : Rat := (s.head h).nextBlank - (tmCut (s.timing h) : Rat) * s.lineTime h

/-- The present instant lies from a cut instant up to the next line 0 (R13, R189), whether or not the commands of the two have been
given. -/
def State.cutCome (s : State) (h : Nat) : Bool :=
  let x := s.head h
  (x.inBlank && decide (s.tbNow < s.lineZeroAt h)) || (x.cutPast && !x.inBlank) || decide (s.cutAt h ≤ s.tbNow)

/-- Arm a commit on head h (R184 to R190): the reason, 0 when accepted. LAST_ARMED takes the estimate of a rejected one too (R169, log
entry 80). -/
def State.armCommit (s : State) (h : Nat) (ovr : Bool) (task : Option Nat) : Nat × State :=
  let c := s.makeCommit h task
  let s0 := s.setFld oFetch h 1 c.est
  let r := s.validate h c ovr false
  if r ≠ 0 then (r, s0.rejectCommit h r)
  else
    let x := s.head h
    let late := s.headState h == 2 && s.cutCome h && x.queue.isEmpty
    let s1 := (s0.acceptCommit h c).setHead h { x with queue := x.queue ++ [c] }
    (0, if late then (s1.headCount h 2).fire h 6 else s1)

/-- A register arm (R216, R217): its result is held in HEADx.COMMIT_RESULT. -/
def registerArm (h : Nat) (ovr : Bool) (s : State) : State :=
  let r := s.armCommit h ovr none
  let id := if r.1 = 0 then r.2.fld oCommitStatus h 1 else 0
  r.2.setHead h { r.2.head h with result := id * 65536 + r.1 * 256 + 1 }

/-- A write of row h of OD 0x2204 (R184, R185). -/
def writeCommitArm (h v : Nat) (s : State) : WRes :=
  let r := s.armCommit h (v.testBit 0) none
  if r.1 = 0 then done r.2 else { refuse r.2 (if r.1 = 20 then stResource else stState) with st := r.2 }

/-! ## Enabling and disabling (R178 to R183) -/

/-- Nearest target index to an instant of the timebase; at equal distance the later one (R176). -/
def nearestTarget (t : Row) (b : Rat) : Nat :=
  (roundHalfUp ((b + (tmLead t : Rat) - ((tmCadence t).epoch : Rat)) / tmPeriod t)).toNat

/-- Target F_k of a timing row, ns of the timebase (R174). -/
def targetAt (t : Row) (k : Nat) : Int := ((tmCadence t).tick k : Int) - (tmLead t : Int)

/-- Start head h on its staged rows (R179): the reason, 0 when accepted. The first blanking line falls on the first target at or
after 2 ms from now, and the raster runs as if it had done so before. -/
def State.startHead (s : State) (h : Nat) : Nat × State :=
  let c := s.makeCommit h none
  let s0 := s.setFld oFetch h 1 c.est
  let r := s.validate h c false true
  if r ≠ 0 then (r, s0.rejectCommit h r)
  else
    let k := (tmCadence c.timing).first ((s.tbNow + 2000000 + (tmLead c.timing : Rat)).ceil.toNat)
    let x := s0.head h
    let b : Rat := ((targetAt c.timing k : Int) : Rat)
    let x1 := { x with enable := some c, queue := [], latched := false, stopped := false, inBlank := false, cutPast := false,
                       frameDone := true, blankAt := b - tmPeriod c.timing, blank := tmVTotal c.timing - tmVActive c.timing,
                       nextBlank := b, underruns := [] }
    let s1 := ((s0.acceptCommit h c).setHead h x1).setFld oHeadState h 0 1
    (0, s1.pendingRuns h)

/-- Discard the queued commits of head h (R180). -/
def State.discardQueue (s : State) (h : Nat) : State :=
  let q := (s.head h).queue
  let s1 := s.setHead h { s.head h with queue := [] }
  q.foldl (fun st c => (st.headCount h 5).completeOpt c.task stCancelled) s1

/-- Head h is DISABLED (R180, R181, R311): a latched enable is validated. -/
def State.headDisabled (s : State) (h : Nat) : State :=
  let x := s.head h
  let s1 := ((s.setHead h { x with enable := none, stopped := false, inBlank := false, cutPast := false, latched := false }).setFld
    oHeadState h 0 0).drainCheck
  if x.latched then (s1.startHead h).2 else s1

/-- The raster of head h stops (R180): it waits for its writeback's writes, if any. -/
def State.stopHead (s : State) (h : Nat) : State :=
  let x := s.head h
  if x.wback.busy.isSome then (s.setHead h { x with stopped := true }).setFld oHeadState h 0 3 else s.headDisabled h

/-- A write of row h of OD 0x2202 (R179 to R182). -/
def writeHeadEnable (h v : Nat) (s : State) : WRes :=
  let x := s.head h
  let kept := fun (t : State) => t.setFld oHeadEnable h 0 v
  match s.headState h, v with
  | 0, 1 =>
    let r := s.startHead h
    if r.1 = 0 then done (kept r.2) else { refuse r.2 stState with st := r.2 }
  | 0, _ => done (kept s)
  | 3, 1 => done (kept (s.setHead h { x with latched := true }))
  | 3, _ => done (kept (s.setHead h { x with latched := false }))
  | _, 1 => done (kept s)
  | st, _ =>
    if s.feeds h then refuse s stState
    else
      let s1 := kept (s.discardQueue h)
      if st = 1 then done (s1.headDisabled h)
      else if x.inBlank then done (s1.stopHead h)
      else done (s1.setFld oHeadState h 0 3)

/-! ## The cut line (R143, R144, R187) -/

/-- A commit of head h meets R144 at the cut instant t: a fence counts with its value from before an advance of that instant (R97). -/
def State.commitReady (s : State) (h : Nat) (t : Rat) (c : Commit) : Bool :=
  c.layers.all (fun e =>
    (lyWaitFence e.2 == 0xFF || reached (s.fenceSeen (lyWaitFence e.2) (t * 65536000000000).ceil) (lyWaitValue e.2)) &&
    (!(lyVisible e.2 && lyRingMode e.2 && lyHead e.2 == h + 1) || (s.newest (lyRing e.2)).isSome))

/-- Fix a commit: ring-mode layers choose their Folio (R143). -/
def State.fixCommit (s : State) (h : Nat) (c : Commit) : Commit :=
  let pick := fun (e : Nat × Row) =>
    if lyRingMode e.2 && lyHead e.2 == h + 1 then (s.newest (lyRing e.2)).map (fun k => (e.1, s.ringFolio (lyRing e.2) k)) else none
  { c with fixed := true, chosen := c.layers.filterMap pick }

/-- The walk of R187 at the cut instant t: the commits after it, and whether one was held. It ends at a commit armed at or after that
instant (R13, R189). -/
def State.walk (s : State) (h : Nat) (t : Rat) : List Commit → List Commit × Bool
  | [] => ([], false)
  | c :: cs =>
    if t ≤ c.armedAt then (c :: cs, false)
    else if c.fixed || s.commitReady h t c then
      let r := s.walk h t cs
      ((if c.fixed then c else s.fixCommit h c) :: r.1, r.2)
    else (c :: cs, true)

/-- The walk of head h's queue for its cut instant. -/
def State.cutNow (s : State) (h : Nat) : State :=
  let x := s.head h
  let r := s.walk h (s.cutAt h) x.waiting
  let x1 := match x.enable, r.1 with
    | some _, c :: cs => { x with enable := some c, queue := cs, cutPast := true }
    | _, cs => { x with queue := cs, cutPast := true }
  let s1 := s.setHead h x1
  if r.2 then (s1.headCount h 3).fire h 8 else s1

/-- The raster of head h runs towards a cut line. -/
def State.beforeCut (s : State) (h : Nat) : Bool :=
  let x := s.head h
  (s.headState h == 1 || s.headState h == 2) && !x.cutPast && !x.inBlank

/-- CUT_LINE (R179, R187). -/
def execCutLine (h : Nat) (s0 : State) : State :=
  if 2 ≤ h || !s0.beforeCut h then s0
  else
    (s0.advanceTb (s0.cutAt h)).cutNow h

/-! ## Applying a commit (R138, R139, R188) -/

/-- One carried layer comes into force. -/
def State.applyLayer (s : State) (h : Nat) (c : Commit) (e : Nat × Row) : State :=
  let l := e.1
  let v := if c.alphas.contains l then e.2 else e.2.set 20 (lyAlpha (s.row oLayerActive l))
  let on := lyHead e.2 == h + 1
  let folio := if !on then 0xFF else if lyRingMode e.2 then tget 0xFF c.chosen l else lyFolio e.2
  let cost := if lyVisible e.2 && on then (s.fetchOf l e.2 (tmHActive c.timing) (tmVActive c.timing)).ceil.toNat else 0
  let old := s.row oLayerStatus l
  (s.setRow oLayerActive l v).setRow oLayerStatus l (rput ((rput (rput old 0 (if on then h + 1 else 0)) 1 folio)) 4 cost)

/-- A commit applies. -/
def State.applyCommit (s : State) (h : Nat) (c : Commit) : State :=
  let s1 := c.layers.foldl (fun st e => st.applyLayer h c e) s
  let s2 := (s1.setRow oComposeActive h c.compose).setRow oTimingActive h c.timing
  let s3 := (s2.setFld oFetch h 0 c.est).setFld oFetch h 2 (fetchBudget c.timing).floor.toNat
  ((s3.setFld oCommitStatus h 2 c.id).headCount h 1).completeOpt c.task stOk

/-! ## Vertical blanking (R163, R164, R174 to R177, R188, R197) -/

/-- Round to the nearest integer, ties away from zero. -/
def roundAway (q : Rat) : Int := if q < 0 then -(roundHalfUp (-q)) else roundHalfUp q

/-- What R176 computes at the start of a first blanking line: error in ns, lines, blanking lines, trim. -/
structure LineLock where
  err   : Int
  n     : Int
  blank : Nat
  trim  : Rat

/-- R176 for a first blanking line that starts at b, with slew bound ppm. -/
def lineLock (t : Row) (b : Rat) (ppm : Nat) : LineLock :=
  let e : Int := (tickUp b.ceil.toNat : Int) - targetAt t (nearestTarget t b)
  let n := clampI (-4) 4 (roundAway ((e : Rat) / tmLine t))
  let r := (e : Rat) - (n : Rat) * tmLine t
  let bound : Rat := (ppm : Rat) / 1000000
  { err := e, n := n, blank := (((tmVTotal t - tmVActive t : Nat) : Int) - n).toNat, trim := clampR (-bound) bound (r / tmPeriod t) }

/-- Take the lock's outcome (R176, R177): the state of CADENCE_LOCK, event CADENCE_UNLOCK at a change, and the raster of the frame
that follows. -/
def State.lockFrame (s : State) (h : Nat) : State :=
  let x := s.head h
  let t := s.timing h
  let b := x.nextBlank
  let k := lineLock t b s.time.slewPpm
  let locked := decide (k.err.natAbs < 1000)
  let was := s.fld oCadenceLock h 0 == 1
  let zero := b + (k.blank : Rat) * tmLine t
  let s1 := s.setRow oCadenceLock h [b2n locked, satI 32 k.err, ofI 8 k.n, ofI 32 (roundHalfUp (k.trim * 1000000000))]
  let s2 := s1.setHead h { x with blankAt := b, blank := k.blank,
                                  nextBlank := zero + (tmVActive t : Rat) * tmLine t - k.trim * tmPeriod t }
  if locked != was then (s2.headCount h 7).fire h 10 else s2

/-- One freeze region's update (R197). -/
def State.freezeOne (s : State) (h i : Nat) : State :=
  let r := 8 * h + i
  let v := s.row oFreezeRegion r
  match tfind (s.head h).sigs i with
  | none => s
  | some sig =>
    if v.getD 0 0 = 0 then s
    else
      let old := s.row oFreezeStatus r
      let adv := s.fence (v.getD 5 0) != tget 0 (s.head h).freezeFence (v.getD 5 0)
      let c := if sig ≠ old.getD 0 0 then 0 else if adv then min (old.getD 1 0 + 1) 255 else old.getD 1 0
      let was := old.getD 2 0 == 1
      let frozen := if was then c != 0 else decide (v.getD 6 0 ≤ c)
      let s1 := s.setRow oFreezeStatus r [sig, c, b2n frozen]
      let s2 := if frozen && !was then s1.headCount h 8 else s1
      if frozen != was then s2.fire h 9 else s2

/-- The freeze regions at a start of blanking; the fences are noted for the next one. -/
def State.freezeAll (s : State) (h : Nat) : State :=
  let s1 := (List.range 8).foldl (fun st i => st.freezeOne h i) s
  s1.setHead h { s1.head h with sigs := [], freezeFence := (tget [] s1.od oFence).map (fun e => (e.1, e.2.getD 0 0)) }

/-- The plane alphas of head h's layers for the coming frame (R163, R164, R311). -/
def State.takeAlphas (s : State) (h : Nat) : State :=
  ((List.range 32).filter (fun l => s.fld oLayerStatus l 0 == h + 1)).foldl
    (fun st l => (st.setFld oLayerStatus l 2 (st.sample 1 l)).sampled 1 l) s

/-- FRAME advances and VBLANK_START is raised (R188, R213). -/
def State.countFrame (s : State) (h : Nat) : State :=
  ((s.setFld oCommitStatus h 4 ((s.fld oCommitStatus h 4 + 1) % 2 ^ 32)).headCount h 0).fire h 0

/-- The Collator's frame is complete on the Spine; it keeps whether the head is UNLOCKED (R389). -/
def State.collBlanked (s : State) (h : Nat) (unlocked : Bool) : State :=
  let s1 := s.collBlank h
  match (s1.collOf h).frame with
  | none => s1
  | some f => s1.setColl h { s1.collOf h with frame := some { f with unlocked := unlocked } }

/-- One line of head h's Spine as R, G and B words. -/
def State.spineLine (s : State) (h y : Nat) : List Nat :=
  (List.range (tmHActive (s.timing h))).flatMap (fun x =>
    let p := s.spine h x y
    [toF16 p.r, toF16 p.g, toF16 p.b])

/-- Keep the last three lines of the frame that has left the Spine, and what their packets still need, while egress sends it (R198,
R200, R202, R203). -/
def State.keepTail (s : State) (h : Nat) : State :=
  let n := tmVActive (s.timing h)
  if (s.head h).egress.sending then
    s.setHead h { s.head h with tail := ((List.range n).drop (n - 3)).map (fun y => (y, s.spineLine h y)),
                                tailPrim := s.fld oComposeActive h 0, tailTarget := nearestTarget (s.timing h) (s.head h).nextBlank }
  else s

/-- The start of vertical blanking of an ENABLED head, or of a STARTING head whose enable commit is fixed. -/
def State.blankRuns (sp : State) (h : Nat) : State :=
  let s0 := sp.keepTail h
  let x := s0.head h
  let due := x.waiting.filter (fun c => c.fixed)
  let s := s0.setHead h { x with enable := none, queue := x.queue.filter (fun c => !c.fixed), inBlank := true }
  let lk := lineLock (s0.timing h) x.nextBlank s0.time.slewPpm
  let s1 := s.collBlanked h (decide (1000 ≤ lk.err.natAbs))
  let s2 := (due.foldl (fun st c => st.applyCommit h c) s1).setFld oHeadState h 0 2
  let s3 := s2.countFrame h
  let s4 := if due.isEmpty then s3 else s3.fire h 5
  ((s4.lockFrame h).takeAlphas h).freezeAll h |>.drainCheck

/-- VBLANK_START at the present instant. -/
def State.blankNow (s : State) (h : Nat) : State :=
  let x := s.head h
  match s.headState h, x.enable with
  | 1, some c =>
    if c.fixed then s.blankRuns h
    else
      let s1 := s.lockFrame h
      s1.setHead h { s1.head h with cutPast := false }
  | 3, _ =>
    let lk := lineLock (s.timing h) x.nextBlank s.time.slewPpm
    let s1 := (((((s.keepTail h).collBlanked h (decide (1000 ≤ lk.err.natAbs))).countFrame h).takeAlphas h).freezeAll h)
    let s2 := s1.lockFrame h
    (s2.setHead h { s2.head h with inBlank := true }).stopHead h
  | _, _ => s.blankRuns h

/-! ## The end of the active picture (R196, R209, R212) -/

/-- One component of a region pixel as a Folio code of n bits (R200, R207). -/
def wbCode (v : Row) (ch n : Nat) (l : Rat) : Nat :=
  encodeCode (v.getD 3 0) (v.getD 4 0) ch 0 (2 ^ n - 1) (2 ^ n - 1) (encodeTransfer (v.getD 3 0) (v.getD 4 0) l)

/-- A writeback pixel as a Folio word: the alpha field all ones; the pad of a format without one is free (log entry 16). -/
def wbWord (v : Row) (format pad : Nat) (p : Rgba) : Nat :=
  let n := if format ≤ 3 then 8 else 10
  let top := 32 - 3 * n
  let a := if format = 3 ∨ format = 5 then 2 ^ top - 1 else pad % 2 ^ top
  ((a * 2 ^ n + wbCode v 0 n p.r) * 2 ^ n + wbCode v 1 n p.g) * 2 ^ n + wbCode v 2 n p.b

/-- Write the frame's region into its Folio (R209). -/
def State.writeBackFrame (s : State) (h : Nat) : State :=
  match (s.head h).wback.busy with
  | none => s
  | some (k, _) =>
    let v := s.row oWback h
    let f := s.row oFolio (s.ringFolio (v.getD 0 0) k)
    let (pad, s1) := s.drawNat
    let line := fun (j : Nat) => (List.range (f.getD 2 0)).flatMap (fun i =>
      leBytes 4 (wbWord v (f.getD 4 0) pad (s.spine h (v.getD 1 0 + i) (v.getD 2 0 + j))))
    let s2 := (List.range (f.getD 3 0)).foldl (fun st j => st.dramPut (f.getD 0 0 + j * f.getD 1 0) (line j)) s1
    let x := s2.head h
    s2.setHead h { x with wback := { x.wback with written := true } }

/-- Signatures of the enabled freeze regions (R196). -/
def State.frameSigs (s : State) (h : Nat) : Tbl Nat :=
  (List.range 8).filterMap (fun i =>
    let v := s.row oFreezeRegion (8 * h + i)
    if v.getD 0 0 = 1 then some (i, s.signature h (v.getD 1 0) (v.getD 2 0) (v.getD 3 0) (v.getD 4 0)) else none)

/-- Head h has fetched words of an integrity page that is not valid in this frame. -/
def State.fetchesInvalid (s : State) (h : Nat) : Bool :=
  !s.regions.isEmpty && (s.stack h).any (fun l =>
    let f := s.row oFolio (s.fld oLayerStatus l 1)
    (List.range (cdiv (f.getD 1 0 * f.getD 3 0) 512)).any (fun i => match s.dramPage (f.getD 0 0 + 512 * i) with
      | some p => !s.pageValid p
      | none => false))

/-- Count them: how many a head fetches is open (R541, log entry 31). -/
def State.countFetched (s : State) (h : Nat) : State :=
  if s.fetchesInvalid h then ({ s with freeIdx := s.freeIdx + 1 }).add 0x431000 1 6 (Config.fetchedWords s.freeIdx) else s

/-- FRAME_DONE at the present instant. -/
def State.frameDoneNow (s : State) (h : Nat) : State :=
  let s1 := (s.countFetched h).writeBackFrame h
  let x := s1.head h
  (s1.setHead h { x with frameDone := true, sigs := s.frameSigs h, windowW := max x.windowW (tmHActive (s.timing h)) }).fire h 3

/-- The active picture of head h is being scanned. -/
def State.scanning (s : State) (h : Nat) : Bool :=
  let x := s.head h
  (s.headState h == 2 || s.headState h == 3) && !x.stopped && !x.inBlank

/-- FRAME_DONE (R212): the last active pixel is placed. -/
def execFrameDone (h : Nat) (s0 : State) : State :=
  if 2 ≤ h || !s0.scanning h || (s0.head h).frameDone then s0
  else
    let t := s0.timing h
    let at_ := s0.lineZeroAt h + (((tmVActive t - 1 : Nat) : Rat) + ((tmHActive t - 4 : Nat) : Rat) / (tmHTotal t : Rat)) * s0.lineTime h
    (s0.advanceTb at_).frameDoneNow h

/-- VBLANK_START (R172, R179, R180, R188): the first clock of line V_ACTIVE. The cut line and the end of the picture come before it
in every frame, whether or not their commands have been given. -/
def execVblankStart (h : Nat) (s0 : State) : State :=
  let x := s0.head h
  if 2 ≤ h || s0.headState h = 0 || x.stopped || x.inBlank then s0
  else
    let sa := if s0.beforeCut h then execCutLine h s0 else s0
    let sb := if sa.scanning h && !(sa.head h).frameDone then execFrameDone h sa else sa
    (sb.advanceTb (sb.head h).nextBlank).blankNow h

/-! ## Line match and underrun (R192 to R194) -/

/-- The raster of head h runs (R172, R179, R180). -/
def State.rasterRuns (s : State) (h : Nat) : Bool := (s.headState h == 1 || s.headState h == 2 || s.headState h == 3) && !(s.head h).stopped

/-- Lines since line 0 of head h's present frame, negative in the blanking before it. -/
def State.lineIndex (s : State) (h : Nat) : Int := ((s.tbNow - s.lineZeroAt h) / s.lineTime h).floor

/-- The line that head h's raster is in (R172): blanking lines count on from V_ACTIVE. Before the first blanking line of its record a
STARTING head's raster runs as in the frames before it (R179). -/
def State.lineNow (s : State) (h : Nat) : Int :=
  let t := s.timing h
  let b : Int := (s.head h).blank
  let i := s.lineIndex h
  if 0 ≤ i then i
  else if -b ≤ i then (tmVActive t : Int) + b + i
  else ((tmVActive t : Int) + b + i) % (tmVTotal t : Int)

/-- Head h is in vertical blanking. -/
def State.inBlanking (s : State) (h : Nat) : Bool :=
  if s.rasterRuns h then decide ((tmVActive (s.timing h) : Int) ≤ s.lineNow h) else (s.head h).inBlank

/-- Start of line `l` of head h in its present run, if it is still to come. -/
def State.lineStart (s : State) (h l : Nat) : Option Rat :=
  let x := s.head h
  let t := s.timing h
  let at_ := if tmVActive t ≤ l then x.blankAt + ((l - tmVActive t : Nat) : Rat) * s.lineTime h else s.lineZeroAt h + (l : Rat) * s.lineTime h
  let reached := (decide (tmVActive t ≤ l) && decide (l < tmVActive t + x.blank) && s.inBlanking h) ||
    (decide (l < tmVActive t) && (s.headState h == 1 || !x.inBlank))
  if reached && decide (s.tbNow < at_ + 2) then some at_ else none

/-- LINE_MATCH (R194): a line begins. -/
def execLineMatch (h l : Nat) (s0 : State) : State :=
  if 2 ≤ h || !s0.rasterRuns h then s0
  else match s0.lineStart h l with
    | none => s0
    | some at_ =>
      if at_ ≤ (s0.head h).lineAt then s0 else
      let sa := s0.advanceTb at_
      let s := sa.setHead h { sa.head h with lineAt := at_ }
      let hit := fun (w : Nat) => bit w 15 && bits w 12 0 == l
      let s1 := if hit (s.head h).match0 then s.fire h 1 else s
      if hit (s.head h).match1 then s1.fire h 2 else s1

/-- UNDERRUN (R192, R193): the pixel at (line, column) and the rest of its line take the background. -/
def execUnderrun (h l col : Nat) (s0 : State) : State :=
  let t := s0.timing h
  if 2 ≤ h || !s0.scanning h || tmVActive t ≤ l || tmHActive t ≤ col then s0
  else
    let s := s0.advanceTb (s0.lineZeroAt h + ((l : Rat) + (col : Rat) / (tmHTotal t : Rat)) * s0.lineTime h)
    let x := s.head h
    let s1 := s.setHead h { x with underruns := x.underruns ++ [(l, col)] }
    let s2 := if x.underruns.any (fun u => u.1 == l) then s1 else s1.headCount h 6
    if x.underruns.isEmpty then s2.fire h 4 else s2

/-! ## Row writes (R136, R170, R195) -/

/-- A write of OD 0x2100 (R136, R139, R140). -/
def writeLayer (l : Nat) (v : Row) (s : State) : WRes :=
  if lyGang v ∧ ¬(l < 8 ∧ l % 2 = 0) then refuse s stRange
  else
    let changed := lyAlpha v != lyAlpha (s.row oLayerStaged l)
    let s1 := s.setRow oLayerStaged l v
    done (if changed then { s1 with disp := { s1.disp with alphaPending := tset false s1.disp.alphaPending l true } } else s1)

/-- A write of OD 0x2200 (R170): NUM and DEN as R66. -/
def writeTiming (h : Nat) (v : Row) (s : State) : WRes :=
  if cadenceOk (tmNum v) (tmDen v) then done (s.setRow oTimingStaged h v) else refuse s stRange

/-- A write of OD 0x2210 (R195). -/
def writeFreeze (r : Nat) (v : Row) (s : State) : WRes :=
  if v.getD 0 0 = 1 ∧ !insideActive (s.areaTiming (r / 8)) (v.getD 1 0) (v.getD 2 0) (v.getD 3 0) (v.getD 4 0) then refuse s stState
  else done (s.setRow oFreezeRegion r v)

end Sys2Proof.Machine
end

