-- ==== Sys2Proof/Machine/Sinks.lean ====
section
/-! DEFINITION. Raster egress and writeback (R198 to R211), line 0 of a head, and the end of a head's drain. -/

namespace Sys2Proof.Machine

/-! ## The egress encoder and packets (R200 to R203) -/

def egX (v : Row) : Nat := v.getD 1 0
def egY (v : Row) : Nat := v.getD 2 0
def egW (v : Row) : Nat := v.getD 3 0
def egH (v : Row) : Nat := v.getD 4 0
def egSampling (v : Row) : Nat := v.getD 5 0
def egFull (v : Row) : Bool := v.getD 6 0 == 1
def egTransfer (v : Row) : Nat := v.getD 7 0
def egRef (v : Row) : Nat := v.getD 8 0

/-- Pixels of a full packet (R202). -/
def egPixels (sampling : Nat) : Nat := match sampling with
  | 0 => 480
  | 1 => 400
  | _ => 320

/-- Luma and the two colour differences of an encoded pixel, the matrix of R110 inverted. -/
def toYc (canvas : Nat) (r g b : Rat) : Rat × Rat × Rat :=
  let a : Rat := if canvas = 0 then 15748 / 10000 else 14746 / 10000
  let d : Rat := if canvas = 0 then 18556 / 10000 else 18814 / 10000
  let kb : Rat := if canvas = 0 then 1873 / 10000 else 16455 / 100000
  let kr : Rat := if canvas = 0 then 4681 / 10000 else 57135 / 100000
  let y := (g + kb * b / d + kr * r / a) / (1 + kb / d + kr / a)
  (y, (b - y) / d, (r - y) / a)

/-- Code range of an RGB or luma component: low, high and the greatest code. -/
def rgbRange (full : Bool) (n : Nat) : Int × Int × Int :=
  let top : Int := 2 ^ n - 1
  if full then (0, top, top) else if n = 8 then (16, 235, top) else (64, 940, top)

/-- The encoded components of Spine pixel (x, y): of the frame being scanned, or once it has left the Spine as it was kept (R198). -/
def State.egressPixel (s : State) (h : Nat) (v : Row) (x y : Nat) : Rat × Rat × Rat :=
  let f := encodeTransfer (egTransfer v) (egRef v)
  if s.scanning h then
    let p := s.spine h x y
    (f p.r, f p.g, f p.b)
  else
    let ws := (tget [] (s.head h).tail y).drop (3 * x)
    (f (f16 (ws.getD 0 0)), f (f16 (ws.getD 1 0)), f (f16 (ws.getD 2 0)))

/-- Canvas primaries of the frame that egress sends (R200). -/
def State.egressPrim (s : State) (h : Nat) : Nat := if s.scanning h then s.fld oComposeActive h 0 else (s.head h).tailPrim

/-- One RGB code. -/
def egCode (v : Row) (n ch : Nat) (c : Rat) : Nat :=
  let r := rgbRange (egFull v) n
  encodeCode (egTransfer v) (egRef v) ch r.1 r.2.1 r.2.2 c

/-- A colour-difference code. -/
def egChroma (v : Row) (ch : Nat) (c : Rat) : Nat :=
  let w : Int := if egFull v then 1023 else 896
  encodeCode (egTransfer v) (egRef v) ch 512 (512 + w) 1023 c

/-- Bytes of samples of 10 bits, most significant bit first. -/
def pack10 (xs : List Nat) : List Byte :=
  beBytes (xs.length * 10 / 8) (xs.foldl (fun a x => a * 1024 + x) 0)

/-- The pixel group that begins at region column `i` of region line `j` (R107, R200). A pixel beyond the region's last column, in a
group that the region does not fill, takes the free code `pad`. -/
def State.egressGroup (s : State) (h : Nat) (v : Row) (pad i j : Nat) : List Byte :=
  let at_ := fun (k : Nat) => s.egressPixel h v (egX v + i + k) (egY v + j)
  match egSampling v with
  | 0 =>
    let a := toYc (s.egressPrim h) (at_ 0).1 (at_ 0).2.1 (at_ 0).2.2
    let b := toYc (s.egressPrim h) (at_ 1).1 (at_ 1).2.1 (at_ 1).2.2
    pack10 [egChroma v 3 ((a.2.1 + b.2.1) / 2), egCode v 10 5 a.1, egChroma v 4 ((a.2.2 + b.2.2) / 2), egCode v 10 5 b.1]
  | 1 => [egCode v 8 0 (at_ 0).1, egCode v 8 1 (at_ 0).2.1, egCode v 8 2 (at_ 0).2.2].map (BitVec.ofNat 8)
  | _ => pack10 ((List.range 4).flatMap (fun k =>
      if egW v ≤ i + k then List.replicate 3 (pad % 1024)
      else [egCode v 10 0 (at_ k).1, egCode v 10 1 (at_ k).2.1, egCode v 10 2 (at_ k).2.2]))

/-- Target index of the first blanking line of the frame that egress sends. -/
def State.frameTarget (s : State) (h : Nat) : Nat :=
  if s.scanning h then nearestTarget (s.timing h) (s.head h).nextBlank else (s.head h).tailTarget

/-- RTP timestamp (R202): the 90 kHz count of t_(k-1). -/
def State.egressStamp (s : State) (h : Nat) : Nat :=
  let c := tmCadence (s.timing h)
  ((c.epoch * c.den + (s.frameTarget h - 1) * c.num * 1000000000) * 9 / (100000 * c.den)) % 2 ^ 32

/-- Destination MAC address (R201): the group address of a multicast DST_IP when DST_MAC is zero. -/
def egressMac (v : Row) : Nat := if v.getD 9 0 = 0 then 0x01005E000000 + v.getD 10 0 % 2 ^ 23 else v.getD 9 0

/-- An egress packet (R202): RTP header, extended sequence number, one SRD and the pixel groups. -/
def State.egressFrame (s : State) (h : Nat) (v : Row) (pad line offset : Nat) : TxFrame :=
  let sp := egSampling v
  let n := min (egPixels sp) (egW v - offset)
  let groups := cdiv n (groupPixels sp)
  let last := line + 1 == egH v && decide (egW v ≤ offset + n)
  let seq := (s.head h).egress.seq
  let data := (List.range groups).flatMap (fun g => s.egressGroup h v pad (offset + g * groupPixels sp) line)
  { kind := .egress, dstMac := egressMac v, dstIp := v.getD 10 0, dstUdp := v.getD 12 0, vid := v.getD 13 0, pcp := v.getD 14 0,
    srcUdp := v.getD 11 0, dscp := v.getD 15 0,
    bytes := beBytes 1 0x80 ++ beBytes 1 (v.getD 17 0 + 128 * b2n last) ++ beBytes 2 (seq % 65536) ++ beBytes 4 (s.egressStamp h) ++
      beBytes 4 (v.getD 18 0) ++ beBytes 2 (seq / 65536) ++ beBytes 2 data.length ++ beBytes 2 line ++ beBytes 2 offset ++ data }

/-! ## Egress (R204 to R206) -/

def State.setEgress (s : State) (h : Nat) (e : Egress) : State := s.setHead h { s.head h with egress := e }

/-- Line rate of a trunk (R590). -/
def State.lineRate (s : State) (p : Nat) : Nat :=
  if (if s.portState p = 0 then s.fld oPort p 0 else (s.port p).mode) = 0 then 25000000000 else 10000000000

/-- The rate test of R204, with the timing row in force (log entry 50). -/
def State.egressFits (s : State) (h : Nat) : Bool :=
  let v := s.row oEgress h
  let t := s.row oTimingActive h
  let b := match egSampling v with
    | 0 => 20
    | 1 => 24
    | _ => 30
  decide (egW v * egH v * b * tmDen t * 1080 ≤ 900 * s.lineRate (v.getD 0 0) * tmNum t)

/-- Enable egress (R202, R204, R206): its extended sequence number starts at 0. -/
def State.egressOn (s : State) (h : Nat) : Nat × State :=
  if s.egressFits h then (stOk, (s.setEgress h Egress.init).setFld oEgressState h 0 1) else (stResource, s)

/-- Egress is DISABLED; a latched enable is tested (R206). -/
def State.egressOff (s : State) (h : Nat) : State :=
  let e := (s.head h).egress
  let s1 := (s.setEgress h Egress.init).setFld oEgressState h 0 0
  if e.latched then (s1.egressOn h).2 else s1

/-- A write of OD 0x2221 (R204, R206). -/
def writeEgressEnable (h v : Nat) (s : State) : WRes :=
  let e := (s.head h).egress
  let kept := fun (t : State) => t.setFld oEgressEnable h 0 v
  match s.fld oEgressState h 0, v with
  | 0, 1 =>
    let r := s.egressOn h
    if r.1 = stOk then done (kept r.2) else refuse s r.1
  | 1, 0 => done (kept (if e.sending then s.setFld oEgressState h 0 2 else s.egressOff h))
  | 2, x => done (kept (s.setEgress h { e with latched := x == 1 }))
  | _, _ => done (kept s)

/-- A write of OD 0x2220 (R201, R206): W even for YCBCR422_10, and a DST_MAC for a unicast DST_IP. -/
def writeEgress (h : Nat) (v : Row) (s : State) : WRes :=
  if (egSampling v = 0 ∧ egW v % 2 = 1) ∨ (v.getD 9 0 = 0 ∧ v.getD 10 0 / 2 ^ 28 ≠ 14) then refuse s stRange
  else if s.fld oEgressState h 0 ≠ 0 then refuse s stState
  else done (s.setRow oEgress h v)

/-- EGRESS_PACKET (R202, R203, R205): the packet of region line `line` that begins at column `offset`. Once the frame has left the Spine
only packets of its last three lines are still to leave (R203); a drop after the head has stopped raises no event (R180). -/
def execEgressPacket (h line offset : Nat) (s0 : State) : State :=
  let v := s0.row oEgress h
  let e := (s0.head h).egress
  if 2 ≤ h || s0.fld oEgressState h 0 = 0 || !e.sending || egH v ≤ line || egW v ≤ offset || offset % egPixels (egSampling v) ≠ 0 ||
      (!s0.scanning h && (tfind (s0.head h).tail (egY v + line)).isNone) then s0
  else
    let t := s0.timing h
    let n := min (egPixels (egSampling v)) (egW v - offset)
    let passed := s0.lineZeroAt h + (((egY v + line : Nat) : Rat) + ((egX v + offset + n : Nat) : Rat) / (tmHTotal t : Rat)) * s0.lineTime h
    let s1 := if s0.scanning h then s0.advanceTb passed else s0
    let (pad, s) := s1.drawNat
    let p := v.getD 0 0
    let q := 8 * p + v.getD 16 0
    let f := s.egressFrame h v pad line offset
    let sent := s.offer p (v.getD 16 0) f
    let stored := decide ((s.queue q).length < (sent.queue q).length) && ((sent.queue q).getLast?.map (fun k => !k.aborted)).getD false
    let e1 := { e with seq := (e.seq + 1) % 2 ^ 32, fault := e.fault || !stored,
                       sending := !(line + 1 == egH v && decide (egW v ≤ offset + n)) }
    let s2 := sent.setEgress h e1
    let s3 := if stored then s2 else s2.headCount h 9
    let s4 := if !stored && !e.fault && s3.rasterRuns h then s3.fire h 11 else s3
    if !e1.sending ∧ s4.fld oEgressState h 0 = 2 then s4.egressOff h else s4

/-! ## Writeback (R207 to R211) -/

def State.setWback (s : State) (h : Nat) (w : Writeback) : State := s.setHead h { s.head h with wback := w }

/-- Producer code of head h's writeback (OD 0x2011). -/
def wbProducer (h : Nat) : Nat := 2 + h

/-- The conditions of R208. -/
def State.wbackReady (s : State) (h : Nat) : Bool :=
  let v := s.row oWback h
  let r := v.getD 0 0
  let fs := s.ringFolios r
  let f := s.row oFolio (fs.headD 0)
  let w := s.wbRegion h
  let fence := f.getD 5 0
  fs.all (fun g => [2, 3, 4, 5].all (fun i => s.fld oFolio g i == f.getD i 0)) && decide (2 ≤ f.getD 4 0) && fence != 0xFF &&
    insideActive (s.areaTiming h) w.1 w.2.1 w.2.2.1 w.2.2.2 &&
    (s.producer fence == 0 || s.producer fence == wbProducer h)

/-- Enable writeback (R95, R208). -/
def State.wbackOn (s : State) (h : Nat) : Nat × State :=
  if s.wbackReady h then
    let fence := s.ringFence (s.fld oWback h 0)
    (stOk, ((s.setWback h Writeback.init).setFld oWbackState h 0 1).setFld oProducer fence 0 (wbProducer h))
  else (stState, s)

/-- Writeback is DISABLED: its fence returns to the host, and a latched enable is tested (R95, R206, R211). -/
def State.wbackOff (s : State) (h : Nat) : State :=
  let w := (s.head h).wback
  let fence := s.ringFence (s.fld oWback h 0)
  let s1 := ((s.setWback h Writeback.init).setFld oWbackState h 0 0).setFld oProducer fence 0 0
  if w.latched then (s1.wbackOn h).2 else s1

/-- A write of OD 0x2231 (R208, R211). -/
def writeWbackEnable (h v : Nat) (s : State) : WRes :=
  let w := (s.head h).wback
  let kept := fun (t : State) => t.setFld oWbackEnable h 0 v
  match s.fld oWbackState h 0, v with
  | 0, 1 =>
    let r := s.wbackOn h
    if r.1 = stOk then done (kept r.2) else refuse s r.1
  | 1, 0 => done (kept (if w.busy.isSome then s.setFld oWbackState h 0 2 else s.wbackOff h))
  | 2, x => done (kept (s.setWback h { w with latched := x == 1 }))
  | _, _ => done (kept s)

/-- A write of OD 0x2230 (R211). -/
def writeWback (h : Nat) (v : Row) (s : State) : WRes :=
  if s.fld oWbackState h 0 ≠ 0 then refuse s stState else done (s.setRow oWback h v)

/-- An enabled or draining writeback uses ring r (R211). -/
def State.wbackRing (s : State) (r : Nat) : Bool := [0, 1].any (fun h => s.fld oWbackState h 0 != 0 && s.fld oWback h 0 == r)

/-- An enabled or draining writeback uses Folio row f. -/
def State.wbackFolio (s : State) (f : Nat) : Bool := (List.range 32).any (fun r => s.wbackRing r && (s.ringFolios r).contains f)

/-- The frame being written is abandoned (R210). -/
def State.wbackAbandon (s : State) (h : Nat) : State :=
  let w := (s.head h).wback
  let s1 := s.setWback h { w with busy := none, written := false }
  if s1.fld oWbackState h 0 = 2 then s1.wbackOff h else s1

/-- Event and count of an overrun. -/
def State.wbackOverrun (s : State) (h : Nat) : State := (s.headCount h 11).fire h 13

/-- Writeback at line 0 (R209, R210). -/
def State.wbackLineZero (s : State) (h : Nat) : State :=
  let s1 := if (s.head h).wback.busy.isSome then (s.wbackOverrun h).wbackAbandon h else s
  if s1.fld oWbackState h 0 ≠ 1 then s1
  else
    let r := s1.fld oWback h 0
    match s1.selectEntry r with
    | none => s1.wbackOverrun h
    | some k => let s2 := s1.takeEntry r k
                s2.setWback h { (s2.head h).wback with busy := some (k, s2.now), written := false }

/-- A written frame is readable (R105, R209): its fence advances and its history entry is written, with RTP_TIMESTAMP 0. -/
def State.wbackComplete (s : State) (h : Nat) : State :=
  match (s.head h).wback.busy with
  | none => s
  | some (k, first) =>
    let r := s.fld oWback h 0
    let fence := s.ringFence r
    let s1 := s.advanceFence fence
    let s2 := s1.setRow oHistory (4 * r + k) [1, s1.fence fence, 0, nsPt first, s1.nowPt]
    let s3 := s2.setWback h { (s2.head h).wback with busy := none, written := false }
    s3.headCount h 10

/-- WRITEBACK_DONE (R209). -/
def execWritebackDone (h : Nat) (s : State) : State :=
  let x := s.head h
  if 2 ≤ h || x.stopped || x.wback.busy.isNone || !x.wback.written then s
  else
    let s1 := (s.wbackComplete h).fire h 12
    if s1.fld oWbackState h 0 = 2 then s1.wbackOff h else s1

/-- HEAD_DRAIN_DONE (R180): the writes of a DRAINING head's last frame are in DRAM; no head event is raised any more. -/
def execHeadDrainDone (h : Nat) (s : State) : State :=
  if 2 ≤ h || s.headState h ≠ 3 || !(s.head h).stopped then s
  else
    let s1 := s.wbackComplete h
    let s2 := if s1.fld oWbackState h 0 = 2 then s1.wbackOff h else s1
    s2.headDisabled h

/-! ## Line 0 (R206, R209, R223, R234) -/

/-- Egress at line 0. -/
def State.egressLineZero (s : State) (h : Nat) : State :=
  if s.fld oEgressState h 0 = 1 then s.setEgress h { (s.head h).egress with sending := true, fault := false } else s

/-- LINE_ZERO (R172, R198): the first clock of line 0. -/
def execLineZero (h : Nat) (s0 : State) : State :=
  if 2 ≤ h || s0.headState h ≠ 2 || !(s0.head h).inBlank then s0
  else
    let z := s0.lineZeroAt h
    let s := s0.advanceTb z
    let x := s.head h
    let s1 := s.setHead h { x with inBlank := false, cutPast := false, frameDone := false, underruns := [],
                                   shot := some { od := s.od, dram := s.dram } }
    ((s1.egressLineZero h).wbackLineZero h).collLineZero h z x.nextBlank

end Sys2Proof.Machine
end

