-- ==== Sys2Proof/Machine/Integ.lean ====
section
/-! DEFINITION. Memory integrity and arbitration (R531 to R558): the outcome of the two codes on a page with given flips, the
counts and the log, the scrubbers, the integrity reset, and an arbitration window. -/

namespace Sys2Proof.Machine

def oIntegCnt : Nat := 0x431000
def oScrub : Nat := 0x311300

def State.setInteg (s : State) (x : Integ) : State := { s with integ := x }

/-! ## The two codes (R536, R540) -/

/-- A word after its light check: what is left of its flips, and whether the light code corrected it. -/
inductive WordState where
  | erased
  | left (d : BitVec 64) (corrected : Bool)
  deriving DecidableEq, Repr

/-- Both codes are linear: flips act alone (R535, R536). -/
def wordCheck (w : WordFlips) : WordState :=
  match lightDecode w.data w.check.toNat with
  | .clean => .left w.data false
  | .checkBit => .left w.data true
  | .dataBit i => .left (w.data ^^^ BitVec.ofNat 64 (2 ^ i)) true
  | .uncorrectable => .erased

/-- Byte j of a word. -/
def laneByte (d : BitVec 64) (j : Nat) : Nat := bits d.toNat (8 * j + 7) (8 * j)

/-- What a page decode finds: erased words, light-corrected words, symbols in error (word and lane) and check symbols in error. -/
structure PageFind where
  erased  : List Nat
  light   : List Nat
  symbols : List (Nat × Nat)
  checks  : List (Nat × Nat)

/-- The find of a page's valid words and check symbols; a check symbol is numbered 8k + lane. -/
def pageFind (words : List WordFlips) (checks : List (Nat × Nat)) : PageFind :=
  let st := words.map (fun w => (w.word, wordCheck w))
  { erased := (st.filter (fun e => e.2 == .erased)).map (fun e => e.1)
    light := (st.filter (fun e => match e.2 with
      | .left _ c => c
      | .erased => false)).map (fun e => e.1)
    symbols := st.flatMap (fun e => match e.2 with
      | .left d _ => ((List.range 8).filter (fun j => laneByte d j != 0)).map (fun j => (e.1, j))
      | .erased => [])
    checks := checks.filter (fun c => decide (c.1 < 64) && c.2 % 256 != 0) }

/-- R540: 2e + f at most 8 in every lane. -/
def PageFind.ok (x : PageFind) : Bool :=
  (List.range 8).all (fun j =>
    decide (2 * ((x.symbols.filter (fun e => e.2 == j)).length + (x.checks.filter (fun c => c.1 % 8 == j)).length) + x.erased.length ≤ 8))

/-- The page code has something to repair. -/
def PageFind.decodes (x : PageFind) : Bool := !(x.erased.isEmpty && x.symbols.isEmpty && x.checks.isEmpty)

/-! ## Pages -/

/-- Address of a page: Vault address, or DRAM byte address of page P of the regions in force. -/
def State.pageAt (s : State) (mem page : Nat) : Option Nat :=
  if mem = 0 then (if page < 49152 then some (vaultBase + 512 * page) else none)
  else pageAddr s.regions page

/-- Word w of a page is valid (R541). -/
def State.wordValid (s : State) (mem page w : Nat) : Bool :=
  decide (w < 64) && (if mem = 0 then s.vValid (512 * page + 8 * w) else s.pageValid page)

/-! ## Counting and the log (R550 to R552) -/

/-- A correction is remembered for the marks of the twin signatures, 2 s long: no window of R389 is longer. -/
def State.remember (s : State) (mem addr : Nat) : State :=
  let x := s.integ
  s.setInteg { x with recent := (mem, addr, s.now) :: x.recent.filter (fun e => decide (s.now ≤ e.2.2 + 2000000000)) }

/-- The entry of a correction is added to the log (R551). -/
def State.logAdd (s : State) (mem addr kind src : Nat) : State :=
  let x := s.integ
  let same := fun (e : Row) => e.getD 0 0 == mem && e.getD 1 0 == addr && e.getD 2 0 == kind
  let fresh : Row := [mem, addr, kind, src, 1, s.nowPt, s.nowPt]
  if x.log.any same then
    s.setInteg { x with log := x.log.map (fun e => if same e then rput (rput e 4 ((e.getD 4 0 + 1) % 2 ^ 32)) 6 s.nowPt else e) }
  else if x.log.length < 16 then s.setInteg { x with log := x.log ++ [fresh] }
  else
    let oldest := (x.log.map (fun e => e.getD 6 0)).foldl min (2 ^ 80)
    let i := x.log.findIdx (fun e => e.getD 6 0 == oldest)
    ((s.setInteg { x with log := x.log.set i fresh }).bump oIntegCnt mem 7).raise 18

/-- Corrections of the current second against RATE_LIMIT (R552). -/
def State.rateCount (s : State) : State :=
  let x := s.integ
  let sec := s.now / 1000000000
  let n := if x.rateAt = sec then x.rateN + 1 else 1
  let s1 := s.setInteg { x with rateAt := sec, rateN := n }
  let lim := s.val 0x310400
  if lim ≠ 0 ∧ lim < n then s1.raiseOnce 20 20 sec else s1

/-- One correction of a kind (1 LIGHT, 2 ERASURE, 3 SYMBOL, 4 CHECK): its counts, its log entry, its event. -/
def State.corrected (s : State) (mem addr src kind : Nat) : State :=
  let s1 := ((s.bump oIntegCnt mem (kind - 1)).remember mem addr).logAdd mem addr kind src
  let s2 := if kind = 1 then s1.setInteg { s1.integ with light := (s1.integ.light + 1) % 2 ^ 64 } else s1
  (s2.raiseMs (if kind = 1 then 16 else 17)).rateCount

/-- Every correction of a repaired page, in word order (R550). -/
def State.repaired (s : State) (mem base src : Nat) (x : PageFind) : State :=
  let s1 := x.light.foldl (fun st w => st.corrected mem (base + 8 * w) src 1) s
  let s2 := x.erased.foldl (fun st w => st.corrected mem (base + 8 * w) src 2) s1
  let s3 := x.symbols.foldl (fun st e => st.corrected mem (base + 8 * e.1) src 3) s2
  let s4 := x.checks.foldl (fun st _ => st.corrected mem base src 4) s3
  if x.decodes then
    (s4.setInteg { s4.integ with page := (s4.integ.page + 1) % 2 ^ 64 }).bump oIntegCnt mem 4
  else s4

/-- An uncorrectable page starts the integrity reset; a second failure adds nothing (R553, R554). Accesses to the page are abandoned. -/
def State.integrityReset (s : State) (mem addr rank : Nat) : State :=
  if s.power.recording ∧ s.aon.cause = 4 then s
  else
    let s1 := s.requestReset 4 mem addr rank
    s1.setInteg { s1.integ with failed := some (mem, addr) }

/-- Check and repair a page (R540, R543, R547). -/
def State.checkPage (s : State) (mem page base src : Nat) (words : List WordFlips) (checks : List (Nat × Nat)) : State :=
  let x := pageFind (words.filter (fun w => s.wordValid mem page w.word)) checks
  if x.ok then s.repaired mem base src x else s.integrityReset mem base src

/-- PAGE_DECODE (R540, R543): started by an uncorrectable word that a reader of the given rank met. Data delivered and kept is the
corrected data, so contents do not change. Once a decode has failed, another is abandoned and logs nothing (R546). -/
def execPageDecode (mem page : Nat) (words : List WordFlips) (checks : List (Nat × Nat)) (rank : Nat) (s : State) : State :=
  if s.power.inReset || decide (1 < mem) || s.integ.failed.isSome then s
  else match s.pageAt mem page with
    | none => s
    | some base => s.checkPage mem page base rank words checks

/-! ## The scrubbers (R547 to R549) -/

def State.scrub (s : State) (mem : Nat) : Scrub := if mem = 0 then s.integ.scrubV else s.integ.scrubD

def State.setScrub (s : State) (mem : Nat) (x : Scrub) : State :=
  if mem = 0 then s.setInteg { s.integ with scrubV := x } else s.setInteg { s.integ with scrubD := x }

/-- Pass period asked for: OD 0x3103 for the Vault, OD 0x3102 for DRAM. -/
def State.passPeriod (s : State) (mem : Nat) : Nat := s.val (if mem = 0 then 0x310300 else 0x310200)

/-- The next visit instant (R548). -/
def Scrub.next (x : Scrub) : Scrub :=
  let q := x.passS * 1000000000 / x.pages
  let r := x.passS * 1000000000 % x.pages
  if x.pages ≤ x.rem + r then { x with nextAt := x.nextAt + q + 1, rem := x.rem + r - x.pages }
  else { x with nextAt := x.nextAt + q, rem := x.rem + r }

/-- A scrubber starts: its first visit is one interval after the start of full service (log entry 34). -/
def State.startScrub (s : State) (mem pages : Nat) : State :=
  if pages = 0 then s.setScrub mem Scrub.init
  else s.setScrub mem ({ running := true, pages := pages, passS := s.passPeriod mem, nextAt := s.now, rem := 0 } : Scrub).next

/-- Visits that are due and not made (BEHIND_PAGES of OD 0x3113). -/
def State.behind (s : State) (mem : Nat) : Nat :=
  let x := s.scrub mem
  if x.running ∧ x.nextAt ≤ s.now then ((s.now - x.nextAt + 1) * x.pages - x.rem - 1) / (x.passS * 1000000000) + 1 else 0

/-- The end of a visit: the next page, or the end of the pass (R547 to R549). -/
def State.scrubNext (s : State) (mem page : Nat) : State :=
  let x := s.scrub mem
  if page + 1 < x.pages then (s.setFld oScrub mem 0 (page + 1)).setScrub mem x.next
  else
    let row := s.row oScrub mem
    let s1 := s.setRow oScrub mem (rput (rput (rput row 0 0) 1 ((row.getD 1 0 + 1) % 2 ^ 32)) 2 s.nowPt)
    (s1.setScrub mem ({ x with passS := s.passPeriod mem } : Scrub).next).raise 19

/-- SCRUB_VISIT (R547): the page of a visit that is due is read, checked and repaired. An invalid DRAM page keeps its place and is
not read. -/
def execScrubVisit (mem : Nat) (words : List WordFlips) (checks : List (Nat × Nat)) (s0 : State) : State :=
  let x := s0.scrub mem
  if !s0.full || decide (1 < mem) || !x.running || s0.integ.failed.isSome then s0
  else
    let s := s0.advanceTo x.nextAt
    let page := s.fld oScrub mem 0
    match s.pageAt mem page with
    | none => s.scrubNext mem page
    | some base =>
      if mem = 1 ∧ !s.pageValid page then s.scrubNext mem page
      else ((s.bump oIntegCnt mem 5).checkPage mem page base 0 words checks).scrubNext mem page

/-- A write of OD 0x3111 (R551). -/
def writeLogClear (v : Nat) (s : State) : WRes := done (if v = 1 then s.setInteg { s.integ with log := [] } else s)

/-! ## Arbitration (R555 to R557) -/

/-- Guaranteed bytes of a consumer in a window (R555). -/
def guaranteed (rank : Nat) : Nat := match rank with
  | 2 => 2520
  | 3 => 20000
  | 6 => 20000
  | 7 => 6250
  | 8 => 9600
  | 9 => 2000
  | _ => 0

/-- Insert a demand by rank, after those of the same rank. -/
def insertDemand (d : Demand) : List Demand → List Demand
  | [] => [d]
  | e :: es => if d.rank < e.rank then d :: e :: es else e :: insertDemand d es

/-- The first pass in rank order: each demand with what it is served of its guarantee, and what is left. -/
def firstPass : Nat → List Demand → List (Demand × Nat) × Nat
  | left, [] => ([], left)
  | left, d :: ds =>
    let n := min left (min d.bytes (guaranteed d.rank))
    let r := firstPass (left - n) ds
    ((d, n) :: r.1, r.2)

/-- The second pass: the remaining demand in rank order. -/
def secondPass : Nat → List (Demand × Nat) → List (Demand × Nat)
  | _, [] => []
  | left, e :: es =>
    let n := min left (e.1.bytes - e.2)
    (e.1, e.2 + n) :: secondPass (left - n) es

/-- Demands in rank order. -/
def byRank (demands : List Demand) : List Demand := demands.foldl (fun acc d => insertDemand d acc) []

/-- What each demand of a window is served in both passes (R555). -/
def servedBytes (delivered : Nat) (demands : List Demand) : List (Demand × Nat) :=
  let r := firstPass delivered (byRank demands)
  secondPass r.2 r.1

/-- Consumers that give way: less than the smaller of demand and guarantee (R556). What the second pass serves beyond a guarantee
changes nothing of it. -/
def giveWays (delivered : Nat) (demands : List Demand) : List Demand :=
  (((firstPass delivered (byRank demands)).1).filter (fun e => decide (e.2 < min e.1.bytes (guaranteed e.1.rank)))).map (fun e => e.1)

/-- Ingest gives way: a VIDEO flow with an open frame whose queue stands at its LIMIT closes the frame (R119). -/
def State.ingestYields (s : State) : State :=
  ((s.liveFlows.filter (fun r => fwType (s.flowRow r) == 1 && (s.flow r).frame.isSome &&
      decide (s.fld oPoolQueue (fwQueue (s.flowRow r)) 2 ≤ s.qCount (fwQueue (s.flowRow r)))))).foldl State.yieldFlow s

/-- What giving way does to one consumer (R557): an abandoned writeback frame is an overrun (R210), but no head event once the head has
stopped (R180). -/
def State.giveWay (s : State) (d : Demand) : State :=
  match d.rank with
  | 7 => s.ingestYields
  | 8 =>
    if (s.head d.unit_).wback.busy.isSome then
      (if s.rasterRuns d.unit_ then s.wbackOverrun d.unit_ else s.headCount d.unit_ 11).wbackAbandon d.unit_
    else s
  | _ => s

/-- What the window served, and with it whether the telemetry store goes on or is held (R555, R557). -/
def State.windowServed (s : State) (delivered : Nat) (demands : List Demand) : State :=
  let served := servedBytes delivered demands
  let held := served.any (fun e => e.1.rank == 10 && decide (0 < e.1.bytes) && e.2 == 0)
  let s1 := s.setInteg { s.integ with served := served.map (fun e => (e.1.rank, e.2)) }
  if held then s1.setInteg { s1.integ with bulkHeld := true } else s1.teleRelease

/-- ARBITRATION_WINDOW (R555 to R557). -/
def execArbitrationWindow (delivered : Nat) (demands : List Demand) (s0 : State) : State :=
  let ws := giveWays delivered demands
  let s := if s0.full then s0.windowServed delivered demands else s0
  if !s.full || ws.isEmpty then s
  else
    let s1 := (List.range 10).foldl (fun st i => if ws.any (fun d => d.rank == i + 1) then st.bump 0x431100 i 0 else st) s
    let s2 := s1.setInteg { s1.integ with giveway := (s1.integ.giveway + 1) % 2 ^ 64 }
    (ws.foldl State.giveWay s2).raiseMs 22

/-- REFRESH_RATE_CHANGE (R556, R558). -/
def execRefreshRateChange (rate : Nat) (s : State) : State :=
  if s.power.inReset || s.integ.training ≠ 2 || decide (2 < rate) || s.integ.refresh == rate then s
  else (s.setInteg { s.integ with refresh := rate }).raise 23

/-- DRAM_STATE (R635, R636, R693): training completes or fails. -/
def execDramState (ok : Bool) (gib channels : Nat) (s : State) : State :=
  if s.power.inReset || s.full || !s.timeRuns || s.integ.training == 2 then s
  else
    let good := ok && (gib == 2 || gib == 4 || gib == 8) && channels == 15
    (s.setInteg { s.integ with training := if good then 2 else 3, gib := if good then gib else 0, channels := channels % 16 }).raise 23

end Sys2Proof.Machine
end

