-- ==== Sys2Proof/Machine/Ports.lean ====
section
/-! DEFINITION. The four ports (R588 to R624): enabling and draining, links, reception with its filter, classification and relay,
transmission, pause, ARP and the ring. -/

namespace Sys2Proof.Machine

def oRingStatus : Nat := 0x141600
def oPortRow : Nat := oPort

/-- Port p is a trunk. -/
def isTrunk (p : Nat) : Bool := decide (p < 2)

/-- Duration of `n` bit times on port p, in ns rounded up (R608, R609). -/
def State.bitTimes (s : State) (p n : Nat) : Nat :=
  let rate := if isTrunk p then (if (s.port p).mode = 0 then 25000000000 else 10000000000) else 1000000000
  cdiv (n * 1000000000) rate

/-! ## State changes (R591 to R594) -/

/-- Change a port's state: event of the port (R620). -/
def State.setPortState (s : State) (p st : Nat) : State := (s.setFld oPortState p 0 st).portEvent p

/-- Change a port's link (R590, R620). -/
def State.setLink (s : State) (p : Nat) (up : Bool) : State :=
  if s.linkUp p = up then s
  else
    let row := rput (rput (s.row oPortState p) 1 (b2n up)) 4 s.nowPt
    ((s.setRow oPortState p row).bump oPortCnt p 23).portEvent p

/-- The port becomes ENABLED: MODE, FEC, AUTONEG and MAX_FRAME take effect (R591). -/
def State.portOn (s : State) (p : Nat) : State :=
  let v := s.row oPort p
  (s.setPort p { s.port p with latched := false, mode := v.getD 0 0, fec := if isTrunk p then v.getD 1 0 else 0, autoneg := v.getD 2 0, maxFrame := v.getD 3 0 }).setPortState p 1

/-- The port begins to drain (R592). -/
def State.portDrain (s : State) (p : Nat) : State :=
  (s.setPort p { s.port p with latched := false, drainAt := s.now }).setPortState p 2

/-- Bring a port to what its row of OD 0x1411 asks (R591, R593). In Berm service C0 and C1 are enabled whatever it holds (R624), and T0
and T1 by it, for PTP only (R635, R637, log entry 59). -/
def State.portTurn (s : State) (p : Nat) : State :=
  let want := (s.berm && decide (2 ≤ p)) || s.fld oPortEnable p 0 == 1
  match s.portState p, want with
  | 0, true => s.portOn p
  | 1, false => s.portDrain p
  | 2, w => if (s.port p).latched = w then s else s.setPort p { s.port p with latched := w }
  | _, _ => s

/-- Every port at once: a write that did not come over EOP (R591). -/
def State.portsTurn (s : State) : State := [0, 1, 2, 3].foldl State.portTurn s

/-- A port through which an answer is still to be queued waits for it (R594, log entry 86). -/
def State.portSettle (s : State) (p : Nat) : State := if s.eop.held.any (fun h => h.port == p) then s else s.portTurn p

/-- All four ports. -/
def State.portsSettle (s : State) : State := [0, 1, 2, 3].foldl State.portSettle s

/-- The write came over EOP (R594). -/
def overEop : Origin → Bool
  | .openSession _ => true
  | .sealedSession _ => true
  | _ => false

/-- A write of OD 0x1411 (R591, R594): over EOP its effect waits for the answer. -/
def writePortEnable (p v : Nat) (s : State) : WRes := done (s.setFld oPortEnable p 0 v)

/-- A write of OD 0x1410 (R588, R598, R610). -/
def writePort (p : Nat) (v : Row) (s : State) : WRes :=
  if (isTrunk p ∧ v.getD 1 0 = 2 ∧ v.getD 0 0 = 1) ∨ v.getD 10 0 ≤ v.getD 9 0 then refuse s stRange
  else if isTrunk p ∧ (s.val 0x110004).testBit p ∧ v.getD 3 0 < 8890 then refuse s stState
  else done ((s.setRow oPort p v).pauseGen p)

/-- The check of a write of OD 0x1100.04 (R598). -/
def eopPortsOk (v : Nat) (s : State) : Bool := [0, 1].all (fun p => !v.testBit p || decide (8890 ≤ s.fld oPort p 3))

/-- Transmit queues of port p. -/
def txQueues (p : Nat) : List Nat := (List.range 8).map (fun k => 8 * p + k)

/-- All transmit queues of port p are empty. -/
def State.txEmpty (s : State) (p : Nat) : Bool := (txQueues p).all (fun q => (s.queue q).isEmpty)

/-- Free every frame still held by a port's transmit queues, counted as TX_DROPPED_STATE (R592). -/
def State.txPurge (s : State) (p : Nat) : State :=
  (txQueues p).foldl (fun st q =>
    let n := (st.queue q).length
    if n = 0 then st else ((List.range n).foldl (fun u _ => u.portErr p 19) (st.setQueue q []))) s

/-- PORT_DRAIN_DONE (R592, R593): the queues are empty, or 10 ms have passed. -/
def execPortDrainDone (p : Nat) (s0 : State) : State :=
  if 4 ≤ p || s0.portState p ≠ 2 then s0
  else
    let s := if s0.txEmpty p then s0 else (s0.advanceTo ((s0.port p).drainAt + 10000000)).txPurge p
    let again := (s.port p).latched
    let s1 := ((s.setLink p false).setPort p { s.port p with latched := false }).setPortState p 0
    if again then s1.portOn p else s1

/-! ## ARP (R603) -/

/-- An ARP message of the node. -/
def arpBytes (p op senderIp targetMac targetIp : Nat) : List Byte :=
  beBytes 2 1 ++ beBytes 2 0x0800 ++ [6#8, 4#8] ++ beBytes 2 op ++ beBytes 6 (macOf p) ++ beBytes 4 senderIp ++
    beBytes 6 targetMac ++ beBytes 4 targetIp

/-- EOP_PORTS in force; in Berm service only C0 and C1 count (R703). -/
def State.eopPorts (s : State) : Nat := if s.berm then 0x0C &&& s.val 0x110004 else s.val 0x110004

/-- An ARP request for the node's address is answered on the requester's VLAN. -/
def State.arpHeard (s : State) (p target senderMac senderIp vid : Nat) : State :=
  if s.eopPorts.testBit p ∧ target = s.val 0x110101 then
    s.offer p 6 { kind := .arp, dstMac := senderMac, dstIp := 0, dstUdp := 0, vid := vid, pcp := s.ctlPcp p,
                  bytes := arpBytes p 2 (s.val 0x110101) senderMac senderIp }
  else s

/-- A gratuitous ARP (R603). -/
def State.arpAnnounce (s : State) (p : Nat) : State :=
  if s.eopPorts.testBit p then
    s.offer p 6 { kind := .arp, dstMac := 0xFFFFFFFFFFFF, dstIp := 0, dstUdp := 0, vid := s.ctlVid p, pcp := s.ctlPcp p,
                  bytes := arpBytes p 1 (s.val 0x110101) 0 (s.val 0x110101) }
  else s

/-- ARP_REQUEST (R603). -/
def execArpRequest (p target senderMac senderIp vid : Nat) (s : State) : State :=
  if 4 ≤ p || !s.timeRuns || s.portState p ≠ 1 then s else s.arpHeard p target senderMac senderIp vid

/-- LINK_CHANGE (R589, R590, R603). -/
def execLinkChange (p : Nat) (up : Bool) (speed : Nat) (s : State) : State :=
  if 4 ≤ p || !s.timeRuns || s.portState p = 0 then s
  else
    let slow := decide (2 ≤ p) && (s.port p).mode == 1 && up && (speed == 10 || speed == 100)
    let s1 := if slow then s.portErr p 13 else s
    let on := up && !slow
    let s2 := s1.setLink p on
    if on && !s.linkUp p then s2.arpAnnounce p else s2

/-! ## Pause (R608 to R610) -/

/-- The partner's pause window is running. -/
def State.pausedNow (s : State) (p : Nat) : Bool := (s.port p).paused && decide (s.now < (s.port p).pausedUntil)

/-- A valid pause frame whose last byte is now (R608, R609). -/
def State.pauseHeard (s : State) (p quanta : Nat) : State :=
  let s0 := s.bump oPortCnt p 12
  if s.fld oPort p 7 = 0 then s0
  else
    let was := s0.pausedNow p
    let on := decide (0 < quanta)
    let s1 := (s0.setPort p { s0.port p with paused := on, pausedUntil := s0.now + s0.bitTimes p (quanta * 512) }).setFld oPortState p 2 (b2n on)
    if on && !was then s1.portEvent p else s1

/-- PAUSE_FRAME (R608); in Berm service a trunk drops it as it drops every frame but PTP (R637). -/
def execPauseFrame (p at_ quanta : Nat) (s0 : State) : State :=
  let s := s0.advanceTo at_
  if 4 ≤ p || !s.timeRuns || s.portState p ≠ 1 then s
  else if s.berm && isTrunk p then s.portErr p 9
  else s.pauseHeard p (quanta % 65536)

/-- PAUSE_WINDOW_END (R609). -/
def execPauseWindowEnd (p : Nat) (s0 : State) : State :=
  if 4 ≤ p || !(s0.port p).paused then s0
  else
    let s := s0.advanceTo (s0.port p).pausedUntil
    (s.setPort p { s.port p with paused := false }).setFld oPortState p 2 0

/-- PAUSE_REPEAT (R610): half the window after the last pause, the count still below XON_CELLS. -/
def execPauseRepeat (p : Nat) (s0 : State) : State :=
  if 4 ≤ p || s0.fld oPortState p 3 = 0 then s0
  else
    let s := s0.advanceTo ((s0.port p).pauseAgain + s0.bitTimes p (s0.fld oPort p 11 * 256))
    if s.sharedFree < s.fld oPort p 10 then
      let x := s.port p
      s.setPort p { x with pauseTx := x.pauseTx ++ [s.fld oPort p 11], pauseAgain := s.now }
    else s.pauseGen p

/-! ## Transmit (R605, R607, R610, R573) -/

/-- The transmit queue that the port serves next. -/
def State.nextTx (s : State) (p : Nat) : Option Nat :=
  ([7, 6, 5, 4, 3, 2, 1, 0].map (fun k => 8 * p + k)).find? (fun q => !(s.queue q).isEmpty)

/-- A pause frame of the port. -/
def pauseTxFrame (q : Nat) : TxFrame :=
  { kind := .pause, dstMac := 0x0180C2000001, dstIp := 0, dstUdp := 0, vid := 0, pcp := 0,
    bytes := beBytes 2 1 ++ beBytes 2 q ++ List.replicate 42 0#8 }

/-- A Delay_Req leaves port p: servo d notes its timestamp, at the first bit after the start-frame delimiter (R42). -/
def State.stampDelayReq (s : State) (d p : Nat) (f : TxFrame) : State :=
  match (s.servo d).delayTx with
  | some (q, n, none) =>
    if f.kind = .delayReq ∧ q = p ∧ f.bytes = delayReqBytes (s.val (oDomain d 1)) n then
      s.setServo d { s.servo d with delayTx := some (q, n, some (s.now + s.bitTimes p 64)) }
    else s
  | _ => s

/-- A frame goes onto the wire. -/
def State.wire (s0 : State) (p : Nat) (f : TxFrame) : State :=
  let s := (s0.stampDelayReq 0 p f).stampDelayReq 1 p f
  let s1 := s.setPort p { s.port p with wire := some (s.now, f) }
  (s1.bump oPortCnt p 14).add oPortCnt p 15 (f.stored + 4)

/-- FRAME_TRANSMIT (R605 to R610, R573, R580): at a frame boundary the port sends its next frame. -/
def execFrameTransmit (p : Nat) (s : State) : State :=
  if 4 ≤ p || s.portState p = 0 || (isTrunk p && !s.linkUp p) then s
  else match (s.port p).pauseTx with
    | q :: qs => ((s.setPort p { s.port p with pauseTx := qs }).wire p (pauseTxFrame q)).bump oPortCnt p 16
    | [] =>
      if s.pausedNow p then s
      else match s.nextTx p with
        | none => s
        | some q =>
          match s.dequeue q with
          | (some k, s1) =>
            match k.tx with
            | some f =>
              if k.aborted then (s1.setPort p { s1.port p with wire := some (s1.now, f.cut (256 * k.cells)) }).portErr p 17 else s1.wire p f
            | none => s1
          | (none, s1) => s1

/-! ## Reception (R595 to R602, R611 to R614) -/

/-- What the MAC reads from a frame. -/
structure Head16 where
  dst    : Nat
  src    : Nat
  tagged : Bool
  vid    : Nat
  pcp    : Nat
  etype  : Nat
  /-- bytes after the length/type field -/
  body   : List Byte
  /-- the frame breaks R601 -/
  unsupported : Bool

/-- Read a frame's addresses, tag and type (R601). -/
def readHead (bs : List Byte) (dfltPcp : Nat) : Head16 :=
  let w := fun (i n : Nat) => beNat ((bs.drop i).take n)
  let tagged := w 12 2 == 0x8100
  let et := if tagged then w 16 2 else w 12 2
  { dst := w 0 6, src := w 6 6, tagged := tagged, vid := if tagged then w 14 2 % 4096 else 0,
    pcp := if tagged then w 14 2 / 8192 else dfltPcp, etype := et, body := bs.drop (if tagged then 18 else 14),
    unsupported := w 12 2 == 0x88A8 || (tagged && et == 0x8100) || decide (et ≤ 0x05DC) }

/-- Greatest length of a frame that port p accepts (R595). -/
def State.rxTop (s : State) (p : Nat) (tagged : Bool) : Nat :=
  if isTrunk p then (if tagged then min ((s.port p).maxFrame + 4) 9600 else (s.port p).maxFrame) else if tagged then 1522 else 1518

/-- Column of the first check of R596 that a frame fails. -/
def State.rxFault (s : State) (p : Nat) (f : EthFrame) (tagged : Bool) : Option Nat :=
  let len := f.bytes.length + 4
  if len ≤ 63 then some 5 else if s.rxTop p tagged < len then some 6 else if !f.fcsOk then some 7 else if !f.symbolOk then some 8 else none

/-- The group address of a multicast IPv4 address. -/
def groupMac (ip : Nat) : Nat := 0x01005E000000 + ip % 2 ^ 23

def bcast : Nat := 0xFFFFFFFFFFFF
def probeMac : Nat := 0x034749520001

/-- A time domain names the port. -/
def State.ptpPort (s : State) (p : Nat) : Bool := [0, 1].any (fun d => (s.val (oDomain d 3)).testBit p)

/-- The address filter (R600). -/
def State.passes (s : State) (p dst : Nat) : Bool :=
  dst == bcast || dst == 0x0180C2000001 ||
  ((dst == 0x011B19000000 || dst == 0x01005E000181) && s.ptpPort p) ||
  s.liveFlows.any (fun r =>
    let v := s.flowRow r
    v.getD 4 0 / 2 ^ 28 == 14 && (fwPorts v).testBit p && dst == groupMac (v.getD 4 0)) ||
  (List.range (s.rowCount 0x141300)).any (fun i => s.fld 0x141300 i 0 == dst && (s.fld 0x141300 i 1).testBit p) ||
  (!isTrunk p && dst == probeMac) || dst == macOf p

/-- What becomes of a frame addressed to the node, before any queue (R86 to R88, R602). -/
inductive Local where
  | pause (q : Nat)
  | unsupported
  | arp
  | probe
  | ipError
  | udpError
  | unmatched
  | discard
  | ptpOther
  | flow (r : Nat)
  | cores
  deriving DecidableEq, Repr

/-- A PTP message type that R45 lists. -/
def ptpKnown (t : Nat) : Bool := t == 0 || t == 8 || t == 9 || t == 11

/-- Local handling of an IPv4 packet (R86 to R88). Unicast and peer delay PTP messages are no feature of R45: dropped and counted. -/
def State.classifyIp (s : State) (p : Nat) (h : Head16) : Local :=
  let b := h.body
  let ihl := (b.headD 0#8).toNat % 16 * 4
  let w := fun (i n : Nat) => beNat ((b.drop i).take n)
  let len := w 2 2
  let udp := w 9 1 == 17
  let seg := (b.drop ihl).take (len - ihl)
  let pseudo := (b.drop 12).take 8 ++ [0#8, 17#8] ++ beBytes 2 seg.length
  if onesSum (b.take ihl) ≠ 0xFFFF ∨ w 6 2 % 0x4000 ≠ 0 then .ipError
  else if udp && beNat ((seg.drop 6).take 2) != 0 && onesSum (pseudo ++ seg) != 0xFFFF then .udpError
  else
    let port := if udp then beNat ((seg.drop 2).take 2) else 0
    match s.matchFlow { port := p, vlan := h.vid, etype := 0x0800, dst := w 16 4, src := w 12 4, udp := port } with
    | some r =>
      if fwType (s.flowRow r) = 4 ∧ !ptpKnown (((seg.drop 8).headD 0#8).toNat % 16) then .ptpOther else .flow r
    | none => if udp && (port == 319 || port == 320) && (w 16 4 == s.val 0x110101 || w 16 4 == 0xE000006B) then .ptpOther
              else if udp then .unmatched else .discard

/-- Local handling of a frame (R602). -/
def State.classify (s : State) (p : Nat) (h : Head16) : Local :=
  if h.etype = 0x8808 then
    if h.dst = 0x0180C2000001 ∧ beNat (h.body.take 2) = 1 then .pause (beNat ((h.body.drop 2).take 2)) else .unsupported
  else if h.etype = 0x0800 then s.classifyIp p h
  else if h.etype = 0x0806 then .arp
  else if h.etype = 0x88B5 then .probe
  else match s.matchFlow { port := p, vlan := h.vid, etype := h.etype, dst := 0, src := 0, udp := 0 } with
    | some r => if fwType (s.flowRow r) = 4 ∧ !ptpKnown ((h.body.headD 0#8).toNat % 16) then .ptpOther else .flow r
    | none => if h.etype = 0x88F7 then .ptpOther else .cores

/-- Queue of a flow for a packet of port p (R567, R703). -/
def State.flowQueue (s : State) (r p : Nat) : Nat := if r < 8 then fwQueue (s.flowRow r) + 4 * p else fwQueue (s.flowRow r)

/-- Count a frame as accepted on port p (R621). -/
def State.rxCount (s : State) (p dst len : Nat) : State :=
  let c := if dst = bcast then 4 else if dst / 2 ^ 40 % 2 = 1 then 3 else 2
  ((s.bump oPortCnt p 0).add oPortCnt p 1 len).bump oPortCnt p c

/-- Store a frame in a receive queue (R565, R575 to R579, R597): whether the pool granted all its cells. A frame that fails a check
(`bad`) leaves the queue as it was, or, once its consumer may have started it, ends there with ABORT. -/
def State.store (s : State) (p q flow : Nat) (f : EthFrame) (bad : Bool) : Bool × State :=
  match s.enqueue q { cells := cdiv f.bytes.length 256, place := [], bytes := f.bytes, tx := none, flow := flow, rxAt := f.at_, aborted := bad } with
  | (.stored, s1) => (true, s1)
  | (.withdrawn, s1) => (true, s1)
  | (_, s1) => (false, s1.portErr p 11)

/-- Cores count and discard what they do not use (R602). -/
def State.toCores (s : State) (p : Nat) (f : EthFrame) : Bool × State :=
  let q := 35 + 4 * p
  let r := s.store p q 0 f false
  (r.1, if r.1 then r.2.discard q else r.2)

/-- Ops that are requests (R454 step 2). -/
def isRequest (op : Nat) : Bool := (decide (1 ≤ op) && decide (op ≤ 7)) || op == 0x20 || op == 0x21 || op == 0x30

/-- UDP payload of an IPv4 packet. -/
def udpPayload (b : List Byte) : List Byte :=
  let ihl := (b.headD 0#8).toNat % 16 * 4
  (b.drop (ihl + 8)).take (beNat ((b.drop 2).take 2) - ihl - 8)

/-- An EOP packet that no operation can come of: shorter than its header, or with an OP that is no request (R454 steps 1 and 2). -/
def noRequest (p : List Byte) : Bool := decide (p.length < 24) || !isRequest (p.getD 3 0#8).toNat

/-- Queue that an EOP message lies in (R567, R703): the heartbeat row takes all that comes from the partner's address on the chain. -/
def State.eopQueue (s : State) (m : EopMsg) : Nat :=
  if m.broadcast then 35 + 4 * m.port
  else if deviceOn s 5 ∧ m.srcIp = s.val 0x121006 ∧ 2 ≤ m.port then 34 + 4 * m.port
  else 32 + 4 * m.port

/-- An EOP packet that is no request is freed, and counted as MALFORMED (R454, R566). -/
def State.toEop (s : State) (p r : Nat) (h : Head16) (f : EthFrame) : Bool × State :=
  let q := s.flowQueue r p
  let x := s.store p q r f false
  (x.1, if x.1 && noRequest (udpPayload h.body) then (x.2.discard q).eopCount 1 else x.2)

/-- Deliver a frame to the node (R602): whether it was accepted, and the state. -/
def State.deliver (s : State) (p : Nat) (h : Head16) (f : EthFrame) : Bool × State :=
  match s.classify p h with
  | .pause q => (true, s.pauseHeard p q)
  | .unsupported => (false, s.portErr p 10)
  | .arp =>
    let w := fun (i n : Nat) => beNat ((h.body.drop i).take n)
    (true, if w 6 2 = 1 then s.arpHeard p (w 24 4) (w 8 6) (w 14 4) (if h.tagged then h.vid else 0xFFFF) else s)
  | .probe => (true, s)
  | .ipError => (true, (s.bump 0x414002 0 0).ingestDrop)
  | .udpError => (true, (s.bump 0x414003 0 0).ingestDrop)
  | .unmatched => (true, (s.bump 0x414001 0 0).ingestDrop)
  | .discard => (true, s)
  | .ptpOther => (true, s.bump oPtpDropped 0 0)
  | .flow r => if r = 0 ∨ r = 1 ∨ r = 5 then s.toEop p r h f else s.store p (s.flowQueue r p) r f false
  | .cores => s.toCores p f

/-- The port relays (R611, R614, R616): RELAY of both chain ports, and no CLOSED ring of which the node is owner. -/
def State.ringOwner (s : State) : Bool := s.val 0x141400 == 1
def State.ringClosed (s : State) : Bool := s.ringOwner && s.fld oRingStatus 0 0 == 1
def State.relayOn (s : State) : Bool := s.fld oPort 2 12 == 1 && s.fld oPort 3 12 == 1

/-- The other chain port. -/
def otherChain (p : Nat) : Nat := 5 - p

/-- Transmit queue of a relayed frame, within its port (R613). -/
def State.relayQueue (s : State) (p : Nat) (h : Head16) : Nat := if h.tagged then h.pcp else s.fld oPort p 13

/-- Relay a frame (R612 to R614): whether no pool refusal met it in its middle. A frame refused at its first cell is counted as
RELAY_DROPPED, one refused later as RX_NO_CELL (R597, R613). -/
def State.relay (s : State) (p : Nat) (h : Head16) (f : EthFrame) (bad : Bool) : Bool × State :=
  let o := otherChain p
  if s.portState o ≠ 1 then (true, s.portErr o 19)
  else
    let t : TxFrame := { kind := .relay, dstMac := h.dst, dstIp := 0, dstUdp := 0, vid := h.vid, pcp := h.pcp, bytes := f.bytes }
    match s.enqueue (8 * o + s.relayQueue p h) { s.txPacket o t with aborted := bad } with
    | (.stored, s1) => (true, s1.bump oPortCnt p 20)
    | (.withdrawn, s1) => (true, s1)
    | (.dropped, s1) => (true, s1.portErr p 21)
    | (_, s1) => (false, s1.portErr p 11)

/-- A PTP message (R611). -/
def isPtp (h : Head16) : Bool :=
  h.etype == 0x88F7 || (h.etype == 0x0800 &&
    (let b := h.body
     let ihl := (b.headD 0#8).toNat % 16 * 4
     let d := beNat ((b.drop (ihl + 2)).take 2)
     (b.getD 9 0#8).toNat == 17 && (d == 319 || d == 320)))

/-- A peer delay group address: no feature of R45. -/
def ptpPeer (a : Nat) : Bool := a == 0x0180C200000E || a == 0x01005E00006B

/-- One of the node's four addresses. -/
def ownMac (a : Nat) : Bool := [0, 1, 2, 3].any (fun p => a == macOf p)

/-- R611: local delivery, relay, and the column of a drop, for a frame received on a chain port. -/
def State.chainRoute (s : State) (p : Nat) (h : Head16) : Bool × Bool × Option Nat :=
  let on := s.relayOn
  let go := on && !s.ringClosed
  let mcast := decide (h.dst / 2 ^ 40 % 2 = 1)
  let lost := if on then none else some 9
  if h.dst = probeMac ∧ s.ringOwner then
    (if (h.body.headD 0#8).toNat = s.nodeId then (true, false, none) else (false, false, some 9))
  else if ownMac h.src then (false, false, some 22)
  else if isPtp h then
    (if s.passes p h.dst || ptpPeer h.dst then (true, false, none) else (false, false, lost))
  else if h.dst / 16 = 0x0180C200000 then
    (if h.dst = 0x0180C2000001 ∧ h.etype = 0x8808 then (true, false, none) else (false, false, lost))
  else if h.dst = macOf p then (true, false, none)
  else if !mcast then (false, go, lost)
  else if h.dst = bcast then (true, go, none)
  else if h.dst = probeMac then (false, go, lost)
  else if s.passes p h.dst then (true, go, none)
  else (false, go, lost)

/-! ### The ring (R615, R616) -/

/-- Change the ring's state: counted, events of C0 and C1. -/
def State.setRing (s : State) (st : Nat) : State :=
  if s.fld oRingStatus 0 0 = st then s
  else ((s.setFld oRingStatus 0 0 st).setFld oRingStatus 0 2 ((s.fld oRingStatus 0 2 + 1) % 2 ^ 32)).portEvent 2 |>.portEvent 3

/-- The 30 ms window after the last probe has passed. -/
def State.ringLapse (s : State) : State :=
  match s.net.ring.last with
  | some t =>
    if t + 30000000 ≤ s.now then
      { s with net := { s.net with ring := { s.net.ring with last := none, firstRun := none } } }.setRing 0
    else s
  | none => s

/-- The owner's probe arrives on C1. -/
def State.probeHeard (s0 : State) : State :=
  let s := s0.ringLapse
  let r := s.net.ring
  let first := r.firstRun.getD s.now
  let s1 := { s with net := { s.net with ring := { r with last := some s.now, firstRun := some first } } }.setFld oRingStatus 0 1 s.nowPt
  if first + 1000000000 ≤ s.now then s1.setRing 1 else s1

/-- RING_PROBE (R611, R616): a probe with node ID `node` arrives on C1 of the ring owner. -/
def execRingProbe (at_ node : Nat) (s0 : State) : State :=
  let s := s0.advanceTo at_
  if !s.full || !s.ringOwner || s.portState 3 ≠ 1 then s
  else if node = s.nodeId then s.probeHeard else s.portErr 3 9

/-- RING_PROBE_TIMEOUT (R616). -/
def execRingProbeTimeout (s0 : State) : State :=
  match s0.net.ring.last with
  | none => s0
  | some t => (s0.advanceTo (t + 30000000)).ringLapse

/-- RING_PROBE_SEND (R615): every 10 ms. -/
def execRingProbeSend (s0 : State) : State :=
  if !s0.full || !s0.ringOwner then s0
  else
    let s := s0.advanceTo s0.net.ring.nextSend
    let r := s.net.ring
    let f : TxFrame := { kind := .ringProbe, dstMac := probeMac, dstIp := 0, dstUdp := 0, vid := s.ctlVid 2, pcp := s.ctlPcp 2,
                         bytes := beBytes 1 s.nodeId ++ beBytes 2 r.seq ++ List.replicate 43 0#8 }
    { s with net := { s.net with ring := { r with seq := (r.seq + 1) % 65536, nextSend := s.now + 10000000 } } }.offer 2 6 f

/-! ### FRAME_RECEIVE -/

/-- Local storing of a frame that fails R596 (R597). -/
def State.storeBad (s : State) (p : Nat) (h : Head16) (f : EthFrame) : Bool × State :=
  match s.classify p h with
  | .flow r => s.store p (s.flowQueue r p) r f true
  | .cores => s.store p (35 + 4 * p) 0 f true
  | _ => (true, s)

/-- A frame that fails R596 after its first bytes have been stored (R597, R612): false when the pool refused a cell of it, which ended
it before it failed its check. -/
def State.rxBad (s : State) (p : Nat) (h : Head16) (f : EthFrame) : Bool × State :=
  if h.unsupported then (true, s)
  else if isTrunk p then (if s.passes p h.dst && !s.berm then s.storeBad p h f else (true, s))
  else
    let rt := s.chainRoute p h
    let a := if rt.1 then s.storeBad p h f else (true, s)
    let b := if rt.2.1 then a.2.relay p h f true else (true, a.2)
    (a.1 && b.1, b.2)

/-- The bytes of a frame that are stored before its fault ends it: an oversize frame's up to the byte that breaks its bound, less the four
that may be its FCS (R596, log entry 86). -/
def State.storedPart (s : State) (p c : Nat) (f : EthFrame) (tagged : Bool) : EthFrame :=
  if c = 6 then { f with bytes := f.bytes.take (s.rxTop p tagged - 3) } else f

/-- The frame goes to a PTP flow. -/
def State.takesPtp (s : State) (p : Nat) (h : Head16) : Bool :=
  match s.classify p h with
  | .flow r => fwType (s.flowRow r) == 4
  | _ => false

/-- A frame that has passed R596 and R601, on a trunk or a chain port (R600, R602, R611). -/
def State.rxGood (s : State) (p : Nat) (h : Head16) (f : EthFrame) : State :=
  let count := fun (t : State) => t.rxCount p h.dst (f.bytes.length + 4)
  let take := fun (t : State) =>
    if h.dst = probeMac then (if p = 3 then t.probeHeard else t)
    else (t.deliver p h f).2
  let ok := if h.dst = probeMac then true else (s.deliver p h f).1
  if isTrunk p then
    if s.berm && !(isPtp h && s.passes p h.dst && s.takesPtp p h) then s.portErr p 9
    else if s.passes p h.dst || (isPtp h && ptpPeer h.dst) then (if ok then count (take s) else take s) else s.portErr p 9
  else
    match s.chainRoute p h with
    | (loc, go, lost) =>
      let s1 := if loc then take s else s
      let s2 := if go then (s1.relay p h f false).2 else s1
      match lost with
      | some c => if go then count s2 else s2.portErr p c
      | none => if loc && !ok then s2 else count s2

/-- The instant at which the first byte of a frame arrived that ends now. -/
def State.frameBegan (s : State) (p : Nat) (f : EthFrame) : Nat := s.now - s.bitTimes p (8 * (f.bytes.length + 4))

/-- Port p receives a frame that ends now: it is ENABLED, or DRAINING since that frame's first byte (R592). -/
def State.receives (s : State) (p : Nat) (f : EthFrame) : Bool :=
  s.portState p == 1 || (s.portState p == 2 && decide (s.frameBegan p f < (s.port p).drainAt))

/-- The link was lost inside a frame that ends now (R596). -/
def State.linkCut (s : State) (p : Nat) (f : EthFrame) : Bool :=
  !s.linkUp p && decide (s.frameBegan p f < ptNs (s.fld oPortState p 4))

/-- FRAME_RECEIVE (R592, R595 to R602, R611, R637): a frame whose last byte arrives at `f.at_`; one that loses its link on the way fails
as RX_SYMBOL. -/
def execFrameReceive (p : Nat) (f0 : EthFrame) (s0 : State) : State :=
  let s := s0.advanceTo f0.at_
  if 4 ≤ p || !s.timeRuns || !s.receives p f0 || !(s.linkUp p || s.linkCut p f0) then s
  else
    let f := if s.linkUp p then f0 else { f0 with fcsOk := true, symbolOk := false }
    let h := readHead f.bytes (s.fld oPort p 6)
    match s.rxFault p f h.tagged with
    | some 5 => s.portErr p 5
    | some c =>
      let r := s.rxBad p h (s.storedPart p c f h.tagged)
      if r.1 then r.2.portErr p c else r.2
    | none => if h.unsupported then s.portErr p 10 else s.rxGood p h f

/-! ## Pool rows (R574 to R577) -/

/-- A write of OD 0x1430 (R574, R577); a larger RESERVE can bring the shared free count below OD 0x1432 (R582). -/
def writePoolQueue (q : Nat) (v : Row) (s : State) : WRes :=
  let total := ((List.range 512).map (fun i => if i = q then v.getD 1 0 else s.fld oPoolQueue i 1)).sum
  if q < 64 then refuse s stAccess
  else if v.getD 2 0 < v.getD 1 0 ∨ 12288 < total then refuse s stRange
  else
    let s1 := (s.setRow oPoolQueue q v).setFld 0x143100 q 2 (s.qCount q)
    done (if !s.poolLow && s1.poolLow then s1.raiseMs 120 else s1).pauseGenAll

/-- OD 0x1431 row q (R571). -/
def State.readLevel (s : State) (q : Nat) : Row := [s.qCount q, s.qPkts q, s.fld 0x143100 q 2]

end Sys2Proof.Machine
end

