-- ==== Sys2Proof/Machine/Update.lean ====
section
/-! DEFINITION. Firmware update (R648 to R662): the transfer of an image, its verification, the two-phase commit, activation, and a
trial's confirmation or revert. -/

namespace Sys2Proof.Machine

def oBootCnt : Nat := 0x432000

def State.setUpdate (s : State) (u : Update) : State := { s with update := u }

def State.setBoot (s : State) (b : BootRecord) : State := { s with flash := { s.flash with boot := b.sealed } }

/-- The inactive slot (R648). -/
def State.inactive (s : State) : Nat := 1 - s.flash.boot.active

def State.setSlot (s : State) (i : Nat) (x : SlotImage) : State :=
  { s with flash := if i = 0 then { s.flash with slotA := x } else { s.flash with slotB := x } }

/-- States whose entry or exit raises event 8 (R664). -/
def downloadState (st : Nat) : Bool := st == 1 || st == 2 || st == 3 || st == 9

/-- Change BOOT.STATUS.UPDATE. -/
def State.updateTo (s : State) (st : Nat) : State :=
  let old := s.update.state
  let s1 := s.setUpdate { s.update with state := st }
  if old ≠ st ∧ (downloadState old || downloadState st) then s1.raise 8 else s1

/-- States in which a DOWNLOAD or a VERIFY may begin. -/
def State.updateIdle (s : State) : Bool := s.update.state == 0 || s.update.state == 3 || s.update.state == 5 || s.update.state == 9

/-! ## Transfer (R648 to R652) -/

/-- Erase count of a slot. -/
def BootRecord.erases (b : BootRecord) (i : Nat) : Nat := if i = 0 then b.erases0 else b.erases1

/-- A write of OD 0x3201 (R648). -/
def writeDownload (w : Who) (v : Row) (s : State) : WRes :=
  if !s.updateIdle || s.flash.boot.pending != 0xFF then refuse s stState
  else accept s w (fun h st =>
    let i := st.inactive
    let b := st.flash.boot
    let b1 := if i = 0 then { b with erases0 := b.erases0 + 1 } else { b with erases1 := b.erases1 + 1 }
    let s1 := ((st.setBoot b1).setSlot i (.blocks (v.getD 1 0) []))
    let s2 := (s1.setUpdate { s1.update with
      transfer := some { id := v.getD 0 0, blocks := v.getD 1 0, relay := v.getD 2 0 == 1, held := [], programming := [], partials := [],
                         last := s1.now, handle := h }
      verifiedVersion := 0 }).updateTo 1
    if b1.erases i = 10001 then s2.raise 15 else s2)

/-- Key of a fragment in the pool, where fragments wait (R567, R650). -/
def fragKey (b i : Nat) : Nat := b * 4 + i

/-- The transfer ends: its handle completes, its fragments are freed, and any outcome but OK leaves FAILED. -/
def State.transferEnds (s : State) (x : Transfer) (status : Nat) : State :=
  (((s.taskDrop 50 (fun _ => true)).setUpdate { s.update with transfer := some { x with programming := [], partials := [], handle := 0 } }).updateTo
    (if status = stOk then 3 else 9)).completeTask x.handle status

/-- ERASE_DONE (R648). A failed erase raises event 15 and ends the transfer (log entry 35). -/
def execEraseDone (ok : Bool) (s : State) : State :=
  match s.update.transfer with
  | none => s
  | some x =>
    if !s.timeRuns || s.update.state != 1 then s
    else if ok then (s.setUpdate { s.update with transfer := some { x with last := s.now } }).updateTo 2
    else (s.raise 15).transferEnds x stInternal

/-- Lowest block not held (R651). -/
def Transfer.firstMissing (x : Transfer) : Nat := ((List.range x.blocks).find? (fun b => !x.held.contains b)).getD x.blocks

/-- A fragment of an IMAGE_BLOCK (R649). -/
structure Fragment where
  id    : Nat
  block : Nat
  frag  : Nat
  flags : Nat
  sha   : List Byte
  data  : List Byte

/-- The payload of an IMAGE_BLOCK. -/
def readFragment (p : List Byte) : Fragment :=
  { id := beNat (p.take 4), block := beNat ((p.drop 4).take 2), frag := beNat ((p.drop 6).take 1), flags := beNat ((p.drop 7).take 1),
    sha := (p.drop 8).take 32, data := p.drop 40 }

/-- Bytes of a block whose four fragments are held. -/
def joinFragments (m : Tbl (List Byte)) : List Byte := m.flatMap (fun e => e.2)

/-- A new fragment of a block that is not held: status, and the state (R650). -/
def State.takeFragment (s : State) (x : Transfer) (f : Fragment) : Nat × State :=
  let old := tfind x.partials f.block
  if old.isNone && decide (64 ≤ x.partials.length) then (stResource, s.bump oBootCnt 0 9)
  else
    let kept := match old with
      | some (sha, m) => if sha = f.sha then m else []
      | none => []
    let m := tins kept f.frag f.data
    let gone := (s.bump oBootCnt 0 7).taskDrop 50 (fun k => k / 4 == f.block && (tfind m (k % 4)).isNone || k == fragKey f.block f.frag)
    let s1 := gone.taskPut 50 (fragKey f.block f.frag) f.data
    let put := fun (st : State) (y : Transfer) => st.setUpdate { st.update with transfer := some y }
    if m.length < 4 then (stOk, put s1 { x with partials := tins x.partials f.block (f.sha, m), last := s.now })
    else
      let y := { x with partials := tdel x.partials f.block, last := s.now }
      let s2 := s1.taskDrop 50 (fun k => k / 4 == f.block)
      if sha256 (joinFragments m) = f.sha then (stOk, put s2 { y with programming := tins y.programming f.block (joinFragments m, 0) })
      else (stOk, put (s2.bump oBootCnt 0 11) y)

/-- The transfer has ended when no fragment has been accepted in [last accepted fragment, that + 60 s) (R13, R648). -/
def State.transferCome (s : State) : State :=
  match s.update.transfer with
  | some x => if s.update.state = 2 ∧ x.last + 60000000000 ≤ s.now then s.transferEnds x stTimeout else s
  | none => s

/-- What a fragment does (R650, R651): its status, whether it was accepted and no duplicate, and the state. -/
def State.fragment (s0 : State) (f : Fragment) : Nat × Bool × State :=
  let s := s0.transferCome
  match s.update.transfer with
  | none => (stState, false, s.bump oBootCnt 0 9)
  | some x =>
    if x.id ≠ f.id ∨ x.blocks ≤ f.block ∨ 4 ≤ f.frag then (stState, false, s.bump oBootCnt 0 9)
    else if s.update.state = 1 then (stBusy, false, s.bump oBootCnt 0 9)
    else if s.update.state ≠ 2 then (stState, false, s.bump oBootCnt 0 9)
    else if x.held.contains f.block || (tfind x.programming f.block).isSome then
      (stOk, false, (s.setUpdate { s.update with transfer := some { x with last := s.now } }).bump oBootCnt 0 8)
    else
      let r := s.takeFragment x f
      (r.1, r.1 == stOk, r.2)

/-- Data of the answer to an accepted or duplicate fragment (R651). -/
def State.fragmentData (s : State) : List Byte :=
  match s.update.transfer with
  | none => []
  | some x => beBytes 2 x.held.length ++ beBytes 2 x.firstMissing

/-- Relay a fragment once on each of C0 and C1 (R652). -/
def State.relayFragment (s : State) (bytes : List Byte) : State :=
  let send := fun (st : State) (p : Nat) => st.offer p 1
    { kind := .imageRelay, dstMac := 0xFFFFFFFFFFFF, dstIp := 0xFFFFFFFF, dstUdp := s.val 0x110001, vid := s.ctlVid p, pcp := s.ctlPcp p,
      bytes := bytes, srcUdp := s.val 0x110001 }
  (send (send s 2) 3).bump oBootCnt 0 10

/-- BLOCK_PROGRAM_DONE (R648, R650). -/
def execBlockProgramDone (b : Nat) (ok : Bool) (s : State) : State :=
  match s.update.transfer with
  | none => s
  | some x =>
    if !s.timeRuns || s.update.state != 2 then s
    else match tfind x.programming b with
      | none => s
      | some (data, fails) =>
        if ok then
          let i := s.inactive
          let held := match s.slot i with
            | .blocks _ h => h
            | _ => []
          let s1 := s.setSlot i (.blocks x.blocks (tins held b data))
          let y := { x with programming := tdel x.programming b, held := b :: x.held }
          let s2 := s1.setUpdate { s1.update with transfer := some y }
          if x.blocks ≤ y.held.length then s2.transferEnds y stOk else s2
        else if 1 ≤ fails then (s.raise 15).transferEnds x stInternal
        else (s.setUpdate { s.update with transfer := some { x with programming := tins x.programming b (data, 1) } }).raise 15

/-- TRANSFER_TIMEOUT (R648): 60 s after the last accepted fragment, or after RECEIVING began. -/
def execTransferTimeout (s : State) : State :=
  match s.update.transfer with
  | none => s
  | some x =>
    if s.timeRuns && s.update.state == 2 then (s.advanceTo (x.last + 60000000000)).transferEnds x stTimeout else s

/-! ## Verification (R647, R653) -/

/-- A write of OD 0x3202 (R653). -/
def writeVerify (w : Who) (v : Nat) (s : State) : WRes :=
  if v ≠ 1 then done s
  else if !s.updateIdle then refuse s stState
  else accept s w (fun h st => (st.setUpdate { st.update with verifyHandle := h }).updateTo 4)

/-- VERIFY_DONE (R653). -/
def execVerifyDone (s : State) : State :=
  if !s.timeRuns || s.update.state != 4 then s
  else
    let img := s.slot s.inactive
    let r := verifySlot s.flash.otpFloor img
    let h := s.update.verifyHandle
    let s1 := s.setRow 0x320300 0 [r.1, r.2, img.version]
    let s2 := s1.setUpdate { s1.update with verifyHandle := 0, verifiedVersion := if r.1 = 0 then img.version else 0 }
    if r.1 = 0 then ((s2.updateTo 5).raise 9).completeTask h stOk
    else (((s2.updateTo 9).bump oBootCnt 0 12).raise 9).completeTask h stRange

/-! ## Two-phase commit (R654 to R656) -/

/-- A write of OD 0x3204 (R654). -/
def writePrepare (v : Row) (s : State) : WRes :=
  let at_ := v.getD 1 0
  if s.update.state = 5 ∧ v.getD 0 0 = s.update.verifiedVersion ∧ (at_ = 0 ∨ s.now + 5000000000 ≤ ptNs at_) then
    done (((s.setBoot { s.flash.boot with phase := 1, version := v.getD 0 0, at_ := at_ }).updateTo 6).raise 10)
  else refuse s stState

/-- A write of OD 0x3205 (R655). -/
def writeCommit (v : Nat) (s : State) : WRes :=
  if v ≠ 1 then done s
  else if s.update.state = 6 then
    let s1 := s.setUpdate { s.update with commitNow := true }
    done (((s1.setBoot { s.flash.boot with phase := 2 }).updateTo 7).raise 10)
  else refuse s stState

/-! ## Trials (R659, R660, R662) -/

/-- A trial reverts (R659): PENDING is cleared, the result journaled and a reset of cause 6 requested. -/
def State.revert (s : State) (result : Nat) : State :=
  let s1 := s.setBoot { s.flash.boot with pending := 0xFF, trials := 0, result := result }
  ((s1.setUpdate { s1.update with trial := 2, reverted := true }).bump oBootCnt 0 14).requestCause 6

/-- The trial's confirmation window is open (R659). -/
def State.trialOpen (s : State) : Bool := s.full && s.update.trial == 1 && decide (s.now < s.update.serviceAt + 600000000000)

/-- Saves held during the trial are written at confirmation (R662). -/
def State.writeHeld (s : State) : State :=
  let u := s.update
  let s1 := s.setUpdate { u with heldSettings := false, heldCal := false }
  let s2 := if u.heldSettings then s1.saveSettings else s1
  if u.heldCal then State.calStoreWritten true true (s2.setCal { s2.cal with writing := true }) else s2

/-- The trial confirms (R660). -/
def State.confirmTrial (s : State) : State :=
  let slot := s.update.running
  let s1 := s.setBoot { s.flash.boot with active := slot, pending := 0xFF, trials := 0, result := 1 }
  let e := (s.slot slot).epoch
  let s2 := { s1 with flash := { s1.flash with otpFloor := max s1.flash.otpFloor e } }
  ((s2.setUpdate { s2.update with trial := 0, fallback := false }).writeHeld).raise 13

/-- A write of OD 0x3206 (R655). -/
def writeAbort (v : Nat) (s : State) : WRes :=
  if v ≠ 1 then done s
  else if s.update.state = 6 ∨ s.update.state = 7 ∨ s.update.state = 8 then
    let s1 := s.setBoot { s.flash.boot with phase := 0 }
    done (((s1.setUpdate { s1.update with verifiedVersion := s1.flash.boot.version, deferAt := none, partnerBack := false }).updateTo 5).raise 10)
  else if s.update.state = 1 ∨ s.update.state = 2 then
    match s.update.transfer with
    | some x => done (s.transferEnds x stCancelled)
    | none => refuse s stState
  else if s.update.trial = 1 then done (s.revert 5)
  else refuse s stState

/-- A write of OD 0x3207 (R660). -/
def writeConfirm (v : Nat) (s : State) : WRes :=
  if v ≠ 1 then done s
  else if s.trialOpen then done s.confirmTrial
  else refuse s stState

/-- TRIAL_TIMEOUT (R659): 600 s after the start of full service. -/
def execTrialTimeout (s : State) : State :=
  if s.full && s.update.trial == 1 then (s.advanceTo (s.update.serviceAt + 600000000000)).revert 4 else s

/-- Automatic confirmation is asked for (R660). -/
def State.confirmAuto (s : State) : Bool := s.val 0x320800 == 0

/-- CONFIRM_HOLD_ELAPSED (R660): CONFIRM_HOLD_S in ALONE, or in full service without a twin. -/
def execConfirmHoldElapsed (s : State) : State :=
  let hold := s.val 0x320900 * 1000000000
  if !s.full || s.update.trial != 1 || !s.confirmAuto then s
  else if s.twinEnabled then
    if s.twinState = 0 then
      let s1 := s.advanceTo (s.twin.since + hold)
      if s1.trialOpen then s1.confirmTrial else s1
    else s
  else
    let s1 := s.advanceTo (s.update.serviceAt + hold)
    if s1.trialOpen then s1.confirmTrial else s1

/-! ## Activation (R657, R658) -/

/-- The pending marker is journaled, COMMITTED is cleared, and a reset requested (R657, R664). -/
def State.activate (s : State) : State :=
  let s1 := s.setBoot { s.flash.boot with pending := s.inactive, trials := 3, phase := 0, version := 0, at_ := 0 }
  (((s1.updateTo 0).raise 10).raise 11).requestCause 6

/-- A COMMITTED node may activate now (R657): in full service, and in Berm service unless its AT had passed, or was 0, before the last
reset, so that it activates at the start of full service. -/
def State.mayActivate (s : State) : Bool :=
  s.full || (s.berm && (s.update.commitNow || decide (s.now ≤ ptNs s.flash.boot.at_ ∧ s.flash.boot.at_ ≠ 0)))

/-- ACTIVATION (R657): at AT, at commit, or at the start of full service when AT has passed. A LEADER defers (R658). -/
def execActivation (s0 : State) : State :=
  if s0.mayActivate && s0.update.state == 7 then
    let s := s0.advanceTo (ptNs s0.flash.boot.at_)
    if s.full ∧ s.twinEnabled ∧ s.twinState = 1 then (s.setUpdate { s.update with deferAt := none, partnerBack := false }).updateTo 8
    else s.activate
  else s0

/-- When a deferred Leader activates (R658): a period of its lowest RUNNING twinned Quire after the beat, at a latch instant, or 20 ms
after it. -/
def State.deferInstant (s : State) : Nat :=
  match (List.range 16).find? (fun q => s.twinned q && s.quireState q == 3) with
  | none => s.now + 20000000
  | some q =>
    let c := s.quireCadence q
    s.latchAt q (c.first (s.tbNow + s.quirePeriod q).ceil.toNat)

/-- DEFERRED_ACTIVATION (R658). -/
def execDeferredActivation (s : State) : State :=
  match s.update.deferAt with
  | none => s
  | some t => if s.full && s.update.state == 8 then (s.advanceTb (t : Rat)).activate else s

/-- What a deferred Leader learns from its partner's beats and paths (R658). A partner has restarted when it reports Berm service, or
when the Dike line reads DROPPED, as it does from a reset on (R382, log entry 85). -/
def State.deferWatch (s : State) : State :=
  if s.update.state ≠ 8 then s
  else if s.dike == 2 || s.partnerState == 7 then s.setUpdate { s.update with partnerBack := true }
  else if s.update.partnerBack && s.partnerState == 2 && s.update.deferAt.isNone then
    s.setUpdate { s.update with deferAt := some s.deferInstant }
  else s

/-- What the update does after a command that may change the twin state: automatic confirmation on entering FOLLOWER or LEADER
(R660), and the deferred Leader's watch. -/
def State.afterTwin (before s : State) : State :=
  let s1 := if s.twinState ≠ before.twinState ∧ (s.twinState = 1 ∨ s.twinState = 2) ∧ s.trialOpen ∧ s.confirmAuto then s.confirmTrial else s
  s1.deferWatch

/-! ## Reads (R671) -/

/-- OD 0x3200. -/
def State.readUpdate (s : State) : Row :=
  let b := s.flash.boot
  let x := s.update.transfer
  [s.update.state, (x.map (·.id)).getD 0, (x.map (·.blocks)).getD 0, (x.map (fun t => t.held.length)).getD 0,
   (x.map Transfer.firstMissing).getD 0, s.update.running, b.active, b.pending, b.trials, b.result, b.version, b.at_, s.flash.otpFloor]

/-- STATE of a slot: EMPTY, PARTIAL, VERIFIED or FAILED. -/
def State.slotCode (s : State) (i : Nat) : Nat :=
  match s.slot i with
  | .empty => 0
  | .delivered => 2
  | .blocks n h => if h.length < n then 1 else if s.slotVerified i then 2 else 3

/-- OD 0x320A row i. -/
def State.readSlot (s : State) (i : Nat) : Row :=
  let x := s.slot i
  [x.version, x.epoch, x.settings, x.cal, s.slotCode i, s.flash.boot.erases i]

end Sys2Proof.Machine
end

