-- ==== Sys2Proof/Machine/Power.lean ====
section
/-! DEFINITION. Power states, resets and bring-up (R28 to R32, R625 to R643, R677 to R684). -/

namespace Sys2Proof.Machine

def State.setPower (s : State) (p : Power) : State := { s with power := p }

/-! ## Reset requests from pins, the watchdog and registers -/

/-- PIN_RESET (R626, R681): a low level of 500 ns or more, held while the pin stays low. -/
def execPinReset (lowNs : Nat) (s : State) : State :=
  if lowNs < 500 then s
  else
    let s1 := s.requestCause 2
    if s.power.state = .run ∨ s.power.state = .berm then
      s1.setPower { s1.power with pinLow := true, pinUntil := s.clk.elapsed + lowNs }
    else s1

/-- The domains that a reset covers are powered and out of reset: the Boot ROM or the firmware runs. -/
def State.awake (s : State) : Bool := !s.power.inReset && (s.power.state == .run || s.power.state == .berm)

/-- 1 s has passed without a restart of the watchdog (R629): event 5. The instant of the last restart follows from it. -/
def State.watchdogWarns (s : State) (at_ : Nat) : State :=
  let s1 := s.advanceElapsed at_
  (s1.setPower { s1.power with warned := true, watchdogAt := s1.clk.elapsed - 1000000000 }).raise 5

/-- WATCHDOG_WARN (R629): 1 s without a restart. What restarts the watchdog, firmware that runs, is not a command: this one stands
for the case in which it has stopped. After a warning it has been restarted since, or the watchdog would have expired (log entry 36). -/
def execWatchdogWarn (s : State) : State :=
  if s.awake then s.watchdogWarns (s.power.watchdogAt + (if s.power.warned then 2000000000 else 1000000000)) else s

/-- WATCHDOG_EXPIRY (R629, R630): 2 s without a restart, the warning at the first of them. -/
def execWatchdogExpiry (s : State) : State :=
  if s.awake then
    let s1 := if s.power.warned then s else s.watchdogWarns (s.power.watchdogAt + 1000000000)
    (s1.advanceElapsed (s1.power.watchdogAt + 2000000000)).requestCause 3
  else s

/-- A write of OD 0x5000 (R486): a command reset, once the write has been answered. -/
def writeReset (s : State) : WRes := done (s.requestCause 5)

/-- AON_RESET (R670). -/
def execAonReset (key : Nat) (s : State) : State :=
  if s.power.inReset || key % 256 ≠ 0x5A then s else s.requestCause 5

/-- RESET_ASSERT (R626): 2 us after the request, every domain but AON is reset. -/
def execResetAssert (s : State) : State :=
  if s.power.requested then
    let s1 := (s.advanceElapsed (s.power.requestAt + 2000)).resetValues
    s1.setPower { s1.power with state := .berm }
  else s

/-! ## Release and the choice of a slot (R642, R678) -/

/-- Counters of sealed messages resume above their checkpoints (R470). -/
def State.resumeCounters (s : State) : State :=
  let slots := (List.range 8).filter s.hasKey
  { s with eop := { s.eop with
    rxHigh := slots.foldl (fun m k => tset 0 m k ((s.keySlot k).rxK + 65536)) s.eop.rxHigh
    txCount := slots.foldl (fun m k => tset 0 m k ((s.keySlot k).txK + 65536)) s.eop.txCount } }

/-- The Boot ROM's choice before Berm service (R642): a boot of the PENDING slot takes one of its trials and is a trial (R659); with none
left the trial has failed. BOOT.STATUS.TRIAL shows either (R666). -/
def State.bootChoice (s : State) : State :=
  let b := s.flash.boot
  let s1 :=
    if b.pending = 0xFF then s.setUpdate { s.update with running := b.active, trial := if 2 ≤ b.result then 2 else 0 }
    else if b.trials = 0 then
      let s2 := (s.setBoot { b with pending := 0xFF, result := 2 }).bump oBootCnt 0 14
      s2.setUpdate { s2.update with running := b.active, reverted := true, trial := 2 }
    else
      let s2 := s.setBoot { b with trials := b.trials - 1 }
      s2.setUpdate { s2.update with running := b.pending, trial := 1 }
  s1.setUpdate { s1.update with state := if b.phase = 1 then 6 else if b.phase = 2 then 7 else 0 }

/-- The main rails are off: every domain but AON loses its state, and a save that has not completed is lost. -/
def State.railsOff (s0 : State) (st : PowerState) (link : Bool) : State :=
  let s := s0.saveCome.quench.resetValues
  s.setPower { s.power with state := st, pwrEn := false, linkEn := link, recording := false }

/-- The wake timer of hibernate-timed (R632). -/
def State.setWakeTimer (s : State) (seconds : Nat) : State :=
  s.setPower { s.power with wakeTimer := some (s.clk.elapsed + seconds * 1000000000) }

/-- The rails come up: a power-on or a wake holds the reset until they are good (R678). -/
def State.railsStart (s : State) : Bool := s.power.inReset && s.power.pwrEn && (s.aon.cause == 1 || s.aon.cause == 7)

/-- The rails are not good 50 ms after PWR_EN (R678): hibernate-timed with ENTRY brownout. -/
def State.railsFail (s : State) : State :=
  let s1 := s.advanceElapsed (s.power.pwrEnAt + 50000000)
  let s2 := (s1.railsOff .hibernate false).setWakeTimer (s1.val oRetry)
  { s2 with aon := { s2.aon with entry := 2 } }

/-- RAIL_START_TIMEOUT (R678): 50 ms after PWR_EN the rails are not good. -/
def execRailStartTimeout (s : State) : State := if s.railsStart then s.railsFail else s

/-- RESET_RELEASE (R628, R629, R635, R642, R678): the internal reset is released, the boot is counted, the cause is copied for reads,
and the Boot ROM chooses a slot. After a power-on or a wake it comes 2 ms or more after PWR_EN and within 50 ms of it, unless RESET_N
holds the reset. A brownout found during the reset is entered now (R682). -/
def execResetRelease (s0 : State) : State :=
  if !s0.power.inReset || !s0.power.pwrEn then s0
  else if s0.railsStart && !s0.power.pinLow && decide (s0.power.pwrEnAt + 50000000 ≤ s0.clk.elapsed) then s0.railsFail
  else
    let sr := if s0.railsStart then s0.advanceElapsed (s0.power.pwrEnAt + 2000000) else s0
    let s := if sr.power.pinLow then sr.advanceElapsed sr.power.pinUntil else sr
    let e := s.clk.elapsed
    let a := s.aon
    let f := s.flash
    let s1 := { s with
      power := { s.power with
        inReset := false, recording := false, requested := false, pinLow := false, state := .berm, service := .bootRom,
        watchdogAt := e, warned := false, releasedAt := e, quenched := true, driven := 0, dikeOverride := true,
        entry := s.power.brownoutDue.map Entry.brownout, brownoutDue := none }
      flash := { f with bootCount := (f.bootCount + 1) % 2 ^ 32, resets := tset 0 f.resets a.cause (tget 0 f.resets a.cause + 1) }
      aon := { a with
        copyCause := a.cause + 256 * a.also + 65536 * a.entry + 262144 * a.wakeFrom + 1048576 * a.wakeSource
        copyInfo := if a.cause = 4 then a.source + 256 * a.memory else 0
        copyAddr := if a.cause = 4 then a.addr else 0 }
      hspi := { s.hspi with ready := true } }
    s1.resumeCounters.bootChoice

/-! ## Berm service (R637, R639, R640) -/

/-- A Quire with an enabled safe-look row starts: its frames begin at the next latch instant of the cadence of R637. -/
def State.bermQuire (s : State) (q : Nat) : State :=
  if (s.strandsOf q).isEmpty then s
  else
    let k := (s.quireCadence q).first s.tbNow.ceil.toNat
    let s1 := (s.setQuire q { s.quire q with nextK := some k, startAt := s.now, idleFrom := s.clk.elapsed }).setQuireState q 1
    if s1.twin.quenchBerm then s1 else s1.safeLookSteps q

/-- A beat or heartbeat of the partner that came before Berm service tells its state now, unless its path has gone down since (R395). -/
def State.bootHeard (s : State) : State :=
  let bs := s.twin.bootBeat
  let s1 := s.setTwin { s.twin with bootBeat := [] }
  (if !bs.isEmpty && s1.twinEnabled && beatByte bs 1 1 == s1.val 0x121002 then s1.partnerHeard bs else s1).pathsDue

/-- BERM_SERVICE (R635, R637). -/
def execBermService (s : State) : State :=
  if s.power.inReset || s.power.service != .bootRom || s.power.state != .berm then s
  else
    let s1 := { s.loadBerm with
      power := { s.power with service := .berm }
      hspi := { s.hspi with ready := true }
      integ := { s.integ with training := 1 } }
    let s2 := s1.portsSettle.timeStart.bootHeard
    (((List.range 16).foldl State.bermQuire s2).deviceEvents s).raise 1

/-! ## Full service (R635, R642, R643) -/

/-- The Boot ROM verifies slot i: its result and part, and the state with them in OD 0x3203 (R647). -/
def State.verifies (s : State) (i : Nat) : Bool × State :=
  let r := verifySlot s.flash.otpFloor (s.slot i)
  (r.1 == 0, s.setRow 0x320300 0 [r.1, r.2, (s.slot i).version])

/-- The Boot ROM's choice before full service (R642): whether a slot verifies, and the state with that slot. -/
def State.serviceSlot (s0 : State) : Bool × State :=
  let b := s0.flash.boot
  let v0 := s0.verifies s0.update.running
  let s := v0.2
  let v1 :=
    if !v0.1 && b.pending == s.update.running then
      let s2 := (s.setBoot { b with pending := 0xFF, result := 3 }).bump oBootCnt 0 14
      (s2.setUpdate { s2.update with running := b.active, reverted := true, trial := 2 }).verifies b.active
    else v0
  let s1 := v1.2
  if v1.1 then (true, s1)
  else
    let v2 := s1.verifies (1 - s1.update.running)
    if v2.1 then (true, (v2.2.setUpdate { v2.2.update with running := 1 - s1.update.running, fallback := true }).raise 4)
    else (false, v2.2)

/-- The regions in force are the stored ones (R532). A change of regions clears the page-valid bitmap (R541). -/
def State.loadRegions (s : State) : State :=
  let s1 := s.setRows 0x310100 (tget [] s.od 0x310000)
  if tget [] s.od 0x310100 = tget [] s.od 0x310000 then s1
  else s1.vaultPut vPageValid (List.replicate (if s.dramPages = 0 then 0 else 0x40000) 0#8)

/-- The regions whose row has ENABLE 1 leave OFF (R331). -/
def State.regionsBegin (s : State) : State :=
  (tget [] s.od oRegion).foldl (fun st e => if rgOn e.2 then st.regionBegins e.1 else st) s

/-- The telemetry store is set to 0 (R628). DRAM lists nothing at this point, so only the pages become valid. -/
def State.clearTelemetry (s : State) : State :=
  if s.val oTeleBase = 0 then s else s.touchPages (s.val oTeleBase) 0x1000000

/-- The twin state at the start of full service (R393, R661). -/
def State.twinStart (s : State) : State :=
  let s1 := s.setTwin { s.twin with since := s.now, nextBeat := s.now, nextHeart := s.now, quenchBerm := false }
  if !s.twinEnabled then s1
  else if s.update.reverted then s1.enterTwin 3 7
  else s1.enterTwin 4 0

/-- BOOT.STATUS.TRIAL and the events of a trial (R659, R664, R666). -/
def State.trialStart (s : State) : State :=
  let b := s.flash.boot
  let s1 := s.setUpdate { s.update with serviceAt := s.now,
                                        trial := if b.pending = s.update.running then 1 else if 2 ≤ b.result then 2 else 0 }
  let s2 := if s1.update.trial = 1 then (s1.bump oBootCnt 0 13).raise 12 else s1
  if s2.update.reverted then (s2.setUpdate { s2.update with reverted := false }).raise 14 else s2

/-- The integrity record of a cause-4 reset (R553, R558). -/
def State.integrityRecord (s : State) : State :=
  if s.aon.cause = 4 then
    (s.setRow 0x311200 0 [s.aon.memory, s.aon.addr, s.aon.source, nsPt s.aon.recordAt, s.aon.recordBoot]).raise 21
  else s

/-- SERVICE_START (R635, R643): one slot's parts are loaded, with the settings, the regions and the calibration store, and every block
begins. Full service begins before a COMMITTED update whose AT has passed activates (R657). -/
def execServiceStart (s : State) : State :=
  let r := s.serviceSlot
  if !s.berm || s.power.requested || s.integ.training != 2 || !r.1 then s
  else
    let s1 := (List.range 16).foldl (fun st q => if st.quireState q = 0 then st else st.quireTo q 0) r.2
    let s2 := { s1.loadObjs idObjs s1.flash.identity with
      power := { s1.power with service := .full, state := .run }
      quires := s1.quires.foldl (fun (m : Tbl Quire) (e : Nat × Quire) => tset Quire.init m e.1 { Quire.init with sum := e.2.sum }) [], strands := [] }
    let s4 := s2.loadSettings.loadRegions.loadCal.regionsBegin
    let s5 := s4.twinStart.trialStart
    let s6 := { s5 with power := { s5.power with dikeOverride := false } }
    let s7 := (((s6.integrityRecord.clearTelemetry.portsSettle.timeGoesOn).loadFlowEnables).loadQuireModes)
    let s8 := [0, 1, 2, 3].foldl (fun st p => if st.portState p = 1 then st.arpAnnounce p else st) s7
    (((s8.startScrub 0 49152).startScrub 1 s8.dramPages).deviceEvents s).raise 0

/-- NO_SLOT_VERIFIES (R636, R642): the node stays in Berm service. OD 0x3200 reports it: IDLE becomes FAILED (log entry 85). -/
def execNoSlotVerifies (s : State) : State :=
  let r := s.serviceSlot
  if !s.berm || s.integ.training != 2 || r.1 then s else if r.2.update.state = 0 then r.2.updateTo 9 else r.2

/-! ## Supplies and clocks (R678 to R684) -/

/-- A power-on reset at `elapsed` e (R625, R678): everything but flash and OTP at its reset values; PWR_EN and LINK_EN are asserted and
the internal reset holds until RESET_RELEASE. RESET_N low throughout sets its bit of ALSO (R682). -/
def State.poweredOn (s : State) (resetNLow : Bool) (e : Nat) (retain : List Word) : State :=
  { State.reset with
    pending := s.pending
    clk := { State.reset.clk with elapsed := e }
    freeIdx := s.freeIdx
    flash := s.saveCome.flash
    update := { Update.init with reverted := s.update.reverted }
    aon := { Aon.init with also := if resetNLow then 2 else 0, copyCause := 0, retain := retain }
    power := { Power.init with inReset := true, recording := true, pinLow := resetNLow, pwrEnAt := e, watchdogAt := e }
    eop := { Eop.init with lastAnswer := s.eop.lastAnswer } }

/-- POWER_ON (R625, R628, R681): VAON has risen, or PORST_N has been low for `porst` ns with VAON up. A low level shorter than 500 ns is
ignored; the retention latch is lost with VAON only. -/
def execPowerOn (resetNLow : Bool) (porst : Option Nat) (s : State) : State :=
  match porst with
  | none => s.poweredOn resetNLow 0 Aon.init.retain
  | some ns => if s.power.state = .off ∨ ns < 500 then s else s.poweredOn resetNLow (s.clk.elapsed + ns) s.aon.retain

/-- VAON_LOSS (R679): OFF; the retention latch and the cause record are lost. -/
def execVaonLoss (s : State) : State :=
  { State.reset with
    pending := s.pending
    freeIdx := s.freeIdx
    flash := s.saveCome.flash
    update := { Update.init with reverted := s.update.reverted }
    aon := { Aon.init with cause := 0, copyCause := 0 }
    power := { Power.init with state := .off, inReset := true, pwrEn := false, linkEn := false, dikeOverride := false }
    eop := { Eop.init with lastAnswer := s.eop.lastAnswer } }

/-- A rail that the monitor watches: rows 0 to 8 of R676. -/
def monitored (rail : Nat) : Bool := decide (rail < 9)

/-- RAIL_WARNING (R679). -/
def execRailWarning (rail : Nat) (s : State) : State :=
  if s.awake && monitored rail then (s.bump32 0x433100 rail 2).raise 3 else s

/-- BROWNOUT (R633, R679, R682): hibernate-timed with ENTRY brownout, in place of any entry in progress; during a reset it waits for the
reset's end. In LINK STANDBY the one rail of R676 that is up is VSD_C0. -/
def execBrownout (rail : Nat) (s : State) : State :=
  if !monitored rail || !(s.power.pwrEn || (s.power.state == .standby && rail == 3)) then s
  else if s.power.recording then s.setPower { s.power with brownoutDue := some (s.val oRetry) }
  else (s.setPower { s.power with entry := some (.brownout (s.val oRetry)) }).quench

/-- CLOCK (R684): 0 the clocks disagree, 1 XIN stops, 2 AON_XIN stops. With XIN stopped the node cannot raise the event. -/
def execClock (kind : Nat) (s : State) : State := if s.timeRuns && (kind == 0 || kind == 2) then s.raise 7 else s

/-! ## LINK STANDBY, HIBERNATE and waking (R29 to R32, R617 to R619, R632, R634) -/

/-- A write of OD 0x5002 (R632): event 2 at the answer, entry to follow. An entry in progress stands (log entry 37). -/
def writeStandby (v : Nat) (s : State) : WRes :=
  if v ≠ 1 then done s
  else done ((if s.power.entry.isSome then s else s.setPower { s.power with entry := some .standby }).raise 2)

/-- A write of OD 0x5003 (R632). -/
def writeHibernate (seconds : Nat) (s : State) : WRes :=
  let e := Entry.hibernate (if seconds = 0 then none else some seconds)
  done ((if s.power.entry.isSome then s else s.setPower { s.power with entry := some e }).raise 2)

/-- Codes of AON.CAUSE.WAKE_SOURCE. -/
def WakeSource.code : WakeSource → Nat
  | .pin => 1
  | .timer => 2
  | .pattern i => 4 + i

/-- The wake path (R29, R634, R677): PWR_EN and LINK_EN are asserted and cause 7 is recorded; the reset is released once the rails are
good. -/
def State.wakeUp (s : State) (w : WakeSource) : State :=
  let from_ := if s.power.state = .standby then 1 else 2
  { s with
    aon := { s.aon with cause := 7, also := 0, wakeFrom := from_, wakeSource := w.code, memory := 0, source := 0, addr := 0 }
    power := { s.power with
      state := .berm, service := .bootRom, inReset := true, recording := true, requested := false, pwrEn := true, linkEn := true,
      pwrEnAt := s.clk.elapsed, wakeLatch := none, wakeTimer := none, detector := [], quenched := true, driven := 0,
      dikeOverride := true } }

/-- Enabled wake patterns as they are copied at entry (R617): number, LENGTH, MASK and PATTERN. -/
def State.wakePatterns (s : State) : List Row :=
  ((List.range 4).filter (fun i => s.fld 0x141500 i 0 == 1)).map (fun i => i :: (s.row 0x141500 i).drop 1)

/-- The state that an entry ends in: its power state, AON.CAUSE.ENTRY, the wake timer or the pattern detector (R617, R632, R633). -/
def State.enterSleep (s : State) : Entry → State
  | .standby =>
    let t := s.railsOff .standby true
    { t with power := { t.power with detector := s.wakePatterns }, aon := { t.aon with entry := 1 } }
  | .hibernate none =>
    let t := s.railsOff .hibernate false
    { t with aon := { t.aon with entry := 1 } }
  | .hibernate (some n) =>
    let t := (s.railsOff .hibernate false).setWakeTimer n
    { t with aon := { t.aon with entry := 1 } }
  | .brownout n =>
    let t := (s.railsOff .hibernate false).setWakeTimer n
    { t with aon := { t.aon with entry := 2 } }

/-- POWER_ENTRY (R30, R32, R632): strands quenched, Crest dropped, PWR_EN deasserted. A wake latched during the entry follows at
once. -/
def execPowerEntry (s : State) : State :=
  match s.power.entry with
  | none => s
  | some e =>
    if s.power.requested || (s.power.inReset && s.power.state != .standby) then s
    else
      let s1 := s.enterSleep e
      match s.power.wakeLatch with
      | none => s1
      | some w => s1.wakeUp w

/-- The node is in LINK STANDBY or HIBERNATE. -/
def State.asleep (s : State) : Bool := s.power.state == .standby || s.power.state == .hibernate

/-- A wake trigger (R29, R32): during an entry it is latched; otherwise the node wakes from LINK STANDBY or HIBERNATE. -/
def State.trigger (s : State) (w : WakeSource) : State :=
  if s.power.entry.isSome then
    (if s.power.wakeLatch.isNone then s.setPower { s.power with wakeLatch := some w } else s)
  else if s.asleep then s.wakeUp w
  else s

/-- WAKE (R29, R32). -/
def execWake (s : State) : State := s.trigger .pin

/-- The first AON tick at or after an instant (R632, R686): 32.768 kHz from the rise of VAON. -/
def aonTick (e : Nat) : Nat := cdiv (cdiv (e * 32768) 1000000000 * 1000000000) 32768

/-- WAKE_TIMER (R632). -/
def execWakeTimer (s : State) : State :=
  match s.power.wakeTimer with
  | none => s
  | some t => if s.power.state = .hibernate then (s.advanceElapsed (aonTick t)).wakeUp .timer else s

/-- A frame matches a copied pattern, which may reach into its FCS (R618). -/
def wakeMatch (f : EthFrame) (v : Row) : Bool :=
  let len := v.getD 1 0
  let mask := beBytes 16 (v.getD 2 0)
  let pat := beBytes 128 (v.getD 3 0)
  let whole := f.bytes ++ ethFcs f.bytes
  f.fcsOk && decide (64 ≤ f.bytes.length + 4) && decide (f.bytes.length + 4 ≤ 1522) && decide (len ≤ f.bytes.length + 4) &&
    (List.range len).all (fun i => !(mask.getD (i / 8) 0).toNat.testBit (i % 8) || decide (whole.getD i 0 = pat.getD i 0))

/-- WAKE_PATTERN_MATCH (R618): the lowest-numbered pattern that matches, or WAKE when it is asserted in the same AON cycle. -/
def execWakePatternMatch (f : EthFrame) (wakeToo : Bool) (s : State) : State :=
  if s.power.state ≠ .standby then s
  else match s.power.detector.find? (wakeMatch f) with
    | none => s
    | some v => s.trigger (if wakeToo then .pin else .pattern (v.headD 0))

end Sys2Proof.Machine
end

