-- ==== Sys2Proof/Machine/Cancel.lean ====
section
/-! DEFINITION. Cancelling a task (R422 to R425). -/

namespace Sys2Proof.Machine

/-- Byte `i` of a task's parameters (R429). -/
def Task.byte (t : Task) (i : Nat) : Nat := (t.params.getD i 0#8).toNat

/-- The big-endian number of `n` bytes from byte `i` of the parameters. -/
def Task.nat (t : Task) (i n : Nat) : Nat := beNat ((t.params.drop i).take n)

/-- The maker of a write, seen through the task it runs under: a CORE task acts with the rights of the session that created it
(log entry 38). -/
def State.actor (s : State) (w : Who) : Origin :=
  match w.origin with
  | .weir =>
    let t := s.task (w.task % 1024)
    if t.createdBy < 64 then
      if (s.session t.createdBy).sid t.createdBy = t.session ∧ (s.session t.createdBy).slot ≠ 0xFF then .sealedSession t.createdBy
      else .openSession t.createdBy
    else .hspi
  | o => o

/-- The maker may cancel task t (R425). -/
def State.mayCancel (s : State) (w : Who) (t : Task) : Bool :=
  match s.actor w with
  | .openSession i => t.createdBy == i && t.session == (if w.origin = .weir then (s.task (w.task % 1024)).session else (s.session i).sid i)
  | _ => true

/-- A cancel of a RUNNING task (R423). A task that completes in the same cycle stands completed (R424). -/
def State.cancelRunning (s : State) (t : Task) : Nat × State :=
  match t.cls with
  | 3 =>
    let u := t.byte 0
    if t.byte 1 ≠ 1 then (stState, s)
    else if (s.fadeSettle u s.now).handleLive t.handle then (stOk, ((stopFade u (s.fadeSettle u s.now)).st).setRow 0x250100 u [0])
    else (stState, s.fadeSettle u s.now)
  | 4 =>
    let r := t.byte 0
    let s1 := s.pulseSettle r
    if (s1.pulse r).task = some t.handle then (stOk, (s1.setRow oPulse r (rput (s1.row oPulse r) 0 0)).pulseWritten r none) else (stState, s1)
  | _ => (stState, s)

/-- Cancel a handle: the answer's status and the state (R422). A maker without the right is refused before a retained handle is told
from a live one (log entry 40). -/
def State.cancelTask (s : State) (w : Who) (h : Nat) : Nat × State :=
  let t := s.task (h % 1024)
  if s.handleLive h then
    if h % 1024 < 64 || !s.mayCancel w t then (stAccess, s)
    else if t.state = 3 then s.cancelRunning t
    else (stOk, s.completeTask h stCancelled)
  else if s.handleRetained h then (if h % 1024 < 64 || !s.mayCancel w t then stAccess else stState, s)
  else (stNoObject, s)

/-- A write of OD 0x3002. -/
def writeCancel (w : Who) (h : Nat) (s : State) : WRes :=
  let r := s.cancelTask w h
  { status := r.1, handle := 0, st := r.2 }

end Sys2Proof.Machine
end

