-- ==== Sys2Proof/Machine/Objects.lean ====
section
/-! DEFINITION. Writing an object (R441 to R450): the order of the checks of R447, the checks and effects of each object's own chapter,
and where the value is kept. The named write commands and the EOP writes share these definitions. -/

namespace Sys2Proof.Machine

/-- What a chapter does with a value that has passed steps 1 to 4 of R447: the maker, the row, the value, the state. -/
abbrev Hook := Who → Nat → Row → State → WRes

/-! ## Access (R446) -/

/-- A read is allowed. -/
def mayRead (a : Acc) : Bool := a != .wo

/-- A write is allowed. -/
def mayWrite (a : Acc) (o : Origin) : Bool :=
  match a with
  | .ro => false
  | .c => originCritical o
  | _ => true

/-- Rules of other chapters that refuse a write with ACCESS (R85, R472, R473, R477, R577). -/
def barred (w : Who) (o r : Nat) : Bool :=
  if o = 0x111000 then decide (r = 0) || !w.byKey0
  else if o = 0x111100 then w.origin != .hspi
  else if o = 0x112000 then w.origin == .hspi || w.origin == .weir
  else if o = oFlow ∨ o = oFlowEnable then decide (r < 8)
  else if o = oPoolQueue then decide (r < 64)
  else false

/-! ## Where a value is kept (R448, R449) -/

/-- Put a value into the identity area (R448): it takes effect at the next start of full service. -/
def State.putIdentity (s : State) (o r : Nat) (v : Row) : State :=
  { s with flash := { s.flash with
      identity := tset [] s.flash.identity o (tset (dfltRow o r) (tget [] s.flash.identity o) r v) } }

/-- Row r of an identity object as stored. -/
def State.storedRow (s : State) (o r : Nat) : Row := tget (dfltRow o r) (tget [] s.flash.identity o) r

/-- An RWS object has changed (R449). -/
def State.changed (s : State) (o : Nat) : State :=
  let s1 := s.touchSettings
  { s1 with eop := { s1.eop with dirty := if s1.eop.dirty.contains o then s1.eop.dirty else s1.eop.dirty ++ [o] } }

/-- The write was accepted. -/
def accepted (status : Nat) : Bool := status == stOk || status == stAccepted

/-- An accepted write of an RWS object is to be saved. -/
def kept (d : ObjDef) (o : Nat) (r : WRes) : WRes :=
  if d.keep = .settings ∧ accepted r.status then { r with st := r.st.changed o } else r

/-! ## Rows (R445) -/

/-- Rows an object has room for. -/
def ObjDef.room (d : ObjDef) : Nat :=
  match d.shape with
  | .value => 1
  | .rows n => n
  | .upTo n => n
  | .domain => 0

/-- Row r of a growing table may be written: it exists, or it is the next one and there is room (R445). -/
def growOk (s : State) (d : ObjDef) (o r : Nat) : Bool :=
  match d.shape with
  | .upTo n => decide (r ≤ s.rowCount o) && decide (r < n)
  | _ => decide (r < d.room)

/-! ## A write in the order of R447 -/

/-- A value's bytes as a row, none when their number is wrong (R447 step 3). -/
def rowOf (d : ObjDef) (bs : List Byte) : Option Row :=
  if bs.length = rowBytes d.flds then some (splitFields d.flds bs) else none

/-- A number as a row of one field, none when it needs more bytes. -/
def numRow (d : ObjDef) (n : Nat) : Option Row := if n < 256 ^ rowBytes d.flds then some [n] else none

/-- Check and make a write of row r of object o. -/
def writeWith (hook : Hook) (w : Who) (o r : Nat) (v : ObjDef → Option Row) (s : State) : WRes :=
  match objDef o with
  | none => refuse s stNoObject
  | some d =>
    if !mayWrite d.acc w.origin || barred w o r then refuse s stAccess
    else match v d with
      | none => refuse s stType
      | some x =>
        if !rowInRange d.flds x || !growOk s d o r then refuse s stRange
        else kept d o (hook w r (mergeRow d.flds (s.row o r) x) s)

/-! ## Hooks -/

/-- A plain value. -/
def hkPlain (o : Nat) : Hook := fun _ r v s => done (s.setRow o r v)

/-- A plain value of the identity area. -/
def hkIdentity (o : Nat) : Hook := fun _ r v s => done (s.putIdentity o r v)

/-- A row of a growing table (R445). -/
def hkGrow (o : Nat) : Hook := fun _ r v s =>
  done ((s.setRow o r v).setRowCount o (max (s.rowCount o) (r + 1)))

/-- Key slot k has a new key: its checkpoints and marks are 0, and its sessions close once their answers have been sent (R473); an answer
that waited for a checkpoint, which is 0 now, leaves at once (log entry 55). -/
def State.keyWritten (s0 : State) (k : Nat) (key : List Byte) : State :=
  let s := (((s0.eop.sessions.filter (fun e => e.2.open_ && e.2.slot == k)).map (fun e => e.1)).foldl State.closeSession (s0.sendHeld k))
  { s with
    flash := { s.flash with keys := tset KeySlot.empty s.flash.keys k { key := key, rxK := 0, txK := 0 } }
    eop := { s.eop with
      rxHigh := tdel s.eop.rxHigh k
      txCount := tdel s.eop.txCount k
      rxStore := tdel s.eop.rxStore k
      txStore := tdel s.eop.txStore k } }

/-- OD 0x1110 row k (R473); with no provisioning key no request can be sealed with it (R472). -/
def writeKey (w : Who) (k : Nat) (v : Row) (s : State) : WRes :=
  if s.flash.otpKey.isEmpty then refuse s stAccess
  else if v.getD 0 0 = 1 then done (s.keyWritten k [])
  else
    let p := hmacSha256 s.flash.otpKey (uidBytes ++ beBytes 1 k ++ beBytes 8 w.counter)
    done (s.keyWritten k (xorBytes (beBytes 32 (v.getD 1 0)) p))

/-- OD 0x1111 (R472). -/
def writeProvisionKey (v : Row) (s : State) : WRes :=
  if !s.flash.otpKey.isEmpty then refuse s stLocked
  else done { s with flash := { s.flash with otpKey := beBytes 32 (v.headD 0) } }

/-- OD 0x1120 (R477): the mask of the session that writes. -/
def writeSubscribe (w : Who) (v : Row) (s : State) : WRes :=
  match w.origin with
  | .openSession i => done (s.setSession i { s.session i with mask := v.headD 0 })
  | .sealedSession i => done (s.setSession i { s.session i with mask := v.headD 0 })
  | _ => refuse s stAccess

/-- A running flow loses its rows (log entry 39): it drains, an open video frame closes incomplete, and what other flows still drain is
drained under the row they had. -/
def State.flowDefaults (s : State) (r : Nat) : State :=
  let s1 := if s.flowState r = 1 then s.drainFlow r else s
  let s2 := s1.closeFrame r
  if s2.flowState r = 2 then s2.setFlow r { s2.flow r with held := s2.flowRow r } else s2

/-- Everything that a running flow, Quire or port makes of settings returned to their defaults (log entry 39). -/
def State.defaultsTake (s : State) : State :=
  let s1 := (s.liveFlows.filter (fun r => decide (8 ≤ r))).foldl State.flowDefaults s
  let s2 := (List.range 16).foldl (fun st q => (st.quireModeTo q 0 true).2) s1
  let s3 := { s2 with ingest := { s2.ingest with ringLast := [] } }.loadObjs rwsObjs []
  let s3a := (List.range 256).foldl (fun st r => if st.fld oRegionStatus r 0 = 0 then st else st.regionOff r) s3
  let s4 := ((afterDomainEnable 1 (afterDomainEnable 0 (afterDomainMode s3a))).reselect 0).reselect 1
  ((s4.deviceEvents s).portsSettle).pauseGenAll

/-- OD 0x5001 (R450). -/
def writeSettingsDefault (v : Nat) (s : State) : WRes :=
  if v = 1 then done (((s.defaultsTake.touchSettings).setVal 0x100202 3).raise 6) else done s

/-- OD 0x1100.04 (R598). -/
def writeEopPorts (v : Row) (s : State) : WRes :=
  if eopPortsOk (v.headD 0) s then done (s.putIdentity 0x110004 0 v) else refuse s stState

/-- OD 0x3100 (R532). -/
def writeIntegRegion (r : Nat) (v : Row) (s : State) : WRes :=
  let base := v.getD 0 0
  let size := v.getD 1 0
  let rows := (List.range 8).map (fun i => if i = r then v else s.storedRow 0x310000 i)
  let others := (List.range 8).filter (fun i => i != r && decide (0 < (s.storedRow 0x310000 i).getD 1 0))
  let overlap := decide (0 < size) && others.any (fun i =>
    let u := s.storedRow 0x310000 i
    decide (base < u.getD 0 0 + u.getD 1 0) && decide (u.getD 0 0 < base + size))
  if base % 2 ^ 21 ≠ 0 ∨ size % 2 ^ 21 ≠ 0 ∨ overlap ∨ (0 < size ∧ s.shadowBase < base + size) ∨
      2 ^ 30 < (rows.map (fun u => u.getD 1 0)).sum then refuse s stRange
  else done (s.putIdentity 0x310000 r v)

/-- OD 0x3210 (R639). -/
def writeSafeLook (r : Nat) (v : Row) (s : State) : WRes :=
  if 416666 < 88 + v.getD 1 0 * (v.getD 2 0 + 10) + 16384 then refuse s stRange else done (s.putIdentity 0x321000 r v)

/-- OD 0x3221: the retention latch, four words. -/
def writeRetain (v : Row) (s : State) : WRes :=
  done { s with aon := { s.aon with retain := (List.range 4).map (fun i => BitVec.ofNat 32 (v.headD 0 / 2 ^ (32 * (3 - i)))) } }

/-- OD 0x1400 (R84, R92, R568). -/
def writeFlow (r : Nat) (v : Row) (s : State) : WRes :=
  if (fwType v = 1 ∧ 7 < fwIndex v) ∨ (fwType v = 2 ∧ 255 < fwIndex v) then refuse s stRange
  else if fwQueue v < 64 then refuse s stAccess
  else if s.flowState r ≠ 0 then refuse s stState
  else done (s.setRow oFlow r v)

/-- OD 0x1401: the value is stored when the enable passes. -/
def writeFlowEnableRow (r : Nat) (v : Row) (s : State) : WRes :=
  let x := writeFlowEnable r (v.headD 0) s
  if x.status = stOk then { x with st := x.st.setRow oFlowEnable r v } else x

/-- OD 0x2000 (R100, R106). -/
def writeVideo (r : Nat) (v : Row) (s : State) : WRes :=
  if !cadenceOk (v.getD 7 0) (v.getD 8 0) || (v.getD 2 0 == 0 && v.getD 0 0 % 2 == 1) then refuse s stRange
  else if s.indexLive 1 r then refuse s stState
  else done (s.setRow oVideo r v)

/-- OD 0x2001 (R100, R121). -/
def writeUniverse (r : Nat) (v : Row) (s : State) : WRes :=
  if s.indexLive 2 r then refuse s stState else done (s.setRow oUniverse r v)

/-- OD 0x2010 (R96). -/
def writeFence (f : Nat) (v : Nat) (s : State) : WRes :=
  if fenceCheck s f v = stOk then done (s.setFence f v) else refuse s (fenceCheck s f v)

/-- OD 0x2020 (R98, R100, R145, R211). -/
def writeFolio (f : Nat) (v : Row) (s : State) : WRes :=
  if !folioRunOk s v then refuse s stRange
  else if s.folioLive f || s.folioHeld f || s.wbackFolio f then refuse s stState
  else done (s.setRow oFolio f v)

/-- A visible RING-mode layer on ring r is on a head, or is carried by a queued commit (R145). -/
def State.ringLayered (s : State) (r : Nat) : Bool :=
  let uses := fun (v : Row) => lyVisible v && lyRingMode v && lyRing v == r
  (List.range 32).any (fun l => s.fld oLayerStatus l 0 != 0 && uses (s.row oLayerActive l)) ||
    [0, 1].any (fun h => (s.head h).waiting.any (fun c => c.layers.any (fun e => uses e.2 && lyHead e.2 == h + 1)))

/-- OD 0x2021 (R99, R100, R145, R211). -/
def writeRing (r : Nat) (v : Row) (s : State) : WRes :=
  if s.ringLive r || s.ringLayered r || s.wbackRing r then refuse s stState
  else done ({ s with ingest := { s.ingest with ringLast := tdel s.ingest.ringLast r } }.setRow oRing r v)

/-- OD 0x2600 (R333). -/
def writeGauge (c : Nat) (v : Row) (s : State) : WRes :=
  if gaugeModeOk c v then done (s.gaugeRow c v) else refuse s stRange

/-- OD 0x1310 (R70 to R75). -/
def writePulse (r : Nat) (v : Row) (s : State) : WRes :=
  if pulseOk v then done (s.writePulseRow r v none) else refuse s stRange

/-- OD 0x2501 (R310, R311). -/
def writeFadeArm (r : Nat) (v : Row) (s : State) : WRes :=
  let x := if v.headD 0 = 1 then armFade r none s else stopFade r s
  if x.status = stOk then { x with st := x.st.setRow 0x250100 r v } else x

/-- A write that may change the twin state, and what the update does about it (R658, R660). -/
def twinHook (f : Hook) : Hook := fun w r v s => let x := f w r v s; { x with st := State.afterTwin s x.st }

/-- The single value of a one-field row. -/
def v1 (v : Row) : Nat := v.headD 0

/-- Hooks of identity, time, port, memory, update and power objects. -/
def hooksA : List (Nat × Hook) := [
  (0x111000, writeKey),
  (0x111100, fun _ _ v => writeProvisionKey v),
  (0x112000, fun w _ v => writeSubscribe w v),
  (0x110004, fun _ _ v => writeEopPorts v),
  (0x500000, fun _ _ _ => writeReset),
  (0x500100, fun _ _ v => writeSettingsDefault (v1 v)),
  (0x502000, twinHook (fun _ _ v => writeDemote (v1 v))),
  (0x502100, twinHook (fun w _ v => writeHandoverAt w (v1 v))),
  (0x502200, twinHook (fun _ _ v => writeRejoin (v1 v))),
  (0x130005, fun _ _ v s => done (afterDomainMode (s.setRow oDomainMode 0 v))),
  (0x130009, fun _ _ v s => done (writeSwitchAt v s)),
  (0x130102, fun _ _ v s => done ((afterDomainEnable 0 (s.setRow 0x130102 0 v)).deviceEvents s)),
  (0x130202, fun _ _ v s => done ((afterDomainEnable 1 (s.setRow 0x130202 0 v)).deviceEvents s)),
  (0x130101, fun _ _ v s => done ((s.setRow 0x130101 0 v).reselect 0)),
  (0x130201, fun _ _ v s => done ((s.setRow 0x130201 0 v).reselect 1)),
  (0x130104, fun _ _ v s => done (((s.setRow 0x130104 0 v).reselect 0).deviceEvents s)),
  (0x130204, fun _ _ v s => done (((s.setRow 0x130204 0 v).reselect 1).deviceEvents s)),
  (0x130103, fun _ _ v s => done ((s.setRow 0x130103 0 v).reselect 0)),
  (0x130203, fun _ _ v s => done ((s.setRow 0x130203 0 v).reselect 1)),
  (0x131000, fun _ => writePulse),
  (0x141000, fun _ => writePort),
  (0x141100, fun _ r v => writePortEnable r (v1 v)),
  (0x141300, hkGrow 0x141300),
  (0x143000, fun _ => writePoolQueue),
  (0x300200, fun w _ v => writeCancel w (v1 v)),
  (0x310000, fun _ => writeIntegRegion),
  (0x311100, fun _ _ v => writeLogClear (v1 v)),
  (0x320100, fun w _ => writeDownload w),
  (0x320200, fun w _ v => writeVerify w (v1 v)),
  (0x320400, fun _ _ => writePrepare),
  (0x320500, fun _ _ v => writeCommit (v1 v)),
  (0x320600, fun _ _ v => writeAbort (v1 v)),
  (0x320700, fun _ _ v => writeConfirm (v1 v)),
  (0x321000, fun _ => writeSafeLook),
  (0x322100, fun _ _ => writeRetain),
  (0x500200, fun _ _ v => writeStandby (v1 v)),
  (0x500300, fun _ _ v => writeHibernate (v1 v))]

/-- Hooks of ingest, layers, heads, collation, Quires, light and calibration. -/
def hooksB : List (Nat × Hook) := [
  (0x140000, fun _ => writeFlow),
  (0x140100, fun _ => writeFlowEnableRow),
  (0x200000, fun _ => writeVideo),
  (0x200100, fun _ => writeUniverse),
  (0x201000, fun _ r v => writeFence r (v1 v)),
  (0x202000, fun _ => writeFolio),
  (0x202100, fun _ => writeRing),
  (0x210000, fun _ => writeLayer),
  (0x220000, fun _ => writeTiming),
  (0x220200, fun _ r v => writeHeadEnable r (v1 v)),
  (0x220400, fun _ r v => writeCommitArm r (v1 v)),
  (0x221000, fun _ => writeFreeze),
  (0x222000, fun _ => writeEgress),
  (0x222100, fun _ r v => writeEgressEnable r (v1 v)),
  (0x223000, fun _ => writeWback),
  (0x223100, fun _ r v => writeWbackEnable r (v1 v)),
  (0x230000, fun _ => writeMap),
  (0x240000, fun _ => writeQuire),
  (0x240100, fun _ => writeStrand),
  (0x240200, fun _ r v => writeQuireMode r (v1 v)),
  (0x240400, fun w _ => writeCameg w),
  (0x240500, fun w _ => writeEnumerate w),
  (0x240900, fun _ _ v => writeTeleBase (v1 v)),
  (0x240B00, fun _ _ v => writeShareBase (v1 v)),
  (0x240C00, fun _ r v => writeShare r (v1 v)),
  (0x250000, fun _ => writeFade),
  (0x250100, fun _ => writeFadeArm),
  (0x254000, fun _ => writeRegion),
  (0x254400, fun _ r v => writeRegionReset r (v1 v)),
  (0x256000, fun w _ v => writeShortTest w (v1 v)),
  (0x256200, hkGrow 0x256200),
  (0x257100, fun _ _ v => writeFaultClear (v1 v)),
  (0x260000, fun _ => writeGauge),
  (0x261000, fun _ => writeCalPin),
  (0x262000, fun w _ => writeRefSession w),
  (0x262100, fun _ _ v => writeRefReading (v1 v)),
  (0x262200, fun _ _ v => writeRefCancel (v1 v)),
  (0x262400, fun _ r v => writeGainReset r (v1 v)),
  (0x263100, fun _ _ v => writeCalStoreSave (v1 v))]

/-- What an object's chapter does with a write: a hook of its own, or the value is stored where the object is kept. -/
def hookOf (o : Nat) : Hook :=
  match ((hooksA ++ hooksB).find? (fun e => e.1 == o)).map (fun e => e.2) with
  | some h => h
  | none =>
    match objDef o with
    | some d => if d.keep = .identity then hkIdentity o else hkPlain o
    | none => hkPlain o

/-! ## Commits in slow domains (R506, R510) -/

def Culvert.init : Culvert := { addr := 0, hold := [], wheld := [], pending := false }

def State.culvert (s : State) (b : Nat) : Culvert := tget Culvert.init s.hspi.culverts b

def State.setCulvert (s : State) (b : Nat) (c : Culvert) : State :=
  { s with hspi := { s.hspi with culverts := tset Culvert.init s.hspi.culverts b c } }

/-- Longest commit in a block's domain, in ns: four cycles of GAUGE or AON, none elsewhere (R497). -/
def slowNs (b : Nat) : Nat := if b = 18 then 490 else if b = 23 then 123000 else 0

/-- A record of block b changes: in a slow domain the commit goes on for a free time of at most four of its cycles (R497, R506, log
entry 44). -/
def State.commitIn (s : State) (b : Nat) : State :=
  if slowNs b = 0 then s
  else
    let d := s.drawNat
    d.2.setCulvert b { d.2.culvert b with commit := d.2.clk.elapsed + 1 + d.1 % slowNs b }

/-- The slow block in which an object lives. -/
def slowHome (o : Nat) : Nat := if o = 0x260000 then 18 else if o = 0x322000 then 23 else 0

/-- An accepted write commits the object's record (R506). -/
def WRes.committed (r : WRes) (o : Nat) : WRes := if accepted r.status then { r with st := r.st.commitIn (slowHome o) } else r

/-- A write to a port row or its enable takes effect at once, but over EOP after its answer (R594). -/
def settlePorts (w : Who) (o : Nat) (r : WRes) : WRes :=
  if (o = oPort ∨ o = oPortEnable) ∧ !overEop w.origin then { r with st := r.st.portsTurn } else r

/-- Write row r of object o. -/
def writeObj (w : Who) (o r : Nat) (v : ObjDef → Option Row) (s : State) : WRes :=
  settlePorts w o ((writeWith (hookOf o) w o r v s).committed o)

/-- A write command of the table: the answer is recorded (log entry 13). -/
def State.command (s : State) (origin : Origin) (o r : Nat) (v : ObjDef → Option Row) : State :=
  (writeObj (Who.of origin) o r v s).record.portsSettle

/-- Truncate a growing table (R445). -/
def writeCount (o n : Nat) (d : ObjDef) (s : State) : WRes :=
  let c := s.rowCount o
  if c < n then refuse s stRange
  else if n = c then done s
  else
    let s1 := ((List.range (c - n)).foldl (fun st i => st.setRow o (n + i) (d.dflt (n + i))) s).setRowCount o n
    kept d o (done s1)

/-- A write of sub-index 0 of a table (R445). -/
def writeSub0 (w : Who) (o : Nat) (bs : List Byte) (d : ObjDef) (s : State) : WRes :=
  match d.shape with
  | .upTo _ =>
    if !mayWrite d.acc w.origin then refuse s stAccess
    else if bs.length ≠ 4 then refuse s stType
    else writeCount o (beNat bs) d s
  | _ => refuse s stAccess

end Sys2Proof.Machine
end

