-- ==== Sys2Proof/Machine/Weir.lean ====
section
/-! DEFINITION. The Weir: readiness, dispatch to cores and engines, deadlines (R409 to R421), and the submission of a cue graph
(R426 to R432). -/

namespace Sys2Proof.Machine

/-! ## Readiness and deadlines (R409 to R411) -/

/-- Flags of a task record (R428). -/
def Task.timed (t : Task) : Bool := t.flags.testBit 0
def Task.fenced (t : Task) : Bool := t.flags.testBit 1
def Task.bounded (t : Task) : Bool := t.flags.testBit 2

/-- Tick at which a task's deadline ends it. -/
def Task.deadTick (t : Task) : Nat := tickUp (ptNs t.deadline)

/-- A task that has not been dispatched waits. -/
def Task.waits (t : Task) : Bool := (t.state == 1 || t.state == 2) && !t.dispatched

/-- Order numbers of READY tasks start here, so that a pre-empted task can go before them all (R420). -/
def readyBase : Nat := 2 ^ 64

/-- A task whose gates are satisfied becomes READY; at its deadline it ends instead (R411), and a cancel of that cycle comes first
(R424). -/
def State.makeReady (s : State) (slot : Nat) : State :=
  let t := s.task slot
  if t.bounded ∧ t.deadTick ≤ s.now then (if s.cancelComes t.handle then s else s.completeTask t.handle stTimeout)
  else
    let s1 := { s with weir := { s.weir with rseq := s.weir.rseq + 1 } }
    s1.setTask slot { t with state := 2, readyAt := s.nowPt, rseq := readyBase + s.weir.rseq }

/-- TASK_READY: the task's counter is 0, its fence has reached its value, seen as before an advance of this same instant (R97), and its
time gate's tick comes. -/
def execTaskReady (slot : Nat) (s0 : State) : State :=
  let t := s0.task slot
  let s := if t.timed then s0.advanceTo (tickUp (ptNs t.gate)) else s0
  if t.state = 1 ∧ t.counter = 0 ∧ (!t.fenced ∨ reached (s.fenceSeen t.fence s.tbUnits) t.fenceVal) then s.makeReady slot else s0

/-- TASK_DEADLINE: a task not dispatched by the tick of its deadline; a cancel of that cycle comes first (R424). -/
def execTaskDeadline (slot : Nat) (s0 : State) : State :=
  let t := s0.task slot
  if t.bounded ∧ t.waits then
    let s := s0.advanceTo t.deadTick
    if s.cancelComes t.handle then s else s.completeTask t.handle stTimeout
  else s0

/-- The tasks whose deadline has come before their dispatch complete (R411). -/
def State.overdue (s : State) : State :=
  ((s.weir.slots.filter (fun e => e.2.bounded && e.2.waits && decide (e.2.deadTick ≤ s.now) && !s.cancelComes e.2.handle)).map
    (fun e => e.2.handle)).foldl (fun st h => st.completeTask h stTimeout) s

/-- The cancels of this instant have been applied: a task that one of them left alone meets the failure of its predecessor, or its
deadline, after all (R424). -/
def State.cancelsDone (s : State) : State :=
  (((s.weir.slots.filter (fun e => e.2.failDue && e.2.state != 0 && !s.cancelComes e.2.handle)).map (fun e => e.2.handle)).foldl
    (fun st h => st.completeTask h stPredFailed) s).overdue

/-! ## The ready lists (R417, R418) -/

/-- Task t leaves a list before task u: slots and tasks. Tasks that became READY in one cycle leave in slot order. -/
def leavesBefore (a b : Nat × Task) : Bool :=
  if a.2.prio ≠ b.2.prio then decide (b.2.prio < a.2.prio)
  else if decide (a.1 < 64) ≠ decide (b.1 < 64) then decide (a.1 < 64)
  else if a.2.readyAt = b.2.readyAt ∧ readyBase ≤ a.2.rseq ∧ readyBase ≤ b.2.rseq then decide (a.1 < b.1)
  else if a.2.rseq ≠ b.2.rseq then decide (a.2.rseq < b.2.rseq)
  else decide (a.1 < b.1)

/-- An earlier task of the same ordering domain is still WAITING or READY (R418). -/
def State.heldByDomain (s : State) (t : Task) : Bool :=
  t.domain != 0 && !t.dispatched && s.weir.slots.any (fun e => e.2.domain == t.domain && e.2.waits && decide (e.2.seq < t.seq))

/-- Quire of a CAMEG task. -/
def Task.quire (t : Task) : Nat := t.byte 0

/-- A task can leave its list: its domain lets it, no cancel for it arrives in this cycle, and the Quire of a CAMEG task holds fewer than
16 requests (R421). -/
def State.mayLeave (s : State) (t : Task) : Bool :=
  !s.heldByDomain t && !s.cancelComes t.handle && !(t.cls == 5 && s.requestsFull t.quire)

/-- The task that leaves class c's list first. -/
def State.nextTask (s : State) (c : Nat) : Option (Nat × Task) :=
  (s.weir.slots.filter (fun e => e.2.state == 2 && e.2.cls == c && s.mayLeave e.2)).foldl
    (fun best e => match best with
      | none => some e
      | some b => if leavesBefore e b then some e else best) none

/-! ## Cores (R419, R420) -/

/-- The core that takes a host task: cores 0 to 4 take host tasks. -/
def State.idleCore (s : State) : Option Nat := [0, 1, 2, 3, 4].find? (fun k => (tfind s.weir.cores k).isNone)

/-- The core whose host task is pre-empted for priority p. -/
def State.victim (s : State) (p : Nat) : Option (Nat × CoreRun) :=
  (s.weir.cores.filter (fun e => decide (e.1 < 5) && decide (e.2.prio < p))).foldl
    (fun best e => match best with
      | none => some e
      | some b => if e.2.prio < b.2.prio ∨ (e.2.prio = b.2.prio ∧ b.2.order < e.2.order) then some e else best) none

/-- A core begins a task. -/
def State.startCore (s : State) (k : Nat) (t : Task) : State :=
  let run : CoreRun := { handle := t.handle, prio := t.prio, since := s.nowPt, order := s.weir.rseq }
  { s with weir := { s.weir with cores := tins s.weir.cores k run, rseq := s.weir.rseq + 1 } }

/-- The context of a task saved into its slot's 512 bytes of the Vault (R22, R420); its layout is free (log entry 79). -/
def State.saveContext (s : State) (slot : Nat) : State :=
  { s with weir := { s.weir with
      saved := s.weir.saved.put (512 * slot) ((List.range 512).map (Config.contextByte 0 s.weir.saves))
      saves := s.weir.saves + 1 } }

/-- The task on a core goes back to the head of its priority, its context saved (R420). -/
def State.preempt (s : State) (e : Nat × CoreRun) : State :=
  let slot := e.2.handle % 1024
  let t := s.task slot
  let first := (s.weir.slots.filter (fun x => x.2.state == 2 && x.2.cls == 0 && x.2.prio == t.prio)).foldl (fun m x => min m x.2.rseq) readyBase
  (((s.freeCore t.handle).saveContext slot).setTask slot { t with state := 2, rseq := first - 1 }).bump oWeirCnt 0 4

/-- The task becomes RUNNING; its first dispatch is counted. -/
def State.running (s : State) (slot : Nat) : State :=
  let t := s.task slot
  let s1 := s.setTask slot { t with state := 3, dispatched := true }
  if t.dispatched then s1 else s1.bump oWeirCnt 0 3

/-- A CORE task on core k: OP 0 completes at once (R429). -/
def State.coreTakes (s : State) (k slot : Nat) : State :=
  let t := s.task slot
  let s1 := (s.running slot).startCore k t
  if t.nat 0 2 = 0 then s1.completeTask t.handle stOk else s1

/-- Dispatch from the CORE list. -/
def State.dispatchCore (s : State) (slot : Nat) (t : Task) : State :=
  match s.idleCore with
  | some k => s.coreTakes k slot
  | none =>
    if t.prio < s.val 0x300003 then s
    else match s.victim t.prio with
      | none => s
      | some e => (s.preempt e).coreTakes e.1 slot

/-! ## Engines (R416, R421, R429) -/

/-- The maker of a Weir task's write. -/
def Task.who (t : Task) : Who := { origin := .weir, task := t.handle, counter := 0, byKey0 := false }

/-- START as START_MODE READY writes it (R429). -/
def Task.readyStart (t : Task) : Nat := nsPt (ptNs t.readyAt / 1000 * 1000 + t.nat 4 4)

/-- A task whose write was refused completes with the refusal's status. -/
def State.orRefused (s : State) (t : Task) (status : Nat) : State := if accepted status then s else s.completeTask t.handle status

/-- COMMIT_A and COMMIT_B. -/
def State.engineCommit (s : State) (t : Task) : State :=
  let r := s.armCommit (t.cls - 1) ((t.byte 0).testBit 0) (some t.handle)
  if r.1 = 0 then r.2 else r.2.completeTask t.handle stState

/-- FADE: under START_MODE READY the row's START is written first, whatever the action; a write refused there ends the task with its
status (R416, R429, log entry 41). -/
def State.engineFade (s : State) (t : Task) : State :=
  let u := t.byte 0
  let w := if t.byte 2 = 1 then writeFade u (rput (s.row oFade u) 6 t.readyStart) s else done s
  if !accepted w.status then w.st.completeTask t.handle w.status
  else if t.byte 1 = 0 then
    let r := stopFade u w.st
    (r.st.setRow 0x250100 u [0]).completeTask t.handle r.status
  else
    let st := w.st.fadeSettle u w.st.now
    if st.fadeState u = 1 ∨ st.fadeState u = 2 then w.st.completeTask t.handle stState
    else
      let r := armFade u (some t.handle) w.st
      (r.st.setRow 0x250100 u [1]).orRefused t r.status

/-- PULSE. -/
def State.enginePulse (s : State) (t : Task) : State :=
  let r := t.byte 0
  let v := rput (s.row oPulse r) 0 (t.byte 1)
  let v := if t.byte 2 = 1 then rput v 2 t.readyStart else v
  if pulseOk v then s.writePulseRow r v (some t.handle) else s.completeTask t.handle stRange

/-- CAMEG: the bytes of OD 0x2404 or OD 0x2405. -/
def State.engineCameg (s : State) (t : Task) : State :=
  let row := fun (o n : Nat) => splitFields ((objDef o).map (fun d => d.flds) |>.getD []) (t.params.take n)
  let r := if t.byte 12 = 0 then writeCameg t.who (row 0x240400 12) s else writeEnumerate t.who (row 0x240500 4) s
  r.st.orRefused t r.status

/-- TWIN. -/
def State.engineTwin (s : State) (t : Task) : State :=
  match t.byte 0 with
  | 0 =>
    let r := writeDemote 1 s
    (State.afterTwin s r.st).completeTask t.handle r.status
  | 1 =>
    let r := writeHandoverAt t.who (t.nat 2 10) s
    r.st.orRefused t r.status
  | _ =>
    let r := writeRejoin 1 s
    (State.afterTwin s r.st).completeTask t.handle r.status

/-- An engine takes the task. -/
def State.engineTakes (s : State) (t : Task) : State :=
  match t.cls with
  | 1 => s.engineCommit t
  | 2 => s.engineCommit t
  | 3 => s.engineFade t
  | 4 => s.enginePulse t
  | 5 => s.engineCameg t
  | 6 => s.engineTwin t
  | _ => s.deviceDone t.handle

/-- TASK_DISPATCH: the task that leaves class c's list. -/
def execTaskDispatch (c : Nat) (s0 : State) : State :=
  let s := s0.overdue
  match s.nextTask c with
  | none => s
  | some (slot, t) => if c = 0 then s.dispatchCore slot t else (s.running slot).engineTakes t

/-- TASK_COMPLETE: a core has done its task. A core that fails completes it INTERNAL; otherwise it makes the task's write, and the task
completes with that write's status, or later under the same handle when it was ACCEPTED (R416). -/
def execTaskComplete (slot status : Nat) (s : State) : State :=
  let t := s.task slot
  if t.state = 3 ∧ t.cls = 0 ∧ s.weir.cores.any (fun e => e.2.handle == t.handle) then
    if status = stInternal then s.completeTask t.handle stInternal
    else
      let o := t.nat 2 2 * 256 + t.byte 4
      let r := writeObj t.who o 0 (fun d => rowOf d ((t.params.drop 8).take (t.byte 5))) s
      if r.status = stAccepted then r.st.freeCore t.handle else r.st.completeTask t.handle r.status
  else s

/-! ## A cue graph (R426 to R431) -/

/-- A graph as read from its bytes: records of 48 and edges of 8. -/
structure Graph where
  tasks : List (List Byte)
  edges : List (List Byte)

/-- Byte and number of a record. -/
def rB (r : List Byte) (i : Nat) : Nat := (r.getD i 0#8).toNat
def rN (r : List Byte) (i n : Nat) : Nat := beNat ((r.drop i).take n)

/-- Cut bytes into pieces of n; `k` pieces. -/
def pieces (n : Nat) : Nat → List Byte → List (List Byte)
  | 0, _ => []
  | k + 1, bs => bs.take n :: pieces n k (bs.drop n)

/-- Tasks and edges that a header announces. -/
def graphN (p : List Byte) : Nat := rB p 1
def graphE (p : List Byte) : Nat := rN p 2 2

def readGraph (p : List Byte) : Graph :=
  { tasks := pieces 48 (graphN p) (p.drop 8), edges := pieces 8 (graphE p) (p.drop (8 + 48 * graphN p)) }

/-- Every byte from `i` on is 0. -/
def zeroFrom (p : List Byte) (i : Nat) : Bool := (p.drop i).all (· == 0)

/-- PARAMS in range by class (R429). -/
def paramsOk (cls : Nat) (p : List Byte) : Bool :=
  let flds := fun (o : Nat) => (objDef o).map (fun d => d.flds) |>.getD []
  match cls with
  | 0 => decide (rN p 0 2 ≤ 1) && rN p 6 2 == 0 && (rN p 0 2 == 0 || (decide (1 ≤ rB p 5) && decide (rB p 5 ≤ 8)))
  | 1 => decide (rB p 0 ≤ 1) && zeroFrom p 1
  | 2 => decide (rB p 0 ≤ 1) && zeroFrom p 1
  | 3 => decide (rB p 1 ≤ 1) && decide (rB p 2 ≤ 1) && rB p 3 == 0 && decide (rN p 4 4 ≤ 999999999) && zeroFrom p 8
  | 4 => decide (rB p 0 ≤ 7) && decide (rB p 1 ≤ 2) && decide (rB p 2 ≤ 1) && rB p 3 == 0 && decide (rN p 4 4 ≤ 999999999) && zeroFrom p 8
  | 5 => decide (rB p 12 ≤ 1) && zeroFrom p 13 &&
      (if rB p 12 = 0 then rowInRange (flds 0x240400) (splitFields (flds 0x240400) (p.take 12))
       else rowInRange (flds 0x240500) (splitFields (flds 0x240500) (p.take 4)) && (rN p 4 8 == 0))
  | _ => decide (rB p 0 ≤ 2) && rB p 1 == 0 && zeroFrom p 12 && (rB p 0 != 1 || ptOk (rN p 2 10))

/-- A task record in range (R428). -/
def recordOk (r : List Byte) : Bool :=
  let fl := rB r 3
  decide (rB r 0 ≤ 6) && decide (rB r 1 ≤ 7) && decide (fl < 16) &&
    (!fl.testBit 0 || ptOk (rN r 4 10)) &&
    (!fl.testBit 2 || (ptOk (rN r 14 10) && (!fl.testBit 0 || decide (ptNs (rN r 4 10) < ptNs (rN r 14 10))))) &&
    rB r 25 == 0 && rN r 30 2 == 0 && paramsOk (rB r 0) (r.drop 32)

/-- An edge record in range (R430, R431). -/
def edgeOk (n : Nat) (r : List Byte) : Bool :=
  decide (rB r 0 < 4) && decide (rB r 1 < n) && rN r 2 2 == 0 && ((rB r 0).testBit 0 || decide (rN r 4 4 < rB r 1))

/-- Predecessors of record i. -/
def predsOf (es : List (List Byte)) (i : Nat) : Nat := (es.filter (fun r => rB r 1 == i)).length

/-- The record is a CORE WRITE, and the object it names. -/
def isCoreWrite (r : List Byte) : Bool := rB r 0 == 0 && rN r 32 2 == 1
def writeTarget (r : List Byte) : Nat := rN r 34 2 * 256 + rB r 36

/-- Numbers of the diagnostics range, whose writes are answered ACCESS (R442). -/
def diagnostic (o : Nat) : Bool := decide (0xF00000 ≤ o)

/-- Check 3 of R431 for a record. -/
def coreObject (r : List Byte) : Nat :=
  if !isCoreWrite r || diagnostic (writeTarget r) then stOk
  else if 0xA000 ≤ writeTarget r / 256 ∧ writeTarget r / 256 ≤ 0xA01F then stType
  else match objDef (writeTarget r) with
    | none => stNoObject
    | some d => if d.shape = .value ∧ rowBytes d.flds = rB r 37 then stOk else stType

/-- Check 4 of R431 for a record. -/
def coreAccess (critical : Bool) (r : List Byte) : Nat :=
  if rB r 0 = 6 then (if critical then stOk else stAccess)
  else if !isCoreWrite r then stOk
  else match objDef (writeTarget r) with
    | none => stAccess
    | some d => if d.acc = .ro ∨ (d.acc = .c ∧ !critical) then stAccess else stOk

/-- Overflow edges that a graph needs (R415). -/
def State.edgesNeeded (s : State) (g : Graph) : Nat :=
  let local_ := (List.range g.tasks.length).map (fun i => (g.edges.filter (fun r => !(rB r 0).testBit 0 && rN r 4 4 == i)).length - 4)
  let froms := ((g.edges.filter (fun r => (rB r 0).testBit 0 && s.handleLive (rN r 4 4))).map (fun r => rN r 4 4))
  let more := froms.eraseDups.map (fun h =>
    let have_ := (s.task (h % 1024)).edges.length
    (have_ + (froms.filter (· == h)).length - 4) - (have_ - 4))
  local_.sum + more.sum

/-- First index of a list whose status is not OK. -/
def firstBad (st : List Byte → Nat) : Nat → List (List Byte) → Option (Nat × Nat)
  | _, [] => none
  | i, r :: rs => if st r = stOk then firstBad st (i + 1) rs else some (st r, i)

/-- A Bool check as a status. -/
def rangeOf (ok : Bool) : Nat := if ok then stOk else stRange

/-- Status and offending part of a refused graph, none when it is accepted (R431). -/
def State.graphBad (s : State) (critical : Bool) (p : List Byte) : Option (Nat × Nat) :=
  if p.length < 8 ∨ rB p 0 ≠ 1 ∨ p.length ≠ 8 + 48 * graphN p + 8 * graphE p then some (stType, 0xFFFF)
  else if graphN p < 1 ∨ 64 < graphN p ∨ 256 < graphE p ∨ rN p 4 4 ≠ 0 then some (stRange, 0xFFFF)
  else
    let g := readGraph p
    match firstBad (fun r => rangeOf (recordOk r)) 0 g.tasks with
    | some x => some x
    | none =>
    match firstBad (fun r => rangeOf (edgeOk g.tasks.length r)) 0 g.edges with
    | some x => some (x.1, 0x100 + x.2)
    | none =>
    match (List.range g.tasks.length).find? (fun i => decide (255 < predsOf g.edges i)) with
    | some i => some (stRange, i)
    | none =>
    match firstBad coreObject 0 g.tasks with
    | some x => some x
    | none =>
    match firstBad (coreAccess critical) 0 g.tasks with
    | some x => some x
    | none =>
    match firstBad (fun r => if !(rB r 0).testBit 0 || s.handleLive (rN r 4 4) || s.handleRetained (rN r 4 4) then stOk else stNoObject) 0 g.edges with
    | some x => some (x.1, 0x100 + x.2)
    | none => if s.hostFree < g.tasks.length ∨ 4096 - s.edgesUsed < s.edgesNeeded g then some (stResource, 0xFFFF) else none

/-- A task record as a task (R428), of a maker. -/
def recordTask (s : State) (w : Who) (preds : Nat) (r : List Byte) : Task :=
  { Task.init with
    state := 1, cls := rB r 0, prio := rB r 1, domain := rB r 2, counter := preds, createdBy := originBy w.origin,
    session := s.originSession w.origin, flags := rB r 3, gate := rN r 4 10, deadline := rN r 14 10, fence := rB r 24,
    fenceVal := rN r 26 4, params := r.drop 32 }

/-- Create the tasks in record order: their handles. -/
def State.createTasks (s : State) (w : Who) (es : List (List Byte)) : Nat → List (List Byte) → List Nat × State
  | _, [] => ([], s)
  | i, r :: rs =>
    match s.allocTask (recordTask s w (predsOf es i) r) with
    | none => ([], s)
    | some (h, s1) =>
      let q := State.createTasks s1 w es (i + 1) rs
      (h :: q.1, q.2)

/-- Attach an edge to its live predecessor; a retained one acts afterwards. -/
def State.attach (s : State) (hs : List Nat) (r : List Byte) : State :=
  let e : Edge := { dst := hs.getD (rB r 1) 0, propagate := (rB r 0).testBit 1 }
  let from_ := if (rB r 0).testBit 0 then rN r 4 4 else hs.getD (rN r 4 4) 0
  if s.handleLive from_ then
    let t := s.task (from_ % 1024)
    s.setTask (from_ % 1024) { t with edges := t.edges ++ [e] }
  else s

/-- An edge from a retained handle acts at creation (R430). `before` is the state before the graph's tasks took their slots. -/
def State.retainedEdge (before s : State) (hs : List Nat) (r : List Byte) : State :=
  let h := rN r 4 4
  if (rB r 0).testBit 0 ∧ before.handleRetained h then
    let q := s.actEdge (before.task (h % 1024)).status { dst := hs.getD (rB r 1) 0, propagate := (rB r 0).testBit 1 }
    match q.1 with
    | some x => q.2.completeTask x stPredFailed
    | none => q.2
  else s

/-- A task created with its deadline already past (R411). -/
def State.lateTask (s : State) (h : Nat) : State :=
  let t := s.task (h % 1024)
  if s.handleLive h ∧ t.bounded ∧ t.deadTick ≤ s.now then s.completeTask h stTimeout else s

/-- The tasks of an accepted graph: their handles (R426, R432). -/
def State.createGraph (s : State) (w : Who) (g : Graph) : List Nat × State :=
  let r := s.createTasks w g.edges 0 g.tasks
  let s1 := g.edges.foldl (fun st e => st.attach r.1 e) r.2
  let s2 := g.edges.foldl (fun st e => State.retainedEdge s st r.1 e) s1
  (r.1, r.1.foldl State.lateTask s2)

/-- SUBMIT of a graph (R431, R432): status, handle, answer data and state. -/
def State.submitGraph (s0 : State) (w : Who) (p : List Byte) : Nat × Nat × List Byte × State :=
  let s := s0.bump oWeirCnt 0 0
  match s.graphBad (originCritical w.origin) p with
  | some (st, part) => (st, 0, beBytes 2 part, s.bump oWeirCnt 0 1)
  | none =>
    let r := s.createGraph w (readGraph p)
    (stAccepted, r.1.headD 0, r.1.flatMap (beBytes 4), r.2)

end Sys2Proof.Machine
end

