-- ==== Sys2Proof/Machine/Read.lean ====
section
/-! DEFINITION. Reading an object (R441, R445, R457): the rows a table has, and every value that is not stored at its object number but
computed from the state. -/

namespace Sys2Proof.Machine

/-! ## Rows held elsewhere -/

/-- OD 0x1112 row k (R474): PRESENT, CHECK, H and T. -/
def State.readKeyStatus (s : State) (k : Nat) : Row :=
  if s.hasKey k then
    [1, beNat ((hmacSha256 (s.slotKey k) uidBytes).take 4), tget 0 s.eop.rxHigh k, tget 0 s.eop.txCount k]
  else [0, 0, 0, 0]

/-- OD 0x1121 row i. -/
def State.readSession (s : State) (i : Nat) : Row :=
  let x := s.session i
  if x.open_ then [x.sid i, x.slot, x.ip, x.udp, nsPt x.last, x.mask, x.evSeq] else [0xFFFF, 0, 0, 0, 0, 0, 0]

/-- OD 0x3010 row i (R440). -/
def State.readTask (s : State) (i : Nat) : Row :=
  let t := s.task i
  [t.handle, t.state, t.status, t.cls, t.prio, t.domain, t.counter, t.createdBy, t.readyAt, t.doneAt]

/-- OD 0x3012 row d (R440): the oldest task of the domain not dispatched, and how many there are. -/
def State.readDomain (s : State) (d : Nat) : Row :=
  let ts := (s.weir.slots.filter (fun e => e.2.domain == d && e.2.waits)).map (fun e => e.2)
  let old := ts.foldl (fun (b : Option Task) t => match b with
    | none => some t
    | some x => if t.seq < x.seq then some t else b) none
  [(old.map (fun t => t.handle)).getD 0, ts.length]

/-- OD 0x3013 row k. -/
def State.readCore (s : State) (k : Nat) : Row :=
  match tfind s.weir.cores k with
  | some x => [x.handle, x.prio, x.since]
  | none => [0, 0, 0]

/-- OD 0x3120. -/
def State.readDramInfo (s : State) : Row :=
  [s.installed, s.shadowBase, s.integ.channels, b2n (s.integ.training == 2)]

/-- The retention latch as OCTETS(16): byte 4i of the value is bits [31:24] of AON.RETAINi (log entry 42). -/
def State.readRetain (s : State) : Row := [s.aon.retain.foldl (fun a w => a * 2 ^ 32 + w.toNat) 0]

/-- OD 0x2102 row l: the alpha a fade unit gives, and that unit (R164). -/
def State.readLayerStatus (s : State) (l : Nat) : Row :=
  let v := s.row oLayerStatus l
  match s.boundUnit 1 l with
  | some f => v.set 3 f
  | none => v.set 3 0xFFFF

/-- Measured values no rule computes (R701): die temperature and rails, free values (log entry 6). -/
def State.readMeasured (s : State) (o r : Nat) : Row :=
  let v := fun (k n : Nat) => Config.freeNat (s.freeIdx + 16 * r + k) % 2 ^ n
  if o = 0x433000 then [v 0 32, v 1 32] else (s.row o r).set 0 (v 0 16) |>.set 1 (v 1 16)

/-- A measured object has been read: the next reading is another one. -/
def State.measuredRead (s : State) (o : Nat) : State :=
  if o = 0x433000 ∨ o = 0x433100 then { s with freeIdx := s.freeIdx + 256 } else s

/-! ## Rows of a table -/

/-- Input of a capture table. -/
def captureOf (o : Nat) : Option Nat :=
  if o = 0x132100 then some 0 else if o = 0x132200 then some 1 else if o = 0x132300 then some 2 else if o = 0x132400 then some 3 else none

/-- Rows a table holds now. -/
def State.tableRows (s : State) (d : ObjDef) (o : Nat) : Nat :=
  match captureOf o with
  | some i => (s.captures i).length
  | none =>
    if o = 0x311000 then s.integ.log.length
    else match d.shape with
      | .rows n => n
      | .upTo _ => s.rowCount o
      | _ => 0

/-- Values read from their own place, first part: identity, time (NODE_TIME: log entry 78), ports. -/
def State.readA (s : State) (o r : Nat) : Option Row :=
  match o with
  | 0x100002 => some [Config.stepping.toNat]
  | 0x100003 => some [Config.uid.toNat]
  | 0x100004 => some [(s.slot s.update.running).version]
  | 0x100005 => some [s.flash.bootCount]
  | 0x100006 => some [s.aon.copyCause % 8]
  | 0x111200 => some (s.readKeyStatus r)
  | 0x112100 => some (s.readSession r)
  | 0x130001 => some [nsPt (s.time.snap / 65536)]
  | 0x130300 => some [s.diffNow]
  | 0x140000 => some (s.flowShown r)
  | 0x140100 => if r < 8 then some [b2n (deviceOn s r)] else none
  | 0x140200 => if r < 8 then some [b2n (deviceOn s r)] else none
  | 0x141200 => some ((s.row oPortState r).set 2 (b2n (s.pausedNow r)))
  | 0x141700 => some [macOf r]
  | 0x143100 => some (s.readLevel r)
  | _ => (captureOf o).map (fun i => (s.captures i).getD r [])

/-- Second part: Weir, memory, boot and power. -/
def State.readB (s : State) (o r : Nat) : Option Row :=
  match o with
  | 0x300001 => some [s.hostFree]
  | 0x300002 => some [4096 - s.edgesUsed]
  | 0x301000 => some (s.readTask r)
  | 0x301100 => some (s.weir.log.getD r [0, 0, 0])
  | 0x301200 => some (s.readDomain r)
  | 0x301300 => some (s.readCore r)
  | 0x311000 => some (s.integ.log.getD r [])
  | 0x311300 => some ((s.row 0x311300 r).set 3 (s.behind r))
  | 0x312000 => some s.readDramInfo
  | 0x320000 => some s.readUpdate
  | 0x320A00 => some (s.readSlot r)
  | 0x322100 => some s.readRetain
  | 0x432000 => some (((List.range 7).map (fun c => tget 0 s.flash.resets (c + 1))) ++ (s.row 0x432000 0).drop 7)
  | 0x433000 => some (s.readMeasured o r)
  | 0x433100 => some (s.readMeasured o r)
  | _ => none

/-- Third part: ring histories (R105: rows whose k is COUNT or more read as cleared), the Crest of now, layers, heads, Quires and light. -/
def State.readC (s : State) (o r : Nat) : Option Row :=
  match o with
  | 0x121100 => some ((s.row 0x121100 0).set 2 s.crest)
  | 0x202200 => some (if r % 4 < s.ringCount (r / 4) then s.row oHistory r else [0, 0, 0, 0, 0])
  | 0x210200 => some (s.readLayerStatus r)
  | 0x220500 => some ((s.row oCommitStatus r).set 0 (s.head r).queue.length)
  | 0x240800 => some (s.readTele r)
  | 0x240A00 => some ((s.row oWire r).set 0 (s.wireD r))
  | 0x240C00 => some (s.readShare r)
  | 0x250200 => some ((s.row oFadeStatus r).set 2 (s.fadeReported r))
  | _ => none

/-- Row r of object o as a read finds it. -/
def State.readRow (s : State) (o r : Nat) : Row :=
  match s.readA o r with
  | some v => v
  | none => match s.readB o r with
    | some v => v
    | none => match s.readC o r with
      | some v => v
      | none => s.row o r

/-- Bytes of row r of object o. -/
def State.readBytes (s : State) (d : ObjDef) (o r : Nat) : List Byte := joinFields d.flds (s.readRow o r)

/-- The DRAM words that a row of OD 0x2408 or OD 0x240C is read from are read (R303, R541). -/
def State.rowWords (s : State) (o r : Nat) : State :=
  if o = 0x240800 then (if s.val oTeleBase = 0 then s else s.dramRead (s.val oTeleBase + 16 * r) 16)
  else if o = 0x240C00 then (if s.val oShareBase = 0 then s else s.dramRead (s.val oShareBase + 4 * r) 4)
  else s

/-- Reading row 0 of a capture table removes it (R81). -/
def State.rowRead (s : State) (o r : Nat) : State :=
  match captureOf o with
  | some i => if r = 0 then s.setCaptures i ((s.captures i).drop 1) else s
  | none => (s.measuredRead o).rowWords o r

end Sys2Proof.Machine
end

