-- ==== Sys2Proof/Machine/CulvMap.lean ====
section
/-! DEFINITION. The Culvert homes that the object tables give (R506 to R509): for each block, the word index of each object's first
record. A record of n bytes takes the next words, as many as hold n bytes; rows follow each other, up to the next home (log entry 43). -/

namespace Sys2Proof.Machine

/-- Homes in blocks 1 to 9: block, word index, object. The MAC blocks share theirs, under block 6. -/
def homesA : List (Nat × Nat × Nat) := [
  (1, 0x0, 0x400000), (1, 0x100, 0x400100),
  (2, 0x0, 0x300002), (2, 0x1, 0x300003), (2, 0x2, 0x300200), (2, 0x100, 0x300100), (2, 0x10000, 0x301000),
  (2, 0x20000, 0x301100), (2, 0x30000, 0x301200), (2, 0x31000, 0x301300), (2, 0x40000, 0x430000),
  (3, 0x0, 0x310100), (3, 0x100, 0x310200), (3, 0x101, 0x310300), (3, 0x102, 0x310400), (3, 0x1000, 0x311000),
  (3, 0x1100, 0x311100), (3, 0x1200, 0x311300), (3, 0x2000, 0x431000),
  (4, 0x0, 0x312000), (4, 0x100, 0x431100),
  (5, 0x0, 0x143000), (5, 0x1000, 0x143100), (5, 0x2000, 0x143200), (5, 0x10000, 0x415000),
  (6, 0x0, 0x141000), (6, 0x40, 0x141100), (6, 0x44, 0x141200), (6, 0x1000, 0x416000)]

/-- Homes of one MAC block only. -/
def homesMac : List (Nat × Nat × Nat) := [(6, 0x100, 0x141300), (8, 0x200, 0x141400), (8, 0x210, 0x141600), (8, 0x400, 0x141500)]

/-- Homes in FLOW and TIME. -/
def homesB : List (Nat × Nat × Nat) := [
  (10, 0x0, 0x140000), (10, 0x10000, 0x140100), (10, 0x11000, 0x140200), (10, 0x12000, 0x140300), (10, 0x20000, 0x200000),
  (10, 0x20100, 0x200100), (10, 0x21000, 0x201000), (10, 0x21100, 0x201100), (10, 0x22000, 0x202000), (10, 0x23000, 0x202100),
  (10, 0x23100, 0x202200), (10, 0x24000, 0x203000), (10, 0x30000, 0x414001), (10, 0x30002, 0x414002), (10, 0x30004, 0x414003),
  (10, 0x40000, 0x414100), (10, 0x30010, 0x420001), (10, 0x30012, 0x420002), (10, 0x30014, 0x420003), (10, 0x30016, 0x420004)] ++ [
  (11, 0x0, 0x130004), (11, 0x1, 0x130005), (11, 0x2, 0x130006), (11, 0x3, 0x130007), (11, 0x4, 0x130008), (11, 0x8, 0x130009),
  (11, 0xC, 0x13000A), (11, 0x10, 0x130101), (11, 0x11, 0x130102), (11, 0x12, 0x130103), (11, 0x13, 0x130104),
  (11, 0x14, 0x130105), (11, 0x18, 0x130107), (11, 0x1C, 0x130108), (11, 0x1D, 0x130109), (11, 0x1E, 0x13010A),
  (11, 0x20, 0x13010B), (11, 0x30, 0x130201), (11, 0x31, 0x130202), (11, 0x32, 0x130203), (11, 0x33, 0x130204),
  (11, 0x34, 0x130205), (11, 0x38, 0x130207), (11, 0x3C, 0x130208), (11, 0x3D, 0x130209), (11, 0x3E, 0x13020A),
  (11, 0x40, 0x13020B), (11, 0x50, 0x130300), (11, 0x100, 0x131000), (11, 0x200, 0x132000)] ++ [
  (11, 0x300, 0x413001), (11, 0x301, 0x413002), (11, 0x302, 0x413003), (11, 0x304, 0x413004), (11, 0x305, 0x413005),
  (11, 0x306, 0x413006), (11, 0x210, 0x132100), (11, 0x250, 0x132200), (11, 0x290, 0x132300), (11, 0x2D0, 0x132400)]

/-- Homes in the head blocks, under block 12. -/
def homesHead : List (Nat × Nat × Nat) := [
  (12, 0x0, 0x220000), (12, 0x40, 0x220100), (12, 0x80, 0x220200), (12, 0x90, 0x220500), (12, 0xA0, 0x220600),
  (12, 0x100, 0x221000), (12, 0x200, 0x221100), (12, 0x300, 0x222000), (12, 0x340, 0x222100), (12, 0x341, 0x222200),
  (12, 0x400, 0x223000), (12, 0x440, 0x223100), (12, 0x441, 0x223200), (12, 0x800, 0x422000)]

/-- Homes in LAYER to GAUGE. -/
def homesC : List (Nat × Nat × Nat) := [
  (14, 0x0, 0x210000), (14, 0x1000, 0x210100), (14, 0x2000, 0x210200), (14, 0x10000, 0x210300), (14, 0x3000, 0x210400),
  (14, 0x4000, 0x211000), (14, 0x4100, 0x211100), (14, 0x4200, 0x212000), (14, 0x5000, 0x421000), (14, 0x5100, 0x421101),
  (14, 0x5101, 0x421102),
  (15, 0x0, 0x230000), (15, 0x40, 0x230100), (15, 0x1000, 0x230200), (15, 0x10000, 0x230300), (15, 0x80, 0x230400),
  (15, 0x100, 0x230500), (15, 0x2000, 0x423000), (15, 0x2100, 0x423100)] ++ [
  (16, 0x0, 0x240000), (16, 0x1000, 0x240100), (16, 0x400, 0x240200), (16, 0x500, 0x240400), (16, 0x510, 0x240500),
  (16, 0x2000, 0x240600), (16, 0x600, 0x240700), (16, 0x700, 0x240900), (16, 0x3000, 0x240A00), (16, 0x710, 0x240B00),
  (16, 0x10000, 0x424000), (16, 0x11000, 0x424100)] ++ [
  (17, 0x0, 0x250000), (17, 0x1000, 0x250100), (17, 0x1100, 0x250200), (17, 0x2000, 0x251000), (17, 0x2010, 0x251100),
  (17, 0x2200, 0x251200), (17, 0x3000, 0x253000), (17, 0x4000, 0x253100), (17, 0x5000, 0x254000), (17, 0x6000, 0x254100),
  (17, 0x6100, 0x254200), (17, 0x7000, 0x254300), (17, 0x6200, 0x254400), (17, 0x8000, 0x256000), (17, 0x8100, 0x256100),
  (17, 0x8900, 0x256200), (17, 0x8010, 0x256300), (17, 0x8A00, 0x256400), (17, 0x9000, 0x257000), (17, 0x8020, 0x257100),
  (17, 0xA000, 0x425000), (18, 0x0, 0x260000), (18, 0x400, 0x260100), (18, 0x800, 0x260200), (18, 0xC00, 0x426000)]

/-- Homes in CAL to AON. -/
def homesD : List (Nat × Nat × Nat) := [
  (19, 0x0, 0x261000), (19, 0x1000, 0x261100), (19, 0x2000, 0x261200), (19, 0x2010, 0x261300), (19, 0x2020, 0x261400),
  (19, 0x3000, 0x262000), (19, 0x3010, 0x262100), (19, 0x3014, 0x262200), (19, 0x4000, 0x262300), (19, 0x5000, 0x262400),
  (19, 0x2030, 0x262500), (19, 0x6000, 0x262600), (19, 0x7000, 0x263000), (19, 0x7010, 0x263100), (19, 0x8000, 0x427000)] ++ [
  (20, 0x0, 0x121005), (20, 0x1, 0x121007), (20, 0x2, 0x121008), (20, 0x3, 0x121009), (20, 0x4, 0x12100A), (20, 0x5, 0x12100B),
  (20, 0x6, 0x12100C), (20, 0x7, 0x12100D), (20, 0x100, 0x121100), (20, 0x200, 0x121200), (20, 0x400, 0x412000),
  (20, 0x300, 0x502000), (20, 0x304, 0x502100), (20, 0x308, 0x502200)] ++ [
  (21, 0x0, 0x100202), (21, 0x1, 0x100203), (21, 0x10, 0x110003), (21, 0x100, 0x112000), (21, 0x200, 0x112100),
  (21, 0x400, 0x411000), (21, 0x500, 0x500000), (21, 0x501, 0x500100)] ++ [
  (22, 0x0, 0x320000), (22, 0x40, 0x320100), (22, 0x44, 0x320200), (22, 0x48, 0x320300), (22, 0x50, 0x320400), (22, 0x58, 0x320500),
  (22, 0x59, 0x320600), (22, 0x5A, 0x320700), (22, 0x60, 0x320800), (22, 0x61, 0x320900), (22, 0x100, 0x320A00),
  (22, 0x200, 0x432000), (22, 0x300, 0x500200), (22, 0x304, 0x500300), (23, 0x0, 0x322000), (23, 0x20, 0x433000), (23, 0x40, 0x433100)]

/-- A Culvert word: its object, its row and its index within the record. -/
structure Located where
  obj : Nat
  row : Nat
  idx : Nat
  deriving DecidableEq, Repr

/-- The fields of a row that its Culvert home holds, as first and number, where it does not hold them all: HIGH_WATER of OD 0x1431 (R587),
and the counters of OD 0x4320 but the reset counts (R671). -/
def homePart (obj : Nat) : Option (Nat × Nat) :=
  if obj = 0x143100 then some (2, 1) else if obj = 0x432000 then some (7, 8) else none

/-- The part of a row, or of its list of fields, that the home holds. -/
def homeOf {α : Type} (obj : Nat) (xs : List α) : List α := match homePart obj with
  | some (i, n) => (xs.drop i).take n
  | none => xs

/-- Words of the record that the home of an object holds. -/
def homeWords (obj : Nat) (d : ObjDef) : Nat := max 1 (cdiv (rowBytes (homeOf obj d.flds)) 4)

/-- The word `a` in a home of `rows` rows from row `r0`. -/
def inHome (a base obj r0 rows : Nat) : Option Located :=
  match objDef obj with
  | none => none
  | some d =>
    let w := homeWords obj d
    if base ≤ a ∧ a < base + rows * w then some { obj := obj, row := r0 + (a - base) / w, idx := (a - base) % w } else none

/-- Rows of an object behind a Culvert window. -/
def homeRows (obj : Nat) : Nat := match objDef obj with
  | some d => max 1 d.room
  | none => 0

/-- Look a word up in a list of homes of a block: where two homes would cover it, the one that begins later. `pick` gives the first row
and the row count of an object's part in the block, when several blocks share the object. -/
def lookHomes (b a : Nat) (pick : Nat → Nat × Nat) (hs : List (Nat × Nat × Nat)) : Option Located :=
  (hs.foldl (fun (best : Option (Nat × Located)) e =>
    match (if e.1 = b then inHome a e.2.1 e.2.2 (pick e.2.2).1 (pick e.2.2).2 else none), best with
    | some x, none => some (e.2.1, x)
    | some x, some y => if y.1 < e.2.1 then some (e.2.1, x) else best
    | none, _ => best) none).map (fun x => x.2)

/-- All rows of an object. -/
def allRows (obj : Nat) : Nat × Nat := (0, homeRows obj)

/-- The first of several answers. -/
def firstSome (a b : Option Located) : Option Located := match a with
  | some x => some x
  | none => b

/-- The object behind Culvert word `a` of block `b`. -/
def culvLocate (b a : Nat) : Option Located :=
  if b = 12 ∨ b = 13 then
    let n := fun (obj : Nat) => homeRows obj / 2
    lookHomes 12 a (fun obj => ((b - 12) * n obj, n obj)) homesHead
  else if 6 ≤ b ∧ b ≤ 9 then
    firstSome (lookHomes 6 a (fun obj => (b - 6, homeRows obj / 4)) (homesA.filter (fun e => e.1 == 6))) (lookHomes b a allRows homesMac)
  else if b < 6 then lookHomes b a allRows homesA
  else if b ≤ 11 then lookHomes b a allRows homesB
  else if b ≤ 18 then lookHomes b a allRows homesC
  else lookHomes b a allRows homesD

end Sys2Proof.Machine
end

