-- ==== Sys2Proof/Machine/Regs.lean ====
section
/-! DEFINITION. The registers of the 24 blocks (R487 to R490, R499 to R510, R519 to R529 and each chapter's register table): what a read
of each returns and what a write of each does, by block number and offset. `none` stands for an unimplemented location. -/

namespace Sys2Proof.Machine

/-- A word of fields: value, width, lowest bit. -/
def fields (fs : List (Nat × Nat × Nat)) : Word := BitVec.ofNat 32 ((fs.map (fun f => f.1 % 2 ^ f.2.1 * 2 ^ f.2.2)).sum)

/-- A word from a number. -/
def wd (n : Nat) : Word := BitVec.ofNat 32 n

/-- The block has a Culvert window: every implemented block but SYS. -/
def hasCulvert (b : Nat) : Bool := decide (1 ≤ b) && decide (b ≤ 23)

/-! ## The event unit's derived values -/

/-- The lowest of a list of event numbers. -/
def lowest : List Nat → Option Nat
  | [] => none
  | e :: _ => some e

/-- EVT.IRQ_FIRSTk (R527). -/
def State.irqFirst (s : State) (k : Nat) : Word :=
  match lowest (s.irqEvents k) with
  | some e => fields [(1, 1, 31), (e, 7, 0)]
  | none => 0

/-- Bank b of a 128-bit vector. -/
def bank (v : BitVec 128) (b : Nat) : Word := BitVec.ofNat 32 (v.toNat / 2 ^ (32 * b))

/-- Put a bank. -/
def putBank (v : BitVec 128) (b : Nat) (w : Word) : BitVec 128 :=
  BitVec.ofNat 128 (v.toNat - (v.toNat / 2 ^ (32 * b) % 2 ^ 32) * 2 ^ (32 * b) + w.toNat * 2 ^ (32 * b))

/-- EVT.SUMMARY (R524). -/
def State.evtSummary (s : State) : Word :=
  fields (((List.range 4).map (fun k => (b2n (s.irq k), 1, 16 + k))) ++
    ((List.range 4).map (fun b => (b2n (bank s.evt.cause b &&& bank s.evt.enable b != 0), 1, b))))

/-- A masked write (R502): bit i of [15:0] changes where bit i + 16 of the value is 1. -/
def maskedTo (old : Nat) (v : Word) : Nat :=
  let m := v.toNat / 65536
  ((List.range 16).map (fun i => if m.testBit i then (if v.toNat.testBit i then 2 ^ i else 0) else (if old.testBit i then 2 ^ i else 0))).sum

/-! ## Status words -/

/-- WEIR.STATUS (R437). -/
def State.weirStatus (s : State) : Word :=
  fields [(s.hostFree, 11, 16), (s.weir.cores.length, 3, 10), (s.weir.cq.length, 9, 0)]

/-- WEIR.CQ_STATUS (R438). -/
def State.cqStatus (s : State) : Word :=
  fields [(b2n s.weir.cqOverflow, 1, 9), (b2n (!s.weir.cq.isEmpty), 1, 8), ((s.weir.cq.head?.map (fun e => e.2)).getD 0, 8, 0)]

/-- INTEG.STATUS (R560). A page decode takes no time of its own here, so DECODE reads 0. -/
def State.integStatus (s : State) : Word :=
  let pending := (List.range 8).any (fun r => s.storedRow 0x310000 r != s.row 0x310100 r)
  fields [(s.integ.log.length, 5, 16), (b2n (decide (0 < s.behind 0) || decide (0 < s.behind 1)), 1, 4), (b2n pending, 1, 3),
    (b2n (!s.regions.isEmpty), 1, 2), (b2n s.integ.scrubD.running, 1, 1), (b2n s.integ.scrubV.running, 1, 0)]

/-- DRAM.STATUS (R562). -/
def State.dramStatus (s : State) : Word :=
  fields [(if s.integ.training = 2 then s.integ.gib else 0, 4, 24), (s.integ.channels, 4, 16), (s.integ.refresh, 2, 8), (s.integ.training, 2, 0)]

/-- POOL.STATUS (R584). -/
def State.poolStatus (s : State) : Word := fields [(b2n s.poolLow, 1, 31), (s.freeCells, 15, 16), (s.sharedFree, 15, 0)]

/-- POOL.LAST_FAULT (R585). -/
def State.poolLastFault (s : State) : Word :=
  match s.net.lastFault with
  | some (k, q) => fields [(1, 1, 31), (k, 2, 16), (q, 9, 0)]
  | none => 0

/-- MAC STATUS of port p (R622). -/
def State.macStatus (s : State) (p : Nat) : Word :=
  let chain := !isTrunk p
  let x := s.port p
  fields [(b2n (chain && s.ringClosed), 1, 13), (b2n (chain && s.relayOn && !s.ringClosed && s.portState p == 1), 1, 12),
    (b2n (s.pausedNow p), 1, 11), (s.fld oPortState p 3, 1, 10), (x.fec, 2, 8), (x.mode, 2, 4), (b2n (s.linkUp p), 1, 3),
    (s.portState p, 2, 0)]

/-- TIME.STATUS (R44). -/
def State.timeStatus (s : State) : Word :=
  fields [(s.time.slewPpm, 8, 16), (b2n s.time.stepped, 1, 15), (b2n s.time.everLocked, 1, 14), (b2n s.time.far, 1, 13),
    (s.servoState 1, 4, 8), (s.servoState 0, 4, 4), (s.selected, 1, 3), (s.val oNodeState, 3, 0)]

/-- HEADx.STATUS (R214). -/
def State.headStatus (s : State) (h : Nat) : Word :=
  let x := s.head h
  fields [(x.queue.length, 4, 20), (b2n (s.inBlanking h), 1, 15), (s.fld oCadenceLock h 0, 1, 14), (b2n (s.feeds h), 1, 13),
    (b2n (s.fld oEgressState h 0 != 0), 1, 12), (b2n (s.fld oWbackState h 0 != 0), 1, 11), (s.headState h, 2, 0)]

/-- HEADx.POSITION (R215): the line and column at this instant; 0 while the raster does not run. -/
def State.headPosition (s : State) (h : Nat) : Word :=
  if !s.rasterRuns h then 0
  else
    let n := (s.tbNow - s.lineZeroAt h) / s.lineTime h
    let col := ((n - (n.floor : Rat)) * (tmHTotal (s.timing h) : Rat)).floor.toNat
    fields [((s.lineNow h).toNat, 13, 16), (col, 14, 0)]

/-- HEADx.COMMIT_IDS (R218). -/
def State.commitIds (s : State) (h : Nat) : Word := fields [(s.fld oCommitStatus h 1, 16, 16), (s.fld oCommitStatus h 2, 16, 0)]

/-- COLL.STATUS (R249). -/
def State.collStatus (s : State) : Word :=
  let busy := fun (h : Nat) => match (s.collOf h).passing with
    | some f => !f.done
    | none => false
  fields [(b2n (s.collOf 1).switchAt.isSome, 1, 17), (b2n (s.collOf 0).switchAt.isSome, 1, 16), (b2n (busy 1), 1, 9), (b2n (busy 0), 1, 8),
    (b2n (s.fld oMapActive 1 2 != 0), 1, 1), (b2n (s.fld oMapActive 0 2 != 0), 1, 0)]

/-- COLL.FRONT_SETS. -/
def State.frontSets (s : State) : Word := fields ((List.range 16).map (fun q => (s.frontSet q, 1, q)))

/-- QUIRE.STATE_LO and QUIRE.STATE_HI: four bits for each Quire from q0. -/
def State.quireStates (s : State) (q0 : Nat) : Word := fields ((List.range 8).map (fun i => (s.quireState (q0 + i), 4, 4 * i)))

/-- Column 0 of OD 0x2531 to OD 0x2564 counts: strands whose g lies below 1.0. -/
def State.derated (s : State) : Nat := (s.strands.filter (fun e => decide (e.2.g < 1))).length

/-- LIGHT.STATUS (R345). -/
def State.lightStatus (s : State) : Word :=
  fields [(s.derated, 9, 16), (((List.range 256).filter (fun f => s.fadeState f == 2)).length, 9, 7),
    (b2n ((List.range 256).any (fun p => s.fld oQuarantine p 0 == 1)), 1, 2), (b2n (s.light.faultFull || decide (1024 ≤ s.rowCount oFaults)), 1, 1), (b2n s.light.test.isSome, 1, 0)]

/-- GAUGE.STATUS (R346). -/
def State.gaugeStatus (s : State) : Word := fields [(b2n s.light.overAny, 1, 1), (b2n s.light.refFault, 1, 0)]

/-- CAL.STATUS (R371). -/
def State.calStatus (s : State) : Word :=
  fields (((List.range 16).map (fun q => (b2n (s.passOn q), 1, 16 + q))) ++
    [(s.fld oCalStore 0 1, 2, 6), (s.sessionCode, 2, 4), (b2n (s.cal.traced != 0), 1, 1), (b2n s.reftPresent, 1, 0)])

/-- TWIN.STATUS (R402). -/
def State.twinStatus (s : State) : Word :=
  fields [((s.twin.partner.map (fun p => p.crest)).getD 0, 8, 24), (s.crest, 8, 16), (b2n s.twin.handover.isSome, 1, 13), (b2n s.diverged, 1, 12),
    (b2n s.chainUp, 1, 11), (s.dike, 2, 9), (s.partnerState, 4, 4), (s.twinState, 3, 0)]

/-- Only the Berm service requests are answered (R638). -/
def State.bermSubset (s : State) : Bool := s.berm

/-- EOP.STATUS (R484). -/
def State.eopStatus (s : State) : Word :=
  fields ([((s.eop.sessions.filter (fun e => e.2.open_)).length, 7, 16), (b2n s.bermSubset, 1, 9), (b2n (s.hasKey 0), 1, 8)] ++
    (List.range 8).map (fun k => (b2n (s.hasKey k), 1, k)))

/-- EOP.HOST_STATUS (R485). -/
def State.hostStatus (s : State) : Word :=
  fields [(s.eop.hostRsp.length, 16, 16), (b2n s.eop.hostBusy, 1, 1), (b2n s.eop.hostDone, 1, 0)]

/-- BOOT.STATUS (R666). -/
def State.bootStatus (s : State) : Word :=
  let service := match s.power.service with
    | .bootRom => 0
    | .berm => 1
    | .full => 2
  let other := s.update.fallback || s.update.running != s.flash.boot.active
  fields [(s.update.state, 4, 24), (s.update.trial, 2, 16), (b2n other, 1, 9), (s.update.running, 1, 8), (service, 2, 0)]

/-! ## Counters (R505) -/

/-- RX_DROPS of port p: frames rejected or dropped on receive, all reasons. -/
def State.rxDrops (s : State) (p : Nat) : Nat := ((List.range 7).map (fun i => s.fld oPortCnt p (5 + i))).sum

/-- The 64-bit counter whose LO register lies at an offset of a block. -/
def State.counterAt (s : State) (b off : Nat) : Option Nat :=
  if b = 1 then (if off = 0x200 then some s.evt.raises else none)
  else if b = 3 then (if off = 0x20 then some s.integ.light else if off = 0x28 then some s.integ.page else none)
  else if b = 4 then (if off = 0x20 then some s.integ.giveway else none)
  else if b = 5 then (if off = 0x20 then some s.net.poolDrops else none)
  else if 6 ≤ b ∧ b ≤ 9 then
    (if off = 0x20 then some (s.fld oPortCnt (b - 6) 0)
     else if off = 0x28 then some (s.rxDrops (b - 6))
     else if off = 0x30 then some (s.fld oPortCnt (b - 6) 14) else none)
  else if b = 12 ∨ b = 13 then (if off = 0x40 then some (s.fld oHeadCnt (b - 12) 6) else none)
  else none

/-- The shadow of a path. -/
def State.shadow (s : State) (p : Path) : Word :=
  match p with
  | .hspi => s.hspi.shadowHspi
  | .core => s.hspi.shadowCore
  | .coreOther => s.hspi.shadowCore
  | .window => s.hspi.shadowWindow

/-- Latch a path's shadow. -/
def State.setShadow (s : State) (p : Path) (w : Word) : State :=
  match p with
  | .hspi => { s with hspi := { s.hspi with shadowHspi := w } }
  | .core => { s with hspi := { s.hspi with shadowCore := w } }
  | .coreOther => s
  | .window => { s with hspi := { s.hspi with shadowWindow := w } }

/-! ## Plain reads, block by block -/

/-- SYS (R519 to R522). -/
def State.readSys (s : State) (off : Nat) : Option Word :=
  match off with
  | 0x04 => some 0x50477420
  | 0x08 => some (wd Config.stepping.toNat)
  | 0x10 => some (s.sys.apbase &&& 0x8000001F)
  | 0x14 => some (s.sys.lockReg &&& 1)
  | 0x20 => some (fields [(b2n s.sys.lockViolation, 1, 31), (b2n s.sys.windowMiss, 1, 30), (b2n s.sys.hspiFail, 1, 29), (s.sys.missCount, 16, 0)])
  | 0x24 => some (if s.sys.lockViolation then s.sys.lockAddr else 0)
  | 0x28 => some (if s.sys.windowMiss then s.sys.missAddr else 0)
  | 0x2C => some (if s.sys.hspiFail then s.sys.failAddr else 0)
  | 0x30 => some s.sys.lateAddr
  | _ => none

/-- EVT (R523 to R529). -/
def State.readEvt (s : State) (off : Nat) : Option Word :=
  if off = 0x10 then some s.evtSummary
  else if 0x20 ≤ off ∧ off < 0x30 ∧ off % 4 = 0 then some (bank s.evt.cause ((off - 0x20) / 4))
  else if 0x30 ≤ off ∧ off < 0x40 ∧ off % 4 = 0 then some (bank s.evt.enable ((off - 0x30) / 4))
  else if 0x40 ≤ off ∧ off < 0x60 ∧ off % 4 = 0 then
    some (wd ((bank s.evt.enable ((off - 0x40) / 8)).toNat / 2 ^ (16 * ((off - 0x40) / 4 % 2)) % 65536))
  else if off = 0x60 then some 0
  else if 0x70 ≤ off ∧ off < 0x80 ∧ off % 4 = 0 then some (s.irqFirst ((off - 0x70) / 4))
  else if 0x100 ≤ off ∧ off < 0x180 ∧ off % 4 = 0 then some (tget 0x10101010#32 s.evt.route ((off - 0x100) / 4) &&& 0x1F1F1F1F)
  else none

/-- A head block (R213 to R219). -/
def State.readHead (s : State) (h off : Nat) : Option Word :=
  match off with
  | 0x10 => some (s.headStatus h)
  | 0x14 => some (s.headPosition h)
  | 0x18 => some (wd (s.fld oCommitStatus h 4))
  | 0x20 => some 0
  | 0x24 => some (wd (s.head h).result)
  | 0x28 => some (s.commitIds h)
  | 0x30 => some (wd (s.head h).match0)
  | 0x34 => some (wd (s.head h).match1)
  | _ => none

/-- TIME (R43, R44). -/
def State.readTimeReg (s : State) (off : Nat) : Option Word :=
  let t := s.time.snap
  let sec := t / 65536 / 1000000000
  match off with
  | 0x10 => some s.timeStatus
  | 0x20 => some 0
  | 0x24 => some (fields [(sec / 2 ^ 32, 16, 0)])
  | 0x28 => some (wd sec)
  | 0x2C => some (wd (t / 65536 % 1000000000))
  | 0x30 => some (wd (t % 65536))
  | _ => none

/-- EOP (R483 to R485): word i of a buffer holds its bytes 4i to 4i + 3, the lowest in [7:0] (R9). -/
def State.readEopReg (s : State) (off : Nat) : Option Word :=
  if off = 0x10 then some s.eopStatus
  else if off = 0x20 then some 0
  else if off = 0x24 then some s.hostStatus
  else if 0x1000 ≤ off ∧ off < 0x4000 ∧ off % 4 = 0 then some (wd (leNat (mgets s.eop.hostReq (off - 0x1000) 4)))
  else if 0x4000 ≤ off ∧ off < 0x7000 ∧ off % 4 = 0 then
    some (wd (leNat ((List.range 4).map (fun i => s.eop.hostRsp.getD (off - 0x4000 + i) 0))))
  else none

/-- AON (R667 to R670): the cause registers are served from the copies taken at reset release. -/
def State.readAon (s : State) (off : Nat) : Option Word :=
  match off with
  | 0x10 => some (wd s.aon.copyCause)
  | 0x14 => some (wd s.aon.copyInfo)
  | 0x18 => some (wd s.aon.copyAddr)
  | 0x1C => some (wd (s.aon.copyAddr / 2 ^ 32))
  | 0x20 => some 0
  | 0x30 => some (s.aon.retain.getD 0 0)
  | 0x34 => some (s.aon.retain.getD 1 0)
  | 0x38 => some (s.aon.retain.getD 2 0)
  | 0x3C => some (s.aon.retain.getD 3 0)
  | _ => none

/-- POOL (R583 to R586). -/
def State.readPool (s : State) (off : Nat) : Option Word :=
  if off = 0x10 then some s.poolStatus
  else if off = 0x14 then some s.poolLastFault
  else if 0x1000 ≤ off ∧ off < 0x1800 ∧ off % 4 = 0 then
    some (fields [(s.qPkts ((off - 0x1000) / 4), 15, 16), (s.qCount ((off - 0x1000) / 4), 15, 0)])
  else none

/-- QUIRE (R300, R301). -/
def State.readQuireReg (s : State) (off : Nat) : Option Word :=
  if off = 0x10 then some (s.quireStates 0)
  else if off = 0x14 then some (s.quireStates 8)
  else if 0x100 ≤ off ∧ off < 0x140 ∧ off % 4 = 0 then some (wd (s.quire ((off - 0x100) / 4)).sum)
  else none

/-- One STATUS register at 0x0010. -/
def only10 (off : Nat) (w : Word) : Option Word := if off = 0x10 then some w else none

/-- The registers of block b that have no effect when read, BLOCK_ID, the counters and the Culvert registers apart. -/
def State.readPlain (s : State) (b off : Nat) : Option Word :=
  match b with
  | 0 => s.readSys off
  | 1 => s.readEvt off
  | 2 => match off with
    | 0x10 => some s.weirStatus
    | 0x20 => some (wd ((s.weir.cq.head?.map (fun e => e.1)).getD 0))
    | 0x24 => some s.cqStatus
    | 0x28 => some 0
    | _ => none
  | 3 => only10 off s.integStatus
  | 4 => only10 off s.dramStatus
  | 5 => s.readPool off
  | 6 => only10 off (s.macStatus 0)
  | 7 => only10 off (s.macStatus 1)
  | 8 => only10 off (s.macStatus 2)
  | 9 => only10 off (s.macStatus 3)
  | 11 => s.readTimeReg off
  | 12 => s.readHead 0 off
  | 13 => s.readHead 1 off
  | 15 => if off = 0x14 then some s.frontSets else only10 off s.collStatus
  | 16 => s.readQuireReg off
  | 17 => only10 off s.lightStatus
  | 18 => only10 off s.gaugeStatus
  | 19 => only10 off s.calStatus
  | 20 => only10 off s.twinStatus
  | 21 => s.readEopReg off
  | 22 => only10 off s.bootStatus
  | 23 => s.readAon off
  | _ => none

/-! ## The Culvert windows (R506 to R510) -/

/-- PENDING of block b: a fetch or a commit in its domain goes on (R506). -/
def State.culvBusy (s : State) (b : Nat) : Bool := (s.culvert b).pending || decide (s.clk.elapsed < (s.culvert b).commit)

/-- Word `idx` of a record of an object as it stands: a single field of at most 4 bytes is its value; the packing of other records
is not stated (log entry 11). -/
def State.recordWord (s : State) (l : Located) : Word :=
  match objDef l.obj with
  | none => 0
  | some d =>
    let v := homeOf l.obj (s.readRow l.obj l.row)
    if d.acc = .wo then 0
    else match homeOf l.obj d.flds with
      | [f] => if f.ty.size ≤ 4 then wd (v.headD 0) else Config.culvertWord l.obj l.row l.idx v
      | _ => Config.culvertWord l.obj l.row l.idx v

/-- Words of the record that holds a located word. -/
def Located.words (l : Located) : Nat := ((objDef l.obj).map (homeWords l.obj)).getD 1

/-- The next Culvert word of a block: its value, none where no word is implemented, and ADDR one further. A read of a record's first
word copies the record; later words come from the copy. -/
def State.culvRead (s : State) (b : Nat) : Option Word × State :=
  let c := s.culvert b
  let c1 := { c with addr := (c.addr + 1) % 2 ^ 24 }
  match culvLocate b c.addr with
  | none => (none, s.setCulvert b { c1 with hold := [] })
  | some l =>
    if l.idx = 0 then
      let hold := (List.range (l.words - 1)).map (fun i => (c.addr + 1 + i, s.recordWord { l with idx := i + 1 }))
      (some (s.recordWord l), s.setCulvert b { c1 with hold := hold })
    else match c.hold with
      | (a, w) :: rest =>
        if a = c.addr then (some w, s.setCulvert b { c1 with hold := rest })
        else (some (s.recordWord l), s.setCulvert b { c1 with hold := [] })
      | [] => (some (s.recordWord l), s.setCulvert b c1)

/-- A row from the words of its record. -/
def rowOfWords (l : Located) (ws : List Word) : Row :=
  match objDef l.obj with
  | none => []
  | some d => match homeOf l.obj d.flds, ws with
    | [f], [w] => if f.ty.size ≤ 4 then [w.toNat % 256 ^ f.ty.size] else Config.culvertRecord l.obj l.row ws
    | _, _ => Config.culvertRecord l.obj l.row ws

/-- The row of an object with the part that its home holds replaced. -/
def State.homePut (s : State) (l : Located) (v : Row) : Row := match homePart l.obj with
  | some (i, n) => (s.row l.obj l.row).take i ++ v ++ (s.row l.obj l.row).drop (i + n)
  | none => v

/-- The held words are those of the record up to the word at ADDR (R508). -/
def Culvert.inSequence (c : Culvert) (idx : Nat) : Bool :=
  c.wheld.map (fun e => e.1) == (List.range idx).map (fun i => c.addr + i - idx)

/-- A core's write of the next Culvert word (R508): the words of a record are held until the last one is written; a word out of
sequence discards those held. -/
def State.culvCoreWrite (s : State) (b : Nat) (v : Word) : Option State :=
  let c := s.culvert b
  let c1 := { c with addr := (c.addr + 1) % 2 ^ 24 }
  match culvLocate b c.addr with
  | none => none
  | some l =>
    let before := if l.idx = 0 then [] else c.wheld
    if l.idx ≠ 0 ∧ !c.inSequence l.idx then some (s.setCulvert b { c1 with wheld := [] })
    else
      let held := before ++ [(c.addr, v)]
      if held.length < l.words then some (s.setCulvert b { c1 with wheld := held })
      else some (((s.setRow l.obj l.row (s.homePut l (rowOfWords l (held.map (fun e => e.2))))).setCulvert b { c1 with wheld := [] }).commitIn b)

/-- The Culvert address moves on after an access to a word that is not implemented. -/
def State.culvSkip (s : State) (b : Nat) : State :=
  s.setCulvert b { s.culvert b with addr := ((s.culvert b).addr + 1) % 2 ^ 24, hold := [], wheld := [] }

/-! ## Reads with effects -/

/-- Read the register at an offset of block b over path p: its value, none when no such location is implemented, and the state
after the read. -/
def State.readReg (s : State) (p : Path) (b off : Nat) : Option Word × State :=
  if 23 < b then (none, s)
  else if off = 0 then (some (fields [(0x7420, 16, 16), (b, 8, 8), ((Config.revision b).toNat, 8, 0)]), s)
  else if hasCulvert b ∧ off = 0xFFF8 then (some (fields [(b2n (s.culvBusy b), 1, 31), ((s.culvert b).addr, 24, 0)]), s)
  else if hasCulvert b ∧ off = 0xFFFC then s.culvRead b
  else match s.counterAt b off with
    | some n => (some (wd n), s.setShadow p (wd (n / 2 ^ 32)))
    | none =>
      if 4 ≤ off ∧ (s.counterAt b (off - 4)).isSome then (some (s.shadow p), s)
      else (s.readPlain b off, s)

/-! ## Writes -/

/-- The address of a register. -/
def regAddr (b off : Nat) : Word := wd (0x20000000 + b * 65536 + off)

/-- SYS writes (R504, R519 to R522). -/
def State.writeSys (s : State) (off : Nat) (v : Word) : State :=
  match off with
  | 0x10 => if s.sys.apbase.getLsbD 31 then s.lockViolation (regAddr 0 off) else { s with sys := { s.sys with apbase := v &&& 0x8000001F } }
  | 0x14 =>
    if s.sys.lockWritten then s.lockViolation (regAddr 0 off)
    else { s with sys := { s.sys with lockReg := v &&& 1, lockWritten := true } }
  | 0x20 =>
    let miss := v.getLsbD 30
    { s with sys := { s.sys with
        lockViolation := s.sys.lockViolation && !v.getLsbD 31
        windowMiss := s.sys.windowMiss && !miss
        missCount := if miss then 0 else s.sys.missCount
        hspiFail := s.sys.hspiFail && !v.getLsbD 29 } }
  | _ => s

/-- Events that are reserved or never raised: a test of them has no effect (R517). -/
def untestable : List Nat := [46, 47, 62, 63, 78, 79, 121]

/-- EVT.TEST (R517, R528). -/
def State.testEvent (s : State) (v : Word) : State :=
  let e := v.toNat % 128
  if v.getLsbD 7 ∧ !untestable.contains e then s.raise e else s

/-- EVT writes (R511, R523 to R529). -/
def State.writeEvt (s : State) (off : Nat) (v : Word) : State :=
  if 0x20 ≤ off ∧ off < 0x30 then
    let b := (off - 0x20) / 4
    { s with evt := { s.evt with cause := putBank s.evt.cause b (bank s.evt.cause b &&& ~~~v) } }
  else if 0x30 ≤ off ∧ off < 0x40 then { s with evt := { s.evt with enable := putBank s.evt.enable ((off - 0x30) / 4) v } }
  else if 0x40 ≤ off ∧ off < 0x60 then
    let b := (off - 0x40) / 8
    let w := (bank s.evt.enable b).toNat
    let hi := (off - 0x40) / 4 % 2 = 1
    let n := if hi then maskedTo (w / 65536) v * 65536 + w % 65536 else w / 65536 * 65536 + maskedTo (w % 65536) v
    { s with evt := { s.evt with enable := putBank s.evt.enable b (wd n) } }
  else if off = 0x60 then s.testEvent v
  else if 0x100 ≤ off ∧ off < 0x180 then
    if s.sys.lockReg.getLsbD 0 then s.lockViolation (regAddr 1 off)
    else { s with evt := { s.evt with route := tset 0x10101010#32 s.evt.route ((off - 0x100) / 4) (v &&& 0x1F1F1F1F) } }
  else s

/-- WEIR.CQ_POP (R439). -/
def State.popCq (s : State) (v : Word) : State :=
  let w := if v.getLsbD 0 then { s.weir with cq := s.weir.cq.drop 1 } else s.weir
  { s with weir := if v.getLsbD 1 then { w with cqOverflow := false } else w }

/-- A head block's writes (R216, R219). -/
def State.writeHeadReg (s : State) (h off : Nat) (v : Word) : State :=
  let x := s.head h
  match off with
  | 0x20 => if v.getLsbD 0 then registerArm h (v.getLsbD 1) s else s
  | 0x30 => s.setHead h { x with match0 := maskedTo x.match0 v &&& 0x9FFF }
  | 0x34 => s.setHead h { x with match1 := maskedTo x.match1 v &&& 0x9FFF }
  | _ => s

/-- EOP.HOST_DOORBELL.GO (R481): ignored and counted while BUSY, else BUSY is set and DONE cleared. -/
def State.doorbell (s : State) (v : Word) : State :=
  if !v.getLsbD 0 then s
  else if s.eop.hostBusy then s.eopCount 13
  else { s with eop := { s.eop with hostBusy := true, hostDone := false } }

/-- EOP writes. -/
def State.writeEopReg (s : State) (off : Nat) (v : Word) : State :=
  if off = 0x20 then s.doorbell v
  else if 0x1000 ≤ off ∧ off < 0x4000 then
    { s with eop := { s.eop with hostReq := msets s.eop.hostReq (off - 0x1000) ((leBytes 4 v.toNat)) } }
  else s

/-- AON writes (R667, R670). -/
def State.writeAon (s : State) (off : Nat) (v : Word) : State :=
  if off = 0x20 then execAonReset (v.toNat % 256) s
  else if 0x30 ≤ off ∧ off < 0x40 then { s with aon := { s.aon with retain := s.aon.retain.set ((off - 0x30) / 4) v } }
  else s

/-- A write of a register that exists: what its access code and its block make of it. Writes to RO registers are ignored. -/
def State.writePlain (s : State) (b off : Nat) (v : Word) : State :=
  match b with
  | 0 => s.writeSys off v
  | 1 => s.writeEvt off v
  | 2 => if off = 0x28 then s.popCq v else s
  | 11 => if off = 0x20 then snapWrite v s else s
  | 12 => s.writeHeadReg 0 off v
  | 13 => s.writeHeadReg 1 off v
  | 16 =>
    if 0x100 ≤ off ∧ off < 0x140 then
      let q := (off - 0x100) / 4
      let x := s.quire q
      s.setQuire q { x with sum := x.sum - (x.sum &&& v.toNat) }
    else s
  | 21 => s.writeEopReg off v
  | 23 => s.writeAon off v
  | _ => s

/-- Write the register at an offset of block b over path p: none when no such location is implemented. -/
def State.writeReg (s : State) (p : Path) (b off : Nat) (v : Word) : Option State :=
  if 23 < b then none
  else if off = 0 then some s
  else if hasCulvert b ∧ off = 0xFFF8 then some (s.setCulvert b { s.culvert b with addr := v.toNat % 2 ^ 24, hold := [], wheld := [] })
  else if hasCulvert b ∧ off = 0xFFFC then
    if p = .core then s.culvCoreWrite b v
    else if (culvLocate b (s.culvert b).addr).isSome then some ((s.culvSkip b).lockViolation (regAddr b off))
    else none
  else if (s.counterAt b off).isSome ∨ (4 ≤ off ∧ (s.counterAt b (off - 4)).isSome) then some s
  else if (s.readPlain b off).isSome then some (s.writePlain b off v)
  else none

end Sys2Proof.Machine
end

