-- ==== Sys2Proof/Machine/Hspi.lean ====
section
/-! DEFINITION. The access paths (R487 to R501): the address map, the HSPI target with its late fetches and posted writes, core accesses
and window-class accesses. -/

namespace Sys2Proof.Machine

/-! ## The address map (R487, R488) -/

/-- The register block and offset of an address. -/
def regOf (a : Nat) : Option (Nat × Nat) :=
  if 0x20000000 ≤ a ∧ a < 0x20200000 then some ((a - 0x20000000) / 65536, a % 65536) else none

/-- Offset into the Vault. -/
def vaultOf (a : Nat) : Option Nat := if vaultBase ≤ a ∧ a < vaultBase + vaultSize then some (a - vaultBase) else none

/-- DRAM byte of an aperture address, none where the access is to an unimplemented location, as every one is before full service (R488,
R533). -/
def State.apertureOf (s : State) (a : Nat) : Option Nat :=
  if s.full ∧ 0x40000000 ≤ a ∧ a < 0x50000000 then
    let x := s.sys.apbase.toNat % 32 * 2 ^ 28 + (a - 0x40000000)
    if x + 4 ≤ s.shadowBase then some x else none
  else none

/-- The Vault word at offset x as it stands. Which pixels of the present rows a word of a row window holds is not laid out: a free value
of the head's frame and line (R22, R231, log entry 79). -/
def State.vaultWordAt (s : State) (x : Nat) : Word :=
  match windowHead x with
  | some h => Config.rowWindow h (s.fld oCommitStatus h 4) (s.lineNow h).toNat (x - vRowWindows)
  | none => wd (leNat (mgets (s.ramAt x).1.bytes (x - (s.ramAt x).2) 4))

/-- A Vault word; an invalid one reads 0 and is counted (R541). In the regions that the cores use for themselves (firmware, Weir contexts)
it reads what a core or the Weir has written there (log entry 79). -/
def State.readVaultWord (s : State) (x : Nat) : Word × State :=
  if s.vValid x then (s.vaultWordAt x, s) else (0, s.unwrittenRead 0)

/-- The word at an address lies in the page whose decode has failed: an access to it is abandoned, with no data and no bus error (R543,
R544, R553). -/
def State.pageLost (s : State) (a : Nat) : Bool :=
  match s.integ.failed with
  | none => false
  | some (mem, base) =>
    if mem = 0 then decide (base ≤ a) && decide (a < base + 512)
    else (s.apertureOf a).any (fun x => decide (base ≤ x) && decide (x < base + 512))

/-- A DRAM word; one of an invalid integrity page reads 0 and is counted (R541). -/
def State.readDramWord (s : State) (x : Nat) : Word × State :=
  match s.dramPage x with
  | some p => if s.pageValid p then (wd (leNat (s.dramGet x 4)), s) else (0, s.unwrittenRead 1)
  | none => (wd (leNat (s.dramGet x 4)), s)

/-- Over HSPI a Vault word may be read outside the firmware and Weir regions (R24). -/
def hspiMayReadVault (x : Nat) : Bool := decide (x < vFirmware) || decide (vPageValid ≤ x)

/-- Over HSPI only the General region may be written (R24). -/
def hspiMayWriteVault (x : Nat) : Bool := decide (vGeneral ≤ x)

/-! ## HSPI (R491 to R498) -/

def State.setHspi (s : State) (x : Hspi) : State := { s with hspi := x }

/-- The port is powered and out of reset (R496). -/
def State.hspiPowered (s : State) : Bool := (s.power.state == .run || s.power.state == .berm) && !s.power.inReset

/-- The port executes transactions (R496). -/
def State.hspiOn (s : State) : Bool := s.hspiPowered && s.hspi.ready

/-- BUSY follows what is under way (R495). -/
def State.hspiSettle (s : State) : State := s.setHspi { s.hspi with busy := s.hspi.fetching.isSome || !s.hspi.posted.isEmpty }

/-- A transaction begins: it sets IGNORED, LATE and BUS_ERROR afresh (R498). -/
def State.hspiBegin (s : State) : State := s.setHspi { s.hspi with ignored := false, late := false, busError := false }

/-- A transaction is not executed (R494, R495). -/
def State.hspiIgnored (s : State) : State :=
  let s1 := s.hspiBegin
  (s1.setHspi { s1.hspi with ignored := true }).bump 0x400100 0 3

/-- A late word (R497). -/
def State.hspiLate (s : State) (a : Nat) : State :=
  let s1 := { s with sys := { s.sys with lateAddr := wd a } }
  (s1.setHspi { s1.hspi with late := true, fetching := some (wd a) }).bump 0x400100 0 2

/-- Culvert words of the GAUGE and AON domains and aperture words may be late: whether a given one is, is open (R497, log entry 6). -/
def State.drawLate (s : State) : Bool × State :=
  let d := s.drawNat
  (d.1 % 2 == 1, d.2)

/-- What a read word of an HSPI burst comes to. -/
inductive Fetch where
  | word (w : Word)
  | late
  | bad
  | abandoned
  deriving DecidableEq, Repr

/-- A word from its location, whatever its time. -/
def Fetch.of : Option Word × State → Fetch × State
  | (some w, s) => (.word w, s)
  | (none, s) => (.bad, s)

/-- Start the fetch of a slow Culvert word: PENDING is set until it is done (R506). -/
def State.culvPending (s : State) (b : Nat) (v : Bool) : State := s.setCulvert b { s.culvert b with pending := v }

/-- What goes on in the block's domain is done: PENDING is 0. -/
def State.culvDone (s : State) (b : Nat) : State := s.setCulvert b { s.culvert b with pending := false, commit := 0 }

/-- Read one word at an address over HSPI. -/
def State.hspiFetch (s : State) (a : Nat) : Fetch × State :=
  if s.pageLost a then (.abandoned, s)
  else match regOf a with
  | some (b, off) =>
    if 0xFFF8 ≤ off ∧ off % 4 = 0 ∧ hasCulvert b ∧ s.culvBusy b then (.late, s)
    else if off = 0xFFFC ∧ (b = 18 ∨ b = 23) ∧ (culvLocate b (s.culvert b).addr).isSome then
      match s.drawLate with
      | (true, s1) => (.late, s1.culvPending b true)
      | (false, s1) => Fetch.of (s1.readReg .hspi b off)
    else Fetch.of (s.readReg .hspi b off)
  | none => match vaultOf a with
    | some x =>
      if hspiMayReadVault x then (.word (s.readVaultWord x).1, (s.readVaultWord x).2) else (.bad, s)
    | none => match s.apertureOf a with
      | some x => match s.drawLate with
        | (true, s1) => (.late, s1)
        | (false, s1) => (.word (s1.readDramWord x).1, (s1.readDramWord x).2)
      | none => (.bad, s)

/-- The address after a word of a burst (R493): it stays on a Culvert data register. -/
def nextAddr (a : Nat) : Nat :=
  match regOf a with
  | some (_, off) => if off = 0xFFFC then a else a + 4
  | none => (a + 4) % 2 ^ 32

/-- A burst in progress: the words returned so far, and whether one was late. -/
structure Burst where
  st   : State
  addr : Nat
  out  : List Word
  late : Bool
  /-- an access has been abandoned (R553): nothing more is delivered -/
  gone : Bool := false

/-- Take a word from the read buffer (R497). -/
def State.takeBuffer (s : State) (a : Nat) : Option (Word × State) :=
  match s.hspi.buffer with
  | (b, w) :: rest => if b.toNat = a then some (w, s.setHspi { s.hspi with buffer := rest }) else none
  | [] => none

/-- One read word of a burst (R493, R497, R500). -/
def Burst.read (x : Burst) : Burst :=
  let n := nextAddr x.addr
  if x.gone then x
  else if x.late then { x with out := x.out ++ [0], addr := n }
  else match x.st.takeBuffer x.addr with
    | some (w, s1) => { x with st := s1, out := x.out ++ [w], addr := n }
    | none => match x.st.hspiFetch x.addr with
      | (.word w, s1) => { x with st := s1, out := x.out ++ [w], addr := n }
      | (.late, s1) => { x with st := s1.hspiLate x.addr, out := x.out ++ [0], addr := n, late := true }
      | (.bad, s1) => { x with st := s1.hspiBusError (wd x.addr), out := x.out ++ [0], addr := n }
      | (.abandoned, s1) => { x with st := s1, gone := true }

/-- The words of a read burst. -/
def Burst.reads : Nat → Burst → Burst
  | 0, x => x
  | n + 1, x => Burst.reads n x.read

/-- Only a read burst that starts at the buffered address uses the buffer (R497). -/
def State.keepBuffer (s : State) (a : Word) : State :=
  match s.hspi.buffer with
  | (b, _) :: _ => if b = a then s else s.setHspi { s.hspi with buffer := [] }
  | [] => s

/-- READ_BURST: opcode 0xA1 (R492 to R500). -/
def execReadBurst (addr : Word) (words : Nat) (s : State) : State :=
  if !s.hspiOn then s
  else if s.hspi.busy then s.hspiIgnored
  else if addr.toNat % 4 ≠ 0 then
    let s1 := s.hspiBegin.hspiBusError addr
    s1.setHspi { s1.hspi with buffer := [], readData := List.replicate words 0 }
  else
    let x := Burst.reads words { st := s.hspiBegin.keepBuffer addr, addr := addr.toNat, out := [], late := false }
    (x.st.setHspi { x.st.hspi with readData := x.out, buffer := [] }).hspiSettle

/-- A register write that is posted (R510, R667): a Culvert register while PENDING is 1, and the retention latch. -/
def State.isPosted (s : State) (b off : Nat) : Bool :=
  (b == 23 && decide (0x30 ≤ off) && decide (off < 0x40)) || (decide (0xFFF8 ≤ off) && hasCulvert b && s.culvBusy b)

/-- Write the word at an address over HSPI, as it takes effect: none where the location does not exist or may not be written. -/
def State.hspiPut (s : State) (a : Nat) (v : Word) : Option State :=
  if s.pageLost a then some s
  else match regOf a with
  | some (b, off) => s.writeReg .hspi b off v
  | none => match vaultOf a with
    | some x => if hspiMayWriteVault x then some (s.vaultPut x (leBytes 4 v.toNat)) else none
    | none => (s.apertureOf a).map (fun x => s.dramPut x (leBytes 4 v.toNat))

/-- An access to a Culvert word that is not implemented still moves ADDR (R507). -/
def State.missed (s : State) (a : Nat) : State :=
  match regOf a with
  | some (b, off) => if off = 0xFFFC ∧ hasCulvert b then s.culvSkip b else s
  | none => s

/-- One write word of a burst: made, posted, or a bus error. Aperture writes complete in the DRAM domain and are posted too (log
entry 44). -/
def Burst.write (x : Burst) (v : Word) : Burst :=
  let n := nextAddr x.addr
  let s := x.st
  let post := { x with st := s.setHspi { s.hspi with posted := s.hspi.posted ++ [(wd x.addr, v)] }, addr := n }
  match regOf x.addr with
  | some (b, off) =>
    if s.isPosted b off then post
    else match s.hspiPut x.addr v with
      | some s1 => { x with st := s1, addr := n }
      | none => { x with st := (s.missed x.addr).hspiBusError (wd x.addr), addr := n }
  | none =>
    if (s.apertureOf x.addr).isSome then post
    else match s.hspiPut x.addr v with
      | some s1 => { x with st := s1, addr := n }
      | none => { x with st := s.hspiBusError (wd x.addr), addr := n }

/-- WRITE_BURST: opcode 0xA2 (R493 to R500). -/
def execWriteBurst (addr : Word) (data : List Word) (s : State) : State :=
  if !s.hspiOn then s
  else if s.hspi.busy then s.hspiIgnored
  else
    let s0 := s.hspiBegin
    let s1 := s0.setHspi { s0.hspi with buffer := [] }
    if addr.toNat % 4 ≠ 0 then s1.hspiBusError addr
    else (data.foldl Burst.write { st := s1, addr := addr.toNat, out := [], late := false }).st.hspiSettle

/-- The status byte (R498). -/
def State.hspiByte (s : State) : Nat :=
  (if s.hspi.ready then 128 else 0) + (if [0, 1, 2, 3].any s.irq then 64 else 0) + (if s.hspi.ignored then 16 else 0) +
    (if s.hspi.late then 8 else 0) + (if s.hspi.busError then 2 else 0) + (if s.hspi.busy then 1 else 0)

/-- HSPI_STATUS: opcode 0xA5 changes nothing but what the port last returned. -/
def execHspiStatus (s : State) : State := if s.hspiPowered then s.setHspi { s.hspi with statusOut := s.hspiByte } else s

/-- UNKNOWN_OPCODE (R494): not executed; any transaction but 0xA1 at its address discards the buffer (R497). One that is cut short in its
opcode or address phase (`none`) has no known opcode either; it leaves the three flags at 0 (R498). -/
def execUnknownOpcode (op : Option Nat) (s : State) : State :=
  if !s.hspiOn || op == some 0xA1 || op == some 0xA2 || op == some 0xA5 then s
  else
    let s1 := if op.isSome then s.hspiIgnored else s.hspiBegin
    s1.setHspi { s1.hspi with buffer := [] }

/-- The rest of an aligned 64-byte line from an aperture address, as the buffer holds it. -/
def State.fetchLine (s : State) (a x : Nat) : List (Word × Word) × State :=
  (List.range ((64 - a % 64) / 4)).foldl (fun r i =>
    let y := r.2.readDramWord (x + 4 * i)
    (r.1 ++ [(wd (a + 4 * i), y.1)], y.2)) ([], s)

/-- LATE_FETCH_DONE (R497, R510). -/
def execLateFetchDone (s : State) : State :=
  match s.hspi.fetching with
  | none => s
  | some w =>
    let a := w.toNat
    let done := fun (t : State) (buf : List (Word × Word)) => (t.setHspi { t.hspi with fetching := none, buffer := buf }).hspiSettle
    match regOf a with
    | some (b, off) =>
      match (s.culvDone b).readReg .hspi b off with
      | (some v, s1) => done s1 [(w, v)]
      | (none, s1) => done s1 []
    | none => match s.apertureOf a with
      | some x => done (s.fetchLine a x).2 (s.fetchLine a x).1
      | none => done s []

/-- A Culvert access to an address waits until PENDING is 0 (R510). -/
def State.waitsFor (s : State) (a : Nat) : State :=
  match regOf a with
  | some (b, off) => if 0xFFF8 ≤ off ∧ hasCulvert b ∧ s.culvBusy b then s.culvDone b else s
  | none => s

/-- POSTED_WRITE_DONE (R495): the oldest posted write completes; one that cannot be made is a bus error then (R498, R500). -/
def execPostedWriteDone (s : State) : State :=
  match s.hspi.posted with
  | [] => s
  | (a, v) :: rest =>
    if s.pageLost a.toNat then s else
    let s1 := s.setHspi { s.hspi with posted := rest }
    let s2 := s1.waitsFor a.toNat
    ((s2.hspiPut a.toNat v).getD ((s2.missed a.toNat).hspiBusError a)).hspiSettle

/-! ## Core and window accesses (R499, R500, R510) -/

/-- A core or window access waits for a fetch under way in the block it touches. -/
def State.waitPending (s : State) (b off : Nat) : State :=
  if 0xFFF8 ≤ off ∧ hasCulvert b ∧ s.culvBusy b then
    let s1 := if (s.culvert b).pending then execLateFetchDone s else s
    s1.culvDone b
  else s

/-- What a core reads. The Boot ROM's contents are not given: its words are free values. -/
def State.coreFetch (s : State) (a : Nat) : Option Word × State :=
  match regOf a with
  | some (b, off) => (s.waitPending b off).readReg .core b off
  | none => match vaultOf a with
    | some x => (some (s.readVaultWord x).1, (s.readVaultWord x).2)
    | none => match s.apertureOf a with
      | some x => (some (s.readDramWord x).1, (s.readDramWord x).2)
      | none => if a < 0x40000 then (some (wd (s.drawNat).1), (s.drawNat).2) else (none, s)

/-- A core's read. -/
def State.coreRead (s : State) (a : Word) : State :=
  if a.toNat % 4 ≠ 0 then s.coreBusError
  else if s.pageLost a.toNat then s
  else match s.coreFetch a.toNat with
    | (some w, s1) => { s1 with hspi := { s1.hspi with coreData := w } }
    | (none, s1) => { s1 with hspi := { s1.hspi with coreData := 0 } }.coreBusError

/-- A core's write. -/
def State.coreWrite (s : State) (a v : Word) : State :=
  if a.toNat % 4 ≠ 0 then s.coreBusError
  else if s.pageLost a.toNat then s
  else match regOf a.toNat with
    | some (b, off) =>
      let s0 := s.waitPending b off
      match s0.writeReg .core b off v with
      | some s1 => s1
      | none => (s0.missed a.toNat).coreBusError
    | none => match vaultOf a.toNat with
      | some x => s.vaultSet x (leBytes 4 v.toNat)
      | none => match s.apertureOf a.toNat with
        | some x => s.dramPut x (leBytes 4 v.toNat)
        | none => s.coreBusError

/-- A window read of register (b, off): its value, 0 with a miss where nothing is implemented (R500). -/
def State.windowRead (s : State) (b off : Nat) : Word × State :=
  match (s.waitPending b off).readReg .window b off with
  | (some w, s1) => (w, s1)
  | (none, s1) => (0, s1.windowMissAt (regAddr b off))

/-- A window write. -/
def State.windowWrite (s : State) (b off : Nat) (v : Word) : State :=
  let s0 := s.waitPending b off
  match s0.writeReg .window b off v with
  | some s1 => s1
  | none => (s0.missed (regAddr b off).toNat).windowMissAt (regAddr b off)

/-- One read of an address over a path. A window access names a register only (R500). The cores run outside reset. -/
def State.accessRead (s : State) (p : Path) (a : Word) : State :=
  match p with
  | .hspi => execReadBurst a 1 s
  | .core => if s.power.inReset || !s.hspiPowered then s else s.coreRead a
  | .coreOther => if s.power.inReset || !s.hspiPowered then s else s.coreBusError
  | .window => match regOf a.toNat with
    | some (b, off) =>
      if a.toNat % 4 ≠ 0 || !s.hspiPowered then s
      else
        let r := s.windowRead b off
        { r.2 with hspi := { r.2.hspi with windowData := r.1 } }
    | none => s

/-- One write of an address over a path. -/
def State.accessWrite (s : State) (p : Path) (a v : Word) : State :=
  match p with
  | .hspi => execWriteBurst a [v] s
  | .core => if !s.hspiPowered then s else s.coreWrite a v
  | .coreOther => if !s.hspiPowered then s else s.coreBusError
  | .window => match regOf a.toNat with
    | some (b, off) => if a.toNat % 4 ≠ 0 || !s.hspiPowered then s else s.windowWrite b off v
    | none => s

end Sys2Proof.Machine
end

