-- ==== Sys2Proof/Machine/Eop.lean ====
section
/-! DEFINITION. The Elvair Object Protocol (R451 to R482, R638, R702): the checks of a received message, the operations, sessions,
answers, the host mailbox, and what the node sends on its own. -/

namespace Sys2Proof.Machine

/-! ## A received message -/

/-- Payload limit of a port; the mailbox is port 4 (R452). -/
def eopLimit (port : Nat) : Nat := if port = 2 ∨ port = 3 then 1400 else 8800

def isSealed (m : EopMsg) : Bool := m.flags.testBit 1

/-- The header bytes exactly as sent (R467). -/
def msgHeader (m : EopMsg) (op : Nat) : List Byte :=
  beBytes 2 m.magic ++ beBytes 1 m.version ++ beBytes 1 op ++ beBytes 2 m.flags ++ beBytes 2 m.session ++ beBytes 4 m.id ++
    beBytes 8 m.counter ++ beBytes 2 m.length ++ beBytes 1 m.keySlot ++ beBytes 1 m.reserved

/-- The answer's destination (R451, R604). -/
def msgDest (m : EopMsg) : Dest := { port := m.port, mac := m.srcMac, vid := m.vid, ip := m.srcIp, udp := m.srcUdp }

/-- The message reaches the EOP engine (R451): its port is enabled and answers EOP; the broadcast row lies on C0 and C1 (R703). -/
def State.eopHears (s : State) (m : EopMsg) : Bool :=
  s.timeRuns && decide (m.port < 4) && s.eopPorts.testBit m.port && s.portState m.port == 1 && (!m.broadcast || decide (2 ≤ m.port))

/-- Steps 1 and 2 of R454. Only an IMAGE_BLOCK is taken from a broadcast, and one of another length is dropped (R702); so is a
HEARTBEAT of another length. -/
def eopMalformed (op : Nat) (m : EopMsg) : Bool :=
  m.payload.length != m.length || m.tag.length != (if (isSealed m) then 16 else 0) || m.magic != 0x454F || m.version != 1 ||
    decide (eopLimit m.port < m.length) || m.flags.testBit 0 || (m.broadcast && (op != 0x21 || m.length != 1064)) ||
    (op == 0x20 && m.length != 148)

/-! ## Answers (R456, R465, R471) -/

/-- A HEARTBEAT has no answer, and a broadcast is never answered (R455, R651). -/
def eopSilent (op : Nat) (m : EopMsg) : Bool := op == 0x20 || m.broadcast

/-- Record an answer (log entry 13). -/
def State.answered (s : State) (a : Answer) : State := { s with eop := { s.eop with lastAnswer := a } }

/-- Send an ACK, sealed with a slot or unsealed. -/
def State.ack (s : State) (op : Nat) (m : EopMsg) (sl : Option Nat) (flags : Nat) (a : Answer) : State :=
  if eopSilent op m then s.answered a
  else (s.answered a).reply (msgDest m) 0x10 (flResponse + flags) m.session m.id sl (ackPayload a)

/-- Payload of a HELLO answer (R465). TX_COUNT is the counter that a sealed answer carries. -/
def State.helloPayload (s : State) (m : EopMsg) (sl : Option Nat) (status sid : Nat) : List Byte :=
  let known := (isSealed m) && s.hasKey m.keySlot
  let t := tget 0 s.eop.txCount m.keySlot + b2n sl.isSome
  beBytes 1 status ++ [0#8] ++ beBytes 2 sid ++ m.payload.take 4 ++ List.replicate (4 - m.payload.length) 0#8 ++ uidBytes ++
    beBytes 4 s.flash.bootCount ++ beBytes 1 s.nodeId ++ beBytes 1 (b2n s.full) ++ beBytes 2 (eopLimit m.port) ++
    beBytes 8 (if known then tget 0 s.eop.rxHigh m.keySlot else 0) ++ beBytes 8 (if known then t else 0)

/-- Send a HELLO answer. -/
def State.helloAnswer (s : State) (m : EopMsg) (sl : Option Nat) (flags status sid : Nat) : State :=
  (s.answered { op := 0x30, status := status, handle := 0, data := [] }).reply (msgDest m) 0x30 (flResponse + flags) sid m.id sl
    (s.helloPayload m sl status sid)

/-- Answer a request with a bare status. -/
def State.answerStatus (s : State) (op : Nat) (m : EopMsg) (sl : Option Nat) (flags status : Nat) (data : List Byte) : State :=
  if op = 0x30 then s.helloAnswer m sl flags status 0xFFFF
  else s.ack op m sl flags { op := op, status := status, handle := 0, data := data }

/-- The unsealed answer of steps 3 and 4, at most once per millisecond and port (R454). -/
def State.failAnswer (s : State) (op : Nat) (m : EopMsg) (status : Nat) : State :=
  let ms := s.now / 1000000 + 1
  if tget 0 s.eop.failMs m.port = ms then s.eopCount 12
  else { s with eop := { s.eop with failMs := tset 0 s.eop.failMs m.port ms } }.answerStatus op m none 0 status []

/-- The source of the last tag failure or stale counter (R479). -/
def State.lastFail (s : State) (m : EopMsg) : State := (s.setFld oEopCnt 0 14 m.srcIp).setFld oEopCnt 0 15 m.srcUdp

/-- Steps 3 to 5 of R454 for a sealed message: whether it goes on. -/
def State.checkSeal (s : State) (op : Nat) (m : EopMsg) : Bool × State :=
  let k := m.keySlot
  let h := tget 0 s.eop.rxHigh k
  if !s.hasKey k then (false, (s.eopCount 4).failAnswer op m stNoKey)
  else if eopTag (s.slotKey k) (msgHeader m op) m.payload ≠ m.tag then
    (false, (((s.eopCount 2).lastFail m).raise 124).failAnswer op m stAuthFail)
  else if m.counter ≤ h then
    (false, (((s.eopCount 3).lastFail m).raise 125).answerStatus op m (some k) 0 stStale (beBytes 8 h))
  else if (s.keySlot k).rxK + 65536 ≤ m.counter then
    let s1 := { s with eop := { s.eop with rxStore := tset 0 s.eop.rxStore k (m.counter / 65536 * 65536) } }
    (false, (s1.eopCount 7).answerStatus op m (some k) 0 stBusy [])
  else (true, { s with eop := { s.eop with rxHigh := tset 0 s.eop.rxHigh k m.counter } })

/-! ## The operations (R455 to R461) -/

/-- The result of an operation. -/
structure OpRes where
  status : Nat
  handle : Nat
  data   : List Byte
  st     : State

/-- Refused, or answered without data. -/
def opStatus (s : State) (st : Nat) : OpRes := { status := st, handle := 0, data := [], st := s }

/-- Answered OK with data. -/
def opData (s : State) (data : List Byte) : OpRes := { status := stOk, handle := 0, data := data, st := s }

/-- The result of an object write. -/
def WRes.op (r : WRes) : OpRes := { status := r.status, handle := r.handle, data := [], st := r.st }

def pNat (p : List Byte) (i n : Nat) : Nat := beNat ((p.drop i).take n)

/-- An index that this manual defines (R442). -/
def indexDefined (idx : Nat) : Bool := dict.any (fun e => e.1 / 256 == idx)

/-- A register window (R480). -/
def isWindow (idx : Nat) : Bool := decide (0xA000 ≤ idx) && decide (idx ≤ 0xA01F)

def ObjDef.isTable (d : ObjDef) : Bool := match d.shape with
  | .rows _ => true
  | .upTo _ => true
  | _ => false

/-- A read that R446 or another chapter refuses with ACCESS: a WO object, the keys (R473, R474), and over the mailbox the event mask
(R477). -/
def readBarred (w : Who) (d : ObjDef) (o : Nat) : Bool :=
  !mayRead d.acc || o == 0x111000 || (o == 0x112000 && (w.origin == .hspi || w.origin == .weir))

/-- The event mask of the session that reads (R477). -/
def State.ownMask (s : State) (w : Who) : Nat := match w.origin with
  | .openSession i => (s.session i).mask
  | .sealedSession i => (s.session i).mask
  | _ => 0

/-- The value of a non-table object; PENDING asks for an identity object's stored value (R448, R453). -/
def State.readValue (s : State) (w : Who) (pending : Bool) (d : ObjDef) (o : Nat) : List Byte :=
  if o = 0x112000 then joinFields d.flds [s.ownMask w]
  else if pending && d.keep == .identity then joinFields d.flds (s.storedRow o 0)
  else s.readBytes d o 0

/-- READ (R441, R446, R448). -/
def State.opRead (s : State) (w : Who) (pending : Bool) (p : List Byte) : OpRes :=
  let idx := pNat p 0 2
  let o := idx * 256 + pNat p 2 1
  if 0xF000 ≤ idx then opStatus s stAccess
  else if isWindow idx then (if pNat p 2 1 = 0 then opData s (beBytes 4 16384) else opStatus s stNoObject)
  else match objDef o with
    | none => opStatus s stNoObject
    | some d =>
      if d.isTable ∧ o ≠ 0x111000 then opData s (beBytes 4 (s.tableRows d o))
      else if readBarred w d o then opStatus s stAccess
      else opData (s.rowRead o 0) (s.readValue w pending d o)

/-- WRITE (R447, R461). -/
def State.opWrite (s : State) (w : Who) (p : List Byte) : OpRes :=
  let idx := pNat p 0 2
  let o := idx * 256 + pNat p 2 1
  if 0xF000 ≤ idx then opStatus s stAccess
  else if isWindow idx then opStatus s (if pNat p 2 1 = 0 then stAccess else stNoObject)
  else match objDef o with
    | none => opStatus s stNoObject
    | some d =>
      if d.shape = .domain then opStatus s stType
      else if d.isTable then (writeSub0 w o (p.drop 4) d s).op
      else (writeObj w o 0 (fun d => rowOf d (p.drop 4)) s).op

/-- Read `n` rows from row `r`, or the same row `n` times. -/
def State.readRows (s : State) (d : ObjDef) (o : Nat) (again : Bool) : Nat → Nat → List Byte × State
  | 0, _ => ([], s)
  | n + 1, r =>
    let rest := State.readRows (s.rowRead o r) d o again n (if again then r else r + 1)
    (s.readBytes d o r ++ rest.1, rest.2)

/-- Window accesses in ascending row order (R480). -/
def State.readWindow (s : State) (b : Nat) (again : Bool) : Nat → Nat → List Byte × State
  | 0, _ => ([], s)
  | n + 1, r =>
    let x := s.windowRead b (4 * r)
    let rest := State.readWindow x.2 b again n (if again then r else r + 1)
    (beBytes 4 x.1.toNat ++ rest.1, rest.2)

/-- Rows that an answer returns (R457). -/
def rowsReturned (limit rows size row count : Nat) (again : Bool) : Nat :=
  min (if again then count else min count (rows - row)) ((limit - 16) / max 1 size)

/-- READ_ROW (R457, R480). -/
def State.opReadRow (s : State) (w : Who) (limit : Nat) (p : List Byte) : OpRes :=
  let idx := pNat p 0 2
  let o := idx * 256
  let again := (pNat p 2 2).testBit 0
  let row := pNat p 4 4
  let count := pNat p 8 2
  let head := fun (n size : Nat) => beBytes 4 row ++ beBytes 2 n ++ beBytes 2 size
  if 0xF000 ≤ idx then opStatus s stAccess
  else if isWindow idx then
    if 16384 ≤ row ∨ count = 0 then opStatus s stRange
    else
      let n := rowsReturned limit 16384 4 row count again
      let x := s.readWindow (idx - 0xA000) again n row
      opData x.2 (head n 4 ++ x.1)
  else match objDef o with
    | none => opStatus s (if indexDefined idx then stType else stNoObject)
    | some d =>
      if !d.isTable then opStatus s stType
      else if readBarred w d o then opStatus s stAccess
      else if s.tableRows d o ≤ row ∨ count = 0 ∨ ((captureOf o).isSome ∧ 1 < count) then opStatus s stRange
      else
        let size := rowBytes d.flds
        let n := rowsReturned limit (s.tableRows d o) size row count again
        let x := s.readRows d o again n row
        opData x.2 (head n size ++ x.1)

/-- Write rows in ascending order until one is refused (R458): the last status and handle, and the rows done. -/
def writeRows (w : Who) (o : Nat) : Nat → Nat → WRes → List (List Byte) → WRes × Nat
  | _, n, r, [] => (r, n)
  | row, n, r, b :: bs =>
    let x := writeObj w o row (fun d => rowOf d b) r.st
    if accepted x.status then writeRows w o (row + 1) (n + 1) x bs else (x, n)

/-- Window writes in ascending row order. -/
def State.writeWindow (s : State) (b : Nat) : Nat → List (List Byte) → State
  | _, [] => s
  | row, x :: xs => State.writeWindow (s.windowWrite b (4 * row) (wd (beNat x))) b (row + 1) xs

/-- WRITE_ROW (R445, R458, R480). -/
def State.opWriteRow (s : State) (w : Who) (p : List Byte) : OpRes :=
  let idx := pNat p 0 2
  let o := idx * 256
  let row := pNat p 4 4
  let count := pNat p 8 2
  let body := p.drop 12
  let rows := fun (size : Nat) => pieces size count body
  if 0xF000 ≤ idx then opStatus s stAccess
  else if isWindow idx then
    if !originCritical w.origin then { opStatus s stAccess with data := beBytes 2 0 }
    else if count = 0 then opStatus s stRange
    else if body.length ≠ 4 * count then opStatus s stType
    else
      let n := min count (16384 - row)
      let s1 := s.writeWindow (idx - 0xA000) row ((rows 4).take n)
      { opStatus s1 (if n = count then stOk else stRange) with data := beBytes 2 n }
  else match objDef o with
    | none => opStatus s (if indexDefined idx then stType else stNoObject)
    | some d =>
      if !d.isTable then opStatus s stType
      else if !mayWrite d.acc w.origin || barred w o row then { opStatus s stAccess with data := beBytes 2 0 }
      else if count = 0 then opStatus s stRange
      else if body.length ≠ count * rowBytes d.flds then opStatus s stType
      else
        let x := writeRows w o row 0 (done s) (rows (rowBytes d.flds))
        { x.1.op with data := beBytes 2 x.2 }

/-- SUBMIT (R431, R432); its payload lies in the pool while the graph is read (R567). -/
def State.opSubmit (s : State) (w : Who) (p : List Byte) : OpRes :=
  let r := (s.taskPut 48 0 p).submitGraph w p
  { status := r.1, handle := r.2.1, data := r.2.2.1, st := r.2.2.2.taskDrop 48 (fun _ => true) }

/-- EXEC (R461): OD 0x3001 is the one DOMAIN object. -/
def State.opExec (s : State) (w : Who) (p : List Byte) : OpRes :=
  let idx := pNat p 0 2
  let o := idx * 256 + pNat p 2 1
  if 0xF000 ≤ idx then opStatus s stAccess
  else if isWindow idx then opStatus s (if pNat p 2 1 = 0 then stType else stNoObject)
  else match objDef o with
    | none => opStatus s stNoObject
    | some d => if d.shape = .domain then s.opSubmit w (p.drop 4) else opStatus s stType

/-- CANCEL (R422): the handle is the request ID. -/
def State.opCancel (s : State) (w : Who) (h : Nat) : OpRes :=
  let r := s.cancelTask w h
  opStatus r.2 r.1

/-- The payload lengths of R702. -/
def opLengthOk (op n : Nat) : Bool :=
  match op with
  | 0x01 => n == 4
  | 0x02 => decide (4 ≤ n)
  | 0x03 => n == 12
  | 0x04 => decide (12 ≤ n)
  | 0x05 => decide (4 ≤ n)
  | 0x07 => n == 0
  | _ => true

/-- The reads that Berm service answers (R638). -/
def bermReads (idx sub : Nat) : Bool :=
  (decide (0x1000 ≤ idx) && decide (idx ≤ 0x1002)) || (decide (0x1100 ≤ idx) && decide (idx ≤ 0x1121)) ||
    (decide (0x1200 ≤ idx) && decide (idx ≤ 0x1212)) || (idx == 0x1300 && decide (1 ≤ sub) && decide (sub ≤ 3)) || idx == 0x3120 ||
    (decide (0x3200 ≤ idx) && decide (idx ≤ 0x3221)) || idx == 0x4000 || idx == 0x4110 || idx == 0x4320

/-- The writes that Berm service answers (R638). -/
def bermWrites (idx sub : Nat) : Bool :=
  (idx == 0x1001 && sub == 2) || idx == 0x1101 || idx == 0x1110 || idx == 0x1111 ||
    (decide (0x1200 ≤ idx) && decide (idx ≤ 0x1210) && ((objDef (idx * 256 + sub)).map (fun d => d.keep == .identity)).getD false) ||
    (decide (0x3201 ≤ idx) && decide (idx ≤ 0x3210)) || idx == 0x5000 || idx == 0x5002 || idx == 0x5003

/-- A request of this op and payload is answered in Berm service (R451, R638). -/
def bermAnswers (op : Nat) (p : List Byte) : Bool :=
  match op with
  | 0x01 => bermReads (pNat p 0 2) (pNat p 2 1)
  | 0x02 => bermWrites (pNat p 0 2) (pNat p 2 1)
  | 0x03 => bermReads (pNat p 0 2) 0
  | 0x04 => bermWrites (pNat p 0 2) 0
  | _ => false

/-- Step 8 of R454 for the seven ops of a session. -/
def State.operate (s : State) (op : Nat) (w : Who) (flags id limit : Nat) (p : List Byte) : OpRes :=
  if !opLengthOk op p.length then opStatus s stType
  else if !s.full && !(s.berm && bermAnswers op p) then opStatus s stState
  else match op with
    | 0x01 => s.opRead w (flags.testBit 2) p
    | 0x02 => s.opWrite w p
    | 0x03 => s.opReadRow w limit p
    | 0x04 => s.opWriteRow w p
    | 0x05 => s.opExec w p
    | 0x06 => s.opSubmit w p
    | 0x07 => s.opCancel w id
    | _ => opStatus s stType

/-- The answer of an operation. -/
def OpRes.answer (r : OpRes) (op : Nat) : Answer := { op := op, status := r.status, handle := r.handle, data := r.data }

/-- The stored answer of an ID. -/
def storedAnswer (xs : List (Nat × Answer)) (id : Nat) : Option Answer := (xs.find? (fun e => e.1 == id)).map (fun e => e.2)

/-! ## Sessions (R462 to R466) -/

/-- A session whose idle window has ended is closed (R464). -/
def State.expireSession (s : State) (i : Nat) : State :=
  if (s.session i).open_ && !s.sessionLive i then (s.closeSession i).eopCount 9 else s

/-- Every such session. -/
def State.expireSessions (s : State) : State := (List.range 64).foldl State.expireSession s

/-- The slot of the session of this ID that is open and bound to the sender. -/
def State.boundSession (s : State) (m : EopMsg) : Option Nat :=
  let i := m.session % 64
  let x := s.session i
  if x.open_ && x.sid i == m.session && x.ip == m.srcIp && x.udp == m.srcUdp then some i else none

/-- A request on a session refreshes it (R464, R604). -/
def Session.heard (x : Session) (m : EopMsg) (now : Nat) : Session := { x with last := now, mac := m.srcMac, vid := m.vid, port := m.port }

/-- The key slot a message is sealed with, 0xFF for none. -/
def msgKind (m : EopMsg) : Nat := if (isSealed m) then m.keySlot else 0xFF

/-- HELLO (R462, R463, R465). -/
def State.opHello (s0 : State) (m : EopMsg) (sl : Option Nat) : State :=
  let s := s0.expireSessions
  let close := m.flags.testBit 4
  if m.payload.length ≠ 8 then s.helloAnswer m sl 0 stType 0xFFFF
  else if m.session ≠ 0xFFFF ∨ close then
    match s.boundSession m with
    | some i =>
      if (s.session i).slot ≠ msgKind m then (s.eopCount 5).helloAnswer m sl flNoSession stState 0xFFFF
      else if close then (s.closeSession i).helloAnswer m sl 0 stOk 0xFFFF
      else (s.setSession i ((s.session i).heard m s.now)).helloAnswer m sl 0 stOk m.session
    | none => (s.eopCount 5).helloAnswer m sl flNoSession stState 0xFFFF
  else if !isSealed m && s.val 0x110002 == 0 then s.helloAnswer m sl 0 stAccess 0xFFFF
  else match (List.range 64).find? (fun i => !(s.session i).open_) with
    | none => s.helloAnswer m sl 0 stResource 0xFFFF
    | some i =>
      let g := ((s.session i).gen + 1) % 1023
      let x : Session := { Session.closed with
        open_ := true, slot := msgKind m, gen := g, mac := m.srcMac, vid := m.vid, port := m.port, ip := m.srcIp, udp := m.srcUdp, last := s.now }
      ((s.setSession i x).eopCount 8).helloAnswer m sl 0 stOk (x.sid i)

/-! ## The ops without a session -/

/-- HEARTBEAT (R384): while OD 0x1210.0E names a slot, an unsealed one is dropped. -/
def State.opHeartbeat (s : State) (m : EopMsg) : State :=
  if m.port < 2 ∨ (s.val 0x12100E ≠ 0xFF ∧ !isSealed m) then s
  else State.afterTwin s (s.heartbeatHeard m.srcMac m.payload)

/-- The relayed copy of a fragment: unsealed, NO_RELAY set (R652). -/
def relayedFragment (m : EopMsg) : List Byte :=
  eopHeader 0x21 0 0xFFFF m.id 0 m.payload.length 0xFF ++ m.payload.take 7 ++ [BitVec.ofNat 8 (setBit (pNat m.payload 7 1) 0)] ++ m.payload.drop 8

/-- IMAGE_BLOCK (R649 to R652, R702). -/
def State.opImage (s : State) (m : EopMsg) (sl : Option Nat) : State :=
  if m.payload.length ≠ 1064 then s.answerStatus 0x21 m sl 0 stType []
  else
    let f := readFragment m.payload
    let r := s.fragment f
    let relay := r.2.1 && !m.broadcast && !f.flags.testBit 0 && ((s.update.transfer.map (fun x => x.relay)).getD false)
    let s1 := if relay then r.2.2.relayFragment (relayedFragment m) else r.2.2
    s1.answerStatus 0x21 m sl 0 r.1 (if r.1 = stOk then s1.fragmentData else [])

/-! ## Receiving (R454) -/

/-- Steps 7 and 8 on session i. -/
def State.onSession (s0 : State) (op : Nat) (m : EopMsg) (sl : Option Nat) (i : Nat) : State :=
  let s := s0.setSession i ((s0.session i).heard m s0.now)
  match storedAnswer (s.session i).answers m.id with
  | some a => (s.eopCount 6).ack op m sl 0 a
  | none =>
    let w : Who := { origin := if (isSealed m) then .sealedSession i else .openSession i, task := 0, counter := m.counter,
                     byKey0 := (isSealed m) && m.keySlot == 0 }
    let r := s.operate op w m.flags m.id (eopLimit m.port) m.payload
    let a := r.answer op
    let x := r.st.session i
    let xs := keepAnswer x.answers m.id a
    ((r.st.setSession i { x with answers := xs }).answerKept i m.id a xs).ack op m sl 0 a

/-- Step 6 of R454. -/
def State.bySession (s0 : State) (op : Nat) (m : EopMsg) (sl : Option Nat) : State :=
  let s := s0.expireSession (m.session % 64)
  match s.boundSession m with
  | none => (s.eopCount 5).ack op m sl flNoSession { op := op, status := stState, handle := 0, data := [] }
  | some i =>
    if (s.session i).slot ≠ msgKind m then s.ack op m sl 0 { op := op, status := stAccess, handle := 0, data := [] }
    else s.onSession op m sl i

/-- What follows the seal. -/
def State.eopGoesOn (s : State) (op : Nat) (m : EopMsg) (sl : Option Nat) : State :=
  if op = 0x30 then s.opHello m sl
  else if op = 0x20 then s.opHeartbeat m
  else if op = 0x21 then s.opImage m sl
  else s.bySession op m sl

/-- A HEARTBEAT that comes on C0 or C1 before Berm service (R395, R635): the chain path is UP, and it tells then what state the partner is
in. It is judged by the identity area as stored. -/
def State.bootHeartbeat (s : State) (m : EopMsg) : State :=
  let stored := fun (o : Nat) => (s.storedRow o 0).headD 0
  let slot := stored 0x12100E
  let sealed_ := isSealed m && m.keySlot == slot && s.hasKey slot && eopTag (s.slotKey slot) (msgHeader m 0x20) m.payload == m.tag &&
    decide (tget 0 s.eop.rxHigh slot < m.counter)
  if 2 ≤ m.port ∧ m.port < 4 ∧ !eopMalformed 0x20 m ∧ stored 0x121001 = 1 ∧ beatByte m.payload 0 1 = 1 ∧
      beatByte m.payload 1 1 = stored 0x121002 ∧ (slot = 0xFF ∨ sealed_) then
    let s1 := if slot = 0xFF then s else { s with eop := { s.eop with rxHigh := tset 0 s.eop.rxHigh slot m.counter } }
    (s1.setTwin { s1.twin with heartAt := some s1.now, partnerMac := some m.srcMac, bootBeat := m.payload }).setChain true
  else s

/-- A message is received (R451, R454): counted, checked step by step, executed and answered. A port row that it wrote takes effect
behind the answer (R594). -/
def State.eopReceive (s0 : State) (op : Nat) (m : EopMsg) : State :=
  let s := s0.advanceTo m.at_
  if s.booting ∧ op = 0x20 then s.bootHeartbeat m
  else if !s.eopHears m then s
  else if eopMalformed op m then s.eopCount 1
  else
    let s1 := s.eopCount 0
    if (isSealed m) then
      let r := s1.checkSeal op m
      if r.1 then (r.2.eopGoesOn op m (some m.keySlot)).portsSettle else r.2
    else (s1.eopGoesOn op m none).portsSettle

/-! ## The host mailbox (R481, R482) -/

/-- The answer stands in EOP.HOST_RSP. -/
def State.mailboxDone (s : State) (session id flags : Nat) (a : Answer) : State :=
  let p := ackPayload a
  { s with eop := { s.eop with
      hostRsp := eopHeader 0x10 (flResponse + flags) session id 0 p.length 0xFF ++ p
      hostBusy := false
      hostDone := true
      lastAnswer := a } }

/-- Run the request in EOP.HOST_REQ. -/
def State.mailboxRequest (s : State) : State :=
  let h := mgets s.eop.hostReq 0 24
  let op := pNat h 3 1
  let flags := pNat h 4 2
  let session := pNat h 6 2
  let id := pNat h 8 4
  let len := pNat h 20 2
  let plain := fun (st : Nat) => ({ op := op, status := st, handle := 0, data := [] } : Answer)
  if pNat h 0 2 ≠ 0x454F ∨ pNat h 2 1 ≠ 1 ∨ !isRequest op ∨ flags.testBit 0 ∨ 8800 < len then
    (s.eopCount 1).mailboxDone session id 0 (plain stType)
  else
    let s1 := s.eopCount 0
    if flags.testBit 1 ∨ op = 0x30 ∨ op = 0x20 ∨ op = 0x21 then s1.mailboxDone session id 0 (plain stType)
    else if session ≠ 0xFFFE then (s1.eopCount 5).mailboxDone session id flNoSession (plain stState)
    else match storedAnswer s1.eop.hostAnswers id with
      | some a => (s1.eopCount 6).mailboxDone session id 0 a
      | none =>
        let r := s1.operate op (Who.of .hspi) flags id 8800 (mgets s1.eop.hostReq 24 len)
        let a := r.answer op
        let xs := keepAnswer r.st.eop.hostAnswers id a
        (({ r.st with eop := { r.st.eop with hostAnswers := xs } }).answerKept 64 id a xs).mailboxDone session id 0 a

/-- Run a mailbox request that is under way: the last thing in the command that began it. -/
def State.mailboxRun (s : State) : State := if s.eop.hostBusy then s.mailboxRequest.portsSettle else s

/-- HOST_DOORBELL_GO (R481): an HSPI write of EOP.HOST_DOORBELL. -/
def execHostDoorbell (v : Word) (s : State) : State := (s.accessWrite .hspi (regAddr 21 0x20) v).mailboxRun

/-! ## What the node does on its own -/

/-- SESSION_IDLE_TIMEOUT (R464). -/
def execSessionIdleTimeout (slot : Nat) (s0 : State) : State :=
  let x := s0.session slot
  if slot < 64 ∧ x.open_ ∧ s0.timeRuns then (s0.advanceTo (x.last + s0.val 0x110003 * 1000000000)).expireSession slot else s0

/-- EVENT_SEND (R478): the window's end. -/
def execEventSend (slot : Nat) (s0 : State) : State :=
  let x := s0.session slot
  if 64 ≤ slot ∨ !x.open_ ∨ x.evBits = 0 ∨ !s0.timeRuns then s0
  else
    let s := (s0.advanceTo ((x.evAt / 1000000 + 1) * 1000000)).expireSession slot
    if !(s.session slot).open_ then s
    else
      let n := (x.evSeq + 1) % 2 ^ 32
      let payload := beBytes 4 n ++ beBytes 10 (nsPt x.evAt) ++ [0#8, 0#8] ++ beBytes 16 x.evBits
      let next := x.evRest.headD (0, 0)
      ((s.setSession slot { x with evSeq := n, evBits := next.2, evAt := next.1, evRest := x.evRest.drop 1 }).sendMsg (x.dest s) 6 .eop
        0x12 flResponse (x.sid slot) 0 x.sealBy payload 0).eopCount 10

/-- CHECKPOINT_STORE (R470): a store that is under way completes; held messages of the slot leave in order, and a port that was to stop
behind one of them stops (R594). -/
def execCheckpointStore (slot : Nat) (transmit : Bool) (s : State) : State :=
  let k := s.keySlot slot
  if transmit then
    let v := tget 0 s.eop.txStore slot
    if v = 0 then s
    else
      (State.sendHeld { s with
        flash := { s.flash with keys := tset KeySlot.empty s.flash.keys slot { k with txK := v } }
        eop := { s.eop with txStore := tset 0 s.eop.txStore slot 0 } } slot).portsSettle
  else
    let v := tget 0 s.eop.rxStore slot
    if v = 0 then s
    else { s with
      flash := { s.flash with keys := tset KeySlot.empty s.flash.keys slot { k with rxK := v } }
      eop := { s.eop with rxStore := tset 0 s.eop.rxStore slot 0 } }

/-- KEY (R473): a write of row `row` carried by a message with the given counter, where EOP would make it (R638, log entry 45). -/
def execKey (row : Nat) (v : List Byte) (counter : Nat) (byKey0 : Bool) (s : State) : State :=
  if !s.hspiPowered then s
  else if s.full || s.berm then
    (writeObj { origin := .sealedSession 0, task := 0, counter := counter, byKey0 := byKey0 && !s.flash.otpKey.isEmpty } 0x111000 row (fun d => rowOf d v) s).record
  else (refuse s stState).record

end Sys2Proof.Machine
end

