-- ==== Sys2Proof/Machine/Jtag.lean ====
section
/-! DEFINITION. The JTAG port (R695): the test access port of IEEE 1149.1, the IDCODE and the balls of the boundary-scan chain. No row of
the command table clocks the port, and TRST_N holds it in reset in operation (log entry 83). -/

namespace Sys2Proof.Machine

/-- The next state of the port at a rising edge of TCK with TMS at the level given. -/
def Tap.next (t : Tap) (tms : Bool) : Tap :=
  match t with
  | .reset => if tms then .reset else .idle
  | .idle => if tms then .selectDr else .idle
  | .selectDr => if tms then .selectIr else .captureDr
  | .captureDr => if tms then .exit1Dr else .shiftDr
  | .shiftDr => if tms then .exit1Dr else .shiftDr
  | .exit1Dr => if tms then .updateDr else .pauseDr
  | .pauseDr => if tms then .exit2Dr else .pauseDr
  | .exit2Dr => if tms then .updateDr else .shiftDr
  | .updateDr => if tms then .selectDr else .idle
  | .selectIr => if tms then .reset else .captureIr
  | .captureIr => if tms then .exit1Ir else .shiftIr
  | .shiftIr => if tms then .exit1Ir else .shiftIr
  | .exit1Ir => if tms then .updateIr else .pauseIr
  | .pauseIr => if tms then .exit2Ir else .pauseIr
  | .exit2Ir => if tms then .updateIr else .shiftIr
  | .updateIr => if tms then .selectDr else .idle

/-- IDCODE 0xs742_0C5B: s is the stepping of OD 0x1000.02 (R695). -/
def jtagIdcode : Nat := Config.stepping.toNat % 16 * 2 ^ 28 + 0x7420C5B

/-- Kinds of balls as R695 names them. -/
inductive Ball where
  | lvcmos | serdes | ddr | gauge | dike | crystal | tref | sense
  deriving DecidableEq, Repr

/-- The boundary-scan chain covers every LVCMOS ball, ST0 to ST255 included, and no other kind (R695). -/
def Ball.scanned (b : Ball) : Bool := b == .lvcmos

end Sys2Proof.Machine
end

