-- ==== Sys2Proof/Machine/Commands.lean ====
section
/-! DEFINITION. The meaning of each command of the table, one definition for each, over the effects that the family files define. A
command changes everything but the queue of those that wait. -/

namespace Sys2Proof.Machine

/-- A command's answer: the state it leaves, with the waiting commands untouched. -/
def ans (s t : State) : Host.Outcome State Fault Refusal := .next { t with pending := s.pending }

/-- A write that a command of its own carries (R447), as EOP or the mailbox would bring it: in Berm service only the writes of R638 are
made, and before it none (log entry 45); a CORE task runs in full service. Nothing reaches a node that is asleep or in reset. -/
def State.request (s : State) (o : Origin) (obj row : Nat) (v : ObjDef → Option Row) : State :=
  if !s.hspiPowered then s
  else if s.full || (s.berm && bermWrites (obj / 256) (obj % 256)) then s.command o obj row v
  else (refuse s stState).record

/-- An EOP message is received and its cells freed; a mailbox request that it may have begun runs. -/
def State.received (s : State) (op : Nat) (m : EopMsg) : State := ((s.eopReceive op m).consume (s.eopQueue m)).mailboxRun

/-- An arm of head h's commit (R184): by the head's register, or by a write of OD 0x2204. -/
def State.armByCommand (s : State) (h : Nat) (ovr byRegister : Bool) : State :=
  if byRegister then s.accessWrite .core (regAddr (12 + h % 2) 0x20) (wd (1 + 2 * b2n ovr))
  else s.request .hspi 0x220400 h (fun d => numRow d (b2n ovr))

/-! ## Power, reset and bring-up -/

/-- POWER_ON (R625, R681). -/
def cmdPowerOn (resetNLow : Bool) (s : State) (porst : Option Nat := none) : Host.Outcome State Fault Refusal :=
  ans s (execPowerOn resetNLow porst s)

/-- PIN_RESET (R626). -/
def cmdPinReset (lowNs : Nat) (s : State) : Host.Outcome State Fault Refusal :=
  ans s (execPinReset lowNs s)

/-- WATCHDOG_WARN (R629). -/
def cmdWatchdogWarn (s : State) : Host.Outcome State Fault Refusal :=
  ans s (execWatchdogWarn s)

/-- WATCHDOG_EXPIRY (R629). -/
def cmdWatchdogExpiry (s : State) : Host.Outcome State Fault Refusal :=
  ans s (execWatchdogExpiry s)

/-- RESET_ASSERT (R626). -/
def cmdResetAssert (s : State) : Host.Outcome State Fault Refusal :=
  ans s (execResetAssert s)

/-- RESET_RELEASE (R678). -/
def cmdResetRelease (s : State) : Host.Outcome State Fault Refusal :=
  ans s (execResetRelease s)

/-- RAIL_START_TIMEOUT (R678). -/
def cmdRailStartTimeout (s : State) : Host.Outcome State Fault Refusal :=
  ans s (execRailStartTimeout s)

/-- BERM_SERVICE (R637). -/
def cmdBermService (s : State) : Host.Outcome State Fault Refusal :=
  ans s (execBermService s)

/-- DRAM_STATE (R635). -/
def cmdDramState (ok : Bool) (gib : Nat) (channels : Nat) (s : State) : Host.Outcome State Fault Refusal :=
  ans s (execDramState ok gib channels s)

/-- SERVICE_START (R635). -/
def cmdServiceStart (s : State) : Host.Outcome State Fault Refusal :=
  ans s (execServiceStart s)

/-- VAON_LOSS (R679). -/
def cmdVaonLoss (s : State) : Host.Outcome State Fault Refusal :=
  ans s (execVaonLoss s)

/-- RAIL_WARNING (R679). -/
def cmdRailWarning (rail : Nat) (s : State) : Host.Outcome State Fault Refusal :=
  ans s (execRailWarning rail s)

/-- BROWNOUT (R633). -/
def cmdBrownout (rail : Nat) (s : State) : Host.Outcome State Fault Refusal :=
  ans s (execBrownout rail s)

/-- CLOCK (R684). -/
def cmdClock (kind : Nat) (s : State) : Host.Outcome State Fault Refusal :=
  ans s (execClock kind s)

/-- STANDBY (R632). -/
def cmdStandby (v : Nat) (o : Origin) (s : State) : Host.Outcome State Fault Refusal :=
  ans s (s.request o 0x500200 0 (fun d => numRow d v))

/-- HIBERNATE (R632). -/
def cmdHibernate (seconds : Nat) (o : Origin) (s : State) : Host.Outcome State Fault Refusal :=
  ans s (s.request o 0x500300 0 (fun d => numRow d seconds))

/-- POWER_ENTRY (R30). -/
def cmdPowerEntry (s : State) : Host.Outcome State Fault Refusal :=
  ans s (execPowerEntry s)

/-- WAKE (R29). -/
def cmdWake (s : State) : Host.Outcome State Fault Refusal :=
  ans s (execWake s)

/-- WAKE_TIMER (R632). -/
def cmdWakeTimer (s : State) : Host.Outcome State Fault Refusal :=
  ans s (execWakeTimer s)

/-- WAKE_PATTERN_MATCH (R618). -/
def cmdWakePatternMatch (f : EthFrame) (wakeToo : Bool) (s : State) : Host.Outcome State Fault Refusal :=
  ans s (execWakePatternMatch f wakeToo s)

/-- RESET (R486). -/
def cmdReset (v : Nat) (o : Origin) (s : State) : Host.Outcome State Fault Refusal :=
  ans s (s.request o 0x500000 0 (fun d => numRow d v))

/-- AON_RESET (R670). -/
def cmdAonReset (key : Nat) (p : Path) (s : State) : Host.Outcome State Fault Refusal :=
  ans s (s.accessWrite p (regAddr 23 0x20) (wd key))

/-! ## Time -/

/-- SYNC (R48). -/
def cmdSync (dom : Nat) (rx : PtpRx) (at_ : Nat) (seq : Nat) (twoStep : Bool) (master : Nat) (filtered : Int) (freq : Int) (s : State) : Host.Outcome State Fault Refusal :=
  ans s ((execSync dom rx.l2 rx.port at_ seq twoStep master filtered freq s).consume (33 + 4 * rx.port))

/-- FOLLOW_UP (R45). -/
def cmdFollowUp (dom : Nat) (rx : PtpRx) (at_ : Nat) (seq : Nat) (master : Nat) (filtered : Int) (freq : Int) (s : State) : Host.Outcome State Fault Refusal :=
  ans s ((execFollowUp dom rx.l2 rx.port at_ seq master filtered freq s).consume (33 + 4 * rx.port))

/-- ANNOUNCE (R47). -/
def cmdAnnounce (dom : Nat) (rx : PtpRx) (at_ : Nat) (a : Announce) (s : State) : Host.Outcome State Fault Refusal :=
  ans s ((execAnnounce dom rx.l2 rx.port at_ a s).consume (33 + 4 * rx.port))

/-- DELAY_RESP (R45). -/
def cmdDelayResp (dom : Nat) (rx : PtpRx) (seq : Nat) (receipt : Nat) (logInterval : Int) (s : State) : Host.Outcome State Fault Refusal :=
  ans s ((execDelayResp dom rx.l2 rx.port seq receipt logInterval s).consume (33 + 4 * rx.port))

/-- DELAY_REQ_SEND (R45). -/
def cmdDelayReqSend (dom : Nat) (s : State) : Host.Outcome State Fault Refusal :=
  ans s (execDelayReqSend dom s)

/-- SYNC_MISSED (R48). -/
def cmdSyncMissed (dom : Nat) (s : State) : Host.Outcome State Fault Refusal :=
  ans s (execSyncMissed dom s)

/-- ANNOUNCE_TIMEOUT (R48). -/
def cmdAnnounceTimeout (dom : Nat) (port : Nat) (s : State) : Host.Outcome State Fault Refusal :=
  ans s (execAnnounceTimeout dom port s)

/-- HOLDOVER_EXPIRY (R50). -/
def cmdHoldoverExpiry (dom : Nat) (s : State) : Host.Outcome State Fault Refusal :=
  ans s (execHoldoverExpiry dom s)

/-- DOMAIN_REVERT (R59). -/
def cmdDomainRevert (s : State) : Host.Outcome State Fault Refusal :=
  ans s (execDomainRevert s)

/-- SWITCH_AT (R61). -/
def cmdSwitchAt (v : List Byte) (o : Origin) (s : State) : Host.Outcome State Fault Refusal :=
  ans s (s.request o 0x130009 0 (fun d => rowOf d v))

/-- TIMED_SWITCH (R61). -/
def cmdTimedSwitch (s : State) : Host.Outcome State Fault Refusal :=
  ans s (execTimedSwitch s)

/-- SNAP_GO (R43). -/
def cmdSnapGo (v : Word) (p : Path) (s : State) : Host.Outcome State Fault Refusal :=
  ans s (s.accessWrite p (regAddr 11 0x20) v)

/-- PULSE (R70). -/
def cmdPulse (row : Nat) (v : List Byte) (o : Origin) (s : State) : Host.Outcome State Fault Refusal :=
  ans s (s.request o 0x131000 row (fun d => rowOf d v))

/-- PULSE_EDGE (R71). -/
def cmdPulseEdge (row : Nat) (s : State) : Host.Outcome State Fault Refusal :=
  ans s (execPulseEdge row s)

/-- TSI_EDGE (R77). -/
def cmdTsiEdge (input : Nat) (at_ : Nat) (frac : Nat) (falling : Bool) (widthNs : Nat) (s : State) : Host.Outcome State Fault Refusal :=
  ans s (execTsiEdge input at_ frac falling widthNs s)

/-! ## EOP -/

/-- READ (R455). -/
def cmdRead (m : EopMsg) (s : State) : Host.Outcome State Fault Refusal :=
  ans s (s.received 0x01 m)

/-- WRITE (R447). -/
def cmdWrite (m : EopMsg) (s : State) : Host.Outcome State Fault Refusal :=
  ans s (s.received 0x02 m).cancelsDone

/-- READ_ROW (R457). -/
def cmdReadRow (m : EopMsg) (s : State) : Host.Outcome State Fault Refusal :=
  ans s (s.received 0x03 m)

/-- WRITE_ROW (R458). -/
def cmdWriteRow (m : EopMsg) (s : State) : Host.Outcome State Fault Refusal :=
  ans s (s.received 0x04 m)

/-- EXEC (R461). -/
def cmdExec (m : EopMsg) (s : State) : Host.Outcome State Fault Refusal :=
  ans s (s.received 0x05 m)

/-- SUBMIT (R426). -/
def cmdSubmit (m : EopMsg) (s : State) : Host.Outcome State Fault Refusal :=
  ans s (s.received 0x06 m)

/-- CANCEL (R422). -/
def cmdCancel (m : EopMsg) (s : State) : Host.Outcome State Fault Refusal :=
  ans s (s.received 0x07 m).cancelsDone

/-- HELLO (R462). -/
def cmdHello (m : EopMsg) (s : State) : Host.Outcome State Fault Refusal :=
  ans s (s.received 0x30 m)

/-- HEARTBEAT (R384). -/
def cmdHeartbeat (m : EopMsg) (s : State) : Host.Outcome State Fault Refusal :=
  ans s (s.received 0x20 m)

/-- IMAGE_BLOCK (R650). -/
def cmdImageBlock (m : EopMsg) (s : State) : Host.Outcome State Fault Refusal :=
  ans s (s.received 0x21 m)

/-- SESSION_IDLE_TIMEOUT (R464). -/
def cmdSessionIdleTimeout (slot : Nat) (s : State) : Host.Outcome State Fault Refusal :=
  ans s (execSessionIdleTimeout slot s)

/-- EVENT_SEND (R478). -/
def cmdEventSend (slot : Nat) (s : State) : Host.Outcome State Fault Refusal :=
  ans s (execEventSend slot s)

/-- CHECKPOINT_STORE (R470). -/
def cmdCheckpointStore (slot : Nat) (transmit : Bool) (s : State) : Host.Outcome State Fault Refusal :=
  ans s (execCheckpointStore slot transmit s)

/-- SETTINGS_SAVE (R449). -/
def cmdSettingsSave (s : State) (ok : Bool := true) : Host.Outcome State Fault Refusal :=
  ans s (execSettingsSave ok s)

/-- SETTINGS_DEFAULT (R450). -/
def cmdSettingsDefault (v : Nat) (o : Origin) (s : State) : Host.Outcome State Fault Refusal :=
  ans s (s.request o 0x500100 0 (fun d => numRow d v))

/-- PROVISION_KEY (R472). -/
def cmdProvisionKey (key : List Byte) (o : Origin) (s : State) : Host.Outcome State Fault Refusal :=
  ans s (s.request o 0x111100 0 (fun d => rowOf d key))

/-- KEY (R473). -/
def cmdKey (row : Nat) (v : List Byte) (counter : Nat) (byKey0 : Bool) (s : State) : Host.Outcome State Fault Refusal :=
  ans s (execKey row v counter byKey0 s)

/-- EVENT_SUBSCRIBE (R477). -/
def cmdEventSubscribe (mask : List Byte) (o : Origin) (s : State) : Host.Outcome State Fault Refusal :=
  ans s (s.request o 0x112000 0 (fun d => rowOf d mask))

/-- HOST_DOORBELL_GO (R481). -/
def cmdHostDoorbellGo (v : Word) (s : State) : Host.Outcome State Fault Refusal :=
  ans s (execHostDoorbell v s).cancelsDone

/-! ## The host port and registers -/

/-- READ_BURST (R492). -/
def cmdReadBurst (addr : Word) (words : Nat) (s : State) : Host.Outcome State Fault Refusal :=
  ans s (execReadBurst addr words s)

/-- WRITE_BURST (R493). -/
def cmdWriteBurst (addr : Word) (data : List Word) (s : State) : Host.Outcome State Fault Refusal :=
  ans s ((execWriteBurst addr data s).mailboxRun)

/-- HSPI_STATUS (R498). -/
def cmdHspiStatus (s : State) : Host.Outcome State Fault Refusal :=
  ans s (execHspiStatus s)

/-- UNKNOWN_OPCODE (R494). -/
def cmdUnknownOpcode (op : Option Nat) (s : State) : Host.Outcome State Fault Refusal :=
  ans s (execUnknownOpcode op s)

/-- LATE_FETCH_DONE (R497). -/
def cmdLateFetchDone (s : State) : Host.Outcome State Fault Refusal :=
  ans s (execLateFetchDone s)

/-- REGISTER_WRITE (R499). -/
def cmdRegisterWrite (p : Path) (addr : Word) (v : Word) (s : State) : Host.Outcome State Fault Refusal :=
  ans s ((s.accessWrite p addr v).mailboxRun)

/-- MASKED_WRITE (R502). -/
def cmdMaskedWrite (p : Path) (addr : Word) (v : Word) (s : State) : Host.Outcome State Fault Refusal :=
  ans s ((s.accessWrite p addr v).mailboxRun)

/-- WOL_WRITE (R504). -/
def cmdWolWrite (p : Path) (addr : Word) (v : Word) (s : State) : Host.Outcome State Fault Refusal :=
  ans s ((s.accessWrite p addr v).mailboxRun)

/-- COUNTER_LO_READ (R505). -/
def cmdCounterLoRead (p : Path) (addr : Word) (s : State) : Host.Outcome State Fault Refusal :=
  ans s (s.accessRead p addr)

/-- CULV_ADDR_WRITE (R507). -/
def cmdCulvAddrWrite (p : Path) (block : Nat) (v : Word) (s : State) : Host.Outcome State Fault Refusal :=
  ans s (s.accessWrite p (regAddr (block % 32) 0xFFF8) v)

/-- CULV_DATA_READ (R508). -/
def cmdCulvDataRead (p : Path) (block : Nat) (s : State) : Host.Outcome State Fault Refusal :=
  ans s (s.accessRead p (regAddr (block % 32) 0xFFFC))

/-- CULV_DATA_WRITE (R509). -/
def cmdCulvDataWrite (p : Path) (block : Nat) (v : Word) (s : State) : Host.Outcome State Fault Refusal :=
  ans s (s.accessWrite p (regAddr (block % 32) 0xFFFC) v)

/-- CAUSE_CLEAR (R511). -/
def cmdCauseClear (p : Path) (bank : Nat) (v : Word) (s : State) : Host.Outcome State Fault Refusal :=
  ans s (s.accessWrite p (regAddr 1 (0x20 + 4 * (bank % 4))) v)

/-- SUM_CLEAR (R301). -/
def cmdSumClear (p : Path) (quire : Nat) (v : Word) (s : State) : Host.Outcome State Fault Refusal :=
  ans s (s.accessWrite p (regAddr 16 (0x100 + 4 * (quire % 16))) v)

/-- SYS_FAULT_CLEAR (R522). -/
def cmdSysFaultClear (p : Path) (v : Word) (s : State) : Host.Outcome State Fault Refusal :=
  ans s (s.accessWrite p (regAddr 0 0x20) v)

/-- EVENT_TEST (R517). -/
def cmdEventTest (p : Path) (v : Word) (s : State) : Host.Outcome State Fault Refusal :=
  ans s (s.accessWrite p (regAddr 1 0x60) v)

/-- CQ_POP (R439). -/
def cmdCqPop (p : Path) (v : Word) (s : State) : Host.Outcome State Fault Refusal :=
  ans s (s.accessWrite p (regAddr 2 0x28) v)

/-- CLEAR_OVERFLOW (R439). -/
def cmdClearOverflow (p : Path) (v : Word) (s : State) : Host.Outcome State Fault Refusal :=
  ans s (s.accessWrite p (regAddr 2 0x28) v)

/-! ## Ports -/

/-- FRAME_RECEIVE (R596). -/
def cmdFrameReceive (port : Nat) (f : EthFrame) (s : State) : Host.Outcome State Fault Refusal :=
  ans s (execFrameReceive port f s)

/-- FRAME_TRANSMIT (R605). -/
def cmdFrameTransmit (port : Nat) (s : State) : Host.Outcome State Fault Refusal :=
  ans s (execFrameTransmit port s)

/-- LINK_CHANGE (R590). -/
def cmdLinkChange (port : Nat) (up : Bool) (speedMbit : Nat) (s : State) : Host.Outcome State Fault Refusal :=
  ans s (execLinkChange port up speedMbit s)

/-- PAUSE_FRAME (R608). -/
def cmdPauseFrame (port : Nat) (at_ : Nat) (quanta : Nat) (s : State) : Host.Outcome State Fault Refusal :=
  ans s (execPauseFrame port at_ quanta s)

/-- PAUSE_WINDOW_END (R609). -/
def cmdPauseWindowEnd (port : Nat) (s : State) : Host.Outcome State Fault Refusal :=
  ans s (execPauseWindowEnd port s)

/-- PAUSE_REPEAT (R610). -/
def cmdPauseRepeat (port : Nat) (s : State) : Host.Outcome State Fault Refusal :=
  ans s (execPauseRepeat port s)

/-- ARP_REQUEST (R603). -/
def cmdArpRequest (port : Nat) (target : Nat) (senderMac : Nat) (senderIp : Nat) (vid : Nat) (s : State) : Host.Outcome State Fault Refusal :=
  ans s (execArpRequest port target senderMac senderIp vid s)

/-- PORT_ENABLE (R591). -/
def cmdPortEnable (port : Nat) (v : Nat) (o : Origin) (s : State) : Host.Outcome State Fault Refusal :=
  ans s (s.request o 0x141100 port (fun d => numRow d v))

/-- PORT_DRAIN_DONE (R592). -/
def cmdPortDrainDone (port : Nat) (s : State) : Host.Outcome State Fault Refusal :=
  ans s (execPortDrainDone port s)

/-- RING_PROBE_SEND (R615). -/
def cmdRingProbeSend (s : State) : Host.Outcome State Fault Refusal :=
  ans s (execRingProbeSend s)

/-- RING_PROBE (R616). -/
def cmdRingProbe (at_ : Nat) (node : Nat) (s : State) : Host.Outcome State Fault Refusal :=
  ans s (execRingProbe at_ node s)

/-- RING_PROBE_TIMEOUT (R616). -/
def cmdRingProbeTimeout (s : State) : Host.Outcome State Fault Refusal :=
  ans s (execRingProbeTimeout s)

/-! ## Ingest -/

/-- FLOW_ENABLE (R89). -/
def cmdFlowEnable (row : Nat) (v : Nat) (o : Origin) (s : State) : Host.Outcome State Fault Refusal :=
  ans s (s.request o 0x140100 row (fun d => numRow d v))

/-- FLOW_DRAIN_DONE (R90). -/
def cmdFlowDrainDone (row : Nat) (s : State) : Host.Outcome State Fault Refusal :=
  ans s (execFlowDrainDone row s)

/-- FENCE (R96). -/
def cmdFence (f : Nat) (v : Nat) (o : Origin) (s : State) : Host.Outcome State Fault Refusal :=
  ans s (s.request o 0x201000 f (fun d => numRow d v))

/-- VIDEO_PACKET (R114). -/
def cmdVideoPacket (row : Nat) (p : VideoPacket) (s : State) : Host.Outcome State Fault Refusal :=
  ans s (execVideoPacket row p s)

/-- ARRIVAL_WINDOW_END (R115). -/
def cmdArrivalWindowEnd (row : Nat) (s : State) : Host.Outcome State Fault Refusal :=
  ans s (execArrivalWindowEnd row s)

/-- FENCE_ADVANCE (R117). -/
def cmdFenceAdvance (row : Nat) (s : State) : Host.Outcome State Fault Refusal :=
  ans s (execFenceAdvance row s)

/-- SACN_DATA (R126). -/
def cmdSacnData (row : Nat) (p : SacnPacket) (s : State) : Host.Outcome State Fault Refusal :=
  ans s (execSacnData row p s)

/-- SACN_SYNC (R128). -/
def cmdSacnSync (row : Nat) (at_ : Nat) (syncAddr : Nat) (rootVector : Nat) (framingVector : Nat) (s : State) : Host.Outcome State Fault Refusal :=
  ans s (execSacnSync row at_ syncAddr rootVector framingVector s)

/-- SOURCE_TIMEOUT (R123). -/
def cmdSourceTimeout (row : Nat) (cid : Nat) (s : State) : Host.Outcome State Fault Refusal :=
  ans s (execSourceTimeout row cid s)

/-- SYNC_TIMEOUT (R129). -/
def cmdSyncTimeout (syncAddr : Nat) (s : State) : Host.Outcome State Fault Refusal :=
  ans s (execSyncTimeout syncAddr s)

/-! ## Heads and collation -/

/-- HEAD_ENABLE (R179). -/
def cmdHeadEnable (head : Nat) (v : Nat) (o : Origin) (s : State) : Host.Outcome State Fault Refusal :=
  ans s (s.request o 0x220200 head (fun d => numRow d v))

/-- HEAD_DRAIN_DONE (R180). -/
def cmdHeadDrainDone (head : Nat) (s : State) : Host.Outcome State Fault Refusal :=
  ans s (execHeadDrainDone head s)

/-- COMMIT_ARM (R184). -/
def cmdCommitArm (head : Nat) (overBudget : Bool) (byRegister : Bool) (s : State) : Host.Outcome State Fault Refusal :=
  ans s (s.armByCommand head overBudget byRegister)

/-- CUT_LINE (R187). -/
def cmdCutLine (head : Nat) (s : State) : Host.Outcome State Fault Refusal :=
  ans s (execCutLine head s)

/-- VBLANK_START (R188). -/
def cmdVblankStart (head : Nat) (s : State) : Host.Outcome State Fault Refusal :=
  ans s (execVblankStart head s)

/-- LINE_ZERO (R234). -/
def cmdLineZero (head : Nat) (s : State) : Host.Outcome State Fault Refusal :=
  ans s (execLineZero head s)

/-- LINE_MATCH (R194). -/
def cmdLineMatch (head : Nat) (line : Nat) (s : State) : Host.Outcome State Fault Refusal :=
  ans s (execLineMatch head line s)

/-- UNDERRUN (R192). -/
def cmdUnderrun (head : Nat) (line : Nat) (column : Nat) (s : State) : Host.Outcome State Fault Refusal :=
  ans s (execUnderrun head line column s)

/-- EGRESS_ENABLE (R206). -/
def cmdEgressEnable (head : Nat) (v : Nat) (o : Origin) (s : State) : Host.Outcome State Fault Refusal :=
  ans s (s.request o 0x222100 head (fun d => numRow d v))

/-- EGRESS_PACKET (R203). -/
def cmdEgressPacket (head : Nat) (line : Nat) (offset : Nat) (s : State) : Host.Outcome State Fault Refusal :=
  ans s (execEgressPacket head line offset s)

/-- WRITEBACK_ENABLE (R208). -/
def cmdWritebackEnable (head : Nat) (v : Nat) (o : Origin) (s : State) : Host.Outcome State Fault Refusal :=
  ans s (s.request o 0x223100 head (fun d => numRow d v))

/-- WRITEBACK_DONE (R209). -/
def cmdWritebackDone (head : Nat) (s : State) : Host.Outcome State Fault Refusal :=
  ans s (execWritebackDone head s)

/-- COLLATE_ENTRY (R233). -/
def cmdCollateEntry (head : Nat) (s : State) : Host.Outcome State Fault Refusal :=
  ans s (execCollateEntry head s)

/-- SAMPLE_LATE (R231). -/
def cmdSampleLate (head : Nat) (s : State) : Host.Outcome State Fault Refusal :=
  ans s (execSampleLate head s)

/-! ## Quires and strands -/

/-- QUIRE_MODE (R295). -/
def cmdQuireMode (quire : Nat) (v : Nat) (o : Origin) (s : State) : Host.Outcome State Fault Refusal :=
  ans s (s.request o 0x240200 quire (fun d => numRow d v))

/-- QUIRE_DRAIN_DONE (R295). -/
def cmdQuireDrainDone (quire : Nat) (s : State) : Host.Outcome State Fault Refusal :=
  ans s (execQuireDrainDone quire s)

/-- QUIRE_LATCH (R36). -/
def cmdQuireLatch (quire : Nat) (s : State) : Host.Outcome State Fault Refusal :=
  ans s (execQuireLatch quire s)

/-- FRAME_START (R273). -/
def cmdFrameStart (strand : Nat) (s : State) : Host.Outcome State Fault Refusal :=
  ans s (execFrameStart strand s)

/-- RETURN_RECORD (R280). -/
def cmdReturnRecord (strand : Nat) (bits : BitVec 40) (rx : RecordRx) (s : State) : Host.Outcome State Fault Refusal :=
  ans s (execReturnRecord strand bits rx.latenessPs rx.stalls s)

/-- RETURN_WINDOW_END (R278). -/
def cmdReturnWindowEnd (quire : Nat) (s : State) : Host.Outcome State Fault Refusal :=
  ans s (execReturnWindowEnd quire s)

/-- CAMEG_COMMAND (R298). -/
def cmdCamegCommand (v : List Byte) (o : Origin) (s : State) : Host.Outcome State Fault Refusal :=
  ans s (s.request o 0x240400 0 (fun d => rowOf d v))

/-- ENUMERATE (R298). -/
def cmdEnumerate (v : List Byte) (o : Origin) (s : State) : Host.Outcome State Fault Refusal :=
  ans s (s.request o 0x240500 0 (fun d => rowOf d v))

/-- CAMEG_REQUEST_DONE (R298). -/
def cmdCamegRequestDone (quire : Nat) (s : State) : Host.Outcome State Fault Refusal :=
  ans s (execCamegRequestDone quire s)

/-! ## Light -/

/-- FADE (R312). -/
def cmdFade (row : Nat) (v : List Byte) (o : Origin) (s : State) : Host.Outcome State Fault Refusal :=
  ans s (s.request o 0x250000 row (fun d => rowOf d v))

/-- FADE_ARM (R310). -/
def cmdFadeArm (row : Nat) (o : Origin) (s : State) : Host.Outcome State Fault Refusal :=
  ans s (s.request o 0x250100 row (fun d => numRow d 1))

/-- FADE_STOP (R311). -/
def cmdFadeStop (row : Nat) (o : Origin) (s : State) : Host.Outcome State Fault Refusal :=
  ans s (s.request o 0x250100 row (fun d => numRow d 0))

/-- FADE_START (R306). -/
def cmdFadeStart (row : Nat) (s : State) : Host.Outcome State Fault Refusal :=
  ans s (execFadeStart row s)

/-- FADE_END (R307). -/
def cmdFadeEnd (row : Nat) (s : State) : Host.Outcome State Fault Refusal :=
  ans s (execFadeEnd row s)

/-- GAUGE_SAMPLE (R332). -/
def cmdGaugeSample (codes : List GaugeCode) (refPpm : Int) (s : State) : Host.Outcome State Fault Refusal :=
  ans s (execGaugeSample codes refPpm s)

/-- SHORT_TEST (R340). -/
def cmdShortTest (mask : Nat) (o : Origin) (s : State) : Host.Outcome State Fault Refusal :=
  ans s (s.request o 0x256000 0 (fun d => numRow d mask))

/-- SHORT_TEST_DONE (R341). -/
def cmdShortTestDone (high : List (Nat × Nat)) (stuck : List Nat) (s : State) : Host.Outcome State Fault Refusal :=
  ans s (execShortTestDone high stuck s)

/-- FAULT_CLEAR (R338). -/
def cmdFaultClear (v : Nat) (o : Origin) (s : State) : Host.Outcome State Fault Refusal :=
  ans s (s.request o 0x257100 0 (fun d => numRow d v))

/-- REGION_RESET (R331). -/
def cmdRegionReset (row : Nat) (v : Nat) (o : Origin) (s : State) : Host.Outcome State Fault Refusal :=
  ans s (s.request o 0x254400 row (fun d => numRow d v))

/-! ## Calibration -/

/-- REFT_PRESENCE (R350). -/
def cmdReftPresence (ppm : Int) (s : State) : Host.Outcome State Fault Refusal :=
  ans s (execReftPresence ppm s)

/-- REFT_MEASUREMENT (R351). -/
def cmdReftMeasurement (s : State) : Host.Outcome State Fault Refusal :=
  ans s (execReftMeasurement s)

/-- REFT_MEASUREMENT_DONE (R351). -/
def cmdReftMeasurementDone (cycles : Nat) (bins : List Nat) (s : State) : Host.Outcome State Fault Refusal :=
  ans s (execReftMeasurementDone cycles bins s)

/-- CALIBRATION_PASS (R355). -/
def cmdCalibrationPass (quire : Nat) (ms : List PinMeasure) (s : State) : Host.Outcome State Fault Refusal :=
  ans s (execCalibrationPass quire ms s)

/-- TAP_APPLY (R359). -/
def cmdTapApply (quire : Nat) (s : State) : Host.Outcome State Fault Refusal :=
  ans s (execTapApply quire s)

/-- REF_SESSION (R361). -/
def cmdRefSession (v : List Byte) (o : Origin) (s : State) : Host.Outcome State Fault Refusal :=
  ans s (s.request o 0x262000 0 (fun d => rowOf d v))

/-- REF_READING (R362). -/
def cmdRefReading (v : Nat) (o : Origin) (s : State) : Host.Outcome State Fault Refusal :=
  ans s (s.request o 0x262100 0 (fun d => numRow d v))

/-- REF_CANCEL (R363). -/
def cmdRefCancel (v : Nat) (o : Origin) (s : State) : Host.Outcome State Fault Refusal :=
  ans s (s.request o 0x262200 0 (fun d => numRow d v))

/-- REF_SESSION_END (R363). -/
def cmdRefSessionEnd (s : State) : Host.Outcome State Fault Refusal :=
  ans s (execRefSessionEnd s)

/-- REF_SESSION_TIMEOUT (R363). -/
def cmdRefSessionTimeout (s : State) : Host.Outcome State Fault Refusal :=
  ans s (execRefSessionTimeout s)

/-- SENSOR_GAIN_RESET (R363). -/
def cmdSensorGainReset (row : Nat) (v : Nat) (o : Origin) (s : State) : Host.Outcome State Fault Refusal :=
  ans s (s.request o 0x262400 row (fun d => numRow d v))

/-- CAL_STORE_SAVE (R367). -/
def cmdCalStoreSave (v : Nat) (o : Origin) (s : State) : Host.Outcome State Fault Refusal :=
  ans s (s.request o 0x263100 0 (fun d => numRow d v))

/-- CAL_STORE_WRITE (R367). -/
def cmdCalStoreWrite (ok : Bool) (s : State) : Host.Outcome State Fault Refusal :=
  ans s (execCalStoreWrite ok s)

/-! ## Twins -/

/-- BEAT_SEND (R383). -/
def cmdBeatSend (s : State) : Host.Outcome State Fault Refusal :=
  ans s (execBeatSend s)

/-- DIKE_BEAT (R383). -/
def cmdDikeBeat (at_ : Nat) (bytes : List Byte) (s : State) : Host.Outcome State Fault Refusal :=
  ans s (State.afterTwin s (execDikeBeat at_ bytes s))

/-- HEARTBEAT_SEND (R384). -/
def cmdHeartbeatSend (s : State) : Host.Outcome State Fault Refusal :=
  ans s (execHeartbeatSend s)

/-- DIKE_DROPPED (R381). -/
def cmdDikeDropped (s : State) : Host.Outcome State Fault Refusal :=
  ans s (State.afterTwin s (execDikeDropped s))

/-- DIKE_DOWN (R381). -/
def cmdDikeDown (s : State) : Host.Outcome State Fault Refusal :=
  ans s (State.afterTwin s (execDikeDown s))

/-- DIKE_BEAT_TIMEOUT (R381). -/
def cmdDikeBeatTimeout (s : State) : Host.Outcome State Fault Refusal :=
  ans s (State.afterTwin s (execDikeBeatTimeout s))

/-- CHAIN_TIMEOUT (R384). -/
def cmdChainTimeout (s : State) : Host.Outcome State Fault Refusal :=
  ans s (State.afterTwin s (execChainTimeout s))

/-- PARTNER_OUT (R393). -/
def cmdPartnerOut (s : State) : Host.Outcome State Fault Refusal :=
  ans s (State.afterTwin s (execPartnerOut s))

/-- JOIN_TIMEOUT (R393). -/
def cmdJoinTimeout (s : State) : Host.Outcome State Fault Refusal :=
  ans s (State.afterTwin s (execJoinTimeout s))

/-- HOLD_ELAPSED (R393). -/
def cmdHoldElapsed (s : State) : Host.Outcome State Fault Refusal :=
  ans s (State.afterTwin s (execHoldElapsed s))

/-- REVERT_REQ (R398). -/
def cmdRevertReq (s : State) : Host.Outcome State Fault Refusal :=
  ans s (State.afterTwin s (execRevertReq s))

/-- HANDOVER (R396). -/
def cmdHandover (s : State) : Host.Outcome State Fault Refusal :=
  ans s (State.afterTwin s (execHandover s))

/-- HANDOVER_WITHDRAW (R396). -/
def cmdHandoverWithdraw (s : State) : Host.Outcome State Fault Refusal :=
  ans s (State.afterTwin s (execHandoverWithdraw s))

/-- DEMOTE (R393). -/
def cmdDemote (v : Nat) (o : Origin) (s : State) : Host.Outcome State Fault Refusal :=
  ans s (s.request o 0x502000 0 (fun d => numRow d v))

/-- HANDOVER_AT (R399). -/
def cmdHandoverAt (v : List Byte) (o : Origin) (s : State) : Host.Outcome State Fault Refusal :=
  ans s (s.request o 0x502100 0 (fun d => rowOf d v))

/-- REJOIN (R393). -/
def cmdRejoin (v : Nat) (o : Origin) (s : State) : Host.Outcome State Fault Refusal :=
  ans s (s.request o 0x502200 0 (fun d => numRow d v))

/-! ## Weir -/

/-- TASK_READY (R409). -/
def cmdTaskReady (slot : Nat) (s : State) : Host.Outcome State Fault Refusal :=
  ans s (execTaskReady slot s)

/-- TASK_DISPATCH (R417). -/
def cmdTaskDispatch (cls : Nat) (s : State) : Host.Outcome State Fault Refusal :=
  ans s (execTaskDispatch cls s)

/-- TASK_DEADLINE (R411). -/
def cmdTaskDeadline (slot : Nat) (s : State) : Host.Outcome State Fault Refusal :=
  ans s (execTaskDeadline slot s)

/-- TASK_COMPLETE (R413). -/
def cmdTaskComplete (slot : Nat) (status : Nat) (s : State) : Host.Outcome State Fault Refusal :=
  ans s (execTaskComplete slot status s)

/-! ## Memory integrity -/

/-- SCRUB_VISIT (R547). -/
def cmdScrubVisit (mem : Nat) (words : List WordFlips) (checks : List (Nat × Nat)) (s : State) : Host.Outcome State Fault Refusal :=
  ans s (execScrubVisit mem words checks s)

/-- PAGE_DECODE (R540). -/
def cmdPageDecode (mem : Nat) (page : Nat) (words : List WordFlips) (checks : List (Nat × Nat)) (rank : Nat) (s : State) : Host.Outcome State Fault Refusal :=
  ans s (execPageDecode mem page words checks rank s)

/-- LOG_CLEAR (R551). -/
def cmdLogClear (v : Nat) (o : Origin) (s : State) : Host.Outcome State Fault Refusal :=
  ans s (s.request o 0x311100 0 (fun d => numRow d v))

/-- ARBITRATION_WINDOW (R555). -/
def cmdArbitrationWindow (delivered : Nat) (demands : List Demand) (s : State) : Host.Outcome State Fault Refusal :=
  ans s (execArbitrationWindow delivered demands s)

/-! ## Update -/

/-- DOWNLOAD (R648). -/
def cmdDownload (v : List Byte) (o : Origin) (s : State) : Host.Outcome State Fault Refusal :=
  ans s (s.request o 0x320100 0 (fun d => rowOf d v))

/-- ERASE_DONE (R648). -/
def cmdEraseDone (ok : Bool) (s : State) : Host.Outcome State Fault Refusal :=
  ans s (execEraseDone ok s)

/-- BLOCK_PROGRAM_DONE (R650). -/
def cmdBlockProgramDone (block : Nat) (ok : Bool) (s : State) : Host.Outcome State Fault Refusal :=
  ans s (execBlockProgramDone block ok s)

/-- TRANSFER_TIMEOUT (R648). -/
def cmdTransferTimeout (s : State) : Host.Outcome State Fault Refusal :=
  ans s (execTransferTimeout s)

/-- VERIFY (R653). -/
def cmdVerify (v : Nat) (o : Origin) (s : State) : Host.Outcome State Fault Refusal :=
  ans s (s.request o 0x320200 0 (fun d => numRow d v))

/-- VERIFY_DONE (R653). -/
def cmdVerifyDone (s : State) : Host.Outcome State Fault Refusal :=
  ans s (execVerifyDone s)

/-- PREPARE (R654). -/
def cmdPrepare (v : List Byte) (o : Origin) (s : State) : Host.Outcome State Fault Refusal :=
  ans s (s.request o 0x320400 0 (fun d => rowOf d v))

/-- COMMIT (R655). -/
def cmdCommit (v : Nat) (o : Origin) (s : State) : Host.Outcome State Fault Refusal :=
  ans s (s.request o 0x320500 0 (fun d => numRow d v))

/-- ABORT (R655). -/
def cmdAbort (v : Nat) (o : Origin) (s : State) : Host.Outcome State Fault Refusal :=
  ans s (s.request o 0x320600 0 (fun d => numRow d v))

/-- CONFIRM (R660). -/
def cmdConfirm (v : Nat) (o : Origin) (s : State) : Host.Outcome State Fault Refusal :=
  ans s (s.request o 0x320700 0 (fun d => numRow d v))

/-- ACTIVATION (R657). -/
def cmdActivation (s : State) : Host.Outcome State Fault Refusal :=
  ans s (execActivation s)

/-- DEFERRED_ACTIVATION (R658). -/
def cmdDeferredActivation (s : State) : Host.Outcome State Fault Refusal :=
  ans s (execDeferredActivation s)

/-- TRIAL_TIMEOUT (R659). -/
def cmdTrialTimeout (s : State) : Host.Outcome State Fault Refusal :=
  ans s (execTrialTimeout s)

/-- CONFIRM_HOLD_ELAPSED (R660). -/
def cmdConfirmHoldElapsed (s : State) : Host.Outcome State Fault Refusal :=
  ans s (execConfirmHoldElapsed s)

/-! ## The rows the table lists last -/

/-- FRAME_DONE (R212). -/
def cmdFrameDone (head : Nat) (s : State) : Host.Outcome State Fault Refusal :=
  ans s (execFrameDone head s)

/-- POSTED_WRITE_DONE (R495). -/
def cmdPostedWriteDone (s : State) : Host.Outcome State Fault Refusal :=
  ans s (execPostedWriteDone s)

/-- REFRESH_RATE_CHANGE (R558). -/
def cmdRefreshRateChange (rate : Nat) (s : State) : Host.Outcome State Fault Refusal :=
  ans s (execRefreshRateChange rate s)

/-- NO_SLOT_VERIFIES (R636). -/
def cmdNoSlotVerifies (s : State) : Host.Outcome State Fault Refusal :=
  ans s (execNoSlotVerifies s)

end Sys2Proof.Machine
end

