-- ==== Sys2Proof/Machine/Dispatch.lean ====
section
/-! DEFINITION. The dispatch: one arm per command, each a direct call of its meaning. -/

namespace Sys2Proof.Machine

/-- The effect of a command on everything but the queue. -/
def exec (i : Instr) (s : State) : Host.Outcome State Fault Refusal :=
  match i with
  | .powerOn resetNLow porst => Sys2Proof.Machine.cmdPowerOn resetNLow s porst
  | .pinReset lowNs => Sys2Proof.Machine.cmdPinReset lowNs s
  | .watchdogWarn => Sys2Proof.Machine.cmdWatchdogWarn s
  | .watchdogExpiry => Sys2Proof.Machine.cmdWatchdogExpiry s
  | .resetAssert => Sys2Proof.Machine.cmdResetAssert s
  | .resetRelease => Sys2Proof.Machine.cmdResetRelease s
  | .railStartTimeout => Sys2Proof.Machine.cmdRailStartTimeout s
  | .bermService => Sys2Proof.Machine.cmdBermService s
  | .dramState ok gib channels => Sys2Proof.Machine.cmdDramState ok gib channels s
  | .serviceStart => Sys2Proof.Machine.cmdServiceStart s
  | .vaonLoss => Sys2Proof.Machine.cmdVaonLoss s
  | .railWarning rail => Sys2Proof.Machine.cmdRailWarning rail s
  | .brownout rail => Sys2Proof.Machine.cmdBrownout rail s
  | .clock kind => Sys2Proof.Machine.cmdClock kind s
  | .standby v o => Sys2Proof.Machine.cmdStandby v o s
  | .hibernate seconds o => Sys2Proof.Machine.cmdHibernate seconds o s
  | .powerEntry => Sys2Proof.Machine.cmdPowerEntry s
  | .wake => Sys2Proof.Machine.cmdWake s
  | .wakeTimer => Sys2Proof.Machine.cmdWakeTimer s
  | .wakePatternMatch f wakeToo => Sys2Proof.Machine.cmdWakePatternMatch f wakeToo s
  | .reset v o => Sys2Proof.Machine.cmdReset v o s
  | .aonReset key p => Sys2Proof.Machine.cmdAonReset key p s
  | .sync dom rx at_ seq twoStep master filtered freq => Sys2Proof.Machine.cmdSync dom rx at_ seq twoStep master filtered freq s
  | .followUp dom rx at_ seq master filtered freq => Sys2Proof.Machine.cmdFollowUp dom rx at_ seq master filtered freq s
  | .announce dom rx at_ a => Sys2Proof.Machine.cmdAnnounce dom rx at_ a s
  | .delayResp dom rx seq receipt logInterval => Sys2Proof.Machine.cmdDelayResp dom rx seq receipt logInterval s
  | .delayReqSend dom => Sys2Proof.Machine.cmdDelayReqSend dom s
  | .syncMissed dom => Sys2Proof.Machine.cmdSyncMissed dom s
  | .announceTimeout dom port => Sys2Proof.Machine.cmdAnnounceTimeout dom port s
  | .holdoverExpiry dom => Sys2Proof.Machine.cmdHoldoverExpiry dom s
  | .domainRevert => Sys2Proof.Machine.cmdDomainRevert s
  | .switchAt v o => Sys2Proof.Machine.cmdSwitchAt v o s
  | .timedSwitch => Sys2Proof.Machine.cmdTimedSwitch s
  | .snapGo v p => Sys2Proof.Machine.cmdSnapGo v p s
  | .pulse row v o => Sys2Proof.Machine.cmdPulse row v o s
  | .pulseEdge row => Sys2Proof.Machine.cmdPulseEdge row s
  | .tsiEdge input at_ frac falling widthNs => Sys2Proof.Machine.cmdTsiEdge input at_ frac falling widthNs s
  | .read m => Sys2Proof.Machine.cmdRead m s
  | .write m => Sys2Proof.Machine.cmdWrite m s
  | .readRow m => Sys2Proof.Machine.cmdReadRow m s
  | .writeRow m => Sys2Proof.Machine.cmdWriteRow m s
  | .exec m => Sys2Proof.Machine.cmdExec m s
  | .submit m => Sys2Proof.Machine.cmdSubmit m s
  | .cancel m => Sys2Proof.Machine.cmdCancel m s
  | .hello m => Sys2Proof.Machine.cmdHello m s
  | .heartbeat m => Sys2Proof.Machine.cmdHeartbeat m s
  | .imageBlock m => Sys2Proof.Machine.cmdImageBlock m s
  | .sessionIdleTimeout slot => Sys2Proof.Machine.cmdSessionIdleTimeout slot s
  | .eventSend slot => Sys2Proof.Machine.cmdEventSend slot s
  | .checkpointStore slot transmit => Sys2Proof.Machine.cmdCheckpointStore slot transmit s
  | .settingsSave ok => Sys2Proof.Machine.cmdSettingsSave s ok
  | .settingsDefault v o => Sys2Proof.Machine.cmdSettingsDefault v o s
  | .provisionKey key o => Sys2Proof.Machine.cmdProvisionKey key o s
  | .key row v counter byKey0 => Sys2Proof.Machine.cmdKey row v counter byKey0 s
  | .eventSubscribe mask o => Sys2Proof.Machine.cmdEventSubscribe mask o s
  | .hostDoorbellGo v => Sys2Proof.Machine.cmdHostDoorbellGo v s
  | .readBurst addr words => Sys2Proof.Machine.cmdReadBurst addr words s
  | .writeBurst addr data => Sys2Proof.Machine.cmdWriteBurst addr data s
  | .hspiStatus => Sys2Proof.Machine.cmdHspiStatus s
  | .unknownOpcode op => Sys2Proof.Machine.cmdUnknownOpcode op s
  | .lateFetchDone => Sys2Proof.Machine.cmdLateFetchDone s
  | .registerWrite p addr v => Sys2Proof.Machine.cmdRegisterWrite p addr v s
  | .maskedWrite p addr v => Sys2Proof.Machine.cmdMaskedWrite p addr v s
  | .wolWrite p addr v => Sys2Proof.Machine.cmdWolWrite p addr v s
  | .counterLoRead p addr => Sys2Proof.Machine.cmdCounterLoRead p addr s
  | .culvAddrWrite p block v => Sys2Proof.Machine.cmdCulvAddrWrite p block v s
  | .culvDataRead p block => Sys2Proof.Machine.cmdCulvDataRead p block s
  | .culvDataWrite p block v => Sys2Proof.Machine.cmdCulvDataWrite p block v s
  | .causeClear p bank v => Sys2Proof.Machine.cmdCauseClear p bank v s
  | .sumClear p quire v => Sys2Proof.Machine.cmdSumClear p quire v s
  | .sysFaultClear p v => Sys2Proof.Machine.cmdSysFaultClear p v s
  | .eventTest p v => Sys2Proof.Machine.cmdEventTest p v s
  | .cqPop p v => Sys2Proof.Machine.cmdCqPop p v s
  | .clearOverflow p v => Sys2Proof.Machine.cmdClearOverflow p v s
  | .frameReceive port f => Sys2Proof.Machine.cmdFrameReceive port f s
  | .frameTransmit port => Sys2Proof.Machine.cmdFrameTransmit port s
  | .linkChange port up speedMbit => Sys2Proof.Machine.cmdLinkChange port up speedMbit s
  | .pauseFrame port at_ quanta => Sys2Proof.Machine.cmdPauseFrame port at_ quanta s
  | .pauseWindowEnd port => Sys2Proof.Machine.cmdPauseWindowEnd port s
  | .pauseRepeat port => Sys2Proof.Machine.cmdPauseRepeat port s
  | .arpRequest port target senderMac senderIp vid => Sys2Proof.Machine.cmdArpRequest port target senderMac senderIp vid s
  | .portEnable port v o => Sys2Proof.Machine.cmdPortEnable port v o s
  | .portDrainDone port => Sys2Proof.Machine.cmdPortDrainDone port s
  | .ringProbeSend => Sys2Proof.Machine.cmdRingProbeSend s
  | .ringProbe at_ node => Sys2Proof.Machine.cmdRingProbe at_ node s
  | .ringProbeTimeout => Sys2Proof.Machine.cmdRingProbeTimeout s
  | .flowEnable row v o => Sys2Proof.Machine.cmdFlowEnable row v o s
  | .flowDrainDone row => Sys2Proof.Machine.cmdFlowDrainDone row s
  | .fence f v o => Sys2Proof.Machine.cmdFence f v o s
  | .videoPacket row p => Sys2Proof.Machine.cmdVideoPacket row p s
  | .arrivalWindowEnd row => Sys2Proof.Machine.cmdArrivalWindowEnd row s
  | .fenceAdvance row => Sys2Proof.Machine.cmdFenceAdvance row s
  | .sacnData row p => Sys2Proof.Machine.cmdSacnData row p s
  | .sacnSync row at_ syncAddr rootVector framingVector => Sys2Proof.Machine.cmdSacnSync row at_ syncAddr rootVector framingVector s
  | .sourceTimeout row cid => Sys2Proof.Machine.cmdSourceTimeout row cid s
  | .syncTimeout syncAddr => Sys2Proof.Machine.cmdSyncTimeout syncAddr s
  | .headEnable head v o => Sys2Proof.Machine.cmdHeadEnable head v o s
  | .headDrainDone head => Sys2Proof.Machine.cmdHeadDrainDone head s
  | .commitArm head overBudget byRegister => Sys2Proof.Machine.cmdCommitArm head overBudget byRegister s
  | .cutLine head => Sys2Proof.Machine.cmdCutLine head s
  | .vblankStart head => Sys2Proof.Machine.cmdVblankStart head s
  | .lineZero head => Sys2Proof.Machine.cmdLineZero head s
  | .lineMatch head line => Sys2Proof.Machine.cmdLineMatch head line s
  | .underrun head line column => Sys2Proof.Machine.cmdUnderrun head line column s
  | .egressEnable head v o => Sys2Proof.Machine.cmdEgressEnable head v o s
  | .egressPacket head line offset => Sys2Proof.Machine.cmdEgressPacket head line offset s
  | .writebackEnable head v o => Sys2Proof.Machine.cmdWritebackEnable head v o s
  | .writebackDone head => Sys2Proof.Machine.cmdWritebackDone head s
  | .collateEntry head => Sys2Proof.Machine.cmdCollateEntry head s
  | .sampleLate head => Sys2Proof.Machine.cmdSampleLate head s
  | .quireMode quire v o => Sys2Proof.Machine.cmdQuireMode quire v o s
  | .quireDrainDone quire => Sys2Proof.Machine.cmdQuireDrainDone quire s
  | .quireLatch quire => Sys2Proof.Machine.cmdQuireLatch quire s
  | .frameStart strand => Sys2Proof.Machine.cmdFrameStart strand s
  | .returnRecord strand bits rx => Sys2Proof.Machine.cmdReturnRecord strand bits rx s
  | .returnWindowEnd quire => Sys2Proof.Machine.cmdReturnWindowEnd quire s
  | .camegCommand v o => Sys2Proof.Machine.cmdCamegCommand v o s
  | .enumerate v o => Sys2Proof.Machine.cmdEnumerate v o s
  | .camegRequestDone quire => Sys2Proof.Machine.cmdCamegRequestDone quire s
  | .fade row v o => Sys2Proof.Machine.cmdFade row v o s
  | .fadeArm row o => Sys2Proof.Machine.cmdFadeArm row o s
  | .fadeStop row o => Sys2Proof.Machine.cmdFadeStop row o s
  | .fadeStart row => Sys2Proof.Machine.cmdFadeStart row s
  | .fadeEnd row => Sys2Proof.Machine.cmdFadeEnd row s
  | .gaugeSample codes refPpm => Sys2Proof.Machine.cmdGaugeSample codes refPpm s
  | .shortTest mask o => Sys2Proof.Machine.cmdShortTest mask o s
  | .shortTestDone high stuck => Sys2Proof.Machine.cmdShortTestDone high stuck s
  | .faultClear v o => Sys2Proof.Machine.cmdFaultClear v o s
  | .regionReset row v o => Sys2Proof.Machine.cmdRegionReset row v o s
  | .reftPresence ppm => Sys2Proof.Machine.cmdReftPresence ppm s
  | .reftMeasurement => Sys2Proof.Machine.cmdReftMeasurement s
  | .reftMeasurementDone cycles bins => Sys2Proof.Machine.cmdReftMeasurementDone cycles bins s
  | .calibrationPass quire ms => Sys2Proof.Machine.cmdCalibrationPass quire ms s
  | .tapApply quire => Sys2Proof.Machine.cmdTapApply quire s
  | .refSession v o => Sys2Proof.Machine.cmdRefSession v o s
  | .refReading v o => Sys2Proof.Machine.cmdRefReading v o s
  | .refCancel v o => Sys2Proof.Machine.cmdRefCancel v o s
  | .refSessionEnd => Sys2Proof.Machine.cmdRefSessionEnd s
  | .refSessionTimeout => Sys2Proof.Machine.cmdRefSessionTimeout s
  | .sensorGainReset row v o => Sys2Proof.Machine.cmdSensorGainReset row v o s
  | .calStoreSave v o => Sys2Proof.Machine.cmdCalStoreSave v o s
  | .calStoreWrite ok => Sys2Proof.Machine.cmdCalStoreWrite ok s
  | .beatSend => Sys2Proof.Machine.cmdBeatSend s
  | .dikeBeat at_ bytes => Sys2Proof.Machine.cmdDikeBeat at_ bytes s
  | .heartbeatSend => Sys2Proof.Machine.cmdHeartbeatSend s
  | .dikeDropped => Sys2Proof.Machine.cmdDikeDropped s
  | .dikeDown => Sys2Proof.Machine.cmdDikeDown s
  | .dikeBeatTimeout => Sys2Proof.Machine.cmdDikeBeatTimeout s
  | .chainTimeout => Sys2Proof.Machine.cmdChainTimeout s
  | .partnerOut => Sys2Proof.Machine.cmdPartnerOut s
  | .joinTimeout => Sys2Proof.Machine.cmdJoinTimeout s
  | .holdElapsed => Sys2Proof.Machine.cmdHoldElapsed s
  | .revertReq => Sys2Proof.Machine.cmdRevertReq s
  | .handover => Sys2Proof.Machine.cmdHandover s
  | .handoverWithdraw => Sys2Proof.Machine.cmdHandoverWithdraw s
  | .demote v o => Sys2Proof.Machine.cmdDemote v o s
  | .handoverAt v o => Sys2Proof.Machine.cmdHandoverAt v o s
  | .rejoin v o => Sys2Proof.Machine.cmdRejoin v o s
  | .taskReady slot => Sys2Proof.Machine.cmdTaskReady slot s
  | .taskDispatch cls => Sys2Proof.Machine.cmdTaskDispatch cls s
  | .taskDeadline slot => Sys2Proof.Machine.cmdTaskDeadline slot s
  | .taskComplete slot status => Sys2Proof.Machine.cmdTaskComplete slot status s
  | .scrubVisit mem words checks => Sys2Proof.Machine.cmdScrubVisit mem words checks s
  | .pageDecode mem page words checks rank => Sys2Proof.Machine.cmdPageDecode mem page words checks rank s
  | .logClear v o => Sys2Proof.Machine.cmdLogClear v o s
  | .arbitrationWindow delivered demands => Sys2Proof.Machine.cmdArbitrationWindow delivered demands s
  | .download v o => Sys2Proof.Machine.cmdDownload v o s
  | .eraseDone ok => Sys2Proof.Machine.cmdEraseDone ok s
  | .blockProgramDone block ok => Sys2Proof.Machine.cmdBlockProgramDone block ok s
  | .transferTimeout => Sys2Proof.Machine.cmdTransferTimeout s
  | .verify v o => Sys2Proof.Machine.cmdVerify v o s
  | .verifyDone => Sys2Proof.Machine.cmdVerifyDone s
  | .prepare v o => Sys2Proof.Machine.cmdPrepare v o s
  | .commit v o => Sys2Proof.Machine.cmdCommit v o s
  | .abort v o => Sys2Proof.Machine.cmdAbort v o s
  | .confirm v o => Sys2Proof.Machine.cmdConfirm v o s
  | .activation => Sys2Proof.Machine.cmdActivation s
  | .deferredActivation => Sys2Proof.Machine.cmdDeferredActivation s
  | .trialTimeout => Sys2Proof.Machine.cmdTrialTimeout s
  | .confirmHoldElapsed => Sys2Proof.Machine.cmdConfirmHoldElapsed s
  | .frameDone head => Sys2Proof.Machine.cmdFrameDone head s
  | .postedWriteDone => Sys2Proof.Machine.cmdPostedWriteDone s
  | .refreshRateChange rate => Sys2Proof.Machine.cmdRefreshRateChange rate s
  | .noSlotVerifies => Sys2Proof.Machine.cmdNoSlotVerifies s

end Sys2Proof.Machine
end

