-- ==== Sys2Proof/Machine/Idle.lean ====
section
/-! DEFINITION. What passes when no command waits (log entry 3). -/

namespace Sys2Proof.Machine

/-- One TIME tick of 2 ns (R39): the clocks run on, and nothing else changes. -/
def idleTick (s : State) : State := s.pass 2

end Sys2Proof.Machine
end

