-- ==== Sys2Proof/Safety.lean ====
section
/-! DEFINITION. What a reader may rely on in every state of a run, in the terms that claims use. -/

namespace Sys2Proof.Machine

/-- DRAM and every part of the Vault (its cells, the Weir's and the flows' contexts, the rest) are held in their canonical form:
addresses rise, and no entry equals what an unlisted address reads as. -/
def MemInv (s : State) : Prop :=
  Memory.wf s.dram = true ∧ Memory.wf s.vault = true ∧ Memory.wf s.net.cells.bytes = true ∧ Memory.wf s.weir.saved.bytes = true ∧
  Memory.wf s.ingest.contexts.bytes = true

/-- A run stays safe when no step of it stops: the block reports its errors in its own state and goes on. -/
def Goes (o : Host.Outcome State Fault Refusal) : Prop := ∃ t, o = .next t

/-- Event e stands in its cause bit (R511). -/
def State.raised (s : State) (e : Nat) : Bool := s.evt.cause.getLsbD e

/-- The write of v to row r of object o, as maker w would send it, passes every check of R447 that comes before the object's own
chapter: the node is awake and in full service, the object exists, w may write it, the value has the object's size, its fields are in
range, and the row exists. x is the row that the chapter gets: fields that the device ignores keep their old values. -/
def Passes (s : State) (w : Origin) (o r : Nat) (v : ObjDef → Option Row) (x : Row) : Prop :=
  s.hspiPowered = true ∧ s.full = true ∧ mayWrite ((objDef o).elim .ro ObjDef.acc) w = true ∧ barred (Who.of w) o r = false ∧
  ∃ d y, objDef o = some d ∧ v d = some y ∧ rowInRange d.flds y = true ∧ growOk s d o r = true ∧ x = mergeRow d.flds (s.row o r) y

/-- The answer that the last write command got: its status and the handle of the task that an ACCEPTED operation runs as. -/
def Answers (s : State) (status handle : Nat) : Prop :=
  s.eop.lastAnswer = { op := 0x02, status := status, handle := handle, data := [] }

/-! ## Messages -/

/-- Steps 3 to 5 of R454: the message is unsealed and nothing changes, or it is sealed, passes them and leaves u. -/
def PassesSeal (s : State) (op : Nat) (m : EopMsg) (u : State) : Prop :=
  (isSealed m = false ∧ u = s) ∨ (isSealed m = true ∧ s.checkSeal op m = (true, u))

/-- The message passes steps 1 to 5 of R454, and the host mailbox has nothing under way: u is the state that step 6 finds. -/
def Passes5 (s : State) (op : Nat) (m : EopMsg) (u : State) : Prop :=
  s.eopHears m = true ∧ eopMalformed op m = false ∧ s.eop.hostBusy = false ∧ PassesSeal ((s.advanceTo m.at_).eopCount 0) op m u

/-- The message passes steps 1 to 6 of R454 on session i: u is the state that step 7 finds, in which the session has been heard. -/
def OnSession (s : State) (op : Nat) (m : EopMsg) (i : Nat) (u : State) : Prop :=
  m.session % 64 = i ∧ ∃ v, Passes5 s op m v ∧ v.sessionLive i = true ∧ (v.session i).sid i = m.session ∧ (v.session i).ip = m.srcIp ∧
    (v.session i).udp = m.srcUdp ∧ (v.session i).slot = msgKind m ∧ u = v.setSession i ((v.session i).heard m v.now)

/-- The maker of what message m on session i asks. -/
def msgWho (m : EopMsg) (i : Nat) : Who :=
  { origin := if isSealed m then .sealedSession i else .openSession i, task := 0, counter := m.counter, byKey0 := isSealed m && m.keySlot == 0 }

/-- Session i has been answered, and keeps the answer for a repeat of the request (R459). -/
def Replies (t : State) (i id : Nat) (a : Answer) : Prop :=
  t.eop.lastAnswer = a ∧ (t.session i).answers.head? = some (id, a)

/-! ## Tasks -/

/-- h is the handle that the next operation answered ACCEPTED takes (R405, R407). -/
def NewHandle (s : State) (h : Nat) : Prop :=
  ∃ slot w, s.weir.takeSlot = some (slot, w) ∧ slot < 1024 ∧ h = nextGen ((s.task slot).handle / 1024) * 1024 + slot

/-- The task with handle h has completed with a status, which is retained (R406, R413). -/
def Completed (t : State) (h status : Nat) : Prop := t.handleRetained h = true ∧ (t.task (h % 1024)).status = status

/-! ## Register accesses -/

/-- An access over path p to a register of block b runs at once: the node is powered and out of reset, over HSPI the port is ready and
not busy, a core's access is a whole word (any other is a bus error, R499), no Culvert fetch or commit of the block is under way, and no
uncorrectable page has abandoned the accesses to it (R553). -/
def Reaches (s : State) (p : Path) (b : Nat) : Prop :=
  s.hspiPowered = true ∧ p ≠ .coreOther ∧ s.integ.failed = none ∧ (p = .hspi → s.hspi.ready = true ∧ s.hspi.busy = false ∧ s.hspi.fetching = none ∧ s.hspi.posted = []) ∧
  s.culvBusy b = false

/-- The host port after a write burst of one word that ran without an error: the status flags are set afresh and the read buffer is
discarded (R497, R498). A core or window access leaves the port alone. -/
def portAfter (p : Path) (x : Hspi) : Hspi :=
  if p = .hspi then { x with ignored := false, late := false, busError := false, buffer := [], busy := false } else x

/-- The word that the last read over a path returned. -/
def State.returned (s : State) (p : Path) : Word :=
  match p with
  | .hspi => s.hspi.readData.headD 0
  | .core => s.hspi.coreData
  | .coreOther => s.hspi.coreData
  | .window => s.hspi.windowData


/-! ## What a command leaves alone -/

/-- The parts of the state beside the objects of the dictionary and the waiting commands. -/
inductive Piece where
  | clk | freeIdx | dram | vault | power | aon | flash | time | evt | sys | hspi | eop | weir | net | integ | update | ingest
  | disp | coll | quires | strands | light | cal | twin
  deriving DecidableEq, Repr

/-- Every part. -/
def Piece.all : List Piece :=
  [.clk, .freeIdx, .dram, .vault, .power, .aon, .flash, .time, .evt, .sys, .hspi, .eop, .weir, .net, .integ, .update, .ingest,
   .disp, .coll, .quires, .strands, .light, .cal, .twin]

/-- A part is as it was. -/
def Piece.Same (s t : State) : Piece → Prop
  | .clk => t.clk = s.clk
  | .freeIdx => t.freeIdx = s.freeIdx
  | .dram => t.dram = s.dram
  | .vault => t.vault = s.vault
  | .power => t.power = s.power
  | .aon => t.aon = s.aon
  | .flash => t.flash = s.flash
  | .time => t.time = s.time
  | .evt => t.evt = s.evt
  | .sys => t.sys = s.sys
  | .hspi => t.hspi = s.hspi
  | .eop => t.eop = s.eop
  | .weir => t.weir = s.weir
  | .net => t.net = s.net
  | .integ => t.integ = s.integ
  | .update => t.update = s.update
  | .ingest => t.ingest = s.ingest
  | .disp => t.disp = s.disp
  | .coll => t.coll = s.coll
  | .quires => t.quires = s.quires
  | .strands => t.strands = s.strands
  | .light => t.light = s.light
  | .cal => t.cal = s.cal
  | .twin => t.twin = s.twin

/-- What a command may change: parts, and blocks of sixteen objects by their index over 16 (0x240 stands for OD 0x2400 to 0x240F);
none for every object. -/
structure Touch where
  parts : List Piece
  objs  : Option (List Nat)

/-- o is an object of the dictionary and lies in none of the blocks. -/
def Touch.spares (c : Touch) (o : Nat) : Prop := (objDef o).isSome = true ∧ ∃ gs, c.objs = some gs ∧ o / 4096 ∉ gs

/-- The part of the state that holds byte a of the Vault (R22). -/
def vaultPiece (a : Nat) : Piece :=
  if vCellPool ≤ a ∧ a < vFirmware then .net
  else if vWeir ≤ a ∧ a < vPageValid then .weir
  else if vFlowCtx ≤ a ∧ a < vGeneral then .ingest
  else .vault

/-- From s to t nothing changes but what c names: every other part is as it was, every byte of DRAM and of the Vault that such a part
holds among them, and so is every row of every other object. The waiting commands stay. -/
def OnlyChanges (c : Touch) (s t : State) : Prop :=
  t.pending = s.pending ∧ (∀ p : Piece, p ∉ c.parts → p.Same s t) ∧
  (.dram ∉ c.parts → ∀ a, t.dramByte a = s.dramByte a) ∧ (∀ a, vaultPiece a ∉ c.parts → t.vaultByte a = s.vaultByte a) ∧
  ∀ o, c.spares o → ∀ r, t.row o r = s.row o r

/-- What each command may change. An event counts under OD 0x400x and may leave in an EOP message; a time-driven command moves the
clock. -/
def touches : Instr → Touch
  | .powerOn _ _ | .resetRelease | .railStartTimeout | .vaonLoss | .powerEntry =>
    { parts := [.clk, .dram, .vault, .power, .aon, .flash, .time, .evt, .sys, .hspi, .eop, .weir, .net, .integ, .update, .ingest, .disp,
     .coll, .quires, .strands, .light, .cal, .twin]
      objs := none }
  | .pinReset _ =>
    { parts := [.power, .aon, .flash, .eop, .update]
      objs := some [0x100] }
  | .watchdogWarn =>
    { parts := [.clk, .power, .time, .evt, .eop]
      objs := some [0x400] }
  | .watchdogExpiry | .activation | .deferredActivation =>
    { parts := [.clk, .power, .aon, .flash, .time, .evt, .eop, .update]
      objs := some [0x100, 0x400] }
  | .resetAssert =>
    { parts := [.clk, .dram, .vault, .power, .time, .evt, .sys, .hspi, .eop, .weir, .net, .integ, .update, .ingest, .disp, .coll, .quires,
     .strands, .light, .cal, .twin]
      objs := none }
  | .bermService =>
    { parts := [.clk, .freeIdx, .power, .time, .evt, .hspi, .eop, .weir, .net, .integ, .quires, .strands, .twin]
      objs := none }
  | .dramState _ _ _ | .refreshRateChange _ =>
    { parts := [.evt, .eop, .integ]
      objs := some [0x400] }
  | .serviceStart =>
    { parts := [.clk, .vault, .power, .flash, .time, .evt, .eop, .weir, .net, .integ, .update, .ingest, .coll, .quires, .strands, .light,
     .cal, .twin]
      objs := none }
  | .railWarning _ =>
    { parts := [.evt, .eop]
      objs := some [0x400, 0x433] }
  | .brownout _ =>
    { parts := [.power]
      objs := some [] }
  | .clock _ =>
    { parts := [.evt, .eop]
      objs := some [0x400] }
  | .standby _ _ | .hibernate _ _ =>
    { parts := [.power, .evt, .eop, .net]
      objs := some [0x141, 0x400] }
  | .wake | .wakePatternMatch _ _ =>
    { parts := [.power, .aon]
      objs := some [] }
  | .wakeTimer =>
    { parts := [.clk, .power, .aon, .time]
      objs := some [] }
  | .reset _ _ =>
    { parts := [.power, .aon, .flash, .evt, .eop, .net, .update]
      objs := some [0x100, 0x141, 0x400] }
  | .aonReset _ _ | .snapGo _ _ | .culvAddrWrite _ _ _ | .culvDataWrite _ _ _ | .causeClear _ _ _ | .sumClear _ _ _
  | .sysFaultClear _ _ | .eventTest _ _ | .cqPop _ _ | .clearOverflow _ _ =>
    { parts := [.freeIdx, .dram, .vault, .power, .aon, .flash, .time, .evt, .sys, .hspi, .eop, .weir, .net, .integ, .update, .ingest,
     .disp, .quires]
      objs := none }
  | .sync _ _ _ _ _ _ _ _ | .followUp _ _ _ _ _ _ _ =>
    { parts := [.clk, .time, .evt, .eop, .net, .update, .quires, .twin]
      objs := some [0x130, 0x141, 0x143, 0x400, 0x413, 0x415] }
  | .announce _ _ _ _ =>
    { parts := [.clk, .time, .evt, .eop, .net]
      objs := some [0x130, 0x141, 0x143, 0x400, 0x413, 0x415] }
  | .delayResp _ _ _ _ _ =>
    { parts := [.time, .evt, .eop, .net]
      objs := some [0x130, 0x141, 0x143, 0x400, 0x413, 0x415] }
  | .delayReqSend _ | .ringProbeSend =>
    { parts := [.clk, .time, .evt, .eop, .net]
      objs := some [0x141, 0x143, 0x400, 0x415, 0x416] }
  | .syncMissed _ | .announceTimeout _ _ | .holdoverExpiry _ | .domainRevert | .timedSwitch =>
    { parts := [.clk, .time, .evt, .eop]
      objs := some [0x130, 0x400, 0x413] }
  | .switchAt _ _ =>
    { parts := [.clk, .time, .evt, .eop, .net]
      objs := some [0x130, 0x141, 0x400, 0x413] }
  | .pulse _ _ _ | .pulseEdge _ =>
    { parts := [.clk, .time, .evt, .eop, .weir, .net]
      objs := some [0x131, 0x141, 0x143, 0x400, 0x411, 0x413, 0x415, 0x416, 0x430] }
  | .tsiEdge _ _ _ _ _ =>
    { parts := [.clk, .time, .evt, .eop]
      objs := some [0x400, 0x413] }
  | .read _ | .write _ | .readRow _ | .writeRow _ | .exec _ | .submit _ | .cancel _ | .hello _ | .heartbeat _ | .imageBlock _
  | .hostDoorbellGo _ | .writeBurst _ _ | .registerWrite _ _ _ | .maskedWrite _ _ _ | .wolWrite _ _ _ | .commitArm _ _ _ =>
    { parts := Piece.all
      objs := none }
  | .sessionIdleTimeout _ =>
    { parts := [.clk, .time, .evt, .eop, .net]
      objs := some [0x141, 0x143, 0x400, 0x411, 0x415] }
  | .eventSend _ =>
    { parts := [.clk, .time, .evt, .eop, .net]
      objs := some [0x141, 0x143, 0x400, 0x411, 0x415, 0x416] }
  | .checkpointStore _ _ =>
    { parts := [.flash, .evt, .eop, .weir, .net]
      objs := some [0x141, 0x143, 0x400, 0x415, 0x416] }
  | .settingsSave _ =>
    { parts := [.flash, .evt, .eop, .update]
      objs := some [0x100, 0x400] }
  | .settingsDefault _ _ =>
    { parts := [.clk, .vault, .power, .time, .evt, .eop, .weir, .net, .integ, .ingest, .coll, .quires, .strands, .light, .cal]
      objs := none }
  | .provisionKey _ _ =>
    { parts := [.flash, .evt, .eop, .net]
      objs := some [0x141, 0x400] }
  | .key _ _ _ _ | .taskComplete _ _ =>
    { parts := [.clk, .freeIdx, .dram, .vault, .power, .aon, .flash, .time, .evt, .hspi, .eop, .weir, .net, .integ, .update, .ingest,
     .disp, .coll, .quires, .strands, .light, .cal, .twin]
      objs := none }
  | .eventSubscribe _ _ | .portEnable _ _ _ =>
    { parts := [.evt, .eop, .net]
      objs := some [0x141, 0x400] }
  | .readBurst _ _ =>
    { parts := [.freeIdx, .sys, .hspi]
      objs := some [0x400, 0x431] }
  | .hspiStatus =>
    { parts := [.hspi]
      objs := some [] }
  | .unknownOpcode _ =>
    { parts := [.hspi]
      objs := some [0x400] }
  | .lateFetchDone =>
    { parts := [.hspi]
      objs := some [0x431] }
  | .counterLoRead _ _ | .culvDataRead _ _ =>
    { parts := [.freeIdx, .evt, .sys, .hspi, .eop]
      objs := some [0x400, 0x431] }
  | .frameReceive _ _ =>
    { parts := [.clk, .time, .evt, .eop, .net]
      objs := some [0x141, 0x143, 0x400, 0x411, 0x413, 0x414, 0x415, 0x416] }
  | .frameTransmit _ =>
    { parts := [.time, .evt, .eop, .net]
      objs := some [0x141, 0x143, 0x400, 0x415, 0x416] }
  | .linkChange _ _ _ | .arpRequest _ _ _ _ _ =>
    { parts := [.evt, .eop, .net]
      objs := some [0x141, 0x143, 0x400, 0x415, 0x416] }
  | .pauseFrame _ _ _ | .ringProbe _ _ =>
    { parts := [.clk, .time, .evt, .eop, .net]
      objs := some [0x141, 0x400, 0x416] }
  | .pauseWindowEnd _ =>
    { parts := [.clk, .time, .net]
      objs := some [0x141] }
  | .pauseRepeat _ | .ringProbeTimeout =>
    { parts := [.clk, .time, .evt, .eop, .net]
      objs := some [0x141, 0x400] }
  | .portDrainDone _ =>
    { parts := [.clk, .time, .evt, .eop, .net]
      objs := some [0x141, 0x143, 0x400, 0x416] }
  | .flowEnable _ _ _ =>
    { parts := [.evt, .eop, .net, .ingest]
      objs := some [0x140, 0x141, 0x201, 0x400, 0x414] }
  | .flowDrainDone _ =>
    { parts := [.evt, .eop, .ingest]
      objs := some [0x140, 0x201, 0x400, 0x414] }
  | .fence _ _ _ =>
    { parts := [.evt, .eop, .net, .ingest]
      objs := some [0x141, 0x201, 0x400] }
  | .videoPacket _ _ =>
    { parts := [.clk, .dram, .vault, .time, .evt, .eop, .net, .integ, .ingest]
      objs := some [0x140, 0x141, 0x143, 0x201, 0x202, 0x400, 0x414, 0x415, 0x420] }
  | .arrivalWindowEnd _ =>
    { parts := [.clk, .time, .evt, .eop, .ingest]
      objs := some [0x140, 0x201, 0x400, 0x414, 0x420] }
  | .fenceAdvance _ =>
    { parts := [.evt, .eop, .ingest]
      objs := some [0x201, 0x400] }
  | .sacnData _ _ =>
    { parts := [.clk, .vault, .time, .evt, .eop, .net, .integ, .ingest]
      objs := some [0x141, 0x143, 0x203, 0x400, 0x414, 0x415] }
  | .sacnSync _ _ _ _ _ =>
    { parts := [.clk, .time, .evt, .eop, .net, .ingest]
      objs := some [0x141, 0x143, 0x203, 0x400, 0x414, 0x415] }
  | .sourceTimeout _ _ =>
    { parts := [.clk, .vault, .time, .evt, .eop, .integ, .ingest]
      objs := some [0x203, 0x400] }
  | .syncTimeout _ =>
    { parts := [.clk, .time, .evt, .eop, .ingest]
      objs := some [0x400] }
  | .headEnable _ _ _ =>
    { parts := [.vault, .power, .evt, .eop, .weir, .net, .integ, .disp, .coll, .quires, .strands, .light, .cal]
      objs := some [0x141, 0x143, 0x210, 0x212, 0x220, 0x240, 0x250, 0x251, 0x254, 0x261, 0x400, 0x411, 0x415, 0x416, 0x421, 0x422, 0x425,
     0x427, 0x430] }
  | .headDrainDone _ =>
    { parts := [.vault, .power, .evt, .eop, .weir, .net, .integ, .ingest, .disp, .coll, .quires, .strands, .light, .cal]
      objs := some [0x141, 0x143, 0x201, 0x202, 0x210, 0x212, 0x220, 0x223, 0x240, 0x250, 0x251, 0x254, 0x261, 0x400, 0x411, 0x415, 0x416,
     0x421, 0x422, 0x425, 0x427, 0x430] }
  | .cutLine _ | .underrun _ _ _ =>
    { parts := [.clk, .time, .evt, .eop, .disp]
      objs := some [0x400, 0x422] }
  | .vblankStart _ =>
    { parts := [.clk, .freeIdx, .dram, .vault, .power, .time, .evt, .eop, .weir, .net, .integ, .disp, .coll, .quires, .strands, .light,
     .cal]
      objs := some [0x141, 0x143, 0x210, 0x211, 0x212, 0x220, 0x221, 0x240, 0x250, 0x251, 0x254, 0x261, 0x400, 0x411, 0x415, 0x416, 0x421,
     0x422, 0x425, 0x427, 0x430, 0x431] }
  | .lineZero _ =>
    { parts := [.clk, .vault, .time, .evt, .eop, .weir, .net, .integ, .ingest, .disp, .coll, .quires, .light]
      objs := some [0x141, 0x143, 0x201, 0x202, 0x210, 0x223, 0x230, 0x250, 0x251, 0x254, 0x400, 0x411, 0x415, 0x416, 0x422, 0x425, 0x430] }
  | .lineMatch _ _ =>
    { parts := [.clk, .time, .evt, .eop, .disp]
      objs := some [0x400] }
  | .egressEnable _ _ _ =>
    { parts := [.evt, .eop, .net, .disp]
      objs := some [0x141, 0x222, 0x400] }
  | .egressPacket _ _ _ =>
    { parts := [.clk, .freeIdx, .time, .evt, .eop, .net, .disp]
      objs := some [0x141, 0x143, 0x222, 0x400, 0x415, 0x416, 0x422] }
  | .writebackEnable _ _ _ =>
    { parts := [.evt, .eop, .net, .disp]
      objs := some [0x141, 0x201, 0x223, 0x400] }
  | .writebackDone _ =>
    { parts := [.evt, .eop, .ingest, .disp]
      objs := some [0x201, 0x202, 0x223, 0x400, 0x422] }
  | .collateEntry _ =>
    { parts := [.clk, .vault, .time, .evt, .eop, .integ, .coll]
      objs := some [0x400, 0x423, 0x431] }
  | .sampleLate _ =>
    { parts := [.clk, .vault, .time, .evt, .eop, .integ, .coll]
      objs := some [0x400, 0x423] }
  | .quireMode _ _ _ =>
    { parts := [.vault, .power, .evt, .eop, .weir, .net, .integ, .coll, .quires, .strands, .light, .cal]
      objs := some [0x141, 0x143, 0x210, 0x240, 0x250, 0x251, 0x254, 0x261, 0x400, 0x411, 0x415, 0x416, 0x425, 0x427, 0x430] }
  | .quireDrainDone _ =>
    { parts := [.clk, .vault, .power, .time, .evt, .eop, .weir, .net, .integ, .coll, .quires, .strands, .light, .cal]
      objs := some [0x141, 0x143, 0x210, 0x240, 0x250, 0x251, 0x254, 0x261, 0x400, 0x411, 0x415, 0x416, 0x424, 0x425, 0x427, 0x430] }
  | .quireLatch _ =>
    { parts := [.clk, .dram, .vault, .power, .time, .evt, .eop, .weir, .net, .integ, .coll, .quires, .strands, .light, .cal, .twin]
      objs := some [0x121, 0x141, 0x143, 0x210, 0x230, 0x240, 0x250, 0x251, 0x253, 0x254, 0x261, 0x262, 0x400, 0x411, 0x412, 0x415, 0x416,
     0x423, 0x424, 0x425, 0x427, 0x430] }
  | .frameStart _ =>
    { parts := [.clk, .freeIdx, .time, .quires, .strands]
      objs := some [0x240, 0x424, 0x425] }
  | .returnRecord _ _ _ =>
    { parts := [.clk, .freeIdx, .dram, .vault, .time, .evt, .eop, .integ, .quires, .strands, .light, .cal]
      objs := some [0x257, 0x400, 0x424, 0x425] }
  | .returnWindowEnd _ =>
    { parts := [.clk, .freeIdx, .time, .evt, .eop, .quires, .strands]
      objs := some [0x240, 0x400, 0x424] }
  | .camegCommand _ _ | .enumerate _ _ =>
    { parts := [.evt, .eop, .weir, .net, .quires]
      objs := some [0x141, 0x143, 0x400, 0x411, 0x415, 0x416, 0x430] }
  | .camegRequestDone _ =>
    { parts := [.clk, .freeIdx, .time, .evt, .eop, .weir, .net, .quires, .strands]
      objs := some [0x141, 0x143, 0x240, 0x400, 0x411, 0x415, 0x416, 0x424, 0x430] }
  | .fade _ _ _ | .fadeArm _ _ | .fadeStop _ _ =>
    { parts := [.evt, .eop, .weir, .net, .light]
      objs := some [0x141, 0x143, 0x210, 0x250, 0x251, 0x254, 0x400, 0x411, 0x415, 0x416, 0x425, 0x430] }
  | .fadeStart _ | .fadeEnd _ =>
    { parts := [.clk, .time, .evt, .eop, .weir, .net, .light]
      objs := some [0x141, 0x143, 0x210, 0x250, 0x251, 0x254, 0x400, 0x411, 0x415, 0x416, 0x425, 0x430] }
  | .gaugeSample _ _ =>
    { parts := [.clk, .time, .evt, .eop, .light, .cal]
      objs := some [0x260, 0x400, 0x426] }
  | .shortTest _ _ =>
    { parts := [.evt, .eop, .weir, .net, .light]
      objs := some [0x141, 0x256, 0x400, 0x425, 0x430] }
  | .shortTestDone _ _ =>
    { parts := [.clk, .vault, .power, .time, .evt, .eop, .weir, .net, .integ, .coll, .quires, .strands, .light, .cal]
      objs := some [0x141, 0x143, 0x210, 0x240, 0x250, 0x251, 0x254, 0x256, 0x261, 0x400, 0x411, 0x415, 0x416, 0x425, 0x427, 0x430] }
  | .faultClear _ _ =>
    { parts := [.evt, .eop, .net, .light]
      objs := some [0x141, 0x257, 0x400] }
  | .regionReset _ _ _ =>
    { parts := [.evt, .eop, .net, .cal]
      objs := some [0x141, 0x254, 0x400] }
  | .reftPresence _ =>
    { parts := [.clk, .time, .evt, .eop, .cal]
      objs := some [0x261, 0x400] }
  | .reftMeasurement =>
    { parts := [.clk, .time, .cal]
      objs := some [] }
  | .reftMeasurementDone _ _ =>
    { parts := [.clk, .time, .cal]
      objs := some [0x261, 0x427] }
  | .calibrationPass _ _ =>
    { parts := [.clk, .freeIdx, .time, .evt, .eop, .quires, .cal]
      objs := some [0x261, 0x400, 0x427] }
  | .tapApply _ =>
    { parts := [.clk, .time, .quires, .cal]
      objs := some [0x261, 0x427] }
  | .refSession _ _ =>
    { parts := [.evt, .eop, .weir, .net, .light, .cal]
      objs := some [0x141, 0x254, 0x400, 0x430] }
  | .refReading _ _ =>
    { parts := [.evt, .eop, .weir, .net, .cal]
      objs := some [0x141, 0x143, 0x262, 0x400, 0x411, 0x415, 0x416, 0x427, 0x430] }
  | .refCancel _ _ =>
    { parts := [.evt, .eop, .weir, .net, .cal]
      objs := some [0x141, 0x143, 0x400, 0x411, 0x415, 0x416, 0x427, 0x430] }
  | .refSessionEnd =>
    { parts := [.clk, .time, .evt, .eop, .weir, .net, .cal]
      objs := some [0x141, 0x143, 0x262, 0x400, 0x411, 0x415, 0x416, 0x427, 0x430] }
  | .refSessionTimeout =>
    { parts := [.clk, .time, .evt, .eop, .weir, .net, .cal]
      objs := some [0x141, 0x143, 0x400, 0x411, 0x415, 0x416, 0x427, 0x430] }
  | .sensorGainReset _ _ _ =>
    { parts := [.evt, .eop, .net, .cal]
      objs := some [0x141, 0x262, 0x400] }
  | .calStoreSave _ _ =>
    { parts := [.evt, .eop, .net, .cal]
      objs := some [0x141, 0x400] }
  | .calStoreWrite _ =>
    { parts := [.clk, .flash, .time, .evt, .eop, .update, .cal]
      objs := some [0x263, 0x400, 0x427] }
  | .beatSend =>
    { parts := [.clk, .time, .twin]
      objs := some [] }
  | .dikeBeat _ _ | .dikeDropped | .dikeDown | .dikeBeatTimeout | .chainTimeout | .handover =>
    { parts := [.clk, .freeIdx, .power, .flash, .time, .evt, .eop, .weir, .net, .update, .strands, .cal, .twin]
      objs := some [0x100, 0x121, 0x141, 0x143, 0x263, 0x400, 0x411, 0x412, 0x415, 0x416, 0x424, 0x427, 0x430] }
  | .heartbeatSend =>
    { parts := [.clk, .time, .evt, .eop, .net, .twin]
      objs := some [0x141, 0x143, 0x400, 0x415, 0x416] }
  | .partnerOut | .joinTimeout | .holdElapsed | .handoverWithdraw | .demote _ _ | .handoverAt _ _ | .rejoin _ _ =>
    { parts := [.clk, .flash, .time, .evt, .eop, .weir, .net, .update, .cal, .twin]
      objs := some [0x100, 0x121, 0x141, 0x143, 0x263, 0x400, 0x411, 0x412, 0x415, 0x416, 0x427, 0x430] }
  | .revertReq =>
    { parts := [.clk, .flash, .time, .evt, .eop, .update, .cal, .twin]
      objs := some [0x100, 0x263, 0x400, 0x427] }
  | .taskReady _ | .taskDeadline _ =>
    { parts := [.clk, .time, .evt, .eop, .weir, .net]
      objs := some [0x141, 0x143, 0x400, 0x411, 0x415, 0x416, 0x430] }
  | .taskDispatch _ =>
    { parts := [.clk, .flash, .time, .evt, .eop, .weir, .net, .update, .disp, .quires, .light, .cal, .twin]
      objs := some [0x100, 0x121, 0x131, 0x141, 0x143, 0x210, 0x212, 0x220, 0x250, 0x251, 0x254, 0x263, 0x400, 0x411, 0x412, 0x413, 0x415,
     0x416, 0x421, 0x422, 0x425, 0x427, 0x430] }
  | .scrubVisit _ _ _ =>
    { parts := [.clk, .power, .aon, .flash, .time, .evt, .eop, .integ, .update]
      objs := some [0x100, 0x311, 0x400, 0x431] }
  | .pageDecode _ _ _ _ _ =>
    { parts := [.power, .aon, .flash, .evt, .eop, .integ, .update]
      objs := some [0x100, 0x400, 0x431] }
  | .logClear _ _ =>
    { parts := [.evt, .eop, .net, .integ]
      objs := some [0x141, 0x400] }
  | .arbitrationWindow _ _ =>
    { parts := [.dram, .vault, .evt, .eop, .integ, .ingest, .disp, .strands]
      objs := some [0x140, 0x201, 0x223, 0x400, 0x414, 0x420, 0x422, 0x431] }
  | .download _ _ =>
    { parts := [.flash, .evt, .eop, .weir, .net, .update]
      objs := some [0x141, 0x400, 0x430] }
  | .eraseDone _ =>
    { parts := [.evt, .eop, .weir, .net, .update]
      objs := some [0x141, 0x143, 0x400, 0x411, 0x415, 0x416, 0x430] }
  | .blockProgramDone _ _ =>
    { parts := [.flash, .evt, .eop, .weir, .net, .update]
      objs := some [0x141, 0x143, 0x400, 0x411, 0x415, 0x416, 0x430] }
  | .transferTimeout =>
    { parts := [.clk, .time, .evt, .eop, .weir, .net, .update]
      objs := some [0x141, 0x143, 0x400, 0x411, 0x415, 0x416, 0x430] }
  | .verify _ _ =>
    { parts := [.evt, .eop, .weir, .net, .update]
      objs := some [0x141, 0x400, 0x430] }
  | .verifyDone =>
    { parts := [.evt, .eop, .weir, .net, .update]
      objs := some [0x141, 0x143, 0x320, 0x400, 0x411, 0x415, 0x416, 0x430, 0x432] }
  | .prepare _ _ | .commit _ _ =>
    { parts := [.flash, .evt, .eop, .net, .update]
      objs := some [0x141, 0x400] }
  | .abort _ _ =>
    { parts := [.power, .aon, .flash, .evt, .eop, .weir, .net, .update]
      objs := some [0x100, 0x141, 0x143, 0x400, 0x411, 0x415, 0x416, 0x430, 0x432] }
  | .confirm _ _ =>
    { parts := [.clk, .flash, .time, .evt, .eop, .net, .update, .cal]
      objs := some [0x100, 0x141, 0x263, 0x400, 0x427] }
  | .trialTimeout =>
    { parts := [.clk, .power, .aon, .flash, .time, .eop, .update]
      objs := some [0x100, 0x432] }
  | .confirmHoldElapsed =>
    { parts := [.clk, .flash, .time, .evt, .eop, .update, .cal]
      objs := some [0x100, 0x263, 0x400, 0x427] }
  | .frameDone _ =>
    { parts := [.clk, .freeIdx, .dram, .vault, .time, .evt, .eop, .integ, .disp]
      objs := some [0x400, 0x431] }
  | .postedWriteDone =>
    { parts := [.freeIdx, .dram, .vault, .power, .aon, .flash, .time, .evt, .sys, .hspi, .eop, .weir, .integ, .update, .disp, .quires]
      objs := none }
  | .noSlotVerifies =>
    { parts := [.flash, .evt, .eop, .update]
      objs := some [0x320, 0x400, 0x432] }

end Sys2Proof.Machine
end

