-- ==== Sys2Proof/Certificates/Slice0/Obligations.lean ====
section
/-! DEFINITION. The statements about the block, for the provers. A clause about a command says which next state exec answers, and what
it holds; what the command leaves alone is said once for all commands (CommandsChangeOnly). -/

open Sys2Proof Sys2Proof.Machine

/-- A step takes the command at the front of the queue and runs it with the queue's rest. -/
def Obligations.StepRunsFront : Prop :=
  ∀ (c : Instr) (q : List Instr) (s : State), s.pending = c :: q → step s = exec c { s with pending := q }

/-- With no command waiting a step lets one tick of 2 ns pass (the model's choice, log entry 3): nothing changes but the clocks and the
offset still to be slewed. -/
def Obligations.IdleStep : Prop :=
  ∀ s : State, s.pending = [] → ∃ t, step s = .next t ∧ t.pending = [] ∧ t.clk.elapsed = s.clk.elapsed + 2 ∧
    t = { s with clk := t.clk, time := { s.time with toSlew := t.time.toSlew } }

/-- No command stops the block: from every state each answers a next state, in which the commands that wait are as they were. -/
def Obligations.EveryCommandAnswers : Prop :=
  ∀ (c : Instr) (s : State), ∃ t, exec c s = .next t ∧ t.pending = s.pending

/-- The frame of all commands: from every state a command changes only what `touches` lists for it. Every other part of the state,
every byte of DRAM and of the Vault held in a part that is not listed, and every row of every object outside the listed blocks stay. -/
def Obligations.CommandsChangeOnly : Prop :=
  ∀ (c : Instr) (s t : State), exec c s = .next t → OnlyChanges (touches c) s t

/-- DRAM and every part of the Vault stay in their canonical form at every step: addresses rise, and no byte is listed that equals what an unlisted
address reads as. -/
def Obligations.MemoryKept : Prop := ∀ s t : State, MemInv s → step s = .next t → MemInv t

/-- The memories of the reset state are in canonical form, and every byte reads 0: the Vault's and the integrity regions' by R541, the
rest of DRAM by the model's choice (log entry 31). -/
def Obligations.ResetMemory : Prop :=
  MemInv State.reset ∧ (∀ a, State.reset.dramByte a = 0) ∧ ∀ a, State.reset.vaultByte a = 0

/-- The state after the power-on reset: the event unit of R515, cause 1 of R625, the retention latch 0 and the sessions and tasks of R628,
the Boot ROM of R642 at work with Crest dropped and the strands quenched (R382, R630), every object at its default. -/
def Obligations.ResetState : Prop :=
  State.reset.pending = [] ∧ State.reset.aon.cause = 1 ∧ State.reset.aon.retain = [0, 0, 0, 0] ∧ State.reset.evt.cause = 0 ∧
  State.reset.evt.enable = 0 ∧ (∀ e, e < 128 → State.reset.routeByte e = 0x10) ∧ State.reset.eop.sessions = [] ∧
  State.reset.weir.slots = [] ∧ State.reset.integ.vvalid = [] ∧ State.reset.power.service = .bootRom ∧
  State.reset.power.quenched = true ∧ State.reset.power.dikeOverride = true ∧ State.reset.flash.bootCount = 1 ∧
  ∀ o r, State.reset.row o r = dfltRow o r

/-- Power-on, loss of VAON, the 50 ms limit of a rail start, the rail monitor and the clock monitor (R625, R633, R678, R679, R682,
R684). -/
def Obligations.SupplyCommands : Prop :=
  (∀ (low : Bool) (porst : Option Nat) (s : State), (∀ ns, porst = some ns → s.power.state ≠ .off ∧ 500 ≤ ns) →
    ∃ t, exec (.powerOn low porst) s = .next t ∧
      t.aon.cause = 1 ∧ t.aon.also = (if low then 2 else 0) ∧ t.aon.retain = (if porst = none then [0, 0, 0, 0] else s.aon.retain) ∧
      t.power.inReset = true ∧ t.power.pwrEn = true ∧ t.power.linkEn = true ∧ t.power.quenched = true ∧
      t.flash = s.saveCome.flash ∧ t.evt = State.reset.evt ∧ ∀ o r, t.row o r = dfltRow o r) ∧
  (∀ (low : Bool) (ns : Nat) (s : State), ns < 500 → exec (.powerOn low (some ns)) s = .next s) ∧
  (∀ s : State, ∃ t, exec .vaonLoss s = .next t ∧
    t.power.state = .off ∧ t.power.pwrEn = false ∧ t.aon.retain = [0, 0, 0, 0] ∧ t.aon.cause = 0 ∧ t.flash = s.saveCome.flash) ∧
  (∀ s : State, s.power.inReset = true → s.power.pwrEn = true → (s.aon.cause = 1 ∨ s.aon.cause = 7) →
    ∃ t, exec .railStartTimeout s = .next t ∧
      t.power.state = .hibernate ∧ t.power.pwrEn = false ∧ t.power.linkEn = false ∧ t.aon.entry = 2 ∧
      t.aon.retain = s.aon.retain ∧ t.clk.elapsed = max s.clk.elapsed (s.power.pwrEnAt + 50000000) ∧
      t.power.wakeTimer = some (t.clk.elapsed + s.val 0x322000 * 1000000000)) ∧
  (∀ (rail : Nat) (s : State), s.awake = true → rail < 9 → ∃ t, exec (.railWarning rail) s = .next t ∧
    t.raised 3 = true ∧ t.fld 0x433100 rail 2 = min (s.fld 0x433100 rail 2 + 1) (2 ^ 32 - 1)) ∧
  (∀ (rail : Nat) (s : State), rail < 9 → (s.power.pwrEn = true ∨ (s.power.state = .standby ∧ rail = 3)) →
    ∃ t, exec (.brownout rail) s = .next t ∧
    (s.power.recording = true → t.power.brownoutDue = some (s.val 0x322000) ∧ t.power.entry = s.power.entry) ∧
    (s.power.recording = false → t.power.entry = some (.brownout (s.val 0x322000)) ∧ t.power.quenched = true ∧
      t.power.dikeOverride = true)) ∧
  (∀ (kind : Nat) (s : State), s.timeRuns = true → kind = 0 ∨ kind = 2 → ∃ t, exec (.clock kind) s = .next t ∧ t.raised 7 = true)

/-- Reset requests of the pin, the watchdog, OD 0x5000 and AON.RESET, and the assertion and the release of the reset (R625 to R630,
R642, R666 to R670). -/
def Obligations.ResetCommands : Prop :=
  (∀ (low : Nat) (s : State), 500 ≤ low → (s.power.state = .run ∨ s.power.state = .berm) → s.power.recording = false →
    ∃ t, exec (.pinReset low) s = .next t ∧
      t.aon.cause = 2 ∧ t.aon.also = 0 ∧ t.power.requested = true ∧ t.power.requestAt = s.clk.elapsed ∧ t.power.pinLow = true ∧
      t.power.pinUntil = s.clk.elapsed + low ∧ t.power.quenched = true ∧ t.power.dikeOverride = true) ∧
  (∀ s : State, s.awake = true → ∃ t, exec .watchdogWarn s = .next t ∧
    t.raised 5 = true ∧ t.power.warned = true ∧ t.power.watchdogAt = t.clk.elapsed - 1000000000 ∧
    t.clk.elapsed = max s.clk.elapsed (s.power.watchdogAt + if s.power.warned then 2000000000 else 1000000000)) ∧
  (∀ s : State, s.awake = true → s.power.recording = false →
    ∃ t, exec .watchdogExpiry s = .next t ∧
      t.aon.cause = 3 ∧ t.power.requested = true ∧ t.power.quenched = true ∧ t.power.dikeOverride = true ∧
      (s.power.warned = true → t.clk.elapsed = max s.clk.elapsed (s.power.watchdogAt + 2000000000)) ∧
      (s.power.warned = false → t.raised 5 = true ∧
        t.clk.elapsed = max s.clk.elapsed (s.power.watchdogAt + 1000000000) + 1000000000)) ∧
  (∀ (v : Nat) (o : Origin) (x : Row) (s : State), Passes s o 0x500000 0 (fun d => numRow d v) x →
    (s.power.state = .run ∨ s.power.state = .berm) → s.power.recording = false →
    ∃ t, exec (.reset v o) s = .next t ∧
      Answers t stOk 0 ∧ t.aon.cause = 5 ∧ t.power.requested = true ∧ t.power.quenched = true ∧ t.power.dikeOverride = true) ∧
  (∀ (c : Nat) (s : State), 2 ≤ c → c ≤ 6 → (s.power.state = .run ∨ s.power.state = .berm) → s.power.recording = true →
    s.power.requestAt < s.clk.elapsed → (s.requestCause c).aon = { s.aon with also := setBit s.aon.also (c - 1) } ∧
      (s.requestCause c).power = s.power) ∧
  (∀ s : State, s.power.requested = true → ∃ t, exec .resetAssert s = .next t ∧
    t.power.inReset = true ∧ t.power.requested = false ∧ t.clk.elapsed = max s.clk.elapsed (s.power.requestAt + 2000) ∧
    t.aon = s.aon ∧ t.flash = s.flash ∧ t.eop.sessions = [] ∧ t.weir = State.reset.weir ∧ t.evt = State.reset.evt ∧
    t.integ.vvalid = [] ∧ t.vault = [] ∧ ∀ o r, o ≠ 0x322000 → t.row o r = dfltRow o r) ∧
  (∀ s : State, s.power.inReset = true → s.power.pwrEn = true → s.railsStart = true → s.power.pinLow = false →
    s.power.pwrEnAt + 50000000 ≤ s.clk.elapsed → ∃ t, exec .resetRelease s = .next t ∧ t.power.state = .hibernate ∧ t.aon.entry = 2) ∧
  (∀ s : State, s.power.inReset = true → s.power.pwrEn = true →
    (s.railsStart = true → s.power.pinLow = true ∨ s.clk.elapsed < s.power.pwrEnAt + 50000000) → ∃ t, exec .resetRelease s = .next t ∧
    (s.railsStart = true → s.power.pwrEnAt + 2000000 ≤ t.clk.elapsed) ∧ (s.power.pinLow = true → s.power.pinUntil ≤ t.clk.elapsed) ∧
    t.power.inReset = false ∧ t.power.state = .berm ∧ t.power.service = .bootRom ∧ t.power.pinLow = false ∧
    t.power.watchdogAt = t.clk.elapsed ∧ t.power.warned = false ∧ t.hspi.ready = true ∧
    t.flash.bootCount = (s.flash.bootCount + 1) % 2 ^ 32 ∧ t.aon.cause = s.aon.cause ∧
    t.aon.copyCause = s.aon.cause + 256 * s.aon.also + 65536 * s.aon.entry + 262144 * s.aon.wakeFrom + 1048576 * s.aon.wakeSource ∧
    t.power.entry = s.power.brownoutDue.map Entry.brownout ∧
    (s.flash.boot.pending ≠ 0xFF → 0 < s.flash.boot.trials →
      t.update.running = s.flash.boot.pending ∧ t.flash.boot.trials = s.flash.boot.trials - 1) ∧
    (s.flash.boot.pending = 0xFF → t.update.running = s.flash.boot.active ∧ t.flash.boot = s.flash.boot))

/-- Bring-up: Berm service, DRAM training and refresh, full service, and no slot that verifies (R558, R635 to R637, R642, R643). -/
def Obligations.BringUpCommands : Prop :=
  (∀ s : State, s.power.inReset = false → s.power.service = .bootRom → s.power.state = .berm →
    ∃ t, exec .bermService s = .next t ∧
      t.power.service = .berm ∧ t.hspi.ready = true ∧ t.integ.training = 1 ∧ t.raised 1 = true) ∧
  (∀ (ok : Bool) (gib ch : Nat) (s : State), s.berm = true → s.integ.training ≠ 2 →
    ∃ t, exec (.dramState ok gib ch) s = .next t ∧ t.raised 23 = true ∧
      (ok = true → (gib = 2 ∨ gib = 4 ∨ gib = 8) → ch = 15 → t.integ.training = 2 ∧ t.integ.gib = gib) ∧
      (ok = false → t.integ.training = 3 ∧ t.integ.gib = 0)) ∧
  (∀ (rate : Nat) (s : State), s.power.inReset = false → s.integ.training = 2 → rate ≤ 2 → s.integ.refresh ≠ rate →
    ∃ t, exec (.refreshRateChange rate) s = .next t ∧ t.integ.refresh = rate ∧ t.raised 23 = true) ∧
  (∀ s : State, s.berm = true → s.power.requested = false → s.integ.training = 2 → s.serviceSlot.1 = true →
    ∃ t, exec .serviceStart s = .next t ∧
      t.power.service = .full ∧ t.power.state = .run ∧ t.power.dikeOverride = false ∧ t.raised 0 = true ∧
      t.update.serviceAt = s.now ∧ t.update.running = s.serviceSlot.2.update.running) ∧
  (∀ s : State, s.berm = true → s.integ.training = 2 → s.slotVerified 0 = false → s.slotVerified 1 = false →
    s.update.running < 2 → s.flash.boot.pending ≠ s.update.running →
    ∃ t, exec .noSlotVerifies s = .next t ∧ t.power = s.power ∧ t.flash = s.flash ∧ t.update.running = s.update.running ∧
      t.update.state = (if s.update.state = 0 then 9 else s.update.state) ∧
      t.row 0x320300 0 = [(verifySlot s.flash.otpFloor (s.slot (1 - s.update.running))).1,
        (verifySlot s.flash.otpFloor (s.slot (1 - s.update.running))).2, (s.slot (1 - s.update.running)).version])

/-- LINK STANDBY, HIBERNATE and waking (R29 to R32, R617, R618, R632, R634). -/
def Obligations.SleepCommands : Prop :=
  (∀ (o : Origin) (x : Row) (s : State), Passes s o 0x500200 0 (fun d => numRow d 1) x → s.power.entry = none →
    ∃ t, exec (.standby 1 o) s = .next t ∧ Answers t stOk 0 ∧ t.power.entry = some .standby ∧ t.raised 2 = true) ∧
  (∀ (n : Nat) (o : Origin) (x : Row) (s : State), Passes s o 0x500300 0 (fun d => numRow d n) x → s.power.entry = none →
    ∃ t, exec (.hibernate n o) s = .next t ∧ Answers t stOk 0 ∧ t.raised 2 = true ∧
      t.power.entry = some (.hibernate (if n = 0 then none else some n))) ∧
  (∀ (e : Entry) (s : State), s.power.entry = some e → s.power.requested = false → s.power.inReset = false →
    s.power.wakeLatch = none → ∃ t, exec .powerEntry s = .next t ∧
      t.power.pwrEn = false ∧ t.power.quenched = true ∧ t.power.dikeOverride = true ∧ t.aon.retain = s.aon.retain ∧
      t.flash = s.saveCome.flash ∧
      (e = .standby → t.power.state = .standby ∧ t.power.linkEn = true ∧ t.aon.entry = 1 ∧ t.power.detector = s.wakePatterns) ∧
      (∀ n, e = .hibernate n → t.power.state = .hibernate ∧ t.power.linkEn = false ∧ t.aon.entry = 1 ∧
        (∀ k, n = some k → t.power.wakeTimer = some (s.clk.elapsed + k * 1000000000))) ∧
      (∀ n, e = .brownout n → t.power.state = .hibernate ∧ t.power.linkEn = false ∧ t.aon.entry = 2 ∧
        t.power.wakeTimer = some (s.clk.elapsed + n * 1000000000))) ∧
  (∀ s : State, ∃ t, exec .wake s = .next t ∧
    (s.asleep = true → s.power.entry = none → t.aon.cause = 7 ∧ t.aon.wakeFrom = (if s.power.state = .standby then 1 else 2) ∧ t.aon.wakeSource = 1 ∧
      t.aon.entry = s.aon.entry ∧ t.power.pwrEn = true ∧ t.power.linkEn = true ∧ t.power.pwrEnAt = s.clk.elapsed ∧
      t.power.inReset = true) ∧
    (s.power.entry.isSome = true → s.power.wakeLatch = none → t.power.wakeLatch = some .pin)) ∧
  (∀ (e : Nat) (s : State), s.power.state = .hibernate → s.power.wakeTimer = some e → ∃ t, exec .wakeTimer s = .next t ∧
    t.aon.cause = 7 ∧ t.aon.wakeFrom = 2 ∧ t.aon.wakeSource = 2 ∧ t.power.pwrEn = true ∧ t.power.wakeTimer = none ∧
    t.clk.elapsed = max s.clk.elapsed (aonTick e)) ∧
  (∀ (f : EthFrame) (both : Bool) (v : Row) (s : State), s.power.state = .standby → s.power.entry = none →
    s.power.detector.find? (wakeMatch f) = some v → ∃ t, exec (.wakePatternMatch f both) s = .next t ∧
      t.aon.cause = 7 ∧ t.aon.wakeFrom = 1 ∧ t.aon.wakeSource = (if both then 1 else 4 + v.headD 0) ∧ t.power.pwrEn = true)

/-- PTP messages at a servo (R42, R45, R47, R48, R50, R53 to R57): a Sync, a Follow_Up, an Announce and a Delay_Resp of a domain that one
servo takes, and a Delay_Req put in its queue. The measured offset and frequency are operands of the command (log entry 5). A message
that no servo takes is dropped and counted. -/
def Obligations.PtpMessages : Prop :=
  (∀ (d dom p at_ seq master : Nat) (l2 : Bool) (off freq : Int) (s : State), d ≤ 1 → s.takes d dom p l2 = true →
    s.takes (1 - d) dom p l2 = false → s.servoState d ≠ 4 → s.sourcePort d = p →
    (∃ t, exec (.sync dom ⟨p, l2⟩ at_ seq true master off freq) s = .next t ∧
      (t.servo d).twoStep = some { port := p, seq := seq, rx := at_ } ∧ (t.servo d).missed = 0 ∧
      (t.servo d).expected = some ((s.advanceTo at_).now + s.syncInterval d)) ∧
    (s.stepDue d = false → ∃ t, exec (.sync dom ⟨p, l2⟩ at_ seq false master off freq) s = .next t ∧
      (t.servo d).lastSync = some ((at_ : Int) - master) ∧ t.val (oDomain d 7) = ofI 64 off ∧
      (s.servoState d = 2 → d = s.selected → beyond off 100 = false → 15 ≤ (s.servo d).good → t.servoState d = 3))) ∧
  (∀ (d dom p at_ seq master : Nat) (l2 : Bool) (off freq : Int) (y : PendingSync) (s : State), d ≤ 1 →
    s.fromMaster d dom p l2 = true → s.takes (1 - d) dom p l2 = false → s.stepDue d = false →
    (s.servo d).twoStep = some y → y.port = p → y.seq = seq →
    ∃ t, exec (.followUp dom ⟨p, l2⟩ at_ seq master off freq) s = .next t ∧
      (t.servo d).twoStep = none ∧ (t.servo d).lastSync = some ((y.rx : Int) - master) ∧ t.val (oDomain d 7) = ofI 64 off) ∧
  (∀ (d dom p at_ : Nat) (l2 : Bool) (a : Announce) (s : State), d ≤ 1 → s.takes d dom p l2 = true → s.takes (1 - d) dom p l2 = false →
    s.servoState d ≠ 4 → -7 ≤ a.logSync → a.logSync ≤ 1 → (s.servo d).best = [] →
    ∃ t, exec (.announce dom ⟨p, l2⟩ at_ a) s = .next t ∧
      (t.servo d).best = [(p, { data := a, dom := dom, l2 := l2, at_ := (s.advanceTo at_).now })] ∧ t.sourcePort d = p ∧
      t.val (oDomain d 0x0A) = a.gm ∧ (s.servoState d = 1 → t.servoState d = 2)) ∧
  (∀ (d dom p seq receipt t3 : Nat) (l2 : Bool) (li : Int) (s : State), d ≤ 1 → s.takes d dom p l2 = true →
    s.takes (1 - d) dom p l2 = false → (s.servo d).delayTx = some (p, seq, some t3) →
    ∃ t, exec (.delayResp dom ⟨p, l2⟩ seq receipt li) s = .next t ∧
      (t.servo d).delayTx = none ∧ (t.servo d).delayLog = clampI (-4) 5 li ∧
      t.val (oDomain d 9) = (clampI 0 (2 ^ 32 - 1) (((s.servo d).lastSync.getD 0 + ((receipt : Int) - t3)) / 2)).toNat) ∧
  (∀ (d at_ : Nat) (s : State), s.timeRuns = true → d ≤ 1 → s.sourcePort d < 4 → (s.servo d).delayNext = some at_ →
    ∃ t, exec (.delayReqSend d) s = .next t ∧
      (t.servo d).delayTx = some (s.sourcePort d, (s.servo d).delaySeq, none) ∧
      (t.servo d).delaySeq = ((s.servo d).delaySeq + 1) % 65536 ∧
      (t.servo d).delayNext = some ((s.advanceTo at_).now + log2Ns (s.servo d).delayLog)) ∧
  (∀ (dom p at_ seq master : Nat) (l2 two : Bool) (off freq : Int) (s : State), s.ptpLost dom p l2 = true →
    ∃ t, exec (.sync dom ⟨p, l2⟩ at_ seq two master off freq) s = .next t ∧
      t.fld oPtpDropped 0 0 = (s.fld oPtpDropped 0 0 + 1) % 2 ^ 64 ∧ t.servo 0 = s.servo 0 ∧ t.servo 1 = s.servo 1)

/-- What the servos and the domain selection do when time passes (R48, R50, R59 to R61): a Sync missed, an Announce timed out, a
holdover window ended, a return to the preferred domain, and a timed switch. -/
def Obligations.TimeTimeouts : Prop :=
  (∀ (d e : Nat) (s : State), s.timeRuns = true → d ≤ 1 → (s.servo d).expected = some e →
    ∃ t, exec (.syncMissed d) s = .next t ∧
      (s.servoState d ≠ 3 ∨ (s.servo d).missed < 3 → (t.servo d).missed = (s.servo d).missed + 1 ∧
        (t.servo d).expected = some (e + s.syncInterval d) ∧ t.servoState d = s.servoState d) ∧
      (s.servoState d = 3 → 3 ≤ (s.servo d).missed → t.servoState d = 4 ∧ t.raised 112 = true)) ∧
  (∀ (d p : Nat) (a : PortAnnounce) (s : State), s.timeRuns = true → d ≤ 1 → (s.servo d).best = [(p, a)] → s.sourcePort d = p →
    ∃ t, exec (.announceTimeout d p) s = .next t ∧
      (t.servo d).best = [] ∧ t.sourcePort d = 0xFF ∧ (t.servo d).expected = none ∧
      (s.servoState d = 3 → t.servoState d = 4) ∧ (s.servoState d = 2 → t.servoState d = 1)) ∧
  (∀ (d : Nat) (s : State), d ≤ 1 → s.servoState d = 4 → ∃ t, exec (.holdoverExpiry d) s = .next t ∧
    t.servoState d = 1 ∧ t.sourcePort d = 0xFF ∧ (t.servo d).best = [] ∧ s.holdoverDue d ≤ t.now ∧ t.raised 112 = true) ∧
  (∀ (at_ : Nat) (s : State), s.time.preferSince = some at_ → 2 ≤ s.val oDomainMode → s.val 0x130006 = 1 →
    s.selected ≠ modeDomain (s.val oDomainMode) → s.servoState (modeDomain (s.val oDomainMode)) = 3 → s.time.switchAt = none →
    ∃ t, exec .domainRevert s = .next t ∧
      t.selected = modeDomain (s.val oDomainMode) ∧ t.raised 113 = true ∧
      at_ + s.val 0x130007 * 1000000000 ≤ t.now) ∧
  (∀ (v : List Byte) (o : Origin) (x : Row) (s : State), Passes s o 0x130009 0 (fun d => rowOf d v) x → s.now < ptNs (x.getD 1 0) →
    ∃ t, exec (.switchAt v o) s = .next t ∧ Answers t stOk 0 ∧
      t.time.switchAt = some (x.headD 0, ptNs (x.getD 1 0)) ∧ t.val oSwitchResult = 1) ∧
  (∀ (target at_ : Nat) (s : State), s.time.switchAt = some (target, at_) → ∃ t, exec .timedSwitch s = .next t ∧
    t.time.switchAt = none ∧ t.raised 113 = true ∧ tickUp at_ ≤ t.now ∧
    (s.servoState target = 3 → t.selected = target ∧ t.val oSwitchResult = 2 ∧
      t.val oDomainMode = (if s.val oDomainMode < 2 then target else 2 + target)) ∧
    (s.servoState target ≠ 3 → t.selected = s.selected ∧ t.val oSwitchResult = 3 ∧ t.val oDomainMode = s.val oDomainMode))

/-- Pulse outputs and capture inputs (R70 to R81): a row armed, a one-shot's and a periodic row's edges, and an edge captured;
a level shorter than 8 ns takes the timestamp from both its edges. -/
def Obligations.PulsesAndCaptures : Prop :=
  (∀ (r : Nat) (v : List Byte) (o : Origin) (x : Row) (s : State), Passes s o 0x131000 r (fun d => rowOf d v) x → pulseOk x = true →
    s.pulseState r ≠ 2 → s.pulseState r ≠ 5 → (s.pulse r).task = none →
    ∃ t, exec (.pulse r v o) s = .next t ∧ Answers t stOk 0 ∧
      (pMode x = 0 → t.pulseState r = 0) ∧
      (pMode x = 1 → s.now + 2000 ≤ pStart x → t.pulseState r = 1 ∧ (t.pulse r).row = x) ∧
      (pMode x = 1 → pStart x < s.now + 2000 → t.pulseState r = 4 ∧ t.raised 114 = true)) ∧
  (∀ (r : Nat) (s : State), s.pulseState r = 1 → pMode (s.pulse r).row = 1 → (s.pulse r).active = false → (s.pulse r).task = none →
    ∃ t, exec (.pulseEdge r) s = .next t ∧
      t.pulseState r = 2 ∧ (t.pulse r).active = true ∧ t.raised 114 = true ∧ tickUp (pStart (s.pulse r).row) ≤ t.now) ∧
  (∀ (r : Nat) (s : State), s.pulseState r = 2 → pMode (s.pulse r).row = 1 → (s.pulse r).active = true →
    ∃ t, exec (.pulseEdge r) s = .next t ∧
      t.pulseState r = 3 ∧ (t.pulse r).active = false ∧ tickUp (pStart (s.pulse r).row + pWidth (s.pulse r).row) ≤ t.now) ∧
  (∀ (r : Nat) (s : State), (s.pulseState r = 1 ∨ s.pulseState r = 2) → pMode (s.pulse r).row = 2 → (s.pulse r).active = false →
    (s.pulse r).waiting = false → ∃ t, exec (.pulseEdge r) s = .next t ∧
      t.pulseState r = 2 ∧ (t.pulse r).active = true ∧ pulseRise (s.pulse r).row (s.pulse r).k ≤ t.now) ∧
  (∀ (r : Nat) (s : State), s.pulseState r = 2 → pMode (s.pulse r).row = 2 → (s.pulse r).active = true →
    (s.pulse r).task = none → ∃ t, exec (.pulseEdge r) s = .next t ∧
      (t.pulse r).active = false ∧ (t.pulse r).k = (s.pulse r).k + 1 ∧ (t.pulse r).emitted = (s.pulse r).emitted + 1 ∧
      pulseFall (s.pulse r).row (s.pulse r).k ≤ t.now ∧
      (pCount (s.pulse r).row = (s.pulse r).emitted + 1 → (s.pulse r).waiting = false → t.pulseState r = 3 ∧ t.raised 114 = true) ∧
      (pCount (s.pulse r).row = 0 → t.pulseState r = 2)) ∧
  (∀ (i at_ frac w : Nat) (fall : Bool) (s : State), s.full = true → i < 4 → 8 ≤ w → tget false s.time.glitch i = false →
    (s.fld 0x132000 i 0).testBit (b2n fall) = true → ∃ t, exec (.tsiEdge i at_ frac fall w) s = .next t ∧
      ((s.captures i).length < 16 →
        t.captures i = s.captures i ++ [[nsPt at_, frac % 65536, b2n fall, s.val oNodeState]] ∧
        (s.captures i = [] → t.raised 115 = true)) ∧
      (16 ≤ (s.captures i).length → t.captures i = s.captures i ∧ t.raised 115 = true)) ∧
  (∀ (i at_ frac w : Nat) (fall : Bool) (s : State), s.full = true → i < 4 → w < 8 →
    ∃ t, exec (.tsiEdge i at_ frac fall w) s = .next t ∧ t.captures i = s.captures i ∧ tget false t.time.glitch i = true)

/-- R515 over every reset class: after a power-on (cause 1), after the assertion of a reset of cause 2 to 6, and after the main rails have
gone off, from where only a wake (cause 7) leads back, every cause bit and every ENABLE bit is 0 and every route byte is 0x10. -/
def Obligations.EventUnitAfterReset : Prop :=
  (∀ (low : Bool) (porst : Option Nat) (s : State), (∀ ns, porst = some ns → s.power.state ≠ .off ∧ 500 ≤ ns) →
    ∃ t, exec (.powerOn low porst) s = .next t ∧ t.evt.cause = 0 ∧ t.evt.enable = 0 ∧ ∀ e, e < 128 → t.routeByte e = 0x10) ∧
  (∀ s : State, s.power.requested = true → ∃ t, exec .resetAssert s = .next t ∧
    t.evt.cause = 0 ∧ t.evt.enable = 0 ∧ ∀ e, e < 128 → t.routeByte e = 0x10) ∧
  (∀ s : State, s.power.entry.isSome = true → s.power.requested = false → s.power.inReset = false →
    ∃ t, exec .powerEntry s = .next t ∧ t.evt.cause = 0 ∧ t.evt.enable = 0 ∧ ∀ e, e < 128 → t.routeByte e = 0x10) ∧
  (∀ s : State, s.power.inReset = true → s.power.pwrEn = true → (s.aon.cause = 1 ∨ s.aon.cause = 7) →
    ∃ t, exec .railStartTimeout s = .next t ∧ t.evt.cause = 0 ∧ t.evt.enable = 0 ∧ ∀ e, e < 128 → t.routeByte e = 0x10) ∧
  (∀ s : State, s.asleep = true → ∃ t, exec .wake s = .next t ∧ t.evt = s.evt)

/-- R434: an entry joins the completion queue at its end while fewer than 256 are held; one that arrives while 256 are held is
discarded, counted in OD 0x4300 (CQ_OVERFLOWS, column 10) and sets WEIR.CQ_STATUS.OVERFLOW. -/
def Obligations.CompletionQueueHolds256 : Prop :=
  ∀ (h st : Nat) (s : State),
    (s.weir.cq.length < 256 → (s.cqPush h st).weir.cq = s.weir.cq ++ [(h, st)] ∧
      (s.cqPush h st).weir.cqOverflow = s.weir.cqOverflow ∧ (s.cqPush h st).fld 0x430000 0 10 = s.fld 0x430000 0 10) ∧
    (256 ≤ s.weir.cq.length → (s.cqPush h st).weir.cq = s.weir.cq ∧ (s.cqPush h st).weir.cqOverflow = true ∧
      (s.cqPush h st).fld 0x430000 0 10 = (s.fld 0x430000 0 10 + 1) % 2 ^ 64)

/-- A raise of event e (R511, R513): its cause bit is set whatever its ENABLE bit, no other changes, and row e of OD 0x4000 and
EVT.RAISES count it, whether or not the bit was set. Each open session whose mask takes e gets it where the route byte has EOP set. -/
def Obligations.EventRaised : Prop :=
  ∀ (e : Nat) (s : State), e < 128 →
    (∀ i, (s.raise e).raised i = (s.raised i || decide (i = e))) ∧ (s.raise e).evt.enable = s.evt.enable ∧
    (s.raise e).evt.route = s.evt.route ∧ (s.raise e).evt.raises = (s.evt.raises + 1) % 2 ^ 64 ∧
    (∀ r, (s.raise e).fld 0x400000 r 0 = if r = e then min (2 ^ 32 - 1) (s.fld 0x400000 e 0 + 1) else s.fld 0x400000 r 0) ∧
    ((s.routeByte e).testBit 4 = false → (s.raise e).eop = s.eop) ∧
    ((s.routeByte e).testBit 4 = true → (s.raise e).eop.sessions = tmap (fun x => x.deliver e s.now) s.eop.sessions)

/-- The event unit's registers, over each path (R502, R503, R504, R511, R517, R523 to R529): a W1C write clears the causes written 1, a
write of ENABLE or of one of its MW aliases changes the bits it names, TEST raises its event and nothing else, and ROUTE takes its
bytes unless SYS.LOCK.ROUTE makes the write a lock violation. -/
def Obligations.EventRegisterWrites : Prop :=
  (∀ (p : Path) (b : Nat) (v : Word) (s : State), Reaches s p 1 → b < 4 →
    ∃ c, exec (.causeClear p b v) s = .next { s with evt := { s.evt with cause := c }, hspi := portAfter p s.hspi } ∧
      ∀ i, i < 128 → c.getLsbD i = (s.raised i && !(decide (i / 32 = b) && v.getLsbD (i % 32)))) ∧
  (∀ (p : Path) (b : Nat) (v : Word) (s : State), Reaches s p 1 → b < 4 → s.eop.hostBusy = false →
    ∃ n, exec (.registerWrite p (regAddr 1 (0x30 + 4 * b)) v) s =
        .next { s with evt := { s.evt with enable := n }, hspi := portAfter p s.hspi } ∧
      ∀ i, i < 128 → n.getLsbD i = if i / 32 = b then v.getLsbD (i % 32) else s.evt.enable.getLsbD i) ∧
  (∀ (p : Path) (k : Nat) (v : Word) (s : State), Reaches s p 1 → k < 8 → s.eop.hostBusy = false →
    ∃ n, exec (.maskedWrite p (regAddr 1 (0x40 + 4 * k)) v) s =
        .next { s with evt := { s.evt with enable := n }, hspi := portAfter p s.hspi } ∧
      ∀ i, i < 128 → n.getLsbD i =
        if i / 16 = k ∧ v.getLsbD (16 + i % 16) = true then v.getLsbD (i % 16) else s.evt.enable.getLsbD i) ∧
  (∀ (p : Path) (v : Word) (s : State), Reaches s p 1 →
    (v.getLsbD 7 = true → v.toNat % 128 ∉ [46, 47, 62, 63, 78, 79, 121] →
      exec (.eventTest p v) s = .next { s.raise (v.toNat % 128) with hspi := portAfter p s.hspi }) ∧
    (v.getLsbD 7 = false ∨ v.toNat % 128 ∈ [46, 47, 62, 63, 78, 79, 121] →
      exec (.eventTest p v) s = .next { s with hspi := portAfter p s.hspi })) ∧
  (∀ (p : Path) (n : Nat) (v : Word) (s : State), Reaches s p 1 → n < 32 → s.eop.hostBusy = false →
    (s.sys.lockReg.getLsbD 0 = false → ∃ t, exec (.wolWrite p (regAddr 1 (0x100 + 4 * n)) v) s = .next t ∧
      t = { s with evt := { s.evt with route := t.evt.route }, hspi := portAfter p s.hspi } ∧
      ∀ e, t.routeByte e = if e / 4 = n then v.toNat / 2 ^ (8 * (e % 4)) % 32 else s.routeByte e) ∧
    (s.sys.lockReg.getLsbD 0 = true → exec (.wolWrite p (regAddr 1 (0x100 + 4 * n)) v) s =
      .next { s.lockViolation (regAddr 1 (0x100 + 4 * n)) with hspi := portAfter p s.hspi }))

/-- The registers of SYS (R504, R520 to R522): the aperture base until its LOCK, the write-once SYS.LOCK, a lock violation and what it
leaves, and the W1C clears of SYS.FAULT. -/
def Obligations.SystemRegisterWrites : Prop :=
  (∀ (p : Path) (v : Word) (s : State), Reaches s p 0 → s.eop.hostBusy = false →
    (s.sys.apbase.getLsbD 31 = false → exec (.wolWrite p (regAddr 0 0x10) v) s =
      .next { s with sys := { s.sys with apbase := v &&& 0x8000001F }, hspi := portAfter p s.hspi }) ∧
    (s.sys.apbase.getLsbD 31 = true → exec (.wolWrite p (regAddr 0 0x10) v) s =
      .next { s.lockViolation (regAddr 0 0x10) with hspi := portAfter p s.hspi }) ∧
    (s.sys.lockWritten = false → exec (.wolWrite p (regAddr 0 0x14) v) s =
      .next { s with sys := { s.sys with lockReg := v &&& 1, lockWritten := true }, hspi := portAfter p s.hspi }) ∧
    (s.sys.lockWritten = true → exec (.wolWrite p (regAddr 0 0x14) v) s =
      .next { s.lockViolation (regAddr 0 0x14) with hspi := portAfter p s.hspi })) ∧
  (∀ (a : Word) (s : State), (s.lockViolation a).raised 126 = true ∧ (s.lockViolation a).sys.lockViolation = true ∧
    (s.lockViolation a).sys.lockAddr = (if s.sys.lockViolation = true then s.sys.lockAddr else a) ∧
    (s.lockViolation a).sys.apbase = s.sys.apbase ∧ (s.lockViolation a).sys.lockReg = s.sys.lockReg ∧
    (s.lockViolation a).evt.route = s.evt.route) ∧
  (∀ (p : Path) (v : Word) (s : State), Reaches s p 0 →
    exec (.sysFaultClear p v) s = .next { s with
      sys := { s.sys with
        lockViolation := s.sys.lockViolation && !v.getLsbD 31, windowMiss := s.sys.windowMiss && !v.getLsbD 30,
        hspiFail := s.sys.hspiFail && !v.getLsbD 29, missCount := if v.getLsbD 30 = true then 0 else s.sys.missCount },
      hspi := portAfter p s.hspi })

/-- AON.RESET over each path: 0x5A requests a reset of cause 5, any other value has no effect (R670). -/
def Obligations.AonResetKey : Prop :=
  ∀ (p : Path) (k : Nat) (s : State), Reaches s p 23 →
    (k % 256 ≠ 0x5A → exec (.aonReset k p) s = .next { s with hspi := portAfter p s.hspi }) ∧
    (k % 256 = 0x5A → exec (.aonReset k p) s = .next { s.requestCause 5 with hspi := portAfter p s.hspi } ∧
      ((s.power.state = .run ∨ s.power.state = .berm) → s.power.recording = false →
        (s.requestCause 5).aon.cause = 5 ∧ (s.requestCause 5).power.requested = true))

/-- Registers that take an action when written: the completion queue's pop and its overflow flag (R439), the snapshot of node time
(R43), and the W1C summary of a Quire (R301). -/
def Obligations.ActionRegisterWrites : Prop :=
  (∀ (p : Path) (v : Word) (s : State), Reaches s p 2 →
    ∀ c, c = .cqPop p v ∨ c = .clearOverflow p v → exec c s = .next { s with
      weir := { s.weir with
        cq := if v.getLsbD 0 = true then s.weir.cq.tail else s.weir.cq
        cqOverflow := s.weir.cqOverflow && !v.getLsbD 1 },
      hspi := portAfter p s.hspi }) ∧
  (∀ (p : Path) (v : Word) (s : State), Reaches s p 11 →
    exec (.snapGo v p) s = .next { s with
      time := { s.time with snap := if v.getLsbD 0 = true then s.clk.node else s.time.snap }, hspi := portAfter p s.hspi }) ∧
  (∀ (p : Path) (q : Nat) (v : Word) (s : State), Reaches s p 16 → q < 16 →
    ∃ t, exec (.sumClear p q v) s = .next t ∧ t = { s with quires := t.quires, hspi := portAfter p s.hspi } ∧
      (∀ i, (t.quire q).sum.testBit i = ((s.quire q).sum.testBit i && !v.getLsbD i)) ∧
      t.quire q = { s.quire q with sum := (t.quire q).sum } ∧ ∀ r, r ≠ q → t.quire r = s.quire r)

/-- The Culvert windows over each path (R506 to R509): a write of CULV_ADDR moves ADDR and discards what is held; a read of a record's
first word returns it and moves ADDR on; a write over HSPI or the window is a lock violation that changes no object and still moves ADDR
on; a core's write of a record of one word writes it, and PENDING follows in the slow domains. -/
def Obligations.CulvertAccesses : Prop :=
  (∀ (p : Path) (b : Nat) (v : Word) (s : State), Reaches s p b → 1 ≤ b → b ≤ 23 →
    ∃ t, exec (.culvAddrWrite p b v) s = .next t ∧ t = { s with hspi := t.hspi } ∧
      t.culvert b = { s.culvert b with addr := v.toNat % 2 ^ 24, hold := [], wheld := [] } ∧
      ∀ c, c ≠ b → t.culvert c = s.culvert c) ∧
  (∀ (p : Path) (b : Nat) (l : Located) (s : State), Reaches s p b → 1 ≤ b → b ≤ 23 → (p = .hspi → s.hspi.buffer = [] ∧ b ≠ 18 ∧ b ≠ 23) →
    culvLocate b (s.culvert b).addr = some l → l.idx = 0 →
    ∃ t, exec (.culvDataRead p b) s = .next t ∧ t = { s with hspi := t.hspi } ∧ t.returned p = s.recordWord l ∧
      (t.culvert b).addr = ((s.culvert b).addr + 1) % 2 ^ 24 ∧
      (t.culvert b).hold = (List.range (l.words - 1)).map (fun i => ((s.culvert b).addr + 1 + i, s.recordWord { l with idx := i + 1 }))) ∧
  (∀ (p : Path) (b : Nat) (v : Word) (l : Located) (s : State), Reaches s p b → 1 ≤ b → b ≤ 23 → p ≠ .core →
    culvLocate b (s.culvert b).addr = some l →
    ∃ t, exec (.culvDataWrite p b v) s = .next t ∧ t.raised 126 = true ∧ t.sys.lockViolation = true ∧
      (t.culvert b).addr = ((s.culvert b).addr + 1) % 2 ^ 24 ∧
      ∀ o r, o ≠ 0x400000 → o ≠ 0x400100 → t.row o r = s.row o r) ∧
  (∀ (b : Nat) (v : Word) (l : Located) (d : ObjDef) (f : Fld) (s : State), Reaches s .core b → 1 ≤ b → b ≤ 23 →
    culvLocate b (s.culvert b).addr = some l → l.idx = 0 → objDef l.obj = some d → d.flds = [f] → f.ty.size ≤ 4 →
    ∃ t, exec (.culvDataWrite .core b v) s = .next t ∧
      t = { s.setRow l.obj l.row [v.toNat % 256 ^ f.ty.size] with hspi := t.hspi, freeIdx := t.freeIdx } ∧
      (slowNs b = 0 → t.freeIdx = s.freeIdx ∧ t.culvBusy b = false) ∧ (slowNs b ≠ 0 → t.culvBusy b = true) ∧
      (t.culvert b).addr = ((s.culvert b).addr + 1) % 2 ^ 24)

/-- A 64-bit counter (R505): a read of its LO register over a path returns the low word and copies the high word into that path's shadow
and no other; a read of HI returns the shadow of the path. -/
def Obligations.CounterReads : Prop :=
  ∀ (p : Path) (b off n : Nat) (s : State), Reaches s p b → b ≤ 23 → off % 4 = 0 → s.counterAt b off = some n →
    (p = .hspi → s.hspi.buffer = []) →
    (∃ t, exec (.counterLoRead p (regAddr b off)) s = .next t ∧ t = { s with hspi := t.hspi } ∧ t.returned p = wd n ∧
      t.shadow p = wd (n / 2 ^ 32) ∧ ∀ q, q ≠ p → t.shadow q = s.shadow q) ∧
    (∃ t, exec (.counterLoRead p (regAddr b (off + 4))) s = .next t ∧ t = { s with hspi := t.hspi } ∧ t.returned p = s.shadow p ∧
      ∀ q, t.shadow q = s.shadow q)

/-- A read over HSPI (R492 to R498): a burst of one word returns a register as the core would read it; a burst while the port is busy,
or with an opcode that is none, is ignored and counted; a transaction cut short leaves the three flags 0; a misaligned one is one bus error; the status byte changes nothing. -/
def Obligations.HostReads : Prop :=
  (∀ (b off : Nat) (w : Word) (s : State), Reaches s .hspi b → b ≤ 23 → 0 < off → off < 0xFFF8 → off % 4 = 0 → s.hspi.buffer = [] →
    s.counterAt b off = none → s.counterAt b (off - 4) = none → s.readPlain b off = some w →
    ∃ t, exec (.readBurst (regAddr b off) 1) s = .next t ∧ t.hspi.readData = [w] ∧
      t = { s with hspi := { portAfter .hspi s.hspi with readData := [w] } }) ∧
  (∀ (a : Word) (n : Nat) (s : State), s.hspiOn = true → s.hspi.busy = true →
    ∀ c, c = .readBurst a n ∨ (∃ vs, c = .writeBurst a vs ∧ s.eop.hostBusy = false) ∨
      (∃ op, c = .unknownOpcode (some op) ∧ op ∉ [0xA1, 0xA2, 0xA5]) →
    ∃ t, exec c s = .next t ∧ t.hspi.ignored = true ∧ t.hspi.late = false ∧ t.hspi.busError = false ∧ t.hspi.busy = true ∧
      t.fld 0x400100 0 3 = (s.fld 0x400100 0 3 + 1) % 2 ^ 64 ∧ t.hspi.posted = s.hspi.posted) ∧
  (∀ (op : Nat) (s : State), s.hspiOn = true → op ∉ [0xA1, 0xA2, 0xA5] →
    ∃ t, exec (.unknownOpcode (some op)) s = .next t ∧ t.hspi.ignored = true ∧ t.hspi.busError = false ∧ t.hspi.buffer = [] ∧
      t.fld 0x400100 0 3 = (s.fld 0x400100 0 3 + 1) % 2 ^ 64) ∧
  (∀ s : State, s.hspiOn = true → ∃ t, exec (.unknownOpcode none) s = .next t ∧
    t = { s with hspi := { s.hspi with ignored := false, late := false, busError := false, buffer := [] } }) ∧
  (∀ (a : Word) (n : Nat) (s : State), s.hspiOn = true → s.hspi.busy = false → a.toNat % 4 ≠ 0 →
    ∃ t, exec (.readBurst a n) s = .next t ∧ t.hspi.busError = true ∧ t.hspi.ignored = false ∧ t.hspi.readData = List.replicate n 0 ∧
      t.sys.hspiFail = true ∧ t.sys.failAddr = (if s.sys.hspiFail = true then s.sys.failAddr else a) ∧
      t.fld 0x400100 0 1 = (s.fld 0x400100 0 1 + 1) % 2 ^ 64) ∧
  (∀ s : State, s.hspiPowered = true → ∃ t, exec .hspiStatus s = .next t ∧ t = { s with hspi := { s.hspi with statusOut := t.hspi.statusOut } } ∧
    (t.hspi.statusOut.testBit 7 = s.hspi.ready ∧ t.hspi.statusOut.testBit 6 = [0, 1, 2, 3].any s.irq ∧
      t.hspi.statusOut.testBit 5 = false ∧ t.hspi.statusOut.testBit 4 = s.hspi.ignored ∧ t.hspi.statusOut.testBit 3 = s.hspi.late ∧
      t.hspi.statusOut.testBit 2 = false ∧ t.hspi.statusOut.testBit 1 = s.hspi.busError ∧ t.hspi.statusOut.testBit 0 = s.hspi.busy))

/-- A write over HSPI to memory (R24, R488, R493, R495) and a late fetch (R497): a word in the General region of the Vault is stored at
once, one in the aperture is posted, keeps BUSY set and is stored when it completes; every other byte of the Vault, and of DRAM below
the shadow, stays. A
late aperture fetch brings the rest of its 64-byte line into the read buffer. -/
def Obligations.HostMemoryWrites : Prop :=
  (∀ (x : Nat) (v : Word) (s : State), s.hspiOn = true → s.hspi.busy = false → s.hspi.fetching = none → s.hspi.posted = [] →
    s.eop.hostBusy = false → s.integ.failed = none → x % 4 = 0 → 0x1780000 ≤ x → x < 0x1800000 →
    ∃ t, exec (.writeBurst (wd (0x10000000 + x)) [v]) s = .next t ∧ t.vaultGet x 4 = leBytes 4 v.toNat ∧ t.vValid x = true ∧
      (∀ a, a < x ∨ x + 4 ≤ a → t.vaultByte a = s.vaultByte a) ∧ t.hspi = portAfter .hspi s.hspi ∧ ∀ a, t.dramByte a = s.dramByte a) ∧
  (∀ (a x : Nat) (v : Word) (s : State), s.hspiOn = true → s.hspi.busy = false → s.hspi.fetching = none → s.hspi.posted = [] →
    s.eop.hostBusy = false → a % 4 = 0 → s.apertureOf a = some x →
    ∃ t, exec (.writeBurst (wd a) [v]) s = .next t ∧ t.hspi.posted = [(wd a, v)] ∧ t.hspi.busy = true ∧
      (∀ y, t.dramByte y = s.dramByte y) ∧ ∀ y, t.vaultByte y = s.vaultByte y) ∧
  (∀ (a v : Word) (x : Nat) (rest : List (Word × Word)) (s : State), s.hspi.posted = (a, v) :: rest → s.integ.failed = none → s.apertureOf a.toNat = some x →
    ∃ t, exec .postedWriteDone s = .next t ∧ t.dramGet x 4 = leBytes 4 v.toNat ∧ t.hspi.posted = rest ∧
      (rest = [] → s.hspi.fetching = none → t.hspi.busy = false) ∧ ∀ y, y < x ∨ x + 4 ≤ y → y < s.shadowBase → t.dramByte y = s.dramByte y) ∧
  (∀ (a : Word) (x : Nat) (s : State), s.hspi.fetching = some a → s.apertureOf a.toNat = some x →
    ∃ t, exec .lateFetchDone s = .next t ∧ t.hspi.fetching = none ∧ t.hspi.busy = !s.hspi.posted.isEmpty ∧
      t.hspi.buffer = (List.range ((64 - a.toNat % 64) / 4)).map (fun i => (wd (a.toNat + 4 * i), (s.readDramWord (x + 4 * i)).1)) ∧
      (∀ y, t.dramByte y = s.dramByte y))

/-- EOP sessions (R459, R462 to R465, R478): a HELLO opens the lowest slot that is free for its sender, an idle session closes at the end
of its window, and the events of a session's millisecond leave in one EVENT message. -/
def Obligations.SessionCommands : Prop :=
  (∀ (m : EopMsg) (i : Nat) (u s : State), Passes5 s 0x30 m u → m.payload.length = 8 → m.session = 0xFFFF → m.flags.testBit 4 = false →
    (isSealed m = true ∨ u.val 0x110002 ≠ 0) → i < 64 → (u.session i).open_ = false → (∀ j, j < i → u.sessionLive j = true) →
    ∃ t, exec (.hello m) s = .next t ∧ t.eop.lastAnswer = { op := 0x30, status := stOk, handle := 0, data := [] } ∧
      (t.session i).open_ = true ∧ (t.session i).slot = msgKind m ∧ (t.session i).gen = ((u.session i).gen + 1) % 1023 ∧
      (t.session i).ip = m.srcIp ∧ (t.session i).udp = m.srcUdp ∧ (t.session i).mac = m.srcMac ∧ (t.session i).port = m.port ∧
      (t.session i).last = u.now ∧ (t.session i).mask = 0 ∧ (t.session i).answers = []) ∧
  (∀ (m : EopMsg) (u s : State), Passes5 s 0x30 m u → m.payload.length = 8 → m.session = 0xFFFF → m.flags.testBit 4 = false →
    (isSealed m = true ∨ u.val 0x110002 ≠ 0) → (∀ j, j < 64 → u.sessionLive j = true) →
    ∃ t, exec (.hello m) s = .next t ∧ t.eop.lastAnswer = { op := 0x30, status := stResource, handle := 0, data := [] } ∧
      ∀ j, (t.session j).open_ = (u.session j).open_) ∧
  (∀ (i : Nat) (s : State), i < 64 → (s.session i).open_ = true → s.timeRuns = true → ∃ t, exec (.sessionIdleTimeout i) s = .next t ∧
    t.session i = { Session.closed with gen := (s.session i).gen } ∧ (∀ j, j ≠ i → (t.session j).open_ = (s.session j).open_ ∧ (t.session j).answers = (s.session j).answers) ∧
    (s.session i).last + s.val 0x110003 * 1000000000 ≤ t.now ∧ t.fld oEopCnt 0 9 = (s.fld oEopCnt 0 9 + 1) % 2 ^ 64) ∧
  (∀ (i : Nat) (s : State), i < 64 → s.timeRuns = true → (s.session i).evBits ≠ 0 →
    (s.advanceTo (((s.session i).evAt / 1000000 + 1) * 1000000)).sessionLive i = true →
    ∃ t, exec (.eventSend i) s = .next t ∧ ((s.session i).evAt / 1000000 + 1) * 1000000 ≤ t.now ∧
      (t.session i).evSeq = ((s.session i).evSeq + 1) % 2 ^ 32 ∧ t.fld oEopCnt 0 10 = (s.fld oEopCnt 0 10 + 1) % 2 ^ 64 ∧
      ∀ e, e < 116 → (t.session i).evBits.testBit e = false)

/-- The seven operations of a session (R422, R431, R441, R447, R455 to R461), open or sealed: what each answers. The answer is kept for a
repeat of the request, which executes nothing. The answer itself leaves as a REPLY task of the device, in slots 0 to 63 (log entry 71). -/
def Obligations.SessionOperations : Prop :=
  (∀ (m : EopMsg) (i : Nat) (d : ObjDef) (u s : State), OnSession s 0x01 m i u → storedAnswer (u.session i).answers m.id = none →
    u.full = true → m.payload.length = 4 → pNat m.payload 0 2 < 0xA000 → m.flags.testBit 2 = false →
    objDef (pNat m.payload 0 2 * 256 + pNat m.payload 2 1) = some d → d.isTable = false →
    readBarred (msgWho m i) d (pNat m.payload 0 2 * 256 + pNat m.payload 2 1) = false → pNat m.payload 0 2 ≠ 0x1120 →
    ∃ t, exec (.read m) s = .next t ∧ Replies t i m.id
      { op := 0x01, status := stOk, handle := 0, data := u.readBytes d (pNat m.payload 0 2 * 256 + pNat m.payload 2 1) 0 }) ∧
  (∀ (m : EopMsg) (i n : Nat) (u s : State), OnSession s 0x02 m i u → storedAnswer (u.session i).answers m.id = none → u.full = true →
    5 ≤ n → n ≤ 3600 → pNat m.payload 0 2 = 0x1100 → pNat m.payload 2 1 = 3 → m.payload.drop 4 = beBytes 2 n →
    ∃ t, exec (.write m) s = .next t ∧ Replies t i m.id { op := 0x02, status := stOk, handle := 0, data := [] } ∧
      t.val 0x110003 = n ∧ 0x110003 ∈ t.eop.dirty ∧ t.eop.saveDue.isSome = true) ∧
  (∀ (m : EopMsg) (i : Nat) (d : ObjDef) (u s : State), OnSession s 0x03 m i u → storedAnswer (u.session i).answers m.id = none →
    u.full = true → m.payload.length = 12 → pNat m.payload 0 2 < 0xA000 → objDef (pNat m.payload 0 2 * 256) = some d → d.isTable = true →
    readBarred (msgWho m i) d (pNat m.payload 0 2 * 256) = false → pNat m.payload 8 2 = 1 →
    pNat m.payload 4 4 < u.tableRows d (pNat m.payload 0 2 * 256) → rowBytes d.flds ≤ 1384 →
    ∃ t, exec (.readRow m) s = .next t ∧ Replies t i m.id
      { op := 0x03, status := stOk, handle := 0,
        data := beBytes 4 (pNat m.payload 4 4) ++ beBytes 2 1 ++ beBytes 2 (rowBytes d.flds) ++
          u.readBytes d (pNat m.payload 0 2 * 256) (pNat m.payload 4 4) }) ∧
  (∀ (m : EopMsg) (i : Nat) (d : ObjDef) (r : WRes) (u s : State), OnSession s 0x04 m i u →
    storedAnswer (u.session i).answers m.id = none → u.full = true → pNat m.payload 0 2 < 0xA000 →
    objDef (pNat m.payload 0 2 * 256) = some d → d.isTable = true → pNat m.payload 8 2 = 1 → m.payload.length = 12 + rowBytes d.flds →
    r = writeObj (msgWho m i) (pNat m.payload 0 2 * 256) (pNat m.payload 4 4) (fun e => rowOf e (m.payload.drop 12)) u →
    ∃ t, exec (.writeRow m) s = .next t ∧ Replies t i m.id
      { op := 0x04, status := r.status, handle := r.handle, data := beBytes 2 (if accepted r.status = true then 1 else 0) }) ∧
  (∀ (m : EopMsg) (i : Nat) (g : Nat × Nat × List Byte × State) (u s : State), storedAnswer (u.session i).answers m.id = none →
    u.full = true →
    (OnSession s 0x06 m i u → g = (u.taskPut 48 0 m.payload).submitGraph (msgWho m i) m.payload → ∃ t, exec (.submit m) s = .next t ∧
      Replies t i m.id { op := 0x06, status := g.1, handle := g.2.1, data := g.2.2.1 } ∧
      t.weir.cq = g.2.2.2.weir.cq ∧ ∀ k, 64 ≤ k → t.task k = g.2.2.2.task k) ∧
    (OnSession s 0x05 m i u → 4 ≤ m.payload.length → pNat m.payload 0 2 = 0x3001 → pNat m.payload 2 1 = 0 →
      g = (u.taskPut 48 0 (m.payload.drop 4)).submitGraph (msgWho m i) (m.payload.drop 4) → ∃ t, exec (.exec m) s = .next t ∧
        Replies t i m.id { op := 0x05, status := g.1, handle := g.2.1, data := g.2.2.1 } ∧
        t.weir.cq = g.2.2.2.weir.cq ∧ ∀ k, 64 ≤ k → t.task k = g.2.2.2.task k)) ∧
  (∀ (m : EopMsg) (i : Nat) (u s : State), OnSession s 0x07 m i u → storedAnswer (u.session i).answers m.id = none → u.full = true →
    m.payload = [] → ∃ t, exec (.cancel m) s = .next t ∧
      Replies t i m.id { op := 0x07, status := (u.cancelTask (msgWho m i) m.id).1, handle := 0, data := [] } ∧
      (u.handleLive m.id = true → 64 ≤ m.id % 1024 → u.mayCancel (msgWho m i) (u.task (m.id % 1024)) = true →
        (u.task (m.id % 1024)).state ≠ 3 → (u.cancelTask (msgWho m i) m.id).1 = stOk ∧ Completed t m.id stCancelled)) ∧
  (∀ (op : Nat) (m : EopMsg) (i : Nat) (a : Answer) (c : Instr) (u s : State),
    (op, c) ∈ [(0x01, Instr.read m), (0x02, .write m), (0x03, .readRow m), (0x04, .writeRow m), (0x05, .exec m), (0x06, .submit m),
      (0x07, .cancel m)] → OnSession s op m i u → storedAnswer (u.session i).answers m.id = some a →
    ∃ t, exec c s = .next t ∧ t.eop.lastAnswer = a ∧ (t.session i).answers = (u.session i).answers ∧
      t.fld oEopCnt 0 6 = (u.fld oEopCnt 0 6 + 1) % 2 ^ 64 ∧ t.flash = u.flash ∧
      (op ≠ 0x02 → op ≠ 0x07 → ∀ k, 64 ≤ k → t.task k = u.task k))

/-- Messages that R454 stops: a malformed one is dropped and counted, whatever its op, and one sealed with a wrong tag raises event 124
and leaves its sender's address; no answer beyond AUTH_FAIL, and nothing is executed. -/
def Obligations.MessagesRefused : Prop :=
  (∀ (op : Nat) (m : EopMsg) (c : Instr) (s : State),
    (op, c) ∈ [(0x01, Instr.read m), (0x02, .write m), (0x03, .readRow m), (0x04, .writeRow m), (0x05, .exec m), (0x06, .submit m),
      (0x07, .cancel m), (0x30, .hello m), (0x20, .heartbeat m), (0x21, .imageBlock m)] →
    s.eopHears m = true → eopMalformed op m = true → s.eop.hostBusy = false →
    ∃ t, exec c s = .next t ∧ t.fld oEopCnt 0 1 = (s.fld oEopCnt 0 1 + 1) % 2 ^ 64 ∧ t.fld oEopCnt 0 0 = s.fld oEopCnt 0 0 ∧
      t.eop.lastAnswer = s.eop.lastAnswer ∧ t.flash = s.flash ∧ (op ≠ 0x02 → op ≠ 0x07 → t.weir = s.weir)) ∧
  (∀ (op : Nat) (m : EopMsg) (c : Instr) (s : State),
    (op, c) ∈ [(0x01, Instr.read m), (0x02, .write m), (0x03, .readRow m), (0x04, .writeRow m), (0x05, .exec m), (0x06, .submit m),
      (0x07, .cancel m)] →
    s.eopHears m = true → eopMalformed op m = false → s.eop.hostBusy = false → isSealed m = true → s.hasKey m.keySlot = true →
    eopTag (s.slotKey m.keySlot) (msgHeader m op) m.payload ≠ m.tag →
    ∃ t, exec c s = .next t ∧ t.raised 124 = true ∧ t.fld oEopCnt 0 2 = (s.fld oEopCnt 0 2 + 1) % 2 ^ 64 ∧
      t.fld oEopCnt 0 14 = m.srcIp ∧ t.fld oEopCnt 0 15 = m.srcUdp ∧ t.eop.rxHigh = s.eop.rxHigh ∧ t.flash = s.flash ∧
      (op ≠ 0x02 → op ≠ 0x07 → ∀ k, 64 ≤ k → t.task k = s.task k) ∧
      (t.eop.lastAnswer = s.eop.lastAnswer ∨ t.eop.lastAnswer = { op := op, status := stAuthFail, handle := 0, data := [] }))

/-- Keys, checkpoints, settings, the event mask and the host mailbox (R449, R450, R470, R472, R473, R477, R481, R482). -/
def Obligations.KeyAndSettingsCommands : Prop :=
  (∀ (k : Nat) (key : List Byte) (c : Nat) (s : State), s.hspiPowered = true → s.full = true → 1 ≤ k → k < 8 → key.length = 32 →
    (s.flash.otpKey ≠ [] → ∃ t, exec (.key k (0#8 :: key) c true) s = .next t ∧ Answers t stOk 0 ∧
      t.keySlot k = { key := xorBytes key (hmacSha256 s.flash.otpKey (uidBytes ++ beBytes 1 k ++ beBytes 8 c)), rxK := 0, txK := 0 } ∧
      (∀ j, j ≠ k → t.keySlot j = s.keySlot j) ∧ tget 0 t.eop.rxHigh k = 0 ∧ tget 0 t.eop.txCount k = 0) ∧
    (s.flash.otpKey ≠ [] → ∃ t, exec (.key k (1#8 :: key) c true) s = .next t ∧ Answers t stOk 0 ∧ t.keySlot k = KeySlot.empty) ∧
    (∀ by0, by0 = false ∨ s.flash.otpKey = [] → ∃ t, exec (.key k (0#8 :: key) c by0) s = .next t ∧ Answers t stAccess 0 ∧
      t.flash = s.flash)) ∧
  (∀ (key : List Byte) (o : Origin) (x : Row) (s : State), Passes s o 0x111100 0 (fun d => rowOf d key) x →
    ∃ t, exec (.provisionKey key o) s = .next t ∧
      (s.flash.otpKey = [] → Answers t stOk 0 ∧ t.flash = { s.flash with otpKey := key }) ∧
      (s.flash.otpKey ≠ [] → Answers t stLocked 0 ∧ t.flash = s.flash)) ∧
  (∀ (slot v : Nat) (s : State), tget 0 s.eop.txStore slot = v → v ≠ 0 → ∃ t, exec (.checkpointStore slot true) s = .next t ∧
    t.keySlot slot = { s.keySlot slot with txK := v } ∧ tget 0 t.eop.txStore slot = 0 ∧ ∀ h, h ∈ t.eop.held → h.slot ≠ slot) ∧
  (∀ (slot v : Nat) (s : State), tget 0 s.eop.rxStore slot = v → v ≠ 0 → ∃ t, exec (.checkpointStore slot false) s = .next t ∧
    t.keySlot slot = { s.keySlot slot with rxK := v } ∧ tget 0 t.eop.rxStore slot = 0) ∧
  (∀ (n : Nat) (s : State), s.eop.saveDue = some n → s.timeRuns = true → ∃ t, exec (.settingsSave true) s = .next t ∧
    t.eop.saveDue = none ∧ t.eop.dirty = [] ∧ (s.holdSettings = true → t.flash = s.flash ∧ t.update.heldSettings = true) ∧
    (s.holdSettings = false → t.val 0x100203 = s.nowPt ∧ ∃ c, t.flash = s.flash.store c ∧ c.valid = true ∧ c.format = s.settingsFormat ∧
      c.vals = s.saveVals ∧ c.seq = (match s.flash.newest with
        | some e => (e.seq + 1) % 2 ^ 32
        | none => 1))) ∧
  (∀ (n : Nat) (s : State), s.eop.saveDue = some n → s.timeRuns = true → ∃ t, exec (.settingsSave false) s = .next t ∧
    t.raised 6 = true ∧ t.flash = s.flash ∧ t.eop.saveDue = none ∧ t.eop.dirty = s.eop.dirty) ∧
  (∀ (v : Nat) (o : Origin) (x : Row) (s : State), Passes s o 0x500100 0 (fun d => numRow d v) x →
    ∃ t, exec (.settingsDefault v o) s = .next t ∧ Answers t stOk 0 ∧
      (v = 1 → t.raised 6 = true ∧ t.val 0x100202 = 3 ∧ t.eop.saveDue.isSome = true ∧ t.val 0x110003 = 60) ∧
      (v = 0 → t.val 0x100202 = s.val 0x100202 ∧ t.val 0x110003 = s.val 0x110003)) ∧
  (∀ (mask : List Byte) (i : Nat) (o : Origin) (x : Row) (s : State), (o = .openSession i ∨ o = .sealedSession i) →
    Passes s o 0x112000 0 (fun d => rowOf d mask) x → ∃ t, exec (.eventSubscribe mask o) s = .next t ∧ Answers t stOk 0 ∧
      (t.session i).mask = x.headD 0) ∧
  (∀ (v : Word) (s : State), Reaches s .hspi 21 → s.eop.hostBusy = false →
    (v.getLsbD 0 = false → exec (.hostDoorbellGo v) s = .next (State.cancelsDone { s with hspi := portAfter .hspi s.hspi })) ∧
    (v.getLsbD 0 = true → ∃ t, exec (.hostDoorbellGo v) s = .next t ∧ t.eop.hostBusy = false ∧ t.eop.hostDone = true ∧
      ∃ flags, t.eop.hostRsp = eopHeader 0x10 (flResponse + flags) (pNat (mgets s.eop.hostReq 0 24) 6 2)
        (pNat (mgets s.eop.hostReq 0 24) 8 4) 0 (ackPayload t.eop.lastAnswer).length 0xFF ++ ackPayload t.eop.lastAnswer))

/-- A received frame (R565, R595 to R602, R611 to R613, R621): a frame under 64 bytes or one that fails a later check of R596 is counted
in its column, unless the pool ended it before (R597); on a trunk one that the address filter turns away is counted and goes nowhere, and one of a flow whose queue has room is
stored whole, but an EOP packet that is no request is freed and counted (R454); on a chain port one for another node goes into the other port's queue and is counted as RELAYED on the port it came in at
(the model's choice of row, log entry 59). -/
def Obligations.FrameReception : Prop :=
  (∀ (p : Nat) (f : EthFrame) (s : State), p < 4 → s.timeRuns = true → s.portState p = 1 → s.linkUp p = true → f.bytes.length < 60 →
    ∃ t, exec (.frameReceive p f) s = .next t ∧ t.fld oPortCnt p 5 = (s.fld oPortCnt p 5 + 1) % 2 ^ 64 ∧ t.net.queues = s.net.queues ∧
      t.fld oPortCnt p 0 = s.fld oPortCnt p 0) ∧
  (∀ (p c : Nat) (f : EthFrame) (h : Head16) (u s : State), u = s.advanceTo f.at_ → h = readHead f.bytes (s.fld oPort p 6) → p < 4 →
    s.timeRuns = true → s.portState p = 1 → s.linkUp p = true → s.rxFault p f h.tagged = some c → c ≠ 5 →
    ∃ t, exec (.frameReceive p f) s = .next t ∧ t.fld oPortCnt p 0 = s.fld oPortCnt p 0 ∧
      ((u.rxBad p h (u.storedPart p c f h.tagged)).1 = true → t.fld oPortCnt p c = (s.fld oPortCnt p c + 1) % 2 ^ 64) ∧
      ((u.rxBad p h (u.storedPart p c f h.tagged)).1 = false → t.fld oPortCnt p c = s.fld oPortCnt p c)) ∧
  (∀ (p : Nat) (f : EthFrame) (h : Head16) (u s : State), u = s.advanceTo f.at_ → h = readHead f.bytes (s.fld oPort p 6) → p < 2 →
    s.full = true → s.timeRuns = true → s.portState p = 1 → s.linkUp p = true → s.rxFault p f h.tagged = none → h.unsupported = false →
    (u.passes p h.dst = false → (isPtp h && ptpPeer h.dst) = false → ∃ t, exec (.frameReceive p f) s = .next t ∧
      t.fld oPortCnt p 9 = (s.fld oPortCnt p 9 + 1) % 2 ^ 64 ∧ t.net.queues = s.net.queues) ∧
    (∀ r, u.passes p h.dst = true → h.dst ≠ probeMac → u.classify p h = .flow r →
      u.grant (u.flowQueue r p) (cdiv f.bytes.length 256) = cdiv f.bytes.length 256 →
      ∃ t place, exec (.frameReceive p f) s = .next t ∧ place.length = cdiv f.bytes.length 256 ∧
        (((r ≠ 0 ∧ r ≠ 1 ∧ r ≠ 5) ∨ noRequest (udpPayload h.body) = false) → t.queue (u.flowQueue r p) = s.queue (u.flowQueue r p) ++
          [Packet.mk (cdiv f.bytes.length 256) place f.bytes none r f.at_ false]) ∧
        ((r = 0 ∨ r = 1 ∨ r = 5) → noRequest (udpPayload h.body) = true → t.queue (u.flowQueue r p) = s.queue (u.flowQueue r p) ∧
          t.fld oEopCnt 0 1 = (s.fld oEopCnt 0 1 + 1) % 2 ^ 64) ∧
        t.fld oPortCnt p 0 = (s.fld oPortCnt p 0 + 1) % 2 ^ 64)) ∧
  (∀ (p : Nat) (f : EthFrame) (h : Head16) (u s : State), u = s.advanceTo f.at_ → h = readHead f.bytes (s.fld oPort p 6) →
    (p = 2 ∨ p = 3) → s.timeRuns = true → s.portState p = 1 → s.linkUp p = true → s.portState (otherChain p) = 1 →
    s.rxFault p f h.tagged = none → h.unsupported = false → u.chainRoute p h = (false, true, none) →
    u.grant (8 * otherChain p + u.relayQueue p h) (cdiv (max 60 f.bytes.length) 256) = cdiv (max 60 f.bytes.length) 256 →
    ∃ t k, exec (.frameReceive p f) s = .next t ∧
      t.queue (8 * otherChain p + u.relayQueue p h) = s.queue (8 * otherChain p + u.relayQueue p h) ++ [k] ∧
      k.tx.map TxFrame.bytes = some f.bytes ∧ k.aborted = false ∧
      t.fld oPortCnt p 20 = (s.fld oPortCnt p 20 + 1) % 2 ^ 64)

/-- What a port sends at a frame boundary (R573, R605, R607, R609, R610): a pause frame that waits, before anything else; the oldest
frame of its highest queue, unless its partner's pause window runs; a frame that ends with ABORT leaves up to its last cell, with a wrong FCS. -/
def Obligations.FrameTransmission : Prop :=
  (∀ (p q : Nat) (qs : List Nat) (s : State), p < 4 → s.portState p ≠ 0 → (p < 2 → s.linkUp p = true) → (s.port p).pauseTx = q :: qs →
    ∃ t, exec (.frameTransmit p) s = .next t ∧ (t.port p).pauseTx = qs ∧ (t.port p).wire = some (s.now, pauseTxFrame q) ∧
      t.fld oPortCnt p 16 = (s.fld oPortCnt p 16 + 1) % 2 ^ 64 ∧ t.net.queues = s.net.queues) ∧
  (∀ (p q : Nat) (k : Packet) (ks : List Packet) (f : TxFrame) (s : State), p < 4 → s.portState p ≠ 0 → (p < 2 → s.linkUp p = true) →
    (s.port p).pauseTx = [] → s.pausedNow p = false → s.nextTx p = some q → s.queue q = k :: ks → k.tx = some f →
    ∃ t, exec (.frameTransmit p) s = .next t ∧ t.queue q = ks ∧
      (k.aborted = false → (t.port p).wire = some (s.now, f) ∧ t.fld oPortCnt p 14 = (s.fld oPortCnt p 14 + 1) % 2 ^ 64) ∧
      (k.aborted = true → (t.port p).wire = some (s.now, f.cut (256 * k.cells)) ∧
        t.fld oPortCnt p 17 = (s.fld oPortCnt p 17 + 1) % 2 ^ 64)) ∧
  (∀ (p : Nat) (s : State), (s.port p).pauseTx = [] → s.pausedNow p = true → exec (.frameTransmit p) s = .next s)

/-- A port's enable, drain and link (R589 to R593, R620). Over EOP a port turns once no answer of its own waits (R594). -/
def Obligations.PortCommands : Prop :=
  (∀ (p v : Nat) (o : Origin) (x : Row) (s : State), Passes s o 0x141100 p (fun d => numRow d v) x →
    ((∀ h ∈ s.eop.held, h.port ≠ p) ∨ overEop o = false) →
    ∃ t, exec (.portEnable p v o) s = .next t ∧ Answers t stOk 0 ∧ t.fld oPortEnable p 0 = v ∧
      (v = 1 → s.portState p = 0 → t.portState p = 1 ∧ t.raised (116 + p) = true ∧ (t.port p).maxFrame = s.fld oPort p 3) ∧
      (v = 0 → s.portState p = 1 → t.portState p = 2 ∧ t.raised (116 + p) = true ∧ (t.port p).drainAt = s.now) ∧
      (s.portState p = 2 → t.portState p = 2 ∧ (t.port p).latched = decide (v = 1))) ∧
  (∀ (p : Nat) (s : State), p < 4 → s.portState p = 2 → ∃ t, exec (.portDrainDone p) s = .next t ∧
    ((s.port p).latched = false → t.portState p = 0 ∧ t.linkUp p = false) ∧ ((s.port p).latched = true → t.portState p = 1) ∧
    t.raised (116 + p) = true ∧ (∀ k, k < 8 → t.queue (8 * p + k) = []) ∧
    (s.txEmpty p = false → (s.port p).drainAt + 10000000 ≤ t.now)) ∧
  (∀ (p speed : Nat) (up : Bool) (s : State), p < 4 → s.timeRuns = true → s.portState p ≠ 0 → s.linkUp p ≠ up →
    (p < 2 ∨ (s.port p).mode ≠ 1 ∨ up = false ∨ (speed ≠ 10 ∧ speed ≠ 100)) →
    ∃ t, exec (.linkChange p up speed) s = .next t ∧ t.linkUp p = up ∧ t.raised (116 + p) = true ∧ t.fld oPortState p 4 = s.nowPt ∧
      t.fld oPortCnt p 23 = (s.fld oPortCnt p 23 + 1) % 2 ^ 64) ∧
  (∀ (p speed : Nat) (s : State), (p = 2 ∨ p = 3) → s.timeRuns = true → s.portState p ≠ 0 → (s.port p).mode = 1 →
    (speed = 10 ∨ speed = 100) → ∃ t, exec (.linkChange p true speed) s = .next t ∧ t.linkUp p = false ∧
      t.fld oPortCnt p 13 = (s.fld oPortCnt p 13 + 1) % 2 ^ 64)

/-- Pause frames received and sent, ARP, and the ring owner's probes (R603, R608 to R610, R615, R616). -/
def Obligations.PauseArpAndRing : Prop :=
  (∀ (p at_ n : Nat) (s : State), p < 2 → s.berm = true → s.portState p = 1 → ∃ t, exec (.pauseFrame p at_ n) s = .next t ∧
    t.fld oPortCnt p 9 = (s.fld oPortCnt p 9 + 1) % 2 ^ 64 ∧ t.port p = s.port p) ∧
  (∀ (p at_ n : Nat) (s : State), p < 4 → s.timeRuns = true → (s.berm = true → 2 ≤ p) → s.portState p = 1 → n < 65536 →
    ∃ t, exec (.pauseFrame p at_ n) s = .next t ∧ t.fld oPortCnt p 12 = (s.fld oPortCnt p 12 + 1) % 2 ^ 64 ∧
      (s.fld oPort p 7 = 0 → t.port p = s.port p) ∧
      (s.fld oPort p 7 ≠ 0 → (t.port p).paused = decide (0 < n) ∧
        (t.port p).pausedUntil = (s.advanceTo at_).now + s.bitTimes p (n * 512) ∧ t.fld oPortState p 2 = b2n (decide (0 < n)))) ∧
  (∀ (p : Nat) (s : State), p < 4 → (s.port p).paused = true → ∃ t, exec (.pauseWindowEnd p) s = .next t ∧
    (t.port p).paused = false ∧ t.fld oPortState p 2 = 0 ∧ (s.port p).pausedUntil ≤ t.now) ∧
  (∀ (p : Nat) (s : State), p < 4 → s.fld oPortState p 3 ≠ 0 → s.sharedFree < s.fld oPort p 10 →
    ∃ t, exec (.pauseRepeat p) s = .next t ∧ (t.port p).pauseTx = (s.port p).pauseTx ++ [s.fld oPort p 11] ∧
      (t.port p).pauseAgain = t.now ∧ (s.port p).pauseAgain + s.bitTimes p (s.fld oPort p 11 * 256) ≤ t.now) ∧
  (∀ (p target mac ip vid : Nat) (s : State), p < 4 → s.timeRuns = true → s.portState p = 1 →
    ((s.eopPorts.testBit p = false ∨ target ≠ s.val 0x110101) → exec (.arpRequest p target mac ip vid) s = .next s) ∧
    (s.eopPorts.testBit p = true → target = s.val 0x110101 → (p < 2 → s.linkUp p = true) → s.grant (8 * p + 6) 1 = 1 →
      ∃ t k, exec (.arpRequest p target mac ip vid) s = .next t ∧ t.queue (8 * p + 6) = s.queue (8 * p + 6) ++ [k] ∧
        k.tx = some {
          kind := .arp, dstMac := mac, dstIp := 0, dstUdp := 0, vid := vid, pcp := s.ctlPcp p, bytes := arpBytes p 2 target mac ip })) ∧
  (∀ s : State, s.full = true → s.ringOwner = true → s.portState 2 = 1 → s.grant 22 1 = 1 →
    ∃ t k f, exec .ringProbeSend s = .next t ∧ t.queue 22 = s.queue 22 ++ [k] ∧ k.tx = some f ∧ f.kind = .ringProbe ∧
      f.dstMac = probeMac ∧ f.bytes = beBytes 1 s.nodeId ++ beBytes 2 s.net.ring.seq ++ List.replicate 43 0#8 ∧
      t.net.ring.seq = (s.net.ring.seq + 1) % 65536 ∧ s.net.ring.nextSend ≤ t.now ∧ t.net.ring.nextSend = t.now + 10000000) ∧
  (∀ (at_ node n first : Nat) (s : State), s.full = true → s.ringOwner = true → s.portState 3 = 1 → n = (s.advanceTo at_).now →
    (node = s.nodeId → s.net.ring.last = none → s.net.ring.firstRun = none → ∃ t, exec (.ringProbe at_ node) s = .next t ∧
      t.net.ring.last = some n ∧ t.net.ring.firstRun = some n ∧ t.fld oRingStatus 0 0 = s.fld oRingStatus 0 0) ∧
    (∀ l, node = s.nodeId → s.net.ring.last = some l → n < l + 30000000 → s.net.ring.firstRun = some first →
      ∃ t, exec (.ringProbe at_ node) s = .next t ∧ t.net.ring.last = some n ∧ t.net.ring.firstRun = some first ∧
        t.fld oRingStatus 0 0 = (if first + 1000000000 ≤ n then 1 else s.fld oRingStatus 0 0)) ∧
    (node ≠ s.nodeId → ∃ t, exec (.ringProbe at_ node) s = .next t ∧ t.net.ring = s.net.ring ∧
      t.fld oPortCnt 3 9 = (s.fld oPortCnt 3 9 + 1) % 2 ^ 64)) ∧
  (∀ (l : Nat) (s : State), s.net.ring.last = some l → ∃ t, exec .ringProbeTimeout s = .next t ∧ t.net.ring.last = none ∧
    t.net.ring.firstRun = none ∧ t.fld oRingStatus 0 0 = 0 ∧ l + 30000000 ≤ t.now)

/-- Flow rows and fences (R89 to R97, R132): an enable that passes, or is refused with its reason held; a disable; a drain's end; a write
of a fence. -/
def Obligations.FlowCommands : Prop :=
  (∀ (r v : Nat) (o : Origin) (x : Row) (s : State), Passes s o 0x140100 r (fun d => numRow d v) x →
    ∃ t, exec (.flowEnable r v o) s = .next t ∧
      (s.flowState r = 0 → v = 1 → s.flowReason r = 0 → Answers t stOk 0 ∧ t.flowState r = 1 ∧
        t.seeking r = (fwType (s.flowRow r) == 1) ∧ t.raised 67 = true ∧ t.row oFlowCnt r = dfltRow oFlowCnt r ∧
        t.fld oFlowEnable r 0 = 1 ∧ (fwType (s.flowRow r) = 1 → t.producer (s.ringFence (s.flowRing r)) = 1)) ∧
      (s.flowState r = 0 → v = 1 → s.flowReason r ≠ 0 → Answers t (reasonStatus (s.flowReason r)) 0 ∧ t.flowState r = 0 ∧
        t.fld oFlowReason r 0 = s.flowReason r ∧ t.raised 67 = true ∧ t.fld oFlowEnable r 0 = s.fld oFlowEnable r 0) ∧
      (s.flowState r = 1 → v = 0 → fwType (s.flowRow r) = 1 → (s.flow r).frame = none → (s.flow r).latched = false →
        Answers t stOk 0 ∧ t.flowState r = 0 ∧ t.raised 67 = true ∧ t.producer (s.ringFence (s.flowRing r)) = 0) ∧
      (s.flowState r = 1 → v = 0 → (fwType (s.flowRow r) ≠ 1 ∨ (s.flow r).frame ≠ none) →
        Answers t stOk 0 ∧ t.flowState r = 2 ∧ t.raised 67 = true) ∧
      (s.flowState r = 2 → Answers t stOk 0 ∧ t.flowState r = 2 ∧ (t.flow r).latched = decide (v = 1))) ∧
  (∀ (r : Nat) (s : State), 8 ≤ r → s.flowState r = 2 → s.flowDrained r = true → (s.flow r).latched = false →
    ∃ t, exec (.flowDrainDone r) s = .next t ∧ t.flowState r = 0 ∧ t.raised 67 = true ∧ (t.flow r).frame = none ∧
      (fwType (s.flowRow r) = 1 → t.producer (s.ringFence (s.flowRing r)) = 0)) ∧
  (∀ (f v : Nat) (o : Origin) (x : Row) (s : State), Passes s o 0x201000 f (fun d => numRow d v) x →
    ∃ t, exec (.fence f v o) s = .next t ∧ Answers t (fenceCheck s f v) 0 ∧
      (fenceCheck s f v = stOk → t.fence f = v) ∧ (fenceCheck s f v ≠ stOk → t.fence f = s.fence f))

/-- A VIDEO flow's packets (R105, R108, R113 to R118): a frame opens at its first packet, whose pixels go into the entry's Folio and
nowhere else; the packet that completes a frame closes it; a malformed packet is counted; a marker ends SEEKING; an arrival window
closes the frame; and the fence of a complete frame advances. -/
def Obligations.VideoCommands : Prop :=
  (∀ (r k : Nat) (p : VideoPacket) (d : Srd) (v x : Row) (base : Nat) (s : State), s.full = true → 8 ≤ r → s.flowState r = 1 →
    fwType (s.flowRow r) = 1 → s.seeking r = false → v = s.row oVideo (fwIndex (s.flowRow r)) → videoMalformed v p = false →
    p.aborted = false → s.flowAborted r = false → p.marker = false → p.srds = [d] → (s.flow r).frame = none →
    (∀ c, (s.flow r).closedTs = some c → reached p.timestamp c = true ∧ p.timestamp ≠ c) →
    s.selectEntry (s.flowRing r) = some k → x = s.row oFolio (s.ringFolio (s.flowRing r) k) →
    base = x.getD 0 0 + d.line * x.getD 1 0 + d.offset * 4 → base + 4 * srdPixels (v.getD 2 0) d ≤ s.shadowBase →
    ∃ t, exec (.videoPacket r p) s = .next t ∧
      (t.flow r).frame = some (VFrame.mk p.timestamp p.at_ p.at_ [p.seq] none (some k) (srdPixels (v.getD 2 0) d)) ∧
      t.row oHistory (4 * s.flowRing r + k) = [0, 0, 0, 0, 0] ∧ t.fld oFlowCnt r 0 = (s.fld oFlowCnt r 0 + 1) % 2 ^ 64 ∧
      t.dramGet base (4 * srdPixels (v.getD 2 0) d) =
        ((chunk (groupOctets (v.getD 2 0)) (d.length / groupOctets (v.getD 2 0)) (p.data.take d.length)).flatMap
          (groupWords v)).flatMap (leBytes 4) ∧
      ∀ a, a < s.shadowBase → (a < base ∨ base + 4 * srdPixels (v.getD 2 0) d ≤ a) → t.dramByte a = s.dramByte a) ∧
  (∀ (r k : Nat) (p : VideoPacket) (f g : VFrame) (v : Row) (s : State), s.full = true → 8 ≤ r → s.flowState r = 1 →
    fwType (s.flowRow r) = 1 → s.seeking r = false → v = s.row oVideo (fwIndex (s.flowRow r)) → videoMalformed v p = false →
    p.aborted = false → s.flowAborted r = false → (s.flow r).frame = some f → f.ts = p.timestamp → p.seq ∉ f.seqs → f.entry = some k → p.at_ < s.windowEnd r f →
    g = { f with lastAt := p.at_, seqs := p.seq :: f.seqs, marker := if p.marker = true then some p.seq else f.marker,
                 pixels := f.pixels + (p.srds.map (srdPixels (v.getD 2 0))).sum } →
    g.complete (s.flow r).nextSeq v = true →
    ∃ t, exec (.videoPacket r p) s = .next t ∧ (t.flow r).frame = none ∧ (t.flow r).closedTs = some f.ts ∧
      (t.flow r).advances = (s.flow r).advances ++ [s.ringFence (s.flowRing r)] ∧
      t.row oHistory (4 * s.flowRing r + k) = [1, (s.fence (s.ringFence (s.flowRing r)) + (s.flow r).advances.length + 1) % 2 ^ 32, f.ts,
        nsPt f.firstAt, nsPt p.at_] ∧
      t.fld oFlowCnt r 6 = (s.fld oFlowCnt r 6 + 1) % 2 ^ 64 ∧ t.fence (s.ringFence (s.flowRing r)) = s.fence (s.ringFence (s.flowRing r))) ∧
  (∀ (r : Nat) (p : VideoPacket) (v : Row) (s : State), s.full = true → 8 ≤ r → s.flowState r = 1 → fwType (s.flowRow r) = 1 →
    v = s.row oVideo (fwIndex (s.flowRow r)) → p.aborted = false → s.flowAborted r = false → (s.flow r).frame = none →
    (videoMalformed v p = true → ∃ t, exec (.videoPacket r p) s = .next t ∧ (t.flow r).frame = none ∧
      t.fld oFlowCnt r 1 = (s.fld oFlowCnt r 1 + 1) % 2 ^ 64 ∧ t.dram = s.dram) ∧
    (videoMalformed v p = false → s.seeking r = true → p.marker = true → ∃ t, exec (.videoPacket r p) s = .next t ∧
      t.flowState r = 1 ∧ t.seeking r = false ∧ t.raised 67 = true ∧ (t.flow r).nextSeq = some ((p.seq + 1) % 2 ^ 32) ∧
      (t.flow r).closedTs = some (newerTs (s.flow r).closedTs p.timestamp) ∧ t.dram = s.dram)) ∧
  (∀ (r k : Nat) (f : VFrame) (s : State), (s.flow r).frame = some f → f.entry = some k → s.flowState r = 1 →
    ∃ t, exec (.arrivalWindowEnd r) s = .next t ∧ (t.flow r).frame = none ∧ (t.flow r).closedTs = some f.ts ∧ t.raised 65 = true ∧
      t.fld oFlowCnt r 7 = (s.fld oFlowCnt r 7 + 1) % 2 ^ 64 ∧ s.windowEnd r f ≤ t.now ∧
      t.fence (s.ringFence (s.flowRing r)) = s.fence (s.ringFence (s.flowRing r))) ∧
  (∀ (r f : Nat) (fs : List Nat) (s : State), (s.flow r).advances = f :: fs → ∃ t, exec (.fenceAdvance r) s = .next t ∧
    t.fence f = (s.fence f + 1) % 2 ^ 32 ∧ (t.flow r).advances = fs ∧ (∀ g, g ≠ f → t.fence g = s.fence g) ∧
    (s.fld oVideo (fwIndex (s.flowRow r)) 10 = 1 → t.raised 64 = true))

/-- sACN universes (R120 to R130): the first packet of a source is followed, its slots go into the back copy, which flips at once or
waits for its synchronisation packet, and no other byte of the Vault changes but the flow's context; late packets and those of a fifth source are counted; a
source and a synchronisation time out. A packet that ends in an ABORT cell is as never received (R580). -/
def Obligations.SacnCommands : Prop :=
  (∀ (r u : Nat) (p : SacnPacket) (s : State), s.full = true → 8 ≤ r → s.flowState r ≠ 0 → fwType (s.flowRow r) = 2 →
    u = fwIndex (s.flowRow r) → s.flowAborted r = false → sacnOk p = true → p.terminated = false → (s.uni u).sources = [] →
    ∃ t, exec (.sacnData r p) s = .next t ∧
      (t.uni u).sources = [{ cid := p.cid, prio := p.priority, seq := p.seq, last := (s.advanceTo p.at_).now }] ∧
      t.fld oUniStatus u 1 = 0 ∧ t.fld oUniStatus u 2 = p.cid ∧ t.fld oUniStatus u 3 = p.priority ∧ t.fld oUniStatus u 4 = p.syncAddr ∧
      t.vaultGet (uniCopy u (1 - s.fld oUniStatus u 0)) 512 = slots512 p.slots (p.propCount - 1) ∧
      (∀ a, (a < uniCopy u (1 - s.fld oUniStatus u 0) ∨ uniCopy u (1 - s.fld oUniStatus u 0) + 512 ≤ a) →
        (a < vFlowCtx + 64 * r ∨ vFlowCtx + 64 * r + 64 ≤ a) → t.vaultByte a = s.vaultByte a) ∧
      ((p.syncAddr = 0 ∨ s.fld oUniverse u 2 = 0) → t.fld oUniStatus u 0 = 1 - s.fld oUniStatus u 0 ∧ (t.uni u).staged = none) ∧
      (p.syncAddr ≠ 0 → s.fld oUniverse u 2 ≠ 0 → p.forceSync = false →
        t.fld oUniStatus u 0 = s.fld oUniStatus u 0 ∧ (t.uni u).staged = some p.syncAddr)) ∧
  (∀ (r u : Nat) (p : SacnPacket) (s : State), s.full = true → 8 ≤ r → s.flowState r ≠ 0 → fwType (s.flowRow r) = 2 →
    u = fwIndex (s.flowRow r) → (s.flowAborted r = true → ∃ t, exec (.sacnData r p) s = .next t ∧ t.uni u = s.uni u ∧ t.vault = s.vault) ∧
    (s.flowAborted r = false → (∀ y ∈ (s.uni u).sources, y.live (s.advanceTo p.at_).now = true) →
    (sacnOk p = false → ∃ t, exec (.sacnData r p) s = .next t ∧ t.fld oFlowCnt r 1 = (s.fld oFlowCnt r 1 + 1) % 2 ^ 64 ∧
      t.uni u = s.uni u ∧ t.vault = s.vault) ∧
    (∀ y, sacnOk p = true → (s.uni u).sources.find? (fun z => z.cid == p.cid) = some y → sacnLate p.seq y.seq = true →
      ∃ t, exec (.sacnData r p) s = .next t ∧ t.fld oFlowCnt r 4 = (s.fld oFlowCnt r 4 + 1) % 2 ^ 64 ∧ t.uni u = s.uni u ∧
        t.vault = s.vault) ∧
    (sacnOk p = true → 4 ≤ (s.uni u).sources.length → (s.uni u).sources.find? (fun z => z.cid == p.cid) = none →
      ∃ t, exec (.sacnData r p) s = .next t ∧ t.fld oFlowCnt r 10 = (s.fld oFlowCnt r 10 + 1) % 2 ^ 64 ∧ t.uni u = s.uni u ∧
        t.vault = s.vault))) ∧
  (∀ (r at_ a : Nat) (s : State), s.full = true → 8 ≤ r → s.flowState r ≠ 0 → fwType (s.flowRow r) = 2 → s.flowAborted r = false →
    (s.ingest.universes.map Prod.fst).Nodup → ∃ t, exec (.sacnSync r at_ a 8 1) s = .next t ∧
      t.syncAddr a = { last := some (s.advanceTo at_).now, lost := false } ∧ (((s.syncAddr a).lost = true ∨ (s.advanceTo at_).syncLost a = true) → t.raised 69 = true) ∧
      (∀ u, (s.uni u).staged = some a → t.fld oUniStatus u 0 = 1 - s.fld oUniStatus u 0 ∧ (t.uni u).staged = none) ∧
      (∀ u, (s.uni u).staged ≠ some a → t.fld oUniStatus u 0 = s.fld oUniStatus u 0 ∧ t.uni u = s.uni u) ∧ t.vault = s.vault) ∧
  (∀ (u : Nat) (y : Source) (s : State), (s.uni u).sources = [y] → ∃ t, exec (.sourceTimeout u y.cid) s = .next t ∧
    (t.uni u).sources = [] ∧ y.last + 2500000000 ≤ t.now ∧
    (s.fld oUniStatus u 1 ≠ 1 → t.fld oUniStatus u 1 = 1 ∧ t.fld oUniStatus u 2 = 0 ∧ t.fld oUniStatus u 3 = 0 ∧ t.raised 68 = true ∧
      (s.fld oUniverse u 1 = 1 → t.vaultGet (uniCopy u (s.fld oUniStatus u 0)) 512 = List.replicate 512 0#8) ∧
      (∀ a, a < uniCopy u (s.fld oUniStatus u 0) ∨ uniCopy u (s.fld oUniStatus u 0) + 512 ≤ a → t.vaultByte a = s.vaultByte a))) ∧
  (∀ (a l : Nat) (s : State), (s.syncAddr a).last = some l → (s.syncAddr a).lost = false → ∃ t, exec (.syncTimeout a) s = .next t ∧
    t.syncAddr a = { last := some l, lost := true } ∧ t.raised 69 = true ∧ l + 2500000000 ≤ t.now)

/-- A head's enable and disable, the arm of a commit by a write of OD 0x2204 and by the head's register, and the end of a drain (R165,
R178 to R190, R216, R217). -/
def Obligations.HeadCommands : Prop :=
  (∀ (h v : Nat) (o : Origin) (x : Row) (s : State), Passes s o 0x220200 h (fun d => numRow d v) x →
    ∃ t, exec (.headEnable h v o) s = .next t ∧
      (s.headState h = 0 → v = 1 → s.validate h (s.makeCommit h none) false true = 0 → Answers t stOk 0 ∧ t.headState h = 1 ∧
        (t.head h).enable = some (s.makeCommit h none) ∧ (t.head h).queue = [] ∧ t.fld oHeadEnable h 0 = 1 ∧
        t.fld oCommitStatus h 1 = (s.makeCommit h none).id) ∧
      (∀ r, s.headState h = 0 → v = 1 → s.validate h (s.makeCommit h none) false true = r → r ≠ 0 → Answers t stState 0 ∧
        t.headState h = 0 ∧ t.fld oCommitStatus h 3 = r ∧ t.raised (32 + 16 * h + 7) = true ∧
        t.fld oHeadEnable h 0 = s.fld oHeadEnable h 0) ∧
      (s.headState h = 2 → v = 0 → s.feeds h = false → (s.head h).inBlank = false → Answers t stOk 0 ∧ t.headState h = 3 ∧
        (t.head h).queue = [] ∧ t.fld oHeadEnable h 0 = 0) ∧
      (s.headState h = 2 → v = 0 → s.feeds h = true → Answers t stState 0 ∧ t.headState h = 2 ∧ t.head h = s.head h) ∧
      (s.headState h = 3 → Answers t stOk 0 ∧ t.headState h = 3 ∧ (t.head h).latched = decide (v = 1))) ∧
  (∀ (h : Nat) (s : State), h < 2 → s.headState h = 3 → (s.head h).stopped = true → (s.head h).latched = false →
    ∃ t, exec (.headDrainDone h) s = .next t ∧ t.headState h = 0 ∧ (t.head h).stopped = false ∧
      (∀ k first, (s.head h).wback.busy = some (k, first) →
        t.fence (s.ringFence (s.fld oWback h 0)) = (s.fence (s.ringFence (s.fld oWback h 0)) + 1) % 2 ^ 32)) ∧
  (∀ (h : Nat) (ovr : Bool) (x : Row) (r : Nat) (s : State), Passes s .hspi 0x220400 h (fun d => numRow d (b2n ovr)) x →
    s.validate h (s.makeCommit h none) ovr false = r → ∃ t, exec (.commitArm h ovr false) s = .next t ∧
      (r = 0 → Answers t stOk 0 ∧ (t.head h).queue = (s.head h).queue ++ [s.makeCommit h none] ∧
        t.fld oCommitStatus h 1 = (s.makeCommit h none).id ∧ t.fld oCommitStatus h 3 = 0) ∧
      (r ≠ 0 → Answers t (if r = 20 then stResource else stState) 0 ∧ (t.head h).queue = (s.head h).queue ∧
        t.fld oCommitStatus h 3 = r ∧ t.raised (32 + 16 * h + 7) = true)) ∧
  (∀ (h : Nat) (ovr : Bool) (r : Nat) (s : State), Reaches s .core (12 + h) → h < 2 → s.validate h (s.makeCommit h none) ovr false = r →
    ∃ t, exec (.commitArm h ovr true) s = .next t ∧
      (r = 0 → (t.head h).result = (s.makeCommit h none).id * 65536 + 1 ∧ (t.head h).queue = (s.head h).queue ++ [s.makeCommit h none]) ∧
      (r ≠ 0 → (t.head h).result = r * 256 + 1 ∧ (t.head h).queue = (s.head h).queue ∧ t.raised (32 + 16 * h + 7) = true))

/-- The instants of a head's frame (R143, R144, R172, R187 to R189, R192 to R194, R209, R212): the cut line fixes a commit or holds it,
the start of vertical blanking counts the frame and applies a fixed commit, line 0 begins a frame, a line matches, a line runs under,
and the last active pixel is placed. -/
def Obligations.FrameCommands : Prop :=
  (∀ (h : Nat) (c : Commit) (u s : State), h < 2 → s.beforeCut h = true → (s.head h).enable = none → (s.head h).queue = [c] →
    c.fixed = false → u = s.advanceTb (s.cutAt h) → ∃ t, exec (.cutLine h) s = .next t ∧ (t.head h).cutPast = true ∧
      (s.cutAt h ≤ c.armedAt → (t.head h).queue = [c]) ∧
      (c.armedAt < s.cutAt h → u.commitReady h (s.cutAt h) c = true → (t.head h).queue = [u.fixCommit h c]) ∧
      (c.armedAt < s.cutAt h → u.commitReady h (s.cutAt h) c = false → (t.head h).queue = [c] ∧ t.raised (32 + 16 * h + 8) = true ∧
        t.fld oHeadCnt h 3 = (s.fld oHeadCnt h 3 + 1) % 2 ^ 64)) ∧
  (∀ (h : Nat) (s : State), h < 2 → s.headState h = 2 → (s.head h).stopped = false → (s.head h).inBlank = false →
    (s.head h).cutPast = true → (s.head h).frameDone = true → (s.head h).enable = none →
    ((s.head h).queue = [] → ∃ t, exec (.vblankStart h) s = .next t ∧ t.headState h = 2 ∧ (t.head h).inBlank = true ∧
      t.fld oCommitStatus h 4 = (s.fld oCommitStatus h 4 + 1) % 2 ^ 32 ∧ t.raised (32 + 16 * h) = true ∧
      t.row oTimingActive h = s.row oTimingActive h ∧ t.row oComposeActive h = s.row oComposeActive h) ∧
    (∀ c, (s.head h).queue = [c] → c.fixed = true → c.task = none → ∃ t, exec (.vblankStart h) s = .next t ∧ t.headState h = 2 ∧
      (t.head h).inBlank = true ∧ (t.head h).queue = [] ∧ t.fld oCommitStatus h 2 = c.id ∧ t.raised (32 + 16 * h) = true ∧
      t.raised (32 + 16 * h + 5) = true ∧ t.row oTimingActive h = c.timing ∧ t.row oComposeActive h = c.compose ∧
      ∀ l v, c.layers = [(l, v)] → lyHead v = h + 1 → lyRingMode v = false → t.fld oLayerStatus l 0 = h + 1 ∧
        t.fld oLayerStatus l 1 = lyFolio v ∧ ∀ i, i ≠ 20 → t.fld oLayerActive l i = v.getD i 0)) ∧
  (∀ (h : Nat) (s : State), h < 2 → s.headState h = 2 → (s.head h).inBlank = true → ∃ t, exec (.lineZero h) s = .next t ∧
    (t.head h).inBlank = false ∧ (t.head h).cutPast = false ∧ (t.head h).frameDone = false ∧ (t.head h).underruns = [] ∧
    (s.fld oEgressState h 0 = 1 → (t.head h).egress.sending = true) ∧
    (s.fld oWbackState h 0 = 1 → (s.head h).wback.busy = none → s.selectEntry (s.fld oWback h 0) = none →
      t.raised (32 + 16 * h + 13) = true ∧ t.fld oHeadCnt h 11 = (s.fld oHeadCnt h 11 + 1) % 2 ^ 64) ∧
    (∀ k, s.fld oWbackState h 0 = 1 → (s.head h).wback.busy = none → s.selectEntry (s.fld oWback h 0) = some k →
      (t.head h).wback.busy.map Prod.fst = some k)) ∧
  (∀ (h l : Nat) (at_ : Rat) (s : State), h < 2 → s.rasterRuns h = true → s.lineStart h l = some at_ → (s.head h).lineAt < at_ →
    ∃ t, exec (.lineMatch h l) s = .next t ∧ (t.head h).lineAt = at_ ∧
      (bit (s.head h).match0 15 = true → bits (s.head h).match0 12 0 = l → t.raised (32 + 16 * h + 1) = true) ∧
      (bit (s.head h).match1 15 = true → bits (s.head h).match1 12 0 = l → t.raised (32 + 16 * h + 2) = true)) ∧
  (∀ (h l col : Nat) (s : State), h < 2 → s.scanning h = true → l < tmVActive (s.timing h) → col < tmHActive (s.timing h) →
    ∃ t, exec (.underrun h l col) s = .next t ∧ (t.head h).underruns = (s.head h).underruns ++ [(l, col)] ∧
      ((s.head h).underruns = [] → t.raised (32 + 16 * h + 4) = true ∧ t.fld oHeadCnt h 6 = (s.fld oHeadCnt h 6 + 1) % 2 ^ 64)) ∧
  (∀ (h : Nat) (s : State), h < 2 → s.scanning h = true → (s.head h).frameDone = false → ∃ t, exec (.frameDone h) s = .next t ∧
    (t.head h).frameDone = true ∧ t.raised (32 + 16 * h + 3) = true ∧ ((s.head h).wback.busy = none → t.dram = s.dram) ∧
    ∀ k first f, (s.head h).wback.busy = some (k, first) → f = s.row oFolio (s.ringFolio (s.fld oWback h 0) k) →
      (t.head h).wback.written = true ∧ ∀ a, a < s.shadowBase →
        (∀ j, j < f.getD 3 0 → a < f.getD 0 0 + j * f.getD 1 0 ∨ f.getD 0 0 + j * f.getD 1 0 + 4 * f.getD 2 0 ≤ a) →
        t.dramByte a = s.dramByte a)

/-- Egress and writeback (R95, R105, R201 to R211): what enables them and turns them off, a packet that leaves and one that its port
drops, and a written frame that becomes readable. -/
def Obligations.EgressAndWritebackCommands : Prop :=
  (∀ (h v : Nat) (o : Origin) (x : Row) (s : State), Passes s o 0x222100 h (fun d => numRow d v) x →
    ∃ t, exec (.egressEnable h v o) s = .next t ∧
      (s.fld oEgressState h 0 = 0 → v = 1 → s.egressFits h = true → Answers t stOk 0 ∧ t.fld oEgressState h 0 = 1 ∧
        (t.head h).egress = Egress.init) ∧
      (s.fld oEgressState h 0 = 0 → v = 1 → s.egressFits h = false → Answers t stResource 0 ∧ t.fld oEgressState h 0 = 0) ∧
      (s.fld oEgressState h 0 = 1 → v = 0 → (s.head h).egress.sending = true → Answers t stOk 0 ∧ t.fld oEgressState h 0 = 2) ∧
      (s.fld oEgressState h 0 = 1 → v = 0 → (s.head h).egress.sending = false → (s.head h).egress.latched = false →
        Answers t stOk 0 ∧ t.fld oEgressState h 0 = 0)) ∧
  (∀ (h line offset p k : Nat) (v : Row) (s : State), h < 2 → v = s.row oEgress h → p = v.getD 0 0 → k = v.getD 16 0 →
    s.fld oEgressState h 0 = 1 → (s.head h).egress.sending = true → s.scanning h = true → line < egH v → offset < egW v →
    offset % egPixels (egSampling v) = 0 →
    (s.portState p ≠ 1 → ∃ t, exec (.egressPacket h line offset) s = .next t ∧
      t.fld oHeadCnt h 9 = (s.fld oHeadCnt h 9 + 1) % 2 ^ 64 ∧ ((s.head h).egress.fault = false → t.raised (32 + 16 * h + 11) = true) ∧
      (t.head h).egress.seq = ((s.head h).egress.seq + 1) % 2 ^ 32 ∧ t.net.queues = s.net.queues) ∧
    (s.portState p = 1 → (p < 2 → s.linkUp p = true) → (∀ n, n ≤ 6 → s.grant (8 * p + k) n = n) →
      ∃ t c f, exec (.egressPacket h line offset) s = .next t ∧ t.queue (8 * p + k) = s.queue (8 * p + k) ++ [c] ∧ c.tx = some f ∧
        f.kind = .egress ∧ f.dstIp = v.getD 10 0 ∧ f.dstUdp = v.getD 12 0 ∧ f.dstMac = egressMac v ∧
        (t.head h).egress.seq = ((s.head h).egress.seq + 1) % 2 ^ 32 ∧ (t.head h).egress.fault = (s.head h).egress.fault)) ∧
  (∀ (h v : Nat) (o : Origin) (x : Row) (s : State), Passes s o 0x223100 h (fun d => numRow d v) x →
    ∃ t, exec (.writebackEnable h v o) s = .next t ∧
      (s.fld oWbackState h 0 = 0 → v = 1 → s.wbackReady h = true → Answers t stOk 0 ∧ t.fld oWbackState h 0 = 1 ∧
        t.producer (s.ringFence (s.fld oWback h 0)) = wbProducer h) ∧
      (s.fld oWbackState h 0 = 0 → v = 1 → s.wbackReady h = false → Answers t stState 0 ∧ t.fld oWbackState h 0 = 0) ∧
      (s.fld oWbackState h 0 = 1 → v = 0 → (s.head h).wback.busy ≠ none → Answers t stOk 0 ∧ t.fld oWbackState h 0 = 2) ∧
      (s.fld oWbackState h 0 = 1 → v = 0 → (s.head h).wback.busy = none → (s.head h).wback.latched = false → Answers t stOk 0 ∧
        t.fld oWbackState h 0 = 0 ∧ t.producer (s.ringFence (s.fld oWback h 0)) = 0)) ∧
  (∀ (h k first r e : Nat) (s : State), h < 2 → (s.head h).stopped = false → (s.head h).wback.busy = some (k, first) →
    (s.head h).wback.written = true → r = s.fld oWback h 0 → e = s.ringFence r → ∃ t, exec (.writebackDone h) s = .next t ∧
      t.fence e = (s.fence e + 1) % 2 ^ 32 ∧ t.row oHistory (4 * r + k) = [1, (s.fence e + 1) % 2 ^ 32, 0, nsPt first, s.nowPt] ∧
      (t.head h).wback.busy = none ∧ t.raised (32 + 16 * h + 12) = true ∧
      t.fld oHeadCnt h 10 = (s.fld oHeadCnt h 10 + 1) % 2 ^ 64)

/-- The Collator's entries (R229 to R233): an entry without fault puts its share into the back set of its strand and nothing else into
the Vault; one that its deadline has passed leaves zero codes there and is counted. -/
def Obligations.CollationCommands : Prop :=
  (∀ (h n : Nat) (f : CollFrame) (e : MapEntry) (bs : List Byte) (u s : State), (s.collOf h).passing = some f → f.done = false →
    n = s.fld oMapActive h 2 → f.cursor < n → e = s.mapEntry h f.cursor → e.kind ≠ 0 → f.runMax ≤ e.key →
    s.tbNow < entryDeadline f e → u = s.advanceTb (entryTime f e) →
    u.entryFault h f e = .none → f.fills (e.strand / 16) = true →
    bs = (u.entryShare h f.cursor { f with runMax := max f.runMax e.key } e).1 →
    ∃ t g, exec (.collateEntry h) s = .next t ∧ (t.collOf h).passing = (if n ≤ f.cursor + 1 then (t.collOf h).frame else some g) ∧
      (f.cursor + 1 < n → g.cursor = f.cursor + 1) ∧ t.fld oCollCnt h 0 = (s.fld oCollCnt h 0 + 1) % 2 ^ 64 ∧
      t.vaultGet (strandBuf (1 - s.frontSet (e.strand / 16)) e.strand + e.offset) bs.length = bs ∧
      ∀ a, (a < strandBuf (1 - s.frontSet (e.strand / 16)) e.strand + e.offset ∨
        strandBuf (1 - s.frontSet (e.strand / 16)) e.strand + e.offset + bs.length ≤ a) → t.vaultByte a = s.vaultByte a) ∧
  (∀ (h n b : Nat) (f : CollFrame) (e : MapEntry) (s : State), (s.collOf h).passing = some f → f.done = false →
    n = s.fld oMapActive h 2 → f.cursor < n → e = s.mapEntry h f.cursor → e.kind ≠ 0 → f.runMax ≤ e.key →
    s.quireState (e.strand / 16) ≠ 0 → s.qHead (e.strand / 16) = h → b = shareBytes (f.snap.layout e.layout) →
    e.offset + b ≤ payloadLen (s.row oStrand e.strand) → f.fills (e.strand / 16) = true →
    ∃ t, exec (.sampleLate h) s = .next t ∧ t.fld oCollCnt h 0 = (s.fld oCollCnt h 0 + 1) % 2 ^ 64 ∧
      t.fld oCollCnt h 8 = (s.fld oCollCnt h 8 + 1) % 2 ^ 64 ∧ (f.late = false → t.raised 75 = true) ∧
      t.vaultGet (strandBuf (1 - s.frontSet (e.strand / 16)) e.strand + e.offset) b = List.replicate b 0#8 ∧
      ∀ a, (a < strandBuf (1 - s.frontSet (e.strand / 16)) e.strand + e.offset ∨
        strandBuf (1 - s.frontSet (e.strand / 16)) e.strand + e.offset + b ≤ a) → t.vaultByte a = s.vaultByte a)

/-- Quire modes (R295 to R297, R301, R340): what a write of OD 0x2402 does in each state, and the end of a drain. -/
def Obligations.QuireModes : Prop :=
  (∀ (q v : Nat) (o : Origin) (x : Row) (s : State), Passes s o 0x240200 q (fun d => numRow d v) x →
    ∃ t, exec (.quireMode q v o) s = .next t ∧
      (s.underTest q = true → Answers t stOk 0 ∧ (t.quire q).latched = some v ∧ t.quireState q = s.quireState q) ∧
      (s.underTest q = false → s.quireState q = 4 → Answers t stOk 0 ∧ (t.quire q).latched = some v ∧ t.quireState q = 4) ∧
      (s.underTest q = false → s.quireState q = 0 → v = 1 → Answers t stOk 0 ∧ t.quireState q = 2 ∧ t.fld oQuireMode q 0 = 1 ∧
        t.fld oQuireStatus q 3 = 0 ∧ (t.quire q).sum.testBit 0 = true ∧
        t.power.driven = if s.twin.quenchBerm = true then s.power.driven else s.power.driven ||| (65535 * 2 ^ (16 * q))) ∧
      (s.underTest q = false → s.quireState q = 0 → v = 2 → (s.headState (s.qHead q) = 0 ∨ s.headState (s.qHead q) = 3) →
        Answers t stOk 0 ∧ t.quireState q = 2 ∧ t.fld oQuireMode q 0 = 2 ∧ t.fld oQuireStatus q 3 = 1) ∧
      (s.underTest q = false → (s.quireState q = 0 ∨ s.quireState q = 2) → v = 2 →
        (s.headState (s.qHead q) = 1 ∨ s.headState (s.qHead q) = 2) → s.headCheck q = true → Answers t stOk 0 ∧ t.quireState q = 1 ∧
        (t.quire q).nextK = some ((s.quireCadence q).first (s.tbNow.ceil.toNat + 10000000)) ∧ (t.quire q).sum.testBit 0 = true ∧
        t.fld oQuireStatus q 3 = 0) ∧
      (s.underTest q = false → (s.quireState q = 0 ∨ s.quireState q = 2) → v = 2 →
        (s.headState (s.qHead q) = 1 ∨ s.headState (s.qHead q) = 2) → s.headCheck q = false → Answers t stState 0 ∧
        t.quireState q = s.quireState q ∧ t.fld oQuireMode q 0 = s.fld oQuireMode q 0) ∧
      (s.underTest q = false → s.quireState q = 1 → v = 0 → Answers t stOk 0 ∧ t.quireState q = 0) ∧
      (s.underTest q = false → s.quireState q = 2 → v = 1 → Answers t stOk 0 ∧ t.quireState q = 2) ∧
      (s.underTest q = false → s.quireState q = 2 → v = 0 → (s.quire q).requests = [] → Answers t stOk 0 ∧
        t.quireState q = if s.clk.elapsed < (s.quire q).freeAt then 4 else 0) ∧
      (s.underTest q = false → s.quireState q = 3 → v ≠ 2 → ((s.quire q).inFrame = true ∨ (s.quire q).window ≠ none) →
        Answers t stOk 0 ∧ t.quireState q = 4 ∧ (t.quire q).target = if v = 1 then 2 else 0) ∧
      (s.underTest q = false → s.quireState q = 3 → v ≠ 2 → (s.quire q).inFrame = false → (s.quire q).window = none →
        Answers t stOk 0 ∧ (t.quireState q = if v = 1 then 2 else 0) ∧ ∀ i, i < 16 → (t.strand (16 * q + i)).gainOwed = true)) ∧
  (∀ (q : Nat) (s : State), q < 16 → s.quireState q = 4 → (s.quire q).inFrame = false → (s.quire q).window = none →
    (s.quire q).latched = none → ∃ t, exec (.quireDrainDone q) s = .next t ∧ t.quireState q = (s.quire q).target)

/-- Pixel frames (R36, R244, R261, R273, R278, R295, R301, R303): a strand's frame begins with the header, shares and CRCs of its latch
index, or too late and not at all; at the latch instant the Quire runs, the strand buffer sets swap or the front set is sent again, and
the Quire's status is that of the latch. -/
def Obligations.PixelFrames : Prop :=
  (∀ (st k : Nat) (u s : State), st < 256 → (s.quire (st / 16)).nextK = some k → s.pixelsRun (st / 16) = true →
    s.strandOn st = true → (s.strand st).sentK ≠ some k → s.power.requested = false → s.twin.quenchBerm = false →
    (u = if s.quireState (st / 16) = 3 then (s.oweGain st).sendBroadcasts (st / 16) else s) →
    ∃ t, exec (.frameStart st) s = .next t ∧
      (u.tbNow ≤ u.frameStartAt st (u.latchAt (st / 16) k) → (t.strand st).sentK = some k ∧ (t.quire (st / 16)).inFrame = true ∧
        (t.strand st).payload = (u.advanceTb (u.frameStartAt st (u.latchAt (st / 16) k))).nextPayload st ∧
        (t.strand st).header = ((u.advanceTb (u.frameStartAt st (u.latchAt (st / 16) k))).pixelFrame st k).header ∧
        (t.strand st).cells = ((u.advanceTb (u.frameStartAt st (u.latchAt (st / 16) k))).pixelFrame st k).cells) ∧
      (u.frameStartAt st (u.latchAt (st / 16) k) < u.tbNow → (t.strand st).sentK = (s.strand st).sentK ∧
        (t.strand st).payload = (s.strand st).payload)) ∧
  (∀ (q k : Nat) (s : State), q < 16 → (s.quire q).nextK = some k →
    (s.quireState q = 1 → ∃ t, exec (.quireLatch q) s = .next t ∧ t.quireState q = 3 ∧ (t.quire q).nextK = some (k + 1) ∧
      (t.quire q).frames = (s.quire q).frames + 1 ∧ (t.quire q).sum.testBit 0 = true ∧ t.fld oQuireStatus q 0 = k % 65536) ∧
    ∀ u v : State, u = s.advanceTb (s.latchAt q k : Rat) → v = u.frameLatched q k → (s.quireState q = 3 ∨ s.quireState q = 4) →
      ∃ t, exec (.quireLatch q) s = .next t ∧ t.quireState q = s.quireState q ∧
        ((t.quire q).nextK = if s.quireState q = 3 then some (k + 1) else none) ∧ (t.quire q).inFrame = false ∧
        (t.quire q).frames = (s.quire q).frames + 1 ∧ t.fld oQuireStatus q 0 = k % 65536 ∧ t.fld oQuireStatus q 1 = u.latchPt q k ∧
        (∀ st, st ∈ s.strandsOf q → (s.strand st).sentK = some k → t.fld oQuireCnt q 0 = (s.fld oQuireCnt q 0 + 1) % 2 ^ 64) ∧
        (s.berm = false → (∀ f, ((v.collOf (v.qHead q)).qualified q k).filter (fun f => v.entriesDone (v.qHead q) q f) = some f →
          t.fld oQuireColl q 0 = 1 - s.fld oQuireColl q 0 ∧ t.fld oQuireColl q 1 = f.frame ∧ (t.quire q).repeated = false) ∧
          (((v.collOf (v.qHead q)).qualified q k).filter (fun f => v.entriesDone (v.qHead q) q f) = none →
            t.fld oQuireColl q 0 = s.fld oQuireColl q 0 ∧ (t.quire q).repeated = true ∧
            (s.headState (s.qHead q) ≠ 1 → t.raised 72 = true))))

/-- Return records (R256, R278 to R280, R303): a record that begins in its window is decoded and stored, or waits while the
telemetry store has given way (R557), one with a wrong CRC is counted, one outside the window is ignored; at the end of a window the absent records are counted. -/
def Obligations.ReturnCommands : Prop :=
  (∀ (st late stalls k : Nat) (b : BitVec 40) (u s : State), st < 256 → u = s.beginPhase (st / 16) → k = rrIndex b →
    (u.inWindow st k late = false → exec (.returnRecord st b ⟨late, stalls⟩) s = .next u) ∧
    (u.inWindow st k late = true → ∃ t, exec (.returnRecord st b ⟨late, stalls⟩) s = .next t ∧
      t.fld oQuireCnt (st / 16) 3 = (u.fld oQuireCnt (st / 16) 3 + stalls) % 2 ^ 64 ∧
      (rrOk b = false → t.fld oStrandCnt st 1 = (u.fld oStrandCnt st 1 + 1) % 2 ^ 64 ∧ (t.strand st).bad = (u.strand st).bad + 1 ∧
        (t.strand st).got = (u.strand st).got ∧ t.dram = s.dram) ∧
      (rrOk b = true → t.fld oStrandCnt st 0 = (u.fld oStrandCnt st 0 + 1) % 2 ^ 64 ∧ (t.strand st).got = k :: (u.strand st).got ∧
        (rrType b = 2 → tget (0, 0) (t.strand st).temps k = (rrValue b + 1, u.now)) ∧
        (rrType b = 1 → bit (rrValue b) 14 = false → ∀ r rs, (u.quire (st / 16)).requests = r :: rs →
          (t.quire (st / 16)).requests = { r with found := (4096 * st + k) :: r.found } :: rs) ∧
        (∀ a, a < s.shadowBase → (s.val oTeleBase = 0 ∨ a < s.val oTeleBase + 16 * (4096 * st + k) ∨
          s.val oTeleBase + 16 * (4096 * st + k) + 16 ≤ a) → t.dramByte a = s.dramByte a) ∧
        (s.integ.bulkHeld = true → t.dram = s.dram) ∧
        (s.integ.bulkHeld = false → rrType b = 2 → s.val oTeleBase ≠ 0 → s.val oTeleBase + 16 * (4096 * st + k) + 16 ≤ s.shadowBase →
          t.dramGet (s.val oTeleBase + 16 * (4096 * st + k)) 2 = leBytes 2 (rrValue b))))) ∧
  (∀ (q k : Nat) (s : State), q < 16 → (s.quire q).window = some (k, true) → ∃ t, exec (.returnWindowEnd q) s = .next t ∧
    (t.quire q).window = none ∧ t.dram = s.dram ∧ ∀ st, st ∈ s.strandsOf q → (s.strand st).sentK = some k → (t.strand st).got = [] ∧
      t.fld oStrandCnt st 2 = (s.fld oStrandCnt st 2 + ((reporters ((s.strandCfg st).getD 0 0) (2 ^ s.fld oQuire q 3)
        (k % 65536)).filter (fun i => !(s.strand st).got.contains i)).length) % 2 ^ 64) ∧
  (∀ (q j : Nat) (r : Request) (rs : List Request) (s : State), q < 16 → (s.quire q).window = some (j, false) → s.quireState q = 2 →
    (s.quire q).requests = r :: rs → r.sent = true → r.enum = false → r.phase < 3 → ∃ t, exec (.returnWindowEnd q) s = .next t ∧
    (t.quire q).window = none ∧ s.phaseEnd q r ≤ (t.quire q).freeAt ∧
    (r.ret = false → (s.quire q).broadcasts = [] → (t.quire q).freeAt = s.phaseEnd q r) ∧
    (t.quire q).requests = { r with phase := 3, sent := false, acks := [],
                                    acked := r.acked && (!r.ret || (s.phaseStrands q r).all (fun st => s.allAcked r st)) } :: rs)

/-- Requests on the Cameg lines (R266 to R271, R298, R299): a write of OD 0x2404 or 0x2405 is answered with a handle and waits in its
Quire's line, or completes STATE where nothing can be sent; the oldest request completes OK or TIMEOUT. -/
def Obligations.RequestCommands : Prop :=
  (∀ (v : List Byte) (o : Origin) (x : Row) (q h : Nat) (s : State), Passes s o 0x240400 0 (fun d => rowOf d v) x → q = x.getD 0 0 →
    ∃ t, exec (.camegCommand v o) s = .next t ∧
      (s.requestsFull q = true → Answers t stBusy 0 ∧ (t.quire q).requests = (s.quire q).requests) ∧
      (s.requestsFull q = false → NewHandle s h → s.quireState q = 0 → Answers t stAccepted h ∧ Completed t h stState ∧
        (t.quire q).requests = (s.quire q).requests) ∧
      (s.requestsFull q = false → NewHandle s h → s.quireState q = 2 → legacy (s.qRate q) = false →
        (x.getD 3 0 = 0 ∨ x.getD 2 0 = 1 ∨ s.val oShareBase ≠ 0) → Answers t stAccepted h ∧ (t.quire q).requests = (s.quire q).requests ++
          [{ Request.fresh h (x.getD 1 0) with opcode := x.getD 2 0, perDriver := x.getD 3 0 == 1, ret := x.getD 4 0 == 1,
                                               arg := x.getD 5 0, at_ := s.clk.elapsed }]) ∧
      (s.requestsFull q = false → NewHandle s h → s.quireState q = 3 → x.getD 3 0 = 1 → Answers t stAccepted h ∧
        Completed t h stState)) ∧
  (∀ (v : List Byte) (o : Origin) (x : Row) (q h : Nat) (s : State), Passes s o 0x240500 0 (fun d => rowOf d v) x → q = x.getD 0 0 →
    ∃ t, exec (.enumerate v o) s = .next t ∧
      (s.requestsFull q = true → Answers t stBusy 0) ∧
      (s.requestsFull q = false → NewHandle s h → s.quireState q = 2 → legacy (s.qRate q) = false → Answers t stAccepted h ∧
        (t.quire q).requests = (s.quire q).requests ++ [{ Request.fresh h (x.getD 2 0) with enum := true, at_ := s.clk.elapsed }]) ∧
      (s.requestsFull q = false → NewHandle s h → s.quireState q ≠ 2 → Answers t stAccepted h ∧ Completed t h stState)) ∧
  (∀ (q : Nat) (r : Request) (rs : List Request) (s : State), q < 16 → (s.quire q).requests = r :: rs → s.handleLive r.handle = true →
    (s.quireState q = 2 → r.phase = 3 → ∃ t, exec (.camegRequestDone q) s = .next t ∧ (t.quire q).requests = rs ∧
      Completed t r.handle (if r.acked = true then stOk else stTimeout) ∧ (t.quire q).sum.testBit 3 = true) ∧
    (s.quireState q = 2 → r.phase = 0 → r.sent = true → r.enum = false → (s.quire q).selectOwed = false →
      ∃ t, exec (.camegRequestDone q) s = .next t ∧ (t.quire q).requests = rs ∧ s.phaseEnd q r ≤ (t.quire q).freeAt ∧
        (r.ret = false → (s.quire q).broadcasts = [] → (t.quire q).freeAt = s.phaseEnd q r) ∧
        t.fld oQuireCnt q 1 = (s.fld oQuireCnt q 1 + 1) % 2 ^ 64 ∧
        Completed t r.handle (if (r.acked && (!r.ret || (s.phaseStrands q r).all (fun st => s.allAcked r st))) = true then stOk
          else stTimeout)) ∧
    (s.quireState q = 3 → r.enum = false → r.perDriver = false →
      (∀ st, st ∈ s.requestStrands q r.mask → (s.gapSlot st r.at_).isSome = true) →
      ∃ t, exec (.camegRequestDone q) s = .next t ∧ (t.quire q).requests = rs ∧ Completed t r.handle stOk ∧
        t.fld oQuireCnt q 1 = (s.fld oQuireCnt q 1 + 1) % 2 ^ 64))

/-- Fades as they are written, armed and stopped (R304, R310 to R314): FADE, FADE_ARM and FADE_STOP in each state of the unit. -/
def Obligations.FadeWrites : Prop :=
  (∀ (f : Nat) (v : List Byte) (o : Origin) (x : Row) (s : State), Passes s o 0x250000 f (fun d => rowOf d v) x →
    ∃ t, exec (.fade f v o) s = .next t ∧
      (fadeRowOk x = false → Answers t stRange 0 ∧ t.row oFade f = s.row oFade f) ∧
      (fadeRowOk x = true → (s.fadeState f = 0 ∨ s.fadeState f = 3) → Answers t stOk 0 ∧ t.row oFade f = x ∧ t.fadeState f = s.fadeState f) ∧
      (fadeRowOk x = true → s.fadeState f = 1 → s.now < fdStartTick x → s.now < fdEndTick x → Answers t stOk 0 ∧ t.row oFade f = x ∧
        (t.fade f).row = x ∧ t.fadeState f = 1) ∧
      (fadeRowOk x = true → s.fadeState f = 2 → s.now < fdEndTick (s.fade f).row →
        (fdKind x = fdKind (s.fade f).row ∧ fdIndex x = fdIndex (s.fade f).row ∧ fdCurrent x = true → Answers t stOk 0 ∧ t.fadeState f = 2 ∧
          (t.fade f).row = rput (rput x 4 (fadeOutput (s.fade f).row (tickUp s.now))) 6 (nsPt (max (fdStart x) (tickUp s.now)))) ∧
        (¬(fdKind x = fdKind (s.fade f).row ∧ fdIndex x = fdIndex (s.fade f).row ∧ fdCurrent x = true) → Answers t stState 0 ∧
          t.fade f = s.fade f ∧ t.row oFade f = s.row oFade f)) ∧
      (fadeRowOk x = true → s.fadeState f = 4 → Answers t stState 0 ∧ t.row oFade f = s.row oFade f)) ∧
  (∀ (f : Nat) (o : Origin) (x : Row) (s : State), Passes s o 0x250100 f (fun d => numRow d 1) x →
    ∃ t, exec (.fadeArm f o) s = .next t ∧
      ((s.fadeState f = 0 ∨ s.fadeState f = 3) → s.now < fdStartTick (s.row oFade f) → s.now < fdEndTick (s.row oFade f) →
        Answers t stOk 0 ∧ t.fadeState f = 1 ∧ (t.fade f).row = s.row oFade f ∧ t.fld 0x250100 f 0 = 1) ∧
      ((s.fadeState f = 0 ∨ s.fadeState f = 3) → fdEndTick (s.row oFade f) ≤ s.now → Answers t stOk 0 ∧ t.fadeState f = 3 ∧
        t.fld oFadeStatus f 1 = 1 ∧ t.fld oFadeStatus f 2 = fdTo (s.row oFade f)) ∧
      ((s.fadeState f = 1 ∨ (s.fadeState f = 2 ∧ s.now < fdEndTick (s.fade f).row)) → Answers t stState 0 ∧
        t.fadeState f = s.fadeState f ∧ t.fade f = s.fade f) ∧
      (s.fadeState f = 4 → Answers t stOk 0 ∧ t.fadeState f = 4 ∧ (t.fade f).latched = some none)) ∧
  (∀ (f : Nat) (o : Origin) (x : Row) (s : State), Passes s o 0x250100 f (fun d => numRow d 0) x →
    ∃ t, exec (.fadeStop f o) s = .next t ∧
      (s.fadeState f = 1 → Answers t stOk 0 ∧ t.fadeState f = 0 ∧ t.fld oFadeStatus f 1 = 2 ∧
        ∀ h, (s.fade f).task = some h → s.handleLive h = true → Completed t h stCancelled) ∧
      (s.fadeState f = 2 → s.now < fdEndTick (s.fade f).row → (s.fade f).latched = none → Answers t stOk 0 ∧
        (t.fadeState f = if s.consumer (fdKind (s.fade f).row) (fdIndex (s.fade f).row) = true then 4 else 0) ∧
        t.fld oFadeStatus f 1 = 2 ∧ t.fld oFadeStatus f 2 = fadeOutput (s.fade f).row (tickUp s.now) ∧ (t.fade f).bound = false ∧
        (1 ≤ fdKind (s.fade f).row → fdKind (s.fade f).row ≤ 4 →
          t.fadeBase (fdKind (s.fade f).row) (fdIndex (s.fade f).row) = fadeOutput (s.fade f).row (tickUp s.now))) ∧
      (s.fadeState f = 4 → Answers t stOk 0 ∧ t.fadeState f = 4 ∧ (t.fade f).latched = none) ∧
      ((s.fadeState f = 0 ∨ s.fadeState f = 3) → Answers t stOk 0 ∧ t.fadeState f = s.fadeState f ∧ t.fade f = s.fade f))

/-- The instants of a fade (R305 to R308, R314, R315): at its start it binds its target, supersedes the unit that held it or is itself
superseded by a higher one; at its end its TO becomes the target's base value. -/
def Obligations.FadeInstants : Prop :=
  (∀ (f : Nat) (v : Row) (u s : State), s.fadeState f = 1 → v = (s.fade f).row → u = s.advanceTo (fdStartTick v) → fdDur v ≠ 0 →
    (u.outbid f (tickUp u.now) v = true → ∃ t, exec (.fadeStart f) s = .next t ∧ t.fadeState f = 3 ∧ t.fld oFadeStatus f 1 = 3 ∧
      t.raised 97 = true) ∧
    (u.outbid f (tickUp u.now) v = false → s.boundUnit (fdKind v) (fdIndex v) = none → ∃ t, exec (.fadeStart f) s = .next t ∧
      t.fadeState f = 2 ∧ (t.fade f).bound = (fdKind v != 0) ∧
      (t.fade f).row = rput v 4 (if fdCurrent v = true then u.fadeBase (fdKind v) (fdIndex v) else fdFrom v) ∧
      t.fld oFadeStatus f 3 = if fdCurrent v = true then u.fadeBase (fdKind v) (fdIndex v) else fdFrom v) ∧
    (∀ h, u.outbid f (tickUp u.now) v = false → s.boundUnit (fdKind v) (fdIndex v) = some h → h ≠ f →
      tickUp u.now < fdEndTick (s.fade h).row → ((s.fade h).boundAt ≠ tickUp u.now ∨ h < f) → ∃ t, exec (.fadeStart f) s = .next t ∧ t.fadeState f = 2 ∧ t.fadeState h = 3 ∧
      t.fld oFadeStatus h 1 = 3 ∧ (t.fade h).bound = false ∧ t.raised 97 = true ∧
      t.fld oLightCnt 0 1 = (s.fld oLightCnt 0 1 + 1) % 2 ^ 64 ∧
      ∀ k, (s.fade h).task = some k → s.handleLive k = true → Completed t k stCancelled)) ∧
  (∀ (f : Nat) (v : Row) (s : State), s.fadeState f = 2 → v = (s.fade f).row → ∃ t, exec (.fadeEnd f) s = .next t ∧ t.fadeState f = 3 ∧
    t.fld oFadeStatus f 1 = 1 ∧ t.fld oFadeStatus f 2 = fdTo v ∧ (t.fade f).bound = false ∧
    t.fld oLightCnt 0 0 = (s.fld oLightCnt 0 0 + 1) % 2 ^ 64 ∧ (fdNotify v = true → t.raised 96 = true) ∧
    (1 ≤ fdKind v → fdKind v ≤ 4 → t.fadeBase (fdKind v) (fdIndex v) = fdTo v) ∧
    ∀ k, (s.fade f).task = some k → s.handleLive k = true → Completed t k stOk)

/-- A Gauge conversion (R332 to R337): a value, the mean and the state of a channel; a code at full scale, a sample discarded after a
change of range, an NTC channel without a value, a channel that is off, and a reference out of tolerance. -/
def Obligations.GaugeSamples : Prop :=
  ∀ (x : GaugeCode) (c : Nat) (code ppm : Int) (s : State), s.full = true → c < 48 → x.channel = c →
    code = clampI (-8388607) 8388607 x.code →
    (ppm.natAbs ≤ 20000 → s.fld oGauge c 0 ≠ 0 → (s.gaugeCh c).settle = 0 → code.natAbs ≠ 8388607 →
      (∀ y, s.gaugeEng c (s.gaugeRange c) code = some y → (s.fld oGauge c 0 ≠ 1 ∨ s.fld oGauge c 1 ≠ 4) →
        ∃ t, exec (.gaugeSample [x] ppm) s = .next t ∧ t.fld oGaugeValue c 0 = ofI 32 code ∧ t.fld oGaugeValue c 1 = toF32 y ∧
          (t.gaugeCh c).hist = (y :: (s.gaugeCh c).hist).take (s.fld oGauge c 2) ∧
          t.fld oGaugeValue c 2 = toF32 ((t.gaugeCh c).hist.sum / ((t.gaugeCh c).hist.length : Rat)) ∧
          t.fld oGaugeValue c 3 = s.gaugeRange c ∧ t.fld oGaugeValue c 4 = 1 ∧
          t.fld oGaugeCnt c 0 = (s.fld oGaugeCnt c 0 + 1) % 2 ^ 64) ∧
      (s.gaugeEng c (s.gaugeRange c) code = none → ∃ t, exec (.gaugeSample [x] ppm) s = .next t ∧ t.fld oGaugeValue c 4 = 0 ∧
        t.fld oGaugeCnt c 0 = (s.fld oGaugeCnt c 0 + 1) % 2 ^ 64 ∧ ((s.gaugeCh c).noValue = false → t.raised 106 = true))) ∧
    (ppm.natAbs ≤ 20000 → s.fld oGauge c 0 ≠ 0 → (s.gaugeCh c).settle = 0 → code.natAbs = 8388607 →
      ∃ t, exec (.gaugeSample [x] ppm) s = .next t ∧ t.fld oGaugeValue c 0 = ofI 32 code ∧ t.fld oGaugeValue c 4 = 2 ∧
        t.fld oGaugeCnt c 1 = (s.fld oGaugeCnt c 1 + 1) % 2 ^ 64 ∧ ((s.gaugeCh c).ovr = false → t.raised 104 = true)) ∧
    (∀ n, ppm.natAbs ≤ 20000 → s.fld oGauge c 0 ≠ 0 → (s.gaugeCh c).settle = n + 1 → ∃ t, exec (.gaugeSample [x] ppm) s = .next t ∧
      t.fld oGaugeValue c 0 = ofI 32 code ∧ t.fld oGaugeValue c 4 = 4 ∧ (t.gaugeCh c).settle = n ∧ (t.gaugeCh c).hist = (s.gaugeCh c).hist) ∧
    (ppm.natAbs ≤ 20000 → s.fld oGauge c 0 = 0 → ∃ t, exec (.gaugeSample [x] ppm) s = .next t ∧
      t.row oGaugeValue c = s.row oGaugeValue c) ∧
    (20000 < ppm.natAbs → ∃ t, exec (.gaugeSample [x] ppm) s = .next t ∧ t.fld oGaugeValue c 4 = 0 ∧ t.light.refFault = true ∧
      (s.light.refFault = false → t.raised 107 = true))

/-- The short test, the emitter fault list and the colour loop's reset (R331, R338 to R342): what starts a test and what its end records
and quarantines, a cleared fault list, and corrections set to 1.0. -/
def Obligations.TestAndFaultCommands : Prop :=
  (∀ (mask h : Nat) (o : Origin) (x : Row) (s : State), Passes s o 0x256000 0 (fun d => numRow d mask) x →
    ∃ t, exec (.shortTest mask o) s = .next t ∧
      (∀ q, q < 16 → mask.testBit q = true → s.quireState q ≠ 0 → s.quireState q ≠ 2 → Answers t stState 0 ∧ t.light.test = s.light.test) ∧
      ((∀ q, q < 16 → mask.testBit q = true → s.quireState q = 0 ∨ s.quireState q = 2) →
        (s.light.test ≠ none → Answers t stBusy 0 ∧ t.light.test = s.light.test) ∧
        (s.light.test = none → NewHandle s h → Answers t stAccepted h ∧ t.light.test = some (mask, h) ∧
          t.light.testAt = s.clk.elapsed ∧ t.rowCount oShortResult = 0))) ∧
  (∀ (mask h : Nat) (high : List (Nat × Nat)) (stuck : List Nat) (s : State), s.light.test = some (mask, h) → s.handleLive h = true →
    ∃ t, exec (.shortTestDone high stuck) s = .next t ∧ t.light.test = none ∧ Completed t h stOk ∧ t.raised 103 = true ∧
      (∀ p b, high = [(p, b)] → stuck = [] → p < 256 → b < 256 → mask.testBit (p / 16) = true → s.adjacent p b = true →
        s.pinTestable b = true → s.rowCount oShortResult = 0 → s.light.shortMore = [] → t.rowCount oShortResult = 1 ∧
        t.row oShortResult 0 = [min p b, max p b, 1] ∧
        (s.val 0x256300 = 1 → t.fld oQuarantine p 0 = 1 ∧ t.fld oQuarantine b 0 = 1)) ∧
      (∀ p, high = [] → stuck = [p] → p < 256 → mask.testBit (p / 16) = true → s.rowCount oShortResult = 0 → s.light.shortMore = [] →
        t.rowCount oShortResult = 1 ∧ t.row oShortResult 0 = [p, 0xFF, 2] ∧ (s.val 0x256300 = 1 → t.fld oQuarantine p 0 = 1))) ∧
  (∀ (v : Nat) (o : Origin) (x : Row) (s : State), Passes s o 0x257100 0 (fun d => numRow d v) x →
    ∃ t, exec (.faultClear v o) s = .next t ∧ Answers t stOk 0 ∧
      (v = 1 → t.rowCount oFaults = 0 ∧ t.light.faultFull = false) ∧
      (v = 0 → (∀ r, t.row oFaults r = s.row oFaults r) ∧ t.light.faultFull = s.light.faultFull)) ∧
  (∀ (r v : Nat) (o : Origin) (x : Row) (s : State), Passes s o 0x254400 r (fun d => numRow d v) x →
    ∃ t, exec (.regionReset r v o) s = .next t ∧ Answers t stOk 0 ∧
      (v = 1 → ∀ i, i < 3 → t.fld oRegionStatus r (2 + i) = toF32 1) ∧
      (v ≠ 1 → ∀ i, t.fld oRegionStatus r i = s.fld oRegionStatus r i))

/-- REFT and the calibration store (R350 to R352, R366 to R368, R662): the presence of REFT, and a measurement that starts and completes,
which scales the TDC; a save asked for, a write that completes with a record that verifies, one that fails, one that a trial holds back,
and a record of a foreign format, which stays. -/
def Obligations.ReftAndStore : Prop :=
  (∀ (ppm : Int) (s : State), s.timeRuns = true →
    (s.reftPresent ≠ decide (ppm.natAbs ≤ 100) → ∃ t, exec (.reftPresence ppm) s = .next t ∧
      t.reftPresent = decide (ppm.natAbs ≤ 100) ∧ t.raised 109 = true ∧ (ppm.natAbs ≤ 100 → t.cal.nextAt = t.now) ∧
      (100 < ppm.natAbs → t.cal.running = none)) ∧
    (s.reftPresent = decide (ppm.natAbs ≤ 100) → ∃ t, exec (.reftPresence ppm) s = .next t ∧ t.reftPresent = s.reftPresent ∧
      t.cal = s.cal)) ∧
  (∀ s : State, s.full = true → s.cal.running = none →
    (s.reftPresent = true → ∃ t, exec .reftMeasurement s = .next t ∧ t.cal.running = some (t.now, s.fld oReftDecl 0 0) ∧
      t.cal.nextAt = t.now + 60000000000) ∧
    (s.reftPresent = false → exec .reftMeasurement s = .next s)) ∧
  (∀ (n start ref : Nat) (bins : List Nat) (s : State), s.cal.running = some (start, ref) →
    ∃ t, exec (.reftMeasurementDone n bins) s = .next t ∧ t.cal.running = none ∧ t.cal.cycles = some n ∧
      (0 < n → t.cal.periodPs = 100000000000 / (n : Rat)) ∧
      t.cal.widths = bins.map (fun (b : Nat) => (b : Rat) * t.cal.periodPs / ((bins.sum : Nat) : Rat)) ∧
      (ref ≠ 0 → t.cal.tdcTrace = (2, ref)) ∧ t.fld oReft 0 0 = s.fld oReft 0 0 ∧ t.fld oReft 0 1 = ofI 32 (xinPpb n) ∧
      t.fld oReft 0 2 = ref ∧ t.cal.changed = true ∧ t.fld oCalCnt 0 4 = (s.fld oCalCnt 0 4 + 1) % 2 ^ 64) ∧
  (∀ (v : Nat) (o : Origin) (x : Row) (s : State), Passes s o 0x263100 0 (fun d => numRow d v) x →
    ∃ t, exec (.calStoreSave v o) s = .next t ∧ Answers t stOk 0 ∧ (v = 1 → t.cal.changed = true ∧ t.cal.writing = true) ∧
      (v = 0 → t.cal = s.cal)) ∧
  (∀ (ok : Bool) (s : State), s.full = true → s.cal.writing = true →
    (s.holdCal = false → s.calUnreadable = false → ok = true → ∃ t, exec (.calStoreWrite ok) s = .next t ∧ t.flash.cal.valid = true ∧
      t.flash.cal.format = s.calFormat ∧ t.flash.cal.vals = s.calVals ∧
      t.flash.cal.reft = s.cal.cycles.map (fun n => (n, s.cal.bins, s.cal.traced)) ∧ t.cal.changed = false ∧ t.cal.writing = false ∧
      t.row oCalStore 0 = [s.calFormat, 0, s.nowPt] ∧ t.fld oCalCnt 0 7 = (s.fld oCalCnt 0 7 + 1) % 2 ^ 64) ∧
    (s.holdCal = false → s.calUnreadable = false → ok = false → ∃ t, exec (.calStoreWrite ok) s = .next t ∧ t.flash = s.flash ∧
      t.cal.writing = false ∧ t.cal.changed = s.cal.changed ∧ t.cal.writeAt = s.now + 3600000000000 ∧ t.raised 111 = true ∧
      t.fld oCalCnt 0 8 = (s.fld oCalCnt 0 8 + 1) % 2 ^ 64) ∧
    (s.holdCal = true → ∃ t, exec (.calStoreWrite ok) s = .next t ∧ t.flash = s.flash ∧ t.update.heldCal = true ∧
      t.cal.writing = false) ∧
    (s.holdCal = false → s.calUnreadable = true → ∃ t, exec (.calStoreWrite ok) s = .next t ∧ t.flash = s.flash ∧
      t.cal.writing = false))

/-- Calibration passes and the taps they stage (R353 to R360): what a pass reports and stages for each pin of its Quire, and taps that come
into force in an idle gap or wait for one. -/
def Obligations.CalibrationCommands : Prop :=
  (∀ (q : Nat) (ms xs : List PinMeasure) (m : PinMeasure) (tr tf : Rat) (r f : EdgeMeasure) (s : State), s.full = true → q < 16 →
    legacy (s.qRate q) = false → (s.quireState q = 2 ∨ s.quireState q = 3) → xs = s.passMeasures q ms → m ∈ xs →
    tr = maxOf (xs.map (fun m => (edgeMeasure s.cal m.d0Rise m.d63Rise (toI 16 (s.fld oCalPin m.pin 2))).e)) →
    tf = maxOf (xs.map (fun m => (edgeMeasure s.cal m.d0Fall m.d63Fall (toI 16 (s.fld oCalPin m.pin 3))).e)) →
    r = edgeMeasure s.cal m.d0Rise m.d63Rise (toI 16 (s.fld oCalPin m.pin 2)) →
    f = edgeMeasure s.cal m.d0Fall m.d63Fall (toI 16 (s.fld oCalPin m.pin 3)) → 0 < r.tap → 0 < f.tap →
    ∃ t, exec (.calibrationPass q ms) s = .next t ∧ t.fld oCalStatus m.pin 4 = toF32 r.tap ∧ t.fld oCalStatus m.pin 5 = toF32 f.tap ∧
      t.fld oCalStatus m.pin 6 = satI 16 (edgeTap tr r 0).2.2 ∧ t.fld oCalStatus m.pin 7 = satI 16 (edgeTap tf f 0).2.2 ∧
      t.fld oCalStatus m.pin 8 = b2n ((edgeTap tr r 0).2.1 || (edgeTap tf f 0).2.1) ∧
      (∀ j, j < 4 → t.fld oCalStatus m.pin j = s.fld oCalStatus m.pin j) ∧
      (pinAutoEdge (s.row oCalPin m.pin) = true → ∃ v, tfind t.cal.staged m.pin = some v ∧ v.getD 0 0 = (edgeTap tr r 0).1 ∧
        v.getD 1 0 = (edgeTap tf f 0).1) ∧
      t.fld oCalCnt 0 0 = (s.fld oCalCnt 0 0 + 1) % 2 ^ 64 ∧ (t.quire q).passAt = t.now) ∧
  (∀ (q : Nat) (s : State), ((s.quire q).inFrame = true ∨ (s.quire q).window ≠ none) → exec (.tapApply q) s = .next s) ∧
  (∀ (q p : Nat) (v : Row) (s : State), s.full = true → q < 16 → p / 16 = q → (s.quire q).inFrame = false → (s.quire q).window = none →
    (s.quire q).requests = [] → (s.quire q).nextK = none → tfind s.cal.staged p = some v → tget 0 s.cal.stagedAt p + 3 ≤ s.clk.elapsed →
    ∃ t, exec (.tapApply q) s = .next t ∧ (∀ j, j < 4 → t.fld oCalStatus p j = v.getD j 0) ∧
      (∀ j, 4 ≤ j → t.fld oCalStatus p j = s.fld oCalStatus p j) ∧ tfind t.cal.staged p = none ∧
      t.fld oCalCnt 0 2 = (s.fld oCalCnt 0 2 + 1) % 2 ^ 64)

/-- Reference sessions and sensor gains (R361 to R365): how a session starts, takes its reading and ends in each way, and what a gain's
reset leaves. -/
def Obligations.ReferenceSessions : Prop :=
  (∀ (v : List Byte) (o : Origin) (x : Row) (h : Nat) (s : State), Passes s o 0x262000 0 (fun d => rowOf d v) x →
    ∃ t, exec (.refSession v o) s = .next t ∧
      (sessionInRange x = false → Answers t stRange 0 ∧ t.cal = s.cal) ∧
      (sessionInRange x = true → s.sessionReady x = false → Answers t stState 0 ∧ t.cal = s.cal) ∧
      (sessionInRange x = true → s.sessionReady x = true → s.cal.session ≠ none → Answers t stBusy 0 ∧ t.cal = s.cal) ∧
      (sessionInRange x = true → s.sessionReady x = true → s.cal.session = none → NewHandle s h → Answers t stAccepted h ∧
        t.cal.session = some { row := x, handle := h, startAt := s.now, sum := 0, count := 0, fault := false, reading := none,
                               ended := false } ∧
        ∀ r, r < 256 → rgOn (s.row oRegion r) = true → rgPhoto (s.row oRegion r) = false → rsPhoto x = false → x.getD 1 0 = 0 →
          s.fld oRegion r 3 = rsIndex x → t.fld oRegionStatus r 0 = 3 ∧ t.fld oRegionStatus r 1 = 6)) ∧
  (∀ (v : Nat) (o : Origin) (x : Row) (s : State), Passes s o 0x262100 0 (fun d => numRow d v) x →
    ∃ t, exec (.refReading v o) s = .next t ∧
      (s.cal.session = none → Answers t stState 0) ∧
      (∀ y, s.cal.session = some y → rsMeter y.row = false → Answers t stState 0 ∧ t.cal = s.cal) ∧
      (∀ y, s.cal.session = some y → rsMeter y.row = true → y.ended = false → Answers t stOk 0 ∧
        t.cal.session = some { y with reading := some v })) ∧
  (∀ (v : Nat) (o : Origin) (x : Row) (s : State), Passes s o 0x262200 0 (fun d => numRow d v) x →
    ∃ t, exec (.refCancel v o) s = .next t ∧ Answers t stOk 0 ∧ (v = 0 → t.cal = s.cal) ∧
      ∀ y, v = 1 → s.cal.session = some y → s.handleLive y.handle = true → t.cal.session = none ∧ Completed t y.handle stCancelled ∧
        t.raised 110 = true ∧ t.fld oCalCnt 0 6 = (s.fld oCalCnt 0 6 + 1) % 2 ^ 64) ∧
  (∀ (y : RefSession) (m g : Rat) (s : State), s.cal.session = some y → y.ended = false → s.handleLive y.handle = true →
    (m = if y.count = 0 then 0 else y.sum / (y.count : Rat)) → (g = if m = 0 then 0 else rsReference y.row / m) →
    (y.fault = true → ∃ t, exec .refSessionEnd s = .next t ∧ t.cal.session = none ∧ Completed t y.handle stTimeout ∧ t.raised 110 = true) ∧
    (y.fault = false → rsMeter y.row = true → y.reading = none → ∃ t, exec .refSessionEnd s = .next t ∧
      t.cal.session = some { y with ended := true }) ∧
    (y.fault = false → rsMeter y.row = false → 1 / 10 ≤ g → g ≤ 10 → ∃ t, exec .refSessionEnd s = .next t ∧ t.cal.session = none ∧
      Completed t y.handle stOk ∧ t.raised 110 = true ∧ t.fld oSensorGain (rsSensor y.row) 0 = toF32 g ∧
      t.fld oSensorGain (rsSensor y.row) 1 = 2 ∧ t.fld oSensorGain (rsSensor y.row) 2 = y.row.getD 5 0 ∧
      (∀ r, r < 256 → sensorRow r (s.row oRegion r) = rsSensor y.row → ∀ j, t.fld oRegionTrace r j = 0) ∧
      t.cal.changed = true ∧ t.cal.writing = true) ∧
    (y.fault = false → rsMeter y.row = false → (g < 1 / 10 ∨ 10 < g) → ∃ t, exec .refSessionEnd s = .next t ∧ t.cal.session = none ∧
      Completed t y.handle stRange ∧ t.raised 110 = true ∧ ∀ k, t.row oSensorGain k = s.row oSensorGain k)) ∧
  (∀ (y : RefSession) (s : State), s.cal.session = some y →
    (rsMeter y.row = true → y.reading = none → s.handleLive y.handle = true → ∃ t, exec .refSessionTimeout s = .next t ∧
      t.cal.session = none ∧ Completed t y.handle stTimeout ∧ t.raised 110 = true) ∧
    ((rsMeter y.row = false ∨ y.reading ≠ none) → exec .refSessionTimeout s = .next s)) ∧
  (∀ (k v : Nat) (o : Origin) (x : Row) (s : State), Passes s o 0x262400 k (fun d => numRow d v) x →
    ∃ t, exec (.sensorGainReset k v o) s = .next t ∧ Answers t stOk 0 ∧
      (v = 1 → t.fld oSensorGain k 0 = toF32 1 ∧ t.fld oSensorGain k 1 = 0 ∧ t.fld oSensorGain k 2 = 0 ∧
        ∀ r, r < 256 → sensorRow r (s.row oRegion r) = k → ∀ j, t.fld oRegionTrace r j = 0) ∧
      (v ≠ 1 → (∀ i, t.row oSensorGain i = s.row oSensorGain i) ∧ t.cal = s.cal))

/-- The two paths between twins (R381 to R385, R390, R393): beats and heartbeats sent, a beat (before Berm service too) and a heartbeat
received, and each way in which a path is lost, with what the loss of the partner does to a LEADER or a FOLLOWER. -/
def Obligations.TwinPaths : Prop :=
  (∀ u s : State, s.timeRuns = true → s.twinEnabled = true →
    (u = s.advanceTo s.twin.nextBeat → ∃ t, exec .beatSend s = .next t ∧ t.twin.lastBeat = u.beatBytes ++ beBytes 4 (crc32c u.beatBytes) ∧
      t.twin.beatSeq = (s.twin.beatSeq + 1) % 65536 ∧ t.twin.nextBeat = u.now + 250000) ∧
    (u = s.advanceTo s.twin.nextHeart → ∃ t, exec .heartbeatSend s = .next t ∧
      t.twin.nextHeart = u.now + s.val 0x121007 * 1000000 ∧
      (s.val 0x12100E = 0xFF → s.portState 2 = 1 → (∀ n, n ≤ 6 → s.grant 22 n = n) →
        ∃ c f, t.queue 22 = s.queue 22 ++ [c] ∧ c.tx = some f ∧ f.kind = .heartbeat))) ∧
  (∀ (a : Nat) (bs : List Byte) (s : State), s.booting = true → bs.length = 152 → crc32c (bs.take 148) = beatByte bs 148 4 →
    beatByte bs 0 1 = 1 → ∃ t, exec (.dikeBeat a bs) s = .next t ∧ t.dike = 1 ∧ t.twin.bootBeat = bs.take 148 ∧
      t.twinState = s.twinState) ∧
  (∀ (a : Nat) (bs : List Byte) (u s : State), u = s.advanceTo a → s.timeRuns = true →
    ((bs.length ≠ 152 ∨ crc32c (bs.take 148) ≠ beatByte bs 148 4 ∨ beatByte bs 0 1 ≠ 1) → ∃ t, exec (.dikeBeat a bs) s = .next t ∧
      t.fld oTwinCnt 0 4 = (s.fld oTwinCnt 0 4 + 1) % 2 ^ 64 ∧ t.twinState = s.twinState ∧ t.twin = s.twin) ∧
    (bs.length = 152 → crc32c (bs.take 148) = beatByte bs 148 4 → beatByte bs 0 1 = 1 → ∃ t, exec (.dikeBeat a bs) s = .next t ∧
      t.dike = 1 ∧ t.twin.beatAt = some u.now ∧
      (s.twinEnabled = true → beatByte bs 1 1 = s.val 0x121002 → (∃ p, t.twin.partner = some p ∧ p.state = beatByte bs 2 1 ∧
        p.rank = beatByte bs 4 1 ∧ p.handoverAt = beatByte bs 8 10) ∧ t.fld oTwin 0 1 = beatByte bs 2 1 ∧ t.fld oTwin 0 3 = beatByte bs 3 1) ∧
      (s.full = true → s.twinEnabled = true → beatByte bs 1 1 = s.val 0x121002 → s.twinState = 0 → beatByte bs 2 1 = 2 →
        beatByte bs 4 1 ≠ s.rank → (∀ q, q < 16 → (s.quire q).sigs = []) → t.twinState = 1 ∧ t.fld oTwin 0 7 = 1 ∧
        t.fld oTwin 0 2 = crestFor 1 s.rank ∧ t.raised 24 = true))) ∧
  (∀ (m : EopMsg) (u s : State), Passes5 s 0x20 m u → 2 ≤ m.port → (u.val 0x12100E = 0xFF ∨ isSealed m = true) →
    (u.twinEnabled = true → beatByte m.payload 0 1 = 1 → beatByte m.payload 1 1 = u.val 0x121002 → ∃ t, exec (.heartbeat m) s = .next t ∧
      t.chainUp = true ∧ t.twin.heartAt = some u.now ∧ t.twin.partnerMac = some m.srcMac ∧
      t.fld oTwin 0 1 = beatByte m.payload 2 1 ∧ (u.chainUp = false → t.raised 27 = true)) ∧
    (u.twinEnabled = false → ∃ t, exec (.heartbeat m) s = .next t ∧ t.twin = u.twin ∧ t.chainUp = u.chainUp)) ∧
  (∀ s : State, s.timeRuns = true →
    (∃ t, exec .dikeDropped s = .next t ∧ t.dike = 2 ∧ (s.dike ≠ 2 → t.raised 25 = true ∧ t.raised 26 = true ∧
      t.fld oTwinCnt 0 1 = (s.fld oTwinCnt 0 1 + 1) % 2 ^ 64) ∧
      (s.full = true → s.twinEnabled = true → (s.twinState = 1 ∨ s.twinState = 2) → t.twinState = 0 ∧ t.fld oTwin 0 7 = 3)) ∧
    (∃ t, exec .dikeDown s = .next t ∧ t.dike = 0 ∧ (s.dike ≠ 0 → t.raised 26 = true) ∧
      (s.full = true → s.twinEnabled = true → s.chainUp = false → (s.twinState = 1 ∨ s.twinState = 2) →
        t.twinState = 0 ∧ t.fld oTwin 0 7 = 2)) ∧
    (∀ b, s.twin.beatAt = some b → s.dike = 1 → ∃ t, exec .dikeBeatTimeout s = .next t ∧ t.dike = 0 ∧ b + 1000000 ≤ t.now ∧
      t.raised 26 = true ∧ t.fld oTwinCnt 0 2 = (s.fld oTwinCnt 0 2 + 1) % 2 ^ 64 ∧
      (s.full = true → s.twinEnabled = true → s.chainUp = false → (s.twinState = 1 ∨ s.twinState = 2) →
        t.twinState = 0 ∧ t.fld oTwin 0 7 = 2)) ∧
    (∀ b, s.twin.heartAt = some b → s.chainUp = true → ∃ t, exec .chainTimeout s = .next t ∧ t.chainUp = false ∧ t.raised 27 = true ∧
      b + s.val 0x121008 * s.val 0x121007 * 1000000 ≤ t.now ∧ t.fld oTwinCnt 0 3 = (s.fld oTwinCnt 0 3 + 1) % 2 ^ 64 ∧
      (s.full = true → s.twinEnabled = true → s.dike = 0 → (s.twinState = 1 ∨ s.twinState = 2) → t.twinState = 0 ∧ t.fld oTwin 0 7 = 2)))

/-- The timed changes of state of a twin (R393, R394, R396 to R400): the partner out for 2 s, a join that takes too long, an automatic
rejoin, the request to revert, a handover at its instant, and a handover withdrawn without an echo. -/
def Obligations.TwinTransitions : Prop :=
  (∀ (b : Nat) (s : State), s.full = true → s.timeRuns = true → s.twinEnabled = true → s.twinState = 4 → s.twin.outSince = some b →
    s.partnerIn = false → ∃ t, exec .partnerOut s = .next t ∧ t.twinState = 0 ∧ t.fld oTwin 0 7 = 4 ∧ b + 2000000000 ≤ t.now ∧
      t.fld oTwin 0 2 = crestFor 0 s.rank ∧ t.raised 24 = true) ∧
  (∀ u s : State, s.full = true → s.timeRuns = true → s.twinEnabled = true → s.twinState = 4 →
    u = s.advanceTo (s.twin.since + s.val 0x12100B * 1000000000) →
    (s.partnerIn = true → u.joinReady = true → ∃ t, exec .joinTimeout s = .next t ∧ t.twinState = 2 ∧ t.fld oTwin 0 7 = 1) ∧
    ((s.partnerIn = true → u.joinReady = false) → s.twin.outSince = none → (s.partnerState = 4 → s.rank ≤ s.partnerRank) →
      ∃ t, exec .joinTimeout s = .next t ∧ t.twinState = 3 ∧ t.fld oTwin 0 7 = 9 ∧ t.fld oTwin 0 2 = 0 ∧
        s.twin.since + s.val 0x12100B * 1000000000 ≤ t.now ∧ t.fld oTwinCnt 0 8 = (s.fld oTwinCnt 0 8 + 1) % 2 ^ 64)) ∧
  (∀ (u s : State) (recent : List Nat), s.full = true → s.twinEnabled = true → s.twinState = 3 → (s.twin.reason = 6 ∨ s.twin.reason = 9) →
    u = s.advanceTo (s.twin.since + s.val 0x12100D * 1000000000) →
    recent = s.twin.rejoins.filter (fun x => decide (u.now ≤ x + 3600000000000) && decide (x < u.now)) →
    (recent.length < 3 → s.partnerPresent = false → 0 < s.val 0x12100B → ∃ t, exec .holdElapsed s = .next t ∧ t.twinState = 4 ∧ t.fld oTwin 0 7 = 10 ∧
      t.twin.rejoins = u.now :: recent ∧ t.twin.outSince = some u.now) ∧
    (3 ≤ recent.length → ∃ t, exec .holdElapsed s = .next t ∧ t.twinState = 3)) ∧
  (∀ s : State, s.full = true → s.timeRuns = true → s.twinEnabled = true → s.twinState = 2 → s.val 0x121004 = 1 → s.val 0x120002 ≤ 8 →
    ∃ t, exec .revertReq s = .next t ∧ t.twin.revertReq = true ∧ s.twin.since + s.val 0x12100C * 1000000000 ≤ t.now) ∧
  (∀ (a : Nat) (b : Option Nat) (u s : State), s.twin.handover = some (a, b, true) → u = s.advanceTo a → s.full = true →
    s.timeRuns = true → s.twinEnabled = true → (s.twinState = 1 ∨ s.twinState = 2) →
    (s.partnerOut = false → (∀ x, s.twin.beatAt = some x → s.dike = 1 → u.now < x + 1000000) →
      (∀ x, s.twin.heartAt = some x → s.chainUp = true → u.now < x + s.val 0x121008 * s.val 0x121007 * 1000000) →
      ∃ t, exec .handover s = .next t ∧ t.twinState = swapRole s.twinState ∧ t.fld oTwin 0 7 = 5 ∧
        t.fld oTwin 0 2 = crestFor (swapRole s.twinState) s.rank ∧ t.twin.handover = none ∧ t.raised 29 = true ∧
        t.fld oTwinCnt 0 9 = (s.fld oTwinCnt 0 9 + 1) % 2 ^ 64 ∧
        ∀ k, s.twin.handoverTask = some k → s.handleLive k = true → Completed t k stOk) ∧
    (∀ x, s.twin.beatAt = some x → s.dike = 1 → s.chainUp = false → x + 1000000 ≤ u.now →
      ∃ t, exec .handover s = .next t ∧ t.twinState = 0 ∧ t.fld oTwin 0 7 = 2 ∧ t.twin.handover = none ∧ t.raised 29 = true ∧
        t.fld oTwinCnt 0 10 = (s.fld oTwinCnt 0 10 + 1) % 2 ^ 64 ∧
        ∀ k, s.twin.handoverTask = some k → s.handleLive k = true → Completed t k stCancelled)) ∧
  (∀ (a : Nat) (b : Option Nat) (s : State), s.twin.handover = some (a, b, false) → s.twinState = 1 →
    ∃ t, exec .handoverWithdraw s = .next t ∧ t.twin.handover = none ∧ t.twinState = 1 ∧ t.fld oTwin 0 9 = 0 ∧ t.raised 29 = true ∧
      t.fld oTwinCnt 0 10 = (s.fld oTwinCnt 0 10 + 1) % 2 ^ 64 ∧
      ∀ k, s.twin.handoverTask = some k → s.handleLive k = true → Completed t k stCancelled)

/-- The commands of a twin (R375, R393, R399): DEMOTE, HANDOVER_AT and REJOIN, accepted and refused. A handover already proposed gives way to
a new one (the model's choice, log entry 81). -/
def Obligations.TwinCommands : Prop :=
  (∀ (v : Nat) (o : Origin) (x : Row) (s : State), Passes s o 0x502000 0 (fun d => numRow d v) x →
    ∃ t, exec (.demote v o) s = .next t ∧ Answers t stOk 0 ∧
      (v = 1 → s.twinEnabled = true → ¬(s.twinState = 3 ∧ s.twin.reason = 8) → t.twinState = 3 ∧ t.fld oTwin 0 7 = 7 ∧ t.raised 24 = true ∧
        (s.twinDueHigh false = none → t.fld oTwinCnt 0 8 = (s.fld oTwinCnt 0 8 + 1) % 2 ^ 64)) ∧
      (s.twinState = 3 → s.twin.reason = 8 → t.twinState = 3 ∧ t.twin.reason = 8 ∧ t.fld oTwin 0 7 = s.fld oTwin 0 7) ∧
      ((v = 0 ∨ s.twinEnabled = false) → t.twinState = s.twinState ∧ t.twin = s.twin)) ∧
  (∀ (v : List Byte) (o : Origin) (x : Row) (s : State), Passes s o 0x502100 0 (fun d => rowOf d v) x →
    ∃ t, exec (.handoverAt v o) s = .next t ∧
      (s.twinState ≠ 1 → Answers t stState 0 ∧ t.twin = s.twin) ∧
      (s.twinState = 1 → ptNs (x.headD 0) < s.now + 200000000 → Answers t stRange 0 ∧ t.twin = s.twin) ∧
      (s.twinState = 1 → s.now + 200000000 ≤ ptNs (x.headD 0) → s.diverged = true → Answers t stState 0 ∧
        t.twin = s.twin) ∧
      (s.twinState = 1 → s.now + 200000000 ≤ ptNs (x.headD 0) → s.diverged = false → Answers t stOk 0 ∧
        t.twin.handover = some (ptNs (x.headD 0), none, false) ∧ t.fld oTwin 0 9 = x.headD 0 ∧
        (s.twin.handover ≠ none → t.raised 29 = true ∧ t.fld oTwinCnt 0 10 = (s.fld oTwinCnt 0 10 + 1) % 2 ^ 64 ∧
          ∀ k, s.twin.handoverTask = some k → s.handleLive k = true → Completed t k stCancelled))) ∧
  (∀ (v : Nat) (o : Origin) (x : Row) (s : State), Passes s o 0x502200 0 (fun d => numRow d v) x →
    ∃ t, exec (.rejoin v o) s = .next t ∧ Answers t stOk 0 ∧
      (v = 1 → s.twinEnabled = true → s.twinState = 3 → s.twin.reason ≠ 8 → s.partnerPresent = false → 0 < s.val 0x12100B → t.twinState = 4 ∧
        t.fld oTwin 0 7 = 7 ∧ t.raised 24 = true) ∧
      ((v = 0 ∨ s.twinEnabled = false ∨ s.twinState ≠ 3 ∨ s.twin.reason = 8) → t.twinState = s.twinState ∧ t.twin = s.twin))

/-- Weir tasks over time (R405, R409 to R414, R421, R424, R426 to R432): a graph of one record that passes the checks creates its task,
WAITING and without a predecessor, and a refused graph creates none; a task whose gates are satisfied becomes READY or ends at its
deadline; a core's completion carries the status of the write it makes. -/
def Obligations.TaskInstants : Prop :=
  (∀ (slot : Nat) (k : Task) (u s : State), k = s.task slot →
    ((k.state ≠ 1 ∨ k.counter ≠ 0) → exec (.taskReady slot) s = .next s) ∧
    (k.state = 1 → k.counter = 0 → (u = if k.timed = true then s.advanceTo (tickUp (ptNs k.gate)) else s) →
      (k.fenced = true → reached (u.fenceSeen k.fence u.tbUnits) k.fenceVal = false → exec (.taskReady slot) s = .next s) ∧
      ((k.fenced = false ∨ reached (u.fenceSeen k.fence u.tbUnits) k.fenceVal = true) →
      ((k.bounded = false ∨ u.now < k.deadTick) → ∃ t, exec (.taskReady slot) s = .next t ∧ (t.task slot).state = 2 ∧
        (t.task slot).readyAt = u.nowPt ∧ (t.task slot).rseq = readyBase + s.weir.rseq ∧ t.weir.rseq = s.weir.rseq + 1 ∧
        (t.task slot).handle = k.handle ∧ ∀ j, j ≠ slot → t.task j = s.task j) ∧
      (k.bounded = true → k.deadTick ≤ u.now → u.cancelComes k.handle = true → exec (.taskReady slot) s = .next u) ∧
      (k.bounded = true → k.deadTick ≤ u.now → u.cancelComes k.handle = false → s.handleLive k.handle = true →
        ∃ t, exec (.taskReady slot) s = .next t ∧ Completed t k.handle stTimeout)))) ∧
  (∀ (slot : Nat) (k : Task) (s : State), k = s.task slot →
    ((k.bounded = false ∨ k.waits = false) → exec (.taskDeadline slot) s = .next s) ∧
    (k.bounded = true → k.waits = true → s.timeRuns = true → (s.advanceTo k.deadTick).cancelComes k.handle = false →
      s.handleLive k.handle = true → ∃ t, exec (.taskDeadline slot) s = .next t ∧ Completed t k.handle stTimeout ∧ k.deadTick ≤ t.now ∧
      t.fld oWeirCnt 0 8 = (s.fld oWeirCnt 0 8 + 1) % 2 ^ 64)) ∧
  (∀ (slot st : Nat) (k : Task) (r : WRes) (s : State), k = s.task slot → k.state = 3 → k.cls = 0 →
    s.weir.cores.any (fun e => e.2.handle == k.handle) = true → s.handleLive k.handle = true →
    (st = stInternal → ∃ t, exec (.taskComplete slot st) s = .next t ∧ Completed t k.handle stInternal ∧ t.raised 123 = true) ∧
    (st ≠ stInternal → r = writeObj k.who (k.nat 2 2 * 256 + k.byte 4) 0 (fun d => rowOf d ((k.params.drop 8).take (k.byte 5))) s →
      (r.status ≠ stAccepted → r.st.handleLive k.handle = true → ∃ t, exec (.taskComplete slot st) s = .next t ∧
        Completed t k.handle r.status) ∧
      (r.status = stAccepted → ∃ t, exec (.taskComplete slot st) s = .next t ∧
        t.weir.cores.any (fun e => e.2.handle == k.handle) = false))) ∧
  (∀ (m : EopMsg) (i h : Nat) (r : List Byte) (u s : State), OnSession s 0x06 m i u → storedAnswer (u.session i).answers m.id = none →
    u.full = true → m.payload = [1#8, 1#8, 0#8, 0#8, 0#8, 0#8, 0#8, 0#8] ++ r → r.length = 48 → recordOk r = true →
    coreObject r = stOk → coreAccess (originCritical (msgWho m i).origin) r = stOk → (rB r 3).testBit 2 = false → NewHandle u h →
    ∃ t, exec (.submit m) s = .next t ∧ Replies t i m.id { op := 0x06, status := stAccepted, handle := h, data := beBytes 4 h } ∧
      t.handleLive h = true ∧ (t.task (h % 1024)).state = 1 ∧ (t.task (h % 1024)).counter = 0 ∧ (t.task (h % 1024)).cls = rB r 0 ∧
      (t.task (h % 1024)).prio = rB r 1 ∧ (t.task (h % 1024)).domain = rB r 2 ∧ (t.task (h % 1024)).params = r.drop 32) ∧
  (∀ (m : EopMsg) (i st part : Nat) (u s : State), OnSession s 0x06 m i u → storedAnswer (u.session i).answers m.id = none →
    u.full = true → (u.bump oWeirCnt 0 0).graphBad (originCritical (msgWho m i).origin) m.payload = some (st, part) →
    ∃ t, exec (.submit m) s = .next t ∧ Replies t i m.id { op := 0x06, status := st, handle := 0, data := beBytes 2 part } ∧
      (∀ k, 64 ≤ k → t.task k = u.task k) ∧ t.fld oWeirCnt 0 1 = (u.fld oWeirCnt 0 1 + 1) % 2 ^ 64)

/-- Dispatch (R416 to R421, R429): the task that leaves its list first begins on an idle core, displaces a core's task of lower priority,
or goes to its engine: a fade armed, a Cameg request made, a demotion. -/
def Obligations.TaskDispatch : Prop :=
  ∀ (c slot : Nat) (k : Task) (v s : State), v = s.overdue →
    (v.nextTask c = none → exec (.taskDispatch c) s = .next v) ∧
    (v.nextTask c = some (slot, k) →
      (c = 0 → (∀ i, v.idleCore = some i → k = v.task slot →
          (k.nat 0 2 = 0 → v.handleLive k.handle = true → ∃ t, exec (.taskDispatch c) s = .next t ∧ Completed t k.handle stOk) ∧
          (k.nat 0 2 ≠ 0 → ∃ t run, exec (.taskDispatch c) s = .next t ∧ (t.task slot).state = 3 ∧ (t.task slot).dispatched = true ∧
            tfind t.weir.cores i = some run ∧ run.handle = k.handle ∧ run.prio = k.prio)) ∧
        (v.idleCore = none → (k.prio < v.val 0x300003 ∨ v.victim k.prio = none) → exec (.taskDispatch c) s = .next v) ∧
        (∀ e, v.idleCore = none → v.val 0x300003 ≤ k.prio → v.victim k.prio = some e → k = v.task slot → e.2.handle % 1024 ≠ slot →
          k.nat 0 2 ≠ 0 → ∃ t run, exec (.taskDispatch c) s = .next t ∧ tfind t.weir.cores e.1 = some run ∧ run.handle = k.handle ∧
            (t.task slot).state = 3 ∧ (t.task (e.2.handle % 1024)).state = 2 ∧
            t.fld oWeirCnt 0 4 = (v.fld oWeirCnt 0 4 + 1) % 2 ^ 64)) ∧
      (c = 3 → k.byte 1 = 1 → k.byte 2 = 0 → (v.fadeState (k.byte 0) = 0 ∨ v.fadeState (k.byte 0) = 3) →
        v.now < fdStartTick (v.row oFade (k.byte 0)) → v.now < fdEndTick (v.row oFade (k.byte 0)) →
        ∃ t, exec (.taskDispatch c) s = .next t ∧ (t.task slot).state = 3 ∧ t.fadeState (k.byte 0) = 1 ∧
          (t.fade (k.byte 0)).task = some k.handle ∧ (t.fade (k.byte 0)).row = v.row oFade (k.byte 0)) ∧
      (c = 5 → k.byte 12 = 1 → k.handle ≠ 0 → k.byte 0 < 16 → v.requestsFull (k.byte 0) = false → v.quireState (k.byte 0) = 2 →
        legacy (v.qRate (k.byte 0)) = false → ∃ t r, exec (.taskDispatch c) s = .next t ∧ (t.task slot).state = 3 ∧
          (t.quire (k.byte 0)).requests = (v.quire (k.byte 0)).requests ++ [r] ∧ r.handle = k.handle ∧ r.enum = true) ∧
      (c = 6 → k.byte 0 = 0 → v.twinEnabled = true → v.twinState ≠ 3 → v.twin.handoverTask = none → k = v.task slot →
        v.handleLive k.handle = true → ∃ t, exec (.taskDispatch c) s = .next t ∧ t.twinState = 3 ∧ t.fld oTwin 0 7 = 7 ∧
          Completed t k.handle stOk))

/-- Memory integrity (R536 to R557): a page decode and a scrub visit count what they correct and log it, leave the contents, or start the
integrity reset, after which no page is decoded or visited; the log is cleared; an arbitration window notes what it served, counts the
consumers that give way, and an open writeback frame is abandoned. -/
def Obligations.IntegrityCommands : Prop :=
  (∀ (mem page base rank : Nat) (words : List WordFlips) (checks : List (Nat × Nat)) (x : PageFind) (s : State),
    s.power.inReset = false → s.integ.failed = none → mem ≤ 1 → s.pageAt mem page = some base →
    x = pageFind (words.filter (fun w => s.wordValid mem page w.word)) checks →
    (x.ok = true → ∃ t, exec (.pageDecode mem page words checks rank) s = .next t ∧ t.dram = s.dram ∧ t.vault = s.vault ∧
      t.power = s.power ∧ t.fld oIntegCnt mem 0 % 2 ^ 64 = (s.fld oIntegCnt mem 0 + x.light.length) % 2 ^ 64 ∧
      t.fld oIntegCnt mem 1 % 2 ^ 64 = (s.fld oIntegCnt mem 1 + x.erased.length) % 2 ^ 64 ∧
      t.fld oIntegCnt mem 2 % 2 ^ 64 = (s.fld oIntegCnt mem 2 + x.symbols.length) % 2 ^ 64 ∧
      t.fld oIntegCnt mem 3 % 2 ^ 64 = (s.fld oIntegCnt mem 3 + x.checks.length) % 2 ^ 64 ∧
      (x.decodes = true → t.fld oIntegCnt mem 4 = (s.fld oIntegCnt mem 4 + 1) % 2 ^ 64) ∧
      ∀ w, x.light = [w] → x.decodes = false → s.integ.log.length < 16 →
        t.integ.log.any (fun e => e.getD 0 0 == mem && e.getD 1 0 == base + 8 * w && e.getD 2 0 == 1) = true) ∧
    (x.ok = false → ¬(s.power.recording = true ∧ s.aon.cause = 4) →
      ∃ t, exec (.pageDecode mem page words checks rank) s = .next t ∧ t.power = (s.requestReset 4 mem base rank).power ∧
        t.aon = (s.requestReset 4 mem base rank).aon ∧ t.integ.failed = some (mem, base) ∧ t.dram = s.dram ∧ t.vault = s.vault)) ∧
  (∀ (mem page rank : Nat) (words : List WordFlips) (checks : List (Nat × Nat)) (s : State), s.integ.failed.isSome = true →
    exec (.pageDecode mem page words checks rank) s = .next s ∧ exec (.scrubVisit mem words checks) s = .next s) ∧
  (∀ (mem base : Nat) (words : List WordFlips) (checks : List (Nat × Nat)) (x : PageFind) (s : State), s.full = true → s.integ.failed = none → mem ≤ 1 →
    (s.scrub mem).running = true → s.pageAt mem (s.fld oScrub mem 0) = some base →
    (mem = 0 ∨ s.pageValid (s.fld oScrub mem 0) = true) →
    x = pageFind (words.filter (fun w => s.wordValid mem (s.fld oScrub mem 0) w.word)) checks → x.ok = true →
    ∃ t, exec (.scrubVisit mem words checks) s = .next t ∧ t.dram = s.dram ∧ t.vault = s.vault ∧
      t.fld oIntegCnt mem 5 = (s.fld oIntegCnt mem 5 + 1) % 2 ^ 64 ∧
      t.fld oIntegCnt mem 0 % 2 ^ 64 = (s.fld oIntegCnt mem 0 + x.light.length) % 2 ^ 64 ∧
      (s.fld oScrub mem 0 + 1 < (s.scrub mem).pages → t.fld oScrub mem 0 = s.fld oScrub mem 0 + 1) ∧
      ((s.scrub mem).pages ≤ s.fld oScrub mem 0 + 1 → t.fld oScrub mem 0 = 0 ∧
        t.fld oScrub mem 1 = (s.fld oScrub mem 1 + 1) % 2 ^ 32 ∧ t.raised 19 = true)) ∧
  (∀ (v : Nat) (o : Origin) (x : Row) (s : State), Passes s o 0x311100 0 (fun d => numRow d v) x →
    ∃ t, exec (.logClear v o) s = .next t ∧ Answers t stOk 0 ∧ (v = 1 → t.integ.log = []) ∧ (v ≠ 1 → t.integ.log = s.integ.log)) ∧
  (∀ (n : Nat) (ds ws : List Demand) (s : State), s.full = true → ws = giveWays n ds →
    (ws = [] → exec (.arbitrationWindow n ds) s = .next (s.windowServed n ds)) ∧
    (ws ≠ [] → ∃ t, exec (.arbitrationWindow n ds) s = .next t ∧ t.integ.giveway = (s.integ.giveway + 1) % 2 ^ 64 ∧
      (∀ i, i < 10 → ws.any (fun d => d.rank == i + 1) = true → t.fld 0x431100 i 0 = (s.fld 0x431100 i 0 + 1) % 2 ^ 64) ∧
      (∀ i, i < 10 → ws.any (fun d => d.rank == i + 1) = false → t.fld 0x431100 i 0 = s.fld 0x431100 i 0) ∧
      ∀ d, ws = [d] → d.rank = 8 → d.unit_ < 2 → (s.head d.unit_).wback.busy.isSome = true → (t.head d.unit_).wback.busy = none ∧
        (s.rasterRuns d.unit_ = true → t.raised (32 + 16 * d.unit_ + 13) = true) ∧ t.fld oHeadCnt d.unit_ 11 = (s.fld oHeadCnt d.unit_ 11 + 1) % 2 ^ 64))

/-- The transfer of an image (R648 to R652): DOWNLOAD, the erase, a fragment that is new, one whose block is held, one without a transfer or too late,
a block programmed or not, and the timeout. -/
def Obligations.TransferCommands : Prop :=
  (∀ (v : List Byte) (o : Origin) (x : Row) (h : Nat) (s : State), Passes s o 0x320100 0 (fun d => rowOf d v) x →
    ∃ t, exec (.download v o) s = .next t ∧
      ((s.updateIdle = false ∨ s.flash.boot.pending ≠ 0xFF) → Answers t stState 0 ∧ t.update = s.update ∧ t.flash = s.flash) ∧
      (s.updateIdle = true → s.flash.boot.pending = 0xFF → NewHandle s h → Answers t stAccepted h ∧ t.update.state = 1 ∧
        t.update.transfer = some { id := x.getD 0 0, blocks := x.getD 1 0, relay := x.getD 2 0 == 1, held := [], programming := [],
                                   partials := [], last := s.now, handle := h } ∧
        t.slot s.inactive = .blocks (x.getD 1 0) [] ∧ t.flash.boot.erases s.inactive = s.flash.boot.erases s.inactive + 1 ∧
        t.flash.boot.active = s.flash.boot.active)) ∧
  (∀ (x : Transfer) (s : State), s.update.transfer = some x → s.timeRuns = true → s.update.state = 1 →
    (∃ t, exec (.eraseDone true) s = .next t ∧ t.update.state = 2 ∧ t.update.transfer = some { x with last := s.now }) ∧
    (s.handleLive x.handle = true → ∃ t, exec (.eraseDone false) s = .next t ∧ t.update.state = 9 ∧ t.raised 15 = true ∧
      Completed t x.handle stInternal)) ∧
  (∀ (m : EopMsg) (f : Fragment) (u s : State), Passes5 s 0x21 m u → m.payload.length = 1064 → f = readFragment m.payload →
    (u.update.transfer = none → ∃ t, exec (.imageBlock m) s = .next t ∧ t.eop.lastAnswer.status = stState ∧
      t.fld oBootCnt 0 9 = (u.fld oBootCnt 0 9 + 1) % 2 ^ 64 ∧ t.update = u.update) ∧
    (∀ x, u.update.transfer = some x → x.id = f.id → f.block < x.blocks → f.frag < 4 → u.update.state = 2 →
      (x.last + 60000000000 ≤ u.now → u.handleLive x.handle = true → ∃ t, exec (.imageBlock m) s = .next t ∧
        t.eop.lastAnswer.status = stState ∧ t.update.state = 9 ∧ Completed t x.handle stTimeout) ∧
      (u.now < x.last + 60000000000 → (f.block ∈ x.held ∨ (tfind x.programming f.block).isSome = true) → ∃ t, exec (.imageBlock m) s = .next t ∧
        t.eop.lastAnswer.status = stOk ∧ t.update.transfer = some { x with last := u.now } ∧
        t.fld oBootCnt 0 8 = (u.fld oBootCnt 0 8 + 1) % 2 ^ 64) ∧
      (u.now < x.last + 60000000000 → f.block ∉ x.held → tfind x.programming f.block = none → tfind x.partials f.block = none → x.partials.length < 64 →
        ∃ t, exec (.imageBlock m) s = .next t ∧ t.eop.lastAnswer.status = stOk ∧
          t.update.transfer = some { x with partials := tins x.partials f.block (f.sha, [(f.frag, f.data)]), last := u.now } ∧
          t.fld oBootCnt 0 7 = (u.fld oBootCnt 0 7 + 1) % 2 ^ 64) ∧
      (∀ p, u.now < x.last + 60000000000 → f.block ∉ x.held → tfind x.programming f.block = none → tfind x.partials f.block = some (f.sha, p) →
        (tins p f.frag f.data).length = 4 → sha256 (joinFragments (tins p f.frag f.data)) = f.sha →
        ∃ t, exec (.imageBlock m) s = .next t ∧ t.eop.lastAnswer.status = stOk ∧
          t.update.transfer = some { x with partials := tdel x.partials f.block, last := u.now,
                                            programming := tins x.programming f.block (joinFragments (tins p f.frag f.data), 0) }))) ∧
  (∀ (b fails : Nat) (data : List Byte) (x : Transfer) (s : State), s.update.transfer = some x → s.timeRuns = true →
    s.update.state = 2 → tfind x.programming b = some (data, fails) →
    (x.held.length + 1 < x.blocks → ∃ t, exec (.blockProgramDone b true) s = .next t ∧ t.update.state = 2 ∧
      t.update.transfer = some { x with programming := tdel x.programming b, held := b :: x.held } ∧
      ∀ n hs, s.slot s.inactive = .blocks n hs → t.slot s.inactive = .blocks x.blocks (tins hs b data)) ∧
    (x.blocks ≤ x.held.length + 1 → s.handleLive x.handle = true → ∃ t, exec (.blockProgramDone b true) s = .next t ∧
      t.update.state = 3 ∧ Completed t x.handle stOk) ∧
    (fails = 0 → ∃ t, exec (.blockProgramDone b false) s = .next t ∧ t.update.state = 2 ∧ t.raised 15 = true ∧
      t.update.transfer = some { x with programming := tins x.programming b (data, 1) }) ∧
    (1 ≤ fails → s.handleLive x.handle = true → ∃ t, exec (.blockProgramDone b false) s = .next t ∧ t.update.state = 9 ∧
      t.raised 15 = true ∧ Completed t x.handle stInternal)) ∧
  (∀ (x : Transfer) (s : State), s.update.transfer = some x → s.timeRuns = true → s.update.state = 2 → s.handleLive x.handle = true →
    ∃ t, exec .transferTimeout s = .next t ∧ t.update.state = 9 ∧ Completed t x.handle stTimeout ∧ x.last + 60000000000 ≤ t.now)

/-- Verification and the two-phase commit (R647, R653 to R656): VERIFY and its outcome, PREPARE, COMMIT and ABORT, each in the states that
take it and refused in the others. -/
def Obligations.VerifyAndCommit : Prop :=
  (∀ (v h : Nat) (o : Origin) (x : Row) (s : State), Passes s o 0x320200 0 (fun d => numRow d v) x →
    ∃ t, exec (.verify v o) s = .next t ∧
      (v = 0 → Answers t stOk 0 ∧ t.update = s.update) ∧
      (v = 1 → s.updateIdle = false → Answers t stState 0 ∧ t.update = s.update) ∧
      (v = 1 → s.updateIdle = true → NewHandle s h → Answers t stAccepted h ∧ t.update.state = 4 ∧ t.update.verifyHandle = h)) ∧
  (∀ (r : Nat × Nat) (s : State), s.timeRuns = true → s.update.state = 4 → r = verifySlot s.flash.otpFloor (s.slot s.inactive) →
    s.handleLive s.update.verifyHandle = true → ∃ t, exec .verifyDone s = .next t ∧
      t.row 0x320300 0 = [r.1, r.2, (s.slot s.inactive).version] ∧ t.raised 9 = true ∧
      (r.1 = 0 → t.update.state = 5 ∧ t.update.verifiedVersion = (s.slot s.inactive).version ∧
        Completed t s.update.verifyHandle stOk) ∧
      (r.1 ≠ 0 → t.update.state = 9 ∧ t.update.verifiedVersion = 0 ∧ Completed t s.update.verifyHandle stRange ∧
        t.fld oBootCnt 0 12 = (s.fld oBootCnt 0 12 + 1) % 2 ^ 64)) ∧
  (∀ (v : List Byte) (o : Origin) (x : Row) (s : State), Passes s o 0x320400 0 (fun d => rowOf d v) x →
    ∃ t, exec (.prepare v o) s = .next t ∧
      (s.update.state = 5 → x.getD 0 0 = s.update.verifiedVersion → (x.getD 1 0 = 0 ∨ s.now + 5000000000 ≤ ptNs (x.getD 1 0)) →
        Answers t stOk 0 ∧ t.update.state = 6 ∧ t.flash.boot.phase = 1 ∧ t.flash.boot.version = x.getD 0 0 ∧
        t.flash.boot.at_ = x.getD 1 0 ∧ t.raised 10 = true) ∧
      ((s.update.state ≠ 5 ∨ x.getD 0 0 ≠ s.update.verifiedVersion ∨ (x.getD 1 0 ≠ 0 ∧ ptNs (x.getD 1 0) < s.now + 5000000000)) →
        Answers t stState 0 ∧ t.update = s.update ∧ t.flash = s.flash)) ∧
  (∀ (v : Nat) (o : Origin) (x : Row) (s : State), Passes s o 0x320500 0 (fun d => numRow d v) x →
    ∃ t, exec (.commit v o) s = .next t ∧
      (v = 1 → s.update.state = 6 → Answers t stOk 0 ∧ t.update.state = 7 ∧ t.flash.boot.phase = 2 ∧ t.raised 10 = true) ∧
      (v = 1 → s.update.state ≠ 6 → Answers t stState 0 ∧ t.update = s.update ∧ t.flash = s.flash) ∧
      (v = 0 → Answers t stOk 0 ∧ t.update = s.update ∧ t.flash = s.flash)) ∧
  (∀ (v : Nat) (o : Origin) (x : Row) (s : State), Passes s o 0x320600 0 (fun d => numRow d v) x →
    ∃ t, exec (.abort v o) s = .next t ∧
      (v = 1 → (s.update.state = 6 ∨ s.update.state = 7 ∨ s.update.state = 8) → Answers t stOk 0 ∧ t.update.state = 5 ∧
        t.flash.boot.phase = 0 ∧ t.raised 10 = true) ∧
      (∀ y, v = 1 → (s.update.state = 1 ∨ s.update.state = 2) → s.update.transfer = some y → s.handleLive y.handle = true →
        Answers t stOk 0 ∧ t.update.state = 9 ∧ Completed t y.handle stCancelled) ∧
      (v = 1 → s.update.state = 5 → s.update.trial = 1 → Answers t stOk 0 ∧ t.flash.boot.pending = 0xFF ∧ t.flash.boot.result = 5 ∧
        t.update.trial = 2) ∧
      (v = 1 → s.update.state = 5 → s.update.trial ≠ 1 → Answers t stState 0 ∧ t.update = s.update ∧ t.flash = s.flash) ∧
      (v = 0 → Answers t stOk 0 ∧ t.update = s.update ∧ t.flash = s.flash))

/-- Activation and trials (R657 to R662): a committed image activates (in Berm service too) or is deferred by a LEADER, a trial confirms by
command or by itself, or reverts at its timeout. -/
def Obligations.ActivationAndTrial : Prop :=
  (∀ s : State, (s.full = true ∨ (s.berm = true ∧ s.update.commitNow = true)) → s.update.state = 7 →
    ((s.full = false ∨ s.twinEnabled = false ∨ s.twinState ≠ 1) → ∃ t, exec .activation s = .next t ∧ t.update.state = 0 ∧
      t.flash.boot.pending = s.inactive ∧ t.flash.boot.trials = 3 ∧ t.flash.boot.phase = 0 ∧ t.flash.boot.active = s.flash.boot.active ∧
      t.raised 11 = true ∧ ((s.power.state = .run ∨ s.power.state = .berm) → s.power.recording = false →
        t.power.requested = true ∧ t.aon.cause = 6)) ∧
    (s.full = true → s.twinEnabled = true → s.twinState = 1 → ∃ t, exec .activation s = .next t ∧ t.update.state = 8 ∧ t.flash = s.flash)) ∧
  (∀ (a : Nat) (s : State), s.update.deferAt = some a → s.full = true → s.update.state = 8 → ∃ t, exec .deferredActivation s = .next t ∧
    t.update.state = 0 ∧ t.flash.boot.pending = s.inactive ∧ t.flash.boot.trials = 3 ∧ t.raised 11 = true) ∧
  (∀ (v : Nat) (o : Origin) (x : Row) (s : State), Passes s o 0x320700 0 (fun d => numRow d v) x →
    ∃ t, exec (.confirm v o) s = .next t ∧
      (v = 1 → s.trialOpen = true → Answers t stOk 0 ∧ t.flash.boot.active = s.update.running ∧ t.flash.boot.pending = 0xFF ∧
        t.flash.boot.trials = 0 ∧ t.flash.boot.result = 1 ∧
        t.flash.otpFloor = max s.flash.otpFloor (s.slot s.update.running).epoch ∧ t.update.trial = 0 ∧ t.raised 13 = true) ∧
      (v = 1 → s.trialOpen = false → Answers t stState 0 ∧ t.update = s.update ∧ t.flash = s.flash) ∧
      (v = 0 → Answers t stOk 0 ∧ t.update = s.update ∧ t.flash = s.flash)) ∧
  (∀ s : State, s.full = true → s.update.trial = 1 → ∃ t, exec .trialTimeout s = .next t ∧ t.flash.boot.pending = 0xFF ∧
    t.flash.boot.trials = 0 ∧ t.flash.boot.result = 4 ∧ t.update.trial = 2 ∧ t.update.reverted = true ∧
    t.fld oBootCnt 0 14 = (s.fld oBootCnt 0 14 + 1) % 2 ^ 64 ∧
    ((s.power.state = .run ∨ s.power.state = .berm) → s.power.recording = false → t.power.requested = true ∧ t.aon.cause = 6)) ∧
  (∀ u s : State, s.full = true → s.update.trial = 1 → s.confirmAuto = true →
    (s.twinEnabled = false → u = s.advanceTo (s.update.serviceAt + s.val 0x320900 * 1000000000) → u.trialOpen = true →
      ∃ t, exec .confirmHoldElapsed s = .next t ∧ t.flash.boot.active = s.update.running ∧ t.flash.boot.result = 1 ∧
        t.update.trial = 0 ∧ t.raised 13 = true) ∧
    (s.twinEnabled = true → s.twinState = 0 → u = s.advanceTo (s.twin.since + s.val 0x320900 * 1000000000) → u.trialOpen = true →
      ∃ t, exec .confirmHoldElapsed s = .next t ∧ t.flash.boot.active = s.update.running ∧ t.flash.boot.result = 1 ∧
        t.update.trial = 0 ∧ t.raised 13 = true) ∧
    (s.twinEnabled = true → s.twinState ≠ 0 → exec .confirmHoldElapsed s = .next s))
end

