-- ==== Sys2Proof/Laws/KMap.lean ====
section
/-! SUPPORT. The laws of tables and byte memories: a read after a write to the same key gives the value written, a write leaves every
other key alone, and every write keeps the canonical form. -/

namespace Sys2Proof.Machine

/-! ## Read after write -/

variable {α : Type}

@[simp] theorem tfind_tins_self (m : Tbl α) (i : Nat) (x : α) : tfind (tins m i x) i = some x := by
  induction m with
  | nil => simp [tins, tfind]
  | cons e m ih =>
    obtain ⟨k, v⟩ := e
    by_cases h1 : i < k
    · simp [tins, h1, tfind]
    · by_cases h2 : i = k
      · simp [tins, h2, tfind]
      · simp [tins, h1, h2, tfind, Ne.symm h2, ih]

theorem tfind_tins_of_ne (m : Tbl α) {i j : Nat} (x : α) (h : j ≠ i) : tfind (tins m i x) j = tfind m j := by
  induction m with
  | nil => simp [tins, tfind, h.symm]
  | cons e m ih =>
    obtain ⟨k, v⟩ := e
    by_cases h1 : i < k
    · simp [tins, h1, tfind, h.symm]
    · by_cases h2 : i = k
      · subst h2; simp [tins, tfind, h.symm]
      · simp [tins, h1, h2, tfind, ih]

@[simp] theorem tfind_tdel_self (m : Tbl α) (i : Nat) : tfind (tdel m i) i = none := by
  induction m with
  | nil => rfl
  | cons e m ih =>
    obtain ⟨k, v⟩ := e
    by_cases h : k = i
    · simp [tdel, h, ih]
    · simp [tdel, h, tfind, ih]

theorem tfind_tdel_of_ne (m : Tbl α) {i j : Nat} (h : j ≠ i) : tfind (tdel m i) j = tfind m j := by
  induction m with
  | nil => rfl
  | cons e m ih =>
    obtain ⟨k, v⟩ := e
    by_cases h1 : k = i
    · subst h1; simp [tdel, tfind, h.symm, ih]
    · simp [tdel, h1, tfind, ih]

/-- A read of any key after a write. -/
theorem tget_tset [DecidableEq α] (d : α) (m : Tbl α) (i j : Nat) (x : α) :
    tget d (tset d m i x) j = if j = i then x else tget d m j := by
  unfold tget tset
  by_cases h : j = i
  · subst h; by_cases hx : x = d <;> simp [hx]
  · by_cases hx : x = d
    · simp [hx, h, tfind_tdel_of_ne m h]
    · simp [hx, h, tfind_tins_of_ne m x h]

@[simp] theorem tget_tset_self [DecidableEq α] (d : α) (m : Tbl α) (i : Nat) (x : α) : tget d (tset d m i x) i = x := by
  simp [tget_tset]

/-- Another key is left alone, whatever default it is read with. -/
theorem tget_tset_of_ne [DecidableEq α] (d d' : α) (m : Tbl α) {i j : Nat} (x : α) (h : j ≠ i) :
    tget d' (tset d m i x) j = tget d' m j := by
  unfold tget tset
  by_cases hx : x = d
  · simp [hx, tfind_tdel_of_ne m h]
  · simp [hx, tfind_tins_of_ne m x h]

@[simp] theorem tget_nil (d : α) (i : Nat) : tget d [] i = d := rfl

/-! ## The canonical form -/

theorem tabove_mono {b c : Nat} {m : Tbl α} (h : b ≤ c) (hm : tabove c m = true) : tabove b m = true := by
  cases m with
  | nil => rfl
  | cons e m => obtain ⟨k, v⟩ := e; simp [tabove] at hm ⊢; exact ⟨by omega, hm.2⟩

theorem tabove_sorted {b : Nat} {m : Tbl α} (hm : tabove b m = true) : tsorted m = true := by
  cases m with
  | nil => rfl
  | cons e m => obtain ⟨k, v⟩ := e; simp [tabove] at hm; simpa [tsorted] using hm.2

theorem tabove_tins {b : Nat} {m : Tbl α} {i : Nat} {x : α} (hb : b < i) (hm : tabove b m = true) :
    tabove b (tins m i x) = true := by
  induction m generalizing b with
  | nil => simp [tins, tabove, hb]
  | cons e m ih =>
    obtain ⟨k, v⟩ := e
    simp [tabove] at hm
    by_cases h1 : i < k
    · simp [tins, h1, tabove, hb, hm.2]
    · by_cases h2 : i = k
      · subst h2; simp [tins, tabove, hb, hm.2]
      · simp [tins, h1, h2, tabove, hm.1, ih (by omega) hm.2]

theorem tabove_tdel {b : Nat} {m : Tbl α} {i : Nat} (hm : tabove b m = true) : tabove b (tdel m i) = true := by
  induction m generalizing b with
  | nil => rfl
  | cons e m ih =>
    obtain ⟨k, v⟩ := e
    simp [tabove] at hm
    by_cases h : k = i
    · simp [tdel, h]; exact ih (tabove_mono (by omega) hm.2)
    · simp [tdel, h, tabove, hm.1, ih hm.2]

theorem tsorted_tins {m : Tbl α} {i : Nat} {x : α} (hm : tsorted m = true) : tsorted (tins m i x) = true := by
  cases m with
  | nil => rfl
  | cons e m =>
    obtain ⟨k, v⟩ := e
    simp [tsorted] at hm
    by_cases h1 : i < k
    · simp [tins, h1, tsorted, tabove, hm]
    · by_cases h2 : i = k
      · subst h2; simp [tins, tsorted, hm]
      · simp [tins, h1, h2, tsorted]; exact tabove_tins (by omega) hm

theorem tsorted_tdel {m : Tbl α} {i : Nat} (hm : tsorted m = true) : tsorted (tdel m i) = true := by
  cases m with
  | nil => rfl
  | cons e m =>
    obtain ⟨k, v⟩ := e
    simp [tsorted] at hm
    by_cases h : k = i
    · simp [tdel, h]; exact tabove_sorted (tabove_tdel hm)
    · simp [tdel, h, tsorted, tabove_tdel hm]

theorem mem_tins {m : Tbl α} {i : Nat} {x : α} {e : Nat × α} (h : e ∈ tins m i x) : e = (i, x) ∨ e ∈ m := by
  induction m with
  | nil => simp [tins] at h; exact .inl h
  | cons f m ih =>
    obtain ⟨k, v⟩ := f
    unfold tins at h
    split at h
    · simpa using h
    · split at h
      · simp only [List.mem_cons] at h ⊢
        rcases h with h | h <;> simp [h]
      · simp only [List.mem_cons] at h ⊢
        rcases h with h | h
        · simp [h]
        · rcases ih h with h | h <;> simp [h]

theorem mem_tdel {m : Tbl α} {i : Nat} {e : Nat × α} (h : e ∈ tdel m i) : e ∈ m := by
  induction m with
  | nil => simpa [tdel] using h
  | cons f m ih =>
    obtain ⟨k, v⟩ := f
    unfold tdel at h
    split at h
    · exact List.mem_cons_of_mem _ (ih h)
    · simp only [List.mem_cons] at h ⊢
      rcases h with h | h
      · exact .inl h
      · exact .inr (ih h)

/-- A write keeps the canonical form of a table. -/
theorem twf_tset [DecidableEq α] {d : α} {m : Tbl α} {i : Nat} {x : α} (h : twf d m = true) : twf d (tset d m i x) = true := by
  simp only [twf, Bool.and_eq_true, List.all_eq_true, decide_eq_true_eq] at h ⊢
  unfold tset
  split
  · exact ⟨tsorted_tdel h.1, fun e he => h.2 e (mem_tdel he)⟩
  · rename_i hx
    refine ⟨tsorted_tins h.1, fun e he => ?_⟩
    rcases mem_tins he with rfl | he
    · exact hx
    · exact h.2 e he

@[simp] theorem twf_nil [DecidableEq α] (d : α) : twf d ([] : Tbl α) = true := rfl

/-! ## Byte memories -/

/-- A write of one byte keeps the canonical form. -/
theorem wf_mset {m : Mem} {a : Nat} {b : Byte} (h : Memory.wf m = true) : Memory.wf (mset m a b) = true := twf_tset h

/-- A write of bytes keeps the canonical form. -/
theorem wf_msets {m : Mem} {a : Nat} {bs : List Byte} (h : Memory.wf m = true) : Memory.wf (msets m a bs) = true := by
  induction bs generalizing m a with
  | nil => exact h
  | cons b bs ih => exact ih (wf_mset h)

@[simp] theorem wf_nil : Memory.wf [] = true := rfl

theorem mget_mset (m : Mem) (a c : Nat) (b : Byte) : mget (mset m a b) c = if c = a then b else mget m c := tget_tset 0 m a c b

/-- Bytes outside a write read as before. -/
theorem mget_msets_of_outside {m : Mem} {a c : Nat} {bs : List Byte} (h : c < a ∨ a + bs.length ≤ c) :
    mget (msets m a bs) c = mget m c := by
  induction bs generalizing m a with
  | nil => rfl
  | cons b bs ih =>
    simp only [List.length_cons] at h
    rw [msets, ih (by omega), mget_mset, if_neg (by omega)]

/-- Bytes within a write read as written. -/
theorem mget_msets_of_inside {m : Mem} {a i : Nat} {bs : List Byte} (h : i < bs.length) :
    mget (msets m a bs) (a + i) = bs.getD i 0 := by
  induction bs generalizing m a i with
  | nil => simp at h
  | cons b bs ih =>
    cases i with
    | zero => rw [msets, Nat.add_zero, mget_msets_of_outside (by omega), mget_mset]; simp
    | succ i =>
      simp only [List.length_cons] at h
      rw [msets, show a + (i + 1) = (a + 1) + i by omega, ih (by omega)]
      simp

end Sys2Proof.Machine
end

