-- ==== Sys2Proof/Laws/State.lean ====
section
/-! SUPPORT. Object rows and fields: a read after a write, and what the named operations leave alone. -/

namespace Sys2Proof.Machine

theorem getD_rput (r : Row) (c d v : Nat) : (rput r c v).getD d 0 = if d = c then v else r.getD d 0 := by
  induction r generalizing c d with
  | nil =>
    induction c generalizing d with
    | zero => cases d <;> simp [rput]
    | succ c ih => cases d with
      | zero => simp [rput]
      | succ d => simpa [rput] using ih d
  | cons x r ih =>
    cases c with
    | zero => cases d <;> simp [rput]
    | succ c => cases d with
      | zero => simp [rput]
      | succ d => simpa [rput] using ih c d

/-! ## Rows -/

theorem row_setRow (s : State) (o r o' r' : Nat) (v : Row) :
    (s.setRow o r v).row o' r' = if o' = o ∧ r' = r then v else s.row o' r' := by
  unfold State.row State.setRow
  rw [tget_tset]
  by_cases ho : o' = o
  · subst ho
    by_cases hr : r' = r
    · subst hr; simp
    · simp [hr, tget_tset_of_ne _ _ _ _ hr]
  · simp [ho]

@[simp] theorem row_setRow_self (s : State) (o r : Nat) (v : Row) : (s.setRow o r v).row o r = v := by simp [row_setRow]

theorem row_setRow_of_ne (s : State) {o r o' r' : Nat} (v : Row) (h : ¬(o' = o ∧ r' = r)) :
    (s.setRow o r v).row o' r' = s.row o' r' := by simp [row_setRow, h]

theorem fld_setFld (s : State) (o r c o' r' c' v : Nat) :
    (s.setFld o r c v).fld o' r' c' = if o' = o ∧ r' = r ∧ c' = c then v else s.fld o' r' c' := by
  unfold State.fld State.setFld
  rw [row_setRow]
  by_cases h : o' = o ∧ r' = r
  · obtain ⟨rfl, rfl⟩ := h; rw [if_pos ⟨rfl, rfl⟩, getD_rput]; simp
  · rw [if_neg h, if_neg (by tauto)]

theorem fld_setRow (s : State) (o r o' r' c' : Nat) (v : Row) :
    (s.setRow o r v).fld o' r' c' = if o' = o ∧ r' = r then v.getD c' 0 else s.fld o' r' c' := by
  unfold State.fld; rw [row_setRow]; split <;> rfl

theorem row_setFld (s : State) (o r c o' r' v : Nat) :
    (s.setFld o r c v).row o' r' = if o' = o ∧ r' = r then rput (s.row o r) c v else s.row o' r' := by
  unfold State.setFld; rw [row_setRow]

theorem val_setVal (s : State) (o o' v : Nat) : (s.setVal o v).val o' = if o' = o then v else s.val o' := by
  unfold State.val State.setVal; rw [fld_setRow]; by_cases h : o' = o <;> simp [h]

/-! ## A row of the object dictionary is a part of its own -/

variable (s : State) (o r c n : Nat) (v : Row)

@[simp] theorem setRow_pending : (s.setRow o r v).pending = s.pending := rfl
@[simp] theorem setRow_clk : (s.setRow o r v).clk = s.clk := rfl
@[simp] theorem setRow_freeIdx : (s.setRow o r v).freeIdx = s.freeIdx := rfl
@[simp] theorem setRow_dram : (s.setRow o r v).dram = s.dram := rfl
@[simp] theorem setRow_vault : (s.setRow o r v).vault = s.vault := rfl
@[simp] theorem setRow_power : (s.setRow o r v).power = s.power := rfl
@[simp] theorem setRow_aon : (s.setRow o r v).aon = s.aon := rfl
@[simp] theorem setRow_flash : (s.setRow o r v).flash = s.flash := rfl
@[simp] theorem setRow_time : (s.setRow o r v).time = s.time := rfl
@[simp] theorem setRow_evt : (s.setRow o r v).evt = s.evt := rfl
@[simp] theorem setRow_sys : (s.setRow o r v).sys = s.sys := rfl
@[simp] theorem setRow_hspi : (s.setRow o r v).hspi = s.hspi := rfl
@[simp] theorem setRow_eop : (s.setRow o r v).eop = s.eop := rfl
@[simp] theorem setRow_weir : (s.setRow o r v).weir = s.weir := rfl
@[simp] theorem setRow_net : (s.setRow o r v).net = s.net := rfl
@[simp] theorem setRow_integ : (s.setRow o r v).integ = s.integ := rfl
@[simp] theorem setRow_update : (s.setRow o r v).update = s.update := rfl
@[simp] theorem setRow_ingest : (s.setRow o r v).ingest = s.ingest := rfl
@[simp] theorem setRow_disp : (s.setRow o r v).disp = s.disp := rfl
@[simp] theorem setRow_coll : (s.setRow o r v).coll = s.coll := rfl
@[simp] theorem setRow_quires : (s.setRow o r v).quires = s.quires := rfl
@[simp] theorem setRow_strands : (s.setRow o r v).strands = s.strands := rfl
@[simp] theorem setRow_light : (s.setRow o r v).light = s.light := rfl
@[simp] theorem setRow_cal : (s.setRow o r v).cal = s.cal := rfl
@[simp] theorem setRow_twin : (s.setRow o r v).twin = s.twin := rfl

@[simp] theorem setFld_pending : (s.setFld o r c n).pending = s.pending := rfl
@[simp] theorem setFld_clk : (s.setFld o r c n).clk = s.clk := rfl
@[simp] theorem setFld_freeIdx : (s.setFld o r c n).freeIdx = s.freeIdx := rfl
@[simp] theorem setFld_dram : (s.setFld o r c n).dram = s.dram := rfl
@[simp] theorem setFld_vault : (s.setFld o r c n).vault = s.vault := rfl
@[simp] theorem setFld_power : (s.setFld o r c n).power = s.power := rfl
@[simp] theorem setFld_aon : (s.setFld o r c n).aon = s.aon := rfl
@[simp] theorem setFld_flash : (s.setFld o r c n).flash = s.flash := rfl
@[simp] theorem setFld_time : (s.setFld o r c n).time = s.time := rfl
@[simp] theorem setFld_evt : (s.setFld o r c n).evt = s.evt := rfl
@[simp] theorem setFld_sys : (s.setFld o r c n).sys = s.sys := rfl
@[simp] theorem setFld_hspi : (s.setFld o r c n).hspi = s.hspi := rfl
@[simp] theorem setFld_eop : (s.setFld o r c n).eop = s.eop := rfl
@[simp] theorem setFld_weir : (s.setFld o r c n).weir = s.weir := rfl
@[simp] theorem setFld_net : (s.setFld o r c n).net = s.net := rfl
@[simp] theorem setFld_integ : (s.setFld o r c n).integ = s.integ := rfl
@[simp] theorem setFld_update : (s.setFld o r c n).update = s.update := rfl
@[simp] theorem setFld_ingest : (s.setFld o r c n).ingest = s.ingest := rfl
@[simp] theorem setFld_disp : (s.setFld o r c n).disp = s.disp := rfl
@[simp] theorem setFld_coll : (s.setFld o r c n).coll = s.coll := rfl
@[simp] theorem setFld_quires : (s.setFld o r c n).quires = s.quires := rfl
@[simp] theorem setFld_strands : (s.setFld o r c n).strands = s.strands := rfl
@[simp] theorem setFld_light : (s.setFld o r c n).light = s.light := rfl
@[simp] theorem setFld_cal : (s.setFld o r c n).cal = s.cal := rfl
@[simp] theorem setFld_twin : (s.setFld o r c n).twin = s.twin := rfl

end Sys2Proof.Machine
end

