-- ==== Sys2Proof/Laws/Keeps.lean ====
section
/-! SUPPORT. What an operation leaves alone. `Keeps m s t` says that t agrees with s in every component of the state whose bit m has, in
every group of objects (an object's index over 16) whose bit m has, and that DRAM and every part of the Vault stay canonical. Bit i is component i in
the order of the fields below, bit 32 + g is group g. For each operation of the machine one lemma says what it keeps. -/

namespace Sys2Proof.Machine

/-- What t keeps of s. -/
structure Keeps (m : Nat) (s t : State) : Prop where
  pending_eq : m.testBit 0 = true → t.pending = s.pending
  clk_eq : m.testBit 1 = true → t.clk = s.clk
  freeIdx_eq : m.testBit 2 = true → t.freeIdx = s.freeIdx
  dram_eq : m.testBit 3 = true → t.dram = s.dram
  vault_eq : m.testBit 4 = true → t.vault = s.vault
  power_eq : m.testBit 5 = true → t.power = s.power
  aon_eq : m.testBit 6 = true → t.aon = s.aon
  flash_eq : m.testBit 7 = true → t.flash = s.flash
  time_eq : m.testBit 8 = true → t.time = s.time
  evt_eq : m.testBit 9 = true → t.evt = s.evt
  sys_eq : m.testBit 10 = true → t.sys = s.sys
  hspi_eq : m.testBit 11 = true → t.hspi = s.hspi
  eop_eq : m.testBit 12 = true → t.eop = s.eop
  weir_eq : m.testBit 13 = true → t.weir = s.weir
  net_eq : m.testBit 14 = true → t.net = s.net
  integ_eq : m.testBit 15 = true → t.integ = s.integ
  update_eq : m.testBit 16 = true → t.update = s.update
  ingest_eq : m.testBit 17 = true → t.ingest = s.ingest
  disp_eq : m.testBit 18 = true → t.disp = s.disp
  coll_eq : m.testBit 19 = true → t.coll = s.coll
  quires_eq : m.testBit 20 = true → t.quires = s.quires
  strands_eq : m.testBit 21 = true → t.strands = s.strands
  light_eq : m.testBit 22 = true → t.light = s.light
  cal_eq : m.testBit 23 = true → t.cal = s.cal
  twin_eq : m.testBit 24 = true → t.twin = s.twin
  objs : ∀ o r, m.testBit (32 + o / 4096) = true → t.row o r = s.row o r
  dram_wf : Memory.wf s.dram = true → Memory.wf t.dram = true
  vault_wf : Memory.wf s.vault = true → Memory.wf t.vault = true
  cells_wf : Memory.wf s.net.cells.bytes = true → Memory.wf t.net.cells.bytes = true
  saved_wf : Memory.wf s.weir.saved.bytes = true → Memory.wf t.weir.saved.bytes = true
  contexts_wf : Memory.wf s.ingest.contexts.bytes = true → Memory.wf t.ingest.contexts.bytes = true

variable {m k : Nat} {s t u : State}

theorem Keeps.refl : Keeps m s s := by constructor <;> intros <;> first | rfl | assumption

theorem testBit_of_and {i : Nat} (h : m &&& k = m) (hi : m.testBit i = true) : k.testBit i = true := by
  rw [← h, Nat.testBit_and] at hi; exact (Bool.and_eq_true _ _ ▸ hi).2

/-- What a first part keeps and a second part keeps is kept. -/
theorem Keeps.step (h2 : Keeps k t u) (hm : m &&& k = m) (h1 : Keeps m s t) : Keeps m s u where
  pending_eq hi := (h2.pending_eq (testBit_of_and hm hi)).trans (h1.pending_eq hi)
  clk_eq hi := (h2.clk_eq (testBit_of_and hm hi)).trans (h1.clk_eq hi)
  freeIdx_eq hi := (h2.freeIdx_eq (testBit_of_and hm hi)).trans (h1.freeIdx_eq hi)
  dram_eq hi := (h2.dram_eq (testBit_of_and hm hi)).trans (h1.dram_eq hi)
  vault_eq hi := (h2.vault_eq (testBit_of_and hm hi)).trans (h1.vault_eq hi)
  power_eq hi := (h2.power_eq (testBit_of_and hm hi)).trans (h1.power_eq hi)
  aon_eq hi := (h2.aon_eq (testBit_of_and hm hi)).trans (h1.aon_eq hi)
  flash_eq hi := (h2.flash_eq (testBit_of_and hm hi)).trans (h1.flash_eq hi)
  time_eq hi := (h2.time_eq (testBit_of_and hm hi)).trans (h1.time_eq hi)
  evt_eq hi := (h2.evt_eq (testBit_of_and hm hi)).trans (h1.evt_eq hi)
  sys_eq hi := (h2.sys_eq (testBit_of_and hm hi)).trans (h1.sys_eq hi)
  hspi_eq hi := (h2.hspi_eq (testBit_of_and hm hi)).trans (h1.hspi_eq hi)
  eop_eq hi := (h2.eop_eq (testBit_of_and hm hi)).trans (h1.eop_eq hi)
  weir_eq hi := (h2.weir_eq (testBit_of_and hm hi)).trans (h1.weir_eq hi)
  net_eq hi := (h2.net_eq (testBit_of_and hm hi)).trans (h1.net_eq hi)
  integ_eq hi := (h2.integ_eq (testBit_of_and hm hi)).trans (h1.integ_eq hi)
  update_eq hi := (h2.update_eq (testBit_of_and hm hi)).trans (h1.update_eq hi)
  ingest_eq hi := (h2.ingest_eq (testBit_of_and hm hi)).trans (h1.ingest_eq hi)
  disp_eq hi := (h2.disp_eq (testBit_of_and hm hi)).trans (h1.disp_eq hi)
  coll_eq hi := (h2.coll_eq (testBit_of_and hm hi)).trans (h1.coll_eq hi)
  quires_eq hi := (h2.quires_eq (testBit_of_and hm hi)).trans (h1.quires_eq hi)
  strands_eq hi := (h2.strands_eq (testBit_of_and hm hi)).trans (h1.strands_eq hi)
  light_eq hi := (h2.light_eq (testBit_of_and hm hi)).trans (h1.light_eq hi)
  cal_eq hi := (h2.cal_eq (testBit_of_and hm hi)).trans (h1.cal_eq hi)
  twin_eq hi := (h2.twin_eq (testBit_of_and hm hi)).trans (h1.twin_eq hi)
  objs o r hi := (h2.objs o r (testBit_of_and hm hi)).trans (h1.objs o r hi)
  dram_wf h := h2.dram_wf (h1.dram_wf h)
  vault_wf h := h2.vault_wf (h1.vault_wf h)
  cells_wf h := h2.cells_wf (h1.cells_wf h)
  saved_wf h := h2.saved_wf (h1.saved_wf h)
  contexts_wf h := h2.contexts_wf (h1.contexts_wf h)

theorem Keeps.weaken (h : Keeps k s t) (hm : m &&& k = m) : Keeps m s t := Keeps.step h hm Keeps.refl

theorem Keeps.ite {c : Prop} [Decidable c] {a b : State} (ha : Keeps m s a) (hb : Keeps m s b) :
    Keeps m s (if c then a else b) := by split <;> assumption

theorem Keeps.snd {α : Type} {a : α} (h : Keeps m s t) : Keeps m s (a, t).2 := h

theorem Keeps.ite_snd {α : Type} {c : Prop} [Decidable c] {a b : α × State} (ha : Keeps m s a.2) (hb : Keeps m s b.2) :
    Keeps m s (if c then a else b).2 := by split <;> assumption

theorem Keeps.dite {c : Prop} [Decidable c] {a : c → State} {b : ¬c → State} (ha : ∀ h, Keeps m s (a h)) (hb : ∀ h, Keeps m s (b h)) :
    Keeps m s (dite c a b) := by split <;> simp only [ha, hb]

theorem Keeps.foldl {α : Type} {f : State → α → State} {l : List α} (hf : ∀ x a, Keeps m s x → Keeps m s (f x a)) (h : Keeps m s t) :
    Keeps m s (l.foldl f t) := by
  induction l generalizing t with
  | nil => exact h
  | cons a l ih => exact ih (hf t a h)

theorem Keeps.set_aon {v0 : _} (h0 : m.testBit 6 = false) (h : Keeps m s t) :
    Keeps m s { t with aon := v0 } where
  pending_eq := h.pending_eq
  clk_eq := h.clk_eq
  freeIdx_eq := h.freeIdx_eq
  dram_eq := h.dram_eq
  vault_eq := h.vault_eq
  power_eq := h.power_eq
  aon_eq hi := by rw [h0] at hi; contradiction
  flash_eq := h.flash_eq
  time_eq := h.time_eq
  evt_eq := h.evt_eq
  sys_eq := h.sys_eq
  hspi_eq := h.hspi_eq
  eop_eq := h.eop_eq
  weir_eq := h.weir_eq
  net_eq := h.net_eq
  integ_eq := h.integ_eq
  update_eq := h.update_eq
  ingest_eq := h.ingest_eq
  disp_eq := h.disp_eq
  coll_eq := h.coll_eq
  quires_eq := h.quires_eq
  strands_eq := h.strands_eq
  light_eq := h.light_eq
  cal_eq := h.cal_eq
  twin_eq := h.twin_eq
  objs := h.objs
  dram_wf := h.dram_wf
  vault_wf := h.vault_wf
  cells_wf := h.cells_wf
  saved_wf := h.saved_wf
  contexts_wf := h.contexts_wf

theorem Keeps.set_aon_eop {v0 : _} {v1 : _} (h0 : m.testBit 6 = false) (h1 : m.testBit 12 = false) (h : Keeps m s t) :
    Keeps m s { t with aon := v0, eop := v1 } where
  pending_eq := h.pending_eq
  clk_eq := h.clk_eq
  freeIdx_eq := h.freeIdx_eq
  dram_eq := h.dram_eq
  vault_eq := h.vault_eq
  power_eq := h.power_eq
  aon_eq hi := by rw [h0] at hi; contradiction
  flash_eq := h.flash_eq
  time_eq := h.time_eq
  evt_eq := h.evt_eq
  sys_eq := h.sys_eq
  hspi_eq := h.hspi_eq
  eop_eq hi := by rw [h1] at hi; contradiction
  weir_eq := h.weir_eq
  net_eq := h.net_eq
  integ_eq := h.integ_eq
  update_eq := h.update_eq
  ingest_eq := h.ingest_eq
  disp_eq := h.disp_eq
  coll_eq := h.coll_eq
  quires_eq := h.quires_eq
  strands_eq := h.strands_eq
  light_eq := h.light_eq
  cal_eq := h.cal_eq
  twin_eq := h.twin_eq
  objs := h.objs
  dram_wf := h.dram_wf
  vault_wf := h.vault_wf
  cells_wf := h.cells_wf
  saved_wf := h.saved_wf
  contexts_wf := h.contexts_wf

theorem Keeps.set_cal {v0 : _} (h0 : m.testBit 23 = false) (h : Keeps m s t) :
    Keeps m s { t with cal := v0 } where
  pending_eq := h.pending_eq
  clk_eq := h.clk_eq
  freeIdx_eq := h.freeIdx_eq
  dram_eq := h.dram_eq
  vault_eq := h.vault_eq
  power_eq := h.power_eq
  aon_eq := h.aon_eq
  flash_eq := h.flash_eq
  time_eq := h.time_eq
  evt_eq := h.evt_eq
  sys_eq := h.sys_eq
  hspi_eq := h.hspi_eq
  eop_eq := h.eop_eq
  weir_eq := h.weir_eq
  net_eq := h.net_eq
  integ_eq := h.integ_eq
  update_eq := h.update_eq
  ingest_eq := h.ingest_eq
  disp_eq := h.disp_eq
  coll_eq := h.coll_eq
  quires_eq := h.quires_eq
  strands_eq := h.strands_eq
  light_eq := h.light_eq
  cal_eq hi := by rw [h0] at hi; contradiction
  twin_eq := h.twin_eq
  objs := h.objs
  dram_wf := h.dram_wf
  vault_wf := h.vault_wf
  cells_wf := h.cells_wf
  saved_wf := h.saved_wf
  contexts_wf := h.contexts_wf

theorem Keeps.set_clk {v0 : _} (h0 : m.testBit 1 = false) (h : Keeps m s t) :
    Keeps m s { t with clk := v0 } where
  pending_eq := h.pending_eq
  clk_eq hi := by rw [h0] at hi; contradiction
  freeIdx_eq := h.freeIdx_eq
  dram_eq := h.dram_eq
  vault_eq := h.vault_eq
  power_eq := h.power_eq
  aon_eq := h.aon_eq
  flash_eq := h.flash_eq
  time_eq := h.time_eq
  evt_eq := h.evt_eq
  sys_eq := h.sys_eq
  hspi_eq := h.hspi_eq
  eop_eq := h.eop_eq
  weir_eq := h.weir_eq
  net_eq := h.net_eq
  integ_eq := h.integ_eq
  update_eq := h.update_eq
  ingest_eq := h.ingest_eq
  disp_eq := h.disp_eq
  coll_eq := h.coll_eq
  quires_eq := h.quires_eq
  strands_eq := h.strands_eq
  light_eq := h.light_eq
  cal_eq := h.cal_eq
  twin_eq := h.twin_eq
  objs := h.objs
  dram_wf := h.dram_wf
  vault_wf := h.vault_wf
  cells_wf := h.cells_wf
  saved_wf := h.saved_wf
  contexts_wf := h.contexts_wf

theorem Keeps.set_clk_time {v0 : _} {v1 : _} (h0 : m.testBit 1 = false) (h1 : m.testBit 8 = false) (h : Keeps m s t) :
    Keeps m s { t with clk := v0, time := v1 } where
  pending_eq := h.pending_eq
  clk_eq hi := by rw [h0] at hi; contradiction
  freeIdx_eq := h.freeIdx_eq
  dram_eq := h.dram_eq
  vault_eq := h.vault_eq
  power_eq := h.power_eq
  aon_eq := h.aon_eq
  flash_eq := h.flash_eq
  time_eq hi := by rw [h1] at hi; contradiction
  evt_eq := h.evt_eq
  sys_eq := h.sys_eq
  hspi_eq := h.hspi_eq
  eop_eq := h.eop_eq
  weir_eq := h.weir_eq
  net_eq := h.net_eq
  integ_eq := h.integ_eq
  update_eq := h.update_eq
  ingest_eq := h.ingest_eq
  disp_eq := h.disp_eq
  coll_eq := h.coll_eq
  quires_eq := h.quires_eq
  strands_eq := h.strands_eq
  light_eq := h.light_eq
  cal_eq := h.cal_eq
  twin_eq := h.twin_eq
  objs := h.objs
  dram_wf := h.dram_wf
  vault_wf := h.vault_wf
  cells_wf := h.cells_wf
  saved_wf := h.saved_wf
  contexts_wf := h.contexts_wf

theorem Keeps.set_coll {v0 : _} (h0 : m.testBit 19 = false) (h : Keeps m s t) :
    Keeps m s { t with coll := v0 } where
  pending_eq := h.pending_eq
  clk_eq := h.clk_eq
  freeIdx_eq := h.freeIdx_eq
  dram_eq := h.dram_eq
  vault_eq := h.vault_eq
  power_eq := h.power_eq
  aon_eq := h.aon_eq
  flash_eq := h.flash_eq
  time_eq := h.time_eq
  evt_eq := h.evt_eq
  sys_eq := h.sys_eq
  hspi_eq := h.hspi_eq
  eop_eq := h.eop_eq
  weir_eq := h.weir_eq
  net_eq := h.net_eq
  integ_eq := h.integ_eq
  update_eq := h.update_eq
  ingest_eq := h.ingest_eq
  disp_eq := h.disp_eq
  coll_eq hi := by rw [h0] at hi; contradiction
  quires_eq := h.quires_eq
  strands_eq := h.strands_eq
  light_eq := h.light_eq
  cal_eq := h.cal_eq
  twin_eq := h.twin_eq
  objs := h.objs
  dram_wf := h.dram_wf
  vault_wf := h.vault_wf
  cells_wf := h.cells_wf
  saved_wf := h.saved_wf
  contexts_wf := h.contexts_wf

theorem Keeps.set_disp {v0 : _} (h0 : m.testBit 18 = false) (h : Keeps m s t) :
    Keeps m s { t with disp := v0 } where
  pending_eq := h.pending_eq
  clk_eq := h.clk_eq
  freeIdx_eq := h.freeIdx_eq
  dram_eq := h.dram_eq
  vault_eq := h.vault_eq
  power_eq := h.power_eq
  aon_eq := h.aon_eq
  flash_eq := h.flash_eq
  time_eq := h.time_eq
  evt_eq := h.evt_eq
  sys_eq := h.sys_eq
  hspi_eq := h.hspi_eq
  eop_eq := h.eop_eq
  weir_eq := h.weir_eq
  net_eq := h.net_eq
  integ_eq := h.integ_eq
  update_eq := h.update_eq
  ingest_eq := h.ingest_eq
  disp_eq hi := by rw [h0] at hi; contradiction
  coll_eq := h.coll_eq
  quires_eq := h.quires_eq
  strands_eq := h.strands_eq
  light_eq := h.light_eq
  cal_eq := h.cal_eq
  twin_eq := h.twin_eq
  objs := h.objs
  dram_wf := h.dram_wf
  vault_wf := h.vault_wf
  cells_wf := h.cells_wf
  saved_wf := h.saved_wf
  contexts_wf := h.contexts_wf

theorem Keeps.set_eop {v0 : _} (h0 : m.testBit 12 = false) (h : Keeps m s t) :
    Keeps m s { t with eop := v0 } where
  pending_eq := h.pending_eq
  clk_eq := h.clk_eq
  freeIdx_eq := h.freeIdx_eq
  dram_eq := h.dram_eq
  vault_eq := h.vault_eq
  power_eq := h.power_eq
  aon_eq := h.aon_eq
  flash_eq := h.flash_eq
  time_eq := h.time_eq
  evt_eq := h.evt_eq
  sys_eq := h.sys_eq
  hspi_eq := h.hspi_eq
  eop_eq hi := by rw [h0] at hi; contradiction
  weir_eq := h.weir_eq
  net_eq := h.net_eq
  integ_eq := h.integ_eq
  update_eq := h.update_eq
  ingest_eq := h.ingest_eq
  disp_eq := h.disp_eq
  coll_eq := h.coll_eq
  quires_eq := h.quires_eq
  strands_eq := h.strands_eq
  light_eq := h.light_eq
  cal_eq := h.cal_eq
  twin_eq := h.twin_eq
  objs := h.objs
  dram_wf := h.dram_wf
  vault_wf := h.vault_wf
  cells_wf := h.cells_wf
  saved_wf := h.saved_wf
  contexts_wf := h.contexts_wf

theorem Keeps.set_evt {v0 : _} (h0 : m.testBit 9 = false) (h : Keeps m s t) :
    Keeps m s { t with evt := v0 } where
  pending_eq := h.pending_eq
  clk_eq := h.clk_eq
  freeIdx_eq := h.freeIdx_eq
  dram_eq := h.dram_eq
  vault_eq := h.vault_eq
  power_eq := h.power_eq
  aon_eq := h.aon_eq
  flash_eq := h.flash_eq
  time_eq := h.time_eq
  evt_eq hi := by rw [h0] at hi; contradiction
  sys_eq := h.sys_eq
  hspi_eq := h.hspi_eq
  eop_eq := h.eop_eq
  weir_eq := h.weir_eq
  net_eq := h.net_eq
  integ_eq := h.integ_eq
  update_eq := h.update_eq
  ingest_eq := h.ingest_eq
  disp_eq := h.disp_eq
  coll_eq := h.coll_eq
  quires_eq := h.quires_eq
  strands_eq := h.strands_eq
  light_eq := h.light_eq
  cal_eq := h.cal_eq
  twin_eq := h.twin_eq
  objs := h.objs
  dram_wf := h.dram_wf
  vault_wf := h.vault_wf
  cells_wf := h.cells_wf
  saved_wf := h.saved_wf
  contexts_wf := h.contexts_wf

theorem Keeps.set_flash {v0 : _} (h0 : m.testBit 7 = false) (h : Keeps m s t) :
    Keeps m s { t with flash := v0 } where
  pending_eq := h.pending_eq
  clk_eq := h.clk_eq
  freeIdx_eq := h.freeIdx_eq
  dram_eq := h.dram_eq
  vault_eq := h.vault_eq
  power_eq := h.power_eq
  aon_eq := h.aon_eq
  flash_eq hi := by rw [h0] at hi; contradiction
  time_eq := h.time_eq
  evt_eq := h.evt_eq
  sys_eq := h.sys_eq
  hspi_eq := h.hspi_eq
  eop_eq := h.eop_eq
  weir_eq := h.weir_eq
  net_eq := h.net_eq
  integ_eq := h.integ_eq
  update_eq := h.update_eq
  ingest_eq := h.ingest_eq
  disp_eq := h.disp_eq
  coll_eq := h.coll_eq
  quires_eq := h.quires_eq
  strands_eq := h.strands_eq
  light_eq := h.light_eq
  cal_eq := h.cal_eq
  twin_eq := h.twin_eq
  objs := h.objs
  dram_wf := h.dram_wf
  vault_wf := h.vault_wf
  cells_wf := h.cells_wf
  saved_wf := h.saved_wf
  contexts_wf := h.contexts_wf

theorem Keeps.set_flash_eop {v0 : _} {v1 : _} (h0 : m.testBit 7 = false) (h1 : m.testBit 12 = false) (h : Keeps m s t) :
    Keeps m s { t with flash := v0, eop := v1 } where
  pending_eq := h.pending_eq
  clk_eq := h.clk_eq
  freeIdx_eq := h.freeIdx_eq
  dram_eq := h.dram_eq
  vault_eq := h.vault_eq
  power_eq := h.power_eq
  aon_eq := h.aon_eq
  flash_eq hi := by rw [h0] at hi; contradiction
  time_eq := h.time_eq
  evt_eq := h.evt_eq
  sys_eq := h.sys_eq
  hspi_eq := h.hspi_eq
  eop_eq hi := by rw [h1] at hi; contradiction
  weir_eq := h.weir_eq
  net_eq := h.net_eq
  integ_eq := h.integ_eq
  update_eq := h.update_eq
  ingest_eq := h.ingest_eq
  disp_eq := h.disp_eq
  coll_eq := h.coll_eq
  quires_eq := h.quires_eq
  strands_eq := h.strands_eq
  light_eq := h.light_eq
  cal_eq := h.cal_eq
  twin_eq := h.twin_eq
  objs := h.objs
  dram_wf := h.dram_wf
  vault_wf := h.vault_wf
  cells_wf := h.cells_wf
  saved_wf := h.saved_wf
  contexts_wf := h.contexts_wf

theorem Keeps.set_freeIdx {v0 : _} (h0 : m.testBit 2 = false) (h : Keeps m s t) :
    Keeps m s { t with freeIdx := v0 } where
  pending_eq := h.pending_eq
  clk_eq := h.clk_eq
  freeIdx_eq hi := by rw [h0] at hi; contradiction
  dram_eq := h.dram_eq
  vault_eq := h.vault_eq
  power_eq := h.power_eq
  aon_eq := h.aon_eq
  flash_eq := h.flash_eq
  time_eq := h.time_eq
  evt_eq := h.evt_eq
  sys_eq := h.sys_eq
  hspi_eq := h.hspi_eq
  eop_eq := h.eop_eq
  weir_eq := h.weir_eq
  net_eq := h.net_eq
  integ_eq := h.integ_eq
  update_eq := h.update_eq
  ingest_eq := h.ingest_eq
  disp_eq := h.disp_eq
  coll_eq := h.coll_eq
  quires_eq := h.quires_eq
  strands_eq := h.strands_eq
  light_eq := h.light_eq
  cal_eq := h.cal_eq
  twin_eq := h.twin_eq
  objs := h.objs
  dram_wf := h.dram_wf
  vault_wf := h.vault_wf
  cells_wf := h.cells_wf
  saved_wf := h.saved_wf
  contexts_wf := h.contexts_wf

theorem Keeps.set_hspi {v0 : _} (h0 : m.testBit 11 = false) (h : Keeps m s t) :
    Keeps m s { t with hspi := v0 } where
  pending_eq := h.pending_eq
  clk_eq := h.clk_eq
  freeIdx_eq := h.freeIdx_eq
  dram_eq := h.dram_eq
  vault_eq := h.vault_eq
  power_eq := h.power_eq
  aon_eq := h.aon_eq
  flash_eq := h.flash_eq
  time_eq := h.time_eq
  evt_eq := h.evt_eq
  sys_eq := h.sys_eq
  hspi_eq hi := by rw [h0] at hi; contradiction
  eop_eq := h.eop_eq
  weir_eq := h.weir_eq
  net_eq := h.net_eq
  integ_eq := h.integ_eq
  update_eq := h.update_eq
  ingest_eq := h.ingest_eq
  disp_eq := h.disp_eq
  coll_eq := h.coll_eq
  quires_eq := h.quires_eq
  strands_eq := h.strands_eq
  light_eq := h.light_eq
  cal_eq := h.cal_eq
  twin_eq := h.twin_eq
  objs := h.objs
  dram_wf := h.dram_wf
  vault_wf := h.vault_wf
  cells_wf := h.cells_wf
  saved_wf := h.saved_wf
  contexts_wf := h.contexts_wf

theorem Keeps.set_ingest {v0 : _} (h0 : m.testBit 17 = false) (hi : Memory.wf t.ingest.contexts.bytes = true → Memory.wf v0.contexts.bytes = true) (h : Keeps m s t) :
    Keeps m s { t with ingest := v0 } where
  pending_eq := h.pending_eq
  clk_eq := h.clk_eq
  freeIdx_eq := h.freeIdx_eq
  dram_eq := h.dram_eq
  vault_eq := h.vault_eq
  power_eq := h.power_eq
  aon_eq := h.aon_eq
  flash_eq := h.flash_eq
  time_eq := h.time_eq
  evt_eq := h.evt_eq
  sys_eq := h.sys_eq
  hspi_eq := h.hspi_eq
  eop_eq := h.eop_eq
  weir_eq := h.weir_eq
  net_eq := h.net_eq
  integ_eq := h.integ_eq
  update_eq := h.update_eq
  ingest_eq hi := by rw [h0] at hi; contradiction
  disp_eq := h.disp_eq
  coll_eq := h.coll_eq
  quires_eq := h.quires_eq
  strands_eq := h.strands_eq
  light_eq := h.light_eq
  cal_eq := h.cal_eq
  twin_eq := h.twin_eq
  objs := h.objs
  dram_wf := h.dram_wf
  vault_wf := h.vault_wf
  cells_wf := h.cells_wf
  saved_wf := h.saved_wf
  contexts_wf hs := hi (h.contexts_wf hs)

theorem Keeps.set_integ {v0 : _} (h0 : m.testBit 15 = false) (h : Keeps m s t) :
    Keeps m s { t with integ := v0 } where
  pending_eq := h.pending_eq
  clk_eq := h.clk_eq
  freeIdx_eq := h.freeIdx_eq
  dram_eq := h.dram_eq
  vault_eq := h.vault_eq
  power_eq := h.power_eq
  aon_eq := h.aon_eq
  flash_eq := h.flash_eq
  time_eq := h.time_eq
  evt_eq := h.evt_eq
  sys_eq := h.sys_eq
  hspi_eq := h.hspi_eq
  eop_eq := h.eop_eq
  weir_eq := h.weir_eq
  net_eq := h.net_eq
  integ_eq hi := by rw [h0] at hi; contradiction
  update_eq := h.update_eq
  ingest_eq := h.ingest_eq
  disp_eq := h.disp_eq
  coll_eq := h.coll_eq
  quires_eq := h.quires_eq
  strands_eq := h.strands_eq
  light_eq := h.light_eq
  cal_eq := h.cal_eq
  twin_eq := h.twin_eq
  objs := h.objs
  dram_wf := h.dram_wf
  vault_wf := h.vault_wf
  cells_wf := h.cells_wf
  saved_wf := h.saved_wf
  contexts_wf := h.contexts_wf

theorem Keeps.set_light {v0 : _} (h0 : m.testBit 22 = false) (h : Keeps m s t) :
    Keeps m s { t with light := v0 } where
  pending_eq := h.pending_eq
  clk_eq := h.clk_eq
  freeIdx_eq := h.freeIdx_eq
  dram_eq := h.dram_eq
  vault_eq := h.vault_eq
  power_eq := h.power_eq
  aon_eq := h.aon_eq
  flash_eq := h.flash_eq
  time_eq := h.time_eq
  evt_eq := h.evt_eq
  sys_eq := h.sys_eq
  hspi_eq := h.hspi_eq
  eop_eq := h.eop_eq
  weir_eq := h.weir_eq
  net_eq := h.net_eq
  integ_eq := h.integ_eq
  update_eq := h.update_eq
  ingest_eq := h.ingest_eq
  disp_eq := h.disp_eq
  coll_eq := h.coll_eq
  quires_eq := h.quires_eq
  strands_eq := h.strands_eq
  light_eq hi := by rw [h0] at hi; contradiction
  cal_eq := h.cal_eq
  twin_eq := h.twin_eq
  objs := h.objs
  dram_wf := h.dram_wf
  vault_wf := h.vault_wf
  cells_wf := h.cells_wf
  saved_wf := h.saved_wf
  contexts_wf := h.contexts_wf

theorem Keeps.set_net {v0 : _} (h0 : m.testBit 14 = false) (hn : Memory.wf t.net.cells.bytes = true → Memory.wf v0.cells.bytes = true) (h : Keeps m s t) :
    Keeps m s { t with net := v0 } where
  pending_eq := h.pending_eq
  clk_eq := h.clk_eq
  freeIdx_eq := h.freeIdx_eq
  dram_eq := h.dram_eq
  vault_eq := h.vault_eq
  power_eq := h.power_eq
  aon_eq := h.aon_eq
  flash_eq := h.flash_eq
  time_eq := h.time_eq
  evt_eq := h.evt_eq
  sys_eq := h.sys_eq
  hspi_eq := h.hspi_eq
  eop_eq := h.eop_eq
  weir_eq := h.weir_eq
  net_eq hi := by rw [h0] at hi; contradiction
  integ_eq := h.integ_eq
  update_eq := h.update_eq
  ingest_eq := h.ingest_eq
  disp_eq := h.disp_eq
  coll_eq := h.coll_eq
  quires_eq := h.quires_eq
  strands_eq := h.strands_eq
  light_eq := h.light_eq
  cal_eq := h.cal_eq
  twin_eq := h.twin_eq
  objs := h.objs
  dram_wf := h.dram_wf
  vault_wf := h.vault_wf
  cells_wf hs := hn (h.cells_wf hs)
  saved_wf := h.saved_wf
  contexts_wf := h.contexts_wf

theorem Keeps.set_pending {v0 : _} (h0 : m.testBit 0 = false) (h : Keeps m s t) :
    Keeps m s { t with pending := v0 } where
  pending_eq hi := by rw [h0] at hi; contradiction
  clk_eq := h.clk_eq
  freeIdx_eq := h.freeIdx_eq
  dram_eq := h.dram_eq
  vault_eq := h.vault_eq
  power_eq := h.power_eq
  aon_eq := h.aon_eq
  flash_eq := h.flash_eq
  time_eq := h.time_eq
  evt_eq := h.evt_eq
  sys_eq := h.sys_eq
  hspi_eq := h.hspi_eq
  eop_eq := h.eop_eq
  weir_eq := h.weir_eq
  net_eq := h.net_eq
  integ_eq := h.integ_eq
  update_eq := h.update_eq
  ingest_eq := h.ingest_eq
  disp_eq := h.disp_eq
  coll_eq := h.coll_eq
  quires_eq := h.quires_eq
  strands_eq := h.strands_eq
  light_eq := h.light_eq
  cal_eq := h.cal_eq
  twin_eq := h.twin_eq
  objs := h.objs
  dram_wf := h.dram_wf
  vault_wf := h.vault_wf
  cells_wf := h.cells_wf
  saved_wf := h.saved_wf
  contexts_wf := h.contexts_wf

theorem Keeps.set_power {v0 : _} (h0 : m.testBit 5 = false) (h : Keeps m s t) :
    Keeps m s { t with power := v0 } where
  pending_eq := h.pending_eq
  clk_eq := h.clk_eq
  freeIdx_eq := h.freeIdx_eq
  dram_eq := h.dram_eq
  vault_eq := h.vault_eq
  power_eq hi := by rw [h0] at hi; contradiction
  aon_eq := h.aon_eq
  flash_eq := h.flash_eq
  time_eq := h.time_eq
  evt_eq := h.evt_eq
  sys_eq := h.sys_eq
  hspi_eq := h.hspi_eq
  eop_eq := h.eop_eq
  weir_eq := h.weir_eq
  net_eq := h.net_eq
  integ_eq := h.integ_eq
  update_eq := h.update_eq
  ingest_eq := h.ingest_eq
  disp_eq := h.disp_eq
  coll_eq := h.coll_eq
  quires_eq := h.quires_eq
  strands_eq := h.strands_eq
  light_eq := h.light_eq
  cal_eq := h.cal_eq
  twin_eq := h.twin_eq
  objs := h.objs
  dram_wf := h.dram_wf
  vault_wf := h.vault_wf
  cells_wf := h.cells_wf
  saved_wf := h.saved_wf
  contexts_wf := h.contexts_wf

theorem Keeps.set_power_aon {v0 : _} {v1 : _} (h0 : m.testBit 5 = false) (h1 : m.testBit 6 = false) (h : Keeps m s t) :
    Keeps m s { t with power := v0, aon := v1 } where
  pending_eq := h.pending_eq
  clk_eq := h.clk_eq
  freeIdx_eq := h.freeIdx_eq
  dram_eq := h.dram_eq
  vault_eq := h.vault_eq
  power_eq hi := by rw [h0] at hi; contradiction
  aon_eq hi := by rw [h1] at hi; contradiction
  flash_eq := h.flash_eq
  time_eq := h.time_eq
  evt_eq := h.evt_eq
  sys_eq := h.sys_eq
  hspi_eq := h.hspi_eq
  eop_eq := h.eop_eq
  weir_eq := h.weir_eq
  net_eq := h.net_eq
  integ_eq := h.integ_eq
  update_eq := h.update_eq
  ingest_eq := h.ingest_eq
  disp_eq := h.disp_eq
  coll_eq := h.coll_eq
  quires_eq := h.quires_eq
  strands_eq := h.strands_eq
  light_eq := h.light_eq
  cal_eq := h.cal_eq
  twin_eq := h.twin_eq
  objs := h.objs
  dram_wf := h.dram_wf
  vault_wf := h.vault_wf
  cells_wf := h.cells_wf
  saved_wf := h.saved_wf
  contexts_wf := h.contexts_wf

theorem Keeps.set_power_aon_flash_hspi {v0 : _} {v1 : _} {v2 : _} {v3 : _} (h0 : m.testBit 5 = false) (h1 : m.testBit 6 = false) (h2 : m.testBit 7 = false) (h3 : m.testBit 11 = false) (h : Keeps m s t) :
    Keeps m s { t with power := v0, aon := v1, flash := v2, hspi := v3 } where
  pending_eq := h.pending_eq
  clk_eq := h.clk_eq
  freeIdx_eq := h.freeIdx_eq
  dram_eq := h.dram_eq
  vault_eq := h.vault_eq
  power_eq hi := by rw [h0] at hi; contradiction
  aon_eq hi := by rw [h1] at hi; contradiction
  flash_eq hi := by rw [h2] at hi; contradiction
  time_eq := h.time_eq
  evt_eq := h.evt_eq
  sys_eq := h.sys_eq
  hspi_eq hi := by rw [h3] at hi; contradiction
  eop_eq := h.eop_eq
  weir_eq := h.weir_eq
  net_eq := h.net_eq
  integ_eq := h.integ_eq
  update_eq := h.update_eq
  ingest_eq := h.ingest_eq
  disp_eq := h.disp_eq
  coll_eq := h.coll_eq
  quires_eq := h.quires_eq
  strands_eq := h.strands_eq
  light_eq := h.light_eq
  cal_eq := h.cal_eq
  twin_eq := h.twin_eq
  objs := h.objs
  dram_wf := h.dram_wf
  vault_wf := h.vault_wf
  cells_wf := h.cells_wf
  saved_wf := h.saved_wf
  contexts_wf := h.contexts_wf

theorem Keeps.set_power_hspi_integ {v0 : _} {v1 : _} {v2 : _} (h0 : m.testBit 5 = false) (h1 : m.testBit 11 = false) (h2 : m.testBit 15 = false) (h : Keeps m s t) :
    Keeps m s { t with power := v0, hspi := v1, integ := v2 } where
  pending_eq := h.pending_eq
  clk_eq := h.clk_eq
  freeIdx_eq := h.freeIdx_eq
  dram_eq := h.dram_eq
  vault_eq := h.vault_eq
  power_eq hi := by rw [h0] at hi; contradiction
  aon_eq := h.aon_eq
  flash_eq := h.flash_eq
  time_eq := h.time_eq
  evt_eq := h.evt_eq
  sys_eq := h.sys_eq
  hspi_eq hi := by rw [h1] at hi; contradiction
  eop_eq := h.eop_eq
  weir_eq := h.weir_eq
  net_eq := h.net_eq
  integ_eq hi := by rw [h2] at hi; contradiction
  update_eq := h.update_eq
  ingest_eq := h.ingest_eq
  disp_eq := h.disp_eq
  coll_eq := h.coll_eq
  quires_eq := h.quires_eq
  strands_eq := h.strands_eq
  light_eq := h.light_eq
  cal_eq := h.cal_eq
  twin_eq := h.twin_eq
  objs := h.objs
  dram_wf := h.dram_wf
  vault_wf := h.vault_wf
  cells_wf := h.cells_wf
  saved_wf := h.saved_wf
  contexts_wf := h.contexts_wf

theorem Keeps.set_power_quires_strands {v0 : _} {v1 : _} {v2 : _} (h0 : m.testBit 5 = false) (h1 : m.testBit 20 = false) (h2 : m.testBit 21 = false) (h : Keeps m s t) :
    Keeps m s { t with power := v0, quires := v1, strands := v2 } where
  pending_eq := h.pending_eq
  clk_eq := h.clk_eq
  freeIdx_eq := h.freeIdx_eq
  dram_eq := h.dram_eq
  vault_eq := h.vault_eq
  power_eq hi := by rw [h0] at hi; contradiction
  aon_eq := h.aon_eq
  flash_eq := h.flash_eq
  time_eq := h.time_eq
  evt_eq := h.evt_eq
  sys_eq := h.sys_eq
  hspi_eq := h.hspi_eq
  eop_eq := h.eop_eq
  weir_eq := h.weir_eq
  net_eq := h.net_eq
  integ_eq := h.integ_eq
  update_eq := h.update_eq
  ingest_eq := h.ingest_eq
  disp_eq := h.disp_eq
  coll_eq := h.coll_eq
  quires_eq hi := by rw [h1] at hi; contradiction
  strands_eq hi := by rw [h2] at hi; contradiction
  light_eq := h.light_eq
  cal_eq := h.cal_eq
  twin_eq := h.twin_eq
  objs := h.objs
  dram_wf := h.dram_wf
  vault_wf := h.vault_wf
  cells_wf := h.cells_wf
  saved_wf := h.saved_wf
  contexts_wf := h.contexts_wf

theorem Keeps.set_quires {v0 : _} (h0 : m.testBit 20 = false) (h : Keeps m s t) :
    Keeps m s { t with quires := v0 } where
  pending_eq := h.pending_eq
  clk_eq := h.clk_eq
  freeIdx_eq := h.freeIdx_eq
  dram_eq := h.dram_eq
  vault_eq := h.vault_eq
  power_eq := h.power_eq
  aon_eq := h.aon_eq
  flash_eq := h.flash_eq
  time_eq := h.time_eq
  evt_eq := h.evt_eq
  sys_eq := h.sys_eq
  hspi_eq := h.hspi_eq
  eop_eq := h.eop_eq
  weir_eq := h.weir_eq
  net_eq := h.net_eq
  integ_eq := h.integ_eq
  update_eq := h.update_eq
  ingest_eq := h.ingest_eq
  disp_eq := h.disp_eq
  coll_eq := h.coll_eq
  quires_eq hi := by rw [h0] at hi; contradiction
  strands_eq := h.strands_eq
  light_eq := h.light_eq
  cal_eq := h.cal_eq
  twin_eq := h.twin_eq
  objs := h.objs
  dram_wf := h.dram_wf
  vault_wf := h.vault_wf
  cells_wf := h.cells_wf
  saved_wf := h.saved_wf
  contexts_wf := h.contexts_wf

theorem Keeps.set_strands {v0 : _} (h0 : m.testBit 21 = false) (h : Keeps m s t) :
    Keeps m s { t with strands := v0 } where
  pending_eq := h.pending_eq
  clk_eq := h.clk_eq
  freeIdx_eq := h.freeIdx_eq
  dram_eq := h.dram_eq
  vault_eq := h.vault_eq
  power_eq := h.power_eq
  aon_eq := h.aon_eq
  flash_eq := h.flash_eq
  time_eq := h.time_eq
  evt_eq := h.evt_eq
  sys_eq := h.sys_eq
  hspi_eq := h.hspi_eq
  eop_eq := h.eop_eq
  weir_eq := h.weir_eq
  net_eq := h.net_eq
  integ_eq := h.integ_eq
  update_eq := h.update_eq
  ingest_eq := h.ingest_eq
  disp_eq := h.disp_eq
  coll_eq := h.coll_eq
  quires_eq := h.quires_eq
  strands_eq hi := by rw [h0] at hi; contradiction
  light_eq := h.light_eq
  cal_eq := h.cal_eq
  twin_eq := h.twin_eq
  objs := h.objs
  dram_wf := h.dram_wf
  vault_wf := h.vault_wf
  cells_wf := h.cells_wf
  saved_wf := h.saved_wf
  contexts_wf := h.contexts_wf

theorem Keeps.set_sys {v0 : _} (h0 : m.testBit 10 = false) (h : Keeps m s t) :
    Keeps m s { t with sys := v0 } where
  pending_eq := h.pending_eq
  clk_eq := h.clk_eq
  freeIdx_eq := h.freeIdx_eq
  dram_eq := h.dram_eq
  vault_eq := h.vault_eq
  power_eq := h.power_eq
  aon_eq := h.aon_eq
  flash_eq := h.flash_eq
  time_eq := h.time_eq
  evt_eq := h.evt_eq
  sys_eq hi := by rw [h0] at hi; contradiction
  hspi_eq := h.hspi_eq
  eop_eq := h.eop_eq
  weir_eq := h.weir_eq
  net_eq := h.net_eq
  integ_eq := h.integ_eq
  update_eq := h.update_eq
  ingest_eq := h.ingest_eq
  disp_eq := h.disp_eq
  coll_eq := h.coll_eq
  quires_eq := h.quires_eq
  strands_eq := h.strands_eq
  light_eq := h.light_eq
  cal_eq := h.cal_eq
  twin_eq := h.twin_eq
  objs := h.objs
  dram_wf := h.dram_wf
  vault_wf := h.vault_wf
  cells_wf := h.cells_wf
  saved_wf := h.saved_wf
  contexts_wf := h.contexts_wf

theorem Keeps.set_time {v0 : _} (h0 : m.testBit 8 = false) (h : Keeps m s t) :
    Keeps m s { t with time := v0 } where
  pending_eq := h.pending_eq
  clk_eq := h.clk_eq
  freeIdx_eq := h.freeIdx_eq
  dram_eq := h.dram_eq
  vault_eq := h.vault_eq
  power_eq := h.power_eq
  aon_eq := h.aon_eq
  flash_eq := h.flash_eq
  time_eq hi := by rw [h0] at hi; contradiction
  evt_eq := h.evt_eq
  sys_eq := h.sys_eq
  hspi_eq := h.hspi_eq
  eop_eq := h.eop_eq
  weir_eq := h.weir_eq
  net_eq := h.net_eq
  integ_eq := h.integ_eq
  update_eq := h.update_eq
  ingest_eq := h.ingest_eq
  disp_eq := h.disp_eq
  coll_eq := h.coll_eq
  quires_eq := h.quires_eq
  strands_eq := h.strands_eq
  light_eq := h.light_eq
  cal_eq := h.cal_eq
  twin_eq := h.twin_eq
  objs := h.objs
  dram_wf := h.dram_wf
  vault_wf := h.vault_wf
  cells_wf := h.cells_wf
  saved_wf := h.saved_wf
  contexts_wf := h.contexts_wf

theorem Keeps.set_time_eop_net_update_quires_twin {v0 : _} {v1 : _} {v2 : _} {v3 : _} {v4 : _} {v5 : _} (h0 : m.testBit 8 = false) (h1 : m.testBit 12 = false) (h2 : m.testBit 14 = false) (h3 : m.testBit 16 = false) (h4 : m.testBit 20 = false) (h5 : m.testBit 24 = false) (hn : Memory.wf t.net.cells.bytes = true → Memory.wf v2.cells.bytes = true) (h : Keeps m s t) :
    Keeps m s { t with time := v0, eop := v1, net := v2, update := v3, quires := v4, twin := v5 } where
  pending_eq := h.pending_eq
  clk_eq := h.clk_eq
  freeIdx_eq := h.freeIdx_eq
  dram_eq := h.dram_eq
  vault_eq := h.vault_eq
  power_eq := h.power_eq
  aon_eq := h.aon_eq
  flash_eq := h.flash_eq
  time_eq hi := by rw [h0] at hi; contradiction
  evt_eq := h.evt_eq
  sys_eq := h.sys_eq
  hspi_eq := h.hspi_eq
  eop_eq hi := by rw [h1] at hi; contradiction
  weir_eq := h.weir_eq
  net_eq hi := by rw [h2] at hi; contradiction
  integ_eq := h.integ_eq
  update_eq hi := by rw [h3] at hi; contradiction
  ingest_eq := h.ingest_eq
  disp_eq := h.disp_eq
  coll_eq := h.coll_eq
  quires_eq hi := by rw [h4] at hi; contradiction
  strands_eq := h.strands_eq
  light_eq := h.light_eq
  cal_eq := h.cal_eq
  twin_eq hi := by rw [h5] at hi; contradiction
  objs := h.objs
  dram_wf := h.dram_wf
  vault_wf := h.vault_wf
  cells_wf hs := hn (h.cells_wf hs)
  saved_wf := h.saved_wf
  contexts_wf := h.contexts_wf

theorem Keeps.set_twin {v0 : _} (h0 : m.testBit 24 = false) (h : Keeps m s t) :
    Keeps m s { t with twin := v0 } where
  pending_eq := h.pending_eq
  clk_eq := h.clk_eq
  freeIdx_eq := h.freeIdx_eq
  dram_eq := h.dram_eq
  vault_eq := h.vault_eq
  power_eq := h.power_eq
  aon_eq := h.aon_eq
  flash_eq := h.flash_eq
  time_eq := h.time_eq
  evt_eq := h.evt_eq
  sys_eq := h.sys_eq
  hspi_eq := h.hspi_eq
  eop_eq := h.eop_eq
  weir_eq := h.weir_eq
  net_eq := h.net_eq
  integ_eq := h.integ_eq
  update_eq := h.update_eq
  ingest_eq := h.ingest_eq
  disp_eq := h.disp_eq
  coll_eq := h.coll_eq
  quires_eq := h.quires_eq
  strands_eq := h.strands_eq
  light_eq := h.light_eq
  cal_eq := h.cal_eq
  twin_eq hi := by rw [h0] at hi; contradiction
  objs := h.objs
  dram_wf := h.dram_wf
  vault_wf := h.vault_wf
  cells_wf := h.cells_wf
  saved_wf := h.saved_wf
  contexts_wf := h.contexts_wf

theorem Keeps.set_update {v0 : _} (h0 : m.testBit 16 = false) (h : Keeps m s t) :
    Keeps m s { t with update := v0 } where
  pending_eq := h.pending_eq
  clk_eq := h.clk_eq
  freeIdx_eq := h.freeIdx_eq
  dram_eq := h.dram_eq
  vault_eq := h.vault_eq
  power_eq := h.power_eq
  aon_eq := h.aon_eq
  flash_eq := h.flash_eq
  time_eq := h.time_eq
  evt_eq := h.evt_eq
  sys_eq := h.sys_eq
  hspi_eq := h.hspi_eq
  eop_eq := h.eop_eq
  weir_eq := h.weir_eq
  net_eq := h.net_eq
  integ_eq := h.integ_eq
  update_eq hi := by rw [h0] at hi; contradiction
  ingest_eq := h.ingest_eq
  disp_eq := h.disp_eq
  coll_eq := h.coll_eq
  quires_eq := h.quires_eq
  strands_eq := h.strands_eq
  light_eq := h.light_eq
  cal_eq := h.cal_eq
  twin_eq := h.twin_eq
  objs := h.objs
  dram_wf := h.dram_wf
  vault_wf := h.vault_wf
  cells_wf := h.cells_wf
  saved_wf := h.saved_wf
  contexts_wf := h.contexts_wf

theorem Keeps.set_weir {v0 : _} (h0 : m.testBit 13 = false) (hw : Memory.wf t.weir.saved.bytes = true → Memory.wf v0.saved.bytes = true) (h : Keeps m s t) :
    Keeps m s { t with weir := v0 } where
  pending_eq := h.pending_eq
  clk_eq := h.clk_eq
  freeIdx_eq := h.freeIdx_eq
  dram_eq := h.dram_eq
  vault_eq := h.vault_eq
  power_eq := h.power_eq
  aon_eq := h.aon_eq
  flash_eq := h.flash_eq
  time_eq := h.time_eq
  evt_eq := h.evt_eq
  sys_eq := h.sys_eq
  hspi_eq := h.hspi_eq
  eop_eq := h.eop_eq
  weir_eq hi := by rw [h0] at hi; contradiction
  net_eq := h.net_eq
  integ_eq := h.integ_eq
  update_eq := h.update_eq
  ingest_eq := h.ingest_eq
  disp_eq := h.disp_eq
  coll_eq := h.coll_eq
  quires_eq := h.quires_eq
  strands_eq := h.strands_eq
  light_eq := h.light_eq
  cal_eq := h.cal_eq
  twin_eq := h.twin_eq
  objs := h.objs
  dram_wf := h.dram_wf
  vault_wf := h.vault_wf
  cells_wf := h.cells_wf
  saved_wf hs := hw (h.saved_wf hs)
  contexts_wf := h.contexts_wf

/-! ## Objects and memories -/

/-- A mask without groups says nothing of objects. -/
theorem no_group (h : m < 2 ^ 32) (o : Nat) : m.testBit (32 + o / 4096) = false :=
  Nat.testBit_lt_two_pow (Nat.lt_of_lt_of_le h (Nat.pow_le_pow_right (by decide) (by omega)))

/-- Another object table in place of the one written. -/
theorem Keeps.set_od {v : Tbl (Tbl Row)} (ho : ∀ o r, m.testBit (32 + o / 4096) = true → ({ t with od := v }).row o r = t.row o r)
    (h : Keeps m s t) : Keeps m s { t with od := v } where
  pending_eq := h.pending_eq
  clk_eq := h.clk_eq
  freeIdx_eq := h.freeIdx_eq
  dram_eq := h.dram_eq
  vault_eq := h.vault_eq
  power_eq := h.power_eq
  aon_eq := h.aon_eq
  flash_eq := h.flash_eq
  time_eq := h.time_eq
  evt_eq := h.evt_eq
  sys_eq := h.sys_eq
  hspi_eq := h.hspi_eq
  eop_eq := h.eop_eq
  weir_eq := h.weir_eq
  net_eq := h.net_eq
  integ_eq := h.integ_eq
  update_eq := h.update_eq
  ingest_eq := h.ingest_eq
  disp_eq := h.disp_eq
  coll_eq := h.coll_eq
  quires_eq := h.quires_eq
  strands_eq := h.strands_eq
  light_eq := h.light_eq
  cal_eq := h.cal_eq
  twin_eq := h.twin_eq
  objs o r hi := (ho o r hi).trans (h.objs o r hi)
  dram_wf := h.dram_wf
  vault_wf := h.vault_wf
  cells_wf := h.cells_wf
  saved_wf := h.saved_wf
  contexts_wf := h.contexts_wf

theorem Keeps.setRow {o r : Nat} {v : Row} (ho : m.testBit (32 + o / 4096) = false) (h : Keeps m s t) :
    Keeps m s (t.setRow o r v) := by
  refine Keeps.set_od (fun o' r' hi => ?_) h
  have hne : ¬(o' = o ∧ r' = r) := by rintro ⟨rfl, rfl⟩; rw [ho] at hi; contradiction
  exact row_setRow_of_ne t v hne

theorem Keeps.setFld {o r c v : Nat} (ho : m.testBit (32 + o / 4096) = false) (h : Keeps m s t) :
    Keeps m s (t.setFld o r c v) := Keeps.setRow ho h

theorem Keeps.setVal {o v : Nat} (ho : m.testBit (32 + o / 4096) = false) (h : Keeps m s t) :
    Keeps m s (t.setVal o v) := Keeps.setRow ho h

theorem Keeps.setRowCount {o n : Nat} (ho : m.testBit (32 + o / 4096) = false) (h : Keeps m s t) :
    Keeps m s (t.setRowCount o n) := Keeps.setRow ho h

theorem Keeps.add {o r c n : Nat} (ho : m.testBit (32 + o / 4096) = false) (h : Keeps m s t) :
    Keeps m s (t.add o r c n) := Keeps.setRow ho h

theorem Keeps.bump {o r c : Nat} (ho : m.testBit (32 + o / 4096) = false) (h : Keeps m s t) :
    Keeps m s (t.bump o r c) := Keeps.setRow ho h

theorem Keeps.bump32 {o r c : Nat} (ho : m.testBit (32 + o / 4096) = false) (h : Keeps m s t) :
    Keeps m s (t.bump32 o r c) := Keeps.setRow ho h

theorem Keeps.setRows {o : Nat} {v : Tbl Row} (ho : m.testBit (32 + o / 4096) = false) (h : Keeps m s t) :
    Keeps m s (t.setRows o v) := by
  refine Keeps.set_od (fun o' r' hi => ?_) h
  have hne : o' ≠ o := by rintro rfl; rw [ho] at hi; contradiction
  unfold State.row
  rw [tget_tset_of_ne _ _ _ _ hne]

theorem Keeps.clearObj {o : Nat} (ho : m.testBit (32 + o / 4096) = false) (h : Keeps m s t) :
    Keeps m s (t.clearObj o) := Keeps.setRows ho h

theorem Keeps.set_dram {v : Mem} (hm : m.testBit 3 = false) (hv : Memory.wf t.dram = true → Memory.wf v = true) (h : Keeps m s t) :
    Keeps m s { t with dram := v } where
  pending_eq := h.pending_eq
  clk_eq := h.clk_eq
  freeIdx_eq := h.freeIdx_eq
  dram_eq hi := by rw [hm] at hi; contradiction
  vault_eq := h.vault_eq
  power_eq := h.power_eq
  aon_eq := h.aon_eq
  flash_eq := h.flash_eq
  time_eq := h.time_eq
  evt_eq := h.evt_eq
  sys_eq := h.sys_eq
  hspi_eq := h.hspi_eq
  eop_eq := h.eop_eq
  weir_eq := h.weir_eq
  net_eq := h.net_eq
  integ_eq := h.integ_eq
  update_eq := h.update_eq
  ingest_eq := h.ingest_eq
  disp_eq := h.disp_eq
  coll_eq := h.coll_eq
  quires_eq := h.quires_eq
  strands_eq := h.strands_eq
  light_eq := h.light_eq
  cal_eq := h.cal_eq
  twin_eq := h.twin_eq
  objs := h.objs
  dram_wf hs := hv (h.dram_wf hs)
  vault_wf := h.vault_wf
  cells_wf := h.cells_wf
  saved_wf := h.saved_wf
  contexts_wf := h.contexts_wf

theorem Keeps.set_vault_integ {v : Mem} {i : Integ} (h1 : m.testBit 4 = false) (h2 : m.testBit 15 = false)
    (hv : Memory.wf t.vault = true → Memory.wf v = true) (h : Keeps m s t) : Keeps m s { t with vault := v, integ := i } where
  pending_eq := h.pending_eq
  clk_eq := h.clk_eq
  freeIdx_eq := h.freeIdx_eq
  dram_eq := h.dram_eq
  vault_eq hi := by rw [h1] at hi; contradiction
  power_eq := h.power_eq
  aon_eq := h.aon_eq
  flash_eq := h.flash_eq
  time_eq := h.time_eq
  evt_eq := h.evt_eq
  sys_eq := h.sys_eq
  hspi_eq := h.hspi_eq
  eop_eq := h.eop_eq
  weir_eq := h.weir_eq
  net_eq := h.net_eq
  integ_eq hi := by rw [h2] at hi; contradiction
  update_eq := h.update_eq
  ingest_eq := h.ingest_eq
  disp_eq := h.disp_eq
  coll_eq := h.coll_eq
  quires_eq := h.quires_eq
  strands_eq := h.strands_eq
  light_eq := h.light_eq
  cal_eq := h.cal_eq
  twin_eq := h.twin_eq
  objs := h.objs
  dram_wf := h.dram_wf
  vault_wf hs := hv (h.vault_wf hs)
  cells_wf := h.cells_wf
  saved_wf := h.saved_wf
  contexts_wf := h.contexts_wf

/-- A write into a part of the Vault keeps its form. -/
theorem Ram.wf_put {x : Ram} {a : Nat} {bs : List Byte} (h : Memory.wf x.bytes = true) : Memory.wf (x.put a bs).bytes = true := wf_msets h

end Sys2Proof.Machine
end

