-- ==== Sys2Proof/Laws/KeepsOps.lean ====
section
/-! SUPPORT. What each operation of Machine/Ops.lean leaves alone. -/

set_option linter.all false
namespace Sys2Proof.Machine

theorem State.pass_keeps (s : State) (d : Nat) : Keeps 0x5000000000000000000000000000000000000000000000000000f00ff007e00010000000000000000000000000000000000000000000000000000000700070003000000000000000000000000000000000000000f00db00010001000f0007000f00000000000000000000000000000000000000000000000b0007000300070001000000000000000000000000000000000000000000000000000000000000000001fffefd s (State.pass s d) := by
  unfold State.pass
  repeat' first
      | with_reducible exact Keeps.refl
      | with_reducible assumption
      | with_reducible refine Keeps.ite ?_ ?_
      | extract_lets
      | intro _
      | split
      | (with_reducible apply Keeps.set_clk_time; (case h0 => decide); (case h1 => decide))
      | (dsimp +zetaDelta only; split)

theorem State.advanceTo_keeps (s : State) (pt : Nat) : Keeps 0x5000000000000000000000000000000000000000000000000000f00ff007e00010000000000000000000000000000000000000000000000000000000700070003000000000000000000000000000000000000000f00db00010001000f0007000f00000000000000000000000000000000000000000000000b0007000300070001000000000000000000000000000000000000000000000000000000000000000001fffefd s (State.advanceTo s pt) := by
  unfold State.advanceTo
  repeat' first
      | with_reducible exact Keeps.refl
      | with_reducible assumption
      | with_reducible refine Keeps.ite ?_ ?_
      | extract_lets
      | intro _
      | split
      | (with_reducible apply Keeps.set_clk_time; (case h0 => decide); (case h1 => decide))
      | (dsimp +zetaDelta only; split)

theorem State.advanceTb_keeps (s : State) (t : Rat) : Keeps 0x5000000000000000000000000000000000000000000000000000f00ff007e00010000000000000000000000000000000000000000000000000000000700070003000000000000000000000000000000000000000f00db00010001000f0007000f00000000000000000000000000000000000000000000000b0007000300070001000000000000000000000000000000000000000000000000000000000000000001fffefd s (State.advanceTb s t) := by
  unfold State.advanceTb
  repeat' first
      | with_reducible exact Keeps.refl
      | with_reducible assumption
      | with_reducible refine Keeps.ite ?_ ?_
      | extract_lets
      | intro _
      | split
      | (with_reducible apply Keeps.set_clk_time; (case h0 => decide); (case h1 => decide))
      | (dsimp +zetaDelta only; split)

theorem State.advanceElapsed_keeps (s : State) (e : Nat) : Keeps 0x5000000000000000000000000000000000000000000000000000f00ff007e00010000000000000000000000000000000000000000000000000000000700070003000000000000000000000000000000000000000f00db00010001000f0007000f00000000000000000000000000000000000000000000000b0007000300070001000000000000000000000000000000000000000000000000000000000000000001fffefd s (State.advanceElapsed s e) := by
  unfold State.advanceElapsed
  repeat' first
      | with_reducible exact Keeps.refl
      | with_reducible assumption
      | with_reducible refine Keeps.ite ?_ ?_
      | (with_reducible apply Keeps.step (State.pass_keeps ..); · decide)
      | extract_lets
      | intro _
      | split
      | (dsimp +zetaDelta only; split)

theorem State.drawNat_keeps (s : State) : Keeps 0x5000000000000000000000000000000000000000000000000000f00ff007e00010000000000000000000000000000000000000000000000000000000700070003000000000000000000000000000000000000000f00db00010001000f0007000f00000000000000000000000000000000000000000000000b0007000300070001000000000000000000000000000000000000000000000000000000000000000001fffffb s (State.drawNat s).2 := by
  unfold State.drawNat
  repeat' first
      | with_reducible exact Keeps.refl
      | with_reducible assumption
      | with_reducible refine Keeps.ite ?_ ?_
      | with_reducible refine Keeps.ite_snd ?_ ?_
      | extract_lets
      | intro _
      | split
      | (with_reducible apply Keeps.set_freeIdx; (case h0 => decide))
      | (dsimp +zetaDelta only; split)

theorem State.drawNat_keeps' (s : State) {α_ : _} {t_ : State} (he : State.drawNat s = (α_, t_)) : Keeps 0x5000000000000000000000000000000000000000000000000000f00ff007e00010000000000000000000000000000000000000000000000000000000700070003000000000000000000000000000000000000000f00db00010001000f0007000f00000000000000000000000000000000000000000000000b0007000300070001000000000000000000000000000000000000000000000000000000000000000001fffffb s t_ := by
  have h := State.drawNat_keeps s
  rw [he] at h
  exact h

theorem State.drawInt_keeps (s : State) : Keeps 0x5000000000000000000000000000000000000000000000000000f00ff007e00010000000000000000000000000000000000000000000000000000000700070003000000000000000000000000000000000000000f00db00010001000f0007000f00000000000000000000000000000000000000000000000b0007000300070001000000000000000000000000000000000000000000000000000000000000000001fffffb s (State.drawInt s).2 := by
  unfold State.drawInt
  repeat' first
      | with_reducible exact Keeps.refl
      | with_reducible assumption
      | with_reducible refine Keeps.ite ?_ ?_
      | with_reducible refine Keeps.ite_snd ?_ ?_
      | extract_lets
      | intro _
      | split
      | (with_reducible apply Keeps.set_freeIdx; (case h0 => decide))
      | (dsimp +zetaDelta only; split)

theorem State.drawInt_keeps' (s : State) {α_ : _} {t_ : State} (he : State.drawInt s = (α_, t_)) : Keeps 0x5000000000000000000000000000000000000000000000000000f00ff007e00010000000000000000000000000000000000000000000000000000000700070003000000000000000000000000000000000000000f00db00010001000f0007000f00000000000000000000000000000000000000000000000b0007000300070001000000000000000000000000000000000000000000000000000000000000000001fffffb s t_ := by
  have h := State.drawInt_keeps s
  rw [he] at h
  exact h

theorem State.notify_keeps (s : State) (e : Nat) : Keeps 0x5000000000000000000000000000000000000000000000000000f00ff007e00010000000000000000000000000000000000000000000000000000000700070003000000000000000000000000000000000000000f00db00010001000f0007000f00000000000000000000000000000000000000000000000b0007000300070001000000000000000000000000000000000000000000000000000000000000000001ffefff s (State.notify s e) := by
  unfold State.notify
  repeat' first
      | with_reducible exact Keeps.refl
      | with_reducible assumption
      | with_reducible refine Keeps.ite ?_ ?_
      | extract_lets
      | intro _
      | split
      | (with_reducible apply Keeps.set_eop; (case h0 => decide))
      | (dsimp +zetaDelta only; split)

theorem State.raise_keeps (s : State) (e : Nat) : Keeps 0x5000000000000000000000000000000000000000000000000000f00ff007e00000000000000000000000000000000000000000000000000000000000700070003000000000000000000000000000000000000000f00db00010001000f0007000f00000000000000000000000000000000000000000000000b0007000300070001000000000000000000000000000000000000000000000000000000000000000001ffedff s (State.raise s e) := by
  unfold State.raise
  repeat' first
      | with_reducible exact Keeps.refl
      | with_reducible assumption
      | with_reducible refine Keeps.ite ?_ ?_
      | (with_reducible apply Keeps.bump32; · decide)
      | (with_reducible apply Keeps.step (State.notify_keeps ..); · decide)
      | extract_lets
      | intro _
      | split
      | (with_reducible apply Keeps.set_evt; (case h0 => decide))
      | (dsimp +zetaDelta only; split)

theorem State.raiseOnce_keeps (s : State) (e key w : Nat) : Keeps 0x5000000000000000000000000000000000000000000000000000f00ff007e00000000000000000000000000000000000000000000000000000000000700070003000000000000000000000000000000000000000f00db00010001000f0007000f00000000000000000000000000000000000000000000000b0007000300070001000000000000000000000000000000000000000000000000000000000000000001ffedff s (State.raiseOnce s e key w) := by
  unfold State.raiseOnce
  repeat' first
      | with_reducible exact Keeps.refl
      | with_reducible assumption
      | with_reducible refine Keeps.ite ?_ ?_
      | (with_reducible apply Keeps.step (State.raise_keeps ..); · decide)
      | extract_lets
      | intro _
      | split
      | (with_reducible apply Keeps.set_evt; (case h0 => decide))
      | (dsimp +zetaDelta only; split)

theorem State.raiseMs_keeps (s : State) (e : Nat) : Keeps 0x5000000000000000000000000000000000000000000000000000f00ff007e00000000000000000000000000000000000000000000000000000000000700070003000000000000000000000000000000000000000f00db00010001000f0007000f00000000000000000000000000000000000000000000000b0007000300070001000000000000000000000000000000000000000000000000000000000000000001ffedff s (State.raiseMs s e) := by
  unfold State.raiseMs
  repeat' first
      | with_reducible exact Keeps.refl
      | with_reducible assumption
      | with_reducible refine Keeps.ite ?_ ?_
      | (with_reducible apply Keeps.step (State.raiseOnce_keeps ..); · decide)
      | extract_lets
      | intro _
      | split
      | (dsimp +zetaDelta only; split)

theorem State.raiseIf_keeps (s : State) (b : Bool) (e : Nat) : Keeps 0x5000000000000000000000000000000000000000000000000000f00ff007e00000000000000000000000000000000000000000000000000000000000700070003000000000000000000000000000000000000000f00db00010001000f0007000f00000000000000000000000000000000000000000000000b0007000300070001000000000000000000000000000000000000000000000000000000000000000001ffedff s (State.raiseIf s b e) := by
  unfold State.raiseIf
  repeat' first
      | with_reducible exact Keeps.refl
      | with_reducible assumption
      | with_reducible refine Keeps.ite ?_ ?_
      | (with_reducible apply Keeps.step (State.raise_keeps ..); · decide)
      | extract_lets
      | intro _
      | split
      | (dsimp +zetaDelta only; split)

theorem State.lockViolation_keeps (s : State) (addr : Word) : Keeps 0x5000000000000000000000000000000000000000000000000000f00ff007e00000000000000000000000000000000000000000000000000000000000700070003000000000000000000000000000000000000000f00db00010001000f0007000f00000000000000000000000000000000000000000000000b0007000300070001000000000000000000000000000000000000000000000000000000000000000001ffe9ff s (State.lockViolation s addr) := by
  unfold State.lockViolation
  repeat' first
      | with_reducible exact Keeps.refl
      | with_reducible assumption
      | with_reducible refine Keeps.ite ?_ ?_
      | (with_reducible apply Keeps.bump; · decide)
      | (with_reducible apply Keeps.step (State.raise_keeps ..); · decide)
      | extract_lets
      | intro _
      | split
      | (with_reducible apply Keeps.set_sys; (case h0 => decide))
      | (dsimp +zetaDelta only; split)

theorem State.windowMissAt_keeps (s : State) (addr : Word) : Keeps 0x5000000000000000000000000000000000000000000000000000f00ff007e00000000000000000000000000000000000000000000000000000000000700070003000000000000000000000000000000000000000f00db00010001000f0007000f00000000000000000000000000000000000000000000000b0007000300070001000000000000000000000000000000000000000000000000000000000000000001ffe9ff s (State.windowMissAt s addr) := by
  unfold State.windowMissAt
  repeat' first
      | with_reducible exact Keeps.refl
      | with_reducible assumption
      | with_reducible refine Keeps.ite ?_ ?_
      | (with_reducible apply Keeps.bump; · decide)
      | (with_reducible apply Keeps.step (State.raise_keeps ..); · decide)
      | extract_lets
      | intro _
      | split
      | (with_reducible apply Keeps.set_sys; (case h0 => decide))
      | (dsimp +zetaDelta only; split)

theorem State.hspiBusError_keeps (s : State) (addr : Word) : Keeps 0x5000000000000000000000000000000000000000000000000000f00ff007e00000000000000000000000000000000000000000000000000000000000700070003000000000000000000000000000000000000000f00db00010001000f0007000f00000000000000000000000000000000000000000000000b0007000300070001000000000000000000000000000000000000000000000000000000000000000001fff3ff s (State.hspiBusError s addr) := by
  unfold State.hspiBusError
  repeat' first
      | with_reducible exact Keeps.refl
      | with_reducible assumption
      | with_reducible refine Keeps.ite ?_ ?_
      | (with_reducible apply Keeps.bump; · decide)
      | extract_lets
      | intro _
      | split
      | (with_reducible apply Keeps.set_hspi; (case h0 => decide))
      | (with_reducible apply Keeps.set_sys; (case h0 => decide))
      | (dsimp +zetaDelta only; split)

theorem State.coreBusError_keeps (s : State) : Keeps 0x5000000000000000000000000000000000000000000000000000f00ff007e00000000000000000000000000000000000000000000000000000000000700070003000000000000000000000000000000000000000f00db00010001000f0007000f00000000000000000000000000000000000000000000000b0007000300070001000000000000000000000000000000000000000000000000000000000000000001ffffff s (State.coreBusError s) := by
  unfold State.coreBusError
  repeat' first
      | with_reducible exact Keeps.refl
      | with_reducible assumption
      | with_reducible refine Keeps.ite ?_ ?_
      | (with_reducible apply Keeps.bump; · decide)
      | extract_lets
      | intro _
      | split
      | (dsimp +zetaDelta only; split)

end Sys2Proof.Machine
end

