-- ==== Sys2Proof/Laws/KeepsPool.lean ====
section
/-! SUPPORT. What each operation of Machine/Pool.lean leaves alone. -/

set_option linter.all false
namespace Sys2Proof.Machine

theorem Packet.fill_wf (p : Packet) {x : Ram} (h : Memory.wf x.bytes = true) : Memory.wf (p.fill x).bytes = true := by
  unfold Packet.fill
  generalize p.place.zipIdx = l
  induction l generalizing x with
  | nil => exact h
  | cons e l ih => exact ih (Ram.wf_put h)

theorem State.setPort_keeps (s : State) (p : Nat) (x : Port) : Keeps 0x5000000000000000000000000000000000000000000000000000f00ff007e00010000000000000000000000000000000000000000000000000000000700070003000000000000000000000000000000000000000f00db00010001000f0007000f00000000000000000000000000000000000000000000000b0007000300070001000000000000000000000000000000000000000000000000000000000000000001ffbfff s (State.setPort s p x) := by
  unfold State.setPort
  repeat' first
      | with_reducible exact Keeps.refl
      | with_reducible assumption
      | with_reducible refine Keeps.ite ?_ ?_
      | extract_lets
      | intro _
      | split
      | (with_reducible apply Keeps.set_net; (case h0 => decide); (case hn => first | exact id | exact Ram.wf_put | exact Packet.fill_wf _ | exact fun h => by split <;> exact h))
      | (dsimp +zetaDelta only; split)

theorem State.portEvent_keeps (s : State) (p : Nat) : Keeps 0x5000000000000000000000000000000000000000000000000000f00ff007e00000000000000000000000000000000000000000000000000000000000700070003000000000000000000000000000000000000000f00db00010001000f0007000f00000000000000000000000000000000000000000000000b0007000300070001000000000000000000000000000000000000000000000000000000000000000001ffedff s (State.portEvent s p) := by
  unfold State.portEvent
  repeat' first
      | with_reducible exact Keeps.refl
      | with_reducible assumption
      | with_reducible refine Keeps.ite ?_ ?_
      | (with_reducible apply Keeps.step (State.raise_keeps ..); · decide)
      | extract_lets
      | intro _
      | split
      | (dsimp +zetaDelta only; split)

theorem State.portErr_keeps (s : State) (p c : Nat) : Keeps 0x5000000000000000000000000000000000000000000000000000f00ff003e00000000000000000000000000000000000000000000000000000000000700070003000000000000000000000000000000000000000f00db00010001000f0007000f00000000000000000000000000000000000000000000000b0007000300070001000000000000000000000000000000000000000000000000000000000000000001ffedff s (State.portErr s p c) := by
  unfold State.portErr
  repeat' first
      | with_reducible exact Keeps.refl
      | with_reducible assumption
      | with_reducible refine Keeps.ite ?_ ?_
      | (with_reducible apply Keeps.bump; · decide)
      | (with_reducible apply Keeps.step (State.raiseOnce_keeps ..); · decide)
      | extract_lets
      | intro _
      | split
      | (dsimp +zetaDelta only; split)

theorem State.cellsTaken_keeps (s : State) (n : Nat) : Keeps 0x5000000000000000000000000000000000000000000000000000f00ff007e00010000000000000000000000000000000000000000000000000000000700070003000000000000000000000000000000000000000f00db00010001000f0007000f00000000000000000000000000000000000000000000000b0007000300070001000000000000000000000000000000000000000000000000000000000000000001ffbfff s (State.cellsTaken s n) := by
  unfold State.cellsTaken
  repeat' first
      | with_reducible exact Keeps.refl
      | with_reducible assumption
      | with_reducible refine Keeps.ite ?_ ?_
      | extract_lets
      | intro _
      | split
      | (with_reducible apply Keeps.set_net; (case h0 => decide); (case hn => first | exact id | exact Ram.wf_put | exact Packet.fill_wf _ | exact fun h => by split <;> exact h))
      | (dsimp +zetaDelta only; split)

theorem State.fillCells_keeps (s : State) (p : Packet) : Keeps 0x5000000000000000000000000000000000000000000000000000f00ff007e00010000000000000000000000000000000000000000000000000000000700070003000000000000000000000000000000000000000f00db00010001000f0007000f00000000000000000000000000000000000000000000000b0007000300070001000000000000000000000000000000000000000000000000000000000000000001ffbfff s (State.fillCells s p) := by
  unfold State.fillCells
  repeat' first
      | with_reducible exact Keeps.refl
      | with_reducible assumption
      | with_reducible refine Keeps.ite ?_ ?_
      | extract_lets
      | intro _
      | split
      | (with_reducible apply Keeps.set_net; (case h0 => decide); (case hn => first | exact id | exact Ram.wf_put | exact Packet.fill_wf _ | exact fun h => by split <;> exact h))
      | (dsimp +zetaDelta only; split)

theorem State.pauseGen_keeps (s : State) (p : Nat) : Keeps 0x5000000000000000000000000000000000000000000000000000f00ff007e00000000000000000000000000000000000000000000000000000000000700070003000000000000000000000000000000000000000f00db00010001000f0007000f0000000000000000000000000000000000000000000000090007000300070001000000000000000000000000000000000000000000000000000000000000000001ffadff s (State.pauseGen s p) := by
  unfold State.pauseGen
  repeat' first
      | with_reducible exact Keeps.refl
      | with_reducible assumption
      | with_reducible refine Keeps.ite ?_ ?_
      | (with_reducible apply Keeps.setFld; · decide)
      | (with_reducible apply Keeps.step (State.setPort_keeps ..); · decide)
      | (with_reducible apply Keeps.step (State.portEvent_keeps ..); · decide)
      | extract_lets
      | intro _
      | split
      | (dsimp +zetaDelta only; split)

theorem State.pauseGenAll_keeps (s : State) : Keeps 0x5000000000000000000000000000000000000000000000000000f00ff007e00000000000000000000000000000000000000000000000000000000000700070003000000000000000000000000000000000000000f00db00010001000f0007000f0000000000000000000000000000000000000000000000090007000300070001000000000000000000000000000000000000000000000000000000000000000001ffadff s (State.pauseGenAll s) := by
  unfold State.pauseGenAll
  repeat' first
      | with_reducible exact Keeps.refl
      | with_reducible assumption
      | with_reducible refine Keeps.ite ?_ ?_
      | (with_reducible apply Keeps.step (State.pauseGen_keeps ..); · decide)
      | (with_reducible refine Keeps.foldl (fun _ _ _ => ?_) ?_)
      | extract_lets
      | intro _
      | split
      | (dsimp +zetaDelta only; split)

theorem State.setQueue_keeps (s : State) (q : Nat) (ps : List Packet) : Keeps 0x5000000000000000000000000000000000000000000000000000f00ff007e00000000000000000000000000000000000000000000000000000000000700070003000000000000000000000000000000000000000f00db00010001000f0007000f0000000000000000000000000000000000000000000000010007000300070001000000000000000000000000000000000000000000000000000000000000000001ffadff s (State.setQueue s q ps) := by
  unfold State.setQueue
  repeat' first
      | with_reducible exact Keeps.refl
      | with_reducible assumption
      | with_reducible refine Keeps.ite ?_ ?_
      | (with_reducible apply Keeps.setFld; · decide)
      | (with_reducible apply Keeps.step (State.raiseMs_keeps ..); · decide)
      | (with_reducible apply Keeps.step (State.pauseGenAll_keeps ..); · decide)
      | extract_lets
      | intro _
      | split
      | (with_reducible apply Keeps.set_net; (case h0 => decide); (case hn => first | exact id | exact Ram.wf_put | exact Packet.fill_wf _ | exact fun h => by split <;> exact h))
      | (dsimp +zetaDelta only; split)

theorem State.poolFault_keeps (s : State) (k q : Nat) : Keeps 0x5000000000000000000000000000000000000000000000000000f00ff005e00000000000000000000000000000000000000000000000000000000000700070003000000000000000000000000000000000000000f00db00010001000f0007000f00000000000000000000000000000000000000000000000b0007000300070001000000000000000000000000000000000000000000000000000000000000000001ffadff s (State.poolFault s k q) := by
  unfold State.poolFault
  repeat' first
      | with_reducible exact Keeps.refl
      | with_reducible assumption
      | with_reducible refine Keeps.ite ?_ ?_
      | (with_reducible apply Keeps.bump; · decide)
      | (with_reducible apply Keeps.step (State.raiseMs_keeps ..); · decide)
      | extract_lets
      | intro _
      | split
      | (with_reducible apply Keeps.set_net; (case h0 => decide); (case hn => first | exact id | exact Ram.wf_put | exact Packet.fill_wf _ | exact fun h => by split <;> exact h))
      | (dsimp +zetaDelta only; split)

theorem State.append_keeps (s : State) (q : Nat) (p : Packet) : Keeps 0x5000000000000000000000000000000000000000000000000000f00ff007e00000000000000000000000000000000000000000000000000000000000700070003000000000000000000000000000000000000000f00db00010001000f0007000f0000000000000000000000000000000000000000000000010007000300070001000000000000000000000000000000000000000000000000000000000000000001ffadff s (State.append s q p) := by
  unfold State.append
  repeat' first
      | with_reducible exact Keeps.refl
      | with_reducible assumption
      | with_reducible refine Keeps.ite ?_ ?_
      | (with_reducible apply Keeps.step (State.cellsTaken_keeps ..); · decide)
      | (with_reducible apply Keeps.step (State.fillCells_keeps ..); · decide)
      | (with_reducible apply Keeps.step (State.setQueue_keeps ..); · decide)
      | extract_lets
      | intro _
      | split
      | (dsimp +zetaDelta only; split)

theorem State.enqueue_keeps (s : State) (q : Nat) (p : Packet) : Keeps 0x5000000000000000000000000000000000000000000000000000f00ff005e00000000000000000000000000000000000000000000000000000000000700070003000000000000000000000000000000000000000f00db00010001000f0007000f0000000000000000000000000000000000000000000000010007000300070001000000000000000000000000000000000000000000000000000000000000000001ffadff s (State.enqueue s q p).2 := by
  unfold State.enqueue
  repeat' first
      | with_reducible exact Keeps.refl
      | with_reducible assumption
      | with_reducible refine Keeps.ite ?_ ?_
      | with_reducible refine Keeps.ite_snd ?_ ?_
      | (with_reducible apply Keeps.bump; · decide)
      | (with_reducible apply Keeps.step (State.setQueue_keeps ..); · decide)
      | (with_reducible apply Keeps.step (State.poolFault_keeps ..); · decide)
      | (with_reducible apply Keeps.step (State.append_keeps ..); · decide)
      | extract_lets
      | intro _
      | split
      | (dsimp +zetaDelta only; split)

theorem State.enqueue_keeps' (s : State) (q : Nat) (p : Packet) {α_ : _} {t_ : State} (he : State.enqueue s q p = (α_, t_)) : Keeps 0x5000000000000000000000000000000000000000000000000000f00ff005e00000000000000000000000000000000000000000000000000000000000700070003000000000000000000000000000000000000000f00db00010001000f0007000f0000000000000000000000000000000000000000000000010007000300070001000000000000000000000000000000000000000000000000000000000000000001ffadff s t_ := by
  have h := State.enqueue_keeps s q p
  rw [he] at h
  exact h

theorem State.dequeue_keeps (s : State) (q : Nat) : Keeps 0x5000000000000000000000000000000000000000000000000000f00ff005e00000000000000000000000000000000000000000000000000000000000700070003000000000000000000000000000000000000000f00db00010001000f0007000f0000000000000000000000000000000000000000000000010007000300070001000000000000000000000000000000000000000000000000000000000000000001ffadff s (State.dequeue s q).2 := by
  unfold State.dequeue
  repeat' first
      | with_reducible exact Keeps.refl
      | with_reducible assumption
      | with_reducible refine Keeps.ite ?_ ?_
      | with_reducible refine Keeps.ite_snd ?_ ?_
      | (with_reducible apply Keeps.bump; · decide)
      | (with_reducible apply Keeps.step (State.setQueue_keeps ..); · decide)
      | extract_lets
      | intro _
      | split
      | (dsimp +zetaDelta only; split)

theorem State.dequeue_keeps' (s : State) (q : Nat) {α_ : _} {t_ : State} (he : State.dequeue s q = (α_, t_)) : Keeps 0x5000000000000000000000000000000000000000000000000000f00ff005e00000000000000000000000000000000000000000000000000000000000700070003000000000000000000000000000000000000000f00db00010001000f0007000f0000000000000000000000000000000000000000000000010007000300070001000000000000000000000000000000000000000000000000000000000000000001ffadff s t_ := by
  have h := State.dequeue_keeps s q
  rw [he] at h
  exact h

theorem State.consume_keeps (s : State) (q : Nat) : Keeps 0x5000000000000000000000000000000000000000000000000000f00ff005e00000000000000000000000000000000000000000000000000000000000700070003000000000000000000000000000000000000000f00db00010001000f0007000f0000000000000000000000000000000000000000000000010007000300070001000000000000000000000000000000000000000000000000000000000000000001ffadff s (State.consume s q) := by
  unfold State.consume
  repeat' first
      | with_reducible exact Keeps.refl
      | with_reducible assumption
      | with_reducible refine Keeps.ite ?_ ?_
      | (with_reducible apply Keeps.step (State.dequeue_keeps ..); · decide)
      | extract_lets
      | intro _
      | split
      | (dsimp +zetaDelta only; split)

theorem State.discard_keeps (s : State) (q : Nat) : Keeps 0x5000000000000000000000000000000000000000000000000000f00ff005e00000000000000000000000000000000000000000000000000000000000700070003000000000000000000000000000000000000000f00db00010001000f0007000f0000000000000000000000000000000000000000000000010007000300070001000000000000000000000000000000000000000000000000000000000000000001ffadff s (State.discard s q) := by
  unfold State.discard
  repeat' first
      | with_reducible exact Keeps.refl
      | with_reducible assumption
      | with_reducible refine Keeps.ite ?_ ?_
      | (with_reducible apply Keeps.bump; · decide)
      | (with_reducible apply Keeps.step (State.setQueue_keeps ..); · decide)
      | extract_lets
      | intro _
      | split
      | (dsimp +zetaDelta only; split)

theorem State.consumeFlow_keeps (s : State) (r : Nat) : Keeps 0x5000000000000000000000000000000000000000000000000000f00ff005e00000000000000000000000000000000000000000000000000000000000700070003000000000000000000000000000000000000000f00db00010001000f0007000f0000000000000000000000000000000000000000000000010007000300070001000000000000000000000000000000000000000000000000000000000000000001ffadff s (State.consumeFlow s r) := by
  unfold State.consumeFlow
  repeat' first
      | with_reducible exact Keeps.refl
      | with_reducible assumption
      | with_reducible refine Keeps.ite ?_ ?_
      | (with_reducible apply Keeps.bump; · decide)
      | (with_reducible apply Keeps.step (State.setQueue_keeps ..); · decide)
      | extract_lets
      | intro _
      | split
      | (dsimp +zetaDelta only; split)

theorem State.taskPut_keeps (s : State) (q key : Nat) (bytes : List Byte) : Keeps 0x5000000000000000000000000000000000000000000000000000f00ff005e00000000000000000000000000000000000000000000000000000000000700070003000000000000000000000000000000000000000f00db00010001000f0007000f0000000000000000000000000000000000000000000000010007000300070001000000000000000000000000000000000000000000000000000000000000000001ffadff s (State.taskPut s q key bytes) := by
  unfold State.taskPut
  repeat' first
      | with_reducible exact Keeps.refl
      | with_reducible assumption
      | with_reducible refine Keeps.ite ?_ ?_
      | (with_reducible apply Keeps.step (State.enqueue_keeps ..); · decide)
      | extract_lets
      | intro _
      | split
      | (dsimp +zetaDelta only; split)

theorem State.taskDrop_keeps (s : State) (q : Nat) (keys : Nat → Bool) : Keeps 0x5000000000000000000000000000000000000000000000000000f00ff005e00000000000000000000000000000000000000000000000000000000000700070003000000000000000000000000000000000000000f00db00010001000f0007000f0000000000000000000000000000000000000000000000010007000300070001000000000000000000000000000000000000000000000000000000000000000001ffadff s (State.taskDrop s q keys) := by
  unfold State.taskDrop
  repeat' first
      | with_reducible exact Keeps.refl
      | with_reducible assumption
      | with_reducible refine Keeps.ite ?_ ?_
      | (with_reducible apply Keeps.add; · decide)
      | (with_reducible apply Keeps.step (State.setQueue_keeps ..); · decide)
      | extract_lets
      | intro _
      | split
      | (dsimp +zetaDelta only; split)

theorem State.offer_keeps (s : State) (p k : Nat) (f : TxFrame) : Keeps 0x5000000000000000000000000000000000000000000000000000f00ff001e00000000000000000000000000000000000000000000000000000000000700070003000000000000000000000000000000000000000f00db00010001000f0007000f0000000000000000000000000000000000000000000000010007000300070001000000000000000000000000000000000000000000000000000000000000000001ffadff s (State.offer s p k f) := by
  unfold State.offer
  repeat' first
      | with_reducible exact Keeps.refl
      | with_reducible assumption
      | with_reducible refine Keeps.ite ?_ ?_
      | (with_reducible apply Keeps.step (State.portErr_keeps ..); · decide)
      | (with_reducible apply Keeps.step (State.enqueue_keeps ..); · decide)
      | extract_lets
      | intro _
      | split
      | (dsimp +zetaDelta only; split)

end Sys2Proof.Machine
end

