-- ==== Sys2Proof/Laws/KeepsEopTx.lean ====
section
/-! SUPPORT. What each operation of Machine/EopTx.lean leaves alone. -/

set_option linter.all false
namespace Sys2Proof.Machine

theorem State.eopCount_keeps (s : State) (c : Nat) : Keeps 0x5000000000000000000000000000000000000000000000000000f00ff007c00010000000000000000000000000000000000000000000000000000000700070003000000000000000000000000000000000000000f00db00010001000f0007000f00000000000000000000000000000000000000000000000b0007000300070001000000000000000000000000000000000000000000000000000000000000000001ffffff s (State.eopCount s c) := by
  unfold State.eopCount
  repeat' first
      | with_reducible exact Keeps.refl
      | with_reducible assumption
      | with_reducible refine Keeps.ite ?_ ?_
      | (with_reducible apply Keeps.bump; · decide)
      | extract_lets
      | intro _
      | split
      | (dsimp +zetaDelta only; split)

theorem State.setTx_keeps (s : State) (slot t : Nat) : Keeps 0x5000000000000000000000000000000000000000000000000000f00ff007e00010000000000000000000000000000000000000000000000000000000700070003000000000000000000000000000000000000000f00db00010001000f0007000f00000000000000000000000000000000000000000000000b0007000300070001000000000000000000000000000000000000000000000000000000000000000001ffefff s (State.setTx s slot t) := by
  unfold State.setTx
  repeat' first
      | with_reducible exact Keeps.refl
      | with_reducible assumption
      | with_reducible refine Keeps.ite ?_ ?_
      | extract_lets
      | intro _
      | split
      | (with_reducible apply Keeps.set_eop; (case h0 => decide))
      | (dsimp +zetaDelta only; split)

theorem State.sendMsg_keeps (s : State) (d : Dest) (k : Nat) (kind : TxKind) (op flags session id : Nat) (sl : Option Nat)
    (payload : List Byte) (task : Nat) : Keeps 0x5000000000000000000000000000000000000000000000000000f00ff001e00000000000000000000000000000000000000000000000000000000000700070003000000000000000000000000000000000000000f00db00010001000f0007000f0000000000000000000000000000000000000000000000010007000300070001000000000000000000000000000000000000000000000000000000000000000001ffadff s (State.sendMsg s d k kind op flags session id sl payload task) := by
  unfold State.sendMsg
  repeat' first
      | with_reducible exact Keeps.refl
      | with_reducible assumption
      | with_reducible refine Keeps.ite ?_ ?_
      | (with_reducible apply Keeps.step (State.offer_keeps ..); · decide)
      | (with_reducible apply Keeps.step (State.setTx_keeps ..); · decide)
      | extract_lets
      | intro _
      | split
      | (with_reducible apply Keeps.set_eop; (case h0 => decide))
      | (dsimp +zetaDelta only; split)

theorem State.setSession_keeps (s : State) (i : Nat) (x : Session) : Keeps 0x5000000000000000000000000000000000000000000000000000f00ff007e00010000000000000000000000000000000000000000000000000000000700070003000000000000000000000000000000000000000f00db00010001000f0007000f00000000000000000000000000000000000000000000000b0007000300070001000000000000000000000000000000000000000000000000000000000000000001ffefff s (State.setSession s i x) := by
  unfold State.setSession
  repeat' first
      | with_reducible exact Keeps.refl
      | with_reducible assumption
      | with_reducible refine Keeps.ite ?_ ?_
      | extract_lets
      | intro _
      | split
      | (with_reducible apply Keeps.set_eop; (case h0 => decide))
      | (dsimp +zetaDelta only; split)

theorem State.sendComplete_keeps (s : State) (slot sid handle status : Nat) (result : List Byte) : Keeps 0x5000000000000000000000000000000000000000000000000000f00ff001c00000000000000000000000000000000000000000000000000000000000700070003000000000000000000000000000000000000000f00db00010001000f0007000f0000000000000000000000000000000000000000000000010007000300070001000000000000000000000000000000000000000000000000000000000000000001ffadff s (State.sendComplete s slot sid handle status result) := by
  unfold State.sendComplete
  repeat' first
      | with_reducible exact Keeps.refl
      | with_reducible assumption
      | with_reducible refine Keeps.ite ?_ ?_
      | (with_reducible apply Keeps.step (State.eopCount_keeps ..); · decide)
      | (with_reducible apply Keeps.step (State.sendMsg_keeps ..); · decide)
      | extract_lets
      | intro _
      | split
      | (dsimp +zetaDelta only; split)

end Sys2Proof.Machine
end

