-- ==== Sys2Proof/Laws/KeepsWeirBase.lean ====
section
/-! SUPPORT. What each operation of Machine/WeirBase.lean leaves alone. -/

set_option linter.all false
namespace Sys2Proof.Machine

theorem State.setTask_keeps (s : State) (slot : Nat) (t : Task) : Keeps 0x5000000000000000000000000000000000000000000000000000f00ff007e00010000000000000000000000000000000000000000000000000000000700070003000000000000000000000000000000000000000f00db00010001000f0007000f00000000000000000000000000000000000000000000000b0007000300070001000000000000000000000000000000000000000000000000000000000000000001ffdfff s (State.setTask s slot t) := by
  unfold State.setTask
  repeat' first
      | with_reducible exact Keeps.refl
      | with_reducible assumption
      | with_reducible refine Keeps.ite ?_ ?_
      | extract_lets
      | intro _
      | split
      | (with_reducible apply Keeps.set_weir; (case h0 => decide); (case hw => first | exact id | exact Ram.wf_put | exact Packet.fill_wf _ | exact fun h => by split <;> exact h))
      | (dsimp +zetaDelta only; split)

theorem State.deviceDone_keeps (s : State) (h : Nat) : Keeps 0x5000000000000000000000000000000000000000000000000000f00ff007e00010000000000000000000000000000000000000000000000000000000700070003000000000000000000000000000000000000000f00db00010001000f0007000f00000000000000000000000000000000000000000000000b0007000300070001000000000000000000000000000000000000000000000000000000000000000001ffdfff s (State.deviceDone s h) := by
  unfold State.deviceDone
  repeat' first
      | with_reducible exact Keeps.refl
      | with_reducible assumption
      | with_reducible refine Keeps.ite ?_ ?_
      | (with_reducible apply Keeps.step (State.setTask_keeps ..); · decide)
      | extract_lets
      | intro _
      | split
      | (dsimp +zetaDelta only; split)

theorem State.reply_keeps (s : State) (d : Dest) (op flags session id : Nat) (sl : Option Nat) (payload : List Byte) : Keeps 0x5000000000000000000000000000000000000000000000000000f00ff001e00000000000000000000000000000000000000000000000000000000000700070003000000000000000000000000000000000000000f00db00010001000f0007000f0000000000000000000000000000000000000000000000010007000300070001000000000000000000000000000000000000000000000000000000000000000001ff8dff s (State.reply s d op flags session id sl payload) := by
  unfold State.reply
  repeat' first
      | with_reducible exact Keeps.refl
      | with_reducible assumption
      | with_reducible refine Keeps.ite ?_ ?_
      | (with_reducible apply Keeps.step (State.sendMsg_keeps ..); · decide)
      | (with_reducible apply Keeps.step (State.setTask_keeps ..); · decide)
      | (with_reducible apply Keeps.step (State.deviceDone_keeps ..); · decide)
      | extract_lets
      | intro _
      | split
      | (dsimp +zetaDelta only; split)

theorem State.sendHeld_keeps (s : State) (k : Nat) : Keeps 0x5000000000000000000000000000000000000000000000000000f00ff001e00000000000000000000000000000000000000000000000000000000000700070003000000000000000000000000000000000000000f00db00010001000f0007000f0000000000000000000000000000000000000000000000010007000300070001000000000000000000000000000000000000000000000000000000000000000001ff8dff s (State.sendHeld s k) := by
  unfold State.sendHeld
  repeat' first
      | with_reducible exact Keeps.refl
      | with_reducible assumption
      | with_reducible refine Keeps.ite ?_ ?_
      | (with_reducible apply Keeps.step (State.offer_keeps ..); · decide)
      | (with_reducible apply Keeps.step (State.deviceDone_keeps ..); · decide)
      | (with_reducible refine Keeps.foldl (fun _ _ _ => ?_) ?_)
      | extract_lets
      | intro _
      | split
      | (with_reducible apply Keeps.set_eop; (case h0 => decide))
      | (dsimp +zetaDelta only; split)

theorem State.closeSession_keeps (s : State) (i : Nat) : Keeps 0x5000000000000000000000000000000000000000000000000000f00ff005e00000000000000000000000000000000000000000000000000000000000700070003000000000000000000000000000000000000000f00db00010001000f0007000f0000000000000000000000000000000000000000000000010007000300070001000000000000000000000000000000000000000000000000000000000000000001ffadff s (State.closeSession s i) := by
  unfold State.closeSession
  repeat' first
      | with_reducible exact Keeps.refl
      | with_reducible assumption
      | with_reducible refine Keeps.ite ?_ ?_
      | (with_reducible apply Keeps.step (State.taskDrop_keeps ..); · decide)
      | (with_reducible apply Keeps.step (State.setSession_keeps ..); · decide)
      | extract_lets
      | intro _
      | split
      | (dsimp +zetaDelta only; split)

theorem State.answerKept_keeps (s : State) (i id : Nat) (a : Answer) (xs : List (Nat × Answer)) : Keeps 0x5000000000000000000000000000000000000000000000000000f00ff005e00000000000000000000000000000000000000000000000000000000000700070003000000000000000000000000000000000000000f00db00010001000f0007000f0000000000000000000000000000000000000000000000010007000300070001000000000000000000000000000000000000000000000000000000000000000001ffadff s (State.answerKept s i id a xs) := by
  unfold State.answerKept
  repeat' first
      | with_reducible exact Keeps.refl
      | with_reducible assumption
      | with_reducible refine Keeps.ite ?_ ?_
      | (with_reducible apply Keeps.step (State.taskPut_keeps ..); · decide)
      | (with_reducible apply Keeps.step (State.taskDrop_keeps ..); · decide)
      | extract_lets
      | intro _
      | split
      | (dsimp +zetaDelta only; split)

theorem Weir.takeSlot_saved {x w : Weir} {slot : Nat} (h : x.takeSlot = some (slot, w)) : w.saved = x.saved := by
  unfold Weir.takeSlot at h
  split at h
  · cases h; rfl
  · split at h
    · contradiction
    · cases h; rfl

theorem State.allocTask_keeps (s : State) (t : Task) {h : Nat} {u : State} (he : s.allocTask t = some (h, u)) :
    Keeps 0x5000000000000000000000000000000000000000000000000000e00ff007e00010000000000000000000000000000000000000000000000000000000700070003000000000000000000000000000000000000000f00db00010001000f0007000f00000000000000000000000000000000000000000000000b0007000300070001000000000000000000000000000000000000000000000000000000000000000001ffdfff s u := by
  unfold State.allocTask at he
  split at he
  · contradiction
  · rename_i slot w hw
    cases he
    have hs : Memory.wf s.weir.saved.bytes = true → Memory.wf w.saved.bytes = true := fun h => by rw [Weir.takeSlot_saved hw]; exact h
    exact Keeps.bump (by decide) (Keeps.step (State.setTask_keeps ..) (by decide) (Keeps.set_weir (by decide) hs Keeps.refl))

theorem State.cqPush_keeps (s : State) (h st : Nat) : Keeps 0x5000000000000000000000000000000000000000000000000000e00ff007e00000000000000000000000000000000000000000000000000000000000700070003000000000000000000000000000000000000000f00db00010001000f0007000f00000000000000000000000000000000000000000000000b0007000300070001000000000000000000000000000000000000000000000000000000000000000001ffcdff s (State.cqPush s h st) := by
  unfold State.cqPush
  repeat' first
      | with_reducible exact Keeps.refl
      | with_reducible assumption
      | with_reducible refine Keeps.ite ?_ ?_
      | (with_reducible apply Keeps.bump; · decide)
      | (with_reducible apply Keeps.step (State.raise_keeps ..); · decide)
      | extract_lets
      | intro _
      | split
      | (with_reducible apply Keeps.set_weir; (case h0 => decide); (case hw => first | exact id | exact Ram.wf_put | exact Packet.fill_wf _ | exact fun h => by split <;> exact h))
      | (dsimp +zetaDelta only; split)

theorem State.freeCore_keeps (s : State) (h : Nat) : Keeps 0x5000000000000000000000000000000000000000000000000000f00ff007e00010000000000000000000000000000000000000000000000000000000700070003000000000000000000000000000000000000000f00db00010001000f0007000f00000000000000000000000000000000000000000000000b0007000300070001000000000000000000000000000000000000000000000000000000000000000001ffdfff s (State.freeCore s h) := by
  unfold State.freeCore
  repeat' first
      | with_reducible exact Keeps.refl
      | with_reducible assumption
      | with_reducible refine Keeps.ite ?_ ?_
      | extract_lets
      | intro _
      | split
      | (with_reducible apply Keeps.set_weir; (case h0 => decide); (case hw => first | exact id | exact Ram.wf_put | exact Packet.fill_wf _ | exact fun h => by split <;> exact h))
      | (dsimp +zetaDelta only; split)

theorem State.deliverCompletion_keeps (s : State) (t : Task) (st : Nat) (result : List Byte) : Keeps 0x5000000000000000000000000000000000000000000000000000e00ff001c00000000000000000000000000000000000000000000000000000000000700070003000000000000000000000000000000000000000f00db00010001000f0007000f0000000000000000000000000000000000000000000000010007000300070001000000000000000000000000000000000000000000000000000000000000000001ff8dff s (State.deliverCompletion s t st result) := by
  unfold State.deliverCompletion
  repeat' first
      | with_reducible exact Keeps.refl
      | with_reducible assumption
      | with_reducible refine Keeps.ite ?_ ?_
      | (with_reducible apply Keeps.step (State.sendComplete_keeps ..); · decide)
      | (with_reducible apply Keeps.step (State.cqPush_keeps ..); · decide)
      | extract_lets
      | intro _
      | split
      | (dsimp +zetaDelta only; split)

theorem State.actEdge_keeps (s : State) (st : Nat) (e : Edge) : Keeps 0x5000000000000000000000000000000000000000000000000000f00ff007e00010000000000000000000000000000000000000000000000000000000700070003000000000000000000000000000000000000000f00db00010001000f0007000f00000000000000000000000000000000000000000000000b0007000300070001000000000000000000000000000000000000000000000000000000000000000001ffdfff s (State.actEdge s st e).2 := by
  unfold State.actEdge
  repeat' first
      | with_reducible exact Keeps.refl
      | with_reducible assumption
      | with_reducible refine Keeps.ite ?_ ?_
      | with_reducible refine Keeps.ite_snd ?_ ?_
      | (with_reducible apply Keeps.step (State.setTask_keeps ..); · decide)
      | extract_lets
      | intro _
      | split
      | (dsimp +zetaDelta only; split)

theorem State.actEdge_keeps' (s : State) (st : Nat) (e : Edge) {α_ : _} {t_ : State} (he : State.actEdge s st e = (α_, t_)) : Keeps 0x5000000000000000000000000000000000000000000000000000f00ff007e00010000000000000000000000000000000000000000000000000000000700070003000000000000000000000000000000000000000f00db00010001000f0007000f00000000000000000000000000000000000000000000000b0007000300070001000000000000000000000000000000000000000000000000000000000000000001ffdfff s t_ := by
  have h := State.actEdge_keeps s st e
  rw [he] at h
  exact h

theorem State.actEdges_keeps (s : State) (st : Nat) (es : List Edge) : Keeps 0x5000000000000000000000000000000000000000000000000000f00ff007e00010000000000000000000000000000000000000000000000000000000700070003000000000000000000000000000000000000000f00db00010001000f0007000f00000000000000000000000000000000000000000000000b0007000300070001000000000000000000000000000000000000000000000000000000000000000001ffdfff s (s.actEdges st es).2 := by
  induction es generalizing s with
  | nil => exact Keeps.refl
  | cons e es ih => exact Keeps.step (ih _) (by decide) (State.actEdge_keeps ..)

theorem State.finishOne_keeps (s : State) (h st : Nat) (result : List Byte) : Keeps 0x5000000000000000000000000000000000000000000000000000e00ff001c00000000000000000000000000000000000000000000000000000000000700070003000000000000000000000000000000000000000f00db00010001000f0007000f0000000000000000000000000000000000000000000000010007000300070001000000000000000000000000000000000000000000000000000000000000000001ff8dff s (State.finishOne s h st result).2 := by
  unfold State.finishOne
  repeat' first
      | with_reducible exact Keeps.refl
      | with_reducible assumption
      | with_reducible refine Keeps.ite ?_ ?_
      | with_reducible refine Keeps.ite_snd ?_ ?_
      | (with_reducible apply Keeps.bump; · decide)
      | (with_reducible apply Keeps.step (State.raise_keeps ..); · decide)
      | (with_reducible apply Keeps.step (State.setTask_keeps ..); · decide)
      | (with_reducible apply Keeps.step (State.freeCore_keeps ..); · decide)
      | (with_reducible apply Keeps.step (State.deliverCompletion_keeps ..); · decide)
      | (with_reducible apply Keeps.step (State.actEdges_keeps ..); · decide)
      | extract_lets
      | intro _
      | split
      | (with_reducible apply Keeps.set_weir; (case h0 => decide); (case hw => first | exact id | exact Ram.wf_put | exact Packet.fill_wf _ | exact fun h => by split <;> exact h))
      | (dsimp +zetaDelta only; split)

theorem State.finishOne_keeps' (s : State) (h st : Nat) (result : List Byte) {α_ : _} {t_ : State} (he : State.finishOne s h st result = (α_, t_)) : Keeps 0x5000000000000000000000000000000000000000000000000000e00ff001c00000000000000000000000000000000000000000000000000000000000700070003000000000000000000000000000000000000000f00db00010001000f0007000f0000000000000000000000000000000000000000000000010007000300070001000000000000000000000000000000000000000000000000000000000000000001ff8dff s t_ := by
  have h := State.finishOne_keeps s h st result
  rw [he] at h
  exact h

theorem State.finishAll_keeps (n : Nat) (w : List (Nat × Nat)) (s : State) :
    Keeps 0x5000000000000000000000000000000000000000000000000000e00ff001c00000000000000000000000000000000000000000000000000000000000700070003000000000000000000000000000000000000000f00db00010001000f0007000f0000000000000000000000000000000000000000000000010007000300070001000000000000000000000000000000000000000000000000000000000000000001ff8dff s (State.finishAll n w s) := by
  induction n generalizing w s with
  | zero => exact Keeps.refl
  | succ n ih =>
    cases w with
    | nil => exact Keeps.refl
    | cons e w => exact Keeps.step (ih _ _) (by decide) (State.finishOne_keeps ..)

theorem State.completeTask_keeps (s : State) (h st : Nat) : Keeps 0x5000000000000000000000000000000000000000000000000000e00ff001c00000000000000000000000000000000000000000000000000000000000700070003000000000000000000000000000000000000000f00db00010001000f0007000f0000000000000000000000000000000000000000000000010007000300070001000000000000000000000000000000000000000000000000000000000000000001ff8dff s (State.completeTask s h st) := by
  unfold State.completeTask
  repeat' first
      | with_reducible exact Keeps.refl
      | with_reducible assumption
      | with_reducible refine Keeps.ite ?_ ?_
      | (with_reducible apply Keeps.step (State.finishAll_keeps ..); · decide)
      | extract_lets
      | intro _
      | split
      | (dsimp +zetaDelta only; split)

theorem State.completeOpt_keeps (s : State) (h : Option Nat) (st : Nat) : Keeps 0x5000000000000000000000000000000000000000000000000000e00ff001c00000000000000000000000000000000000000000000000000000000000700070003000000000000000000000000000000000000000f00db00010001000f0007000f0000000000000000000000000000000000000000000000010007000300070001000000000000000000000000000000000000000000000000000000000000000001ff8dff s (State.completeOpt s h st) := by
  unfold State.completeOpt
  repeat' first
      | with_reducible exact Keeps.refl
      | with_reducible assumption
      | with_reducible refine Keeps.ite ?_ ?_
      | (with_reducible apply Keeps.step (State.completeTask_keeps ..); · decide)
      | extract_lets
      | intro _
      | split
      | (dsimp +zetaDelta only; split)

theorem State.touchSettings_keeps (s : State) : Keeps 0x5000000000000000000000000000000000000000000000000000f00ff007e00010000000000000000000000000000000000000000000000000000000700070003000000000000000000000000000000000000000f00db00010001000f0007000f00000000000000000000000000000000000000000000000b0007000300070001000000000000000000000000000000000000000000000000000000000000000001ffefff s (State.touchSettings s) := by
  unfold State.touchSettings
  repeat' first
      | with_reducible exact Keeps.refl
      | with_reducible assumption
      | with_reducible refine Keeps.ite ?_ ?_
      | extract_lets
      | intro _
      | split
      | (with_reducible apply Keeps.set_eop; (case h0 => decide))
      | (dsimp +zetaDelta only; split)

theorem refuse_keeps (s : State) (st : Nat) : Keeps 0x5000000000000000000000000000000000000000000000000000f00ff007e00010000000000000000000000000000000000000000000000000000000700070003000000000000000000000000000000000000000f00db00010001000f0007000f00000000000000000000000000000000000000000000000b0007000300070001000000000000000000000000000000000000000000000000000000000000000001ffffff s (refuse s st).st := by
  unfold refuse
  repeat' first
      | with_reducible exact Keeps.refl
      | with_reducible assumption
      | with_reducible refine Keeps.ite ?_ ?_
      | extract_lets
      | intro _
      | split
      | (dsimp +zetaDelta only; split)

theorem done_keeps (s : State) : Keeps 0x5000000000000000000000000000000000000000000000000000f00ff007e00010000000000000000000000000000000000000000000000000000000700070003000000000000000000000000000000000000000f00db00010001000f0007000f00000000000000000000000000000000000000000000000b0007000300070001000000000000000000000000000000000000000000000000000000000000000001ffffff s (done s).st := by
  unfold done
  repeat' first
      | with_reducible exact Keeps.refl
      | with_reducible assumption
      | with_reducible refine Keeps.ite ?_ ?_
      | extract_lets
      | intro _
      | split
      | (dsimp +zetaDelta only; split)

theorem accept_keeps {m : Nat} {s x : State} {w : Who} {start : Nat → State → State} (hm : m &&& 0x5000000000000000000000000000000000000000000000000000e00ff007e00010000000000000000000000000000000000000000000000000000000700070003000000000000000000000000000000000000000f00db00010001000f0007000f00000000000000000000000000000000000000000000000b0007000300070001000000000000000000000000000000000000000000000000000000000000000001ffdfff = m)
    (hs : ∀ h y, Keeps m y (start h y)) (hx : Keeps m s x) : Keeps m s (accept x w start).st := by
  unfold accept
  split
  · exact Keeps.step (hs _ _) (Nat.and_self m) hx
  · split
    · exact hx
    · exact Keeps.step (hs _ _) (Nat.and_self m) (Keeps.step (State.allocTask_keeps _ _ (by assumption)) hm hx)

theorem WRes.record_keeps (r : WRes) : Keeps 0x5000000000000000000000000000000000000000000000000000f00ff007e00010000000000000000000000000000000000000000000000000000000700070003000000000000000000000000000000000000000f00db00010001000f0007000f00000000000000000000000000000000000000000000000b0007000300070001000000000000000000000000000000000000000000000000000000000000000001ffefff r.st r.record := Keeps.set_eop (by decide) Keeps.refl

end Sys2Proof.Machine
end

