-- ==== Sys2Proof/Laws/KeepsTime.lean ====
section
/-! SUPPORT. What each operation of Machine/Time.lean leaves alone. -/

set_option linter.all false
namespace Sys2Proof.Machine

theorem oDomain_group {d c : Nat} (hc : c < 256) : oDomain d c / 4096 = 0x130 := by unfold oDomain; split <;> omega

/-- A write of an object of a time domain. -/
theorem Keeps.setDomain {m d c v : Nat} {s t : State} (hc : c < 256) (ho : m.testBit (32 + 0x130) = false) (h : Keeps m s t) :
    Keeps m s (t.setVal (oDomain d c) v) := Keeps.setVal (by rw [oDomain_group hc]; exact ho) h

theorem State.setServo_keeps (s : State) (d : Nat) (x : Servo) : Keeps 0x5000000000000000000000000000000000000000000000000000f00ff007e00010000000000000000000000000000000000000000000000000000000700070003000000000000000000000000000000000000000f00db00010001000f0007000f00000000000000000000000000000000000000000000000b0007000300070001000000000000000000000000000000000000000000000000000000000000000001fffeff s (State.setServo s d x) := by
  unfold State.setServo
  repeat' first
      | with_reducible exact Keeps.refl
      | with_reducible assumption
      | with_reducible refine Keeps.ite ?_ ?_
      | extract_lets
      | intro _
      | split
      | (with_reducible apply Keeps.set_time; (case h0 => decide))
      | (dsimp +zetaDelta only; split)

theorem State.holdRate_keeps (s : State) : Keeps 0x5000000000000000000000000000000000000000000000000000f00ff007e00010000000000000000000000000000000000000000000000000000000700070003000000000000000000000000000000000000000f00db00010001000f0007000f00000000000000000000000000000000000000000000000b0007000300070001000000000000000000000000000000000000000000000000000000000000000001fffefd s (State.holdRate s) := by
  unfold State.holdRate
  repeat' first
      | with_reducible exact Keeps.refl
      | with_reducible assumption
      | with_reducible refine Keeps.ite ?_ ?_
      | extract_lets
      | intro _
      | split
      | (with_reducible apply Keeps.set_clk_time; (case h0 => decide); (case h1 => decide))
      | (dsimp +zetaDelta only; split)

theorem State.servoRate_keeps (s : State) : Keeps 0x5000000000000000000000000000000000000000000000000000f00ff007e00010000000000000000000000000000000000000000000000000000000700070003000000000000000000000000000000000000000f00db00010001000f0007000f00000000000000000000000000000000000000000000000b0007000300070001000000000000000000000000000000000000000000000000000000000000000001fffffd s (State.servoRate s) := by
  unfold State.servoRate
  repeat' first
      | with_reducible exact Keeps.refl
      | with_reducible assumption
      | with_reducible refine Keeps.ite ?_ ?_
      | extract_lets
      | intro _
      | split
      | (with_reducible apply Keeps.set_clk; (case h0 => decide))
      | (dsimp +zetaDelta only; split)

theorem State.updateNode_keeps (s : State) : Keeps 0x5000000000000000000000000000000000000000000000000000f00ff007e00000000000000000000000000000000000000000000000000000000000700070003000000000000000000000000000000000000000f00db00010001000f0007000f00000000000000000000000000000000000000000000000b0006000300070001000000000000000000000000000000000000000000000000000000000000000001ffecfd s (State.updateNode s) := by
  unfold State.updateNode
  repeat' first
      | with_reducible exact Keeps.refl
      | with_reducible assumption
      | with_reducible refine Keeps.ite ?_ ?_
      | (with_reducible apply Keeps.setVal; · decide)
      | (with_reducible apply Keeps.step (State.raise_keeps ..); · decide)
      | (with_reducible apply Keeps.step (State.holdRate_keeps ..); · decide)
      | (with_reducible apply Keeps.step (State.servoRate_keeps ..); · decide)
      | extract_lets
      | intro _
      | split
      | (dsimp +zetaDelta only; split)

theorem State.follow_keeps (s : State) (d : Nat) : Keeps 0x5000000000000000000000000000000000000000000000000000f00ff007600000000000000000000000000000000000000000000000000000000000700070003000000000000000000000000000000000000000f00db00010001000f0007000f00000000000000000000000000000000000000000000000b0006000300070001000000000000000000000000000000000000000000000000000000000000000001ffecfd s (State.follow s d) := by
  unfold State.follow
  repeat' first
      | with_reducible exact Keeps.refl
      | with_reducible assumption
      | with_reducible refine Keeps.ite ?_ ?_
      | (with_reducible apply Keeps.setVal; · decide)
      | (with_reducible apply Keeps.bump32; · decide)
      | (with_reducible apply Keeps.step (State.updateNode_keeps ..); · decide)
      | extract_lets
      | intro _
      | split
      | (with_reducible apply Keeps.set_clk_time; (case h0 => decide); (case h1 => decide))
      | (dsimp +zetaDelta only; split)

theorem State.switchTo_keeps (s : State) (d : Nat) : Keeps 0x5000000000000000000000000000000000000000000000000000f00ff007600000000000000000000000000000000000000000000000000000000000700070003000000000000000000000000000000000000000f00db00010001000f0007000f00000000000000000000000000000000000000000000000b0006000300070001000000000000000000000000000000000000000000000000000000000000000001ffecfd s (State.switchTo s d) := by
  unfold State.switchTo
  repeat' first
      | with_reducible exact Keeps.refl
      | with_reducible assumption
      | with_reducible refine Keeps.ite ?_ ?_
      | (with_reducible apply Keeps.step (State.raise_keeps ..); · decide)
      | (with_reducible apply Keeps.step (State.follow_keeps ..); · decide)
      | extract_lets
      | intro _
      | split
      | (dsimp +zetaDelta only; split)

theorem State.trackPreferred_keeps (s : State) : Keeps 0x5000000000000000000000000000000000000000000000000000f00ff007e00010000000000000000000000000000000000000000000000000000000700070003000000000000000000000000000000000000000f00db00010001000f0007000f00000000000000000000000000000000000000000000000b0007000300070001000000000000000000000000000000000000000000000000000000000000000001fffeff s (State.trackPreferred s) := by
  unfold State.trackPreferred
  repeat' first
      | with_reducible exact Keeps.refl
      | with_reducible assumption
      | with_reducible refine Keeps.ite ?_ ?_
      | (with_reducible apply Keeps.setDomain; (case hc => decide); (case ho => decide))
      | extract_lets
      | intro _
      | split
      | (with_reducible apply Keeps.set_time; (case h0 => decide))
      | (dsimp +zetaDelta only; split)

theorem State.timedTest_keeps (s : State) (target : Nat) : Keeps 0x5000000000000000000000000000000000000000000000000000f00ff007600000000000000000000000000000000000000000000000000000000000700070003000000000000000000000000000000000000000f00db00010001000f0007000f00000000000000000000000000000000000000000000000b0006000300070001000000000000000000000000000000000000000000000000000000000000000001ffecfd s (State.timedTest s target) := by
  unfold State.timedTest
  repeat' first
      | with_reducible exact Keeps.refl
      | with_reducible assumption
      | with_reducible refine Keeps.ite ?_ ?_
      | (with_reducible apply Keeps.setDomain; (case hc => decide); (case ho => decide))
      | (with_reducible apply Keeps.setVal; · decide)
      | (with_reducible apply Keeps.step (State.raise_keeps ..); · decide)
      | (with_reducible apply Keeps.step (State.touchSettings_keeps ..); · decide)
      | (with_reducible apply Keeps.step (State.follow_keeps ..); · decide)
      | (with_reducible apply Keeps.step (State.trackPreferred_keeps ..); · decide)
      | extract_lets
      | intro _
      | split
      | (with_reducible apply Keeps.set_time; (case h0 => decide))
      | (dsimp +zetaDelta only; split)

theorem State.timedFirst_keeps (s : State) : Keeps 0x5000000000000000000000000000000000000000000000000000f00ff007600000000000000000000000000000000000000000000000000000000000700070003000000000000000000000000000000000000000f00db00010001000f0007000f00000000000000000000000000000000000000000000000b0006000300070001000000000000000000000000000000000000000000000000000000000000000001ffecfd s (State.timedFirst s) := by
  unfold State.timedFirst
  repeat' first
      | with_reducible exact Keeps.refl
      | with_reducible assumption
      | with_reducible refine Keeps.ite ?_ ?_
      | (with_reducible apply Keeps.step (State.timedTest_keeps ..); · decide)
      | extract_lets
      | intro _
      | split
      | (dsimp +zetaDelta only; split)

theorem State.autoSwitch_keeps (s : State) : Keeps 0x5000000000000000000000000000000000000000000000000000f00ff007600000000000000000000000000000000000000000000000000000000000700070003000000000000000000000000000000000000000f00db00010001000f0007000f00000000000000000000000000000000000000000000000b0006000300070001000000000000000000000000000000000000000000000000000000000000000001ffecfd s (State.autoSwitch s) := by
  unfold State.autoSwitch
  repeat' first
      | with_reducible exact Keeps.refl
      | with_reducible assumption
      | with_reducible refine Keeps.ite ?_ ?_
      | (with_reducible apply Keeps.step (State.switchTo_keeps ..); · decide)
      | (with_reducible apply Keeps.step (State.timedFirst_keeps ..); · decide)
      | extract_lets
      | intro _
      | split
      | (dsimp +zetaDelta only; split)

theorem State.updateDiff_keeps (s : State) : Keeps 0x5000000000000000000000000000000000000000000000000000f00ff007e00010000000000000000000000000000000000000000000000000000000700070003000000000000000000000000000000000000000f00db00010001000f0007000f00000000000000000000000000000000000000000000000b0006000300070001000000000000000000000000000000000000000000000000000000000000000001ffffff s (State.updateDiff s) := by
  unfold State.updateDiff
  repeat' first
      | with_reducible exact Keeps.refl
      | with_reducible assumption
      | with_reducible refine Keeps.ite ?_ ?_
      | (with_reducible apply Keeps.setDomain; (case hc => decide); (case ho => decide))
      | (with_reducible apply Keeps.setVal; · decide)
      | extract_lets
      | intro _
      | split
      | (dsimp +zetaDelta only; split)

theorem State.setServoState_keeps (s0 : State) (d st : Nat) : Keeps 0x5000000000000000000000000000000000000000000000000000f00ff007600000000000000000000000000000000000000000000000000000000000700070003000000000000000000000000000000000000000f00db00010001000f0007000f00000000000000000000000000000000000000000000000b0006000300070001000000000000000000000000000000000000000000000000000000000000000001ffecfd s0 (State.setServoState s0 d st) := by
  unfold State.setServoState
  repeat' first
      | with_reducible exact Keeps.refl
      | with_reducible assumption
      | with_reducible refine Keeps.ite ?_ ?_
      | (with_reducible apply Keeps.setDomain; (case hc => decide); (case ho => decide))
      | (with_reducible apply Keeps.setVal; · decide)
      | (with_reducible apply Keeps.step (State.raise_keeps ..); · decide)
      | (with_reducible apply Keeps.step (State.setServo_keeps ..); · decide)
      | (with_reducible apply Keeps.step (State.updateNode_keeps ..); · decide)
      | (with_reducible apply Keeps.step (State.trackPreferred_keeps ..); · decide)
      | (with_reducible apply Keeps.step (State.autoSwitch_keeps ..); · decide)
      | (with_reducible apply Keeps.step (State.updateDiff_keeps ..); · decide)
      | extract_lets
      | intro _
      | split
      | (with_reducible apply Keeps.set_clk_time; (case h0 => decide); (case h1 => decide))
      | (with_reducible apply Keeps.set_time; (case h0 => decide))
      | (dsimp +zetaDelta only; split)

theorem State.noMaster_keeps (s : State) (d : Nat) : Keeps 0x5000000000000000000000000000000000000000000000000000f00ff007600000000000000000000000000000000000000000000000000000000000700070003000000000000000000000000000000000000000f00db00010001000f0007000f00000000000000000000000000000000000000000000000b0006000300070001000000000000000000000000000000000000000000000000000000000000000001ffecfd s (State.noMaster s d) := by
  unfold State.noMaster
  repeat' first
      | with_reducible exact Keeps.refl
      | with_reducible assumption
      | with_reducible refine Keeps.ite ?_ ?_
      | (with_reducible apply Keeps.setDomain; (case hc => decide); (case ho => decide))
      | (with_reducible apply Keeps.setVal; · decide)
      | (with_reducible apply Keeps.step (State.setServoState_keeps ..); · decide)
      | extract_lets
      | intro _
      | split
      | (dsimp +zetaDelta only; split)

theorem State.reselect_keeps (s : State) (d : Nat) : Keeps 0x5000000000000000000000000000000000000000000000000000f00ff007600000000000000000000000000000000000000000000000000000000000700070003000000000000000000000000000000000000000f00db00010001000f0007000f00000000000000000000000000000000000000000000000b0006000300070001000000000000000000000000000000000000000000000000000000000000000001ffecfd s (State.reselect s d) := by
  unfold State.reselect
  repeat' first
      | with_reducible exact Keeps.refl
      | with_reducible assumption
      | with_reducible refine Keeps.ite ?_ ?_
      | (with_reducible apply Keeps.setDomain; (case hc => decide); (case ho => decide))
      | (with_reducible apply Keeps.setVal; · decide)
      | (with_reducible apply Keeps.step (State.setServo_keeps ..); · decide)
      | (with_reducible apply Keeps.step (State.setServoState_keeps ..); · decide)
      | (with_reducible apply Keeps.step (State.noMaster_keeps ..); · decide)
      | extract_lets
      | intro _
      | split
      | (dsimp +zetaDelta only; split)

theorem State.holdoverEnd_keeps (s : State) (d : Nat) : Keeps 0x5000000000000000000000000000000000000000000000000000f00ff007600000000000000000000000000000000000000000000000000000000000700070003000000000000000000000000000000000000000f00db00010001000f0007000f00000000000000000000000000000000000000000000000b0006000300070001000000000000000000000000000000000000000000000000000000000000000001ffecfd s (State.holdoverEnd s d) := by
  unfold State.holdoverEnd
  repeat' first
      | with_reducible exact Keeps.refl
      | with_reducible assumption
      | with_reducible refine Keeps.ite ?_ ?_
      | (with_reducible apply Keeps.setDomain; (case hc => decide); (case ho => decide))
      | (with_reducible apply Keeps.setVal; · decide)
      | (with_reducible apply Keeps.step (State.setServo_keeps ..); · decide)
      | (with_reducible apply Keeps.step (State.setServoState_keeps ..); · decide)
      | extract_lets
      | intro _
      | split
      | (dsimp +zetaDelta only; split)

theorem State.holdoverCheck_keeps (s : State) (d : Nat) : Keeps 0x5000000000000000000000000000000000000000000000000000f00ff007600000000000000000000000000000000000000000000000000000000000700070003000000000000000000000000000000000000000f00db00010001000f0007000f00000000000000000000000000000000000000000000000b0006000300070001000000000000000000000000000000000000000000000000000000000000000001ffecfd s (State.holdoverCheck s d) := by
  unfold State.holdoverCheck
  repeat' first
      | with_reducible exact Keeps.refl
      | with_reducible assumption
      | with_reducible refine Keeps.ite ?_ ?_
      | (with_reducible apply Keeps.step (State.holdoverEnd_keeps ..); · decide)
      | extract_lets
      | intro _
      | split
      | (dsimp +zetaDelta only; split)

theorem State.testFar_keeps (s : State) (d : Nat) (off : Int) : Keeps 0x5000000000000000000000000000000000000000000000000000f00ff007e00000000000000000000000000000000000000000000000000000000000700070003000000000000000000000000000000000000000f00db00010001000f0007000f00000000000000000000000000000000000000000000000b0007000300070001000000000000000000000000000000000000000000000000000000000000000001ffecff s (State.testFar s d off) := by
  unfold State.testFar
  repeat' first
      | with_reducible exact Keeps.refl
      | with_reducible assumption
      | with_reducible refine Keeps.ite ?_ ?_
      | (with_reducible apply Keeps.step (State.raise_keeps ..); · decide)
      | extract_lets
      | intro _
      | split
      | (with_reducible apply Keeps.set_time; (case h0 => decide))
      | (dsimp +zetaDelta only; split)

theorem State.stepNotes_keeps (s : State) (off : Int) : Keeps 0x5000000000000000000000000000000000000000000000000000f00ff007e00010000000000000000000000000000000000000000000000000000000700070003000000000000000000000000000000000000000f00db00010001000f0007000f00000000000000000000000000000000000000000000000b0007000300070001000000000000000000000000000000000000000000000000000000000000000000eeaeff s (s.stepNotes off) := by
  unfold State.stepNotes
  constructor <;> intros <;> first
    | (rename_i h; exact absurd h (by decide))
    | rfl
    | assumption

theorem State.stepNode_keeps (s : State) (off : Int) : Keeps 0x5000000000000000000000000000000000000000000000000000f00ff007600000000000000000000000000000000000000000000000000000000000700070003000000000000000000000000000000000000000f00db00010001000f0007000f00000000000000000000000000000000000000000000000b0007000300070001000000000000000000000000000000000000000000000000000000000000000000eeacfd s (State.stepNode s off) := by
  unfold State.stepNode
  repeat' first
      | with_reducible exact Keeps.refl
      | with_reducible assumption
      | with_reducible refine Keeps.ite ?_ ?_
      | (with_reducible apply Keeps.bump32; · decide)
      | (with_reducible apply Keeps.step (State.raise_keeps ..); · decide)
      | (with_reducible apply Keeps.step (State.stepNotes_keeps ..); · decide)
      | extract_lets
      | intro _
      | split
      | (with_reducible apply Keeps.set_clk_time; (case h0 => decide); (case h1 => decide))
      | (dsimp +zetaDelta only; split)

theorem State.estimate_keeps (s : State) (d : Nat) (found freq : Int) : Keeps 0x5000000000000000000000000000000000000000000000000000f00ff007600000000000000000000000000000000000000000000000000000000000700070003000000000000000000000000000000000000000f00db00010001000f0007000f00000000000000000000000000000000000000000000000b0006000300070001000000000000000000000000000000000000000000000000000000000000000000eeacfd s (State.estimate s d found freq) := by
  unfold State.estimate
  repeat' first
      | with_reducible exact Keeps.refl
      | with_reducible assumption
      | with_reducible refine Keeps.ite ?_ ?_
      | (with_reducible apply Keeps.setDomain; (case hc => decide); (case ho => decide))
      | (with_reducible apply Keeps.setVal; · decide)
      | (with_reducible apply Keeps.step (State.setServo_keeps ..); · decide)
      | (with_reducible apply Keeps.step (State.updateDiff_keeps ..); · decide)
      | (with_reducible apply Keeps.step (State.setServoState_keeps ..); · decide)
      | (with_reducible apply Keeps.step (State.testFar_keeps ..); · decide)
      | (with_reducible apply Keeps.step (State.stepNode_keeps ..); · decide)
      | extract_lets
      | intro _
      | split
      | (with_reducible apply Keeps.set_clk_time; (case h0 => decide); (case h1 => decide))
      | (dsimp +zetaDelta only; split)

theorem State.syncSeen_keeps (s : State) (d : Nat) : Keeps 0x5000000000000000000000000000000000000000000000000000f00ff007600000000000000000000000000000000000000000000000000000000000700070003000000000000000000000000000000000000000f00db00010001000f0007000f00000000000000000000000000000000000000000000000b0006000300070001000000000000000000000000000000000000000000000000000000000000000001ffecfd s (State.syncSeen s d) := by
  unfold State.syncSeen
  repeat' first
      | with_reducible exact Keeps.refl
      | with_reducible assumption
      | with_reducible refine Keeps.ite ?_ ?_
      | (with_reducible apply Keeps.step (State.setServo_keeps ..); · decide)
      | (with_reducible apply Keeps.step (State.setServoState_keeps ..); · decide)
      | (with_reducible apply Keeps.step (State.holdoverCheck_keeps ..); · decide)
      | extract_lets
      | intro _
      | split
      | (with_reducible apply Keeps.set_time; (case h0 => decide))
      | (dsimp +zetaDelta only; split)

theorem State.syncFor_keeps (s : State) (d dom : Nat) (l2 : Bool) (p at_ seq : Nat) (twoStep : Bool) (master : Nat) (off freq : Int) : Keeps 0x5000000000000000000000000000000000000000000000000000f00ff007600000000000000000000000000000000000000000000000000000000000700070003000000000000000000000000000000000000000f00db00010001000f0007000f00000000000000000000000000000000000000000000000b0006000300070001000000000000000000000000000000000000000000000000000000000000000000eeacfd s (State.syncFor s d dom l2 p at_ seq twoStep master off freq) := by
  unfold State.syncFor
  repeat' first
      | with_reducible exact Keeps.refl
      | with_reducible assumption
      | with_reducible refine Keeps.ite ?_ ?_
      | (with_reducible apply Keeps.step (State.setServo_keeps ..); · decide)
      | (with_reducible apply Keeps.step (State.estimate_keeps ..); · decide)
      | (with_reducible apply Keeps.step (State.syncSeen_keeps ..); · decide)
      | extract_lets
      | intro _
      | split
      | (dsimp +zetaDelta only; split)

theorem execSync_keeps (dom : Nat) (l2 : Bool) (p at_ seq : Nat) (twoStep : Bool) (master : Nat) (off freq : Int) (s0 : State) : Keeps 0x5000000000000000000000000000000000000000000000000000f00ff007600000000000000000000000000000000000000000000000000000000000700070003000000000000000000000000000000000000000f00db00010001000f0007000f00000000000000000000000000000000000000000000000b0006000300070001000000000000000000000000000000000000000000000000000000000000000000eeacfd s0 (execSync dom l2 p at_ seq twoStep master off freq s0) := by
  unfold execSync
  repeat' first
      | with_reducible exact Keeps.refl
      | with_reducible assumption
      | with_reducible refine Keeps.ite ?_ ?_
      | (with_reducible apply Keeps.bump; · decide)
      | (with_reducible apply Keeps.step (State.advanceTo_keeps ..); · decide)
      | (with_reducible apply Keeps.step (State.syncFor_keeps ..); · decide)
      | extract_lets
      | intro _
      | split
      | (dsimp +zetaDelta only; split)

theorem State.followUpFor_keeps (s : State) (d dom : Nat) (l2 : Bool) (p seq master : Nat) (off freq : Int) : Keeps 0x5000000000000000000000000000000000000000000000000000f00ff007600000000000000000000000000000000000000000000000000000000000700070003000000000000000000000000000000000000000f00db00010001000f0007000f00000000000000000000000000000000000000000000000b0006000300070001000000000000000000000000000000000000000000000000000000000000000000eeacfd s (State.followUpFor s d dom l2 p seq master off freq) := by
  unfold State.followUpFor
  repeat' first
      | with_reducible exact Keeps.refl
      | with_reducible assumption
      | with_reducible refine Keeps.ite ?_ ?_
      | (with_reducible apply Keeps.step (State.setServo_keeps ..); · decide)
      | (with_reducible apply Keeps.step (State.estimate_keeps ..); · decide)
      | extract_lets
      | intro _
      | split
      | (dsimp +zetaDelta only; split)

theorem execFollowUp_keeps (dom : Nat) (l2 : Bool) (p at_ seq master : Nat) (off freq : Int) (s0 : State) : Keeps 0x5000000000000000000000000000000000000000000000000000f00ff007600000000000000000000000000000000000000000000000000000000000700070003000000000000000000000000000000000000000f00db00010001000f0007000f00000000000000000000000000000000000000000000000b0006000300070001000000000000000000000000000000000000000000000000000000000000000000eeacfd s0 (execFollowUp dom l2 p at_ seq master off freq s0) := by
  unfold execFollowUp
  repeat' first
      | with_reducible exact Keeps.refl
      | with_reducible assumption
      | with_reducible refine Keeps.ite ?_ ?_
      | (with_reducible apply Keeps.bump; · decide)
      | (with_reducible apply Keeps.step (State.advanceTo_keeps ..); · decide)
      | (with_reducible apply Keeps.step (State.followUpFor_keeps ..); · decide)
      | extract_lets
      | intro _
      | split
      | (dsimp +zetaDelta only; split)

theorem State.announceFor_keeps (s : State) (d dom : Nat) (l2 : Bool) (p : Nat) (a : Announce) : Keeps 0x5000000000000000000000000000000000000000000000000000f00ff007600000000000000000000000000000000000000000000000000000000000700070003000000000000000000000000000000000000000f00db00010001000f0007000f00000000000000000000000000000000000000000000000b0006000300070001000000000000000000000000000000000000000000000000000000000000000001ffecfd s (State.announceFor s d dom l2 p a) := by
  unfold State.announceFor
  repeat' first
      | with_reducible exact Keeps.refl
      | with_reducible assumption
      | with_reducible refine Keeps.ite ?_ ?_
      | (with_reducible apply Keeps.setDomain; (case hc => decide); (case ho => decide))
      | (with_reducible apply Keeps.step (State.setServo_keeps ..); · decide)
      | (with_reducible apply Keeps.step (State.reselect_keeps ..); · decide)
      | (with_reducible apply Keeps.step (State.holdoverCheck_keeps ..); · decide)
      | extract_lets
      | intro _
      | split
      | (dsimp +zetaDelta only; split)

theorem execAnnounce_keeps (dom : Nat) (l2 : Bool) (p at_ : Nat) (a : Announce) (s0 : State) : Keeps 0x5000000000000000000000000000000000000000000000000000f00ff007600000000000000000000000000000000000000000000000000000000000700070003000000000000000000000000000000000000000f00db00010001000f0007000f00000000000000000000000000000000000000000000000b0006000300070001000000000000000000000000000000000000000000000000000000000000000001ffecfd s0 (execAnnounce dom l2 p at_ a s0) := by
  unfold execAnnounce
  repeat' first
      | with_reducible exact Keeps.refl
      | with_reducible assumption
      | with_reducible refine Keeps.ite ?_ ?_
      | (with_reducible apply Keeps.bump; · decide)
      | (with_reducible apply Keeps.step (State.advanceTo_keeps ..); · decide)
      | (with_reducible apply Keeps.step (State.announceFor_keeps ..); · decide)
      | extract_lets
      | intro _
      | split
      | (dsimp +zetaDelta only; split)

theorem State.delayRespFor_keeps (s : State) (d dom : Nat) (l2 : Bool) (p seq receipt : Nat) (logInterval : Int) : Keeps 0x5000000000000000000000000000000000000000000000000000f00ff007e00010000000000000000000000000000000000000000000000000000000700070003000000000000000000000000000000000000000f00db00010001000f0007000f00000000000000000000000000000000000000000000000b0006000300070001000000000000000000000000000000000000000000000000000000000000000001fffeff s (State.delayRespFor s d dom l2 p seq receipt logInterval) := by
  unfold State.delayRespFor
  repeat' first
      | with_reducible exact Keeps.refl
      | with_reducible assumption
      | with_reducible refine Keeps.ite ?_ ?_
      | (with_reducible apply Keeps.setDomain; (case hc => decide); (case ho => decide))
      | (with_reducible apply Keeps.setVal; · decide)
      | (with_reducible apply Keeps.step (State.setServo_keeps ..); · decide)
      | extract_lets
      | intro _
      | split
      | (dsimp +zetaDelta only; split)

theorem execDelayResp_keeps (dom : Nat) (l2 : Bool) (p seq receipt : Nat) (logInterval : Int) (s : State) : Keeps 0x5000000000000000000000000000000000000000000000000000f00ff007600010000000000000000000000000000000000000000000000000000000700070003000000000000000000000000000000000000000f00db00010001000f0007000f00000000000000000000000000000000000000000000000b0006000300070001000000000000000000000000000000000000000000000000000000000000000001fffeff s (execDelayResp dom l2 p seq receipt logInterval s) := by
  unfold execDelayResp
  repeat' first
      | with_reducible exact Keeps.refl
      | with_reducible assumption
      | with_reducible refine Keeps.ite ?_ ?_
      | (with_reducible apply Keeps.bump; · decide)
      | (with_reducible apply Keeps.step (State.delayRespFor_keeps ..); · decide)
      | extract_lets
      | intro _
      | split
      | (dsimp +zetaDelta only; split)

theorem execDelayReqSend_keeps (d : Nat) (s0 : State) : Keeps 0x5000000000000000000000000000000000000000000000000000f00ff001e00000000000000000000000000000000000000000000000000000000000700070003000000000000000000000000000000000000000f00db00010001000f0007000f0000000000000000000000000000000000000000000000010007000300070001000000000000000000000000000000000000000000000000000000000000000001ffacfd s0 (execDelayReqSend d s0) := by
  unfold execDelayReqSend
  repeat' first
      | with_reducible exact Keeps.refl
      | with_reducible assumption
      | with_reducible refine Keeps.ite ?_ ?_
      | (with_reducible apply Keeps.setDomain; (case hc => decide); (case ho => decide))
      | (with_reducible apply Keeps.step (State.advanceTo_keeps ..); · decide)
      | (with_reducible apply Keeps.step (State.offer_keeps ..); · decide)
      | (with_reducible apply Keeps.step (State.setServo_keeps ..); · decide)
      | extract_lets
      | intro _
      | split
      | (dsimp +zetaDelta only; split)

theorem execSyncMissed_keeps (d : Nat) (s : State) : Keeps 0x5000000000000000000000000000000000000000000000000000f00ff007600000000000000000000000000000000000000000000000000000000000700070003000000000000000000000000000000000000000f00db00010001000f0007000f00000000000000000000000000000000000000000000000b0006000300070001000000000000000000000000000000000000000000000000000000000000000001ffecfd s (execSyncMissed d s) := by
  unfold execSyncMissed
  repeat' first
      | with_reducible exact Keeps.refl
      | with_reducible assumption
      | with_reducible refine Keeps.ite ?_ ?_
      | (with_reducible apply Keeps.step (State.advanceTo_keeps ..); · decide)
      | (with_reducible apply Keeps.step (State.setServo_keeps ..); · decide)
      | (with_reducible apply Keeps.step (State.setServoState_keeps ..); · decide)
      | extract_lets
      | intro _
      | split
      | (dsimp +zetaDelta only; split)

theorem execAnnounceTimeout_keeps (d p : Nat) (s : State) : Keeps 0x5000000000000000000000000000000000000000000000000000f00ff007600000000000000000000000000000000000000000000000000000000000700070003000000000000000000000000000000000000000f00db00010001000f0007000f00000000000000000000000000000000000000000000000b0006000300070001000000000000000000000000000000000000000000000000000000000000000001ffecfd s (execAnnounceTimeout d p s) := by
  unfold execAnnounceTimeout
  repeat' first
      | with_reducible exact Keeps.refl
      | with_reducible assumption
      | with_reducible refine Keeps.ite ?_ ?_
      | (with_reducible apply Keeps.setDomain; (case hc => decide); (case ho => decide))
      | (with_reducible apply Keeps.setVal; · decide)
      | (with_reducible apply Keeps.step (State.advanceTo_keeps ..); · decide)
      | (with_reducible apply Keeps.step (State.setServo_keeps ..); · decide)
      | (with_reducible apply Keeps.step (State.setServoState_keeps ..); · decide)
      | (with_reducible apply Keeps.step (State.reselect_keeps ..); · decide)
      | extract_lets
      | intro _
      | split
      | (dsimp +zetaDelta only; split)

theorem execHoldoverExpiry_keeps (d : Nat) (s : State) : Keeps 0x5000000000000000000000000000000000000000000000000000f00ff007600000000000000000000000000000000000000000000000000000000000700070003000000000000000000000000000000000000000f00db00010001000f0007000f00000000000000000000000000000000000000000000000b0006000300070001000000000000000000000000000000000000000000000000000000000000000001ffecfd s (execHoldoverExpiry d s) := by
  unfold execHoldoverExpiry
  repeat' first
      | with_reducible exact Keeps.refl
      | with_reducible assumption
      | with_reducible refine Keeps.ite ?_ ?_
      | (with_reducible apply Keeps.step (State.advanceTo_keeps ..); · decide)
      | (with_reducible apply Keeps.step (State.holdoverEnd_keeps ..); · decide)
      | extract_lets
      | intro _
      | split
      | (dsimp +zetaDelta only; split)

theorem execDomainRevert_keeps (s : State) : Keeps 0x5000000000000000000000000000000000000000000000000000f00ff007600000000000000000000000000000000000000000000000000000000000700070003000000000000000000000000000000000000000f00db00010001000f0007000f00000000000000000000000000000000000000000000000b0006000300070001000000000000000000000000000000000000000000000000000000000000000001ffecfd s (execDomainRevert s) := by
  unfold execDomainRevert
  repeat' first
      | with_reducible exact Keeps.refl
      | with_reducible assumption
      | with_reducible refine Keeps.ite ?_ ?_
      | (with_reducible apply Keeps.setDomain; (case hc => decide); (case ho => decide))
      | (with_reducible apply Keeps.step (State.advanceTo_keeps ..); · decide)
      | (with_reducible apply Keeps.step (State.switchTo_keeps ..); · decide)
      | (with_reducible apply Keeps.step (State.timedFirst_keeps ..); · decide)
      | extract_lets
      | intro _
      | split
      | (dsimp +zetaDelta only; split)

theorem writeSwitchAt_keeps (v : Row) (s : State) : Keeps 0x5000000000000000000000000000000000000000000000000000f00ff007600000000000000000000000000000000000000000000000000000000000700070003000000000000000000000000000000000000000f00db00010001000f0007000f00000000000000000000000000000000000000000000000b0006000300070001000000000000000000000000000000000000000000000000000000000000000001ffecfd s (writeSwitchAt v s) := by
  unfold writeSwitchAt
  repeat' first
      | with_reducible exact Keeps.refl
      | with_reducible assumption
      | with_reducible refine Keeps.ite ?_ ?_
      | (with_reducible apply Keeps.setRow; · decide)
      | (with_reducible apply Keeps.setVal; · decide)
      | (with_reducible apply Keeps.step (State.timedTest_keeps ..); · decide)
      | extract_lets
      | intro _
      | split
      | (with_reducible apply Keeps.set_time; (case h0 => decide))
      | (dsimp +zetaDelta only; split)

theorem execTimedSwitch_keeps (s : State) : Keeps 0x5000000000000000000000000000000000000000000000000000f00ff007600000000000000000000000000000000000000000000000000000000000700070003000000000000000000000000000000000000000f00db00010001000f0007000f00000000000000000000000000000000000000000000000b0006000300070001000000000000000000000000000000000000000000000000000000000000000001ffecfd s (execTimedSwitch s) := by
  unfold execTimedSwitch
  repeat' first
      | with_reducible exact Keeps.refl
      | with_reducible assumption
      | with_reducible refine Keeps.ite ?_ ?_
      | (with_reducible apply Keeps.step (State.advanceTo_keeps ..); · decide)
      | (with_reducible apply Keeps.step (State.timedTest_keeps ..); · decide)
      | extract_lets
      | intro _
      | split
      | (dsimp +zetaDelta only; split)

theorem afterDomainMode_keeps (s : State) : Keeps 0x5000000000000000000000000000000000000000000000000000f00ff007600000000000000000000000000000000000000000000000000000000000700070003000000000000000000000000000000000000000f00db00010001000f0007000f00000000000000000000000000000000000000000000000b0006000300070001000000000000000000000000000000000000000000000000000000000000000001ffecfd s (afterDomainMode s) := by
  unfold afterDomainMode
  repeat' first
      | with_reducible exact Keeps.refl
      | with_reducible assumption
      | with_reducible refine Keeps.ite ?_ ?_
      | (with_reducible apply Keeps.setDomain; (case hc => decide); (case ho => decide))
      | (with_reducible apply Keeps.step (State.switchTo_keeps ..); · decide)
      | (with_reducible apply Keeps.step (State.trackPreferred_keeps ..); · decide)
      | (with_reducible apply Keeps.step (State.autoSwitch_keeps ..); · decide)
      | extract_lets
      | intro _
      | split
      | (dsimp +zetaDelta only; split)

theorem afterDomainEnable_keeps (d : Nat) (s : State) : Keeps 0x5000000000000000000000000000000000000000000000000000f00ff007600000000000000000000000000000000000000000000000000000000000700070003000000000000000000000000000000000000000f00db00010001000f0007000f00000000000000000000000000000000000000000000000b0006000300070001000000000000000000000000000000000000000000000000000000000000000001ffecfd s (afterDomainEnable d s) := by
  unfold afterDomainEnable
  repeat' first
      | with_reducible exact Keeps.refl
      | with_reducible assumption
      | with_reducible refine Keeps.ite ?_ ?_
      | (with_reducible apply Keeps.setDomain; (case hc => decide); (case ho => decide))
      | (with_reducible apply Keeps.setVal; · decide)
      | (with_reducible apply Keeps.step (State.setServo_keeps ..); · decide)
      | (with_reducible apply Keeps.step (State.setServoState_keeps ..); · decide)
      | extract_lets
      | intro _
      | split
      | (dsimp +zetaDelta only; split)

theorem State.timeStart_keeps (s : State) : Keeps 0x5000000000000000000000000000000000000000000000000000f00ff007600000000000000000000000000000000000000000000000000000000000700070003000000000000000000000000000000000000000f00db00010001000f0007000f00000000000000000000000000000000000000000000000b0006000300070001000000000000000000000000000000000000000000000000000000000000000001ffecfd s (State.timeStart s) := by
  unfold State.timeStart
  repeat' first
      | with_reducible exact Keeps.refl
      | with_reducible assumption
      | with_reducible refine Keeps.ite ?_ ?_
      | (with_reducible apply Keeps.setDomain; (case hc => decide); (case ho => decide))
      | (with_reducible apply Keeps.step (State.updateNode_keeps ..); · decide)
      | (with_reducible apply Keeps.step (State.switchTo_keeps ..); · decide)
      | (with_reducible apply Keeps.step (State.trackPreferred_keeps ..); · decide)
      | (with_reducible apply Keeps.step (State.autoSwitch_keeps ..); · decide)
      | (with_reducible apply Keeps.step (afterDomainEnable_keeps ..); · decide)
      | extract_lets
      | intro _
      | split
      | (dsimp +zetaDelta only; split)

theorem State.timeGoesOn_keeps (s : State) : Keeps 0x5000000000000000000000000000000000000000000000000000f00ff007600000000000000000000000000000000000000000000000000000000000700070003000000000000000000000000000000000000000f00db00010001000f0007000f00000000000000000000000000000000000000000000000b0006000300070001000000000000000000000000000000000000000000000000000000000000000001ffecfd s (State.timeGoesOn s) := by
  unfold State.timeGoesOn
  repeat' first
      | with_reducible exact Keeps.refl
      | with_reducible assumption
      | with_reducible refine Keeps.ite ?_ ?_
      | (with_reducible apply Keeps.step (State.updateNode_keeps ..); · decide)
      | (with_reducible apply Keeps.step (afterDomainMode_keeps ..); · decide)
      | (with_reducible apply Keeps.step (afterDomainEnable_keeps ..); · decide)
      | extract_lets
      | intro _
      | split
      | (dsimp +zetaDelta only; split)

theorem snapWrite_keeps (v : Word) (s : State) : Keeps 0x5000000000000000000000000000000000000000000000000000f00ff007e00010000000000000000000000000000000000000000000000000000000700070003000000000000000000000000000000000000000f00db00010001000f0007000f00000000000000000000000000000000000000000000000b0007000300070001000000000000000000000000000000000000000000000000000000000000000001fffeff s (snapWrite v s) := by
  unfold snapWrite
  repeat' first
      | with_reducible exact Keeps.refl
      | with_reducible assumption
      | with_reducible refine Keeps.ite ?_ ?_
      | extract_lets
      | intro _
      | split
      | (with_reducible apply Keeps.set_time; (case h0 => decide))
      | (dsimp +zetaDelta only; split)

theorem State.setPulse_keeps (s : State) (r : Nat) (p : Pulse) : Keeps 0x5000000000000000000000000000000000000000000000000000f00ff007e00010000000000000000000000000000000000000000000000000000000700070003000000000000000000000000000000000000000f00db00010001000f0007000f00000000000000000000000000000000000000000000000b0007000300070001000000000000000000000000000000000000000000000000000000000000000001fffeff s (State.setPulse s r p) := by
  unfold State.setPulse
  repeat' first
      | with_reducible exact Keeps.refl
      | with_reducible assumption
      | with_reducible refine Keeps.ite ?_ ?_
      | extract_lets
      | intro _
      | split
      | (with_reducible apply Keeps.set_time; (case h0 => decide))
      | (dsimp +zetaDelta only; split)

theorem State.setPulseState_keeps (s : State) (r st : Nat) : Keeps 0x5000000000000000000000000000000000000000000000000000f00ff007e00010000000000000000000000000000000000000000000000000000000700070003000000000000000000000000000000000000000f00db00010001000f0007000f00000000000000000000000000000000000000000000000b0005000300070001000000000000000000000000000000000000000000000000000000000000000001ffffff s (State.setPulseState s r st) := by
  unfold State.setPulseState
  repeat' first
      | with_reducible exact Keeps.refl
      | with_reducible assumption
      | with_reducible refine Keeps.ite ?_ ?_
      | (with_reducible apply Keeps.setFld; · decide)
      | extract_lets
      | intro _
      | split
      | (dsimp +zetaDelta only; split)

theorem State.armPulse_keeps (s : State) (r : Nat) (task : Option Nat) (n m : Nat) : Keeps 0x5000000000000000000000000000000000000000000000000000e00ff001400000000000000000000000000000000000000000000000000000000000700070003000000000000000000000000000000000000000f00db00010001000f0007000f0000000000000000000000000000000000000000000000010005000300070001000000000000000000000000000000000000000000000000000000000000000001ff8cff s (State.armPulse s r task n m) := by
  unfold State.armPulse
  repeat' first
      | with_reducible exact Keeps.refl
      | with_reducible assumption
      | with_reducible refine Keeps.ite ?_ ?_
      | (with_reducible apply Keeps.bump32; · decide)
      | (with_reducible apply Keeps.step (State.raise_keeps ..); · decide)
      | (with_reducible apply Keeps.step (State.completeOpt_keeps ..); · decide)
      | (with_reducible apply Keeps.step (State.setPulse_keeps ..); · decide)
      | (with_reducible apply Keeps.step (State.setPulseState_keeps ..); · decide)
      | extract_lets
      | intro _
      | split
      | (dsimp +zetaDelta only; split)

theorem State.pulseWritten_keeps (s : State) (r : Nat) (task : Option Nat) : Keeps 0x5000000000000000000000000000000000000000000000000000e00ff001400000000000000000000000000000000000000000000000000000000000700070003000000000000000000000000000000000000000f00db00010001000f0007000f0000000000000000000000000000000000000000000000010005000300070001000000000000000000000000000000000000000000000000000000000000000001ff8cff s (State.pulseWritten s r task) := by
  unfold State.pulseWritten
  repeat' first
      | with_reducible exact Keeps.refl
      | with_reducible assumption
      | with_reducible refine Keeps.ite ?_ ?_
      | (with_reducible apply Keeps.step (State.completeOpt_keeps ..); · decide)
      | (with_reducible apply Keeps.step (State.setPulse_keeps ..); · decide)
      | (with_reducible apply Keeps.step (State.setPulseState_keeps ..); · decide)
      | (with_reducible apply Keeps.step (State.armPulse_keeps ..); · decide)
      | extract_lets
      | intro _
      | split
      | (dsimp +zetaDelta only; split)

theorem execPulseEdge_keeps (r : Nat) (s : State) : Keeps 0x5000000000000000000000000000000000000000000000000000e00ff001400000000000000000000000000000000000000000000000000000000000700070003000000000000000000000000000000000000000f00db00010001000f0007000f0000000000000000000000000000000000000000000000010005000300070001000000000000000000000000000000000000000000000000000000000000000001ff8cfd s (execPulseEdge r s) := by
  unfold execPulseEdge
  repeat' first
      | with_reducible exact Keeps.refl
      | with_reducible assumption
      | with_reducible refine Keeps.ite ?_ ?_
      | (with_reducible apply Keeps.step (State.advanceTo_keeps ..); · decide)
      | (with_reducible apply Keeps.step (State.raise_keeps ..); · decide)
      | (with_reducible apply Keeps.step (State.completeOpt_keeps ..); · decide)
      | (with_reducible apply Keeps.step (State.setPulse_keeps ..); · decide)
      | (with_reducible apply Keeps.step (State.setPulseState_keeps ..); · decide)
      | (with_reducible apply Keeps.step (State.armPulse_keeps ..); · decide)
      | extract_lets
      | intro _
      | split
      | (dsimp +zetaDelta only; split)

theorem State.pulseCome_keeps (s : State) (r : Nat) : Keeps 0x5000000000000000000000000000000000000000000000000000e00ff001400000000000000000000000000000000000000000000000000000000000700070003000000000000000000000000000000000000000f00db00010001000f0007000f0000000000000000000000000000000000000000000000010005000300070001000000000000000000000000000000000000000000000000000000000000000001ff8cfd s (State.pulseCome s r) := by
  unfold State.pulseCome
  repeat' first
      | with_reducible exact Keeps.refl
      | with_reducible assumption
      | with_reducible refine Keeps.ite ?_ ?_
      | (with_reducible apply Keeps.step (execPulseEdge_keeps ..); · decide)
      | extract_lets
      | intro _
      | split
      | (dsimp +zetaDelta only; split)

theorem State.writePulseRow_keeps (s : State) (r : Nat) (v : Row) (task : Option Nat) : Keeps 0x5000000000000000000000000000000000000000000000000000e00ff001400000000000000000000000000000000000000000000000000000000000700070003000000000000000000000000000000000000000f00db00010001000f0007000f0000000000000000000000000000000000000000000000010005000300070001000000000000000000000000000000000000000000000000000000000000000001ff8cfd s (State.writePulseRow s r v task) := by
  unfold State.writePulseRow
  repeat' first
      | with_reducible exact Keeps.refl
      | with_reducible assumption
      | with_reducible refine Keeps.ite ?_ ?_
      | (with_reducible apply Keeps.setRow; · decide)
      | (with_reducible apply Keeps.step (State.pulseWritten_keeps ..); · decide)
      | (with_reducible apply Keeps.step (State.pulseCome_keeps ..); · decide)
      | extract_lets
      | intro _
      | split
      | (dsimp +zetaDelta only; split)

theorem State.pulseSettle_keeps (s : State) (r : Nat) : Keeps 0x5000000000000000000000000000000000000000000000000000e00ff001400000000000000000000000000000000000000000000000000000000000700070003000000000000000000000000000000000000000f00db00010001000f0007000f0000000000000000000000000000000000000000000000010005000300070001000000000000000000000000000000000000000000000000000000000000000001ff8cfd s (State.pulseSettle s r) := by
  unfold State.pulseSettle
  repeat' first
      | with_reducible exact Keeps.refl
      | with_reducible assumption
      | with_reducible refine Keeps.ite ?_ ?_
      | (with_reducible apply Keeps.step (execPulseEdge_keeps ..); · decide)
      | extract_lets
      | intro _
      | split
      | (dsimp +zetaDelta only; split)

theorem State.setCaptures_keeps (s : State) (i : Nat) (xs : List Row) : Keeps 0x5000000000000000000000000000000000000000000000000000f00ff007e00010000000000000000000000000000000000000000000000000000000700070003000000000000000000000000000000000000000f00db00010001000f0007000f00000000000000000000000000000000000000000000000b0007000300070001000000000000000000000000000000000000000000000000000000000000000001fffeff s (State.setCaptures s i xs) := by
  unfold State.setCaptures
  repeat' first
      | with_reducible exact Keeps.refl
      | with_reducible assumption
      | with_reducible refine Keeps.ite ?_ ?_
      | extract_lets
      | intro _
      | split
      | (with_reducible apply Keeps.set_time; (case h0 => decide))
      | (dsimp +zetaDelta only; split)

theorem execTsiEdge_keeps (i at_ frac : Nat) (falling : Bool) (width : Nat) (s0 : State) : Keeps 0x5000000000000000000000000000000000000000000000000000f00ff007600000000000000000000000000000000000000000000000000000000000700070003000000000000000000000000000000000000000f00db00010001000f0007000f00000000000000000000000000000000000000000000000b0007000300070001000000000000000000000000000000000000000000000000000000000000000001ffecfd s0 (execTsiEdge i at_ frac falling width s0) := by
  unfold execTsiEdge
  repeat' first
      | with_reducible exact Keeps.refl
      | with_reducible assumption
      | with_reducible refine Keeps.ite ?_ ?_
      | (with_reducible apply Keeps.bump32; · decide)
      | (with_reducible apply Keeps.step (State.advanceTo_keeps ..); · decide)
      | (with_reducible apply Keeps.step (State.raise_keeps ..); · decide)
      | (with_reducible apply Keeps.step (State.setCaptures_keeps ..); · decide)
      | extract_lets
      | intro _
      | split
      | (with_reducible apply Keeps.set_time; (case h0 => decide))
      | (dsimp +zetaDelta only; split)

end Sys2Proof.Machine
end

