-- ==== Sys2Proof/Laws/KeepsMemOps.lean ====
section
/-! SUPPORT. What each operation of Machine/MemOps.lean leaves alone. -/

set_option linter.all false
namespace Sys2Proof.Machine

theorem State.vaultPut_keeps (s : State) (a : Nat) (bs : List Byte) : Keeps 0x5000000000000000000000000000000000000000000000000000f00ff007e00010000000000000000000000000000000000000000000000000000000700070003000000000000000000000000000000000000000f00db00010001000f0007000f00000000000000000000000000000000000000000000000b0007000300070001000000000000000000000000000000000000000000000000000000000000000001ff7fef s (s.vaultPut a bs) :=
  Keeps.set_vault_integ (by decide) (by decide) wf_msets Keeps.refl

theorem State.vaultSet_keeps (s : State) (a : Nat) (bs : List Byte) : Keeps 0x5000000000000000000000000000000000000000000000000000f00ff007e00010000000000000000000000000000000000000000000000000000000700070003000000000000000000000000000000000000000f00db00010001000f0007000f00000000000000000000000000000000000000000000000b0007000300070001000000000000000000000000000000000000000000000000000000000000000001fd1fef s (State.vaultSet s a bs) := by
  unfold State.vaultSet
  repeat' first
      | with_reducible exact Keeps.refl
      | with_reducible assumption
      | with_reducible refine Keeps.ite ?_ ?_
      | (with_reducible apply Keeps.step (State.vaultPut_keeps ..); · decide)
      | extract_lets
      | intro _
      | split
      | (with_reducible apply Keeps.set_net; (case h0 => decide); (case hn => first | exact id | exact Ram.wf_put | exact Packet.fill_wf _ | exact fun h => by split <;> exact h))
      | (with_reducible apply Keeps.set_weir; (case h0 => decide); (case hw => first | exact id | exact Ram.wf_put | exact Packet.fill_wf _ | exact fun h => by split <;> exact h))
      | (with_reducible apply Keeps.set_ingest; (case h0 => decide); (case hi => first | exact id | exact Ram.wf_put | exact Packet.fill_wf _ | exact fun h => by split <;> exact h))
      | (dsimp +zetaDelta only; split)

theorem State.unwrittenRead_keeps (s : State) (mem : Nat) : Keeps 0x5000000000000000000000000000000000000000000000000000d00ff007e00010000000000000000000000000000000000000000000000000000000700070003000000000000000000000000000000000000000f00db00010001000f0007000f00000000000000000000000000000000000000000000000b0007000300070001000000000000000000000000000000000000000000000000000000000000000001ffffff s (State.unwrittenRead s mem) := by
  unfold State.unwrittenRead
  repeat' first
      | with_reducible exact Keeps.refl
      | with_reducible assumption
      | with_reducible refine Keeps.ite ?_ ?_
      | (with_reducible apply Keeps.bump; · decide)
      | extract_lets
      | intro _
      | split
      | (dsimp +zetaDelta only; split)

theorem State.setPageValid_keeps (s : State) (p : Nat) : Keeps 0x5000000000000000000000000000000000000000000000000000f00ff007e00010000000000000000000000000000000000000000000000000000000700070003000000000000000000000000000000000000000f00db00010001000f0007000f00000000000000000000000000000000000000000000000b0007000300070001000000000000000000000000000000000000000000000000000000000000000001ff7fef s (State.setPageValid s p) := by
  unfold State.setPageValid
  repeat' first
      | with_reducible exact Keeps.refl
      | with_reducible assumption
      | with_reducible refine Keeps.ite ?_ ?_
      | (with_reducible apply Keeps.step (State.vaultPut_keeps ..); · decide)
      | extract_lets
      | intro _
      | split
      | (dsimp +zetaDelta only; split)

theorem State.touchPages_keeps (s : State) (a n : Nat) : Keeps 0x5000000000000000000000000000000000000000000000000000f00ff007e00010000000000000000000000000000000000000000000000000000000700070003000000000000000000000000000000000000000f00db00010001000f0007000f00000000000000000000000000000000000000000000000b0007000300070001000000000000000000000000000000000000000000000000000000000000000001ff7fef s (s.touchPages a n) := by
  unfold State.touchPages
  split
  · exact Keeps.refl
  · refine Keeps.foldl (fun x i hx => ?_) Keeps.refl
    dsimp only
    split
    · exact Keeps.step (State.setPageValid_keeps ..) (by decide) hx
    · exact hx

theorem State.shadowWord_wf (s : State) {m : Mem} (w a b : Nat) (h : Memory.wf m = true) : Memory.wf (s.shadowWord m w a b) = true := by
  unfold State.shadowWord
  split
  · exact h
  · split
    · exact h
    · exact wf_msets (wf_msets h)

theorem wf_foldl {α : Type} {f : Mem → α → Mem} (hf : ∀ m x, Memory.wf m = true → Memory.wf (f m x) = true) (l : List α) {m : Mem}
    (h : Memory.wf m = true) : Memory.wf (l.foldl f m) = true := by
  induction l generalizing m with
  | nil => exact h
  | cons x l ih => exact ih (hf m x h)

theorem State.dramPut_keeps (s : State) (a : Nat) (bs : List Byte) : Keeps 0x5000000000000000000000000000000000000000000000000000f00ff007e00010000000000000000000000000000000000000000000000000000000700070003000000000000000000000000000000000000000f00db00010001000f0007000f00000000000000000000000000000000000000000000000b0007000300070001000000000000000000000000000000000000000000000000000000000000000001ff7fe7 s (s.dramPut a bs) :=
  Keeps.set_dram (by decide) (fun h => wf_foldl (fun _ _ hm => State.shadowWord_wf _ _ _ _ hm) _ (wf_msets h))
    (Keeps.step (State.touchPages_keeps ..) (by decide) Keeps.refl)

theorem State.dramRead_keeps (s : State) (a n : Nat) : Keeps 0x5000000000000000000000000000000000000000000000000000d00ff007e00010000000000000000000000000000000000000000000000000000000700070003000000000000000000000000000000000000000f00db00010001000f0007000f00000000000000000000000000000000000000000000000b0007000300070001000000000000000000000000000000000000000000000000000000000000000001ffffff s (State.dramRead s a n) := by
  unfold State.dramRead
  repeat' first
      | with_reducible exact Keeps.refl
      | with_reducible assumption
      | with_reducible refine Keeps.ite ?_ ?_
      | (with_reducible apply Keeps.add; · decide)
      | extract_lets
      | intro _
      | split
      | (dsimp +zetaDelta only; split)

end Sys2Proof.Machine
end

