-- ==== Sys2Proof/Laws/KeepsIngest.lean ====
section
/-! SUPPORT. What each operation of Machine/Ingest.lean leaves alone. -/

set_option linter.all false
namespace Sys2Proof.Machine

theorem State.ingestDrop_keeps (s : State) : Keeps 0x5000000000000000000000000000000000000000000000000000f00ff007e00000000000000000000000000000000000000000000000000000000000700070003000000000000000000000000000000000000000f00db00010001000f0007000f00000000000000000000000000000000000000000000000b0007000300070001000000000000000000000000000000000000000000000000000000000000000001ffedff s (State.ingestDrop s) := by
  unfold State.ingestDrop
  repeat' first
      | with_reducible exact Keeps.refl
      | with_reducible assumption
      | with_reducible refine Keeps.ite ?_ ?_
      | (with_reducible apply Keeps.step (State.raiseMs_keeps ..); · decide)
      | extract_lets
      | intro _
      | split
      | (dsimp +zetaDelta only; split)

theorem State.flowDrop_keeps (s : State) (r c : Nat) : Keeps 0x5000000000000000000000000000000000000000000000000000f00ff006e00000000000000000000000000000000000000000000000000000000000700070003000000000000000000000000000000000000000f00db00010001000f0007000f00000000000000000000000000000000000000000000000b0007000300070001000000000000000000000000000000000000000000000000000000000000000001ffedff s (State.flowDrop s r c) := by
  unfold State.flowDrop
  repeat' first
      | with_reducible exact Keeps.refl
      | with_reducible assumption
      | with_reducible refine Keeps.ite ?_ ?_
      | (with_reducible apply Keeps.bump; · decide)
      | (with_reducible apply Keeps.step (State.ingestDrop_keeps ..); · decide)
      | extract_lets
      | intro _
      | split
      | (dsimp +zetaDelta only; split)

theorem State.setFence_keeps (s : State) (f v : Nat) : Keeps 0x5000000000000000000000000000000000000000000000000000f00ff007e00010000000000000000000000000000000000000000000000000000000700070003000000000000000000000000000000000000000f00db00010001000f0007000d00000000000000000000000000000000000000000000000b0007000300070001000000000000000000000000000000000000000000000000000000000000000001fdffff s (State.setFence s f v) := by
  unfold State.setFence
  repeat' first
      | with_reducible exact Keeps.refl
      | with_reducible assumption
      | with_reducible refine Keeps.ite ?_ ?_
      | (with_reducible apply Keeps.setFld; · decide)
      | extract_lets
      | intro _
      | split
      | (with_reducible apply Keeps.set_ingest; (case h0 => decide); (case hi => first | exact id | exact Ram.wf_put | exact Packet.fill_wf _ | exact fun h => by split <;> exact h))
      | (dsimp +zetaDelta only; split)

theorem State.advanceFence_keeps (s : State) (f : Nat) : Keeps 0x5000000000000000000000000000000000000000000000000000f00ff007e00010000000000000000000000000000000000000000000000000000000700070003000000000000000000000000000000000000000f00db00010001000f0007000d00000000000000000000000000000000000000000000000b0007000300070001000000000000000000000000000000000000000000000000000000000000000001fdffff s (State.advanceFence s f) := by
  unfold State.advanceFence
  repeat' first
      | with_reducible exact Keeps.refl
      | with_reducible assumption
      | with_reducible refine Keeps.ite ?_ ?_
      | (with_reducible apply Keeps.step (State.setFence_keeps ..); · decide)
      | extract_lets
      | intro _
      | split
      | (dsimp +zetaDelta only; split)

theorem State.setFlow_keeps (s : State) (r : Nat) (x : Flow) : Keeps 0x5000000000000000000000000000000000000000000000000000f00ff007e00010000000000000000000000000000000000000000000000000000000700070003000000000000000000000000000000000000000f00db00010001000f0007000f00000000000000000000000000000000000000000000000b0007000300070001000000000000000000000000000000000000000000000000000000000000000001fdffff s (State.setFlow s r x) := by
  unfold State.setFlow
  repeat' first
      | with_reducible exact Keeps.refl
      | with_reducible assumption
      | with_reducible refine Keeps.ite ?_ ?_
      | extract_lets
      | intro _
      | split
      | (with_reducible apply Keeps.set_ingest; (case h0 => decide); (case hi => first | exact id | exact Ram.wf_put | exact Packet.fill_wf _ | exact fun h => by split <;> exact h))
      | (dsimp +zetaDelta only; split)

theorem State.writeContext_keeps (s : State) (r : Nat) : Keeps 0x5000000000000000000000000000000000000000000000000000f00ff007e00010000000000000000000000000000000000000000000000000000000700070003000000000000000000000000000000000000000f00db00010001000f0007000f00000000000000000000000000000000000000000000000b0007000300070001000000000000000000000000000000000000000000000000000000000000000001fdffff s (State.writeContext s r) := by
  unfold State.writeContext
  repeat' first
      | with_reducible exact Keeps.refl
      | with_reducible assumption
      | with_reducible refine Keeps.ite ?_ ?_
      | extract_lets
      | intro _
      | split
      | (with_reducible apply Keeps.set_ingest; (case h0 => decide); (case hi => first | exact id | exact Ram.wf_put | exact Packet.fill_wf _ | exact fun h => by split <;> exact h))
      | (dsimp +zetaDelta only; split)

theorem State.setFlowState_keeps (s : State) (r st : Nat) (seek : Bool) : Keeps 0x5000000000000000000000000000000000000000000000000000f00ff007e00010000000000000000000000000000000000000000000000000000000700070003000000000000000000000000000000000000000f00db00010001000f0007000f00000000000000000000000000000000000000000000000a0007000300070001000000000000000000000000000000000000000000000000000000000000000001ffffff s (State.setFlowState s r st seek) := by
  unfold State.setFlowState
  repeat' first
      | with_reducible exact Keeps.refl
      | with_reducible assumption
      | with_reducible refine Keeps.ite ?_ ?_
      | (with_reducible apply Keeps.setFld; · decide)
      | extract_lets
      | intro _
      | split
      | (dsimp +zetaDelta only; split)

theorem State.deviceEvents_keeps (s old : State) : Keeps 0x5000000000000000000000000000000000000000000000000000f00ff007e00000000000000000000000000000000000000000000000000000000000700070003000000000000000000000000000000000000000f00db00010001000f0007000f00000000000000000000000000000000000000000000000b0007000300070001000000000000000000000000000000000000000000000000000000000000000001ffedff s (State.deviceEvents s old) := by
  unfold State.deviceEvents
  repeat' first
      | with_reducible exact Keeps.refl
      | with_reducible assumption
      | with_reducible refine Keeps.ite ?_ ?_
      | (with_reducible apply Keeps.step (State.raiseIf_keeps ..); · decide)
      | (with_reducible refine Keeps.foldl (fun _ _ _ => ?_) ?_)
      | extract_lets
      | intro _
      | split
      | (dsimp +zetaDelta only; split)

theorem State.takeEntry_keeps (s : State) (r k : Nat) : Keeps 0x5000000000000000000000000000000000000000000000000000f00ff007e00010000000000000000000000000000000000000000000000000000000700070003000000000000000000000000000000000000000f00db00010001000f0007000b00000000000000000000000000000000000000000000000b0007000300070001000000000000000000000000000000000000000000000000000000000000000001fdffff s (State.takeEntry s r k) := by
  unfold State.takeEntry
  repeat' first
      | with_reducible exact Keeps.refl
      | with_reducible assumption
      | with_reducible refine Keeps.ite ?_ ?_
      | (with_reducible apply Keeps.setRow; · decide)
      | extract_lets
      | intro _
      | split
      | (with_reducible apply Keeps.set_ingest; (case h0 => decide); (case hi => first | exact id | exact Ram.wf_put | exact Packet.fill_wf _ | exact fun h => by split <;> exact h))
      | (dsimp +zetaDelta only; split)

theorem State.tryEnableFlow_keeps (s : State) (r : Nat) : Keeps 0x5000000000000000000000000000000000000000000000000000f00ff006e00000000000000000000000000000000000000000000000000000000000700070003000000000000000000000000000000000000000f00db00010001000f0007000d00000000000000000000000000000000000000000000000a0007000300070001000000000000000000000000000000000000000000000000000000000000000001fdedff s (State.tryEnableFlow s r) := by
  unfold State.tryEnableFlow
  repeat' first
      | with_reducible exact Keeps.refl
      | with_reducible assumption
      | with_reducible refine Keeps.ite ?_ ?_
      | (with_reducible apply Keeps.setRow; · decide)
      | (with_reducible apply Keeps.setFld; · decide)
      | (with_reducible apply Keeps.step (State.raise_keeps ..); · decide)
      | (with_reducible apply Keeps.step (State.setFlow_keeps ..); · decide)
      | (with_reducible apply Keeps.step (State.writeContext_keeps ..); · decide)
      | (with_reducible apply Keeps.step (State.setFlowState_keeps ..); · decide)
      | extract_lets
      | intro _
      | split
      | (dsimp +zetaDelta only; split)

theorem State.flowDisabled_keeps (s : State) (r : Nat) : Keeps 0x5000000000000000000000000000000000000000000000000000f00ff006e00000000000000000000000000000000000000000000000000000000000700070003000000000000000000000000000000000000000f00db00010001000f0007000d00000000000000000000000000000000000000000000000a0007000300070001000000000000000000000000000000000000000000000000000000000000000001fdedff s (State.flowDisabled s r) := by
  unfold State.flowDisabled
  repeat' first
      | with_reducible exact Keeps.refl
      | with_reducible assumption
      | with_reducible refine Keeps.ite ?_ ?_
      | (with_reducible apply Keeps.setFld; · decide)
      | (with_reducible apply Keeps.step (State.raise_keeps ..); · decide)
      | (with_reducible apply Keeps.step (State.setFlow_keeps ..); · decide)
      | (with_reducible apply Keeps.step (State.setFlowState_keeps ..); · decide)
      | (with_reducible apply Keeps.step (State.tryEnableFlow_keeps ..); · decide)
      | extract_lets
      | intro _
      | split
      | (dsimp +zetaDelta only; split)

theorem State.drainFlow_keeps (s : State) (r : Nat) : Keeps 0x5000000000000000000000000000000000000000000000000000f00ff006e00000000000000000000000000000000000000000000000000000000000700070003000000000000000000000000000000000000000f00db00010001000f0007000d00000000000000000000000000000000000000000000000a0007000300070001000000000000000000000000000000000000000000000000000000000000000001fdedff s (State.drainFlow s r) := by
  unfold State.drainFlow
  repeat' first
      | with_reducible exact Keeps.refl
      | with_reducible assumption
      | with_reducible refine Keeps.ite ?_ ?_
      | (with_reducible apply Keeps.step (State.raise_keeps ..); · decide)
      | (with_reducible apply Keeps.step (State.setFlowState_keeps ..); · decide)
      | (with_reducible apply Keeps.step (State.flowDisabled_keeps ..); · decide)
      | extract_lets
      | intro _
      | split
      | (dsimp +zetaDelta only; split)

theorem writeFlowEnable_keeps (r v : Nat) (s : State) : Keeps 0x5000000000000000000000000000000000000000000000000000f00ff006e00000000000000000000000000000000000000000000000000000000000700070003000000000000000000000000000000000000000f00db00010001000f0007000d00000000000000000000000000000000000000000000000a0007000300070001000000000000000000000000000000000000000000000000000000000000000001fdedff s (writeFlowEnable r v s).st := by
  unfold writeFlowEnable
  repeat' first
      | with_reducible exact Keeps.refl
      | with_reducible assumption
      | with_reducible refine Keeps.ite ?_ ?_
      | (with_reducible apply Keeps.step (done_keeps ..); · decide)
      | (with_reducible apply Keeps.step (State.setFlow_keeps ..); · decide)
      | (with_reducible apply Keeps.step (State.tryEnableFlow_keeps ..); · decide)
      | (with_reducible apply Keeps.step (State.drainFlow_keeps ..); · decide)
      | extract_lets
      | intro _
      | split
      | (dsimp +zetaDelta only; split)

theorem execFlowDrainDone_keeps (r : Nat) (s : State) : Keeps 0x5000000000000000000000000000000000000000000000000000f00ff006e00000000000000000000000000000000000000000000000000000000000700070003000000000000000000000000000000000000000f00db00010001000f0007000d00000000000000000000000000000000000000000000000a0007000300070001000000000000000000000000000000000000000000000000000000000000000001fdedff s (execFlowDrainDone r s) := by
  unfold execFlowDrainDone
  repeat' first
      | with_reducible exact Keeps.refl
      | with_reducible assumption
      | with_reducible refine Keeps.ite ?_ ?_
      | (with_reducible apply Keeps.step (State.flowDisabled_keeps ..); · decide)
      | extract_lets
      | intro _
      | split
      | (dsimp +zetaDelta only; split)

theorem State.loadFlowEnables_keeps (s : State) : Keeps 0x5000000000000000000000000000000000000000000000000000f00ff006e00000000000000000000000000000000000000000000000000000000000700070003000000000000000000000000000000000000000f00db00010001000f0007000d00000000000000000000000000000000000000000000000a0007000300070001000000000000000000000000000000000000000000000000000000000000000001fdedff s (State.loadFlowEnables s) := by
  unfold State.loadFlowEnables
  repeat' first
      | with_reducible exact Keeps.refl
      | with_reducible assumption
      | with_reducible refine Keeps.ite ?_ ?_
      | (with_reducible apply Keeps.step (State.tryEnableFlow_keeps ..); · decide)
      | (with_reducible refine Keeps.foldl (fun _ _ _ => ?_) ?_)
      | extract_lets
      | intro _
      | split
      | (dsimp +zetaDelta only; split)

theorem State.writeSrd_keeps (s : State) (v : Row) (f : Nat) (d : Srd) (bs : List Byte) : Keeps 0x5000000000000000000000000000000000000000000000000000f00ff007e00010000000000000000000000000000000000000000000000000000000700070003000000000000000000000000000000000000000f00db00010001000f0007000f00000000000000000000000000000000000000000000000b0007000300070001000000000000000000000000000000000000000000000000000000000000000001ff7fe7 s (State.writeSrd s v f d bs) := by
  unfold State.writeSrd
  repeat' first
      | with_reducible exact Keeps.refl
      | with_reducible assumption
      | with_reducible refine Keeps.ite ?_ ?_
      | (with_reducible apply Keeps.step (State.dramPut_keeps ..); · decide)
      | extract_lets
      | intro _
      | split
      | (dsimp +zetaDelta only; split)

theorem State.writeSrds_keeps (s : State) (v : Row) (f : Nat) (ds : List Srd) (bs : List Byte) :
    Keeps 0x5000000000000000000000000000000000000000000000000000f00ff007e00010000000000000000000000000000000000000000000000000000000700070003000000000000000000000000000000000000000f00db00010001000f0007000f00000000000000000000000000000000000000000000000b0007000300070001000000000000000000000000000000000000000000000000000000000000000001ff7fe7 s (s.writeSrds v f ds bs) := by
  induction ds generalizing s bs with
  | nil => exact Keeps.refl
  | cons d ds ih => exact Keeps.step (ih _ _) (by decide) (State.writeSrd_keeps ..)

theorem State.closeComplete_keeps (s : State) (r : Nat) (f : VFrame) (k : Nat) : Keeps 0x5000000000000000000000000000000000000000000000000000f00fe006e00010000000000000000000000000000000000000000000000000000000700070003000000000000000000000000000000000000000f00db00010001000f0007000b00000000000000000000000000000000000000000000000b0007000300070001000000000000000000000000000000000000000000000000000000000000000001fdffff s (State.closeComplete s r f k) := by
  unfold State.closeComplete
  repeat' first
      | with_reducible exact Keeps.refl
      | with_reducible assumption
      | with_reducible refine Keeps.ite ?_ ?_
      | (with_reducible apply Keeps.setRow; · decide)
      | (with_reducible apply Keeps.bump; · decide)
      | (with_reducible apply Keeps.step (State.setFlow_keeps ..); · decide)
      | extract_lets
      | intro _
      | split
      | (dsimp +zetaDelta only; split)

theorem State.flowBad_keeps (s : State) (r : Nat) : Keeps 0x5000000000000000000000000000000000000000000000000000f00ff007e00010000000000000000000000000000000000000000000000000000000700070003000000000000000000000000000000000000000f00db00010001000f0007000f00000000000000000000000000000000000000000000000b0007000300070001000000000000000000000000000000000000000000000000000000000000000001fdffff s (State.flowBad s r) := by
  unfold State.flowBad
  repeat' first
      | with_reducible exact Keeps.refl
      | with_reducible assumption
      | with_reducible refine Keeps.ite ?_ ?_
      | (with_reducible apply Keeps.step (State.setFlow_keeps ..); · decide)
      | extract_lets
      | intro _
      | split
      | (dsimp +zetaDelta only; split)

theorem State.closeIncomplete_keeps (s : State) (r : Nat) (f : VFrame) : Keeps 0x5000000000000000000000000000000000000000000000000000f00fe006e00000000000000000000000000000000000000000000000000000000000700070003000000000000000000000000000000000000000f00db00010001000f0007000f00000000000000000000000000000000000000000000000b0007000300070001000000000000000000000000000000000000000000000000000000000000000001fdedff s (State.closeIncomplete s r f) := by
  unfold State.closeIncomplete
  repeat' first
      | with_reducible exact Keeps.refl
      | with_reducible assumption
      | with_reducible refine Keeps.ite ?_ ?_
      | (with_reducible apply Keeps.bump; · decide)
      | (with_reducible apply Keeps.add; · decide)
      | (with_reducible apply Keeps.step (State.raise_keeps ..); · decide)
      | (with_reducible apply Keeps.step (State.setFlow_keeps ..); · decide)
      | (with_reducible apply Keeps.step (State.flowBad_keeps ..); · decide)
      | extract_lets
      | intro _
      | split
      | (dsimp +zetaDelta only; split)

theorem State.drainAfterClose_keeps (s : State) (r : Nat) : Keeps 0x5000000000000000000000000000000000000000000000000000f00ff006e00000000000000000000000000000000000000000000000000000000000700070003000000000000000000000000000000000000000f00db00010001000f0007000d00000000000000000000000000000000000000000000000a0007000300070001000000000000000000000000000000000000000000000000000000000000000001fdedff s (State.drainAfterClose s r) := by
  unfold State.drainAfterClose
  repeat' first
      | with_reducible exact Keeps.refl
      | with_reducible assumption
      | with_reducible refine Keeps.ite ?_ ?_
      | (with_reducible apply Keeps.step (State.flowDisabled_keeps ..); · decide)
      | extract_lets
      | intro _
      | split
      | (dsimp +zetaDelta only; split)

theorem State.closeFrame_keeps (s : State) (r : Nat) : Keeps 0x5000000000000000000000000000000000000000000000000000f00fe006e00000000000000000000000000000000000000000000000000000000000700070003000000000000000000000000000000000000000f00db00010001000f0007000d00000000000000000000000000000000000000000000000a0007000300070001000000000000000000000000000000000000000000000000000000000000000001fdedff s (State.closeFrame s r) := by
  unfold State.closeFrame
  repeat' first
      | with_reducible exact Keeps.refl
      | with_reducible assumption
      | with_reducible refine Keeps.ite ?_ ?_
      | (with_reducible apply Keeps.step (State.closeIncomplete_keeps ..); · decide)
      | (with_reducible apply Keeps.step (State.drainAfterClose_keeps ..); · decide)
      | extract_lets
      | intro _
      | split
      | (dsimp +zetaDelta only; split)

theorem State.windowCheck_keeps (s : State) (r t : Nat) : Keeps 0x5000000000000000000000000000000000000000000000000000f00fe006e00000000000000000000000000000000000000000000000000000000000700070003000000000000000000000000000000000000000f00db00010001000f0007000d00000000000000000000000000000000000000000000000a0007000300070001000000000000000000000000000000000000000000000000000000000000000001fdedff s (State.windowCheck s r t) := by
  unfold State.windowCheck
  repeat' first
      | with_reducible exact Keeps.refl
      | with_reducible assumption
      | with_reducible refine Keeps.ite ?_ ?_
      | (with_reducible apply Keeps.step (State.closeFrame_keeps ..); · decide)
      | extract_lets
      | intro _
      | split
      | (dsimp +zetaDelta only; split)

theorem execArrivalWindowEnd_keeps (r : Nat) (s : State) : Keeps 0x5000000000000000000000000000000000000000000000000000f00fe006e00000000000000000000000000000000000000000000000000000000000700070003000000000000000000000000000000000000000f00db00010001000f0007000d00000000000000000000000000000000000000000000000a0007000300070001000000000000000000000000000000000000000000000000000000000000000001fdecfd s (execArrivalWindowEnd r s) := by
  unfold execArrivalWindowEnd
  repeat' first
      | with_reducible exact Keeps.refl
      | with_reducible assumption
      | with_reducible refine Keeps.ite ?_ ?_
      | (with_reducible apply Keeps.step (State.advanceTo_keeps ..); · decide)
      | (with_reducible apply Keeps.step (State.closeFrame_keeps ..); · decide)
      | extract_lets
      | intro _
      | split
      | (dsimp +zetaDelta only; split)

theorem State.openFrame_keeps (s : State) (r ts t : Nat) : Keeps 0x5000000000000000000000000000000000000000000000000000f00fe006e00000000000000000000000000000000000000000000000000000000000700070003000000000000000000000000000000000000000f00db00010001000f0007000b00000000000000000000000000000000000000000000000b0007000300070001000000000000000000000000000000000000000000000000000000000000000001fdedff s (s.openFrame r ts t) := by
  unfold State.openFrame
  extract_lets ring e f x s1
  have h : Keeps 0x5000000000000000000000000000000000000000000000000000f00fe006e00000000000000000000000000000000000000000000000000000000000700070003000000000000000000000000000000000000000f00db00010001000f0007000b00000000000000000000000000000000000000000000000b0007000300070001000000000000000000000000000000000000000000000000000000000000000001fdedff s s1 := (State.setFlow_keeps ..).weaken (by decide)
  clear_value s1 f e
  split
  · exact Keeps.step (State.takeEntry_keeps ..) (by decide) h
  · exact Keeps.step (State.raise_keeps ..) (by decide) (Keeps.step (State.flowDrop_keeps ..) (by decide)
      (Keeps.bump (by decide) (Keeps.step (State.flowBad_keeps ..) (by decide) h)))

theorem State.framePacket_keeps (s : State) (r : Nat) (f : VFrame) (p : VideoPacket) : Keeps 0x5000000000000000000000000000000000000000000000000000f00fe006e00000000000000000000000000000000000000000000000000000000000700070003000000000000000000000000000000000000000f00db00010001000f0007000900000000000000000000000000000000000000000000000a0007000300070001000000000000000000000000000000000000000000000000000000000000000001fd6de7 s (State.framePacket s r f p) := by
  unfold State.framePacket
  repeat' first
      | with_reducible exact Keeps.refl
      | with_reducible assumption
      | with_reducible refine Keeps.ite ?_ ?_
      | (with_reducible apply Keeps.step (State.flowDrop_keeps ..); · decide)
      | (with_reducible apply Keeps.step (State.setFlow_keeps ..); · decide)
      | (with_reducible apply Keeps.step (State.writeSrds_keeps ..); · decide)
      | (with_reducible apply Keeps.step (State.closeComplete_keeps ..); · decide)
      | (with_reducible apply Keeps.step (State.drainAfterClose_keeps ..); · decide)
      | (with_reducible apply Keeps.step (State.closeFrame_keeps ..); · decide)
      | extract_lets
      | intro _
      | split
      | (dsimp +zetaDelta only; split)

theorem State.timedPacket_keeps (s : State) (r : Nat) (p : VideoPacket) : Keeps 0x5000000000000000000000000000000000000000000000000000f00fe006e00000000000000000000000000000000000000000000000000000000000700070003000000000000000000000000000000000000000f00db00010001000f0007000900000000000000000000000000000000000000000000000a0007000300070001000000000000000000000000000000000000000000000000000000000000000001fd6de7 s (State.timedPacket s r p) := by
  unfold State.timedPacket
  repeat' first
      | with_reducible exact Keeps.refl
      | with_reducible assumption
      | with_reducible refine Keeps.ite ?_ ?_
      | (with_reducible apply Keeps.bump; · decide)
      | (with_reducible apply Keeps.step (State.ingestDrop_keeps ..); · decide)
      | (with_reducible apply Keeps.step (State.flowDrop_keeps ..); · decide)
      | (with_reducible apply Keeps.step (State.closeFrame_keeps ..); · decide)
      | (with_reducible apply Keeps.step (State.openFrame_keeps ..); · decide)
      | (with_reducible apply Keeps.step (State.framePacket_keeps ..); · decide)
      | extract_lets
      | intro _
      | split
      | (dsimp +zetaDelta only; split)

theorem State.seekPacket_keeps (s : State) (r : Nat) (p : VideoPacket) : Keeps 0x5000000000000000000000000000000000000000000000000000f00ff006e00000000000000000000000000000000000000000000000000000000000700070003000000000000000000000000000000000000000f00db00010001000f0007000f00000000000000000000000000000000000000000000000a0007000300070001000000000000000000000000000000000000000000000000000000000000000001fdedff s (State.seekPacket s r p) := by
  unfold State.seekPacket
  repeat' first
      | with_reducible exact Keeps.refl
      | with_reducible assumption
      | with_reducible refine Keeps.ite ?_ ?_
      | (with_reducible apply Keeps.step (State.raise_keeps ..); · decide)
      | (with_reducible apply Keeps.step (State.flowDrop_keeps ..); · decide)
      | (with_reducible apply Keeps.step (State.setFlow_keeps ..); · decide)
      | (with_reducible apply Keeps.step (State.setFlowState_keeps ..); · decide)
      | extract_lets
      | intro _
      | split
      | (dsimp +zetaDelta only; split)

theorem State.abortedPacket_keeps (s : State) (r : Nat) (p : VideoPacket) : Keeps 0x5000000000000000000000000000000000000000000000000000f00ff007e00010000000000000000000000000000000000000000000000000000000700070003000000000000000000000000000000000000000f00db00010001000f0007000f00000000000000000000000000000000000000000000000b0007000300070001000000000000000000000000000000000000000000000000000000000000000001ff7fe7 s (State.abortedPacket s r p) := by
  unfold State.abortedPacket
  repeat' first
      | with_reducible exact Keeps.refl
      | with_reducible assumption
      | with_reducible refine Keeps.ite ?_ ?_
      | (with_reducible apply Keeps.step (State.writeSrds_keeps ..); · decide)
      | extract_lets
      | intro _
      | split
      | (dsimp +zetaDelta only; split)

theorem execVideoPacket_keeps (r : Nat) (p : VideoPacket) (s0 : State) : Keeps 0x5000000000000000000000000000000000000000000000000000f00fe004e00000000000000000000000000000000000000000000000000000000000700070003000000000000000000000000000000000000000f00db00010001000f000700090000000000000000000000000000000000000000000000000007000300070001000000000000000000000000000000000000000000000000000000000000000001fd2ce5 s0 (execVideoPacket r p s0) := by
  unfold execVideoPacket
  repeat' first
      | with_reducible exact Keeps.refl
      | with_reducible assumption
      | with_reducible refine Keeps.ite ?_ ?_
      | (with_reducible apply Keeps.bump; · decide)
      | (with_reducible apply Keeps.step (State.advanceTo_keeps ..); · decide)
      | (with_reducible apply Keeps.step (State.consumeFlow_keeps ..); · decide)
      | (with_reducible apply Keeps.step (State.ingestDrop_keeps ..); · decide)
      | (with_reducible apply Keeps.step (State.flowDrop_keeps ..); · decide)
      | (with_reducible apply Keeps.step (State.writeContext_keeps ..); · decide)
      | (with_reducible apply Keeps.step (State.windowCheck_keeps ..); · decide)
      | (with_reducible apply Keeps.step (State.timedPacket_keeps ..); · decide)
      | (with_reducible apply Keeps.step (State.seekPacket_keeps ..); · decide)
      | (with_reducible apply Keeps.step (State.abortedPacket_keeps ..); · decide)
      | extract_lets
      | intro _
      | split
      | (dsimp +zetaDelta only; split)

theorem execFenceAdvance_keeps (r : Nat) (s : State) : Keeps 0x5000000000000000000000000000000000000000000000000000f00ff007e00000000000000000000000000000000000000000000000000000000000700070003000000000000000000000000000000000000000f00db00010001000f0007000d00000000000000000000000000000000000000000000000b0007000300070001000000000000000000000000000000000000000000000000000000000000000001fdedff s (execFenceAdvance r s) := by
  unfold execFenceAdvance
  repeat' first
      | with_reducible exact Keeps.refl
      | with_reducible assumption
      | with_reducible refine Keeps.ite ?_ ?_
      | (with_reducible apply Keeps.step (State.raise_keeps ..); · decide)
      | (with_reducible apply Keeps.step (State.advanceFence_keeps ..); · decide)
      | (with_reducible apply Keeps.step (State.setFlow_keeps ..); · decide)
      | extract_lets
      | intro _
      | split
      | (dsimp +zetaDelta only; split)

theorem State.yieldFlow_keeps (s : State) (r : Nat) : Keeps 0x5000000000000000000000000000000000000000000000000000f00fe006e00000000000000000000000000000000000000000000000000000000000700070003000000000000000000000000000000000000000f00db00010001000f0007000d00000000000000000000000000000000000000000000000a0007000300070001000000000000000000000000000000000000000000000000000000000000000001fdedff s (State.yieldFlow s r) := by
  unfold State.yieldFlow
  repeat' first
      | with_reducible exact Keeps.refl
      | with_reducible assumption
      | with_reducible refine Keeps.ite ?_ ?_
      | (with_reducible apply Keeps.bump; · decide)
      | (with_reducible apply Keeps.step (State.raise_keeps ..); · decide)
      | (with_reducible apply Keeps.step (State.setFlow_keeps ..); · decide)
      | (with_reducible apply Keeps.step (State.setFlowState_keeps ..); · decide)
      | (with_reducible apply Keeps.step (State.flowDisabled_keeps ..); · decide)
      | (with_reducible apply Keeps.step (State.flowBad_keeps ..); · decide)
      | (with_reducible apply Keeps.step (State.closeIncomplete_keeps ..); · decide)
      | extract_lets
      | intro _
      | split
      | (dsimp +zetaDelta only; split)

theorem State.setUni_keeps (s : State) (u : Nat) (x : Universe_) : Keeps 0x5000000000000000000000000000000000000000000000000000f00ff007e00010000000000000000000000000000000000000000000000000000000700070003000000000000000000000000000000000000000f00db00010001000f0007000f00000000000000000000000000000000000000000000000b0007000300070001000000000000000000000000000000000000000000000000000000000000000001fdffff s (State.setUni s u x) := by
  unfold State.setUni
  repeat' first
      | with_reducible exact Keeps.refl
      | with_reducible assumption
      | with_reducible refine Keeps.ite ?_ ?_
      | extract_lets
      | intro _
      | split
      | (with_reducible apply Keeps.set_ingest; (case h0 => decide); (case hi => first | exact id | exact Ram.wf_put | exact Packet.fill_wf _ | exact fun h => by split <;> exact h))
      | (dsimp +zetaDelta only; split)

theorem State.setSyncAddr_keeps (s : State) (a : Nat) (x : SyncAddr) : Keeps 0x5000000000000000000000000000000000000000000000000000f00ff007e00010000000000000000000000000000000000000000000000000000000700070003000000000000000000000000000000000000000f00db00010001000f0007000f00000000000000000000000000000000000000000000000b0007000300070001000000000000000000000000000000000000000000000000000000000000000001fdffff s (State.setSyncAddr s a x) := by
  unfold State.setSyncAddr
  repeat' first
      | with_reducible exact Keeps.refl
      | with_reducible assumption
      | with_reducible refine Keeps.ite ?_ ?_
      | extract_lets
      | intro _
      | split
      | (with_reducible apply Keeps.set_ingest; (case h0 => decide); (case hi => first | exact id | exact Ram.wf_put | exact Packet.fill_wf _ | exact fun h => by split <;> exact h))
      | (dsimp +zetaDelta only; split)

theorem State.writeBack_keeps (s : State) (u : Nat) (p : SacnPacket) : Keeps 0x5000000000000000000000000000000000000000000000000000f00ff007e00010000000000000000000000000000000000000000000000000000000700070003000000000000000000000000000000000000000f00db00010001000f0007000f00000000000000000000000000000000000000000000000b0007000300070001000000000000000000000000000000000000000000000000000000000000000001ff7fef s (State.writeBack s u p) := by
  unfold State.writeBack
  repeat' first
      | with_reducible exact Keeps.refl
      | with_reducible assumption
      | with_reducible refine Keeps.ite ?_ ?_
      | (with_reducible apply Keeps.step (State.vaultPut_keeps ..); · decide)
      | extract_lets
      | intro _
      | split
      | (dsimp +zetaDelta only; split)

theorem State.flipUni_keeps (s : State) (u : Nat) : Keeps 0x5000000000000000000000000000000000000000000000000000f00ff007e00010000000000000000000000000000000000000000000000000000000700070003000000000000000000000000000000000000000f00db00010001000f0007000700000000000000000000000000000000000000000000000b0007000300070001000000000000000000000000000000000000000000000000000000000000000001ffffff s (State.flipUni s u) := by
  unfold State.flipUni
  repeat' first
      | with_reducible exact Keeps.refl
      | with_reducible assumption
      | with_reducible refine Keeps.ite ?_ ?_
      | (with_reducible apply Keeps.setFld; · decide)
      | extract_lets
      | intro _
      | split
      | (dsimp +zetaDelta only; split)

theorem State.uniChanged_keeps (s : State) (u : Nat) : Keeps 0x5000000000000000000000000000000000000000000000000000f00ff007e00010000000000000000000000000000000000000000000000000000000700070003000000000000000000000000000000000000000f00db00010001000f0007000f00000000000000000000000000000000000000000000000b0007000300070001000000000000000000000000000000000000000000000000000000000000000001fdffff s (State.uniChanged s u) := by
  unfold State.uniChanged
  repeat' first
      | with_reducible exact Keeps.refl
      | with_reducible assumption
      | with_reducible refine Keeps.ite ?_ ?_
      | (with_reducible apply Keeps.step (State.setUni_keeps ..); · decide)
      | extract_lets
      | intro _
      | split
      | (dsimp +zetaDelta only; split)

theorem State.refollow_keeps (s : State) (u : Nat) : Keeps 0x5000000000000000000000000000000000000000000000000000f00ff007e00000000000000000000000000000000000000000000000000000000000700070003000000000000000000000000000000000000000f00db00010001000f0007000700000000000000000000000000000000000000000000000b0007000300070001000000000000000000000000000000000000000000000000000000000000000001fd6def s (State.refollow s u) := by
  unfold State.refollow
  repeat' first
      | with_reducible exact Keeps.refl
      | with_reducible assumption
      | with_reducible refine Keeps.ite ?_ ?_
      | (with_reducible apply Keeps.setFld; · decide)
      | (with_reducible apply Keeps.step (State.raise_keeps ..); · decide)
      | (with_reducible apply Keeps.step (State.vaultPut_keeps ..); · decide)
      | (with_reducible apply Keeps.step (State.uniChanged_keeps ..); · decide)
      | extract_lets
      | intro _
      | split
      | (dsimp +zetaDelta only; split)

theorem State.pruneSources_keeps (s : State) (u : Nat) : Keeps 0x5000000000000000000000000000000000000000000000000000f00ff007e00000000000000000000000000000000000000000000000000000000000700070003000000000000000000000000000000000000000f00db00010001000f0007000700000000000000000000000000000000000000000000000b0007000300070001000000000000000000000000000000000000000000000000000000000000000001fd6def s (State.pruneSources s u) := by
  unfold State.pruneSources
  repeat' first
      | with_reducible exact Keeps.refl
      | with_reducible assumption
      | with_reducible refine Keeps.ite ?_ ?_
      | (with_reducible apply Keeps.step (State.setUni_keeps ..); · decide)
      | (with_reducible apply Keeps.step (State.refollow_keeps ..); · decide)
      | extract_lets
      | intro _
      | split
      | (dsimp +zetaDelta only; split)

theorem State.applyUni_keeps (s : State) (u : Nat) (p : SacnPacket) : Keeps 0x5000000000000000000000000000000000000000000000000000f00ff007e00010000000000000000000000000000000000000000000000000000000700070003000000000000000000000000000000000000000f00db00010001000f0007000700000000000000000000000000000000000000000000000b0007000300070001000000000000000000000000000000000000000000000000000000000000000001fd7fef s (State.applyUni s u p) := by
  unfold State.applyUni
  repeat' first
      | with_reducible exact Keeps.refl
      | with_reducible assumption
      | with_reducible refine Keeps.ite ?_ ?_
      | (with_reducible apply Keeps.setFld; · decide)
      | (with_reducible apply Keeps.step (State.setUni_keeps ..); · decide)
      | (with_reducible apply Keeps.step (State.writeBack_keeps ..); · decide)
      | (with_reducible apply Keeps.step (State.flipUni_keeps ..); · decide)
      | extract_lets
      | intro _
      | split
      | (dsimp +zetaDelta only; split)

theorem execSacnData_keeps (r : Nat) (p : SacnPacket) (s0 : State) : Keeps 0x5000000000000000000000000000000000000000000000000000f00ff004e00000000000000000000000000000000000000000000000000000000000700070003000000000000000000000000000000000000000f00db00010001000f000700070000000000000000000000000000000000000000000000010007000300070001000000000000000000000000000000000000000000000000000000000000000001fd2ced s0 (execSacnData r p s0) := by
  unfold execSacnData
  repeat' first
      | with_reducible exact Keeps.refl
      | with_reducible assumption
      | with_reducible refine Keeps.ite ?_ ?_
      | (with_reducible apply Keeps.bump; · decide)
      | (with_reducible apply Keeps.step (State.advanceTo_keeps ..); · decide)
      | (with_reducible apply Keeps.step (State.consumeFlow_keeps ..); · decide)
      | (with_reducible apply Keeps.step (State.ingestDrop_keeps ..); · decide)
      | (with_reducible apply Keeps.step (State.flowDrop_keeps ..); · decide)
      | (with_reducible apply Keeps.step (State.writeContext_keeps ..); · decide)
      | (with_reducible apply Keeps.step (State.setUni_keeps ..); · decide)
      | (with_reducible apply Keeps.step (State.refollow_keeps ..); · decide)
      | (with_reducible apply Keeps.step (State.pruneSources_keeps ..); · decide)
      | (with_reducible apply Keeps.step (State.applyUni_keeps ..); · decide)
      | extract_lets
      | intro _
      | split
      | (dsimp +zetaDelta only; split)

theorem State.releaseSync_keeps (s : State) (a : Nat) : Keeps 0x5000000000000000000000000000000000000000000000000000f00ff007e00010000000000000000000000000000000000000000000000000000000700070003000000000000000000000000000000000000000f00db00010001000f0007000700000000000000000000000000000000000000000000000b0007000300070001000000000000000000000000000000000000000000000000000000000000000001fdffff s (State.releaseSync s a) := by
  unfold State.releaseSync
  repeat' first
      | with_reducible exact Keeps.refl
      | with_reducible assumption
      | with_reducible refine Keeps.ite ?_ ?_
      | (with_reducible apply Keeps.step (State.setUni_keeps ..); · decide)
      | (with_reducible apply Keeps.step (State.flipUni_keeps ..); · decide)
      | (with_reducible refine Keeps.foldl (fun _ _ _ => ?_) ?_)
      | extract_lets
      | intro _
      | split
      | (dsimp +zetaDelta only; split)

theorem execSacnSync_keeps (r at_ a rootVector framingVector : Nat) (s0 : State) : Keeps 0x5000000000000000000000000000000000000000000000000000f00ff004e00000000000000000000000000000000000000000000000000000000000700070003000000000000000000000000000000000000000f00db00010001000f000700070000000000000000000000000000000000000000000000010007000300070001000000000000000000000000000000000000000000000000000000000000000001fdacfd s0 (execSacnSync r at_ a rootVector framingVector s0) := by
  unfold execSacnSync
  repeat' first
      | with_reducible exact Keeps.refl
      | with_reducible assumption
      | with_reducible refine Keeps.ite ?_ ?_
      | (with_reducible apply Keeps.bump; · decide)
      | (with_reducible apply Keeps.step (State.advanceTo_keeps ..); · decide)
      | (with_reducible apply Keeps.step (State.raiseIf_keeps ..); · decide)
      | (with_reducible apply Keeps.step (State.consumeFlow_keeps ..); · decide)
      | (with_reducible apply Keeps.step (State.ingestDrop_keeps ..); · decide)
      | (with_reducible apply Keeps.step (State.flowDrop_keeps ..); · decide)
      | (with_reducible apply Keeps.step (State.writeContext_keeps ..); · decide)
      | (with_reducible apply Keeps.step (State.setSyncAddr_keeps ..); · decide)
      | (with_reducible apply Keeps.step (State.releaseSync_keeps ..); · decide)
      | extract_lets
      | intro _
      | split
      | (dsimp +zetaDelta only; split)

theorem execSyncTimeout_keeps (a : Nat) (s : State) : Keeps 0x5000000000000000000000000000000000000000000000000000f00ff007e00000000000000000000000000000000000000000000000000000000000700070003000000000000000000000000000000000000000f00db00010001000f0007000f00000000000000000000000000000000000000000000000b0007000300070001000000000000000000000000000000000000000000000000000000000000000001fdecfd s (execSyncTimeout a s) := by
  unfold execSyncTimeout
  repeat' first
      | with_reducible exact Keeps.refl
      | with_reducible assumption
      | with_reducible refine Keeps.ite ?_ ?_
      | (with_reducible apply Keeps.step (State.advanceTo_keeps ..); · decide)
      | (with_reducible apply Keeps.step (State.raise_keeps ..); · decide)
      | (with_reducible apply Keeps.step (State.setSyncAddr_keeps ..); · decide)
      | extract_lets
      | intro _
      | split
      | (dsimp +zetaDelta only; split)

theorem execSourceTimeout_keeps (u cid : Nat) (s : State) : Keeps 0x5000000000000000000000000000000000000000000000000000f00ff007e00000000000000000000000000000000000000000000000000000000000700070003000000000000000000000000000000000000000f00db00010001000f0007000700000000000000000000000000000000000000000000000b0007000300070001000000000000000000000000000000000000000000000000000000000000000001fd6ced s (execSourceTimeout u cid s) := by
  unfold execSourceTimeout
  repeat' first
      | with_reducible exact Keeps.refl
      | with_reducible assumption
      | with_reducible refine Keeps.ite ?_ ?_
      | (with_reducible apply Keeps.step (State.advanceTo_keeps ..); · decide)
      | (with_reducible apply Keeps.step (State.pruneSources_keeps ..); · decide)
      | extract_lets
      | intro _
      | split
      | (dsimp +zetaDelta only; split)

end Sys2Proof.Machine
end

