-- ==== Sys2Proof/Laws/KeepsCompose.lean ====
section
/-! SUPPORT. What each operation of Machine/Compose.lean leaves alone. -/

set_option linter.all false
namespace Sys2Proof.Machine

theorem State.setHead_keeps (s : State) (h : Nat) (x : Head) : Keeps 0x5000000000000000000000000000000000000000000000000000f00ff007e00010000000000000000000000000000000000000000000000000000000700070003000000000000000000000000000000000000000f00db00010001000f0007000f00000000000000000000000000000000000000000000000b0007000300070001000000000000000000000000000000000000000000000000000000000000000001fbffff s (State.setHead s h x) := by
  unfold State.setHead
  repeat' first
      | with_reducible exact Keeps.refl
      | with_reducible assumption
      | with_reducible refine Keeps.ite ?_ ?_
      | extract_lets
      | intro _
      | split
      | (with_reducible apply Keeps.set_disp; (case h0 => decide))
      | (dsimp +zetaDelta only; split)


end Sys2Proof.Machine
end

