-- ==== Sys2Proof/Laws/KeepsFade.lean ====
section
/-! SUPPORT. What each operation of Machine/Fade.lean leaves alone. -/

set_option linter.all false
namespace Sys2Proof.Machine

theorem State.setFade_keeps (s : State) (f : Nat) (x : Fade) : Keeps 0x5000000000000000000000000000000000000000000000000000f00ff007e00010000000000000000000000000000000000000000000000000000000700070003000000000000000000000000000000000000000f00db00010001000f0007000f00000000000000000000000000000000000000000000000b0007000300070001000000000000000000000000000000000000000000000000000000000000000001bfffff s (State.setFade s f x) := by
  unfold State.setFade
  repeat' first
      | with_reducible exact Keeps.refl
      | with_reducible assumption
      | with_reducible refine Keeps.ite ?_ ?_
      | extract_lets
      | intro _
      | split
      | (with_reducible apply Keeps.set_light; (case h0 => decide))
      | (dsimp +zetaDelta only; split)

theorem State.setFadeBase_keeps (s : State) (kind i v : Nat) : Keeps 0x5000000000000000000000000000000000000000000000000000f00ff007e00010000000000000000000000000000000000000000000000000000000700070003000000000000000000000000000000000000000f00c900010001000f0006000f00000000000000000000000000000000000000000000000b0007000300070001000000000000000000000000000000000000000000000000000000000000000001ffefff s (State.setFadeBase s kind i v) := by
  unfold State.setFadeBase
  repeat' first
      | with_reducible exact Keeps.refl
      | with_reducible assumption
      | with_reducible refine Keeps.ite ?_ ?_
      | (with_reducible apply Keeps.setFld; · decide)
      | (with_reducible apply Keeps.step (State.touchSettings_keeps ..); · decide)
      | extract_lets
      | intro _
      | split
      | (dsimp +zetaDelta only; split)

theorem State.setFadeStatus_keeps (s : State) (f st result : Nat) : Keeps 0x5000000000000000000000000000000000000000000000000000f00ff007e00010000000000000000000000000000000000000000000000000000000700070003000000000000000000000000000000000000000f00da00010001000f0007000f00000000000000000000000000000000000000000000000b0007000300070001000000000000000000000000000000000000000000000000000000000000000001ffffff s (State.setFadeStatus s f st result) := by
  unfold State.setFadeStatus
  repeat' first
      | with_reducible exact Keeps.refl
      | with_reducible assumption
      | with_reducible refine Keeps.ite ?_ ?_
      | (with_reducible apply Keeps.setRow; · decide)
      | extract_lets
      | intro _
      | split
      | (dsimp +zetaDelta only; split)

theorem State.fadeDone_keeps (s : State) (f result out status : Nat) : Keeps 0x5000000000000000000000000000000000000000000000000000e00ff001c00000000000000000000000000000000000000000000000000000000000700070003000000000000000000000000000000000000000f00da00010001000f0007000f0000000000000000000000000000000000000000000000010007000300070001000000000000000000000000000000000000000000000000000000000000000001bf8dff s (State.fadeDone s f result out status) := by
  unfold State.fadeDone
  repeat' first
      | with_reducible exact Keeps.refl
      | with_reducible assumption
      | with_reducible refine Keeps.ite ?_ ?_
      | (with_reducible apply Keeps.setFld; · decide)
      | (with_reducible apply Keeps.step (State.raise_keeps ..); · decide)
      | (with_reducible apply Keeps.step (State.completeOpt_keeps ..); · decide)
      | (with_reducible apply Keeps.step (State.setFade_keeps ..); · decide)
      | (with_reducible apply Keeps.step (State.setFadeStatus_keeps ..); · decide)
      | extract_lets
      | intro _
      | split
      | (dsimp +zetaDelta only; split)

theorem State.fadeEnds_keeps (s : State) (f : Nat) : Keeps 0x5000000000000000000000000000000000000000000000000000e00df001c00000000000000000000000000000000000000000000000000000000000700070003000000000000000000000000000000000000000f00c800010001000f0006000f0000000000000000000000000000000000000000000000010007000300070001000000000000000000000000000000000000000000000000000000000000000001bf8dff s (State.fadeEnds s f) := by
  unfold State.fadeEnds
  repeat' first
      | with_reducible exact Keeps.refl
      | with_reducible assumption
      | with_reducible refine Keeps.ite ?_ ?_
      | (with_reducible apply Keeps.bump; · decide)
      | (with_reducible apply Keeps.step (State.setFadeBase_keeps ..); · decide)
      | (with_reducible apply Keeps.step (State.fadeDone_keeps ..); · decide)
      | extract_lets
      | intro _
      | split
      | (dsimp +zetaDelta only; split)

theorem State.fadeSuperseded_keeps (s : State) (f out : Nat) : Keeps 0x5000000000000000000000000000000000000000000000000000e00df001c00000000000000000000000000000000000000000000000000000000000700070003000000000000000000000000000000000000000f00da00010001000f0007000f0000000000000000000000000000000000000000000000010007000300070001000000000000000000000000000000000000000000000000000000000000000001bf8dff s (State.fadeSuperseded s f out) := by
  unfold State.fadeSuperseded
  repeat' first
      | with_reducible exact Keeps.refl
      | with_reducible assumption
      | with_reducible refine Keeps.ite ?_ ?_
      | (with_reducible apply Keeps.bump; · decide)
      | (with_reducible apply Keeps.step (State.raise_keeps ..); · decide)
      | (with_reducible apply Keeps.step (State.fadeDone_keeps ..); · decide)
      | extract_lets
      | intro _
      | split
      | (dsimp +zetaDelta only; split)

theorem State.fadeUnbound_keeps (s : State) (f : Nat) : Keeps 0x5000000000000000000000000000000000000000000000000000e00df001c00000000000000000000000000000000000000000000000000000000000700070003000000000000000000000000000000000000000f00da00010001000f0007000f0000000000000000000000000000000000000000000000010007000300070001000000000000000000000000000000000000000000000000000000000000000001bf8dff s (State.fadeUnbound s f) := by
  unfold State.fadeUnbound
  repeat' first
      | with_reducible exact Keeps.refl
      | with_reducible assumption
      | with_reducible refine Keeps.ite ?_ ?_
      | (with_reducible apply Keeps.step (State.setFadeStatus_keeps ..); · decide)
      | (with_reducible apply Keeps.step (State.fadeSuperseded_keeps ..); · decide)
      | extract_lets
      | intro _
      | split
      | (dsimp +zetaDelta only; split)

theorem State.fadeSettle_keeps (s : State) (f tick : Nat) : Keeps 0x5000000000000000000000000000000000000000000000000000e00df001c00000000000000000000000000000000000000000000000000000000000700070003000000000000000000000000000000000000000f00c800010001000f0006000f0000000000000000000000000000000000000000000000010007000300070001000000000000000000000000000000000000000000000000000000000000000001bf8dff s (State.fadeSettle s f tick) := by
  unfold State.fadeSettle
  repeat' first
      | with_reducible exact Keeps.refl
      | with_reducible assumption
      | with_reducible refine Keeps.ite ?_ ?_
      | (with_reducible apply Keeps.step (State.fadeEnds_keeps ..); · decide)
      | extract_lets
      | intro _
      | split
      | (dsimp +zetaDelta only; split)

theorem State.fadeBegins_keeps (s0 : State) (f : Nat) : Keeps 0x5000000000000000000000000000000000000000000000000000e00df001c00000000000000000000000000000000000000000000000000000000000700070003000000000000000000000000000000000000000f00c800010001000f0006000f0000000000000000000000000000000000000000000000010007000300070001000000000000000000000000000000000000000000000000000000000000000001bf8dff s0 (State.fadeBegins s0 f) := by
  unfold State.fadeBegins
  repeat' first
      | with_reducible exact Keeps.refl
      | with_reducible assumption
      | with_reducible refine Keeps.ite ?_ ?_
      | (with_reducible apply Keeps.setFld; · decide)
      | (with_reducible apply Keeps.step (State.setFade_keeps ..); · decide)
      | (with_reducible apply Keeps.step (State.setFadeStatus_keeps ..); · decide)
      | (with_reducible apply Keeps.step (State.fadeEnds_keeps ..); · decide)
      | (with_reducible apply Keeps.step (State.fadeSuperseded_keeps ..); · decide)
      | (with_reducible apply Keeps.step (State.fadeUnbound_keeps ..); · decide)
      | (with_reducible apply Keeps.step (State.fadeSettle_keeps ..); · decide)
      | extract_lets
      | intro _
      | split
      | (dsimp +zetaDelta only; split)

theorem State.fadeArmed_keeps (s : State) (f : Nat) (task : Option Nat) : Keeps 0x5000000000000000000000000000000000000000000000000000e00df001c00000000000000000000000000000000000000000000000000000000000700070003000000000000000000000000000000000000000f00c800010001000f0006000f0000000000000000000000000000000000000000000000010007000300070001000000000000000000000000000000000000000000000000000000000000000001bf8dff s (State.fadeArmed s f task) := by
  unfold State.fadeArmed
  repeat' first
      | with_reducible exact Keeps.refl
      | with_reducible assumption
      | with_reducible refine Keeps.ite ?_ ?_
      | (with_reducible apply Keeps.setFld; · decide)
      | (with_reducible apply Keeps.step (State.setFade_keeps ..); · decide)
      | (with_reducible apply Keeps.step (State.setFadeStatus_keeps ..); · decide)
      | (with_reducible apply Keeps.step (State.fadeEnds_keeps ..); · decide)
      | (with_reducible apply Keeps.step (State.fadeBegins_keeps ..); · decide)
      | extract_lets
      | intro _
      | split
      | (dsimp +zetaDelta only; split)

theorem State.fadeDrained_keeps (s : State) (f : Nat) : Keeps 0x5000000000000000000000000000000000000000000000000000e00df001c00000000000000000000000000000000000000000000000000000000000700070003000000000000000000000000000000000000000f00c800010001000f0006000f0000000000000000000000000000000000000000000000010007000300070001000000000000000000000000000000000000000000000000000000000000000001bf8dff s (State.fadeDrained s f) := by
  unfold State.fadeDrained
  repeat' first
      | with_reducible exact Keeps.refl
      | with_reducible assumption
      | with_reducible refine Keeps.ite ?_ ?_
      | (with_reducible apply Keeps.step (State.setFade_keeps ..); · decide)
      | (with_reducible apply Keeps.step (State.setFadeStatus_keeps ..); · decide)
      | (with_reducible apply Keeps.step (State.fadeArmed_keeps ..); · decide)
      | extract_lets
      | intro _
      | split
      | (dsimp +zetaDelta only; split)

theorem State.sampled_keeps (s : State) (kind i : Nat) : Keeps 0x5000000000000000000000000000000000000000000000000000e00df001c00000000000000000000000000000000000000000000000000000000000700070003000000000000000000000000000000000000000f00c800010001000f0006000f0000000000000000000000000000000000000000000000010007000300070001000000000000000000000000000000000000000000000000000000000000000001bf8dff s (State.sampled s kind i) := by
  unfold State.sampled
  repeat' first
      | with_reducible exact Keeps.refl
      | with_reducible assumption
      | with_reducible refine Keeps.ite ?_ ?_
      | (with_reducible apply Keeps.step (State.fadeDrained_keeps ..); · decide)
      | (with_reducible refine Keeps.foldl (fun _ _ _ => ?_) ?_)
      | extract_lets
      | intro _
      | split
      | (dsimp +zetaDelta only; split)

theorem State.drainCheck_keeps (s : State) : Keeps 0x5000000000000000000000000000000000000000000000000000e00df001c00000000000000000000000000000000000000000000000000000000000700070003000000000000000000000000000000000000000f00c800010001000f0006000f0000000000000000000000000000000000000000000000010007000300070001000000000000000000000000000000000000000000000000000000000000000001bf8dff s (State.drainCheck s) := by
  unfold State.drainCheck
  repeat' first
      | with_reducible exact Keeps.refl
      | with_reducible assumption
      | with_reducible refine Keeps.ite ?_ ?_
      | (with_reducible apply Keeps.step (State.fadeDrained_keeps ..); · decide)
      | (with_reducible refine Keeps.foldl (fun _ _ _ => ?_) ?_)
      | extract_lets
      | intro _
      | split
      | (dsimp +zetaDelta only; split)

theorem State.fadeRetarget_keeps (s : State) (f : Nat) (v : Row) : Keeps 0x5000000000000000000000000000000000000000000000000000f00ff007e00010000000000000000000000000000000000000000000000000000000700070003000000000000000000000000000000000000000f00da00010001000f0007000f00000000000000000000000000000000000000000000000b0007000300070001000000000000000000000000000000000000000000000000000000000000000001bfffff s (State.fadeRetarget s f v) := by
  unfold State.fadeRetarget
  repeat' first
      | with_reducible exact Keeps.refl
      | with_reducible assumption
      | with_reducible refine Keeps.ite ?_ ?_
      | (with_reducible apply Keeps.setFld; · decide)
      | (with_reducible apply Keeps.step (State.setFade_keeps ..); · decide)
      | extract_lets
      | intro _
      | split
      | (dsimp +zetaDelta only; split)

theorem writeFade_keeps (f : Nat) (v : Row) (s0 : State) : Keeps 0x5000000000000000000000000000000000000000000000000000e00df001c00000000000000000000000000000000000000000000000000000000000700070003000000000000000000000000000000000000000f00c800010001000f0006000f0000000000000000000000000000000000000000000000010007000300070001000000000000000000000000000000000000000000000000000000000000000001bf8dff s0 (writeFade f v s0).st := by
  unfold writeFade
  repeat' first
      | with_reducible exact Keeps.refl
      | with_reducible assumption
      | with_reducible refine Keeps.ite ?_ ?_
      | (with_reducible apply Keeps.setRow; · decide)
      | (with_reducible apply Keeps.setFld; · decide)
      | (with_reducible apply Keeps.step (refuse_keeps ..); · decide)
      | (with_reducible apply Keeps.step (done_keeps ..); · decide)
      | (with_reducible apply Keeps.step (State.setFade_keeps ..); · decide)
      | (with_reducible apply Keeps.step (State.fadeEnds_keeps ..); · decide)
      | (with_reducible apply Keeps.step (State.fadeSettle_keeps ..); · decide)
      | (with_reducible apply Keeps.step (State.fadeBegins_keeps ..); · decide)
      | (with_reducible apply Keeps.step (State.fadeRetarget_keeps ..); · decide)
      | extract_lets
      | intro _
      | split
      | (dsimp +zetaDelta only; split)

theorem armFade_keeps (f : Nat) (task : Option Nat) (s0 : State) : Keeps 0x5000000000000000000000000000000000000000000000000000e00df001c00000000000000000000000000000000000000000000000000000000000700070003000000000000000000000000000000000000000f00c800010001000f0006000f0000000000000000000000000000000000000000000000010007000300070001000000000000000000000000000000000000000000000000000000000000000001bf8dff s0 (armFade f task s0).st := by
  unfold armFade
  repeat' first
      | with_reducible exact Keeps.refl
      | with_reducible assumption
      | with_reducible refine Keeps.ite ?_ ?_
      | (with_reducible apply Keeps.step (State.completeOpt_keeps ..); · decide)
      | (with_reducible apply Keeps.step (refuse_keeps ..); · decide)
      | (with_reducible apply Keeps.step (done_keeps ..); · decide)
      | (with_reducible apply Keeps.step (State.setFade_keeps ..); · decide)
      | (with_reducible apply Keeps.step (State.fadeSettle_keeps ..); · decide)
      | (with_reducible apply Keeps.step (State.fadeArmed_keeps ..); · decide)
      | extract_lets
      | intro _
      | split
      | (dsimp +zetaDelta only; split)

theorem stopFade_keeps (f : Nat) (s0 : State) : Keeps 0x5000000000000000000000000000000000000000000000000000e00df001c00000000000000000000000000000000000000000000000000000000000700070003000000000000000000000000000000000000000f00c800010001000f0006000f0000000000000000000000000000000000000000000000010007000300070001000000000000000000000000000000000000000000000000000000000000000001bf8dff s0 (stopFade f s0).st := by
  unfold stopFade
  repeat' first
      | with_reducible exact Keeps.refl
      | with_reducible assumption
      | with_reducible refine Keeps.ite ?_ ?_
      | (with_reducible apply Keeps.setFld; · decide)
      | (with_reducible apply Keeps.step (State.completeOpt_keeps ..); · decide)
      | (with_reducible apply Keeps.step (done_keeps ..); · decide)
      | (with_reducible apply Keeps.step (State.setFade_keeps ..); · decide)
      | (with_reducible apply Keeps.step (State.setFadeBase_keeps ..); · decide)
      | (with_reducible apply Keeps.step (State.setFadeStatus_keeps ..); · decide)
      | (with_reducible apply Keeps.step (State.fadeSettle_keeps ..); · decide)
      | (with_reducible apply Keeps.step (State.fadeDrained_keeps ..); · decide)
      | extract_lets
      | intro _
      | split
      | (dsimp +zetaDelta only; split)

theorem execFadeStart_keeps (f : Nat) (s0 : State) : Keeps 0x5000000000000000000000000000000000000000000000000000e00df001c00000000000000000000000000000000000000000000000000000000000700070003000000000000000000000000000000000000000f00c800010001000f0006000f0000000000000000000000000000000000000000000000010007000300070001000000000000000000000000000000000000000000000000000000000000000001bf8cfd s0 (execFadeStart f s0) := by
  unfold execFadeStart
  repeat' first
      | with_reducible exact Keeps.refl
      | with_reducible assumption
      | with_reducible refine Keeps.ite ?_ ?_
      | (with_reducible apply Keeps.step (State.advanceTo_keeps ..); · decide)
      | (with_reducible apply Keeps.step (State.fadeBegins_keeps ..); · decide)
      | extract_lets
      | intro _
      | split
      | (dsimp +zetaDelta only; split)

theorem execFadeEnd_keeps (f : Nat) (s0 : State) : Keeps 0x5000000000000000000000000000000000000000000000000000e00df001c00000000000000000000000000000000000000000000000000000000000700070003000000000000000000000000000000000000000f00c800010001000f0006000f0000000000000000000000000000000000000000000000010007000300070001000000000000000000000000000000000000000000000000000000000000000001bf8cfd s0 (execFadeEnd f s0) := by
  unfold execFadeEnd
  repeat' first
      | with_reducible exact Keeps.refl
      | with_reducible assumption
      | with_reducible refine Keeps.ite ?_ ?_
      | (with_reducible apply Keeps.step (State.advanceTo_keeps ..); · decide)
      | (with_reducible apply Keeps.step (State.fadeEnds_keeps ..); · decide)
      | extract_lets
      | intro _
      | split
      | (dsimp +zetaDelta only; split)

end Sys2Proof.Machine
end

