-- ==== Sys2Proof/Laws/KeepsQuireBase.lean ====
section
/-! SUPPORT. What each operation of Machine/QuireBase.lean leaves alone. -/

set_option linter.all false
namespace Sys2Proof.Machine

theorem State.setQuire_keeps (s : State) (q : Nat) (x : Quire) : Keeps 0x5000000000000000000000000000000000000000000000000000f00ff007e00010000000000000000000000000000000000000000000000000000000700070003000000000000000000000000000000000000000f00db00010001000f0007000f00000000000000000000000000000000000000000000000b0007000300070001000000000000000000000000000000000000000000000000000000000000000001efffff s (State.setQuire s q x) := by
  unfold State.setQuire
  repeat' first
      | with_reducible exact Keeps.refl
      | with_reducible assumption
      | with_reducible refine Keeps.ite ?_ ?_
      | extract_lets
      | intro _
      | split
      | (with_reducible apply Keeps.set_quires; (case h0 => decide))
      | (dsimp +zetaDelta only; split)

theorem State.setStrand_keeps (s : State) (t : Nat) (x : Strand) : Keeps 0x5000000000000000000000000000000000000000000000000000f00ff007e00010000000000000000000000000000000000000000000000000000000700070003000000000000000000000000000000000000000f00db00010001000f0007000f00000000000000000000000000000000000000000000000b0007000300070001000000000000000000000000000000000000000000000000000000000000000001dfffff s (State.setStrand s t x) := by
  unfold State.setStrand
  repeat' first
      | with_reducible exact Keeps.refl
      | with_reducible assumption
      | with_reducible refine Keeps.ite ?_ ?_
      | extract_lets
      | intro _
      | split
      | (with_reducible apply Keeps.set_strands; (case h0 => decide))
      | (dsimp +zetaDelta only; split)

theorem State.driveQuire_keeps (s : State) (q : Nat) : Keeps 0x5000000000000000000000000000000000000000000000000000f00ff007e00010000000000000000000000000000000000000000000000000000000700070003000000000000000000000000000000000000000f00db00010001000f0007000f00000000000000000000000000000000000000000000000b0007000300070001000000000000000000000000000000000000000000000000000000000000000001ffffdf s (State.driveQuire s q) := by
  unfold State.driveQuire
  repeat' first
      | with_reducible exact Keeps.refl
      | with_reducible assumption
      | with_reducible refine Keeps.ite ?_ ?_
      | extract_lets
      | intro _
      | split
      | (with_reducible apply Keeps.set_power; (case h0 => decide))
      | (dsimp +zetaDelta only; split)

theorem State.undriveQuire_keeps (s : State) (q : Nat) : Keeps 0x5000000000000000000000000000000000000000000000000000f00ff007e00010000000000000000000000000000000000000000000000000000000700070003000000000000000000000000000000000000000f00db00010001000f0007000f00000000000000000000000000000000000000000000000b0007000300070001000000000000000000000000000000000000000000000000000000000000000001ffffdf s (State.undriveQuire s q) := by
  unfold State.undriveQuire
  repeat' first
      | with_reducible exact Keeps.refl
      | with_reducible assumption
      | with_reducible refine Keeps.ite ?_ ?_
      | (with_reducible refine Keeps.foldl (fun _ _ _ => ?_) ?_)
      | extract_lets
      | intro _
      | split
      | (with_reducible apply Keeps.set_power; (case h0 => decide))
      | (dsimp +zetaDelta only; split)

theorem State.quireSum_keeps (s : State) (q b : Nat) : Keeps 0x5000000000000000000000000000000000000000000000000000f00ff007e00000000000000000000000000000000000000000000000000000000000700070003000000000000000000000000000000000000000f00db00010001000f0007000f00000000000000000000000000000000000000000000000b0007000300070001000000000000000000000000000000000000000000000000000000000000000001efedff s (State.quireSum s q b) := by
  unfold State.quireSum
  repeat' first
      | with_reducible exact Keeps.refl
      | with_reducible assumption
      | with_reducible refine Keeps.ite ?_ ?_
      | (with_reducible apply Keeps.step (State.raise_keeps ..); · decide)
      | (with_reducible apply Keeps.step (State.setQuire_keeps ..); · decide)
      | extract_lets
      | intro _
      | split
      | (dsimp +zetaDelta only; split)

theorem State.setQuireState_keeps (s : State) (q st : Nat) : Keeps 0x5000000000000000000000000000000000000000000000000000f00ff007e00000000000000000000000000000000000000000000000000000000000700070003000000000000000000000000000000000000000f00db00000001000f0007000f00000000000000000000000000000000000000000000000b0007000300070001000000000000000000000000000000000000000000000000000000000000000001efedff s (State.setQuireState s q st) := by
  unfold State.setQuireState
  repeat' first
      | with_reducible exact Keeps.refl
      | with_reducible assumption
      | with_reducible refine Keeps.ite ?_ ?_
      | (with_reducible apply Keeps.setFld; · decide)
      | (with_reducible apply Keeps.step (State.quireSum_keeps ..); · decide)
      | extract_lets
      | intro _
      | split
      | (dsimp +zetaDelta only; split)

end Sys2Proof.Machine
end

