-- ==== Sys2Proof/Laws/KeepsCameg.lean ====
section
/-! SUPPORT. What each operation of Machine/Cameg.lean leaves alone. -/

set_option linter.all false
namespace Sys2Proof.Machine

theorem State.putFrame_keeps (s : State) (st : Nat) (f : CamegFrame) : Keeps 0x5000000000000000000000000000000000000000000000000000f00ff007e00010000000000000000000000000000000000000000000000000000000700070003000000000000000000000000000000000000000f00db00010001000f0007000f00000000000000000000000000000000000000000000000b0007000300070001000000000000000000000000000000000000000000000000000000000000000001dfffff s (State.putFrame s st f) := by
  unfold State.putFrame
  repeat' first
      | with_reducible exact Keeps.refl
      | with_reducible assumption
      | with_reducible refine Keeps.ite ?_ ?_
      | (with_reducible apply Keeps.step (State.setStrand_keeps ..); · decide)
      | extract_lets
      | intro _
      | split
      | (dsimp +zetaDelta only; split)

end Sys2Proof.Machine
end

