-- ==== Sys2Proof/Laws/KeepsLight.lean ====
section
/-! SUPPORT. What each operation of Machine/Light.lean leaves alone. -/

set_option linter.all false
namespace Sys2Proof.Machine

theorem State.setGaugeCh_keeps (s : State) (c : Nat) (x : GaugeCh) : Keeps 0x5000000000000000000000000000000000000000000000000000f00ff007e00010000000000000000000000000000000000000000000000000000000700070003000000000000000000000000000000000000000f00db00010001000f0007000f00000000000000000000000000000000000000000000000b0007000300070001000000000000000000000000000000000000000000000000000000000000000001bfffff s (State.setGaugeCh s c x) := by
  unfold State.setGaugeCh
  repeat' first
      | with_reducible exact Keeps.refl
      | with_reducible assumption
      | with_reducible refine Keeps.ite ?_ ?_
      | extract_lets
      | intro _
      | split
      | (with_reducible apply Keeps.set_light; (case h0 => decide))
      | (dsimp +zetaDelta only; split)

theorem State.broadcast_keeps (s : State) (st op arg : Nat) : Keeps 0x5000000000000000000000000000000000000000000000000000f00ff007e00010000000000000000000000000000000000000000000000000000000700070003000000000000000000000000000000000000000f00db00010001000f0007000f00000000000000000000000000000000000000000000000b0007000300070001000000000000000000000000000000000000000000000000000000000000000001efffff s (State.broadcast s st op arg) := by
  unfold State.broadcast
  repeat' first
      | with_reducible exact Keeps.refl
      | with_reducible assumption
      | with_reducible refine Keeps.ite ?_ ?_
      | (with_reducible apply Keeps.step (State.setQuire_keeps ..); · decide)
      | extract_lets
      | intro _
      | split
      | (dsimp +zetaDelta only; split)

theorem State.derateStep_keeps (s : State) (t st : Nat) : Keeps 0x5000000000000000000000000000000000000000000000000000f00df007e00000000000000000000000000000000000000000000000000000000000700070003000000000000000000000000000000000000000f00d300010001000f0007000f00000000000000000000000000000000000000000000000b0007000300070001000000000000000000000000000000000000000000000000000000000000000001cfedff s (State.derateStep s t st) := by
  unfold State.derateStep
  repeat' first
      | with_reducible exact Keeps.refl
      | with_reducible assumption
      | with_reducible refine Keeps.ite ?_ ?_
      | (with_reducible apply Keeps.setRow; · decide)
      | (with_reducible apply Keeps.bump; · decide)
      | (with_reducible apply Keeps.step (State.raiseIf_keeps ..); · decide)
      | (with_reducible apply Keeps.step (State.setStrand_keeps ..); · decide)
      | (with_reducible apply Keeps.step (State.broadcast_keeps ..); · decide)
      | extract_lets
      | intro _
      | split
      | (dsimp +zetaDelta only; split)

theorem State.setRegion_keeps (s : State) (r : Nat) (x : Region) : Keeps 0x5000000000000000000000000000000000000000000000000000f00ff007e00010000000000000000000000000000000000000000000000000000000700070003000000000000000000000000000000000000000f00db00010001000f0007000f00000000000000000000000000000000000000000000000b0007000300070001000000000000000000000000000000000000000000000000000000000000000001bfffff s (State.setRegion s r x) := by
  unfold State.setRegion
  repeat' first
      | with_reducible exact Keeps.refl
      | with_reducible assumption
      | with_reducible refine Keeps.ite ?_ ?_
      | extract_lets
      | intro _
      | split
      | (with_reducible apply Keeps.set_light; (case h0 => decide))
      | (dsimp +zetaDelta only; split)

theorem State.setRegionState_keeps (s : State) (r st reason : Nat) : Keeps 0x5000000000000000000000000000000000000000000000000000f00ff007e00000000000000000000000000000000000000000000000000000000000700070003000000000000000000000000000000000000000f00cb00010001000f0007000f00000000000000000000000000000000000000000000000b0007000300070001000000000000000000000000000000000000000000000000000000000000000001ffedff s (State.setRegionState s r st reason) := by
  unfold State.setRegionState
  repeat' first
      | with_reducible exact Keeps.refl
      | with_reducible assumption
      | with_reducible refine Keeps.ite ?_ ?_
      | (with_reducible apply Keeps.setRow; · decide)
      | (with_reducible apply Keeps.step (State.raise_keeps ..); · decide)
      | extract_lets
      | intro _
      | split
      | (dsimp +zetaDelta only; split)

theorem State.regionBegins_keeps (s : State) (r : Nat) : Keeps 0x5000000000000000000000000000000000000000000000000000f00ff007e00000000000000000000000000000000000000000000000000000000000700070003000000000000000000000000000000000000000f00cb00010001000f0007000f00000000000000000000000000000000000000000000000b0007000300070001000000000000000000000000000000000000000000000000000000000000000001ffedff s (State.regionBegins s r) := by
  unfold State.regionBegins
  repeat' first
      | with_reducible exact Keeps.refl
      | with_reducible assumption
      | with_reducible refine Keeps.ite ?_ ?_
      | (with_reducible apply Keeps.step (State.setRegionState_keeps ..); · decide)
      | extract_lets
      | intro _
      | split
      | (dsimp +zetaDelta only; split)

theorem State.regionFault_keeps (s : State) (r reason : Nat) : Keeps 0x5000000000000000000000000000000000000000000000000000f00ff007e00010000000000000000000000000000000000000000000000000000000700070003000000000000000000000000000000000000000f00db00010001000f0007000f00000000000000000000000000000000000000000000000b0007000300070001000000000000000000000000000000000000000000000000000000000000000001bfffff s (State.regionFault s r reason) := by
  unfold State.regionFault
  repeat' first
      | with_reducible exact Keeps.refl
      | with_reducible assumption
      | with_reducible refine Keeps.ite ?_ ?_
      | (with_reducible apply Keeps.step (State.setRegion_keeps ..); · decide)
      | extract_lets
      | intro _
      | split
      | (dsimp +zetaDelta only; split)

theorem State.regionAdd_keeps (s : State) (r ph : Nat) (y : Rat) : Keeps 0x5000000000000000000000000000000000000000000000000000f00ff007e00010000000000000000000000000000000000000000000000000000000700070003000000000000000000000000000000000000000f00db00010001000f0007000f00000000000000000000000000000000000000000000000b0007000300070001000000000000000000000000000000000000000000000000000000000000000001bfffff s (State.regionAdd s r ph y) := by
  unfold State.regionAdd
  repeat' first
      | with_reducible exact Keeps.refl
      | with_reducible assumption
      | with_reducible refine Keeps.ite ?_ ?_
      | (with_reducible apply Keeps.step (State.setRegion_keeps ..); · decide)
      | extract_lets
      | intro _
      | split
      | (dsimp +zetaDelta only; split)

theorem State.tracks_keeps (s : State) (r : Nat) : Keeps 0x5000000000000000000000000000000000000000000000000000f00ff007e00000000000000000000000000000000000000000000000000000000000700070003000000000000000000000000000000000000000f00cb00010001000f0007000f00000000000000000000000000000000000000000000000b0007000300070001000000000000000000000000000000000000000000000000000000000000000001ffedff s (State.tracks s r) := by
  unfold State.tracks
  repeat' first
      | with_reducible exact Keeps.refl
      | with_reducible assumption
      | with_reducible refine Keeps.ite ?_ ?_
      | (with_reducible apply Keeps.step (State.setRegionState_keeps ..); · decide)
      | extract_lets
      | intro _
      | split
      | (dsimp +zetaDelta only; split)

theorem State.retrack_keeps (s : State) (r : Nat) : Keeps 0x5000000000000000000000000000000000000000000000000000f00ff007e00000000000000000000000000000000000000000000000000000000000700070003000000000000000000000000000000000000000f00cb00010001000f0007000f00000000000000000000000000000000000000000000000b0007000300070001000000000000000000000000000000000000000000000000000000000000000001ffedff s (State.retrack s r) := by
  unfold State.retrack
  repeat' first
      | with_reducible exact Keeps.refl
      | with_reducible assumption
      | with_reducible refine Keeps.ite ?_ ?_
      | (with_reducible apply Keeps.step (State.tracks_keeps ..); · decide)
      | extract_lets
      | intro _
      | split
      | (dsimp +zetaDelta only; split)

theorem State.calTouched_keeps (s : State) : Keeps 0x5000000000000000000000000000000000000000000000000000f00ff007e00010000000000000000000000000000000000000000000000000000000700070003000000000000000000000000000000000000000f00db00010001000f0007000f00000000000000000000000000000000000000000000000b00070003000700010000000000000000000000000000000000000000000000000000000000000000017fefff s (State.calTouched s) := by
  unfold State.calTouched
  repeat' first
      | with_reducible exact Keeps.refl
      | with_reducible assumption
      | with_reducible refine Keeps.ite ?_ ?_
      | (with_reducible apply Keeps.step (State.touchSettings_keeps ..); · decide)
      | extract_lets
      | intro _
      | split
      | (with_reducible apply Keeps.set_cal; (case h0 => decide))
      | (dsimp +zetaDelta only; split)

theorem State.traceTargets_keeps (s : State) (r : Nat) : Keeps 0x5000000000000000000000000000000000000000000000000000f00ff007e00010000000000000000000000000000000000000000000000000000000700070003000000000000000000000000000000000000000b00db00010001000f0007000f00000000000000000000000000000000000000000000000b00070003000700010000000000000000000000000000000000000000000000000000000000000000017fefff s (State.traceTargets s r) := by
  unfold State.traceTargets
  repeat' first
      | with_reducible exact Keeps.refl
      | with_reducible assumption
      | with_reducible refine Keeps.ite ?_ ?_
      | (with_reducible apply Keeps.setRow; · decide)
      | (with_reducible apply Keeps.step (State.calTouched_keeps ..); · decide)
      | extract_lets
      | intro _
      | split
      | (dsimp +zetaDelta only; split)

theorem State.traceTaken_keeps (s : State) (r : Nat) : Keeps 0x5000000000000000000000000000000000000000000000000000f00ff007e00010000000000000000000000000000000000000000000000000000000700070003000000000000000000000000000000000000000b00db00010001000f0007000f00000000000000000000000000000000000000000000000b00070003000700010000000000000000000000000000000000000000000000000000000000000000017fefff s (State.traceTaken s r) := by
  unfold State.traceTaken
  repeat' first
      | with_reducible exact Keeps.refl
      | with_reducible assumption
      | with_reducible refine Keeps.ite ?_ ?_
      | (with_reducible apply Keeps.setRow; · decide)
      | (with_reducible apply Keeps.step (State.calTouched_keeps ..); · decide)
      | (with_reducible apply Keeps.step (State.traceTargets_keeps ..); · decide)
      | extract_lets
      | intro _
      | split
      | (dsimp +zetaDelta only; split)

theorem State.regionUpdate_keeps (s : State) (r : Nat) (resp : List Rat) : Keeps 0x5000000000000000000000000000000000000000000000000000f00df007e00000000000000000000000000000000000000000000000000000000000700070003000000000000000000000000000000000000000b00cb00010001000f0007000f00000000000000000000000000000000000000000000000b00070003000700010000000000000000000000000000000000000000000000000000000000000000017fedff s (State.regionUpdate s r resp) := by
  unfold State.regionUpdate
  repeat' first
      | with_reducible exact Keeps.refl
      | with_reducible assumption
      | with_reducible refine Keeps.ite ?_ ?_
      | (with_reducible apply Keeps.setRow; · decide)
      | (with_reducible apply Keeps.setFld; · decide)
      | (with_reducible apply Keeps.bump; · decide)
      | (with_reducible apply Keeps.step (State.raiseIf_keeps ..); · decide)
      | (with_reducible apply Keeps.step (State.touchSettings_keeps ..); · decide)
      | (with_reducible apply Keeps.step (State.tracks_keeps ..); · decide)
      | (with_reducible apply Keeps.step (State.calTouched_keeps ..); · decide)
      | (with_reducible apply Keeps.step (State.traceTaken_keeps ..); · decide)
      | extract_lets
      | intro _
      | split
      | (dsimp +zetaDelta only; split)

theorem State.regionJudge_keeps (s : State) (r : Nat) : Keeps 0x5000000000000000000000000000000000000000000000000000f00df007e00000000000000000000000000000000000000000000000000000000000700070003000000000000000000000000000000000000000b00cb00010001000f0007000f00000000000000000000000000000000000000000000000b00070003000700010000000000000000000000000000000000000000000000000000000000000000013fedff s (State.regionJudge s r) := by
  unfold State.regionJudge
  repeat' first
      | with_reducible exact Keeps.refl
      | with_reducible assumption
      | with_reducible refine Keeps.ite ?_ ?_
      | (with_reducible apply Keeps.bump; · decide)
      | (with_reducible apply Keeps.step (State.setRegion_keeps ..); · decide)
      | (with_reducible apply Keeps.step (State.setRegionState_keeps ..); · decide)
      | (with_reducible apply Keeps.step (State.regionUpdate_keeps ..); · decide)
      | extract_lets
      | intro _
      | split
      | (dsimp +zetaDelta only; split)

theorem State.regionTest_keeps (s : State) (r : Nat) : Keeps 0x5000000000000000000000000000000000000000000000000000f00ff007e00010000000000000000000000000000000000000000000000000000000700070003000000000000000000000000000000000000000f00db00010001000f0007000f00000000000000000000000000000000000000000000000b0007000300070001000000000000000000000000000000000000000000000000000000000000000001bfffff s (State.regionTest s r) := by
  unfold State.regionTest
  repeat' first
      | with_reducible exact Keeps.refl
      | with_reducible assumption
      | with_reducible refine Keeps.ite ?_ ?_
      | (with_reducible apply Keeps.step (State.regionFault_keeps ..); · decide)
      | extract_lets
      | intro _
      | split
      | (dsimp +zetaDelta only; split)

theorem State.regionCycle_keeps (s : State) (r k : Nat) : Keeps 0x5000000000000000000000000000000000000000000000000000f00ff007e00000000000000000000000000000000000000000000000000000000000700070003000000000000000000000000000000000000000f00cb00010001000f0007000f00000000000000000000000000000000000000000000000b0007000300070001000000000000000000000000000000000000000000000000000000000000000001bfedff s (State.regionCycle s r k) := by
  unfold State.regionCycle
  repeat' first
      | with_reducible exact Keeps.refl
      | with_reducible assumption
      | with_reducible refine Keeps.ite ?_ ?_
      | (with_reducible apply Keeps.step (State.setRegion_keeps ..); · decide)
      | (with_reducible apply Keeps.step (State.regionBegins_keeps ..); · decide)
      | extract_lets
      | intro _
      | split
      | (dsimp +zetaDelta only; split)

theorem State.regionLit_keeps (s : State) (seen : Option (List Nat)) (r : Nat) : Keeps 0x5000000000000000000000000000000000000000000000000000f00ff007e00010000000000000000000000000000000000000000000000000000000700070003000000000000000000000000000000000000000f00db00010001000f0007000f00000000000000000000000000000000000000000000000b0007000300070001000000000000000000000000000000000000000000000000000000000000000001bfffff s (State.regionLit s seen r) := by
  unfold State.regionLit
  repeat' first
      | with_reducible exact Keeps.refl
      | with_reducible assumption
      | with_reducible refine Keeps.ite ?_ ?_
      | (with_reducible apply Keeps.step (State.setRegion_keeps ..); · decide)
      | extract_lets
      | intro _
      | split
      | (dsimp +zetaDelta only; split)

theorem State.regionLatch_keeps (s : State) (k : Nat) (seen : Option (List Nat)) (r : Nat) : Keeps 0x5000000000000000000000000000000000000000000000000000f00df007e00000000000000000000000000000000000000000000000000000000000700070003000000000000000000000000000000000000000b00cb00010001000f0007000f00000000000000000000000000000000000000000000000b00070003000700010000000000000000000000000000000000000000000000000000000000000000013fedff s (State.regionLatch s k seen r) := by
  unfold State.regionLatch
  repeat' first
      | with_reducible exact Keeps.refl
      | with_reducible assumption
      | with_reducible refine Keeps.ite ?_ ?_
      | (with_reducible apply Keeps.step (State.regionJudge_keeps ..); · decide)
      | (with_reducible apply Keeps.step (State.regionTest_keeps ..); · decide)
      | (with_reducible apply Keeps.step (State.regionCycle_keeps ..); · decide)
      | (with_reducible apply Keeps.step (State.regionLit_keeps ..); · decide)
      | extract_lets
      | intro _
      | split
      | (dsimp +zetaDelta only; split)

theorem State.regionCut_keeps (s : State) (r : Nat) : Keeps 0x5000000000000000000000000000000000000000000000000000f00df007e00000000000000000000000000000000000000000000000000000000000700070003000000000000000000000000000000000000000f00cb00010001000f0007000f00000000000000000000000000000000000000000000000b0007000300070001000000000000000000000000000000000000000000000000000000000000000001bfedff s (State.regionCut s r) := by
  unfold State.regionCut
  repeat' first
      | with_reducible exact Keeps.refl
      | with_reducible assumption
      | with_reducible refine Keeps.ite ?_ ?_
      | (with_reducible apply Keeps.bump; · decide)
      | (with_reducible apply Keeps.step (State.setRegion_keeps ..); · decide)
      | (with_reducible apply Keeps.step (State.setRegionState_keeps ..); · decide)
      | extract_lets
      | intro _
      | split
      | (dsimp +zetaDelta only; split)

theorem State.regionOff_keeps (s : State) (r : Nat) : Keeps 0x5000000000000000000000000000000000000000000000000000f00ff007e00000000000000000000000000000000000000000000000000000000000700070003000000000000000000000000000000000000000f00cb00010001000f0007000f00000000000000000000000000000000000000000000000b0007000300070001000000000000000000000000000000000000000000000000000000000000000001bfedff s (State.regionOff s r) := by
  unfold State.regionOff
  repeat' first
      | with_reducible exact Keeps.refl
      | with_reducible assumption
      | with_reducible refine Keeps.ite ?_ ?_
      | (with_reducible apply Keeps.step (State.setRegion_keeps ..); · decide)
      | (with_reducible apply Keeps.step (State.setRegionState_keeps ..); · decide)
      | extract_lets
      | intro _
      | split
      | (dsimp +zetaDelta only; split)

theorem writeRegion_keeps (r : Nat) (v : Row) (s : State) : Keeps 0x5000000000000000000000000000000000000000000000000000f00ff007e00000000000000000000000000000000000000000000000000000000000700070003000000000000000000000000000000000000000b00cb00010001000f0007000f00000000000000000000000000000000000000000000000b00070003000700010000000000000000000000000000000000000000000000000000000000000000013fedff s (writeRegion r v s).st := by
  unfold writeRegion
  repeat' first
      | with_reducible exact Keeps.refl
      | with_reducible assumption
      | with_reducible refine Keeps.ite ?_ ?_
      | (with_reducible apply Keeps.setRow; · decide)
      | (with_reducible apply Keeps.setFld; · decide)
      | (with_reducible apply Keeps.step (done_keeps ..); · decide)
      | (with_reducible apply Keeps.step (State.setRegionState_keeps ..); · decide)
      | (with_reducible apply Keeps.step (State.regionBegins_keeps ..); · decide)
      | (with_reducible apply Keeps.step (State.retrack_keeps ..); · decide)
      | (with_reducible apply Keeps.step (State.calTouched_keeps ..); · decide)
      | (with_reducible apply Keeps.step (State.traceTargets_keeps ..); · decide)
      | (with_reducible apply Keeps.step (State.regionOff_keeps ..); · decide)
      | extract_lets
      | intro _
      | split
      | (dsimp +zetaDelta only; split)

theorem writeRegionReset_keeps (r v : Nat) (s : State) : Keeps 0x5000000000000000000000000000000000000000000000000000f00ff007e00000000000000000000000000000000000000000000000000000000000700070003000000000000000000000000000000000000000f00cb00010001000f0007000f00000000000000000000000000000000000000000000000b00070003000700010000000000000000000000000000000000000000000000000000000000000000017fedff s (writeRegionReset r v s).st := by
  unfold writeRegionReset
  repeat' first
      | with_reducible exact Keeps.refl
      | with_reducible assumption
      | with_reducible refine Keeps.ite ?_ ?_
      | (with_reducible apply Keeps.setRow; · decide)
      | (with_reducible apply Keeps.step (State.raiseIf_keeps ..); · decide)
      | (with_reducible apply Keeps.step (done_keeps ..); · decide)
      | (with_reducible apply Keeps.step (State.retrack_keeps ..); · decide)
      | (with_reducible apply Keeps.step (State.calTouched_keeps ..); · decide)
      | extract_lets
      | intro _
      | split
      | (dsimp +zetaDelta only; split)

theorem State.gaugeSpoils_keeps (s : State) (c : Nat) : Keeps 0x5000000000000000000000000000000000000000000000000000f00ff007e00010000000000000000000000000000000000000000000000000000000700070003000000000000000000000000000000000000000f00db00010001000f0007000f00000000000000000000000000000000000000000000000b0007000300070001000000000000000000000000000000000000000000000000000000000000000001bfffff s (State.gaugeSpoils s c) := by
  unfold State.gaugeSpoils
  repeat' first
      | with_reducible exact Keeps.refl
      | with_reducible assumption
      | with_reducible refine Keeps.ite ?_ ?_
      | (with_reducible apply Keeps.step (State.regionFault_keeps ..); · decide)
      | (with_reducible refine Keeps.foldl (fun _ _ _ => ?_) ?_)
      | extract_lets
      | intro _
      | split
      | (dsimp +zetaDelta only; split)

theorem State.sessionFault_keeps (s : State) : Keeps 0x5000000000000000000000000000000000000000000000000000f00ff007e00010000000000000000000000000000000000000000000000000000000700070003000000000000000000000000000000000000000f00db00010001000f0007000f00000000000000000000000000000000000000000000000b00070003000700010000000000000000000000000000000000000000000000000000000000000000017fffff s (State.sessionFault s) := by
  unfold State.sessionFault
  repeat' first
      | with_reducible exact Keeps.refl
      | with_reducible assumption
      | with_reducible refine Keeps.ite ?_ ?_
      | extract_lets
      | intro _
      | split
      | (with_reducible apply Keeps.set_cal; (case h0 => decide))
      | (dsimp +zetaDelta only; split)

theorem State.gaugeRangeTo_keeps (s : State) (c n : Nat) : Keeps 0x5000000000000000000000000000000000000000000000000000f00bf007e00000000000000000000000000000000000000000000000000000000000700070003000000000000000000000000000000000000000f00db00010001000f0007000f00000000000000000000000000000000000000000000000b0007000300070001000000000000000000000000000000000000000000000000000000000000000001bfedff s (State.gaugeRangeTo s c n) := by
  unfold State.gaugeRangeTo
  repeat' first
      | with_reducible exact Keeps.refl
      | with_reducible assumption
      | with_reducible refine Keeps.ite ?_ ?_
      | (with_reducible apply Keeps.bump; · decide)
      | (with_reducible apply Keeps.step (State.raise_keeps ..); · decide)
      | (with_reducible apply Keeps.step (State.setGaugeCh_keeps ..); · decide)
      | (with_reducible apply Keeps.step (State.gaugeSpoils_keeps ..); · decide)
      | extract_lets
      | intro _
      | split
      | (dsimp +zetaDelta only; split)

theorem State.gaugeRow_keeps (s : State) (c : Nat) (v : Row) : Keeps 0x5000000000000000000000000000000000000000000000000000f00bf007e00000000000000000000000000000000000000000000000000000000000700070003000000000000000000000000000000000000000e00db00010001000f0007000f00000000000000000000000000000000000000000000000b0007000300070001000000000000000000000000000000000000000000000000000000000000000001bfedff s (State.gaugeRow s c v) := by
  unfold State.gaugeRow
  repeat' first
      | with_reducible exact Keeps.refl
      | with_reducible assumption
      | with_reducible refine Keeps.ite ?_ ?_
      | (with_reducible apply Keeps.setRow; · decide)
      | (with_reducible apply Keeps.step (State.setGaugeCh_keeps ..); · decide)
      | (with_reducible apply Keeps.step (State.gaugeRangeTo_keeps ..); · decide)
      | extract_lets
      | intro _
      | split
      | (dsimp +zetaDelta only; split)

theorem State.gaugeAuto_keeps (s : State) (c : Nat) (code : Int) : Keeps 0x5000000000000000000000000000000000000000000000000000f00bf007e00000000000000000000000000000000000000000000000000000000000700070003000000000000000000000000000000000000000f00db00010001000f0007000f00000000000000000000000000000000000000000000000b0007000300070001000000000000000000000000000000000000000000000000000000000000000001bfedff s (State.gaugeAuto s c code) := by
  unfold State.gaugeAuto
  repeat' first
      | with_reducible exact Keeps.refl
      | with_reducible assumption
      | with_reducible refine Keeps.ite ?_ ?_
      | (with_reducible apply Keeps.step (State.setGaugeCh_keeps ..); · decide)
      | (with_reducible apply Keeps.step (State.gaugeRangeTo_keeps ..); · decide)
      | extract_lets
      | intro _
      | split
      | (dsimp +zetaDelta only; split)

theorem State.gaugeAlarm_keeps (s : State) (c : Nat) (mean : Rat) : Keeps 0x5000000000000000000000000000000000000000000000000000f00bf007e00000000000000000000000000000000000000000000000000000000000700070003000000000000000000000000000000000000000f00db00010001000f0007000f00000000000000000000000000000000000000000000000b0007000300070001000000000000000000000000000000000000000000000000000000000000000001bfedff s (State.gaugeAlarm s c mean) := by
  unfold State.gaugeAlarm
  repeat' first
      | with_reducible exact Keeps.refl
      | with_reducible assumption
      | with_reducible refine Keeps.ite ?_ ?_
      | (with_reducible apply Keeps.bump; · decide)
      | (with_reducible apply Keeps.step (State.raise_keeps ..); · decide)
      | (with_reducible apply Keeps.step (State.setGaugeCh_keeps ..); · decide)
      | extract_lets
      | intro _
      | split
      | (dsimp +zetaDelta only; split)

theorem State.gaugeUse_keeps (s : State) (c from_ : Nat) (y raw : Rat) : Keeps 0x5000000000000000000000000000000000000000000000000000f00ff007e00010000000000000000000000000000000000000000000000000000000700070003000000000000000000000000000000000000000f00db00010001000f0007000f00000000000000000000000000000000000000000000000b00070003000700010000000000000000000000000000000000000000000000000000000000000000013fffff s (State.gaugeUse s c from_ y raw) := by
  unfold State.gaugeUse
  repeat' first
      | with_reducible exact Keeps.refl
      | with_reducible assumption
      | with_reducible refine Keeps.ite ?_ ?_
      | (with_reducible apply Keeps.step (State.regionAdd_keeps ..); · decide)
      | (with_reducible refine Keeps.foldl (fun _ _ _ => ?_) ?_)
      | extract_lets
      | intro _
      | split
      | (with_reducible apply Keeps.set_cal; (case h0 => decide))
      | (dsimp +zetaDelta only; split)

theorem State.gaugeDeliver_keeps (s : State) (c from_ : Nat) (code : Int) (y : Rat) : Keeps 0x5000000000000000000000000000000000000000000000000000f00bf007e00000000000000000000000000000000000000000000000000000000000700070003000000000000000000000000000000000000000e00db00010001000f0007000f00000000000000000000000000000000000000000000000b00070003000700010000000000000000000000000000000000000000000000000000000000000000013fedff s (State.gaugeDeliver s c from_ code y) := by
  unfold State.gaugeDeliver
  repeat' first
      | with_reducible exact Keeps.refl
      | with_reducible assumption
      | with_reducible refine Keeps.ite ?_ ?_
      | (with_reducible apply Keeps.setRow; · decide)
      | (with_reducible apply Keeps.step (State.setGaugeCh_keeps ..); · decide)
      | (with_reducible apply Keeps.step (State.gaugeAlarm_keeps ..); · decide)
      | (with_reducible apply Keeps.step (State.gaugeUse_keeps ..); · decide)
      | extract_lets
      | intro _
      | split
      | (dsimp +zetaDelta only; split)

theorem State.gaugeOne_keeps (s0 : State) (from_ : Nat) (x : GaugeCode) : Keeps 0x5000000000000000000000000000000000000000000000000000f00bf007e00000000000000000000000000000000000000000000000000000000000700070003000000000000000000000000000000000000000e00db00010001000f0007000f00000000000000000000000000000000000000000000000b00070003000700010000000000000000000000000000000000000000000000000000000000000000013fedff s0 (State.gaugeOne s0 from_ x) := by
  unfold State.gaugeOne
  repeat' first
      | with_reducible exact Keeps.refl
      | with_reducible assumption
      | with_reducible refine Keeps.ite ?_ ?_
      | (with_reducible apply Keeps.setRow; · decide)
      | (with_reducible apply Keeps.bump; · decide)
      | (with_reducible apply Keeps.step (State.raise_keeps ..); · decide)
      | (with_reducible apply Keeps.step (State.setGaugeCh_keeps ..); · decide)
      | (with_reducible apply Keeps.step (State.gaugeSpoils_keeps ..); · decide)
      | (with_reducible apply Keeps.step (State.sessionFault_keeps ..); · decide)
      | (with_reducible apply Keeps.step (State.gaugeAuto_keeps ..); · decide)
      | (with_reducible apply Keeps.step (State.gaugeDeliver_keeps ..); · decide)
      | extract_lets
      | intro _
      | split
      | (with_reducible apply Keeps.set_light; (case h0 => decide))
      | (dsimp +zetaDelta only; split)

theorem execGaugeSample_keeps (codes : List GaugeCode) (refPpm : Int) (s0 : State) : Keeps 0x5000000000000000000000000000000000000000000000000000f00bf007e00000000000000000000000000000000000000000000000000000000000700070003000000000000000000000000000000000000000e00db00010001000f0007000f00000000000000000000000000000000000000000000000b00070003000700010000000000000000000000000000000000000000000000000000000000000000013fecfd s0 (execGaugeSample codes refPpm s0) := by
  unfold execGaugeSample
  repeat' first
      | with_reducible exact Keeps.refl
      | with_reducible assumption
      | with_reducible refine Keeps.ite ?_ ?_
      | (with_reducible apply Keeps.setFld; · decide)
      | (with_reducible apply Keeps.step (State.advanceTo_keeps ..); · decide)
      | (with_reducible apply Keeps.step (State.raiseIf_keeps ..); · decide)
      | (with_reducible apply Keeps.step (State.gaugeSpoils_keeps ..); · decide)
      | (with_reducible apply Keeps.step (State.sessionFault_keeps ..); · decide)
      | (with_reducible apply Keeps.step (State.gaugeOne_keeps ..); · decide)
      | (with_reducible refine Keeps.foldl (fun _ _ _ => ?_) ?_)
      | extract_lets
      | intro _
      | split
      | (with_reducible apply Keeps.set_light; (case h0 => decide))
      | (dsimp +zetaDelta only; split)

theorem State.emitterReport_keeps (s : State) (st k openBits shortBits : Nat) : Keeps 0x5000000000000000000000000000000000000000000000000000f00df007e00000000000000000000000000000000000000000000000000000000000700070003000000000000000000000000000000000000000f005b00010001000f0007000f00000000000000000000000000000000000000000000000b0007000300070001000000000000000000000000000000000000000000000000000000000000000001bfedff s (State.emitterReport s st k openBits shortBits) := by
  unfold State.emitterReport
  repeat' first
      | with_reducible exact Keeps.refl
      | with_reducible assumption
      | with_reducible refine Keeps.ite ?_ ?_
      | (with_reducible apply Keeps.setRow; · decide)
      | (with_reducible apply Keeps.setRowCount; · decide)
      | (with_reducible apply Keeps.bump; · decide)
      | (with_reducible apply Keeps.step (State.raise_keeps ..); · decide)
      | extract_lets
      | intro _
      | split
      | (with_reducible apply Keeps.set_light; (case h0 => decide))
      | (dsimp +zetaDelta only; split)

theorem writeFaultClear_keeps (v : Nat) (s : State) : Keeps 0x5000000000000000000000000000000000000000000000000000f00ff007e00010000000000000000000000000000000000000000000000000000000700070003000000000000000000000000000000000000000f005b00010001000f0007000f00000000000000000000000000000000000000000000000b0007000300070001000000000000000000000000000000000000000000000000000000000000000001bfffff s (writeFaultClear v s).st := by
  unfold writeFaultClear
  repeat' first
      | with_reducible exact Keeps.refl
      | with_reducible assumption
      | with_reducible refine Keeps.ite ?_ ?_
      | (with_reducible apply Keeps.clearObj; · decide)
      | (with_reducible apply Keeps.step (done_keeps ..); · decide)
      | extract_lets
      | intro _
      | split
      | (with_reducible apply Keeps.set_light; (case h0 => decide))
      | (dsimp +zetaDelta only; split)

theorem writeShortTest_keeps (w : Who) (mask : Nat) (s : State) : Keeps 0x5000000000000000000000000000000000000000000000000000e00df007e00010000000000000000000000000000000000000000000000000000000700070003000000000000000000000000000000000000000f009b00010001000f0007000f00000000000000000000000000000000000000000000000b0007000300070001000000000000000000000000000000000000000000000000000000000000000001bfdfff s (writeShortTest w mask s).st := by
  unfold writeShortTest
  repeat' first
      | with_reducible exact Keeps.refl
      | with_reducible assumption
      | with_reducible refine Keeps.ite ?_ ?_
      | (with_reducible apply Keeps.add; · decide)
      | (with_reducible apply Keeps.clearObj; · decide)
      | (with_reducible apply Keeps.step (refuse_keeps ..); · decide)
      | (with_reducible refine accept_keeps (by decide) (fun _ _ => ?_) ?_)
      | extract_lets
      | intro _
      | split
      | (with_reducible apply Keeps.set_light; (case h0 => decide))
      | (dsimp +zetaDelta only; split)

theorem State.shortResult_keeps (s : State) (a b kind : Nat) : Keeps 0x5000000000000000000000000000000000000000000000000000f00ff007e00010000000000000000000000000000000000000000000000000000000700070003000000000000000000000000000000000000000f009b00010001000f0007000f00000000000000000000000000000000000000000000000b0007000300070001000000000000000000000000000000000000000000000000000000000000000001bfffff s (State.shortResult s a b kind) := by
  unfold State.shortResult
  repeat' first
      | with_reducible exact Keeps.refl
      | with_reducible assumption
      | with_reducible refine Keeps.ite ?_ ?_
      | (with_reducible apply Keeps.setRow; · decide)
      | (with_reducible apply Keeps.setFld; · decide)
      | (with_reducible apply Keeps.setRowCount; · decide)
      | extract_lets
      | intro _
      | split
      | (with_reducible apply Keeps.set_light; (case h0 => decide))
      | (dsimp +zetaDelta only; split)

end Sys2Proof.Machine
end

