-- ==== Sys2Proof/Laws/KeepsCollate.lean ====
section
/-! SUPPORT. What each operation of Machine/Collate.lean leaves alone. -/

set_option linter.all false
namespace Sys2Proof.Machine

theorem State.setColl_keeps (s : State) (h : Nat) (x : Coll) : Keeps 0x5000000000000000000000000000000000000000000000000000f00ff007e00010000000000000000000000000000000000000000000000000000000700070003000000000000000000000000000000000000000f00db00010001000f0007000f00000000000000000000000000000000000000000000000b0007000300070001000000000000000000000000000000000000000000000000000000000000000001f7ffff s (State.setColl s h x) := by
  unfold State.setColl
  repeat' first
      | with_reducible exact Keeps.refl
      | with_reducible assumption
      | with_reducible refine Keeps.ite ?_ ?_
      | extract_lets
      | intro _
      | split
      | (with_reducible apply Keeps.set_coll; (case h0 => decide))
      | (dsimp +zetaDelta only; split)

theorem State.clearSet_keeps (s : State) (q b : Nat) : Keeps 0x5000000000000000000000000000000000000000000000000000f00ff007e00010000000000000000000000000000000000000000000000000000000700070003000000000000000000000000000000000000000f00db00010001000f0007000f00000000000000000000000000000000000000000000000b0007000300070001000000000000000000000000000000000000000000000000000000000000000001ff7fef s (State.clearSet s q b) := by
  unfold State.clearSet
  repeat' first
      | with_reducible exact Keeps.refl
      | with_reducible assumption
      | with_reducible refine Keeps.ite ?_ ?_
      | (with_reducible apply Keeps.step (State.vaultPut_keeps ..); · decide)
      | (with_reducible refine Keeps.foldl (fun _ _ _ => ?_) ?_)
      | extract_lets
      | intro _
      | split
      | (dsimp +zetaDelta only; split)

theorem State.clearBoth_keeps (s : State) (q : Nat) : Keeps 0x5000000000000000000000000000000000000000000000000000f00ff007e00010000000000000000000000000000000000000000000000000000000700070003000000000000000000000000000000000000000f00db00010001000f0007000f00000000000000000000000000000000000000000000000b0007000300070001000000000000000000000000000000000000000000000000000000000000000001ef7fef s (State.clearBoth s q) := by
  unfold State.clearBoth
  repeat' first
      | with_reducible exact Keeps.refl
      | with_reducible assumption
      | with_reducible refine Keeps.ite ?_ ?_
      | (with_reducible apply Keeps.step (State.setQuire_keeps ..); · decide)
      | (with_reducible apply Keeps.step (State.clearSet_keeps ..); · decide)
      | extract_lets
      | intro _
      | split
      | (dsimp +zetaDelta only; split)

theorem State.putShare_keeps (s : State) (st offset : Nat) (bs : List Byte) : Keeps 0x5000000000000000000000000000000000000000000000000000f00ff007e00010000000000000000000000000000000000000000000000000000000700070003000000000000000000000000000000000000000f00db00010001000f0007000f00000000000000000000000000000000000000000000000b0007000300070001000000000000000000000000000000000000000000000000000000000000000001ff7fef s (State.putShare s st offset bs) := by
  unfold State.putShare
  repeat' first
      | with_reducible exact Keeps.refl
      | with_reducible assumption
      | with_reducible refine Keeps.ite ?_ ?_
      | (with_reducible apply Keeps.step (State.vaultPut_keeps ..); · decide)
      | extract_lets
      | intro _
      | split
      | (dsimp +zetaDelta only; split)

theorem State.mapSwitch_keeps (s : State) (h : Nat) : Keeps 0x5000000000000000000000000000000000000000000000000000f00ff007e00000000000000000000000000000000000000000000000000000000000700070003000000000000000000000000000000000000000f00db00010000000f0007000f00000000000000000000000000000000000000000000000b0007000300070001000000000000000000000000000000000000000000000000000000000000000001e7edff s (State.mapSwitch s h) := by
  unfold State.mapSwitch
  repeat' first
      | with_reducible exact Keeps.refl
      | with_reducible assumption
      | with_reducible refine Keeps.ite ?_ ?_
      | (with_reducible apply Keeps.setRow; · decide)
      | (with_reducible apply Keeps.step (State.raise_keeps ..); · decide)
      | (with_reducible apply Keeps.step (State.setQuire_keeps ..); · decide)
      | (with_reducible apply Keeps.step (State.setColl_keeps ..); · decide)
      | (with_reducible refine Keeps.foldl (fun _ _ _ => ?_) ?_)
      | extract_lets
      | intro _
      | split
      | (dsimp +zetaDelta only; split)

theorem writeMap_keeps (h : Nat) (v : Row) (s : State) : Keeps 0x5000000000000000000000000000000000000000000000000000f00ff007e00000000000000000000000000000000000000000000000000000000000700070003000000000000000000000000000000000000000f00db00010000000f0007000f00000000000000000000000000000000000000000000000b0007000300070001000000000000000000000000000000000000000000000000000000000000000001e7edff s (writeMap h v s).st := by
  unfold writeMap
  repeat' first
      | with_reducible exact Keeps.refl
      | with_reducible assumption
      | with_reducible refine Keeps.ite ?_ ?_
      | (with_reducible apply Keeps.setRow; · decide)
      | (with_reducible apply Keeps.step (refuse_keeps ..); · decide)
      | (with_reducible apply Keeps.step (done_keeps ..); · decide)
      | (with_reducible apply Keeps.step (State.setColl_keeps ..); · decide)
      | (with_reducible apply Keeps.step (State.mapSwitch_keeps ..); · decide)
      | extract_lets
      | intro _
      | split
      | (dsimp +zetaDelta only; split)

theorem State.snapshotTaken_keeps (s : State) (h : Nat) (p : Snapshot) : Keeps 0x5000000000000000000000000000000000000000000000000000e00df001c00000000000000000000000000000000000000000000000000000000000700070003000000000000000000000000000000000000000f00c800010001000f0006000f0000000000000000000000000000000000000000000000010007000300070001000000000000000000000000000000000000000000000000000000000000000001bf8dff s (State.snapshotTaken s h p) := by
  unfold State.snapshotTaken
  repeat' first
      | with_reducible exact Keeps.refl
      | with_reducible assumption
      | with_reducible refine Keeps.ite ?_ ?_
      | (with_reducible apply Keeps.setRow; · decide)
      | (with_reducible apply Keeps.step (State.sampled_keeps ..); · decide)
      | (with_reducible refine Keeps.foldl (fun _ _ _ => ?_) ?_)
      | extract_lets
      | intro _
      | split
      | (dsimp +zetaDelta only; split)

theorem State.clearDue_keeps (s : State) (q : Nat) : Keeps 0x5000000000000000000000000000000000000000000000000000f00ff007e00010000000000000000000000000000000000000000000000000000000700070003000000000000000000000000000000000000000f00db00010001000f0007000f00000000000000000000000000000000000000000000000b0007000300070001000000000000000000000000000000000000000000000000000000000000000001ef7fef s (State.clearDue s q) := by
  unfold State.clearDue
  repeat' first
      | with_reducible exact Keeps.refl
      | with_reducible assumption
      | with_reducible refine Keeps.ite ?_ ?_
      | (with_reducible apply Keeps.step (State.setQuire_keeps ..); · decide)
      | (with_reducible apply Keeps.step (State.clearSet_keeps ..); · decide)
      | extract_lets
      | intro _
      | split
      | (dsimp +zetaDelta only; split)

theorem State.mapSwitchDue_keeps (s : State) (h : Nat) : Keeps 0x5000000000000000000000000000000000000000000000000000f00ff007e00000000000000000000000000000000000000000000000000000000000700070003000000000000000000000000000000000000000f00db00010000000f0007000f00000000000000000000000000000000000000000000000b0007000300070001000000000000000000000000000000000000000000000000000000000000000001e7edff s (State.mapSwitchDue s h) := by
  unfold State.mapSwitchDue
  repeat' first
      | with_reducible exact Keeps.refl
      | with_reducible assumption
      | with_reducible refine Keeps.ite ?_ ?_
      | (with_reducible apply Keeps.step (State.mapSwitch_keeps ..); · decide)
      | extract_lets
      | intro _
      | split
      | (dsimp +zetaDelta only; split)

theorem State.collLineZero_keeps (s0 : State) (h : Nat) (z b : Rat) : Keeps 0x5000000000000000000000000000000000000000000000000000e00df001c00000000000000000000000000000000000000000000000000000000000700070003000000000000000000000000000000000000000f00c800010000000f0006000f0000000000000000000000000000000000000000000000010007000300070001000000000000000000000000000000000000000000000000000000000000000001a70def s0 (State.collLineZero s0 h z b) := by
  unfold State.collLineZero
  repeat' first
      | with_reducible exact Keeps.refl
      | with_reducible assumption
      | with_reducible refine Keeps.ite ?_ ?_
      | (with_reducible apply Keeps.step (State.setColl_keeps ..); · decide)
      | (with_reducible apply Keeps.step (State.snapshotTaken_keeps ..); · decide)
      | (with_reducible apply Keeps.step (State.clearDue_keeps ..); · decide)
      | (with_reducible apply Keeps.step (State.mapSwitchDue_keeps ..); · decide)
      | (with_reducible refine Keeps.foldl (fun _ _ _ => ?_) ?_)
      | extract_lets
      | intro _
      | split
      | (dsimp +zetaDelta only; split)

theorem State.bindFrames_keeps (s : State) (q : Nat) : Keeps 0x5000000000000000000000000000000000000000000000000000f00ff007e00010000000000000000000000000000000000000000000000000000000700070003000000000000000000000000000000000000000f00db00010001000f0007000f00000000000000000000000000000000000000000000000b0007000300070001000000000000000000000000000000000000000000000000000000000000000001f7ffff s (State.bindFrames s q) := by
  unfold State.bindFrames
  repeat' first
      | with_reducible exact Keeps.refl
      | with_reducible assumption
      | with_reducible refine Keeps.ite ?_ ?_
      | (with_reducible apply Keeps.step (State.setColl_keeps ..); · decide)
      | (with_reducible refine Keeps.foldl (fun _ _ _ => ?_) ?_)
      | extract_lets
      | intro _
      | split
      | (dsimp +zetaDelta only; split)

theorem State.collBlank_keeps (s : State) (h : Nat) : Keeps 0x5000000000000000000000000000000000000000000000000000f00ff007e00010000000000000000000000000000000000000000000000000000000700070003000000000000000000000000000000000000000f00db00010001000f0007000f00000000000000000000000000000000000000000000000b0007000300070001000000000000000000000000000000000000000000000000000000000000000001f7ffff s (State.collBlank s h) := by
  unfold State.collBlank
  repeat' first
      | with_reducible exact Keeps.refl
      | with_reducible assumption
      | with_reducible refine Keeps.ite ?_ ?_
      | (with_reducible apply Keeps.step (State.setColl_keeps ..); · decide)
      | extract_lets
      | intro _
      | split
      | (dsimp +zetaDelta only; split)

theorem State.mapFaulted_keeps (s : State) (h : Nat) (f : CollFrame) (col : Nat) : Keeps 0x5000000000000000000000000000000000000000000000000000f00f7007e00000000000000000000000000000000000000000000000000000000000700070003000000000000000000000000000000000000000f00db00010001000f0007000f00000000000000000000000000000000000000000000000b0007000300070001000000000000000000000000000000000000000000000000000000000000000001ffedff s (State.mapFaulted s h f col).2 := by
  unfold State.mapFaulted
  repeat' first
      | with_reducible exact Keeps.refl
      | with_reducible assumption
      | with_reducible refine Keeps.ite ?_ ?_
      | with_reducible refine Keeps.ite_snd ?_ ?_
      | (with_reducible apply Keeps.bump; · decide)
      | (with_reducible apply Keeps.step (State.raiseIf_keeps ..); · decide)
      | extract_lets
      | intro _
      | split
      | (dsimp +zetaDelta only; split)

theorem State.mapFaulted_keeps' (s : State) (h : Nat) (f : CollFrame) (col : Nat) {α_ : _} {t_ : State} (he : State.mapFaulted s h f col = (α_, t_)) : Keeps 0x5000000000000000000000000000000000000000000000000000f00f7007e00000000000000000000000000000000000000000000000000000000000700070003000000000000000000000000000000000000000f00db00010001000f0007000f00000000000000000000000000000000000000000000000b0007000300070001000000000000000000000000000000000000000000000000000000000000000001ffedff s t_ := by
  have h := State.mapFaulted_keeps s h f col
  rw [he] at h
  exact h

theorem State.countClips_keeps (s : State) (h : Nat) (f : CollFrame) (n : Nat) : Keeps 0x5000000000000000000000000000000000000000000000000000f00f7007e00000000000000000000000000000000000000000000000000000000000700070003000000000000000000000000000000000000000f00db00010001000f0007000f00000000000000000000000000000000000000000000000b0007000300070001000000000000000000000000000000000000000000000000000000000000000001ffedff s (State.countClips s h f n).2 := by
  unfold State.countClips
  repeat' first
      | with_reducible exact Keeps.refl
      | with_reducible assumption
      | with_reducible refine Keeps.ite ?_ ?_
      | with_reducible refine Keeps.ite_snd ?_ ?_
      | (with_reducible apply Keeps.add; · decide)
      | (with_reducible apply Keeps.step (State.raiseIf_keeps ..); · decide)
      | extract_lets
      | intro _
      | split
      | (dsimp +zetaDelta only; split)

theorem State.countClips_keeps' (s : State) (h : Nat) (f : CollFrame) (n : Nat) {α_ : _} {t_ : State} (he : State.countClips s h f n = (α_, t_)) : Keeps 0x5000000000000000000000000000000000000000000000000000f00f7007e00000000000000000000000000000000000000000000000000000000000700070003000000000000000000000000000000000000000f00db00010001000f0007000f00000000000000000000000000000000000000000000000b0007000300070001000000000000000000000000000000000000000000000000000000000000000001ffedff s t_ := by
  have h := State.countClips_keeps s h f n
  rw [he] at h
  exact h

theorem State.collateOne_keeps (s : State) (h : Nat) (f : CollFrame) (i : Nat) : Keeps 0x5000000000000000000000000000000000000000000000000000d00f7007e00000000000000000000000000000000000000000000000000000000000700070003000000000000000000000000000000000000000f00db00010001000f0007000f00000000000000000000000000000000000000000000000b0007000300070001000000000000000000000000000000000000000000000000000000000000000001f76def s (State.collateOne s h f i).2 := by
  unfold State.collateOne
  repeat' first
      | with_reducible exact Keeps.refl
      | with_reducible assumption
      | with_reducible refine Keeps.ite ?_ ?_
      | with_reducible refine Keeps.ite_snd ?_ ?_
      | (with_reducible apply Keeps.bump; · decide)
      | (with_reducible apply Keeps.add; · decide)
      | (with_reducible apply Keeps.step (State.raiseIf_keeps ..); · decide)
      | (with_reducible apply Keeps.step (State.dramRead_keeps ..); · decide)
      | (with_reducible apply Keeps.step (State.setColl_keeps ..); · decide)
      | (with_reducible apply Keeps.step (State.putShare_keeps ..); · decide)
      | (with_reducible apply Keeps.step (State.mapFaulted_keeps' (he := by assumption) ..); · decide)
      | (with_reducible apply Keeps.step (State.mapFaulted_keeps ..); · decide)
      | (with_reducible apply Keeps.step (State.countClips_keeps' (he := by assumption) ..); · decide)
      | (with_reducible apply Keeps.step (State.countClips_keeps ..); · decide)
      | extract_lets
      | intro _
      | split
      | (dsimp +zetaDelta only; split)

theorem State.collateOne_keeps' (s : State) (h : Nat) (f : CollFrame) (i : Nat) {α_ : _} {t_ : State} (he : State.collateOne s h f i = (α_, t_)) : Keeps 0x5000000000000000000000000000000000000000000000000000d00f7007e00000000000000000000000000000000000000000000000000000000000700070003000000000000000000000000000000000000000f00db00010001000f0007000f00000000000000000000000000000000000000000000000b0007000300070001000000000000000000000000000000000000000000000000000000000000000001f76def s t_ := by
  have h := State.collateOne_keeps s h f i
  rw [he] at h
  exact h

theorem execCollateEntry_keeps (h : Nat) (s0 : State) : Keeps 0x5000000000000000000000000000000000000000000000000000d00f7007e00000000000000000000000000000000000000000000000000000000000700070003000000000000000000000000000000000000000f00db00010001000f0007000f00000000000000000000000000000000000000000000000b0007000300070001000000000000000000000000000000000000000000000000000000000000000001f76ced s0 (execCollateEntry h s0) := by
  unfold execCollateEntry
  repeat' first
      | with_reducible exact Keeps.refl
      | with_reducible assumption
      | with_reducible refine Keeps.ite ?_ ?_
      | (with_reducible apply Keeps.step (State.advanceTb_keeps ..); · decide)
      | (with_reducible apply Keeps.step (State.setColl_keeps ..); · decide)
      | (with_reducible apply Keeps.step (State.collateOne_keeps' (he := by assumption) ..); · decide)
      | (with_reducible apply Keeps.step (State.collateOne_keeps ..); · decide)
      | extract_lets
      | intro _
      | split
      | (dsimp +zetaDelta only; split)

theorem execSampleLate_keeps (h : Nat) (s0 : State) : Keeps 0x5000000000000000000000000000000000000000000000000000f00f7007e00000000000000000000000000000000000000000000000000000000000700070003000000000000000000000000000000000000000f00db00010001000f0007000f00000000000000000000000000000000000000000000000b0007000300070001000000000000000000000000000000000000000000000000000000000000000001f76ced s0 (execSampleLate h s0) := by
  unfold execSampleLate
  repeat' first
      | with_reducible exact Keeps.refl
      | with_reducible assumption
      | with_reducible refine Keeps.ite ?_ ?_
      | (with_reducible apply Keeps.bump; · decide)
      | (with_reducible apply Keeps.step (State.advanceTb_keeps ..); · decide)
      | (with_reducible apply Keeps.step (State.raiseIf_keeps ..); · decide)
      | (with_reducible apply Keeps.step (State.setColl_keeps ..); · decide)
      | (with_reducible apply Keeps.step (State.putShare_keeps ..); · decide)
      | extract_lets
      | intro _
      | split
      | (dsimp +zetaDelta only; split)

theorem State.collMissed_keeps (s : State) (h q k : Nat) : Keeps 0x5000000000000000000000000000000000000000000000000000f00ff007e00010000000000000000000000000000000000000000000000000000000700070003000000000000000000000000000000000000000f00db00010001000f0007000f00000000000000000000000000000000000000000000000b0007000300070001000000000000000000000000000000000000000000000000000000000000000001f7ffff s (State.collMissed s h q k) := by
  unfold State.collMissed
  repeat' first
      | with_reducible exact Keeps.refl
      | with_reducible assumption
      | with_reducible refine Keeps.ite ?_ ?_
      | (with_reducible apply Keeps.step (State.setColl_keeps ..); · decide)
      | extract_lets
      | intro _
      | split
      | (dsimp +zetaDelta only; split)

theorem State.collLatch_keeps (s : State) (q k : Nat) : Keeps 0x5000000000000000000000000000000000000000000000000000f00f7007e00000000000000000000000000000000000000000000000000000000000700070003000000000000000000000000000000000000000f00db00010000000f0007000f00000000000000000000000000000000000000000000000b0007000300070001000000000000000000000000000000000000000000000000000000000000000001e7edff s (State.collLatch s q k) := by
  unfold State.collLatch
  repeat' first
      | with_reducible exact Keeps.refl
      | with_reducible assumption
      | with_reducible refine Keeps.ite ?_ ?_
      | (with_reducible apply Keeps.setRow; · decide)
      | (with_reducible apply Keeps.setFld; · decide)
      | (with_reducible apply Keeps.bump32; · decide)
      | (with_reducible apply Keeps.step (State.raise_keeps ..); · decide)
      | (with_reducible apply Keeps.step (State.setQuire_keeps ..); · decide)
      | (with_reducible apply Keeps.step (State.collMissed_keeps ..); · decide)
      | extract_lets
      | intro _
      | split
      | (dsimp +zetaDelta only; split)

end Sys2Proof.Machine
end

