-- ==== Sys2Proof/Laws/KeepsTwin.lean ====
section
/-! SUPPORT. What each operation of Machine/Twin.lean leaves alone. -/

set_option linter.all false
namespace Sys2Proof.Machine

theorem State.twinCount_keeps (s : State) (c : Nat) : Keeps 0x5000000000000000000000000000000000000000000000000000f00ff007a00010000000000000000000000000000000000000000000000000000000700070003000000000000000000000000000000000000000f00db00010001000f0007000f00000000000000000000000000000000000000000000000b0007000300070001000000000000000000000000000000000000000000000000000000000000000001ffffff s (State.twinCount s c) := by
  unfold State.twinCount
  repeat' first
      | with_reducible exact Keeps.refl
      | with_reducible assumption
      | with_reducible refine Keeps.ite ?_ ?_
      | (with_reducible apply Keeps.bump; · decide)
      | extract_lets
      | intro _
      | split
      | (dsimp +zetaDelta only; split)

theorem State.setTwin_keeps (s : State) (x : Twin) : Keeps 0x5000000000000000000000000000000000000000000000000000f00ff007e00010000000000000000000000000000000000000000000000000000000700070003000000000000000000000000000000000000000f00db00010001000f0007000f00000000000000000000000000000000000000000000000b0007000300070001000000000000000000000000000000000000000000000000000000000000000000ffffff s (State.setTwin s x) := by
  unfold State.setTwin
  repeat' first
      | with_reducible exact Keeps.refl
      | with_reducible assumption
      | with_reducible refine Keeps.ite ?_ ?_
      | extract_lets
      | intro _
      | split
      | (with_reducible apply Keeps.set_twin; (case h0 => decide))
      | (dsimp +zetaDelta only; split)

theorem State.setTwinCol_keeps (s : State) (c v : Nat) : Keeps 0x5000000000000000000000000000000000000000000000000000f00ff007e00010000000000000000000000000000000000000000000000000000000700070003000000000000000000000000000000000000000f00db00010001000f0007000f00000000000000000000000000000000000000000000000b0007000100070001000000000000000000000000000000000000000000000000000000000000000001ffffff s (State.setTwinCol s c v) := by
  unfold State.setTwinCol
  repeat' first
      | with_reducible exact Keeps.refl
      | with_reducible assumption
      | with_reducible refine Keeps.ite ?_ ?_
      | (with_reducible apply Keeps.setFld; · decide)
      | extract_lets
      | intro _
      | split
      | (dsimp +zetaDelta only; split)

theorem State.enterTwin_keeps (s : State) (st reason : Nat) : Keeps 0x5000000000000000000000000000000000000000000000000000e00ff001800000000000000000000000000000000000000000000000000000000000700070003000000000000000000000000000000000000000f00db00010001000f0007000f0000000000000000000000000000000000000000000000010007000100070001000000000000000000000000000000000000000000000000000000000000000000ff8dff s (State.enterTwin s st reason) := by
  unfold State.enterTwin
  repeat' first
      | with_reducible exact Keeps.refl
      | with_reducible assumption
      | with_reducible refine Keeps.ite ?_ ?_
      | (with_reducible apply Keeps.step (State.raise_keeps ..); · decide)
      | (with_reducible apply Keeps.step (State.completeOpt_keeps ..); · decide)
      | (with_reducible apply Keeps.step (State.twinCount_keeps ..); · decide)
      | (with_reducible apply Keeps.step (State.setTwin_keeps ..); · decide)
      | (with_reducible apply Keeps.step (State.setTwinCol_keeps ..); · decide)
      | extract_lets
      | intro _
      | split
      | (dsimp +zetaDelta only; split)

theorem State.setCompare_keeps (s : State) (q : Nat) (x : Compare) : Keeps 0x5000000000000000000000000000000000000000000000000000f00ff007e00010000000000000000000000000000000000000000000000000000000700070003000000000000000000000000000000000000000f00db00010001000f0007000f00000000000000000000000000000000000000000000000b0007000300070001000000000000000000000000000000000000000000000000000000000000000000ffffff s (State.setCompare s q x) := by
  unfold State.setCompare
  repeat' first
      | with_reducible exact Keeps.refl
      | with_reducible assumption
      | with_reducible refine Keeps.ite ?_ ?_
      | (with_reducible apply Keeps.step (State.setTwin_keeps ..); · decide)
      | extract_lets
      | intro _
      | split
      | (dsimp +zetaDelta only; split)

theorem State.trackOut_keeps (s : State) : Keeps 0x5000000000000000000000000000000000000000000000000000f00ff007e00010000000000000000000000000000000000000000000000000000000700070003000000000000000000000000000000000000000f00db00010001000f0007000f00000000000000000000000000000000000000000000000b0007000300070001000000000000000000000000000000000000000000000000000000000000000000ffffff s (State.trackOut s) := by
  unfold State.trackOut
  repeat' first
      | with_reducible exact Keeps.refl
      | with_reducible assumption
      | with_reducible refine Keeps.ite ?_ ?_
      | (with_reducible apply Keeps.step (State.setTwin_keeps ..); · decide)
      | extract_lets
      | intro _
      | split
      | (dsimp +zetaDelta only; split)

theorem State.splitCheck_keeps (s : State) (rx : Bool) : Keeps 0x5000000000000000000000000000000000000000000000000000f00ff007a00000000000000000000000000000000000000000000000000000000000700070003000000000000000000000000000000000000000f00db00010001000f0007000f00000000000000000000000000000000000000000000000b0007000300070001000000000000000000000000000000000000000000000000000000000000000000ffedff s (State.splitCheck s rx) := by
  unfold State.splitCheck
  repeat' first
      | with_reducible exact Keeps.refl
      | with_reducible assumption
      | with_reducible refine Keeps.ite ?_ ?_
      | (with_reducible apply Keeps.step (State.raise_keeps ..); · decide)
      | (with_reducible apply Keeps.step (State.twinCount_keeps ..); · decide)
      | (with_reducible apply Keeps.step (State.setTwin_keeps ..); · decide)
      | extract_lets
      | intro _
      | split
      | (dsimp +zetaDelta only; split)

theorem State.twinEval_keeps (rx : Bool) (n : Nat) (s : State) : Keeps 0x5000000000000000000000000000000000000000000000000000e00ff001800000000000000000000000000000000000000000000000000000000000700070003000000000000000000000000000000000000000f00db00010001000f0007000f0000000000000000000000000000000000000000000000010007000100070001000000000000000000000000000000000000000000000000000000000000000000ff8dff s (State.twinEval rx n s) := by
  induction n generalizing s with
  | zero => exact Keeps.refl
  | succ n ih =>
    unfold State.twinEval
    split
    · exact Keeps.step (ih _) (by decide) (Keeps.step (State.enterTwin_keeps ..) (by decide) ((State.splitCheck_keeps s rx).weaken (by decide)))
    · exact Keeps.step (State.trackOut_keeps ..) (by decide) ((State.splitCheck_keeps s rx).weaken (by decide))

theorem State.setDike_keeps (s : State) (d : Nat) : Keeps 0x5000000000000000000000000000000000000000000000000000f00ff007a00000000000000000000000000000000000000000000000000000000000700070003000000000000000000000000000000000000000f00db00010001000f0007000f00000000000000000000000000000000000000000000000b0007000100070001000000000000000000000000000000000000000000000000000000000000000001ffedff s (State.setDike s d) := by
  unfold State.setDike
  repeat' first
      | with_reducible exact Keeps.refl
      | with_reducible assumption
      | with_reducible refine Keeps.ite ?_ ?_
      | (with_reducible apply Keeps.step (State.raise_keeps ..); · decide)
      | (with_reducible apply Keeps.step (State.twinCount_keeps ..); · decide)
      | (with_reducible apply Keeps.step (State.setTwinCol_keeps ..); · decide)
      | extract_lets
      | intro _
      | split
      | (dsimp +zetaDelta only; split)

theorem State.setChain_keeps (s : State) (up : Bool) : Keeps 0x5000000000000000000000000000000000000000000000000000f00ff007a00000000000000000000000000000000000000000000000000000000000700070003000000000000000000000000000000000000000f00db00010001000f0007000f00000000000000000000000000000000000000000000000b0007000100070001000000000000000000000000000000000000000000000000000000000000000001ffedff s (State.setChain s up) := by
  unfold State.setChain
  repeat' first
      | with_reducible exact Keeps.refl
      | with_reducible assumption
      | with_reducible refine Keeps.ite ?_ ?_
      | (with_reducible apply Keeps.step (State.raise_keeps ..); · decide)
      | (with_reducible apply Keeps.step (State.twinCount_keeps ..); · decide)
      | (with_reducible apply Keeps.step (State.setTwinCol_keeps ..); · decide)
      | extract_lets
      | intro _
      | split
      | (dsimp +zetaDelta only; split)

theorem State.twinSettle_keeps (s : State) : Keeps 0x5000000000000000000000000000000000000000000000000000e00ff001800000000000000000000000000000000000000000000000000000000000700070003000000000000000000000000000000000000000f00db00010001000f0007000f0000000000000000000000000000000000000000000000010007000100070001000000000000000000000000000000000000000000000000000000000000000000ff8dff s (State.twinSettle s) := by
  unfold State.twinSettle
  repeat' first
      | with_reducible exact Keeps.refl
      | with_reducible assumption
      | with_reducible refine Keeps.ite ?_ ?_
      | (with_reducible apply Keeps.step (State.twinEval_keeps ..); · decide)
      | extract_lets
      | intro _
      | split
      | (dsimp +zetaDelta only; split)

theorem State.twinReceives_keeps (s : State) : Keeps 0x5000000000000000000000000000000000000000000000000000e00ff001800000000000000000000000000000000000000000000000000000000000700070003000000000000000000000000000000000000000f00db00010001000f0007000f0000000000000000000000000000000000000000000000010007000100070001000000000000000000000000000000000000000000000000000000000000000000ff8dff s (State.twinReceives s) := by
  unfold State.twinReceives
  repeat' first
      | with_reducible exact Keeps.refl
      | with_reducible assumption
      | with_reducible refine Keeps.ite ?_ ?_
      | (with_reducible apply Keeps.step (State.twinEval_keeps ..); · decide)
      | extract_lets
      | intro _
      | split
      | (dsimp +zetaDelta only; split)

theorem State.safeStrand_keeps (s : State) (st : Nat) : Keeps 0x5000000000000000000000000000000000000000000000000000f00ff007e00010000000000000000000000000000000000000000000000000000000700070003000000000000000000000000000000000000000f00db00010001000f0007000f00000000000000000000000000000000000000000000000b0007000300070001000000000000000000000000000000000000000000000000000000000000000001dffffb s (State.safeStrand s st) := by
  unfold State.safeStrand
  repeat' first
      | with_reducible exact Keeps.refl
      | with_reducible assumption
      | with_reducible refine Keeps.ite ?_ ?_
      | (with_reducible apply Keeps.step (State.drawNat_keeps ..); · decide)
      | (with_reducible apply Keeps.step (State.putFrame_keeps ..); · decide)
      | (with_reducible refine Keeps.foldl (fun _ _ _ => ?_) ?_)
      | extract_lets
      | intro _
      | split
      | (dsimp +zetaDelta only; split)

theorem State.safeLookSteps_keeps (s : State) (q : Nat) : Keeps 0x5000000000000000000000000000000000000000000000000000f00ef007e00010000000000000000000000000000000000000000000000000000000700070003000000000000000000000000000000000000000f00db00010001000f0007000f00000000000000000000000000000000000000000000000b0007000300070001000000000000000000000000000000000000000000000000000000000000000001dfffdb s (State.safeLookSteps s q) := by
  unfold State.safeLookSteps
  repeat' first
      | with_reducible exact Keeps.refl
      | with_reducible assumption
      | with_reducible refine Keeps.ite ?_ ?_
      | (with_reducible apply Keeps.bump; · decide)
      | (with_reducible apply Keeps.add; · decide)
      | (with_reducible apply Keeps.step (State.driveQuire_keeps ..); · decide)
      | (with_reducible apply Keeps.step (State.safeStrand_keeps ..); · decide)
      | (with_reducible refine Keeps.foldl (fun _ _ _ => ?_) ?_)
      | extract_lets
      | intro _
      | split
      | (dsimp +zetaDelta only; split)

theorem State.bermQuench_keeps (s : State) : Keeps 0x5000000000000000000000000000000000000000000000000000f00ef007e00010000000000000000000000000000000000000000000000000000000700070003000000000000000000000000000000000000000f00db00010001000f0007000f00000000000000000000000000000000000000000000000b0007000300070001000000000000000000000000000000000000000000000000000000000000000000dfffdb s (State.bermQuench s) := by
  unfold State.bermQuench
  repeat' first
      | with_reducible exact Keeps.refl
      | with_reducible assumption
      | with_reducible refine Keeps.ite ?_ ?_
      | (with_reducible apply Keeps.step (State.undriveQuire_keeps ..); · decide)
      | (with_reducible apply Keeps.step (State.setTwin_keeps ..); · decide)
      | (with_reducible apply Keeps.step (State.safeLookSteps_keeps ..); · decide)
      | (with_reducible refine Keeps.foldl (fun _ _ _ => ?_) ?_)
      | extract_lets
      | intro _
      | split
      | (dsimp +zetaDelta only; split)

theorem State.evaluateRun_keeps (s : State) (run : List Compared) : Keeps 0x5000000000000000000000000000000000000000000000000000e00ff001800000000000000000000000000000000000000000000000000000000000700070003000000000000000000000000000000000000000f00db00010001000f0007000f0000000000000000000000000000000000000000000000010007000100070001000000000000000000000000000000000000000000000000000000000000000000ff8dff s (State.evaluateRun s run) := by
  unfold State.evaluateRun
  repeat' first
      | with_reducible exact Keeps.refl
      | with_reducible assumption
      | with_reducible refine Keeps.ite ?_ ?_
      | (with_reducible apply Keeps.setFld; · decide)
      | (with_reducible apply Keeps.step (State.raise_keeps ..); · decide)
      | (with_reducible apply Keeps.step (State.twinCount_keeps ..); · decide)
      | (with_reducible apply Keeps.step (State.setTwinCol_keeps ..); · decide)
      | (with_reducible apply Keeps.step (State.enterTwin_keeps ..); · decide)
      | (with_reducible apply Keeps.step (State.setCompare_keeps ..); · decide)
      | (with_reducible refine Keeps.foldl (fun _ _ _ => ?_) ?_)
      | extract_lets
      | intro _
      | split
      | (dsimp +zetaDelta only; split)

theorem State.divergedCheck_keeps (s : State) : Keeps 0x5000000000000000000000000000000000000000000000000000f00ff007e00010000000000000000000000000000000000000000000000000000000700070003000000000000000000000000000000000000000f00db00010001000f0007000f00000000000000000000000000000000000000000000000b0007000100070001000000000000000000000000000000000000000000000000000000000000000001ffffff s (State.divergedCheck s) := by
  unfold State.divergedCheck
  repeat' first
      | with_reducible exact Keeps.refl
      | with_reducible assumption
      | with_reducible refine Keeps.ite ?_ ?_
      | (with_reducible apply Keeps.step (State.setTwinCol_keeps ..); · decide)
      | extract_lets
      | intro _
      | split
      | (dsimp +zetaDelta only; split)

theorem State.compareQuire_keeps (s : State) (q : Nat) : Keeps 0x5000000000000000000000000000000000000000000000000000e00ff001800000000000000000000000000000000000000000000000000000000000700070003000000000000000000000000000000000000000f00db00010001000f0007000f0000000000000000000000000000000000000000000000010007000100070001000000000000000000000000000000000000000000000000000000000000000000ff8dff s (State.compareQuire s q) := by
  unfold State.compareQuire
  repeat' first
      | with_reducible exact Keeps.refl
      | with_reducible assumption
      | with_reducible refine Keeps.ite ?_ ?_
      | (with_reducible apply Keeps.setRow; · decide)
      | (with_reducible apply Keeps.step (State.twinCount_keeps ..); · decide)
      | (with_reducible apply Keeps.step (State.enterTwin_keeps ..); · decide)
      | (with_reducible apply Keeps.step (State.setCompare_keeps ..); · decide)
      | (with_reducible apply Keeps.step (State.evaluateRun_keeps ..); · decide)
      | (with_reducible apply Keeps.step (State.divergedCheck_keeps ..); · decide)
      | extract_lets
      | intro _
      | split
      | (dsimp +zetaDelta only; split)

theorem execBeatSend_keeps (s0 : State) : Keeps 0x5000000000000000000000000000000000000000000000000000f00ff007e00010000000000000000000000000000000000000000000000000000000700070003000000000000000000000000000000000000000f00db00010001000f0007000f00000000000000000000000000000000000000000000000b0007000300070001000000000000000000000000000000000000000000000000000000000000000000fffefd s0 (execBeatSend s0) := by
  unfold execBeatSend
  repeat' first
      | with_reducible exact Keeps.refl
      | with_reducible assumption
      | with_reducible refine Keeps.ite ?_ ?_
      | (with_reducible apply Keeps.step (State.advanceTo_keeps ..); · decide)
      | (with_reducible apply Keeps.step (State.setTwin_keeps ..); · decide)
      | extract_lets
      | intro _
      | split
      | (dsimp +zetaDelta only; split)

theorem execHeartbeatSend_keeps (s0 : State) : Keeps 0x5000000000000000000000000000000000000000000000000000f00ff001e00000000000000000000000000000000000000000000000000000000000700070003000000000000000000000000000000000000000f00db00010001000f0007000f0000000000000000000000000000000000000000000000010007000300070001000000000000000000000000000000000000000000000000000000000000000000ffacfd s0 (execHeartbeatSend s0) := by
  unfold execHeartbeatSend
  repeat' first
      | with_reducible exact Keeps.refl
      | with_reducible assumption
      | with_reducible refine Keeps.ite ?_ ?_
      | (with_reducible apply Keeps.step (State.advanceTo_keeps ..); · decide)
      | (with_reducible apply Keeps.step (State.sendMsg_keeps ..); · decide)
      | (with_reducible apply Keeps.step (State.setTwin_keeps ..); · decide)
      | extract_lets
      | intro _
      | split
      | (dsimp +zetaDelta only; split)

theorem State.withdraw_keeps (s : State) : Keeps 0x5000000000000000000000000000000000000000000000000000e00ff001800000000000000000000000000000000000000000000000000000000000700070003000000000000000000000000000000000000000f00db00010001000f0007000f0000000000000000000000000000000000000000000000010007000100070001000000000000000000000000000000000000000000000000000000000000000000ff8dff s (State.withdraw s) := by
  unfold State.withdraw
  repeat' first
      | with_reducible exact Keeps.refl
      | with_reducible assumption
      | with_reducible refine Keeps.ite ?_ ?_
      | (with_reducible apply Keeps.step (State.raise_keeps ..); · decide)
      | (with_reducible apply Keeps.step (State.completeOpt_keeps ..); · decide)
      | (with_reducible apply Keeps.step (State.twinCount_keeps ..); · decide)
      | (with_reducible apply Keeps.step (State.setTwin_keeps ..); · decide)
      | (with_reducible apply Keeps.step (State.setTwinCol_keeps ..); · decide)
      | extract_lets
      | intro _
      | split
      | (dsimp +zetaDelta only; split)

theorem State.handshake_keeps (s : State) (p : Partner) : Keeps 0x5000000000000000000000000000000000000000000000000000e00ff001800000000000000000000000000000000000000000000000000000000000700070003000000000000000000000000000000000000000f00db00010001000f0007000f0000000000000000000000000000000000000000000000010007000100070001000000000000000000000000000000000000000000000000000000000000000000ff8dff s (State.handshake s p) := by
  unfold State.handshake
  repeat' first
      | with_reducible exact Keeps.refl
      | with_reducible assumption
      | with_reducible refine Keeps.ite ?_ ?_
      | (with_reducible apply Keeps.step (State.raise_keeps ..); · decide)
      | (with_reducible apply Keeps.step (State.twinCount_keeps ..); · decide)
      | (with_reducible apply Keeps.step (State.setTwin_keeps ..); · decide)
      | (with_reducible apply Keeps.step (State.setTwinCol_keeps ..); · decide)
      | (with_reducible apply Keeps.step (State.withdraw_keeps ..); · decide)
      | extract_lets
      | intro _
      | split
      | (dsimp +zetaDelta only; split)

theorem State.partnerHeard_keeps (s : State) (bs : List Byte) : Keeps 0x5000000000000000000000000000000000000000000000000000e00ef001800000000000000000000000000000000000000000000000000000000000700070003000000000000000000000000000000000000000f00db00010001000f0007000f0000000000000000000000000000000000000000000000010007000100070001000000000000000000000000000000000000000000000000000000000000000000df8ddb s (State.partnerHeard s bs) := by
  unfold State.partnerHeard
  repeat' first
      | with_reducible exact Keeps.refl
      | with_reducible assumption
      | with_reducible refine Keeps.ite ?_ ?_
      | (with_reducible apply Keeps.step (State.raiseIf_keeps ..); · decide)
      | (with_reducible apply Keeps.step (State.setTwin_keeps ..); · decide)
      | (with_reducible apply Keeps.step (State.setTwinCol_keeps ..); · decide)
      | (with_reducible apply Keeps.step (State.setCompare_keeps ..); · decide)
      | (with_reducible apply Keeps.step (State.twinReceives_keeps ..); · decide)
      | (with_reducible apply Keeps.step (State.bermQuench_keeps ..); · decide)
      | (with_reducible apply Keeps.step (State.compareQuire_keeps ..); · decide)
      | (with_reducible apply Keeps.step (State.handshake_keeps ..); · decide)
      | (with_reducible refine Keeps.foldl (fun _ _ _ => ?_) ?_)
      | extract_lets
      | intro _
      | split
      | (dsimp +zetaDelta only; split)

theorem execDikeBeat_keeps (at_ : Nat) (bs : List Byte) (s0 : State) : Keeps 0x5000000000000000000000000000000000000000000000000000e00ef001800000000000000000000000000000000000000000000000000000000000700070003000000000000000000000000000000000000000f00db00010001000f0007000f0000000000000000000000000000000000000000000000010007000100070001000000000000000000000000000000000000000000000000000000000000000000df8cd9 s0 (execDikeBeat at_ bs s0) := by
  unfold execDikeBeat
  repeat' first
      | with_reducible exact Keeps.refl
      | with_reducible assumption
      | with_reducible refine Keeps.ite ?_ ?_
      | (with_reducible apply Keeps.step (State.advanceTo_keeps ..); · decide)
      | (with_reducible apply Keeps.step (State.twinCount_keeps ..); · decide)
      | (with_reducible apply Keeps.step (State.setTwin_keeps ..); · decide)
      | (with_reducible apply Keeps.step (State.setDike_keeps ..); · decide)
      | (with_reducible apply Keeps.step (State.twinSettle_keeps ..); · decide)
      | (with_reducible apply Keeps.step (State.partnerHeard_keeps ..); · decide)
      | extract_lets
      | intro _
      | split
      | (dsimp +zetaDelta only; split)

theorem State.heartbeatHeard_keeps (s : State) (srcMac : Nat) (bs : List Byte) : Keeps 0x5000000000000000000000000000000000000000000000000000e00ef001800000000000000000000000000000000000000000000000000000000000700070003000000000000000000000000000000000000000f00db00010001000f0007000f0000000000000000000000000000000000000000000000010007000100070001000000000000000000000000000000000000000000000000000000000000000000df8ddb s (State.heartbeatHeard s srcMac bs) := by
  unfold State.heartbeatHeard
  repeat' first
      | with_reducible exact Keeps.refl
      | with_reducible assumption
      | with_reducible refine Keeps.ite ?_ ?_
      | (with_reducible apply Keeps.step (State.setTwin_keeps ..); · decide)
      | (with_reducible apply Keeps.step (State.setChain_keeps ..); · decide)
      | (with_reducible apply Keeps.step (State.partnerHeard_keeps ..); · decide)
      | extract_lets
      | intro _
      | split
      | (dsimp +zetaDelta only; split)

theorem execDikeDropped_keeps (s : State) : Keeps 0x5000000000000000000000000000000000000000000000000000e00ef001800000000000000000000000000000000000000000000000000000000000700070003000000000000000000000000000000000000000f00db00010001000f0007000f0000000000000000000000000000000000000000000000010007000100070001000000000000000000000000000000000000000000000000000000000000000000df8ddb s (execDikeDropped s) := by
  unfold execDikeDropped
  repeat' first
      | with_reducible exact Keeps.refl
      | with_reducible assumption
      | with_reducible refine Keeps.ite ?_ ?_
      | (with_reducible apply Keeps.step (State.setDike_keeps ..); · decide)
      | (with_reducible apply Keeps.step (State.twinSettle_keeps ..); · decide)
      | (with_reducible apply Keeps.step (State.bermQuench_keeps ..); · decide)
      | extract_lets
      | intro _
      | split
      | (dsimp +zetaDelta only; split)

theorem execDikeDown_keeps (s : State) : Keeps 0x5000000000000000000000000000000000000000000000000000e00ef001800000000000000000000000000000000000000000000000000000000000700070003000000000000000000000000000000000000000f00db00010001000f0007000f0000000000000000000000000000000000000000000000010007000100070001000000000000000000000000000000000000000000000000000000000000000000df8ddb s (execDikeDown s) := by
  unfold execDikeDown
  repeat' first
      | with_reducible exact Keeps.refl
      | with_reducible assumption
      | with_reducible refine Keeps.ite ?_ ?_
      | (with_reducible apply Keeps.step (State.setDike_keeps ..); · decide)
      | (with_reducible apply Keeps.step (State.twinSettle_keeps ..); · decide)
      | (with_reducible apply Keeps.step (State.bermQuench_keeps ..); · decide)
      | extract_lets
      | intro _
      | split
      | (dsimp +zetaDelta only; split)

theorem execDikeBeatTimeout_keeps (s : State) : Keeps 0x5000000000000000000000000000000000000000000000000000e00ef001800000000000000000000000000000000000000000000000000000000000700070003000000000000000000000000000000000000000f00db00010001000f0007000f0000000000000000000000000000000000000000000000010007000100070001000000000000000000000000000000000000000000000000000000000000000000df8cd9 s (execDikeBeatTimeout s) := by
  unfold execDikeBeatTimeout
  repeat' first
      | with_reducible exact Keeps.refl
      | with_reducible assumption
      | with_reducible refine Keeps.ite ?_ ?_
      | (with_reducible apply Keeps.step (State.advanceTo_keeps ..); · decide)
      | (with_reducible apply Keeps.step (State.setDike_keeps ..); · decide)
      | (with_reducible apply Keeps.step (State.twinSettle_keeps ..); · decide)
      | (with_reducible apply Keeps.step (State.bermQuench_keeps ..); · decide)
      | extract_lets
      | intro _
      | split
      | (dsimp +zetaDelta only; split)

theorem execChainTimeout_keeps (s : State) : Keeps 0x5000000000000000000000000000000000000000000000000000e00ef001800000000000000000000000000000000000000000000000000000000000700070003000000000000000000000000000000000000000f00db00010001000f0007000f0000000000000000000000000000000000000000000000010007000100070001000000000000000000000000000000000000000000000000000000000000000000df8cd9 s (execChainTimeout s) := by
  unfold execChainTimeout
  repeat' first
      | with_reducible exact Keeps.refl
      | with_reducible assumption
      | with_reducible refine Keeps.ite ?_ ?_
      | (with_reducible apply Keeps.step (State.advanceTo_keeps ..); · decide)
      | (with_reducible apply Keeps.step (State.setChain_keeps ..); · decide)
      | (with_reducible apply Keeps.step (State.twinSettle_keeps ..); · decide)
      | (with_reducible apply Keeps.step (State.bermQuench_keeps ..); · decide)
      | extract_lets
      | intro _
      | split
      | (dsimp +zetaDelta only; split)

theorem State.pathsDue_keeps (s : State) : Keeps 0x5000000000000000000000000000000000000000000000000000e00ef001800000000000000000000000000000000000000000000000000000000000700070003000000000000000000000000000000000000000f00db00010001000f0007000f0000000000000000000000000000000000000000000000010007000100070001000000000000000000000000000000000000000000000000000000000000000000df8ddb s (State.pathsDue s) := by
  unfold State.pathsDue
  repeat' first
      | with_reducible exact Keeps.refl
      | with_reducible assumption
      | with_reducible refine Keeps.ite ?_ ?_
      | (with_reducible apply Keeps.step (State.setDike_keeps ..); · decide)
      | (with_reducible apply Keeps.step (State.setChain_keeps ..); · decide)
      | (with_reducible apply Keeps.step (State.twinSettle_keeps ..); · decide)
      | (with_reducible apply Keeps.step (State.bermQuench_keeps ..); · decide)
      | extract_lets
      | intro _
      | split
      | (dsimp +zetaDelta only; split)

theorem execPartnerOut_keeps (s : State) : Keeps 0x5000000000000000000000000000000000000000000000000000e00ff001800000000000000000000000000000000000000000000000000000000000700070003000000000000000000000000000000000000000f00db00010001000f0007000f0000000000000000000000000000000000000000000000010007000100070001000000000000000000000000000000000000000000000000000000000000000000ff8cfd s (execPartnerOut s) := by
  unfold execPartnerOut
  repeat' first
      | with_reducible exact Keeps.refl
      | with_reducible assumption
      | with_reducible refine Keeps.ite ?_ ?_
      | (with_reducible apply Keeps.step (State.advanceTo_keeps ..); · decide)
      | (with_reducible apply Keeps.step (State.twinSettle_keeps ..); · decide)
      | extract_lets
      | intro _
      | split
      | (dsimp +zetaDelta only; split)

theorem execJoinTimeout_keeps (s : State) : Keeps 0x5000000000000000000000000000000000000000000000000000e00ff001800000000000000000000000000000000000000000000000000000000000700070003000000000000000000000000000000000000000f00db00010001000f0007000f0000000000000000000000000000000000000000000000010007000100070001000000000000000000000000000000000000000000000000000000000000000000ff8cfd s (execJoinTimeout s) := by
  unfold execJoinTimeout
  repeat' first
      | with_reducible exact Keeps.refl
      | with_reducible assumption
      | with_reducible refine Keeps.ite ?_ ?_
      | (with_reducible apply Keeps.step (State.advanceTo_keeps ..); · decide)
      | (with_reducible apply Keeps.step (State.twinSettle_keeps ..); · decide)
      | extract_lets
      | intro _
      | split
      | (dsimp +zetaDelta only; split)

theorem execHoldElapsed_keeps (s0 : State) : Keeps 0x5000000000000000000000000000000000000000000000000000e00ff001800000000000000000000000000000000000000000000000000000000000700070003000000000000000000000000000000000000000f00db00010001000f0007000f0000000000000000000000000000000000000000000000010007000100070001000000000000000000000000000000000000000000000000000000000000000000ff8cfd s0 (execHoldElapsed s0) := by
  unfold execHoldElapsed
  repeat' first
      | with_reducible exact Keeps.refl
      | with_reducible assumption
      | with_reducible refine Keeps.ite ?_ ?_
      | (with_reducible apply Keeps.step (State.advanceTo_keeps ..); · decide)
      | (with_reducible apply Keeps.step (State.setTwin_keeps ..); · decide)
      | (with_reducible apply Keeps.step (State.enterTwin_keeps ..); · decide)
      | (with_reducible apply Keeps.step (State.twinSettle_keeps ..); · decide)
      | extract_lets
      | intro _
      | split
      | (dsimp +zetaDelta only; split)

theorem execRevertReq_keeps (s0 : State) : Keeps 0x5000000000000000000000000000000000000000000000000000f00ff007e00010000000000000000000000000000000000000000000000000000000700070003000000000000000000000000000000000000000f00db00010001000f0007000f00000000000000000000000000000000000000000000000b0007000300070001000000000000000000000000000000000000000000000000000000000000000000fffefd s0 (execRevertReq s0) := by
  unfold execRevertReq
  repeat' first
      | with_reducible exact Keeps.refl
      | with_reducible assumption
      | with_reducible refine Keeps.ite ?_ ?_
      | (with_reducible apply Keeps.step (State.advanceTo_keeps ..); · decide)
      | (with_reducible apply Keeps.step (State.setTwin_keeps ..); · decide)
      | extract_lets
      | intro _
      | split
      | (dsimp +zetaDelta only; split)

theorem execHandover_keeps (s : State) : Keeps 0x5000000000000000000000000000000000000000000000000000e00ef001800000000000000000000000000000000000000000000000000000000000700070003000000000000000000000000000000000000000f00db00010001000f0007000f0000000000000000000000000000000000000000000000010007000100070001000000000000000000000000000000000000000000000000000000000000000000df8cd9 s (execHandover s) := by
  unfold execHandover
  repeat' first
      | with_reducible exact Keeps.refl
      | with_reducible assumption
      | with_reducible refine Keeps.ite ?_ ?_
      | (with_reducible apply Keeps.step (State.advanceTo_keeps ..); · decide)
      | (with_reducible apply Keeps.step (State.pathsDue_keeps ..); · decide)
      | extract_lets
      | intro _
      | split
      | (dsimp +zetaDelta only; split)

theorem execHandoverWithdraw_keeps (s0 : State) : Keeps 0x5000000000000000000000000000000000000000000000000000e00ff001800000000000000000000000000000000000000000000000000000000000700070003000000000000000000000000000000000000000f00db00010001000f0007000f0000000000000000000000000000000000000000000000010007000100070001000000000000000000000000000000000000000000000000000000000000000000ff8cfd s0 (execHandoverWithdraw s0) := by
  unfold execHandoverWithdraw
  repeat' first
      | with_reducible exact Keeps.refl
      | with_reducible assumption
      | with_reducible refine Keeps.ite ?_ ?_
      | (with_reducible apply Keeps.step (State.advanceTo_keeps ..); · decide)
      | (with_reducible apply Keeps.step (State.withdraw_keeps ..); · decide)
      | extract_lets
      | intro _
      | split
      | (dsimp +zetaDelta only; split)

theorem writeDemote_keeps (v : Nat) (s0 : State) : Keeps 0x5000000000000000000000000000000000000000000000000000e00ff001800000000000000000000000000000000000000000000000000000000000700070003000000000000000000000000000000000000000f00db00010001000f0007000f0000000000000000000000000000000000000000000000010007000100070001000000000000000000000000000000000000000000000000000000000000000000ff8dff s0 (writeDemote v s0).st := by
  unfold writeDemote
  repeat' first
      | with_reducible exact Keeps.refl
      | with_reducible assumption
      | with_reducible refine Keeps.ite ?_ ?_
      | (with_reducible apply Keeps.step (done_keeps ..); · decide)
      | (with_reducible apply Keeps.step (State.enterTwin_keeps ..); · decide)
      | (with_reducible apply Keeps.step (State.twinSettle_keeps ..); · decide)
      | extract_lets
      | intro _
      | split
      | (dsimp +zetaDelta only; split)

theorem writeHandoverAt_keeps (w : Who) (v : Nat) (s0 : State) : Keeps 0x5000000000000000000000000000000000000000000000000000e00ff001800000000000000000000000000000000000000000000000000000000000700070003000000000000000000000000000000000000000f00db00010001000f0007000f0000000000000000000000000000000000000000000000010007000100070001000000000000000000000000000000000000000000000000000000000000000000ff8dff s0 (writeHandoverAt w v s0).st := by
  unfold writeHandoverAt
  repeat' first
      | with_reducible exact Keeps.refl
      | with_reducible assumption
      | with_reducible refine Keeps.ite ?_ ?_
      | (with_reducible apply Keeps.step (refuse_keeps ..); · decide)
      | (with_reducible apply Keeps.step (done_keeps ..); · decide)
      | (with_reducible apply Keeps.step (State.setTwin_keeps ..); · decide)
      | (with_reducible apply Keeps.step (State.setTwinCol_keeps ..); · decide)
      | (with_reducible apply Keeps.step (State.withdraw_keeps ..); · decide)
      | extract_lets
      | intro _
      | split
      | (dsimp +zetaDelta only; split)

theorem writeRejoin_keeps (v : Nat) (s : State) : Keeps 0x5000000000000000000000000000000000000000000000000000e00ff001800000000000000000000000000000000000000000000000000000000000700070003000000000000000000000000000000000000000f00db00010001000f0007000f0000000000000000000000000000000000000000000000010007000100070001000000000000000000000000000000000000000000000000000000000000000000ff8dff s (writeRejoin v s).st := by
  unfold writeRejoin
  repeat' first
      | with_reducible exact Keeps.refl
      | with_reducible assumption
      | with_reducible refine Keeps.ite ?_ ?_
      | (with_reducible apply Keeps.step (done_keeps ..); · decide)
      | (with_reducible apply Keeps.step (State.enterTwin_keeps ..); · decide)
      | (with_reducible apply Keeps.step (State.twinSettle_keeps ..); · decide)
      | extract_lets
      | intro _
      | split
      | (dsimp +zetaDelta only; split)

end Sys2Proof.Machine
end

