-- ==== Sys2Proof/Laws/KeepsQuire.lean ====
section
/-! SUPPORT. What each operation of Machine/Quire.lean leaves alone. -/

set_option linter.all false
namespace Sys2Proof.Machine

theorem State.requestDone_keeps (s : State) (q : Nat) (r : Request) (status : Nat) : Keeps 0x5000000000000000000000000000000000000000000000000000e00ff001c00000000000000000000000000000000000000000000000000000000000700070003000000000000000000000000000000000000000f00db00010001000f0007000f0000000000000000000000000000000000000000000000010007000300070001000000000000000000000000000000000000000000000000000000000000000001ef8dff s (State.requestDone s q r status) := by
  unfold State.requestDone
  repeat' first
      | with_reducible exact Keeps.refl
      | with_reducible assumption
      | with_reducible refine Keeps.ite ?_ ?_
      | (with_reducible apply Keeps.step (State.completeTask_keeps ..); · decide)
      | (with_reducible apply Keeps.step (State.quireSum_keeps ..); · decide)
      | extract_lets
      | intro _
      | split
      | (dsimp +zetaDelta only; split)

theorem State.dropRequests_keeps (s : State) (q : Nat) : Keeps 0x5000000000000000000000000000000000000000000000000000e00ff001c00000000000000000000000000000000000000000000000000000000000700070003000000000000000000000000000000000000000f00db00010001000f0007000f0000000000000000000000000000000000000000000000010007000300070001000000000000000000000000000000000000000000000000000000000000000001ef8dff s (State.dropRequests s q) := by
  unfold State.dropRequests
  repeat' first
      | with_reducible exact Keeps.refl
      | with_reducible assumption
      | with_reducible refine Keeps.ite ?_ ?_
      | (with_reducible apply Keeps.step (State.setQuire_keeps ..); · decide)
      | (with_reducible apply Keeps.step (State.requestDone_keeps ..); · decide)
      | (with_reducible refine Keeps.foldl (fun _ _ _ => ?_) ?_)
      | extract_lets
      | intro _
      | split
      | (dsimp +zetaDelta only; split)

theorem State.leaveRunning_keeps (s : State) (q : Nat) : Keeps 0x5000000000000000000000000000000000000000000000000000f00df007e00000000000000000000000000000000000000000000000000000000000700070003000000000000000000000000000000000000000f00cb00010001000f0007000f00000000000000000000000000000000000000000000000b00070003000700010000000000000000000000000000000000000000000000000000000000000000019fedff s (State.leaveRunning s q) := by
  unfold State.leaveRunning
  repeat' first
      | with_reducible exact Keeps.refl
      | with_reducible assumption
      | with_reducible refine Keeps.ite ?_ ?_
      | (with_reducible apply Keeps.step (State.setStrand_keeps ..); · decide)
      | (with_reducible apply Keeps.step (State.regionCut_keeps ..); · decide)
      | (with_reducible refine Keeps.foldl (fun _ _ _ => ?_) ?_)
      | extract_lets
      | intro _
      | split
      | (dsimp +zetaDelta only; split)

theorem State.applyTaps_keeps (s : State) (q c : Nat) : Keeps 0x5000000000000000000000000000000000000000000000000000f007f007e00010000000000000000000000000000000000000000000000000000000700070003000000000000000000000000000000000000000d00db00010001000f0007000f00000000000000000000000000000000000000000000000b00070003000700010000000000000000000000000000000000000000000000000000000000000000016fffff s (State.applyTaps s q c) := by
  unfold State.applyTaps
  repeat' first
      | with_reducible exact Keeps.refl
      | with_reducible assumption
      | with_reducible refine Keeps.ite ?_ ?_
      | (with_reducible apply Keeps.setRow; · decide)
      | (with_reducible apply Keeps.bump; · decide)
      | (with_reducible apply Keeps.step (State.setQuire_keeps ..); · decide)
      | (with_reducible refine Keeps.foldl (fun _ _ _ => ?_) ?_)
      | extract_lets
      | intro _
      | split
      | (with_reducible apply Keeps.set_cal; (case h0 => decide))
      | (dsimp +zetaDelta only; split)

theorem State.quireTo_keeps (s : State) (q st : Nat) : Keeps 0x5000000000000000000000000000000000000000000000000000e005f001c00000000000000000000000000000000000000000000000000000000000700070003000000000000000000000000000000000000000d00c800000001000f0006000f0000000000000000000000000000000000000000000000010007000300070001000000000000000000000000000000000000000000000000000000000000000001070dcf s (State.quireTo s q st) := by
  unfold State.quireTo
  repeat' first
      | with_reducible exact Keeps.refl
      | with_reducible assumption
      | with_reducible refine Keeps.ite ?_ ?_
      | (with_reducible apply Keeps.step (State.drainCheck_keeps ..); · decide)
      | (with_reducible apply Keeps.step (State.setQuire_keeps ..); · decide)
      | (with_reducible apply Keeps.step (State.driveQuire_keeps ..); · decide)
      | (with_reducible apply Keeps.step (State.setQuireState_keeps ..); · decide)
      | (with_reducible apply Keeps.step (State.clearBoth_keeps ..); · decide)
      | (with_reducible apply Keeps.step (State.bindFrames_keeps ..); · decide)
      | (with_reducible apply Keeps.step (State.dropRequests_keeps ..); · decide)
      | (with_reducible apply Keeps.step (State.leaveRunning_keeps ..); · decide)
      | (with_reducible apply Keeps.step (State.applyTaps_keeps ..); · decide)
      | extract_lets
      | intro _
      | split
      | (dsimp +zetaDelta only; split)

theorem State.setRunPending_keeps (s : State) (q : Nat) (b : Bool) : Keeps 0x5000000000000000000000000000000000000000000000000000f00ff007e00010000000000000000000000000000000000000000000000000000000700070003000000000000000000000000000000000000000f00db00000001000f0007000f00000000000000000000000000000000000000000000000b0007000300070001000000000000000000000000000000000000000000000000000000000000000001ffffff s (State.setRunPending s q b) := by
  unfold State.setRunPending
  repeat' first
      | with_reducible exact Keeps.refl
      | with_reducible assumption
      | with_reducible refine Keeps.ite ?_ ?_
      | (with_reducible apply Keeps.setFld; · decide)
      | extract_lets
      | intro _
      | split
      | (dsimp +zetaDelta only; split)

theorem State.quireStart_keeps (s : State) (q : Nat) : Keeps 0x5000000000000000000000000000000000000000000000000000e005f001c00000000000000000000000000000000000000000000000000000000000700070003000000000000000000000000000000000000000d00c800000001000f0006000f0000000000000000000000000000000000000000000000010007000300070001000000000000000000000000000000000000000000000000000000000000000001070dcf s (State.quireStart s q) := by
  unfold State.quireStart
  repeat' first
      | with_reducible exact Keeps.refl
      | with_reducible assumption
      | with_reducible refine Keeps.ite ?_ ?_
      | (with_reducible apply Keeps.step (State.setQuire_keeps ..); · decide)
      | (with_reducible apply Keeps.step (State.quireTo_keeps ..); · decide)
      | (with_reducible apply Keeps.step (State.setRunPending_keeps ..); · decide)
      | extract_lets
      | intro _
      | split
      | (dsimp +zetaDelta only; split)

theorem State.quireRun_keeps (s : State) (q : Nat) (written : Bool) : Keeps 0x5000000000000000000000000000000000000000000000000000e005f001c00000000000000000000000000000000000000000000000000000000000700070003000000000000000000000000000000000000000d00c800000001000f0006000f0000000000000000000000000000000000000000000000010007000300070001000000000000000000000000000000000000000000000000000000000000000001070dcf s (State.quireRun s q written).2 := by
  unfold State.quireRun
  repeat' first
      | with_reducible exact Keeps.refl
      | with_reducible assumption
      | with_reducible refine Keeps.ite ?_ ?_
      | with_reducible refine Keeps.ite_snd ?_ ?_
      | (with_reducible apply Keeps.step (State.quireSum_keeps ..); · decide)
      | (with_reducible apply Keeps.step (State.quireTo_keeps ..); · decide)
      | (with_reducible apply Keeps.step (State.setRunPending_keeps ..); · decide)
      | (with_reducible apply Keeps.step (State.quireStart_keeps ..); · decide)
      | extract_lets
      | intro _
      | split
      | (dsimp +zetaDelta only; split)

theorem State.quireRun_keeps' (s : State) (q : Nat) (written : Bool) {α_ : _} {t_ : State} (he : State.quireRun s q written = (α_, t_)) : Keeps 0x5000000000000000000000000000000000000000000000000000e005f001c00000000000000000000000000000000000000000000000000000000000700070003000000000000000000000000000000000000000d00c800000001000f0006000f0000000000000000000000000000000000000000000000010007000300070001000000000000000000000000000000000000000000000000000000000000000001070dcf s t_ := by
  have h := State.quireRun_keeps s q written
  rw [he] at h
  exact h

theorem State.quireDrain_keeps (s : State) (q target : Nat) : Keeps 0x5000000000000000000000000000000000000000000000000000e005f001c00000000000000000000000000000000000000000000000000000000000700070003000000000000000000000000000000000000000d00c800000001000f0006000f0000000000000000000000000000000000000000000000010007000300070001000000000000000000000000000000000000000000000000000000000000000001070dcf s (State.quireDrain s q target) := by
  unfold State.quireDrain
  repeat' first
      | with_reducible exact Keeps.refl
      | with_reducible assumption
      | with_reducible refine Keeps.ite ?_ ?_
      | (with_reducible apply Keeps.step (State.setQuire_keeps ..); · decide)
      | (with_reducible apply Keeps.step (State.quireTo_keeps ..); · decide)
      | extract_lets
      | intro _
      | split
      | (dsimp +zetaDelta only; split)

theorem State.quireModeTo_keeps (s : State) (q m : Nat) (written : Bool) : Keeps 0x5000000000000000000000000000000000000000000000000000e005f001c00000000000000000000000000000000000000000000000000000000000700070003000000000000000000000000000000000000000d00c800000001000f0006000f0000000000000000000000000000000000000000000000010007000300070001000000000000000000000000000000000000000000000000000000000000000001070dcf s (State.quireModeTo s q m written).2 := by
  unfold State.quireModeTo
  repeat' first
      | with_reducible exact Keeps.refl
      | with_reducible assumption
      | with_reducible refine Keeps.ite ?_ ?_
      | with_reducible refine Keeps.ite_snd ?_ ?_
      | (with_reducible apply Keeps.step (State.setQuire_keeps ..); · decide)
      | (with_reducible apply Keeps.step (State.quireTo_keeps ..); · decide)
      | (with_reducible apply Keeps.step (State.setRunPending_keeps ..); · decide)
      | (with_reducible apply Keeps.step (State.quireRun_keeps ..); · decide)
      | (with_reducible apply Keeps.step (State.quireDrain_keeps ..); · decide)
      | extract_lets
      | intro _
      | split
      | (dsimp +zetaDelta only; split)

theorem State.quireModeTo_keeps' (s : State) (q m : Nat) (written : Bool) {α_ : _} {t_ : State} (he : State.quireModeTo s q m written = (α_, t_)) : Keeps 0x5000000000000000000000000000000000000000000000000000e005f001c00000000000000000000000000000000000000000000000000000000000700070003000000000000000000000000000000000000000d00c800000001000f0006000f0000000000000000000000000000000000000000000000010007000300070001000000000000000000000000000000000000000000000000000000000000000001070dcf s t_ := by
  have h := State.quireModeTo_keeps s q m written
  rw [he] at h
  exact h

theorem writeQuireMode_keeps (q m : Nat) (s : State) : Keeps 0x5000000000000000000000000000000000000000000000000000e005f001c00000000000000000000000000000000000000000000000000000000000700070003000000000000000000000000000000000000000d00c800000001000f0006000f0000000000000000000000000000000000000000000000010007000300070001000000000000000000000000000000000000000000000000000000000000000001070dcf s (writeQuireMode q m s).st := by
  unfold writeQuireMode
  repeat' first
      | with_reducible exact Keeps.refl
      | with_reducible assumption
      | with_reducible refine Keeps.ite ?_ ?_
      | (with_reducible apply Keeps.setFld; · decide)
      | (with_reducible apply Keeps.step (refuse_keeps ..); · decide)
      | (with_reducible apply Keeps.step (done_keeps ..); · decide)
      | (with_reducible apply Keeps.step (State.setQuire_keeps ..); · decide)
      | (with_reducible apply Keeps.step (State.quireModeTo_keeps ..); · decide)
      | extract_lets
      | intro _
      | split
      | (dsimp +zetaDelta only; split)

theorem State.quireLatched_keeps (s : State) (q : Nat) : Keeps 0x5000000000000000000000000000000000000000000000000000e005f001c00000000000000000000000000000000000000000000000000000000000700070003000000000000000000000000000000000000000d00c800000001000f0006000f0000000000000000000000000000000000000000000000010007000300070001000000000000000000000000000000000000000000000000000000000000000001070dcf s (State.quireLatched s q) := by
  unfold State.quireLatched
  repeat' first
      | with_reducible exact Keeps.refl
      | with_reducible assumption
      | with_reducible refine Keeps.ite ?_ ?_
      | (with_reducible apply Keeps.step (State.setQuire_keeps ..); · decide)
      | (with_reducible apply Keeps.step (State.quireModeTo_keeps' (he := by assumption) ..); · decide)
      | (with_reducible apply Keeps.step (State.quireModeTo_keeps ..); · decide)
      | extract_lets
      | intro _
      | split
      | (dsimp +zetaDelta only; split)

theorem State.pendingRuns_keeps (s : State) (h : Nat) : Keeps 0x5000000000000000000000000000000000000000000000000000e005f001c00000000000000000000000000000000000000000000000000000000000700070003000000000000000000000000000000000000000d00c800000001000f0006000f0000000000000000000000000000000000000000000000010007000300070001000000000000000000000000000000000000000000000000000000000000000001070dcf s (State.pendingRuns s h) := by
  unfold State.pendingRuns
  repeat' first
      | with_reducible exact Keeps.refl
      | with_reducible assumption
      | with_reducible refine Keeps.ite ?_ ?_
      | (with_reducible apply Keeps.step (State.quireModeTo_keeps ..); · decide)
      | (with_reducible refine Keeps.foldl (fun _ _ _ => ?_) ?_)
      | extract_lets
      | intro _
      | split
      | (dsimp +zetaDelta only; split)

theorem State.loadQuireModes_keeps (s : State) : Keeps 0x5000000000000000000000000000000000000000000000000000e005f001c00000000000000000000000000000000000000000000000000000000000700070003000000000000000000000000000000000000000d00c800000001000f0006000f0000000000000000000000000000000000000000000000010007000300070001000000000000000000000000000000000000000000000000000000000000000001070dcf s (State.loadQuireModes s) := by
  unfold State.loadQuireModes
  repeat' first
      | with_reducible exact Keeps.refl
      | with_reducible assumption
      | with_reducible refine Keeps.ite ?_ ?_
      | (with_reducible apply Keeps.step (State.quireModeTo_keeps ..); · decide)
      | (with_reducible refine Keeps.foldl (fun _ _ _ => ?_) ?_)
      | extract_lets
      | intro _
      | split
      | (dsimp +zetaDelta only; split)

theorem State.gapFrame_keeps (s : State) (st done_ : Nat) (f : CamegFrame) : Keeps 0x5000000000000000000000000000000000000000000000000000f00ff007e00010000000000000000000000000000000000000000000000000000000700070003000000000000000000000000000000000000000f00db00010001000f0007000f00000000000000000000000000000000000000000000000b0007000300070001000000000000000000000000000000000000000000000000000000000000000001dfffff s (State.gapFrame s st done_ f) := by
  unfold State.gapFrame
  repeat' first
      | with_reducible exact Keeps.refl
      | with_reducible assumption
      | with_reducible refine Keeps.ite ?_ ?_
      | (with_reducible apply Keeps.step (State.setStrand_keeps ..); · decide)
      | (with_reducible apply Keeps.step (State.putFrame_keeps ..); · decide)
      | extract_lets
      | intro _
      | split
      | (dsimp +zetaDelta only; split)

theorem State.sendBroadcast_keeps (s : State) (b : Broadcast) : Keeps 0x5000000000000000000000000000000000000000000000000000f00ef007e00010000000000000000000000000000000000000000000000000000000700070003000000000000000000000000000000000000000f00db00000001000f0007000f00000000000000000000000000000000000000000000000b0007000300070001000000000000000000000000000000000000000000000000000000000000000001cffffb s (State.sendBroadcast s b) := by
  unfold State.sendBroadcast
  repeat' first
      | with_reducible exact Keeps.refl
      | with_reducible assumption
      | with_reducible refine Keeps.ite ?_ ?_
      | (with_reducible apply Keeps.setFld; · decide)
      | (with_reducible apply Keeps.bump; · decide)
      | (with_reducible apply Keeps.step (State.drawNat_keeps' (he := by assumption) ..); · decide)
      | (with_reducible apply Keeps.step (State.drawNat_keeps ..); · decide)
      | (with_reducible apply Keeps.step (State.setQuire_keeps ..); · decide)
      | (with_reducible apply Keeps.step (State.gapFrame_keeps ..); · decide)
      | extract_lets
      | intro _
      | split
      | (dsimp +zetaDelta only; split)

theorem State.sendSelect_keeps (s : State) (q : Nat) : Keeps 0x5000000000000000000000000000000000000000000000000000f00ef007e00010000000000000000000000000000000000000000000000000000000700070003000000000000000000000000000000000000000f00db00010001000f0007000f00000000000000000000000000000000000000000000000b0007000300070001000000000000000000000000000000000000000000000000000000000000000001cffffb s (State.sendSelect s q) := by
  unfold State.sendSelect
  repeat' first
      | with_reducible exact Keeps.refl
      | with_reducible assumption
      | with_reducible refine Keeps.ite ?_ ?_
      | (with_reducible apply Keeps.bump; · decide)
      | (with_reducible apply Keeps.step (State.drawNat_keeps' (he := by assumption) ..); · decide)
      | (with_reducible apply Keeps.step (State.drawNat_keeps ..); · decide)
      | (with_reducible apply Keeps.step (State.setQuire_keeps ..); · decide)
      | (with_reducible apply Keeps.step (State.gapFrame_keeps ..); · decide)
      | (with_reducible refine Keeps.foldl (fun _ _ _ => ?_) ?_)
      | extract_lets
      | intro _
      | split
      | (dsimp +zetaDelta only; split)

theorem State.sendBroadcasts_keeps (s : State) (q : Nat) : Keeps 0x5000000000000000000000000000000000000000000000000000f00ef007e00010000000000000000000000000000000000000000000000000000000700070003000000000000000000000000000000000000000f00db00000001000f0007000f00000000000000000000000000000000000000000000000b0007000300070001000000000000000000000000000000000000000000000000000000000000000001cffffb s (State.sendBroadcasts s q) := by
  unfold State.sendBroadcasts
  repeat' first
      | with_reducible exact Keeps.refl
      | with_reducible assumption
      | with_reducible refine Keeps.ite ?_ ?_
      | (with_reducible apply Keeps.step (State.setQuire_keeps ..); · decide)
      | (with_reducible apply Keeps.step (State.sendBroadcast_keeps ..); · decide)
      | (with_reducible apply Keeps.step (State.sendSelect_keeps ..); · decide)
      | (with_reducible refine Keeps.foldl (fun _ _ _ => ?_) ?_)
      | extract_lets
      | intro _
      | split
      | (dsimp +zetaDelta only; split)

theorem State.oweGain_keeps (s : State) (st : Nat) : Keeps 0x5000000000000000000000000000000000000000000000000000f00df007e00010000000000000000000000000000000000000000000000000000000700070003000000000000000000000000000000000000000f00db00010001000f0007000f00000000000000000000000000000000000000000000000b0007000300070001000000000000000000000000000000000000000000000000000000000000000001cfffff s (State.oweGain s st) := by
  unfold State.oweGain
  repeat' first
      | with_reducible exact Keeps.refl
      | with_reducible assumption
      | with_reducible refine Keeps.ite ?_ ?_
      | (with_reducible apply Keeps.bump; · decide)
      | (with_reducible apply Keeps.step (State.setStrand_keeps ..); · decide)
      | (with_reducible apply Keeps.step (State.broadcast_keeps ..); · decide)
      | extract_lets
      | intro _
      | split
      | (dsimp +zetaDelta only; split)

theorem execFrameStart_keeps (st : Nat) (s0 : State) : Keeps 0x5000000000000000000000000000000000000000000000000000f00cf007e00010000000000000000000000000000000000000000000000000000000700070003000000000000000000000000000000000000000f00db00000001000f0007000f00000000000000000000000000000000000000000000000b0007000300070001000000000000000000000000000000000000000000000000000000000000000001cffef9 s0 (execFrameStart st s0) := by
  unfold execFrameStart
  repeat' first
      | with_reducible exact Keeps.refl
      | with_reducible assumption
      | with_reducible refine Keeps.ite ?_ ?_
      | (with_reducible apply Keeps.step (State.advanceTb_keeps ..); · decide)
      | (with_reducible apply Keeps.step (State.setQuire_keeps ..); · decide)
      | (with_reducible apply Keeps.step (State.setStrand_keeps ..); · decide)
      | (with_reducible apply Keeps.step (State.putFrame_keeps ..); · decide)
      | (with_reducible apply Keeps.step (State.sendBroadcasts_keeps ..); · decide)
      | (with_reducible apply Keeps.step (State.oweGain_keeps ..); · decide)
      | extract_lets
      | intro _
      | split
      | (dsimp +zetaDelta only; split)

theorem State.keepSignature_keeps (s : State) (q k : Nat) : Keeps 0x5000000000000000000000000000000000000000000000000000e00ff001800000000000000000000000000000000000000000000000000000000000700070003000000000000000000000000000000000000000f00db00010001000f0007000f0000000000000000000000000000000000000000000000010007000100070001000000000000000000000000000000000000000000000000000000000000000000ef8dff s (State.keepSignature s q k) := by
  unfold State.keepSignature
  repeat' first
      | with_reducible exact Keeps.refl
      | with_reducible assumption
      | with_reducible refine Keeps.ite ?_ ?_
      | (with_reducible apply Keeps.step (State.setQuire_keeps ..); · decide)
      | (with_reducible apply Keeps.step (State.compareQuire_keeps ..); · decide)
      | extract_lets
      | intro _
      | split
      | (dsimp +zetaDelta only; split)

theorem State.listenAnew_keeps (s : State) (st : Nat) : Keeps 0x5000000000000000000000000000000000000000000000000000f00ff007e00010000000000000000000000000000000000000000000000000000000700070003000000000000000000000000000000000000000f00db00010001000f0007000f00000000000000000000000000000000000000000000000b0007000300070001000000000000000000000000000000000000000000000000000000000000000001dfffff s (State.listenAnew s st) := by
  unfold State.listenAnew
  repeat' first
      | with_reducible exact Keeps.refl
      | with_reducible assumption
      | with_reducible refine Keeps.ite ?_ ?_
      | (with_reducible apply Keeps.step (State.setStrand_keeps ..); · decide)
      | extract_lets
      | intro _
      | split
      | (dsimp +zetaDelta only; split)

theorem State.storeTele_keeps (s : State) (st k offset n v : Nat) : Keeps 0x5000000000000000000000000000000000000000000000000000f00ff007e00010000000000000000000000000000000000000000000000000000000700070003000000000000000000000000000000000000000f00db00010001000f0007000f00000000000000000000000000000000000000000000000b0007000300070001000000000000000000000000000000000000000000000000000000000000000001ff7fe7 s (State.storeTele s st k offset n v) := by
  unfold State.storeTele
  repeat' first
      | with_reducible exact Keeps.refl
      | with_reducible assumption
      | with_reducible refine Keeps.ite ?_ ?_
      | (with_reducible apply Keeps.step (State.dramPut_keeps ..); · decide)
      | extract_lets
      | intro _
      | split
      | (dsimp +zetaDelta only; split)

theorem State.storeAges_keeps (s : State) (st : Nat) : Keeps 0x5000000000000000000000000000000000000000000000000000f00ff007e00010000000000000000000000000000000000000000000000000000000700070003000000000000000000000000000000000000000f00db00010001000f0007000f00000000000000000000000000000000000000000000000b0007000300070001000000000000000000000000000000000000000000000000000000000000000001df7fe7 s (State.storeAges s st) := by
  unfold State.storeAges
  repeat' first
      | with_reducible exact Keeps.refl
      | with_reducible assumption
      | with_reducible refine Keeps.ite ?_ ?_
      | (with_reducible apply Keeps.step (State.setStrand_keeps ..); · decide)
      | (with_reducible apply Keeps.step (State.storeTele_keeps ..); · decide)
      | (with_reducible refine Keeps.foldl (fun _ _ _ => ?_) ?_)
      | extract_lets
      | intro _
      | split
      | (dsimp +zetaDelta only; split)

theorem State.frameLatched_keeps (s : State) (q k : Nat) : Keeps 0x5000000000000000000000000000000000000000000000000000e00ef001800000000000000000000000000000000000000000000000000000000000700070003000000000000000000000000000000000000000f00db00010001000f0007000f0000000000000000000000000000000000000000000000010007000100070001000000000000000000000000000000000000000000000000000000000000000000cf0dc7 s (State.frameLatched s q k) := by
  unfold State.frameLatched
  repeat' first
      | with_reducible exact Keeps.refl
      | with_reducible assumption
      | with_reducible refine Keeps.ite ?_ ?_
      | (with_reducible apply Keeps.bump; · decide)
      | (with_reducible apply Keeps.add; · decide)
      | (with_reducible apply Keeps.step (State.setQuire_keeps ..); · decide)
      | (with_reducible apply Keeps.step (State.setStrand_keeps ..); · decide)
      | (with_reducible apply Keeps.step (State.undriveQuire_keeps ..); · decide)
      | (with_reducible apply Keeps.step (State.quireSum_keeps ..); · decide)
      | (with_reducible apply Keeps.step (State.keepSignature_keeps ..); · decide)
      | (with_reducible apply Keeps.step (State.listenAnew_keeps ..); · decide)
      | (with_reducible apply Keeps.step (State.storeAges_keeps ..); · decide)
      | (with_reducible refine Keeps.foldl (fun _ _ _ => ?_) ?_)
      | extract_lets
      | intro _
      | split
      | (dsimp +zetaDelta only; split)

theorem execQuireLatch_keeps (q : Nat) (s0 : State) : Keeps 0x5000000000000000000000000000000000000000000000000000e0047001800000000000000000000000000000000000000000000000000000000000700070003000000000000000000000000000000000000000900c000000000000f0006000f0000000000000000000000000000000000000000000000010007000100070001000000000000000000000000000000000000000000000000000000000000000000070cc5 s0 (execQuireLatch q s0) := by
  unfold execQuireLatch
  repeat' first
      | with_reducible exact Keeps.refl
      | with_reducible assumption
      | with_reducible refine Keeps.ite ?_ ?_
      | (with_reducible apply Keeps.setRow; · decide)
      | (with_reducible apply Keeps.step (State.advanceTb_keeps ..); · decide)
      | (with_reducible apply Keeps.step (State.setQuire_keeps ..); · decide)
      | (with_reducible apply Keeps.step (State.derateStep_keeps ..); · decide)
      | (with_reducible apply Keeps.step (State.regionLatch_keeps ..); · decide)
      | (with_reducible apply Keeps.step (State.collLatch_keeps ..); · decide)
      | (with_reducible apply Keeps.step (State.quireTo_keeps ..); · decide)
      | (with_reducible apply Keeps.step (State.frameLatched_keeps ..); · decide)
      | (with_reducible refine Keeps.foldl (fun _ _ _ => ?_) ?_)
      | extract_lets
      | intro _
      | split
      | (dsimp +zetaDelta only; split)

theorem State.beginPhase_keeps (s0 : State) (q : Nat) : Keeps 0x5000000000000000000000000000000000000000000000000000f00ff007e00010000000000000000000000000000000000000000000000000000000700070003000000000000000000000000000000000000000f00db00010001000f0007000f00000000000000000000000000000000000000000000000b0007000300070001000000000000000000000000000000000000000000000000000000000000000001cffef9 s0 (State.beginPhase s0 q) := by
  unfold State.beginPhase
  repeat' first
      | with_reducible exact Keeps.refl
      | with_reducible assumption
      | with_reducible refine Keeps.ite ?_ ?_
      | (with_reducible apply Keeps.step (State.advanceElapsed_keeps ..); · decide)
      | (with_reducible apply Keeps.step (State.drawNat_keeps' (he := by assumption) ..); · decide)
      | (with_reducible apply Keeps.step (State.drawNat_keeps ..); · decide)
      | (with_reducible apply Keeps.step (State.setQuire_keeps ..); · decide)
      | (with_reducible apply Keeps.step (State.putFrame_keeps ..); · decide)
      | (with_reducible refine Keeps.foldl (fun _ _ _ => ?_) ?_)
      | extract_lets
      | intro _
      | split
      | (dsimp +zetaDelta only; split)

theorem State.photoRecord_keeps (s : State) (st k v : Nat) : Keeps 0x5000000000000000000000000000000000000000000000000000f00ff007e00010000000000000000000000000000000000000000000000000000000700070003000000000000000000000000000000000000000f00db00010001000f0007000f00000000000000000000000000000000000000000000000b00070003000700010000000000000000000000000000000000000000000000000000000000000000013fffff s (State.photoRecord s st k v) := by
  unfold State.photoRecord
  repeat' first
      | with_reducible exact Keeps.refl
      | with_reducible assumption
      | with_reducible refine Keeps.ite ?_ ?_
      | (with_reducible apply Keeps.step (State.regionAdd_keeps ..); · decide)
      | (with_reducible refine Keeps.foldl (fun _ _ _ => ?_) ?_)
      | extract_lets
      | intro _
      | split
      | (with_reducible apply Keeps.set_cal; (case h0 => decide))
      | (dsimp +zetaDelta only; split)

theorem State.onRequest_keeps (s : State) (q : Nat) (f : Request → Request) : Keeps 0x5000000000000000000000000000000000000000000000000000f00ff007e00010000000000000000000000000000000000000000000000000000000700070003000000000000000000000000000000000000000f00db00010001000f0007000f00000000000000000000000000000000000000000000000b0007000300070001000000000000000000000000000000000000000000000000000000000000000001efffff s (State.onRequest s q f) := by
  unfold State.onRequest
  repeat' first
      | with_reducible exact Keeps.refl
      | with_reducible assumption
      | with_reducible refine Keeps.ite ?_ ?_
      | (with_reducible apply Keeps.step (State.setQuire_keeps ..); · decide)
      | extract_lets
      | intro _
      | split
      | (dsimp +zetaDelta only; split)

theorem State.recordTyped_keeps (s : State) (st k ty v : Nat) : Keeps 0x5000000000000000000000000000000000000000000000000000f00cf007e00000000000000000000000000000000000000000000000000000000000700070003000000000000000000000000000000000000000f005b00010001000f0007000f00000000000000000000000000000000000000000000000b00070003000700010000000000000000000000000000000000000000000000000000000000000000010f6de7 s (State.recordTyped s st k ty v) := by
  unfold State.recordTyped
  repeat' first
      | with_reducible exact Keeps.refl
      | with_reducible assumption
      | with_reducible refine Keeps.ite ?_ ?_
      | (with_reducible apply Keeps.bump; · decide)
      | (with_reducible apply Keeps.add; · decide)
      | (with_reducible apply Keeps.step (State.setStrand_keeps ..); · decide)
      | (with_reducible apply Keeps.step (State.quireSum_keeps ..); · decide)
      | (with_reducible apply Keeps.step (State.emitterReport_keeps ..); · decide)
      | (with_reducible apply Keeps.step (State.storeTele_keeps ..); · decide)
      | (with_reducible apply Keeps.step (State.photoRecord_keeps ..); · decide)
      | (with_reducible apply Keeps.step (State.onRequest_keeps ..); · decide)
      | extract_lets
      | intro _
      | split
      | (dsimp +zetaDelta only; split)

theorem State.recordFiled_keeps (s : State) (st : Nat) (b : BitVec 40) (late : Nat) : Keeps 0x5000000000000000000000000000000000000000000000000000f00cf007e00000000000000000000000000000000000000000000000000000000000700070003000000000000000000000000000000000000000f005b00010001000f0007000f00000000000000000000000000000000000000000000000b00070003000700010000000000000000000000000000000000000000000000000000000000000000010f6de7 s (State.recordFiled s st b late) := by
  unfold State.recordFiled
  repeat' first
      | with_reducible exact Keeps.refl
      | with_reducible assumption
      | with_reducible refine Keeps.ite ?_ ?_
      | (with_reducible apply Keeps.bump; · decide)
      | (with_reducible apply Keeps.step (State.setStrand_keeps ..); · decide)
      | (with_reducible apply Keeps.step (State.storeTele_keeps ..); · decide)
      | (with_reducible apply Keeps.step (State.recordTyped_keeps ..); · decide)
      | extract_lets
      | intro _
      | split
      | (with_reducible apply Keeps.set_integ; (case h0 => decide))
      | (dsimp +zetaDelta only; split)

theorem State.teleRelease_keeps (s : State) : Keeps 0x5000000000000000000000000000000000000000000000000000f00ff007e00010000000000000000000000000000000000000000000000000000000700070003000000000000000000000000000000000000000f00db00010001000f0007000f00000000000000000000000000000000000000000000000b0007000300070001000000000000000000000000000000000000000000000000000000000000000001df7fe7 s (State.teleRelease s) := by
  unfold State.teleRelease
  repeat' first
      | with_reducible exact Keeps.refl
      | with_reducible assumption
      | with_reducible refine Keeps.ite ?_ ?_
      | (with_reducible apply Keeps.step (State.setStrand_keeps ..); · decide)
      | (with_reducible apply Keeps.step (State.storeTele_keeps ..); · decide)
      | (with_reducible refine Keeps.foldl (fun _ _ _ => ?_) ?_)
      | extract_lets
      | intro _
      | split
      | (with_reducible apply Keeps.set_integ; (case h0 => decide))
      | (dsimp +zetaDelta only; split)

theorem execReturnRecord_keeps (st : Nat) (b : BitVec 40) (late stalls : Nat) (s0 : State) : Keeps 0x5000000000000000000000000000000000000000000000000000f00cf007e00000000000000000000000000000000000000000000000000000000000700070003000000000000000000000000000000000000000f005b00010001000f0007000f00000000000000000000000000000000000000000000000b00070003000700010000000000000000000000000000000000000000000000000000000000000000010f6ce1 s0 (execReturnRecord st b late stalls s0) := by
  unfold execReturnRecord
  repeat' first
      | with_reducible exact Keeps.refl
      | with_reducible assumption
      | with_reducible refine Keeps.ite ?_ ?_
      | (with_reducible apply Keeps.bump; · decide)
      | (with_reducible apply Keeps.add; · decide)
      | (with_reducible apply Keeps.step (State.setStrand_keeps ..); · decide)
      | (with_reducible apply Keeps.step (State.beginPhase_keeps ..); · decide)
      | (with_reducible apply Keeps.step (State.recordFiled_keeps ..); · decide)
      | extract_lets
      | intro _
      | split
      | (dsimp +zetaDelta only; split)

theorem State.wireUpdate_keeps (s : State) (st : Nat) : Keeps 0x5000000000000000000000000000000000000000000000000000f00ff007e00000000000000000000000000000000000000000000000000000000000700070003000000000000000000000000000000000000000f00db00000001000f0007000f00000000000000000000000000000000000000000000000b0007000300070001000000000000000000000000000000000000000000000000000000000000000001efedff s (State.wireUpdate s st) := by
  unfold State.wireUpdate
  repeat' first
      | with_reducible exact Keeps.refl
      | with_reducible assumption
      | with_reducible refine Keeps.ite ?_ ?_
      | (with_reducible apply Keeps.setFld; · decide)
      | (with_reducible apply Keeps.step (State.quireSum_keeps ..); · decide)
      | (with_reducible apply Keeps.step (State.broadcast_keeps ..); · decide)
      | extract_lets
      | intro _
      | split
      | (dsimp +zetaDelta only; split)

theorem State.windowJudge_keeps (s : State) (k st : Nat) : Keeps 0x5000000000000000000000000000000000000000000000000000f00ef007e00000000000000000000000000000000000000000000000000000000000700070003000000000000000000000000000000000000000f00db00000001000f0007000f00000000000000000000000000000000000000000000000b0007000300070001000000000000000000000000000000000000000000000000000000000000000001efedff s (State.windowJudge s k st) := by
  unfold State.windowJudge
  repeat' first
      | with_reducible exact Keeps.refl
      | with_reducible assumption
      | with_reducible refine Keeps.ite ?_ ?_
      | (with_reducible apply Keeps.add; · decide)
      | (with_reducible apply Keeps.step (State.wireUpdate_keeps ..); · decide)
      | extract_lets
      | intro _
      | split
      | (dsimp +zetaDelta only; split)

theorem State.pixelWindowEnd_keeps (s0 : State) (q k : Nat) : Keeps 0x5000000000000000000000000000000000000000000000000000f00ef007e00000000000000000000000000000000000000000000000000000000000700070003000000000000000000000000000000000000000f00db00000001000f0007000f00000000000000000000000000000000000000000000000b0007000300070001000000000000000000000000000000000000000000000000000000000000000001cfecfd s0 (State.pixelWindowEnd s0 q k) := by
  unfold State.pixelWindowEnd
  repeat' first
      | with_reducible exact Keeps.refl
      | with_reducible assumption
      | with_reducible refine Keeps.ite ?_ ?_
      | (with_reducible apply Keeps.step (State.advanceTb_keeps ..); · decide)
      | (with_reducible apply Keeps.step (State.setQuire_keeps ..); · decide)
      | (with_reducible apply Keeps.step (State.setStrand_keeps ..); · decide)
      | (with_reducible apply Keeps.step (State.quireSum_keeps ..); · decide)
      | (with_reducible apply Keeps.step (State.listenAnew_keeps ..); · decide)
      | (with_reducible apply Keeps.step (State.windowJudge_keeps ..); · decide)
      | (with_reducible refine Keeps.foldl (fun _ _ _ => ?_) ?_)
      | extract_lets
      | intro _
      | split
      | (dsimp +zetaDelta only; split)

theorem State.putRequest_keeps (s : State) (q : Nat) (r : Request) : Keeps 0x5000000000000000000000000000000000000000000000000000e00ff001c00000000000000000000000000000000000000000000000000000000000700070003000000000000000000000000000000000000000f00db00010001000f0007000f0000000000000000000000000000000000000000000000010007000300070001000000000000000000000000000000000000000000000000000000000000000001ef8dff s (State.putRequest s q r) := by
  unfold State.putRequest
  repeat' first
      | with_reducible exact Keeps.refl
      | with_reducible assumption
      | with_reducible refine Keeps.ite ?_ ?_
      | (with_reducible apply Keeps.step (State.setQuire_keeps ..); · decide)
      | (with_reducible apply Keeps.step (State.requestDone_keeps ..); · decide)
      | extract_lets
      | intro _
      | split
      | (dsimp +zetaDelta only; split)

theorem writeCameg_keeps (w : Who) (v : Row) (s : State) : Keeps 0x5000000000000000000000000000000000000000000000000000e00ff001c00000000000000000000000000000000000000000000000000000000000700070003000000000000000000000000000000000000000f00db00010001000f0007000f0000000000000000000000000000000000000000000000010007000300070001000000000000000000000000000000000000000000000000000000000000000001ef8dff s (writeCameg w v s).st := by
  unfold writeCameg
  repeat' first
      | with_reducible exact Keeps.refl
      | with_reducible assumption
      | with_reducible refine Keeps.ite ?_ ?_
      | (with_reducible apply Keeps.step (refuse_keeps ..); · decide)
      | (with_reducible refine accept_keeps (by decide) (fun _ _ => ?_) ?_)
      | (with_reducible apply Keeps.step (State.putRequest_keeps ..); · decide)
      | extract_lets
      | intro _
      | split
      | (dsimp +zetaDelta only; split)

theorem writeEnumerate_keeps (w : Who) (v : Row) (s : State) : Keeps 0x5000000000000000000000000000000000000000000000000000e00ff001c00000000000000000000000000000000000000000000000000000000000700070003000000000000000000000000000000000000000f00db00010001000f0007000f0000000000000000000000000000000000000000000000010007000300070001000000000000000000000000000000000000000000000000000000000000000001ef8dff s (writeEnumerate w v s).st := by
  unfold writeEnumerate
  repeat' first
      | with_reducible exact Keeps.refl
      | with_reducible assumption
      | with_reducible refine Keeps.ite ?_ ?_
      | (with_reducible apply Keeps.step (refuse_keeps ..); · decide)
      | (with_reducible refine accept_keeps (by decide) (fun _ _ => ?_) ?_)
      | (with_reducible apply Keeps.step (State.putRequest_keeps ..); · decide)
      | extract_lets
      | intro _
      | split
      | (dsimp +zetaDelta only; split)

theorem State.judgeStrand_keeps (s : State) (r : Request) (st : Nat) : Keeps 0x5000000000000000000000000000000000000000000000000000f00ff007e00000000000000000000000000000000000000000000000000000000000700070003000000000000000000000000000000000000000f00db00000001000f0007000f00000000000000000000000000000000000000000000000b0007000300070001000000000000000000000000000000000000000000000000000000000000000001efedff s (State.judgeStrand s r st) := by
  unfold State.judgeStrand
  repeat' first
      | with_reducible exact Keeps.refl
      | with_reducible assumption
      | with_reducible refine Keeps.ite ?_ ?_
      | (with_reducible apply Keeps.setRow; · decide)
      | (with_reducible apply Keeps.step (State.quireSum_keeps ..); · decide)
      | extract_lets
      | intro _
      | split
      | (dsimp +zetaDelta only; split)

theorem State.missedRecords_keeps (s : State) (st : Nat) : Keeps 0x5000000000000000000000000000000000000000000000000000f00ef007e00010000000000000000000000000000000000000000000000000000000700070003000000000000000000000000000000000000000f00db00010001000f0007000f00000000000000000000000000000000000000000000000b0007000300070001000000000000000000000000000000000000000000000000000000000000000001ffffff s (State.missedRecords s st) := by
  unfold State.missedRecords
  repeat' first
      | with_reducible exact Keeps.refl
      | with_reducible assumption
      | with_reducible refine Keeps.ite ?_ ?_
      | (with_reducible apply Keeps.add; · decide)
      | extract_lets
      | intro _
      | split
      | (dsimp +zetaDelta only; split)

theorem State.setupWindowEnd_keeps (s : State) (q : Nat) (on : List Nat) : Keeps 0x5000000000000000000000000000000000000000000000000000f00ef007e00000000000000000000000000000000000000000000000000000000000700070003000000000000000000000000000000000000000f00db00000001000f0007000f00000000000000000000000000000000000000000000000b0007000300070001000000000000000000000000000000000000000000000000000000000000000001efedff s (State.setupWindowEnd s q on) := by
  unfold State.setupWindowEnd
  repeat' first
      | with_reducible exact Keeps.refl
      | with_reducible assumption
      | with_reducible refine Keeps.ite ?_ ?_
      | (with_reducible apply Keeps.step (State.quireSum_keeps ..); · decide)
      | (with_reducible apply Keeps.step (State.wireUpdate_keeps ..); · decide)
      | (with_reducible apply Keeps.step (State.missedRecords_keeps ..); · decide)
      | (with_reducible refine Keeps.foldl (fun _ _ _ => ?_) ?_)
      | extract_lets
      | intro _
      | split
      | (dsimp +zetaDelta only; split)

theorem State.setupTrims_keeps (s : State) (q : Nat) (on : List Nat) : Keeps 0x5000000000000000000000000000000000000000000000000000f00ef007e00010000000000000000000000000000000000000000000000000000000700070003000000000000000000000000000000000000000f00db00000001000f0007000f00000000000000000000000000000000000000000000000b0007000300070001000000000000000000000000000000000000000000000000000000000000000001cffffb s (State.setupTrims s q on) := by
  unfold State.setupTrims
  repeat' first
      | with_reducible exact Keeps.refl
      | with_reducible assumption
      | with_reducible refine Keeps.ite ?_ ?_
      | (with_reducible apply Keeps.step (State.setQuire_keeps ..); · decide)
      | (with_reducible apply Keeps.step (State.setStrand_keeps ..); · decide)
      | (with_reducible apply Keeps.step (State.sendBroadcast_keeps ..); · decide)
      | (with_reducible refine Keeps.foldl (fun _ _ _ => ?_) ?_)
      | extract_lets
      | intro _
      | split
      | (dsimp +zetaDelta only; split)

theorem State.finishPhase_keeps (s0 : State) (q : Nat) : Keeps 0x5000000000000000000000000000000000000000000000000000f00ef007e00000000000000000000000000000000000000000000000000000000000700070003000000000000000000000000000000000000000f00db00000001000f0007000f00000000000000000000000000000000000000000000000b0007000300070001000000000000000000000000000000000000000000000000000000000000000001cfecf9 s0 (State.finishPhase s0 q) := by
  unfold State.finishPhase
  repeat' first
      | with_reducible exact Keeps.refl
      | with_reducible assumption
      | with_reducible refine Keeps.ite ?_ ?_
      | (with_reducible apply Keeps.bump; · decide)
      | (with_reducible apply Keeps.step (State.advanceElapsed_keeps ..); · decide)
      | (with_reducible apply Keeps.step (State.setQuire_keeps ..); · decide)
      | (with_reducible apply Keeps.step (State.listenAnew_keeps ..); · decide)
      | (with_reducible apply Keeps.step (State.beginPhase_keeps ..); · decide)
      | (with_reducible apply Keeps.step (State.judgeStrand_keeps ..); · decide)
      | (with_reducible apply Keeps.step (State.setupWindowEnd_keeps ..); · decide)
      | (with_reducible apply Keeps.step (State.setupTrims_keeps ..); · decide)
      | (with_reducible refine Keeps.foldl (fun _ _ _ => ?_) ?_)
      | extract_lets
      | intro _
      | split
      | (dsimp +zetaDelta only; split)

theorem State.drainWindowEnd_keeps (s0 : State) (q : Nat) : Keeps 0x5000000000000000000000000000000000000000000000000000f00ef007e00000000000000000000000000000000000000000000000000000000000700070003000000000000000000000000000000000000000f00db00000001000f0007000f00000000000000000000000000000000000000000000000b0007000300070001000000000000000000000000000000000000000000000000000000000000000001cfecfd s0 (State.drainWindowEnd s0 q) := by
  unfold State.drainWindowEnd
  repeat' first
      | with_reducible exact Keeps.refl
      | with_reducible assumption
      | with_reducible refine Keeps.ite ?_ ?_
      | (with_reducible apply Keeps.step (State.advanceElapsed_keeps ..); · decide)
      | (with_reducible apply Keeps.step (State.setQuire_keeps ..); · decide)
      | (with_reducible apply Keeps.step (State.listenAnew_keeps ..); · decide)
      | (with_reducible apply Keeps.step (State.setupWindowEnd_keeps ..); · decide)
      | (with_reducible refine Keeps.foldl (fun _ _ _ => ?_) ?_)
      | extract_lets
      | intro _
      | split
      | (dsimp +zetaDelta only; split)

theorem execQuireDrainDone_keeps (q : Nat) (s0 : State) : Keeps 0x5000000000000000000000000000000000000000000000000000e004f001c00000000000000000000000000000000000000000000000000000000000700070003000000000000000000000000000000000000000d00c800000001000f0006000f0000000000000000000000000000000000000000000000010007000300070001000000000000000000000000000000000000000000000000000000000000000001070ccd s0 (execQuireDrainDone q s0) := by
  unfold execQuireDrainDone
  repeat' first
      | with_reducible exact Keeps.refl
      | with_reducible assumption
      | with_reducible refine Keeps.ite ?_ ?_
      | (with_reducible apply Keeps.step (State.advanceElapsed_keeps ..); · decide)
      | (with_reducible apply Keeps.step (State.quireTo_keeps ..); · decide)
      | (with_reducible apply Keeps.step (State.quireLatched_keeps ..); · decide)
      | (with_reducible apply Keeps.step (State.drainWindowEnd_keeps ..); · decide)
      | extract_lets
      | intro _
      | split
      | (dsimp +zetaDelta only; split)

theorem State.setupSelect_keeps (s : State) (q : Nat) : Keeps 0x5000000000000000000000000000000000000000000000000000f00ef007e00010000000000000000000000000000000000000000000000000000000700070003000000000000000000000000000000000000000f00db00010001000f0007000f00000000000000000000000000000000000000000000000b0007000300070001000000000000000000000000000000000000000000000000000000000000000001cffffb s (State.setupSelect s q) := by
  unfold State.setupSelect
  repeat' first
      | with_reducible exact Keeps.refl
      | with_reducible assumption
      | with_reducible refine Keeps.ite ?_ ?_
      | (with_reducible apply Keeps.step (State.setQuire_keeps ..); · decide)
      | (with_reducible apply Keeps.step (State.sendSelect_keeps ..); · decide)
      | extract_lets
      | intro _
      | split
      | (dsimp +zetaDelta only; split)

theorem execReturnWindowEnd_keeps (q : Nat) (s0 : State) : Keeps 0x5000000000000000000000000000000000000000000000000000f00ef007e00000000000000000000000000000000000000000000000000000000000700070003000000000000000000000000000000000000000f00db00000001000f0007000f00000000000000000000000000000000000000000000000b0007000300070001000000000000000000000000000000000000000000000000000000000000000001cfecf9 s0 (execReturnWindowEnd q s0) := by
  unfold execReturnWindowEnd
  repeat' first
      | with_reducible exact Keeps.refl
      | with_reducible assumption
      | with_reducible refine Keeps.ite ?_ ?_
      | (with_reducible apply Keeps.step (State.pixelWindowEnd_keeps ..); · decide)
      | (with_reducible apply Keeps.step (State.finishPhase_keeps ..); · decide)
      | (with_reducible apply Keeps.step (State.drainWindowEnd_keeps ..); · decide)
      | extract_lets
      | intro _
      | split
      | (dsimp +zetaDelta only; split)

theorem State.gapRequest_keeps (s : State) (q : Nat) (r : Request) (rs : List Request) : Keeps 0x5000000000000000000000000000000000000000000000000000e00ef001c00000000000000000000000000000000000000000000000000000000000700070003000000000000000000000000000000000000000f00db00010001000f0007000f0000000000000000000000000000000000000000000000010007000300070001000000000000000000000000000000000000000000000000000000000000000001cf8cf9 s (State.gapRequest s q r rs) := by
  unfold State.gapRequest
  repeat' first
      | with_reducible exact Keeps.refl
      | with_reducible assumption
      | with_reducible refine Keeps.ite ?_ ?_
      | (with_reducible apply Keeps.bump; · decide)
      | (with_reducible apply Keeps.step (State.advanceElapsed_keeps ..); · decide)
      | (with_reducible apply Keeps.step (State.drawNat_keeps ..); · decide)
      | (with_reducible apply Keeps.step (State.setQuire_keeps ..); · decide)
      | (with_reducible apply Keeps.step (State.requestDone_keeps ..); · decide)
      | (with_reducible apply Keeps.step (State.gapFrame_keeps ..); · decide)
      | (with_reducible refine Keeps.foldl (fun _ _ _ => ?_) ?_)
      | extract_lets
      | intro _
      | split
      | (dsimp +zetaDelta only; split)

theorem execCamegRequestDone_keeps (q : Nat) (s0 : State) : Keeps 0x5000000000000000000000000000000000000000000000000000e00ef001c00000000000000000000000000000000000000000000000000000000000700070003000000000000000000000000000000000000000f00db00000001000f0007000f0000000000000000000000000000000000000000000000010007000300070001000000000000000000000000000000000000000000000000000000000000000001cf8cf9 s0 (execCamegRequestDone q s0) := by
  unfold execCamegRequestDone
  repeat' first
      | with_reducible exact Keeps.refl
      | with_reducible assumption
      | with_reducible refine Keeps.ite ?_ ?_
      | (with_reducible apply Keeps.step (State.advanceElapsed_keeps ..); · decide)
      | (with_reducible apply Keeps.step (State.setQuire_keeps ..); · decide)
      | (with_reducible apply Keeps.step (State.requestDone_keeps ..); · decide)
      | (with_reducible apply Keeps.step (State.finishPhase_keeps ..); · decide)
      | (with_reducible apply Keeps.step (State.setupSelect_keeps ..); · decide)
      | (with_reducible apply Keeps.step (State.gapRequest_keeps ..); · decide)
      | extract_lets
      | intro _
      | split
      | (dsimp +zetaDelta only; split)

theorem writeQuire_keeps (q : Nat) (v : Row) (s : State) : Keeps 0x5000000000000000000000000000000000000000000000000000e00cf001c00000000000000000000000000000000000000000000000000000000000700070003000000000000000000000000000000000000000f00c800000001000f0006000f0000000000000000000000000000000000000000000000010007000300070001000000000000000000000000000000000000000000000000000000000000000001878dfb s (writeQuire q v s).st := by
  unfold writeQuire
  repeat' first
      | with_reducible exact Keeps.refl
      | with_reducible assumption
      | with_reducible refine Keeps.ite ?_ ?_
      | (with_reducible apply Keeps.setRow; · decide)
      | (with_reducible apply Keeps.step (refuse_keeps ..); · decide)
      | (with_reducible apply Keeps.step (done_keeps ..); · decide)
      | (with_reducible apply Keeps.step (State.drainCheck_keeps ..); · decide)
      | (with_reducible apply Keeps.step (State.setQuire_keeps ..); · decide)
      | (with_reducible apply Keeps.step (State.bindFrames_keeps ..); · decide)
      | (with_reducible apply Keeps.step (State.setupSelect_keeps ..); · decide)
      | extract_lets
      | intro _
      | split
      | (dsimp +zetaDelta only; split)

theorem writeStrand_keeps (st : Nat) (v : Row) (s : State) : Keeps 0x5000000000000000000000000000000000000000000000000000f00ff007e00010000000000000000000000000000000000000000000000000000000700070003000000000000000000000000000000000000000f00db00000001000f0007000f00000000000000000000000000000000000000000000000b0007000300070001000000000000000000000000000000000000000000000000000000000000000001ffffff s (writeStrand st v s).st := by
  unfold writeStrand
  repeat' first
      | with_reducible exact Keeps.refl
      | with_reducible assumption
      | with_reducible refine Keeps.ite ?_ ?_
      | (with_reducible apply Keeps.setRow; · decide)
      | (with_reducible apply Keeps.step (refuse_keeps ..); · decide)
      | (with_reducible apply Keeps.step (done_keeps ..); · decide)
      | extract_lets
      | intro _
      | split
      | (dsimp +zetaDelta only; split)

theorem writeTeleBase_keeps (v : Nat) (s : State) : Keeps 0x5000000000000000000000000000000000000000000000000000f00ff007e00010000000000000000000000000000000000000000000000000000000700070003000000000000000000000000000000000000000f00db00000001000f0007000f00000000000000000000000000000000000000000000000b0007000300070001000000000000000000000000000000000000000000000000000000000000000001ffffff s (writeTeleBase v s).st := by
  unfold writeTeleBase
  repeat' first
      | with_reducible exact Keeps.refl
      | with_reducible assumption
      | with_reducible refine Keeps.ite ?_ ?_
      | (with_reducible apply Keeps.setVal; · decide)
      | (with_reducible apply Keeps.step (refuse_keeps ..); · decide)
      | (with_reducible apply Keeps.step (done_keeps ..); · decide)
      | extract_lets
      | intro _
      | split
      | (dsimp +zetaDelta only; split)

theorem writeShareBase_keeps (v : Nat) (s : State) : Keeps 0x5000000000000000000000000000000000000000000000000000f00ff007e00010000000000000000000000000000000000000000000000000000000700070003000000000000000000000000000000000000000f00db00000001000f0007000f00000000000000000000000000000000000000000000000b0007000300070001000000000000000000000000000000000000000000000000000000000000000001ffffff s (writeShareBase v s).st := by
  unfold writeShareBase
  repeat' first
      | with_reducible exact Keeps.refl
      | with_reducible assumption
      | with_reducible refine Keeps.ite ?_ ?_
      | (with_reducible apply Keeps.setVal; · decide)
      | (with_reducible apply Keeps.step (refuse_keeps ..); · decide)
      | (with_reducible apply Keeps.step (done_keeps ..); · decide)
      | extract_lets
      | intro _
      | split
      | (dsimp +zetaDelta only; split)

theorem writeShare_keeps (r v : Nat) (s : State) : Keeps 0x5000000000000000000000000000000000000000000000000000f00ff007e00010000000000000000000000000000000000000000000000000000000700070003000000000000000000000000000000000000000f00db00010001000f0007000f00000000000000000000000000000000000000000000000b0007000300070001000000000000000000000000000000000000000000000000000000000000000001ff7fe7 s (writeShare r v s).st := by
  unfold writeShare
  repeat' first
      | with_reducible exact Keeps.refl
      | with_reducible assumption
      | with_reducible refine Keeps.ite ?_ ?_
      | (with_reducible apply Keeps.step (refuse_keeps ..); · decide)
      | (with_reducible apply Keeps.step (done_keeps ..); · decide)
      | (with_reducible apply Keeps.step (State.dramPut_keeps ..); · decide)
      | extract_lets
      | intro _
      | split
      | (dsimp +zetaDelta only; split)

theorem State.shortStep_keeps (s : State) (high : List (Nat × Nat)) (stuck : List Nat) (p : Nat) : Keeps 0x5000000000000000000000000000000000000000000000000000f00ff007e00010000000000000000000000000000000000000000000000000000000700070003000000000000000000000000000000000000000f009b00010001000f0007000f00000000000000000000000000000000000000000000000b0007000300070001000000000000000000000000000000000000000000000000000000000000000001bfffff s (State.shortStep s high stuck p) := by
  unfold State.shortStep
  repeat' first
      | with_reducible exact Keeps.refl
      | with_reducible assumption
      | with_reducible refine Keeps.ite ?_ ?_
      | (with_reducible apply Keeps.step (State.shortResult_keeps ..); · decide)
      | (with_reducible refine Keeps.foldl (fun _ _ _ => ?_) ?_)
      | extract_lets
      | intro _
      | split
      | (dsimp +zetaDelta only; split)

theorem execShortTestDone_keeps (high : List (Nat × Nat)) (stuck : List Nat) (s0 : State) : Keeps 0x5000000000000000000000000000000000000000000000000000e005f001c00000000000000000000000000000000000000000000000000000000000700070003000000000000000000000000000000000000000d008800000001000f0006000f0000000000000000000000000000000000000000000000010007000300070001000000000000000000000000000000000000000000000000000000000000000001070ccd s0 (execShortTestDone high stuck s0) := by
  unfold execShortTestDone
  repeat' first
      | with_reducible exact Keeps.refl
      | with_reducible assumption
      | with_reducible refine Keeps.ite ?_ ?_
      | (with_reducible apply Keeps.step (State.advanceElapsed_keeps ..); · decide)
      | (with_reducible apply Keeps.step (State.raise_keeps ..); · decide)
      | (with_reducible apply Keeps.step (State.completeTask_keeps ..); · decide)
      | (with_reducible apply Keeps.step (State.quireLatched_keeps ..); · decide)
      | (with_reducible apply Keeps.step (State.shortStep_keeps ..); · decide)
      | (with_reducible refine Keeps.foldl (fun _ _ _ => ?_) ?_)
      | extract_lets
      | intro _
      | split
      | (with_reducible apply Keeps.set_light; (case h0 => decide))
      | (dsimp +zetaDelta only; split)

end Sys2Proof.Machine
end

