-- ==== Sys2Proof/Laws/KeepsReset.lean ====
section
/-! SUPPORT. What each operation of Machine/Reset.lean leaves alone. -/

set_option linter.all false
namespace Sys2Proof.Machine

theorem State.quench_keeps (s : State) : Keeps 0x5000000000000000000000000000000000000000000000000000f00ff007e00010000000000000000000000000000000000000000000000000000000700070003000000000000000000000000000000000000000f00db00010001000f0007000f00000000000000000000000000000000000000000000000b0007000300070001000000000000000000000000000000000000000000000000000000000000000001ffffdf s (State.quench s) := by
  unfold State.quench
  repeat' first
      | with_reducible exact Keeps.refl
      | with_reducible assumption
      | with_reducible refine Keeps.ite ?_ ?_
      | extract_lets
      | intro _
      | split
      | (with_reducible apply Keeps.set_power; (case h0 => decide))
      | (dsimp +zetaDelta only; split)

theorem State.requestAgain_keeps (s : State) (c mem addr rank : Nat) : Keeps 0x5000000000000000000000000000000000000000000000000000f00ff007e00010000000000000000000000000000000000000000000000000000000700070003000000000000000000000000000000000000000f00db00010001000f0007000f00000000000000000000000000000000000000000000000b0007000300070001000000000000000000000000000000000000000000000000000000000000000001ffffbf s (State.requestAgain s c mem addr rank) := by
  unfold State.requestAgain
  repeat' first
      | with_reducible exact Keeps.refl
      | with_reducible assumption
      | with_reducible refine Keeps.ite ?_ ?_
      | extract_lets
      | intro _
      | split
      | (with_reducible apply Keeps.set_aon; (case h0 => decide))
      | (dsimp +zetaDelta only; split)

theorem State.resetValues_keeps (s : State) : Keeps 0xc5 s (State.resetValues s) := by
  unfold State.resetValues
  constructor
  case objs => intro o r hi; rw [no_group (by decide) o] at hi; contradiction
  case dram_wf => intro _; exact wf_nil
  case vault_wf => intro _; exact wf_nil
  case cells_wf => intro _; exact wf_nil
  case saved_wf => intro _; exact wf_nil
  case contexts_wf => intro _; exact wf_nil
  all_goals (intro hi; first | rfl | exact absurd hi (by decide))

theorem State.loadObjs_keeps (s : State) (os : List Nat) (vals : Tbl (Tbl Row)) : Keeps 0x1ffffff s (s.loadObjs os vals) :=
  Keeps.set_od (fun o r hi => by rw [no_group (by decide) o] at hi; contradiction) Keeps.refl

theorem State.loadCorrections_keeps (s : State) (m : Tbl (Tbl Row)) : Keeps 0x5000000000000000000000000000000000000000000000000000f00ff007e00010000000000000000000000000000000000000000000000000000000700070003000000000000000000000000000000000000000f00cb00010001000f0007000f00000000000000000000000000000000000000000000000b0007000300070001000000000000000000000000000000000000000000000000000000000000000001ffffff s (State.loadCorrections s m) := by
  unfold State.loadCorrections
  repeat' first
      | with_reducible exact Keeps.refl
      | with_reducible assumption
      | with_reducible refine Keeps.ite ?_ ?_
      | (with_reducible apply Keeps.setRow; · decide)
      | (with_reducible refine Keeps.foldl (fun _ _ _ => ?_) ?_)
      | extract_lets
      | intro _
      | split
      | (dsimp +zetaDelta only; split)

theorem State.saveSettings_keeps (s : State) : Keeps 0x5000000000000000000000000000000000000000000000000000f00ff007e00010000000000000000000000000000000000000000000000000000000700070003000000000000000000000000000000000000000f00db00010001000f0007000f00000000000000000000000000000000000000000000000b0007000300070000000000000000000000000000000000000000000000000000000000000000000001feef7f s (State.saveSettings s) := by
  unfold State.saveSettings
  repeat' first
      | with_reducible exact Keeps.refl
      | with_reducible assumption
      | with_reducible refine Keeps.ite ?_ ?_
      | (with_reducible apply Keeps.setVal; · decide)
      | extract_lets
      | intro _
      | split
      | (with_reducible apply Keeps.set_eop; (case h0 => decide))
      | (with_reducible apply Keeps.set_update; (case h0 => decide))
      | (with_reducible apply Keeps.set_flash; (case h0 => decide))
      | (dsimp +zetaDelta only; split)

theorem State.saveCome_keeps (s : State) : Keeps 0x5000000000000000000000000000000000000000000000000000f00ff007e00010000000000000000000000000000000000000000000000000000000700070003000000000000000000000000000000000000000f00db00010001000f0007000f00000000000000000000000000000000000000000000000b0007000300070000000000000000000000000000000000000000000000000000000000000000000001feef7f s (State.saveCome s) := by
  unfold State.saveCome
  repeat' first
      | with_reducible exact Keeps.refl
      | with_reducible assumption
      | with_reducible refine Keeps.ite ?_ ?_
      | (with_reducible apply Keeps.step (State.saveSettings_keeps ..); · decide)
      | extract_lets
      | intro _
      | split
      | (dsimp +zetaDelta only; split)

theorem execSettingsSave_keeps (ok : Bool) (s : State) : Keeps 0x5000000000000000000000000000000000000000000000000000f00ff007e00000000000000000000000000000000000000000000000000000000000700070003000000000000000000000000000000000000000f00db00010001000f0007000f00000000000000000000000000000000000000000000000b0007000300070000000000000000000000000000000000000000000000000000000000000000000001feed7f s (execSettingsSave ok s) := by
  unfold execSettingsSave
  repeat' first
      | with_reducible exact Keeps.refl
      | with_reducible assumption
      | with_reducible refine Keeps.ite ?_ ?_
      | (with_reducible apply Keeps.step (State.raise_keeps ..); · decide)
      | (with_reducible apply Keeps.step (State.saveSettings_keeps ..); · decide)
      | extract_lets
      | intro _
      | split
      | (with_reducible apply Keeps.set_eop; (case h0 => decide))
      | (dsimp +zetaDelta only; split)

theorem State.loadSettings_keeps (s : State) : Keeps 0x1feed7f s (State.loadSettings s) := by
  unfold State.loadSettings
  repeat' first
      | with_reducible exact Keeps.refl
      | with_reducible assumption
      | with_reducible refine Keeps.ite ?_ ?_
      | (with_reducible apply Keeps.setVal; · decide)
      | (with_reducible apply Keeps.step (State.raise_keeps ..); · decide)
      | (with_reducible apply Keeps.step (State.loadObjs_keeps ..); · decide)
      | (with_reducible apply Keeps.step (State.loadCorrections_keeps ..); · decide)
      | (with_reducible apply Keeps.step (State.saveSettings_keeps ..); · decide)
      | extract_lets
      | intro _
      | split
      | (dsimp +zetaDelta only; split)

theorem State.loadBerm_keeps (s : State) : Keeps 0x1ffffff s (State.loadBerm s) := by
  unfold State.loadBerm
  repeat' first
      | with_reducible exact Keeps.refl
      | with_reducible assumption
      | with_reducible refine Keeps.ite ?_ ?_
      | (with_reducible apply Keeps.setVal; · decide)
      | (with_reducible apply Keeps.step (State.loadObjs_keeps ..); · decide)
      | extract_lets
      | intro _
      | split
      | (dsimp +zetaDelta only; split)

theorem State.requestReset_keeps (s : State) (c mem addr rank : Nat) : Keeps 0x5000000000000000000000000000000000000000000000000000f00ff007e00010000000000000000000000000000000000000000000000000000000700070003000000000000000000000000000000000000000f00db00010001000f0007000f00000000000000000000000000000000000000000000000b0007000300070000000000000000000000000000000000000000000000000000000000000000000001feef1f s (State.requestReset s c mem addr rank) := by
  unfold State.requestReset
  repeat' first
      | with_reducible exact Keeps.refl
      | with_reducible assumption
      | with_reducible refine Keeps.ite ?_ ?_
      | (with_reducible apply Keeps.step (State.quench_keeps ..); · decide)
      | (with_reducible apply Keeps.step (State.requestAgain_keeps ..); · decide)
      | (with_reducible apply Keeps.step (State.saveCome_keeps ..); · decide)
      | extract_lets
      | intro _
      | split
      | (with_reducible apply Keeps.set_aon_eop; (case h0 => decide); (case h1 => decide))
      | (with_reducible apply Keeps.set_power; (case h0 => decide))
      | (dsimp +zetaDelta only; split)

theorem State.requestCause_keeps (s : State) (c : Nat) : Keeps 0x5000000000000000000000000000000000000000000000000000f00ff007e00010000000000000000000000000000000000000000000000000000000700070003000000000000000000000000000000000000000f00db00010001000f0007000f00000000000000000000000000000000000000000000000b0007000300070000000000000000000000000000000000000000000000000000000000000000000001feef1f s (State.requestCause s c) := by
  unfold State.requestCause
  repeat' first
      | with_reducible exact Keeps.refl
      | with_reducible assumption
      | with_reducible refine Keeps.ite ?_ ?_
      | (with_reducible apply Keeps.step (State.requestReset_keeps ..); · decide)
      | extract_lets
      | intro _
      | split
      | (dsimp +zetaDelta only; split)

end Sys2Proof.Machine
end

