-- ==== Sys2Proof/Laws/KeepsCal.lean ====
section
/-! SUPPORT. What each operation of Machine/Cal.lean leaves alone. -/

set_option linter.all false
namespace Sys2Proof.Machine

theorem State.setCal_keeps (s : State) (x : Cal) : Keeps 0x5000000000000000000000000000000000000000000000000000f00ff007e00010000000000000000000000000000000000000000000000000000000700070003000000000000000000000000000000000000000f00db00010001000f0007000f00000000000000000000000000000000000000000000000b00070003000700010000000000000000000000000000000000000000000000000000000000000000017fffff s (State.setCal s x) := by
  unfold State.setCal
  repeat' first
      | with_reducible exact Keeps.refl
      | with_reducible assumption
      | with_reducible refine Keeps.ite ?_ ?_
      | extract_lets
      | intro _
      | split
      | (with_reducible apply Keeps.set_cal; (case h0 => decide))
      | (dsimp +zetaDelta only; split)

theorem State.calChanged_keeps (s : State) : Keeps 0x5000000000000000000000000000000000000000000000000000f00ff007e00010000000000000000000000000000000000000000000000000000000700070003000000000000000000000000000000000000000f00db00010001000f0007000f00000000000000000000000000000000000000000000000b00070003000700010000000000000000000000000000000000000000000000000000000000000000017fffff s (State.calChanged s) := by
  unfold State.calChanged
  repeat' first
      | with_reducible exact Keeps.refl
      | with_reducible assumption
      | with_reducible refine Keeps.ite ?_ ?_
      | (with_reducible apply Keeps.step (State.setCal_keeps ..); · decide)
      | extract_lets
      | intro _
      | split
      | (dsimp +zetaDelta only; split)

theorem execReftPresence_keeps (ppm : Int) (s0 : State) : Keeps 0x5000000000000000000000000000000000000000000000000000f00ff007e00000000000000000000000000000000000000000000000000000000000700070003000000000000000000000000000000000000000d00db00010001000f0007000f00000000000000000000000000000000000000000000000b00070003000700010000000000000000000000000000000000000000000000000000000000000000017fecfd s0 (execReftPresence ppm s0) := by
  unfold execReftPresence
  repeat' first
      | with_reducible exact Keeps.refl
      | with_reducible assumption
      | with_reducible refine Keeps.ite ?_ ?_
      | (with_reducible apply Keeps.setFld; · decide)
      | (with_reducible apply Keeps.step (State.advanceTo_keeps ..); · decide)
      | (with_reducible apply Keeps.step (State.raise_keeps ..); · decide)
      | (with_reducible apply Keeps.step (State.setCal_keeps ..); · decide)
      | extract_lets
      | intro _
      | split
      | (dsimp +zetaDelta only; split)

theorem execReftMeasurement_keeps (s0 : State) : Keeps 0x5000000000000000000000000000000000000000000000000000f00ff007e00010000000000000000000000000000000000000000000000000000000700070003000000000000000000000000000000000000000f00db00010001000f0007000f00000000000000000000000000000000000000000000000b00070003000700010000000000000000000000000000000000000000000000000000000000000000017ffefd s0 (execReftMeasurement s0) := by
  unfold execReftMeasurement
  repeat' first
      | with_reducible exact Keeps.refl
      | with_reducible assumption
      | with_reducible refine Keeps.ite ?_ ?_
      | (with_reducible apply Keeps.step (State.advanceTo_keeps ..); · decide)
      | (with_reducible apply Keeps.step (State.setCal_keeps ..); · decide)
      | extract_lets
      | intro _
      | split
      | (dsimp +zetaDelta only; split)

theorem execReftMeasurementDone_keeps (cycles : Nat) (bins : List Nat) (s0 : State) : Keeps 0x5000000000000000000000000000000000000000000000000000f007f007e00010000000000000000000000000000000000000000000000000000000700070003000000000000000000000000000000000000000d00db00010001000f0007000f00000000000000000000000000000000000000000000000b00070003000700010000000000000000000000000000000000000000000000000000000000000000017ffefd s0 (execReftMeasurementDone cycles bins s0) := by
  unfold execReftMeasurementDone
  repeat' first
      | with_reducible exact Keeps.refl
      | with_reducible assumption
      | with_reducible refine Keeps.ite ?_ ?_
      | (with_reducible apply Keeps.setRow; · decide)
      | (with_reducible apply Keeps.bump; · decide)
      | (with_reducible apply Keeps.step (State.advanceTo_keeps ..); · decide)
      | (with_reducible apply Keeps.step (State.setCal_keeps ..); · decide)
      | extract_lets
      | intro _
      | split
      | (dsimp +zetaDelta only; split)

theorem State.stageTaps_keeps (s : State) (p : Nat) (v : Row) : Keeps 0x5000000000000000000000000000000000000000000000000000f00ff007e00010000000000000000000000000000000000000000000000000000000700070003000000000000000000000000000000000000000f00db00010001000f0007000f00000000000000000000000000000000000000000000000b00070003000700010000000000000000000000000000000000000000000000000000000000000000017fffff s (State.stageTaps s p v) := by
  unfold State.stageTaps
  repeat' first
      | with_reducible exact Keeps.refl
      | with_reducible assumption
      | with_reducible refine Keeps.ite ?_ ?_
      | (with_reducible apply Keeps.step (State.setCal_keeps ..); · decide)
      | extract_lets
      | intro _
      | split
      | (dsimp +zetaDelta only; split)

theorem writeCalPin_keeps (p : Nat) (v : Row) (s : State) : Keeps 0x5000000000000000000000000000000000000000000000000000f007f007e00010000000000000000000000000000000000000000000000000000000700070003000000000000000000000000000000000000000d00db00010001000f0007000f00000000000000000000000000000000000000000000000b00070003000700010000000000000000000000000000000000000000000000000000000000000000016fffff s (writeCalPin p v s).st := by
  unfold writeCalPin
  repeat' first
      | with_reducible exact Keeps.refl
      | with_reducible assumption
      | with_reducible refine Keeps.ite ?_ ?_
      | (with_reducible apply Keeps.setRow; · decide)
      | (with_reducible apply Keeps.step (done_keeps ..); · decide)
      | (with_reducible apply Keeps.step (State.applyTaps_keeps ..); · decide)
      | (with_reducible apply Keeps.step (State.calChanged_keeps ..); · decide)
      | (with_reducible apply Keeps.step (State.stageTaps_keeps ..); · decide)
      | extract_lets
      | intro _
      | split
      | (dsimp +zetaDelta only; split)

theorem execTapApply_keeps (q : Nat) (s0 : State) : Keeps 0x5000000000000000000000000000000000000000000000000000f007f007e00010000000000000000000000000000000000000000000000000000000700070003000000000000000000000000000000000000000d00db00010001000f0007000f00000000000000000000000000000000000000000000000b00070003000700010000000000000000000000000000000000000000000000000000000000000000016ffefd s0 (execTapApply q s0) := by
  unfold execTapApply
  repeat' first
      | with_reducible exact Keeps.refl
      | with_reducible assumption
      | with_reducible refine Keeps.ite ?_ ?_
      | (with_reducible apply Keeps.step (State.advanceElapsed_keeps ..); · decide)
      | (with_reducible apply Keeps.step (State.applyTaps_keeps ..); · decide)
      | (with_reducible refine Keeps.foldl (fun _ _ _ => ?_) ?_)
      | extract_lets
      | intro _
      | split
      | (dsimp +zetaDelta only; split)

theorem State.passPin_keeps (s0 : State) (q : Nat) (targetR targetF : Rat) (m : PinMeasure) : Keeps 0x5000000000000000000000000000000000000000000000000000f007f007e00000000000000000000000000000000000000000000000000000000000700070003000000000000000000000000000000000000000d00db00010001000f0007000f00000000000000000000000000000000000000000000000b00070003000700010000000000000000000000000000000000000000000000000000000000000000017fedfb s0 (State.passPin s0 q targetR targetF m) := by
  unfold State.passPin
  repeat' first
      | with_reducible exact Keeps.refl
      | with_reducible assumption
      | with_reducible refine Keeps.ite ?_ ?_
      | (with_reducible apply Keeps.setRow; · decide)
      | (with_reducible apply Keeps.bump; · decide)
      | (with_reducible apply Keeps.step (State.drawNat_keeps ..); · decide)
      | (with_reducible apply Keeps.step (State.raise_keeps ..); · decide)
      | (with_reducible apply Keeps.step (State.stageTaps_keeps ..); · decide)
      | extract_lets
      | intro _
      | split
      | (dsimp +zetaDelta only; split)

theorem execCalibrationPass_keeps (q : Nat) (ms : List PinMeasure) (s0 : State) : Keeps 0x5000000000000000000000000000000000000000000000000000f007f007e00000000000000000000000000000000000000000000000000000000000700070003000000000000000000000000000000000000000d00db00010001000f0007000f00000000000000000000000000000000000000000000000b00070003000700010000000000000000000000000000000000000000000000000000000000000000016fecf9 s0 (execCalibrationPass q ms s0) := by
  unfold execCalibrationPass
  repeat' first
      | with_reducible exact Keeps.refl
      | with_reducible assumption
      | with_reducible refine Keeps.ite ?_ ?_
      | (with_reducible apply Keeps.bump; · decide)
      | (with_reducible apply Keeps.step (State.advanceTo_keeps ..); · decide)
      | (with_reducible apply Keeps.step (State.setQuire_keeps ..); · decide)
      | (with_reducible apply Keeps.step (State.calChanged_keeps ..); · decide)
      | (with_reducible apply Keeps.step (State.passPin_keeps ..); · decide)
      | (with_reducible refine Keeps.foldl (fun _ _ _ => ?_) ?_)
      | extract_lets
      | intro _
      | split
      | (dsimp +zetaDelta only; split)

theorem State.calStoreDue_keeps (s : State) : Keeps 0x5000000000000000000000000000000000000000000000000000f00ff007e00010000000000000000000000000000000000000000000000000000000700070003000000000000000000000000000000000000000f00db00010001000f0007000f00000000000000000000000000000000000000000000000b00070003000700010000000000000000000000000000000000000000000000000000000000000000017fffff s (State.calStoreDue s) := by
  unfold State.calStoreDue
  repeat' first
      | with_reducible exact Keeps.refl
      | with_reducible assumption
      | with_reducible refine Keeps.ite ?_ ?_
      | (with_reducible apply Keeps.step (State.setCal_keeps ..); · decide)
      | extract_lets
      | intro _
      | split
      | (dsimp +zetaDelta only; split)

theorem State.calStoreWritten_keeps (ok confirm : Bool) (s0 : State) : Keeps 0x5000000000000000000000000000000000000000000000000000f007f007e00000000000000000000000000000000000000000000000000000000000700070003000000000000000000000000000000000000000700db00010001000f0007000f00000000000000000000000000000000000000000000000b00070003000700010000000000000000000000000000000000000000000000000000000000000000017eec7d s0 (State.calStoreWritten ok confirm s0) := by
  unfold State.calStoreWritten
  repeat' first
      | with_reducible exact Keeps.refl
      | with_reducible assumption
      | with_reducible refine Keeps.ite ?_ ?_
      | (with_reducible apply Keeps.setRow; · decide)
      | (with_reducible apply Keeps.bump; · decide)
      | (with_reducible apply Keeps.step (State.advanceTo_keeps ..); · decide)
      | (with_reducible apply Keeps.step (State.raise_keeps ..); · decide)
      | (with_reducible apply Keeps.step (State.setCal_keeps ..); · decide)
      | extract_lets
      | intro _
      | split
      | (with_reducible apply Keeps.set_update; (case h0 => decide))
      | (with_reducible apply Keeps.set_flash; (case h0 => decide))
      | (dsimp +zetaDelta only; split)

theorem execCalStoreWrite_keeps (ok : Bool) (s : State) : Keeps 0x5000000000000000000000000000000000000000000000000000f007f007e00000000000000000000000000000000000000000000000000000000000700070003000000000000000000000000000000000000000700db00010001000f0007000f00000000000000000000000000000000000000000000000b00070003000700010000000000000000000000000000000000000000000000000000000000000000017eec7d s (execCalStoreWrite ok s) := by
  unfold execCalStoreWrite
  repeat' first
      | with_reducible exact Keeps.refl
      | with_reducible assumption
      | with_reducible refine Keeps.ite ?_ ?_
      | (with_reducible apply Keeps.step (State.calStoreWritten_keeps ..); · decide)
      | extract_lets
      | intro _
      | split
      | (dsimp +zetaDelta only; split)

theorem writeCalStoreSave_keeps (v : Nat) (s : State) : Keeps 0x5000000000000000000000000000000000000000000000000000f00ff007e00010000000000000000000000000000000000000000000000000000000700070003000000000000000000000000000000000000000f00db00010001000f0007000f00000000000000000000000000000000000000000000000b00070003000700010000000000000000000000000000000000000000000000000000000000000000017fffff s (writeCalStoreSave v s).st := by
  unfold writeCalStoreSave
  repeat' first
      | with_reducible exact Keeps.refl
      | with_reducible assumption
      | with_reducible refine Keeps.ite ?_ ?_
      | (with_reducible apply Keeps.step (done_keeps ..); · decide)
      | (with_reducible apply Keeps.step (State.calStoreDue_keeps ..); · decide)
      | extract_lets
      | intro _
      | split
      | (dsimp +zetaDelta only; split)

theorem State.loadRegionCal_keeps (s : State) (m : Tbl (Tbl Row)) (r : Nat) : Keeps 0x5000000000000000000000000000000000000000000000000000f00ff007e00010000000000000000000000000000000000000000000000000000000700070003000000000000000000000000000000000000000b00cb00010001000f0007000f00000000000000000000000000000000000000000000000b0007000300070001000000000000000000000000000000000000000000000000000000000000000001ffffff s (State.loadRegionCal s m r) := by
  unfold State.loadRegionCal
  repeat' first
      | with_reducible exact Keeps.refl
      | with_reducible assumption
      | with_reducible refine Keeps.ite ?_ ?_
      | (with_reducible apply Keeps.setRow; · decide)
      | extract_lets
      | intro _
      | split
      | (dsimp +zetaDelta only; split)

theorem State.loadPinCal_keeps (s : State) (m : Tbl (Tbl Row)) (p : Nat) : Keeps 0x5000000000000000000000000000000000000000000000000000f00ff007e00010000000000000000000000000000000000000000000000000000000700070003000000000000000000000000000000000000000d00db00010001000f0007000f00000000000000000000000000000000000000000000000b0007000300070001000000000000000000000000000000000000000000000000000000000000000001ffffff s (State.loadPinCal s m p) := by
  unfold State.loadPinCal
  repeat' first
      | with_reducible exact Keeps.refl
      | with_reducible assumption
      | with_reducible refine Keeps.ite ?_ ?_
      | (with_reducible apply Keeps.setRow; · decide)
      | extract_lets
      | intro _
      | split
      | (dsimp +zetaDelta only; split)

theorem State.loadCal_keeps (s : State) : Keeps 0x5000000000000000000000000000000000000000000000000000f00ff007e00000000000000000000000000000000000000000000000000000000000700070003000000000000000000000000000000000000000100cb00010001000f0007000f00000000000000000000000000000000000000000000000b0007000300070001000000000000000000000000000000000000000000000000000000000000000001ffedff s (State.loadCal s) := by
  unfold State.loadCal
  repeat' first
      | with_reducible exact Keeps.refl
      | with_reducible assumption
      | with_reducible refine Keeps.ite ?_ ?_
      | (with_reducible apply Keeps.setRows; · decide)
      | (with_reducible apply Keeps.setRow; · decide)
      | (with_reducible apply Keeps.step (State.raise_keeps ..); · decide)
      | (with_reducible apply Keeps.step (State.loadRegionCal_keeps ..); · decide)
      | (with_reducible apply Keeps.step (State.loadPinCal_keeps ..); · decide)
      | (with_reducible refine Keeps.foldl (fun _ _ _ => ?_) ?_)
      | extract_lets
      | intro _
      | split
      | (dsimp +zetaDelta only; split)

theorem State.sessionHolds6_keeps (s : State) : Keeps 0x5000000000000000000000000000000000000000000000000000f00ff007e00000000000000000000000000000000000000000000000000000000000700070003000000000000000000000000000000000000000f00cb00010001000f0007000f00000000000000000000000000000000000000000000000b0007000300070001000000000000000000000000000000000000000000000000000000000000000001bfedff s (State.sessionHolds6 s) := by
  unfold State.sessionHolds6
  repeat' first
      | with_reducible exact Keeps.refl
      | with_reducible assumption
      | with_reducible refine Keeps.ite ?_ ?_
      | (with_reducible apply Keeps.step (State.setRegionState_keeps ..); · decide)
      | (with_reducible apply Keeps.step (State.regionFault_keeps ..); · decide)
      | (with_reducible refine Keeps.foldl (fun _ _ _ => ?_) ?_)
      | extract_lets
      | intro _
      | split
      | (dsimp +zetaDelta only; split)

theorem writeRefSession_keeps (w : Who) (v : Row) (s : State) : Keeps 0x5000000000000000000000000000000000000000000000000000e00ff007e00000000000000000000000000000000000000000000000000000000000700070003000000000000000000000000000000000000000f00cb00010001000f0007000f00000000000000000000000000000000000000000000000b00070003000700010000000000000000000000000000000000000000000000000000000000000000013fcdff s (writeRefSession w v s).st := by
  unfold writeRefSession
  repeat' first
      | with_reducible exact Keeps.refl
      | with_reducible assumption
      | with_reducible refine Keeps.ite ?_ ?_
      | (with_reducible apply Keeps.step (refuse_keeps ..); · decide)
      | (with_reducible refine accept_keeps (by decide) (fun _ _ => ?_) ?_)
      | (with_reducible apply Keeps.step (State.setCal_keeps ..); · decide)
      | (with_reducible apply Keeps.step (State.sessionHolds6_keeps ..); · decide)
      | extract_lets
      | intro _
      | split
      | (dsimp +zetaDelta only; split)

theorem State.sessionDone_keeps (s : State) (x : RefSession) (status : Nat) : Keeps 0x5000000000000000000000000000000000000000000000000000e007f001c00000000000000000000000000000000000000000000000000000000000700070003000000000000000000000000000000000000000f00db00010001000f0007000f00000000000000000000000000000000000000000000000100070003000700010000000000000000000000000000000000000000000000000000000000000000017f8dff s (State.sessionDone s x status) := by
  unfold State.sessionDone
  repeat' first
      | with_reducible exact Keeps.refl
      | with_reducible assumption
      | with_reducible refine Keeps.ite ?_ ?_
      | (with_reducible apply Keeps.bump; · decide)
      | (with_reducible apply Keeps.step (State.raise_keeps ..); · decide)
      | (with_reducible apply Keeps.step (State.completeTask_keeps ..); · decide)
      | (with_reducible apply Keeps.step (State.setCal_keeps ..); · decide)
      | extract_lets
      | intro _
      | split
      | (dsimp +zetaDelta only; split)

theorem State.setGain_keeps (s : State) (k : Nat) (row : Row) : Keeps 0x5000000000000000000000000000000000000000000000000000f00ff007e00010000000000000000000000000000000000000000000000000000000700070003000000000000000000000000000000000000000b00db00010001000f0007000f00000000000000000000000000000000000000000000000b00070003000700010000000000000000000000000000000000000000000000000000000000000000017fffff s (State.setGain s k row) := by
  unfold State.setGain
  repeat' first
      | with_reducible exact Keeps.refl
      | with_reducible assumption
      | with_reducible refine Keeps.ite ?_ ?_
      | (with_reducible apply Keeps.setRow; · decide)
      | (with_reducible apply Keeps.step (State.calChanged_keeps ..); · decide)
      | (with_reducible refine Keeps.foldl (fun _ _ _ => ?_) ?_)
      | extract_lets
      | intro _
      | split
      | (dsimp +zetaDelta only; split)

theorem State.sessionGain_keeps (s : State) (x : RefSession) (y : Rat) : Keeps 0x5000000000000000000000000000000000000000000000000000e007f001c00000000000000000000000000000000000000000000000000000000000700070003000000000000000000000000000000000000000b00db00010001000f0007000f00000000000000000000000000000000000000000000000100070003000700010000000000000000000000000000000000000000000000000000000000000000017f8dff s (State.sessionGain s x y) := by
  unfold State.sessionGain
  repeat' first
      | with_reducible exact Keeps.refl
      | with_reducible assumption
      | with_reducible refine Keeps.ite ?_ ?_
      | (with_reducible apply Keeps.step (State.calStoreDue_keeps ..); · decide)
      | (with_reducible apply Keeps.step (State.sessionDone_keeps ..); · decide)
      | (with_reducible apply Keeps.step (State.setGain_keeps ..); · decide)
      | extract_lets
      | intro _
      | split
      | (dsimp +zetaDelta only; split)

theorem State.sessionEnds_keeps (s : State) (x : RefSession) : Keeps 0x5000000000000000000000000000000000000000000000000000e007f001c00000000000000000000000000000000000000000000000000000000000700070003000000000000000000000000000000000000000b00db00010001000f0007000f00000000000000000000000000000000000000000000000100070003000700010000000000000000000000000000000000000000000000000000000000000000017f8dff s (State.sessionEnds s x) := by
  unfold State.sessionEnds
  repeat' first
      | with_reducible exact Keeps.refl
      | with_reducible assumption
      | with_reducible refine Keeps.ite ?_ ?_
      | (with_reducible apply Keeps.step (State.setCal_keeps ..); · decide)
      | (with_reducible apply Keeps.step (State.sessionDone_keeps ..); · decide)
      | (with_reducible apply Keeps.step (State.sessionGain_keeps ..); · decide)
      | extract_lets
      | intro _
      | split
      | (dsimp +zetaDelta only; split)

theorem execRefSessionEnd_keeps (s0 : State) : Keeps 0x5000000000000000000000000000000000000000000000000000e007f001c00000000000000000000000000000000000000000000000000000000000700070003000000000000000000000000000000000000000b00db00010001000f0007000f00000000000000000000000000000000000000000000000100070003000700010000000000000000000000000000000000000000000000000000000000000000017f8cfd s0 (execRefSessionEnd s0) := by
  unfold execRefSessionEnd
  repeat' first
      | with_reducible exact Keeps.refl
      | with_reducible assumption
      | with_reducible refine Keeps.ite ?_ ?_
      | (with_reducible apply Keeps.step (State.advanceTo_keeps ..); · decide)
      | (with_reducible apply Keeps.step (State.sessionEnds_keeps ..); · decide)
      | extract_lets
      | intro _
      | split
      | (dsimp +zetaDelta only; split)

theorem writeRefReading_keeps (v : Nat) (s : State) : Keeps 0x5000000000000000000000000000000000000000000000000000e007f001c00000000000000000000000000000000000000000000000000000000000700070003000000000000000000000000000000000000000b00db00010001000f0007000f00000000000000000000000000000000000000000000000100070003000700010000000000000000000000000000000000000000000000000000000000000000017f8dff s (writeRefReading v s).st := by
  unfold writeRefReading
  repeat' first
      | with_reducible exact Keeps.refl
      | with_reducible assumption
      | with_reducible refine Keeps.ite ?_ ?_
      | (with_reducible apply Keeps.step (refuse_keeps ..); · decide)
      | (with_reducible apply Keeps.step (done_keeps ..); · decide)
      | (with_reducible apply Keeps.step (State.setCal_keeps ..); · decide)
      | (with_reducible apply Keeps.step (State.sessionGain_keeps ..); · decide)
      | extract_lets
      | intro _
      | split
      | (dsimp +zetaDelta only; split)

theorem writeRefCancel_keeps (v : Nat) (s : State) : Keeps 0x5000000000000000000000000000000000000000000000000000e007f001c00000000000000000000000000000000000000000000000000000000000700070003000000000000000000000000000000000000000f00db00010001000f0007000f00000000000000000000000000000000000000000000000100070003000700010000000000000000000000000000000000000000000000000000000000000000017f8dff s (writeRefCancel v s).st := by
  unfold writeRefCancel
  repeat' first
      | with_reducible exact Keeps.refl
      | with_reducible assumption
      | with_reducible refine Keeps.ite ?_ ?_
      | (with_reducible apply Keeps.step (done_keeps ..); · decide)
      | (with_reducible apply Keeps.step (State.sessionDone_keeps ..); · decide)
      | extract_lets
      | intro _
      | split
      | (dsimp +zetaDelta only; split)

theorem execRefSessionTimeout_keeps (s0 : State) : Keeps 0x5000000000000000000000000000000000000000000000000000e007f001c00000000000000000000000000000000000000000000000000000000000700070003000000000000000000000000000000000000000f00db00010001000f0007000f00000000000000000000000000000000000000000000000100070003000700010000000000000000000000000000000000000000000000000000000000000000017f8cfd s0 (execRefSessionTimeout s0) := by
  unfold execRefSessionTimeout
  repeat' first
      | with_reducible exact Keeps.refl
      | with_reducible assumption
      | with_reducible refine Keeps.ite ?_ ?_
      | (with_reducible apply Keeps.step (State.advanceTo_keeps ..); · decide)
      | (with_reducible apply Keeps.step (State.sessionDone_keeps ..); · decide)
      | extract_lets
      | intro _
      | split
      | (dsimp +zetaDelta only; split)

theorem writeGainReset_keeps (k v : Nat) (s : State) : Keeps 0x5000000000000000000000000000000000000000000000000000f00ff007e00010000000000000000000000000000000000000000000000000000000700070003000000000000000000000000000000000000000b00db00010001000f0007000f00000000000000000000000000000000000000000000000b00070003000700010000000000000000000000000000000000000000000000000000000000000000017fffff s (writeGainReset k v s).st := by
  unfold writeGainReset
  repeat' first
      | with_reducible exact Keeps.refl
      | with_reducible assumption
      | with_reducible refine Keeps.ite ?_ ?_
      | (with_reducible apply Keeps.step (done_keeps ..); · decide)
      | (with_reducible apply Keeps.step (State.setGain_keeps ..); · decide)
      | extract_lets
      | intro _
      | split
      | (dsimp +zetaDelta only; split)

end Sys2Proof.Machine
end

