-- ==== Sys2Proof/Laws/KeepsHeads.lean ====
section
/-! SUPPORT. What each operation of Machine/Heads.lean leaves alone. -/

set_option linter.all false
namespace Sys2Proof.Machine

theorem State.fire_keeps (s : State) (h off : Nat) : Keeps 0x5000000000000000000000000000000000000000000000000000f00ff007e00000000000000000000000000000000000000000000000000000000000700070003000000000000000000000000000000000000000f00db00010001000f0007000f00000000000000000000000000000000000000000000000b0007000300070001000000000000000000000000000000000000000000000000000000000000000001ffedff s (State.fire s h off) := by
  unfold State.fire
  repeat' first
      | with_reducible exact Keeps.refl
      | with_reducible assumption
      | with_reducible refine Keeps.ite ?_ ?_
      | (with_reducible apply Keeps.step (State.raise_keeps ..); · decide)
      | extract_lets
      | intro _
      | split
      | (dsimp +zetaDelta only; split)

theorem State.headCount_keeps (s : State) (h c : Nat) : Keeps 0x5000000000000000000000000000000000000000000000000000f00fb007e00010000000000000000000000000000000000000000000000000000000700070003000000000000000000000000000000000000000f00db00010001000f0007000f00000000000000000000000000000000000000000000000b0007000300070001000000000000000000000000000000000000000000000000000000000000000001ffffff s (State.headCount s h c) := by
  unfold State.headCount
  repeat' first
      | with_reducible exact Keeps.refl
      | with_reducible assumption
      | with_reducible refine Keeps.ite ?_ ?_
      | (with_reducible apply Keeps.bump; · decide)
      | extract_lets
      | intro _
      | split
      | (dsimp +zetaDelta only; split)

theorem State.rejectCommit_keeps (s : State) (h reason : Nat) : Keeps 0x5000000000000000000000000000000000000000000000000000f00f9007e00000000000000000000000000000000000000000000000000000000000700070003000000000000000000000000000000000000000f00db00010001000e0007000f00000000000000000000000000000000000000000000000b0007000300070001000000000000000000000000000000000000000000000000000000000000000001ffedff s (State.rejectCommit s h reason) := by
  unfold State.rejectCommit
  repeat' first
      | with_reducible exact Keeps.refl
      | with_reducible assumption
      | with_reducible refine Keeps.ite ?_ ?_
      | (with_reducible apply Keeps.setFld; · decide)
      | (with_reducible apply Keeps.bump32; · decide)
      | (with_reducible apply Keeps.step (State.fire_keeps ..); · decide)
      | (with_reducible apply Keeps.step (State.headCount_keeps ..); · decide)
      | extract_lets
      | intro _
      | split
      | (dsimp +zetaDelta only; split)

theorem State.acceptCommit_keeps (s : State) (h : Nat) (c : Commit) : Keeps 0x5000000000000000000000000000000000000000000000000000f00fd007e00010000000000000000000000000000000000000000000000000000000700070003000000000000000000000000000000000000000f00db00010001000e0007000f00000000000000000000000000000000000000000000000b0007000300070001000000000000000000000000000000000000000000000000000000000000000001fbffff s (State.acceptCommit s h c) := by
  unfold State.acceptCommit
  repeat' first
      | with_reducible exact Keeps.refl
      | with_reducible assumption
      | with_reducible refine Keeps.ite ?_ ?_
      | (with_reducible apply Keeps.setFld; · decide)
      | (with_reducible apply Keeps.bump32; · decide)
      | (with_reducible refine Keeps.foldl (fun _ _ _ => ?_) ?_)
      | extract_lets
      | intro _
      | split
      | (with_reducible apply Keeps.set_disp; (case h0 => decide))
      | (dsimp +zetaDelta only; split)

theorem State.armCommit_keeps (s : State) (h : Nat) (ovr : Bool) (task : Option Nat) : Keeps 0x5000000000000000000000000000000000000000000000000000f00f9007e00000000000000000000000000000000000000000000000000000000000700070003000000000000000000000000000000000000000f00db00010001000e0003000f00000000000000000000000000000000000000000000000b0007000300070001000000000000000000000000000000000000000000000000000000000000000001fbedff s (State.armCommit s h ovr task).2 := by
  unfold State.armCommit
  repeat' first
      | with_reducible exact Keeps.refl
      | with_reducible assumption
      | with_reducible refine Keeps.ite ?_ ?_
      | with_reducible refine Keeps.ite_snd ?_ ?_
      | (with_reducible apply Keeps.setFld; · decide)
      | (with_reducible apply Keeps.step (State.setHead_keeps ..); · decide)
      | (with_reducible apply Keeps.step (State.fire_keeps ..); · decide)
      | (with_reducible apply Keeps.step (State.headCount_keeps ..); · decide)
      | (with_reducible apply Keeps.step (State.rejectCommit_keeps ..); · decide)
      | (with_reducible apply Keeps.step (State.acceptCommit_keeps ..); · decide)
      | extract_lets
      | intro _
      | split
      | (dsimp +zetaDelta only; split)

theorem State.armCommit_keeps' (s : State) (h : Nat) (ovr : Bool) (task : Option Nat) {α_ : _} {t_ : State} (he : State.armCommit s h ovr task = (α_, t_)) : Keeps 0x5000000000000000000000000000000000000000000000000000f00f9007e00000000000000000000000000000000000000000000000000000000000700070003000000000000000000000000000000000000000f00db00010001000e0003000f00000000000000000000000000000000000000000000000b0007000300070001000000000000000000000000000000000000000000000000000000000000000001fbedff s t_ := by
  have h := State.armCommit_keeps s h ovr task
  rw [he] at h
  exact h

theorem registerArm_keeps (h : Nat) (ovr : Bool) (s : State) : Keeps 0x5000000000000000000000000000000000000000000000000000f00f9007e00000000000000000000000000000000000000000000000000000000000700070003000000000000000000000000000000000000000f00db00010001000e0003000f00000000000000000000000000000000000000000000000b0007000300070001000000000000000000000000000000000000000000000000000000000000000001fbedff s (registerArm h ovr s) := by
  unfold registerArm
  repeat' first
      | with_reducible exact Keeps.refl
      | with_reducible assumption
      | with_reducible refine Keeps.ite ?_ ?_
      | (with_reducible apply Keeps.step (State.setHead_keeps ..); · decide)
      | (with_reducible apply Keeps.step (State.armCommit_keeps ..); · decide)
      | extract_lets
      | intro _
      | split
      | (dsimp +zetaDelta only; split)

theorem writeCommitArm_keeps (h v : Nat) (s : State) : Keeps 0x5000000000000000000000000000000000000000000000000000f00f9007e00000000000000000000000000000000000000000000000000000000000700070003000000000000000000000000000000000000000f00db00010001000e0003000f00000000000000000000000000000000000000000000000b0007000300070001000000000000000000000000000000000000000000000000000000000000000001fbedff s (writeCommitArm h v s).st := by
  unfold writeCommitArm
  repeat' first
      | with_reducible exact Keeps.refl
      | with_reducible assumption
      | with_reducible refine Keeps.ite ?_ ?_
      | (with_reducible apply Keeps.step (refuse_keeps ..); · decide)
      | (with_reducible apply Keeps.step (done_keeps ..); · decide)
      | (with_reducible apply Keeps.step (State.armCommit_keeps ..); · decide)
      | extract_lets
      | intro _
      | split
      | (dsimp +zetaDelta only; split)

theorem State.startHead_keeps (s : State) (h : Nat) : Keeps 0x5000000000000000000000000000000000000000000000000000e0059001c00000000000000000000000000000000000000000000000000000000000700070003000000000000000000000000000000000000000d00c800000001000e0002000f0000000000000000000000000000000000000000000000010007000300070001000000000000000000000000000000000000000000000000000000000000000001030dcf s (State.startHead s h).2 := by
  unfold State.startHead
  repeat' first
      | with_reducible exact Keeps.refl
      | with_reducible assumption
      | with_reducible refine Keeps.ite ?_ ?_
      | with_reducible refine Keeps.ite_snd ?_ ?_
      | (with_reducible apply Keeps.setFld; · decide)
      | (with_reducible apply Keeps.step (State.setHead_keeps ..); · decide)
      | (with_reducible apply Keeps.step (State.pendingRuns_keeps ..); · decide)
      | (with_reducible apply Keeps.step (State.rejectCommit_keeps ..); · decide)
      | (with_reducible apply Keeps.step (State.acceptCommit_keeps ..); · decide)
      | extract_lets
      | intro _
      | split
      | (dsimp +zetaDelta only; split)

theorem State.startHead_keeps' (s : State) (h : Nat) {α_ : _} {t_ : State} (he : State.startHead s h = (α_, t_)) : Keeps 0x5000000000000000000000000000000000000000000000000000e0059001c00000000000000000000000000000000000000000000000000000000000700070003000000000000000000000000000000000000000d00c800000001000e0002000f0000000000000000000000000000000000000000000000010007000300070001000000000000000000000000000000000000000000000000000000000000000001030dcf s t_ := by
  have h := State.startHead_keeps s h
  rw [he] at h
  exact h

theorem State.discardQueue_keeps (s : State) (h : Nat) : Keeps 0x5000000000000000000000000000000000000000000000000000e00fb001c00000000000000000000000000000000000000000000000000000000000700070003000000000000000000000000000000000000000f00db00010001000f0007000f0000000000000000000000000000000000000000000000010007000300070001000000000000000000000000000000000000000000000000000000000000000001fb8dff s (State.discardQueue s h) := by
  unfold State.discardQueue
  repeat' first
      | with_reducible exact Keeps.refl
      | with_reducible assumption
      | with_reducible refine Keeps.ite ?_ ?_
      | (with_reducible apply Keeps.step (State.completeOpt_keeps ..); · decide)
      | (with_reducible apply Keeps.step (State.setHead_keeps ..); · decide)
      | (with_reducible apply Keeps.step (State.headCount_keeps ..); · decide)
      | (with_reducible refine Keeps.foldl (fun _ _ _ => ?_) ?_)
      | extract_lets
      | intro _
      | split
      | (dsimp +zetaDelta only; split)

theorem State.headDisabled_keeps (s : State) (h : Nat) : Keeps 0x5000000000000000000000000000000000000000000000000000e0059001c00000000000000000000000000000000000000000000000000000000000700070003000000000000000000000000000000000000000d00c800000001000e0002000f0000000000000000000000000000000000000000000000010007000300070001000000000000000000000000000000000000000000000000000000000000000001030dcf s (State.headDisabled s h) := by
  unfold State.headDisabled
  repeat' first
      | with_reducible exact Keeps.refl
      | with_reducible assumption
      | with_reducible refine Keeps.ite ?_ ?_
      | (with_reducible apply Keeps.setFld; · decide)
      | (with_reducible apply Keeps.step (State.setHead_keeps ..); · decide)
      | (with_reducible apply Keeps.step (State.drainCheck_keeps ..); · decide)
      | (with_reducible apply Keeps.step (State.startHead_keeps ..); · decide)
      | extract_lets
      | intro _
      | split
      | (dsimp +zetaDelta only; split)

theorem State.stopHead_keeps (s : State) (h : Nat) : Keeps 0x5000000000000000000000000000000000000000000000000000e0059001c00000000000000000000000000000000000000000000000000000000000700070003000000000000000000000000000000000000000d00c800000001000e0002000f0000000000000000000000000000000000000000000000010007000300070001000000000000000000000000000000000000000000000000000000000000000001030dcf s (State.stopHead s h) := by
  unfold State.stopHead
  repeat' first
      | with_reducible exact Keeps.refl
      | with_reducible assumption
      | with_reducible refine Keeps.ite ?_ ?_
      | (with_reducible apply Keeps.setFld; · decide)
      | (with_reducible apply Keeps.step (State.setHead_keeps ..); · decide)
      | (with_reducible apply Keeps.step (State.headDisabled_keeps ..); · decide)
      | extract_lets
      | intro _
      | split
      | (dsimp +zetaDelta only; split)

theorem writeHeadEnable_keeps (h v : Nat) (s : State) : Keeps 0x5000000000000000000000000000000000000000000000000000e0059001c00000000000000000000000000000000000000000000000000000000000700070003000000000000000000000000000000000000000d00c800000001000e0002000f0000000000000000000000000000000000000000000000010007000300070001000000000000000000000000000000000000000000000000000000000000000001030dcf s (writeHeadEnable h v s).st := by
  unfold writeHeadEnable
  repeat' first
      | with_reducible exact Keeps.refl
      | with_reducible assumption
      | with_reducible refine Keeps.ite ?_ ?_
      | (with_reducible apply Keeps.setFld; · decide)
      | (with_reducible apply Keeps.step (refuse_keeps ..); · decide)
      | (with_reducible apply Keeps.step (done_keeps ..); · decide)
      | (with_reducible apply Keeps.step (State.setHead_keeps ..); · decide)
      | (with_reducible apply Keeps.step (State.startHead_keeps' (he := by assumption) ..); · decide)
      | (with_reducible apply Keeps.step (State.startHead_keeps ..); · decide)
      | (with_reducible apply Keeps.step (State.discardQueue_keeps ..); · decide)
      | (with_reducible apply Keeps.step (State.headDisabled_keeps ..); · decide)
      | (with_reducible apply Keeps.step (State.stopHead_keeps ..); · decide)
      | extract_lets
      | intro _
      | split
      | (dsimp +zetaDelta only; split)

theorem State.cutNow_keeps (s : State) (h : Nat) : Keeps 0x5000000000000000000000000000000000000000000000000000f00fb007e00000000000000000000000000000000000000000000000000000000000700070003000000000000000000000000000000000000000f00db00010001000f0007000f00000000000000000000000000000000000000000000000b0007000300070001000000000000000000000000000000000000000000000000000000000000000001fbedff s (State.cutNow s h) := by
  unfold State.cutNow
  repeat' first
      | with_reducible exact Keeps.refl
      | with_reducible assumption
      | with_reducible refine Keeps.ite ?_ ?_
      | (with_reducible apply Keeps.step (State.setHead_keeps ..); · decide)
      | (with_reducible apply Keeps.step (State.fire_keeps ..); · decide)
      | (with_reducible apply Keeps.step (State.headCount_keeps ..); · decide)
      | extract_lets
      | intro _
      | split
      | (dsimp +zetaDelta only; split)

theorem execCutLine_keeps (h : Nat) (s0 : State) : Keeps 0x5000000000000000000000000000000000000000000000000000f00fb007e00000000000000000000000000000000000000000000000000000000000700070003000000000000000000000000000000000000000f00db00010001000f0007000f00000000000000000000000000000000000000000000000b0007000300070001000000000000000000000000000000000000000000000000000000000000000001fbecfd s0 (execCutLine h s0) := by
  unfold execCutLine
  repeat' first
      | with_reducible exact Keeps.refl
      | with_reducible assumption
      | with_reducible refine Keeps.ite ?_ ?_
      | (with_reducible apply Keeps.step (State.advanceTb_keeps ..); · decide)
      | (with_reducible apply Keeps.step (State.cutNow_keeps ..); · decide)
      | extract_lets
      | intro _
      | split
      | (dsimp +zetaDelta only; split)

theorem State.applyLayer_keeps (s : State) (h : Nat) (c : Commit) (e : Nat × Row) : Keeps 0x5000000000000000000000000000000000000000000000000000f00ff007e00010000000000000000000000000000000000000000000000000000000700070003000000000000000000000000000000000000000f00db00010001000f0006000f00000000000000000000000000000000000000000000000b0007000300070001000000000000000000000000000000000000000000000000000000000000000001ffffff s (State.applyLayer s h c e) := by
  unfold State.applyLayer
  repeat' first
      | with_reducible exact Keeps.refl
      | with_reducible assumption
      | with_reducible refine Keeps.ite ?_ ?_
      | (with_reducible apply Keeps.setRow; · decide)
      | extract_lets
      | intro _
      | split
      | (dsimp +zetaDelta only; split)

theorem State.applyCommit_keeps (s : State) (h : Nat) (c : Commit) : Keeps 0x5000000000000000000000000000000000000000000000000000e00fb001c00000000000000000000000000000000000000000000000000000000000700070003000000000000000000000000000000000000000f00db00010001000e0000000f0000000000000000000000000000000000000000000000010007000300070001000000000000000000000000000000000000000000000000000000000000000001ff8dff s (State.applyCommit s h c) := by
  unfold State.applyCommit
  repeat' first
      | with_reducible exact Keeps.refl
      | with_reducible assumption
      | with_reducible refine Keeps.ite ?_ ?_
      | (with_reducible apply Keeps.setRow; · decide)
      | (with_reducible apply Keeps.setFld; · decide)
      | (with_reducible apply Keeps.step (State.completeOpt_keeps ..); · decide)
      | (with_reducible apply Keeps.step (State.headCount_keeps ..); · decide)
      | (with_reducible apply Keeps.step (State.applyLayer_keeps ..); · decide)
      | (with_reducible refine Keeps.foldl (fun _ _ _ => ?_) ?_)
      | extract_lets
      | intro _
      | split
      | (dsimp +zetaDelta only; split)

theorem State.lockFrame_keeps (s : State) (h : Nat) : Keeps 0x5000000000000000000000000000000000000000000000000000f00fb007e00000000000000000000000000000000000000000000000000000000000700070003000000000000000000000000000000000000000f00db00010001000e0007000f00000000000000000000000000000000000000000000000b0007000300070001000000000000000000000000000000000000000000000000000000000000000001fbedff s (State.lockFrame s h) := by
  unfold State.lockFrame
  repeat' first
      | with_reducible exact Keeps.refl
      | with_reducible assumption
      | with_reducible refine Keeps.ite ?_ ?_
      | (with_reducible apply Keeps.setRow; · decide)
      | (with_reducible apply Keeps.step (State.setHead_keeps ..); · decide)
      | (with_reducible apply Keeps.step (State.fire_keeps ..); · decide)
      | (with_reducible apply Keeps.step (State.headCount_keeps ..); · decide)
      | extract_lets
      | intro _
      | split
      | (dsimp +zetaDelta only; split)

theorem State.freezeOne_keeps (s : State) (h i : Nat) : Keeps 0x5000000000000000000000000000000000000000000000000000f00fb007e00000000000000000000000000000000000000000000000000000000000700070003000000000000000000000000000000000000000f00db00010001000d0007000f00000000000000000000000000000000000000000000000b0007000300070001000000000000000000000000000000000000000000000000000000000000000001ffedff s (State.freezeOne s h i) := by
  unfold State.freezeOne
  repeat' first
      | with_reducible exact Keeps.refl
      | with_reducible assumption
      | with_reducible refine Keeps.ite ?_ ?_
      | (with_reducible apply Keeps.setRow; · decide)
      | (with_reducible apply Keeps.step (State.fire_keeps ..); · decide)
      | (with_reducible apply Keeps.step (State.headCount_keeps ..); · decide)
      | extract_lets
      | intro _
      | split
      | (dsimp +zetaDelta only; split)

theorem State.freezeAll_keeps (s : State) (h : Nat) : Keeps 0x5000000000000000000000000000000000000000000000000000f00fb007e00000000000000000000000000000000000000000000000000000000000700070003000000000000000000000000000000000000000f00db00010001000d0007000f00000000000000000000000000000000000000000000000b0007000300070001000000000000000000000000000000000000000000000000000000000000000001fbedff s (State.freezeAll s h) := by
  unfold State.freezeAll
  repeat' first
      | with_reducible exact Keeps.refl
      | with_reducible assumption
      | with_reducible refine Keeps.ite ?_ ?_
      | (with_reducible apply Keeps.step (State.setHead_keeps ..); · decide)
      | (with_reducible apply Keeps.step (State.freezeOne_keeps ..); · decide)
      | (with_reducible refine Keeps.foldl (fun _ _ _ => ?_) ?_)
      | extract_lets
      | intro _
      | split
      | (dsimp +zetaDelta only; split)

theorem State.takeAlphas_keeps (s : State) (h : Nat) : Keeps 0x5000000000000000000000000000000000000000000000000000e00df001c00000000000000000000000000000000000000000000000000000000000700070003000000000000000000000000000000000000000f00c800010001000f0006000f0000000000000000000000000000000000000000000000010007000300070001000000000000000000000000000000000000000000000000000000000000000001bf8dff s (State.takeAlphas s h) := by
  unfold State.takeAlphas
  repeat' first
      | with_reducible exact Keeps.refl
      | with_reducible assumption
      | with_reducible refine Keeps.ite ?_ ?_
      | (with_reducible apply Keeps.setFld; · decide)
      | (with_reducible apply Keeps.step (State.sampled_keeps ..); · decide)
      | (with_reducible refine Keeps.foldl (fun _ _ _ => ?_) ?_)
      | extract_lets
      | intro _
      | split
      | (dsimp +zetaDelta only; split)

theorem State.countFrame_keeps (s : State) (h : Nat) : Keeps 0x5000000000000000000000000000000000000000000000000000f00fb007e00000000000000000000000000000000000000000000000000000000000700070003000000000000000000000000000000000000000f00db00010001000e0007000f00000000000000000000000000000000000000000000000b0007000300070001000000000000000000000000000000000000000000000000000000000000000001ffedff s (State.countFrame s h) := by
  unfold State.countFrame
  repeat' first
      | with_reducible exact Keeps.refl
      | with_reducible assumption
      | with_reducible refine Keeps.ite ?_ ?_
      | (with_reducible apply Keeps.setFld; · decide)
      | (with_reducible apply Keeps.step (State.fire_keeps ..); · decide)
      | (with_reducible apply Keeps.step (State.headCount_keeps ..); · decide)
      | extract_lets
      | intro _
      | split
      | (dsimp +zetaDelta only; split)

theorem State.collBlanked_keeps (s : State) (h : Nat) (unlocked : Bool) : Keeps 0x5000000000000000000000000000000000000000000000000000f00ff007e00010000000000000000000000000000000000000000000000000000000700070003000000000000000000000000000000000000000f00db00010001000f0007000f00000000000000000000000000000000000000000000000b0007000300070001000000000000000000000000000000000000000000000000000000000000000001f7ffff s (State.collBlanked s h unlocked) := by
  unfold State.collBlanked
  repeat' first
      | with_reducible exact Keeps.refl
      | with_reducible assumption
      | with_reducible refine Keeps.ite ?_ ?_
      | (with_reducible apply Keeps.step (State.setColl_keeps ..); · decide)
      | (with_reducible apply Keeps.step (State.collBlank_keeps ..); · decide)
      | extract_lets
      | intro _
      | split
      | (dsimp +zetaDelta only; split)

theorem State.keepTail_keeps (s : State) (h : Nat) : Keeps 0x5000000000000000000000000000000000000000000000000000f00ff007e00010000000000000000000000000000000000000000000000000000000700070003000000000000000000000000000000000000000f00db00010001000f0007000f00000000000000000000000000000000000000000000000b0007000300070001000000000000000000000000000000000000000000000000000000000000000001fbffff s (State.keepTail s h) := by
  unfold State.keepTail
  repeat' first
      | with_reducible exact Keeps.refl
      | with_reducible assumption
      | with_reducible refine Keeps.ite ?_ ?_
      | (with_reducible apply Keeps.step (State.setHead_keeps ..); · decide)
      | extract_lets
      | intro _
      | split
      | (dsimp +zetaDelta only; split)

theorem State.blankRuns_keeps (sp : State) (h : Nat) : Keeps 0x5000000000000000000000000000000000000000000000000000e00db001c00000000000000000000000000000000000000000000000000000000000700070003000000000000000000000000000000000000000f00c800010001000c0000000f0000000000000000000000000000000000000000000000010007000300070001000000000000000000000000000000000000000000000000000000000000000001b38dff sp (State.blankRuns sp h) := by
  unfold State.blankRuns
  repeat' first
      | with_reducible exact Keeps.refl
      | with_reducible assumption
      | with_reducible refine Keeps.ite ?_ ?_
      | (with_reducible apply Keeps.setFld; · decide)
      | (with_reducible apply Keeps.step (State.setHead_keeps ..); · decide)
      | (with_reducible apply Keeps.step (State.drainCheck_keeps ..); · decide)
      | (with_reducible apply Keeps.step (State.fire_keeps ..); · decide)
      | (with_reducible apply Keeps.step (State.applyCommit_keeps ..); · decide)
      | (with_reducible apply Keeps.step (State.lockFrame_keeps ..); · decide)
      | (with_reducible apply Keeps.step (State.freezeAll_keeps ..); · decide)
      | (with_reducible apply Keeps.step (State.takeAlphas_keeps ..); · decide)
      | (with_reducible apply Keeps.step (State.countFrame_keeps ..); · decide)
      | (with_reducible apply Keeps.step (State.collBlanked_keeps ..); · decide)
      | (with_reducible apply Keeps.step (State.keepTail_keeps ..); · decide)
      | (with_reducible refine Keeps.foldl (fun _ _ _ => ?_) ?_)
      | extract_lets
      | intro _
      | split
      | (dsimp +zetaDelta only; split)

theorem State.blankNow_keeps (s : State) (h : Nat) : Keeps 0x5000000000000000000000000000000000000000000000000000e0059001c00000000000000000000000000000000000000000000000000000000000700070003000000000000000000000000000000000000000d00c800000001000c0000000f0000000000000000000000000000000000000000000000010007000300070001000000000000000000000000000000000000000000000000000000000000000001030dcf s (State.blankNow s h) := by
  unfold State.blankNow
  repeat' first
      | with_reducible exact Keeps.refl
      | with_reducible assumption
      | with_reducible refine Keeps.ite ?_ ?_
      | (with_reducible apply Keeps.step (State.setHead_keeps ..); · decide)
      | (with_reducible apply Keeps.step (State.stopHead_keeps ..); · decide)
      | (with_reducible apply Keeps.step (State.lockFrame_keeps ..); · decide)
      | (with_reducible apply Keeps.step (State.freezeAll_keeps ..); · decide)
      | (with_reducible apply Keeps.step (State.takeAlphas_keeps ..); · decide)
      | (with_reducible apply Keeps.step (State.countFrame_keeps ..); · decide)
      | (with_reducible apply Keeps.step (State.collBlanked_keeps ..); · decide)
      | (with_reducible apply Keeps.step (State.keepTail_keeps ..); · decide)
      | (with_reducible apply Keeps.step (State.blankRuns_keeps ..); · decide)
      | extract_lets
      | intro _
      | split
      | (dsimp +zetaDelta only; split)

theorem State.writeBackFrame_keeps (s : State) (h : Nat) : Keeps 0x5000000000000000000000000000000000000000000000000000f00ff007e00010000000000000000000000000000000000000000000000000000000700070003000000000000000000000000000000000000000f00db00010001000f0007000f00000000000000000000000000000000000000000000000b0007000300070001000000000000000000000000000000000000000000000000000000000000000001fb7fe3 s (State.writeBackFrame s h) := by
  unfold State.writeBackFrame
  repeat' first
      | with_reducible exact Keeps.refl
      | with_reducible assumption
      | with_reducible refine Keeps.ite ?_ ?_
      | (with_reducible apply Keeps.step (State.drawNat_keeps' (he := by assumption) ..); · decide)
      | (with_reducible apply Keeps.step (State.drawNat_keeps ..); · decide)
      | (with_reducible apply Keeps.step (State.dramPut_keeps ..); · decide)
      | (with_reducible apply Keeps.step (State.setHead_keeps ..); · decide)
      | (with_reducible refine Keeps.foldl (fun _ _ _ => ?_) ?_)
      | extract_lets
      | intro _
      | split
      | (dsimp +zetaDelta only; split)

theorem State.countFetched_keeps (s : State) (h : Nat) : Keeps 0x5000000000000000000000000000000000000000000000000000d00ff007e00010000000000000000000000000000000000000000000000000000000700070003000000000000000000000000000000000000000f00db00010001000f0007000f00000000000000000000000000000000000000000000000b0007000300070001000000000000000000000000000000000000000000000000000000000000000001fffffb s (State.countFetched s h) := by
  unfold State.countFetched
  repeat' first
      | with_reducible exact Keeps.refl
      | with_reducible assumption
      | with_reducible refine Keeps.ite ?_ ?_
      | (with_reducible apply Keeps.add; · decide)
      | extract_lets
      | intro _
      | split
      | (with_reducible apply Keeps.set_freeIdx; (case h0 => decide))
      | (dsimp +zetaDelta only; split)

theorem State.frameDoneNow_keeps (s : State) (h : Nat) : Keeps 0x5000000000000000000000000000000000000000000000000000d00ff007e00000000000000000000000000000000000000000000000000000000000700070003000000000000000000000000000000000000000f00db00010001000f0007000f00000000000000000000000000000000000000000000000b0007000300070001000000000000000000000000000000000000000000000000000000000000000001fb6de3 s (State.frameDoneNow s h) := by
  unfold State.frameDoneNow
  repeat' first
      | with_reducible exact Keeps.refl
      | with_reducible assumption
      | with_reducible refine Keeps.ite ?_ ?_
      | (with_reducible apply Keeps.step (State.setHead_keeps ..); · decide)
      | (with_reducible apply Keeps.step (State.fire_keeps ..); · decide)
      | (with_reducible apply Keeps.step (State.writeBackFrame_keeps ..); · decide)
      | (with_reducible apply Keeps.step (State.countFetched_keeps ..); · decide)
      | extract_lets
      | intro _
      | split
      | (dsimp +zetaDelta only; split)

theorem execFrameDone_keeps (h : Nat) (s0 : State) : Keeps 0x5000000000000000000000000000000000000000000000000000d00ff007e00000000000000000000000000000000000000000000000000000000000700070003000000000000000000000000000000000000000f00db00010001000f0007000f00000000000000000000000000000000000000000000000b0007000300070001000000000000000000000000000000000000000000000000000000000000000001fb6ce1 s0 (execFrameDone h s0) := by
  unfold execFrameDone
  repeat' first
      | with_reducible exact Keeps.refl
      | with_reducible assumption
      | with_reducible refine Keeps.ite ?_ ?_
      | (with_reducible apply Keeps.step (State.advanceTb_keeps ..); · decide)
      | (with_reducible apply Keeps.step (State.frameDoneNow_keeps ..); · decide)
      | extract_lets
      | intro _
      | split
      | (dsimp +zetaDelta only; split)

theorem execVblankStart_keeps (h : Nat) (s0 : State) : Keeps 0x5000000000000000000000000000000000000000000000000000c0059001c00000000000000000000000000000000000000000000000000000000000700070003000000000000000000000000000000000000000d00c800000001000c0000000f0000000000000000000000000000000000000000000000010007000300070001000000000000000000000000000000000000000000000000000000000000000001030cc1 s0 (execVblankStart h s0) := by
  unfold execVblankStart
  repeat' first
      | with_reducible exact Keeps.refl
      | with_reducible assumption
      | with_reducible refine Keeps.ite ?_ ?_
      | (with_reducible apply Keeps.step (State.advanceTb_keeps ..); · decide)
      | (with_reducible apply Keeps.step (execCutLine_keeps ..); · decide)
      | (with_reducible apply Keeps.step (State.blankNow_keeps ..); · decide)
      | (with_reducible apply Keeps.step (execFrameDone_keeps ..); · decide)
      | extract_lets
      | intro _
      | split
      | (dsimp +zetaDelta only; split)

theorem execLineMatch_keeps (h l : Nat) (s0 : State) : Keeps 0x5000000000000000000000000000000000000000000000000000f00ff007e00000000000000000000000000000000000000000000000000000000000700070003000000000000000000000000000000000000000f00db00010001000f0007000f00000000000000000000000000000000000000000000000b0007000300070001000000000000000000000000000000000000000000000000000000000000000001fbecfd s0 (execLineMatch h l s0) := by
  unfold execLineMatch
  repeat' first
      | with_reducible exact Keeps.refl
      | with_reducible assumption
      | with_reducible refine Keeps.ite ?_ ?_
      | (with_reducible apply Keeps.step (State.advanceTb_keeps ..); · decide)
      | (with_reducible apply Keeps.step (State.setHead_keeps ..); · decide)
      | (with_reducible apply Keeps.step (State.fire_keeps ..); · decide)
      | extract_lets
      | intro _
      | split
      | (dsimp +zetaDelta only; split)

theorem execUnderrun_keeps (h l col : Nat) (s0 : State) : Keeps 0x5000000000000000000000000000000000000000000000000000f00fb007e00000000000000000000000000000000000000000000000000000000000700070003000000000000000000000000000000000000000f00db00010001000f0007000f00000000000000000000000000000000000000000000000b0007000300070001000000000000000000000000000000000000000000000000000000000000000001fbecfd s0 (execUnderrun h l col s0) := by
  unfold execUnderrun
  repeat' first
      | with_reducible exact Keeps.refl
      | with_reducible assumption
      | with_reducible refine Keeps.ite ?_ ?_
      | (with_reducible apply Keeps.step (State.advanceTb_keeps ..); · decide)
      | (with_reducible apply Keeps.step (State.setHead_keeps ..); · decide)
      | (with_reducible apply Keeps.step (State.fire_keeps ..); · decide)
      | (with_reducible apply Keeps.step (State.headCount_keeps ..); · decide)
      | extract_lets
      | intro _
      | split
      | (dsimp +zetaDelta only; split)

theorem writeLayer_keeps (l : Nat) (v : Row) (s : State) : Keeps 0x5000000000000000000000000000000000000000000000000000f00ff007e00010000000000000000000000000000000000000000000000000000000700070003000000000000000000000000000000000000000f00db00010001000f0006000f00000000000000000000000000000000000000000000000b0007000300070001000000000000000000000000000000000000000000000000000000000000000001fbffff s (writeLayer l v s).st := by
  unfold writeLayer
  repeat' first
      | with_reducible exact Keeps.refl
      | with_reducible assumption
      | with_reducible refine Keeps.ite ?_ ?_
      | (with_reducible apply Keeps.setRow; · decide)
      | (with_reducible apply Keeps.step (refuse_keeps ..); · decide)
      | (with_reducible apply Keeps.step (done_keeps ..); · decide)
      | extract_lets
      | intro _
      | split
      | (with_reducible apply Keeps.set_disp; (case h0 => decide))
      | (dsimp +zetaDelta only; split)

theorem writeTiming_keeps (h : Nat) (v : Row) (s : State) : Keeps 0x5000000000000000000000000000000000000000000000000000f00ff007e00010000000000000000000000000000000000000000000000000000000700070003000000000000000000000000000000000000000f00db00010001000e0007000f00000000000000000000000000000000000000000000000b0007000300070001000000000000000000000000000000000000000000000000000000000000000001ffffff s (writeTiming h v s).st := by
  unfold writeTiming
  repeat' first
      | with_reducible exact Keeps.refl
      | with_reducible assumption
      | with_reducible refine Keeps.ite ?_ ?_
      | (with_reducible apply Keeps.setRow; · decide)
      | (with_reducible apply Keeps.step (refuse_keeps ..); · decide)
      | (with_reducible apply Keeps.step (done_keeps ..); · decide)
      | extract_lets
      | intro _
      | split
      | (dsimp +zetaDelta only; split)

theorem writeFreeze_keeps (r : Nat) (v : Row) (s : State) : Keeps 0x5000000000000000000000000000000000000000000000000000f00ff007e00010000000000000000000000000000000000000000000000000000000700070003000000000000000000000000000000000000000f00db00010001000d0007000f00000000000000000000000000000000000000000000000b0007000300070001000000000000000000000000000000000000000000000000000000000000000001ffffff s (writeFreeze r v s).st := by
  unfold writeFreeze
  repeat' first
      | with_reducible exact Keeps.refl
      | with_reducible assumption
      | with_reducible refine Keeps.ite ?_ ?_
      | (with_reducible apply Keeps.setRow; · decide)
      | (with_reducible apply Keeps.step (refuse_keeps ..); · decide)
      | (with_reducible apply Keeps.step (done_keeps ..); · decide)
      | extract_lets
      | intro _
      | split
      | (dsimp +zetaDelta only; split)

end Sys2Proof.Machine
end

