-- ==== Sys2Proof/Laws/KeepsSinks.lean ====
section
/-! SUPPORT. What each operation of Machine/Sinks.lean leaves alone. -/

set_option linter.all false
namespace Sys2Proof.Machine

theorem State.setEgress_keeps (s : State) (h : Nat) (e : Egress) : Keeps 0x5000000000000000000000000000000000000000000000000000f00ff007e00010000000000000000000000000000000000000000000000000000000700070003000000000000000000000000000000000000000f00db00010001000f0007000f00000000000000000000000000000000000000000000000b0007000300070001000000000000000000000000000000000000000000000000000000000000000001fbffff s (State.setEgress s h e) := by
  unfold State.setEgress
  repeat' first
      | with_reducible exact Keeps.refl
      | with_reducible assumption
      | with_reducible refine Keeps.ite ?_ ?_
      | (with_reducible apply Keeps.step (State.setHead_keeps ..); · decide)
      | extract_lets
      | intro _
      | split
      | (dsimp +zetaDelta only; split)

theorem State.egressOn_keeps (s : State) (h : Nat) : Keeps 0x5000000000000000000000000000000000000000000000000000f00ff007e00010000000000000000000000000000000000000000000000000000000700070003000000000000000000000000000000000000000f00db00010001000b0007000f00000000000000000000000000000000000000000000000b0007000300070001000000000000000000000000000000000000000000000000000000000000000001fbffff s (State.egressOn s h).2 := by
  unfold State.egressOn
  repeat' first
      | with_reducible exact Keeps.refl
      | with_reducible assumption
      | with_reducible refine Keeps.ite ?_ ?_
      | with_reducible refine Keeps.ite_snd ?_ ?_
      | (with_reducible apply Keeps.setFld; · decide)
      | (with_reducible apply Keeps.step (State.setEgress_keeps ..); · decide)
      | extract_lets
      | intro _
      | split
      | (dsimp +zetaDelta only; split)

theorem State.egressOn_keeps' (s : State) (h : Nat) {α_ : _} {t_ : State} (he : State.egressOn s h = (α_, t_)) : Keeps 0x5000000000000000000000000000000000000000000000000000f00ff007e00010000000000000000000000000000000000000000000000000000000700070003000000000000000000000000000000000000000f00db00010001000b0007000f00000000000000000000000000000000000000000000000b0007000300070001000000000000000000000000000000000000000000000000000000000000000001fbffff s t_ := by
  have h := State.egressOn_keeps s h
  rw [he] at h
  exact h

theorem State.egressOff_keeps (s : State) (h : Nat) : Keeps 0x5000000000000000000000000000000000000000000000000000f00ff007e00010000000000000000000000000000000000000000000000000000000700070003000000000000000000000000000000000000000f00db00010001000b0007000f00000000000000000000000000000000000000000000000b0007000300070001000000000000000000000000000000000000000000000000000000000000000001fbffff s (State.egressOff s h) := by
  unfold State.egressOff
  repeat' first
      | with_reducible exact Keeps.refl
      | with_reducible assumption
      | with_reducible refine Keeps.ite ?_ ?_
      | (with_reducible apply Keeps.setFld; · decide)
      | (with_reducible apply Keeps.step (State.setEgress_keeps ..); · decide)
      | (with_reducible apply Keeps.step (State.egressOn_keeps ..); · decide)
      | extract_lets
      | intro _
      | split
      | (dsimp +zetaDelta only; split)

theorem writeEgressEnable_keeps (h v : Nat) (s : State) : Keeps 0x5000000000000000000000000000000000000000000000000000f00ff007e00010000000000000000000000000000000000000000000000000000000700070003000000000000000000000000000000000000000f00db00010001000b0007000f00000000000000000000000000000000000000000000000b0007000300070001000000000000000000000000000000000000000000000000000000000000000001fbffff s (writeEgressEnable h v s).st := by
  unfold writeEgressEnable
  repeat' first
      | with_reducible exact Keeps.refl
      | with_reducible assumption
      | with_reducible refine Keeps.ite ?_ ?_
      | (with_reducible apply Keeps.setFld; · decide)
      | (with_reducible apply Keeps.step (refuse_keeps ..); · decide)
      | (with_reducible apply Keeps.step (done_keeps ..); · decide)
      | (with_reducible apply Keeps.step (State.setEgress_keeps ..); · decide)
      | (with_reducible apply Keeps.step (State.egressOn_keeps' (he := by assumption) ..); · decide)
      | (with_reducible apply Keeps.step (State.egressOn_keeps ..); · decide)
      | (with_reducible apply Keeps.step (State.egressOff_keeps ..); · decide)
      | extract_lets
      | intro _
      | split
      | (dsimp +zetaDelta only; split)

theorem writeEgress_keeps (h : Nat) (v : Row) (s : State) : Keeps 0x5000000000000000000000000000000000000000000000000000f00ff007e00010000000000000000000000000000000000000000000000000000000700070003000000000000000000000000000000000000000f00db00010001000b0007000f00000000000000000000000000000000000000000000000b0007000300070001000000000000000000000000000000000000000000000000000000000000000001ffffff s (writeEgress h v s).st := by
  unfold writeEgress
  repeat' first
      | with_reducible exact Keeps.refl
      | with_reducible assumption
      | with_reducible refine Keeps.ite ?_ ?_
      | (with_reducible apply Keeps.setRow; · decide)
      | (with_reducible apply Keeps.step (refuse_keeps ..); · decide)
      | (with_reducible apply Keeps.step (done_keeps ..); · decide)
      | extract_lets
      | intro _
      | split
      | (dsimp +zetaDelta only; split)

theorem execEgressPacket_keeps (h line offset : Nat) (s0 : State) : Keeps 0x5000000000000000000000000000000000000000000000000000f00fb001e00000000000000000000000000000000000000000000000000000000000700070003000000000000000000000000000000000000000f00db00010001000b0007000f0000000000000000000000000000000000000000000000010007000300070001000000000000000000000000000000000000000000000000000000000000000001fbacf9 s0 (execEgressPacket h line offset s0) := by
  unfold execEgressPacket
  repeat' first
      | with_reducible exact Keeps.refl
      | with_reducible assumption
      | with_reducible refine Keeps.ite ?_ ?_
      | (with_reducible apply Keeps.step (State.advanceTb_keeps ..); · decide)
      | (with_reducible apply Keeps.step (State.drawNat_keeps ..); · decide)
      | (with_reducible apply Keeps.step (State.offer_keeps ..); · decide)
      | (with_reducible apply Keeps.step (State.fire_keeps ..); · decide)
      | (with_reducible apply Keeps.step (State.headCount_keeps ..); · decide)
      | (with_reducible apply Keeps.step (State.setEgress_keeps ..); · decide)
      | (with_reducible apply Keeps.step (State.egressOff_keeps ..); · decide)
      | extract_lets
      | intro _
      | split
      | (dsimp +zetaDelta only; split)

theorem State.setWback_keeps (s : State) (h : Nat) (w : Writeback) : Keeps 0x5000000000000000000000000000000000000000000000000000f00ff007e00010000000000000000000000000000000000000000000000000000000700070003000000000000000000000000000000000000000f00db00010001000f0007000f00000000000000000000000000000000000000000000000b0007000300070001000000000000000000000000000000000000000000000000000000000000000001fbffff s (State.setWback s h w) := by
  unfold State.setWback
  repeat' first
      | with_reducible exact Keeps.refl
      | with_reducible assumption
      | with_reducible refine Keeps.ite ?_ ?_
      | (with_reducible apply Keeps.step (State.setHead_keeps ..); · decide)
      | extract_lets
      | intro _
      | split
      | (dsimp +zetaDelta only; split)

theorem State.wbackOn_keeps (s : State) (h : Nat) : Keeps 0x5000000000000000000000000000000000000000000000000000f00ff007e00010000000000000000000000000000000000000000000000000000000700070003000000000000000000000000000000000000000f00db0001000100070007000d00000000000000000000000000000000000000000000000b0007000300070001000000000000000000000000000000000000000000000000000000000000000001fbffff s (State.wbackOn s h).2 := by
  unfold State.wbackOn
  repeat' first
      | with_reducible exact Keeps.refl
      | with_reducible assumption
      | with_reducible refine Keeps.ite ?_ ?_
      | with_reducible refine Keeps.ite_snd ?_ ?_
      | (with_reducible apply Keeps.setFld; · decide)
      | (with_reducible apply Keeps.step (State.setWback_keeps ..); · decide)
      | extract_lets
      | intro _
      | split
      | (dsimp +zetaDelta only; split)

theorem State.wbackOn_keeps' (s : State) (h : Nat) {α_ : _} {t_ : State} (he : State.wbackOn s h = (α_, t_)) : Keeps 0x5000000000000000000000000000000000000000000000000000f00ff007e00010000000000000000000000000000000000000000000000000000000700070003000000000000000000000000000000000000000f00db0001000100070007000d00000000000000000000000000000000000000000000000b0007000300070001000000000000000000000000000000000000000000000000000000000000000001fbffff s t_ := by
  have h := State.wbackOn_keeps s h
  rw [he] at h
  exact h

theorem State.wbackOff_keeps (s : State) (h : Nat) : Keeps 0x5000000000000000000000000000000000000000000000000000f00ff007e00010000000000000000000000000000000000000000000000000000000700070003000000000000000000000000000000000000000f00db0001000100070007000d00000000000000000000000000000000000000000000000b0007000300070001000000000000000000000000000000000000000000000000000000000000000001fbffff s (State.wbackOff s h) := by
  unfold State.wbackOff
  repeat' first
      | with_reducible exact Keeps.refl
      | with_reducible assumption
      | with_reducible refine Keeps.ite ?_ ?_
      | (with_reducible apply Keeps.setFld; · decide)
      | (with_reducible apply Keeps.step (State.setWback_keeps ..); · decide)
      | (with_reducible apply Keeps.step (State.wbackOn_keeps ..); · decide)
      | extract_lets
      | intro _
      | split
      | (dsimp +zetaDelta only; split)

theorem writeWbackEnable_keeps (h v : Nat) (s : State) : Keeps 0x5000000000000000000000000000000000000000000000000000f00ff007e00010000000000000000000000000000000000000000000000000000000700070003000000000000000000000000000000000000000f00db0001000100070007000d00000000000000000000000000000000000000000000000b0007000300070001000000000000000000000000000000000000000000000000000000000000000001fbffff s (writeWbackEnable h v s).st := by
  unfold writeWbackEnable
  repeat' first
      | with_reducible exact Keeps.refl
      | with_reducible assumption
      | with_reducible refine Keeps.ite ?_ ?_
      | (with_reducible apply Keeps.setFld; · decide)
      | (with_reducible apply Keeps.step (refuse_keeps ..); · decide)
      | (with_reducible apply Keeps.step (done_keeps ..); · decide)
      | (with_reducible apply Keeps.step (State.setWback_keeps ..); · decide)
      | (with_reducible apply Keeps.step (State.wbackOn_keeps' (he := by assumption) ..); · decide)
      | (with_reducible apply Keeps.step (State.wbackOn_keeps ..); · decide)
      | (with_reducible apply Keeps.step (State.wbackOff_keeps ..); · decide)
      | extract_lets
      | intro _
      | split
      | (dsimp +zetaDelta only; split)

theorem writeWback_keeps (h : Nat) (v : Row) (s : State) : Keeps 0x5000000000000000000000000000000000000000000000000000f00ff007e00010000000000000000000000000000000000000000000000000000000700070003000000000000000000000000000000000000000f00db0001000100070007000f00000000000000000000000000000000000000000000000b0007000300070001000000000000000000000000000000000000000000000000000000000000000001ffffff s (writeWback h v s).st := by
  unfold writeWback
  repeat' first
      | with_reducible exact Keeps.refl
      | with_reducible assumption
      | with_reducible refine Keeps.ite ?_ ?_
      | (with_reducible apply Keeps.setRow; · decide)
      | (with_reducible apply Keeps.step (refuse_keeps ..); · decide)
      | (with_reducible apply Keeps.step (done_keeps ..); · decide)
      | extract_lets
      | intro _
      | split
      | (dsimp +zetaDelta only; split)

theorem State.wbackAbandon_keeps (s : State) (h : Nat) : Keeps 0x5000000000000000000000000000000000000000000000000000f00ff007e00010000000000000000000000000000000000000000000000000000000700070003000000000000000000000000000000000000000f00db0001000100070007000d00000000000000000000000000000000000000000000000b0007000300070001000000000000000000000000000000000000000000000000000000000000000001fbffff s (State.wbackAbandon s h) := by
  unfold State.wbackAbandon
  repeat' first
      | with_reducible exact Keeps.refl
      | with_reducible assumption
      | with_reducible refine Keeps.ite ?_ ?_
      | (with_reducible apply Keeps.step (State.setWback_keeps ..); · decide)
      | (with_reducible apply Keeps.step (State.wbackOff_keeps ..); · decide)
      | extract_lets
      | intro _
      | split
      | (dsimp +zetaDelta only; split)

theorem State.wbackOverrun_keeps (s : State) (h : Nat) : Keeps 0x5000000000000000000000000000000000000000000000000000f00fb007e00000000000000000000000000000000000000000000000000000000000700070003000000000000000000000000000000000000000f00db00010001000f0007000f00000000000000000000000000000000000000000000000b0007000300070001000000000000000000000000000000000000000000000000000000000000000001ffedff s (State.wbackOverrun s h) := by
  unfold State.wbackOverrun
  repeat' first
      | with_reducible exact Keeps.refl
      | with_reducible assumption
      | with_reducible refine Keeps.ite ?_ ?_
      | (with_reducible apply Keeps.step (State.fire_keeps ..); · decide)
      | (with_reducible apply Keeps.step (State.headCount_keeps ..); · decide)
      | extract_lets
      | intro _
      | split
      | (dsimp +zetaDelta only; split)

theorem State.wbackLineZero_keeps (s : State) (h : Nat) : Keeps 0x5000000000000000000000000000000000000000000000000000f00fb007e00000000000000000000000000000000000000000000000000000000000700070003000000000000000000000000000000000000000f00db0001000100070007000900000000000000000000000000000000000000000000000b0007000300070001000000000000000000000000000000000000000000000000000000000000000001f9edff s (State.wbackLineZero s h) := by
  unfold State.wbackLineZero
  repeat' first
      | with_reducible exact Keeps.refl
      | with_reducible assumption
      | with_reducible refine Keeps.ite ?_ ?_
      | (with_reducible apply Keeps.step (State.takeEntry_keeps ..); · decide)
      | (with_reducible apply Keeps.step (State.setWback_keeps ..); · decide)
      | (with_reducible apply Keeps.step (State.wbackAbandon_keeps ..); · decide)
      | (with_reducible apply Keeps.step (State.wbackOverrun_keeps ..); · decide)
      | extract_lets
      | intro _
      | split
      | (dsimp +zetaDelta only; split)

theorem State.wbackComplete_keeps (s : State) (h : Nat) : Keeps 0x5000000000000000000000000000000000000000000000000000f00fb007e00010000000000000000000000000000000000000000000000000000000700070003000000000000000000000000000000000000000f00db00010001000f0007000900000000000000000000000000000000000000000000000b0007000300070001000000000000000000000000000000000000000000000000000000000000000001f9ffff s (State.wbackComplete s h) := by
  unfold State.wbackComplete
  repeat' first
      | with_reducible exact Keeps.refl
      | with_reducible assumption
      | with_reducible refine Keeps.ite ?_ ?_
      | (with_reducible apply Keeps.setRow; · decide)
      | (with_reducible apply Keeps.step (State.advanceFence_keeps ..); · decide)
      | (with_reducible apply Keeps.step (State.headCount_keeps ..); · decide)
      | (with_reducible apply Keeps.step (State.setWback_keeps ..); · decide)
      | extract_lets
      | intro _
      | split
      | (dsimp +zetaDelta only; split)

theorem execWritebackDone_keeps (h : Nat) (s : State) : Keeps 0x5000000000000000000000000000000000000000000000000000f00fb007e00000000000000000000000000000000000000000000000000000000000700070003000000000000000000000000000000000000000f00db0001000100070007000900000000000000000000000000000000000000000000000b0007000300070001000000000000000000000000000000000000000000000000000000000000000001f9edff s (execWritebackDone h s) := by
  unfold execWritebackDone
  repeat' first
      | with_reducible exact Keeps.refl
      | with_reducible assumption
      | with_reducible refine Keeps.ite ?_ ?_
      | (with_reducible apply Keeps.step (State.fire_keeps ..); · decide)
      | (with_reducible apply Keeps.step (State.wbackOff_keeps ..); · decide)
      | (with_reducible apply Keeps.step (State.wbackComplete_keeps ..); · decide)
      | extract_lets
      | intro _
      | split
      | (dsimp +zetaDelta only; split)

theorem execHeadDrainDone_keeps (h : Nat) (s : State) : Keeps 0x5000000000000000000000000000000000000000000000000000e0059001c00000000000000000000000000000000000000000000000000000000000700070003000000000000000000000000000000000000000d00c8000000010006000200090000000000000000000000000000000000000000000000010007000300070001000000000000000000000000000000000000000000000000000000000000000001010dcf s (execHeadDrainDone h s) := by
  unfold execHeadDrainDone
  repeat' first
      | with_reducible exact Keeps.refl
      | with_reducible assumption
      | with_reducible refine Keeps.ite ?_ ?_
      | (with_reducible apply Keeps.step (State.headDisabled_keeps ..); · decide)
      | (with_reducible apply Keeps.step (State.wbackOff_keeps ..); · decide)
      | (with_reducible apply Keeps.step (State.wbackComplete_keeps ..); · decide)
      | extract_lets
      | intro _
      | split
      | (dsimp +zetaDelta only; split)

theorem State.egressLineZero_keeps (s : State) (h : Nat) : Keeps 0x5000000000000000000000000000000000000000000000000000f00ff007e00010000000000000000000000000000000000000000000000000000000700070003000000000000000000000000000000000000000f00db00010001000f0007000f00000000000000000000000000000000000000000000000b0007000300070001000000000000000000000000000000000000000000000000000000000000000001fbffff s (State.egressLineZero s h) := by
  unfold State.egressLineZero
  repeat' first
      | with_reducible exact Keeps.refl
      | with_reducible assumption
      | with_reducible refine Keeps.ite ?_ ?_
      | (with_reducible apply Keeps.step (State.setEgress_keeps ..); · decide)
      | extract_lets
      | intro _
      | split
      | (dsimp +zetaDelta only; split)

theorem execLineZero_keeps (h : Nat) (s0 : State) : Keeps 0x5000000000000000000000000000000000000000000000000000e00db001c00000000000000000000000000000000000000000000000000000000000700070003000000000000000000000000000000000000000f00c8000100000007000600090000000000000000000000000000000000000000000000010007000300070001000000000000000000000000000000000000000000000000000000000000000001a10ced s0 (execLineZero h s0) := by
  unfold execLineZero
  repeat' first
      | with_reducible exact Keeps.refl
      | with_reducible assumption
      | with_reducible refine Keeps.ite ?_ ?_
      | (with_reducible apply Keeps.step (State.advanceTb_keeps ..); · decide)
      | (with_reducible apply Keeps.step (State.setHead_keeps ..); · decide)
      | (with_reducible apply Keeps.step (State.collLineZero_keeps ..); · decide)
      | (with_reducible apply Keeps.step (State.wbackLineZero_keeps ..); · decide)
      | (with_reducible apply Keeps.step (State.egressLineZero_keeps ..); · decide)
      | extract_lets
      | intro _
      | split
      | (dsimp +zetaDelta only; split)

end Sys2Proof.Machine
end

