-- ==== Sys2Proof/Laws/KeepsPorts.lean ====
section
/-! SUPPORT. What each operation of Machine/Ports.lean leaves alone. -/

set_option linter.all false
namespace Sys2Proof.Machine

theorem State.setPortState_keeps (s : State) (p st : Nat) : Keeps 0x5000000000000000000000000000000000000000000000000000f00ff007e00000000000000000000000000000000000000000000000000000000000700070003000000000000000000000000000000000000000f00db00010001000f0007000f0000000000000000000000000000000000000000000000090007000300070001000000000000000000000000000000000000000000000000000000000000000001ffedff s (State.setPortState s p st) := by
  unfold State.setPortState
  repeat' first
      | with_reducible exact Keeps.refl
      | with_reducible assumption
      | with_reducible refine Keeps.ite ?_ ?_
      | (with_reducible apply Keeps.setFld; · decide)
      | (with_reducible apply Keeps.step (State.portEvent_keeps ..); · decide)
      | extract_lets
      | intro _
      | split
      | (dsimp +zetaDelta only; split)

theorem State.setLink_keeps (s : State) (p : Nat) (up : Bool) : Keeps 0x5000000000000000000000000000000000000000000000000000f00ff003e00000000000000000000000000000000000000000000000000000000000700070003000000000000000000000000000000000000000f00db00010001000f0007000f0000000000000000000000000000000000000000000000090007000300070001000000000000000000000000000000000000000000000000000000000000000001ffedff s (State.setLink s p up) := by
  unfold State.setLink
  repeat' first
      | with_reducible exact Keeps.refl
      | with_reducible assumption
      | with_reducible refine Keeps.ite ?_ ?_
      | (with_reducible apply Keeps.setRow; · decide)
      | (with_reducible apply Keeps.bump; · decide)
      | (with_reducible apply Keeps.step (State.portEvent_keeps ..); · decide)
      | extract_lets
      | intro _
      | split
      | (dsimp +zetaDelta only; split)

theorem State.portOn_keeps (s : State) (p : Nat) : Keeps 0x5000000000000000000000000000000000000000000000000000f00ff007e00000000000000000000000000000000000000000000000000000000000700070003000000000000000000000000000000000000000f00db00010001000f0007000f0000000000000000000000000000000000000000000000090007000300070001000000000000000000000000000000000000000000000000000000000000000001ffadff s (State.portOn s p) := by
  unfold State.portOn
  repeat' first
      | with_reducible exact Keeps.refl
      | with_reducible assumption
      | with_reducible refine Keeps.ite ?_ ?_
      | (with_reducible apply Keeps.step (State.setPort_keeps ..); · decide)
      | (with_reducible apply Keeps.step (State.setPortState_keeps ..); · decide)
      | extract_lets
      | intro _
      | split
      | (dsimp +zetaDelta only; split)

theorem State.portDrain_keeps (s : State) (p : Nat) : Keeps 0x5000000000000000000000000000000000000000000000000000f00ff007e00000000000000000000000000000000000000000000000000000000000700070003000000000000000000000000000000000000000f00db00010001000f0007000f0000000000000000000000000000000000000000000000090007000300070001000000000000000000000000000000000000000000000000000000000000000001ffadff s (State.portDrain s p) := by
  unfold State.portDrain
  repeat' first
      | with_reducible exact Keeps.refl
      | with_reducible assumption
      | with_reducible refine Keeps.ite ?_ ?_
      | (with_reducible apply Keeps.step (State.setPort_keeps ..); · decide)
      | (with_reducible apply Keeps.step (State.setPortState_keeps ..); · decide)
      | extract_lets
      | intro _
      | split
      | (dsimp +zetaDelta only; split)

theorem State.portTurn_keeps (s : State) (p : Nat) : Keeps 0x5000000000000000000000000000000000000000000000000000f00ff007e00000000000000000000000000000000000000000000000000000000000700070003000000000000000000000000000000000000000f00db00010001000f0007000f0000000000000000000000000000000000000000000000090007000300070001000000000000000000000000000000000000000000000000000000000000000001ffadff s (State.portTurn s p) := by
  unfold State.portTurn
  repeat' first
      | with_reducible exact Keeps.refl
      | with_reducible assumption
      | with_reducible refine Keeps.ite ?_ ?_
      | (with_reducible apply Keeps.step (State.setPort_keeps ..); · decide)
      | (with_reducible apply Keeps.step (State.portOn_keeps ..); · decide)
      | (with_reducible apply Keeps.step (State.portDrain_keeps ..); · decide)
      | extract_lets
      | intro _
      | split
      | (dsimp +zetaDelta only; split)

theorem State.portsTurn_keeps (s : State) : Keeps 0x5000000000000000000000000000000000000000000000000000f00ff007e00000000000000000000000000000000000000000000000000000000000700070003000000000000000000000000000000000000000f00db00010001000f0007000f0000000000000000000000000000000000000000000000090007000300070001000000000000000000000000000000000000000000000000000000000000000001ffadff s (State.portsTurn s) := by
  unfold State.portsTurn
  repeat' first
      | with_reducible exact Keeps.refl
      | with_reducible assumption
      | with_reducible refine Keeps.ite ?_ ?_
      | (with_reducible apply Keeps.step (State.portTurn_keeps ..); · decide)
      | (with_reducible refine Keeps.foldl (fun _ _ _ => ?_) ?_)
      | extract_lets
      | intro _
      | split
      | (dsimp +zetaDelta only; split)

theorem State.portSettle_keeps (s : State) (p : Nat) : Keeps 0x5000000000000000000000000000000000000000000000000000f00ff007e00000000000000000000000000000000000000000000000000000000000700070003000000000000000000000000000000000000000f00db00010001000f0007000f0000000000000000000000000000000000000000000000090007000300070001000000000000000000000000000000000000000000000000000000000000000001ffadff s (State.portSettle s p) := by
  unfold State.portSettle
  repeat' first
      | with_reducible exact Keeps.refl
      | with_reducible assumption
      | with_reducible refine Keeps.ite ?_ ?_
      | (with_reducible apply Keeps.step (State.portTurn_keeps ..); · decide)
      | extract_lets
      | intro _
      | split
      | (dsimp +zetaDelta only; split)

theorem State.portsSettle_keeps (s : State) : Keeps 0x5000000000000000000000000000000000000000000000000000f00ff007e00000000000000000000000000000000000000000000000000000000000700070003000000000000000000000000000000000000000f00db00010001000f0007000f0000000000000000000000000000000000000000000000090007000300070001000000000000000000000000000000000000000000000000000000000000000001ffadff s (State.portsSettle s) := by
  unfold State.portsSettle
  repeat' first
      | with_reducible exact Keeps.refl
      | with_reducible assumption
      | with_reducible refine Keeps.ite ?_ ?_
      | (with_reducible apply Keeps.step (State.portSettle_keeps ..); · decide)
      | (with_reducible refine Keeps.foldl (fun _ _ _ => ?_) ?_)
      | extract_lets
      | intro _
      | split
      | (dsimp +zetaDelta only; split)

theorem writePortEnable_keeps (p v : Nat) (s : State) : Keeps 0x5000000000000000000000000000000000000000000000000000f00ff007e00010000000000000000000000000000000000000000000000000000000700070003000000000000000000000000000000000000000f00db00010001000f0007000f0000000000000000000000000000000000000000000000090007000300070001000000000000000000000000000000000000000000000000000000000000000001ffffff s (writePortEnable p v s).st := by
  unfold writePortEnable
  repeat' first
      | with_reducible exact Keeps.refl
      | with_reducible assumption
      | with_reducible refine Keeps.ite ?_ ?_
      | (with_reducible apply Keeps.setFld; · decide)
      | (with_reducible apply Keeps.step (done_keeps ..); · decide)
      | extract_lets
      | intro _
      | split
      | (dsimp +zetaDelta only; split)

theorem writePort_keeps (p : Nat) (v : Row) (s : State) : Keeps 0x5000000000000000000000000000000000000000000000000000f00ff007e00000000000000000000000000000000000000000000000000000000000700070003000000000000000000000000000000000000000f00db00010001000f0007000f0000000000000000000000000000000000000000000000090007000300070001000000000000000000000000000000000000000000000000000000000000000001ffadff s (writePort p v s).st := by
  unfold writePort
  repeat' first
      | with_reducible exact Keeps.refl
      | with_reducible assumption
      | with_reducible refine Keeps.ite ?_ ?_
      | (with_reducible apply Keeps.setRow; · decide)
      | (with_reducible apply Keeps.step (State.pauseGen_keeps ..); · decide)
      | (with_reducible apply Keeps.step (refuse_keeps ..); · decide)
      | (with_reducible apply Keeps.step (done_keeps ..); · decide)
      | extract_lets
      | intro _
      | split
      | (dsimp +zetaDelta only; split)

theorem State.txPurge_keeps (s : State) (p : Nat) : Keeps 0x5000000000000000000000000000000000000000000000000000f00ff003e00000000000000000000000000000000000000000000000000000000000700070003000000000000000000000000000000000000000f00db00010001000f0007000f0000000000000000000000000000000000000000000000010007000300070001000000000000000000000000000000000000000000000000000000000000000001ffadff s (State.txPurge s p) := by
  unfold State.txPurge
  repeat' first
      | with_reducible exact Keeps.refl
      | with_reducible assumption
      | with_reducible refine Keeps.ite ?_ ?_
      | (with_reducible apply Keeps.step (State.portErr_keeps ..); · decide)
      | (with_reducible apply Keeps.step (State.setQueue_keeps ..); · decide)
      | (with_reducible refine Keeps.foldl (fun _ _ _ => ?_) ?_)
      | extract_lets
      | intro _
      | split
      | (dsimp +zetaDelta only; split)

theorem execPortDrainDone_keeps (p : Nat) (s0 : State) : Keeps 0x5000000000000000000000000000000000000000000000000000f00ff003e00000000000000000000000000000000000000000000000000000000000700070003000000000000000000000000000000000000000f00db00010001000f0007000f0000000000000000000000000000000000000000000000010007000300070001000000000000000000000000000000000000000000000000000000000000000001ffacfd s0 (execPortDrainDone p s0) := by
  unfold execPortDrainDone
  repeat' first
      | with_reducible exact Keeps.refl
      | with_reducible assumption
      | with_reducible refine Keeps.ite ?_ ?_
      | (with_reducible apply Keeps.step (State.advanceTo_keeps ..); · decide)
      | (with_reducible apply Keeps.step (State.setPort_keeps ..); · decide)
      | (with_reducible apply Keeps.step (State.setPortState_keeps ..); · decide)
      | (with_reducible apply Keeps.step (State.setLink_keeps ..); · decide)
      | (with_reducible apply Keeps.step (State.portOn_keeps ..); · decide)
      | (with_reducible apply Keeps.step (State.txPurge_keeps ..); · decide)
      | extract_lets
      | intro _
      | split
      | (dsimp +zetaDelta only; split)

theorem State.arpHeard_keeps (s : State) (p target senderMac senderIp vid : Nat) : Keeps 0x5000000000000000000000000000000000000000000000000000f00ff001e00000000000000000000000000000000000000000000000000000000000700070003000000000000000000000000000000000000000f00db00010001000f0007000f0000000000000000000000000000000000000000000000010007000300070001000000000000000000000000000000000000000000000000000000000000000001ffadff s (State.arpHeard s p target senderMac senderIp vid) := by
  unfold State.arpHeard
  repeat' first
      | with_reducible exact Keeps.refl
      | with_reducible assumption
      | with_reducible refine Keeps.ite ?_ ?_
      | (with_reducible apply Keeps.step (State.offer_keeps ..); · decide)
      | extract_lets
      | intro _
      | split
      | (dsimp +zetaDelta only; split)

theorem State.arpAnnounce_keeps (s : State) (p : Nat) : Keeps 0x5000000000000000000000000000000000000000000000000000f00ff001e00000000000000000000000000000000000000000000000000000000000700070003000000000000000000000000000000000000000f00db00010001000f0007000f0000000000000000000000000000000000000000000000010007000300070001000000000000000000000000000000000000000000000000000000000000000001ffadff s (State.arpAnnounce s p) := by
  unfold State.arpAnnounce
  repeat' first
      | with_reducible exact Keeps.refl
      | with_reducible assumption
      | with_reducible refine Keeps.ite ?_ ?_
      | (with_reducible apply Keeps.step (State.offer_keeps ..); · decide)
      | extract_lets
      | intro _
      | split
      | (dsimp +zetaDelta only; split)

theorem execArpRequest_keeps (p target senderMac senderIp vid : Nat) (s : State) : Keeps 0x5000000000000000000000000000000000000000000000000000f00ff001e00000000000000000000000000000000000000000000000000000000000700070003000000000000000000000000000000000000000f00db00010001000f0007000f0000000000000000000000000000000000000000000000010007000300070001000000000000000000000000000000000000000000000000000000000000000001ffadff s (execArpRequest p target senderMac senderIp vid s) := by
  unfold execArpRequest
  repeat' first
      | with_reducible exact Keeps.refl
      | with_reducible assumption
      | with_reducible refine Keeps.ite ?_ ?_
      | (with_reducible apply Keeps.step (State.arpHeard_keeps ..); · decide)
      | extract_lets
      | intro _
      | split
      | (dsimp +zetaDelta only; split)

theorem execLinkChange_keeps (p : Nat) (up : Bool) (speed : Nat) (s : State) : Keeps 0x5000000000000000000000000000000000000000000000000000f00ff001e00000000000000000000000000000000000000000000000000000000000700070003000000000000000000000000000000000000000f00db00010001000f0007000f0000000000000000000000000000000000000000000000010007000300070001000000000000000000000000000000000000000000000000000000000000000001ffadff s (execLinkChange p up speed s) := by
  unfold execLinkChange
  repeat' first
      | with_reducible exact Keeps.refl
      | with_reducible assumption
      | with_reducible refine Keeps.ite ?_ ?_
      | (with_reducible apply Keeps.step (State.portErr_keeps ..); · decide)
      | (with_reducible apply Keeps.step (State.setLink_keeps ..); · decide)
      | (with_reducible apply Keeps.step (State.arpAnnounce_keeps ..); · decide)
      | extract_lets
      | intro _
      | split
      | (dsimp +zetaDelta only; split)

theorem State.pauseHeard_keeps (s : State) (p quanta : Nat) : Keeps 0x5000000000000000000000000000000000000000000000000000f00ff003e00000000000000000000000000000000000000000000000000000000000700070003000000000000000000000000000000000000000f00db00010001000f0007000f0000000000000000000000000000000000000000000000090007000300070001000000000000000000000000000000000000000000000000000000000000000001ffadff s (State.pauseHeard s p quanta) := by
  unfold State.pauseHeard
  repeat' first
      | with_reducible exact Keeps.refl
      | with_reducible assumption
      | with_reducible refine Keeps.ite ?_ ?_
      | (with_reducible apply Keeps.setFld; · decide)
      | (with_reducible apply Keeps.bump; · decide)
      | (with_reducible apply Keeps.step (State.setPort_keeps ..); · decide)
      | (with_reducible apply Keeps.step (State.portEvent_keeps ..); · decide)
      | extract_lets
      | intro _
      | split
      | (dsimp +zetaDelta only; split)

theorem execPauseFrame_keeps (p at_ quanta : Nat) (s0 : State) : Keeps 0x5000000000000000000000000000000000000000000000000000f00ff003e00000000000000000000000000000000000000000000000000000000000700070003000000000000000000000000000000000000000f00db00010001000f0007000f0000000000000000000000000000000000000000000000090007000300070001000000000000000000000000000000000000000000000000000000000000000001ffacfd s0 (execPauseFrame p at_ quanta s0) := by
  unfold execPauseFrame
  repeat' first
      | with_reducible exact Keeps.refl
      | with_reducible assumption
      | with_reducible refine Keeps.ite ?_ ?_
      | (with_reducible apply Keeps.step (State.advanceTo_keeps ..); · decide)
      | (with_reducible apply Keeps.step (State.portErr_keeps ..); · decide)
      | (with_reducible apply Keeps.step (State.pauseHeard_keeps ..); · decide)
      | extract_lets
      | intro _
      | split
      | (dsimp +zetaDelta only; split)

theorem execPauseWindowEnd_keeps (p : Nat) (s0 : State) : Keeps 0x5000000000000000000000000000000000000000000000000000f00ff007e00010000000000000000000000000000000000000000000000000000000700070003000000000000000000000000000000000000000f00db00010001000f0007000f0000000000000000000000000000000000000000000000090007000300070001000000000000000000000000000000000000000000000000000000000000000001ffbefd s0 (execPauseWindowEnd p s0) := by
  unfold execPauseWindowEnd
  repeat' first
      | with_reducible exact Keeps.refl
      | with_reducible assumption
      | with_reducible refine Keeps.ite ?_ ?_
      | (with_reducible apply Keeps.setFld; · decide)
      | (with_reducible apply Keeps.step (State.advanceTo_keeps ..); · decide)
      | (with_reducible apply Keeps.step (State.setPort_keeps ..); · decide)
      | extract_lets
      | intro _
      | split
      | (dsimp +zetaDelta only; split)

theorem execPauseRepeat_keeps (p : Nat) (s0 : State) : Keeps 0x5000000000000000000000000000000000000000000000000000f00ff007e00000000000000000000000000000000000000000000000000000000000700070003000000000000000000000000000000000000000f00db00010001000f0007000f0000000000000000000000000000000000000000000000090007000300070001000000000000000000000000000000000000000000000000000000000000000001ffacfd s0 (execPauseRepeat p s0) := by
  unfold execPauseRepeat
  repeat' first
      | with_reducible exact Keeps.refl
      | with_reducible assumption
      | with_reducible refine Keeps.ite ?_ ?_
      | (with_reducible apply Keeps.step (State.advanceTo_keeps ..); · decide)
      | (with_reducible apply Keeps.step (State.setPort_keeps ..); · decide)
      | (with_reducible apply Keeps.step (State.pauseGen_keeps ..); · decide)
      | extract_lets
      | intro _
      | split
      | (dsimp +zetaDelta only; split)

theorem State.stampDelayReq_keeps (s : State) (d p : Nat) (f : TxFrame) : Keeps 0x5000000000000000000000000000000000000000000000000000f00ff007e00010000000000000000000000000000000000000000000000000000000700070003000000000000000000000000000000000000000f00db00010001000f0007000f00000000000000000000000000000000000000000000000b0007000300070001000000000000000000000000000000000000000000000000000000000000000001fffeff s (State.stampDelayReq s d p f) := by
  unfold State.stampDelayReq
  repeat' first
      | with_reducible exact Keeps.refl
      | with_reducible assumption
      | with_reducible refine Keeps.ite ?_ ?_
      | (with_reducible apply Keeps.setDomain; (case hc => decide); (case ho => decide))
      | (with_reducible apply Keeps.step (State.setServo_keeps ..); · decide)
      | extract_lets
      | intro _
      | split
      | (dsimp +zetaDelta only; split)

theorem State.wire_keeps (s0 : State) (p : Nat) (f : TxFrame) : Keeps 0x5000000000000000000000000000000000000000000000000000f00ff003e00010000000000000000000000000000000000000000000000000000000700070003000000000000000000000000000000000000000f00db00010001000f0007000f00000000000000000000000000000000000000000000000b0007000300070001000000000000000000000000000000000000000000000000000000000000000001ffbeff s0 (State.wire s0 p f) := by
  unfold State.wire
  repeat' first
      | with_reducible exact Keeps.refl
      | with_reducible assumption
      | with_reducible refine Keeps.ite ?_ ?_
      | (with_reducible apply Keeps.bump; · decide)
      | (with_reducible apply Keeps.add; · decide)
      | (with_reducible apply Keeps.step (State.setPort_keeps ..); · decide)
      | (with_reducible apply Keeps.step (State.stampDelayReq_keeps ..); · decide)
      | extract_lets
      | intro _
      | split
      | (dsimp +zetaDelta only; split)

theorem execFrameTransmit_keeps (p : Nat) (s : State) : Keeps 0x5000000000000000000000000000000000000000000000000000f00ff001e00000000000000000000000000000000000000000000000000000000000700070003000000000000000000000000000000000000000f00db00010001000f0007000f0000000000000000000000000000000000000000000000010007000300070001000000000000000000000000000000000000000000000000000000000000000001ffacff s (execFrameTransmit p s) := by
  unfold execFrameTransmit
  repeat' first
      | with_reducible exact Keeps.refl
      | with_reducible assumption
      | with_reducible refine Keeps.ite ?_ ?_
      | (with_reducible apply Keeps.bump; · decide)
      | (with_reducible apply Keeps.step (State.setPort_keeps ..); · decide)
      | (with_reducible apply Keeps.step (State.portErr_keeps ..); · decide)
      | (with_reducible apply Keeps.step (State.dequeue_keeps' (he := by assumption) ..); · decide)
      | (with_reducible apply Keeps.step (State.dequeue_keeps ..); · decide)
      | (with_reducible apply Keeps.step (State.wire_keeps ..); · decide)
      | extract_lets
      | intro _
      | split
      | (dsimp +zetaDelta only; split)

theorem State.rxCount_keeps (s : State) (p dst len : Nat) : Keeps 0x5000000000000000000000000000000000000000000000000000f00ff003e00010000000000000000000000000000000000000000000000000000000700070003000000000000000000000000000000000000000f00db00010001000f0007000f00000000000000000000000000000000000000000000000b0007000300070001000000000000000000000000000000000000000000000000000000000000000001ffffff s (State.rxCount s p dst len) := by
  unfold State.rxCount
  repeat' first
      | with_reducible exact Keeps.refl
      | with_reducible assumption
      | with_reducible refine Keeps.ite ?_ ?_
      | (with_reducible apply Keeps.bump; · decide)
      | (with_reducible apply Keeps.add; · decide)
      | extract_lets
      | intro _
      | split
      | (dsimp +zetaDelta only; split)

theorem State.store_keeps (s : State) (p q flow : Nat) (f : EthFrame) (bad : Bool) : Keeps 0x5000000000000000000000000000000000000000000000000000f00ff001e00000000000000000000000000000000000000000000000000000000000700070003000000000000000000000000000000000000000f00db00010001000f0007000f0000000000000000000000000000000000000000000000010007000300070001000000000000000000000000000000000000000000000000000000000000000001ffadff s (State.store s p q flow f bad).2 := by
  unfold State.store
  repeat' first
      | with_reducible exact Keeps.refl
      | with_reducible assumption
      | with_reducible refine Keeps.ite ?_ ?_
      | with_reducible refine Keeps.ite_snd ?_ ?_
      | (with_reducible apply Keeps.step (State.portErr_keeps ..); · decide)
      | (with_reducible apply Keeps.step (State.enqueue_keeps' (he := by assumption) ..); · decide)
      | (with_reducible apply Keeps.step (State.enqueue_keeps ..); · decide)
      | extract_lets
      | intro _
      | split
      | (dsimp +zetaDelta only; split)

theorem State.store_keeps' (s : State) (p q flow : Nat) (f : EthFrame) (bad : Bool) {α_ : _} {t_ : State} (he : State.store s p q flow f bad = (α_, t_)) : Keeps 0x5000000000000000000000000000000000000000000000000000f00ff001e00000000000000000000000000000000000000000000000000000000000700070003000000000000000000000000000000000000000f00db00010001000f0007000f0000000000000000000000000000000000000000000000010007000300070001000000000000000000000000000000000000000000000000000000000000000001ffadff s t_ := by
  have h := State.store_keeps s p q flow f bad
  rw [he] at h
  exact h

theorem State.toCores_keeps (s : State) (p : Nat) (f : EthFrame) : Keeps 0x5000000000000000000000000000000000000000000000000000f00ff001e00000000000000000000000000000000000000000000000000000000000700070003000000000000000000000000000000000000000f00db00010001000f0007000f0000000000000000000000000000000000000000000000010007000300070001000000000000000000000000000000000000000000000000000000000000000001ffadff s (State.toCores s p f).2 := by
  unfold State.toCores
  repeat' first
      | with_reducible exact Keeps.refl
      | with_reducible assumption
      | with_reducible refine Keeps.ite ?_ ?_
      | with_reducible refine Keeps.ite_snd ?_ ?_
      | (with_reducible apply Keeps.step (State.discard_keeps ..); · decide)
      | (with_reducible apply Keeps.step (State.store_keeps ..); · decide)
      | extract_lets
      | intro _
      | split
      | (dsimp +zetaDelta only; split)

theorem State.toCores_keeps' (s : State) (p : Nat) (f : EthFrame) {α_ : _} {t_ : State} (he : State.toCores s p f = (α_, t_)) : Keeps 0x5000000000000000000000000000000000000000000000000000f00ff001e00000000000000000000000000000000000000000000000000000000000700070003000000000000000000000000000000000000000f00db00010001000f0007000f0000000000000000000000000000000000000000000000010007000300070001000000000000000000000000000000000000000000000000000000000000000001ffadff s t_ := by
  have h := State.toCores_keeps s p f
  rw [he] at h
  exact h

theorem State.toEop_keeps (s : State) (p r : Nat) (h : Head16) (f : EthFrame) : Keeps 0x5000000000000000000000000000000000000000000000000000f00ff001c00000000000000000000000000000000000000000000000000000000000700070003000000000000000000000000000000000000000f00db00010001000f0007000f0000000000000000000000000000000000000000000000010007000300070001000000000000000000000000000000000000000000000000000000000000000001ffadff s (State.toEop s p r h f).2 := by
  unfold State.toEop
  repeat' first
      | with_reducible exact Keeps.refl
      | with_reducible assumption
      | with_reducible refine Keeps.ite ?_ ?_
      | with_reducible refine Keeps.ite_snd ?_ ?_
      | (with_reducible apply Keeps.step (State.discard_keeps ..); · decide)
      | (with_reducible apply Keeps.step (State.eopCount_keeps ..); · decide)
      | (with_reducible apply Keeps.step (State.store_keeps ..); · decide)
      | extract_lets
      | intro _
      | split
      | (dsimp +zetaDelta only; split)

theorem State.toEop_keeps' (s : State) (p r : Nat) (h : Head16) (f : EthFrame) {α_ : _} {t_ : State} (he : State.toEop s p r h f = (α_, t_)) : Keeps 0x5000000000000000000000000000000000000000000000000000f00ff001c00000000000000000000000000000000000000000000000000000000000700070003000000000000000000000000000000000000000f00db00010001000f0007000f0000000000000000000000000000000000000000000000010007000300070001000000000000000000000000000000000000000000000000000000000000000001ffadff s t_ := by
  have h := State.toEop_keeps s p r h f
  rw [he] at h
  exact h

theorem State.deliver_keeps (s : State) (p : Nat) (h : Head16) (f : EthFrame) : Keeps 0x5000000000000000000000000000000000000000000000000000f00ff000400000000000000000000000000000000000000000000000000000000000700070003000000000000000000000000000000000000000f00db00010001000f0007000f0000000000000000000000000000000000000000000000010007000300070001000000000000000000000000000000000000000000000000000000000000000001ffadff s (State.deliver s p h f).2 := by
  unfold State.deliver
  repeat' first
      | with_reducible exact Keeps.refl
      | with_reducible assumption
      | with_reducible refine Keeps.ite ?_ ?_
      | with_reducible refine Keeps.ite_snd ?_ ?_
      | (with_reducible apply Keeps.bump; · decide)
      | (with_reducible apply Keeps.step (State.portErr_keeps ..); · decide)
      | (with_reducible apply Keeps.step (State.ingestDrop_keeps ..); · decide)
      | (with_reducible apply Keeps.step (State.arpHeard_keeps ..); · decide)
      | (with_reducible apply Keeps.step (State.pauseHeard_keeps ..); · decide)
      | (with_reducible apply Keeps.step (State.store_keeps' (he := by assumption) ..); · decide)
      | (with_reducible apply Keeps.step (State.store_keeps ..); · decide)
      | (with_reducible apply Keeps.step (State.toCores_keeps' (he := by assumption) ..); · decide)
      | (with_reducible apply Keeps.step (State.toCores_keeps ..); · decide)
      | (with_reducible apply Keeps.step (State.toEop_keeps' (he := by assumption) ..); · decide)
      | (with_reducible apply Keeps.step (State.toEop_keeps ..); · decide)
      | extract_lets
      | intro _
      | split
      | (dsimp +zetaDelta only; split)

theorem State.deliver_keeps' (s : State) (p : Nat) (h : Head16) (f : EthFrame) {α_ : _} {t_ : State} (he : State.deliver s p h f = (α_, t_)) : Keeps 0x5000000000000000000000000000000000000000000000000000f00ff000400000000000000000000000000000000000000000000000000000000000700070003000000000000000000000000000000000000000f00db00010001000f0007000f0000000000000000000000000000000000000000000000010007000300070001000000000000000000000000000000000000000000000000000000000000000001ffadff s t_ := by
  have h := State.deliver_keeps s p h f
  rw [he] at h
  exact h

theorem State.relay_keeps (s : State) (p : Nat) (h : Head16) (f : EthFrame) (bad : Bool) : Keeps 0x5000000000000000000000000000000000000000000000000000f00ff001e00000000000000000000000000000000000000000000000000000000000700070003000000000000000000000000000000000000000f00db00010001000f0007000f0000000000000000000000000000000000000000000000010007000300070001000000000000000000000000000000000000000000000000000000000000000001ffadff s (State.relay s p h f bad).2 := by
  unfold State.relay
  repeat' first
      | with_reducible exact Keeps.refl
      | with_reducible assumption
      | with_reducible refine Keeps.ite ?_ ?_
      | with_reducible refine Keeps.ite_snd ?_ ?_
      | (with_reducible apply Keeps.bump; · decide)
      | (with_reducible apply Keeps.step (State.portErr_keeps ..); · decide)
      | (with_reducible apply Keeps.step (State.enqueue_keeps' (he := by assumption) ..); · decide)
      | (with_reducible apply Keeps.step (State.enqueue_keeps ..); · decide)
      | extract_lets
      | intro _
      | split
      | (dsimp +zetaDelta only; split)

theorem State.relay_keeps' (s : State) (p : Nat) (h : Head16) (f : EthFrame) (bad : Bool) {α_ : _} {t_ : State} (he : State.relay s p h f bad = (α_, t_)) : Keeps 0x5000000000000000000000000000000000000000000000000000f00ff001e00000000000000000000000000000000000000000000000000000000000700070003000000000000000000000000000000000000000f00db00010001000f0007000f0000000000000000000000000000000000000000000000010007000300070001000000000000000000000000000000000000000000000000000000000000000001ffadff s t_ := by
  have h := State.relay_keeps s p h f bad
  rw [he] at h
  exact h

theorem State.setRing_keeps (s : State) (st : Nat) : Keeps 0x5000000000000000000000000000000000000000000000000000f00ff007e00000000000000000000000000000000000000000000000000000000000700070003000000000000000000000000000000000000000f00db00010001000f0007000f0000000000000000000000000000000000000000000000090007000300070001000000000000000000000000000000000000000000000000000000000000000001ffedff s (State.setRing s st) := by
  unfold State.setRing
  repeat' first
      | with_reducible exact Keeps.refl
      | with_reducible assumption
      | with_reducible refine Keeps.ite ?_ ?_
      | (with_reducible apply Keeps.setFld; · decide)
      | (with_reducible apply Keeps.step (State.portEvent_keeps ..); · decide)
      | extract_lets
      | intro _
      | split
      | (dsimp +zetaDelta only; split)

theorem State.ringLapse_keeps (s : State) : Keeps 0x5000000000000000000000000000000000000000000000000000f00ff007e00000000000000000000000000000000000000000000000000000000000700070003000000000000000000000000000000000000000f00db00010001000f0007000f0000000000000000000000000000000000000000000000090007000300070001000000000000000000000000000000000000000000000000000000000000000001ffadff s (State.ringLapse s) := by
  unfold State.ringLapse
  repeat' first
      | with_reducible exact Keeps.refl
      | with_reducible assumption
      | with_reducible refine Keeps.ite ?_ ?_
      | (with_reducible apply Keeps.step (State.setRing_keeps ..); · decide)
      | extract_lets
      | intro _
      | split
      | (with_reducible apply Keeps.set_net; (case h0 => decide); (case hn => first | exact id | exact Ram.wf_put | exact Packet.fill_wf _ | exact fun h => by split <;> exact h))
      | (dsimp +zetaDelta only; split)

theorem State.probeHeard_keeps (s0 : State) : Keeps 0x5000000000000000000000000000000000000000000000000000f00ff007e00000000000000000000000000000000000000000000000000000000000700070003000000000000000000000000000000000000000f00db00010001000f0007000f0000000000000000000000000000000000000000000000090007000300070001000000000000000000000000000000000000000000000000000000000000000001ffadff s0 (State.probeHeard s0) := by
  unfold State.probeHeard
  repeat' first
      | with_reducible exact Keeps.refl
      | with_reducible assumption
      | with_reducible refine Keeps.ite ?_ ?_
      | (with_reducible apply Keeps.setFld; · decide)
      | (with_reducible apply Keeps.step (State.setRing_keeps ..); · decide)
      | (with_reducible apply Keeps.step (State.ringLapse_keeps ..); · decide)
      | extract_lets
      | intro _
      | split
      | (with_reducible apply Keeps.set_net; (case h0 => decide); (case hn => first | exact id | exact Ram.wf_put | exact Packet.fill_wf _ | exact fun h => by split <;> exact h))
      | (dsimp +zetaDelta only; split)

theorem execRingProbe_keeps (at_ node : Nat) (s0 : State) : Keeps 0x5000000000000000000000000000000000000000000000000000f00ff003e00000000000000000000000000000000000000000000000000000000000700070003000000000000000000000000000000000000000f00db00010001000f0007000f0000000000000000000000000000000000000000000000090007000300070001000000000000000000000000000000000000000000000000000000000000000001ffacfd s0 (execRingProbe at_ node s0) := by
  unfold execRingProbe
  repeat' first
      | with_reducible exact Keeps.refl
      | with_reducible assumption
      | with_reducible refine Keeps.ite ?_ ?_
      | (with_reducible apply Keeps.step (State.advanceTo_keeps ..); · decide)
      | (with_reducible apply Keeps.step (State.portErr_keeps ..); · decide)
      | (with_reducible apply Keeps.step (State.probeHeard_keeps ..); · decide)
      | extract_lets
      | intro _
      | split
      | (dsimp +zetaDelta only; split)

theorem execRingProbeTimeout_keeps (s0 : State) : Keeps 0x5000000000000000000000000000000000000000000000000000f00ff007e00000000000000000000000000000000000000000000000000000000000700070003000000000000000000000000000000000000000f00db00010001000f0007000f0000000000000000000000000000000000000000000000090007000300070001000000000000000000000000000000000000000000000000000000000000000001ffacfd s0 (execRingProbeTimeout s0) := by
  unfold execRingProbeTimeout
  repeat' first
      | with_reducible exact Keeps.refl
      | with_reducible assumption
      | with_reducible refine Keeps.ite ?_ ?_
      | (with_reducible apply Keeps.step (State.advanceTo_keeps ..); · decide)
      | (with_reducible apply Keeps.step (State.ringLapse_keeps ..); · decide)
      | extract_lets
      | intro _
      | split
      | (dsimp +zetaDelta only; split)

theorem execRingProbeSend_keeps (s0 : State) : Keeps 0x5000000000000000000000000000000000000000000000000000f00ff001e00000000000000000000000000000000000000000000000000000000000700070003000000000000000000000000000000000000000f00db00010001000f0007000f0000000000000000000000000000000000000000000000010007000300070001000000000000000000000000000000000000000000000000000000000000000001ffacfd s0 (execRingProbeSend s0) := by
  unfold execRingProbeSend
  repeat' first
      | with_reducible exact Keeps.refl
      | with_reducible assumption
      | with_reducible refine Keeps.ite ?_ ?_
      | (with_reducible apply Keeps.step (State.advanceTo_keeps ..); · decide)
      | (with_reducible apply Keeps.step (State.offer_keeps ..); · decide)
      | extract_lets
      | intro _
      | split
      | (with_reducible apply Keeps.set_net; (case h0 => decide); (case hn => first | exact id | exact Ram.wf_put | exact Packet.fill_wf _ | exact fun h => by split <;> exact h))
      | (dsimp +zetaDelta only; split)

theorem State.storeBad_keeps (s : State) (p : Nat) (h : Head16) (f : EthFrame) : Keeps 0x5000000000000000000000000000000000000000000000000000f00ff001e00000000000000000000000000000000000000000000000000000000000700070003000000000000000000000000000000000000000f00db00010001000f0007000f0000000000000000000000000000000000000000000000010007000300070001000000000000000000000000000000000000000000000000000000000000000001ffadff s (State.storeBad s p h f).2 := by
  unfold State.storeBad
  repeat' first
      | with_reducible exact Keeps.refl
      | with_reducible assumption
      | with_reducible refine Keeps.ite ?_ ?_
      | with_reducible refine Keeps.ite_snd ?_ ?_
      | (with_reducible apply Keeps.step (State.store_keeps' (he := by assumption) ..); · decide)
      | (with_reducible apply Keeps.step (State.store_keeps ..); · decide)
      | extract_lets
      | intro _
      | split
      | (dsimp +zetaDelta only; split)

theorem State.storeBad_keeps' (s : State) (p : Nat) (h : Head16) (f : EthFrame) {α_ : _} {t_ : State} (he : State.storeBad s p h f = (α_, t_)) : Keeps 0x5000000000000000000000000000000000000000000000000000f00ff001e00000000000000000000000000000000000000000000000000000000000700070003000000000000000000000000000000000000000f00db00010001000f0007000f0000000000000000000000000000000000000000000000010007000300070001000000000000000000000000000000000000000000000000000000000000000001ffadff s t_ := by
  have h := State.storeBad_keeps s p h f
  rw [he] at h
  exact h

theorem State.rxBad_keeps (s : State) (p : Nat) (h : Head16) (f : EthFrame) : Keeps 0x5000000000000000000000000000000000000000000000000000f00ff001e00000000000000000000000000000000000000000000000000000000000700070003000000000000000000000000000000000000000f00db00010001000f0007000f0000000000000000000000000000000000000000000000010007000300070001000000000000000000000000000000000000000000000000000000000000000001ffadff s (State.rxBad s p h f).2 := by
  unfold State.rxBad
  repeat' first
      | with_reducible exact Keeps.refl
      | with_reducible assumption
      | with_reducible refine Keeps.ite ?_ ?_
      | with_reducible refine Keeps.ite_snd ?_ ?_
      | (with_reducible apply Keeps.step (State.relay_keeps ..); · decide)
      | (with_reducible apply Keeps.step (State.storeBad_keeps ..); · decide)
      | extract_lets
      | intro _
      | split
      | (dsimp +zetaDelta only; split)

theorem State.rxBad_keeps' (s : State) (p : Nat) (h : Head16) (f : EthFrame) {α_ : _} {t_ : State} (he : State.rxBad s p h f = (α_, t_)) : Keeps 0x5000000000000000000000000000000000000000000000000000f00ff001e00000000000000000000000000000000000000000000000000000000000700070003000000000000000000000000000000000000000f00db00010001000f0007000f0000000000000000000000000000000000000000000000010007000300070001000000000000000000000000000000000000000000000000000000000000000001ffadff s t_ := by
  have h := State.rxBad_keeps s p h f
  rw [he] at h
  exact h

theorem State.rxGood_keeps (s : State) (p : Nat) (h : Head16) (f : EthFrame) : Keeps 0x5000000000000000000000000000000000000000000000000000f00ff000400000000000000000000000000000000000000000000000000000000000700070003000000000000000000000000000000000000000f00db00010001000f0007000f0000000000000000000000000000000000000000000000010007000300070001000000000000000000000000000000000000000000000000000000000000000001ffadff s (State.rxGood s p h f) := by
  unfold State.rxGood
  repeat' first
      | with_reducible exact Keeps.refl
      | with_reducible assumption
      | with_reducible refine Keeps.ite ?_ ?_
      | (with_reducible apply Keeps.step (State.portErr_keeps ..); · decide)
      | (with_reducible apply Keeps.step (State.rxCount_keeps ..); · decide)
      | (with_reducible apply Keeps.step (State.deliver_keeps' (he := by assumption) ..); · decide)
      | (with_reducible apply Keeps.step (State.deliver_keeps ..); · decide)
      | (with_reducible apply Keeps.step (State.relay_keeps' (he := by assumption) ..); · decide)
      | (with_reducible apply Keeps.step (State.relay_keeps ..); · decide)
      | (with_reducible apply Keeps.step (State.probeHeard_keeps ..); · decide)
      | extract_lets
      | intro _
      | split
      | (dsimp +zetaDelta only; split)

theorem execFrameReceive_keeps (p : Nat) (f0 : EthFrame) (s0 : State) : Keeps 0x5000000000000000000000000000000000000000000000000000f00ff000400000000000000000000000000000000000000000000000000000000000700070003000000000000000000000000000000000000000f00db00010001000f0007000f0000000000000000000000000000000000000000000000010007000300070001000000000000000000000000000000000000000000000000000000000000000001ffacfd s0 (execFrameReceive p f0 s0) := by
  unfold execFrameReceive
  repeat' first
      | with_reducible exact Keeps.refl
      | with_reducible assumption
      | with_reducible refine Keeps.ite ?_ ?_
      | (with_reducible apply Keeps.step (State.advanceTo_keeps ..); · decide)
      | (with_reducible apply Keeps.step (State.portErr_keeps ..); · decide)
      | (with_reducible apply Keeps.step (State.rxBad_keeps' (he := by assumption) ..); · decide)
      | (with_reducible apply Keeps.step (State.rxBad_keeps ..); · decide)
      | (with_reducible apply Keeps.step (State.rxGood_keeps ..); · decide)
      | extract_lets
      | intro _
      | split
      | (dsimp +zetaDelta only; split)

theorem writePoolQueue_keeps (q : Nat) (v : Row) (s : State) : Keeps 0x5000000000000000000000000000000000000000000000000000f00ff007e00000000000000000000000000000000000000000000000000000000000700070003000000000000000000000000000000000000000f00db00010001000f0007000f0000000000000000000000000000000000000000000000010007000300070001000000000000000000000000000000000000000000000000000000000000000001ffadff s (writePoolQueue q v s).st := by
  unfold writePoolQueue
  repeat' first
      | with_reducible exact Keeps.refl
      | with_reducible assumption
      | with_reducible refine Keeps.ite ?_ ?_
      | (with_reducible apply Keeps.setRow; · decide)
      | (with_reducible apply Keeps.setFld; · decide)
      | (with_reducible apply Keeps.step (State.raiseMs_keeps ..); · decide)
      | (with_reducible apply Keeps.step (State.pauseGenAll_keeps ..); · decide)
      | (with_reducible apply Keeps.step (refuse_keeps ..); · decide)
      | (with_reducible apply Keeps.step (done_keeps ..); · decide)
      | extract_lets
      | intro _
      | split
      | (dsimp +zetaDelta only; split)

end Sys2Proof.Machine
end

