-- ==== Sys2Proof/Laws/KeepsInteg.lean ====
section
/-! SUPPORT. What each operation of Machine/Integ.lean leaves alone. -/

set_option linter.all false
namespace Sys2Proof.Machine

theorem State.setInteg_keeps (s : State) (x : Integ) : Keeps 0x5000000000000000000000000000000000000000000000000000f00ff007e00010000000000000000000000000000000000000000000000000000000700070003000000000000000000000000000000000000000f00db00010001000f0007000f00000000000000000000000000000000000000000000000b0007000300070001000000000000000000000000000000000000000000000000000000000000000001ff7fff s (State.setInteg s x) := by
  unfold State.setInteg
  repeat' first
      | with_reducible exact Keeps.refl
      | with_reducible assumption
      | with_reducible refine Keeps.ite ?_ ?_
      | extract_lets
      | intro _
      | split
      | (with_reducible apply Keeps.set_integ; (case h0 => decide))
      | (dsimp +zetaDelta only; split)

theorem State.remember_keeps (s : State) (mem addr : Nat) : Keeps 0x5000000000000000000000000000000000000000000000000000f00ff007e00010000000000000000000000000000000000000000000000000000000700070003000000000000000000000000000000000000000f00db00010001000f0007000f00000000000000000000000000000000000000000000000b0007000300070001000000000000000000000000000000000000000000000000000000000000000001ff7fff s (State.remember s mem addr) := by
  unfold State.remember
  repeat' first
      | with_reducible exact Keeps.refl
      | with_reducible assumption
      | with_reducible refine Keeps.ite ?_ ?_
      | (with_reducible apply Keeps.step (State.setInteg_keeps ..); · decide)
      | extract_lets
      | intro _
      | split
      | (dsimp +zetaDelta only; split)

theorem State.logAdd_keeps (s : State) (mem addr kind src : Nat) : Keeps 0x5000000000000000000000000000000000000000000000000000d00ff007e00000000000000000000000000000000000000000000000000000000000700070003000000000000000000000000000000000000000f00db00010001000f0007000f00000000000000000000000000000000000000000000000b0007000300070001000000000000000000000000000000000000000000000000000000000000000001ff6dff s (State.logAdd s mem addr kind src) := by
  unfold State.logAdd
  repeat' first
      | with_reducible exact Keeps.refl
      | with_reducible assumption
      | with_reducible refine Keeps.ite ?_ ?_
      | (with_reducible apply Keeps.bump; · decide)
      | (with_reducible apply Keeps.step (State.raise_keeps ..); · decide)
      | (with_reducible apply Keeps.step (State.setInteg_keeps ..); · decide)
      | (with_reducible refine Keeps.foldl (fun _ _ _ => ?_) ?_)
      | extract_lets
      | intro _
      | split
      | (dsimp +zetaDelta only; split)

theorem State.rateCount_keeps (s : State) : Keeps 0x5000000000000000000000000000000000000000000000000000f00ff007e00000000000000000000000000000000000000000000000000000000000700070003000000000000000000000000000000000000000f00db00010001000f0007000f00000000000000000000000000000000000000000000000b0007000300070001000000000000000000000000000000000000000000000000000000000000000001ff6dff s (State.rateCount s) := by
  unfold State.rateCount
  repeat' first
      | with_reducible exact Keeps.refl
      | with_reducible assumption
      | with_reducible refine Keeps.ite ?_ ?_
      | (with_reducible apply Keeps.step (State.raiseOnce_keeps ..); · decide)
      | (with_reducible apply Keeps.step (State.setInteg_keeps ..); · decide)
      | extract_lets
      | intro _
      | split
      | (dsimp +zetaDelta only; split)

theorem State.corrected_keeps (s : State) (mem addr src kind : Nat) : Keeps 0x5000000000000000000000000000000000000000000000000000d00ff007e00000000000000000000000000000000000000000000000000000000000700070003000000000000000000000000000000000000000f00db00010001000f0007000f00000000000000000000000000000000000000000000000b0007000300070001000000000000000000000000000000000000000000000000000000000000000001ff6dff s (State.corrected s mem addr src kind) := by
  unfold State.corrected
  repeat' first
      | with_reducible exact Keeps.refl
      | with_reducible assumption
      | with_reducible refine Keeps.ite ?_ ?_
      | (with_reducible apply Keeps.bump; · decide)
      | (with_reducible apply Keeps.step (State.raiseMs_keeps ..); · decide)
      | (with_reducible apply Keeps.step (State.setInteg_keeps ..); · decide)
      | (with_reducible apply Keeps.step (State.remember_keeps ..); · decide)
      | (with_reducible apply Keeps.step (State.logAdd_keeps ..); · decide)
      | (with_reducible apply Keeps.step (State.rateCount_keeps ..); · decide)
      | extract_lets
      | intro _
      | split
      | (dsimp +zetaDelta only; split)

theorem State.repaired_keeps (s : State) (mem base src : Nat) (x : PageFind) : Keeps 0x5000000000000000000000000000000000000000000000000000d00ff007e00000000000000000000000000000000000000000000000000000000000700070003000000000000000000000000000000000000000f00db00010001000f0007000f00000000000000000000000000000000000000000000000b0007000300070001000000000000000000000000000000000000000000000000000000000000000001ff6dff s (State.repaired s mem base src x) := by
  unfold State.repaired
  repeat' first
      | with_reducible exact Keeps.refl
      | with_reducible assumption
      | with_reducible refine Keeps.ite ?_ ?_
      | (with_reducible apply Keeps.bump; · decide)
      | (with_reducible apply Keeps.step (State.setInteg_keeps ..); · decide)
      | (with_reducible apply Keeps.step (State.corrected_keeps ..); · decide)
      | (with_reducible refine Keeps.foldl (fun _ _ _ => ?_) ?_)
      | extract_lets
      | intro _
      | split
      | (dsimp +zetaDelta only; split)

theorem State.integrityReset_keeps (s : State) (mem addr rank : Nat) : Keeps 0x5000000000000000000000000000000000000000000000000000f00ff007e00010000000000000000000000000000000000000000000000000000000700070003000000000000000000000000000000000000000f00db00010001000f0007000f00000000000000000000000000000000000000000000000b0007000300070000000000000000000000000000000000000000000000000000000000000000000001fe6f1f s (State.integrityReset s mem addr rank) := by
  unfold State.integrityReset
  repeat' first
      | with_reducible exact Keeps.refl
      | with_reducible assumption
      | with_reducible refine Keeps.ite ?_ ?_
      | (with_reducible apply Keeps.step (State.requestReset_keeps ..); · decide)
      | (with_reducible apply Keeps.step (State.setInteg_keeps ..); · decide)
      | extract_lets
      | intro _
      | split
      | (dsimp +zetaDelta only; split)

theorem State.checkPage_keeps (s : State) (mem page base src : Nat) (words : List WordFlips) (checks : List (Nat × Nat)) : Keeps 0x5000000000000000000000000000000000000000000000000000d00ff007e00000000000000000000000000000000000000000000000000000000000700070003000000000000000000000000000000000000000f00db00010001000f0007000f00000000000000000000000000000000000000000000000b0007000300070000000000000000000000000000000000000000000000000000000000000000000001fe6d1f s (State.checkPage s mem page base src words checks) := by
  unfold State.checkPage
  repeat' first
      | with_reducible exact Keeps.refl
      | with_reducible assumption
      | with_reducible refine Keeps.ite ?_ ?_
      | (with_reducible apply Keeps.step (State.repaired_keeps ..); · decide)
      | (with_reducible apply Keeps.step (State.integrityReset_keeps ..); · decide)
      | extract_lets
      | intro _
      | split
      | (dsimp +zetaDelta only; split)

theorem execPageDecode_keeps (mem page : Nat) (words : List WordFlips) (checks : List (Nat × Nat)) (rank : Nat) (s : State) : Keeps 0x5000000000000000000000000000000000000000000000000000d00ff007e00000000000000000000000000000000000000000000000000000000000700070003000000000000000000000000000000000000000f00db00010001000f0007000f00000000000000000000000000000000000000000000000b0007000300070000000000000000000000000000000000000000000000000000000000000000000001fe6d1f s (execPageDecode mem page words checks rank s) := by
  unfold execPageDecode
  repeat' first
      | with_reducible exact Keeps.refl
      | with_reducible assumption
      | with_reducible refine Keeps.ite ?_ ?_
      | (with_reducible apply Keeps.step (State.checkPage_keeps ..); · decide)
      | extract_lets
      | intro _
      | split
      | (dsimp +zetaDelta only; split)

theorem State.setScrub_keeps (s : State) (mem : Nat) (x : Scrub) : Keeps 0x5000000000000000000000000000000000000000000000000000f00ff007e00010000000000000000000000000000000000000000000000000000000700070003000000000000000000000000000000000000000f00db00010001000f0007000f00000000000000000000000000000000000000000000000b0007000300070001000000000000000000000000000000000000000000000000000000000000000001ff7fff s (State.setScrub s mem x) := by
  unfold State.setScrub
  repeat' first
      | with_reducible exact Keeps.refl
      | with_reducible assumption
      | with_reducible refine Keeps.ite ?_ ?_
      | (with_reducible apply Keeps.step (State.setInteg_keeps ..); · decide)
      | extract_lets
      | intro _
      | split
      | (dsimp +zetaDelta only; split)

theorem State.startScrub_keeps (s : State) (mem pages : Nat) : Keeps 0x5000000000000000000000000000000000000000000000000000f00ff007e00010000000000000000000000000000000000000000000000000000000700070003000000000000000000000000000000000000000f00db00010001000f0007000f00000000000000000000000000000000000000000000000b0007000300070001000000000000000000000000000000000000000000000000000000000000000001ff7fff s (State.startScrub s mem pages) := by
  unfold State.startScrub
  repeat' first
      | with_reducible exact Keeps.refl
      | with_reducible assumption
      | with_reducible refine Keeps.ite ?_ ?_
      | (with_reducible apply Keeps.step (State.setScrub_keeps ..); · decide)
      | extract_lets
      | intro _
      | split
      | (dsimp +zetaDelta only; split)

theorem State.scrubNext_keeps (s : State) (mem page : Nat) : Keeps 0x5000000000000000000000000000000000000000000000000000f00ff007e00000000000000000000000000000000000000000000000000000000000700050003000000000000000000000000000000000000000f00db00010001000f0007000f00000000000000000000000000000000000000000000000b0007000300070001000000000000000000000000000000000000000000000000000000000000000001ff6dff s (State.scrubNext s mem page) := by
  unfold State.scrubNext
  repeat' first
      | with_reducible exact Keeps.refl
      | with_reducible assumption
      | with_reducible refine Keeps.ite ?_ ?_
      | (with_reducible apply Keeps.setRow; · decide)
      | (with_reducible apply Keeps.setFld; · decide)
      | (with_reducible apply Keeps.step (State.raise_keeps ..); · decide)
      | (with_reducible apply Keeps.step (State.setScrub_keeps ..); · decide)
      | extract_lets
      | intro _
      | split
      | (dsimp +zetaDelta only; split)

theorem execScrubVisit_keeps (mem : Nat) (words : List WordFlips) (checks : List (Nat × Nat)) (s0 : State) : Keeps 0x5000000000000000000000000000000000000000000000000000d00ff007e00000000000000000000000000000000000000000000000000000000000700050003000000000000000000000000000000000000000f00db00010001000f0007000f00000000000000000000000000000000000000000000000b0007000300070000000000000000000000000000000000000000000000000000000000000000000001fe6c1d s0 (execScrubVisit mem words checks s0) := by
  unfold execScrubVisit
  repeat' first
      | with_reducible exact Keeps.refl
      | with_reducible assumption
      | with_reducible refine Keeps.ite ?_ ?_
      | (with_reducible apply Keeps.bump; · decide)
      | (with_reducible apply Keeps.step (State.advanceTo_keeps ..); · decide)
      | (with_reducible apply Keeps.step (State.checkPage_keeps ..); · decide)
      | (with_reducible apply Keeps.step (State.scrubNext_keeps ..); · decide)
      | extract_lets
      | intro _
      | split
      | (dsimp +zetaDelta only; split)

theorem writeLogClear_keeps (v : Nat) (s : State) : Keeps 0x5000000000000000000000000000000000000000000000000000f00ff007e00010000000000000000000000000000000000000000000000000000000700070003000000000000000000000000000000000000000f00db00010001000f0007000f00000000000000000000000000000000000000000000000b0007000300070001000000000000000000000000000000000000000000000000000000000000000001ff7fff s (writeLogClear v s).st := by
  unfold writeLogClear
  repeat' first
      | with_reducible exact Keeps.refl
      | with_reducible assumption
      | with_reducible refine Keeps.ite ?_ ?_
      | (with_reducible apply Keeps.step (done_keeps ..); · decide)
      | (with_reducible apply Keeps.step (State.setInteg_keeps ..); · decide)
      | extract_lets
      | intro _
      | split
      | (dsimp +zetaDelta only; split)

theorem State.ingestYields_keeps (s : State) : Keeps 0x5000000000000000000000000000000000000000000000000000f00fe006e00000000000000000000000000000000000000000000000000000000000700070003000000000000000000000000000000000000000f00db00010001000f0007000d00000000000000000000000000000000000000000000000a0007000300070001000000000000000000000000000000000000000000000000000000000000000001fdedff s (State.ingestYields s) := by
  unfold State.ingestYields
  repeat' first
      | with_reducible exact Keeps.refl
      | with_reducible assumption
      | with_reducible refine Keeps.ite ?_ ?_
      | (with_reducible apply Keeps.step (State.yieldFlow_keeps ..); · decide)
      | (with_reducible refine Keeps.foldl (fun _ _ _ => ?_) ?_)
      | extract_lets
      | intro _
      | split
      | (dsimp +zetaDelta only; split)

theorem State.giveWay_keeps (s : State) (d : Demand) : Keeps 0x5000000000000000000000000000000000000000000000000000f00fa006e00000000000000000000000000000000000000000000000000000000000700070003000000000000000000000000000000000000000f00db0001000100070007000d00000000000000000000000000000000000000000000000a0007000300070001000000000000000000000000000000000000000000000000000000000000000001f9edff s (State.giveWay s d) := by
  unfold State.giveWay
  repeat' first
      | with_reducible exact Keeps.refl
      | with_reducible assumption
      | with_reducible refine Keeps.ite ?_ ?_
      | (with_reducible apply Keeps.step (State.headCount_keeps ..); · decide)
      | (with_reducible apply Keeps.step (State.wbackAbandon_keeps ..); · decide)
      | (with_reducible apply Keeps.step (State.wbackOverrun_keeps ..); · decide)
      | (with_reducible apply Keeps.step (State.ingestYields_keeps ..); · decide)
      | extract_lets
      | intro _
      | split
      | (dsimp +zetaDelta only; split)

theorem State.windowServed_keeps (s : State) (delivered : Nat) (demands : List Demand) : Keeps 0x5000000000000000000000000000000000000000000000000000f00ff007e00010000000000000000000000000000000000000000000000000000000700070003000000000000000000000000000000000000000f00db00010001000f0007000f00000000000000000000000000000000000000000000000b0007000300070001000000000000000000000000000000000000000000000000000000000000000001df7fe7 s (State.windowServed s delivered demands) := by
  unfold State.windowServed
  repeat' first
      | with_reducible exact Keeps.refl
      | with_reducible assumption
      | with_reducible refine Keeps.ite ?_ ?_
      | (with_reducible apply Keeps.step (State.teleRelease_keeps ..); · decide)
      | (with_reducible apply Keeps.step (State.setInteg_keeps ..); · decide)
      | extract_lets
      | intro _
      | split
      | (dsimp +zetaDelta only; split)

theorem execArbitrationWindow_keeps (delivered : Nat) (demands : List Demand) (s0 : State) : Keeps 0x5000000000000000000000000000000000000000000000000000d00fa006e00000000000000000000000000000000000000000000000000000000000700070003000000000000000000000000000000000000000f00db0001000100070007000d00000000000000000000000000000000000000000000000a0007000300070001000000000000000000000000000000000000000000000000000000000000000001d96de7 s0 (execArbitrationWindow delivered demands s0) := by
  unfold execArbitrationWindow
  repeat' first
      | with_reducible exact Keeps.refl
      | with_reducible assumption
      | with_reducible refine Keeps.ite ?_ ?_
      | (with_reducible apply Keeps.bump; · decide)
      | (with_reducible apply Keeps.step (State.raiseMs_keeps ..); · decide)
      | (with_reducible apply Keeps.step (State.setInteg_keeps ..); · decide)
      | (with_reducible apply Keeps.step (State.giveWay_keeps ..); · decide)
      | (with_reducible apply Keeps.step (State.windowServed_keeps ..); · decide)
      | (with_reducible refine Keeps.foldl (fun _ _ _ => ?_) ?_)
      | extract_lets
      | intro _
      | split
      | (dsimp +zetaDelta only; split)

theorem execRefreshRateChange_keeps (rate : Nat) (s : State) : Keeps 0x5000000000000000000000000000000000000000000000000000f00ff007e00000000000000000000000000000000000000000000000000000000000700070003000000000000000000000000000000000000000f00db00010001000f0007000f00000000000000000000000000000000000000000000000b0007000300070001000000000000000000000000000000000000000000000000000000000000000001ff6dff s (execRefreshRateChange rate s) := by
  unfold execRefreshRateChange
  repeat' first
      | with_reducible exact Keeps.refl
      | with_reducible assumption
      | with_reducible refine Keeps.ite ?_ ?_
      | (with_reducible apply Keeps.step (State.raise_keeps ..); · decide)
      | (with_reducible apply Keeps.step (State.setInteg_keeps ..); · decide)
      | extract_lets
      | intro _
      | split
      | (dsimp +zetaDelta only; split)

theorem execDramState_keeps (ok : Bool) (gib channels : Nat) (s : State) : Keeps 0x5000000000000000000000000000000000000000000000000000f00ff007e00000000000000000000000000000000000000000000000000000000000700070003000000000000000000000000000000000000000f00db00010001000f0007000f00000000000000000000000000000000000000000000000b0007000300070001000000000000000000000000000000000000000000000000000000000000000001ff6dff s (execDramState ok gib channels s) := by
  unfold execDramState
  repeat' first
      | with_reducible exact Keeps.refl
      | with_reducible assumption
      | with_reducible refine Keeps.ite ?_ ?_
      | (with_reducible apply Keeps.step (State.raise_keeps ..); · decide)
      | (with_reducible apply Keeps.step (State.setInteg_keeps ..); · decide)
      | extract_lets
      | intro _
      | split
      | (dsimp +zetaDelta only; split)

end Sys2Proof.Machine
end

