-- ==== Sys2Proof/Laws/KeepsUpdate.lean ====
section
/-! SUPPORT. What each operation of Machine/Update.lean leaves alone. -/

set_option linter.all false
namespace Sys2Proof.Machine

theorem State.setUpdate_keeps (s : State) (u : Update) : Keeps 0x5000000000000000000000000000000000000000000000000000f00ff007e00010000000000000000000000000000000000000000000000000000000700070003000000000000000000000000000000000000000f00db00010001000f0007000f00000000000000000000000000000000000000000000000b0007000300070001000000000000000000000000000000000000000000000000000000000000000001feffff s (State.setUpdate s u) := by
  unfold State.setUpdate
  repeat' first
      | with_reducible exact Keeps.refl
      | with_reducible assumption
      | with_reducible refine Keeps.ite ?_ ?_
      | extract_lets
      | intro _
      | split
      | (with_reducible apply Keeps.set_update; (case h0 => decide))
      | (dsimp +zetaDelta only; split)

theorem State.setBoot_keeps (s : State) (b : BootRecord) : Keeps 0x5000000000000000000000000000000000000000000000000000f00ff007e00010000000000000000000000000000000000000000000000000000000700070003000000000000000000000000000000000000000f00db00010001000f0007000f00000000000000000000000000000000000000000000000b0007000300070001000000000000000000000000000000000000000000000000000000000000000001ffff7f s (State.setBoot s b) := by
  unfold State.setBoot
  repeat' first
      | with_reducible exact Keeps.refl
      | with_reducible assumption
      | with_reducible refine Keeps.ite ?_ ?_
      | extract_lets
      | intro _
      | split
      | (with_reducible apply Keeps.set_flash; (case h0 => decide))
      | (dsimp +zetaDelta only; split)

theorem State.setSlot_keeps (s : State) (i : Nat) (x : SlotImage) : Keeps 0x5000000000000000000000000000000000000000000000000000f00ff007e00010000000000000000000000000000000000000000000000000000000700070003000000000000000000000000000000000000000f00db00010001000f0007000f00000000000000000000000000000000000000000000000b0007000300070001000000000000000000000000000000000000000000000000000000000000000001ffff7f s (State.setSlot s i x) := by
  unfold State.setSlot
  repeat' first
      | with_reducible exact Keeps.refl
      | with_reducible assumption
      | with_reducible refine Keeps.ite ?_ ?_
      | extract_lets
      | intro _
      | split
      | (with_reducible apply Keeps.set_flash; (case h0 => decide))
      | (dsimp +zetaDelta only; split)

theorem State.updateTo_keeps (s : State) (st : Nat) : Keeps 0x5000000000000000000000000000000000000000000000000000f00ff007e00000000000000000000000000000000000000000000000000000000000700070003000000000000000000000000000000000000000f00db00010001000f0007000f00000000000000000000000000000000000000000000000b0007000300070001000000000000000000000000000000000000000000000000000000000000000001feedff s (State.updateTo s st) := by
  unfold State.updateTo
  repeat' first
      | with_reducible exact Keeps.refl
      | with_reducible assumption
      | with_reducible refine Keeps.ite ?_ ?_
      | (with_reducible apply Keeps.step (State.raise_keeps ..); · decide)
      | (with_reducible apply Keeps.step (State.setUpdate_keeps ..); · decide)
      | extract_lets
      | intro _
      | split
      | (dsimp +zetaDelta only; split)

theorem writeDownload_keeps (w : Who) (v : Row) (s : State) : Keeps 0x5000000000000000000000000000000000000000000000000000e00ff007e00000000000000000000000000000000000000000000000000000000000700070003000000000000000000000000000000000000000f00db00010001000f0007000f00000000000000000000000000000000000000000000000b0007000300070001000000000000000000000000000000000000000000000000000000000000000001fecd7f s (writeDownload w v s).st := by
  unfold writeDownload
  repeat' first
      | with_reducible exact Keeps.refl
      | with_reducible assumption
      | with_reducible refine Keeps.ite ?_ ?_
      | (with_reducible apply Keeps.step (State.raise_keeps ..); · decide)
      | (with_reducible apply Keeps.step (refuse_keeps ..); · decide)
      | (with_reducible refine accept_keeps (by decide) (fun _ _ => ?_) ?_)
      | (with_reducible apply Keeps.step (State.setUpdate_keeps ..); · decide)
      | (with_reducible apply Keeps.step (State.setBoot_keeps ..); · decide)
      | (with_reducible apply Keeps.step (State.setSlot_keeps ..); · decide)
      | (with_reducible apply Keeps.step (State.updateTo_keeps ..); · decide)
      | extract_lets
      | intro _
      | split
      | (dsimp +zetaDelta only; split)

theorem State.transferEnds_keeps (s : State) (x : Transfer) (status : Nat) : Keeps 0x5000000000000000000000000000000000000000000000000000e00ff001c00000000000000000000000000000000000000000000000000000000000700070003000000000000000000000000000000000000000f00db00010001000f0007000f0000000000000000000000000000000000000000000000010007000300070001000000000000000000000000000000000000000000000000000000000000000001fe8dff s (State.transferEnds s x status) := by
  unfold State.transferEnds
  repeat' first
      | with_reducible exact Keeps.refl
      | with_reducible assumption
      | with_reducible refine Keeps.ite ?_ ?_
      | (with_reducible apply Keeps.step (State.taskDrop_keeps ..); · decide)
      | (with_reducible apply Keeps.step (State.completeTask_keeps ..); · decide)
      | (with_reducible apply Keeps.step (State.setUpdate_keeps ..); · decide)
      | (with_reducible apply Keeps.step (State.updateTo_keeps ..); · decide)
      | extract_lets
      | intro _
      | split
      | (dsimp +zetaDelta only; split)

theorem execEraseDone_keeps (ok : Bool) (s : State) : Keeps 0x5000000000000000000000000000000000000000000000000000e00ff001c00000000000000000000000000000000000000000000000000000000000700070003000000000000000000000000000000000000000f00db00010001000f0007000f0000000000000000000000000000000000000000000000010007000300070001000000000000000000000000000000000000000000000000000000000000000001fe8dff s (execEraseDone ok s) := by
  unfold execEraseDone
  repeat' first
      | with_reducible exact Keeps.refl
      | with_reducible assumption
      | with_reducible refine Keeps.ite ?_ ?_
      | (with_reducible apply Keeps.step (State.raise_keeps ..); · decide)
      | (with_reducible apply Keeps.step (State.setUpdate_keeps ..); · decide)
      | (with_reducible apply Keeps.step (State.updateTo_keeps ..); · decide)
      | (with_reducible apply Keeps.step (State.transferEnds_keeps ..); · decide)
      | extract_lets
      | intro _
      | split
      | (dsimp +zetaDelta only; split)

theorem State.takeFragment_keeps (s : State) (x : Transfer) (f : Fragment) : Keeps 0x5000000000000000000000000000000000000000000000000000b00ff005e00000000000000000000000000000000000000000000000000000000000700070003000000000000000000000000000000000000000f00db00010001000f0007000f0000000000000000000000000000000000000000000000010007000300070001000000000000000000000000000000000000000000000000000000000000000001feadff s (State.takeFragment s x f).2 := by
  unfold State.takeFragment
  repeat' first
      | with_reducible exact Keeps.refl
      | with_reducible assumption
      | with_reducible refine Keeps.ite ?_ ?_
      | with_reducible refine Keeps.ite_snd ?_ ?_
      | (with_reducible apply Keeps.bump; · decide)
      | (with_reducible apply Keeps.step (State.taskPut_keeps ..); · decide)
      | (with_reducible apply Keeps.step (State.taskDrop_keeps ..); · decide)
      | (with_reducible apply Keeps.step (State.setUpdate_keeps ..); · decide)
      | extract_lets
      | intro _
      | split
      | (dsimp +zetaDelta only; split)

theorem State.takeFragment_keeps' (s : State) (x : Transfer) (f : Fragment) {α_ : _} {t_ : State} (he : State.takeFragment s x f = (α_, t_)) : Keeps 0x5000000000000000000000000000000000000000000000000000b00ff005e00000000000000000000000000000000000000000000000000000000000700070003000000000000000000000000000000000000000f00db00010001000f0007000f0000000000000000000000000000000000000000000000010007000300070001000000000000000000000000000000000000000000000000000000000000000001feadff s t_ := by
  have h := State.takeFragment_keeps s x f
  rw [he] at h
  exact h

theorem State.transferCome_keeps (s : State) : Keeps 0x5000000000000000000000000000000000000000000000000000e00ff001c00000000000000000000000000000000000000000000000000000000000700070003000000000000000000000000000000000000000f00db00010001000f0007000f0000000000000000000000000000000000000000000000010007000300070001000000000000000000000000000000000000000000000000000000000000000001fe8dff s (State.transferCome s) := by
  unfold State.transferCome
  repeat' first
      | with_reducible exact Keeps.refl
      | with_reducible assumption
      | with_reducible refine Keeps.ite ?_ ?_
      | (with_reducible apply Keeps.step (State.transferEnds_keeps ..); · decide)
      | extract_lets
      | intro _
      | split
      | (dsimp +zetaDelta only; split)

theorem State.fragment_keeps (s0 : State) (f : Fragment) : Keeps 0x5000000000000000000000000000000000000000000000000000a00ff001c00000000000000000000000000000000000000000000000000000000000700070003000000000000000000000000000000000000000f00db00010001000f0007000f0000000000000000000000000000000000000000000000010007000300070001000000000000000000000000000000000000000000000000000000000000000001fe8dff s0 (State.fragment s0 f).2.2 := by
  unfold State.fragment
  repeat' first
      | with_reducible exact Keeps.refl
      | with_reducible assumption
      | with_reducible refine Keeps.ite ?_ ?_
      | (with_reducible apply Keeps.bump; · decide)
      | (with_reducible apply Keeps.step (State.setUpdate_keeps ..); · decide)
      | (with_reducible apply Keeps.step (State.takeFragment_keeps' (he := by assumption) ..); · decide)
      | (with_reducible apply Keeps.step (State.takeFragment_keeps ..); · decide)
      | (with_reducible apply Keeps.step (State.transferCome_keeps ..); · decide)
      | extract_lets
      | intro _
      | split
      | (dsimp +zetaDelta only; split)

theorem State.relayFragment_keeps (s : State) (bytes : List Byte) : Keeps 0x5000000000000000000000000000000000000000000000000000b00ff001e00000000000000000000000000000000000000000000000000000000000700070003000000000000000000000000000000000000000f00db00010001000f0007000f0000000000000000000000000000000000000000000000010007000300070001000000000000000000000000000000000000000000000000000000000000000001ffadff s (State.relayFragment s bytes) := by
  unfold State.relayFragment
  repeat' first
      | with_reducible exact Keeps.refl
      | with_reducible assumption
      | with_reducible refine Keeps.ite ?_ ?_
      | (with_reducible apply Keeps.bump; · decide)
      | (with_reducible apply Keeps.step (State.offer_keeps ..); · decide)
      | extract_lets
      | intro _
      | split
      | (dsimp +zetaDelta only; split)

theorem execBlockProgramDone_keeps (b : Nat) (ok : Bool) (s : State) : Keeps 0x5000000000000000000000000000000000000000000000000000e00ff001c00000000000000000000000000000000000000000000000000000000000700070003000000000000000000000000000000000000000f00db00010001000f0007000f0000000000000000000000000000000000000000000000010007000300070001000000000000000000000000000000000000000000000000000000000000000001fe8d7f s (execBlockProgramDone b ok s) := by
  unfold execBlockProgramDone
  repeat' first
      | with_reducible exact Keeps.refl
      | with_reducible assumption
      | with_reducible refine Keeps.ite ?_ ?_
      | (with_reducible apply Keeps.step (State.raise_keeps ..); · decide)
      | (with_reducible apply Keeps.step (State.setUpdate_keeps ..); · decide)
      | (with_reducible apply Keeps.step (State.setSlot_keeps ..); · decide)
      | (with_reducible apply Keeps.step (State.transferEnds_keeps ..); · decide)
      | extract_lets
      | intro _
      | split
      | (dsimp +zetaDelta only; split)

theorem execTransferTimeout_keeps (s : State) : Keeps 0x5000000000000000000000000000000000000000000000000000e00ff001c00000000000000000000000000000000000000000000000000000000000700070003000000000000000000000000000000000000000f00db00010001000f0007000f0000000000000000000000000000000000000000000000010007000300070001000000000000000000000000000000000000000000000000000000000000000001fe8cfd s (execTransferTimeout s) := by
  unfold execTransferTimeout
  repeat' first
      | with_reducible exact Keeps.refl
      | with_reducible assumption
      | with_reducible refine Keeps.ite ?_ ?_
      | (with_reducible apply Keeps.step (State.advanceTo_keeps ..); · decide)
      | (with_reducible apply Keeps.step (State.transferEnds_keeps ..); · decide)
      | extract_lets
      | intro _
      | split
      | (dsimp +zetaDelta only; split)

theorem writeVerify_keeps (w : Who) (v : Nat) (s : State) : Keeps 0x5000000000000000000000000000000000000000000000000000e00ff007e00000000000000000000000000000000000000000000000000000000000700070003000000000000000000000000000000000000000f00db00010001000f0007000f00000000000000000000000000000000000000000000000b0007000300070001000000000000000000000000000000000000000000000000000000000000000001fecdff s (writeVerify w v s).st := by
  unfold writeVerify
  repeat' first
      | with_reducible exact Keeps.refl
      | with_reducible assumption
      | with_reducible refine Keeps.ite ?_ ?_
      | (with_reducible apply Keeps.step (refuse_keeps ..); · decide)
      | (with_reducible apply Keeps.step (done_keeps ..); · decide)
      | (with_reducible refine accept_keeps (by decide) (fun _ _ => ?_) ?_)
      | (with_reducible apply Keeps.step (State.setUpdate_keeps ..); · decide)
      | (with_reducible apply Keeps.step (State.updateTo_keeps ..); · decide)
      | extract_lets
      | intro _
      | split
      | (dsimp +zetaDelta only; split)

theorem execVerifyDone_keeps (s : State) : Keeps 0x5000000000000000000000000000000000000000000000000000a00ff001c00000000000000000000000000000000000000000000000000000000000600070003000000000000000000000000000000000000000f00db00010001000f0007000f0000000000000000000000000000000000000000000000010007000300070001000000000000000000000000000000000000000000000000000000000000000001fe8dff s (execVerifyDone s) := by
  unfold execVerifyDone
  repeat' first
      | with_reducible exact Keeps.refl
      | with_reducible assumption
      | with_reducible refine Keeps.ite ?_ ?_
      | (with_reducible apply Keeps.setRow; · decide)
      | (with_reducible apply Keeps.bump; · decide)
      | (with_reducible apply Keeps.step (State.raise_keeps ..); · decide)
      | (with_reducible apply Keeps.step (State.completeTask_keeps ..); · decide)
      | (with_reducible apply Keeps.step (State.setUpdate_keeps ..); · decide)
      | (with_reducible apply Keeps.step (State.updateTo_keeps ..); · decide)
      | extract_lets
      | intro _
      | split
      | (dsimp +zetaDelta only; split)

theorem writePrepare_keeps (v : Row) (s : State) : Keeps 0x5000000000000000000000000000000000000000000000000000f00ff007e00000000000000000000000000000000000000000000000000000000000700070003000000000000000000000000000000000000000f00db00010001000f0007000f00000000000000000000000000000000000000000000000b0007000300070001000000000000000000000000000000000000000000000000000000000000000001feed7f s (writePrepare v s).st := by
  unfold writePrepare
  repeat' first
      | with_reducible exact Keeps.refl
      | with_reducible assumption
      | with_reducible refine Keeps.ite ?_ ?_
      | (with_reducible apply Keeps.step (State.raise_keeps ..); · decide)
      | (with_reducible apply Keeps.step (refuse_keeps ..); · decide)
      | (with_reducible apply Keeps.step (done_keeps ..); · decide)
      | (with_reducible apply Keeps.step (State.setBoot_keeps ..); · decide)
      | (with_reducible apply Keeps.step (State.updateTo_keeps ..); · decide)
      | extract_lets
      | intro _
      | split
      | (dsimp +zetaDelta only; split)

theorem writeCommit_keeps (v : Nat) (s : State) : Keeps 0x5000000000000000000000000000000000000000000000000000f00ff007e00000000000000000000000000000000000000000000000000000000000700070003000000000000000000000000000000000000000f00db00010001000f0007000f00000000000000000000000000000000000000000000000b0007000300070001000000000000000000000000000000000000000000000000000000000000000001feed7f s (writeCommit v s).st := by
  unfold writeCommit
  repeat' first
      | with_reducible exact Keeps.refl
      | with_reducible assumption
      | with_reducible refine Keeps.ite ?_ ?_
      | (with_reducible apply Keeps.step (State.raise_keeps ..); · decide)
      | (with_reducible apply Keeps.step (refuse_keeps ..); · decide)
      | (with_reducible apply Keeps.step (done_keeps ..); · decide)
      | (with_reducible apply Keeps.step (State.setUpdate_keeps ..); · decide)
      | (with_reducible apply Keeps.step (State.setBoot_keeps ..); · decide)
      | (with_reducible apply Keeps.step (State.updateTo_keeps ..); · decide)
      | extract_lets
      | intro _
      | split
      | (dsimp +zetaDelta only; split)

theorem State.revert_keeps (s : State) (result : Nat) : Keeps 0x5000000000000000000000000000000000000000000000000000b00ff007e00010000000000000000000000000000000000000000000000000000000700070003000000000000000000000000000000000000000f00db00010001000f0007000f00000000000000000000000000000000000000000000000b0007000300070000000000000000000000000000000000000000000000000000000000000000000001feef1f s (State.revert s result) := by
  unfold State.revert
  repeat' first
      | with_reducible exact Keeps.refl
      | with_reducible assumption
      | with_reducible refine Keeps.ite ?_ ?_
      | (with_reducible apply Keeps.bump; · decide)
      | (with_reducible apply Keeps.step (State.requestCause_keeps ..); · decide)
      | (with_reducible apply Keeps.step (State.setUpdate_keeps ..); · decide)
      | (with_reducible apply Keeps.step (State.setBoot_keeps ..); · decide)
      | extract_lets
      | intro _
      | split
      | (dsimp +zetaDelta only; split)

theorem State.writeHeld_keeps (s : State) : Keeps 0x5000000000000000000000000000000000000000000000000000f007f007e00000000000000000000000000000000000000000000000000000000000700070003000000000000000000000000000000000000000700db00010001000f0007000f00000000000000000000000000000000000000000000000b00070003000700000000000000000000000000000000000000000000000000000000000000000000017eec7d s (State.writeHeld s) := by
  unfold State.writeHeld
  repeat' first
      | with_reducible exact Keeps.refl
      | with_reducible assumption
      | with_reducible refine Keeps.ite ?_ ?_
      | (with_reducible apply Keeps.step (State.saveSettings_keeps ..); · decide)
      | (with_reducible apply Keeps.step (State.setCal_keeps ..); · decide)
      | (with_reducible apply Keeps.step (State.calStoreWritten_keeps ..); · decide)
      | (with_reducible apply Keeps.step (State.setUpdate_keeps ..); · decide)
      | extract_lets
      | intro _
      | split
      | (dsimp +zetaDelta only; split)

theorem State.confirmTrial_keeps (s : State) : Keeps 0x5000000000000000000000000000000000000000000000000000f007f007e00000000000000000000000000000000000000000000000000000000000700070003000000000000000000000000000000000000000700db00010001000f0007000f00000000000000000000000000000000000000000000000b00070003000700000000000000000000000000000000000000000000000000000000000000000000017eec7d s (State.confirmTrial s) := by
  unfold State.confirmTrial
  repeat' first
      | with_reducible exact Keeps.refl
      | with_reducible assumption
      | with_reducible refine Keeps.ite ?_ ?_
      | (with_reducible apply Keeps.step (State.raise_keeps ..); · decide)
      | (with_reducible apply Keeps.step (State.setUpdate_keeps ..); · decide)
      | (with_reducible apply Keeps.step (State.setBoot_keeps ..); · decide)
      | (with_reducible apply Keeps.step (State.writeHeld_keeps ..); · decide)
      | extract_lets
      | intro _
      | split
      | (with_reducible apply Keeps.set_flash; (case h0 => decide))
      | (dsimp +zetaDelta only; split)

theorem writeAbort_keeps (v : Nat) (s : State) : Keeps 0x5000000000000000000000000000000000000000000000000000a00ff001c00000000000000000000000000000000000000000000000000000000000700070003000000000000000000000000000000000000000f00db00010001000f0007000f0000000000000000000000000000000000000000000000010007000300070000000000000000000000000000000000000000000000000000000000000000000001fe8d1f s (writeAbort v s).st := by
  unfold writeAbort
  repeat' first
      | with_reducible exact Keeps.refl
      | with_reducible assumption
      | with_reducible refine Keeps.ite ?_ ?_
      | (with_reducible apply Keeps.step (State.raise_keeps ..); · decide)
      | (with_reducible apply Keeps.step (refuse_keeps ..); · decide)
      | (with_reducible apply Keeps.step (done_keeps ..); · decide)
      | (with_reducible apply Keeps.step (State.setUpdate_keeps ..); · decide)
      | (with_reducible apply Keeps.step (State.setBoot_keeps ..); · decide)
      | (with_reducible apply Keeps.step (State.updateTo_keeps ..); · decide)
      | (with_reducible apply Keeps.step (State.transferEnds_keeps ..); · decide)
      | (with_reducible apply Keeps.step (State.revert_keeps ..); · decide)
      | extract_lets
      | intro _
      | split
      | (dsimp +zetaDelta only; split)

theorem writeConfirm_keeps (v : Nat) (s : State) : Keeps 0x5000000000000000000000000000000000000000000000000000f007f007e00000000000000000000000000000000000000000000000000000000000700070003000000000000000000000000000000000000000700db00010001000f0007000f00000000000000000000000000000000000000000000000b00070003000700000000000000000000000000000000000000000000000000000000000000000000017eec7d s (writeConfirm v s).st := by
  unfold writeConfirm
  repeat' first
      | with_reducible exact Keeps.refl
      | with_reducible assumption
      | with_reducible refine Keeps.ite ?_ ?_
      | (with_reducible apply Keeps.step (refuse_keeps ..); · decide)
      | (with_reducible apply Keeps.step (done_keeps ..); · decide)
      | (with_reducible apply Keeps.step (State.confirmTrial_keeps ..); · decide)
      | extract_lets
      | intro _
      | split
      | (dsimp +zetaDelta only; split)

theorem execTrialTimeout_keeps (s : State) : Keeps 0x5000000000000000000000000000000000000000000000000000b00ff007e00010000000000000000000000000000000000000000000000000000000700070003000000000000000000000000000000000000000f00db00010001000f0007000f00000000000000000000000000000000000000000000000b0007000300070000000000000000000000000000000000000000000000000000000000000000000001feee1d s (execTrialTimeout s) := by
  unfold execTrialTimeout
  repeat' first
      | with_reducible exact Keeps.refl
      | with_reducible assumption
      | with_reducible refine Keeps.ite ?_ ?_
      | (with_reducible apply Keeps.step (State.advanceTo_keeps ..); · decide)
      | (with_reducible apply Keeps.step (State.revert_keeps ..); · decide)
      | extract_lets
      | intro _
      | split
      | (dsimp +zetaDelta only; split)

theorem execConfirmHoldElapsed_keeps (s : State) : Keeps 0x5000000000000000000000000000000000000000000000000000f007f007e00000000000000000000000000000000000000000000000000000000000700070003000000000000000000000000000000000000000700db00010001000f0007000f00000000000000000000000000000000000000000000000b00070003000700000000000000000000000000000000000000000000000000000000000000000000017eec7d s (execConfirmHoldElapsed s) := by
  unfold execConfirmHoldElapsed
  repeat' first
      | with_reducible exact Keeps.refl
      | with_reducible assumption
      | with_reducible refine Keeps.ite ?_ ?_
      | (with_reducible apply Keeps.step (State.advanceTo_keeps ..); · decide)
      | (with_reducible apply Keeps.step (State.confirmTrial_keeps ..); · decide)
      | extract_lets
      | intro _
      | split
      | (dsimp +zetaDelta only; split)

theorem State.activate_keeps (s : State) : Keeps 0x5000000000000000000000000000000000000000000000000000f00ff007e00000000000000000000000000000000000000000000000000000000000700070003000000000000000000000000000000000000000f00db00010001000f0007000f00000000000000000000000000000000000000000000000b0007000300070000000000000000000000000000000000000000000000000000000000000000000001feed1f s (State.activate s) := by
  unfold State.activate
  repeat' first
      | with_reducible exact Keeps.refl
      | with_reducible assumption
      | with_reducible refine Keeps.ite ?_ ?_
      | (with_reducible apply Keeps.step (State.raise_keeps ..); · decide)
      | (with_reducible apply Keeps.step (State.requestCause_keeps ..); · decide)
      | (with_reducible apply Keeps.step (State.setBoot_keeps ..); · decide)
      | (with_reducible apply Keeps.step (State.updateTo_keeps ..); · decide)
      | extract_lets
      | intro _
      | split
      | (dsimp +zetaDelta only; split)

theorem execActivation_keeps (s0 : State) : Keeps 0x5000000000000000000000000000000000000000000000000000f00ff007e00000000000000000000000000000000000000000000000000000000000700070003000000000000000000000000000000000000000f00db00010001000f0007000f00000000000000000000000000000000000000000000000b0007000300070000000000000000000000000000000000000000000000000000000000000000000001feec1d s0 (execActivation s0) := by
  unfold execActivation
  repeat' first
      | with_reducible exact Keeps.refl
      | with_reducible assumption
      | with_reducible refine Keeps.ite ?_ ?_
      | (with_reducible apply Keeps.step (State.advanceTo_keeps ..); · decide)
      | (with_reducible apply Keeps.step (State.setUpdate_keeps ..); · decide)
      | (with_reducible apply Keeps.step (State.updateTo_keeps ..); · decide)
      | (with_reducible apply Keeps.step (State.activate_keeps ..); · decide)
      | extract_lets
      | intro _
      | split
      | (dsimp +zetaDelta only; split)

theorem execDeferredActivation_keeps (s : State) : Keeps 0x5000000000000000000000000000000000000000000000000000f00ff007e00000000000000000000000000000000000000000000000000000000000700070003000000000000000000000000000000000000000f00db00010001000f0007000f00000000000000000000000000000000000000000000000b0007000300070000000000000000000000000000000000000000000000000000000000000000000001feec1d s (execDeferredActivation s) := by
  unfold execDeferredActivation
  repeat' first
      | with_reducible exact Keeps.refl
      | with_reducible assumption
      | with_reducible refine Keeps.ite ?_ ?_
      | (with_reducible apply Keeps.step (State.advanceTb_keeps ..); · decide)
      | (with_reducible apply Keeps.step (State.activate_keeps ..); · decide)
      | extract_lets
      | intro _
      | split
      | (dsimp +zetaDelta only; split)

theorem State.deferWatch_keeps (s : State) : Keeps 0x5000000000000000000000000000000000000000000000000000f00ff007e00010000000000000000000000000000000000000000000000000000000700070003000000000000000000000000000000000000000f00db00010001000f0007000f00000000000000000000000000000000000000000000000b0007000300070001000000000000000000000000000000000000000000000000000000000000000001feffff s (State.deferWatch s) := by
  unfold State.deferWatch
  repeat' first
      | with_reducible exact Keeps.refl
      | with_reducible assumption
      | with_reducible refine Keeps.ite ?_ ?_
      | (with_reducible apply Keeps.step (State.setUpdate_keeps ..); · decide)
      | extract_lets
      | intro _
      | split
      | (dsimp +zetaDelta only; split)

theorem State.afterTwin_keeps (before s : State) : Keeps 0x5000000000000000000000000000000000000000000000000000f007f007e00000000000000000000000000000000000000000000000000000000000700070003000000000000000000000000000000000000000700db00010001000f0007000f00000000000000000000000000000000000000000000000b00070003000700000000000000000000000000000000000000000000000000000000000000000000017eec7d s (State.afterTwin before s) := by
  unfold State.afterTwin
  repeat' first
      | with_reducible exact Keeps.refl
      | with_reducible assumption
      | with_reducible refine Keeps.ite ?_ ?_
      | (with_reducible apply Keeps.step (State.confirmTrial_keeps ..); · decide)
      | (with_reducible apply Keeps.step (State.deferWatch_keeps ..); · decide)
      | extract_lets
      | intro _
      | split
      | (dsimp +zetaDelta only; split)

end Sys2Proof.Machine
end

