-- ==== Sys2Proof/Laws/KeepsPower.lean ====
section
/-! SUPPORT. What each operation of Machine/Power.lean leaves alone. -/

set_option linter.all false
namespace Sys2Proof.Machine

theorem State.setPower_keeps (s : State) (p : Power) : Keeps 0x5000000000000000000000000000000000000000000000000000f00ff007e00010000000000000000000000000000000000000000000000000000000700070003000000000000000000000000000000000000000f00db00010001000f0007000f00000000000000000000000000000000000000000000000b0007000300070001000000000000000000000000000000000000000000000000000000000000000001ffffdf s (State.setPower s p) := by
  unfold State.setPower
  repeat' first
      | with_reducible exact Keeps.refl
      | with_reducible assumption
      | with_reducible refine Keeps.ite ?_ ?_
      | extract_lets
      | intro _
      | split
      | (with_reducible apply Keeps.set_power; (case h0 => decide))
      | (dsimp +zetaDelta only; split)

theorem execPinReset_keeps (lowNs : Nat) (s : State) : Keeps 0x5000000000000000000000000000000000000000000000000000f00ff007e00010000000000000000000000000000000000000000000000000000000700070003000000000000000000000000000000000000000f00db00010001000f0007000f00000000000000000000000000000000000000000000000b0007000300070000000000000000000000000000000000000000000000000000000000000000000001feef1f s (execPinReset lowNs s) := by
  unfold execPinReset
  repeat' first
      | with_reducible exact Keeps.refl
      | with_reducible assumption
      | with_reducible refine Keeps.ite ?_ ?_
      | (with_reducible apply Keeps.step (State.requestCause_keeps ..); · decide)
      | (with_reducible apply Keeps.step (State.setPower_keeps ..); · decide)
      | extract_lets
      | intro _
      | split
      | (dsimp +zetaDelta only; split)

theorem State.watchdogWarns_keeps (s : State) (at_ : Nat) : Keeps 0x5000000000000000000000000000000000000000000000000000f00ff007e00000000000000000000000000000000000000000000000000000000000700070003000000000000000000000000000000000000000f00db00010001000f0007000f00000000000000000000000000000000000000000000000b0007000300070001000000000000000000000000000000000000000000000000000000000000000001ffecdd s (State.watchdogWarns s at_) := by
  unfold State.watchdogWarns
  repeat' first
      | with_reducible exact Keeps.refl
      | with_reducible assumption
      | with_reducible refine Keeps.ite ?_ ?_
      | (with_reducible apply Keeps.step (State.advanceElapsed_keeps ..); · decide)
      | (with_reducible apply Keeps.step (State.raise_keeps ..); · decide)
      | (with_reducible apply Keeps.step (State.setPower_keeps ..); · decide)
      | extract_lets
      | intro _
      | split
      | (dsimp +zetaDelta only; split)

theorem execWatchdogWarn_keeps (s : State) : Keeps 0x5000000000000000000000000000000000000000000000000000f00ff007e00000000000000000000000000000000000000000000000000000000000700070003000000000000000000000000000000000000000f00db00010001000f0007000f00000000000000000000000000000000000000000000000b0007000300070001000000000000000000000000000000000000000000000000000000000000000001ffecdd s (execWatchdogWarn s) := by
  unfold execWatchdogWarn
  repeat' first
      | with_reducible exact Keeps.refl
      | with_reducible assumption
      | with_reducible refine Keeps.ite ?_ ?_
      | (with_reducible apply Keeps.step (State.watchdogWarns_keeps ..); · decide)
      | extract_lets
      | intro _
      | split
      | (dsimp +zetaDelta only; split)

theorem execWatchdogExpiry_keeps (s : State) : Keeps 0x5000000000000000000000000000000000000000000000000000f00ff007e00000000000000000000000000000000000000000000000000000000000700070003000000000000000000000000000000000000000f00db00010001000f0007000f00000000000000000000000000000000000000000000000b0007000300070000000000000000000000000000000000000000000000000000000000000000000001feec1d s (execWatchdogExpiry s) := by
  unfold execWatchdogExpiry
  repeat' first
      | with_reducible exact Keeps.refl
      | with_reducible assumption
      | with_reducible refine Keeps.ite ?_ ?_
      | (with_reducible apply Keeps.step (State.advanceElapsed_keeps ..); · decide)
      | (with_reducible apply Keeps.step (State.requestCause_keeps ..); · decide)
      | (with_reducible apply Keeps.step (State.watchdogWarns_keeps ..); · decide)
      | extract_lets
      | intro _
      | split
      | (dsimp +zetaDelta only; split)

theorem writeReset_keeps (s : State) : Keeps 0x5000000000000000000000000000000000000000000000000000f00ff007e00010000000000000000000000000000000000000000000000000000000700070003000000000000000000000000000000000000000f00db00010001000f0007000f00000000000000000000000000000000000000000000000b0007000300070000000000000000000000000000000000000000000000000000000000000000000001feef1f s (writeReset s).st := by
  unfold writeReset
  repeat' first
      | with_reducible exact Keeps.refl
      | with_reducible assumption
      | with_reducible refine Keeps.ite ?_ ?_
      | (with_reducible apply Keeps.step (done_keeps ..); · decide)
      | (with_reducible apply Keeps.step (State.requestCause_keeps ..); · decide)
      | extract_lets
      | intro _
      | split
      | (dsimp +zetaDelta only; split)

theorem execAonReset_keeps (key : Nat) (s : State) : Keeps 0x5000000000000000000000000000000000000000000000000000f00ff007e00010000000000000000000000000000000000000000000000000000000700070003000000000000000000000000000000000000000f00db00010001000f0007000f00000000000000000000000000000000000000000000000b0007000300070000000000000000000000000000000000000000000000000000000000000000000001feef1f s (execAonReset key s) := by
  unfold execAonReset
  repeat' first
      | with_reducible exact Keeps.refl
      | with_reducible assumption
      | with_reducible refine Keeps.ite ?_ ?_
      | (with_reducible apply Keeps.step (State.requestCause_keeps ..); · decide)
      | extract_lets
      | intro _
      | split
      | (dsimp +zetaDelta only; split)

theorem execResetAssert_keeps (s : State) : Keeps 0xc5 s (execResetAssert s) := by
  unfold execResetAssert
  repeat' first
      | with_reducible exact Keeps.refl
      | with_reducible assumption
      | with_reducible refine Keeps.ite ?_ ?_
      | (with_reducible apply Keeps.step (State.advanceElapsed_keeps ..); · decide)
      | (with_reducible apply Keeps.step (State.resetValues_keeps ..); · decide)
      | (with_reducible apply Keeps.step (State.setPower_keeps ..); · decide)
      | extract_lets
      | intro _
      | split
      | (dsimp +zetaDelta only; split)

theorem State.resumeCounters_keeps (s : State) : Keeps 0x5000000000000000000000000000000000000000000000000000f00ff007e00010000000000000000000000000000000000000000000000000000000700070003000000000000000000000000000000000000000f00db00010001000f0007000f00000000000000000000000000000000000000000000000b0007000300070001000000000000000000000000000000000000000000000000000000000000000001ffefff s (State.resumeCounters s) := by
  unfold State.resumeCounters
  repeat' first
      | with_reducible exact Keeps.refl
      | with_reducible assumption
      | with_reducible refine Keeps.ite ?_ ?_
      | (with_reducible refine Keeps.foldl (fun _ _ _ => ?_) ?_)
      | extract_lets
      | intro _
      | split
      | (with_reducible apply Keeps.set_eop; (case h0 => decide))
      | (dsimp +zetaDelta only; split)

theorem State.bootChoice_keeps (s : State) : Keeps 0x5000000000000000000000000000000000000000000000000000b00ff007e00010000000000000000000000000000000000000000000000000000000700070003000000000000000000000000000000000000000f00db00010001000f0007000f00000000000000000000000000000000000000000000000b0007000300070001000000000000000000000000000000000000000000000000000000000000000001feff7f s (State.bootChoice s) := by
  unfold State.bootChoice
  repeat' first
      | with_reducible exact Keeps.refl
      | with_reducible assumption
      | with_reducible refine Keeps.ite ?_ ?_
      | (with_reducible apply Keeps.bump; · decide)
      | (with_reducible apply Keeps.step (State.setUpdate_keeps ..); · decide)
      | (with_reducible apply Keeps.step (State.setBoot_keeps ..); · decide)
      | extract_lets
      | intro _
      | split
      | (dsimp +zetaDelta only; split)

theorem State.railsOff_keeps (s0 : State) (st : PowerState) (link : Bool) : Keeps 0x45 s0 (State.railsOff s0 st link) := by
  unfold State.railsOff
  repeat' first
      | with_reducible exact Keeps.refl
      | with_reducible assumption
      | with_reducible refine Keeps.ite ?_ ?_
      | (with_reducible apply Keeps.step (State.quench_keeps ..); · decide)
      | (with_reducible apply Keeps.step (State.resetValues_keeps ..); · decide)
      | (with_reducible apply Keeps.step (State.saveCome_keeps ..); · decide)
      | (with_reducible apply Keeps.step (State.setPower_keeps ..); · decide)
      | extract_lets
      | intro _
      | split
      | (dsimp +zetaDelta only; split)

theorem State.setWakeTimer_keeps (s : State) (seconds : Nat) : Keeps 0x5000000000000000000000000000000000000000000000000000f00ff007e00010000000000000000000000000000000000000000000000000000000700070003000000000000000000000000000000000000000f00db00010001000f0007000f00000000000000000000000000000000000000000000000b0007000300070001000000000000000000000000000000000000000000000000000000000000000001ffffdf s (State.setWakeTimer s seconds) := by
  unfold State.setWakeTimer
  repeat' first
      | with_reducible exact Keeps.refl
      | with_reducible assumption
      | with_reducible refine Keeps.ite ?_ ?_
      | (with_reducible apply Keeps.step (State.setPower_keeps ..); · decide)
      | extract_lets
      | intro _
      | split
      | (dsimp +zetaDelta only; split)

theorem State.railsFail_keeps (s : State) : Keeps 0x5 s (State.railsFail s) := by
  unfold State.railsFail
  repeat' first
      | with_reducible exact Keeps.refl
      | with_reducible assumption
      | with_reducible refine Keeps.ite ?_ ?_
      | (with_reducible apply Keeps.step (State.advanceElapsed_keeps ..); · decide)
      | (with_reducible apply Keeps.step (State.railsOff_keeps ..); · decide)
      | (with_reducible apply Keeps.step (State.setWakeTimer_keeps ..); · decide)
      | extract_lets
      | intro _
      | split
      | (with_reducible apply Keeps.set_aon; (case h0 => decide))
      | (dsimp +zetaDelta only; split)

theorem execRailStartTimeout_keeps (s : State) : Keeps 0x5 s (execRailStartTimeout s) := by
  unfold execRailStartTimeout
  repeat' first
      | with_reducible exact Keeps.refl
      | with_reducible assumption
      | with_reducible refine Keeps.ite ?_ ?_
      | (with_reducible apply Keeps.step (State.railsFail_keeps ..); · decide)
      | extract_lets
      | intro _
      | split
      | (dsimp +zetaDelta only; split)

theorem execResetRelease_keeps (s0 : State) : Keeps 0x5 s0 (execResetRelease s0) := by
  unfold execResetRelease
  repeat' first
      | with_reducible exact Keeps.refl
      | with_reducible assumption
      | with_reducible refine Keeps.ite ?_ ?_
      | (with_reducible apply Keeps.step (State.advanceElapsed_keeps ..); · decide)
      | (with_reducible apply Keeps.step (State.resumeCounters_keeps ..); · decide)
      | (with_reducible apply Keeps.step (State.bootChoice_keeps ..); · decide)
      | (with_reducible apply Keeps.step (State.railsFail_keeps ..); · decide)
      | extract_lets
      | intro _
      | split
      | (with_reducible apply Keeps.set_power_aon_flash_hspi; (case h0 => decide); (case h1 => decide); (case h2 => decide); (case h3 => decide))
      | (dsimp +zetaDelta only; split)

theorem State.bermQuire_keeps (s : State) (q : Nat) : Keeps 0x5000000000000000000000000000000000000000000000000000f00ef007e00000000000000000000000000000000000000000000000000000000000700070003000000000000000000000000000000000000000f00db00000001000f0007000f00000000000000000000000000000000000000000000000b0007000300070001000000000000000000000000000000000000000000000000000000000000000001cfeddb s (State.bermQuire s q) := by
  unfold State.bermQuire
  repeat' first
      | with_reducible exact Keeps.refl
      | with_reducible assumption
      | with_reducible refine Keeps.ite ?_ ?_
      | (with_reducible apply Keeps.step (State.setQuire_keeps ..); · decide)
      | (with_reducible apply Keeps.step (State.setQuireState_keeps ..); · decide)
      | (with_reducible apply Keeps.step (State.safeLookSteps_keeps ..); · decide)
      | extract_lets
      | intro _
      | split
      | (dsimp +zetaDelta only; split)

theorem State.bootHeard_keeps (s : State) : Keeps 0x5000000000000000000000000000000000000000000000000000e00ef001800000000000000000000000000000000000000000000000000000000000700070003000000000000000000000000000000000000000f00db00010001000f0007000f0000000000000000000000000000000000000000000000010007000100070001000000000000000000000000000000000000000000000000000000000000000000df8ddb s (State.bootHeard s) := by
  unfold State.bootHeard
  repeat' first
      | with_reducible exact Keeps.refl
      | with_reducible assumption
      | with_reducible refine Keeps.ite ?_ ?_
      | (with_reducible apply Keeps.step (State.setTwin_keeps ..); · decide)
      | (with_reducible apply Keeps.step (State.partnerHeard_keeps ..); · decide)
      | (with_reducible apply Keeps.step (State.pathsDue_keeps ..); · decide)
      | extract_lets
      | intro _
      | split
      | (dsimp +zetaDelta only; split)

theorem execBermService_keeps (s : State) : Keeps 0xcf04d9 s (execBermService s) := by
  unfold execBermService
  repeat' first
      | with_reducible exact Keeps.refl
      | with_reducible assumption
      | with_reducible refine Keeps.ite ?_ ?_
      | (with_reducible apply Keeps.step (State.raise_keeps ..); · decide)
      | (with_reducible apply Keeps.step (State.timeStart_keeps ..); · decide)
      | (with_reducible apply Keeps.step (State.deviceEvents_keeps ..); · decide)
      | (with_reducible apply Keeps.step (State.loadBerm_keeps ..); · decide)
      | (with_reducible apply Keeps.step (State.portsSettle_keeps ..); · decide)
      | (with_reducible apply Keeps.step (State.bermQuire_keeps ..); · decide)
      | (with_reducible apply Keeps.step (State.bootHeard_keeps ..); · decide)
      | (with_reducible refine Keeps.foldl (fun _ _ _ => ?_) ?_)
      | extract_lets
      | intro _
      | split
      | (with_reducible apply Keeps.set_power_hspi_integ; (case h0 => decide); (case h1 => decide); (case h2 => decide))
      | (dsimp +zetaDelta only; split)

theorem State.verifies_keeps (s : State) (i : Nat) : Keeps 0x5000000000000000000000000000000000000000000000000000f00ff007e00010000000000000000000000000000000000000000000000000000000600070003000000000000000000000000000000000000000f00db00010001000f0007000f00000000000000000000000000000000000000000000000b0007000300070001000000000000000000000000000000000000000000000000000000000000000001ffffff s (State.verifies s i).2 := by
  unfold State.verifies
  repeat' first
      | with_reducible exact Keeps.refl
      | with_reducible assumption
      | with_reducible refine Keeps.ite ?_ ?_
      | with_reducible refine Keeps.ite_snd ?_ ?_
      | (with_reducible apply Keeps.setRow; · decide)
      | extract_lets
      | intro _
      | split
      | (dsimp +zetaDelta only; split)

theorem State.verifies_keeps' (s : State) (i : Nat) {α_ : _} {t_ : State} (he : State.verifies s i = (α_, t_)) : Keeps 0x5000000000000000000000000000000000000000000000000000f00ff007e00010000000000000000000000000000000000000000000000000000000600070003000000000000000000000000000000000000000f00db00010001000f0007000f00000000000000000000000000000000000000000000000b0007000300070001000000000000000000000000000000000000000000000000000000000000000001ffffff s t_ := by
  have h := State.verifies_keeps s i
  rw [he] at h
  exact h

theorem State.serviceSlot_keeps (s0 : State) : Keeps 0x5000000000000000000000000000000000000000000000000000b00ff007e00000000000000000000000000000000000000000000000000000000000600070003000000000000000000000000000000000000000f00db00010001000f0007000f00000000000000000000000000000000000000000000000b0007000300070001000000000000000000000000000000000000000000000000000000000000000001feed7f s0 (State.serviceSlot s0).2 := by
  unfold State.serviceSlot
  repeat' first
      | with_reducible exact Keeps.refl
      | with_reducible assumption
      | with_reducible refine Keeps.ite ?_ ?_
      | with_reducible refine Keeps.ite_snd ?_ ?_
      | (with_reducible apply Keeps.bump; · decide)
      | (with_reducible apply Keeps.step (State.raise_keeps ..); · decide)
      | (with_reducible apply Keeps.step (State.setUpdate_keeps ..); · decide)
      | (with_reducible apply Keeps.step (State.setBoot_keeps ..); · decide)
      | (with_reducible apply Keeps.step (State.verifies_keeps ..); · decide)
      | extract_lets
      | intro _
      | split
      | (dsimp +zetaDelta only; split)

theorem State.serviceSlot_keeps' (s0 : State) {α_ : _} {t_ : State} (he : State.serviceSlot s0 = (α_, t_)) : Keeps 0x5000000000000000000000000000000000000000000000000000b00ff007e00000000000000000000000000000000000000000000000000000000000600070003000000000000000000000000000000000000000f00db00010001000f0007000f00000000000000000000000000000000000000000000000b0007000300070001000000000000000000000000000000000000000000000000000000000000000001feed7f s0 t_ := by
  have h := State.serviceSlot_keeps s0
  rw [he] at h
  exact h

theorem State.loadRegions_keeps (s : State) : Keeps 0x5000000000000000000000000000000000000000000000000000f00ff007e00010000000000000000000000000000000000000000000000000000000700060003000000000000000000000000000000000000000f00db00010001000f0007000f00000000000000000000000000000000000000000000000b0007000300070001000000000000000000000000000000000000000000000000000000000000000001ff7fef s (State.loadRegions s) := by
  unfold State.loadRegions
  repeat' first
      | with_reducible exact Keeps.refl
      | with_reducible assumption
      | with_reducible refine Keeps.ite ?_ ?_
      | (with_reducible apply Keeps.setRows; · decide)
      | (with_reducible apply Keeps.step (State.vaultPut_keeps ..); · decide)
      | extract_lets
      | intro _
      | split
      | (dsimp +zetaDelta only; split)

theorem State.regionsBegin_keeps (s : State) : Keeps 0x5000000000000000000000000000000000000000000000000000f00ff007e00000000000000000000000000000000000000000000000000000000000700070003000000000000000000000000000000000000000f00cb00010001000f0007000f00000000000000000000000000000000000000000000000b0007000300070001000000000000000000000000000000000000000000000000000000000000000001ffedff s (State.regionsBegin s) := by
  unfold State.regionsBegin
  repeat' first
      | with_reducible exact Keeps.refl
      | with_reducible assumption
      | with_reducible refine Keeps.ite ?_ ?_
      | (with_reducible apply Keeps.step (State.regionBegins_keeps ..); · decide)
      | (with_reducible refine Keeps.foldl (fun _ _ _ => ?_) ?_)
      | extract_lets
      | intro _
      | split
      | (dsimp +zetaDelta only; split)

theorem State.clearTelemetry_keeps (s : State) : Keeps 0x5000000000000000000000000000000000000000000000000000f00ff007e00010000000000000000000000000000000000000000000000000000000700070003000000000000000000000000000000000000000f00db00010001000f0007000f00000000000000000000000000000000000000000000000b0007000300070001000000000000000000000000000000000000000000000000000000000000000001ff7fef s (State.clearTelemetry s) := by
  unfold State.clearTelemetry
  repeat' first
      | with_reducible exact Keeps.refl
      | with_reducible assumption
      | with_reducible refine Keeps.ite ?_ ?_
      | (with_reducible apply Keeps.step (State.touchPages_keeps ..); · decide)
      | extract_lets
      | intro _
      | split
      | (dsimp +zetaDelta only; split)

theorem State.twinStart_keeps (s : State) : Keeps 0x5000000000000000000000000000000000000000000000000000e00ff001800000000000000000000000000000000000000000000000000000000000700070003000000000000000000000000000000000000000f00db00010001000f0007000f0000000000000000000000000000000000000000000000010007000100070001000000000000000000000000000000000000000000000000000000000000000000ff8dff s (State.twinStart s) := by
  unfold State.twinStart
  repeat' first
      | with_reducible exact Keeps.refl
      | with_reducible assumption
      | with_reducible refine Keeps.ite ?_ ?_
      | (with_reducible apply Keeps.step (State.setTwin_keeps ..); · decide)
      | (with_reducible apply Keeps.step (State.enterTwin_keeps ..); · decide)
      | extract_lets
      | intro _
      | split
      | (dsimp +zetaDelta only; split)

theorem State.trialStart_keeps (s : State) : Keeps 0x5000000000000000000000000000000000000000000000000000b00ff007e00000000000000000000000000000000000000000000000000000000000700070003000000000000000000000000000000000000000f00db00010001000f0007000f00000000000000000000000000000000000000000000000b0007000300070001000000000000000000000000000000000000000000000000000000000000000001feedff s (State.trialStart s) := by
  unfold State.trialStart
  repeat' first
      | with_reducible exact Keeps.refl
      | with_reducible assumption
      | with_reducible refine Keeps.ite ?_ ?_
      | (with_reducible apply Keeps.bump; · decide)
      | (with_reducible apply Keeps.step (State.raise_keeps ..); · decide)
      | (with_reducible apply Keeps.step (State.setUpdate_keeps ..); · decide)
      | extract_lets
      | intro _
      | split
      | (dsimp +zetaDelta only; split)

theorem State.integrityRecord_keeps (s : State) : Keeps 0x5000000000000000000000000000000000000000000000000000f00ff007e00000000000000000000000000000000000000000000000000000000000700050003000000000000000000000000000000000000000f00db00010001000f0007000f00000000000000000000000000000000000000000000000b0007000300070001000000000000000000000000000000000000000000000000000000000000000001ffedff s (State.integrityRecord s) := by
  unfold State.integrityRecord
  repeat' first
      | with_reducible exact Keeps.refl
      | with_reducible assumption
      | with_reducible refine Keeps.ite ?_ ?_
      | (with_reducible apply Keeps.setRow; · decide)
      | (with_reducible apply Keeps.step (State.raise_keeps ..); · decide)
      | extract_lets
      | intro _
      | split
      | (dsimp +zetaDelta only; split)

theorem execServiceStart_keeps (s : State) : Keeps 0x40c4d s (execServiceStart s) := by
  unfold execServiceStart
  repeat' first
      | with_reducible exact Keeps.refl
      | with_reducible assumption
      | with_reducible refine Keeps.ite ?_ ?_
      | (with_reducible apply Keeps.step (State.raise_keeps ..); · decide)
      | (with_reducible apply Keeps.step (State.timeGoesOn_keeps ..); · decide)
      | (with_reducible apply Keeps.step (State.deviceEvents_keeps ..); · decide)
      | (with_reducible apply Keeps.step (State.loadFlowEnables_keeps ..); · decide)
      | (with_reducible apply Keeps.step (State.quireTo_keeps ..); · decide)
      | (with_reducible apply Keeps.step (State.loadQuireModes_keeps ..); · decide)
      | (with_reducible apply Keeps.step (State.loadObjs_keeps ..); · decide)
      | (with_reducible apply Keeps.step (State.loadSettings_keeps ..); · decide)
      | (with_reducible apply Keeps.step (State.loadCal_keeps ..); · decide)
      | (with_reducible apply Keeps.step (State.portsSettle_keeps ..); · decide)
      | (with_reducible apply Keeps.step (State.arpAnnounce_keeps ..); · decide)
      | (with_reducible apply Keeps.step (State.startScrub_keeps ..); · decide)
      | (with_reducible apply Keeps.step (State.serviceSlot_keeps ..); · decide)
      | (with_reducible apply Keeps.step (State.loadRegions_keeps ..); · decide)
      | (with_reducible apply Keeps.step (State.regionsBegin_keeps ..); · decide)
      | (with_reducible apply Keeps.step (State.clearTelemetry_keeps ..); · decide)
      | (with_reducible apply Keeps.step (State.twinStart_keeps ..); · decide)
      | (with_reducible apply Keeps.step (State.trialStart_keeps ..); · decide)
      | (with_reducible apply Keeps.step (State.integrityRecord_keeps ..); · decide)
      | (with_reducible refine Keeps.foldl (fun _ _ _ => ?_) ?_)
      | extract_lets
      | intro _
      | split
      | (with_reducible apply Keeps.set_power_quires_strands; (case h0 => decide); (case h1 => decide); (case h2 => decide))
      | (with_reducible apply Keeps.set_power; (case h0 => decide))
      | (dsimp +zetaDelta only; split)

theorem execNoSlotVerifies_keeps (s : State) : Keeps 0x5000000000000000000000000000000000000000000000000000b00ff007e00000000000000000000000000000000000000000000000000000000000600070003000000000000000000000000000000000000000f00db00010001000f0007000f00000000000000000000000000000000000000000000000b0007000300070001000000000000000000000000000000000000000000000000000000000000000001feed7f s (execNoSlotVerifies s) := by
  unfold execNoSlotVerifies
  repeat' first
      | with_reducible exact Keeps.refl
      | with_reducible assumption
      | with_reducible refine Keeps.ite ?_ ?_
      | (with_reducible apply Keeps.step (State.updateTo_keeps ..); · decide)
      | (with_reducible apply Keeps.step (State.serviceSlot_keeps ..); · decide)
      | extract_lets
      | intro _
      | split
      | (dsimp +zetaDelta only; split)

theorem State.poweredOn_keeps (s : State) (resetNLow : Bool) (e : Nat) (retain : List Word) : Keeps 0x5 s (State.poweredOn s resetNLow e retain) := by
  unfold State.poweredOn
  constructor
  case objs => intro o r hi; rw [no_group (by decide) o] at hi; contradiction
  case dram_wf => intro _; exact wf_nil
  case vault_wf => intro _; exact wf_nil
  case cells_wf => intro _; exact wf_nil
  case saved_wf => intro _; exact wf_nil
  case contexts_wf => intro _; exact wf_nil
  all_goals (intro hi; first | rfl | exact absurd hi (by decide))

theorem execPowerOn_keeps (resetNLow : Bool) (porst : Option Nat) (s : State) : Keeps 0x5 s (execPowerOn resetNLow porst s) := by
  unfold execPowerOn
  repeat' first
      | with_reducible exact Keeps.refl
      | with_reducible assumption
      | with_reducible refine Keeps.ite ?_ ?_
      | (with_reducible apply Keeps.step (State.poweredOn_keeps ..); · decide)
      | extract_lets
      | intro _
      | split
      | (dsimp +zetaDelta only; split)

theorem execVaonLoss_keeps (s : State) : Keeps 0x5 s (execVaonLoss s) := by
  unfold execVaonLoss
  constructor
  case objs => intro o r hi; rw [no_group (by decide) o] at hi; contradiction
  case dram_wf => intro _; exact wf_nil
  case vault_wf => intro _; exact wf_nil
  case cells_wf => intro _; exact wf_nil
  case saved_wf => intro _; exact wf_nil
  case contexts_wf => intro _; exact wf_nil
  all_goals (intro hi; first | rfl | exact absurd hi (by decide))

theorem execRailWarning_keeps (rail : Nat) (s : State) : Keeps 0x5000000000000000000000000000000000000000000000000000700ff007e00000000000000000000000000000000000000000000000000000000000700070003000000000000000000000000000000000000000f00db00010001000f0007000f00000000000000000000000000000000000000000000000b0007000300070001000000000000000000000000000000000000000000000000000000000000000001ffedff s (execRailWarning rail s) := by
  unfold execRailWarning
  repeat' first
      | with_reducible exact Keeps.refl
      | with_reducible assumption
      | with_reducible refine Keeps.ite ?_ ?_
      | (with_reducible apply Keeps.bump32; · decide)
      | (with_reducible apply Keeps.step (State.raise_keeps ..); · decide)
      | extract_lets
      | intro _
      | split
      | (dsimp +zetaDelta only; split)

theorem execBrownout_keeps (rail : Nat) (s : State) : Keeps 0x5000000000000000000000000000000000000000000000000000f00ff007e00010000000000000000000000000000000000000000000000000000000700070003000000000000000000000000000000000000000f00db00010001000f0007000f00000000000000000000000000000000000000000000000b0007000300070001000000000000000000000000000000000000000000000000000000000000000001ffffdf s (execBrownout rail s) := by
  unfold execBrownout
  repeat' first
      | with_reducible exact Keeps.refl
      | with_reducible assumption
      | with_reducible refine Keeps.ite ?_ ?_
      | (with_reducible apply Keeps.step (State.quench_keeps ..); · decide)
      | (with_reducible apply Keeps.step (State.setPower_keeps ..); · decide)
      | extract_lets
      | intro _
      | split
      | (dsimp +zetaDelta only; split)

theorem execClock_keeps (kind : Nat) (s : State) : Keeps 0x5000000000000000000000000000000000000000000000000000f00ff007e00000000000000000000000000000000000000000000000000000000000700070003000000000000000000000000000000000000000f00db00010001000f0007000f00000000000000000000000000000000000000000000000b0007000300070001000000000000000000000000000000000000000000000000000000000000000001ffedff s (execClock kind s) := by
  unfold execClock
  repeat' first
      | with_reducible exact Keeps.refl
      | with_reducible assumption
      | with_reducible refine Keeps.ite ?_ ?_
      | (with_reducible apply Keeps.step (State.raise_keeps ..); · decide)
      | extract_lets
      | intro _
      | split
      | (dsimp +zetaDelta only; split)

theorem writeStandby_keeps (v : Nat) (s : State) : Keeps 0x5000000000000000000000000000000000000000000000000000f00ff007e00000000000000000000000000000000000000000000000000000000000700070003000000000000000000000000000000000000000f00db00010001000f0007000f00000000000000000000000000000000000000000000000b0007000300070001000000000000000000000000000000000000000000000000000000000000000001ffeddf s (writeStandby v s).st := by
  unfold writeStandby
  repeat' first
      | with_reducible exact Keeps.refl
      | with_reducible assumption
      | with_reducible refine Keeps.ite ?_ ?_
      | (with_reducible apply Keeps.step (State.raise_keeps ..); · decide)
      | (with_reducible apply Keeps.step (done_keeps ..); · decide)
      | (with_reducible apply Keeps.step (State.setPower_keeps ..); · decide)
      | extract_lets
      | intro _
      | split
      | (dsimp +zetaDelta only; split)

theorem writeHibernate_keeps (seconds : Nat) (s : State) : Keeps 0x5000000000000000000000000000000000000000000000000000f00ff007e00000000000000000000000000000000000000000000000000000000000700070003000000000000000000000000000000000000000f00db00010001000f0007000f00000000000000000000000000000000000000000000000b0007000300070001000000000000000000000000000000000000000000000000000000000000000001ffeddf s (writeHibernate seconds s).st := by
  unfold writeHibernate
  repeat' first
      | with_reducible exact Keeps.refl
      | with_reducible assumption
      | with_reducible refine Keeps.ite ?_ ?_
      | (with_reducible apply Keeps.step (State.raise_keeps ..); · decide)
      | (with_reducible apply Keeps.step (done_keeps ..); · decide)
      | (with_reducible apply Keeps.step (State.setPower_keeps ..); · decide)
      | extract_lets
      | intro _
      | split
      | (dsimp +zetaDelta only; split)

theorem State.wakeUp_keeps (s : State) (w : WakeSource) : Keeps 0x5000000000000000000000000000000000000000000000000000f00ff007e00010000000000000000000000000000000000000000000000000000000700070003000000000000000000000000000000000000000f00db00010001000f0007000f00000000000000000000000000000000000000000000000b0007000300070001000000000000000000000000000000000000000000000000000000000000000001ffff9f s (State.wakeUp s w) := by
  unfold State.wakeUp
  repeat' first
      | with_reducible exact Keeps.refl
      | with_reducible assumption
      | with_reducible refine Keeps.ite ?_ ?_
      | extract_lets
      | intro _
      | split
      | (with_reducible apply Keeps.set_power_aon; (case h0 => decide); (case h1 => decide))
      | (dsimp +zetaDelta only; split)

theorem State.enterSleep_keeps (s : State) (e : Entry) : Keeps 0x5 s (s.enterSleep e) := by
  unfold State.enterSleep
  have r : ∀ st l, Keeps 0x5 s (s.railsOff st l) := fun st l => (State.railsOff_keeps ..).weaken (by decide)
  split
  · exact Keeps.set_power_aon (by decide) (by decide) (r _ _)
  · exact Keeps.set_aon (by decide) (r _ _)
  · exact Keeps.set_aon (by decide) (Keeps.step (State.setWakeTimer_keeps ..) (by decide) (r _ _))
  · exact Keeps.set_aon (by decide) (Keeps.step (State.setWakeTimer_keeps ..) (by decide) (r _ _))

theorem execPowerEntry_keeps (s : State) : Keeps 0x5 s (execPowerEntry s) := by
  unfold execPowerEntry
  repeat' first
      | with_reducible exact Keeps.refl
      | with_reducible assumption
      | with_reducible refine Keeps.ite ?_ ?_
      | (with_reducible apply Keeps.step (State.wakeUp_keeps ..); · decide)
      | (with_reducible apply Keeps.step (State.enterSleep_keeps ..); · decide)
      | extract_lets
      | intro _
      | split
      | (dsimp +zetaDelta only; split)

theorem State.trigger_keeps (s : State) (w : WakeSource) : Keeps 0x5000000000000000000000000000000000000000000000000000f00ff007e00010000000000000000000000000000000000000000000000000000000700070003000000000000000000000000000000000000000f00db00010001000f0007000f00000000000000000000000000000000000000000000000b0007000300070001000000000000000000000000000000000000000000000000000000000000000001ffff9f s (State.trigger s w) := by
  unfold State.trigger
  repeat' first
      | with_reducible exact Keeps.refl
      | with_reducible assumption
      | with_reducible refine Keeps.ite ?_ ?_
      | (with_reducible apply Keeps.step (State.setPower_keeps ..); · decide)
      | (with_reducible apply Keeps.step (State.wakeUp_keeps ..); · decide)
      | extract_lets
      | intro _
      | split
      | (dsimp +zetaDelta only; split)

theorem execWake_keeps (s : State) : Keeps 0x5000000000000000000000000000000000000000000000000000f00ff007e00010000000000000000000000000000000000000000000000000000000700070003000000000000000000000000000000000000000f00db00010001000f0007000f00000000000000000000000000000000000000000000000b0007000300070001000000000000000000000000000000000000000000000000000000000000000001ffff9f s (execWake s) := by
  unfold execWake
  repeat' first
      | with_reducible exact Keeps.refl
      | with_reducible assumption
      | with_reducible refine Keeps.ite ?_ ?_
      | (with_reducible apply Keeps.step (State.trigger_keeps ..); · decide)
      | extract_lets
      | intro _
      | split
      | (dsimp +zetaDelta only; split)

theorem execWakeTimer_keeps (s : State) : Keeps 0x5000000000000000000000000000000000000000000000000000f00ff007e00010000000000000000000000000000000000000000000000000000000700070003000000000000000000000000000000000000000f00db00010001000f0007000f00000000000000000000000000000000000000000000000b0007000300070001000000000000000000000000000000000000000000000000000000000000000001fffe9d s (execWakeTimer s) := by
  unfold execWakeTimer
  repeat' first
      | with_reducible exact Keeps.refl
      | with_reducible assumption
      | with_reducible refine Keeps.ite ?_ ?_
      | (with_reducible apply Keeps.step (State.advanceElapsed_keeps ..); · decide)
      | (with_reducible apply Keeps.step (State.wakeUp_keeps ..); · decide)
      | extract_lets
      | intro _
      | split
      | (dsimp +zetaDelta only; split)

theorem execWakePatternMatch_keeps (f : EthFrame) (wakeToo : Bool) (s : State) : Keeps 0x5000000000000000000000000000000000000000000000000000f00ff007e00010000000000000000000000000000000000000000000000000000000700070003000000000000000000000000000000000000000f00db00010001000f0007000f00000000000000000000000000000000000000000000000b0007000300070001000000000000000000000000000000000000000000000000000000000000000001ffff9f s (execWakePatternMatch f wakeToo s) := by
  unfold execWakePatternMatch
  repeat' first
      | with_reducible exact Keeps.refl
      | with_reducible assumption
      | with_reducible refine Keeps.ite ?_ ?_
      | (with_reducible apply Keeps.step (State.trigger_keeps ..); · decide)
      | extract_lets
      | intro _
      | split
      | (dsimp +zetaDelta only; split)

end Sys2Proof.Machine
end

