-- ==== Sys2Proof/Laws/KeepsCancel.lean ====
section
/-! SUPPORT. What each operation of Machine/Cancel.lean leaves alone. -/

set_option linter.all false
namespace Sys2Proof.Machine

theorem State.cancelRunning_keeps (s : State) (t : Task) : Keeps 0x5000000000000000000000000000000000000000000000000000e00df001400000000000000000000000000000000000000000000000000000000000700070003000000000000000000000000000000000000000f00c800010001000f0006000f0000000000000000000000000000000000000000000000010005000300070001000000000000000000000000000000000000000000000000000000000000000001bf8cfd s (State.cancelRunning s t).2 := by
  unfold State.cancelRunning
  repeat' first
      | with_reducible exact Keeps.refl
      | with_reducible assumption
      | with_reducible refine Keeps.ite ?_ ?_
      | with_reducible refine Keeps.ite_snd ?_ ?_
      | (with_reducible apply Keeps.setRow; · decide)
      | (with_reducible apply Keeps.step (State.pulseWritten_keeps ..); · decide)
      | (with_reducible apply Keeps.step (State.pulseSettle_keeps ..); · decide)
      | (with_reducible apply Keeps.step (State.fadeSettle_keeps ..); · decide)
      | (with_reducible apply Keeps.step (stopFade_keeps ..); · decide)
      | extract_lets
      | intro _
      | split
      | (dsimp +zetaDelta only; split)

theorem State.cancelRunning_keeps' (s : State) (t : Task) {α_ : _} {t_ : State} (he : State.cancelRunning s t = (α_, t_)) : Keeps 0x5000000000000000000000000000000000000000000000000000e00df001400000000000000000000000000000000000000000000000000000000000700070003000000000000000000000000000000000000000f00c800010001000f0006000f0000000000000000000000000000000000000000000000010005000300070001000000000000000000000000000000000000000000000000000000000000000001bf8cfd s t_ := by
  have h := State.cancelRunning_keeps s t
  rw [he] at h
  exact h

theorem State.cancelTask_keeps (s : State) (w : Who) (h : Nat) : Keeps 0x5000000000000000000000000000000000000000000000000000e00df001400000000000000000000000000000000000000000000000000000000000700070003000000000000000000000000000000000000000f00c800010001000f0006000f0000000000000000000000000000000000000000000000010005000300070001000000000000000000000000000000000000000000000000000000000000000001bf8cfd s (State.cancelTask s w h).2 := by
  unfold State.cancelTask
  repeat' first
      | with_reducible exact Keeps.refl
      | with_reducible assumption
      | with_reducible refine Keeps.ite ?_ ?_
      | with_reducible refine Keeps.ite_snd ?_ ?_
      | (with_reducible apply Keeps.step (State.completeTask_keeps ..); · decide)
      | (with_reducible apply Keeps.step (State.cancelRunning_keeps ..); · decide)
      | extract_lets
      | intro _
      | split
      | (dsimp +zetaDelta only; split)

theorem State.cancelTask_keeps' (s : State) (w : Who) (h : Nat) {α_ : _} {t_ : State} (he : State.cancelTask s w h = (α_, t_)) : Keeps 0x5000000000000000000000000000000000000000000000000000e00df001400000000000000000000000000000000000000000000000000000000000700070003000000000000000000000000000000000000000f00c800010001000f0006000f0000000000000000000000000000000000000000000000010005000300070001000000000000000000000000000000000000000000000000000000000000000001bf8cfd s t_ := by
  have h := State.cancelTask_keeps s w h
  rw [he] at h
  exact h

theorem writeCancel_keeps (w : Who) (h : Nat) (s : State) : Keeps 0x5000000000000000000000000000000000000000000000000000e00df001400000000000000000000000000000000000000000000000000000000000700070003000000000000000000000000000000000000000f00c800010001000f0006000f0000000000000000000000000000000000000000000000010005000300070001000000000000000000000000000000000000000000000000000000000000000001bf8cfd s (writeCancel w h s).st := by
  unfold writeCancel
  repeat' first
      | with_reducible exact Keeps.refl
      | with_reducible assumption
      | with_reducible refine Keeps.ite ?_ ?_
      | (with_reducible apply Keeps.step (State.cancelTask_keeps ..); · decide)
      | extract_lets
      | intro _
      | split
      | (dsimp +zetaDelta only; split)

end Sys2Proof.Machine
end

