-- ==== Sys2Proof/Laws/KeepsObjects.lean ====
section
/-! SUPPORT. What each operation of Machine/Objects.lean leaves alone. -/

set_option linter.all false
namespace Sys2Proof.Machine

theorem State.putIdentity_keeps (s : State) (o r : Nat) (v : Row) : Keeps 0x5000000000000000000000000000000000000000000000000000f00ff007e00010000000000000000000000000000000000000000000000000000000700070003000000000000000000000000000000000000000f00db00010001000f0007000f00000000000000000000000000000000000000000000000b0007000300070001000000000000000000000000000000000000000000000000000000000000000001ffff7f s (State.putIdentity s o r v) := by
  unfold State.putIdentity
  repeat' first
      | with_reducible exact Keeps.refl
      | with_reducible assumption
      | with_reducible refine Keeps.ite ?_ ?_
      | extract_lets
      | intro _
      | split
      | (with_reducible apply Keeps.set_flash; (case h0 => decide))
      | (dsimp +zetaDelta only; split)

theorem State.changed_keeps (s : State) (o : Nat) : Keeps 0x5000000000000000000000000000000000000000000000000000f00ff007e00010000000000000000000000000000000000000000000000000000000700070003000000000000000000000000000000000000000f00db00010001000f0007000f00000000000000000000000000000000000000000000000b0007000300070001000000000000000000000000000000000000000000000000000000000000000001ffefff s (State.changed s o) := by
  unfold State.changed
  repeat' first
      | with_reducible exact Keeps.refl
      | with_reducible assumption
      | with_reducible refine Keeps.ite ?_ ?_
      | (with_reducible apply Keeps.step (State.touchSettings_keeps ..); · decide)
      | extract_lets
      | intro _
      | split
      | (with_reducible apply Keeps.set_eop; (case h0 => decide))
      | (dsimp +zetaDelta only; split)

theorem kept_keeps {m : Nat} {s : State} {d : ObjDef} {o : Nat} {r : WRes} (hm : m &&& 0x5000000000000000000000000000000000000000000000000000f00ff007e00010000000000000000000000000000000000000000000000000000000700070003000000000000000000000000000000000000000f00db00010001000f0007000f00000000000000000000000000000000000000000000000b0007000300070001000000000000000000000000000000000000000000000000000000000000000001ffefff = m) (h : Keeps m s r.st) :
    Keeps m s (kept d o r).st := by
  unfold kept
  split
  · exact Keeps.step (State.changed_keeps ..) hm h
  · exact h

theorem writeWith_keeps {m : Nat} {hook : Hook} (hm : m &&& 0x5000000000000000000000000000000000000000000000000000f00ff007e00010000000000000000000000000000000000000000000000000000000700070003000000000000000000000000000000000000000f00db00010001000f0007000f00000000000000000000000000000000000000000000000b0007000300070001000000000000000000000000000000000000000000000000000000000000000001ffefff = m) (hh : ∀ w r v x, Keeps m x (hook w r v x).st) (w : Who) (o r : Nat)
    (v : ObjDef → Option Row) (s : State) : Keeps m s (writeWith hook w o r v s).st := by
  unfold writeWith
  split
  · exact Keeps.refl
  · split
    · exact Keeps.refl
    · split
      · exact Keeps.refl
      · split
        · exact Keeps.refl
        · exact kept_keeps hm (hh ..)

theorem State.keyWritten_keeps (s0 : State) (k : Nat) (key : List Byte) : Keeps 0x5000000000000000000000000000000000000000000000000000f00ff001e00000000000000000000000000000000000000000000000000000000000700070003000000000000000000000000000000000000000f00db00010001000f0007000f0000000000000000000000000000000000000000000000010007000300070001000000000000000000000000000000000000000000000000000000000000000001ff8d7f s0 (State.keyWritten s0 k key) := by
  unfold State.keyWritten
  repeat' first
      | with_reducible exact Keeps.refl
      | with_reducible assumption
      | with_reducible refine Keeps.ite ?_ ?_
      | (with_reducible apply Keeps.step (State.sendHeld_keeps ..); · decide)
      | (with_reducible apply Keeps.step (State.closeSession_keeps ..); · decide)
      | (with_reducible refine Keeps.foldl (fun _ _ _ => ?_) ?_)
      | extract_lets
      | intro _
      | split
      | (with_reducible apply Keeps.set_flash_eop; (case h0 => decide); (case h1 => decide))
      | (dsimp +zetaDelta only; split)

theorem writeKey_keeps (w : Who) (k : Nat) (v : Row) (s : State) : Keeps 0x5000000000000000000000000000000000000000000000000000f00ff001e00000000000000000000000000000000000000000000000000000000000700070003000000000000000000000000000000000000000f00db00010001000f0007000f0000000000000000000000000000000000000000000000010007000300070001000000000000000000000000000000000000000000000000000000000000000001ff8d7f s (writeKey w k v s).st := by
  unfold writeKey
  repeat' first
      | with_reducible exact Keeps.refl
      | with_reducible assumption
      | with_reducible refine Keeps.ite ?_ ?_
      | (with_reducible apply Keeps.step (refuse_keeps ..); · decide)
      | (with_reducible apply Keeps.step (done_keeps ..); · decide)
      | (with_reducible apply Keeps.step (State.keyWritten_keeps ..); · decide)
      | extract_lets
      | intro _
      | split
      | (dsimp +zetaDelta only; split)

theorem writeProvisionKey_keeps (v : Row) (s : State) : Keeps 0x5000000000000000000000000000000000000000000000000000f00ff007e00010000000000000000000000000000000000000000000000000000000700070003000000000000000000000000000000000000000f00db00010001000f0007000f00000000000000000000000000000000000000000000000b0007000300070001000000000000000000000000000000000000000000000000000000000000000001ffff7f s (writeProvisionKey v s).st := by
  unfold writeProvisionKey
  repeat' first
      | with_reducible exact Keeps.refl
      | with_reducible assumption
      | with_reducible refine Keeps.ite ?_ ?_
      | (with_reducible apply Keeps.step (refuse_keeps ..); · decide)
      | (with_reducible apply Keeps.step (done_keeps ..); · decide)
      | extract_lets
      | intro _
      | split
      | (with_reducible apply Keeps.set_flash; (case h0 => decide))
      | (dsimp +zetaDelta only; split)

theorem writeSubscribe_keeps (w : Who) (v : Row) (s : State) : Keeps 0x5000000000000000000000000000000000000000000000000000f00ff007e00010000000000000000000000000000000000000000000000000000000700070003000000000000000000000000000000000000000f00db00010001000f0007000f00000000000000000000000000000000000000000000000b0007000300070001000000000000000000000000000000000000000000000000000000000000000001ffefff s (writeSubscribe w v s).st := by
  unfold writeSubscribe
  repeat' first
      | with_reducible exact Keeps.refl
      | with_reducible assumption
      | with_reducible refine Keeps.ite ?_ ?_
      | (with_reducible apply Keeps.step (State.setSession_keeps ..); · decide)
      | (with_reducible apply Keeps.step (refuse_keeps ..); · decide)
      | (with_reducible apply Keeps.step (done_keeps ..); · decide)
      | extract_lets
      | intro _
      | split
      | (dsimp +zetaDelta only; split)

theorem State.flowDefaults_keeps (s : State) (r : Nat) : Keeps 0x5000000000000000000000000000000000000000000000000000f00fe006e00000000000000000000000000000000000000000000000000000000000700070003000000000000000000000000000000000000000f00db00010001000f0007000d00000000000000000000000000000000000000000000000a0007000300070001000000000000000000000000000000000000000000000000000000000000000001fdedff s (State.flowDefaults s r) := by
  unfold State.flowDefaults
  repeat' first
      | with_reducible exact Keeps.refl
      | with_reducible assumption
      | with_reducible refine Keeps.ite ?_ ?_
      | (with_reducible apply Keeps.step (State.setFlow_keeps ..); · decide)
      | (with_reducible apply Keeps.step (State.drainFlow_keeps ..); · decide)
      | (with_reducible apply Keeps.step (State.closeFrame_keeps ..); · decide)
      | extract_lets
      | intro _
      | split
      | (dsimp +zetaDelta only; split)

theorem State.defaultsTake_keeps (s : State) : Keeps 0x1050ccd s (State.defaultsTake s) := by
  unfold State.defaultsTake
  repeat' first
      | with_reducible exact Keeps.refl
      | with_reducible assumption
      | with_reducible refine Keeps.ite ?_ ?_
      | (with_reducible apply Keeps.step (State.pauseGenAll_keeps ..); · decide)
      | (with_reducible apply Keeps.step (State.reselect_keeps ..); · decide)
      | (with_reducible apply Keeps.step (afterDomainMode_keeps ..); · decide)
      | (with_reducible apply Keeps.step (afterDomainEnable_keeps ..); · decide)
      | (with_reducible apply Keeps.step (State.deviceEvents_keeps ..); · decide)
      | (with_reducible apply Keeps.step (State.regionOff_keeps ..); · decide)
      | (with_reducible apply Keeps.step (State.quireModeTo_keeps ..); · decide)
      | (with_reducible apply Keeps.step (State.loadObjs_keeps ..); · decide)
      | (with_reducible apply Keeps.step (State.portsSettle_keeps ..); · decide)
      | (with_reducible apply Keeps.step (State.flowDefaults_keeps ..); · decide)
      | (with_reducible refine Keeps.foldl (fun _ _ _ => ?_) ?_)
      | extract_lets
      | intro _
      | split
      | (with_reducible apply Keeps.set_ingest; (case h0 => decide); (case hi => first | exact id | exact Ram.wf_put | exact Packet.fill_wf _ | exact fun h => by split <;> exact h))
      | (dsimp +zetaDelta only; split)

theorem writeSettingsDefault_keeps (v : Nat) (s : State) : Keeps 0x1050ccd s (writeSettingsDefault v s).st := by
  unfold writeSettingsDefault
  repeat' first
      | with_reducible exact Keeps.refl
      | with_reducible assumption
      | with_reducible refine Keeps.ite ?_ ?_
      | (with_reducible apply Keeps.setVal; · decide)
      | (with_reducible apply Keeps.step (State.raise_keeps ..); · decide)
      | (with_reducible apply Keeps.step (State.touchSettings_keeps ..); · decide)
      | (with_reducible apply Keeps.step (done_keeps ..); · decide)
      | (with_reducible apply Keeps.step (State.defaultsTake_keeps ..); · decide)
      | extract_lets
      | intro _
      | split
      | (dsimp +zetaDelta only; split)

theorem writeEopPorts_keeps (v : Row) (s : State) : Keeps 0x5000000000000000000000000000000000000000000000000000f00ff007e00010000000000000000000000000000000000000000000000000000000700070003000000000000000000000000000000000000000f00db00010001000f0007000f00000000000000000000000000000000000000000000000b0007000300070001000000000000000000000000000000000000000000000000000000000000000001ffff7f s (writeEopPorts v s).st := by
  unfold writeEopPorts
  repeat' first
      | with_reducible exact Keeps.refl
      | with_reducible assumption
      | with_reducible refine Keeps.ite ?_ ?_
      | (with_reducible apply Keeps.step (refuse_keeps ..); · decide)
      | (with_reducible apply Keeps.step (done_keeps ..); · decide)
      | (with_reducible apply Keeps.step (State.putIdentity_keeps ..); · decide)
      | extract_lets
      | intro _
      | split
      | (dsimp +zetaDelta only; split)

theorem writeIntegRegion_keeps (r : Nat) (v : Row) (s : State) : Keeps 0x5000000000000000000000000000000000000000000000000000f00ff007e00010000000000000000000000000000000000000000000000000000000700070003000000000000000000000000000000000000000f00db00010001000f0007000f00000000000000000000000000000000000000000000000b0007000300070001000000000000000000000000000000000000000000000000000000000000000001ffff7f s (writeIntegRegion r v s).st := by
  unfold writeIntegRegion
  repeat' first
      | with_reducible exact Keeps.refl
      | with_reducible assumption
      | with_reducible refine Keeps.ite ?_ ?_
      | (with_reducible apply Keeps.step (refuse_keeps ..); · decide)
      | (with_reducible apply Keeps.step (done_keeps ..); · decide)
      | (with_reducible apply Keeps.step (State.putIdentity_keeps ..); · decide)
      | extract_lets
      | intro _
      | split
      | (dsimp +zetaDelta only; split)

theorem writeSafeLook_keeps (r : Nat) (v : Row) (s : State) : Keeps 0x5000000000000000000000000000000000000000000000000000f00ff007e00010000000000000000000000000000000000000000000000000000000700070003000000000000000000000000000000000000000f00db00010001000f0007000f00000000000000000000000000000000000000000000000b0007000300070001000000000000000000000000000000000000000000000000000000000000000001ffff7f s (writeSafeLook r v s).st := by
  unfold writeSafeLook
  repeat' first
      | with_reducible exact Keeps.refl
      | with_reducible assumption
      | with_reducible refine Keeps.ite ?_ ?_
      | (with_reducible apply Keeps.step (refuse_keeps ..); · decide)
      | (with_reducible apply Keeps.step (done_keeps ..); · decide)
      | (with_reducible apply Keeps.step (State.putIdentity_keeps ..); · decide)
      | extract_lets
      | intro _
      | split
      | (dsimp +zetaDelta only; split)

theorem writeRetain_keeps (v : Row) (s : State) : Keeps 0x5000000000000000000000000000000000000000000000000000f00ff007e00010000000000000000000000000000000000000000000000000000000700070003000000000000000000000000000000000000000f00db00010001000f0007000f00000000000000000000000000000000000000000000000b0007000300070001000000000000000000000000000000000000000000000000000000000000000001ffffbf s (writeRetain v s).st := by
  unfold writeRetain
  repeat' first
      | with_reducible exact Keeps.refl
      | with_reducible assumption
      | with_reducible refine Keeps.ite ?_ ?_
      | (with_reducible apply Keeps.step (done_keeps ..); · decide)
      | extract_lets
      | intro _
      | split
      | (with_reducible apply Keeps.set_aon; (case h0 => decide))
      | (dsimp +zetaDelta only; split)

theorem writeFlow_keeps (r : Nat) (v : Row) (s : State) : Keeps 0x5000000000000000000000000000000000000000000000000000f00ff007e00010000000000000000000000000000000000000000000000000000000700070003000000000000000000000000000000000000000f00db00010001000f0007000f00000000000000000000000000000000000000000000000a0007000300070001000000000000000000000000000000000000000000000000000000000000000001ffffff s (writeFlow r v s).st := by
  unfold writeFlow
  repeat' first
      | with_reducible exact Keeps.refl
      | with_reducible assumption
      | with_reducible refine Keeps.ite ?_ ?_
      | (with_reducible apply Keeps.setRow; · decide)
      | (with_reducible apply Keeps.step (refuse_keeps ..); · decide)
      | (with_reducible apply Keeps.step (done_keeps ..); · decide)
      | extract_lets
      | intro _
      | split
      | (dsimp +zetaDelta only; split)

theorem writeFlowEnableRow_keeps (r : Nat) (v : Row) (s : State) : Keeps 0x5000000000000000000000000000000000000000000000000000f00ff006e00000000000000000000000000000000000000000000000000000000000700070003000000000000000000000000000000000000000f00db00010001000f0007000d00000000000000000000000000000000000000000000000a0007000300070001000000000000000000000000000000000000000000000000000000000000000001fdedff s (writeFlowEnableRow r v s).st := by
  unfold writeFlowEnableRow
  repeat' first
      | with_reducible exact Keeps.refl
      | with_reducible assumption
      | with_reducible refine Keeps.ite ?_ ?_
      | (with_reducible apply Keeps.setRow; · decide)
      | (with_reducible apply Keeps.step (writeFlowEnable_keeps ..); · decide)
      | extract_lets
      | intro _
      | split
      | (dsimp +zetaDelta only; split)

theorem writeVideo_keeps (r : Nat) (v : Row) (s : State) : Keeps 0x5000000000000000000000000000000000000000000000000000f00ff007e00010000000000000000000000000000000000000000000000000000000700070003000000000000000000000000000000000000000f00db00010001000f0007000e00000000000000000000000000000000000000000000000b0007000300070001000000000000000000000000000000000000000000000000000000000000000001ffffff s (writeVideo r v s).st := by
  unfold writeVideo
  repeat' first
      | with_reducible exact Keeps.refl
      | with_reducible assumption
      | with_reducible refine Keeps.ite ?_ ?_
      | (with_reducible apply Keeps.setRow; · decide)
      | (with_reducible apply Keeps.step (refuse_keeps ..); · decide)
      | (with_reducible apply Keeps.step (done_keeps ..); · decide)
      | extract_lets
      | intro _
      | split
      | (dsimp +zetaDelta only; split)

theorem writeUniverse_keeps (r : Nat) (v : Row) (s : State) : Keeps 0x5000000000000000000000000000000000000000000000000000f00ff007e00010000000000000000000000000000000000000000000000000000000700070003000000000000000000000000000000000000000f00db00010001000f0007000e00000000000000000000000000000000000000000000000b0007000300070001000000000000000000000000000000000000000000000000000000000000000001ffffff s (writeUniverse r v s).st := by
  unfold writeUniverse
  repeat' first
      | with_reducible exact Keeps.refl
      | with_reducible assumption
      | with_reducible refine Keeps.ite ?_ ?_
      | (with_reducible apply Keeps.setRow; · decide)
      | (with_reducible apply Keeps.step (refuse_keeps ..); · decide)
      | (with_reducible apply Keeps.step (done_keeps ..); · decide)
      | extract_lets
      | intro _
      | split
      | (dsimp +zetaDelta only; split)

theorem writeFence_keeps (f : Nat) (v : Nat) (s : State) : Keeps 0x5000000000000000000000000000000000000000000000000000f00ff007e00010000000000000000000000000000000000000000000000000000000700070003000000000000000000000000000000000000000f00db00010001000f0007000d00000000000000000000000000000000000000000000000b0007000300070001000000000000000000000000000000000000000000000000000000000000000001fdffff s (writeFence f v s).st := by
  unfold writeFence
  repeat' first
      | with_reducible exact Keeps.refl
      | with_reducible assumption
      | with_reducible refine Keeps.ite ?_ ?_
      | (with_reducible apply Keeps.step (refuse_keeps ..); · decide)
      | (with_reducible apply Keeps.step (done_keeps ..); · decide)
      | (with_reducible apply Keeps.step (State.setFence_keeps ..); · decide)
      | extract_lets
      | intro _
      | split
      | (dsimp +zetaDelta only; split)

theorem writeFolio_keeps (f : Nat) (v : Row) (s : State) : Keeps 0x5000000000000000000000000000000000000000000000000000f00ff007e00010000000000000000000000000000000000000000000000000000000700070003000000000000000000000000000000000000000f00db00010001000f0007000b00000000000000000000000000000000000000000000000b0007000300070001000000000000000000000000000000000000000000000000000000000000000001ffffff s (writeFolio f v s).st := by
  unfold writeFolio
  repeat' first
      | with_reducible exact Keeps.refl
      | with_reducible assumption
      | with_reducible refine Keeps.ite ?_ ?_
      | (with_reducible apply Keeps.setRow; · decide)
      | (with_reducible apply Keeps.step (refuse_keeps ..); · decide)
      | (with_reducible apply Keeps.step (done_keeps ..); · decide)
      | extract_lets
      | intro _
      | split
      | (dsimp +zetaDelta only; split)

theorem writeRing_keeps (r : Nat) (v : Row) (s : State) : Keeps 0x5000000000000000000000000000000000000000000000000000f00ff007e00010000000000000000000000000000000000000000000000000000000700070003000000000000000000000000000000000000000f00db00010001000f0007000b00000000000000000000000000000000000000000000000b0007000300070001000000000000000000000000000000000000000000000000000000000000000001fdffff s (writeRing r v s).st := by
  unfold writeRing
  repeat' first
      | with_reducible exact Keeps.refl
      | with_reducible assumption
      | with_reducible refine Keeps.ite ?_ ?_
      | (with_reducible apply Keeps.setRow; · decide)
      | (with_reducible apply Keeps.step (refuse_keeps ..); · decide)
      | (with_reducible apply Keeps.step (done_keeps ..); · decide)
      | extract_lets
      | intro _
      | split
      | (with_reducible apply Keeps.set_ingest; (case h0 => decide); (case hi => first | exact id | exact Ram.wf_put | exact Packet.fill_wf _ | exact fun h => by split <;> exact h))
      | (dsimp +zetaDelta only; split)

theorem writeGauge_keeps (c : Nat) (v : Row) (s : State) : Keeps 0x5000000000000000000000000000000000000000000000000000f00bf007e00000000000000000000000000000000000000000000000000000000000700070003000000000000000000000000000000000000000e00db00010001000f0007000f00000000000000000000000000000000000000000000000b0007000300070001000000000000000000000000000000000000000000000000000000000000000001bfedff s (writeGauge c v s).st := by
  unfold writeGauge
  repeat' first
      | with_reducible exact Keeps.refl
      | with_reducible assumption
      | with_reducible refine Keeps.ite ?_ ?_
      | (with_reducible apply Keeps.step (refuse_keeps ..); · decide)
      | (with_reducible apply Keeps.step (done_keeps ..); · decide)
      | (with_reducible apply Keeps.step (State.gaugeRow_keeps ..); · decide)
      | extract_lets
      | intro _
      | split
      | (dsimp +zetaDelta only; split)

theorem writePulse_keeps (r : Nat) (v : Row) (s : State) : Keeps 0x5000000000000000000000000000000000000000000000000000e00ff001400000000000000000000000000000000000000000000000000000000000700070003000000000000000000000000000000000000000f00db00010001000f0007000f0000000000000000000000000000000000000000000000010005000300070001000000000000000000000000000000000000000000000000000000000000000001ff8cfd s (writePulse r v s).st := by
  unfold writePulse
  repeat' first
      | with_reducible exact Keeps.refl
      | with_reducible assumption
      | with_reducible refine Keeps.ite ?_ ?_
      | (with_reducible apply Keeps.step (refuse_keeps ..); · decide)
      | (with_reducible apply Keeps.step (done_keeps ..); · decide)
      | (with_reducible apply Keeps.step (State.writePulseRow_keeps ..); · decide)
      | extract_lets
      | intro _
      | split
      | (dsimp +zetaDelta only; split)

theorem writeFadeArm_keeps (r : Nat) (v : Row) (s : State) : Keeps 0x5000000000000000000000000000000000000000000000000000e00df001c00000000000000000000000000000000000000000000000000000000000700070003000000000000000000000000000000000000000f00c800010001000f0006000f0000000000000000000000000000000000000000000000010007000300070001000000000000000000000000000000000000000000000000000000000000000001bf8dff s (writeFadeArm r v s).st := by
  unfold writeFadeArm
  extract_lets x
  have h : Keeps 0x5000000000000000000000000000000000000000000000000000e00df001c00000000000000000000000000000000000000000000000000000000000700070003000000000000000000000000000000000000000f00c800010001000f0006000f0000000000000000000000000000000000000000000000010007000300070001000000000000000000000000000000000000000000000000000000000000000001bf8dff s x.st := by
    by_cases hc : v.headD 0 = 1
    · simp only [x, if_pos hc]; exact (armFade_keeps ..).weaken (by decide)
    · simp only [x, if_neg hc]; exact (stopFade_keeps ..).weaken (by decide)
  clear_value x
  split
  · exact Keeps.setRow (by decide) h
  · exact h

theorem State.setCulvert_keeps (s : State) (b : Nat) (c : Culvert) : Keeps 0x5000000000000000000000000000000000000000000000000000f00ff007e00010000000000000000000000000000000000000000000000000000000700070003000000000000000000000000000000000000000f00db00010001000f0007000f00000000000000000000000000000000000000000000000b0007000300070001000000000000000000000000000000000000000000000000000000000000000001fff7ff s (State.setCulvert s b c) := by
  unfold State.setCulvert
  repeat' first
      | with_reducible exact Keeps.refl
      | with_reducible assumption
      | with_reducible refine Keeps.ite ?_ ?_
      | extract_lets
      | intro _
      | split
      | (with_reducible apply Keeps.set_hspi; (case h0 => decide))
      | (dsimp +zetaDelta only; split)

theorem State.commitIn_keeps (s : State) (b : Nat) : Keeps 0x5000000000000000000000000000000000000000000000000000f00ff007e00010000000000000000000000000000000000000000000000000000000700070003000000000000000000000000000000000000000f00db00010001000f0007000f00000000000000000000000000000000000000000000000b0007000300070001000000000000000000000000000000000000000000000000000000000000000001fff7fb s (State.commitIn s b) := by
  unfold State.commitIn
  repeat' first
      | with_reducible exact Keeps.refl
      | with_reducible assumption
      | with_reducible refine Keeps.ite ?_ ?_
      | (with_reducible apply Keeps.step (State.drawNat_keeps ..); · decide)
      | (with_reducible apply Keeps.step (State.setCulvert_keeps ..); · decide)
      | extract_lets
      | intro _
      | split
      | (dsimp +zetaDelta only; split)

theorem WRes.committed_keeps {m : Nat} {s : State} {r : WRes} {o : Nat} (hc : slowHome o = 0 ∨ m &&& 0x5000000000000000000000000000000000000000000000000000f00ff007e00010000000000000000000000000000000000000000000000000000000700070003000000000000000000000000000000000000000f00db00010001000f0007000f00000000000000000000000000000000000000000000000b0007000300070001000000000000000000000000000000000000000000000000000000000000000001fff7fb = m) (h : Keeps m s r.st) :
    Keeps m s (r.committed o).st := by
  unfold WRes.committed
  split
  · rcases hc with hc | hc
    · rw [hc]; exact h
    · exact Keeps.step (State.commitIn_keeps ..) hc h
  · exact h

theorem settlePorts_keeps {m : Nat} {s : State} {w : Who} {o : Nat} {r : WRes} (hm : m &&& 0x5000000000000000000000000000000000000000000000000000f00ff007e00000000000000000000000000000000000000000000000000000000000700070003000000000000000000000000000000000000000f00db00010001000f0007000f0000000000000000000000000000000000000000000000090007000300070001000000000000000000000000000000000000000000000000000000000000000001ffadff = m) (h : Keeps m s r.st) :
    Keeps m s (settlePorts w o r).st := by
  have h2 : Keeps m s r.st.portsTurn := Keeps.step (State.portsTurn_keeps ..) hm h
  unfold settlePorts
  by_cases hc : (o = oPort ∨ o = oPortEnable) ∧ !overEop w.origin
  · rw [if_pos hc]; dsimp only; exact h2
  · rw [if_neg hc]; exact h

theorem hooksA_keep : ∀ e ∈ hooksA, ∀ w r v s, Keeps 0x401 s (e.2 w r v s).st := by
  intro e he
  simp only [hooksA, List.mem_cons, List.not_mem_nil, or_false] at he
  rcases he with rfl | rfl | rfl | rfl | rfl | rfl | he
  · intro w r v s; dsimp only; with_reducible exact (writeKey_keeps ..).weaken (by decide)
  · intro w r v s; dsimp only; with_reducible exact (writeProvisionKey_keeps ..).weaken (by decide)
  · intro w r v s; dsimp only; with_reducible exact (writeSubscribe_keeps ..).weaken (by decide)
  · intro w r v s; dsimp only; with_reducible exact (writeEopPorts_keeps ..).weaken (by decide)
  · intro w r v s; dsimp only; with_reducible exact (writeReset_keeps ..).weaken (by decide)
  · intro w r v s; dsimp only; with_reducible exact (writeSettingsDefault_keeps ..).weaken (by decide)
  rcases he with rfl | rfl | rfl | rfl | rfl | rfl | he
  · intro w r v s; dsimp only; exact Keeps.step (State.afterTwin_keeps ..) (by decide) ((writeDemote_keeps ..).weaken (by decide))
  · intro w r v s; dsimp only; exact Keeps.step (State.afterTwin_keeps ..) (by decide) ((writeHandoverAt_keeps ..).weaken (by decide))
  · intro w r v s; dsimp only; exact Keeps.step (State.afterTwin_keeps ..) (by decide) ((writeRejoin_keeps ..).weaken (by decide))
  · intro w r v s; dsimp only; exact Keeps.step (afterDomainMode_keeps ..) (by decide) (Keeps.setRow (by decide) Keeps.refl)
  · intro w r v s; dsimp only; exact (writeSwitchAt_keeps ..).weaken (by decide)
  · intro w r v s; dsimp only; exact Keeps.step (State.deviceEvents_keeps ..) (by decide) (Keeps.step (afterDomainEnable_keeps ..) (by decide) (Keeps.setRow (by decide) Keeps.refl))
  rcases he with rfl | rfl | rfl | rfl | rfl | rfl | he
  · intro w r v s; dsimp only; exact Keeps.step (State.deviceEvents_keeps ..) (by decide) (Keeps.step (afterDomainEnable_keeps ..) (by decide) (Keeps.setRow (by decide) Keeps.refl))
  · intro w r v s; dsimp only; exact Keeps.step (State.reselect_keeps ..) (by decide) (Keeps.setRow (by decide) Keeps.refl)
  · intro w r v s; dsimp only; exact Keeps.step (State.reselect_keeps ..) (by decide) (Keeps.setRow (by decide) Keeps.refl)
  · intro w r v s; dsimp only; exact Keeps.step (State.deviceEvents_keeps ..) (by decide) (Keeps.step (State.reselect_keeps ..) (by decide) (Keeps.setRow (by decide) Keeps.refl))
  · intro w r v s; dsimp only; exact Keeps.step (State.deviceEvents_keeps ..) (by decide) (Keeps.step (State.reselect_keeps ..) (by decide) (Keeps.setRow (by decide) Keeps.refl))
  · intro w r v s; dsimp only; exact Keeps.step (State.reselect_keeps ..) (by decide) (Keeps.setRow (by decide) Keeps.refl)
  rcases he with rfl | rfl | rfl | rfl | rfl | rfl | he
  · intro w r v s; dsimp only; exact Keeps.step (State.reselect_keeps ..) (by decide) (Keeps.setRow (by decide) Keeps.refl)
  · intro w r v s; dsimp only; with_reducible exact (writePulse_keeps ..).weaken (by decide)
  · intro w r v s; dsimp only; with_reducible exact (writePort_keeps ..).weaken (by decide)
  · intro w r v s; dsimp only; with_reducible exact (writePortEnable_keeps ..).weaken (by decide)
  · intro w r v s; dsimp only; exact Keeps.setRow (no_group (by decide) _) (Keeps.setRow (no_group (by decide) _) Keeps.refl)
  · intro w r v s; dsimp only; with_reducible exact (writePoolQueue_keeps ..).weaken (by decide)
  rcases he with rfl | rfl | rfl | rfl | rfl | rfl | he
  · intro w r v s; dsimp only; with_reducible exact (writeCancel_keeps ..).weaken (by decide)
  · intro w r v s; dsimp only; with_reducible exact (writeIntegRegion_keeps ..).weaken (by decide)
  · intro w r v s; dsimp only; with_reducible exact (writeLogClear_keeps ..).weaken (by decide)
  · intro w r v s; dsimp only; with_reducible exact (writeDownload_keeps ..).weaken (by decide)
  · intro w r v s; dsimp only; with_reducible exact (writeVerify_keeps ..).weaken (by decide)
  · intro w r v s; dsimp only; with_reducible exact (writePrepare_keeps ..).weaken (by decide)
  rcases he with rfl | rfl | rfl | rfl | rfl | rfl | he
  · intro w r v s; dsimp only; with_reducible exact (writeCommit_keeps ..).weaken (by decide)
  · intro w r v s; dsimp only; with_reducible exact (writeAbort_keeps ..).weaken (by decide)
  · intro w r v s; dsimp only; with_reducible exact (writeConfirm_keeps ..).weaken (by decide)
  · intro w r v s; dsimp only; with_reducible exact (writeSafeLook_keeps ..).weaken (by decide)
  · intro w r v s; dsimp only; with_reducible exact (writeRetain_keeps ..).weaken (by decide)
  · intro w r v s; dsimp only; with_reducible exact (writeStandby_keeps ..).weaken (by decide)
  rcases he with rfl
  · intro w r v s; dsimp only; with_reducible exact (writeHibernate_keeps ..).weaken (by decide)

theorem hooksB_keep : ∀ e ∈ hooksB, ∀ w r v s, Keeps 0x401 s (e.2 w r v s).st := by
  intro e he
  simp only [hooksB, List.mem_cons, List.not_mem_nil, or_false] at he
  rcases he with rfl | rfl | rfl | rfl | rfl | rfl | he
  · intro w r v s; dsimp only; with_reducible exact (writeFlow_keeps ..).weaken (by decide)
  · intro w r v s; dsimp only; with_reducible exact (writeFlowEnableRow_keeps ..).weaken (by decide)
  · intro w r v s; dsimp only; with_reducible exact (writeVideo_keeps ..).weaken (by decide)
  · intro w r v s; dsimp only; with_reducible exact (writeUniverse_keeps ..).weaken (by decide)
  · intro w r v s; dsimp only; with_reducible exact (writeFence_keeps ..).weaken (by decide)
  · intro w r v s; dsimp only; with_reducible exact (writeFolio_keeps ..).weaken (by decide)
  rcases he with rfl | rfl | rfl | rfl | rfl | rfl | he
  · intro w r v s; dsimp only; with_reducible exact (writeRing_keeps ..).weaken (by decide)
  · intro w r v s; dsimp only; with_reducible exact (writeLayer_keeps ..).weaken (by decide)
  · intro w r v s; dsimp only; with_reducible exact (writeTiming_keeps ..).weaken (by decide)
  · intro w r v s; dsimp only; with_reducible exact (writeHeadEnable_keeps ..).weaken (by decide)
  · intro w r v s; dsimp only; with_reducible exact (writeCommitArm_keeps ..).weaken (by decide)
  · intro w r v s; dsimp only; with_reducible exact (writeFreeze_keeps ..).weaken (by decide)
  rcases he with rfl | rfl | rfl | rfl | rfl | rfl | he
  · intro w r v s; dsimp only; with_reducible exact (writeEgress_keeps ..).weaken (by decide)
  · intro w r v s; dsimp only; with_reducible exact (writeEgressEnable_keeps ..).weaken (by decide)
  · intro w r v s; dsimp only; with_reducible exact (writeWback_keeps ..).weaken (by decide)
  · intro w r v s; dsimp only; with_reducible exact (writeWbackEnable_keeps ..).weaken (by decide)
  · intro w r v s; dsimp only; with_reducible exact (writeMap_keeps ..).weaken (by decide)
  · intro w r v s; dsimp only; with_reducible exact (writeQuire_keeps ..).weaken (by decide)
  rcases he with rfl | rfl | rfl | rfl | rfl | rfl | he
  · intro w r v s; dsimp only; with_reducible exact (writeStrand_keeps ..).weaken (by decide)
  · intro w r v s; dsimp only; with_reducible exact (writeQuireMode_keeps ..).weaken (by decide)
  · intro w r v s; dsimp only; with_reducible exact (writeCameg_keeps ..).weaken (by decide)
  · intro w r v s; dsimp only; with_reducible exact (writeEnumerate_keeps ..).weaken (by decide)
  · intro w r v s; dsimp only; with_reducible exact (writeTeleBase_keeps ..).weaken (by decide)
  · intro w r v s; dsimp only; with_reducible exact (writeShareBase_keeps ..).weaken (by decide)
  rcases he with rfl | rfl | rfl | rfl | rfl | rfl | he
  · intro w r v s; dsimp only; with_reducible exact (writeShare_keeps ..).weaken (by decide)
  · intro w r v s; dsimp only; with_reducible exact (writeFade_keeps ..).weaken (by decide)
  · intro w r v s; dsimp only; with_reducible exact (writeFadeArm_keeps ..).weaken (by decide)
  · intro w r v s; dsimp only; with_reducible exact (writeRegion_keeps ..).weaken (by decide)
  · intro w r v s; dsimp only; with_reducible exact (writeRegionReset_keeps ..).weaken (by decide)
  · intro w r v s; dsimp only; with_reducible exact (writeShortTest_keeps ..).weaken (by decide)
  rcases he with rfl | rfl | rfl | rfl | rfl | rfl | he
  · intro w r v s; dsimp only; exact Keeps.setRow (no_group (by decide) _) (Keeps.setRow (no_group (by decide) _) Keeps.refl)
  · intro w r v s; dsimp only; with_reducible exact (writeFaultClear_keeps ..).weaken (by decide)
  · intro w r v s; dsimp only; with_reducible exact (writeGauge_keeps ..).weaken (by decide)
  · intro w r v s; dsimp only; with_reducible exact (writeCalPin_keeps ..).weaken (by decide)
  · intro w r v s; dsimp only; with_reducible exact (writeRefSession_keeps ..).weaken (by decide)
  · intro w r v s; dsimp only; with_reducible exact (writeRefReading_keeps ..).weaken (by decide)
  rcases he with rfl | rfl | rfl
  · intro w r v s; dsimp only; with_reducible exact (writeRefCancel_keeps ..).weaken (by decide)
  · intro w r v s; dsimp only; with_reducible exact (writeGainReset_keeps ..).weaken (by decide)
  · intro w r v s; dsimp only; with_reducible exact (writeCalStoreSave_keeps ..).weaken (by decide)

theorem hookOf_keeps (o : Nat) (w : Who) (r : Nat) (v : Row) (s : State) : Keeps 0x401 s (hookOf o w r v s).st := by
  have hp : Keeps 0x401 s (hkPlain o w r v s).st := Keeps.setRow (no_group (by decide) _) Keeps.refl
  unfold hookOf
  cases h : Option.map (fun e => e.2) ((hooksA ++ hooksB).find? (fun e => e.1 == o)) with
  | some k =>
    obtain ⟨e, he, rfl⟩ := Option.map_eq_some_iff.1 h
    rcases List.mem_append.1 (List.mem_of_find?_eq_some he) with hm | hm
    · exact hooksA_keep e hm w r v s
    · exact hooksB_keep e hm w r v s
  | none =>
    cases objDef o with
    | none => exact hp
    | some d =>
      dsimp only
      split
      · exact Keeps.set_flash (by decide) Keeps.refl
      · exact hp

/-- An object write keeps what the object's own hook keeps. -/
theorem writeObj_keeps_of {m o : Nat} (hc : m &&& 0x5000000000000000000000000000000000000000000000000000f00ff007e00010000000000000000000000000000000000000000000000000000000700070003000000000000000000000000000000000000000f00db00010001000f0007000f00000000000000000000000000000000000000000000000b0007000300070001000000000000000000000000000000000000000000000000000000000000000001ffefff = m) (hp : m &&& 0x5000000000000000000000000000000000000000000000000000f00ff007e00000000000000000000000000000000000000000000000000000000000700070003000000000000000000000000000000000000000f00db00010001000f0007000f0000000000000000000000000000000000000000000000090007000300070001000000000000000000000000000000000000000000000000000000000000000001ffadff = m) (hs : slowHome o = 0 ∨ m &&& 0x5000000000000000000000000000000000000000000000000000f00ff007e00010000000000000000000000000000000000000000000000000000000700070003000000000000000000000000000000000000000f00db00010001000f0007000f00000000000000000000000000000000000000000000000b0007000300070001000000000000000000000000000000000000000000000000000000000000000001fff7fb = m) (hh : ∀ w r v x, Keeps m x (hookOf o w r v x).st)
    (w : Who) (r : Nat) (v : ObjDef → Option Row) (s : State) : Keeps m s (writeObj w o r v s).st :=
  settlePorts_keeps hp (WRes.committed_keeps hs (writeWith_keeps hc hh ..))

/-- A write command keeps what the object's own hook keeps. -/
theorem command_keeps_of {m o : Nat} (hc : m &&& 0x5000000000000000000000000000000000000000000000000000f00ff007e00010000000000000000000000000000000000000000000000000000000700070003000000000000000000000000000000000000000f00db00010001000f0007000f00000000000000000000000000000000000000000000000b0007000300070001000000000000000000000000000000000000000000000000000000000000000001ffefff = m) (hp : m &&& 0x5000000000000000000000000000000000000000000000000000f00ff007e00000000000000000000000000000000000000000000000000000000000700070003000000000000000000000000000000000000000f00db00010001000f0007000f0000000000000000000000000000000000000000000000090007000300070001000000000000000000000000000000000000000000000000000000000000000001ffadff = m) (hs : slowHome o = 0 ∨ m &&& 0x5000000000000000000000000000000000000000000000000000f00ff007e00010000000000000000000000000000000000000000000000000000000700070003000000000000000000000000000000000000000f00db00010001000f0007000f00000000000000000000000000000000000000000000000b0007000300070001000000000000000000000000000000000000000000000000000000000000000001fff7fb = m) (hh : ∀ w r v x, Keeps m x (hookOf o w r v x).st)
    (g : Origin) (r : Nat) (v : ObjDef → Option Row) (s : State) : Keeps m s (s.command g o r v) :=
  Keeps.step (State.portsSettle_keeps ..) hp (Keeps.step (WRes.record_keeps ..) hc (writeObj_keeps_of hc hp hs hh ..))

theorem writeObj_keeps (w : Who) (o r : Nat) (v : ObjDef → Option Row) (s : State) : Keeps 0x401 s (writeObj w o r v s).st :=
  writeObj_keeps_of (by decide) (by decide) (Or.inr (by decide)) (hookOf_keeps o) ..

theorem State.command_keeps (s : State) (origin : Origin) (o r : Nat) (v : ObjDef → Option Row) : Keeps 0x401 s (State.command s origin o r v) := by
  unfold State.command
  repeat' first
      | with_reducible exact Keeps.refl
      | with_reducible assumption
      | with_reducible refine Keeps.ite ?_ ?_
      | (with_reducible apply Keeps.step (WRes.record_keeps ..); · decide)
      | (with_reducible apply Keeps.step (State.portsSettle_keeps ..); · decide)
      | (with_reducible apply Keeps.step (writeObj_keeps ..); · decide)
      | extract_lets
      | intro _
      | split
      | (dsimp +zetaDelta only; split)

theorem writeCount_keeps (o n : Nat) (d : ObjDef) (s : State) : Keeps 0x1ffefff s (writeCount o n d s).st := by
  have h : ∀ l : List Nat, Keeps 0x1ffefff s ((l.foldl (fun st i => st.setRow o (n + i) (d.dflt (n + i))) s).setRowCount o n) := fun l =>
    Keeps.setRow (no_group (by decide) _) (Keeps.foldl (fun _ _ h => Keeps.setRow (no_group (by decide) _) h) Keeps.refl)
  unfold writeCount
  dsimp only
  split
  · exact Keeps.refl
  · split
    · exact Keeps.refl
    · exact kept_keeps (by decide) (h _)

theorem writeSub0_keeps (w : Who) (o : Nat) (bs : List Byte) (d : ObjDef) (s : State) : Keeps 0x1ffefff s (writeSub0 w o bs d s).st := by
  unfold writeSub0
  repeat' first
      | with_reducible exact Keeps.refl
      | with_reducible assumption
      | with_reducible refine Keeps.ite ?_ ?_
      | (with_reducible apply Keeps.step (refuse_keeps ..); · decide)
      | (with_reducible apply Keeps.step (writeCount_keeps ..); · decide)
      | extract_lets
      | intro _
      | split
      | (dsimp +zetaDelta only; split)

end Sys2Proof.Machine
end

