-- ==== Sys2Proof/Laws/KeepsWeir.lean ====
section
/-! SUPPORT. What each operation of Machine/Weir.lean leaves alone. -/

set_option linter.all false
namespace Sys2Proof.Machine

theorem State.makeReady_keeps (s : State) (slot : Nat) : Keeps 0x5000000000000000000000000000000000000000000000000000e00ff001c00000000000000000000000000000000000000000000000000000000000700070003000000000000000000000000000000000000000f00db00010001000f0007000f0000000000000000000000000000000000000000000000010007000300070001000000000000000000000000000000000000000000000000000000000000000001ff8dff s (State.makeReady s slot) := by
  unfold State.makeReady
  repeat' first
      | with_reducible exact Keeps.refl
      | with_reducible assumption
      | with_reducible refine Keeps.ite ?_ ?_
      | (with_reducible apply Keeps.step (State.setTask_keeps ..); · decide)
      | (with_reducible apply Keeps.step (State.completeTask_keeps ..); · decide)
      | extract_lets
      | intro _
      | split
      | (with_reducible apply Keeps.set_weir; (case h0 => decide); (case hw => first | exact id | exact Ram.wf_put | exact Packet.fill_wf _ | exact fun h => by split <;> exact h))
      | (dsimp +zetaDelta only; split)

theorem execTaskReady_keeps (slot : Nat) (s0 : State) : Keeps 0x5000000000000000000000000000000000000000000000000000e00ff001c00000000000000000000000000000000000000000000000000000000000700070003000000000000000000000000000000000000000f00db00010001000f0007000f0000000000000000000000000000000000000000000000010007000300070001000000000000000000000000000000000000000000000000000000000000000001ff8cfd s0 (execTaskReady slot s0) := by
  unfold execTaskReady
  repeat' first
      | with_reducible exact Keeps.refl
      | with_reducible assumption
      | with_reducible refine Keeps.ite ?_ ?_
      | (with_reducible apply Keeps.step (State.advanceTo_keeps ..); · decide)
      | (with_reducible apply Keeps.step (State.makeReady_keeps ..); · decide)
      | extract_lets
      | intro _
      | split
      | (dsimp +zetaDelta only; split)

theorem execTaskDeadline_keeps (slot : Nat) (s0 : State) : Keeps 0x5000000000000000000000000000000000000000000000000000e00ff001c00000000000000000000000000000000000000000000000000000000000700070003000000000000000000000000000000000000000f00db00010001000f0007000f0000000000000000000000000000000000000000000000010007000300070001000000000000000000000000000000000000000000000000000000000000000001ff8cfd s0 (execTaskDeadline slot s0) := by
  unfold execTaskDeadline
  repeat' first
      | with_reducible exact Keeps.refl
      | with_reducible assumption
      | with_reducible refine Keeps.ite ?_ ?_
      | (with_reducible apply Keeps.step (State.advanceTo_keeps ..); · decide)
      | (with_reducible apply Keeps.step (State.completeTask_keeps ..); · decide)
      | extract_lets
      | intro _
      | split
      | (dsimp +zetaDelta only; split)

theorem State.overdue_keeps (s : State) : Keeps 0x5000000000000000000000000000000000000000000000000000e00ff001c00000000000000000000000000000000000000000000000000000000000700070003000000000000000000000000000000000000000f00db00010001000f0007000f0000000000000000000000000000000000000000000000010007000300070001000000000000000000000000000000000000000000000000000000000000000001ff8dff s (State.overdue s) := by
  unfold State.overdue
  repeat' first
      | with_reducible exact Keeps.refl
      | with_reducible assumption
      | with_reducible refine Keeps.ite ?_ ?_
      | (with_reducible apply Keeps.step (State.completeTask_keeps ..); · decide)
      | (with_reducible refine Keeps.foldl (fun _ _ _ => ?_) ?_)
      | extract_lets
      | intro _
      | split
      | (dsimp +zetaDelta only; split)

theorem State.cancelsDone_keeps (s : State) : Keeps 0x5000000000000000000000000000000000000000000000000000e00ff001c00000000000000000000000000000000000000000000000000000000000700070003000000000000000000000000000000000000000f00db00010001000f0007000f0000000000000000000000000000000000000000000000010007000300070001000000000000000000000000000000000000000000000000000000000000000001ff8dff s (State.cancelsDone s) := by
  unfold State.cancelsDone
  repeat' first
      | with_reducible exact Keeps.refl
      | with_reducible assumption
      | with_reducible refine Keeps.ite ?_ ?_
      | (with_reducible apply Keeps.step (State.completeTask_keeps ..); · decide)
      | (with_reducible apply Keeps.step (State.overdue_keeps ..); · decide)
      | (with_reducible refine Keeps.foldl (fun _ _ _ => ?_) ?_)
      | extract_lets
      | intro _
      | split
      | (dsimp +zetaDelta only; split)

theorem State.startCore_keeps (s : State) (k : Nat) (t : Task) : Keeps 0x5000000000000000000000000000000000000000000000000000f00ff007e00010000000000000000000000000000000000000000000000000000000700070003000000000000000000000000000000000000000f00db00010001000f0007000f00000000000000000000000000000000000000000000000b0007000300070001000000000000000000000000000000000000000000000000000000000000000001ffdfff s (State.startCore s k t) := by
  unfold State.startCore
  repeat' first
      | with_reducible exact Keeps.refl
      | with_reducible assumption
      | with_reducible refine Keeps.ite ?_ ?_
      | extract_lets
      | intro _
      | split
      | (with_reducible apply Keeps.set_weir; (case h0 => decide); (case hw => first | exact id | exact Ram.wf_put | exact Packet.fill_wf _ | exact fun h => by split <;> exact h))
      | (dsimp +zetaDelta only; split)

theorem State.saveContext_keeps (s : State) (slot : Nat) : Keeps 0x5000000000000000000000000000000000000000000000000000f00ff007e00010000000000000000000000000000000000000000000000000000000700070003000000000000000000000000000000000000000f00db00010001000f0007000f00000000000000000000000000000000000000000000000b0007000300070001000000000000000000000000000000000000000000000000000000000000000001ffdfff s (State.saveContext s slot) := by
  unfold State.saveContext
  repeat' first
      | with_reducible exact Keeps.refl
      | with_reducible assumption
      | with_reducible refine Keeps.ite ?_ ?_
      | extract_lets
      | intro _
      | split
      | (with_reducible apply Keeps.set_weir; (case h0 => decide); (case hw => first | exact id | exact Ram.wf_put | exact Packet.fill_wf _ | exact fun h => by split <;> exact h))
      | (dsimp +zetaDelta only; split)

theorem State.preempt_keeps (s : State) (e : Nat × CoreRun) : Keeps 0x5000000000000000000000000000000000000000000000000000e00ff007e00010000000000000000000000000000000000000000000000000000000700070003000000000000000000000000000000000000000f00db00010001000f0007000f00000000000000000000000000000000000000000000000b0007000300070001000000000000000000000000000000000000000000000000000000000000000001ffdfff s (State.preempt s e) := by
  unfold State.preempt
  repeat' first
      | with_reducible exact Keeps.refl
      | with_reducible assumption
      | with_reducible refine Keeps.ite ?_ ?_
      | (with_reducible apply Keeps.bump; · decide)
      | (with_reducible apply Keeps.step (State.setTask_keeps ..); · decide)
      | (with_reducible apply Keeps.step (State.freeCore_keeps ..); · decide)
      | (with_reducible apply Keeps.step (State.saveContext_keeps ..); · decide)
      | (with_reducible refine Keeps.foldl (fun _ _ _ => ?_) ?_)
      | extract_lets
      | intro _
      | split
      | (dsimp +zetaDelta only; split)

theorem State.running_keeps (s : State) (slot : Nat) : Keeps 0x5000000000000000000000000000000000000000000000000000e00ff007e00010000000000000000000000000000000000000000000000000000000700070003000000000000000000000000000000000000000f00db00010001000f0007000f00000000000000000000000000000000000000000000000b0007000300070001000000000000000000000000000000000000000000000000000000000000000001ffdfff s (State.running s slot) := by
  unfold State.running
  repeat' first
      | with_reducible exact Keeps.refl
      | with_reducible assumption
      | with_reducible refine Keeps.ite ?_ ?_
      | (with_reducible apply Keeps.bump; · decide)
      | (with_reducible apply Keeps.step (State.setTask_keeps ..); · decide)
      | extract_lets
      | intro _
      | split
      | (dsimp +zetaDelta only; split)

theorem State.coreTakes_keeps (s : State) (k slot : Nat) : Keeps 0x5000000000000000000000000000000000000000000000000000e00ff001c00000000000000000000000000000000000000000000000000000000000700070003000000000000000000000000000000000000000f00db00010001000f0007000f0000000000000000000000000000000000000000000000010007000300070001000000000000000000000000000000000000000000000000000000000000000001ff8dff s (State.coreTakes s k slot) := by
  unfold State.coreTakes
  repeat' first
      | with_reducible exact Keeps.refl
      | with_reducible assumption
      | with_reducible refine Keeps.ite ?_ ?_
      | (with_reducible apply Keeps.step (State.completeTask_keeps ..); · decide)
      | (with_reducible apply Keeps.step (State.startCore_keeps ..); · decide)
      | (with_reducible apply Keeps.step (State.running_keeps ..); · decide)
      | extract_lets
      | intro _
      | split
      | (dsimp +zetaDelta only; split)

theorem State.dispatchCore_keeps (s : State) (slot : Nat) (t : Task) : Keeps 0x5000000000000000000000000000000000000000000000000000e00ff001c00000000000000000000000000000000000000000000000000000000000700070003000000000000000000000000000000000000000f00db00010001000f0007000f0000000000000000000000000000000000000000000000010007000300070001000000000000000000000000000000000000000000000000000000000000000001ff8dff s (State.dispatchCore s slot t) := by
  unfold State.dispatchCore
  repeat' first
      | with_reducible exact Keeps.refl
      | with_reducible assumption
      | with_reducible refine Keeps.ite ?_ ?_
      | (with_reducible apply Keeps.step (State.preempt_keeps ..); · decide)
      | (with_reducible apply Keeps.step (State.coreTakes_keeps ..); · decide)
      | extract_lets
      | intro _
      | split
      | (dsimp +zetaDelta only; split)

theorem State.orRefused_keeps (s : State) (t : Task) (status : Nat) : Keeps 0x5000000000000000000000000000000000000000000000000000e00ff001c00000000000000000000000000000000000000000000000000000000000700070003000000000000000000000000000000000000000f00db00010001000f0007000f0000000000000000000000000000000000000000000000010007000300070001000000000000000000000000000000000000000000000000000000000000000001ff8dff s (State.orRefused s t status) := by
  unfold State.orRefused
  repeat' first
      | with_reducible exact Keeps.refl
      | with_reducible assumption
      | with_reducible refine Keeps.ite ?_ ?_
      | (with_reducible apply Keeps.step (State.completeTask_keeps ..); · decide)
      | extract_lets
      | intro _
      | split
      | (dsimp +zetaDelta only; split)

theorem State.engineCommit_keeps (s : State) (t : Task) : Keeps 0x5000000000000000000000000000000000000000000000000000e00f9001c00000000000000000000000000000000000000000000000000000000000700070003000000000000000000000000000000000000000f00db00010001000e0003000f0000000000000000000000000000000000000000000000010007000300070001000000000000000000000000000000000000000000000000000000000000000001fb8dff s (State.engineCommit s t) := by
  unfold State.engineCommit
  repeat' first
      | with_reducible exact Keeps.refl
      | with_reducible assumption
      | with_reducible refine Keeps.ite ?_ ?_
      | (with_reducible apply Keeps.step (State.completeTask_keeps ..); · decide)
      | (with_reducible apply Keeps.step (State.armCommit_keeps ..); · decide)
      | extract_lets
      | intro _
      | split
      | (dsimp +zetaDelta only; split)

theorem State.engineFade_keeps (s : State) (t : Task) : Keeps 0x5000000000000000000000000000000000000000000000000000e00df001c00000000000000000000000000000000000000000000000000000000000700070003000000000000000000000000000000000000000f00c800010001000f0006000f0000000000000000000000000000000000000000000000010007000300070001000000000000000000000000000000000000000000000000000000000000000001bf8dff s (State.engineFade s t) := by
  unfold State.engineFade
  repeat' first
      | with_reducible exact Keeps.refl
      | with_reducible assumption
      | with_reducible refine Keeps.ite ?_ ?_
      | (with_reducible apply Keeps.setRow; · decide)
      | (with_reducible apply Keeps.step (State.completeTask_keeps ..); · decide)
      | (with_reducible apply Keeps.step (done_keeps ..); · decide)
      | (with_reducible apply Keeps.step (State.fadeSettle_keeps ..); · decide)
      | (with_reducible apply Keeps.step (writeFade_keeps ..); · decide)
      | (with_reducible apply Keeps.step (armFade_keeps ..); · decide)
      | (with_reducible apply Keeps.step (stopFade_keeps ..); · decide)
      | (with_reducible apply Keeps.step (State.orRefused_keeps ..); · decide)
      | extract_lets
      | intro _
      | split
      | (dsimp +zetaDelta only; split)

theorem State.enginePulse_keeps (s : State) (t : Task) : Keeps 0x5000000000000000000000000000000000000000000000000000e00ff001400000000000000000000000000000000000000000000000000000000000700070003000000000000000000000000000000000000000f00db00010001000f0007000f0000000000000000000000000000000000000000000000010005000300070001000000000000000000000000000000000000000000000000000000000000000001ff8cfd s (State.enginePulse s t) := by
  unfold State.enginePulse
  repeat' first
      | with_reducible exact Keeps.refl
      | with_reducible assumption
      | with_reducible refine Keeps.ite ?_ ?_
      | (with_reducible apply Keeps.step (State.completeTask_keeps ..); · decide)
      | (with_reducible apply Keeps.step (State.writePulseRow_keeps ..); · decide)
      | extract_lets
      | intro _
      | split
      | (dsimp +zetaDelta only; split)

theorem State.engineCameg_keeps (s : State) (t : Task) : Keeps 0x5000000000000000000000000000000000000000000000000000e00ff001c00000000000000000000000000000000000000000000000000000000000700070003000000000000000000000000000000000000000f00db00010001000f0007000f0000000000000000000000000000000000000000000000010007000300070001000000000000000000000000000000000000000000000000000000000000000001ef8dff s (State.engineCameg s t) := by
  unfold State.engineCameg
  repeat' first
      | with_reducible exact Keeps.refl
      | with_reducible assumption
      | with_reducible refine Keeps.ite ?_ ?_
      | (with_reducible apply Keeps.step (writeCameg_keeps ..); · decide)
      | (with_reducible apply Keeps.step (writeEnumerate_keeps ..); · decide)
      | (with_reducible apply Keeps.step (State.orRefused_keeps ..); · decide)
      | extract_lets
      | intro _
      | split
      | (dsimp +zetaDelta only; split)

theorem State.engineTwin_keeps (s : State) (t : Task) : Keeps 0x5000000000000000000000000000000000000000000000000000e007f001800000000000000000000000000000000000000000000000000000000000700070003000000000000000000000000000000000000000700db00010001000f0007000f00000000000000000000000000000000000000000000000100070001000700000000000000000000000000000000000000000000000000000000000000000000007e8c7d s (State.engineTwin s t) := by
  unfold State.engineTwin
  repeat' first
      | with_reducible exact Keeps.refl
      | with_reducible assumption
      | with_reducible refine Keeps.ite ?_ ?_
      | (with_reducible apply Keeps.step (State.completeTask_keeps ..); · decide)
      | (with_reducible apply Keeps.step (writeDemote_keeps ..); · decide)
      | (with_reducible apply Keeps.step (writeHandoverAt_keeps ..); · decide)
      | (with_reducible apply Keeps.step (writeRejoin_keeps ..); · decide)
      | (with_reducible apply Keeps.step (State.afterTwin_keeps ..); · decide)
      | (with_reducible apply Keeps.step (State.orRefused_keeps ..); · decide)
      | extract_lets
      | intro _
      | split
      | (dsimp +zetaDelta only; split)

theorem State.engineTakes_keeps (s : State) (t : Task) : Keeps 0x5000000000000000000000000000000000000000000000000000e0059001000000000000000000000000000000000000000000000000000000000000700070003000000000000000000000000000000000000000700c800010001000e0002000f00000000000000000000000000000000000000000000000100050001000700000000000000000000000000000000000000000000000000000000000000000000002a8c7d s (State.engineTakes s t) := by
  unfold State.engineTakes
  repeat' first
      | with_reducible exact Keeps.refl
      | with_reducible assumption
      | with_reducible refine Keeps.ite ?_ ?_
      | (with_reducible apply Keeps.step (State.deviceDone_keeps ..); · decide)
      | (with_reducible apply Keeps.step (State.engineCommit_keeps ..); · decide)
      | (with_reducible apply Keeps.step (State.engineFade_keeps ..); · decide)
      | (with_reducible apply Keeps.step (State.enginePulse_keeps ..); · decide)
      | (with_reducible apply Keeps.step (State.engineCameg_keeps ..); · decide)
      | (with_reducible apply Keeps.step (State.engineTwin_keeps ..); · decide)
      | extract_lets
      | intro _
      | split
      | (dsimp +zetaDelta only; split)

theorem execTaskDispatch_keeps (c : Nat) (s0 : State) : Keeps 0x5000000000000000000000000000000000000000000000000000e0059001000000000000000000000000000000000000000000000000000000000000700070003000000000000000000000000000000000000000700c800010001000e0002000f00000000000000000000000000000000000000000000000100050001000700000000000000000000000000000000000000000000000000000000000000000000002a8c7d s0 (execTaskDispatch c s0) := by
  unfold execTaskDispatch
  repeat' first
      | with_reducible exact Keeps.refl
      | with_reducible assumption
      | with_reducible refine Keeps.ite ?_ ?_
      | (with_reducible apply Keeps.step (State.overdue_keeps ..); · decide)
      | (with_reducible apply Keeps.step (State.running_keeps ..); · decide)
      | (with_reducible apply Keeps.step (State.dispatchCore_keeps ..); · decide)
      | (with_reducible apply Keeps.step (State.engineTakes_keeps ..); · decide)
      | extract_lets
      | intro _
      | split
      | (dsimp +zetaDelta only; split)

theorem execTaskComplete_keeps (slot status : Nat) (s : State) : Keeps 0x401 s (execTaskComplete slot status s) := by
  unfold execTaskComplete
  repeat' first
      | with_reducible exact Keeps.refl
      | with_reducible assumption
      | with_reducible refine Keeps.ite ?_ ?_
      | (with_reducible apply Keeps.step (State.freeCore_keeps ..); · decide)
      | (with_reducible apply Keeps.step (State.completeTask_keeps ..); · decide)
      | (with_reducible apply Keeps.step (writeObj_keeps ..); · decide)
      | extract_lets
      | intro _
      | split
      | (dsimp +zetaDelta only; split)

theorem State.createTasks_keeps (s : State) (w : Who) (es : List (List Byte)) (i : Nat) (rs : List (List Byte)) :
    Keeps 0x5000000000000000000000000000000000000000000000000000e00ff007e00010000000000000000000000000000000000000000000000000000000700070003000000000000000000000000000000000000000f00db00010001000f0007000f00000000000000000000000000000000000000000000000b0007000300070001000000000000000000000000000000000000000000000000000000000000000001ffdfff s (s.createTasks w es i rs).2 := by
  induction rs generalizing s i with
  | nil => exact Keeps.refl
  | cons r rs ih =>
    unfold State.createTasks
    split
    · exact Keeps.refl
    · exact Keeps.step (ih _ _) (by decide) ((State.allocTask_keeps _ _ (by assumption)).weaken (by decide))

theorem State.attach_keeps (s : State) (hs : List Nat) (r : List Byte) : Keeps 0x5000000000000000000000000000000000000000000000000000f00ff007e00010000000000000000000000000000000000000000000000000000000700070003000000000000000000000000000000000000000f00db00010001000f0007000f00000000000000000000000000000000000000000000000b0007000300070001000000000000000000000000000000000000000000000000000000000000000001ffdfff s (State.attach s hs r) := by
  unfold State.attach
  repeat' first
      | with_reducible exact Keeps.refl
      | with_reducible assumption
      | with_reducible refine Keeps.ite ?_ ?_
      | (with_reducible apply Keeps.step (State.setTask_keeps ..); · decide)
      | extract_lets
      | intro _
      | split
      | (dsimp +zetaDelta only; split)

theorem State.retainedEdge_keeps (before s : State) (hs : List Nat) (r : List Byte) : Keeps 0x5000000000000000000000000000000000000000000000000000e00ff001c00000000000000000000000000000000000000000000000000000000000700070003000000000000000000000000000000000000000f00db00010001000f0007000f0000000000000000000000000000000000000000000000010007000300070001000000000000000000000000000000000000000000000000000000000000000001ff8dff s (State.retainedEdge before s hs r) := by
  unfold State.retainedEdge
  repeat' first
      | with_reducible exact Keeps.refl
      | with_reducible assumption
      | with_reducible refine Keeps.ite ?_ ?_
      | (with_reducible apply Keeps.step (State.actEdge_keeps' (he := by assumption) ..); · decide)
      | (with_reducible apply Keeps.step (State.actEdge_keeps ..); · decide)
      | (with_reducible apply Keeps.step (State.completeTask_keeps ..); · decide)
      | extract_lets
      | intro _
      | split
      | (dsimp +zetaDelta only; split)

theorem State.lateTask_keeps (s : State) (h : Nat) : Keeps 0x5000000000000000000000000000000000000000000000000000e00ff001c00000000000000000000000000000000000000000000000000000000000700070003000000000000000000000000000000000000000f00db00010001000f0007000f0000000000000000000000000000000000000000000000010007000300070001000000000000000000000000000000000000000000000000000000000000000001ff8dff s (State.lateTask s h) := by
  unfold State.lateTask
  repeat' first
      | with_reducible exact Keeps.refl
      | with_reducible assumption
      | with_reducible refine Keeps.ite ?_ ?_
      | (with_reducible apply Keeps.step (State.completeTask_keeps ..); · decide)
      | extract_lets
      | intro _
      | split
      | (dsimp +zetaDelta only; split)

theorem State.createGraph_keeps (s : State) (w : Who) (g : Graph) : Keeps 0x5000000000000000000000000000000000000000000000000000e00ff001c00000000000000000000000000000000000000000000000000000000000700070003000000000000000000000000000000000000000f00db00010001000f0007000f0000000000000000000000000000000000000000000000010007000300070001000000000000000000000000000000000000000000000000000000000000000001ff8dff s (State.createGraph s w g).2 := by
  unfold State.createGraph
  repeat' first
      | with_reducible exact Keeps.refl
      | with_reducible assumption
      | with_reducible refine Keeps.ite ?_ ?_
      | with_reducible refine Keeps.ite_snd ?_ ?_
      | (with_reducible apply Keeps.step (State.createTasks_keeps ..); · decide)
      | (with_reducible apply Keeps.step (State.attach_keeps ..); · decide)
      | (with_reducible apply Keeps.step (State.retainedEdge_keeps ..); · decide)
      | (with_reducible apply Keeps.step (State.lateTask_keeps ..); · decide)
      | (with_reducible refine Keeps.foldl (fun _ _ _ => ?_) ?_)
      | extract_lets
      | intro _
      | split
      | (dsimp +zetaDelta only; split)

theorem State.createGraph_keeps' (s : State) (w : Who) (g : Graph) {α_ : _} {t_ : State} (he : State.createGraph s w g = (α_, t_)) : Keeps 0x5000000000000000000000000000000000000000000000000000e00ff001c00000000000000000000000000000000000000000000000000000000000700070003000000000000000000000000000000000000000f00db00010001000f0007000f0000000000000000000000000000000000000000000000010007000300070001000000000000000000000000000000000000000000000000000000000000000001ff8dff s t_ := by
  have h := State.createGraph_keeps s w g
  rw [he] at h
  exact h

theorem State.submitGraph_keeps (s0 : State) (w : Who) (p : List Byte) : Keeps 0x5000000000000000000000000000000000000000000000000000e00ff001c00000000000000000000000000000000000000000000000000000000000700070003000000000000000000000000000000000000000f00db00010001000f0007000f0000000000000000000000000000000000000000000000010007000300070001000000000000000000000000000000000000000000000000000000000000000001ff8dff s0 (State.submitGraph s0 w p).2.2.2 := by
  unfold State.submitGraph
  repeat' first
      | with_reducible exact Keeps.refl
      | with_reducible assumption
      | with_reducible refine Keeps.ite ?_ ?_
      | (with_reducible apply Keeps.bump; · decide)
      | (with_reducible apply Keeps.step (State.createGraph_keeps' (he := by assumption) ..); · decide)
      | (with_reducible apply Keeps.step (State.createGraph_keeps ..); · decide)
      | extract_lets
      | intro _
      | split
      | (dsimp +zetaDelta only; split)

end Sys2Proof.Machine
end

