-- ==== Sys2Proof/Laws/KeepsRead.lean ====
section
/-! SUPPORT. What each operation of Machine/Read.lean leaves alone. -/

set_option linter.all false
namespace Sys2Proof.Machine

theorem State.measuredRead_keeps (s : State) (o : Nat) : Keeps 0x5000000000000000000000000000000000000000000000000000f00ff007e00010000000000000000000000000000000000000000000000000000000700070003000000000000000000000000000000000000000f00db00010001000f0007000f00000000000000000000000000000000000000000000000b0007000300070001000000000000000000000000000000000000000000000000000000000000000001fffffb s (State.measuredRead s o) := by
  unfold State.measuredRead
  repeat' first
      | with_reducible exact Keeps.refl
      | with_reducible assumption
      | with_reducible refine Keeps.ite ?_ ?_
      | extract_lets
      | intro _
      | split
      | (with_reducible apply Keeps.set_freeIdx; (case h0 => decide))
      | (dsimp +zetaDelta only; split)

theorem State.rowWords_keeps (s : State) (o r : Nat) : Keeps 0x5000000000000000000000000000000000000000000000000000d00ff007e00010000000000000000000000000000000000000000000000000000000700070003000000000000000000000000000000000000000f00db00010001000f0007000f00000000000000000000000000000000000000000000000b0007000300070001000000000000000000000000000000000000000000000000000000000000000001ffffff s (State.rowWords s o r) := by
  unfold State.rowWords
  repeat' first
      | with_reducible exact Keeps.refl
      | with_reducible assumption
      | with_reducible refine Keeps.ite ?_ ?_
      | (with_reducible apply Keeps.step (State.dramRead_keeps ..); · decide)
      | extract_lets
      | intro _
      | split
      | (dsimp +zetaDelta only; split)

theorem State.rowRead_keeps (s : State) (o r : Nat) : Keeps 0x5000000000000000000000000000000000000000000000000000d00ff007e00010000000000000000000000000000000000000000000000000000000700070003000000000000000000000000000000000000000f00db00010001000f0007000f00000000000000000000000000000000000000000000000b0007000300070001000000000000000000000000000000000000000000000000000000000000000001fffefb s (State.rowRead s o r) := by
  unfold State.rowRead
  repeat' first
      | with_reducible exact Keeps.refl
      | with_reducible assumption
      | with_reducible refine Keeps.ite ?_ ?_
      | (with_reducible apply Keeps.step (State.setCaptures_keeps ..); · decide)
      | (with_reducible apply Keeps.step (State.measuredRead_keeps ..); · decide)
      | (with_reducible apply Keeps.step (State.rowWords_keeps ..); · decide)
      | extract_lets
      | intro _
      | split
      | (dsimp +zetaDelta only; split)

end Sys2Proof.Machine
end

