-- ==== Sys2Proof/Laws/KeepsRegs.lean ====
section
/-! SUPPORT. What each operation of Machine/Regs.lean leaves alone. -/

set_option linter.all false
namespace Sys2Proof.Machine

theorem State.setShadow_keeps (s : State) (p : Path) (w : Word) : Keeps 0x5000000000000000000000000000000000000000000000000000f00ff007e00010000000000000000000000000000000000000000000000000000000700070003000000000000000000000000000000000000000f00db00010001000f0007000f00000000000000000000000000000000000000000000000b0007000300070001000000000000000000000000000000000000000000000000000000000000000001fff7ff s (State.setShadow s p w) := by
  unfold State.setShadow
  repeat' first
      | with_reducible exact Keeps.refl
      | with_reducible assumption
      | with_reducible refine Keeps.ite ?_ ?_
      | extract_lets
      | intro _
      | split
      | (with_reducible apply Keeps.set_hspi; (case h0 => decide))
      | (dsimp +zetaDelta only; split)

theorem State.culvRead_keeps (s : State) (b : Nat) : Keeps 0x5000000000000000000000000000000000000000000000000000f00ff007e00010000000000000000000000000000000000000000000000000000000700070003000000000000000000000000000000000000000f00db00010001000f0007000f00000000000000000000000000000000000000000000000b0007000300070001000000000000000000000000000000000000000000000000000000000000000001fff7ff s (State.culvRead s b).2 := by
  unfold State.culvRead
  repeat' first
      | with_reducible exact Keeps.refl
      | with_reducible assumption
      | with_reducible refine Keeps.ite ?_ ?_
      | with_reducible refine Keeps.ite_snd ?_ ?_
      | (with_reducible apply Keeps.step (State.setCulvert_keeps ..); · decide)
      | extract_lets
      | intro _
      | split
      | (dsimp +zetaDelta only; split)

theorem State.culvRead_keeps' (s : State) (b : Nat) {α_ : _} {t_ : State} (he : State.culvRead s b = (α_, t_)) : Keeps 0x5000000000000000000000000000000000000000000000000000f00ff007e00010000000000000000000000000000000000000000000000000000000700070003000000000000000000000000000000000000000f00db00010001000f0007000f00000000000000000000000000000000000000000000000b0007000300070001000000000000000000000000000000000000000000000000000000000000000001fff7ff s t_ := by
  have h := State.culvRead_keeps s b
  rw [he] at h
  exact h

theorem State.culvCoreWrite_keeps (s : State) (b : Nat) (v : Word) {t : State} (he : s.culvCoreWrite b v = some t) :
    Keeps 0x1fff7fb s t := by
  unfold State.culvCoreWrite at he
  extract_lets c c1 at he
  split at he
  · contradiction
  · extract_lets before held at he
    split at he
    · cases he; exact (State.setCulvert_keeps ..).weaken (by decide)
    · split at he
      · cases he; exact (State.setCulvert_keeps ..).weaken (by decide)
      · cases he
        exact Keeps.step (State.commitIn_keeps ..) (by decide) (Keeps.step (State.setCulvert_keeps ..) (by decide) (Keeps.setRow (no_group (by decide) _) Keeps.refl))

theorem State.culvSkip_keeps (s : State) (b : Nat) : Keeps 0x5000000000000000000000000000000000000000000000000000f00ff007e00010000000000000000000000000000000000000000000000000000000700070003000000000000000000000000000000000000000f00db00010001000f0007000f00000000000000000000000000000000000000000000000b0007000300070001000000000000000000000000000000000000000000000000000000000000000001fff7ff s (State.culvSkip s b) := by
  unfold State.culvSkip
  repeat' first
      | with_reducible exact Keeps.refl
      | with_reducible assumption
      | with_reducible refine Keeps.ite ?_ ?_
      | (with_reducible apply Keeps.step (State.setCulvert_keeps ..); · decide)
      | extract_lets
      | intro _
      | split
      | (dsimp +zetaDelta only; split)

theorem State.readReg_keeps (s : State) (p : Path) (b off : Nat) : Keeps 0x5000000000000000000000000000000000000000000000000000f00ff007e00010000000000000000000000000000000000000000000000000000000700070003000000000000000000000000000000000000000f00db00010001000f0007000f00000000000000000000000000000000000000000000000b0007000300070001000000000000000000000000000000000000000000000000000000000000000001fff7ff s (State.readReg s p b off).2 := by
  unfold State.readReg
  repeat' first
      | with_reducible exact Keeps.refl
      | with_reducible assumption
      | with_reducible refine Keeps.ite ?_ ?_
      | with_reducible refine Keeps.ite_snd ?_ ?_
      | (with_reducible apply Keeps.step (State.setShadow_keeps ..); · decide)
      | (with_reducible apply Keeps.step (State.culvRead_keeps' (he := by assumption) ..); · decide)
      | (with_reducible apply Keeps.step (State.culvRead_keeps ..); · decide)
      | extract_lets
      | intro _
      | split
      | (dsimp +zetaDelta only; split)

theorem State.readReg_keeps' (s : State) (p : Path) (b off : Nat) {α_ : _} {t_ : State} (he : State.readReg s p b off = (α_, t_)) : Keeps 0x5000000000000000000000000000000000000000000000000000f00ff007e00010000000000000000000000000000000000000000000000000000000700070003000000000000000000000000000000000000000f00db00010001000f0007000f00000000000000000000000000000000000000000000000b0007000300070001000000000000000000000000000000000000000000000000000000000000000001fff7ff s t_ := by
  have h := State.readReg_keeps s p b off
  rw [he] at h
  exact h

theorem State.writeSys_keeps (s : State) (off : Nat) (v : Word) : Keeps 0x5000000000000000000000000000000000000000000000000000f00ff007e00000000000000000000000000000000000000000000000000000000000700070003000000000000000000000000000000000000000f00db00010001000f0007000f00000000000000000000000000000000000000000000000b0007000300070001000000000000000000000000000000000000000000000000000000000000000001ffe9ff s (State.writeSys s off v) := by
  unfold State.writeSys
  repeat' first
      | with_reducible exact Keeps.refl
      | with_reducible assumption
      | with_reducible refine Keeps.ite ?_ ?_
      | (with_reducible apply Keeps.step (State.lockViolation_keeps ..); · decide)
      | extract_lets
      | intro _
      | split
      | (with_reducible apply Keeps.set_sys; (case h0 => decide))
      | (dsimp +zetaDelta only; split)

theorem State.testEvent_keeps (s : State) (v : Word) : Keeps 0x5000000000000000000000000000000000000000000000000000f00ff007e00000000000000000000000000000000000000000000000000000000000700070003000000000000000000000000000000000000000f00db00010001000f0007000f00000000000000000000000000000000000000000000000b0007000300070001000000000000000000000000000000000000000000000000000000000000000001ffedff s (State.testEvent s v) := by
  unfold State.testEvent
  repeat' first
      | with_reducible exact Keeps.refl
      | with_reducible assumption
      | with_reducible refine Keeps.ite ?_ ?_
      | (with_reducible apply Keeps.step (State.raise_keeps ..); · decide)
      | extract_lets
      | intro _
      | split
      | (dsimp +zetaDelta only; split)

theorem State.writeEvt_keeps (s : State) (off : Nat) (v : Word) : Keeps 0x5000000000000000000000000000000000000000000000000000f00ff007e00000000000000000000000000000000000000000000000000000000000700070003000000000000000000000000000000000000000f00db00010001000f0007000f00000000000000000000000000000000000000000000000b0007000300070001000000000000000000000000000000000000000000000000000000000000000001ffe9ff s (State.writeEvt s off v) := by
  unfold State.writeEvt
  repeat' first
      | with_reducible exact Keeps.refl
      | with_reducible assumption
      | with_reducible refine Keeps.ite ?_ ?_
      | (with_reducible apply Keeps.step (State.lockViolation_keeps ..); · decide)
      | (with_reducible apply Keeps.step (State.testEvent_keeps ..); · decide)
      | extract_lets
      | intro _
      | split
      | (with_reducible apply Keeps.set_evt; (case h0 => decide))
      | (dsimp +zetaDelta only; split)

theorem State.popCq_keeps (s : State) (v : Word) : Keeps 0x5000000000000000000000000000000000000000000000000000f00ff007e00010000000000000000000000000000000000000000000000000000000700070003000000000000000000000000000000000000000f00db00010001000f0007000f00000000000000000000000000000000000000000000000b0007000300070001000000000000000000000000000000000000000000000000000000000000000001ffdfff s (State.popCq s v) := by
  unfold State.popCq
  repeat' first
      | with_reducible exact Keeps.refl
      | with_reducible assumption
      | with_reducible refine Keeps.ite ?_ ?_
      | extract_lets
      | intro _
      | split
      | (with_reducible apply Keeps.set_weir; (case h0 => decide); (case hw => first | exact id | exact Ram.wf_put | exact Packet.fill_wf _ | exact fun h => by split <;> exact h))
      | (dsimp +zetaDelta only; split)

theorem State.writeHeadReg_keeps (s : State) (h off : Nat) (v : Word) : Keeps 0x5000000000000000000000000000000000000000000000000000f00f9007e00000000000000000000000000000000000000000000000000000000000700070003000000000000000000000000000000000000000f00db00010001000e0003000f00000000000000000000000000000000000000000000000b0007000300070001000000000000000000000000000000000000000000000000000000000000000001fbedff s (State.writeHeadReg s h off v) := by
  unfold State.writeHeadReg
  repeat' first
      | with_reducible exact Keeps.refl
      | with_reducible assumption
      | with_reducible refine Keeps.ite ?_ ?_
      | (with_reducible apply Keeps.step (State.setHead_keeps ..); · decide)
      | (with_reducible apply Keeps.step (registerArm_keeps ..); · decide)
      | extract_lets
      | intro _
      | split
      | (dsimp +zetaDelta only; split)

theorem State.doorbell_keeps (s : State) (v : Word) : Keeps 0x5000000000000000000000000000000000000000000000000000f00ff007c00010000000000000000000000000000000000000000000000000000000700070003000000000000000000000000000000000000000f00db00010001000f0007000f00000000000000000000000000000000000000000000000b0007000300070001000000000000000000000000000000000000000000000000000000000000000001ffefff s (State.doorbell s v) := by
  unfold State.doorbell
  repeat' first
      | with_reducible exact Keeps.refl
      | with_reducible assumption
      | with_reducible refine Keeps.ite ?_ ?_
      | (with_reducible apply Keeps.step (State.eopCount_keeps ..); · decide)
      | extract_lets
      | intro _
      | split
      | (with_reducible apply Keeps.set_eop; (case h0 => decide))
      | (dsimp +zetaDelta only; split)

theorem State.writeEopReg_keeps (s : State) (off : Nat) (v : Word) : Keeps 0x5000000000000000000000000000000000000000000000000000f00ff007c00010000000000000000000000000000000000000000000000000000000700070003000000000000000000000000000000000000000f00db00010001000f0007000f00000000000000000000000000000000000000000000000b0007000300070001000000000000000000000000000000000000000000000000000000000000000001ffefff s (State.writeEopReg s off v) := by
  unfold State.writeEopReg
  repeat' first
      | with_reducible exact Keeps.refl
      | with_reducible assumption
      | with_reducible refine Keeps.ite ?_ ?_
      | (with_reducible apply Keeps.step (State.doorbell_keeps ..); · decide)
      | extract_lets
      | intro _
      | split
      | (with_reducible apply Keeps.set_eop; (case h0 => decide))
      | (dsimp +zetaDelta only; split)

theorem State.writeAon_keeps (s : State) (off : Nat) (v : Word) : Keeps 0x5000000000000000000000000000000000000000000000000000f00ff007e00010000000000000000000000000000000000000000000000000000000700070003000000000000000000000000000000000000000f00db00010001000f0007000f00000000000000000000000000000000000000000000000b0007000300070000000000000000000000000000000000000000000000000000000000000000000001feef1f s (State.writeAon s off v) := by
  unfold State.writeAon
  repeat' first
      | with_reducible exact Keeps.refl
      | with_reducible assumption
      | with_reducible refine Keeps.ite ?_ ?_
      | (with_reducible apply Keeps.step (execAonReset_keeps ..); · decide)
      | extract_lets
      | intro _
      | split
      | (with_reducible apply Keeps.set_aon; (case h0 => decide))
      | (dsimp +zetaDelta only; split)

theorem State.writePlain_keeps (s : State) (b off : Nat) (v : Word) : Keeps 0x5000000000000000000000000000000000000000000000000000f00f9007c00000000000000000000000000000000000000000000000000000000000700070003000000000000000000000000000000000000000f00db00010001000e0003000f00000000000000000000000000000000000000000000000b0007000300070000000000000000000000000000000000000000000000000000000000000000000001eac81f s (State.writePlain s b off v) := by
  unfold State.writePlain
  repeat' first
      | with_reducible exact Keeps.refl
      | with_reducible assumption
      | with_reducible refine Keeps.ite ?_ ?_
      | (with_reducible apply Keeps.step (snapWrite_keeps ..); · decide)
      | (with_reducible apply Keeps.step (State.setQuire_keeps ..); · decide)
      | (with_reducible apply Keeps.step (State.writeSys_keeps ..); · decide)
      | (with_reducible apply Keeps.step (State.writeEvt_keeps ..); · decide)
      | (with_reducible apply Keeps.step (State.popCq_keeps ..); · decide)
      | (with_reducible apply Keeps.step (State.writeHeadReg_keeps ..); · decide)
      | (with_reducible apply Keeps.step (State.writeEopReg_keeps ..); · decide)
      | (with_reducible apply Keeps.step (State.writeAon_keeps ..); · decide)
      | extract_lets
      | intro _
      | split
      | (dsimp +zetaDelta only; split)

theorem State.writeReg_keeps (s : State) (p : Path) (b off : Nat) (v : Word) {t : State} (he : s.writeReg p b off v = some t) :
    Keeps 0x1eac01b s t := by
  unfold State.writeReg at he
  split at he
  · contradiction
  split at he
  · cases he; exact Keeps.refl
  split at he
  · cases he; exact (State.setCulvert_keeps ..).weaken (by decide)
  split at he
  · split at he
    · exact (State.culvCoreWrite_keeps (he := he) ..).weaken (by decide)
    · split at he
      · cases he
        exact Keeps.step (State.lockViolation_keeps ..) (by decide) ((State.culvSkip_keeps ..).weaken (by decide))
      · contradiction
  split at he
  · cases he; exact Keeps.refl
  split at he
  · cases he; exact (State.writePlain_keeps ..).weaken (by decide)
  · contradiction

end Sys2Proof.Machine
end

