-- ==== Sys2Proof/Laws/KeepsHspi.lean ====
section
/-! SUPPORT. What each operation of Machine/Hspi.lean leaves alone. -/

set_option linter.all false
namespace Sys2Proof.Machine

theorem State.readVaultWord_keeps (s : State) (x : Nat) : Keeps 0x5000000000000000000000000000000000000000000000000000d00ff007e00010000000000000000000000000000000000000000000000000000000700070003000000000000000000000000000000000000000f00db00010001000f0007000f00000000000000000000000000000000000000000000000b0007000300070001000000000000000000000000000000000000000000000000000000000000000001ffffff s (State.readVaultWord s x).2 := by
  unfold State.readVaultWord
  repeat' first
      | with_reducible exact Keeps.refl
      | with_reducible assumption
      | with_reducible refine Keeps.ite ?_ ?_
      | with_reducible refine Keeps.ite_snd ?_ ?_
      | (with_reducible apply Keeps.step (State.unwrittenRead_keeps ..); · decide)
      | extract_lets
      | intro _
      | split
      | (dsimp +zetaDelta only; split)

theorem State.readVaultWord_keeps' (s : State) (x : Nat) {α_ : _} {t_ : State} (he : State.readVaultWord s x = (α_, t_)) : Keeps 0x5000000000000000000000000000000000000000000000000000d00ff007e00010000000000000000000000000000000000000000000000000000000700070003000000000000000000000000000000000000000f00db00010001000f0007000f00000000000000000000000000000000000000000000000b0007000300070001000000000000000000000000000000000000000000000000000000000000000001ffffff s t_ := by
  have h := State.readVaultWord_keeps s x
  rw [he] at h
  exact h

theorem State.readDramWord_keeps (s : State) (x : Nat) : Keeps 0x5000000000000000000000000000000000000000000000000000d00ff007e00010000000000000000000000000000000000000000000000000000000700070003000000000000000000000000000000000000000f00db00010001000f0007000f00000000000000000000000000000000000000000000000b0007000300070001000000000000000000000000000000000000000000000000000000000000000001ffffff s (State.readDramWord s x).2 := by
  unfold State.readDramWord
  repeat' first
      | with_reducible exact Keeps.refl
      | with_reducible assumption
      | with_reducible refine Keeps.ite ?_ ?_
      | with_reducible refine Keeps.ite_snd ?_ ?_
      | (with_reducible apply Keeps.step (State.unwrittenRead_keeps ..); · decide)
      | extract_lets
      | intro _
      | split
      | (dsimp +zetaDelta only; split)

theorem State.readDramWord_keeps' (s : State) (x : Nat) {α_ : _} {t_ : State} (he : State.readDramWord s x = (α_, t_)) : Keeps 0x5000000000000000000000000000000000000000000000000000d00ff007e00010000000000000000000000000000000000000000000000000000000700070003000000000000000000000000000000000000000f00db00010001000f0007000f00000000000000000000000000000000000000000000000b0007000300070001000000000000000000000000000000000000000000000000000000000000000001ffffff s t_ := by
  have h := State.readDramWord_keeps s x
  rw [he] at h
  exact h

theorem State.setHspi_keeps (s : State) (x : Hspi) : Keeps 0x5000000000000000000000000000000000000000000000000000f00ff007e00010000000000000000000000000000000000000000000000000000000700070003000000000000000000000000000000000000000f00db00010001000f0007000f00000000000000000000000000000000000000000000000b0007000300070001000000000000000000000000000000000000000000000000000000000000000001fff7ff s (State.setHspi s x) := by
  unfold State.setHspi
  repeat' first
      | with_reducible exact Keeps.refl
      | with_reducible assumption
      | with_reducible refine Keeps.ite ?_ ?_
      | extract_lets
      | intro _
      | split
      | (with_reducible apply Keeps.set_hspi; (case h0 => decide))
      | (dsimp +zetaDelta only; split)

theorem State.hspiSettle_keeps (s : State) : Keeps 0x5000000000000000000000000000000000000000000000000000f00ff007e00010000000000000000000000000000000000000000000000000000000700070003000000000000000000000000000000000000000f00db00010001000f0007000f00000000000000000000000000000000000000000000000b0007000300070001000000000000000000000000000000000000000000000000000000000000000001fff7ff s (State.hspiSettle s) := by
  unfold State.hspiSettle
  repeat' first
      | with_reducible exact Keeps.refl
      | with_reducible assumption
      | with_reducible refine Keeps.ite ?_ ?_
      | (with_reducible apply Keeps.step (State.setHspi_keeps ..); · decide)
      | extract_lets
      | intro _
      | split
      | (dsimp +zetaDelta only; split)

theorem State.hspiBegin_keeps (s : State) : Keeps 0x5000000000000000000000000000000000000000000000000000f00ff007e00010000000000000000000000000000000000000000000000000000000700070003000000000000000000000000000000000000000f00db00010001000f0007000f00000000000000000000000000000000000000000000000b0007000300070001000000000000000000000000000000000000000000000000000000000000000001fff7ff s (State.hspiBegin s) := by
  unfold State.hspiBegin
  repeat' first
      | with_reducible exact Keeps.refl
      | with_reducible assumption
      | with_reducible refine Keeps.ite ?_ ?_
      | (with_reducible apply Keeps.step (State.setHspi_keeps ..); · decide)
      | extract_lets
      | intro _
      | split
      | (dsimp +zetaDelta only; split)

theorem State.hspiIgnored_keeps (s : State) : Keeps 0x5000000000000000000000000000000000000000000000000000f00ff007e00000000000000000000000000000000000000000000000000000000000700070003000000000000000000000000000000000000000f00db00010001000f0007000f00000000000000000000000000000000000000000000000b0007000300070001000000000000000000000000000000000000000000000000000000000000000001fff7ff s (State.hspiIgnored s) := by
  unfold State.hspiIgnored
  repeat' first
      | with_reducible exact Keeps.refl
      | with_reducible assumption
      | with_reducible refine Keeps.ite ?_ ?_
      | (with_reducible apply Keeps.bump; · decide)
      | (with_reducible apply Keeps.step (State.setHspi_keeps ..); · decide)
      | (with_reducible apply Keeps.step (State.hspiBegin_keeps ..); · decide)
      | extract_lets
      | intro _
      | split
      | (dsimp +zetaDelta only; split)

theorem State.hspiLate_keeps (s : State) (a : Nat) : Keeps 0x5000000000000000000000000000000000000000000000000000f00ff007e00000000000000000000000000000000000000000000000000000000000700070003000000000000000000000000000000000000000f00db00010001000f0007000f00000000000000000000000000000000000000000000000b0007000300070001000000000000000000000000000000000000000000000000000000000000000001fff3ff s (State.hspiLate s a) := by
  unfold State.hspiLate
  repeat' first
      | with_reducible exact Keeps.refl
      | with_reducible assumption
      | with_reducible refine Keeps.ite ?_ ?_
      | (with_reducible apply Keeps.bump; · decide)
      | (with_reducible apply Keeps.step (State.setHspi_keeps ..); · decide)
      | extract_lets
      | intro _
      | split
      | (with_reducible apply Keeps.set_sys; (case h0 => decide))
      | (dsimp +zetaDelta only; split)

theorem State.drawLate_keeps (s : State) : Keeps 0x5000000000000000000000000000000000000000000000000000f00ff007e00010000000000000000000000000000000000000000000000000000000700070003000000000000000000000000000000000000000f00db00010001000f0007000f00000000000000000000000000000000000000000000000b0007000300070001000000000000000000000000000000000000000000000000000000000000000001fffffb s (State.drawLate s).2 := by
  unfold State.drawLate
  repeat' first
      | with_reducible exact Keeps.refl
      | with_reducible assumption
      | with_reducible refine Keeps.ite ?_ ?_
      | with_reducible refine Keeps.ite_snd ?_ ?_
      | (with_reducible apply Keeps.step (State.drawNat_keeps ..); · decide)
      | extract_lets
      | intro _
      | split
      | (dsimp +zetaDelta only; split)

theorem State.drawLate_keeps' (s : State) {α_ : _} {t_ : State} (he : State.drawLate s = (α_, t_)) : Keeps 0x5000000000000000000000000000000000000000000000000000f00ff007e00010000000000000000000000000000000000000000000000000000000700070003000000000000000000000000000000000000000f00db00010001000f0007000f00000000000000000000000000000000000000000000000b0007000300070001000000000000000000000000000000000000000000000000000000000000000001fffffb s t_ := by
  have h := State.drawLate_keeps s
  rw [he] at h
  exact h

theorem Fetch.of_keeps {m : Nat} {s : State} {x : Option Word × State} (h : Keeps m s x.2) : Keeps m s (Fetch.of x).2 := by
  obtain ⟨o, t⟩ := x
  cases o <;> exact h

theorem State.culvPending_keeps (s : State) (b : Nat) (v : Bool) : Keeps 0x5000000000000000000000000000000000000000000000000000f00ff007e00010000000000000000000000000000000000000000000000000000000700070003000000000000000000000000000000000000000f00db00010001000f0007000f00000000000000000000000000000000000000000000000b0007000300070001000000000000000000000000000000000000000000000000000000000000000001fff7ff s (State.culvPending s b v) := by
  unfold State.culvPending
  repeat' first
      | with_reducible exact Keeps.refl
      | with_reducible assumption
      | with_reducible refine Keeps.ite ?_ ?_
      | (with_reducible apply Keeps.step (State.setCulvert_keeps ..); · decide)
      | extract_lets
      | intro _
      | split
      | (dsimp +zetaDelta only; split)

theorem State.culvDone_keeps (s : State) (b : Nat) : Keeps 0x5000000000000000000000000000000000000000000000000000f00ff007e00010000000000000000000000000000000000000000000000000000000700070003000000000000000000000000000000000000000f00db00010001000f0007000f00000000000000000000000000000000000000000000000b0007000300070001000000000000000000000000000000000000000000000000000000000000000001fff7ff s (State.culvDone s b) := by
  unfold State.culvDone
  repeat' first
      | with_reducible exact Keeps.refl
      | with_reducible assumption
      | with_reducible refine Keeps.ite ?_ ?_
      | (with_reducible apply Keeps.step (State.setCulvert_keeps ..); · decide)
      | extract_lets
      | intro _
      | split
      | (dsimp +zetaDelta only; split)

theorem State.hspiFetch_keeps (s : State) (a : Nat) : Keeps 0x5000000000000000000000000000000000000000000000000000d00ff007e00010000000000000000000000000000000000000000000000000000000700070003000000000000000000000000000000000000000f00db00010001000f0007000f00000000000000000000000000000000000000000000000b0007000300070001000000000000000000000000000000000000000000000000000000000000000001fff7fb s (State.hspiFetch s a).2 := by
  unfold State.hspiFetch
  repeat' first
      | with_reducible exact Keeps.refl
      | with_reducible assumption
      | with_reducible refine Keeps.ite ?_ ?_
      | with_reducible refine Keeps.ite_snd ?_ ?_
      | (with_reducible apply Keeps.step (State.readReg_keeps' (he := by assumption) ..); · decide)
      | (with_reducible apply Keeps.step (State.readReg_keeps ..); · decide)
      | (with_reducible apply Keeps.step (State.readVaultWord_keeps' (he := by assumption) ..); · decide)
      | (with_reducible apply Keeps.step (State.readVaultWord_keeps ..); · decide)
      | (with_reducible apply Keeps.step (State.readDramWord_keeps' (he := by assumption) ..); · decide)
      | (with_reducible apply Keeps.step (State.readDramWord_keeps ..); · decide)
      | (with_reducible apply Keeps.step (State.drawLate_keeps' (he := by assumption) ..); · decide)
      | (with_reducible apply Keeps.step (State.drawLate_keeps ..); · decide)
      | (with_reducible refine Fetch.of_keeps ?_)
      | (with_reducible apply Keeps.step (State.culvPending_keeps ..); · decide)
      | extract_lets
      | intro _
      | split
      | (dsimp +zetaDelta only; split)

theorem State.hspiFetch_keeps' (s : State) (a : Nat) {α_ : _} {t_ : State} (he : State.hspiFetch s a = (α_, t_)) : Keeps 0x5000000000000000000000000000000000000000000000000000d00ff007e00010000000000000000000000000000000000000000000000000000000700070003000000000000000000000000000000000000000f00db00010001000f0007000f00000000000000000000000000000000000000000000000b0007000300070001000000000000000000000000000000000000000000000000000000000000000001fff7fb s t_ := by
  have h := State.hspiFetch_keeps s a
  rw [he] at h
  exact h

theorem State.takeBuffer_keeps (s : State) (a : Nat) {w : Word} {t : State} (he : s.takeBuffer a = some (w, t)) :
    Keeps 0x5000000000000000000000000000000000000000000000000000f00ff007e00010000000000000000000000000000000000000000000000000000000700070003000000000000000000000000000000000000000f00db00010001000f0007000f00000000000000000000000000000000000000000000000b0007000300070001000000000000000000000000000000000000000000000000000000000000000001fff7ff s t := by
  unfold State.takeBuffer at he
  split at he
  · split at he
    · cases he; exact (State.setHspi_keeps ..).weaken (by decide)
    · contradiction
  · contradiction

theorem Burst.read_keeps (x : Burst) : Keeps 0x5000000000000000000000000000000000000000000000000000d00ff007e00000000000000000000000000000000000000000000000000000000000700070003000000000000000000000000000000000000000f00db00010001000f0007000f00000000000000000000000000000000000000000000000b0007000300070001000000000000000000000000000000000000000000000000000000000000000001fff3fb x.st x.read.st := by
  unfold Burst.read
  extract_lets n
  split
  · exact Keeps.refl
  split
  · exact Keeps.refl
  · split
    · exact (State.takeBuffer_keeps (he := by assumption) ..).weaken (by decide)
    · split
      · exact (State.hspiFetch_keeps' (he := by assumption) ..).weaken (by decide)
      · exact Keeps.step (State.hspiLate_keeps ..) (by decide) ((State.hspiFetch_keeps' (he := by assumption) ..).weaken (by decide))
      · exact Keeps.step (State.hspiBusError_keeps ..) (by decide) ((State.hspiFetch_keeps' (he := by assumption) ..).weaken (by decide))
      · exact (State.hspiFetch_keeps' (he := by assumption) ..).weaken (by decide)

theorem Burst.reads_keeps (n : Nat) (x : Burst) : Keeps 0x5000000000000000000000000000000000000000000000000000d00ff007e00000000000000000000000000000000000000000000000000000000000700070003000000000000000000000000000000000000000f00db00010001000f0007000f00000000000000000000000000000000000000000000000b0007000300070001000000000000000000000000000000000000000000000000000000000000000001fff3fb x.st (Burst.reads n x).st := by
  induction n generalizing x with
  | zero => exact Keeps.refl
  | succ n ih => exact Keeps.step (ih _) (by decide) ((Burst.read_keeps x).weaken (by decide))

theorem State.keepBuffer_keeps (s : State) (a : Word) : Keeps 0x5000000000000000000000000000000000000000000000000000f00ff007e00010000000000000000000000000000000000000000000000000000000700070003000000000000000000000000000000000000000f00db00010001000f0007000f00000000000000000000000000000000000000000000000b0007000300070001000000000000000000000000000000000000000000000000000000000000000001fff7ff s (State.keepBuffer s a) := by
  unfold State.keepBuffer
  repeat' first
      | with_reducible exact Keeps.refl
      | with_reducible assumption
      | with_reducible refine Keeps.ite ?_ ?_
      | (with_reducible apply Keeps.step (State.setHspi_keeps ..); · decide)
      | extract_lets
      | intro _
      | split
      | (dsimp +zetaDelta only; split)

theorem execReadBurst_keeps (addr : Word) (words : Nat) (s : State) : Keeps 0x5000000000000000000000000000000000000000000000000000d00ff007e00000000000000000000000000000000000000000000000000000000000700070003000000000000000000000000000000000000000f00db00010001000f0007000f00000000000000000000000000000000000000000000000b0007000300070001000000000000000000000000000000000000000000000000000000000000000001fff3fb s (execReadBurst addr words s) := by
  unfold execReadBurst
  repeat' first
      | with_reducible exact Keeps.refl
      | with_reducible assumption
      | with_reducible refine Keeps.ite ?_ ?_
      | (with_reducible apply Keeps.step (State.hspiBusError_keeps ..); · decide)
      | (with_reducible apply Keeps.step (State.setHspi_keeps ..); · decide)
      | (with_reducible apply Keeps.step (State.hspiSettle_keeps ..); · decide)
      | (with_reducible apply Keeps.step (State.hspiBegin_keeps ..); · decide)
      | (with_reducible apply Keeps.step (State.hspiIgnored_keeps ..); · decide)
      | (with_reducible apply Keeps.step (Burst.reads_keeps ..); · decide)
      | (with_reducible apply Keeps.step (State.keepBuffer_keeps ..); · decide)
      | extract_lets
      | intro _
      | split
      | (dsimp +zetaDelta only; split)

theorem State.hspiPut_keeps (s : State) (a : Nat) (v : Word) {t : State} (he : s.hspiPut a v = some t) :
    Keeps 0x1ea4003 s t := by
  unfold State.hspiPut at he
  split at he
  · cases he; exact Keeps.refl
  split at he
  · exact (State.writeReg_keeps (he := he) ..).weaken (by decide)
  · split at he
    · split at he
      · cases he; exact (State.vaultPut_keeps ..).weaken (by decide)
      · contradiction
    · obtain ⟨x, _, rfl⟩ := Option.map_eq_some_iff.1 he
      exact (State.dramPut_keeps ..).weaken (by decide)

theorem State.missed_keeps (s : State) (a : Nat) : Keeps 0x5000000000000000000000000000000000000000000000000000f00ff007e00010000000000000000000000000000000000000000000000000000000700070003000000000000000000000000000000000000000f00db00010001000f0007000f00000000000000000000000000000000000000000000000b0007000300070001000000000000000000000000000000000000000000000000000000000000000001fff7ff s (State.missed s a) := by
  unfold State.missed
  repeat' first
      | with_reducible exact Keeps.refl
      | with_reducible assumption
      | with_reducible refine Keeps.ite ?_ ?_
      | (with_reducible apply Keeps.step (State.culvSkip_keeps ..); · decide)
      | extract_lets
      | intro _
      | split
      | (dsimp +zetaDelta only; split)

theorem Burst.write_keeps (x : Burst) (v : Word) : Keeps 0x1ea4003 x.st (x.write v).st := by
  have hp : Keeps 0x1ea4003 x.st (x.st.setHspi { x.st.hspi with posted := x.st.hspi.posted ++ [(wd x.addr, v)] }) := (State.setHspi_keeps ..).weaken (by decide)
  unfold Burst.write
  dsimp only
  have hb : ∀ y, Keeps 0x1ea4003 x.st y → Keeps 0x1ea4003 x.st (y.hspiBusError (wd x.addr)) := fun y h =>
    Keeps.step (State.hspiBusError_keeps ..) (by decide) h
  split
  · split
    · exact hp
    · split
      · exact (State.hspiPut_keeps (he := by assumption) ..).weaken (by decide)
      · exact hb _ ((State.missed_keeps ..).weaken (by decide))
  · split
    · exact hp
    · split
      · exact (State.hspiPut_keeps (he := by assumption) ..).weaken (by decide)
      · exact hb _ Keeps.refl

theorem Burst.writes_keeps (l : List Word) (x : Burst) : Keeps 0x1ea4003 x.st (l.foldl Burst.write x).st := by
  induction l generalizing x with
  | nil => exact Keeps.refl
  | cons v l ih => exact Keeps.step (ih _) (by decide) (Burst.write_keeps x v)

theorem execWriteBurst_keeps (addr : Word) (data : List Word) (s : State) : Keeps 0x1ea4003 s (execWriteBurst addr data s) := by
  unfold execWriteBurst
  repeat' first
      | with_reducible exact Keeps.refl
      | with_reducible assumption
      | with_reducible refine Keeps.ite ?_ ?_
      | (with_reducible apply Keeps.step (State.hspiBusError_keeps ..); · decide)
      | (with_reducible apply Keeps.step (State.setHspi_keeps ..); · decide)
      | (with_reducible apply Keeps.step (State.hspiSettle_keeps ..); · decide)
      | (with_reducible apply Keeps.step (State.hspiBegin_keeps ..); · decide)
      | (with_reducible apply Keeps.step (State.hspiIgnored_keeps ..); · decide)
      | (with_reducible apply Keeps.step (Burst.writes_keeps ..); · decide)
      | (with_reducible refine Keeps.foldl (fun _ _ _ => ?_) ?_)
      | extract_lets
      | intro _
      | split
      | (dsimp +zetaDelta only; split)

theorem execHspiStatus_keeps (s : State) : Keeps 0x5000000000000000000000000000000000000000000000000000f00ff007e00010000000000000000000000000000000000000000000000000000000700070003000000000000000000000000000000000000000f00db00010001000f0007000f00000000000000000000000000000000000000000000000b0007000300070001000000000000000000000000000000000000000000000000000000000000000001fff7ff s (execHspiStatus s) := by
  unfold execHspiStatus
  repeat' first
      | with_reducible exact Keeps.refl
      | with_reducible assumption
      | with_reducible refine Keeps.ite ?_ ?_
      | (with_reducible apply Keeps.step (State.setHspi_keeps ..); · decide)
      | extract_lets
      | intro _
      | split
      | (dsimp +zetaDelta only; split)

theorem execUnknownOpcode_keeps (op : Option Nat) (s : State) : Keeps 0x5000000000000000000000000000000000000000000000000000f00ff007e00000000000000000000000000000000000000000000000000000000000700070003000000000000000000000000000000000000000f00db00010001000f0007000f00000000000000000000000000000000000000000000000b0007000300070001000000000000000000000000000000000000000000000000000000000000000001fff7ff s (execUnknownOpcode op s) := by
  unfold execUnknownOpcode
  repeat' first
      | with_reducible exact Keeps.refl
      | with_reducible assumption
      | with_reducible refine Keeps.ite ?_ ?_
      | (with_reducible apply Keeps.step (State.setHspi_keeps ..); · decide)
      | (with_reducible apply Keeps.step (State.hspiBegin_keeps ..); · decide)
      | (with_reducible apply Keeps.step (State.hspiIgnored_keeps ..); · decide)
      | extract_lets
      | intro _
      | split
      | (dsimp +zetaDelta only; split)

theorem Keeps.foldl_snd {α β : Type} {m : Nat} {s : State} {f : α × State → β → α × State} {l : List β} {x : α × State}
    (hf : ∀ y b, Keeps m s y.2 → Keeps m s (f y b).2) (h : Keeps m s x.2) : Keeps m s (l.foldl f x).2 := by
  induction l generalizing x with
  | nil => exact h
  | cons b l ih => exact ih (hf x b h)

theorem State.fetchLine_keeps (s : State) (a x : Nat) : Keeps 0x5000000000000000000000000000000000000000000000000000d00ff007e00010000000000000000000000000000000000000000000000000000000700070003000000000000000000000000000000000000000f00db00010001000f0007000f00000000000000000000000000000000000000000000000b0007000300070001000000000000000000000000000000000000000000000000000000000000000001ffffff s (s.fetchLine a x).2 :=
  Keeps.foldl_snd (fun _ _ hy => Keeps.step (State.readDramWord_keeps ..) (by decide) hy) Keeps.refl

theorem execLateFetchDone_keeps (s : State) : Keeps 0x5000000000000000000000000000000000000000000000000000d00ff007e00010000000000000000000000000000000000000000000000000000000700070003000000000000000000000000000000000000000f00db00010001000f0007000f00000000000000000000000000000000000000000000000b0007000300070001000000000000000000000000000000000000000000000000000000000000000001fff7ff s (execLateFetchDone s) := by
  unfold execLateFetchDone
  repeat' first
      | with_reducible exact Keeps.refl
      | with_reducible assumption
      | with_reducible refine Keeps.ite ?_ ?_
      | (with_reducible apply Keeps.step (State.readReg_keeps' (he := by assumption) ..); · decide)
      | (with_reducible apply Keeps.step (State.readReg_keeps ..); · decide)
      | (with_reducible apply Keeps.step (State.setHspi_keeps ..); · decide)
      | (with_reducible apply Keeps.step (State.hspiSettle_keeps ..); · decide)
      | (with_reducible apply Keeps.step (State.culvDone_keeps ..); · decide)
      | (with_reducible apply Keeps.step (State.fetchLine_keeps ..); · decide)
      | extract_lets
      | intro _
      | split
      | (dsimp +zetaDelta only; split)

theorem State.waitsFor_keeps (s : State) (a : Nat) : Keeps 0x5000000000000000000000000000000000000000000000000000f00ff007e00010000000000000000000000000000000000000000000000000000000700070003000000000000000000000000000000000000000f00db00010001000f0007000f00000000000000000000000000000000000000000000000b0007000300070001000000000000000000000000000000000000000000000000000000000000000001fff7ff s (State.waitsFor s a) := by
  unfold State.waitsFor
  repeat' first
      | with_reducible exact Keeps.refl
      | with_reducible assumption
      | with_reducible refine Keeps.ite ?_ ?_
      | (with_reducible apply Keeps.step (State.culvDone_keeps ..); · decide)
      | extract_lets
      | intro _
      | split
      | (dsimp +zetaDelta only; split)

theorem execPostedWriteDone_keeps (s : State) : Keeps 0x1ea4003 s (execPostedWriteDone s) := by
  unfold execPostedWriteDone
  split
  · exact Keeps.refl
  split
  · exact Keeps.refl
  · extract_lets _src s1 s2
    have h0 : Keeps 0x1ea4003 s s1 := (State.setHspi_keeps ..).weaken (by decide)
    have h1 : Keeps 0x1ea4003 s s2 := Keeps.step (State.waitsFor_keeps s1 _) (by decide) h0
    clear_value s2
    refine Keeps.step (State.hspiSettle_keeps ..) (by decide) ?_
    cases he : s2.hspiPut _ _ with
    | none => exact Keeps.step (State.hspiBusError_keeps ..) (by decide) (Keeps.step (State.missed_keeps ..) (by decide) h1)
    | some t => exact Keeps.step (State.hspiPut_keeps (he := he) ..) (by decide) h1

theorem State.waitPending_keeps (s : State) (b off : Nat) : Keeps 0x5000000000000000000000000000000000000000000000000000d00ff007e00010000000000000000000000000000000000000000000000000000000700070003000000000000000000000000000000000000000f00db00010001000f0007000f00000000000000000000000000000000000000000000000b0007000300070001000000000000000000000000000000000000000000000000000000000000000001fff7ff s (State.waitPending s b off) := by
  unfold State.waitPending
  repeat' first
      | with_reducible exact Keeps.refl
      | with_reducible assumption
      | with_reducible refine Keeps.ite ?_ ?_
      | (with_reducible apply Keeps.step (State.culvDone_keeps ..); · decide)
      | (with_reducible apply Keeps.step (execLateFetchDone_keeps ..); · decide)
      | extract_lets
      | intro _
      | split
      | (dsimp +zetaDelta only; split)

theorem State.coreFetch_keeps (s : State) (a : Nat) : Keeps 0x5000000000000000000000000000000000000000000000000000d00ff007e00010000000000000000000000000000000000000000000000000000000700070003000000000000000000000000000000000000000f00db00010001000f0007000f00000000000000000000000000000000000000000000000b0007000300070001000000000000000000000000000000000000000000000000000000000000000001fff7fb s (State.coreFetch s a).2 := by
  unfold State.coreFetch
  repeat' first
      | with_reducible exact Keeps.refl
      | with_reducible assumption
      | with_reducible refine Keeps.ite ?_ ?_
      | with_reducible refine Keeps.ite_snd ?_ ?_
      | (with_reducible apply Keeps.step (State.drawNat_keeps' (he := by assumption) ..); · decide)
      | (with_reducible apply Keeps.step (State.drawNat_keeps ..); · decide)
      | (with_reducible apply Keeps.step (State.readReg_keeps' (he := by assumption) ..); · decide)
      | (with_reducible apply Keeps.step (State.readReg_keeps ..); · decide)
      | (with_reducible apply Keeps.step (State.readVaultWord_keeps' (he := by assumption) ..); · decide)
      | (with_reducible apply Keeps.step (State.readVaultWord_keeps ..); · decide)
      | (with_reducible apply Keeps.step (State.readDramWord_keeps' (he := by assumption) ..); · decide)
      | (with_reducible apply Keeps.step (State.readDramWord_keeps ..); · decide)
      | (with_reducible apply Keeps.step (State.waitPending_keeps ..); · decide)
      | extract_lets
      | intro _
      | split
      | (dsimp +zetaDelta only; split)

theorem State.coreFetch_keeps' (s : State) (a : Nat) {α_ : _} {t_ : State} (he : State.coreFetch s a = (α_, t_)) : Keeps 0x5000000000000000000000000000000000000000000000000000d00ff007e00010000000000000000000000000000000000000000000000000000000700070003000000000000000000000000000000000000000f00db00010001000f0007000f00000000000000000000000000000000000000000000000b0007000300070001000000000000000000000000000000000000000000000000000000000000000001fff7fb s t_ := by
  have h := State.coreFetch_keeps s a
  rw [he] at h
  exact h

theorem State.coreRead_keeps (s : State) (a : Word) : Keeps 0x5000000000000000000000000000000000000000000000000000d00ff007e00000000000000000000000000000000000000000000000000000000000700070003000000000000000000000000000000000000000f00db00010001000f0007000f00000000000000000000000000000000000000000000000b0007000300070001000000000000000000000000000000000000000000000000000000000000000001fff7fb s (State.coreRead s a) := by
  unfold State.coreRead
  repeat' first
      | with_reducible exact Keeps.refl
      | with_reducible assumption
      | with_reducible refine Keeps.ite ?_ ?_
      | (with_reducible apply Keeps.step (State.coreBusError_keeps ..); · decide)
      | (with_reducible apply Keeps.step (State.coreFetch_keeps' (he := by assumption) ..); · decide)
      | (with_reducible apply Keeps.step (State.coreFetch_keeps ..); · decide)
      | extract_lets
      | intro _
      | split
      | (with_reducible apply Keeps.set_hspi; (case h0 => decide))
      | (dsimp +zetaDelta only; split)

theorem State.coreWrite_keeps (s : State) (a v : Word) : Keeps 0x1e80003 s (State.coreWrite s a v) := by
  unfold State.coreWrite
  repeat' first
      | with_reducible exact Keeps.refl
      | with_reducible assumption
      | with_reducible refine Keeps.ite ?_ ?_
      | (with_reducible apply Keeps.step (State.coreBusError_keeps ..); · decide)
      | (with_reducible apply Keeps.step (State.vaultSet_keeps ..); · decide)
      | (with_reducible apply Keeps.step (State.dramPut_keeps ..); · decide)
      | (with_reducible apply Keeps.step (State.writeReg_keeps (he := by assumption) ..); · decide)
      | (with_reducible apply Keeps.step (State.missed_keeps ..); · decide)
      | (with_reducible apply Keeps.step (State.waitPending_keeps ..); · decide)
      | extract_lets
      | intro _
      | split
      | (dsimp +zetaDelta only; split)

theorem State.windowRead_keeps (s : State) (b off : Nat) : Keeps 0x5000000000000000000000000000000000000000000000000000d00ff007e00000000000000000000000000000000000000000000000000000000000700070003000000000000000000000000000000000000000f00db00010001000f0007000f00000000000000000000000000000000000000000000000b0007000300070001000000000000000000000000000000000000000000000000000000000000000001ffe1ff s (State.windowRead s b off).2 := by
  unfold State.windowRead
  repeat' first
      | with_reducible exact Keeps.refl
      | with_reducible assumption
      | with_reducible refine Keeps.ite ?_ ?_
      | with_reducible refine Keeps.ite_snd ?_ ?_
      | (with_reducible apply Keeps.step (State.windowMissAt_keeps ..); · decide)
      | (with_reducible apply Keeps.step (State.readReg_keeps' (he := by assumption) ..); · decide)
      | (with_reducible apply Keeps.step (State.readReg_keeps ..); · decide)
      | (with_reducible apply Keeps.step (State.waitPending_keeps ..); · decide)
      | extract_lets
      | intro _
      | split
      | (dsimp +zetaDelta only; split)

theorem State.windowRead_keeps' (s : State) (b off : Nat) {α_ : _} {t_ : State} (he : State.windowRead s b off = (α_, t_)) : Keeps 0x5000000000000000000000000000000000000000000000000000d00ff007e00000000000000000000000000000000000000000000000000000000000700070003000000000000000000000000000000000000000f00db00010001000f0007000f00000000000000000000000000000000000000000000000b0007000300070001000000000000000000000000000000000000000000000000000000000000000001ffe1ff s t_ := by
  have h := State.windowRead_keeps s b off
  rw [he] at h
  exact h

theorem State.windowWrite_keeps (s : State) (b off : Nat) (v : Word) : Keeps 0x1eac01b s (State.windowWrite s b off v) := by
  unfold State.windowWrite
  repeat' first
      | with_reducible exact Keeps.refl
      | with_reducible assumption
      | with_reducible refine Keeps.ite ?_ ?_
      | (with_reducible apply Keeps.step (State.windowMissAt_keeps ..); · decide)
      | (with_reducible apply Keeps.step (State.writeReg_keeps (he := by assumption) ..); · decide)
      | (with_reducible apply Keeps.step (State.missed_keeps ..); · decide)
      | (with_reducible apply Keeps.step (State.waitPending_keeps ..); · decide)
      | extract_lets
      | intro _
      | split
      | (dsimp +zetaDelta only; split)

theorem State.accessRead_keeps (s : State) (p : Path) (a : Word) : Keeps 0x5000000000000000000000000000000000000000000000000000d00ff007e00000000000000000000000000000000000000000000000000000000000700070003000000000000000000000000000000000000000f00db00010001000f0007000f00000000000000000000000000000000000000000000000b0007000300070001000000000000000000000000000000000000000000000000000000000000000001ffe1fb s (State.accessRead s p a) := by
  unfold State.accessRead
  repeat' first
      | with_reducible exact Keeps.refl
      | with_reducible assumption
      | with_reducible refine Keeps.ite ?_ ?_
      | (with_reducible apply Keeps.step (State.coreBusError_keeps ..); · decide)
      | (with_reducible apply Keeps.step (execReadBurst_keeps ..); · decide)
      | (with_reducible apply Keeps.step (State.coreRead_keeps ..); · decide)
      | (with_reducible apply Keeps.step (State.windowRead_keeps' (he := by assumption) ..); · decide)
      | (with_reducible apply Keeps.step (State.windowRead_keeps ..); · decide)
      | extract_lets
      | intro _
      | split
      | (with_reducible apply Keeps.set_hspi; (case h0 => decide))
      | (dsimp +zetaDelta only; split)

theorem State.accessWrite_keeps (s : State) (p : Path) (a v : Word) : Keeps 0x1e80003 s (State.accessWrite s p a v) := by
  unfold State.accessWrite
  repeat' first
      | with_reducible exact Keeps.refl
      | with_reducible assumption
      | with_reducible refine Keeps.ite ?_ ?_
      | (with_reducible apply Keeps.step (State.coreBusError_keeps ..); · decide)
      | (with_reducible apply Keeps.step (execWriteBurst_keeps ..); · decide)
      | (with_reducible apply Keeps.step (State.coreWrite_keeps ..); · decide)
      | (with_reducible apply Keeps.step (State.windowWrite_keeps ..); · decide)
      | extract_lets
      | intro _
      | split
      | (dsimp +zetaDelta only; split)

end Sys2Proof.Machine
end

