-- ==== Sys2Proof/Laws/KeepsEop.lean ====
section
/-! SUPPORT. What each operation of Machine/Eop.lean leaves alone. -/

set_option linter.all false
namespace Sys2Proof.Machine

theorem State.answered_keeps (s : State) (a : Answer) : Keeps 0x5000000000000000000000000000000000000000000000000000f00ff007e00010000000000000000000000000000000000000000000000000000000700070003000000000000000000000000000000000000000f00db00010001000f0007000f00000000000000000000000000000000000000000000000b0007000300070001000000000000000000000000000000000000000000000000000000000000000001ffefff s (State.answered s a) := by
  unfold State.answered
  repeat' first
      | with_reducible exact Keeps.refl
      | with_reducible assumption
      | with_reducible refine Keeps.ite ?_ ?_
      | extract_lets
      | intro _
      | split
      | (with_reducible apply Keeps.set_eop; (case h0 => decide))
      | (dsimp +zetaDelta only; split)

theorem State.ack_keeps (s : State) (op : Nat) (m : EopMsg) (sl : Option Nat) (flags : Nat) (a : Answer) : Keeps 0x5000000000000000000000000000000000000000000000000000f00ff001e00000000000000000000000000000000000000000000000000000000000700070003000000000000000000000000000000000000000f00db00010001000f0007000f0000000000000000000000000000000000000000000000010007000300070001000000000000000000000000000000000000000000000000000000000000000001ff8dff s (State.ack s op m sl flags a) := by
  unfold State.ack
  repeat' first
      | with_reducible exact Keeps.refl
      | with_reducible assumption
      | with_reducible refine Keeps.ite ?_ ?_
      | (with_reducible apply Keeps.step (State.reply_keeps ..); · decide)
      | (with_reducible apply Keeps.step (State.answered_keeps ..); · decide)
      | extract_lets
      | intro _
      | split
      | (dsimp +zetaDelta only; split)

theorem State.helloAnswer_keeps (s : State) (m : EopMsg) (sl : Option Nat) (flags status sid : Nat) : Keeps 0x5000000000000000000000000000000000000000000000000000f00ff001e00000000000000000000000000000000000000000000000000000000000700070003000000000000000000000000000000000000000f00db00010001000f0007000f0000000000000000000000000000000000000000000000010007000300070001000000000000000000000000000000000000000000000000000000000000000001ff8dff s (State.helloAnswer s m sl flags status sid) := by
  unfold State.helloAnswer
  repeat' first
      | with_reducible exact Keeps.refl
      | with_reducible assumption
      | with_reducible refine Keeps.ite ?_ ?_
      | (with_reducible apply Keeps.step (State.reply_keeps ..); · decide)
      | (with_reducible apply Keeps.step (State.answered_keeps ..); · decide)
      | extract_lets
      | intro _
      | split
      | (dsimp +zetaDelta only; split)

theorem State.answerStatus_keeps (s : State) (op : Nat) (m : EopMsg) (sl : Option Nat) (flags status : Nat) (data : List Byte) : Keeps 0x5000000000000000000000000000000000000000000000000000f00ff001e00000000000000000000000000000000000000000000000000000000000700070003000000000000000000000000000000000000000f00db00010001000f0007000f0000000000000000000000000000000000000000000000010007000300070001000000000000000000000000000000000000000000000000000000000000000001ff8dff s (State.answerStatus s op m sl flags status data) := by
  unfold State.answerStatus
  repeat' first
      | with_reducible exact Keeps.refl
      | with_reducible assumption
      | with_reducible refine Keeps.ite ?_ ?_
      | (with_reducible apply Keeps.step (State.ack_keeps ..); · decide)
      | (with_reducible apply Keeps.step (State.helloAnswer_keeps ..); · decide)
      | extract_lets
      | intro _
      | split
      | (dsimp +zetaDelta only; split)

theorem State.failAnswer_keeps (s : State) (op : Nat) (m : EopMsg) (status : Nat) : Keeps 0x5000000000000000000000000000000000000000000000000000f00ff001c00000000000000000000000000000000000000000000000000000000000700070003000000000000000000000000000000000000000f00db00010001000f0007000f0000000000000000000000000000000000000000000000010007000300070001000000000000000000000000000000000000000000000000000000000000000001ff8dff s (State.failAnswer s op m status) := by
  unfold State.failAnswer
  repeat' first
      | with_reducible exact Keeps.refl
      | with_reducible assumption
      | with_reducible refine Keeps.ite ?_ ?_
      | (with_reducible apply Keeps.step (State.eopCount_keeps ..); · decide)
      | (with_reducible apply Keeps.step (State.answerStatus_keeps ..); · decide)
      | extract_lets
      | intro _
      | split
      | (with_reducible apply Keeps.set_eop; (case h0 => decide))
      | (dsimp +zetaDelta only; split)

theorem State.lastFail_keeps (s : State) (m : EopMsg) : Keeps 0x5000000000000000000000000000000000000000000000000000f00ff007c00010000000000000000000000000000000000000000000000000000000700070003000000000000000000000000000000000000000f00db00010001000f0007000f00000000000000000000000000000000000000000000000b0007000300070001000000000000000000000000000000000000000000000000000000000000000001ffffff s (State.lastFail s m) := by
  unfold State.lastFail
  repeat' first
      | with_reducible exact Keeps.refl
      | with_reducible assumption
      | with_reducible refine Keeps.ite ?_ ?_
      | (with_reducible apply Keeps.setFld; · decide)
      | extract_lets
      | intro _
      | split
      | (dsimp +zetaDelta only; split)

theorem State.checkSeal_keeps (s : State) (op : Nat) (m : EopMsg) : Keeps 0x5000000000000000000000000000000000000000000000000000f00ff001c00000000000000000000000000000000000000000000000000000000000700070003000000000000000000000000000000000000000f00db00010001000f0007000f0000000000000000000000000000000000000000000000010007000300070001000000000000000000000000000000000000000000000000000000000000000001ff8dff s (State.checkSeal s op m).2 := by
  unfold State.checkSeal
  repeat' first
      | with_reducible exact Keeps.refl
      | with_reducible assumption
      | with_reducible refine Keeps.ite ?_ ?_
      | with_reducible refine Keeps.ite_snd ?_ ?_
      | (with_reducible apply Keeps.step (State.raise_keeps ..); · decide)
      | (with_reducible apply Keeps.step (State.eopCount_keeps ..); · decide)
      | (with_reducible apply Keeps.step (State.answerStatus_keeps ..); · decide)
      | (with_reducible apply Keeps.step (State.failAnswer_keeps ..); · decide)
      | (with_reducible apply Keeps.step (State.lastFail_keeps ..); · decide)
      | extract_lets
      | intro _
      | split
      | (with_reducible apply Keeps.set_eop; (case h0 => decide))
      | (dsimp +zetaDelta only; split)

theorem State.checkSeal_keeps' (s : State) (op : Nat) (m : EopMsg) {α_ : _} {t_ : State} (he : State.checkSeal s op m = (α_, t_)) : Keeps 0x5000000000000000000000000000000000000000000000000000f00ff001c00000000000000000000000000000000000000000000000000000000000700070003000000000000000000000000000000000000000f00db00010001000f0007000f0000000000000000000000000000000000000000000000010007000300070001000000000000000000000000000000000000000000000000000000000000000001ff8dff s t_ := by
  have h := State.checkSeal_keeps s op m
  rw [he] at h
  exact h

theorem opStatus_keeps (s : State) (st : Nat) : Keeps 0x5000000000000000000000000000000000000000000000000000f00ff007e00010000000000000000000000000000000000000000000000000000000700070003000000000000000000000000000000000000000f00db00010001000f0007000f00000000000000000000000000000000000000000000000b0007000300070001000000000000000000000000000000000000000000000000000000000000000001ffffff s (opStatus s st).st := by
  unfold opStatus
  repeat' first
      | with_reducible exact Keeps.refl
      | with_reducible assumption
      | with_reducible refine Keeps.ite ?_ ?_
      | extract_lets
      | intro _
      | split
      | (dsimp +zetaDelta only; split)

theorem opData_keeps (s : State) (data : List Byte) : Keeps 0x5000000000000000000000000000000000000000000000000000f00ff007e00010000000000000000000000000000000000000000000000000000000700070003000000000000000000000000000000000000000f00db00010001000f0007000f00000000000000000000000000000000000000000000000b0007000300070001000000000000000000000000000000000000000000000000000000000000000001ffffff s (opData s data).st := by
  unfold opData
  repeat' first
      | with_reducible exact Keeps.refl
      | with_reducible assumption
      | with_reducible refine Keeps.ite ?_ ?_
      | extract_lets
      | intro _
      | split
      | (dsimp +zetaDelta only; split)

theorem WRes.op_keeps {m : Nat} {s : State} {r : WRes} (h : Keeps m s r.st) : Keeps m s r.op.st := h

theorem State.opRead_keeps (s : State) (w : Who) (pending : Bool) (p : List Byte) : Keeps 0x5000000000000000000000000000000000000000000000000000d00ff007e00010000000000000000000000000000000000000000000000000000000700070003000000000000000000000000000000000000000f00db00010001000f0007000f00000000000000000000000000000000000000000000000b0007000300070001000000000000000000000000000000000000000000000000000000000000000001fffefb s (State.opRead s w pending p).st := by
  unfold State.opRead
  repeat' first
      | with_reducible exact Keeps.refl
      | with_reducible assumption
      | with_reducible refine Keeps.ite ?_ ?_
      | (with_reducible apply Keeps.step (State.rowRead_keeps ..); · decide)
      | (with_reducible apply Keeps.step (opStatus_keeps ..); · decide)
      | (with_reducible apply Keeps.step (opData_keeps ..); · decide)
      | extract_lets
      | intro _
      | split
      | (dsimp +zetaDelta only; split)

theorem State.opWrite_keeps (s : State) (w : Who) (p : List Byte) : Keeps 0x401 s (State.opWrite s w p).st := by
  unfold State.opWrite
  repeat' first
      | with_reducible exact Keeps.refl
      | with_reducible assumption
      | with_reducible refine Keeps.ite ?_ ?_
      | (with_reducible apply Keeps.step (writeObj_keeps ..); · decide)
      | (with_reducible apply Keeps.step (writeSub0_keeps ..); · decide)
      | (with_reducible apply Keeps.step (opStatus_keeps ..); · decide)
      | (with_reducible refine WRes.op_keeps ?_)
      | extract_lets
      | intro _
      | split
      | (dsimp +zetaDelta only; split)

theorem State.readRows_keeps (s : State) (d : ObjDef) (o : Nat) (again : Bool) (n r : Nat) :
    Keeps 0x5000000000000000000000000000000000000000000000000000d00ff007e00010000000000000000000000000000000000000000000000000000000700070003000000000000000000000000000000000000000f00db00010001000f0007000f00000000000000000000000000000000000000000000000b0007000300070001000000000000000000000000000000000000000000000000000000000000000001fffefb s (s.readRows d o again n r).2 := by
  induction n generalizing s r with
  | zero => exact Keeps.refl
  | succ n ih => exact Keeps.step (ih _ _) (by decide) ((State.rowRead_keeps ..).weaken (by decide))

theorem State.readWindow_keeps (s : State) (b : Nat) (again : Bool) (n r : Nat) :
    Keeps 0x5000000000000000000000000000000000000000000000000000d00ff007e00000000000000000000000000000000000000000000000000000000000700070003000000000000000000000000000000000000000f00db00010001000f0007000f00000000000000000000000000000000000000000000000b0007000300070001000000000000000000000000000000000000000000000000000000000000000001ffe1ff s (s.readWindow b again n r).2 := by
  induction n generalizing s r with
  | zero => exact Keeps.refl
  | succ n ih => exact Keeps.step (ih _ _) (by decide) ((State.windowRead_keeps ..).weaken (by decide))

theorem State.opReadRow_keeps (s : State) (w : Who) (limit : Nat) (p : List Byte) : Keeps 0x5000000000000000000000000000000000000000000000000000d00ff007e00000000000000000000000000000000000000000000000000000000000700070003000000000000000000000000000000000000000f00db00010001000f0007000f00000000000000000000000000000000000000000000000b0007000300070001000000000000000000000000000000000000000000000000000000000000000001ffe0fb s (State.opReadRow s w limit p).st := by
  unfold State.opReadRow
  repeat' first
      | with_reducible exact Keeps.refl
      | with_reducible assumption
      | with_reducible refine Keeps.ite ?_ ?_
      | (with_reducible apply Keeps.step (opStatus_keeps ..); · decide)
      | (with_reducible apply Keeps.step (opData_keeps ..); · decide)
      | (with_reducible apply Keeps.step (State.readRows_keeps ..); · decide)
      | (with_reducible apply Keeps.step (State.readWindow_keeps ..); · decide)
      | extract_lets
      | intro _
      | split
      | (dsimp +zetaDelta only; split)

theorem writeRows_keeps (w : Who) (o row n : Nat) (r : WRes) (bs : List (List Byte)) :
    Keeps 0x401 r.st (writeRows w o row n r bs).1.st := by
  induction bs generalizing row n r with
  | nil => exact Keeps.refl
  | cons b bs ih =>
    unfold writeRows
    dsimp only
    split
    · exact Keeps.step (ih _ _ _) (by decide) ((writeObj_keeps ..).weaken (by decide))
    · exact (writeObj_keeps ..).weaken (by decide)

theorem State.writeWindow_keeps (s : State) (b row : Nat) (xs : List (List Byte)) :
    Keeps 0x1eac01b s (s.writeWindow b row xs) := by
  induction xs generalizing s row with
  | nil => exact Keeps.refl
  | cons x xs ih => exact Keeps.step (ih _ _) (by decide) ((State.windowWrite_keeps ..).weaken (by decide))

theorem State.opWriteRow_keeps (s : State) (w : Who) (p : List Byte) : Keeps 0x1 s (State.opWriteRow s w p).st := by
  unfold State.opWriteRow
  repeat' first
      | with_reducible exact Keeps.refl
      | with_reducible assumption
      | with_reducible refine Keeps.ite ?_ ?_
      | (with_reducible apply Keeps.step (done_keeps ..); · decide)
      | (with_reducible apply Keeps.step (opStatus_keeps ..); · decide)
      | (with_reducible refine WRes.op_keeps ?_)
      | (with_reducible apply Keeps.step (writeRows_keeps ..); · decide)
      | (with_reducible apply Keeps.step (State.writeWindow_keeps ..); · decide)
      | extract_lets
      | intro _
      | split
      | (dsimp +zetaDelta only; split)

theorem State.opSubmit_keeps (s : State) (w : Who) (p : List Byte) : Keeps 0x5000000000000000000000000000000000000000000000000000e00ff001c00000000000000000000000000000000000000000000000000000000000700070003000000000000000000000000000000000000000f00db00010001000f0007000f0000000000000000000000000000000000000000000000010007000300070001000000000000000000000000000000000000000000000000000000000000000001ff8dff s (State.opSubmit s w p).st := by
  unfold State.opSubmit
  repeat' first
      | with_reducible exact Keeps.refl
      | with_reducible assumption
      | with_reducible refine Keeps.ite ?_ ?_
      | (with_reducible apply Keeps.step (State.taskPut_keeps ..); · decide)
      | (with_reducible apply Keeps.step (State.taskDrop_keeps ..); · decide)
      | (with_reducible apply Keeps.step (State.submitGraph_keeps ..); · decide)
      | extract_lets
      | intro _
      | split
      | (dsimp +zetaDelta only; split)

theorem State.opExec_keeps (s : State) (w : Who) (p : List Byte) : Keeps 0x5000000000000000000000000000000000000000000000000000e00ff001c00000000000000000000000000000000000000000000000000000000000700070003000000000000000000000000000000000000000f00db00010001000f0007000f0000000000000000000000000000000000000000000000010007000300070001000000000000000000000000000000000000000000000000000000000000000001ff8dff s (State.opExec s w p).st := by
  unfold State.opExec
  repeat' first
      | with_reducible exact Keeps.refl
      | with_reducible assumption
      | with_reducible refine Keeps.ite ?_ ?_
      | (with_reducible apply Keeps.step (opStatus_keeps ..); · decide)
      | (with_reducible apply Keeps.step (State.opSubmit_keeps ..); · decide)
      | extract_lets
      | intro _
      | split
      | (dsimp +zetaDelta only; split)

theorem State.opCancel_keeps (s : State) (w : Who) (h : Nat) : Keeps 0x5000000000000000000000000000000000000000000000000000e00df001400000000000000000000000000000000000000000000000000000000000700070003000000000000000000000000000000000000000f00c800010001000f0006000f0000000000000000000000000000000000000000000000010005000300070001000000000000000000000000000000000000000000000000000000000000000001bf8cfd s (State.opCancel s w h).st := by
  unfold State.opCancel
  repeat' first
      | with_reducible exact Keeps.refl
      | with_reducible assumption
      | with_reducible refine Keeps.ite ?_ ?_
      | (with_reducible apply Keeps.step (State.cancelTask_keeps ..); · decide)
      | (with_reducible apply Keeps.step (opStatus_keeps ..); · decide)
      | extract_lets
      | intro _
      | split
      | (dsimp +zetaDelta only; split)

theorem State.operate_keeps (s : State) (op : Nat) (w : Who) (flags id limit : Nat) (p : List Byte) : Keeps 0x1 s (State.operate s op w flags id limit p).st := by
  unfold State.operate
  repeat' first
      | with_reducible exact Keeps.refl
      | with_reducible assumption
      | with_reducible refine Keeps.ite ?_ ?_
      | (with_reducible apply Keeps.step (opStatus_keeps ..); · decide)
      | (with_reducible apply Keeps.step (State.opRead_keeps ..); · decide)
      | (with_reducible apply Keeps.step (State.opWrite_keeps ..); · decide)
      | (with_reducible apply Keeps.step (State.opReadRow_keeps ..); · decide)
      | (with_reducible apply Keeps.step (State.opWriteRow_keeps ..); · decide)
      | (with_reducible apply Keeps.step (State.opSubmit_keeps ..); · decide)
      | (with_reducible apply Keeps.step (State.opExec_keeps ..); · decide)
      | (with_reducible apply Keeps.step (State.opCancel_keeps ..); · decide)
      | extract_lets
      | intro _
      | split
      | (dsimp +zetaDelta only; split)

theorem State.expireSession_keeps (s : State) (i : Nat) : Keeps 0x5000000000000000000000000000000000000000000000000000f00ff005c00000000000000000000000000000000000000000000000000000000000700070003000000000000000000000000000000000000000f00db00010001000f0007000f0000000000000000000000000000000000000000000000010007000300070001000000000000000000000000000000000000000000000000000000000000000001ffadff s (State.expireSession s i) := by
  unfold State.expireSession
  repeat' first
      | with_reducible exact Keeps.refl
      | with_reducible assumption
      | with_reducible refine Keeps.ite ?_ ?_
      | (with_reducible apply Keeps.step (State.eopCount_keeps ..); · decide)
      | (with_reducible apply Keeps.step (State.closeSession_keeps ..); · decide)
      | extract_lets
      | intro _
      | split
      | (dsimp +zetaDelta only; split)

theorem State.expireSessions_keeps (s : State) : Keeps 0x5000000000000000000000000000000000000000000000000000f00ff005c00000000000000000000000000000000000000000000000000000000000700070003000000000000000000000000000000000000000f00db00010001000f0007000f0000000000000000000000000000000000000000000000010007000300070001000000000000000000000000000000000000000000000000000000000000000001ffadff s (State.expireSessions s) := by
  unfold State.expireSessions
  repeat' first
      | with_reducible exact Keeps.refl
      | with_reducible assumption
      | with_reducible refine Keeps.ite ?_ ?_
      | (with_reducible apply Keeps.step (State.expireSession_keeps ..); · decide)
      | (with_reducible refine Keeps.foldl (fun _ _ _ => ?_) ?_)
      | extract_lets
      | intro _
      | split
      | (dsimp +zetaDelta only; split)

theorem State.opHello_keeps (s0 : State) (m : EopMsg) (sl : Option Nat) : Keeps 0x5000000000000000000000000000000000000000000000000000f00ff001c00000000000000000000000000000000000000000000000000000000000700070003000000000000000000000000000000000000000f00db00010001000f0007000f0000000000000000000000000000000000000000000000010007000300070001000000000000000000000000000000000000000000000000000000000000000001ff8dff s0 (State.opHello s0 m sl) := by
  unfold State.opHello
  repeat' first
      | with_reducible exact Keeps.refl
      | with_reducible assumption
      | with_reducible refine Keeps.ite ?_ ?_
      | (with_reducible apply Keeps.step (State.eopCount_keeps ..); · decide)
      | (with_reducible apply Keeps.step (State.setSession_keeps ..); · decide)
      | (with_reducible apply Keeps.step (State.closeSession_keeps ..); · decide)
      | (with_reducible apply Keeps.step (State.helloAnswer_keeps ..); · decide)
      | (with_reducible apply Keeps.step (State.expireSessions_keeps ..); · decide)
      | extract_lets
      | intro _
      | split
      | (dsimp +zetaDelta only; split)

theorem State.opHeartbeat_keeps (s : State) (m : EopMsg) : Keeps 0x5000000000000000000000000000000000000000000000000000e006f001800000000000000000000000000000000000000000000000000000000000700070003000000000000000000000000000000000000000700db00010001000f0007000f00000000000000000000000000000000000000000000000100070001000700000000000000000000000000000000000000000000000000000000000000000000005e8c59 s (State.opHeartbeat s m) := by
  unfold State.opHeartbeat
  repeat' first
      | with_reducible exact Keeps.refl
      | with_reducible assumption
      | with_reducible refine Keeps.ite ?_ ?_
      | (with_reducible apply Keeps.step (State.heartbeatHeard_keeps ..); · decide)
      | (with_reducible apply Keeps.step (State.afterTwin_keeps ..); · decide)
      | extract_lets
      | intro _
      | split
      | (dsimp +zetaDelta only; split)

theorem State.opImage_keeps (s : State) (m : EopMsg) (sl : Option Nat) : Keeps 0x5000000000000000000000000000000000000000000000000000a00ff001c00000000000000000000000000000000000000000000000000000000000700070003000000000000000000000000000000000000000f00db00010001000f0007000f0000000000000000000000000000000000000000000000010007000300070001000000000000000000000000000000000000000000000000000000000000000001fe8dff s (State.opImage s m sl) := by
  unfold State.opImage
  repeat' first
      | with_reducible exact Keeps.refl
      | with_reducible assumption
      | with_reducible refine Keeps.ite ?_ ?_
      | (with_reducible apply Keeps.step (State.fragment_keeps ..); · decide)
      | (with_reducible apply Keeps.step (State.relayFragment_keeps ..); · decide)
      | (with_reducible apply Keeps.step (State.answerStatus_keeps ..); · decide)
      | extract_lets
      | intro _
      | split
      | (dsimp +zetaDelta only; split)

theorem State.onSession_keeps (s0 : State) (op : Nat) (m : EopMsg) (sl : Option Nat) (i : Nat) : Keeps 0x1 s0 (State.onSession s0 op m sl i) := by
  unfold State.onSession
  repeat' first
      | with_reducible exact Keeps.refl
      | with_reducible assumption
      | with_reducible refine Keeps.ite ?_ ?_
      | (with_reducible apply Keeps.step (State.eopCount_keeps ..); · decide)
      | (with_reducible apply Keeps.step (State.setSession_keeps ..); · decide)
      | (with_reducible apply Keeps.step (State.answerKept_keeps ..); · decide)
      | (with_reducible apply Keeps.step (State.ack_keeps ..); · decide)
      | (with_reducible apply Keeps.step (State.operate_keeps ..); · decide)
      | extract_lets
      | intro _
      | split
      | (dsimp +zetaDelta only; split)

theorem State.bySession_keeps (s0 : State) (op : Nat) (m : EopMsg) (sl : Option Nat) : Keeps 0x1 s0 (State.bySession s0 op m sl) := by
  unfold State.bySession
  repeat' first
      | with_reducible exact Keeps.refl
      | with_reducible assumption
      | with_reducible refine Keeps.ite ?_ ?_
      | (with_reducible apply Keeps.step (State.eopCount_keeps ..); · decide)
      | (with_reducible apply Keeps.step (State.ack_keeps ..); · decide)
      | (with_reducible apply Keeps.step (State.expireSession_keeps ..); · decide)
      | (with_reducible apply Keeps.step (State.onSession_keeps ..); · decide)
      | extract_lets
      | intro _
      | split
      | (dsimp +zetaDelta only; split)

theorem State.eopGoesOn_keeps (s : State) (op : Nat) (m : EopMsg) (sl : Option Nat) : Keeps 0x1 s (State.eopGoesOn s op m sl) := by
  unfold State.eopGoesOn
  repeat' first
      | with_reducible exact Keeps.refl
      | with_reducible assumption
      | with_reducible refine Keeps.ite ?_ ?_
      | (with_reducible apply Keeps.step (State.opHello_keeps ..); · decide)
      | (with_reducible apply Keeps.step (State.opHeartbeat_keeps ..); · decide)
      | (with_reducible apply Keeps.step (State.opImage_keeps ..); · decide)
      | (with_reducible apply Keeps.step (State.bySession_keeps ..); · decide)
      | extract_lets
      | intro _
      | split
      | (dsimp +zetaDelta only; split)

theorem State.bootHeartbeat_keeps (s : State) (m : EopMsg) : Keeps 0x5000000000000000000000000000000000000000000000000000f00ff007a00000000000000000000000000000000000000000000000000000000000700070003000000000000000000000000000000000000000f00db00010001000f0007000f00000000000000000000000000000000000000000000000b0007000100070001000000000000000000000000000000000000000000000000000000000000000000ffedff s (State.bootHeartbeat s m) := by
  unfold State.bootHeartbeat
  repeat' first
      | with_reducible exact Keeps.refl
      | with_reducible assumption
      | with_reducible refine Keeps.ite ?_ ?_
      | (with_reducible apply Keeps.step (State.setTwin_keeps ..); · decide)
      | (with_reducible apply Keeps.step (State.setChain_keeps ..); · decide)
      | extract_lets
      | intro _
      | split
      | (with_reducible apply Keeps.set_eop; (case h0 => decide))
      | (dsimp +zetaDelta only; split)

theorem State.eopReceive_keeps (s0 : State) (op : Nat) (m : EopMsg) : Keeps 0x1 s0 (State.eopReceive s0 op m) := by
  unfold State.eopReceive
  repeat' first
      | with_reducible exact Keeps.refl
      | with_reducible assumption
      | with_reducible refine Keeps.ite ?_ ?_
      | (with_reducible apply Keeps.step (State.advanceTo_keeps ..); · decide)
      | (with_reducible apply Keeps.step (State.eopCount_keeps ..); · decide)
      | (with_reducible apply Keeps.step (State.portsSettle_keeps ..); · decide)
      | (with_reducible apply Keeps.step (State.checkSeal_keeps ..); · decide)
      | (with_reducible apply Keeps.step (State.eopGoesOn_keeps ..); · decide)
      | (with_reducible apply Keeps.step (State.bootHeartbeat_keeps ..); · decide)
      | extract_lets
      | intro _
      | split
      | (dsimp +zetaDelta only; split)

theorem State.mailboxDone_keeps (s : State) (session id flags : Nat) (a : Answer) : Keeps 0x5000000000000000000000000000000000000000000000000000f00ff007e00010000000000000000000000000000000000000000000000000000000700070003000000000000000000000000000000000000000f00db00010001000f0007000f00000000000000000000000000000000000000000000000b0007000300070001000000000000000000000000000000000000000000000000000000000000000001ffefff s (State.mailboxDone s session id flags a) := by
  unfold State.mailboxDone
  repeat' first
      | with_reducible exact Keeps.refl
      | with_reducible assumption
      | with_reducible refine Keeps.ite ?_ ?_
      | extract_lets
      | intro _
      | split
      | (with_reducible apply Keeps.set_eop; (case h0 => decide))
      | (dsimp +zetaDelta only; split)

theorem State.mailboxRequest_keeps (s : State) : Keeps 0x1 s (State.mailboxRequest s) := by
  unfold State.mailboxRequest
  repeat' first
      | with_reducible exact Keeps.refl
      | with_reducible assumption
      | with_reducible refine Keeps.ite ?_ ?_
      | (with_reducible apply Keeps.step (State.eopCount_keeps ..); · decide)
      | (with_reducible apply Keeps.step (State.answerKept_keeps ..); · decide)
      | (with_reducible apply Keeps.step (State.operate_keeps ..); · decide)
      | (with_reducible apply Keeps.step (State.mailboxDone_keeps ..); · decide)
      | extract_lets
      | intro _
      | split
      | (with_reducible apply Keeps.set_eop; (case h0 => decide))
      | (dsimp +zetaDelta only; split)

theorem State.mailboxRun_keeps (s : State) : Keeps 0x1 s (State.mailboxRun s) := by
  unfold State.mailboxRun
  repeat' first
      | with_reducible exact Keeps.refl
      | with_reducible assumption
      | with_reducible refine Keeps.ite ?_ ?_
      | (with_reducible apply Keeps.step (State.portsSettle_keeps ..); · decide)
      | (with_reducible apply Keeps.step (State.mailboxRequest_keeps ..); · decide)
      | extract_lets
      | intro _
      | split
      | (dsimp +zetaDelta only; split)

theorem execHostDoorbell_keeps (v : Word) (s : State) : Keeps 0x1 s (execHostDoorbell v s) := by
  unfold execHostDoorbell
  repeat' first
      | with_reducible exact Keeps.refl
      | with_reducible assumption
      | with_reducible refine Keeps.ite ?_ ?_
      | (with_reducible apply Keeps.step (State.accessWrite_keeps ..); · decide)
      | (with_reducible apply Keeps.step (State.mailboxRun_keeps ..); · decide)
      | extract_lets
      | intro _
      | split
      | (dsimp +zetaDelta only; split)

theorem execSessionIdleTimeout_keeps (slot : Nat) (s0 : State) : Keeps 0x5000000000000000000000000000000000000000000000000000f00ff005c00000000000000000000000000000000000000000000000000000000000700070003000000000000000000000000000000000000000f00db00010001000f0007000f0000000000000000000000000000000000000000000000010007000300070001000000000000000000000000000000000000000000000000000000000000000001ffacfd s0 (execSessionIdleTimeout slot s0) := by
  unfold execSessionIdleTimeout
  repeat' first
      | with_reducible exact Keeps.refl
      | with_reducible assumption
      | with_reducible refine Keeps.ite ?_ ?_
      | (with_reducible apply Keeps.step (State.advanceTo_keeps ..); · decide)
      | (with_reducible apply Keeps.step (State.expireSession_keeps ..); · decide)
      | extract_lets
      | intro _
      | split
      | (dsimp +zetaDelta only; split)

theorem execEventSend_keeps (slot : Nat) (s0 : State) : Keeps 0x5000000000000000000000000000000000000000000000000000f00ff001c00000000000000000000000000000000000000000000000000000000000700070003000000000000000000000000000000000000000f00db00010001000f0007000f0000000000000000000000000000000000000000000000010007000300070001000000000000000000000000000000000000000000000000000000000000000001ffacfd s0 (execEventSend slot s0) := by
  unfold execEventSend
  repeat' first
      | with_reducible exact Keeps.refl
      | with_reducible assumption
      | with_reducible refine Keeps.ite ?_ ?_
      | (with_reducible apply Keeps.step (State.advanceTo_keeps ..); · decide)
      | (with_reducible apply Keeps.step (State.eopCount_keeps ..); · decide)
      | (with_reducible apply Keeps.step (State.sendMsg_keeps ..); · decide)
      | (with_reducible apply Keeps.step (State.setSession_keeps ..); · decide)
      | (with_reducible apply Keeps.step (State.expireSession_keeps ..); · decide)
      | extract_lets
      | intro _
      | split
      | (dsimp +zetaDelta only; split)

theorem execCheckpointStore_keeps (slot : Nat) (transmit : Bool) (s : State) : Keeps 0x5000000000000000000000000000000000000000000000000000f00ff001e00000000000000000000000000000000000000000000000000000000000700070003000000000000000000000000000000000000000f00db00010001000f0007000f0000000000000000000000000000000000000000000000010007000300070001000000000000000000000000000000000000000000000000000000000000000001ff8d7f s (execCheckpointStore slot transmit s) := by
  unfold execCheckpointStore
  repeat' first
      | with_reducible exact Keeps.refl
      | with_reducible assumption
      | with_reducible refine Keeps.ite ?_ ?_
      | (with_reducible apply Keeps.step (State.sendHeld_keeps ..); · decide)
      | (with_reducible apply Keeps.step (State.portsSettle_keeps ..); · decide)
      | extract_lets
      | intro _
      | split
      | (with_reducible apply Keeps.set_flash_eop; (case h0 => decide); (case h1 => decide))
      | (dsimp +zetaDelta only; split)

theorem execKey_keeps (row : Nat) (v : List Byte) (counter : Nat) (byKey0 : Bool) (s : State) : Keeps 0x401 s (execKey row v counter byKey0 s) := by
  unfold execKey
  repeat' first
      | with_reducible exact Keeps.refl
      | with_reducible assumption
      | with_reducible refine Keeps.ite ?_ ?_
      | (with_reducible apply Keeps.step (refuse_keeps ..); · decide)
      | (with_reducible apply Keeps.step (WRes.record_keeps ..); · decide)
      | (with_reducible apply Keeps.step (writeObj_keeps ..); · decide)
      | extract_lets
      | intro _
      | split
      | (dsimp +zetaDelta only; split)

end Sys2Proof.Machine
end

