-- ==== Sys2Proof/Laws/KeepsCommands.lean ====
section
/-! SUPPORT. What each command leaves alone: the parts whose bit its mask holds. -/

set_option linter.all false
namespace Sys2Proof.Machine

/-- A command's answer keeps what its effect keeps, and the waiting commands. -/
theorem ans_keeps {m k : Nat} {s u t : State} (h : ans s u = .next t) (hm : m &&& (k ||| 1) = m) (hk : Keeps k s u) : Keeps m s t := by
  cases h
  have e : Keeps (k ||| 1) s { u with pending := s.pending } := by
    have b : ∀ i, (k ||| 1).testBit (i + 1) = true → k.testBit (i + 1) = true := by
      intro i hi
      rw [Nat.testBit_or] at hi
      simpa [Nat.testBit_succ] using hi
    exact { pending_eq := fun _ => rfl
            clk_eq := fun hi => hk.clk_eq (b _ hi)
            freeIdx_eq := fun hi => hk.freeIdx_eq (b _ hi)
            dram_eq := fun hi => hk.dram_eq (b _ hi)
            vault_eq := fun hi => hk.vault_eq (b _ hi)
            power_eq := fun hi => hk.power_eq (b _ hi)
            aon_eq := fun hi => hk.aon_eq (b _ hi)
            flash_eq := fun hi => hk.flash_eq (b _ hi)
            time_eq := fun hi => hk.time_eq (b _ hi)
            evt_eq := fun hi => hk.evt_eq (b _ hi)
            sys_eq := fun hi => hk.sys_eq (b _ hi)
            hspi_eq := fun hi => hk.hspi_eq (b _ hi)
            eop_eq := fun hi => hk.eop_eq (b _ hi)
            weir_eq := fun hi => hk.weir_eq (b _ hi)
            net_eq := fun hi => hk.net_eq (b _ hi)
            integ_eq := fun hi => hk.integ_eq (b _ hi)
            update_eq := fun hi => hk.update_eq (b _ hi)
            ingest_eq := fun hi => hk.ingest_eq (b _ hi)
            disp_eq := fun hi => hk.disp_eq (b _ hi)
            coll_eq := fun hi => hk.coll_eq (b _ hi)
            quires_eq := fun hi => hk.quires_eq (b _ hi)
            strands_eq := fun hi => hk.strands_eq (b _ hi)
            light_eq := fun hi => hk.light_eq (b _ hi)
            cal_eq := fun hi => hk.cal_eq (b _ hi)
            twin_eq := fun hi => hk.twin_eq (b _ hi)
            objs := fun o r hi => hk.objs o r (by
              rw [show 32 + o / 4096 = 31 + o / 4096 + 1 by omega] at hi ⊢
              exact b _ hi)
            dram_wf := hk.dram_wf
            vault_wf := hk.vault_wf
            cells_wf := hk.cells_wf
            saved_wf := hk.saved_wf
            contexts_wf := hk.contexts_wf }
  exact e.weaken hm

theorem State.request_keeps_of {m o : Nat} (hc : m &&& 0x5000000000000000000000000000000000000000000000000000f00ff007e00010000000000000000000000000000000000000000000000000000000700070003000000000000000000000000000000000000000f00db00010001000f0007000f00000000000000000000000000000000000000000000000b0007000300070001000000000000000000000000000000000000000000000000000000000000000001ffefff = m) (hp : m &&& 0x5000000000000000000000000000000000000000000000000000f00ff007e00000000000000000000000000000000000000000000000000000000000700070003000000000000000000000000000000000000000f00db00010001000f0007000f0000000000000000000000000000000000000000000000090007000300070001000000000000000000000000000000000000000000000000000000000000000001ffadff = m)
    (hs : slowHome o = 0 ∨ m &&& 0x5000000000000000000000000000000000000000000000000000f00ff007e00010000000000000000000000000000000000000000000000000000000700070003000000000000000000000000000000000000000f00db00010001000f0007000f00000000000000000000000000000000000000000000000b0007000300070001000000000000000000000000000000000000000000000000000000000000000001fff7fb = m) (hh : ∀ w r v x, Keeps m x (hookOf o w r v x).st) (s : State) (g : Origin) (r : Nat) (v : ObjDef → Option Row) :
    Keeps m s (s.request g o r v) := by
  unfold State.request
  split
  · exact Keeps.refl
  · split
    · exact command_keeps_of hc hp hs hh ..
    · exact Keeps.step (WRes.record_keeps ..) hc ((refuse_keeps ..).weaken (by rw [← hc, Nat.and_assoc]; rfl))

theorem State.request_keeps (s : State) (g : Origin) (o r : Nat) (v : ObjDef → Option Row) : Keeps 0x401 s (s.request g o r v) :=
  State.request_keeps_of (by decide) (by decide) (Or.inr (by decide)) (hookOf_keeps o) ..

theorem State.armByCommand_keeps (s : State) (h : Nat) (ovr byRegister : Bool) : Keeps 0x1 s (s.armByCommand h ovr byRegister) := by
  unfold State.armByCommand
  split
  · exact (State.accessWrite_keeps ..).weaken (by decide)
  · exact (State.request_keeps ..).weaken (by decide)

theorem State.received_keeps (s : State) (op : Nat) (m : EopMsg) : Keeps 0x1 s (State.received s op m) := by
  unfold State.received
  repeat' first
      | with_reducible exact Keeps.refl
      | with_reducible assumption
      | with_reducible refine Keeps.ite ?_ ?_
      | (with_reducible apply Keeps.step (State.consume_keeps ..); · decide)
      | (with_reducible apply Keeps.step (State.eopReceive_keeps ..); · decide)
      | (with_reducible apply Keeps.step (State.mailboxRun_keeps ..); · decide)
      | extract_lets
      | intro _
      | split
      | (dsimp +zetaDelta only; split)

theorem cmdPowerOn_keeps (resetNLow : Bool) (porst : Option Nat) (s : State) (t : State) (h : cmdPowerOn resetNLow s porst = .next t) : Keeps 0x5 s t := by
  refine ans_keeps h (by decide) (k := 0x4) ?_
  repeat' first
      | with_reducible exact Keeps.refl
      | (with_reducible apply Keeps.step (execPowerOn_keeps ..); · decide)
      | with_reducible refine Keeps.ite ?_ ?_
      | split

theorem cmdPinReset_keeps (lowNs : Nat) (s : State) (t : State) (h : cmdPinReset lowNs s = .next t) : Keeps 0x5000000000000000000000000000000000000000000000000000f00ff007e00010000000000000000000000000000000000000000000000000000000700070003000000000000000000000000000000000000000f00db00010001000f0007000f00000000000000000000000000000000000000000000000b0007000300070000000000000000000000000000000000000000000000000000000000000000000001feef1f s t := by
  refine ans_keeps h (by decide) (k := 0x5000000000000000000000000000000000000000000000000000f00ff007e00010000000000000000000000000000000000000000000000000000000700070003000000000000000000000000000000000000000f00db00010001000f0007000f00000000000000000000000000000000000000000000000b0007000300070000000000000000000000000000000000000000000000000000000000000000000001feef1e) ?_
  repeat' first
      | with_reducible exact Keeps.refl
      | (with_reducible apply Keeps.step (execPinReset_keeps ..); · decide)
      | with_reducible refine Keeps.ite ?_ ?_
      | split

theorem cmdWatchdogWarn_keeps (s : State) (t : State) (h : cmdWatchdogWarn s = .next t) : Keeps 0x5000000000000000000000000000000000000000000000000000f00ff007e00000000000000000000000000000000000000000000000000000000000700070003000000000000000000000000000000000000000f00db00010001000f0007000f00000000000000000000000000000000000000000000000b0007000300070001000000000000000000000000000000000000000000000000000000000000000001ffecdd s t := by
  refine ans_keeps h (by decide) (k := 0x5000000000000000000000000000000000000000000000000000f00ff007e00000000000000000000000000000000000000000000000000000000000700070003000000000000000000000000000000000000000f00db00010001000f0007000f00000000000000000000000000000000000000000000000b0007000300070001000000000000000000000000000000000000000000000000000000000000000001ffecdc) ?_
  repeat' first
      | with_reducible exact Keeps.refl
      | (with_reducible apply Keeps.step (execWatchdogWarn_keeps ..); · decide)
      | with_reducible refine Keeps.ite ?_ ?_
      | split

theorem cmdWatchdogExpiry_keeps (s : State) (t : State) (h : cmdWatchdogExpiry s = .next t) : Keeps 0x5000000000000000000000000000000000000000000000000000f00ff007e00000000000000000000000000000000000000000000000000000000000700070003000000000000000000000000000000000000000f00db00010001000f0007000f00000000000000000000000000000000000000000000000b0007000300070000000000000000000000000000000000000000000000000000000000000000000001feec1d s t := by
  refine ans_keeps h (by decide) (k := 0x5000000000000000000000000000000000000000000000000000f00ff007e00000000000000000000000000000000000000000000000000000000000700070003000000000000000000000000000000000000000f00db00010001000f0007000f00000000000000000000000000000000000000000000000b0007000300070000000000000000000000000000000000000000000000000000000000000000000001feec1c) ?_
  repeat' first
      | with_reducible exact Keeps.refl
      | (with_reducible apply Keeps.step (execWatchdogExpiry_keeps ..); · decide)
      | with_reducible refine Keeps.ite ?_ ?_
      | split

theorem cmdResetAssert_keeps (s : State) (t : State) (h : cmdResetAssert s = .next t) : Keeps 0xc5 s t := by
  refine ans_keeps h (by decide) (k := 0xc4) ?_
  repeat' first
      | with_reducible exact Keeps.refl
      | (with_reducible apply Keeps.step (execResetAssert_keeps ..); · decide)
      | with_reducible refine Keeps.ite ?_ ?_
      | split

theorem cmdResetRelease_keeps (s : State) (t : State) (h : cmdResetRelease s = .next t) : Keeps 0x5 s t := by
  refine ans_keeps h (by decide) (k := 0x4) ?_
  repeat' first
      | with_reducible exact Keeps.refl
      | (with_reducible apply Keeps.step (execResetRelease_keeps ..); · decide)
      | with_reducible refine Keeps.ite ?_ ?_
      | split

theorem cmdRailStartTimeout_keeps (s : State) (t : State) (h : cmdRailStartTimeout s = .next t) : Keeps 0x5 s t := by
  refine ans_keeps h (by decide) (k := 0x4) ?_
  repeat' first
      | with_reducible exact Keeps.refl
      | (with_reducible apply Keeps.step (execRailStartTimeout_keeps ..); · decide)
      | with_reducible refine Keeps.ite ?_ ?_
      | split

theorem cmdBermService_keeps (s : State) (t : State) (h : cmdBermService s = .next t) : Keeps 0xcf04d9 s t := by
  refine ans_keeps h (by decide) (k := 0xcf04d8) ?_
  repeat' first
      | with_reducible exact Keeps.refl
      | (with_reducible apply Keeps.step (execBermService_keeps ..); · decide)
      | with_reducible refine Keeps.ite ?_ ?_
      | split

theorem cmdDramState_keeps (ok : Bool) (gib : Nat) (channels : Nat) (s : State) (t : State) (h : cmdDramState ok gib channels s = .next t) : Keeps 0x5000000000000000000000000000000000000000000000000000f00ff007e00000000000000000000000000000000000000000000000000000000000700070003000000000000000000000000000000000000000f00db00010001000f0007000f00000000000000000000000000000000000000000000000b0007000300070001000000000000000000000000000000000000000000000000000000000000000001ff6dff s t := by
  refine ans_keeps h (by decide) (k := 0x5000000000000000000000000000000000000000000000000000f00ff007e00000000000000000000000000000000000000000000000000000000000700070003000000000000000000000000000000000000000f00db00010001000f0007000f00000000000000000000000000000000000000000000000b0007000300070001000000000000000000000000000000000000000000000000000000000000000001ff6dfe) ?_
  repeat' first
      | with_reducible exact Keeps.refl
      | (with_reducible apply Keeps.step (execDramState_keeps ..); · decide)
      | with_reducible refine Keeps.ite ?_ ?_
      | split

theorem cmdServiceStart_keeps (s : State) (t : State) (h : cmdServiceStart s = .next t) : Keeps 0x40c4d s t := by
  refine ans_keeps h (by decide) (k := 0x40c4c) ?_
  repeat' first
      | with_reducible exact Keeps.refl
      | (with_reducible apply Keeps.step (execServiceStart_keeps ..); · decide)
      | with_reducible refine Keeps.ite ?_ ?_
      | split

theorem cmdVaonLoss_keeps (s : State) (t : State) (h : cmdVaonLoss s = .next t) : Keeps 0x5 s t := by
  refine ans_keeps h (by decide) (k := 0x4) ?_
  repeat' first
      | with_reducible exact Keeps.refl
      | (with_reducible apply Keeps.step (execVaonLoss_keeps ..); · decide)
      | with_reducible refine Keeps.ite ?_ ?_
      | split

theorem cmdRailWarning_keeps (rail : Nat) (s : State) (t : State) (h : cmdRailWarning rail s = .next t) : Keeps 0x5000000000000000000000000000000000000000000000000000700ff007e00000000000000000000000000000000000000000000000000000000000700070003000000000000000000000000000000000000000f00db00010001000f0007000f00000000000000000000000000000000000000000000000b0007000300070001000000000000000000000000000000000000000000000000000000000000000001ffedff s t := by
  refine ans_keeps h (by decide) (k := 0x5000000000000000000000000000000000000000000000000000700ff007e00000000000000000000000000000000000000000000000000000000000700070003000000000000000000000000000000000000000f00db00010001000f0007000f00000000000000000000000000000000000000000000000b0007000300070001000000000000000000000000000000000000000000000000000000000000000001ffedfe) ?_
  repeat' first
      | with_reducible exact Keeps.refl
      | (with_reducible apply Keeps.step (execRailWarning_keeps ..); · decide)
      | with_reducible refine Keeps.ite ?_ ?_
      | split

theorem cmdBrownout_keeps (rail : Nat) (s : State) (t : State) (h : cmdBrownout rail s = .next t) : Keeps 0x5000000000000000000000000000000000000000000000000000f00ff007e00010000000000000000000000000000000000000000000000000000000700070003000000000000000000000000000000000000000f00db00010001000f0007000f00000000000000000000000000000000000000000000000b0007000300070001000000000000000000000000000000000000000000000000000000000000000001ffffdf s t := by
  refine ans_keeps h (by decide) (k := 0x5000000000000000000000000000000000000000000000000000f00ff007e00010000000000000000000000000000000000000000000000000000000700070003000000000000000000000000000000000000000f00db00010001000f0007000f00000000000000000000000000000000000000000000000b0007000300070001000000000000000000000000000000000000000000000000000000000000000001ffffde) ?_
  repeat' first
      | with_reducible exact Keeps.refl
      | (with_reducible apply Keeps.step (execBrownout_keeps ..); · decide)
      | with_reducible refine Keeps.ite ?_ ?_
      | split

theorem cmdClock_keeps (kind : Nat) (s : State) (t : State) (h : cmdClock kind s = .next t) : Keeps 0x5000000000000000000000000000000000000000000000000000f00ff007e00000000000000000000000000000000000000000000000000000000000700070003000000000000000000000000000000000000000f00db00010001000f0007000f00000000000000000000000000000000000000000000000b0007000300070001000000000000000000000000000000000000000000000000000000000000000001ffedff s t := by
  refine ans_keeps h (by decide) (k := 0x5000000000000000000000000000000000000000000000000000f00ff007e00000000000000000000000000000000000000000000000000000000000700070003000000000000000000000000000000000000000f00db00010001000f0007000f00000000000000000000000000000000000000000000000b0007000300070001000000000000000000000000000000000000000000000000000000000000000001ffedfe) ?_
  repeat' first
      | with_reducible exact Keeps.refl
      | (with_reducible apply Keeps.step (execClock_keeps ..); · decide)
      | with_reducible refine Keeps.ite ?_ ?_
      | split

theorem cmdStandby_keeps (v : Nat) (o : Origin) (s : State) (t : State) (h : cmdStandby v o s = .next t) : Keeps 0x5000000000000000000000000000000000000000000000000000f00ff007e00000000000000000000000000000000000000000000000000000000000700070003000000000000000000000000000000000000000f00db00010001000f0007000f0000000000000000000000000000000000000000000000090007000300070001000000000000000000000000000000000000000000000000000000000000000001ffaddf s t := by
  refine ans_keeps h (by decide) (k := 0x5000000000000000000000000000000000000000000000000000f00ff007e00000000000000000000000000000000000000000000000000000000000700070003000000000000000000000000000000000000000f00db00010001000f0007000f0000000000000000000000000000000000000000000000090007000300070001000000000000000000000000000000000000000000000000000000000000000001ffadde) ?_
  refine State.request_keeps_of (m := 0x5000000000000000000000000000000000000000000000000000f00ff007e00000000000000000000000000000000000000000000000000000000000700070003000000000000000000000000000000000000000f00db00010001000f0007000f0000000000000000000000000000000000000000000000090007000300070001000000000000000000000000000000000000000000000000000000000000000001ffadde) (by decide) (by decide) (by decide) ?_ ..
  intro w r v x
  exact (writeStandby_keeps ..).weaken (by decide)

theorem cmdHibernate_keeps (seconds : Nat) (o : Origin) (s : State) (t : State) (h : cmdHibernate seconds o s = .next t) : Keeps 0x5000000000000000000000000000000000000000000000000000f00ff007e00000000000000000000000000000000000000000000000000000000000700070003000000000000000000000000000000000000000f00db00010001000f0007000f0000000000000000000000000000000000000000000000090007000300070001000000000000000000000000000000000000000000000000000000000000000001ffaddf s t := by
  refine ans_keeps h (by decide) (k := 0x5000000000000000000000000000000000000000000000000000f00ff007e00000000000000000000000000000000000000000000000000000000000700070003000000000000000000000000000000000000000f00db00010001000f0007000f0000000000000000000000000000000000000000000000090007000300070001000000000000000000000000000000000000000000000000000000000000000001ffadde) ?_
  refine State.request_keeps_of (m := 0x5000000000000000000000000000000000000000000000000000f00ff007e00000000000000000000000000000000000000000000000000000000000700070003000000000000000000000000000000000000000f00db00010001000f0007000f0000000000000000000000000000000000000000000000090007000300070001000000000000000000000000000000000000000000000000000000000000000001ffadde) (by decide) (by decide) (by decide) ?_ ..
  intro w r v x
  exact (writeHibernate_keeps ..).weaken (by decide)

theorem cmdPowerEntry_keeps (s : State) (t : State) (h : cmdPowerEntry s = .next t) : Keeps 0x5 s t := by
  refine ans_keeps h (by decide) (k := 0x4) ?_
  repeat' first
      | with_reducible exact Keeps.refl
      | (with_reducible apply Keeps.step (execPowerEntry_keeps ..); · decide)
      | with_reducible refine Keeps.ite ?_ ?_
      | split

theorem cmdWake_keeps (s : State) (t : State) (h : cmdWake s = .next t) : Keeps 0x5000000000000000000000000000000000000000000000000000f00ff007e00010000000000000000000000000000000000000000000000000000000700070003000000000000000000000000000000000000000f00db00010001000f0007000f00000000000000000000000000000000000000000000000b0007000300070001000000000000000000000000000000000000000000000000000000000000000001ffff9f s t := by
  refine ans_keeps h (by decide) (k := 0x5000000000000000000000000000000000000000000000000000f00ff007e00010000000000000000000000000000000000000000000000000000000700070003000000000000000000000000000000000000000f00db00010001000f0007000f00000000000000000000000000000000000000000000000b0007000300070001000000000000000000000000000000000000000000000000000000000000000001ffff9e) ?_
  repeat' first
      | with_reducible exact Keeps.refl
      | (with_reducible apply Keeps.step (execWake_keeps ..); · decide)
      | with_reducible refine Keeps.ite ?_ ?_
      | split

theorem cmdWakeTimer_keeps (s : State) (t : State) (h : cmdWakeTimer s = .next t) : Keeps 0x5000000000000000000000000000000000000000000000000000f00ff007e00010000000000000000000000000000000000000000000000000000000700070003000000000000000000000000000000000000000f00db00010001000f0007000f00000000000000000000000000000000000000000000000b0007000300070001000000000000000000000000000000000000000000000000000000000000000001fffe9d s t := by
  refine ans_keeps h (by decide) (k := 0x5000000000000000000000000000000000000000000000000000f00ff007e00010000000000000000000000000000000000000000000000000000000700070003000000000000000000000000000000000000000f00db00010001000f0007000f00000000000000000000000000000000000000000000000b0007000300070001000000000000000000000000000000000000000000000000000000000000000001fffe9c) ?_
  repeat' first
      | with_reducible exact Keeps.refl
      | (with_reducible apply Keeps.step (execWakeTimer_keeps ..); · decide)
      | with_reducible refine Keeps.ite ?_ ?_
      | split

theorem cmdWakePatternMatch_keeps (f : EthFrame) (wakeToo : Bool) (s : State) (t : State) (h : cmdWakePatternMatch f wakeToo s = .next t) : Keeps 0x5000000000000000000000000000000000000000000000000000f00ff007e00010000000000000000000000000000000000000000000000000000000700070003000000000000000000000000000000000000000f00db00010001000f0007000f00000000000000000000000000000000000000000000000b0007000300070001000000000000000000000000000000000000000000000000000000000000000001ffff9f s t := by
  refine ans_keeps h (by decide) (k := 0x5000000000000000000000000000000000000000000000000000f00ff007e00010000000000000000000000000000000000000000000000000000000700070003000000000000000000000000000000000000000f00db00010001000f0007000f00000000000000000000000000000000000000000000000b0007000300070001000000000000000000000000000000000000000000000000000000000000000001ffff9e) ?_
  repeat' first
      | with_reducible exact Keeps.refl
      | (with_reducible apply Keeps.step (execWakePatternMatch_keeps ..); · decide)
      | with_reducible refine Keeps.ite ?_ ?_
      | split

theorem cmdReset_keeps (v : Nat) (o : Origin) (s : State) (t : State) (h : cmdReset v o s = .next t) : Keeps 0x5000000000000000000000000000000000000000000000000000f00ff007e00000000000000000000000000000000000000000000000000000000000700070003000000000000000000000000000000000000000f00db00010001000f0007000f0000000000000000000000000000000000000000000000090007000300070000000000000000000000000000000000000000000000000000000000000000000001fead1f s t := by
  refine ans_keeps h (by decide) (k := 0x5000000000000000000000000000000000000000000000000000f00ff007e00000000000000000000000000000000000000000000000000000000000700070003000000000000000000000000000000000000000f00db00010001000f0007000f0000000000000000000000000000000000000000000000090007000300070000000000000000000000000000000000000000000000000000000000000000000001fead1e) ?_
  refine State.request_keeps_of (m := 0x5000000000000000000000000000000000000000000000000000f00ff007e00000000000000000000000000000000000000000000000000000000000700070003000000000000000000000000000000000000000f00db00010001000f0007000f0000000000000000000000000000000000000000000000090007000300070000000000000000000000000000000000000000000000000000000000000000000001fead1e) (by decide) (by decide) (by decide) ?_ ..
  intro w r v x
  exact (writeReset_keeps ..).weaken (by decide)

theorem cmdAonReset_keeps (key : Nat) (p : Path) (s : State) (t : State) (h : cmdAonReset key p s = .next t) : Keeps 0x1e80003 s t := by
  refine ans_keeps h (by decide) (k := 0x1e80002) ?_
  repeat' first
      | with_reducible exact Keeps.refl
      | (with_reducible apply Keeps.step (State.accessWrite_keeps ..); · decide)
      | with_reducible refine Keeps.ite ?_ ?_
      | split

theorem cmdSync_keeps (dom : Nat) (rx : PtpRx) (at_ : Nat) (seq : Nat) (twoStep : Bool) (master : Nat) (filtered : Int) (freq : Int) (s : State) (t : State) (h : cmdSync dom rx at_ seq twoStep master filtered freq s = .next t) : Keeps 0x5000000000000000000000000000000000000000000000000000f00ff005600000000000000000000000000000000000000000000000000000000000700070003000000000000000000000000000000000000000f00db00010001000f0007000f0000000000000000000000000000000000000000000000010006000300070001000000000000000000000000000000000000000000000000000000000000000000eeacfd s t := by
  refine ans_keeps h (by decide) (k := 0x5000000000000000000000000000000000000000000000000000f00ff005600000000000000000000000000000000000000000000000000000000000700070003000000000000000000000000000000000000000f00db00010001000f0007000f0000000000000000000000000000000000000000000000010006000300070001000000000000000000000000000000000000000000000000000000000000000000eeacfc) ?_
  repeat' first
      | with_reducible exact Keeps.refl
      | (with_reducible apply Keeps.step (State.consume_keeps ..); · decide)
      | (with_reducible apply Keeps.step (execSync_keeps ..); · decide)
      | with_reducible refine Keeps.ite ?_ ?_
      | split

theorem cmdFollowUp_keeps (dom : Nat) (rx : PtpRx) (at_ : Nat) (seq : Nat) (master : Nat) (filtered : Int) (freq : Int) (s : State) (t : State) (h : cmdFollowUp dom rx at_ seq master filtered freq s = .next t) : Keeps 0x5000000000000000000000000000000000000000000000000000f00ff005600000000000000000000000000000000000000000000000000000000000700070003000000000000000000000000000000000000000f00db00010001000f0007000f0000000000000000000000000000000000000000000000010006000300070001000000000000000000000000000000000000000000000000000000000000000000eeacfd s t := by
  refine ans_keeps h (by decide) (k := 0x5000000000000000000000000000000000000000000000000000f00ff005600000000000000000000000000000000000000000000000000000000000700070003000000000000000000000000000000000000000f00db00010001000f0007000f0000000000000000000000000000000000000000000000010006000300070001000000000000000000000000000000000000000000000000000000000000000000eeacfc) ?_
  repeat' first
      | with_reducible exact Keeps.refl
      | (with_reducible apply Keeps.step (State.consume_keeps ..); · decide)
      | (with_reducible apply Keeps.step (execFollowUp_keeps ..); · decide)
      | with_reducible refine Keeps.ite ?_ ?_
      | split

theorem cmdAnnounce_keeps (dom : Nat) (rx : PtpRx) (at_ : Nat) (a : Announce) (s : State) (t : State) (h : cmdAnnounce dom rx at_ a s = .next t) : Keeps 0x5000000000000000000000000000000000000000000000000000f00ff005600000000000000000000000000000000000000000000000000000000000700070003000000000000000000000000000000000000000f00db00010001000f0007000f0000000000000000000000000000000000000000000000010006000300070001000000000000000000000000000000000000000000000000000000000000000001ffacfd s t := by
  refine ans_keeps h (by decide) (k := 0x5000000000000000000000000000000000000000000000000000f00ff005600000000000000000000000000000000000000000000000000000000000700070003000000000000000000000000000000000000000f00db00010001000f0007000f0000000000000000000000000000000000000000000000010006000300070001000000000000000000000000000000000000000000000000000000000000000001ffacfc) ?_
  repeat' first
      | with_reducible exact Keeps.refl
      | (with_reducible apply Keeps.step (State.consume_keeps ..); · decide)
      | (with_reducible apply Keeps.step (execAnnounce_keeps ..); · decide)
      | with_reducible refine Keeps.ite ?_ ?_
      | split

theorem cmdDelayResp_keeps (dom : Nat) (rx : PtpRx) (seq : Nat) (receipt : Nat) (logInterval : Int) (s : State) (t : State) (h : cmdDelayResp dom rx seq receipt logInterval s = .next t) : Keeps 0x5000000000000000000000000000000000000000000000000000f00ff005600000000000000000000000000000000000000000000000000000000000700070003000000000000000000000000000000000000000f00db00010001000f0007000f0000000000000000000000000000000000000000000000010006000300070001000000000000000000000000000000000000000000000000000000000000000001ffacff s t := by
  refine ans_keeps h (by decide) (k := 0x5000000000000000000000000000000000000000000000000000f00ff005600000000000000000000000000000000000000000000000000000000000700070003000000000000000000000000000000000000000f00db00010001000f0007000f0000000000000000000000000000000000000000000000010006000300070001000000000000000000000000000000000000000000000000000000000000000001ffacfe) ?_
  repeat' first
      | with_reducible exact Keeps.refl
      | (with_reducible apply Keeps.step (State.consume_keeps ..); · decide)
      | (with_reducible apply Keeps.step (execDelayResp_keeps ..); · decide)
      | with_reducible refine Keeps.ite ?_ ?_
      | split

theorem cmdDelayReqSend_keeps (dom : Nat) (s : State) (t : State) (h : cmdDelayReqSend dom s = .next t) : Keeps 0x5000000000000000000000000000000000000000000000000000f00ff001e00000000000000000000000000000000000000000000000000000000000700070003000000000000000000000000000000000000000f00db00010001000f0007000f0000000000000000000000000000000000000000000000010007000300070001000000000000000000000000000000000000000000000000000000000000000001ffacfd s t := by
  refine ans_keeps h (by decide) (k := 0x5000000000000000000000000000000000000000000000000000f00ff001e00000000000000000000000000000000000000000000000000000000000700070003000000000000000000000000000000000000000f00db00010001000f0007000f0000000000000000000000000000000000000000000000010007000300070001000000000000000000000000000000000000000000000000000000000000000001ffacfc) ?_
  repeat' first
      | with_reducible exact Keeps.refl
      | (with_reducible apply Keeps.step (execDelayReqSend_keeps ..); · decide)
      | with_reducible refine Keeps.ite ?_ ?_
      | split

theorem cmdSyncMissed_keeps (dom : Nat) (s : State) (t : State) (h : cmdSyncMissed dom s = .next t) : Keeps 0x5000000000000000000000000000000000000000000000000000f00ff007600000000000000000000000000000000000000000000000000000000000700070003000000000000000000000000000000000000000f00db00010001000f0007000f00000000000000000000000000000000000000000000000b0006000300070001000000000000000000000000000000000000000000000000000000000000000001ffecfd s t := by
  refine ans_keeps h (by decide) (k := 0x5000000000000000000000000000000000000000000000000000f00ff007600000000000000000000000000000000000000000000000000000000000700070003000000000000000000000000000000000000000f00db00010001000f0007000f00000000000000000000000000000000000000000000000b0006000300070001000000000000000000000000000000000000000000000000000000000000000001ffecfc) ?_
  repeat' first
      | with_reducible exact Keeps.refl
      | (with_reducible apply Keeps.step (execSyncMissed_keeps ..); · decide)
      | with_reducible refine Keeps.ite ?_ ?_
      | split

theorem cmdAnnounceTimeout_keeps (dom : Nat) (port : Nat) (s : State) (t : State) (h : cmdAnnounceTimeout dom port s = .next t) : Keeps 0x5000000000000000000000000000000000000000000000000000f00ff007600000000000000000000000000000000000000000000000000000000000700070003000000000000000000000000000000000000000f00db00010001000f0007000f00000000000000000000000000000000000000000000000b0006000300070001000000000000000000000000000000000000000000000000000000000000000001ffecfd s t := by
  refine ans_keeps h (by decide) (k := 0x5000000000000000000000000000000000000000000000000000f00ff007600000000000000000000000000000000000000000000000000000000000700070003000000000000000000000000000000000000000f00db00010001000f0007000f00000000000000000000000000000000000000000000000b0006000300070001000000000000000000000000000000000000000000000000000000000000000001ffecfc) ?_
  repeat' first
      | with_reducible exact Keeps.refl
      | (with_reducible apply Keeps.step (execAnnounceTimeout_keeps ..); · decide)
      | with_reducible refine Keeps.ite ?_ ?_
      | split

theorem cmdHoldoverExpiry_keeps (dom : Nat) (s : State) (t : State) (h : cmdHoldoverExpiry dom s = .next t) : Keeps 0x5000000000000000000000000000000000000000000000000000f00ff007600000000000000000000000000000000000000000000000000000000000700070003000000000000000000000000000000000000000f00db00010001000f0007000f00000000000000000000000000000000000000000000000b0006000300070001000000000000000000000000000000000000000000000000000000000000000001ffecfd s t := by
  refine ans_keeps h (by decide) (k := 0x5000000000000000000000000000000000000000000000000000f00ff007600000000000000000000000000000000000000000000000000000000000700070003000000000000000000000000000000000000000f00db00010001000f0007000f00000000000000000000000000000000000000000000000b0006000300070001000000000000000000000000000000000000000000000000000000000000000001ffecfc) ?_
  repeat' first
      | with_reducible exact Keeps.refl
      | (with_reducible apply Keeps.step (execHoldoverExpiry_keeps ..); · decide)
      | with_reducible refine Keeps.ite ?_ ?_
      | split

theorem cmdDomainRevert_keeps (s : State) (t : State) (h : cmdDomainRevert s = .next t) : Keeps 0x5000000000000000000000000000000000000000000000000000f00ff007600000000000000000000000000000000000000000000000000000000000700070003000000000000000000000000000000000000000f00db00010001000f0007000f00000000000000000000000000000000000000000000000b0006000300070001000000000000000000000000000000000000000000000000000000000000000001ffecfd s t := by
  refine ans_keeps h (by decide) (k := 0x5000000000000000000000000000000000000000000000000000f00ff007600000000000000000000000000000000000000000000000000000000000700070003000000000000000000000000000000000000000f00db00010001000f0007000f00000000000000000000000000000000000000000000000b0006000300070001000000000000000000000000000000000000000000000000000000000000000001ffecfc) ?_
  repeat' first
      | with_reducible exact Keeps.refl
      | (with_reducible apply Keeps.step (execDomainRevert_keeps ..); · decide)
      | with_reducible refine Keeps.ite ?_ ?_
      | split

theorem cmdSwitchAt_keeps (v : List Byte) (o : Origin) (s : State) (t : State) (h : cmdSwitchAt v o s = .next t) : Keeps 0x5000000000000000000000000000000000000000000000000000f00ff007600000000000000000000000000000000000000000000000000000000000700070003000000000000000000000000000000000000000f00db00010001000f0007000f0000000000000000000000000000000000000000000000090006000300070001000000000000000000000000000000000000000000000000000000000000000001ffacfd s t := by
  refine ans_keeps h (by decide) (k := 0x5000000000000000000000000000000000000000000000000000f00ff007600000000000000000000000000000000000000000000000000000000000700070003000000000000000000000000000000000000000f00db00010001000f0007000f0000000000000000000000000000000000000000000000090006000300070001000000000000000000000000000000000000000000000000000000000000000001ffacfc) ?_
  refine State.request_keeps_of (m := 0x5000000000000000000000000000000000000000000000000000f00ff007600000000000000000000000000000000000000000000000000000000000700070003000000000000000000000000000000000000000f00db00010001000f0007000f0000000000000000000000000000000000000000000000090006000300070001000000000000000000000000000000000000000000000000000000000000000001ffacfc) (by decide) (by decide) (by decide) ?_ ..
  intro w r v x
  exact (writeSwitchAt_keeps ..).weaken (by decide)

theorem cmdTimedSwitch_keeps (s : State) (t : State) (h : cmdTimedSwitch s = .next t) : Keeps 0x5000000000000000000000000000000000000000000000000000f00ff007600000000000000000000000000000000000000000000000000000000000700070003000000000000000000000000000000000000000f00db00010001000f0007000f00000000000000000000000000000000000000000000000b0006000300070001000000000000000000000000000000000000000000000000000000000000000001ffecfd s t := by
  refine ans_keeps h (by decide) (k := 0x5000000000000000000000000000000000000000000000000000f00ff007600000000000000000000000000000000000000000000000000000000000700070003000000000000000000000000000000000000000f00db00010001000f0007000f00000000000000000000000000000000000000000000000b0006000300070001000000000000000000000000000000000000000000000000000000000000000001ffecfc) ?_
  repeat' first
      | with_reducible exact Keeps.refl
      | (with_reducible apply Keeps.step (execTimedSwitch_keeps ..); · decide)
      | with_reducible refine Keeps.ite ?_ ?_
      | split

theorem cmdSnapGo_keeps (v : Word) (p : Path) (s : State) (t : State) (h : cmdSnapGo v p s = .next t) : Keeps 0x1e80003 s t := by
  refine ans_keeps h (by decide) (k := 0x1e80002) ?_
  repeat' first
      | with_reducible exact Keeps.refl
      | (with_reducible apply Keeps.step (State.accessWrite_keeps ..); · decide)
      | with_reducible refine Keeps.ite ?_ ?_
      | split

theorem cmdPulse_keeps (row : Nat) (v : List Byte) (o : Origin) (s : State) (t : State) (h : cmdPulse row v o s = .next t) : Keeps 0x5000000000000000000000000000000000000000000000000000e00ff001400000000000000000000000000000000000000000000000000000000000700070003000000000000000000000000000000000000000f00db00010001000f0007000f0000000000000000000000000000000000000000000000010005000300070001000000000000000000000000000000000000000000000000000000000000000001ff8cfd s t := by
  refine ans_keeps h (by decide) (k := 0x5000000000000000000000000000000000000000000000000000e00ff001400000000000000000000000000000000000000000000000000000000000700070003000000000000000000000000000000000000000f00db00010001000f0007000f0000000000000000000000000000000000000000000000010005000300070001000000000000000000000000000000000000000000000000000000000000000001ff8cfc) ?_
  refine State.request_keeps_of (m := 0x5000000000000000000000000000000000000000000000000000e00ff001400000000000000000000000000000000000000000000000000000000000700070003000000000000000000000000000000000000000f00db00010001000f0007000f0000000000000000000000000000000000000000000000010005000300070001000000000000000000000000000000000000000000000000000000000000000001ff8cfc) (by decide) (by decide) (by decide) ?_ ..
  intro w r v x
  exact (writePulse_keeps ..).weaken (by decide)

theorem cmdPulseEdge_keeps (row : Nat) (s : State) (t : State) (h : cmdPulseEdge row s = .next t) : Keeps 0x5000000000000000000000000000000000000000000000000000e00ff001400000000000000000000000000000000000000000000000000000000000700070003000000000000000000000000000000000000000f00db00010001000f0007000f0000000000000000000000000000000000000000000000010005000300070001000000000000000000000000000000000000000000000000000000000000000001ff8cfd s t := by
  refine ans_keeps h (by decide) (k := 0x5000000000000000000000000000000000000000000000000000e00ff001400000000000000000000000000000000000000000000000000000000000700070003000000000000000000000000000000000000000f00db00010001000f0007000f0000000000000000000000000000000000000000000000010005000300070001000000000000000000000000000000000000000000000000000000000000000001ff8cfc) ?_
  repeat' first
      | with_reducible exact Keeps.refl
      | (with_reducible apply Keeps.step (execPulseEdge_keeps ..); · decide)
      | with_reducible refine Keeps.ite ?_ ?_
      | split

theorem cmdTsiEdge_keeps (input : Nat) (at_ : Nat) (frac : Nat) (falling : Bool) (widthNs : Nat) (s : State) (t : State) (h : cmdTsiEdge input at_ frac falling widthNs s = .next t) : Keeps 0x5000000000000000000000000000000000000000000000000000f00ff007600000000000000000000000000000000000000000000000000000000000700070003000000000000000000000000000000000000000f00db00010001000f0007000f00000000000000000000000000000000000000000000000b0007000300070001000000000000000000000000000000000000000000000000000000000000000001ffecfd s t := by
  refine ans_keeps h (by decide) (k := 0x5000000000000000000000000000000000000000000000000000f00ff007600000000000000000000000000000000000000000000000000000000000700070003000000000000000000000000000000000000000f00db00010001000f0007000f00000000000000000000000000000000000000000000000b0007000300070001000000000000000000000000000000000000000000000000000000000000000001ffecfc) ?_
  repeat' first
      | with_reducible exact Keeps.refl
      | (with_reducible apply Keeps.step (execTsiEdge_keeps ..); · decide)
      | with_reducible refine Keeps.ite ?_ ?_
      | split

theorem cmdRead_keeps (m : EopMsg) (s : State) (t : State) (h : cmdRead m s = .next t) : Keeps 0x1 s t := by
  refine ans_keeps h (by decide) (k := 0x0) ?_
  repeat' first
      | with_reducible exact Keeps.refl
      | (with_reducible apply Keeps.step (State.received_keeps ..); · decide)
      | with_reducible refine Keeps.ite ?_ ?_
      | split

theorem cmdWrite_keeps (m : EopMsg) (s : State) (t : State) (h : cmdWrite m s = .next t) : Keeps 0x1 s t := by
  refine ans_keeps h (by decide) (k := 0x0) ?_
  repeat' first
      | with_reducible exact Keeps.refl
      | (with_reducible apply Keeps.step (State.cancelsDone_keeps ..); · decide)
      | (with_reducible apply Keeps.step (State.received_keeps ..); · decide)
      | with_reducible refine Keeps.ite ?_ ?_
      | split

theorem cmdReadRow_keeps (m : EopMsg) (s : State) (t : State) (h : cmdReadRow m s = .next t) : Keeps 0x1 s t := by
  refine ans_keeps h (by decide) (k := 0x0) ?_
  repeat' first
      | with_reducible exact Keeps.refl
      | (with_reducible apply Keeps.step (State.received_keeps ..); · decide)
      | with_reducible refine Keeps.ite ?_ ?_
      | split

theorem cmdWriteRow_keeps (m : EopMsg) (s : State) (t : State) (h : cmdWriteRow m s = .next t) : Keeps 0x1 s t := by
  refine ans_keeps h (by decide) (k := 0x0) ?_
  repeat' first
      | with_reducible exact Keeps.refl
      | (with_reducible apply Keeps.step (State.received_keeps ..); · decide)
      | with_reducible refine Keeps.ite ?_ ?_
      | split

theorem cmdExec_keeps (m : EopMsg) (s : State) (t : State) (h : cmdExec m s = .next t) : Keeps 0x1 s t := by
  refine ans_keeps h (by decide) (k := 0x0) ?_
  repeat' first
      | with_reducible exact Keeps.refl
      | (with_reducible apply Keeps.step (State.received_keeps ..); · decide)
      | with_reducible refine Keeps.ite ?_ ?_
      | split

theorem cmdSubmit_keeps (m : EopMsg) (s : State) (t : State) (h : cmdSubmit m s = .next t) : Keeps 0x1 s t := by
  refine ans_keeps h (by decide) (k := 0x0) ?_
  repeat' first
      | with_reducible exact Keeps.refl
      | (with_reducible apply Keeps.step (State.received_keeps ..); · decide)
      | with_reducible refine Keeps.ite ?_ ?_
      | split

theorem cmdCancel_keeps (m : EopMsg) (s : State) (t : State) (h : cmdCancel m s = .next t) : Keeps 0x1 s t := by
  refine ans_keeps h (by decide) (k := 0x0) ?_
  repeat' first
      | with_reducible exact Keeps.refl
      | (with_reducible apply Keeps.step (State.cancelsDone_keeps ..); · decide)
      | (with_reducible apply Keeps.step (State.received_keeps ..); · decide)
      | with_reducible refine Keeps.ite ?_ ?_
      | split

theorem cmdHello_keeps (m : EopMsg) (s : State) (t : State) (h : cmdHello m s = .next t) : Keeps 0x1 s t := by
  refine ans_keeps h (by decide) (k := 0x0) ?_
  repeat' first
      | with_reducible exact Keeps.refl
      | (with_reducible apply Keeps.step (State.received_keeps ..); · decide)
      | with_reducible refine Keeps.ite ?_ ?_
      | split

theorem cmdHeartbeat_keeps (m : EopMsg) (s : State) (t : State) (h : cmdHeartbeat m s = .next t) : Keeps 0x1 s t := by
  refine ans_keeps h (by decide) (k := 0x0) ?_
  repeat' first
      | with_reducible exact Keeps.refl
      | (with_reducible apply Keeps.step (State.received_keeps ..); · decide)
      | with_reducible refine Keeps.ite ?_ ?_
      | split

theorem cmdImageBlock_keeps (m : EopMsg) (s : State) (t : State) (h : cmdImageBlock m s = .next t) : Keeps 0x1 s t := by
  refine ans_keeps h (by decide) (k := 0x0) ?_
  repeat' first
      | with_reducible exact Keeps.refl
      | (with_reducible apply Keeps.step (State.received_keeps ..); · decide)
      | with_reducible refine Keeps.ite ?_ ?_
      | split

theorem cmdSessionIdleTimeout_keeps (slot : Nat) (s : State) (t : State) (h : cmdSessionIdleTimeout slot s = .next t) : Keeps 0x5000000000000000000000000000000000000000000000000000f00ff005c00000000000000000000000000000000000000000000000000000000000700070003000000000000000000000000000000000000000f00db00010001000f0007000f0000000000000000000000000000000000000000000000010007000300070001000000000000000000000000000000000000000000000000000000000000000001ffacfd s t := by
  refine ans_keeps h (by decide) (k := 0x5000000000000000000000000000000000000000000000000000f00ff005c00000000000000000000000000000000000000000000000000000000000700070003000000000000000000000000000000000000000f00db00010001000f0007000f0000000000000000000000000000000000000000000000010007000300070001000000000000000000000000000000000000000000000000000000000000000001ffacfc) ?_
  repeat' first
      | with_reducible exact Keeps.refl
      | (with_reducible apply Keeps.step (execSessionIdleTimeout_keeps ..); · decide)
      | with_reducible refine Keeps.ite ?_ ?_
      | split

theorem cmdEventSend_keeps (slot : Nat) (s : State) (t : State) (h : cmdEventSend slot s = .next t) : Keeps 0x5000000000000000000000000000000000000000000000000000f00ff001c00000000000000000000000000000000000000000000000000000000000700070003000000000000000000000000000000000000000f00db00010001000f0007000f0000000000000000000000000000000000000000000000010007000300070001000000000000000000000000000000000000000000000000000000000000000001ffacfd s t := by
  refine ans_keeps h (by decide) (k := 0x5000000000000000000000000000000000000000000000000000f00ff001c00000000000000000000000000000000000000000000000000000000000700070003000000000000000000000000000000000000000f00db00010001000f0007000f0000000000000000000000000000000000000000000000010007000300070001000000000000000000000000000000000000000000000000000000000000000001ffacfc) ?_
  repeat' first
      | with_reducible exact Keeps.refl
      | (with_reducible apply Keeps.step (execEventSend_keeps ..); · decide)
      | with_reducible refine Keeps.ite ?_ ?_
      | split

theorem cmdCheckpointStore_keeps (slot : Nat) (transmit : Bool) (s : State) (t : State) (h : cmdCheckpointStore slot transmit s = .next t) : Keeps 0x5000000000000000000000000000000000000000000000000000f00ff001e00000000000000000000000000000000000000000000000000000000000700070003000000000000000000000000000000000000000f00db00010001000f0007000f0000000000000000000000000000000000000000000000010007000300070001000000000000000000000000000000000000000000000000000000000000000001ff8d7f s t := by
  refine ans_keeps h (by decide) (k := 0x5000000000000000000000000000000000000000000000000000f00ff001e00000000000000000000000000000000000000000000000000000000000700070003000000000000000000000000000000000000000f00db00010001000f0007000f0000000000000000000000000000000000000000000000010007000300070001000000000000000000000000000000000000000000000000000000000000000001ff8d7e) ?_
  repeat' first
      | with_reducible exact Keeps.refl
      | (with_reducible apply Keeps.step (execCheckpointStore_keeps ..); · decide)
      | with_reducible refine Keeps.ite ?_ ?_
      | split

theorem cmdSettingsSave_keeps (ok : Bool) (s : State) (t : State) (h : cmdSettingsSave s ok = .next t) : Keeps 0x5000000000000000000000000000000000000000000000000000f00ff007e00000000000000000000000000000000000000000000000000000000000700070003000000000000000000000000000000000000000f00db00010001000f0007000f00000000000000000000000000000000000000000000000b0007000300070000000000000000000000000000000000000000000000000000000000000000000001feed7f s t := by
  refine ans_keeps h (by decide) (k := 0x5000000000000000000000000000000000000000000000000000f00ff007e00000000000000000000000000000000000000000000000000000000000700070003000000000000000000000000000000000000000f00db00010001000f0007000f00000000000000000000000000000000000000000000000b0007000300070000000000000000000000000000000000000000000000000000000000000000000001feed7e) ?_
  repeat' first
      | with_reducible exact Keeps.refl
      | (with_reducible apply Keeps.step (execSettingsSave_keeps ..); · decide)
      | with_reducible refine Keeps.ite ?_ ?_
      | split

theorem cmdSettingsDefault_keeps (v : Nat) (o : Origin) (s : State) (t : State) (h : cmdSettingsDefault v o s = .next t) : Keeps 0x1050ccd s t := by
  refine ans_keeps h (by decide) (k := 0x1050ccc) ?_
  refine State.request_keeps_of (m := 0x1050ccc) (by decide) (by decide) (by decide) ?_ ..
  intro w r v x
  exact (writeSettingsDefault_keeps ..).weaken (by decide)

theorem cmdProvisionKey_keeps (key : List Byte) (o : Origin) (s : State) (t : State) (h : cmdProvisionKey key o s = .next t) : Keeps 0x5000000000000000000000000000000000000000000000000000f00ff007e00000000000000000000000000000000000000000000000000000000000700070003000000000000000000000000000000000000000f00db00010001000f0007000f0000000000000000000000000000000000000000000000090007000300070001000000000000000000000000000000000000000000000000000000000000000001ffad7f s t := by
  refine ans_keeps h (by decide) (k := 0x5000000000000000000000000000000000000000000000000000f00ff007e00000000000000000000000000000000000000000000000000000000000700070003000000000000000000000000000000000000000f00db00010001000f0007000f0000000000000000000000000000000000000000000000090007000300070001000000000000000000000000000000000000000000000000000000000000000001ffad7e) ?_
  refine State.request_keeps_of (m := 0x5000000000000000000000000000000000000000000000000000f00ff007e00000000000000000000000000000000000000000000000000000000000700070003000000000000000000000000000000000000000f00db00010001000f0007000f0000000000000000000000000000000000000000000000090007000300070001000000000000000000000000000000000000000000000000000000000000000001ffad7e) (by decide) (by decide) (by decide) ?_ ..
  intro w r v x
  exact (writeProvisionKey_keeps ..).weaken (by decide)

theorem cmdKey_keeps (row : Nat) (v : List Byte) (counter : Nat) (byKey0 : Bool) (s : State) (t : State) (h : cmdKey row v counter byKey0 s = .next t) : Keeps 0x401 s t := by
  refine ans_keeps h (by decide) (k := 0x400) ?_
  repeat' first
      | with_reducible exact Keeps.refl
      | (with_reducible apply Keeps.step (execKey_keeps ..); · decide)
      | with_reducible refine Keeps.ite ?_ ?_
      | split

theorem cmdEventSubscribe_keeps (mask : List Byte) (o : Origin) (s : State) (t : State) (h : cmdEventSubscribe mask o s = .next t) : Keeps 0x5000000000000000000000000000000000000000000000000000f00ff007e00000000000000000000000000000000000000000000000000000000000700070003000000000000000000000000000000000000000f00db00010001000f0007000f0000000000000000000000000000000000000000000000090007000300070001000000000000000000000000000000000000000000000000000000000000000001ffadff s t := by
  refine ans_keeps h (by decide) (k := 0x5000000000000000000000000000000000000000000000000000f00ff007e00000000000000000000000000000000000000000000000000000000000700070003000000000000000000000000000000000000000f00db00010001000f0007000f0000000000000000000000000000000000000000000000090007000300070001000000000000000000000000000000000000000000000000000000000000000001ffadfe) ?_
  refine State.request_keeps_of (m := 0x5000000000000000000000000000000000000000000000000000f00ff007e00000000000000000000000000000000000000000000000000000000000700070003000000000000000000000000000000000000000f00db00010001000f0007000f0000000000000000000000000000000000000000000000090007000300070001000000000000000000000000000000000000000000000000000000000000000001ffadfe) (by decide) (by decide) (by decide) ?_ ..
  intro w r v x
  exact (writeSubscribe_keeps ..).weaken (by decide)

theorem cmdHostDoorbellGo_keeps (v : Word) (s : State) (t : State) (h : cmdHostDoorbellGo v s = .next t) : Keeps 0x1 s t := by
  refine ans_keeps h (by decide) (k := 0x0) ?_
  repeat' first
      | with_reducible exact Keeps.refl
      | (with_reducible apply Keeps.step (State.cancelsDone_keeps ..); · decide)
      | (with_reducible apply Keeps.step (execHostDoorbell_keeps ..); · decide)
      | with_reducible refine Keeps.ite ?_ ?_
      | split

theorem cmdReadBurst_keeps (addr : Word) (words : Nat) (s : State) (t : State) (h : cmdReadBurst addr words s = .next t) : Keeps 0x5000000000000000000000000000000000000000000000000000d00ff007e00000000000000000000000000000000000000000000000000000000000700070003000000000000000000000000000000000000000f00db00010001000f0007000f00000000000000000000000000000000000000000000000b0007000300070001000000000000000000000000000000000000000000000000000000000000000001fff3fb s t := by
  refine ans_keeps h (by decide) (k := 0x5000000000000000000000000000000000000000000000000000d00ff007e00000000000000000000000000000000000000000000000000000000000700070003000000000000000000000000000000000000000f00db00010001000f0007000f00000000000000000000000000000000000000000000000b0007000300070001000000000000000000000000000000000000000000000000000000000000000001fff3fa) ?_
  repeat' first
      | with_reducible exact Keeps.refl
      | (with_reducible apply Keeps.step (execReadBurst_keeps ..); · decide)
      | with_reducible refine Keeps.ite ?_ ?_
      | split

theorem cmdWriteBurst_keeps (addr : Word) (data : List Word) (s : State) (t : State) (h : cmdWriteBurst addr data s = .next t) : Keeps 0x1 s t := by
  refine ans_keeps h (by decide) (k := 0x0) ?_
  repeat' first
      | with_reducible exact Keeps.refl
      | (with_reducible apply Keeps.step (execWriteBurst_keeps ..); · decide)
      | (with_reducible apply Keeps.step (State.mailboxRun_keeps ..); · decide)
      | with_reducible refine Keeps.ite ?_ ?_
      | split

theorem cmdHspiStatus_keeps (s : State) (t : State) (h : cmdHspiStatus s = .next t) : Keeps 0x5000000000000000000000000000000000000000000000000000f00ff007e00010000000000000000000000000000000000000000000000000000000700070003000000000000000000000000000000000000000f00db00010001000f0007000f00000000000000000000000000000000000000000000000b0007000300070001000000000000000000000000000000000000000000000000000000000000000001fff7ff s t := by
  refine ans_keeps h (by decide) (k := 0x5000000000000000000000000000000000000000000000000000f00ff007e00010000000000000000000000000000000000000000000000000000000700070003000000000000000000000000000000000000000f00db00010001000f0007000f00000000000000000000000000000000000000000000000b0007000300070001000000000000000000000000000000000000000000000000000000000000000001fff7fe) ?_
  repeat' first
      | with_reducible exact Keeps.refl
      | (with_reducible apply Keeps.step (execHspiStatus_keeps ..); · decide)
      | with_reducible refine Keeps.ite ?_ ?_
      | split

theorem cmdUnknownOpcode_keeps (op : Option Nat) (s : State) (t : State) (h : cmdUnknownOpcode op s = .next t) : Keeps 0x5000000000000000000000000000000000000000000000000000f00ff007e00000000000000000000000000000000000000000000000000000000000700070003000000000000000000000000000000000000000f00db00010001000f0007000f00000000000000000000000000000000000000000000000b0007000300070001000000000000000000000000000000000000000000000000000000000000000001fff7ff s t := by
  refine ans_keeps h (by decide) (k := 0x5000000000000000000000000000000000000000000000000000f00ff007e00000000000000000000000000000000000000000000000000000000000700070003000000000000000000000000000000000000000f00db00010001000f0007000f00000000000000000000000000000000000000000000000b0007000300070001000000000000000000000000000000000000000000000000000000000000000001fff7fe) ?_
  repeat' first
      | with_reducible exact Keeps.refl
      | (with_reducible apply Keeps.step (execUnknownOpcode_keeps ..); · decide)
      | with_reducible refine Keeps.ite ?_ ?_
      | split

theorem cmdLateFetchDone_keeps (s : State) (t : State) (h : cmdLateFetchDone s = .next t) : Keeps 0x5000000000000000000000000000000000000000000000000000d00ff007e00010000000000000000000000000000000000000000000000000000000700070003000000000000000000000000000000000000000f00db00010001000f0007000f00000000000000000000000000000000000000000000000b0007000300070001000000000000000000000000000000000000000000000000000000000000000001fff7ff s t := by
  refine ans_keeps h (by decide) (k := 0x5000000000000000000000000000000000000000000000000000d00ff007e00010000000000000000000000000000000000000000000000000000000700070003000000000000000000000000000000000000000f00db00010001000f0007000f00000000000000000000000000000000000000000000000b0007000300070001000000000000000000000000000000000000000000000000000000000000000001fff7fe) ?_
  repeat' first
      | with_reducible exact Keeps.refl
      | (with_reducible apply Keeps.step (execLateFetchDone_keeps ..); · decide)
      | with_reducible refine Keeps.ite ?_ ?_
      | split

theorem cmdRegisterWrite_keeps (p : Path) (addr : Word) (v : Word) (s : State) (t : State) (h : cmdRegisterWrite p addr v s = .next t) : Keeps 0x1 s t := by
  refine ans_keeps h (by decide) (k := 0x0) ?_
  repeat' first
      | with_reducible exact Keeps.refl
      | (with_reducible apply Keeps.step (State.accessWrite_keeps ..); · decide)
      | (with_reducible apply Keeps.step (State.mailboxRun_keeps ..); · decide)
      | with_reducible refine Keeps.ite ?_ ?_
      | split

theorem cmdMaskedWrite_keeps (p : Path) (addr : Word) (v : Word) (s : State) (t : State) (h : cmdMaskedWrite p addr v s = .next t) : Keeps 0x1 s t := by
  refine ans_keeps h (by decide) (k := 0x0) ?_
  repeat' first
      | with_reducible exact Keeps.refl
      | (with_reducible apply Keeps.step (State.accessWrite_keeps ..); · decide)
      | (with_reducible apply Keeps.step (State.mailboxRun_keeps ..); · decide)
      | with_reducible refine Keeps.ite ?_ ?_
      | split

theorem cmdWolWrite_keeps (p : Path) (addr : Word) (v : Word) (s : State) (t : State) (h : cmdWolWrite p addr v s = .next t) : Keeps 0x1 s t := by
  refine ans_keeps h (by decide) (k := 0x0) ?_
  repeat' first
      | with_reducible exact Keeps.refl
      | (with_reducible apply Keeps.step (State.accessWrite_keeps ..); · decide)
      | (with_reducible apply Keeps.step (State.mailboxRun_keeps ..); · decide)
      | with_reducible refine Keeps.ite ?_ ?_
      | split

theorem cmdCounterLoRead_keeps (p : Path) (addr : Word) (s : State) (t : State) (h : cmdCounterLoRead p addr s = .next t) : Keeps 0x5000000000000000000000000000000000000000000000000000d00ff007e00000000000000000000000000000000000000000000000000000000000700070003000000000000000000000000000000000000000f00db00010001000f0007000f00000000000000000000000000000000000000000000000b0007000300070001000000000000000000000000000000000000000000000000000000000000000001ffe1fb s t := by
  refine ans_keeps h (by decide) (k := 0x5000000000000000000000000000000000000000000000000000d00ff007e00000000000000000000000000000000000000000000000000000000000700070003000000000000000000000000000000000000000f00db00010001000f0007000f00000000000000000000000000000000000000000000000b0007000300070001000000000000000000000000000000000000000000000000000000000000000001ffe1fa) ?_
  repeat' first
      | with_reducible exact Keeps.refl
      | (with_reducible apply Keeps.step (State.accessRead_keeps ..); · decide)
      | with_reducible refine Keeps.ite ?_ ?_
      | split

theorem cmdCulvAddrWrite_keeps (p : Path) (block : Nat) (v : Word) (s : State) (t : State) (h : cmdCulvAddrWrite p block v s = .next t) : Keeps 0x1e80003 s t := by
  refine ans_keeps h (by decide) (k := 0x1e80002) ?_
  repeat' first
      | with_reducible exact Keeps.refl
      | (with_reducible apply Keeps.step (State.accessWrite_keeps ..); · decide)
      | with_reducible refine Keeps.ite ?_ ?_
      | split

theorem cmdCulvDataRead_keeps (p : Path) (block : Nat) (s : State) (t : State) (h : cmdCulvDataRead p block s = .next t) : Keeps 0x5000000000000000000000000000000000000000000000000000d00ff007e00000000000000000000000000000000000000000000000000000000000700070003000000000000000000000000000000000000000f00db00010001000f0007000f00000000000000000000000000000000000000000000000b0007000300070001000000000000000000000000000000000000000000000000000000000000000001ffe1fb s t := by
  refine ans_keeps h (by decide) (k := 0x5000000000000000000000000000000000000000000000000000d00ff007e00000000000000000000000000000000000000000000000000000000000700070003000000000000000000000000000000000000000f00db00010001000f0007000f00000000000000000000000000000000000000000000000b0007000300070001000000000000000000000000000000000000000000000000000000000000000001ffe1fa) ?_
  repeat' first
      | with_reducible exact Keeps.refl
      | (with_reducible apply Keeps.step (State.accessRead_keeps ..); · decide)
      | with_reducible refine Keeps.ite ?_ ?_
      | split

theorem cmdCulvDataWrite_keeps (p : Path) (block : Nat) (v : Word) (s : State) (t : State) (h : cmdCulvDataWrite p block v s = .next t) : Keeps 0x1e80003 s t := by
  refine ans_keeps h (by decide) (k := 0x1e80002) ?_
  repeat' first
      | with_reducible exact Keeps.refl
      | (with_reducible apply Keeps.step (State.accessWrite_keeps ..); · decide)
      | with_reducible refine Keeps.ite ?_ ?_
      | split

theorem cmdCauseClear_keeps (p : Path) (bank : Nat) (v : Word) (s : State) (t : State) (h : cmdCauseClear p bank v s = .next t) : Keeps 0x1e80003 s t := by
  refine ans_keeps h (by decide) (k := 0x1e80002) ?_
  repeat' first
      | with_reducible exact Keeps.refl
      | (with_reducible apply Keeps.step (State.accessWrite_keeps ..); · decide)
      | with_reducible refine Keeps.ite ?_ ?_
      | split

theorem cmdSumClear_keeps (p : Path) (quire : Nat) (v : Word) (s : State) (t : State) (h : cmdSumClear p quire v s = .next t) : Keeps 0x1e80003 s t := by
  refine ans_keeps h (by decide) (k := 0x1e80002) ?_
  repeat' first
      | with_reducible exact Keeps.refl
      | (with_reducible apply Keeps.step (State.accessWrite_keeps ..); · decide)
      | with_reducible refine Keeps.ite ?_ ?_
      | split

theorem cmdSysFaultClear_keeps (p : Path) (v : Word) (s : State) (t : State) (h : cmdSysFaultClear p v s = .next t) : Keeps 0x1e80003 s t := by
  refine ans_keeps h (by decide) (k := 0x1e80002) ?_
  repeat' first
      | with_reducible exact Keeps.refl
      | (with_reducible apply Keeps.step (State.accessWrite_keeps ..); · decide)
      | with_reducible refine Keeps.ite ?_ ?_
      | split

theorem cmdEventTest_keeps (p : Path) (v : Word) (s : State) (t : State) (h : cmdEventTest p v s = .next t) : Keeps 0x1e80003 s t := by
  refine ans_keeps h (by decide) (k := 0x1e80002) ?_
  repeat' first
      | with_reducible exact Keeps.refl
      | (with_reducible apply Keeps.step (State.accessWrite_keeps ..); · decide)
      | with_reducible refine Keeps.ite ?_ ?_
      | split

theorem cmdCqPop_keeps (p : Path) (v : Word) (s : State) (t : State) (h : cmdCqPop p v s = .next t) : Keeps 0x1e80003 s t := by
  refine ans_keeps h (by decide) (k := 0x1e80002) ?_
  repeat' first
      | with_reducible exact Keeps.refl
      | (with_reducible apply Keeps.step (State.accessWrite_keeps ..); · decide)
      | with_reducible refine Keeps.ite ?_ ?_
      | split

theorem cmdClearOverflow_keeps (p : Path) (v : Word) (s : State) (t : State) (h : cmdClearOverflow p v s = .next t) : Keeps 0x1e80003 s t := by
  refine ans_keeps h (by decide) (k := 0x1e80002) ?_
  repeat' first
      | with_reducible exact Keeps.refl
      | (with_reducible apply Keeps.step (State.accessWrite_keeps ..); · decide)
      | with_reducible refine Keeps.ite ?_ ?_
      | split

theorem cmdFrameReceive_keeps (port : Nat) (f : EthFrame) (s : State) (t : State) (h : cmdFrameReceive port f s = .next t) : Keeps 0x5000000000000000000000000000000000000000000000000000f00ff000400000000000000000000000000000000000000000000000000000000000700070003000000000000000000000000000000000000000f00db00010001000f0007000f0000000000000000000000000000000000000000000000010007000300070001000000000000000000000000000000000000000000000000000000000000000001ffacfd s t := by
  refine ans_keeps h (by decide) (k := 0x5000000000000000000000000000000000000000000000000000f00ff000400000000000000000000000000000000000000000000000000000000000700070003000000000000000000000000000000000000000f00db00010001000f0007000f0000000000000000000000000000000000000000000000010007000300070001000000000000000000000000000000000000000000000000000000000000000001ffacfc) ?_
  repeat' first
      | with_reducible exact Keeps.refl
      | (with_reducible apply Keeps.step (execFrameReceive_keeps ..); · decide)
      | with_reducible refine Keeps.ite ?_ ?_
      | split

theorem cmdFrameTransmit_keeps (port : Nat) (s : State) (t : State) (h : cmdFrameTransmit port s = .next t) : Keeps 0x5000000000000000000000000000000000000000000000000000f00ff001e00000000000000000000000000000000000000000000000000000000000700070003000000000000000000000000000000000000000f00db00010001000f0007000f0000000000000000000000000000000000000000000000010007000300070001000000000000000000000000000000000000000000000000000000000000000001ffacff s t := by
  refine ans_keeps h (by decide) (k := 0x5000000000000000000000000000000000000000000000000000f00ff001e00000000000000000000000000000000000000000000000000000000000700070003000000000000000000000000000000000000000f00db00010001000f0007000f0000000000000000000000000000000000000000000000010007000300070001000000000000000000000000000000000000000000000000000000000000000001ffacfe) ?_
  repeat' first
      | with_reducible exact Keeps.refl
      | (with_reducible apply Keeps.step (execFrameTransmit_keeps ..); · decide)
      | with_reducible refine Keeps.ite ?_ ?_
      | split

theorem cmdLinkChange_keeps (port : Nat) (up : Bool) (speedMbit : Nat) (s : State) (t : State) (h : cmdLinkChange port up speedMbit s = .next t) : Keeps 0x5000000000000000000000000000000000000000000000000000f00ff001e00000000000000000000000000000000000000000000000000000000000700070003000000000000000000000000000000000000000f00db00010001000f0007000f0000000000000000000000000000000000000000000000010007000300070001000000000000000000000000000000000000000000000000000000000000000001ffadff s t := by
  refine ans_keeps h (by decide) (k := 0x5000000000000000000000000000000000000000000000000000f00ff001e00000000000000000000000000000000000000000000000000000000000700070003000000000000000000000000000000000000000f00db00010001000f0007000f0000000000000000000000000000000000000000000000010007000300070001000000000000000000000000000000000000000000000000000000000000000001ffadfe) ?_
  repeat' first
      | with_reducible exact Keeps.refl
      | (with_reducible apply Keeps.step (execLinkChange_keeps ..); · decide)
      | with_reducible refine Keeps.ite ?_ ?_
      | split

theorem cmdPauseFrame_keeps (port : Nat) (at_ : Nat) (quanta : Nat) (s : State) (t : State) (h : cmdPauseFrame port at_ quanta s = .next t) : Keeps 0x5000000000000000000000000000000000000000000000000000f00ff003e00000000000000000000000000000000000000000000000000000000000700070003000000000000000000000000000000000000000f00db00010001000f0007000f0000000000000000000000000000000000000000000000090007000300070001000000000000000000000000000000000000000000000000000000000000000001ffacfd s t := by
  refine ans_keeps h (by decide) (k := 0x5000000000000000000000000000000000000000000000000000f00ff003e00000000000000000000000000000000000000000000000000000000000700070003000000000000000000000000000000000000000f00db00010001000f0007000f0000000000000000000000000000000000000000000000090007000300070001000000000000000000000000000000000000000000000000000000000000000001ffacfc) ?_
  repeat' first
      | with_reducible exact Keeps.refl
      | (with_reducible apply Keeps.step (execPauseFrame_keeps ..); · decide)
      | with_reducible refine Keeps.ite ?_ ?_
      | split

theorem cmdPauseWindowEnd_keeps (port : Nat) (s : State) (t : State) (h : cmdPauseWindowEnd port s = .next t) : Keeps 0x5000000000000000000000000000000000000000000000000000f00ff007e00010000000000000000000000000000000000000000000000000000000700070003000000000000000000000000000000000000000f00db00010001000f0007000f0000000000000000000000000000000000000000000000090007000300070001000000000000000000000000000000000000000000000000000000000000000001ffbefd s t := by
  refine ans_keeps h (by decide) (k := 0x5000000000000000000000000000000000000000000000000000f00ff007e00010000000000000000000000000000000000000000000000000000000700070003000000000000000000000000000000000000000f00db00010001000f0007000f0000000000000000000000000000000000000000000000090007000300070001000000000000000000000000000000000000000000000000000000000000000001ffbefc) ?_
  repeat' first
      | with_reducible exact Keeps.refl
      | (with_reducible apply Keeps.step (execPauseWindowEnd_keeps ..); · decide)
      | with_reducible refine Keeps.ite ?_ ?_
      | split

theorem cmdPauseRepeat_keeps (port : Nat) (s : State) (t : State) (h : cmdPauseRepeat port s = .next t) : Keeps 0x5000000000000000000000000000000000000000000000000000f00ff007e00000000000000000000000000000000000000000000000000000000000700070003000000000000000000000000000000000000000f00db00010001000f0007000f0000000000000000000000000000000000000000000000090007000300070001000000000000000000000000000000000000000000000000000000000000000001ffacfd s t := by
  refine ans_keeps h (by decide) (k := 0x5000000000000000000000000000000000000000000000000000f00ff007e00000000000000000000000000000000000000000000000000000000000700070003000000000000000000000000000000000000000f00db00010001000f0007000f0000000000000000000000000000000000000000000000090007000300070001000000000000000000000000000000000000000000000000000000000000000001ffacfc) ?_
  repeat' first
      | with_reducible exact Keeps.refl
      | (with_reducible apply Keeps.step (execPauseRepeat_keeps ..); · decide)
      | with_reducible refine Keeps.ite ?_ ?_
      | split

theorem cmdArpRequest_keeps (port : Nat) (target : Nat) (senderMac : Nat) (senderIp : Nat) (vid : Nat) (s : State) (t : State) (h : cmdArpRequest port target senderMac senderIp vid s = .next t) : Keeps 0x5000000000000000000000000000000000000000000000000000f00ff001e00000000000000000000000000000000000000000000000000000000000700070003000000000000000000000000000000000000000f00db00010001000f0007000f0000000000000000000000000000000000000000000000010007000300070001000000000000000000000000000000000000000000000000000000000000000001ffadff s t := by
  refine ans_keeps h (by decide) (k := 0x5000000000000000000000000000000000000000000000000000f00ff001e00000000000000000000000000000000000000000000000000000000000700070003000000000000000000000000000000000000000f00db00010001000f0007000f0000000000000000000000000000000000000000000000010007000300070001000000000000000000000000000000000000000000000000000000000000000001ffadfe) ?_
  repeat' first
      | with_reducible exact Keeps.refl
      | (with_reducible apply Keeps.step (execArpRequest_keeps ..); · decide)
      | with_reducible refine Keeps.ite ?_ ?_
      | split

theorem cmdPortEnable_keeps (port : Nat) (v : Nat) (o : Origin) (s : State) (t : State) (h : cmdPortEnable port v o s = .next t) : Keeps 0x5000000000000000000000000000000000000000000000000000f00ff007e00000000000000000000000000000000000000000000000000000000000700070003000000000000000000000000000000000000000f00db00010001000f0007000f0000000000000000000000000000000000000000000000090007000300070001000000000000000000000000000000000000000000000000000000000000000001ffadff s t := by
  refine ans_keeps h (by decide) (k := 0x5000000000000000000000000000000000000000000000000000f00ff007e00000000000000000000000000000000000000000000000000000000000700070003000000000000000000000000000000000000000f00db00010001000f0007000f0000000000000000000000000000000000000000000000090007000300070001000000000000000000000000000000000000000000000000000000000000000001ffadfe) ?_
  refine State.request_keeps_of (m := 0x5000000000000000000000000000000000000000000000000000f00ff007e00000000000000000000000000000000000000000000000000000000000700070003000000000000000000000000000000000000000f00db00010001000f0007000f0000000000000000000000000000000000000000000000090007000300070001000000000000000000000000000000000000000000000000000000000000000001ffadfe) (by decide) (by decide) (by decide) ?_ ..
  intro w r v x
  exact (writePortEnable_keeps ..).weaken (by decide)

theorem cmdPortDrainDone_keeps (port : Nat) (s : State) (t : State) (h : cmdPortDrainDone port s = .next t) : Keeps 0x5000000000000000000000000000000000000000000000000000f00ff003e00000000000000000000000000000000000000000000000000000000000700070003000000000000000000000000000000000000000f00db00010001000f0007000f0000000000000000000000000000000000000000000000010007000300070001000000000000000000000000000000000000000000000000000000000000000001ffacfd s t := by
  refine ans_keeps h (by decide) (k := 0x5000000000000000000000000000000000000000000000000000f00ff003e00000000000000000000000000000000000000000000000000000000000700070003000000000000000000000000000000000000000f00db00010001000f0007000f0000000000000000000000000000000000000000000000010007000300070001000000000000000000000000000000000000000000000000000000000000000001ffacfc) ?_
  repeat' first
      | with_reducible exact Keeps.refl
      | (with_reducible apply Keeps.step (execPortDrainDone_keeps ..); · decide)
      | with_reducible refine Keeps.ite ?_ ?_
      | split

theorem cmdRingProbeSend_keeps (s : State) (t : State) (h : cmdRingProbeSend s = .next t) : Keeps 0x5000000000000000000000000000000000000000000000000000f00ff001e00000000000000000000000000000000000000000000000000000000000700070003000000000000000000000000000000000000000f00db00010001000f0007000f0000000000000000000000000000000000000000000000010007000300070001000000000000000000000000000000000000000000000000000000000000000001ffacfd s t := by
  refine ans_keeps h (by decide) (k := 0x5000000000000000000000000000000000000000000000000000f00ff001e00000000000000000000000000000000000000000000000000000000000700070003000000000000000000000000000000000000000f00db00010001000f0007000f0000000000000000000000000000000000000000000000010007000300070001000000000000000000000000000000000000000000000000000000000000000001ffacfc) ?_
  repeat' first
      | with_reducible exact Keeps.refl
      | (with_reducible apply Keeps.step (execRingProbeSend_keeps ..); · decide)
      | with_reducible refine Keeps.ite ?_ ?_
      | split

theorem cmdRingProbe_keeps (at_ : Nat) (node : Nat) (s : State) (t : State) (h : cmdRingProbe at_ node s = .next t) : Keeps 0x5000000000000000000000000000000000000000000000000000f00ff003e00000000000000000000000000000000000000000000000000000000000700070003000000000000000000000000000000000000000f00db00010001000f0007000f0000000000000000000000000000000000000000000000090007000300070001000000000000000000000000000000000000000000000000000000000000000001ffacfd s t := by
  refine ans_keeps h (by decide) (k := 0x5000000000000000000000000000000000000000000000000000f00ff003e00000000000000000000000000000000000000000000000000000000000700070003000000000000000000000000000000000000000f00db00010001000f0007000f0000000000000000000000000000000000000000000000090007000300070001000000000000000000000000000000000000000000000000000000000000000001ffacfc) ?_
  repeat' first
      | with_reducible exact Keeps.refl
      | (with_reducible apply Keeps.step (execRingProbe_keeps ..); · decide)
      | with_reducible refine Keeps.ite ?_ ?_
      | split

theorem cmdRingProbeTimeout_keeps (s : State) (t : State) (h : cmdRingProbeTimeout s = .next t) : Keeps 0x5000000000000000000000000000000000000000000000000000f00ff007e00000000000000000000000000000000000000000000000000000000000700070003000000000000000000000000000000000000000f00db00010001000f0007000f0000000000000000000000000000000000000000000000090007000300070001000000000000000000000000000000000000000000000000000000000000000001ffacfd s t := by
  refine ans_keeps h (by decide) (k := 0x5000000000000000000000000000000000000000000000000000f00ff007e00000000000000000000000000000000000000000000000000000000000700070003000000000000000000000000000000000000000f00db00010001000f0007000f0000000000000000000000000000000000000000000000090007000300070001000000000000000000000000000000000000000000000000000000000000000001ffacfc) ?_
  repeat' first
      | with_reducible exact Keeps.refl
      | (with_reducible apply Keeps.step (execRingProbeTimeout_keeps ..); · decide)
      | with_reducible refine Keeps.ite ?_ ?_
      | split

theorem cmdFlowEnable_keeps (row : Nat) (v : Nat) (o : Origin) (s : State) (t : State) (h : cmdFlowEnable row v o s = .next t) : Keeps 0x5000000000000000000000000000000000000000000000000000f00ff006e00000000000000000000000000000000000000000000000000000000000700070003000000000000000000000000000000000000000f00db00010001000f0007000d0000000000000000000000000000000000000000000000080007000300070001000000000000000000000000000000000000000000000000000000000000000001fdadff s t := by
  refine ans_keeps h (by decide) (k := 0x5000000000000000000000000000000000000000000000000000f00ff006e00000000000000000000000000000000000000000000000000000000000700070003000000000000000000000000000000000000000f00db00010001000f0007000d0000000000000000000000000000000000000000000000080007000300070001000000000000000000000000000000000000000000000000000000000000000001fdadfe) ?_
  refine State.request_keeps_of (m := 0x5000000000000000000000000000000000000000000000000000f00ff006e00000000000000000000000000000000000000000000000000000000000700070003000000000000000000000000000000000000000f00db00010001000f0007000d0000000000000000000000000000000000000000000000080007000300070001000000000000000000000000000000000000000000000000000000000000000001fdadfe) (by decide) (by decide) (by decide) ?_ ..
  intro w r v x
  exact (writeFlowEnableRow_keeps ..).weaken (by decide)

theorem cmdFlowDrainDone_keeps (row : Nat) (s : State) (t : State) (h : cmdFlowDrainDone row s = .next t) : Keeps 0x5000000000000000000000000000000000000000000000000000f00ff006e00000000000000000000000000000000000000000000000000000000000700070003000000000000000000000000000000000000000f00db00010001000f0007000d00000000000000000000000000000000000000000000000a0007000300070001000000000000000000000000000000000000000000000000000000000000000001fdedff s t := by
  refine ans_keeps h (by decide) (k := 0x5000000000000000000000000000000000000000000000000000f00ff006e00000000000000000000000000000000000000000000000000000000000700070003000000000000000000000000000000000000000f00db00010001000f0007000d00000000000000000000000000000000000000000000000a0007000300070001000000000000000000000000000000000000000000000000000000000000000001fdedfe) ?_
  repeat' first
      | with_reducible exact Keeps.refl
      | (with_reducible apply Keeps.step (execFlowDrainDone_keeps ..); · decide)
      | with_reducible refine Keeps.ite ?_ ?_
      | split

theorem cmdFence_keeps (f : Nat) (v : Nat) (o : Origin) (s : State) (t : State) (h : cmdFence f v o s = .next t) : Keeps 0x5000000000000000000000000000000000000000000000000000f00ff007e00000000000000000000000000000000000000000000000000000000000700070003000000000000000000000000000000000000000f00db00010001000f0007000d0000000000000000000000000000000000000000000000090007000300070001000000000000000000000000000000000000000000000000000000000000000001fdadff s t := by
  refine ans_keeps h (by decide) (k := 0x5000000000000000000000000000000000000000000000000000f00ff007e00000000000000000000000000000000000000000000000000000000000700070003000000000000000000000000000000000000000f00db00010001000f0007000d0000000000000000000000000000000000000000000000090007000300070001000000000000000000000000000000000000000000000000000000000000000001fdadfe) ?_
  refine State.request_keeps_of (m := 0x5000000000000000000000000000000000000000000000000000f00ff007e00000000000000000000000000000000000000000000000000000000000700070003000000000000000000000000000000000000000f00db00010001000f0007000d0000000000000000000000000000000000000000000000090007000300070001000000000000000000000000000000000000000000000000000000000000000001fdadfe) (by decide) (by decide) (by decide) ?_ ..
  intro w r v x
  exact (writeFence_keeps ..).weaken (by decide)

theorem cmdVideoPacket_keeps (row : Nat) (p : VideoPacket) (s : State) (t : State) (h : cmdVideoPacket row p s = .next t) : Keeps 0x5000000000000000000000000000000000000000000000000000f00fe004e00000000000000000000000000000000000000000000000000000000000700070003000000000000000000000000000000000000000f00db00010001000f000700090000000000000000000000000000000000000000000000000007000300070001000000000000000000000000000000000000000000000000000000000000000001fd2ce5 s t := by
  refine ans_keeps h (by decide) (k := 0x5000000000000000000000000000000000000000000000000000f00fe004e00000000000000000000000000000000000000000000000000000000000700070003000000000000000000000000000000000000000f00db00010001000f000700090000000000000000000000000000000000000000000000000007000300070001000000000000000000000000000000000000000000000000000000000000000001fd2ce4) ?_
  repeat' first
      | with_reducible exact Keeps.refl
      | (with_reducible apply Keeps.step (execVideoPacket_keeps ..); · decide)
      | with_reducible refine Keeps.ite ?_ ?_
      | split

theorem cmdArrivalWindowEnd_keeps (row : Nat) (s : State) (t : State) (h : cmdArrivalWindowEnd row s = .next t) : Keeps 0x5000000000000000000000000000000000000000000000000000f00fe006e00000000000000000000000000000000000000000000000000000000000700070003000000000000000000000000000000000000000f00db00010001000f0007000d00000000000000000000000000000000000000000000000a0007000300070001000000000000000000000000000000000000000000000000000000000000000001fdecfd s t := by
  refine ans_keeps h (by decide) (k := 0x5000000000000000000000000000000000000000000000000000f00fe006e00000000000000000000000000000000000000000000000000000000000700070003000000000000000000000000000000000000000f00db00010001000f0007000d00000000000000000000000000000000000000000000000a0007000300070001000000000000000000000000000000000000000000000000000000000000000001fdecfc) ?_
  repeat' first
      | with_reducible exact Keeps.refl
      | (with_reducible apply Keeps.step (execArrivalWindowEnd_keeps ..); · decide)
      | with_reducible refine Keeps.ite ?_ ?_
      | split

theorem cmdFenceAdvance_keeps (row : Nat) (s : State) (t : State) (h : cmdFenceAdvance row s = .next t) : Keeps 0x5000000000000000000000000000000000000000000000000000f00ff007e00000000000000000000000000000000000000000000000000000000000700070003000000000000000000000000000000000000000f00db00010001000f0007000d00000000000000000000000000000000000000000000000b0007000300070001000000000000000000000000000000000000000000000000000000000000000001fdedff s t := by
  refine ans_keeps h (by decide) (k := 0x5000000000000000000000000000000000000000000000000000f00ff007e00000000000000000000000000000000000000000000000000000000000700070003000000000000000000000000000000000000000f00db00010001000f0007000d00000000000000000000000000000000000000000000000b0007000300070001000000000000000000000000000000000000000000000000000000000000000001fdedfe) ?_
  repeat' first
      | with_reducible exact Keeps.refl
      | (with_reducible apply Keeps.step (execFenceAdvance_keeps ..); · decide)
      | with_reducible refine Keeps.ite ?_ ?_
      | split

theorem cmdSacnData_keeps (row : Nat) (p : SacnPacket) (s : State) (t : State) (h : cmdSacnData row p s = .next t) : Keeps 0x5000000000000000000000000000000000000000000000000000f00ff004e00000000000000000000000000000000000000000000000000000000000700070003000000000000000000000000000000000000000f00db00010001000f000700070000000000000000000000000000000000000000000000010007000300070001000000000000000000000000000000000000000000000000000000000000000001fd2ced s t := by
  refine ans_keeps h (by decide) (k := 0x5000000000000000000000000000000000000000000000000000f00ff004e00000000000000000000000000000000000000000000000000000000000700070003000000000000000000000000000000000000000f00db00010001000f000700070000000000000000000000000000000000000000000000010007000300070001000000000000000000000000000000000000000000000000000000000000000001fd2cec) ?_
  repeat' first
      | with_reducible exact Keeps.refl
      | (with_reducible apply Keeps.step (execSacnData_keeps ..); · decide)
      | with_reducible refine Keeps.ite ?_ ?_
      | split

theorem cmdSacnSync_keeps (row : Nat) (at_ : Nat) (syncAddr : Nat) (rootVector : Nat) (framingVector : Nat) (s : State) (t : State) (h : cmdSacnSync row at_ syncAddr rootVector framingVector s = .next t) : Keeps 0x5000000000000000000000000000000000000000000000000000f00ff004e00000000000000000000000000000000000000000000000000000000000700070003000000000000000000000000000000000000000f00db00010001000f000700070000000000000000000000000000000000000000000000010007000300070001000000000000000000000000000000000000000000000000000000000000000001fdacfd s t := by
  refine ans_keeps h (by decide) (k := 0x5000000000000000000000000000000000000000000000000000f00ff004e00000000000000000000000000000000000000000000000000000000000700070003000000000000000000000000000000000000000f00db00010001000f000700070000000000000000000000000000000000000000000000010007000300070001000000000000000000000000000000000000000000000000000000000000000001fdacfc) ?_
  repeat' first
      | with_reducible exact Keeps.refl
      | (with_reducible apply Keeps.step (execSacnSync_keeps ..); · decide)
      | with_reducible refine Keeps.ite ?_ ?_
      | split

theorem cmdSourceTimeout_keeps (row : Nat) (cid : Nat) (s : State) (t : State) (h : cmdSourceTimeout row cid s = .next t) : Keeps 0x5000000000000000000000000000000000000000000000000000f00ff007e00000000000000000000000000000000000000000000000000000000000700070003000000000000000000000000000000000000000f00db00010001000f0007000700000000000000000000000000000000000000000000000b0007000300070001000000000000000000000000000000000000000000000000000000000000000001fd6ced s t := by
  refine ans_keeps h (by decide) (k := 0x5000000000000000000000000000000000000000000000000000f00ff007e00000000000000000000000000000000000000000000000000000000000700070003000000000000000000000000000000000000000f00db00010001000f0007000700000000000000000000000000000000000000000000000b0007000300070001000000000000000000000000000000000000000000000000000000000000000001fd6cec) ?_
  repeat' first
      | with_reducible exact Keeps.refl
      | (with_reducible apply Keeps.step (execSourceTimeout_keeps ..); · decide)
      | with_reducible refine Keeps.ite ?_ ?_
      | split

theorem cmdSyncTimeout_keeps (syncAddr : Nat) (s : State) (t : State) (h : cmdSyncTimeout syncAddr s = .next t) : Keeps 0x5000000000000000000000000000000000000000000000000000f00ff007e00000000000000000000000000000000000000000000000000000000000700070003000000000000000000000000000000000000000f00db00010001000f0007000f00000000000000000000000000000000000000000000000b0007000300070001000000000000000000000000000000000000000000000000000000000000000001fdecfd s t := by
  refine ans_keeps h (by decide) (k := 0x5000000000000000000000000000000000000000000000000000f00ff007e00000000000000000000000000000000000000000000000000000000000700070003000000000000000000000000000000000000000f00db00010001000f0007000f00000000000000000000000000000000000000000000000b0007000300070001000000000000000000000000000000000000000000000000000000000000000001fdecfc) ?_
  repeat' first
      | with_reducible exact Keeps.refl
      | (with_reducible apply Keeps.step (execSyncTimeout_keeps ..); · decide)
      | with_reducible refine Keeps.ite ?_ ?_
      | split

theorem cmdHeadEnable_keeps (head : Nat) (v : Nat) (o : Origin) (s : State) (t : State) (h : cmdHeadEnable head v o s = .next t) : Keeps 0x5000000000000000000000000000000000000000000000000000e0059001c00000000000000000000000000000000000000000000000000000000000700070003000000000000000000000000000000000000000d00c800000001000e0002000f0000000000000000000000000000000000000000000000010007000300070001000000000000000000000000000000000000000000000000000000000000000001030dcf s t := by
  refine ans_keeps h (by decide) (k := 0x5000000000000000000000000000000000000000000000000000e0059001c00000000000000000000000000000000000000000000000000000000000700070003000000000000000000000000000000000000000d00c800000001000e0002000f0000000000000000000000000000000000000000000000010007000300070001000000000000000000000000000000000000000000000000000000000000000001030dce) ?_
  refine State.request_keeps_of (m := 0x5000000000000000000000000000000000000000000000000000e0059001c00000000000000000000000000000000000000000000000000000000000700070003000000000000000000000000000000000000000d00c800000001000e0002000f0000000000000000000000000000000000000000000000010007000300070001000000000000000000000000000000000000000000000000000000000000000001030dce) (by decide) (by decide) (by decide) ?_ ..
  intro w r v x
  exact (writeHeadEnable_keeps ..).weaken (by decide)

theorem cmdHeadDrainDone_keeps (head : Nat) (s : State) (t : State) (h : cmdHeadDrainDone head s = .next t) : Keeps 0x5000000000000000000000000000000000000000000000000000e0059001c00000000000000000000000000000000000000000000000000000000000700070003000000000000000000000000000000000000000d00c8000000010006000200090000000000000000000000000000000000000000000000010007000300070001000000000000000000000000000000000000000000000000000000000000000001010dcf s t := by
  refine ans_keeps h (by decide) (k := 0x5000000000000000000000000000000000000000000000000000e0059001c00000000000000000000000000000000000000000000000000000000000700070003000000000000000000000000000000000000000d00c8000000010006000200090000000000000000000000000000000000000000000000010007000300070001000000000000000000000000000000000000000000000000000000000000000001010dce) ?_
  repeat' first
      | with_reducible exact Keeps.refl
      | (with_reducible apply Keeps.step (execHeadDrainDone_keeps ..); · decide)
      | with_reducible refine Keeps.ite ?_ ?_
      | split

theorem cmdCommitArm_keeps (head : Nat) (overBudget : Bool) (byRegister : Bool) (s : State) (t : State) (h : cmdCommitArm head overBudget byRegister s = .next t) : Keeps 0x1 s t := by
  refine ans_keeps h (by decide) (k := 0x0) ?_
  repeat' first
      | with_reducible exact Keeps.refl
      | (with_reducible apply Keeps.step (State.armByCommand_keeps ..); · decide)
      | with_reducible refine Keeps.ite ?_ ?_
      | split

theorem cmdCutLine_keeps (head : Nat) (s : State) (t : State) (h : cmdCutLine head s = .next t) : Keeps 0x5000000000000000000000000000000000000000000000000000f00fb007e00000000000000000000000000000000000000000000000000000000000700070003000000000000000000000000000000000000000f00db00010001000f0007000f00000000000000000000000000000000000000000000000b0007000300070001000000000000000000000000000000000000000000000000000000000000000001fbecfd s t := by
  refine ans_keeps h (by decide) (k := 0x5000000000000000000000000000000000000000000000000000f00fb007e00000000000000000000000000000000000000000000000000000000000700070003000000000000000000000000000000000000000f00db00010001000f0007000f00000000000000000000000000000000000000000000000b0007000300070001000000000000000000000000000000000000000000000000000000000000000001fbecfc) ?_
  repeat' first
      | with_reducible exact Keeps.refl
      | (with_reducible apply Keeps.step (execCutLine_keeps ..); · decide)
      | with_reducible refine Keeps.ite ?_ ?_
      | split

theorem cmdVblankStart_keeps (head : Nat) (s : State) (t : State) (h : cmdVblankStart head s = .next t) : Keeps 0x5000000000000000000000000000000000000000000000000000c0059001c00000000000000000000000000000000000000000000000000000000000700070003000000000000000000000000000000000000000d00c800000001000c0000000f0000000000000000000000000000000000000000000000010007000300070001000000000000000000000000000000000000000000000000000000000000000001030cc1 s t := by
  refine ans_keeps h (by decide) (k := 0x5000000000000000000000000000000000000000000000000000c0059001c00000000000000000000000000000000000000000000000000000000000700070003000000000000000000000000000000000000000d00c800000001000c0000000f0000000000000000000000000000000000000000000000010007000300070001000000000000000000000000000000000000000000000000000000000000000001030cc0) ?_
  repeat' first
      | with_reducible exact Keeps.refl
      | (with_reducible apply Keeps.step (execVblankStart_keeps ..); · decide)
      | with_reducible refine Keeps.ite ?_ ?_
      | split

theorem cmdLineZero_keeps (head : Nat) (s : State) (t : State) (h : cmdLineZero head s = .next t) : Keeps 0x5000000000000000000000000000000000000000000000000000e00db001c00000000000000000000000000000000000000000000000000000000000700070003000000000000000000000000000000000000000f00c8000100000007000600090000000000000000000000000000000000000000000000010007000300070001000000000000000000000000000000000000000000000000000000000000000001a10ced s t := by
  refine ans_keeps h (by decide) (k := 0x5000000000000000000000000000000000000000000000000000e00db001c00000000000000000000000000000000000000000000000000000000000700070003000000000000000000000000000000000000000f00c8000100000007000600090000000000000000000000000000000000000000000000010007000300070001000000000000000000000000000000000000000000000000000000000000000001a10cec) ?_
  repeat' first
      | with_reducible exact Keeps.refl
      | (with_reducible apply Keeps.step (execLineZero_keeps ..); · decide)
      | with_reducible refine Keeps.ite ?_ ?_
      | split

theorem cmdLineMatch_keeps (head : Nat) (line : Nat) (s : State) (t : State) (h : cmdLineMatch head line s = .next t) : Keeps 0x5000000000000000000000000000000000000000000000000000f00ff007e00000000000000000000000000000000000000000000000000000000000700070003000000000000000000000000000000000000000f00db00010001000f0007000f00000000000000000000000000000000000000000000000b0007000300070001000000000000000000000000000000000000000000000000000000000000000001fbecfd s t := by
  refine ans_keeps h (by decide) (k := 0x5000000000000000000000000000000000000000000000000000f00ff007e00000000000000000000000000000000000000000000000000000000000700070003000000000000000000000000000000000000000f00db00010001000f0007000f00000000000000000000000000000000000000000000000b0007000300070001000000000000000000000000000000000000000000000000000000000000000001fbecfc) ?_
  repeat' first
      | with_reducible exact Keeps.refl
      | (with_reducible apply Keeps.step (execLineMatch_keeps ..); · decide)
      | with_reducible refine Keeps.ite ?_ ?_
      | split

theorem cmdUnderrun_keeps (head : Nat) (line : Nat) (column : Nat) (s : State) (t : State) (h : cmdUnderrun head line column s = .next t) : Keeps 0x5000000000000000000000000000000000000000000000000000f00fb007e00000000000000000000000000000000000000000000000000000000000700070003000000000000000000000000000000000000000f00db00010001000f0007000f00000000000000000000000000000000000000000000000b0007000300070001000000000000000000000000000000000000000000000000000000000000000001fbecfd s t := by
  refine ans_keeps h (by decide) (k := 0x5000000000000000000000000000000000000000000000000000f00fb007e00000000000000000000000000000000000000000000000000000000000700070003000000000000000000000000000000000000000f00db00010001000f0007000f00000000000000000000000000000000000000000000000b0007000300070001000000000000000000000000000000000000000000000000000000000000000001fbecfc) ?_
  repeat' first
      | with_reducible exact Keeps.refl
      | (with_reducible apply Keeps.step (execUnderrun_keeps ..); · decide)
      | with_reducible refine Keeps.ite ?_ ?_
      | split

theorem cmdEgressEnable_keeps (head : Nat) (v : Nat) (o : Origin) (s : State) (t : State) (h : cmdEgressEnable head v o s = .next t) : Keeps 0x5000000000000000000000000000000000000000000000000000f00ff007e00000000000000000000000000000000000000000000000000000000000700070003000000000000000000000000000000000000000f00db00010001000b0007000f0000000000000000000000000000000000000000000000090007000300070001000000000000000000000000000000000000000000000000000000000000000001fbadff s t := by
  refine ans_keeps h (by decide) (k := 0x5000000000000000000000000000000000000000000000000000f00ff007e00000000000000000000000000000000000000000000000000000000000700070003000000000000000000000000000000000000000f00db00010001000b0007000f0000000000000000000000000000000000000000000000090007000300070001000000000000000000000000000000000000000000000000000000000000000001fbadfe) ?_
  refine State.request_keeps_of (m := 0x5000000000000000000000000000000000000000000000000000f00ff007e00000000000000000000000000000000000000000000000000000000000700070003000000000000000000000000000000000000000f00db00010001000b0007000f0000000000000000000000000000000000000000000000090007000300070001000000000000000000000000000000000000000000000000000000000000000001fbadfe) (by decide) (by decide) (by decide) ?_ ..
  intro w r v x
  exact (writeEgressEnable_keeps ..).weaken (by decide)

theorem cmdEgressPacket_keeps (head : Nat) (line : Nat) (offset : Nat) (s : State) (t : State) (h : cmdEgressPacket head line offset s = .next t) : Keeps 0x5000000000000000000000000000000000000000000000000000f00fb001e00000000000000000000000000000000000000000000000000000000000700070003000000000000000000000000000000000000000f00db00010001000b0007000f0000000000000000000000000000000000000000000000010007000300070001000000000000000000000000000000000000000000000000000000000000000001fbacf9 s t := by
  refine ans_keeps h (by decide) (k := 0x5000000000000000000000000000000000000000000000000000f00fb001e00000000000000000000000000000000000000000000000000000000000700070003000000000000000000000000000000000000000f00db00010001000b0007000f0000000000000000000000000000000000000000000000010007000300070001000000000000000000000000000000000000000000000000000000000000000001fbacf8) ?_
  repeat' first
      | with_reducible exact Keeps.refl
      | (with_reducible apply Keeps.step (execEgressPacket_keeps ..); · decide)
      | with_reducible refine Keeps.ite ?_ ?_
      | split

theorem cmdWritebackEnable_keeps (head : Nat) (v : Nat) (o : Origin) (s : State) (t : State) (h : cmdWritebackEnable head v o s = .next t) : Keeps 0x5000000000000000000000000000000000000000000000000000f00ff007e00000000000000000000000000000000000000000000000000000000000700070003000000000000000000000000000000000000000f00db0001000100070007000d0000000000000000000000000000000000000000000000090007000300070001000000000000000000000000000000000000000000000000000000000000000001fbadff s t := by
  refine ans_keeps h (by decide) (k := 0x5000000000000000000000000000000000000000000000000000f00ff007e00000000000000000000000000000000000000000000000000000000000700070003000000000000000000000000000000000000000f00db0001000100070007000d0000000000000000000000000000000000000000000000090007000300070001000000000000000000000000000000000000000000000000000000000000000001fbadfe) ?_
  refine State.request_keeps_of (m := 0x5000000000000000000000000000000000000000000000000000f00ff007e00000000000000000000000000000000000000000000000000000000000700070003000000000000000000000000000000000000000f00db0001000100070007000d0000000000000000000000000000000000000000000000090007000300070001000000000000000000000000000000000000000000000000000000000000000001fbadfe) (by decide) (by decide) (by decide) ?_ ..
  intro w r v x
  exact (writeWbackEnable_keeps ..).weaken (by decide)

theorem cmdWritebackDone_keeps (head : Nat) (s : State) (t : State) (h : cmdWritebackDone head s = .next t) : Keeps 0x5000000000000000000000000000000000000000000000000000f00fb007e00000000000000000000000000000000000000000000000000000000000700070003000000000000000000000000000000000000000f00db0001000100070007000900000000000000000000000000000000000000000000000b0007000300070001000000000000000000000000000000000000000000000000000000000000000001f9edff s t := by
  refine ans_keeps h (by decide) (k := 0x5000000000000000000000000000000000000000000000000000f00fb007e00000000000000000000000000000000000000000000000000000000000700070003000000000000000000000000000000000000000f00db0001000100070007000900000000000000000000000000000000000000000000000b0007000300070001000000000000000000000000000000000000000000000000000000000000000001f9edfe) ?_
  repeat' first
      | with_reducible exact Keeps.refl
      | (with_reducible apply Keeps.step (execWritebackDone_keeps ..); · decide)
      | with_reducible refine Keeps.ite ?_ ?_
      | split

theorem cmdCollateEntry_keeps (head : Nat) (s : State) (t : State) (h : cmdCollateEntry head s = .next t) : Keeps 0x5000000000000000000000000000000000000000000000000000d00f7007e00000000000000000000000000000000000000000000000000000000000700070003000000000000000000000000000000000000000f00db00010001000f0007000f00000000000000000000000000000000000000000000000b0007000300070001000000000000000000000000000000000000000000000000000000000000000001f76ced s t := by
  refine ans_keeps h (by decide) (k := 0x5000000000000000000000000000000000000000000000000000d00f7007e00000000000000000000000000000000000000000000000000000000000700070003000000000000000000000000000000000000000f00db00010001000f0007000f00000000000000000000000000000000000000000000000b0007000300070001000000000000000000000000000000000000000000000000000000000000000001f76cec) ?_
  repeat' first
      | with_reducible exact Keeps.refl
      | (with_reducible apply Keeps.step (execCollateEntry_keeps ..); · decide)
      | with_reducible refine Keeps.ite ?_ ?_
      | split

theorem cmdSampleLate_keeps (head : Nat) (s : State) (t : State) (h : cmdSampleLate head s = .next t) : Keeps 0x5000000000000000000000000000000000000000000000000000f00f7007e00000000000000000000000000000000000000000000000000000000000700070003000000000000000000000000000000000000000f00db00010001000f0007000f00000000000000000000000000000000000000000000000b0007000300070001000000000000000000000000000000000000000000000000000000000000000001f76ced s t := by
  refine ans_keeps h (by decide) (k := 0x5000000000000000000000000000000000000000000000000000f00f7007e00000000000000000000000000000000000000000000000000000000000700070003000000000000000000000000000000000000000f00db00010001000f0007000f00000000000000000000000000000000000000000000000b0007000300070001000000000000000000000000000000000000000000000000000000000000000001f76cec) ?_
  repeat' first
      | with_reducible exact Keeps.refl
      | (with_reducible apply Keeps.step (execSampleLate_keeps ..); · decide)
      | with_reducible refine Keeps.ite ?_ ?_
      | split

theorem cmdQuireMode_keeps (quire : Nat) (v : Nat) (o : Origin) (s : State) (t : State) (h : cmdQuireMode quire v o s = .next t) : Keeps 0x5000000000000000000000000000000000000000000000000000e005f001c00000000000000000000000000000000000000000000000000000000000700070003000000000000000000000000000000000000000d00c800000001000f0006000f0000000000000000000000000000000000000000000000010007000300070001000000000000000000000000000000000000000000000000000000000000000001070dcf s t := by
  refine ans_keeps h (by decide) (k := 0x5000000000000000000000000000000000000000000000000000e005f001c00000000000000000000000000000000000000000000000000000000000700070003000000000000000000000000000000000000000d00c800000001000f0006000f0000000000000000000000000000000000000000000000010007000300070001000000000000000000000000000000000000000000000000000000000000000001070dce) ?_
  refine State.request_keeps_of (m := 0x5000000000000000000000000000000000000000000000000000e005f001c00000000000000000000000000000000000000000000000000000000000700070003000000000000000000000000000000000000000d00c800000001000f0006000f0000000000000000000000000000000000000000000000010007000300070001000000000000000000000000000000000000000000000000000000000000000001070dce) (by decide) (by decide) (by decide) ?_ ..
  intro w r v x
  exact (writeQuireMode_keeps ..).weaken (by decide)

theorem cmdQuireDrainDone_keeps (quire : Nat) (s : State) (t : State) (h : cmdQuireDrainDone quire s = .next t) : Keeps 0x5000000000000000000000000000000000000000000000000000e004f001c00000000000000000000000000000000000000000000000000000000000700070003000000000000000000000000000000000000000d00c800000001000f0006000f0000000000000000000000000000000000000000000000010007000300070001000000000000000000000000000000000000000000000000000000000000000001070ccd s t := by
  refine ans_keeps h (by decide) (k := 0x5000000000000000000000000000000000000000000000000000e004f001c00000000000000000000000000000000000000000000000000000000000700070003000000000000000000000000000000000000000d00c800000001000f0006000f0000000000000000000000000000000000000000000000010007000300070001000000000000000000000000000000000000000000000000000000000000000001070ccc) ?_
  repeat' first
      | with_reducible exact Keeps.refl
      | (with_reducible apply Keeps.step (execQuireDrainDone_keeps ..); · decide)
      | with_reducible refine Keeps.ite ?_ ?_
      | split

theorem cmdQuireLatch_keeps (quire : Nat) (s : State) (t : State) (h : cmdQuireLatch quire s = .next t) : Keeps 0x5000000000000000000000000000000000000000000000000000e0047001800000000000000000000000000000000000000000000000000000000000700070003000000000000000000000000000000000000000900c000000000000f0006000f0000000000000000000000000000000000000000000000010007000100070001000000000000000000000000000000000000000000000000000000000000000000070cc5 s t := by
  refine ans_keeps h (by decide) (k := 0x5000000000000000000000000000000000000000000000000000e0047001800000000000000000000000000000000000000000000000000000000000700070003000000000000000000000000000000000000000900c000000000000f0006000f0000000000000000000000000000000000000000000000010007000100070001000000000000000000000000000000000000000000000000000000000000000000070cc4) ?_
  repeat' first
      | with_reducible exact Keeps.refl
      | (with_reducible apply Keeps.step (execQuireLatch_keeps ..); · decide)
      | with_reducible refine Keeps.ite ?_ ?_
      | split

theorem cmdFrameStart_keeps (strand : Nat) (s : State) (t : State) (h : cmdFrameStart strand s = .next t) : Keeps 0x5000000000000000000000000000000000000000000000000000f00cf007e00010000000000000000000000000000000000000000000000000000000700070003000000000000000000000000000000000000000f00db00000001000f0007000f00000000000000000000000000000000000000000000000b0007000300070001000000000000000000000000000000000000000000000000000000000000000001cffef9 s t := by
  refine ans_keeps h (by decide) (k := 0x5000000000000000000000000000000000000000000000000000f00cf007e00010000000000000000000000000000000000000000000000000000000700070003000000000000000000000000000000000000000f00db00000001000f0007000f00000000000000000000000000000000000000000000000b0007000300070001000000000000000000000000000000000000000000000000000000000000000001cffef8) ?_
  repeat' first
      | with_reducible exact Keeps.refl
      | (with_reducible apply Keeps.step (execFrameStart_keeps ..); · decide)
      | with_reducible refine Keeps.ite ?_ ?_
      | split

theorem cmdReturnRecord_keeps (strand : Nat) (bits : BitVec 40) (rx : RecordRx) (s : State) (t : State) (h : cmdReturnRecord strand bits rx s = .next t) : Keeps 0x5000000000000000000000000000000000000000000000000000f00cf007e00000000000000000000000000000000000000000000000000000000000700070003000000000000000000000000000000000000000f005b00010001000f0007000f00000000000000000000000000000000000000000000000b00070003000700010000000000000000000000000000000000000000000000000000000000000000010f6ce1 s t := by
  refine ans_keeps h (by decide) (k := 0x5000000000000000000000000000000000000000000000000000f00cf007e00000000000000000000000000000000000000000000000000000000000700070003000000000000000000000000000000000000000f005b00010001000f0007000f00000000000000000000000000000000000000000000000b00070003000700010000000000000000000000000000000000000000000000000000000000000000010f6ce0) ?_
  repeat' first
      | with_reducible exact Keeps.refl
      | (with_reducible apply Keeps.step (execReturnRecord_keeps ..); · decide)
      | with_reducible refine Keeps.ite ?_ ?_
      | split

theorem cmdReturnWindowEnd_keeps (quire : Nat) (s : State) (t : State) (h : cmdReturnWindowEnd quire s = .next t) : Keeps 0x5000000000000000000000000000000000000000000000000000f00ef007e00000000000000000000000000000000000000000000000000000000000700070003000000000000000000000000000000000000000f00db00000001000f0007000f00000000000000000000000000000000000000000000000b0007000300070001000000000000000000000000000000000000000000000000000000000000000001cfecf9 s t := by
  refine ans_keeps h (by decide) (k := 0x5000000000000000000000000000000000000000000000000000f00ef007e00000000000000000000000000000000000000000000000000000000000700070003000000000000000000000000000000000000000f00db00000001000f0007000f00000000000000000000000000000000000000000000000b0007000300070001000000000000000000000000000000000000000000000000000000000000000001cfecf8) ?_
  repeat' first
      | with_reducible exact Keeps.refl
      | (with_reducible apply Keeps.step (execReturnWindowEnd_keeps ..); · decide)
      | with_reducible refine Keeps.ite ?_ ?_
      | split

theorem cmdCamegCommand_keeps (v : List Byte) (o : Origin) (s : State) (t : State) (h : cmdCamegCommand v o s = .next t) : Keeps 0x5000000000000000000000000000000000000000000000000000e00ff001c00000000000000000000000000000000000000000000000000000000000700070003000000000000000000000000000000000000000f00db00010001000f0007000f0000000000000000000000000000000000000000000000010007000300070001000000000000000000000000000000000000000000000000000000000000000001ef8dff s t := by
  refine ans_keeps h (by decide) (k := 0x5000000000000000000000000000000000000000000000000000e00ff001c00000000000000000000000000000000000000000000000000000000000700070003000000000000000000000000000000000000000f00db00010001000f0007000f0000000000000000000000000000000000000000000000010007000300070001000000000000000000000000000000000000000000000000000000000000000001ef8dfe) ?_
  refine State.request_keeps_of (m := 0x5000000000000000000000000000000000000000000000000000e00ff001c00000000000000000000000000000000000000000000000000000000000700070003000000000000000000000000000000000000000f00db00010001000f0007000f0000000000000000000000000000000000000000000000010007000300070001000000000000000000000000000000000000000000000000000000000000000001ef8dfe) (by decide) (by decide) (by decide) ?_ ..
  intro w r v x
  exact (writeCameg_keeps ..).weaken (by decide)

theorem cmdEnumerate_keeps (v : List Byte) (o : Origin) (s : State) (t : State) (h : cmdEnumerate v o s = .next t) : Keeps 0x5000000000000000000000000000000000000000000000000000e00ff001c00000000000000000000000000000000000000000000000000000000000700070003000000000000000000000000000000000000000f00db00010001000f0007000f0000000000000000000000000000000000000000000000010007000300070001000000000000000000000000000000000000000000000000000000000000000001ef8dff s t := by
  refine ans_keeps h (by decide) (k := 0x5000000000000000000000000000000000000000000000000000e00ff001c00000000000000000000000000000000000000000000000000000000000700070003000000000000000000000000000000000000000f00db00010001000f0007000f0000000000000000000000000000000000000000000000010007000300070001000000000000000000000000000000000000000000000000000000000000000001ef8dfe) ?_
  refine State.request_keeps_of (m := 0x5000000000000000000000000000000000000000000000000000e00ff001c00000000000000000000000000000000000000000000000000000000000700070003000000000000000000000000000000000000000f00db00010001000f0007000f0000000000000000000000000000000000000000000000010007000300070001000000000000000000000000000000000000000000000000000000000000000001ef8dfe) (by decide) (by decide) (by decide) ?_ ..
  intro w r v x
  exact (writeEnumerate_keeps ..).weaken (by decide)

theorem cmdCamegRequestDone_keeps (quire : Nat) (s : State) (t : State) (h : cmdCamegRequestDone quire s = .next t) : Keeps 0x5000000000000000000000000000000000000000000000000000e00ef001c00000000000000000000000000000000000000000000000000000000000700070003000000000000000000000000000000000000000f00db00000001000f0007000f0000000000000000000000000000000000000000000000010007000300070001000000000000000000000000000000000000000000000000000000000000000001cf8cf9 s t := by
  refine ans_keeps h (by decide) (k := 0x5000000000000000000000000000000000000000000000000000e00ef001c00000000000000000000000000000000000000000000000000000000000700070003000000000000000000000000000000000000000f00db00000001000f0007000f0000000000000000000000000000000000000000000000010007000300070001000000000000000000000000000000000000000000000000000000000000000001cf8cf8) ?_
  repeat' first
      | with_reducible exact Keeps.refl
      | (with_reducible apply Keeps.step (execCamegRequestDone_keeps ..); · decide)
      | with_reducible refine Keeps.ite ?_ ?_
      | split

theorem cmdFade_keeps (row : Nat) (v : List Byte) (o : Origin) (s : State) (t : State) (h : cmdFade row v o s = .next t) : Keeps 0x5000000000000000000000000000000000000000000000000000e00df001c00000000000000000000000000000000000000000000000000000000000700070003000000000000000000000000000000000000000f00c800010001000f0006000f0000000000000000000000000000000000000000000000010007000300070001000000000000000000000000000000000000000000000000000000000000000001bf8dff s t := by
  refine ans_keeps h (by decide) (k := 0x5000000000000000000000000000000000000000000000000000e00df001c00000000000000000000000000000000000000000000000000000000000700070003000000000000000000000000000000000000000f00c800010001000f0006000f0000000000000000000000000000000000000000000000010007000300070001000000000000000000000000000000000000000000000000000000000000000001bf8dfe) ?_
  refine State.request_keeps_of (m := 0x5000000000000000000000000000000000000000000000000000e00df001c00000000000000000000000000000000000000000000000000000000000700070003000000000000000000000000000000000000000f00c800010001000f0006000f0000000000000000000000000000000000000000000000010007000300070001000000000000000000000000000000000000000000000000000000000000000001bf8dfe) (by decide) (by decide) (by decide) ?_ ..
  intro w r v x
  exact (writeFade_keeps ..).weaken (by decide)

theorem cmdFadeArm_keeps (row : Nat) (o : Origin) (s : State) (t : State) (h : cmdFadeArm row o s = .next t) : Keeps 0x5000000000000000000000000000000000000000000000000000e00df001c00000000000000000000000000000000000000000000000000000000000700070003000000000000000000000000000000000000000f00c800010001000f0006000f0000000000000000000000000000000000000000000000010007000300070001000000000000000000000000000000000000000000000000000000000000000001bf8dff s t := by
  refine ans_keeps h (by decide) (k := 0x5000000000000000000000000000000000000000000000000000e00df001c00000000000000000000000000000000000000000000000000000000000700070003000000000000000000000000000000000000000f00c800010001000f0006000f0000000000000000000000000000000000000000000000010007000300070001000000000000000000000000000000000000000000000000000000000000000001bf8dfe) ?_
  refine State.request_keeps_of (m := 0x5000000000000000000000000000000000000000000000000000e00df001c00000000000000000000000000000000000000000000000000000000000700070003000000000000000000000000000000000000000f00c800010001000f0006000f0000000000000000000000000000000000000000000000010007000300070001000000000000000000000000000000000000000000000000000000000000000001bf8dfe) (by decide) (by decide) (by decide) ?_ ..
  intro w r v x
  exact (writeFadeArm_keeps ..).weaken (by decide)

theorem cmdFadeStop_keeps (row : Nat) (o : Origin) (s : State) (t : State) (h : cmdFadeStop row o s = .next t) : Keeps 0x5000000000000000000000000000000000000000000000000000e00df001c00000000000000000000000000000000000000000000000000000000000700070003000000000000000000000000000000000000000f00c800010001000f0006000f0000000000000000000000000000000000000000000000010007000300070001000000000000000000000000000000000000000000000000000000000000000001bf8dff s t := by
  refine ans_keeps h (by decide) (k := 0x5000000000000000000000000000000000000000000000000000e00df001c00000000000000000000000000000000000000000000000000000000000700070003000000000000000000000000000000000000000f00c800010001000f0006000f0000000000000000000000000000000000000000000000010007000300070001000000000000000000000000000000000000000000000000000000000000000001bf8dfe) ?_
  refine State.request_keeps_of (m := 0x5000000000000000000000000000000000000000000000000000e00df001c00000000000000000000000000000000000000000000000000000000000700070003000000000000000000000000000000000000000f00c800010001000f0006000f0000000000000000000000000000000000000000000000010007000300070001000000000000000000000000000000000000000000000000000000000000000001bf8dfe) (by decide) (by decide) (by decide) ?_ ..
  intro w r v x
  exact (writeFadeArm_keeps ..).weaken (by decide)

theorem cmdFadeStart_keeps (row : Nat) (s : State) (t : State) (h : cmdFadeStart row s = .next t) : Keeps 0x5000000000000000000000000000000000000000000000000000e00df001c00000000000000000000000000000000000000000000000000000000000700070003000000000000000000000000000000000000000f00c800010001000f0006000f0000000000000000000000000000000000000000000000010007000300070001000000000000000000000000000000000000000000000000000000000000000001bf8cfd s t := by
  refine ans_keeps h (by decide) (k := 0x5000000000000000000000000000000000000000000000000000e00df001c00000000000000000000000000000000000000000000000000000000000700070003000000000000000000000000000000000000000f00c800010001000f0006000f0000000000000000000000000000000000000000000000010007000300070001000000000000000000000000000000000000000000000000000000000000000001bf8cfc) ?_
  repeat' first
      | with_reducible exact Keeps.refl
      | (with_reducible apply Keeps.step (execFadeStart_keeps ..); · decide)
      | with_reducible refine Keeps.ite ?_ ?_
      | split

theorem cmdFadeEnd_keeps (row : Nat) (s : State) (t : State) (h : cmdFadeEnd row s = .next t) : Keeps 0x5000000000000000000000000000000000000000000000000000e00df001c00000000000000000000000000000000000000000000000000000000000700070003000000000000000000000000000000000000000f00c800010001000f0006000f0000000000000000000000000000000000000000000000010007000300070001000000000000000000000000000000000000000000000000000000000000000001bf8cfd s t := by
  refine ans_keeps h (by decide) (k := 0x5000000000000000000000000000000000000000000000000000e00df001c00000000000000000000000000000000000000000000000000000000000700070003000000000000000000000000000000000000000f00c800010001000f0006000f0000000000000000000000000000000000000000000000010007000300070001000000000000000000000000000000000000000000000000000000000000000001bf8cfc) ?_
  repeat' first
      | with_reducible exact Keeps.refl
      | (with_reducible apply Keeps.step (execFadeEnd_keeps ..); · decide)
      | with_reducible refine Keeps.ite ?_ ?_
      | split

theorem cmdGaugeSample_keeps (codes : List GaugeCode) (refPpm : Int) (s : State) (t : State) (h : cmdGaugeSample codes refPpm s = .next t) : Keeps 0x5000000000000000000000000000000000000000000000000000f00bf007e00000000000000000000000000000000000000000000000000000000000700070003000000000000000000000000000000000000000e00db00010001000f0007000f00000000000000000000000000000000000000000000000b00070003000700010000000000000000000000000000000000000000000000000000000000000000013fecfd s t := by
  refine ans_keeps h (by decide) (k := 0x5000000000000000000000000000000000000000000000000000f00bf007e00000000000000000000000000000000000000000000000000000000000700070003000000000000000000000000000000000000000e00db00010001000f0007000f00000000000000000000000000000000000000000000000b00070003000700010000000000000000000000000000000000000000000000000000000000000000013fecfc) ?_
  repeat' first
      | with_reducible exact Keeps.refl
      | (with_reducible apply Keeps.step (execGaugeSample_keeps ..); · decide)
      | with_reducible refine Keeps.ite ?_ ?_
      | split

theorem cmdShortTest_keeps (mask : Nat) (o : Origin) (s : State) (t : State) (h : cmdShortTest mask o s = .next t) : Keeps 0x5000000000000000000000000000000000000000000000000000e00df007e00000000000000000000000000000000000000000000000000000000000700070003000000000000000000000000000000000000000f009b00010001000f0007000f0000000000000000000000000000000000000000000000090007000300070001000000000000000000000000000000000000000000000000000000000000000001bf8dff s t := by
  refine ans_keeps h (by decide) (k := 0x5000000000000000000000000000000000000000000000000000e00df007e00000000000000000000000000000000000000000000000000000000000700070003000000000000000000000000000000000000000f009b00010001000f0007000f0000000000000000000000000000000000000000000000090007000300070001000000000000000000000000000000000000000000000000000000000000000001bf8dfe) ?_
  refine State.request_keeps_of (m := 0x5000000000000000000000000000000000000000000000000000e00df007e00000000000000000000000000000000000000000000000000000000000700070003000000000000000000000000000000000000000f009b00010001000f0007000f0000000000000000000000000000000000000000000000090007000300070001000000000000000000000000000000000000000000000000000000000000000001bf8dfe) (by decide) (by decide) (by decide) ?_ ..
  intro w r v x
  exact (writeShortTest_keeps ..).weaken (by decide)

theorem cmdShortTestDone_keeps (high : List (Nat × Nat)) (stuck : List Nat) (s : State) (t : State) (h : cmdShortTestDone high stuck s = .next t) : Keeps 0x5000000000000000000000000000000000000000000000000000e005f001c00000000000000000000000000000000000000000000000000000000000700070003000000000000000000000000000000000000000d008800000001000f0006000f0000000000000000000000000000000000000000000000010007000300070001000000000000000000000000000000000000000000000000000000000000000001070ccd s t := by
  refine ans_keeps h (by decide) (k := 0x5000000000000000000000000000000000000000000000000000e005f001c00000000000000000000000000000000000000000000000000000000000700070003000000000000000000000000000000000000000d008800000001000f0006000f0000000000000000000000000000000000000000000000010007000300070001000000000000000000000000000000000000000000000000000000000000000001070ccc) ?_
  repeat' first
      | with_reducible exact Keeps.refl
      | (with_reducible apply Keeps.step (execShortTestDone_keeps ..); · decide)
      | with_reducible refine Keeps.ite ?_ ?_
      | split

theorem cmdFaultClear_keeps (v : Nat) (o : Origin) (s : State) (t : State) (h : cmdFaultClear v o s = .next t) : Keeps 0x5000000000000000000000000000000000000000000000000000f00ff007e00000000000000000000000000000000000000000000000000000000000700070003000000000000000000000000000000000000000f005b00010001000f0007000f0000000000000000000000000000000000000000000000090007000300070001000000000000000000000000000000000000000000000000000000000000000001bfadff s t := by
  refine ans_keeps h (by decide) (k := 0x5000000000000000000000000000000000000000000000000000f00ff007e00000000000000000000000000000000000000000000000000000000000700070003000000000000000000000000000000000000000f005b00010001000f0007000f0000000000000000000000000000000000000000000000090007000300070001000000000000000000000000000000000000000000000000000000000000000001bfadfe) ?_
  refine State.request_keeps_of (m := 0x5000000000000000000000000000000000000000000000000000f00ff007e00000000000000000000000000000000000000000000000000000000000700070003000000000000000000000000000000000000000f005b00010001000f0007000f0000000000000000000000000000000000000000000000090007000300070001000000000000000000000000000000000000000000000000000000000000000001bfadfe) (by decide) (by decide) (by decide) ?_ ..
  intro w r v x
  exact (writeFaultClear_keeps ..).weaken (by decide)

theorem cmdRegionReset_keeps (row : Nat) (v : Nat) (o : Origin) (s : State) (t : State) (h : cmdRegionReset row v o s = .next t) : Keeps 0x5000000000000000000000000000000000000000000000000000f00ff007e00000000000000000000000000000000000000000000000000000000000700070003000000000000000000000000000000000000000f00cb00010001000f0007000f00000000000000000000000000000000000000000000000900070003000700010000000000000000000000000000000000000000000000000000000000000000017fadff s t := by
  refine ans_keeps h (by decide) (k := 0x5000000000000000000000000000000000000000000000000000f00ff007e00000000000000000000000000000000000000000000000000000000000700070003000000000000000000000000000000000000000f00cb00010001000f0007000f00000000000000000000000000000000000000000000000900070003000700010000000000000000000000000000000000000000000000000000000000000000017fadfe) ?_
  refine State.request_keeps_of (m := 0x5000000000000000000000000000000000000000000000000000f00ff007e00000000000000000000000000000000000000000000000000000000000700070003000000000000000000000000000000000000000f00cb00010001000f0007000f00000000000000000000000000000000000000000000000900070003000700010000000000000000000000000000000000000000000000000000000000000000017fadfe) (by decide) (by decide) (by decide) ?_ ..
  intro w r v x
  exact (writeRegionReset_keeps ..).weaken (by decide)

theorem cmdReftPresence_keeps (ppm : Int) (s : State) (t : State) (h : cmdReftPresence ppm s = .next t) : Keeps 0x5000000000000000000000000000000000000000000000000000f00ff007e00000000000000000000000000000000000000000000000000000000000700070003000000000000000000000000000000000000000d00db00010001000f0007000f00000000000000000000000000000000000000000000000b00070003000700010000000000000000000000000000000000000000000000000000000000000000017fecfd s t := by
  refine ans_keeps h (by decide) (k := 0x5000000000000000000000000000000000000000000000000000f00ff007e00000000000000000000000000000000000000000000000000000000000700070003000000000000000000000000000000000000000d00db00010001000f0007000f00000000000000000000000000000000000000000000000b00070003000700010000000000000000000000000000000000000000000000000000000000000000017fecfc) ?_
  repeat' first
      | with_reducible exact Keeps.refl
      | (with_reducible apply Keeps.step (execReftPresence_keeps ..); · decide)
      | with_reducible refine Keeps.ite ?_ ?_
      | split

theorem cmdReftMeasurement_keeps (s : State) (t : State) (h : cmdReftMeasurement s = .next t) : Keeps 0x5000000000000000000000000000000000000000000000000000f00ff007e00010000000000000000000000000000000000000000000000000000000700070003000000000000000000000000000000000000000f00db00010001000f0007000f00000000000000000000000000000000000000000000000b00070003000700010000000000000000000000000000000000000000000000000000000000000000017ffefd s t := by
  refine ans_keeps h (by decide) (k := 0x5000000000000000000000000000000000000000000000000000f00ff007e00010000000000000000000000000000000000000000000000000000000700070003000000000000000000000000000000000000000f00db00010001000f0007000f00000000000000000000000000000000000000000000000b00070003000700010000000000000000000000000000000000000000000000000000000000000000017ffefc) ?_
  repeat' first
      | with_reducible exact Keeps.refl
      | (with_reducible apply Keeps.step (execReftMeasurement_keeps ..); · decide)
      | with_reducible refine Keeps.ite ?_ ?_
      | split

theorem cmdReftMeasurementDone_keeps (cycles : Nat) (bins : List Nat) (s : State) (t : State) (h : cmdReftMeasurementDone cycles bins s = .next t) : Keeps 0x5000000000000000000000000000000000000000000000000000f007f007e00010000000000000000000000000000000000000000000000000000000700070003000000000000000000000000000000000000000d00db00010001000f0007000f00000000000000000000000000000000000000000000000b00070003000700010000000000000000000000000000000000000000000000000000000000000000017ffefd s t := by
  refine ans_keeps h (by decide) (k := 0x5000000000000000000000000000000000000000000000000000f007f007e00010000000000000000000000000000000000000000000000000000000700070003000000000000000000000000000000000000000d00db00010001000f0007000f00000000000000000000000000000000000000000000000b00070003000700010000000000000000000000000000000000000000000000000000000000000000017ffefc) ?_
  repeat' first
      | with_reducible exact Keeps.refl
      | (with_reducible apply Keeps.step (execReftMeasurementDone_keeps ..); · decide)
      | with_reducible refine Keeps.ite ?_ ?_
      | split

theorem cmdCalibrationPass_keeps (quire : Nat) (ms : List PinMeasure) (s : State) (t : State) (h : cmdCalibrationPass quire ms s = .next t) : Keeps 0x5000000000000000000000000000000000000000000000000000f007f007e00000000000000000000000000000000000000000000000000000000000700070003000000000000000000000000000000000000000d00db00010001000f0007000f00000000000000000000000000000000000000000000000b00070003000700010000000000000000000000000000000000000000000000000000000000000000016fecf9 s t := by
  refine ans_keeps h (by decide) (k := 0x5000000000000000000000000000000000000000000000000000f007f007e00000000000000000000000000000000000000000000000000000000000700070003000000000000000000000000000000000000000d00db00010001000f0007000f00000000000000000000000000000000000000000000000b00070003000700010000000000000000000000000000000000000000000000000000000000000000016fecf8) ?_
  repeat' first
      | with_reducible exact Keeps.refl
      | (with_reducible apply Keeps.step (execCalibrationPass_keeps ..); · decide)
      | with_reducible refine Keeps.ite ?_ ?_
      | split

theorem cmdTapApply_keeps (quire : Nat) (s : State) (t : State) (h : cmdTapApply quire s = .next t) : Keeps 0x5000000000000000000000000000000000000000000000000000f007f007e00010000000000000000000000000000000000000000000000000000000700070003000000000000000000000000000000000000000d00db00010001000f0007000f00000000000000000000000000000000000000000000000b00070003000700010000000000000000000000000000000000000000000000000000000000000000016ffefd s t := by
  refine ans_keeps h (by decide) (k := 0x5000000000000000000000000000000000000000000000000000f007f007e00010000000000000000000000000000000000000000000000000000000700070003000000000000000000000000000000000000000d00db00010001000f0007000f00000000000000000000000000000000000000000000000b00070003000700010000000000000000000000000000000000000000000000000000000000000000016ffefc) ?_
  repeat' first
      | with_reducible exact Keeps.refl
      | (with_reducible apply Keeps.step (execTapApply_keeps ..); · decide)
      | with_reducible refine Keeps.ite ?_ ?_
      | split

theorem cmdRefSession_keeps (v : List Byte) (o : Origin) (s : State) (t : State) (h : cmdRefSession v o s = .next t) : Keeps 0x5000000000000000000000000000000000000000000000000000e00ff007e00000000000000000000000000000000000000000000000000000000000700070003000000000000000000000000000000000000000f00cb00010001000f0007000f00000000000000000000000000000000000000000000000900070003000700010000000000000000000000000000000000000000000000000000000000000000013f8dff s t := by
  refine ans_keeps h (by decide) (k := 0x5000000000000000000000000000000000000000000000000000e00ff007e00000000000000000000000000000000000000000000000000000000000700070003000000000000000000000000000000000000000f00cb00010001000f0007000f00000000000000000000000000000000000000000000000900070003000700010000000000000000000000000000000000000000000000000000000000000000013f8dfe) ?_
  refine State.request_keeps_of (m := 0x5000000000000000000000000000000000000000000000000000e00ff007e00000000000000000000000000000000000000000000000000000000000700070003000000000000000000000000000000000000000f00cb00010001000f0007000f00000000000000000000000000000000000000000000000900070003000700010000000000000000000000000000000000000000000000000000000000000000013f8dfe) (by decide) (by decide) (by decide) ?_ ..
  intro w r v x
  exact (writeRefSession_keeps ..).weaken (by decide)

theorem cmdRefReading_keeps (v : Nat) (o : Origin) (s : State) (t : State) (h : cmdRefReading v o s = .next t) : Keeps 0x5000000000000000000000000000000000000000000000000000e007f001c00000000000000000000000000000000000000000000000000000000000700070003000000000000000000000000000000000000000b00db00010001000f0007000f00000000000000000000000000000000000000000000000100070003000700010000000000000000000000000000000000000000000000000000000000000000017f8dff s t := by
  refine ans_keeps h (by decide) (k := 0x5000000000000000000000000000000000000000000000000000e007f001c00000000000000000000000000000000000000000000000000000000000700070003000000000000000000000000000000000000000b00db00010001000f0007000f00000000000000000000000000000000000000000000000100070003000700010000000000000000000000000000000000000000000000000000000000000000017f8dfe) ?_
  refine State.request_keeps_of (m := 0x5000000000000000000000000000000000000000000000000000e007f001c00000000000000000000000000000000000000000000000000000000000700070003000000000000000000000000000000000000000b00db00010001000f0007000f00000000000000000000000000000000000000000000000100070003000700010000000000000000000000000000000000000000000000000000000000000000017f8dfe) (by decide) (by decide) (by decide) ?_ ..
  intro w r v x
  exact (writeRefReading_keeps ..).weaken (by decide)

theorem cmdRefCancel_keeps (v : Nat) (o : Origin) (s : State) (t : State) (h : cmdRefCancel v o s = .next t) : Keeps 0x5000000000000000000000000000000000000000000000000000e007f001c00000000000000000000000000000000000000000000000000000000000700070003000000000000000000000000000000000000000f00db00010001000f0007000f00000000000000000000000000000000000000000000000100070003000700010000000000000000000000000000000000000000000000000000000000000000017f8dff s t := by
  refine ans_keeps h (by decide) (k := 0x5000000000000000000000000000000000000000000000000000e007f001c00000000000000000000000000000000000000000000000000000000000700070003000000000000000000000000000000000000000f00db00010001000f0007000f00000000000000000000000000000000000000000000000100070003000700010000000000000000000000000000000000000000000000000000000000000000017f8dfe) ?_
  refine State.request_keeps_of (m := 0x5000000000000000000000000000000000000000000000000000e007f001c00000000000000000000000000000000000000000000000000000000000700070003000000000000000000000000000000000000000f00db00010001000f0007000f00000000000000000000000000000000000000000000000100070003000700010000000000000000000000000000000000000000000000000000000000000000017f8dfe) (by decide) (by decide) (by decide) ?_ ..
  intro w r v x
  exact (writeRefCancel_keeps ..).weaken (by decide)

theorem cmdRefSessionEnd_keeps (s : State) (t : State) (h : cmdRefSessionEnd s = .next t) : Keeps 0x5000000000000000000000000000000000000000000000000000e007f001c00000000000000000000000000000000000000000000000000000000000700070003000000000000000000000000000000000000000b00db00010001000f0007000f00000000000000000000000000000000000000000000000100070003000700010000000000000000000000000000000000000000000000000000000000000000017f8cfd s t := by
  refine ans_keeps h (by decide) (k := 0x5000000000000000000000000000000000000000000000000000e007f001c00000000000000000000000000000000000000000000000000000000000700070003000000000000000000000000000000000000000b00db00010001000f0007000f00000000000000000000000000000000000000000000000100070003000700010000000000000000000000000000000000000000000000000000000000000000017f8cfc) ?_
  repeat' first
      | with_reducible exact Keeps.refl
      | (with_reducible apply Keeps.step (execRefSessionEnd_keeps ..); · decide)
      | with_reducible refine Keeps.ite ?_ ?_
      | split

theorem cmdRefSessionTimeout_keeps (s : State) (t : State) (h : cmdRefSessionTimeout s = .next t) : Keeps 0x5000000000000000000000000000000000000000000000000000e007f001c00000000000000000000000000000000000000000000000000000000000700070003000000000000000000000000000000000000000f00db00010001000f0007000f00000000000000000000000000000000000000000000000100070003000700010000000000000000000000000000000000000000000000000000000000000000017f8cfd s t := by
  refine ans_keeps h (by decide) (k := 0x5000000000000000000000000000000000000000000000000000e007f001c00000000000000000000000000000000000000000000000000000000000700070003000000000000000000000000000000000000000f00db00010001000f0007000f00000000000000000000000000000000000000000000000100070003000700010000000000000000000000000000000000000000000000000000000000000000017f8cfc) ?_
  repeat' first
      | with_reducible exact Keeps.refl
      | (with_reducible apply Keeps.step (execRefSessionTimeout_keeps ..); · decide)
      | with_reducible refine Keeps.ite ?_ ?_
      | split

theorem cmdSensorGainReset_keeps (row : Nat) (v : Nat) (o : Origin) (s : State) (t : State) (h : cmdSensorGainReset row v o s = .next t) : Keeps 0x5000000000000000000000000000000000000000000000000000f00ff007e00000000000000000000000000000000000000000000000000000000000700070003000000000000000000000000000000000000000b00db00010001000f0007000f00000000000000000000000000000000000000000000000900070003000700010000000000000000000000000000000000000000000000000000000000000000017fadff s t := by
  refine ans_keeps h (by decide) (k := 0x5000000000000000000000000000000000000000000000000000f00ff007e00000000000000000000000000000000000000000000000000000000000700070003000000000000000000000000000000000000000b00db00010001000f0007000f00000000000000000000000000000000000000000000000900070003000700010000000000000000000000000000000000000000000000000000000000000000017fadfe) ?_
  refine State.request_keeps_of (m := 0x5000000000000000000000000000000000000000000000000000f00ff007e00000000000000000000000000000000000000000000000000000000000700070003000000000000000000000000000000000000000b00db00010001000f0007000f00000000000000000000000000000000000000000000000900070003000700010000000000000000000000000000000000000000000000000000000000000000017fadfe) (by decide) (by decide) (by decide) ?_ ..
  intro w r v x
  exact (writeGainReset_keeps ..).weaken (by decide)

theorem cmdCalStoreSave_keeps (v : Nat) (o : Origin) (s : State) (t : State) (h : cmdCalStoreSave v o s = .next t) : Keeps 0x5000000000000000000000000000000000000000000000000000f00ff007e00000000000000000000000000000000000000000000000000000000000700070003000000000000000000000000000000000000000f00db00010001000f0007000f00000000000000000000000000000000000000000000000900070003000700010000000000000000000000000000000000000000000000000000000000000000017fadff s t := by
  refine ans_keeps h (by decide) (k := 0x5000000000000000000000000000000000000000000000000000f00ff007e00000000000000000000000000000000000000000000000000000000000700070003000000000000000000000000000000000000000f00db00010001000f0007000f00000000000000000000000000000000000000000000000900070003000700010000000000000000000000000000000000000000000000000000000000000000017fadfe) ?_
  refine State.request_keeps_of (m := 0x5000000000000000000000000000000000000000000000000000f00ff007e00000000000000000000000000000000000000000000000000000000000700070003000000000000000000000000000000000000000f00db00010001000f0007000f00000000000000000000000000000000000000000000000900070003000700010000000000000000000000000000000000000000000000000000000000000000017fadfe) (by decide) (by decide) (by decide) ?_ ..
  intro w r v x
  exact (writeCalStoreSave_keeps ..).weaken (by decide)

theorem cmdCalStoreWrite_keeps (ok : Bool) (s : State) (t : State) (h : cmdCalStoreWrite ok s = .next t) : Keeps 0x5000000000000000000000000000000000000000000000000000f007f007e00000000000000000000000000000000000000000000000000000000000700070003000000000000000000000000000000000000000700db00010001000f0007000f00000000000000000000000000000000000000000000000b00070003000700010000000000000000000000000000000000000000000000000000000000000000017eec7d s t := by
  refine ans_keeps h (by decide) (k := 0x5000000000000000000000000000000000000000000000000000f007f007e00000000000000000000000000000000000000000000000000000000000700070003000000000000000000000000000000000000000700db00010001000f0007000f00000000000000000000000000000000000000000000000b00070003000700010000000000000000000000000000000000000000000000000000000000000000017eec7c) ?_
  repeat' first
      | with_reducible exact Keeps.refl
      | (with_reducible apply Keeps.step (execCalStoreWrite_keeps ..); · decide)
      | with_reducible refine Keeps.ite ?_ ?_
      | split

theorem cmdBeatSend_keeps (s : State) (t : State) (h : cmdBeatSend s = .next t) : Keeps 0x5000000000000000000000000000000000000000000000000000f00ff007e00010000000000000000000000000000000000000000000000000000000700070003000000000000000000000000000000000000000f00db00010001000f0007000f00000000000000000000000000000000000000000000000b0007000300070001000000000000000000000000000000000000000000000000000000000000000000fffefd s t := by
  refine ans_keeps h (by decide) (k := 0x5000000000000000000000000000000000000000000000000000f00ff007e00010000000000000000000000000000000000000000000000000000000700070003000000000000000000000000000000000000000f00db00010001000f0007000f00000000000000000000000000000000000000000000000b0007000300070001000000000000000000000000000000000000000000000000000000000000000000fffefc) ?_
  repeat' first
      | with_reducible exact Keeps.refl
      | (with_reducible apply Keeps.step (execBeatSend_keeps ..); · decide)
      | with_reducible refine Keeps.ite ?_ ?_
      | split

theorem cmdDikeBeat_keeps (at_ : Nat) (bytes : List Byte) (s : State) (t : State) (h : cmdDikeBeat at_ bytes s = .next t) : Keeps 0x5000000000000000000000000000000000000000000000000000e006f001800000000000000000000000000000000000000000000000000000000000700070003000000000000000000000000000000000000000700db00010001000f0007000f00000000000000000000000000000000000000000000000100070001000700000000000000000000000000000000000000000000000000000000000000000000005e8c59 s t := by
  refine ans_keeps h (by decide) (k := 0x5000000000000000000000000000000000000000000000000000e006f001800000000000000000000000000000000000000000000000000000000000700070003000000000000000000000000000000000000000700db00010001000f0007000f00000000000000000000000000000000000000000000000100070001000700000000000000000000000000000000000000000000000000000000000000000000005e8c58) ?_
  repeat' first
      | with_reducible exact Keeps.refl
      | (with_reducible apply Keeps.step (execDikeBeat_keeps ..); · decide)
      | (with_reducible apply Keeps.step (State.afterTwin_keeps ..); · decide)
      | with_reducible refine Keeps.ite ?_ ?_
      | split

theorem cmdHeartbeatSend_keeps (s : State) (t : State) (h : cmdHeartbeatSend s = .next t) : Keeps 0x5000000000000000000000000000000000000000000000000000f00ff001e00000000000000000000000000000000000000000000000000000000000700070003000000000000000000000000000000000000000f00db00010001000f0007000f0000000000000000000000000000000000000000000000010007000300070001000000000000000000000000000000000000000000000000000000000000000000ffacfd s t := by
  refine ans_keeps h (by decide) (k := 0x5000000000000000000000000000000000000000000000000000f00ff001e00000000000000000000000000000000000000000000000000000000000700070003000000000000000000000000000000000000000f00db00010001000f0007000f0000000000000000000000000000000000000000000000010007000300070001000000000000000000000000000000000000000000000000000000000000000000ffacfc) ?_
  repeat' first
      | with_reducible exact Keeps.refl
      | (with_reducible apply Keeps.step (execHeartbeatSend_keeps ..); · decide)
      | with_reducible refine Keeps.ite ?_ ?_
      | split

theorem cmdDikeDropped_keeps (s : State) (t : State) (h : cmdDikeDropped s = .next t) : Keeps 0x5000000000000000000000000000000000000000000000000000e006f001800000000000000000000000000000000000000000000000000000000000700070003000000000000000000000000000000000000000700db00010001000f0007000f00000000000000000000000000000000000000000000000100070001000700000000000000000000000000000000000000000000000000000000000000000000005e8c59 s t := by
  refine ans_keeps h (by decide) (k := 0x5000000000000000000000000000000000000000000000000000e006f001800000000000000000000000000000000000000000000000000000000000700070003000000000000000000000000000000000000000700db00010001000f0007000f00000000000000000000000000000000000000000000000100070001000700000000000000000000000000000000000000000000000000000000000000000000005e8c58) ?_
  repeat' first
      | with_reducible exact Keeps.refl
      | (with_reducible apply Keeps.step (execDikeDropped_keeps ..); · decide)
      | (with_reducible apply Keeps.step (State.afterTwin_keeps ..); · decide)
      | with_reducible refine Keeps.ite ?_ ?_
      | split

theorem cmdDikeDown_keeps (s : State) (t : State) (h : cmdDikeDown s = .next t) : Keeps 0x5000000000000000000000000000000000000000000000000000e006f001800000000000000000000000000000000000000000000000000000000000700070003000000000000000000000000000000000000000700db00010001000f0007000f00000000000000000000000000000000000000000000000100070001000700000000000000000000000000000000000000000000000000000000000000000000005e8c59 s t := by
  refine ans_keeps h (by decide) (k := 0x5000000000000000000000000000000000000000000000000000e006f001800000000000000000000000000000000000000000000000000000000000700070003000000000000000000000000000000000000000700db00010001000f0007000f00000000000000000000000000000000000000000000000100070001000700000000000000000000000000000000000000000000000000000000000000000000005e8c58) ?_
  repeat' first
      | with_reducible exact Keeps.refl
      | (with_reducible apply Keeps.step (execDikeDown_keeps ..); · decide)
      | (with_reducible apply Keeps.step (State.afterTwin_keeps ..); · decide)
      | with_reducible refine Keeps.ite ?_ ?_
      | split

theorem cmdDikeBeatTimeout_keeps (s : State) (t : State) (h : cmdDikeBeatTimeout s = .next t) : Keeps 0x5000000000000000000000000000000000000000000000000000e006f001800000000000000000000000000000000000000000000000000000000000700070003000000000000000000000000000000000000000700db00010001000f0007000f00000000000000000000000000000000000000000000000100070001000700000000000000000000000000000000000000000000000000000000000000000000005e8c59 s t := by
  refine ans_keeps h (by decide) (k := 0x5000000000000000000000000000000000000000000000000000e006f001800000000000000000000000000000000000000000000000000000000000700070003000000000000000000000000000000000000000700db00010001000f0007000f00000000000000000000000000000000000000000000000100070001000700000000000000000000000000000000000000000000000000000000000000000000005e8c58) ?_
  repeat' first
      | with_reducible exact Keeps.refl
      | (with_reducible apply Keeps.step (execDikeBeatTimeout_keeps ..); · decide)
      | (with_reducible apply Keeps.step (State.afterTwin_keeps ..); · decide)
      | with_reducible refine Keeps.ite ?_ ?_
      | split

theorem cmdChainTimeout_keeps (s : State) (t : State) (h : cmdChainTimeout s = .next t) : Keeps 0x5000000000000000000000000000000000000000000000000000e006f001800000000000000000000000000000000000000000000000000000000000700070003000000000000000000000000000000000000000700db00010001000f0007000f00000000000000000000000000000000000000000000000100070001000700000000000000000000000000000000000000000000000000000000000000000000005e8c59 s t := by
  refine ans_keeps h (by decide) (k := 0x5000000000000000000000000000000000000000000000000000e006f001800000000000000000000000000000000000000000000000000000000000700070003000000000000000000000000000000000000000700db00010001000f0007000f00000000000000000000000000000000000000000000000100070001000700000000000000000000000000000000000000000000000000000000000000000000005e8c58) ?_
  repeat' first
      | with_reducible exact Keeps.refl
      | (with_reducible apply Keeps.step (execChainTimeout_keeps ..); · decide)
      | (with_reducible apply Keeps.step (State.afterTwin_keeps ..); · decide)
      | with_reducible refine Keeps.ite ?_ ?_
      | split

theorem cmdPartnerOut_keeps (s : State) (t : State) (h : cmdPartnerOut s = .next t) : Keeps 0x5000000000000000000000000000000000000000000000000000e007f001800000000000000000000000000000000000000000000000000000000000700070003000000000000000000000000000000000000000700db00010001000f0007000f00000000000000000000000000000000000000000000000100070001000700000000000000000000000000000000000000000000000000000000000000000000007e8c7d s t := by
  refine ans_keeps h (by decide) (k := 0x5000000000000000000000000000000000000000000000000000e007f001800000000000000000000000000000000000000000000000000000000000700070003000000000000000000000000000000000000000700db00010001000f0007000f00000000000000000000000000000000000000000000000100070001000700000000000000000000000000000000000000000000000000000000000000000000007e8c7c) ?_
  repeat' first
      | with_reducible exact Keeps.refl
      | (with_reducible apply Keeps.step (execPartnerOut_keeps ..); · decide)
      | (with_reducible apply Keeps.step (State.afterTwin_keeps ..); · decide)
      | with_reducible refine Keeps.ite ?_ ?_
      | split

theorem cmdJoinTimeout_keeps (s : State) (t : State) (h : cmdJoinTimeout s = .next t) : Keeps 0x5000000000000000000000000000000000000000000000000000e007f001800000000000000000000000000000000000000000000000000000000000700070003000000000000000000000000000000000000000700db00010001000f0007000f00000000000000000000000000000000000000000000000100070001000700000000000000000000000000000000000000000000000000000000000000000000007e8c7d s t := by
  refine ans_keeps h (by decide) (k := 0x5000000000000000000000000000000000000000000000000000e007f001800000000000000000000000000000000000000000000000000000000000700070003000000000000000000000000000000000000000700db00010001000f0007000f00000000000000000000000000000000000000000000000100070001000700000000000000000000000000000000000000000000000000000000000000000000007e8c7c) ?_
  repeat' first
      | with_reducible exact Keeps.refl
      | (with_reducible apply Keeps.step (execJoinTimeout_keeps ..); · decide)
      | (with_reducible apply Keeps.step (State.afterTwin_keeps ..); · decide)
      | with_reducible refine Keeps.ite ?_ ?_
      | split

theorem cmdHoldElapsed_keeps (s : State) (t : State) (h : cmdHoldElapsed s = .next t) : Keeps 0x5000000000000000000000000000000000000000000000000000e007f001800000000000000000000000000000000000000000000000000000000000700070003000000000000000000000000000000000000000700db00010001000f0007000f00000000000000000000000000000000000000000000000100070001000700000000000000000000000000000000000000000000000000000000000000000000007e8c7d s t := by
  refine ans_keeps h (by decide) (k := 0x5000000000000000000000000000000000000000000000000000e007f001800000000000000000000000000000000000000000000000000000000000700070003000000000000000000000000000000000000000700db00010001000f0007000f00000000000000000000000000000000000000000000000100070001000700000000000000000000000000000000000000000000000000000000000000000000007e8c7c) ?_
  repeat' first
      | with_reducible exact Keeps.refl
      | (with_reducible apply Keeps.step (execHoldElapsed_keeps ..); · decide)
      | (with_reducible apply Keeps.step (State.afterTwin_keeps ..); · decide)
      | with_reducible refine Keeps.ite ?_ ?_
      | split

theorem cmdRevertReq_keeps (s : State) (t : State) (h : cmdRevertReq s = .next t) : Keeps 0x5000000000000000000000000000000000000000000000000000f007f007e00000000000000000000000000000000000000000000000000000000000700070003000000000000000000000000000000000000000700db00010001000f0007000f00000000000000000000000000000000000000000000000b00070003000700000000000000000000000000000000000000000000000000000000000000000000007eec7d s t := by
  refine ans_keeps h (by decide) (k := 0x5000000000000000000000000000000000000000000000000000f007f007e00000000000000000000000000000000000000000000000000000000000700070003000000000000000000000000000000000000000700db00010001000f0007000f00000000000000000000000000000000000000000000000b00070003000700000000000000000000000000000000000000000000000000000000000000000000007eec7c) ?_
  repeat' first
      | with_reducible exact Keeps.refl
      | (with_reducible apply Keeps.step (execRevertReq_keeps ..); · decide)
      | (with_reducible apply Keeps.step (State.afterTwin_keeps ..); · decide)
      | with_reducible refine Keeps.ite ?_ ?_
      | split

theorem cmdHandover_keeps (s : State) (t : State) (h : cmdHandover s = .next t) : Keeps 0x5000000000000000000000000000000000000000000000000000e006f001800000000000000000000000000000000000000000000000000000000000700070003000000000000000000000000000000000000000700db00010001000f0007000f00000000000000000000000000000000000000000000000100070001000700000000000000000000000000000000000000000000000000000000000000000000005e8c59 s t := by
  refine ans_keeps h (by decide) (k := 0x5000000000000000000000000000000000000000000000000000e006f001800000000000000000000000000000000000000000000000000000000000700070003000000000000000000000000000000000000000700db00010001000f0007000f00000000000000000000000000000000000000000000000100070001000700000000000000000000000000000000000000000000000000000000000000000000005e8c58) ?_
  repeat' first
      | with_reducible exact Keeps.refl
      | (with_reducible apply Keeps.step (execHandover_keeps ..); · decide)
      | (with_reducible apply Keeps.step (State.afterTwin_keeps ..); · decide)
      | with_reducible refine Keeps.ite ?_ ?_
      | split

theorem cmdHandoverWithdraw_keeps (s : State) (t : State) (h : cmdHandoverWithdraw s = .next t) : Keeps 0x5000000000000000000000000000000000000000000000000000e007f001800000000000000000000000000000000000000000000000000000000000700070003000000000000000000000000000000000000000700db00010001000f0007000f00000000000000000000000000000000000000000000000100070001000700000000000000000000000000000000000000000000000000000000000000000000007e8c7d s t := by
  refine ans_keeps h (by decide) (k := 0x5000000000000000000000000000000000000000000000000000e007f001800000000000000000000000000000000000000000000000000000000000700070003000000000000000000000000000000000000000700db00010001000f0007000f00000000000000000000000000000000000000000000000100070001000700000000000000000000000000000000000000000000000000000000000000000000007e8c7c) ?_
  repeat' first
      | with_reducible exact Keeps.refl
      | (with_reducible apply Keeps.step (execHandoverWithdraw_keeps ..); · decide)
      | (with_reducible apply Keeps.step (State.afterTwin_keeps ..); · decide)
      | with_reducible refine Keeps.ite ?_ ?_
      | split

theorem cmdDemote_keeps (v : Nat) (o : Origin) (s : State) (t : State) (h : cmdDemote v o s = .next t) : Keeps 0x5000000000000000000000000000000000000000000000000000e007f001800000000000000000000000000000000000000000000000000000000000700070003000000000000000000000000000000000000000700db00010001000f0007000f00000000000000000000000000000000000000000000000100070001000700000000000000000000000000000000000000000000000000000000000000000000007e8c7d s t := by
  refine ans_keeps h (by decide) (k := 0x5000000000000000000000000000000000000000000000000000e007f001800000000000000000000000000000000000000000000000000000000000700070003000000000000000000000000000000000000000700db00010001000f0007000f00000000000000000000000000000000000000000000000100070001000700000000000000000000000000000000000000000000000000000000000000000000007e8c7c) ?_
  refine State.request_keeps_of (m := 0x5000000000000000000000000000000000000000000000000000e007f001800000000000000000000000000000000000000000000000000000000000700070003000000000000000000000000000000000000000700db00010001000f0007000f00000000000000000000000000000000000000000000000100070001000700000000000000000000000000000000000000000000000000000000000000000000007e8c7c) (by decide) (by decide) (by decide) ?_ ..
  intro w r v x
  exact Keeps.step (State.afterTwin_keeps ..) (by decide) ((writeDemote_keeps ..).weaken (by decide))

theorem cmdHandoverAt_keeps (v : List Byte) (o : Origin) (s : State) (t : State) (h : cmdHandoverAt v o s = .next t) : Keeps 0x5000000000000000000000000000000000000000000000000000e007f001800000000000000000000000000000000000000000000000000000000000700070003000000000000000000000000000000000000000700db00010001000f0007000f00000000000000000000000000000000000000000000000100070001000700000000000000000000000000000000000000000000000000000000000000000000007e8c7d s t := by
  refine ans_keeps h (by decide) (k := 0x5000000000000000000000000000000000000000000000000000e007f001800000000000000000000000000000000000000000000000000000000000700070003000000000000000000000000000000000000000700db00010001000f0007000f00000000000000000000000000000000000000000000000100070001000700000000000000000000000000000000000000000000000000000000000000000000007e8c7c) ?_
  refine State.request_keeps_of (m := 0x5000000000000000000000000000000000000000000000000000e007f001800000000000000000000000000000000000000000000000000000000000700070003000000000000000000000000000000000000000700db00010001000f0007000f00000000000000000000000000000000000000000000000100070001000700000000000000000000000000000000000000000000000000000000000000000000007e8c7c) (by decide) (by decide) (by decide) ?_ ..
  intro w r v x
  exact Keeps.step (State.afterTwin_keeps ..) (by decide) ((writeHandoverAt_keeps ..).weaken (by decide))

theorem cmdRejoin_keeps (v : Nat) (o : Origin) (s : State) (t : State) (h : cmdRejoin v o s = .next t) : Keeps 0x5000000000000000000000000000000000000000000000000000e007f001800000000000000000000000000000000000000000000000000000000000700070003000000000000000000000000000000000000000700db00010001000f0007000f00000000000000000000000000000000000000000000000100070001000700000000000000000000000000000000000000000000000000000000000000000000007e8c7d s t := by
  refine ans_keeps h (by decide) (k := 0x5000000000000000000000000000000000000000000000000000e007f001800000000000000000000000000000000000000000000000000000000000700070003000000000000000000000000000000000000000700db00010001000f0007000f00000000000000000000000000000000000000000000000100070001000700000000000000000000000000000000000000000000000000000000000000000000007e8c7c) ?_
  refine State.request_keeps_of (m := 0x5000000000000000000000000000000000000000000000000000e007f001800000000000000000000000000000000000000000000000000000000000700070003000000000000000000000000000000000000000700db00010001000f0007000f00000000000000000000000000000000000000000000000100070001000700000000000000000000000000000000000000000000000000000000000000000000007e8c7c) (by decide) (by decide) (by decide) ?_ ..
  intro w r v x
  exact Keeps.step (State.afterTwin_keeps ..) (by decide) ((writeRejoin_keeps ..).weaken (by decide))

theorem cmdTaskReady_keeps (slot : Nat) (s : State) (t : State) (h : cmdTaskReady slot s = .next t) : Keeps 0x5000000000000000000000000000000000000000000000000000e00ff001c00000000000000000000000000000000000000000000000000000000000700070003000000000000000000000000000000000000000f00db00010001000f0007000f0000000000000000000000000000000000000000000000010007000300070001000000000000000000000000000000000000000000000000000000000000000001ff8cfd s t := by
  refine ans_keeps h (by decide) (k := 0x5000000000000000000000000000000000000000000000000000e00ff001c00000000000000000000000000000000000000000000000000000000000700070003000000000000000000000000000000000000000f00db00010001000f0007000f0000000000000000000000000000000000000000000000010007000300070001000000000000000000000000000000000000000000000000000000000000000001ff8cfc) ?_
  repeat' first
      | with_reducible exact Keeps.refl
      | (with_reducible apply Keeps.step (execTaskReady_keeps ..); · decide)
      | with_reducible refine Keeps.ite ?_ ?_
      | split

theorem cmdTaskDispatch_keeps (cls : Nat) (s : State) (t : State) (h : cmdTaskDispatch cls s = .next t) : Keeps 0x5000000000000000000000000000000000000000000000000000e0059001000000000000000000000000000000000000000000000000000000000000700070003000000000000000000000000000000000000000700c800010001000e0002000f00000000000000000000000000000000000000000000000100050001000700000000000000000000000000000000000000000000000000000000000000000000002a8c7d s t := by
  refine ans_keeps h (by decide) (k := 0x5000000000000000000000000000000000000000000000000000e0059001000000000000000000000000000000000000000000000000000000000000700070003000000000000000000000000000000000000000700c800010001000e0002000f00000000000000000000000000000000000000000000000100050001000700000000000000000000000000000000000000000000000000000000000000000000002a8c7c) ?_
  repeat' first
      | with_reducible exact Keeps.refl
      | (with_reducible apply Keeps.step (execTaskDispatch_keeps ..); · decide)
      | with_reducible refine Keeps.ite ?_ ?_
      | split

theorem cmdTaskDeadline_keeps (slot : Nat) (s : State) (t : State) (h : cmdTaskDeadline slot s = .next t) : Keeps 0x5000000000000000000000000000000000000000000000000000e00ff001c00000000000000000000000000000000000000000000000000000000000700070003000000000000000000000000000000000000000f00db00010001000f0007000f0000000000000000000000000000000000000000000000010007000300070001000000000000000000000000000000000000000000000000000000000000000001ff8cfd s t := by
  refine ans_keeps h (by decide) (k := 0x5000000000000000000000000000000000000000000000000000e00ff001c00000000000000000000000000000000000000000000000000000000000700070003000000000000000000000000000000000000000f00db00010001000f0007000f0000000000000000000000000000000000000000000000010007000300070001000000000000000000000000000000000000000000000000000000000000000001ff8cfc) ?_
  repeat' first
      | with_reducible exact Keeps.refl
      | (with_reducible apply Keeps.step (execTaskDeadline_keeps ..); · decide)
      | with_reducible refine Keeps.ite ?_ ?_
      | split

theorem cmdTaskComplete_keeps (slot : Nat) (status : Nat) (s : State) (t : State) (h : cmdTaskComplete slot status s = .next t) : Keeps 0x401 s t := by
  refine ans_keeps h (by decide) (k := 0x400) ?_
  repeat' first
      | with_reducible exact Keeps.refl
      | (with_reducible apply Keeps.step (execTaskComplete_keeps ..); · decide)
      | with_reducible refine Keeps.ite ?_ ?_
      | split

theorem cmdScrubVisit_keeps (mem : Nat) (words : List WordFlips) (checks : List (Nat × Nat)) (s : State) (t : State) (h : cmdScrubVisit mem words checks s = .next t) : Keeps 0x5000000000000000000000000000000000000000000000000000d00ff007e00000000000000000000000000000000000000000000000000000000000700050003000000000000000000000000000000000000000f00db00010001000f0007000f00000000000000000000000000000000000000000000000b0007000300070000000000000000000000000000000000000000000000000000000000000000000001fe6c1d s t := by
  refine ans_keeps h (by decide) (k := 0x5000000000000000000000000000000000000000000000000000d00ff007e00000000000000000000000000000000000000000000000000000000000700050003000000000000000000000000000000000000000f00db00010001000f0007000f00000000000000000000000000000000000000000000000b0007000300070000000000000000000000000000000000000000000000000000000000000000000001fe6c1c) ?_
  repeat' first
      | with_reducible exact Keeps.refl
      | (with_reducible apply Keeps.step (execScrubVisit_keeps ..); · decide)
      | with_reducible refine Keeps.ite ?_ ?_
      | split

theorem cmdPageDecode_keeps (mem : Nat) (page : Nat) (words : List WordFlips) (checks : List (Nat × Nat)) (rank : Nat) (s : State) (t : State) (h : cmdPageDecode mem page words checks rank s = .next t) : Keeps 0x5000000000000000000000000000000000000000000000000000d00ff007e00000000000000000000000000000000000000000000000000000000000700070003000000000000000000000000000000000000000f00db00010001000f0007000f00000000000000000000000000000000000000000000000b0007000300070000000000000000000000000000000000000000000000000000000000000000000001fe6d1f s t := by
  refine ans_keeps h (by decide) (k := 0x5000000000000000000000000000000000000000000000000000d00ff007e00000000000000000000000000000000000000000000000000000000000700070003000000000000000000000000000000000000000f00db00010001000f0007000f00000000000000000000000000000000000000000000000b0007000300070000000000000000000000000000000000000000000000000000000000000000000001fe6d1e) ?_
  repeat' first
      | with_reducible exact Keeps.refl
      | (with_reducible apply Keeps.step (execPageDecode_keeps ..); · decide)
      | with_reducible refine Keeps.ite ?_ ?_
      | split

theorem cmdLogClear_keeps (v : Nat) (o : Origin) (s : State) (t : State) (h : cmdLogClear v o s = .next t) : Keeps 0x5000000000000000000000000000000000000000000000000000f00ff007e00000000000000000000000000000000000000000000000000000000000700070003000000000000000000000000000000000000000f00db00010001000f0007000f0000000000000000000000000000000000000000000000090007000300070001000000000000000000000000000000000000000000000000000000000000000001ff2dff s t := by
  refine ans_keeps h (by decide) (k := 0x5000000000000000000000000000000000000000000000000000f00ff007e00000000000000000000000000000000000000000000000000000000000700070003000000000000000000000000000000000000000f00db00010001000f0007000f0000000000000000000000000000000000000000000000090007000300070001000000000000000000000000000000000000000000000000000000000000000001ff2dfe) ?_
  refine State.request_keeps_of (m := 0x5000000000000000000000000000000000000000000000000000f00ff007e00000000000000000000000000000000000000000000000000000000000700070003000000000000000000000000000000000000000f00db00010001000f0007000f0000000000000000000000000000000000000000000000090007000300070001000000000000000000000000000000000000000000000000000000000000000001ff2dfe) (by decide) (by decide) (by decide) ?_ ..
  intro w r v x
  exact (writeLogClear_keeps ..).weaken (by decide)

theorem cmdArbitrationWindow_keeps (delivered : Nat) (demands : List Demand) (s : State) (t : State) (h : cmdArbitrationWindow delivered demands s = .next t) : Keeps 0x5000000000000000000000000000000000000000000000000000d00fa006e00000000000000000000000000000000000000000000000000000000000700070003000000000000000000000000000000000000000f00db0001000100070007000d00000000000000000000000000000000000000000000000a0007000300070001000000000000000000000000000000000000000000000000000000000000000001d96de7 s t := by
  refine ans_keeps h (by decide) (k := 0x5000000000000000000000000000000000000000000000000000d00fa006e00000000000000000000000000000000000000000000000000000000000700070003000000000000000000000000000000000000000f00db0001000100070007000d00000000000000000000000000000000000000000000000a0007000300070001000000000000000000000000000000000000000000000000000000000000000001d96de6) ?_
  repeat' first
      | with_reducible exact Keeps.refl
      | (with_reducible apply Keeps.step (execArbitrationWindow_keeps ..); · decide)
      | with_reducible refine Keeps.ite ?_ ?_
      | split

theorem cmdDownload_keeps (v : List Byte) (o : Origin) (s : State) (t : State) (h : cmdDownload v o s = .next t) : Keeps 0x5000000000000000000000000000000000000000000000000000e00ff007e00000000000000000000000000000000000000000000000000000000000700070003000000000000000000000000000000000000000f00db00010001000f0007000f0000000000000000000000000000000000000000000000090007000300070001000000000000000000000000000000000000000000000000000000000000000001fe8d7f s t := by
  refine ans_keeps h (by decide) (k := 0x5000000000000000000000000000000000000000000000000000e00ff007e00000000000000000000000000000000000000000000000000000000000700070003000000000000000000000000000000000000000f00db00010001000f0007000f0000000000000000000000000000000000000000000000090007000300070001000000000000000000000000000000000000000000000000000000000000000001fe8d7e) ?_
  refine State.request_keeps_of (m := 0x5000000000000000000000000000000000000000000000000000e00ff007e00000000000000000000000000000000000000000000000000000000000700070003000000000000000000000000000000000000000f00db00010001000f0007000f0000000000000000000000000000000000000000000000090007000300070001000000000000000000000000000000000000000000000000000000000000000001fe8d7e) (by decide) (by decide) (by decide) ?_ ..
  intro w r v x
  exact (writeDownload_keeps ..).weaken (by decide)

theorem cmdEraseDone_keeps (ok : Bool) (s : State) (t : State) (h : cmdEraseDone ok s = .next t) : Keeps 0x5000000000000000000000000000000000000000000000000000e00ff001c00000000000000000000000000000000000000000000000000000000000700070003000000000000000000000000000000000000000f00db00010001000f0007000f0000000000000000000000000000000000000000000000010007000300070001000000000000000000000000000000000000000000000000000000000000000001fe8dff s t := by
  refine ans_keeps h (by decide) (k := 0x5000000000000000000000000000000000000000000000000000e00ff001c00000000000000000000000000000000000000000000000000000000000700070003000000000000000000000000000000000000000f00db00010001000f0007000f0000000000000000000000000000000000000000000000010007000300070001000000000000000000000000000000000000000000000000000000000000000001fe8dfe) ?_
  repeat' first
      | with_reducible exact Keeps.refl
      | (with_reducible apply Keeps.step (execEraseDone_keeps ..); · decide)
      | with_reducible refine Keeps.ite ?_ ?_
      | split

theorem cmdBlockProgramDone_keeps (block : Nat) (ok : Bool) (s : State) (t : State) (h : cmdBlockProgramDone block ok s = .next t) : Keeps 0x5000000000000000000000000000000000000000000000000000e00ff001c00000000000000000000000000000000000000000000000000000000000700070003000000000000000000000000000000000000000f00db00010001000f0007000f0000000000000000000000000000000000000000000000010007000300070001000000000000000000000000000000000000000000000000000000000000000001fe8d7f s t := by
  refine ans_keeps h (by decide) (k := 0x5000000000000000000000000000000000000000000000000000e00ff001c00000000000000000000000000000000000000000000000000000000000700070003000000000000000000000000000000000000000f00db00010001000f0007000f0000000000000000000000000000000000000000000000010007000300070001000000000000000000000000000000000000000000000000000000000000000001fe8d7e) ?_
  repeat' first
      | with_reducible exact Keeps.refl
      | (with_reducible apply Keeps.step (execBlockProgramDone_keeps ..); · decide)
      | with_reducible refine Keeps.ite ?_ ?_
      | split

theorem cmdTransferTimeout_keeps (s : State) (t : State) (h : cmdTransferTimeout s = .next t) : Keeps 0x5000000000000000000000000000000000000000000000000000e00ff001c00000000000000000000000000000000000000000000000000000000000700070003000000000000000000000000000000000000000f00db00010001000f0007000f0000000000000000000000000000000000000000000000010007000300070001000000000000000000000000000000000000000000000000000000000000000001fe8cfd s t := by
  refine ans_keeps h (by decide) (k := 0x5000000000000000000000000000000000000000000000000000e00ff001c00000000000000000000000000000000000000000000000000000000000700070003000000000000000000000000000000000000000f00db00010001000f0007000f0000000000000000000000000000000000000000000000010007000300070001000000000000000000000000000000000000000000000000000000000000000001fe8cfc) ?_
  repeat' first
      | with_reducible exact Keeps.refl
      | (with_reducible apply Keeps.step (execTransferTimeout_keeps ..); · decide)
      | with_reducible refine Keeps.ite ?_ ?_
      | split

theorem cmdVerify_keeps (v : Nat) (o : Origin) (s : State) (t : State) (h : cmdVerify v o s = .next t) : Keeps 0x5000000000000000000000000000000000000000000000000000e00ff007e00000000000000000000000000000000000000000000000000000000000700070003000000000000000000000000000000000000000f00db00010001000f0007000f0000000000000000000000000000000000000000000000090007000300070001000000000000000000000000000000000000000000000000000000000000000001fe8dff s t := by
  refine ans_keeps h (by decide) (k := 0x5000000000000000000000000000000000000000000000000000e00ff007e00000000000000000000000000000000000000000000000000000000000700070003000000000000000000000000000000000000000f00db00010001000f0007000f0000000000000000000000000000000000000000000000090007000300070001000000000000000000000000000000000000000000000000000000000000000001fe8dfe) ?_
  refine State.request_keeps_of (m := 0x5000000000000000000000000000000000000000000000000000e00ff007e00000000000000000000000000000000000000000000000000000000000700070003000000000000000000000000000000000000000f00db00010001000f0007000f0000000000000000000000000000000000000000000000090007000300070001000000000000000000000000000000000000000000000000000000000000000001fe8dfe) (by decide) (by decide) (by decide) ?_ ..
  intro w r v x
  exact (writeVerify_keeps ..).weaken (by decide)

theorem cmdVerifyDone_keeps (s : State) (t : State) (h : cmdVerifyDone s = .next t) : Keeps 0x5000000000000000000000000000000000000000000000000000a00ff001c00000000000000000000000000000000000000000000000000000000000600070003000000000000000000000000000000000000000f00db00010001000f0007000f0000000000000000000000000000000000000000000000010007000300070001000000000000000000000000000000000000000000000000000000000000000001fe8dff s t := by
  refine ans_keeps h (by decide) (k := 0x5000000000000000000000000000000000000000000000000000a00ff001c00000000000000000000000000000000000000000000000000000000000600070003000000000000000000000000000000000000000f00db00010001000f0007000f0000000000000000000000000000000000000000000000010007000300070001000000000000000000000000000000000000000000000000000000000000000001fe8dfe) ?_
  repeat' first
      | with_reducible exact Keeps.refl
      | (with_reducible apply Keeps.step (execVerifyDone_keeps ..); · decide)
      | with_reducible refine Keeps.ite ?_ ?_
      | split

theorem cmdPrepare_keeps (v : List Byte) (o : Origin) (s : State) (t : State) (h : cmdPrepare v o s = .next t) : Keeps 0x5000000000000000000000000000000000000000000000000000f00ff007e00000000000000000000000000000000000000000000000000000000000700070003000000000000000000000000000000000000000f00db00010001000f0007000f0000000000000000000000000000000000000000000000090007000300070001000000000000000000000000000000000000000000000000000000000000000001fead7f s t := by
  refine ans_keeps h (by decide) (k := 0x5000000000000000000000000000000000000000000000000000f00ff007e00000000000000000000000000000000000000000000000000000000000700070003000000000000000000000000000000000000000f00db00010001000f0007000f0000000000000000000000000000000000000000000000090007000300070001000000000000000000000000000000000000000000000000000000000000000001fead7e) ?_
  refine State.request_keeps_of (m := 0x5000000000000000000000000000000000000000000000000000f00ff007e00000000000000000000000000000000000000000000000000000000000700070003000000000000000000000000000000000000000f00db00010001000f0007000f0000000000000000000000000000000000000000000000090007000300070001000000000000000000000000000000000000000000000000000000000000000001fead7e) (by decide) (by decide) (by decide) ?_ ..
  intro w r v x
  exact (writePrepare_keeps ..).weaken (by decide)

theorem cmdCommit_keeps (v : Nat) (o : Origin) (s : State) (t : State) (h : cmdCommit v o s = .next t) : Keeps 0x5000000000000000000000000000000000000000000000000000f00ff007e00000000000000000000000000000000000000000000000000000000000700070003000000000000000000000000000000000000000f00db00010001000f0007000f0000000000000000000000000000000000000000000000090007000300070001000000000000000000000000000000000000000000000000000000000000000001fead7f s t := by
  refine ans_keeps h (by decide) (k := 0x5000000000000000000000000000000000000000000000000000f00ff007e00000000000000000000000000000000000000000000000000000000000700070003000000000000000000000000000000000000000f00db00010001000f0007000f0000000000000000000000000000000000000000000000090007000300070001000000000000000000000000000000000000000000000000000000000000000001fead7e) ?_
  refine State.request_keeps_of (m := 0x5000000000000000000000000000000000000000000000000000f00ff007e00000000000000000000000000000000000000000000000000000000000700070003000000000000000000000000000000000000000f00db00010001000f0007000f0000000000000000000000000000000000000000000000090007000300070001000000000000000000000000000000000000000000000000000000000000000001fead7e) (by decide) (by decide) (by decide) ?_ ..
  intro w r v x
  exact (writeCommit_keeps ..).weaken (by decide)

theorem cmdAbort_keeps (v : Nat) (o : Origin) (s : State) (t : State) (h : cmdAbort v o s = .next t) : Keeps 0x5000000000000000000000000000000000000000000000000000a00ff001c00000000000000000000000000000000000000000000000000000000000700070003000000000000000000000000000000000000000f00db00010001000f0007000f0000000000000000000000000000000000000000000000010007000300070000000000000000000000000000000000000000000000000000000000000000000001fe8d1f s t := by
  refine ans_keeps h (by decide) (k := 0x5000000000000000000000000000000000000000000000000000a00ff001c00000000000000000000000000000000000000000000000000000000000700070003000000000000000000000000000000000000000f00db00010001000f0007000f0000000000000000000000000000000000000000000000010007000300070000000000000000000000000000000000000000000000000000000000000000000001fe8d1e) ?_
  refine State.request_keeps_of (m := 0x5000000000000000000000000000000000000000000000000000a00ff001c00000000000000000000000000000000000000000000000000000000000700070003000000000000000000000000000000000000000f00db00010001000f0007000f0000000000000000000000000000000000000000000000010007000300070000000000000000000000000000000000000000000000000000000000000000000001fe8d1e) (by decide) (by decide) (by decide) ?_ ..
  intro w r v x
  exact (writeAbort_keeps ..).weaken (by decide)

theorem cmdConfirm_keeps (v : Nat) (o : Origin) (s : State) (t : State) (h : cmdConfirm v o s = .next t) : Keeps 0x5000000000000000000000000000000000000000000000000000f007f007e00000000000000000000000000000000000000000000000000000000000700070003000000000000000000000000000000000000000700db00010001000f0007000f00000000000000000000000000000000000000000000000900070003000700000000000000000000000000000000000000000000000000000000000000000000017eac7d s t := by
  refine ans_keeps h (by decide) (k := 0x5000000000000000000000000000000000000000000000000000f007f007e00000000000000000000000000000000000000000000000000000000000700070003000000000000000000000000000000000000000700db00010001000f0007000f00000000000000000000000000000000000000000000000900070003000700000000000000000000000000000000000000000000000000000000000000000000017eac7c) ?_
  refine State.request_keeps_of (m := 0x5000000000000000000000000000000000000000000000000000f007f007e00000000000000000000000000000000000000000000000000000000000700070003000000000000000000000000000000000000000700db00010001000f0007000f00000000000000000000000000000000000000000000000900070003000700000000000000000000000000000000000000000000000000000000000000000000017eac7c) (by decide) (by decide) (by decide) ?_ ..
  intro w r v x
  exact (writeConfirm_keeps ..).weaken (by decide)

theorem cmdActivation_keeps (s : State) (t : State) (h : cmdActivation s = .next t) : Keeps 0x5000000000000000000000000000000000000000000000000000f00ff007e00000000000000000000000000000000000000000000000000000000000700070003000000000000000000000000000000000000000f00db00010001000f0007000f00000000000000000000000000000000000000000000000b0007000300070000000000000000000000000000000000000000000000000000000000000000000001feec1d s t := by
  refine ans_keeps h (by decide) (k := 0x5000000000000000000000000000000000000000000000000000f00ff007e00000000000000000000000000000000000000000000000000000000000700070003000000000000000000000000000000000000000f00db00010001000f0007000f00000000000000000000000000000000000000000000000b0007000300070000000000000000000000000000000000000000000000000000000000000000000001feec1c) ?_
  repeat' first
      | with_reducible exact Keeps.refl
      | (with_reducible apply Keeps.step (execActivation_keeps ..); · decide)
      | with_reducible refine Keeps.ite ?_ ?_
      | split

theorem cmdDeferredActivation_keeps (s : State) (t : State) (h : cmdDeferredActivation s = .next t) : Keeps 0x5000000000000000000000000000000000000000000000000000f00ff007e00000000000000000000000000000000000000000000000000000000000700070003000000000000000000000000000000000000000f00db00010001000f0007000f00000000000000000000000000000000000000000000000b0007000300070000000000000000000000000000000000000000000000000000000000000000000001feec1d s t := by
  refine ans_keeps h (by decide) (k := 0x5000000000000000000000000000000000000000000000000000f00ff007e00000000000000000000000000000000000000000000000000000000000700070003000000000000000000000000000000000000000f00db00010001000f0007000f00000000000000000000000000000000000000000000000b0007000300070000000000000000000000000000000000000000000000000000000000000000000001feec1c) ?_
  repeat' first
      | with_reducible exact Keeps.refl
      | (with_reducible apply Keeps.step (execDeferredActivation_keeps ..); · decide)
      | with_reducible refine Keeps.ite ?_ ?_
      | split

theorem cmdTrialTimeout_keeps (s : State) (t : State) (h : cmdTrialTimeout s = .next t) : Keeps 0x5000000000000000000000000000000000000000000000000000b00ff007e00010000000000000000000000000000000000000000000000000000000700070003000000000000000000000000000000000000000f00db00010001000f0007000f00000000000000000000000000000000000000000000000b0007000300070000000000000000000000000000000000000000000000000000000000000000000001feee1d s t := by
  refine ans_keeps h (by decide) (k := 0x5000000000000000000000000000000000000000000000000000b00ff007e00010000000000000000000000000000000000000000000000000000000700070003000000000000000000000000000000000000000f00db00010001000f0007000f00000000000000000000000000000000000000000000000b0007000300070000000000000000000000000000000000000000000000000000000000000000000001feee1c) ?_
  repeat' first
      | with_reducible exact Keeps.refl
      | (with_reducible apply Keeps.step (execTrialTimeout_keeps ..); · decide)
      | with_reducible refine Keeps.ite ?_ ?_
      | split

theorem cmdConfirmHoldElapsed_keeps (s : State) (t : State) (h : cmdConfirmHoldElapsed s = .next t) : Keeps 0x5000000000000000000000000000000000000000000000000000f007f007e00000000000000000000000000000000000000000000000000000000000700070003000000000000000000000000000000000000000700db00010001000f0007000f00000000000000000000000000000000000000000000000b00070003000700000000000000000000000000000000000000000000000000000000000000000000017eec7d s t := by
  refine ans_keeps h (by decide) (k := 0x5000000000000000000000000000000000000000000000000000f007f007e00000000000000000000000000000000000000000000000000000000000700070003000000000000000000000000000000000000000700db00010001000f0007000f00000000000000000000000000000000000000000000000b00070003000700000000000000000000000000000000000000000000000000000000000000000000017eec7c) ?_
  repeat' first
      | with_reducible exact Keeps.refl
      | (with_reducible apply Keeps.step (execConfirmHoldElapsed_keeps ..); · decide)
      | with_reducible refine Keeps.ite ?_ ?_
      | split

theorem cmdFrameDone_keeps (head : Nat) (s : State) (t : State) (h : cmdFrameDone head s = .next t) : Keeps 0x5000000000000000000000000000000000000000000000000000d00ff007e00000000000000000000000000000000000000000000000000000000000700070003000000000000000000000000000000000000000f00db00010001000f0007000f00000000000000000000000000000000000000000000000b0007000300070001000000000000000000000000000000000000000000000000000000000000000001fb6ce1 s t := by
  refine ans_keeps h (by decide) (k := 0x5000000000000000000000000000000000000000000000000000d00ff007e00000000000000000000000000000000000000000000000000000000000700070003000000000000000000000000000000000000000f00db00010001000f0007000f00000000000000000000000000000000000000000000000b0007000300070001000000000000000000000000000000000000000000000000000000000000000001fb6ce0) ?_
  repeat' first
      | with_reducible exact Keeps.refl
      | (with_reducible apply Keeps.step (execFrameDone_keeps ..); · decide)
      | with_reducible refine Keeps.ite ?_ ?_
      | split

theorem cmdPostedWriteDone_keeps (s : State) (t : State) (h : cmdPostedWriteDone s = .next t) : Keeps 0x1ea4003 s t := by
  refine ans_keeps h (by decide) (k := 0x1ea4002) ?_
  repeat' first
      | with_reducible exact Keeps.refl
      | (with_reducible apply Keeps.step (execPostedWriteDone_keeps ..); · decide)
      | with_reducible refine Keeps.ite ?_ ?_
      | split

theorem cmdRefreshRateChange_keeps (rate : Nat) (s : State) (t : State) (h : cmdRefreshRateChange rate s = .next t) : Keeps 0x5000000000000000000000000000000000000000000000000000f00ff007e00000000000000000000000000000000000000000000000000000000000700070003000000000000000000000000000000000000000f00db00010001000f0007000f00000000000000000000000000000000000000000000000b0007000300070001000000000000000000000000000000000000000000000000000000000000000001ff6dff s t := by
  refine ans_keeps h (by decide) (k := 0x5000000000000000000000000000000000000000000000000000f00ff007e00000000000000000000000000000000000000000000000000000000000700070003000000000000000000000000000000000000000f00db00010001000f0007000f00000000000000000000000000000000000000000000000b0007000300070001000000000000000000000000000000000000000000000000000000000000000001ff6dfe) ?_
  repeat' first
      | with_reducible exact Keeps.refl
      | (with_reducible apply Keeps.step (execRefreshRateChange_keeps ..); · decide)
      | with_reducible refine Keeps.ite ?_ ?_
      | split

theorem cmdNoSlotVerifies_keeps (s : State) (t : State) (h : cmdNoSlotVerifies s = .next t) : Keeps 0x5000000000000000000000000000000000000000000000000000b00ff007e00000000000000000000000000000000000000000000000000000000000600070003000000000000000000000000000000000000000f00db00010001000f0007000f00000000000000000000000000000000000000000000000b0007000300070001000000000000000000000000000000000000000000000000000000000000000001feed7f s t := by
  refine ans_keeps h (by decide) (k := 0x5000000000000000000000000000000000000000000000000000b00ff007e00000000000000000000000000000000000000000000000000000000000600070003000000000000000000000000000000000000000f00db00010001000f0007000f00000000000000000000000000000000000000000000000b0007000300070001000000000000000000000000000000000000000000000000000000000000000001feed7e) ?_
  repeat' first
      | with_reducible exact Keeps.refl
      | (with_reducible apply Keeps.step (execNoSlotVerifies_keeps ..); · decide)
      | with_reducible refine Keeps.ite ?_ ?_
      | split

/-- Whatever a command does, the waiting commands stay and every memory keeps its canonical form. -/
theorem exec_keeps (i : Instr) (s t : State) (h : exec i s = .next t) : Keeps 0x1 s t := by
  cases i
  case powerOn => exact (cmdPowerOn_keeps (h := h) ..).weaken (by decide)
  case pinReset => exact (cmdPinReset_keeps (h := h) ..).weaken (by decide)
  case watchdogWarn => exact (cmdWatchdogWarn_keeps (h := h) ..).weaken (by decide)
  case watchdogExpiry => exact (cmdWatchdogExpiry_keeps (h := h) ..).weaken (by decide)
  case resetAssert => exact (cmdResetAssert_keeps (h := h) ..).weaken (by decide)
  case resetRelease => exact (cmdResetRelease_keeps (h := h) ..).weaken (by decide)
  case railStartTimeout => exact (cmdRailStartTimeout_keeps (h := h) ..).weaken (by decide)
  case bermService => exact (cmdBermService_keeps (h := h) ..).weaken (by decide)
  case dramState => exact (cmdDramState_keeps (h := h) ..).weaken (by decide)
  case serviceStart => exact (cmdServiceStart_keeps (h := h) ..).weaken (by decide)
  case vaonLoss => exact (cmdVaonLoss_keeps (h := h) ..).weaken (by decide)
  case railWarning => exact (cmdRailWarning_keeps (h := h) ..).weaken (by decide)
  case brownout => exact (cmdBrownout_keeps (h := h) ..).weaken (by decide)
  case clock => exact (cmdClock_keeps (h := h) ..).weaken (by decide)
  case standby => exact (cmdStandby_keeps (h := h) ..).weaken (by decide)
  case hibernate => exact (cmdHibernate_keeps (h := h) ..).weaken (by decide)
  case powerEntry => exact (cmdPowerEntry_keeps (h := h) ..).weaken (by decide)
  case wake => exact (cmdWake_keeps (h := h) ..).weaken (by decide)
  case wakeTimer => exact (cmdWakeTimer_keeps (h := h) ..).weaken (by decide)
  case wakePatternMatch => exact (cmdWakePatternMatch_keeps (h := h) ..).weaken (by decide)
  case reset => exact (cmdReset_keeps (h := h) ..).weaken (by decide)
  case aonReset => exact (cmdAonReset_keeps (h := h) ..).weaken (by decide)
  case sync => exact (cmdSync_keeps (h := h) ..).weaken (by decide)
  case followUp => exact (cmdFollowUp_keeps (h := h) ..).weaken (by decide)
  case announce => exact (cmdAnnounce_keeps (h := h) ..).weaken (by decide)
  case delayResp => exact (cmdDelayResp_keeps (h := h) ..).weaken (by decide)
  case delayReqSend => exact (cmdDelayReqSend_keeps (h := h) ..).weaken (by decide)
  case syncMissed => exact (cmdSyncMissed_keeps (h := h) ..).weaken (by decide)
  case announceTimeout => exact (cmdAnnounceTimeout_keeps (h := h) ..).weaken (by decide)
  case holdoverExpiry => exact (cmdHoldoverExpiry_keeps (h := h) ..).weaken (by decide)
  case domainRevert => exact (cmdDomainRevert_keeps (h := h) ..).weaken (by decide)
  case switchAt => exact (cmdSwitchAt_keeps (h := h) ..).weaken (by decide)
  case timedSwitch => exact (cmdTimedSwitch_keeps (h := h) ..).weaken (by decide)
  case snapGo => exact (cmdSnapGo_keeps (h := h) ..).weaken (by decide)
  case pulse => exact (cmdPulse_keeps (h := h) ..).weaken (by decide)
  case pulseEdge => exact (cmdPulseEdge_keeps (h := h) ..).weaken (by decide)
  case tsiEdge => exact (cmdTsiEdge_keeps (h := h) ..).weaken (by decide)
  case read => exact (cmdRead_keeps (h := h) ..).weaken (by decide)
  case write => exact (cmdWrite_keeps (h := h) ..).weaken (by decide)
  case readRow => exact (cmdReadRow_keeps (h := h) ..).weaken (by decide)
  case writeRow => exact (cmdWriteRow_keeps (h := h) ..).weaken (by decide)
  case exec => exact (cmdExec_keeps (h := h) ..).weaken (by decide)
  case submit => exact (cmdSubmit_keeps (h := h) ..).weaken (by decide)
  case cancel => exact (cmdCancel_keeps (h := h) ..).weaken (by decide)
  case hello => exact (cmdHello_keeps (h := h) ..).weaken (by decide)
  case heartbeat => exact (cmdHeartbeat_keeps (h := h) ..).weaken (by decide)
  case imageBlock => exact (cmdImageBlock_keeps (h := h) ..).weaken (by decide)
  case sessionIdleTimeout => exact (cmdSessionIdleTimeout_keeps (h := h) ..).weaken (by decide)
  case eventSend => exact (cmdEventSend_keeps (h := h) ..).weaken (by decide)
  case checkpointStore => exact (cmdCheckpointStore_keeps (h := h) ..).weaken (by decide)
  case settingsSave => exact (cmdSettingsSave_keeps (h := h) ..).weaken (by decide)
  case settingsDefault => exact (cmdSettingsDefault_keeps (h := h) ..).weaken (by decide)
  case provisionKey => exact (cmdProvisionKey_keeps (h := h) ..).weaken (by decide)
  case key => exact (cmdKey_keeps (h := h) ..).weaken (by decide)
  case eventSubscribe => exact (cmdEventSubscribe_keeps (h := h) ..).weaken (by decide)
  case hostDoorbellGo => exact (cmdHostDoorbellGo_keeps (h := h) ..).weaken (by decide)
  case readBurst => exact (cmdReadBurst_keeps (h := h) ..).weaken (by decide)
  case writeBurst => exact (cmdWriteBurst_keeps (h := h) ..).weaken (by decide)
  case hspiStatus => exact (cmdHspiStatus_keeps (h := h) ..).weaken (by decide)
  case unknownOpcode => exact (cmdUnknownOpcode_keeps (h := h) ..).weaken (by decide)
  case lateFetchDone => exact (cmdLateFetchDone_keeps (h := h) ..).weaken (by decide)
  case registerWrite => exact (cmdRegisterWrite_keeps (h := h) ..).weaken (by decide)
  case maskedWrite => exact (cmdMaskedWrite_keeps (h := h) ..).weaken (by decide)
  case wolWrite => exact (cmdWolWrite_keeps (h := h) ..).weaken (by decide)
  case counterLoRead => exact (cmdCounterLoRead_keeps (h := h) ..).weaken (by decide)
  case culvAddrWrite => exact (cmdCulvAddrWrite_keeps (h := h) ..).weaken (by decide)
  case culvDataRead => exact (cmdCulvDataRead_keeps (h := h) ..).weaken (by decide)
  case culvDataWrite => exact (cmdCulvDataWrite_keeps (h := h) ..).weaken (by decide)
  case causeClear => exact (cmdCauseClear_keeps (h := h) ..).weaken (by decide)
  case sumClear => exact (cmdSumClear_keeps (h := h) ..).weaken (by decide)
  case sysFaultClear => exact (cmdSysFaultClear_keeps (h := h) ..).weaken (by decide)
  case eventTest => exact (cmdEventTest_keeps (h := h) ..).weaken (by decide)
  case cqPop => exact (cmdCqPop_keeps (h := h) ..).weaken (by decide)
  case clearOverflow => exact (cmdClearOverflow_keeps (h := h) ..).weaken (by decide)
  case frameReceive => exact (cmdFrameReceive_keeps (h := h) ..).weaken (by decide)
  case frameTransmit => exact (cmdFrameTransmit_keeps (h := h) ..).weaken (by decide)
  case linkChange => exact (cmdLinkChange_keeps (h := h) ..).weaken (by decide)
  case pauseFrame => exact (cmdPauseFrame_keeps (h := h) ..).weaken (by decide)
  case pauseWindowEnd => exact (cmdPauseWindowEnd_keeps (h := h) ..).weaken (by decide)
  case pauseRepeat => exact (cmdPauseRepeat_keeps (h := h) ..).weaken (by decide)
  case arpRequest => exact (cmdArpRequest_keeps (h := h) ..).weaken (by decide)
  case portEnable => exact (cmdPortEnable_keeps (h := h) ..).weaken (by decide)
  case portDrainDone => exact (cmdPortDrainDone_keeps (h := h) ..).weaken (by decide)
  case ringProbeSend => exact (cmdRingProbeSend_keeps (h := h) ..).weaken (by decide)
  case ringProbe => exact (cmdRingProbe_keeps (h := h) ..).weaken (by decide)
  case ringProbeTimeout => exact (cmdRingProbeTimeout_keeps (h := h) ..).weaken (by decide)
  case flowEnable => exact (cmdFlowEnable_keeps (h := h) ..).weaken (by decide)
  case flowDrainDone => exact (cmdFlowDrainDone_keeps (h := h) ..).weaken (by decide)
  case fence => exact (cmdFence_keeps (h := h) ..).weaken (by decide)
  case videoPacket => exact (cmdVideoPacket_keeps (h := h) ..).weaken (by decide)
  case arrivalWindowEnd => exact (cmdArrivalWindowEnd_keeps (h := h) ..).weaken (by decide)
  case fenceAdvance => exact (cmdFenceAdvance_keeps (h := h) ..).weaken (by decide)
  case sacnData => exact (cmdSacnData_keeps (h := h) ..).weaken (by decide)
  case sacnSync => exact (cmdSacnSync_keeps (h := h) ..).weaken (by decide)
  case sourceTimeout => exact (cmdSourceTimeout_keeps (h := h) ..).weaken (by decide)
  case syncTimeout => exact (cmdSyncTimeout_keeps (h := h) ..).weaken (by decide)
  case headEnable => exact (cmdHeadEnable_keeps (h := h) ..).weaken (by decide)
  case headDrainDone => exact (cmdHeadDrainDone_keeps (h := h) ..).weaken (by decide)
  case commitArm => exact (cmdCommitArm_keeps (h := h) ..).weaken (by decide)
  case cutLine => exact (cmdCutLine_keeps (h := h) ..).weaken (by decide)
  case vblankStart => exact (cmdVblankStart_keeps (h := h) ..).weaken (by decide)
  case lineZero => exact (cmdLineZero_keeps (h := h) ..).weaken (by decide)
  case lineMatch => exact (cmdLineMatch_keeps (h := h) ..).weaken (by decide)
  case underrun => exact (cmdUnderrun_keeps (h := h) ..).weaken (by decide)
  case egressEnable => exact (cmdEgressEnable_keeps (h := h) ..).weaken (by decide)
  case egressPacket => exact (cmdEgressPacket_keeps (h := h) ..).weaken (by decide)
  case writebackEnable => exact (cmdWritebackEnable_keeps (h := h) ..).weaken (by decide)
  case writebackDone => exact (cmdWritebackDone_keeps (h := h) ..).weaken (by decide)
  case collateEntry => exact (cmdCollateEntry_keeps (h := h) ..).weaken (by decide)
  case sampleLate => exact (cmdSampleLate_keeps (h := h) ..).weaken (by decide)
  case quireMode => exact (cmdQuireMode_keeps (h := h) ..).weaken (by decide)
  case quireDrainDone => exact (cmdQuireDrainDone_keeps (h := h) ..).weaken (by decide)
  case quireLatch => exact (cmdQuireLatch_keeps (h := h) ..).weaken (by decide)
  case frameStart => exact (cmdFrameStart_keeps (h := h) ..).weaken (by decide)
  case returnRecord => exact (cmdReturnRecord_keeps (h := h) ..).weaken (by decide)
  case returnWindowEnd => exact (cmdReturnWindowEnd_keeps (h := h) ..).weaken (by decide)
  case camegCommand => exact (cmdCamegCommand_keeps (h := h) ..).weaken (by decide)
  case enumerate => exact (cmdEnumerate_keeps (h := h) ..).weaken (by decide)
  case camegRequestDone => exact (cmdCamegRequestDone_keeps (h := h) ..).weaken (by decide)
  case fade => exact (cmdFade_keeps (h := h) ..).weaken (by decide)
  case fadeArm => exact (cmdFadeArm_keeps (h := h) ..).weaken (by decide)
  case fadeStop => exact (cmdFadeStop_keeps (h := h) ..).weaken (by decide)
  case fadeStart => exact (cmdFadeStart_keeps (h := h) ..).weaken (by decide)
  case fadeEnd => exact (cmdFadeEnd_keeps (h := h) ..).weaken (by decide)
  case gaugeSample => exact (cmdGaugeSample_keeps (h := h) ..).weaken (by decide)
  case shortTest => exact (cmdShortTest_keeps (h := h) ..).weaken (by decide)
  case shortTestDone => exact (cmdShortTestDone_keeps (h := h) ..).weaken (by decide)
  case faultClear => exact (cmdFaultClear_keeps (h := h) ..).weaken (by decide)
  case regionReset => exact (cmdRegionReset_keeps (h := h) ..).weaken (by decide)
  case reftPresence => exact (cmdReftPresence_keeps (h := h) ..).weaken (by decide)
  case reftMeasurement => exact (cmdReftMeasurement_keeps (h := h) ..).weaken (by decide)
  case reftMeasurementDone => exact (cmdReftMeasurementDone_keeps (h := h) ..).weaken (by decide)
  case calibrationPass => exact (cmdCalibrationPass_keeps (h := h) ..).weaken (by decide)
  case tapApply => exact (cmdTapApply_keeps (h := h) ..).weaken (by decide)
  case refSession => exact (cmdRefSession_keeps (h := h) ..).weaken (by decide)
  case refReading => exact (cmdRefReading_keeps (h := h) ..).weaken (by decide)
  case refCancel => exact (cmdRefCancel_keeps (h := h) ..).weaken (by decide)
  case refSessionEnd => exact (cmdRefSessionEnd_keeps (h := h) ..).weaken (by decide)
  case refSessionTimeout => exact (cmdRefSessionTimeout_keeps (h := h) ..).weaken (by decide)
  case sensorGainReset => exact (cmdSensorGainReset_keeps (h := h) ..).weaken (by decide)
  case calStoreSave => exact (cmdCalStoreSave_keeps (h := h) ..).weaken (by decide)
  case calStoreWrite => exact (cmdCalStoreWrite_keeps (h := h) ..).weaken (by decide)
  case beatSend => exact (cmdBeatSend_keeps (h := h) ..).weaken (by decide)
  case dikeBeat => exact (cmdDikeBeat_keeps (h := h) ..).weaken (by decide)
  case heartbeatSend => exact (cmdHeartbeatSend_keeps (h := h) ..).weaken (by decide)
  case dikeDropped => exact (cmdDikeDropped_keeps (h := h) ..).weaken (by decide)
  case dikeDown => exact (cmdDikeDown_keeps (h := h) ..).weaken (by decide)
  case dikeBeatTimeout => exact (cmdDikeBeatTimeout_keeps (h := h) ..).weaken (by decide)
  case chainTimeout => exact (cmdChainTimeout_keeps (h := h) ..).weaken (by decide)
  case partnerOut => exact (cmdPartnerOut_keeps (h := h) ..).weaken (by decide)
  case joinTimeout => exact (cmdJoinTimeout_keeps (h := h) ..).weaken (by decide)
  case holdElapsed => exact (cmdHoldElapsed_keeps (h := h) ..).weaken (by decide)
  case revertReq => exact (cmdRevertReq_keeps (h := h) ..).weaken (by decide)
  case handover => exact (cmdHandover_keeps (h := h) ..).weaken (by decide)
  case handoverWithdraw => exact (cmdHandoverWithdraw_keeps (h := h) ..).weaken (by decide)
  case demote => exact (cmdDemote_keeps (h := h) ..).weaken (by decide)
  case handoverAt => exact (cmdHandoverAt_keeps (h := h) ..).weaken (by decide)
  case rejoin => exact (cmdRejoin_keeps (h := h) ..).weaken (by decide)
  case taskReady => exact (cmdTaskReady_keeps (h := h) ..).weaken (by decide)
  case taskDispatch => exact (cmdTaskDispatch_keeps (h := h) ..).weaken (by decide)
  case taskDeadline => exact (cmdTaskDeadline_keeps (h := h) ..).weaken (by decide)
  case taskComplete => exact (cmdTaskComplete_keeps (h := h) ..).weaken (by decide)
  case scrubVisit => exact (cmdScrubVisit_keeps (h := h) ..).weaken (by decide)
  case pageDecode => exact (cmdPageDecode_keeps (h := h) ..).weaken (by decide)
  case logClear => exact (cmdLogClear_keeps (h := h) ..).weaken (by decide)
  case arbitrationWindow => exact (cmdArbitrationWindow_keeps (h := h) ..).weaken (by decide)
  case download => exact (cmdDownload_keeps (h := h) ..).weaken (by decide)
  case eraseDone => exact (cmdEraseDone_keeps (h := h) ..).weaken (by decide)
  case blockProgramDone => exact (cmdBlockProgramDone_keeps (h := h) ..).weaken (by decide)
  case transferTimeout => exact (cmdTransferTimeout_keeps (h := h) ..).weaken (by decide)
  case verify => exact (cmdVerify_keeps (h := h) ..).weaken (by decide)
  case verifyDone => exact (cmdVerifyDone_keeps (h := h) ..).weaken (by decide)
  case prepare => exact (cmdPrepare_keeps (h := h) ..).weaken (by decide)
  case commit => exact (cmdCommit_keeps (h := h) ..).weaken (by decide)
  case abort => exact (cmdAbort_keeps (h := h) ..).weaken (by decide)
  case confirm => exact (cmdConfirm_keeps (h := h) ..).weaken (by decide)
  case activation => exact (cmdActivation_keeps (h := h) ..).weaken (by decide)
  case deferredActivation => exact (cmdDeferredActivation_keeps (h := h) ..).weaken (by decide)
  case trialTimeout => exact (cmdTrialTimeout_keeps (h := h) ..).weaken (by decide)
  case confirmHoldElapsed => exact (cmdConfirmHoldElapsed_keeps (h := h) ..).weaken (by decide)
  case frameDone => exact (cmdFrameDone_keeps (h := h) ..).weaken (by decide)
  case postedWriteDone => exact (cmdPostedWriteDone_keeps (h := h) ..).weaken (by decide)
  case refreshRateChange => exact (cmdRefreshRateChange_keeps (h := h) ..).weaken (by decide)
  case noSlotVerifies => exact (cmdNoSlotVerifies_keeps (h := h) ..).weaken (by decide)

/-- Every command ends in a next state. -/
theorem exec_answers (i : Instr) (s : State) : ∃ t, exec i s = .next t := by
  cases i <;> exact ⟨_, rfl⟩

theorem idleTick_keeps (s : State) : Keeps 0x5000000000000000000000000000000000000000000000000000f00ff007e00010000000000000000000000000000000000000000000000000000000700070003000000000000000000000000000000000000000f00db00010001000f0007000f00000000000000000000000000000000000000000000000b0007000300070001000000000000000000000000000000000000000000000000000000000000000001fffefd s (idleTick s) := State.pass_keeps s 2

end Sys2Proof.Machine
end

