-- ==== Sys2Proof/Laws/Frames.lean ====
section
/-! SUPPORT. From what an operation keeps (`Keeps`) to what a command may change (`OnlyChanges`). -/

namespace Sys2Proof.Machine

/-- The bit of a part in a mask. -/
def Piece.bit : Piece → Nat
  | .clk => 1
  | .freeIdx => 2
  | .dram => 3
  | .vault => 4
  | .power => 5
  | .aon => 6
  | .flash => 7
  | .time => 8
  | .evt => 9
  | .sys => 10
  | .hspi => 11
  | .eop => 12
  | .weir => 13
  | .net => 14
  | .integ => 15
  | .update => 16
  | .ingest => 17
  | .disp => 18
  | .coll => 19
  | .quires => 20
  | .strands => 21
  | .light => 22
  | .cal => 23
  | .twin => 24

/-- Blocks of sixteen objects that the dictionary fills. -/
def allBlocks : List Nat :=
  [0x100, 0x110, 0x111, 0x112, 0x120, 0x121, 0x130, 0x131, 0x132, 0x140, 0x141, 0x143, 0x200, 0x201, 0x202, 0x203, 0x210,
   0x211, 0x212, 0x220, 0x221, 0x222, 0x223, 0x230, 0x240, 0x250, 0x251, 0x253, 0x254, 0x256, 0x257, 0x260, 0x261, 0x262,
   0x263, 0x300, 0x301, 0x310, 0x311, 0x312, 0x320, 0x321, 0x322, 0x400, 0x411, 0x412, 0x413, 0x414, 0x415, 0x416, 0x420,
   0x421, 0x422, 0x423, 0x424, 0x425, 0x426, 0x427, 0x430, 0x431, 0x432, 0x433, 0x500, 0x502]

theorem dict_blocks : dict.all (fun e => allBlocks.contains (e.1 / 4096)) = true := by decide +kernel

theorem block_of_objDef {o : Nat} (h : (objDef o).isSome = true) : o / 4096 ∈ allBlocks := by
  unfold objDef at h
  rw [Option.isSome_map] at h
  obtain ⟨e, he⟩ := Option.isSome_iff_exists.mp h
  have h1 := List.all_eq_true.mp dict_blocks e (List.mem_of_find?_eq_some he)
  have h2 := List.find?_some he
  simp only [beq_iff_eq] at h2
  simpa [h2] using h1

/-- What a mask keeps is at least what a touch spares. -/
def Touch.fits (c : Touch) (m : Nat) : Bool :=
  m.testBit 0 && Piece.all.all (fun p => c.parts.contains p || m.testBit p.bit) &&
    (match c.objs with
      | none => true
      | some gs => allBlocks.all (fun g => gs.contains g || m.testBit (32 + g)))

theorem Piece.mem_all (p : Piece) : p ∈ Piece.all := by cases p <;> decide

theorem Keeps.same {m : Nat} {s t : State} (h : Keeps m s t) (p : Piece) (hp : m.testBit p.bit = true) : p.Same s t := by
  cases p
  case clk => exact h.clk_eq hp
  case freeIdx => exact h.freeIdx_eq hp
  case dram => exact h.dram_eq hp
  case vault => exact h.vault_eq hp
  case power => exact h.power_eq hp
  case aon => exact h.aon_eq hp
  case flash => exact h.flash_eq hp
  case time => exact h.time_eq hp
  case evt => exact h.evt_eq hp
  case sys => exact h.sys_eq hp
  case hspi => exact h.hspi_eq hp
  case eop => exact h.eop_eq hp
  case weir => exact h.weir_eq hp
  case net => exact h.net_eq hp
  case integ => exact h.integ_eq hp
  case update => exact h.update_eq hp
  case ingest => exact h.ingest_eq hp
  case disp => exact h.disp_eq hp
  case coll => exact h.coll_eq hp
  case quires => exact h.quires_eq hp
  case strands => exact h.strands_eq hp
  case light => exact h.light_eq hp
  case cal => exact h.cal_eq hp
  case twin => exact h.twin_eq hp

theorem Keeps.onlyChanges {m : Nat} {c : Touch} {s t : State} (h : Keeps m s t) (hc : c.fits m = true) : OnlyChanges c s t := by
  unfold Touch.fits at hc
  rw [Bool.and_eq_true, Bool.and_eq_true, List.all_eq_true] at hc
  obtain ⟨⟨h0, h1⟩, h2⟩ := hc
  have hs : ∀ p : Piece, p ∉ c.parts → p.Same s t := by
    intro p hp
    refine h.same p ?_
    have := h1 p p.mem_all
    simpa [hp] using this
  refine ⟨h.pending_eq h0, hs, ?_, ?_, ?_⟩
  · intro hd a
    unfold State.dramByte
    rw [show t.dram = s.dram from hs .dram hd]
  · intro a ha
    unfold vaultPiece at ha
    unfold State.vaultByte State.ramAt
    split at ha
    case isTrue hc => rw [if_pos hc, if_pos hc, show t.net = s.net from hs .net ha]
    case isFalse hc =>
      rw [if_neg hc, if_neg hc]
      split at ha
      case isTrue hc => rw [if_pos hc, if_pos hc, show t.weir = s.weir from hs .weir ha]
      case isFalse hc =>
        rw [if_neg hc, if_neg hc]
        split at ha
        case isTrue hc => rw [if_pos hc, if_pos hc, show t.ingest = s.ingest from hs .ingest ha]
        case isFalse hc =>
          rw [if_neg hc, if_neg hc]
          exact congrArg (mget · _) (hs .vault ha)
  · rintro o ⟨ho, gs, hg, hn⟩ r
    rw [hg, List.all_eq_true] at h2
    have := h2 _ (block_of_objDef ho)
    refine h.objs o r ?_
    simpa [hn] using this

end Sys2Proof.Machine
end

