-- ==== Sys2Proof/Laws/Effects.lean ====
section
/-! SUPPORT. What the shared operations bring about: an event raised stands and stays, an answer recorded stays, time goes on, and a
write command that passes the checks of R447 has the effect of its object's chapter. -/

namespace Sys2Proof.Machine

/-! ## Events -/

@[simp] theorem raised_raise_self (s : State) (e : Nat) (h : e < 128) : (s.raise e).raised e = true := by
  unfold State.raised State.raise
  simp only [State.notify, State.bump32, State.setFld, State.setRow]
  split <;> simp [h]

theorem raised_raise (s : State) (e a : Nat) (h : s.raised a = true) : (s.raise e).raised a = true := by
  unfold State.raised State.raise at *
  simp only [State.notify, State.bump32, State.setFld, State.setRow]
  split <;> simp [h]

@[simp] theorem raise_lastAnswer (s : State) (e : Nat) : (s.raise e).eop.lastAnswer = s.eop.lastAnswer := by
  unfold State.raise
  simp only [State.notify, State.bump32, State.setFld, State.setRow]
  split <;> rfl

/-- A later state in which the answer and every event raised still stand. -/
structure Later (s t : State) : Prop where
  ans : t.eop.lastAnswer = s.eop.lastAnswer
  evs : ∀ e, s.raised e = true → t.raised e = true

theorem Later.refl (s : State) : Later s s := ⟨rfl, fun _ h => h⟩

theorem Later.trans {s t u : State} (h : Later s t) (k : Later t u) : Later s u :=
  ⟨k.ans.trans h.ans, fun e x => k.evs e (h.evs e x)⟩

theorem Later.raise (s : State) (e : Nat) : Later s (s.raise e) := ⟨raise_lastAnswer s e, fun a => raised_raise s e a⟩

theorem Later.setPort (s : State) (p : Nat) (x : Port) : Later s (s.setPort p x) := ⟨rfl, fun _ h => h⟩

theorem Later.setPortState (s : State) (p n : Nat) : Later s (s.setPortState p n) :=
  Later.trans (t := s.setFld oPortState p 0 n) ⟨rfl, fun _ h => h⟩ (Later.raise _ _)

theorem Later.portTurn (s : State) (p : Nat) : Later s (s.portTurn p) := by
  unfold State.portTurn
  extract_lets w
  split
  · exact (Later.setPort ..).trans (Later.setPortState ..)
  · exact (Later.setPort ..).trans (Later.setPortState ..)
  · split
    · exact Later.refl _
    · exact Later.setPort ..
  · exact Later.refl _

theorem Later.portSettle (s : State) (p : Nat) : Later s (s.portSettle p) := by
  unfold State.portSettle
  split
  · exact Later.refl _
  · exact Later.portTurn s p

theorem Later.foldl {α : Type} {f : State → α → State} (hf : ∀ s a, Later s (f s a)) (l : List α) (s : State) : Later s (l.foldl f s) := by
  induction l generalizing s with
  | nil => exact Later.refl s
  | cons a l ih => exact (hf s a).trans (ih _)

theorem Later.portsSettle (s : State) : Later s s.portsSettle := Later.foldl Later.portSettle _ s

theorem Later.portsTurn (s : State) : Later s s.portsTurn := Later.foldl Later.portTurn _ s

theorem Later.commitIn (s : State) (b : Nat) : Later s (s.commitIn b) := by
  unfold State.commitIn
  split <;> exact ⟨rfl, fun _ h => h⟩

theorem Later.changed (s : State) (o : Nat) : Later s (s.changed o) := by
  unfold State.changed State.touchSettings
  cases s.eop.saveDue <;> exact ⟨rfl, fun _ h => h⟩

/-! ## Write commands -/

/-- What the ports leave alone when they take up their rows, and a record that is committed. -/
abbrev portsMask : Nat := 0x5000000000000000000000000000000000000000000000000000f00ff007e00000000000000000000000000000000000000000000000000000000000700070003000000000000000000000000000000000000000f00db00010001000f0007000f0000000000000000000000000000000000000000000000090007000300070001000000000000000000000000000000000000000000000000000000000000000001ffa5fb

/-- What a write command's state t has of the chapter's answer: all of it but what answering and the ports add. -/
structure Settled (r : WRes) (t : State) : Prop where
  ans : Answers t r.status r.handle
  evs : ∀ e, r.st.raised e = true → t.raised e = true
  keeps : Keeps portsMask r.st t

theorem settled_record {r : WRes} : Settled r r.record.portsSettle where
  ans := (Later.portsSettle _).ans
  evs e h := (Later.portsSettle _).evs e h
  keeps := (State.portsSettle_keeps ..).step (by decide) ((WRes.record_keeps r).weaken (by decide))

theorem Settled.of_later {r : WRes} {u t : State} (h : Settled { status := r.status, handle := r.handle, st := u } t)
    (hl : Later r.st u) (hk : Keeps portsMask r.st u) : Settled r t where
  ans := h.ans
  evs e x := h.evs e (hl.evs e x)
  keeps := Keeps.step h.keeps (by decide) hk

theorem settled_ports {w : Who} {o : Nat} {r : WRes} {t : State} (h : Settled (settlePorts w o r) t) : Settled r t := by
  unfold settlePorts at h
  split at h
  · exact h.of_later (Later.portsTurn _) ((State.portsTurn_keeps _).weaken (by decide))
  · exact h

theorem settled_committed {o : Nat} {r : WRes} {t : State} (h : Settled (r.committed o) t) : Settled r t := by
  unfold WRes.committed at h
  split at h
  · exact h.of_later (Later.commitIn _ _) ((State.commitIn_keeps _ _).weaken (by decide))
  · exact h

theorem settled_kept {d : ObjDef} {o : Nat} {r : WRes} {t : State} (h : Settled (kept d o r) t) : Settled r t := by
  unfold kept at h
  split at h
  · exact h.of_later (Later.changed _ o) ((State.changed_keeps _ o).weaken (by decide))
  · exact h

/-- A write that passes the checks of R447 has its chapter's effect and answer. -/
theorem request_settled {s : State} {w : Origin} {o r : Nat} {v : ObjDef → Option Row} {x : Row} (h : Passes s w o r v x) :
    Settled (hookOf o (Who.of w) r x s) (s.request w o r v) := by
  obtain ⟨hp, hf, ha, hb, d, y, hd, hv, hr, hg, hx⟩ := h
  have e : s.request w o r v = ((settlePorts (Who.of w) o ((kept d o (hookOf o (Who.of w) r x s)).committed o)).record).portsSettle := by
    have ha' : mayWrite d.acc (Who.of w).origin = true := by simpa [hd, Who.of] using ha
    simp only [State.request, hp, hf, State.command, writeObj, writeWith, hd, ha', hb, hv, hr, hg, hx, Bool.not_true, Bool.false_eq_true,
      if_false, Bool.true_or, if_true, Bool.or_false]
  rw [e]
  exact settled_kept (settled_committed (settled_ports settled_record))

/-- The row of a write of a number to an object of one field. -/
theorem passes_num {s : State} {w : Origin} {o r n : Nat} {x : Row} {d : ObjDef} {f : Fld} (h : Passes s w o r (fun d => numRow d n) x)
    (hd : objDef o = some d) (hf : d.flds = [f]) (hro : f.ro = false) : x = [n] := by
  obtain ⟨_, _, _, _, d', y, hd', hv, _, _, hx⟩ := h
  rw [hd] at hd'
  obtain rfl := Option.some.inj hd'
  simp only [numRow] at hv
  split at hv
  · obtain rfl := Option.some.inj hv
    rw [hx, hf]
    simp [mergeRow, hro]
  · contradiction

/-- The row of a write of bytes to an object all of whose fields are written. -/
theorem passes_row {s : State} {w : Origin} {o r : Nat} {bs : List Byte} {x : Row} {d : ObjDef} (h : Passes s w o r (fun d => rowOf d bs) x)
    (hd : objDef o = some d) : bs.length = rowBytes d.flds ∧ x = mergeRow d.flds (s.row o r) (splitFields d.flds bs) := by
  obtain ⟨_, _, _, _, d', y, hd', hv, _, _, hx⟩ := h
  rw [hd] at hd'
  obtain rfl := Option.some.inj hd'
  simp only [rowOf] at hv
  split at hv
  · obtain rfl := Option.some.inj hv
    exact ⟨‹_›, hx⟩
  · contradiction

/-- The same, for an object whose hook is known. -/
theorem request_of {s : State} {w : Origin} {o r : Nat} {v : ObjDef → Option Row} {x : Row} {H : Hook} (h : Passes s w o r v x)
    (hk : hookOf o = H) : Settled (H (Who.of w) r x s) (s.request w o r v) := hk ▸ request_settled h

end Sys2Proof.Machine
end

