-- ==== Sys2Proof/Laws/Hooks.lean ====
section
/-! SUPPORT. What each object's chapter does with a write: the hook of every object that has one. -/

namespace Sys2Proof.Machine

set_option maxRecDepth 8000

theorem hook_111000 : hookOf 0x111000 = writeKey := by rfl

theorem hook_111100 : hookOf 0x111100 = fun _ _ v => writeProvisionKey v := by rfl

theorem hook_112000 : hookOf 0x112000 = fun w _ v => writeSubscribe w v := by rfl

theorem hook_110004 : hookOf 0x110004 = fun _ _ v => writeEopPorts v := by rfl

theorem hook_500000 : hookOf 0x500000 = fun _ _ _ => writeReset := by rfl

theorem hook_500100 : hookOf 0x500100 = fun _ _ v => writeSettingsDefault (v1 v) := by rfl

theorem hook_502000 : hookOf 0x502000 = twinHook (fun _ _ v => writeDemote (v1 v)) := by rfl

theorem hook_502100 : hookOf 0x502100 = twinHook (fun w _ v => writeHandoverAt w (v1 v)) := by rfl

theorem hook_502200 : hookOf 0x502200 = twinHook (fun _ _ v => writeRejoin (v1 v)) := by rfl

theorem hook_130005 : hookOf 0x130005 = fun _ _ v s => done (afterDomainMode (s.setRow oDomainMode 0 v)) := by rfl

theorem hook_130009 : hookOf 0x130009 = fun _ _ v s => done (writeSwitchAt v s) := by rfl

theorem hook_130102 : hookOf 0x130102 = fun _ _ v s => done ((afterDomainEnable 0 (s.setRow 0x130102 0 v)).deviceEvents s) := by rfl

theorem hook_130202 : hookOf 0x130202 = fun _ _ v s => done ((afterDomainEnable 1 (s.setRow 0x130202 0 v)).deviceEvents s) := by rfl

theorem hook_130101 : hookOf 0x130101 = fun _ _ v s => done ((s.setRow 0x130101 0 v).reselect 0) := by rfl

theorem hook_130201 : hookOf 0x130201 = fun _ _ v s => done ((s.setRow 0x130201 0 v).reselect 1) := by rfl

theorem hook_130104 : hookOf 0x130104 = fun _ _ v s => done (((s.setRow 0x130104 0 v).reselect 0).deviceEvents s) := by rfl

theorem hook_130204 : hookOf 0x130204 = fun _ _ v s => done (((s.setRow 0x130204 0 v).reselect 1).deviceEvents s) := by rfl

theorem hook_130103 : hookOf 0x130103 = fun _ _ v s => done ((s.setRow 0x130103 0 v).reselect 0) := by rfl

theorem hook_130203 : hookOf 0x130203 = fun _ _ v s => done ((s.setRow 0x130203 0 v).reselect 1) := by rfl

theorem hook_131000 : hookOf 0x131000 = fun _ => writePulse := by rfl

theorem hook_141000 : hookOf 0x141000 = fun _ => writePort := by rfl

theorem hook_141100 : hookOf 0x141100 = fun _ r v => writePortEnable r (v1 v) := by rfl

theorem hook_141300 : hookOf 0x141300 = hkGrow 0x141300 := by rfl

theorem hook_143000 : hookOf 0x143000 = fun _ => writePoolQueue := by rfl

theorem hook_300200 : hookOf 0x300200 = fun w _ v => writeCancel w (v1 v) := by rfl

theorem hook_310000 : hookOf 0x310000 = fun _ => writeIntegRegion := by rfl

theorem hook_311100 : hookOf 0x311100 = fun _ _ v => writeLogClear (v1 v) := by rfl

theorem hook_320100 : hookOf 0x320100 = fun w _ => writeDownload w := by rfl

theorem hook_320200 : hookOf 0x320200 = fun w _ v => writeVerify w (v1 v) := by rfl

theorem hook_320400 : hookOf 0x320400 = fun _ _ => writePrepare := by rfl

theorem hook_320500 : hookOf 0x320500 = fun _ _ v => writeCommit (v1 v) := by rfl

theorem hook_320600 : hookOf 0x320600 = fun _ _ v => writeAbort (v1 v) := by rfl

theorem hook_320700 : hookOf 0x320700 = fun _ _ v => writeConfirm (v1 v) := by rfl

theorem hook_321000 : hookOf 0x321000 = fun _ => writeSafeLook := by simp [hookOf, hooksA, hooksB]

theorem hook_322100 : hookOf 0x322100 = fun _ _ => writeRetain := by rfl

theorem hook_500200 : hookOf 0x500200 = fun _ _ v => writeStandby (v1 v) := by rfl

theorem hook_500300 : hookOf 0x500300 = fun _ _ v => writeHibernate (v1 v) := by rfl

theorem hook_140000 : hookOf 0x140000 = fun _ => writeFlow := by rfl

theorem hook_140100 : hookOf 0x140100 = fun _ => writeFlowEnableRow := by rfl

theorem hook_200000 : hookOf 0x200000 = fun _ => writeVideo := by rfl

theorem hook_200100 : hookOf 0x200100 = fun _ => writeUniverse := by rfl

theorem hook_201000 : hookOf 0x201000 = fun _ r v => writeFence r (v1 v) := by rfl

theorem hook_202000 : hookOf 0x202000 = fun _ => writeFolio := by rfl

theorem hook_202100 : hookOf 0x202100 = fun _ => writeRing := by rfl

theorem hook_210000 : hookOf 0x210000 = fun _ => writeLayer := by rfl

theorem hook_220000 : hookOf 0x220000 = fun _ => writeTiming := by rfl

theorem hook_220200 : hookOf 0x220200 = fun _ r v => writeHeadEnable r (v1 v) := by rfl

theorem hook_220400 : hookOf 0x220400 = fun _ r v => writeCommitArm r (v1 v) := by rfl

theorem hook_221000 : hookOf 0x221000 = fun _ => writeFreeze := by rfl

theorem hook_222000 : hookOf 0x222000 = fun _ => writeEgress := by rfl

theorem hook_222100 : hookOf 0x222100 = fun _ r v => writeEgressEnable r (v1 v) := by rfl

theorem hook_223000 : hookOf 0x223000 = fun _ => writeWback := by rfl

theorem hook_223100 : hookOf 0x223100 = fun _ r v => writeWbackEnable r (v1 v) := by rfl

theorem hook_230000 : hookOf 0x230000 = fun _ => writeMap := by rfl

theorem hook_240000 : hookOf 0x240000 = fun _ => writeQuire := by rfl

theorem hook_240100 : hookOf 0x240100 = fun _ => writeStrand := by rfl

theorem hook_240200 : hookOf 0x240200 = fun _ r v => writeQuireMode r (v1 v) := by rfl

theorem hook_240400 : hookOf 0x240400 = fun w _ => writeCameg w := by rfl

theorem hook_240500 : hookOf 0x240500 = fun w _ => writeEnumerate w := by rfl

theorem hook_240900 : hookOf 0x240900 = fun _ _ v => writeTeleBase (v1 v) := by simp [hookOf, hooksA, hooksB]

theorem hook_240B00 : hookOf 0x240B00 = fun _ _ v => writeShareBase (v1 v) := by simp [hookOf, hooksA, hooksB]

theorem hook_240C00 : hookOf 0x240C00 = fun _ r v => writeShare r (v1 v) := by simp [hookOf, hooksA, hooksB]

theorem hook_250000 : hookOf 0x250000 = fun _ => writeFade := by rfl

theorem hook_250100 : hookOf 0x250100 = fun _ => writeFadeArm := by rfl

theorem hook_254000 : hookOf 0x254000 = fun _ => writeRegion := by rfl

theorem hook_254400 : hookOf 0x254400 = fun _ r v => writeRegionReset r (v1 v) := by rfl

theorem hook_256000 : hookOf 0x256000 = fun w _ v => writeShortTest w (v1 v) := by rfl

theorem hook_256200 : hookOf 0x256200 = hkGrow 0x256200 := by rfl

theorem hook_257100 : hookOf 0x257100 = fun _ _ v => writeFaultClear (v1 v) := by rfl

theorem hook_260000 : hookOf 0x260000 = fun _ => writeGauge := by rfl

theorem hook_261000 : hookOf 0x261000 = fun _ => writeCalPin := by rfl

theorem hook_262000 : hookOf 0x262000 = fun w _ => writeRefSession w := by rfl

theorem hook_262100 : hookOf 0x262100 = fun _ _ v => writeRefReading (v1 v) := by rfl

theorem hook_262200 : hookOf 0x262200 = fun _ _ v => writeRefCancel (v1 v) := by rfl

theorem hook_262400 : hookOf 0x262400 = fun _ r v => writeGainReset r (v1 v) := by rfl

theorem hook_263100 : hookOf 0x263100 = fun _ _ v => writeCalStoreSave (v1 v) := by rfl

end Sys2Proof.Machine
end

