-- ==== Sys2Proof/Laws/Phase.lean ====
section
/-! SUPPORT. Of the power logic, a Quire's changes touch nothing but the set of pins it drives. -/

namespace Sys2Proof.Machine

/-- The power logic is as it was but for the pins driven since the quench. -/
def SamePower (s t : State) : Prop := ∃ d, t.power = { s.power with driven := d }

theorem SamePower.refl (s : State) : SamePower s s := ⟨_, rfl⟩

theorem SamePower.trans {s t u : State} (h : SamePower s t) (k : SamePower t u) : SamePower s u := by
  obtain ⟨d, h⟩ := h
  obtain ⟨e, k⟩ := k
  exact ⟨e, by rw [k, h]⟩

theorem SamePower.of_eq {s t : State} (h : t.power = s.power) : SamePower s t := ⟨s.power.driven, by rw [h]⟩

theorem SamePower.of_keeps {m : Nat} {s t : State} (h : Keeps m s t) (hm : m.testBit 5 = true) : SamePower s t := .of_eq (h.power_eq hm)

theorem SamePower.service {s t : State} (h : SamePower s t) : t.power.service = s.power.service := by
  obtain ⟨d, h⟩ := h; rw [h]

theorem SamePower.state {s t : State} (h : SamePower s t) : t.power.state = s.power.state := by
  obtain ⟨d, h⟩ := h; rw [h]

theorem SamePower.inReset {s t : State} (h : SamePower s t) : t.power.inReset = s.power.inReset := by
  obtain ⟨d, h⟩ := h; rw [h]

theorem SamePower.dike {s t : State} (h : SamePower s t) : t.power.dikeOverride = s.power.dikeOverride := by
  obtain ⟨d, h⟩ := h; rw [h]

theorem SamePower.foldl {α : Type} {f : State → α → State} (hf : ∀ s a, SamePower s (f s a)) (l : List α) (s : State) :
    SamePower s (l.foldl f s) := by
  induction l generalizing s with
  | nil => exact .refl s
  | cons a l ih => exact (hf s a).trans (ih _)

theorem SamePower.drive (s : State) (q : Nat) : SamePower s (s.driveQuire q) := ⟨_, rfl⟩

theorem SamePower.undrive (s : State) (q : Nat) : SamePower s (s.undriveQuire q) := ⟨_, rfl⟩

theorem SamePower.ite {c : Prop} [Decidable c] {s a b : State} (ha : SamePower s a) (hb : SamePower s b) :
    SamePower s (if c then a else b) := by split <;> assumption

theorem SamePower.setQuire (s : State) (q : Nat) (x : Quire) : SamePower s (s.setQuire q x) := .of_eq rfl

theorem SamePower.quireTo (s : State) (q st : Nat) : SamePower s (s.quireTo q st) := by
  unfold State.quireTo
  extract_lets old s2 s3 x idle s4 s5 s6
  have h2 : SamePower s s2 := .ite (.of_keeps (State.leaveRunning_keeps ..) (by decide)) (.refl _)
  have h3 : SamePower s s3 := .ite (h2.trans (.of_keeps (State.dropRequests_keeps ..) (by decide))) h2
  have h4 : SamePower s s4 := h3.trans (.of_eq rfl)
  have h5 : SamePower s s5 := h4.trans (.of_keeps (State.setQuireState_keeps ..) (by decide))
  have h6 : SamePower s s6 :=
    .ite (((SamePower.ite h5 (h5.trans (.drive ..))).trans (.of_keeps (State.clearBoth_keeps ..) (by decide))).trans
      (.of_keeps (State.bindFrames_keeps ..) (by decide))) h5
  exact .ite ((h6.trans (.of_keeps (State.drainCheck_keeps ..) (by decide))).trans (.of_keeps (State.applyTaps_keeps ..) (by decide))) h6

theorem SamePower.quireStart (s : State) (q : Nat) : SamePower s (s.quireStart q) := by
  unfold State.quireStart
  extract_lets k s1
  exact ((SamePower.of_keeps (State.setRunPending_keeps ..) (by decide)).trans (.quireTo _ q 1)).trans (.of_eq rfl)

theorem SamePower.quireRun (s : State) (q : Nat) (w : Bool) : SamePower s (s.quireRun q w).2 := by
  unfold State.quireRun
  extract_lets hs s1 s2 s3
  have h1 : SamePower s s1 := .of_keeps (State.setRunPending_keeps ..) (by decide)
  have h2 : SamePower s s2 := .of_keeps (State.setRunPending_keeps ..) (by decide)
  have h3 : SamePower s s3 := .ite (h2.trans (.quireTo ..)) h2
  split
  · exact .refl s
  split
  · exact .ite (h1.trans (.quireTo ..)) h1
  split
  · exact .quireStart s q
  split
  · exact .refl s
  · exact h3.trans (.of_keeps (State.quireSum_keeps ..) (by decide))

theorem SamePower.quireDrain (s : State) (q n : Nat) : SamePower s (s.quireDrain q n) := by
  have h : ∀ x : Quire, SamePower s ((s.setQuire q x).quireTo q 4) := fun x => (SamePower.setQuire s q x).trans (.quireTo _ q 4)
  have k : SamePower s (s.quireTo q n) := .quireTo s q n
  unfold State.quireDrain
  extract_lets x
  refine .ite ?_ (.ite (h _) k)
  split
  · exact .ite (h _) (.ite (h _) k)
  · exact .ite (h _) k

theorem SamePower.quireModeTo (s : State) (q m : Nat) (w : Bool) : SamePower s (s.quireModeTo q m w).2 := by
  unfold State.quireModeTo
  extract_lets st y s1
  have h1 : SamePower s s1 := .of_keeps (State.setRunPending_keeps ..) (by decide)
  split
  · exact .setQuire ..
  split
  · exact .quireRun s q w
  split
  · exact .ite (h1.trans (.quireTo ..)) (.ite (h1.trans (.quireDrain ..)) h1)
  · exact .ite (h1.trans (.quireTo ..)) (.ite (h1.trans (.quireDrain ..)) h1)

theorem SamePower.loadQuireModes (s : State) : SamePower s s.loadQuireModes := .foldl (fun s q => .quireModeTo s q _ false) _ s

theorem SamePower.safeStrand (s : State) (st : Nat) : SamePower s (s.safeStrand st) :=
  .foldl (f := fun u f => (u.putFrame st f).drawNat.2) (fun _ _ => .of_eq rfl) _ s

theorem SamePower.safeLookSteps (s : State) (q : Nat) : SamePower s (s.safeLookSteps q) := by
  have h : ∀ u, SamePower u ((u.bump oQuireCnt q 2).add oQuireCnt q 1 2) := fun u => .of_eq rfl
  unfold State.safeLookSteps
  exact .ite (.refl s) (((SamePower.foldl SamePower.safeStrand _ s).trans (h _)).trans (.drive _ q))

theorem SamePower.bermQuench (s : State) : SamePower s s.bermQuench := by
  unfold State.bermQuench
  extract_lets old new y s1
  have h1 : SamePower s s1 := .of_eq rfl
  split
  · exact h1.trans (.foldl (fun s q => .ite (.refl s) (.undrive s q)) _ _)
  split
  · exact h1.trans (.foldl SamePower.safeLookSteps _ _)
  · exact h1

theorem SamePower.bermQuire (s : State) (q : Nat) : SamePower s (s.bermQuire q) := by
  unfold State.bermQuire
  extract_lets k y s1
  have h1 : SamePower s s1 := (SamePower.setQuire ..).trans (.of_keeps (State.setQuireState_keeps ..) (by decide))
  exact .ite (.refl s) (.ite h1 (h1.trans (.safeLookSteps ..)))

end Sys2Proof.Machine
end

