-- ==== Sys2Proof/WellFormed.lean ====
section
/-! DEFINITION. Well-formed commands: operands that name a port, head, Quire, strand, row, session or slot the block has, and messages
whose header fields fit their bits. A command that is not well formed names nothing and has no effect; no meaning depends on it. -/

namespace Sys2Proof

/-- A port: T0, T1, C0, C1. -/
def portOk (p : Nat) : Bool := decide (p < 4)

/-- A head, a PTP domain or a protected memory: two of each. -/
def headOk (h : Nat) : Bool := decide (h < 2)

/-- A byte. -/
def byteOk (n : Nat) : Bool := decide (n < 256)

/-- A Quire. -/
def quireOk (q : Nat) : Bool := decide (q < 16)

/-- The header fields of a message fit their bits (R452). -/
def EopMsg.wf (m : EopMsg) : Bool :=
  portOk m.port && decide (m.srcMac < 2 ^ 48) && decide (m.vid < 2 ^ 16) && decide (m.srcIp < 2 ^ 32) && decide (m.srcUdp < 2 ^ 16) &&
    decide (m.magic < 2 ^ 16) && decide (m.version < 256) && decide (m.flags < 2 ^ 16) && decide (m.session < 2 ^ 16) &&
    decide (m.id < 2 ^ 32) && decide (m.counter < 2 ^ 64) && decide (m.length < 2 ^ 16) && decide (m.keySlot < 256) && decide (m.reserved < 256)

/-- A TDC reading: 256 edges over the 128 bins (R352, R353). -/
def tdcOk (r : TdcReading) : Bool := decide (r.hits.length ≤ 128) && r.hits.sum == 256

/-- What a calibration pass measures on a pin (R353). -/
def pinOk (m : PinMeasure) : Bool := decide (m.pin < 256) && tdcOk m.d0Rise && tdcOk m.d63Rise && tdcOk m.d0Fall && tdcOk m.d63Fall

/-- A command is well formed. -/
def Instr.wf : Instr → Bool
  | .powerOn _ _ => true
  | .pinReset _ => true
  | .watchdogWarn => true
  | .watchdogExpiry => true
  | .resetAssert => true
  | .resetRelease => true
  | .railStartTimeout => true
  | .bermService => true
  | .dramState _ _ _ => true
  | .serviceStart => true
  | .vaonLoss => true
  | .railWarning rail => decide (rail < 9)
  | .brownout rail => decide (rail < 9)
  | .clock kind => decide (kind < 4)
  | .standby _ _ => true
  | .hibernate seconds _ => decide (seconds < 2 ^ 32)
  | .powerEntry => true
  | .wake => true
  | .wakeTimer => true
  | .wakePatternMatch _ _ => true
  | .reset _ _ => true
  | .aonReset k _ => decide (k < 256)
  | .sync dom rx _ _ _ _ _ _ => byteOk dom && portOk rx.port
  | .followUp dom rx _ _ _ _ _ => byteOk dom && portOk rx.port
  | .announce dom rx _ _ => byteOk dom && portOk rx.port
  | .delayResp dom rx _ _ _ => byteOk dom && portOk rx.port
  | .delayReqSend dom => headOk dom
  | .syncMissed dom => headOk dom
  | .announceTimeout dom port => headOk dom && portOk port
  | .holdoverExpiry dom => headOk dom
  | .domainRevert => true
  | .switchAt _ _ => true
  | .timedSwitch => true
  | .snapGo _ _ => true
  | .pulse row _ _ => decide (row < 8)
  | .pulseEdge row => decide (row < 8)
  | .tsiEdge input _ frac _ _ => portOk input && decide (frac < 65536)
  | .read m => m.wf
  | .write m => m.wf
  | .readRow m => m.wf
  | .writeRow m => m.wf
  | .exec m => m.wf
  | .submit m => m.wf
  | .cancel m => m.wf
  | .hello m => m.wf
  | .heartbeat m => m.wf
  | .imageBlock m => m.wf
  | .sessionIdleTimeout slot => decide (slot < 64)
  | .eventSend slot => decide (slot < 64)
  | .checkpointStore slot _ => decide (slot < 8)
  | .settingsSave _ => true
  | .settingsDefault _ _ => true
  | .provisionKey k _ => k.length == 32
  | .key row _ _ _ => decide (row < 8)
  | .eventSubscribe _ _ => true
  | .hostDoorbellGo _ => true
  | .readBurst _ _ => true
  | .writeBurst _ _ => true
  | .hspiStatus => true
  | .unknownOpcode op => op.all (fun n => !(n == 0xA1 || n == 0xA2 || n == 0xA5) && decide (n < 256))
  | .lateFetchDone => true
  | .registerWrite _ _ _ => true
  | .maskedWrite _ _ _ => true
  | .wolWrite _ _ _ => true
  | .counterLoRead _ _ => true
  | .culvAddrWrite _ block _ => decide (block < 32)
  | .culvDataRead _ block => decide (block < 32)
  | .culvDataWrite _ block _ => decide (block < 32)
  | .causeClear _ bank _ => portOk bank
  | .sumClear _ quire _ => quireOk quire
  | .sysFaultClear _ _ => true
  | .eventTest _ _ => true
  | .cqPop _ _ => true
  | .clearOverflow _ _ => true
  | .frameReceive port _ => portOk port
  | .frameTransmit port => portOk port
  | .linkChange port _ _ => portOk port
  | .pauseFrame port _ _ => portOk port
  | .pauseWindowEnd port => portOk port
  | .pauseRepeat port => portOk port
  | .arpRequest port _ _ _ _ => portOk port
  | .portEnable port _ _ => portOk port
  | .portDrainDone port => portOk port
  | .ringProbeSend => true
  | .ringProbe _ _ => true
  | .ringProbeTimeout => true
  | .flowEnable row _ _ => decide (row < 4096)
  | .flowDrainDone row => decide (row < 4096)
  | .fence f _ _ => decide (f < 256)
  | .videoPacket row p => decide (row < 4096) && decide (p.seq < 2 ^ 32) && decide (p.timestamp < 2 ^ 32)
  | .arrivalWindowEnd row => decide (row < 4096)
  | .fenceAdvance row => decide (row < 4096)
  | .sacnData row p => decide (row < 4096) && decide (p.slots.length ≤ 512)
  | .sacnSync row _ _ _ _ => decide (row < 4096)
  | .sourceTimeout row _ => decide (row < 256)
  | .syncTimeout _ => true
  | .headEnable head _ _ => headOk head
  | .headDrainDone head => headOk head
  | .commitArm head _ _ => headOk head
  | .cutLine head => headOk head
  | .vblankStart head => headOk head
  | .lineZero head => headOk head
  | .lineMatch head _ => headOk head
  | .underrun head _ _ => headOk head
  | .egressEnable head _ _ => headOk head
  | .egressPacket head _ _ => headOk head
  | .writebackEnable head _ _ => headOk head
  | .writebackDone head => headOk head
  | .collateEntry head => headOk head
  | .sampleLate head => headOk head
  | .quireMode quire _ _ => quireOk quire
  | .quireDrainDone quire => quireOk quire
  | .quireLatch quire => quireOk quire
  | .frameStart strand => decide (strand < 256)
  | .returnRecord strand _ _ => decide (strand < 256)
  | .returnWindowEnd quire => quireOk quire
  | .camegCommand _ _ => true
  | .enumerate _ _ => true
  | .camegRequestDone quire => quireOk quire
  | .fade row _ _ => decide (row < 256)
  | .fadeArm row _ => decide (row < 256)
  | .fadeStop row _ => decide (row < 256)
  | .fadeStart row => decide (row < 256)
  | .fadeEnd row => decide (row < 256)
  | .gaugeSample codes _ => codes.all (fun c => decide (c.channel < 48))
  | .shortTest _ _ => true
  | .shortTestDone _ _ => true
  | .faultClear _ _ => true
  | .regionReset row _ _ => decide (row < 256)
  | .reftPresence _ => true
  | .reftMeasurement => true
  | .reftMeasurementDone _ bins => bins.length == 128 && bins.sum == 65536
  | .calibrationPass quire pins => quireOk quire && pins.all pinOk
  | .tapApply quire => quireOk quire
  | .refSession _ _ => true
  | .refReading _ _ => true
  | .refCancel _ _ => true
  | .refSessionEnd => true
  | .refSessionTimeout => true
  | .sensorGainReset row _ _ => decide (row < 288)
  | .calStoreSave _ _ => true
  | .calStoreWrite _ => true
  | .beatSend => true
  | .dikeBeat _ bytes => decide (0 < bytes.length)
  | .heartbeatSend => true
  | .dikeDropped => true
  | .dikeDown => true
  | .dikeBeatTimeout => true
  | .chainTimeout => true
  | .partnerOut => true
  | .joinTimeout => true
  | .holdElapsed => true
  | .revertReq => true
  | .handover => true
  | .handoverWithdraw => true
  | .demote _ _ => true
  | .handoverAt _ _ => true
  | .rejoin _ _ => true
  | .taskReady slot => decide (slot < 1024)
  | .taskDispatch cls => decide (cls < 8)
  | .taskDeadline slot => decide (slot < 1024)
  | .taskComplete slot _ => decide (slot < 1024)
  | .scrubVisit mem _ _ => headOk mem
  | .pageDecode mem _ _ _ _ => headOk mem
  | .logClear _ _ => true
  | .arbitrationWindow _ _ => true
  | .download _ _ => true
  | .eraseDone _ => true
  | .blockProgramDone block _ => decide (block < 65536)
  | .transferTimeout => true
  | .verify _ _ => true
  | .verifyDone => true
  | .prepare _ _ => true
  | .commit _ _ => true
  | .abort _ _ => true
  | .confirm _ _ => true
  | .activation => true
  | .deferredActivation => true
  | .trialTimeout => true
  | .confirmHoldElapsed => true
  | .frameDone head => headOk head
  | .postedWriteDone => true
  | .refreshRateChange rate => decide (rate < 3)
  | .noSlotVerifies => true

end Sys2Proof
end

