-- ==== Sys2Proof/Tests/Slice0.lean ====
section
/-! SUPPORT. Tests: for every clause of every statement a state and operands that meet all its hypotheses together, the values the spec
states, and the ill-formed commands that `Instr.wf` refuses. -/

namespace Sys2Proof.Tests
open Sys2Proof.Machine
set_option linter.unusedVariables false
set_option Elab.async false

/-- Whether a write passes, as a computation. -/
def passes (s : State) (w : Origin) (o r : Nat) (v : ObjDef → Option Row) (x : Row) : Bool :=
  s.hspiPowered && s.full && mayWrite ((objDef o).elim .ro ObjDef.acc) w && !barred (Who.of w) o r &&
  match objDef o with
  | none => false
  | some d => match v d with
    | none => false
    | some y => rowInRange d.flds y && growOk s d o r && x == mergeRow d.flds (s.row o r) y

theorem passes_of {s : State} {w : Origin} {o r : Nat} {v : ObjDef → Option Row} {x : Row} (h : passes s w o r v x = true) :
    Passes s w o r v x := by
  simp only [passes, Bool.and_eq_true, Bool.not_eq_true'] at h
  obtain ⟨⟨⟨⟨h1, h2⟩, h3⟩, h4⟩, h5⟩ := h
  refine ⟨h1, h2, h3, h4, ?_⟩
  split at h5
  · cases h5
  · rename_i d hd
    split at h5
    · cases h5
    · rename_i y hy
      simp only [Bool.and_eq_true, beq_iff_eq] at h5
      exact ⟨d, y, hd, hy, h5.1.1, h5.1.2, h5.2⟩

/-- A node in full service, in the state after reset otherwise. -/
def full : State :=
  { State.reset with power := { State.reset.power with state := .run, service := .full, inReset := false },
                     hspi := { State.reset.hspi with ready := true } }

/-- A node in Berm service, in the state after reset otherwise. -/
def berm : State := { State.reset with power := { State.reset.power with service := .berm }, hspi := { State.reset.hspi with ready := true } }

/-- A node asleep in HIBERNATE, which its timer wakes. -/
def asleep : State := { full with power := { full.power with state := .hibernate, pwrEn := false, wakeTimer := some 5000 } }

/-- A node on its way to sleep. -/
def entering (e : Entry) : State := { full with power := { full.power with entry := some e } }

/-- A node that its reset has been asked of. -/
def asked : State := { full with power := { full.power with recording := true, requested := true }, clk := { full.clk with elapsed := 10 } }

/-- A node held in reset. -/
def held : State := { full with power := { full.power with inReset := true, recording := true } }

/-- DRAM of 4 GiB, trained. -/
def trained (s : State) : State := { s with integ := { s.integ with training := 2, gib := 4, channels := 15 } }

/-- Servo A takes messages of its domain from port 0 over UDP, and servo B those of domain 1. -/
def timed (st : Nat) : State :=
  ((((full.setVal (oDomain 0 6) st).setVal (oDomain 0 3) 15).setVal (oDomain 0 4) 3).setVal (oDomain 0 0x0B) 0).setVal (oDomain 1 6) 0

/-- A servo A whose fields are x, in state st. -/
def served (st : Nat) (x : Servo) : State := (timed st).setServo 0 x

def anAnnounce : Announce :=
  { priority1 := 128, clockClass := 6, accuracy := 0x21, variance := 100, priority2 := 128, gm := 77, stepsRemoved := 0, sender := 5,
    logSync := -3, logAnnounce := 0 }

/-- Output 0 in state st with row v in force. -/
def pulsing (st : Nat) (v : Row) (active : Bool) : State :=
  (full.setRow oPulse 0 (rput v 7 st)).setPulse 0 { Pulse.init with row := v, active := active }

/-- A message of session 64 (slot 0, generation 1) on port C0, open. -/
def aMsg (payload : List Byte) : EopMsg :=
  { port := 2, at_ := 0, srcMac := 1, vid := 0xFFFF, srcIp := 9, srcUdp := 10, broadcast := false, magic := 0x454F, version := 1, flags := 0,
    session := 64, id := 3, counter := 0, length := payload.length, keySlot := 0, reserved := 0, payload := payload, tag := [] }

/-- One sealed with key slot 1 and a given tag. -/
def sealedMsg (tag : List Byte) : EopMsg := { aMsg [] with flags := 2, keySlot := 1, tag := tag }

/-- A HELLO of the same sender. -/
def aHello : EopMsg := { aMsg (List.replicate 8 0) with session := 0xFFFF }

/-- Ports C0 and T0 enabled with their links up. -/
def linked (s : State) : State :=
  (((s.setFld oPortState 2 0 1).setFld oPortState 2 1 1).setFld oPortState 0 0 1).setFld oPortState 0 1 1

def aSession : Session :=
  { Session.closed with open_ := true, slot := 0xFF, gen := 1, ip := 9, udp := 10 }

/-- Session 0 open for the sender of `aMsg`. -/
def talking : State := (linked full).setSession 0 aSession

/-- Every session open. -/
def crowded : State :=
  { linked full with eop := { full.eop with sessions := (List.range 64).map (fun i => (i, aSession)) } }

/-- The state that step 6 of R454 finds for an open message. -/
def after (m : EopMsg) (s : State) : State := (s.advanceTo m.at_).eopCount 0

/-- The state that step 7 finds for one of session 0. -/
def onZero (m : EopMsg) (s : State) : State := (after m s).setSession 0 (((after m s).session 0).heard m (after m s).now)

theorem passes5_of {s : State} {op : Nat} {m : EopMsg} (h : (s.eopHears m && !eopMalformed op m && !s.eop.hostBusy && !isSealed m) = true) :
    Passes5 s op m (after m s) := by
  simp only [Bool.and_eq_true, Bool.not_eq_true'] at h
  exact ⟨h.1.1.1, h.1.1.2, h.1.2, Or.inl ⟨h.2, rfl⟩⟩

theorem onSession_of {s : State} {op : Nat} {m : EopMsg} (h : (s.eopHears m && !eopMalformed op m && !s.eop.hostBusy && !isSealed m) = true)
    (h1 : m.session % 64 = 0 ∧ (after m s).sessionLive 0 = true ∧ ((after m s).session 0).sid 0 = m.session ∧
      ((after m s).session 0).ip = m.srcIp ∧ ((after m s).session 0).udp = m.srcUdp ∧ ((after m s).session 0).slot = msgKind m) :
    OnSession s op m 0 (onZero m s) :=
  ⟨h1.1, after m s, passes5_of h, h1.2.1, h1.2.2.1, h1.2.2.2.1, h1.2.2.2.2.1, h1.2.2.2.2.2, rfl⟩

/-- Key slot 1 filled. -/
def keyed : State := { linked full with flash := { full.flash with keys := [(1, { key := List.replicate 32 7#8, rxK := 0, txK := 0 })] } }

/-- DRAM in service, with the aperture open. -/
def mapped : State := trained full

/-- All four ports enabled with their links up. -/
def cabled (s : State) : State :=
  [0, 1, 2, 3].foldl (fun (t : State) p => (t.setFld oPortState p 0 1).setFld oPortState p 1 1) s

def aFrame (dst src et n : Nat) : EthFrame :=
  { at_ := 0, bytes := beBytes 6 dst ++ beBytes 6 src ++ beBytes 2 et ++ List.replicate n 0, fcsOk := true, symbolOk := true }

/-- A UDP datagram of four bytes to the EOP port of 0.0.0.9. -/
def aDatagram : EthFrame :=
  { at_ := 0, fcsOk := true, symbolOk := true,
    bytes := beBytes 6 bcast ++ beBytes 6 4 ++ beBytes 2 0x0800 ++ beBytes 4 0x45000020 ++ beBytes 4 0 ++ beBytes 4 (0x40110000 + 31424) ++
      beBytes 4 5 ++ beBytes 4 9 ++ beBytes 4 48120 ++ beBytes 4 0x000C0000 ++ List.replicate 18 0 }

/-- Port 0 carries frames of up to 1518 bytes. -/
def framed (s : State) : State := s.setPort 0 { Port.init with maxFrame := 1518 }

/-- Flow 8 of a type enabled on every port, with queue 100. -/
def flowing (ty : Nat) : State :=
  ((((cabled mapped).setRow oFlow 8 [ty, 15, 0xFFFF, 0x9999, 0, 0, 0, 100, 0]).setFlowState 8 1 false).setRow oVideo 0
    [16, 16, 1, 0, 0, 0xFF, 0, 1, 60, 5000, 0]).setRow oFolio 0 [4096, 64, 16, 16, 5, 0xFF]

/-- A packet of one line of 16 pixels. -/
def aPacket (seq line : Nat) (marker : Bool) : VideoPacket :=
  { at_ := 0, version := 2, payloadType := 96, marker := marker, timestamp := 90, seq := seq,
    srds := [{ length := 48, field := false, line := line, offset := 0 }], data := List.replicate 48 1, aborted := false }

/-- A frame whose last line alone is missing. -/
def aVFrame : VFrame :=
  { ts := 90, firstAt := 0, lastAt := 0, seqs := [1], marker := none, entry := some 0, pixels := 240 }

def aSacn (cid seq : Nat) : SacnPacket :=
  { at_ := 0, rootVector := 4, framingVector := 2, dmpVector := 2, addrType := 0xA1, firstAddr := 0, increment := 1, propCount := 4,
    startCode := 0, priority := 100, preview := false, terminated := false, forceSync := false, syncAddr := 0, seq := seq, cid := cid, uni := 1,
    slots := [1, 2, 3] }

def aSource (cid : Nat) : Source := { cid := cid, prio := 100, seq := 9, last := 0 }

/-- Universe 0 hears the sources given. -/
def hearing (xs : List Source) : State := (flowing 2).setUni 0 { Universe_.init with sources := xs }

/-- An ARP frame to be sent. -/
def anArp : TxFrame :=
  { kind := .arp, dstMac := 2, dstIp := 0, dstUdp := 0, vid := 0xFFFF, pcp := 0, bytes := List.replicate 46 0 }

/-- It waits in queue q. -/
def sending (q : Nat) : State :=
  (cabled full).setQueue q
    [{ cells := 1, place := [5], bytes := [], tx := some anArp, flow := 0, rxAt := 0, aborted := false }]

/-- Ports C0 and C1 relay. -/
def relaying : State := ((cabled full).setFld oPort 2 12 1).setFld oPort 3 12 1

def relayHead (y : Nat) : Head16 := readHead (aFrame y y 0x9999 60).bytes (relaying.fld oPort 2 6)

/-- The owner of a ring. -/
def owner : State := (cabled full).setVal 0x141400 1

/-- An owner that has heard its probe at 5 ns. -/
def probed : State := { owner with net := { owner.net with ring := { last := some 5, firstRun := some 5, seq := 1, nextSend := 10000000 } } }

/-- Of five addresses one at least is none of the node's own. -/
theorem other_mac : ∃ x, x ∈ [2, 4, 6, 8, 10] ∧ ownMac x = false := by
  refine Classical.byContradiction fun h => ?_
  have g : ∀ x, x ∈ [2, 4, 6, 8, 10] → ownMac x = true := fun x hx => by
    cases e : ownMac x
    · exact absurd ⟨x, hx, e⟩ h
    · rfl
  have g2 := g 2 (by decide)
  have g4 := g 4 (by decide)
  have g6 := g 6 (by decide)
  have g8 := g 8 (by decide)
  have g10 := g 10 (by decide)
  simp only [ownMac, List.any_cons, List.any_nil, Bool.or_false, Bool.or_eq_true, beq_iff_eq] at g2 g4 g6 g8 g10
  omega

/-- Head 0 in state st, with the fields x. -/
def heading (st : Nat) (x : Head) : State := (mapped.setFld oHeadState 0 0 st).setHead 0 x

/-- A commit as arming makes it, armed at the start of time. -/
def aCommit : Commit := full.makeCommit 0 none

/-- The staged row of layer 0 on head 0, waiting for fence 3 to reach 5. -/
def aLayer : Row := rput (rput (rput (full.row oLayerStaged 0) 0 1) 6 3) 7 5

/-- A head scanning, its next blanking at 15 ms. -/
def scanned : Head := { Head.init with blank := 45, nextBlank := 15000000 }

/-- Quire 0 enabled, in RUNNING. -/
def running (s : State) : State := s.setFld oQuireState 0 0 3

/-- An egress of a small picture, enabled on head 0. -/
def egressing (st : Nat) (e : Egress) : State :=
  (((cabled (heading 2 { scanned with egress := e })).setRow oEgress 0
    [0, 0, 0, 4, 2, 0, 0, 2, 203, 7, 0xEF010101, 5004, 5004, 0xFFFF, 5, 34, 5, 96, 0, 0]).setFld oEgressState 0 0 st)

/-- A writeback of head 0 in state st: ring 0 has the two Folios 1 and 2, of fence 5. -/
def capturing (st : Nat) (w : Writeback) : State :=
  ((((heading 2 { scanned with wback := w }).setRow oFolio 1 [0x1000, 64, 16, 2, 5, 5]).setRow oFolio 2 [0x2000, 64, 16, 2, 5, 5]).setRow
    oRing 0 [2, 1, 2, 0, 0]).setFld oWbackState 0 0 st

/-- A frame that fills quire 0 for latch 5. -/
def aColl : CollFrame :=
  { frame := 1, zeroAt := 0, blankAt := 15000000,
    snap := { masters := [], matrices := [], witness := [], layouts := [], luts := [], slots := [] }, cursor := 0, runMax := 0, window := [], raster := full.timing 0, line := 40000 / 3,
    mapFault := false, calFault := false, late := false, clips := 0, clipped := false, underrun := false, unlocked := false,
    quires := [(0, 5)], done := false }

/-- A map of one entry of a kind: pixel (10, 10), strand 0, offset 0. -/
def mappedAt (kind n : Nat) (f : CollFrame) : State :=
  (((running (heading 2 scanned)).setRow oMapActive 0 [0x1000, 0x2000, n]).dramPut 0x1000 (leBytes 4 (kind * 2 ^ 30 + 10 * 8192 + 10))).setColl 0
    { Coll.init with frame := some f }

/-- Whether the next host task takes handle h, as a computation. -/
def takes (s : State) (h : Nat) : Bool :=
  match s.weir.takeSlot with
  | some (a, _) => decide (a < 1024) && decide (h = nextGen ((s.task a).handle / 1024) * 1024 + a)
  | none => false

theorem newHandle_of {s : State} {h : Nat} (e : takes s h = true) : NewHandle s h := by
  unfold takes at e
  split at e
  · rename_i a w ha
    rw [Bool.and_eq_true] at e
    exact ⟨a, w, ha, of_decide_eq_true e.1, of_decide_eq_true e.2⟩
  · cases e

/-- Quire 0 in state st, with the fields x: strand 0 is its only one in use, head 0 its head. -/
def quired (st : Nat) (x : Quire) : State :=
  (((heading 2 scanned).setRow oQuire 0 [0, 1, 0, 0, 1, 1, 0xB4, 1]).setFld oQuireState 0 0 st).setQuire 0 x

/-- Task 64 is live, with handle 1088. -/
def tasked (s : State) : State := s.setTask 64 { Task.init with handle := 1088, state := 3, createdBy := 0xFE }

/-- The request of task 1088 to strand 0. -/
def aRequest : Request := { Request.fresh 1088 1 with sent := true, opcode := 4 }

/-- A record of driver 0 with its CRC-8. -/
def aRecord (type value : Nat) : BitVec 40 :=
  let v := type * 2 ^ 15 + value
  BitVec.ofNat 40 (v * 256 + crc8 (beBytes 4 v))

/-- The window of latch 1 of quire 0 is open. -/
def windowed : State :=
  (quired 3 { Quire.init with nextK := some 2, window := some (1, true), inFrame := true }).setStrand 0 { Strand.init with sentK := some 1 }

/-- A fade of target (kind, i) from 100 to 200, that starts at an instant and lasts some milliseconds. -/
def aFade (kind i start dur : Nat) : Row := [kind, i, 0, 0, 100, 200, nsPt start, dur, 1]

/-- Fade unit f in state st with the fields x. -/
def faded (f st : Nat) (x : Fade) (s : State) : State := (s.setFadeStatus f st 0).setFade f x

/-- A unit with a row, and the task 1088. -/
def aUnit (v : Row) : Fade := { Fade.init with row := v, task := some 1088 }

/-- Gauge channel 3 of a type. -/
def gauging (type : Nat) (x : GaugeCh) : State := (full.setRow oGauge 3 (rput (full.row oGauge 3) 0 type)).setGaugeCh 3 x

/-- A node whose CAL block has the fields x. -/
def calibrated (x : Cal) : State := { quired 2 Quire.init with cal := x }

/-- A session on Gauge channel 3: by a reference (mode 0) or by a meter (mode 1), with a reference value. -/
def aSessionRow (mode ref : Nat) : Row := [mode, 0, 3, 0, toF32 (ref : Rat), 7, 0, 100]

def aRef (mode ref : Nat) : RefSession :=
  { row := aSessionRow mode ref, handle := 1088, startAt := 0, sum := 4, count := 4, fault := false, reading := none, ended := false }

/-- It runs. -/
def measuring (y : RefSession) : State := tasked { gauging 1 GaugeCh.init with cal := { Cal.init with session := some y } }

/-- The image in slot B runs on trial; its calibration format is 5, that of slot A 0. -/
def trialing (s : State) : State :=
  { s with flash := { s.flash with slotA := .empty, slotB := .blocks 1 [(0, List.replicate 17 0#8 ++ [5#8] ++ List.replicate 1006 0#8)] }
           update := { s.update with running := 1, trial := 1 } }

/-- Tap 63 comes 63 times 40 ps after tap 0. -/
def aPin : PinMeasure :=
  { pin := 0, d0Rise := ⟨0, [1]⟩, d63Rise := ⟨2, [1]⟩, d0Fall := ⟨0, [1]⟩, d63Fall := ⟨2, [1]⟩, thr := [], phase := [] }

/-- A twin in state st whose partner is node 9, with the twin fields x. -/
def twins (st : Nat) (x : Twin) : State := (((cabled full).setVal 0x121001 1).setVal 0x121002 9 |>.setFld oTwin 0 0 st).setTwin x

/-- The first 148 bytes of a beat of node 9 in a state, of rank 3. -/
def beatBody (state : Nat) : List Byte := [1#8, 9#8, BitVec.ofNat 8 state, 0#8, 3#8, 0#8] ++ List.replicate 142 0#8

def aBeat (state : Nat) : List Byte := beatBody state ++ beBytes 4 (crc32c (beatBody state))

/-- A task of a class with parameters, READY in slot 64. -/
def aTask (cls prio : Nat) (params : List Byte) : Task :=
  { Task.init with handle := 1088, state := 2, cls := cls, prio := prio, createdBy := 0xFE, params := params }

/-- A core's run of a task of priority 0 in slot 65 + i. -/
def aRun (i : Nat) : CoreRun := { handle := 1089 + i, prio := 0, since := 0, order := 0 }

/-- Task 1088 runs on core 0. -/
def onCore (params : List Byte) : State :=
  let s := full.setTask 64 { aTask 0 0 params with state := 3 }
  { s with weir := { s.weir with cores := [(0, { aRun 0 with handle := 1088 })] } }

/-- Every core that takes host tasks is busy. -/
def busyCores (t : Task) : State :=
  let s := (full.setTask 64 t).setTask 65 { aTask 0 0 [] with handle := 1089, state := 3, dispatched := true }
  { s with weir := { s.weir with cores := (List.range 5).map (fun i => (i, aRun i)) } }

/-- A graph of one task that does nothing. -/
def aGraph : List Byte := [1#8, 1#8, 0#8, 0#8, 0#8, 0#8, 0#8, 0#8] ++ List.replicate 48 0#8

/-- A transfer of id 7, of two blocks, that runs under task 1088. -/
def aTransfer : Transfer :=
  { id := 7, blocks := 2, relay := false, held := [], programming := [], partials := [], last := 0, handle := 1088 }

/-- The update block in a state, with a transfer. -/
def updating (st : Nat) (x : Option Transfer) : State :=
  tasked { (linked full) with update := { full.update with state := st, transfer := x } }

/-- Fragment k of block b of transfer 7, all zeros, with a SHA-256. -/
def aFragment (b k : Nat) (sha : List Byte) : EopMsg :=
  { aMsg (beBytes 4 7 ++ beBytes 2 b ++ beBytes 1 k ++ beBytes 1 0 ++ sha ++ List.replicate 1024 0#8) with session := 0xFFFF }

def zeroSha : List Byte := List.replicate 32 0#8

/-- Three fragments of a block. -/
def threeFragments : Tbl (List Byte) := (List.range 3).map (fun k => (k, List.replicate 1024 0#8))

/-- Their block's SHA-256 when the fourth is zeros too. -/
def blockSha : List Byte := sha256 (List.replicate 4096 0#8)

/-- A trial that runs, with what the tests of it need. -/
def onTrial : State := { full with update := { full.update with running := 1, trial := 1 } }

/-- A scrubber of a memory at work on n pages. -/
def scrubbing (mem n : Nat) : State :=
  mapped.setScrub mem { running := true, pages := n, passS := 3600, nextAt := 0, rem := 0 }


theorem stepRunsFront_1 : ∃ (c : Instr) (q : List Instr) (s : State), s.pending = c :: q :=
  ⟨.wake, [], { full with pending := [.wake] }, by decide⟩

theorem idleStep_1 : ∃ (s : State), s.pending = [] :=
  ⟨full, by decide⟩

theorem commandsChangeOnly_1 : ∃ (c : Instr) (s : State) (t : State), exec c s = .next t :=
  ⟨.hspiStatus, full, { full with hspi := { full.hspi with statusOut := 0x80 } }, rfl⟩

theorem memoryKept_1 : ∃ (s : State) (t : State), MemInv s ∧ step s = .next t :=
  ⟨full, _, ⟨by decide, by decide⟩, rfl⟩

theorem resetState_6 : ∃ (e : Nat), e < 128 :=
  ⟨127, by decide⟩

theorem supplyCommands_1 : ∃ (low : Bool) (porst : Option Nat) (s : State), (∀ ns, porst = some ns → s.power.state ≠ .off ∧ 500 ≤ ns) :=
  ⟨true, none, full, by decide⟩

theorem supplyCommands_1b : ∃ (low : Bool) (porst : Option Nat) (s : State), (∀ ns, porst = some ns → s.power.state ≠ .off ∧ 500 ≤ ns) :=
  ⟨true, some 500, full, by decide⟩

theorem supplyCommands_2 : ∃ (low : Bool) (ns : Nat) (s : State), ns < 500 :=
  ⟨true, 499, full, by decide⟩

theorem supplyCommands_4 : ∃ (s : State), s.power.inReset = true ∧ s.power.pwrEn = true ∧ (s.aon.cause = 1 ∨ s.aon.cause = 7) :=
  ⟨held, by decide⟩

theorem supplyCommands_5 : ∃ (rail : Nat) (s : State), s.awake = true ∧ rail < 9 :=
  ⟨8, full, by decide⟩

theorem supplyCommands_6 : ∃ (rail : Nat) (s : State), rail < 9 ∧ (s.power.pwrEn = true ∨ (s.power.state = .standby ∧ rail = 3)) ∧ s.power.recording = false :=
  ⟨8, full, by decide, by decide, by decide⟩

theorem supplyCommands_6b : ∃ (rail : Nat) (s : State), rail < 9 ∧ (s.power.pwrEn = true ∨ (s.power.state = .standby ∧ rail = 3)) ∧ s.power.recording = true :=
  ⟨8, asked, by decide, by decide, by decide⟩

theorem supplyCommands_7 : ∃ (kind : Nat) (s : State), s.timeRuns = true ∧ (kind = 0 ∨ kind = 2) :=
  ⟨2, full, by decide⟩

theorem supplyCommands_7b : ∃ (kind : Nat) (s : State), s.timeRuns = true ∧ (kind = 0 ∨ kind = 2) :=
  ⟨0, berm, by decide⟩

theorem resetCommands_1 : ∃ (low : Nat) (s : State), 500 ≤ low ∧ (s.power.state = .run ∨ s.power.state = .berm) ∧ s.power.recording = false :=
  ⟨500, full, by decide⟩

theorem resetCommands_2 : ∃ (s : State), s.awake = true :=
  ⟨full, by decide⟩

theorem resetCommands_3 : ∃ (s : State), s.awake = true ∧ s.power.recording = false ∧ s.power.warned = false :=
  ⟨full, by decide, by decide, by decide⟩

theorem resetCommands_2b : ∃ (s : State), s.awake = true :=
  ⟨{ full with power := { full.power with warned := true } }, by decide⟩

theorem resetCommands_3b : ∃ (s : State), s.awake = true ∧ s.power.recording = false ∧ s.power.warned = true :=
  ⟨{ full with power := { full.power with warned := true } }, by decide, by decide, by decide⟩

theorem resetCommands_4 : ∃ (v : Nat) (o : Origin) (x : Row) (s : State), Passes s o 0x500000 0 (fun d => numRow d v) x ∧ (s.power.state = .run ∨ s.power.state = .berm) ∧ s.power.recording = false :=
  ⟨0x5A, .hspi, [0x5A], full, passes_of (by decide), by decide⟩

theorem resetCommands_5 : ∃ (c : Nat) (s : State), 2 ≤ c ∧ c ≤ 6 ∧ (s.power.state = .run ∨ s.power.state = .berm) ∧ s.power.recording = true ∧ s.power.requestAt < s.clk.elapsed :=
  ⟨6, asked, by decide⟩

theorem resetCommands_6 : ∃ (s : State), s.power.requested = true :=
  ⟨asked, by decide⟩

theorem resetCommands_7 : ∃ (s : State), s.power.inReset = true ∧ s.power.pwrEn = true ∧ s.railsStart = true ∧ s.power.pinLow = false ∧ s.power.pwrEnAt + 50000000 ≤ s.clk.elapsed :=
  ⟨{ held with clk := { held.clk with elapsed := 60000000 } }, by decide⟩

theorem resetCommands_8 : ∃ (s : State), s.power.inReset = true ∧ s.power.pwrEn = true ∧ (s.railsStart = true → s.power.pinLow = true ∨ s.clk.elapsed < s.power.pwrEnAt + 50000000) ∧ s.railsStart = true ∧ s.flash.boot.pending = 0xFF :=
  ⟨held, by decide, by decide, by decide, by decide, by decide⟩

theorem resetCommands_8b : ∃ (s : State), s.power.inReset = true ∧ s.power.pwrEn = true ∧ (s.railsStart = true → s.power.pinLow = true ∨ s.clk.elapsed < s.power.pwrEnAt + 50000000) ∧ s.railsStart = true ∧ s.flash.boot.pending ≠ 0xFF ∧ 0 < s.flash.boot.trials :=
  ⟨{ held with flash := { held.flash with boot := { held.flash.boot with pending := 1, trials := 2 } } }, by decide, by decide, by decide, by decide, by decide, by decide⟩

theorem resetCommands_8c : ∃ (s : State), s.power.inReset = true ∧ s.power.pwrEn = true ∧ (s.railsStart = true → s.power.pinLow = true ∨ s.clk.elapsed < s.power.pwrEnAt + 50000000) ∧ s.railsStart = true ∧ s.power.pinLow = true ∧ s.flash.boot.pending = 0xFF :=
  ⟨{ held with power := { held.power with pinLow := true, pinUntil := 700 } }, by decide, by decide, by decide, by decide, by decide, by decide⟩

theorem bringUpCommands_1 : ∃ (s : State), s.power.inReset = false ∧ s.power.service = .bootRom ∧ s.power.state = .berm :=
  ⟨State.reset, by decide⟩

theorem bringUpCommands_2 : ∃ (ok : Bool) (gib : Nat) (ch : Nat) (s : State), s.berm = true ∧ s.integ.training ≠ 2 ∧ ok = true ∧ (gib = 2 ∨ gib = 4 ∨ gib = 8) ∧ ch = 15 :=
  ⟨true, 4, 15, berm, by decide, by decide, by decide, by decide, by decide⟩

theorem bringUpCommands_2b : ∃ (ok : Bool) (gib : Nat) (ch : Nat) (s : State), s.berm = true ∧ s.integ.training ≠ 2 ∧ ok = false :=
  ⟨false, 0, 0, berm, by decide, by decide, by decide⟩

theorem bringUpCommands_3 : ∃ (rate : Nat) (s : State), s.power.inReset = false ∧ s.integ.training = 2 ∧ rate ≤ 2 ∧ s.integ.refresh ≠ rate :=
  ⟨2, trained berm, by decide⟩

theorem bringUpCommands_4 : ∃ (s : State), s.berm = true ∧ s.power.requested = false ∧ s.integ.training = 2 ∧ s.serviceSlot.1 = true :=
  ⟨trained berm, by decide⟩

theorem bringUpCommands_5 : ∃ (s : State), s.berm = true ∧ s.integ.training = 2 ∧ s.slotVerified 0 = false ∧ s.slotVerified 1 = false ∧ s.update.running < 2 ∧ s.flash.boot.pending ≠ s.update.running :=
  ⟨trained { berm with flash := { berm.flash with slotA := .empty } }, by decide⟩

theorem sleepCommands_1 : ∃ (o : Origin) (x : Row) (s : State), Passes s o 0x500200 0 (fun d => numRow d 1) x ∧ s.power.entry = none :=
  ⟨.hspi, [1], full, passes_of (by decide), by decide⟩

theorem sleepCommands_2 : ∃ (n : Nat) (o : Origin) (x : Row) (s : State), Passes s o 0x500300 0 (fun d => numRow d n) x ∧ s.power.entry = none :=
  ⟨60, .hspi, [60], full, passes_of (by decide), by decide⟩

theorem sleepCommands_3 : ∃ (e : Entry) (s : State), s.power.entry = some e ∧ s.power.requested = false ∧ s.power.inReset = false ∧ s.power.wakeLatch = none ∧ e = .standby :=
  ⟨.standby, entering .standby, by decide, by decide, by decide, by decide, by decide⟩

theorem sleepCommands_3b : ∃ (e : Entry) (s : State), s.power.entry = some e ∧ s.power.requested = false ∧ s.power.inReset = false ∧ s.power.wakeLatch = none :=
  ⟨.hibernate (some 9), entering (.hibernate (some 9)), by decide⟩

theorem sleepCommands_3c : ∃ (e : Entry) (s : State), s.power.entry = some e ∧ s.power.requested = false ∧ s.power.inReset = false ∧ s.power.wakeLatch = none :=
  ⟨.brownout 9, entering (.brownout 9), by decide⟩

theorem sleepCommands_5 : ∃ (e : Nat) (s : State), s.power.state = .hibernate ∧ s.power.wakeTimer = some e :=
  ⟨5000, asleep, by decide⟩

theorem sleepCommands_6 : ∃ (f : EthFrame) (both : Bool) (v : Row) (s : State), s.power.state = .standby ∧ s.power.entry = none ∧ s.power.detector.find? (wakeMatch f) = some v :=
  ⟨{ at_ := 0, bytes := List.replicate 60 0, fcsOk := true, symbolOk := true }, false, [3, 0, 0, 0], { full with power := { full.power with state := .standby, detector := [[3, 0, 0, 0]] } }, by decide⟩

theorem ptpMessages_1 : ∃ (d : Nat) (dom : Nat) (p : Nat) (at_ : Nat) (seq : Nat) (master : Nat) (l2 : Bool) (off : Int) (freq : Int) (s : State), d ≤ 1 ∧ s.takes d dom p l2 = true ∧ s.takes (1 - d) dom p l2 = false ∧ s.servoState d ≠ 4 ∧ s.sourcePort d = p :=
  ⟨0, 0, 0, 100, 7, 50, false, 10, 5, timed 2, by decide⟩

theorem ptpMessages_2 : ∃ (d : Nat) (dom : Nat) (p : Nat) (at_ : Nat) (seq : Nat) (master : Nat) (l2 : Bool) (off : Int) (freq : Int) (s : State), d ≤ 1 ∧ s.takes d dom p l2 = true ∧ s.takes (1 - d) dom p l2 = false ∧ s.servoState d ≠ 4 ∧ s.sourcePort d = p ∧ s.stepDue d = false ∧ s.servoState d = 2 ∧ d = s.selected ∧ beyond off 100 = false ∧ 15 ≤ (s.servo d).good :=
  ⟨0, 0, 0, 100, 7, 50, false, 10, 5, served 2 { Servo.init with good := 15 }, by decide, by decide, by decide, by decide, by decide, (by decide), by decide, by decide, by decide, by decide⟩

theorem ptpMessages_3 : ∃ (d : Nat) (dom : Nat) (p : Nat) (at_ : Nat) (seq : Nat) (master : Nat) (l2 : Bool) (off : Int) (freq : Int) (y : PendingSync) (s : State), d ≤ 1 ∧ s.fromMaster d dom p l2 = true ∧ s.takes (1 - d) dom p l2 = false ∧ s.stepDue d = false ∧ (s.servo d).twoStep = some y ∧ y.port = p ∧ y.seq = seq :=
  ⟨0, 0, 0, 100, 7, 50, false, 10, 5, { port := 0, seq := 7, rx := 90 }, served 2 { Servo.init with twoStep := some { port := 0, seq := 7, rx := 90 } }, by decide⟩

theorem ptpMessages_4 : ∃ (d : Nat) (dom : Nat) (p : Nat) (at_ : Nat) (l2 : Bool) (a : Announce) (s : State), d ≤ 1 ∧ s.takes d dom p l2 = true ∧ s.takes (1 - d) dom p l2 = false ∧ s.servoState d ≠ 4 ∧ -7 ≤ a.logSync ∧ a.logSync ≤ 1 ∧ (s.servo d).best = [] ∧ s.servoState d = 1 :=
  ⟨0, 0, 0, 100, false, anAnnounce, timed 1, by decide, by decide, by decide, by decide, by decide, (by decide), by decide, by decide⟩

theorem ptpMessages_5 : ∃ (d : Nat) (dom : Nat) (p : Nat) (seq : Nat) (receipt : Nat) (t3 : Nat) (l2 : Bool) (li : Int) (s : State), d ≤ 1 ∧ s.takes d dom p l2 = true ∧ s.takes (1 - d) dom p l2 = false ∧ (s.servo d).delayTx = some (p, seq, some t3) :=
  ⟨0, 0, 0, 7, 200, 100, false, -2, served 2 { Servo.init with delayTx := some (0, 7, some 100), lastSync := some 40 }, by decide⟩

theorem ptpMessages_6 : ∃ (d : Nat) (at_ : Nat) (s : State), s.timeRuns = true ∧ d ≤ 1 ∧ s.sourcePort d < 4 ∧ (s.servo d).delayNext = some at_ :=
  ⟨0, 1000, served 2 { Servo.init with delayNext := some 1000 }, by decide⟩

theorem ptpMessages_7 : ∃ (dom : Nat) (p : Nat) (at_ : Nat) (seq : Nat) (master : Nat) (l2 : Bool) (two : Bool) (off : Int) (freq : Int) (s : State), s.ptpLost dom p l2 = true :=
  ⟨9, 0, 100, 7, 50, false, true, 10, 5, timed 2, by decide⟩

theorem timeTimeouts_1 : ∃ (d : Nat) (e : Nat) (s : State), s.timeRuns = true ∧ d ≤ 1 ∧ (s.servo d).expected = some e ∧ (s.servoState d ≠ 3 ∨ (s.servo d).missed < 3) :=
  ⟨0, 4000, served 3 { Servo.init with expected := some 4000, missed := 2 }, by decide, by decide, by decide, by decide⟩

theorem timeTimeouts_2 : ∃ (d : Nat) (p : Nat) (a : PortAnnounce) (s : State), s.timeRuns = true ∧ d ≤ 1 ∧ (s.servo d).best = [(p, a)] ∧ s.sourcePort d = p ∧ s.servoState d = 2 :=
  ⟨0, 0, { data := anAnnounce, dom := 0, l2 := false, at_ := 5 }, served 2 { Servo.init with best := [(0, { data := anAnnounce, dom := 0, l2 := false, at_ := 5 })] }, by decide, by decide, by decide, by decide, by decide⟩

theorem timeTimeouts_3 : ∃ (d : Nat) (s : State), d ≤ 1 ∧ s.servoState d = 4 :=
  ⟨0, timed 4, by decide⟩

theorem timeTimeouts_4 : ∃ (at_ : Nat) (s : State), s.time.preferSince = some at_ ∧ 2 ≤ s.val oDomainMode ∧ s.val 0x130006 = 1 ∧ s.selected ≠ modeDomain (s.val oDomainMode) ∧ s.servoState (modeDomain (s.val oDomainMode)) = 3 ∧ s.time.switchAt = none :=
  ⟨8, let s := (((timed 3).setVal oSelected 1).setVal oDomainMode 2).setVal 0x130006 1; { s with time := { s.time with preferSince := some 8 } }, by decide⟩

theorem timeTimeouts_5 : ∃ (v : List Byte) (o : Origin) (x : Row) (s : State), Passes s o 0x130009 0 (fun d => rowOf d v) x ∧ s.now < ptNs (x.getD 1 0) :=
  ⟨beBytes 1 1 ++ beBytes 10 (nsPt 5000), .hspi, [1, nsPt 5000], full, passes_of (by decide), by decide⟩

theorem timeTimeouts_6 : ∃ (target : Nat) (at_ : Nat) (s : State), s.time.switchAt = some (target, at_) ∧ s.servoState target = 3 :=
  ⟨0, 900, { timed 3 with time := { (timed 3).time with switchAt := some (0, 900) } }, by decide, by decide⟩

theorem timeTimeouts_6b : ∃ (target : Nat) (at_ : Nat) (s : State), s.time.switchAt = some (target, at_) ∧ s.servoState target ≠ 3 :=
  ⟨1, 900, { timed 3 with time := { (timed 3).time with switchAt := some (1, 900) } }, by decide, by decide⟩

theorem pulsesAndCaptures_1 : ∃ (r : Nat) (v : List Byte) (o : Origin) (x : Row) (s : State), Passes s o 0x131000 r (fun d => rowOf d v) x ∧ pulseOk x = true ∧ s.pulseState r ≠ 2 ∧ s.pulseState r ≠ 5 ∧ (s.pulse r).task = none ∧ pMode x = 1 ∧ s.now + 2000 ≤ pStart x :=
  ⟨0, beBytes 1 1 ++ beBytes 1 0 ++ beBytes 10 (nsPt 5000) ++ beBytes 4 0 ++ beBytes 4 0 ++ beBytes 4 100 ++ beBytes 4 0 ++ beBytes 1 0, .hspi, [1, 0, nsPt 5000, 0, 0, 100, 0, 0], full, passes_of (by decide), by decide, by decide, by decide, by decide, by decide, by decide⟩

theorem pulsesAndCaptures_1b : ∃ (r : Nat) (v : List Byte) (o : Origin) (x : Row) (s : State), Passes s o 0x131000 r (fun d => rowOf d v) x ∧ pulseOk x = true ∧ s.pulseState r ≠ 2 ∧ s.pulseState r ≠ 5 ∧ (s.pulse r).task = none ∧ pMode x = 0 :=
  ⟨7, beBytes 1 0 ++ beBytes 1 0 ++ beBytes 10 0 ++ beBytes 4 0 ++ beBytes 4 0 ++ beBytes 4 0 ++ beBytes 4 0 ++ beBytes 1 0, .hspi, [0, 0, 0, 0, 0, 0, 0, 0], full, passes_of (by decide), by decide, by decide, by decide, by decide, by decide⟩

theorem pulsesAndCaptures_2 : ∃ (r : Nat) (s : State), s.pulseState r = 1 ∧ pMode (s.pulse r).row = 1 ∧ (s.pulse r).active = false ∧ (s.pulse r).task = none :=
  ⟨0, pulsing 1 [1, 0, nsPt 5000, 0, 0, 100, 0, 0] false, by decide⟩

theorem pulsesAndCaptures_3 : ∃ (r : Nat) (s : State), s.pulseState r = 2 ∧ pMode (s.pulse r).row = 1 ∧ (s.pulse r).active = true :=
  ⟨0, pulsing 2 [1, 0, nsPt 5000, 0, 0, 100, 0, 0] true, by decide⟩

theorem pulsesAndCaptures_4 : ∃ (r : Nat) (s : State), (s.pulseState r = 1 ∨ s.pulseState r = 2) ∧ pMode (s.pulse r).row = 2 ∧ (s.pulse r).active = false ∧ (s.pulse r).waiting = false :=
  ⟨0, pulsing 1 [2, 0, nsPt 5000, 1000, 1, 100, 5, 0] false, by decide⟩

theorem pulsesAndCaptures_5 : ∃ (r : Nat) (s : State), s.pulseState r = 2 ∧ pMode (s.pulse r).row = 2 ∧ (s.pulse r).active = true ∧ (s.pulse r).task = none :=
  ⟨0, pulsing 2 [2, 0, nsPt 5000, 1000, 1, 100, 5, 0] true, by decide⟩

theorem pulsesAndCaptures_6 : ∃ (i : Nat) (at_ : Nat) (frac : Nat) (w : Nat) (fall : Bool) (s : State), s.full = true ∧ i < 4 ∧ 8 ≤ w ∧ tget false s.time.glitch i = false ∧ (s.fld 0x132000 i 0).testBit (b2n fall) = true ∧ (s.captures i).length < 16 :=
  ⟨3, 100, 9, 8, true, full.setFld 0x132000 3 0 3, by decide, by decide, by decide, by decide, by decide, by decide⟩

theorem pulsesAndCaptures_6b : ∃ (i : Nat) (at_ : Nat) (frac : Nat) (w : Nat) (fall : Bool) (s : State), s.full = true ∧ i < 4 ∧ 8 ≤ w ∧ tget false s.time.glitch i = false ∧ (s.fld 0x132000 i 0).testBit (b2n fall) = true ∧ 16 ≤ (s.captures i).length :=
  ⟨0, 100, 9, 8, false, (full.setFld 0x132000 0 0 1).setCaptures 0 (List.replicate 16 [1, 0, 0, 0]), by decide, by decide, by decide, by decide, by decide, by decide⟩

theorem pulsesAndCaptures_7 : ∃ (i : Nat) (at_ : Nat) (frac : Nat) (w : Nat) (fall : Bool) (s : State), s.full = true ∧ i < 4 ∧ w < 8 :=
  ⟨3, 100, 9, 7, true, full, by decide⟩

theorem eventUnitAfterReset_1 : ∃ (low : Bool) (porst : Option Nat) (s : State), (∀ ns, porst = some ns → s.power.state ≠ .off ∧ 500 ≤ ns) :=
  ⟨true, none, full, fun _ h => by cases h⟩

theorem eventUnitAfterReset_2 : ∃ (s : State), s.power.requested = true :=
  ⟨asked, by decide⟩

theorem eventUnitAfterReset_3 : ∃ (s : State), s.power.entry.isSome = true ∧ s.power.requested = false ∧ s.power.inReset = false :=
  ⟨entering .standby, by decide⟩

theorem eventUnitAfterReset_4 : ∃ (s : State), s.power.inReset = true ∧ s.power.pwrEn = true ∧ (s.aon.cause = 1 ∨ s.aon.cause = 7) :=
  ⟨held, by decide⟩

theorem eventUnitAfterReset_5 : ∃ (s : State), s.asleep = true :=
  ⟨asleep, by decide⟩

theorem completionQueueHolds256_1 : ∃ (h : Nat) (st : Nat) (s : State), s.weir.cq.length < 256 :=
  ⟨64, 0, full, by decide⟩

theorem completionQueueHolds256_2 : ∃ (h : Nat) (st : Nat) (s : State), 256 ≤ s.weir.cq.length :=
  ⟨64, 0, { full with weir := { full.weir with cq := List.replicate 256 (64, 0) } }, by decide +kernel⟩

theorem eventRaised_1 : ∃ (e : Nat) (s : State) (i : Nat), e < 128 :=
  ⟨127, full, 127, by decide⟩

theorem eventRaised_5b : ∃ (e : Nat) (s : State) (r : Nat), e < 128 :=
  ⟨0, full, 0, by decide⟩

theorem eventRaised_6 : ∃ (e : Nat) (s : State), e < 128 ∧ (s.routeByte e).testBit 4 = false :=
  ⟨9, { full with evt := { full.evt with route := [(2, 0)] } }, by decide⟩

theorem eventRaised_7 : ∃ (e : Nat) (s : State), e < 128 ∧ (s.routeByte e).testBit 4 = true :=
  ⟨9, { talking with eop := { talking.eop with sessions := [(0, { aSession with mask := 2 ^ 9 })] } }, by decide⟩

theorem eventRegisterWrites_1 : ∃ (p : Path) (b : Nat) (v : Word) (s : State), Reaches s p 1 ∧ b < 4 :=
  ⟨.core, 3, 5, full, ⟨by decide, by decide, by decide⟩, by decide⟩

theorem eventRegisterWrites_2 : ∃ (p : Path) (b : Nat) (v : Word) (s : State), Reaches s p 1 ∧ b < 4 ∧ s.eop.hostBusy = false :=
  ⟨.hspi, 0, 5, full, ⟨by decide, by decide, by decide⟩, by decide⟩

theorem eventRegisterWrites_3 : ∃ (p : Path) (k : Nat) (v : Word) (s : State), Reaches s p 1 ∧ k < 8 ∧ s.eop.hostBusy = false :=
  ⟨.window, 7, 5, full, ⟨by decide, by decide, by decide⟩, by decide⟩

theorem eventRegisterWrites_4 : ∃ (p : Path) (v : Word) (s : State), Reaches s p 1 ∧ v.getLsbD 7 = true ∧ v.toNat % 128 ∉ [46, 47, 62, 63, 78, 79, 121] :=
  ⟨.core, 0xFF, full, ⟨by decide, by decide, by decide⟩, by decide⟩

theorem eventRegisterWrites_4b : ∃ (p : Path) (v : Word) (s : State), Reaches s p 1 ∧ v.getLsbD 7 = true ∧ v.toNat % 128 ∉ [46, 47, 62, 63, 78, 79, 121] :=
  ⟨.hspi, 0x80, full, ⟨by decide, by decide, by decide⟩, by decide⟩

theorem eventRegisterWrites_5 : ∃ (p : Path) (v : Word) (s : State), Reaches s p 1 ∧ (v.getLsbD 7 = false ∨ v.toNat % 128 ∈ [46, 47, 62, 63, 78, 79, 121]) :=
  ⟨.core, 0x7F, full, ⟨by decide, by decide, by decide⟩, by decide⟩

theorem eventRegisterWrites_5b : ∃ (p : Path) (v : Word) (s : State), Reaches s p 1 ∧ (v.getLsbD 7 = false ∨ v.toNat % 128 ∈ [46, 47, 62, 63, 78, 79, 121]) :=
  ⟨.core, 0xF9, full, ⟨by decide, by decide, by decide⟩, by decide⟩

theorem eventRegisterWrites_6 : ∃ (p : Path) (n : Nat) (v : Word) (s : State), Reaches s p 1 ∧ n < 32 ∧ s.eop.hostBusy = false ∧ s.sys.lockReg.getLsbD 0 = false :=
  ⟨.core, 31, 0x01020304, full, ⟨by decide, by decide, by decide⟩, by decide⟩

theorem eventRegisterWrites_7 : ∃ (p : Path) (n : Nat) (v : Word) (s : State), Reaches s p 1 ∧ n < 32 ∧ s.eop.hostBusy = false ∧ s.sys.lockReg.getLsbD 0 = true :=
  ⟨.core, 31, 0x01020304, { full with sys := { full.sys with lockReg := 1 } }, ⟨by decide, by decide, by decide⟩, by decide⟩

theorem systemRegisterWrites_1 : ∃ (p : Path) (v : Word) (s : State), Reaches s p 0 ∧ s.eop.hostBusy = false ∧ s.sys.apbase.getLsbD 31 = false :=
  ⟨.hspi, 0x80000005, full, ⟨by decide, by decide, by decide⟩, by decide⟩

theorem systemRegisterWrites_2 : ∃ (p : Path) (v : Word) (s : State), Reaches s p 0 ∧ s.eop.hostBusy = false ∧ s.sys.apbase.getLsbD 31 = true :=
  ⟨.hspi, 5, { full with sys := { full.sys with apbase := 0x80000000 } }, ⟨by decide, by decide, by decide⟩, by decide⟩

theorem systemRegisterWrites_3 : ∃ (p : Path) (v : Word) (s : State), Reaches s p 0 ∧ s.eop.hostBusy = false ∧ s.sys.lockWritten = false :=
  ⟨.hspi, 5, full, ⟨by decide, by decide, by decide⟩, by decide⟩

theorem systemRegisterWrites_4 : ∃ (p : Path) (v : Word) (s : State), Reaches s p 0 ∧ s.eop.hostBusy = false ∧ s.sys.lockWritten = true :=
  ⟨.hspi, 5, { full with sys := { full.sys with lockWritten := true } }, ⟨by decide, by decide, by decide⟩, by decide⟩

theorem systemRegisterWrites_6 : ∃ (p : Path) (v : Word) (s : State), Reaches s p 0 :=
  ⟨.window, 0xF, { full with sys := { full.sys with lockViolation := true } }, ⟨by decide, by decide, by decide⟩⟩

theorem aonResetKey_1 : ∃ (p : Path) (k : Nat) (s : State), Reaches s p 23 ∧ k % 256 ≠ 0x5A :=
  ⟨.hspi, 0x5B, full, ⟨by decide, by decide, by decide⟩, by decide⟩

theorem aonResetKey_2 : ∃ (p : Path) (k : Nat) (s : State), Reaches s p 23 ∧ k % 256 = 0x5A :=
  ⟨.hspi, 0x5A, full, ⟨by decide, by decide, by decide⟩, by decide⟩

theorem aonResetKey_3 : ∃ (p : Path) (k : Nat) (s : State), Reaches s p 23 ∧ k % 256 = 0x5A ∧ (s.power.state = .run ∨ s.power.state = .berm) ∧ s.power.recording = false :=
  ⟨.hspi, 0x5A, full, ⟨by decide, by decide, by decide⟩, by decide⟩

theorem actionRegisterWrites_1 : ∃ (p : Path) (v : Word) (s : State) (c : Instr), Reaches s p 2 ∧ (c = .cqPop p v ∨ c = .clearOverflow p v) :=
  ⟨.core, 1, { full with weir := { full.weir with cq := [(64, 0)], cqOverflow := true } }, .cqPop .core 1, ⟨by decide, by decide, by decide⟩, Or.inl rfl⟩

theorem actionRegisterWrites_1b : ∃ (p : Path) (v : Word) (s : State) (c : Instr), Reaches s p 2 ∧ (c = .cqPop p v ∨ c = .clearOverflow p v) :=
  ⟨.hspi, 2, { full with weir := { full.weir with cq := [(64, 0)], cqOverflow := true } }, .clearOverflow .hspi 2, ⟨by decide, by decide, by decide⟩, Or.inr rfl⟩

theorem actionRegisterWrites_2 : ∃ (p : Path) (v : Word) (s : State), Reaches s p 11 :=
  ⟨.core, 1, full, ⟨by decide, by decide, by decide⟩⟩

theorem actionRegisterWrites_3 : ∃ (p : Path) (q : Nat) (v : Word) (s : State), Reaches s p 16 ∧ q < 16 :=
  ⟨.core, 15, 1, full.setQuire 15 { Quire.init with sum := 3 }, ⟨by decide, by decide, by decide⟩, by decide⟩

theorem culvertAccesses_1 : ∃ (p : Path) (b : Nat) (v : Word) (s : State), Reaches s p b ∧ 1 ≤ b ∧ b ≤ 23 :=
  ⟨.hspi, 23, 0xFFFFFFFF, full, ⟨by decide, by decide, by decide⟩, by decide⟩

theorem culvertAccesses_1b : ∃ (p : Path) (b : Nat) (v : Word) (s : State), Reaches s p b ∧ 1 ≤ b ∧ b ≤ 23 :=
  ⟨.core, 1, 7, full, ⟨by decide, by decide, by decide⟩, by decide⟩

theorem culvertAccesses_2 : ∃ (p : Path) (b : Nat) (l : Located) (s : State), Reaches s p b ∧ 1 ≤ b ∧ b ≤ 23 ∧ (p = .hspi → s.hspi.buffer = [] ∧ b ≠ 18 ∧ b ≠ 23) ∧ culvLocate b (s.culvert b).addr = some l ∧ l.idx = 0 :=
  ⟨.core, 11, { obj := 0x130004, row := 0, idx := 0 }, full, ⟨by decide, by decide, by decide⟩, by decide⟩

theorem culvertAccesses_3 : ∃ (p : Path) (b : Nat) (v : Word) (l : Located) (s : State), Reaches s p b ∧ 1 ≤ b ∧ b ≤ 23 ∧ p ≠ .core ∧ culvLocate b (s.culvert b).addr = some l :=
  ⟨.window, 11, 7, { obj := 0x130004, row := 0, idx := 0 }, full, ⟨by decide, by decide, by decide⟩, by decide⟩

theorem culvertAccesses_4 : ∃ (b : Nat) (v : Word) (l : Located) (d : ObjDef) (f : Fld) (s : State), Reaches s .core b ∧ 1 ≤ b ∧ b ≤ 23 ∧ culvLocate b (s.culvert b).addr = some l ∧ l.idx = 0 ∧ objDef l.obj = some d ∧ d.flds = [f] ∧ f.ty.size ≤ 4 ∧ slowNs b = 0 :=
  ⟨11, 7, { obj := 0x130004, row := 0, idx := 0 }, _, ((objDef 0x130004).get (by decide)).flds.get ⟨0, by decide⟩, full, ⟨by decide, by decide, by decide⟩, by decide, by decide, by decide, by decide, rfl, rfl, by decide, by decide⟩

theorem culvertAccesses_4b : ∃ (b : Nat) (v : Word) (l : Located) (d : ObjDef) (f : Fld) (s : State), Reaches s .core b ∧ 1 ≤ b ∧ b ≤ 23 ∧ culvLocate b (s.culvert b).addr = some l ∧ l.idx = 0 ∧ objDef l.obj = some d ∧ d.flds = [f] ∧ f.ty.size ≤ 4 ∧ slowNs b ≠ 0 :=
  ⟨23, 7, { obj := 0x322000, row := 0, idx := 0 }, _, ((objDef 0x322000).get (by decide)).flds.get ⟨0, by decide⟩, full, ⟨by decide, by decide, by decide⟩, by decide, by decide, by decide, by decide, rfl, rfl, by decide, by decide⟩

theorem counterReads_1 : ∃ (p : Path) (b : Nat) (off : Nat) (n : Nat) (s : State), Reaches s p b ∧ b ≤ 23 ∧ off % 4 = 0 ∧ s.counterAt b off = some n ∧ (p = .hspi → s.hspi.buffer = []) :=
  ⟨.core, 1, 0x200, 8589934597, { full with evt := { full.evt with raises := 8589934597 } }, ⟨by decide, by decide, by decide⟩, by decide⟩

theorem counterReads_2 : ∃ (p : Path) (b : Nat) (off : Nat) (n : Nat) (s : State), Reaches s p b ∧ b ≤ 23 ∧ off % 4 = 0 ∧ s.counterAt b off = some n ∧ (p = .hspi → s.hspi.buffer = []) :=
  ⟨.hspi, 1, 0x200, 8589934597, { full with evt := { full.evt with raises := 8589934597 } }, ⟨by decide, by decide, by decide⟩, by decide⟩

theorem hostReads_1 : ∃ (b : Nat) (off : Nat) (w : Word) (s : State), Reaches s .hspi b ∧ b ≤ 23 ∧ 0 < off ∧ off < 0xFFF8 ∧ off % 4 = 0 ∧ s.hspi.buffer = [] ∧ s.counterAt b off = none ∧ s.counterAt b (off - 4) = none ∧ s.readPlain b off = some w :=
  ⟨1, 0x30, 9, { full with evt := { full.evt with enable := 9 } }, ⟨by decide, by decide, by decide⟩, by decide⟩

theorem hostReads_2 : ∃ (a : Word) (n : Nat) (s : State) (c : Instr), s.hspiOn = true ∧ s.hspi.busy = true ∧ (c = .readBurst a n ∨ (∃ vs, c = .writeBurst a vs ∧ s.eop.hostBusy = false) ∨ (∃ op, c = .unknownOpcode (some op) ∧ op ∉ [0xA1, 0xA2, 0xA5])) :=
  ⟨0x20000000, 1, { full with hspi := { full.hspi with busy := true } }, .readBurst 0x20000000 1, by decide, by decide, Or.inl rfl⟩

theorem hostReads_3 : ∃ (op : Nat) (s : State), s.hspiOn = true ∧ op ∉ [0xA1, 0xA2, 0xA5] :=
  ⟨0xA3, full, by decide⟩

theorem hostReads_4 : ∃ (s : State), s.hspiOn = true :=
  ⟨full, by decide⟩

theorem hostReads_5 : ∃ (a : Word) (n : Nat) (s : State), s.hspiOn = true ∧ s.hspi.busy = false ∧ a.toNat % 4 ≠ 0 :=
  ⟨0x20000001, 2, full, by decide⟩

theorem hostReads_6 : ∃ (s : State), s.hspiPowered = true :=
  ⟨full, by decide⟩

theorem hostMemoryWrites_1 : ∃ (x : Nat) (v : Word) (s : State), s.hspiOn = true ∧ s.hspi.busy = false ∧ s.hspi.fetching = none ∧ s.hspi.posted = [] ∧ s.eop.hostBusy = false ∧ s.integ.failed = none ∧ x % 4 = 0 ∧ 0x1780000 ≤ x ∧ x < 0x1800000 :=
  ⟨0x17FFFFC, 0x01020304, full, by decide⟩

theorem hostMemoryWrites_1b : ∃ (x : Nat) (v : Word) (s : State), s.hspiOn = true ∧ s.hspi.busy = false ∧ s.hspi.fetching = none ∧ s.hspi.posted = [] ∧ s.eop.hostBusy = false ∧ s.integ.failed = none ∧ x % 4 = 0 ∧ 0x1780000 ≤ x ∧ x < 0x1800000 :=
  ⟨0x1780000, 0x01020304, full, by decide⟩

theorem hostMemoryWrites_2 : ∃ (a : Nat) (x : Nat) (v : Word) (s : State), s.hspiOn = true ∧ s.hspi.busy = false ∧ s.hspi.fetching = none ∧ s.hspi.posted = [] ∧ s.eop.hostBusy = false ∧ a % 4 = 0 ∧ s.apertureOf a = some x :=
  ⟨0x40000000, 0, 0x01020304, mapped, by decide⟩

theorem hostMemoryWrites_3 : ∃ (a : Word) (v : Word) (x : Nat) (rest : List (Word × Word)) (s : State), s.hspi.posted = (a, v) :: rest ∧ s.integ.failed = none ∧ s.apertureOf a.toNat = some x ∧ rest = [] ∧ s.hspi.fetching = none :=
  ⟨0x40000000, 0x01020304, 0, [], { mapped with hspi := { mapped.hspi with posted := [(0x40000000, 0x01020304)], busy := true } }, by decide, by decide, by decide, by decide, by decide⟩

theorem hostMemoryWrites_4 : ∃ (a : Word) (x : Nat) (s : State), s.hspi.fetching = some a ∧ s.apertureOf a.toNat = some x :=
  ⟨0x40000000, 0, { mapped with hspi := { mapped.hspi with fetching := some 0x40000000, busy := true } }, by decide⟩

theorem sessionCommands_1 : ∃ (m : EopMsg) (i : Nat) (u : State) (s : State), Passes5 s 0x30 m u ∧ m.payload.length = 8 ∧ m.session = 0xFFFF ∧ m.flags.testBit 4 = false ∧ (isSealed m = true ∨ u.val 0x110002 ≠ 0) ∧ i < 64 ∧ (u.session i).open_ = false ∧ (∀ j, j < i → u.sessionLive j = true) :=
  ⟨aHello, 0, after aHello (linked full), linked full, passes5_of (by decide), by decide, by decide, by decide, by decide, by decide, by decide, fun _ h => absurd h (Nat.not_lt_zero _)⟩

theorem sessionCommands_2 : ∃ (m : EopMsg) (u : State) (s : State), Passes5 s 0x30 m u ∧ m.payload.length = 8 ∧ m.session = 0xFFFF ∧ m.flags.testBit 4 = false ∧ (isSealed m = true ∨ u.val 0x110002 ≠ 0) ∧ (∀ j, j < 64 → u.sessionLive j = true) :=
  ⟨aHello, after aHello crowded, crowded, passes5_of (by decide), by decide, by decide, by decide, by decide, fun j hj => List.all_eq_true.mp (show (List.range 64).all (fun j => (after aHello crowded).sessionLive j) = true by decide) j (List.mem_range.mpr hj)⟩

theorem sessionCommands_3 : ∃ (i : Nat) (s : State), i < 64 ∧ (s.session i).open_ = true ∧ s.timeRuns = true :=
  ⟨0, talking, by decide⟩

theorem sessionCommands_4 : ∃ (i : Nat) (s : State), i < 64 ∧ s.timeRuns = true ∧ (s.session i).evBits ≠ 0 ∧ (s.advanceTo (((s.session i).evAt / 1000000 + 1) * 1000000)).sessionLive i = true :=
  ⟨0, { talking with eop := { talking.eop with sessions := [(0, { aSession with mask := 2 ^ 9, evBits := 2 ^ 9 })] } }, by decide⟩

theorem sessionOperations_1 : ∃ (m : EopMsg) (i : Nat) (d : ObjDef) (u : State) (s : State), OnSession s 0x01 m i u ∧ storedAnswer (u.session i).answers m.id = none ∧ u.full = true ∧ m.payload.length = 4 ∧ pNat m.payload 0 2 < 0xA000 ∧ m.flags.testBit 2 = false ∧ objDef (pNat m.payload 0 2 * 256 + pNat m.payload 2 1) = some d ∧ d.isTable = false ∧ readBarred (msgWho m i) d (pNat m.payload 0 2 * 256 + pNat m.payload 2 1) = false ∧ pNat m.payload 0 2 ≠ 0x1120 :=
  ⟨aMsg (beBytes 2 0x1100 ++ beBytes 1 3 ++ beBytes 1 0), 0, (objDef 0x110003).get (by decide), onZero (aMsg (beBytes 2 0x1100 ++ beBytes 1 3 ++ beBytes 1 0)) talking, talking, onSession_of (by decide) (by decide), by decide, by decide, by decide, by decide, by decide, (Option.some_get _).symm, by decide⟩

theorem sessionOperations_2 : ∃ (m : EopMsg) (i : Nat) (n : Nat) (u : State) (s : State), OnSession s 0x02 m i u ∧ storedAnswer (u.session i).answers m.id = none ∧ u.full = true ∧ 5 ≤ n ∧ n ≤ 3600 ∧ pNat m.payload 0 2 = 0x1100 ∧ pNat m.payload 2 1 = 3 ∧ m.payload.drop 4 = beBytes 2 n :=
  ⟨aMsg (beBytes 2 0x1100 ++ beBytes 1 3 ++ beBytes 1 0 ++ beBytes 2 3600), 0, 3600, onZero (aMsg (beBytes 2 0x1100 ++ beBytes 1 3 ++ beBytes 1 0 ++ beBytes 2 3600)) talking, talking, onSession_of (by decide) (by decide), by decide⟩

theorem sessionOperations_3 : ∃ (m : EopMsg) (i : Nat) (d : ObjDef) (u : State) (s : State), OnSession s 0x03 m i u ∧ storedAnswer (u.session i).answers m.id = none ∧ u.full = true ∧ m.payload.length = 12 ∧ pNat m.payload 0 2 < 0xA000 ∧ objDef (pNat m.payload 0 2 * 256) = some d ∧ d.isTable = true ∧ readBarred (msgWho m i) d (pNat m.payload 0 2 * 256) = false ∧ pNat m.payload 8 2 = 1 ∧ pNat m.payload 4 4 < u.tableRows d (pNat m.payload 0 2 * 256) ∧ rowBytes d.flds ≤ 1384 :=
  ⟨aMsg (beBytes 2 0x2202 ++ beBytes 2 0 ++ beBytes 4 1 ++ beBytes 2 1 ++ beBytes 2 0), 0, (objDef 0x220200).get (by decide), onZero (aMsg (beBytes 2 0x2202 ++ beBytes 2 0 ++ beBytes 4 1 ++ beBytes 2 1 ++ beBytes 2 0)) talking, talking, onSession_of (by decide) (by decide), by decide, by decide, by decide, by decide, (Option.some_get _).symm, by decide⟩

theorem sessionOperations_4 : ∃ (m : EopMsg) (i : Nat) (d : ObjDef) (r : WRes) (u : State) (s : State), OnSession s 0x04 m i u ∧ storedAnswer (u.session i).answers m.id = none ∧ u.full = true ∧ pNat m.payload 0 2 < 0xA000 ∧ objDef (pNat m.payload 0 2 * 256) = some d ∧ d.isTable = true ∧ pNat m.payload 8 2 = 1 ∧ m.payload.length = 12 + rowBytes d.flds ∧ r = writeObj (msgWho m i) (pNat m.payload 0 2 * 256) (pNat m.payload 4 4) (fun e => rowOf e (m.payload.drop 12)) u :=
  ⟨aMsg (beBytes 2 0x2202 ++ beBytes 2 0 ++ beBytes 4 1 ++ beBytes 2 1 ++ beBytes 2 0 ++ [0#8]), 0, (objDef 0x220200).get (by decide), _, onZero (aMsg (beBytes 2 0x2202 ++ beBytes 2 0 ++ beBytes 4 1 ++ beBytes 2 1 ++ beBytes 2 0 ++ [0#8])) talking, talking, onSession_of (by decide) (by decide), by decide, by decide, by decide, (Option.some_get _).symm, by decide, by decide, by decide, rfl⟩

theorem sessionOperations_5 : ∃ (m : EopMsg) (i : Nat) (g : Nat × Nat × List Byte × State) (u : State) (s : State), storedAnswer (u.session i).answers m.id = none ∧ u.full = true ∧ OnSession s 0x06 m i u ∧ g = (u.taskPut 48 0 m.payload).submitGraph (msgWho m i) m.payload :=
  ⟨aMsg ([1#8, 1#8, 0#8, 0#8, 0#8, 0#8, 0#8, 0#8]), 0, _, onZero (aMsg ([1#8, 1#8, 0#8, 0#8, 0#8, 0#8, 0#8, 0#8])) talking, talking, by decide, by decide, onSession_of (by decide) (by decide), rfl⟩

theorem sessionOperations_6 : ∃ (m : EopMsg) (i : Nat) (g : Nat × Nat × List Byte × State) (u : State) (s : State), storedAnswer (u.session i).answers m.id = none ∧ u.full = true ∧ OnSession s 0x05 m i u ∧ 4 ≤ m.payload.length ∧ pNat m.payload 0 2 = 0x3001 ∧ pNat m.payload 2 1 = 0 ∧ g = (u.taskPut 48 0 (m.payload.drop 4)).submitGraph (msgWho m i) (m.payload.drop 4) :=
  ⟨aMsg (beBytes 2 0x3001 ++ beBytes 2 0 ++ [1#8, 1#8, 0#8, 0#8, 0#8, 0#8, 0#8, 0#8]), 0, _, onZero (aMsg (beBytes 2 0x3001 ++ beBytes 2 0 ++ [1#8, 1#8, 0#8, 0#8, 0#8, 0#8, 0#8, 0#8])) talking, talking, by decide, by decide, onSession_of (by decide) (by decide), by decide, by decide, by decide, rfl⟩

theorem sessionOperations_7 : ∃ (m : EopMsg) (i : Nat) (u : State) (s : State), OnSession s 0x07 m i u ∧ storedAnswer (u.session i).answers m.id = none ∧ u.full = true ∧ m.payload = [] :=
  ⟨aMsg ([]), 0, onZero (aMsg ([])) talking, talking, onSession_of (by decide) (by decide), by decide⟩

theorem sessionOperations_8 : ∃ (op : Nat) (m : EopMsg) (i : Nat) (a : Answer) (c : Instr) (u : State) (s : State), (op, c) ∈ [(0x01, Instr.read m), (0x02, .write m), (0x03, .readRow m), (0x04, .writeRow m), (0x05, .exec m), (0x06, .submit m), (0x07, .cancel m)] ∧ OnSession s op m i u ∧ storedAnswer (u.session i).answers m.id = some a :=
  ⟨0x07, aMsg [], 0, { op := 7, status := 0, handle := 0, data := [] }, .cancel (aMsg []), onZero (aMsg []) (talking.setSession 0 { aSession with answers := [(3, { op := 7, status := 0, handle := 0, data := [] })] }), talking.setSession 0 { aSession with answers := [(3, { op := 7, status := 0, handle := 0, data := [] })] }, by decide, onSession_of (by decide) (by decide), by decide⟩

theorem sessionOperations_7b : ∃ (m : EopMsg) (i : Nat) (u : State) (s : State), OnSession s 0x07 m i u ∧ storedAnswer (u.session i).answers m.id = none ∧ u.full = true ∧ m.payload = [] ∧ u.handleLive m.id = true ∧ 64 ≤ m.id % 1024 ∧ u.mayCancel (msgWho m i) (u.task (m.id % 1024)) = true ∧ (u.task (m.id % 1024)).state ≠ 3 :=
  ⟨{ aMsg [] with id := 1088 }, 0, onZero ({ aMsg [] with id := 1088 }) (talking.setTask 64 { Task.init with handle := 1088, state := 1, session := aSession.sid 0 }), talking.setTask 64 { Task.init with handle := 1088, state := 1, session := aSession.sid 0 }, onSession_of (by decide) (by decide), by decide, by decide, by decide, by decide, by decide, by decide, by decide⟩

theorem sessionOperations_8b : ∃ (op : Nat) (m : EopMsg) (i : Nat) (a : Answer) (c : Instr) (u : State) (s : State), (op, c) ∈ [(0x01, Instr.read m), (0x02, .write m), (0x03, .readRow m), (0x04, .writeRow m), (0x05, .exec m), (0x06, .submit m), (0x07, .cancel m)] ∧ OnSession s op m i u ∧ storedAnswer (u.session i).answers m.id = some a ∧ op ≠ 0x02 ∧ op ≠ 0x07 :=
  ⟨0x01, aMsg [], 0, { op := 1, status := 0, handle := 0, data := [] }, .read (aMsg []), onZero (aMsg []) (talking.setSession 0 { aSession with answers := [(3, { op := 1, status := 0, handle := 0, data := [] })] }), talking.setSession 0 { aSession with answers := [(3, { op := 1, status := 0, handle := 0, data := [] })] }, by decide, onSession_of (by decide) (by decide), by decide, by decide, by decide⟩

theorem messagesRefused_1 : ∃ (op : Nat) (m : EopMsg) (c : Instr) (s : State), (op, c) ∈ [(0x01, Instr.read m), (0x02, .write m), (0x03, .readRow m), (0x04, .writeRow m), (0x05, .exec m), (0x06, .submit m), (0x07, .cancel m), (0x30, .hello m), (0x20, .heartbeat m), (0x21, .imageBlock m)] ∧ s.eopHears m = true ∧ eopMalformed op m = true ∧ s.eop.hostBusy = false ∧ op ≠ 0x02 ∧ op ≠ 0x07 :=
  ⟨0x30, { aHello with magic := 0 }, .hello { aHello with magic := 0 }, linked full, by decide, by decide, by decide, by decide, by decide, by decide⟩

theorem messagesRefused_1b : ∃ (op : Nat) (m : EopMsg) (c : Instr) (s : State), (op, c) ∈ [(0x01, Instr.read m), (0x02, .write m), (0x03, .readRow m), (0x04, .writeRow m), (0x05, .exec m), (0x06, .submit m), (0x07, .cancel m), (0x30, .hello m), (0x20, .heartbeat m), (0x21, .imageBlock m)] ∧ s.eopHears m = true ∧ eopMalformed op m = true ∧ s.eop.hostBusy = false ∧ op ≠ 0x02 ∧ op ≠ 0x07 :=
  ⟨0x20, aMsg [], .heartbeat (aMsg []), linked full, by decide, by decide, by decide, by decide, by decide, by decide⟩

theorem messagesRefused_2 : ∃ (op : Nat) (m : EopMsg) (c : Instr) (s : State), (op, c) ∈ [(0x01, Instr.read m), (0x02, .write m), (0x03, .readRow m), (0x04, .writeRow m), (0x05, .exec m), (0x06, .submit m), (0x07, .cancel m)] ∧ s.eopHears m = true ∧ eopMalformed op m = false ∧ s.eop.hostBusy = false ∧ isSealed m = true ∧ s.hasKey m.keySlot = true ∧ eopTag (s.slotKey m.keySlot) (msgHeader m op) m.payload ≠ m.tag := by
  by_cases h : eopTag (keyed.slotKey 1) (msgHeader (sealedMsg []) 1) [] = List.replicate 16 0#8
  · exact ⟨1, sealedMsg (List.replicate 16 1#8), .read (sealedMsg (List.replicate 16 1#8)), keyed, by decide, by decide, by decide, by decide,
      by decide, by decide, fun e => absurd (h.symm.trans e) (by decide)⟩
  · exact ⟨1, sealedMsg (List.replicate 16 0#8), .read (sealedMsg (List.replicate 16 0#8)), keyed, by decide, by decide, by decide, by decide,
      by decide, by decide, h⟩

theorem keyAndSettingsCommands_1 : ∃ (k : Nat) (key : List Byte) (c : Nat) (s : State), s.hspiPowered = true ∧ s.full = true ∧ 1 ≤ k ∧ k < 8 ∧ key.length = 32 ∧ s.flash.otpKey ≠ [] :=
  ⟨1, List.replicate 32 5#8, 9, { full with flash := { full.flash with otpKey := List.replicate 32 1#8 } }, by decide⟩

theorem keyAndSettingsCommands_2 : ∃ (k : Nat) (key : List Byte) (c : Nat) (s : State), s.hspiPowered = true ∧ s.full = true ∧ 1 ≤ k ∧ k < 8 ∧ key.length = 32 ∧ s.flash.otpKey ≠ [] :=
  ⟨7, List.replicate 32 5#8, 9, { full with flash := { full.flash with otpKey := List.replicate 32 1#8 } }, by decide⟩

theorem keyAndSettingsCommands_3 : ∃ (k : Nat) (key : List Byte) (c : Nat) (s : State) (by0 : Bool), s.hspiPowered = true ∧ s.full = true ∧ 1 ≤ k ∧ k < 8 ∧ key.length = 32 ∧ (by0 = false ∨ s.flash.otpKey = []) :=
  ⟨1, List.replicate 32 5#8, 9, full, true, by decide⟩

theorem keyAndSettingsCommands_3b : ∃ (k : Nat) (key : List Byte) (c : Nat) (s : State) (by0 : Bool), s.hspiPowered = true ∧ s.full = true ∧ 1 ≤ k ∧ k < 8 ∧ key.length = 32 ∧ (by0 = false ∨ s.flash.otpKey = []) :=
  ⟨1, List.replicate 32 5#8, 9, { full with flash := { full.flash with otpKey := List.replicate 32 1#8 } }, false, by decide⟩

theorem keyAndSettingsCommands_4 : ∃ (key : List Byte) (o : Origin) (x : Row) (s : State), Passes s o 0x111100 0 (fun d => rowOf d key) x ∧ s.flash.otpKey = [] :=
  ⟨List.replicate 32 5#8, .hspi, [pNat (List.replicate 32 5#8) 0 32], full, passes_of (by decide), by decide⟩

theorem keyAndSettingsCommands_5 : ∃ (slot : Nat) (v : Nat) (s : State), tget 0 s.eop.txStore slot = v ∧ v ≠ 0 :=
  ⟨1, 65536, { keyed with eop := { keyed.eop with txStore := [(1, 65536)] } }, by decide⟩

theorem keyAndSettingsCommands_6 : ∃ (slot : Nat) (v : Nat) (s : State), tget 0 s.eop.rxStore slot = v ∧ v ≠ 0 :=
  ⟨7, 65536, { keyed with eop := { keyed.eop with rxStore := [(7, 65536)] } }, by decide⟩

theorem keyAndSettingsCommands_7 : ∃ (n : Nat) (s : State), s.eop.saveDue = some n ∧ s.timeRuns = true ∧ s.holdSettings = false :=
  ⟨2000, { full with eop := { full.eop with saveDue := some 2000, dirty := [0x110003] } }, by decide, by decide, by decide⟩

theorem keyAndSettingsCommands_8 : ∃ (n : Nat) (s : State), s.eop.saveDue = some n ∧ s.timeRuns = true :=
  ⟨2000, { full with eop := { full.eop with saveDue := some 2000, dirty := [0x110003] } }, by decide⟩

theorem keyAndSettingsCommands_9 : ∃ (v : Nat) (o : Origin) (x : Row) (s : State), Passes s o 0x500100 0 (fun d => numRow d v) x ∧ v = 1 :=
  ⟨1, .hspi, [1], full, passes_of (by decide), by decide⟩

theorem keyAndSettingsCommands_9b : ∃ (v : Nat) (o : Origin) (x : Row) (s : State), Passes s o 0x500100 0 (fun d => numRow d v) x ∧ v = 0 :=
  ⟨0, .hspi, [0], full, passes_of (by decide), by decide⟩

theorem keyAndSettingsCommands_10 : ∃ (mask : List Byte) (i : Nat) (o : Origin) (x : Row) (s : State), (o = .openSession i ∨ o = .sealedSession i) ∧ Passes s o 0x112000 0 (fun d => rowOf d mask) x :=
  ⟨List.replicate 16 1#8, 0, .openSession 0, [pNat (List.replicate 16 1#8) 0 16], talking, by decide, passes_of (by decide)⟩

theorem keyAndSettingsCommands_11 : ∃ (v : Word) (s : State), Reaches s .hspi 21 ∧ s.eop.hostBusy = false ∧ v.getLsbD 0 = false :=
  ⟨2, full, ⟨by decide, by decide, by decide⟩, by decide⟩

theorem keyAndSettingsCommands_12 : ∃ (v : Word) (s : State), Reaches s .hspi 21 ∧ s.eop.hostBusy = false ∧ v.getLsbD 0 = true :=
  ⟨1, full, ⟨by decide, by decide, by decide⟩, by decide⟩

theorem frameReception_1 : ∃ (p : Nat) (f : EthFrame) (s : State), p < 4 ∧ s.timeRuns = true ∧ s.portState p = 1 ∧ s.linkUp p = true ∧ f.bytes.length < 60 :=
  ⟨3, aFrame 2 4 0x9999 10, cabled full, by decide⟩

theorem frameReception_2 : ∃ (p : Nat) (c : Nat) (f : EthFrame) (h : Head16) (u : State) (s : State), u = s.advanceTo f.at_ ∧ h = readHead f.bytes (s.fld oPort p 6) ∧ p < 4 ∧ s.timeRuns = true ∧ s.portState p = 1 ∧ s.linkUp p = true ∧ s.rxFault p f h.tagged = some c ∧ c ≠ 5 ∧ (u.rxBad p h (u.storedPart p c f h.tagged)).1 = true :=
  ⟨0, 8, { aFrame bcast 4 0x9999 60 with symbolOk := false }, _, _, framed (cabled full), rfl, rfl, by decide, by decide, by decide, by decide, by decide, by decide, by decide +kernel⟩

theorem frameReception_2b : ∃ (p : Nat) (c : Nat) (f : EthFrame) (h : Head16) (u : State) (s : State), u = s.advanceTo f.at_ ∧ h = readHead f.bytes (s.fld oPort p 6) ∧ p < 4 ∧ s.timeRuns = true ∧ s.portState p = 1 ∧ s.linkUp p = true ∧ s.rxFault p f h.tagged = some c ∧ c ≠ 5 ∧ (u.rxBad p h (u.storedPart p c f h.tagged)).1 = true :=
  ⟨2, 6, aFrame bcast 4 0x88A8 1505, _, _, cabled full, rfl, rfl, by decide, by decide, by decide, by decide, by decide +kernel, by decide, by decide⟩

theorem frameReception_2c : ∃ (p : Nat) (c : Nat) (f : EthFrame) (h : Head16) (u : State) (s : State), u = s.advanceTo f.at_ ∧ h = readHead f.bytes (s.fld oPort p 6) ∧ p < 4 ∧ s.timeRuns = true ∧ s.portState p = 1 ∧ s.linkUp p = true ∧ s.rxFault p f h.tagged = some c ∧ c ≠ 5 ∧ (u.rxBad p h (u.storedPart p c f h.tagged)).1 = false :=
  ⟨0, 8, { aFrame bcast 4 0x9999 60 with symbolOk := false }, _, _, (framed (flowing 1)).setFld oPoolQueue 100 2 0, rfl, rfl, by decide, by decide, by decide, by decide, by decide +kernel, by decide, by decide +kernel⟩

theorem frameReception_3 : ∃ (p : Nat) (f : EthFrame) (h : Head16) (u : State) (s : State), u = s.advanceTo f.at_ ∧ h = readHead f.bytes (s.fld oPort p 6) ∧ p < 2 ∧ s.full = true ∧ s.timeRuns = true ∧ s.portState p = 1 ∧ s.linkUp p = true ∧ s.rxFault p f h.tagged = none ∧ h.unsupported = false ∧ u.passes p h.dst = false ∧ (isPtp h && ptpPeer h.dst) = false := by
  by_cases e : (2 : Nat) = macOf 0
  · exact ⟨0, aFrame 4 4 0x9999 60, _, _, framed (cabled full), rfl, rfl, by decide, by decide, by decide, by decide, by decide, by decide,
      by decide, Bool.or_eq_false_iff.mpr ⟨by decide, beq_false_of_ne (fun h => absurd (e.trans h.symm) (by decide))⟩, by decide⟩
  · exact ⟨0, aFrame 2 4 0x9999 60, _, _, framed (cabled full), rfl, rfl, by decide, by decide, by decide, by decide, by decide, by decide,
      by decide, Bool.or_eq_false_iff.mpr ⟨by decide, beq_false_of_ne e⟩, by decide⟩

set_option maxRecDepth 20000 in
theorem frameReception_4 : ∃ (p : Nat) (f : EthFrame) (h : Head16) (u : State) (s : State) (r : Nat), u = s.advanceTo f.at_ ∧ h = readHead f.bytes (s.fld oPort p 6) ∧ p < 2 ∧ s.full = true ∧ s.timeRuns = true ∧ s.portState p = 1 ∧ s.linkUp p = true ∧ s.rxFault p f h.tagged = none ∧ h.unsupported = false ∧ u.passes p h.dst = true ∧ h.dst ≠ probeMac ∧ u.classify p h = .flow r ∧ u.grant (u.flowQueue r p) (cdiv f.bytes.length 256) = cdiv f.bytes.length 256 ∧ ((r ≠ 0 ∧ r ≠ 1 ∧ r ≠ 5) ∨ noRequest (udpPayload h.body) = false) :=
  ⟨0, aFrame bcast 4 0x9999 60, _, _, framed (flowing 1), 8, rfl, rfl, by decide, by decide, by decide, by decide, by decide, (by decide), by decide, by decide, by decide, by decide +kernel, by decide +kernel, by decide⟩

set_option maxRecDepth 20000 in
theorem frameReception_4b : ∃ (p : Nat) (f : EthFrame) (h : Head16) (u : State) (s : State) (r : Nat), u = s.advanceTo f.at_ ∧ h = readHead f.bytes (s.fld oPort p 6) ∧ p < 2 ∧ s.full = true ∧ s.timeRuns = true ∧ s.portState p = 1 ∧ s.linkUp p = true ∧ s.rxFault p f h.tagged = none ∧ h.unsupported = false ∧ u.passes p h.dst = true ∧ h.dst ≠ probeMac ∧ u.classify p h = .flow r ∧ u.grant (u.flowQueue r p) (cdiv f.bytes.length 256) = cdiv f.bytes.length 256 ∧ (r = 0 ∨ r = 1 ∨ r = 5) ∧ noRequest (udpPayload h.body) = true :=
  ⟨0, aDatagram, _, _, framed ((cabled full).setVal 0x110101 9), 0, rfl, rfl, by decide, by decide, by decide, by decide, by decide, (by decide), by decide, by decide, by decide, by decide +kernel, by decide +kernel, by decide +kernel, by decide +kernel⟩

theorem frameReception_5 : ∃ (p : Nat) (f : EthFrame) (h : Head16) (u : State) (s : State), u = s.advanceTo f.at_ ∧ h = readHead f.bytes (s.fld oPort p 6) ∧ (p = 2 ∨ p = 3) ∧ s.timeRuns = true ∧ s.portState p = 1 ∧ s.linkUp p = true ∧ s.portState (otherChain p) = 1 ∧ s.rxFault p f h.tagged = none ∧ h.unsupported = false ∧ u.chainRoute p h = (false, true, none) ∧ u.grant (8 * otherChain p + u.relayQueue p h) (cdiv (max 60 f.bytes.length) 256) = cdiv (max 60 f.bytes.length) 256 := by
  obtain ⟨x, hx, e⟩ := other_mac
  have n : x ≠ macOf 2 := fun h => by simp [ownMac, ← h] at e
  have es : (relayHead x).src = x := (by decide : ∀ y ∈ [2, 4, 6, 8, 10], (relayHead y).src = y) x hx
  have ed : (relayHead x).dst = x := (by decide : ∀ y ∈ [2, 4, 6, 8, 10], (relayHead y).dst = y) x hx
  have route : (relaying.advanceTo 0).chainRoute 2 (relayHead x) = (false, true, none) :=
    (if_neg (by rw [ed]; exact (by decide : ∀ y ∈ [2, 4, 6, 8, 10], ¬(y = probeMac ∧ (relaying.advanceTo 0).ringOwner = true)) x hx)).trans
      ((if_neg (by rw [es, e]; decide)).trans
      ((if_neg ((by decide : ∀ y ∈ [2, 4, 6, 8, 10], ¬isPtp (relayHead y) = true) x hx)).trans
      ((if_neg (by rw [ed]; exact (by decide : ∀ y ∈ [2, 4, 6, 8, 10], ¬y / 16 = 0x0180C200000) x hx)).trans
      ((if_neg (by rw [ed]; exact n)).trans
      ((if_pos (by rw [ed]; exact (by decide : ∀ y ∈ [2, 4, 6, 8, 10], (!decide (y / 2 ^ 40 % 2 = 1)) = true) x hx)).trans (by decide))))))
  exact ⟨2, aFrame x x 0x9999 60, _, _, relaying, rfl, rfl, by decide, by decide, by decide, by decide, by decide,
    (by decide : ∀ y ∈ [2, 4, 6, 8, 10], relaying.rxFault 2 (aFrame y y 0x9999 60) (relayHead y).tagged = none) x hx,
    (by decide : ∀ y ∈ [2, 4, 6, 8, 10], (relayHead y).unsupported = false) x hx, route,
    (by decide +kernel : ∀ y ∈ [2, 4, 6, 8, 10], (relaying.advanceTo 0).grant (8 * otherChain 2 + (relaying.advanceTo 0).relayQueue 2 (relayHead y))
      (cdiv (max 60 (aFrame y y 0x9999 60).bytes.length) 256) = cdiv (max 60 (aFrame y y 0x9999 60).bytes.length) 256) x hx⟩

theorem frameTransmission_1 : ∃ (p : Nat) (q : Nat) (qs : List Nat) (s : State), p < 4 ∧ s.portState p ≠ 0 ∧ (p < 2 → s.linkUp p = true) ∧ (s.port p).pauseTx = q :: qs :=
  ⟨0, 500, [], (cabled full).setPort 0 { Port.init with pauseTx := [500] }, by decide⟩

set_option maxRecDepth 20000 in
theorem frameTransmission_2 : ∃ (p : Nat) (q : Nat) (k : Packet) (ks : List Packet) (f : TxFrame) (s : State), p < 4 ∧ s.portState p ≠ 0 ∧ (p < 2 → s.linkUp p = true) ∧ (s.port p).pauseTx = [] ∧ s.pausedNow p = false ∧ s.nextTx p = some q ∧ s.queue q = k :: ks ∧ k.tx = some f ∧ k.aborted = false :=
  ⟨3, 30, { cells := 1, place := [5], bytes := [], tx := some anArp, flow := 0, rxAt := 0, aborted := false }, [], anArp, sending 30, by decide, by decide, by decide, by decide, by decide, by decide, rfl, rfl, by decide⟩

theorem frameTransmission_3 : ∃ (p : Nat) (s : State), (s.port p).pauseTx = [] ∧ s.pausedNow p = true :=
  ⟨1, (cabled full).setPort 1 { Port.init with paused := true, pausedUntil := 9 }, by decide⟩

theorem portCommands_1 : ∃ (p : Nat) (v : Nat) (o : Origin) (x : Row) (s : State), Passes s o 0x141100 p (fun d => numRow d v) x ∧ ((∀ h ∈ s.eop.held, h.port ≠ p) ∨ overEop o = false) ∧ v = 1 ∧ s.portState p = 0 :=
  ⟨3, 1, .hspi, [1], full, passes_of (by decide), by decide, by decide, by decide⟩

theorem portCommands_1b : ∃ (p : Nat) (v : Nat) (o : Origin) (x : Row) (s : State), Passes s o 0x141100 p (fun d => numRow d v) x ∧ ((∀ h ∈ s.eop.held, h.port ≠ p) ∨ overEop o = false) ∧ v = 0 ∧ s.portState p = 1 :=
  ⟨0, 0, .hspi, [0], cabled full, passes_of (by decide), by decide, by decide, by decide⟩

theorem portCommands_2 : ∃ (p : Nat) (s : State), p < 4 ∧ s.portState p = 2 ∧ (s.port p).latched = false :=
  ⟨3, (cabled full).setFld oPortState 3 0 2, by decide, by decide, by decide⟩

theorem portCommands_3 : ∃ (p : Nat) (speed : Nat) (up : Bool) (s : State), p < 4 ∧ s.timeRuns = true ∧ s.portState p ≠ 0 ∧ s.linkUp p ≠ up ∧ (p < 2 ∨ (s.port p).mode ≠ 1 ∨ up = false ∨ (speed ≠ 10 ∧ speed ≠ 100)) :=
  ⟨1, 25, false, cabled full, by decide⟩

theorem portCommands_3b : ∃ (p : Nat) (speed : Nat) (up : Bool) (s : State), p < 4 ∧ s.timeRuns = true ∧ s.portState p ≠ 0 ∧ s.linkUp p ≠ up ∧ (p < 2 ∨ (s.port p).mode ≠ 1 ∨ up = false ∨ (speed ≠ 10 ∧ speed ≠ 100)) :=
  ⟨2, 0, true, full.setFld oPortState 2 0 1, by decide⟩

theorem portCommands_4 : ∃ (p : Nat) (speed : Nat) (s : State), (p = 2 ∨ p = 3) ∧ s.timeRuns = true ∧ s.portState p ≠ 0 ∧ (s.port p).mode = 1 ∧ (speed = 10 ∨ speed = 100) :=
  ⟨3, 100, (full.setFld oPortState 3 0 1).setPort 3 { Port.init with mode := 1 }, by decide⟩

theorem pauseArpAndRing_1 : ∃ (p : Nat) (at_ : Nat) (n : Nat) (s : State), p < 2 ∧ s.berm = true ∧ s.portState p = 1 :=
  ⟨1, 0, 65535, berm.setFld oPortState 1 0 1, by decide⟩

theorem pauseArpAndRing_2 : ∃ (p : Nat) (at_ : Nat) (n : Nat) (s : State), p < 4 ∧ s.timeRuns = true ∧ (s.berm = true → 2 ≤ p) ∧ s.portState p = 1 ∧ n < 65536 ∧ s.fld oPort p 7 ≠ 0 :=
  ⟨3, 0, 65535, (cabled full).setFld oPort 3 7 1, by decide, by decide, by decide, by decide, by decide, by decide⟩

theorem pauseArpAndRing_2b : ∃ (p : Nat) (at_ : Nat) (n : Nat) (s : State), p < 4 ∧ s.timeRuns = true ∧ (s.berm = true → 2 ≤ p) ∧ s.portState p = 1 ∧ n < 65536 ∧ s.fld oPort p 7 = 0 :=
  ⟨0, 0, 0, (cabled full).setFld oPort 0 7 0, by decide, by decide, by decide, by decide, by decide, by decide⟩

theorem pauseArpAndRing_3 : ∃ (p : Nat) (s : State), p < 4 ∧ (s.port p).paused = true :=
  ⟨1, (cabled full).setPort 1 { Port.init with paused := true, pausedUntil := 9 }, by decide⟩

theorem pauseArpAndRing_4 : ∃ (p : Nat) (s : State), p < 4 ∧ s.fld oPortState p 3 ≠ 0 ∧ s.sharedFree < s.fld oPort p 10 :=
  ⟨0, ((cabled full).setFld oPortState 0 3 1).setFld oPort 0 10 16384, by decide, by decide, by decide +kernel⟩

theorem pauseArpAndRing_5 : ∃ (p : Nat) (target : Nat) (mac : Nat) (ip : Nat) (vid : Nat) (s : State), p < 4 ∧ s.timeRuns = true ∧ s.portState p = 1 ∧ (s.eopPorts.testBit p = false ∨ target ≠ s.val 0x110101) :=
  ⟨0, 5, 6, 7, 0xFFFF, cabled full, by decide⟩

theorem pauseArpAndRing_6 : ∃ (p : Nat) (target : Nat) (mac : Nat) (ip : Nat) (vid : Nat) (s : State), p < 4 ∧ s.timeRuns = true ∧ s.portState p = 1 ∧ s.eopPorts.testBit p = true ∧ target = s.val 0x110101 ∧ (p < 2 → s.linkUp p = true) ∧ s.grant (8 * p + 6) 1 = 1 :=
  ⟨2, 9, 6, 7, 0xFFFF, (cabled full).setVal 0x110101 9, by decide, by decide, by decide, by decide, by decide, by decide, by decide +kernel⟩

theorem pauseArpAndRing_7 : ∃ (s : State), s.full = true ∧ s.ringOwner = true ∧ s.portState 2 = 1 ∧ s.grant 22 1 = 1 :=
  ⟨owner, by decide, by decide, by decide, by decide +kernel⟩

theorem pauseArpAndRing_8 : ∃ (at_ : Nat) (node : Nat) (n : Nat) (first : Nat) (s : State), s.full = true ∧ s.ringOwner = true ∧ s.portState 3 = 1 ∧ n = (s.advanceTo at_).now ∧ node = s.nodeId ∧ s.net.ring.last = none ∧ s.net.ring.firstRun = none :=
  ⟨9, owner.nodeId, (owner.advanceTo 9).now, 0, owner, by decide⟩

theorem pauseArpAndRing_9 : ∃ (at_ : Nat) (node : Nat) (n : Nat) (first : Nat) (s : State) (l : Nat), s.full = true ∧ s.ringOwner = true ∧ s.portState 3 = 1 ∧ n = (s.advanceTo at_).now ∧ node = s.nodeId ∧ s.net.ring.last = some l ∧ n < l + 30000000 ∧ s.net.ring.firstRun = some first :=
  ⟨9, probed.nodeId, (probed.advanceTo 9).now, 5, probed, 5, by decide⟩

theorem pauseArpAndRing_9b : ∃ (at_ : Nat) (node : Nat) (n : Nat) (first : Nat) (s : State) (l : Nat), s.full = true ∧ s.ringOwner = true ∧ s.portState 3 = 1 ∧ n = (s.advanceTo at_).now ∧ node = s.nodeId ∧ s.net.ring.last = some l ∧ n < l + 30000000 ∧ s.net.ring.firstRun = some first :=
  ⟨1000000006, probed.nodeId, (probed.advanceTo 1000000006).now, 5, { probed with net := { probed.net with ring := { probed.net.ring with last := some 999999999 } } }, 999999999, by decide⟩

theorem pauseArpAndRing_10 : ∃ (at_ : Nat) (node : Nat) (n : Nat) (first : Nat) (s : State), s.full = true ∧ s.ringOwner = true ∧ s.portState 3 = 1 ∧ n = (s.advanceTo at_).now ∧ node ≠ s.nodeId :=
  ⟨9, 200, (owner.advanceTo 9).now, 0, owner, by decide⟩

theorem pauseArpAndRing_11 : ∃ (l : Nat) (s : State), s.net.ring.last = some l :=
  ⟨5, probed, by decide⟩

theorem flowCommands_1 : ∃ (r : Nat) (v : Nat) (o : Origin) (x : Row) (s : State), Passes s o 0x140100 r (fun d => numRow d v) x ∧ s.flowState r = 0 ∧ v = 1 ∧ s.flowReason r ≠ 0 :=
  ⟨8, 1, .hspi, [1], mapped.setRow oFlow 8 [1, 15, 0xFFFF, 0x0800, 5, 0, 0, 100, 0], passes_of (by decide), by decide, by decide, by decide⟩

theorem flowCommands_1b : ∃ (r : Nat) (v : Nat) (o : Origin) (x : Row) (s : State), Passes s o 0x140100 r (fun d => numRow d v) x ∧ s.flowState r = 1 ∧ v = 0 ∧ fwType (s.flowRow r) = 1 ∧ (s.flow r).frame = none ∧ (s.flow r).latched = false :=
  ⟨8, 0, .hspi, [0], flowing 1, passes_of (by decide), by decide, by decide, by decide, by decide, by decide⟩

theorem flowCommands_2 : ∃ (r : Nat) (s : State), 8 ≤ r ∧ s.flowState r = 2 ∧ s.flowDrained r = true ∧ (s.flow r).latched = false ∧ fwType (s.flowRow r) = 1 :=
  ⟨8, (flowing 1).setFlowState 8 2 false, by decide, by decide, by decide, by decide, by decide⟩

theorem flowCommands_3 : ∃ (f : Nat) (v : Nat) (o : Origin) (x : Row) (s : State), Passes s o 0x201000 f (fun d => numRow d v) x ∧ fenceCheck s f v = stOk :=
  ⟨255, 1, .hspi, [1], full, passes_of (by decide), by decide⟩

theorem flowCommands_3b : ∃ (f : Nat) (v : Nat) (o : Origin) (x : Row) (s : State), Passes s o 0x201000 f (fun d => numRow d v) x ∧ fenceCheck s f v ≠ stOk :=
  ⟨0, 0xFFFFFFFF, .hspi, [0xFFFFFFFF], full, passes_of (by decide), by decide⟩

theorem videoCommands_1 : ∃ (r : Nat) (k : Nat) (p : VideoPacket) (d : Srd) (v : Row) (x : Row) (base : Nat) (s : State), s.full = true ∧ 8 ≤ r ∧ s.flowState r = 1 ∧ fwType (s.flowRow r) = 1 ∧ s.seeking r = false ∧ v = s.row oVideo (fwIndex (s.flowRow r)) ∧ videoMalformed v p = false ∧ p.aborted = false ∧ s.flowAborted r = false ∧ p.marker = false ∧ p.srds = [d] ∧ (s.flow r).frame = none ∧ (∀ c, (s.flow r).closedTs = some c → reached p.timestamp c = true ∧ p.timestamp ≠ c) ∧ s.selectEntry (s.flowRing r) = some k ∧ x = s.row oFolio (s.ringFolio (s.flowRing r) k) ∧ base = x.getD 0 0 + d.line * x.getD 1 0 + d.offset * 4 ∧ base + 4 * srdPixels (v.getD 2 0) d ≤ s.shadowBase :=
  ⟨8, 0, aPacket 1 3 false, { length := 48, field := false, line := 3, offset := 0 }, _, _, 4288, flowing 1, by decide, by decide, by decide, by decide, by decide, rfl, by decide, by decide, by decide, by decide, by decide, by decide, fun _ h => (Option.some_ne_none _ (h.symm.trans rfl)).elim, by decide, rfl, by decide⟩

theorem videoCommands_2 : ∃ (r : Nat) (k : Nat) (p : VideoPacket) (f : VFrame) (g : VFrame) (v : Row) (s : State), s.full = true ∧ 8 ≤ r ∧ s.flowState r = 1 ∧ fwType (s.flowRow r) = 1 ∧ s.seeking r = false ∧ v = s.row oVideo (fwIndex (s.flowRow r)) ∧ videoMalformed v p = false ∧ p.aborted = false ∧ s.flowAborted r = false ∧ (s.flow r).frame = some f ∧ f.ts = p.timestamp ∧ p.seq ∉ f.seqs ∧ f.entry = some k ∧ p.at_ < s.windowEnd r f ∧ g = { f with lastAt := p.at_, seqs := p.seq :: f.seqs, marker := if p.marker = true then some p.seq else f.marker, pixels := f.pixels + (p.srds.map (srdPixels (v.getD 2 0))).sum } ∧ g.complete (s.flow r).nextSeq v = true :=
  ⟨8, 0, aPacket 2 15 true, aVFrame, { aVFrame with seqs := [2, 1], marker := some 2, pixels := 256 }, _, (flowing 1).setFlow 8 { Flow.init with frame := some aVFrame, nextSeq := some 1 }, by decide, by decide, by decide, by decide, by decide, rfl, by decide, by decide, by decide, by decide, by decide, (by decide), by decide, by decide, rfl, by decide⟩

theorem videoCommands_3 : ∃ (r : Nat) (p : VideoPacket) (v : Row) (s : State), s.full = true ∧ 8 ≤ r ∧ s.flowState r = 1 ∧ fwType (s.flowRow r) = 1 ∧ v = s.row oVideo (fwIndex (s.flowRow r)) ∧ p.aborted = false ∧ s.flowAborted r = false ∧ (s.flow r).frame = none ∧ videoMalformed v p = true :=
  ⟨8, { aPacket 1 3 false with version := 1 }, _, flowing 1, by decide, by decide, by decide, by decide, rfl, by decide⟩

theorem videoCommands_3b : ∃ (r : Nat) (p : VideoPacket) (v : Row) (s : State), s.full = true ∧ 8 ≤ r ∧ s.flowState r = 1 ∧ fwType (s.flowRow r) = 1 ∧ v = s.row oVideo (fwIndex (s.flowRow r)) ∧ p.aborted = false ∧ s.flowAborted r = false ∧ (s.flow r).frame = none ∧ videoMalformed v p = true :=
  ⟨8, aPacket 1 16 false, _, flowing 1, by decide, by decide, by decide, by decide, rfl, by decide⟩

theorem videoCommands_4 : ∃ (r : Nat) (p : VideoPacket) (v : Row) (s : State), s.full = true ∧ 8 ≤ r ∧ s.flowState r = 1 ∧ fwType (s.flowRow r) = 1 ∧ v = s.row oVideo (fwIndex (s.flowRow r)) ∧ p.aborted = false ∧ s.flowAborted r = false ∧ (s.flow r).frame = none ∧ videoMalformed v p = false ∧ s.seeking r = true ∧ p.marker = true :=
  ⟨8, aPacket 1 3 true, _, (flowing 1).setFlowState 8 1 true, by decide, by decide, by decide, by decide, rfl, by decide⟩

theorem videoCommands_5 : ∃ (r : Nat) (k : Nat) (f : VFrame) (s : State), (s.flow r).frame = some f ∧ f.entry = some k ∧ s.flowState r = 1 :=
  ⟨8, 0, aVFrame, (flowing 1).setFlow 8 { Flow.init with frame := some aVFrame, nextSeq := some 1 }, by decide⟩

theorem videoCommands_6 : ∃ (r : Nat) (f : Nat) (fs : List Nat) (s : State), (s.flow r).advances = f :: fs :=
  ⟨8, 7, [], (flowing 1).setFlow 8 { Flow.init with advances := [7] }, by decide⟩

theorem sacnCommands_1 : ∃ (r : Nat) (u : Nat) (p : SacnPacket) (s : State), s.full = true ∧ 8 ≤ r ∧ s.flowState r ≠ 0 ∧ fwType (s.flowRow r) = 2 ∧ u = fwIndex (s.flowRow r) ∧ s.flowAborted r = false ∧ sacnOk p = true ∧ p.terminated = false ∧ (s.uni u).sources = [] ∧ (p.syncAddr = 0 ∨ s.fld oUniverse u 2 = 0) :=
  ⟨8, _, aSacn 1 9, flowing 2, by decide, by decide, by decide, by decide, rfl, by decide, by decide, by decide, by decide, by decide⟩

theorem sacnCommands_2 : ∃ (r : Nat) (u : Nat) (p : SacnPacket) (s : State), s.full = true ∧ 8 ≤ r ∧ s.flowState r ≠ 0 ∧ fwType (s.flowRow r) = 2 ∧ u = fwIndex (s.flowRow r) ∧ s.flowAborted r = true :=
  ⟨8, _, aSacn 1 9, (flowing 2).setQueue 100 [{ cells := 1, place := [5], bytes := [], tx := none, flow := 8, rxAt := 0, aborted := true }], by decide +kernel, by decide +kernel, by decide +kernel, by decide +kernel, rfl, by decide +kernel⟩

theorem sacnCommands_3 : ∃ (r : Nat) (u : Nat) (p : SacnPacket) (s : State), s.full = true ∧ 8 ≤ r ∧ s.flowState r ≠ 0 ∧ fwType (s.flowRow r) = 2 ∧ u = fwIndex (s.flowRow r) ∧ s.flowAborted r = false ∧ (∀ y ∈ (s.uni u).sources, y.live (s.advanceTo p.at_).now = true) ∧ sacnOk p = false :=
  ⟨8, _, { aSacn 1 9 with rootVector := 8 }, hearing [aSource 1], by decide, by decide, by decide, by decide, rfl, by decide⟩

theorem sacnCommands_3b : ∃ (r : Nat) (u : Nat) (p : SacnPacket) (s : State), s.full = true ∧ 8 ≤ r ∧ s.flowState r ≠ 0 ∧ fwType (s.flowRow r) = 2 ∧ u = fwIndex (s.flowRow r) ∧ s.flowAborted r = false ∧ (∀ y ∈ (s.uni u).sources, y.live (s.advanceTo p.at_).now = true) ∧ sacnOk p = false :=
  ⟨8, _, { aSacn 1 9 with priority := 201 }, hearing [], by decide, by decide, by decide, by decide, rfl, by decide⟩

theorem sacnCommands_4 : ∃ (r : Nat) (u : Nat) (p : SacnPacket) (s : State) (y : Source), s.full = true ∧ 8 ≤ r ∧ s.flowState r ≠ 0 ∧ fwType (s.flowRow r) = 2 ∧ u = fwIndex (s.flowRow r) ∧ s.flowAborted r = false ∧ (∀ y ∈ (s.uni u).sources, y.live (s.advanceTo p.at_).now = true) ∧ sacnOk p = true ∧ (s.uni u).sources.find? (fun z => z.cid == p.cid) = some y ∧ sacnLate p.seq y.seq = true :=
  ⟨8, _, aSacn 1 9, hearing [aSource 1], aSource 1, by decide, by decide, by decide, by decide, rfl, by decide⟩

theorem sacnCommands_5 : ∃ (r : Nat) (u : Nat) (p : SacnPacket) (s : State), s.full = true ∧ 8 ≤ r ∧ s.flowState r ≠ 0 ∧ fwType (s.flowRow r) = 2 ∧ u = fwIndex (s.flowRow r) ∧ s.flowAborted r = false ∧ (∀ y ∈ (s.uni u).sources, y.live (s.advanceTo p.at_).now = true) ∧ sacnOk p = true ∧ 4 ≤ (s.uni u).sources.length ∧ (s.uni u).sources.find? (fun z => z.cid == p.cid) = none :=
  ⟨8, _, aSacn 5 9, hearing [aSource 1, aSource 2, aSource 3, aSource 4], by decide, by decide, by decide, by decide, rfl, by decide⟩

theorem sacnCommands_6 : ∃ (r : Nat) (at_ : Nat) (a : Nat) (s : State), s.full = true ∧ 8 ≤ r ∧ s.flowState r ≠ 0 ∧ fwType (s.flowRow r) = 2 ∧ s.flowAborted r = false ∧ (s.ingest.universes.map Prod.fst).Nodup :=
  ⟨8, 0, 77, flowing 2, by decide⟩

theorem sacnCommands_7 : ∃ (u : Nat) (y : Source) (s : State), (s.uni u).sources = [y] :=
  ⟨0, aSource 1, hearing [aSource 1], by decide⟩

theorem sacnCommands_8 : ∃ (a : Nat) (l : Nat) (s : State), (s.syncAddr a).last = some l ∧ (s.syncAddr a).lost = false :=
  ⟨77, 0, (flowing 2).setSyncAddr 77 { last := some 0, lost := false }, by decide⟩

theorem headCommands_1 : ∃ (h : Nat) (v : Nat) (o : Origin) (x : Row) (s : State), Passes s o 0x220200 h (fun d => numRow d v) x ∧ s.headState h = 0 ∧ v = 1 ∧ s.validate h (s.makeCommit h none) false true = 0 :=
  ⟨0, 1, .hspi, [1], full, passes_of (by decide +kernel), by decide +kernel, by decide +kernel, by decide +kernel⟩

theorem headCommands_1b : ∃ (h : Nat) (v : Nat) (o : Origin) (x : Row) (s : State), Passes s o 0x220200 h (fun d => numRow d v) x :=
  ⟨0, 1, .hspi, [1], full.setFld oTimingStaged 0 1 1920, passes_of (by decide +kernel)⟩

theorem headCommands_1c : ∃ (h : Nat) (v : Nat) (o : Origin) (x : Row) (s : State), Passes s o 0x220200 h (fun d => numRow d v) x ∧ s.headState h = 2 ∧ v = 0 ∧ s.feeds h = false ∧ (s.head h).inBlank = false :=
  ⟨0, 0, .hspi, [0], heading 2 scanned, passes_of (by decide +kernel), by decide +kernel, by decide +kernel, by decide +kernel, by decide +kernel⟩

theorem headCommands_1d : ∃ (h : Nat) (v : Nat) (o : Origin) (x : Row) (s : State), Passes s o 0x220200 h (fun d => numRow d v) x ∧ s.headState h = 2 ∧ v = 0 ∧ s.feeds h = true :=
  ⟨0, 0, .hspi, [0], running (heading 2 scanned), passes_of (by decide +kernel), by decide +kernel, by decide +kernel, by decide +kernel⟩

theorem headCommands_1e : ∃ (h : Nat) (v : Nat) (o : Origin) (x : Row) (s : State), Passes s o 0x220200 h (fun d => numRow d v) x ∧ s.headState h = 3 :=
  ⟨0, 1, .hspi, [1], heading 3 scanned, passes_of (by decide +kernel), by decide +kernel⟩

theorem headCommands_2 : ∃ (h : Nat) (s : State), h < 2 ∧ s.headState h = 3 ∧ (s.head h).stopped = true ∧ (s.head h).latched = false :=
  ⟨0, heading 3 { scanned with stopped := true, wback := { Writeback.init with busy := some (0, 5) } }, by decide +kernel⟩

theorem headCommands_3 : ∃ (h : Nat) (ovr : Bool) (x : Row) (r : Nat) (s : State), Passes s .hspi 0x220400 h (fun d => numRow d (b2n ovr)) x ∧ s.validate h (s.makeCommit h none) ovr false = r ∧ r = 0 :=
  ⟨0, false, [0], 0, heading 2 scanned, passes_of (by decide +kernel), by decide +kernel, by decide +kernel⟩

theorem headCommands_3b : ∃ (h : Nat) (ovr : Bool) (x : Row) (r : Nat) (s : State), Passes s .hspi 0x220400 h (fun d => numRow d (b2n ovr)) x ∧ s.validate h (s.makeCommit h none) ovr false = r ∧ r ≠ 0 :=
  ⟨1, true, [1], 21, heading 2 scanned, passes_of (by decide +kernel), by decide +kernel, by decide +kernel⟩

theorem headCommands_3c : ∃ (h : Nat) (ovr : Bool) (x : Row) (r : Nat) (s : State), Passes s .hspi 0x220400 h (fun d => numRow d (b2n ovr)) x ∧ s.validate h (s.makeCommit h none) ovr false = r ∧ r ≠ 0 :=
  ⟨0, false, [0], 20, heading 2 { scanned with queue := List.replicate 4 aCommit }, passes_of (by decide +kernel), by decide +kernel, by decide +kernel⟩

theorem headCommands_4 : ∃ (h : Nat) (ovr : Bool) (r : Nat) (s : State), Reaches s .core (12 + h) ∧ h < 2 ∧ s.validate h (s.makeCommit h none) ovr false = r ∧ r = 0 :=
  ⟨0, false, 0, heading 2 scanned, ⟨by decide +kernel, by decide +kernel, by decide +kernel⟩, by decide +kernel, by decide +kernel, by decide +kernel⟩

theorem headCommands_4b : ∃ (h : Nat) (ovr : Bool) (r : Nat) (s : State), Reaches s .core (12 + h) ∧ h < 2 ∧ s.validate h (s.makeCommit h none) ovr false = r ∧ r ≠ 0 :=
  ⟨1, true, 21, heading 2 scanned, ⟨by decide +kernel, by decide +kernel, by decide +kernel⟩, by decide +kernel, by decide +kernel, by decide +kernel⟩

theorem frameCommands_1 : ∃ (h : Nat) (c : Commit) (u : State) (s : State), h < 2 ∧ s.beforeCut h = true ∧ (s.head h).enable = none ∧ (s.head h).queue = [c] ∧ c.fixed = false ∧ u = s.advanceTb (s.cutAt h) ∧ s.cutAt h ≤ c.armedAt :=
  ⟨0, { aCommit with armedAt := 15000000 }, _, heading 2 { scanned with queue := [{ aCommit with armedAt := 15000000 }] }, by decide +kernel, by decide +kernel, by decide +kernel, by decide +kernel, by decide +kernel, rfl, by decide +kernel⟩

theorem frameCommands_1b : ∃ (h : Nat) (c : Commit) (u : State) (s : State), h < 2 ∧ s.beforeCut h = true ∧ (s.head h).enable = none ∧ (s.head h).queue = [c] ∧ c.fixed = false ∧ u = s.advanceTb (s.cutAt h) ∧ c.armedAt < s.cutAt h ∧ u.commitReady h (s.cutAt h) c = true :=
  ⟨0, aCommit, _, heading 2 { scanned with queue := [aCommit] }, by decide +kernel, by decide +kernel, by decide +kernel, by decide +kernel, by decide +kernel, rfl, by decide +kernel, by decide +kernel⟩

theorem frameCommands_1c : ∃ (h : Nat) (c : Commit) (u : State) (s : State), h < 2 ∧ s.beforeCut h = true ∧ (s.head h).enable = none ∧ (s.head h).queue = [c] ∧ c.fixed = false ∧ u = s.advanceTb (s.cutAt h) ∧ c.armedAt < s.cutAt h ∧ u.commitReady h (s.cutAt h) c = false :=
  ⟨0, { aCommit with layers := [(0, aLayer)] }, _, heading 2 { scanned with queue := [{ aCommit with layers := [(0, aLayer)] }] }, by decide +kernel, by decide +kernel, by decide +kernel, by decide +kernel, by decide +kernel, rfl, by decide +kernel, by decide +kernel⟩

theorem frameCommands_2 : ∃ (h : Nat) (s : State), h < 2 ∧ s.headState h = 2 ∧ (s.head h).stopped = false ∧ (s.head h).inBlank = false ∧ (s.head h).cutPast = true ∧ (s.head h).frameDone = true ∧ (s.head h).enable = none ∧ (s.head h).queue = [] :=
  ⟨0, heading 2 { scanned with cutPast := true, frameDone := true }, by decide +kernel⟩

theorem frameCommands_3 : ∃ (h : Nat) (s : State) (c : Commit), h < 2 ∧ s.headState h = 2 ∧ (s.head h).stopped = false ∧ (s.head h).inBlank = false ∧ (s.head h).cutPast = true ∧ (s.head h).frameDone = true ∧ (s.head h).enable = none ∧ (s.head h).queue = [c] ∧ c.fixed = true ∧ c.task = none :=
  ⟨0, heading 2 { scanned with cutPast := true, frameDone := true, queue := [{ aCommit with layers := [(0, aLayer)], fixed := true }] }, { aCommit with layers := [(0, aLayer)], fixed := true }, by decide +kernel⟩

theorem frameCommands_4 : ∃ (h : Nat) (s : State), h < 2 ∧ s.headState h = 2 ∧ (s.head h).inBlank = true ∧ s.fld oEgressState h 0 = 1 :=
  ⟨0, (egressing 1 Egress.init).setHead 0 { scanned with inBlank := true }, by decide +kernel, by decide +kernel, by decide +kernel, by decide +kernel⟩

theorem frameCommands_4b : ∃ (h : Nat) (s : State), h < 2 ∧ s.headState h = 2 ∧ (s.head h).inBlank = true ∧ s.fld oWbackState h 0 = 1 ∧ (s.head h).wback.busy = none ∧ s.selectEntry (s.fld oWback h 0) = none :=
  ⟨0, ((capturing 1 Writeback.init).setHead 0 { scanned with inBlank := true }).setRow oRing 0 [1, 1, 0, 0, 0] |>.setRow oHistory 0 [1, 1, 0, 0, 0], by decide +kernel, by decide +kernel, by decide +kernel, by decide +kernel, by decide +kernel, by decide +kernel⟩

theorem frameCommands_4c : ∃ (h : Nat) (s : State), h < 2 ∧ s.headState h = 2 ∧ (s.head h).inBlank = true :=
  ⟨0, (capturing 1 Writeback.init).setHead 0 { scanned with inBlank := true }, by decide +kernel⟩

theorem frameCommands_5 : ∃ (h : Nat) (l : Nat) (at_ : Rat) (s : State), h < 2 ∧ s.rasterRuns h = true ∧ s.lineStart h l = some at_ ∧ (s.head h).lineAt < at_ ∧ bit (s.head h).match0 15 = true ∧ bits (s.head h).match0 12 0 = l ∧ bit (s.head h).match1 15 = true ∧ bits (s.head h).match1 12 0 = l :=
  ⟨0, 0, 600000, heading 2 { scanned with match0 := 0x8000, match1 := 0x8000 }, by decide +kernel, by decide +kernel, by decide +kernel, by decide +kernel, by decide +kernel, (by decide +kernel), by decide +kernel, by decide +kernel⟩

theorem frameCommands_5b : ∃ (h : Nat) (l : Nat) (at_ : Rat) (s : State), h < 2 ∧ s.rasterRuns h = true ∧ s.lineStart h l = some at_ ∧ (s.head h).lineAt < at_ ∧ bit (s.head h).match0 15 = true ∧ bits (s.head h).match0 12 0 = l :=
  ⟨0, 1124, 44 * 40000 / 3, heading 2 { scanned with inBlank := true, match0 := 0x8464 }, by decide +kernel, by decide +kernel, by decide +kernel, by decide +kernel, by decide +kernel, by decide +kernel⟩

theorem frameCommands_6 : ∃ (h : Nat) (l : Nat) (col : Nat) (s : State), h < 2 ∧ s.scanning h = true ∧ l < tmVActive (s.timing h) ∧ col < tmHActive (s.timing h) ∧ (s.head h).underruns = [] :=
  ⟨0, 0, 0, heading 2 scanned, by decide +kernel, by decide +kernel, by decide +kernel, by decide +kernel, by decide +kernel⟩

theorem frameCommands_6b : ∃ (h : Nat) (l : Nat) (col : Nat) (s : State), h < 2 ∧ s.scanning h = true ∧ l < tmVActive (s.timing h) ∧ col < tmHActive (s.timing h) :=
  ⟨0, 1079, 1919, heading 3 { scanned with underruns := [(3, 4)] }, by decide +kernel⟩

theorem frameCommands_7 : ∃ (h : Nat) (s : State), h < 2 ∧ s.scanning h = true ∧ (s.head h).frameDone = false ∧ (s.head h).wback.busy = none :=
  ⟨0, heading 2 scanned, by decide +kernel, by decide +kernel, by decide +kernel, by decide +kernel⟩

theorem frameCommands_7b : ∃ (h : Nat) (s : State), h < 2 ∧ s.scanning h = true ∧ (s.head h).frameDone = false :=
  ⟨0, capturing 1 { Writeback.init with busy := some (0, 5) }, by decide +kernel⟩

theorem egressAndWritebackCommands_1 : ∃ (h : Nat) (v : Nat) (o : Origin) (x : Row) (s : State), Passes s o 0x222100 h (fun d => numRow d v) x ∧ s.fld oEgressState h 0 = 0 ∧ v = 1 ∧ s.egressFits h = true :=
  ⟨0, 1, .hspi, [1], egressing 0 Egress.init, passes_of (by decide +kernel), by decide +kernel, by decide +kernel, by decide +kernel⟩

theorem egressAndWritebackCommands_1b : ∃ (h : Nat) (v : Nat) (o : Origin) (x : Row) (s : State), Passes s o 0x222100 h (fun d => numRow d v) x ∧ s.fld oEgressState h 0 = 0 ∧ v = 1 ∧ s.egressFits h = false :=
  ⟨0, 1, .hspi, [1], (egressing 0 Egress.init).setRow oEgress 0 [0, 0, 0, 8192, 4320, 2, 0, 2, 203, 7, 0xEF010101, 5004, 5004, 0xFFFF, 5, 34, 5, 96, 0, 0], passes_of (by decide +kernel), by decide +kernel, by decide +kernel, by decide +kernel⟩

theorem egressAndWritebackCommands_1c : ∃ (h : Nat) (v : Nat) (o : Origin) (x : Row) (s : State), Passes s o 0x222100 h (fun d => numRow d v) x ∧ s.fld oEgressState h 0 = 1 ∧ v = 0 ∧ (s.head h).egress.sending = true :=
  ⟨0, 0, .hspi, [0], egressing 1 { Egress.init with sending := true }, passes_of (by decide +kernel), by decide +kernel, by decide +kernel, by decide +kernel⟩

theorem egressAndWritebackCommands_1d : ∃ (h : Nat) (v : Nat) (o : Origin) (x : Row) (s : State), Passes s o 0x222100 h (fun d => numRow d v) x ∧ s.fld oEgressState h 0 = 1 ∧ v = 0 ∧ (s.head h).egress.sending = false ∧ (s.head h).egress.latched = false :=
  ⟨0, 0, .hspi, [0], egressing 1 Egress.init, passes_of (by decide +kernel), by decide +kernel, by decide +kernel, by decide +kernel, by decide +kernel⟩

theorem egressAndWritebackCommands_2 : ∃ (h : Nat) (line : Nat) (offset : Nat) (p : Nat) (k : Nat) (v : Row) (s : State), h < 2 ∧ v = s.row oEgress h ∧ p = v.getD 0 0 ∧ k = v.getD 16 0 ∧ s.fld oEgressState h 0 = 1 ∧ (s.head h).egress.sending = true ∧ s.scanning h = true ∧ line < egH v ∧ offset < egW v ∧ offset % egPixels (egSampling v) = 0 ∧ s.portState p ≠ 1 ∧ (s.head h).egress.fault = false :=
  ⟨0, 0, 0, _, _, _, (egressing 1 { Egress.init with sending := true }).setFld oPortState 0 0 0, by decide +kernel, rfl, rfl, rfl, by decide +kernel, by decide +kernel, by decide +kernel, by decide +kernel, by decide +kernel, (by decide +kernel), by decide +kernel, by decide +kernel⟩

theorem egressAndWritebackCommands_3 : ∃ (h : Nat) (line : Nat) (offset : Nat) (p : Nat) (k : Nat) (v : Row) (s : State), h < 2 ∧ v = s.row oEgress h ∧ p = v.getD 0 0 ∧ k = v.getD 16 0 ∧ s.fld oEgressState h 0 = 1 ∧ (s.head h).egress.sending = true ∧ s.scanning h = true ∧ line < egH v ∧ offset < egW v ∧ offset % egPixels (egSampling v) = 0 ∧ s.portState p = 1 ∧ (p < 2 → s.linkUp p = true) ∧ (∀ n, n ≤ 6 → s.grant (8 * p + k) n = n) :=
  ⟨0, 1, 0, 0, 5, _, egressing 1 { Egress.init with sending := true }, by decide +kernel, rfl, by decide +kernel, by decide +kernel, by decide +kernel, by decide +kernel, by decide +kernel, (by decide +kernel), by decide +kernel, by decide +kernel, by decide +kernel, fun _ => by decide +kernel, fun n h => (by decide +kernel : ∀ n ∈ List.range 7, (egressing 1 { Egress.init with sending := true }).grant 5 n = n) n (List.mem_range.mpr (Nat.lt_succ_of_le h))⟩

theorem egressAndWritebackCommands_4 : ∃ (h : Nat) (v : Nat) (o : Origin) (x : Row) (s : State), Passes s o 0x223100 h (fun d => numRow d v) x ∧ s.fld oWbackState h 0 = 0 ∧ v = 1 ∧ s.wbackReady h = true :=
  ⟨0, 1, .hspi, [1], capturing 0 Writeback.init, passes_of (by decide +kernel), by decide +kernel, by decide +kernel, by decide +kernel⟩

theorem egressAndWritebackCommands_4b : ∃ (h : Nat) (v : Nat) (o : Origin) (x : Row) (s : State), Passes s o 0x223100 h (fun d => numRow d v) x ∧ s.fld oWbackState h 0 = 0 ∧ v = 1 ∧ s.wbackReady h = false :=
  ⟨0, 1, .hspi, [1], (capturing 0 Writeback.init).setFld oFolio 2 2 17, passes_of (by decide +kernel), by decide +kernel, by decide +kernel, by decide +kernel⟩

theorem egressAndWritebackCommands_4c : ∃ (h : Nat) (v : Nat) (o : Origin) (x : Row) (s : State), Passes s o 0x223100 h (fun d => numRow d v) x ∧ s.fld oWbackState h 0 = 1 ∧ v = 0 ∧ (s.head h).wback.busy ≠ none :=
  ⟨0, 0, .hspi, [0], capturing 1 { Writeback.init with busy := some (0, 5) }, passes_of (by decide +kernel), by decide +kernel, by decide +kernel, by decide +kernel⟩

theorem egressAndWritebackCommands_4d : ∃ (h : Nat) (v : Nat) (o : Origin) (x : Row) (s : State), Passes s o 0x223100 h (fun d => numRow d v) x ∧ s.fld oWbackState h 0 = 1 ∧ v = 0 ∧ (s.head h).wback.busy = none ∧ (s.head h).wback.latched = false :=
  ⟨0, 0, .hspi, [0], capturing 1 Writeback.init, passes_of (by decide +kernel), by decide +kernel, by decide +kernel, by decide +kernel, by decide +kernel⟩

theorem egressAndWritebackCommands_5 : ∃ (h : Nat) (k : Nat) (first : Nat) (r : Nat) (e : Nat) (s : State), h < 2 ∧ (s.head h).stopped = false ∧ (s.head h).wback.busy = some (k, first) ∧ (s.head h).wback.written = true ∧ r = s.fld oWback h 0 ∧ e = s.ringFence r :=
  ⟨0, 1, 5, _, _, capturing 1 { Writeback.init with busy := some (1, 5), written := true }, by decide +kernel, by decide +kernel, by decide +kernel, by decide +kernel, rfl, rfl⟩

theorem collationCommands_1 : ∃ (h : Nat) (n : Nat) (f : CollFrame) (e : MapEntry) (bs : List Byte) (u : State) (s : State), (s.collOf h).passing = some f ∧ f.done = false ∧ n = s.fld oMapActive h 2 ∧ f.cursor < n ∧ e = s.mapEntry h f.cursor ∧ e.kind ≠ 0 ∧ f.runMax ≤ e.key ∧ s.tbNow < entryDeadline f e ∧ u = s.advanceTb (entryTime f e) ∧ u.entryFault h f e = .none ∧ f.fills (e.strand / 16) = true ∧ bs = (u.entryShare h f.cursor { f with runMax := max f.runMax e.key } e).1 :=
  ⟨0, _, aColl, _, _, _, mappedAt 2 1 aColl, by decide +kernel, by decide +kernel, rfl, by decide +kernel, rfl, by decide +kernel, by decide +kernel, by decide +kernel, rfl, by decide +kernel, by decide +kernel, rfl⟩

theorem collationCommands_1b : ∃ (h : Nat) (n : Nat) (f : CollFrame) (e : MapEntry) (bs : List Byte) (u : State) (s : State), (s.collOf h).passing = some f ∧ f.done = false ∧ n = s.fld oMapActive h 2 ∧ f.cursor < n ∧ e = s.mapEntry h f.cursor ∧ e.kind ≠ 0 ∧ f.runMax ≤ e.key ∧ s.tbNow < entryDeadline f e ∧ u = s.advanceTb (entryTime f e) ∧ u.entryFault h f e = .none ∧ f.fills (e.strand / 16) = true ∧ bs = (u.entryShare h f.cursor { f with runMax := max f.runMax e.key } e).1 ∧ f.cursor + 1 < n :=
  ⟨0, _, aColl, _, _, _, mappedAt 1 2 aColl, by decide +kernel, by decide +kernel, rfl, by decide +kernel, rfl, by decide +kernel, by decide +kernel, by decide +kernel, rfl, by decide +kernel, by decide +kernel, rfl, by decide +kernel⟩

theorem collationCommands_2 : ∃ (h : Nat) (n : Nat) (b : Nat) (f : CollFrame) (e : MapEntry) (s : State), (s.collOf h).passing = some f ∧ f.done = false ∧ n = s.fld oMapActive h 2 ∧ f.cursor < n ∧ e = s.mapEntry h f.cursor ∧ e.kind ≠ 0 ∧ f.runMax ≤ e.key ∧ s.quireState (e.strand / 16) ≠ 0 ∧ s.qHead (e.strand / 16) = h ∧ b = shareBytes (f.snap.layout e.layout) ∧ e.offset + b ≤ payloadLen (s.row oStrand e.strand) ∧ f.fills (e.strand / 16) = true ∧ f.late = false :=
  ⟨0, _, _, aColl, _, mappedAt 1 1 aColl, by decide +kernel, by decide +kernel, rfl, by decide +kernel, rfl, by decide +kernel, by decide +kernel, by decide +kernel, by decide +kernel, rfl, by decide +kernel, by decide +kernel, by decide +kernel⟩

theorem quireModes_1 : ∃ (q : Nat) (v : Nat) (o : Origin) (x : Row) (s : State), Passes s o 0x240200 q (fun d => numRow d v) x ∧ s.underTest q = true :=
  ⟨0, 1, .hspi, [1], { quired 2 Quire.init with light := { (quired 2 Quire.init).light with test := some (1, 64) } }, passes_of (by decide +kernel), by decide +kernel⟩

theorem quireModes_1b : ∃ (q : Nat) (v : Nat) (o : Origin) (x : Row) (s : State), Passes s o 0x240200 q (fun d => numRow d v) x ∧ s.underTest q = false ∧ s.quireState q = 4 :=
  ⟨0, 1, .hspi, [1], quired 4 { Quire.init with inFrame := true }, passes_of (by decide +kernel), by decide +kernel, by decide +kernel⟩

theorem quireModes_1c : ∃ (q : Nat) (v : Nat) (o : Origin) (x : Row) (s : State), Passes s o 0x240200 q (fun d => numRow d v) x ∧ s.underTest q = false ∧ s.quireState q = 0 ∧ v = 1 :=
  ⟨0, 1, .hspi, [1], quired 0 Quire.init, passes_of (by decide +kernel), by decide +kernel, by decide +kernel, by decide +kernel⟩

theorem quireModes_1d : ∃ (q : Nat) (v : Nat) (o : Origin) (x : Row) (s : State), Passes s o 0x240200 q (fun d => numRow d v) x ∧ s.underTest q = false ∧ s.quireState q = 0 ∧ v = 2 ∧ (s.headState (s.qHead q) = 0 ∨ s.headState (s.qHead q) = 3) :=
  ⟨0, 2, .hspi, [2], (quired 0 Quire.init).setFld oHeadState 0 0 0, passes_of (by decide +kernel), by decide +kernel, by decide +kernel, by decide +kernel, by decide +kernel⟩

theorem quireModes_1e : ∃ (q : Nat) (v : Nat) (o : Origin) (x : Row) (s : State), Passes s o 0x240200 q (fun d => numRow d v) x ∧ s.underTest q = false ∧ (s.quireState q = 0 ∨ s.quireState q = 2) ∧ v = 2 ∧ (s.headState (s.qHead q) = 1 ∨ s.headState (s.qHead q) = 2) ∧ s.headCheck q = true :=
  ⟨0, 2, .hspi, [2], quired 0 Quire.init, passes_of (by decide +kernel), by decide +kernel, by decide +kernel, by decide +kernel, by decide +kernel, by decide +kernel⟩

theorem quireModes_1f : ∃ (q : Nat) (v : Nat) (o : Origin) (x : Row) (s : State), Passes s o 0x240200 q (fun d => numRow d v) x ∧ s.underTest q = false ∧ (s.quireState q = 0 ∨ s.quireState q = 2) ∧ v = 2 ∧ (s.headState (s.qHead q) = 1 ∨ s.headState (s.qHead q) = 2) ∧ s.headCheck q = false :=
  ⟨0, 2, .hspi, [2], (quired 2 Quire.init).setFld oTimingActive 0 7 0, passes_of (by decide +kernel), by decide +kernel, by decide +kernel, by decide +kernel, by decide +kernel, by decide +kernel⟩

theorem quireModes_1g : ∃ (q : Nat) (v : Nat) (o : Origin) (x : Row) (s : State), Passes s o 0x240200 q (fun d => numRow d v) x ∧ s.underTest q = false ∧ s.quireState q = 1 ∧ v = 0 :=
  ⟨0, 0, .hspi, [0], quired 1 { Quire.init with nextK := some 9 }, passes_of (by decide +kernel), by decide +kernel, by decide +kernel, by decide +kernel⟩

theorem quireModes_1h : ∃ (q : Nat) (v : Nat) (o : Origin) (x : Row) (s : State), Passes s o 0x240200 q (fun d => numRow d v) x ∧ s.underTest q = false ∧ s.quireState q = 2 ∧ v = 1 :=
  ⟨0, 1, .hspi, [1], quired 2 Quire.init, passes_of (by decide +kernel), by decide +kernel, by decide +kernel, by decide +kernel⟩

theorem quireModes_1i : ∃ (q : Nat) (v : Nat) (o : Origin) (x : Row) (s : State), Passes s o 0x240200 q (fun d => numRow d v) x ∧ s.underTest q = false ∧ s.quireState q = 2 ∧ v = 0 ∧ (s.quire q).requests = [] :=
  ⟨0, 0, .hspi, [0], quired 2 Quire.init, passes_of (by decide +kernel), by decide +kernel, by decide +kernel, by decide +kernel, by decide +kernel⟩

theorem quireModes_1j : ∃ (q : Nat) (v : Nat) (o : Origin) (x : Row) (s : State), Passes s o 0x240200 q (fun d => numRow d v) x ∧ s.underTest q = false ∧ s.quireState q = 3 ∧ v ≠ 2 ∧ ((s.quire q).inFrame = true ∨ (s.quire q).window ≠ none) :=
  ⟨0, 1, .hspi, [1], quired 3 { Quire.init with nextK := some 9, inFrame := true }, passes_of (by decide +kernel), by decide +kernel, by decide +kernel, by decide +kernel, by decide +kernel⟩

theorem quireModes_1k : ∃ (q : Nat) (v : Nat) (o : Origin) (x : Row) (s : State), Passes s o 0x240200 q (fun d => numRow d v) x ∧ s.underTest q = false ∧ s.quireState q = 3 ∧ v ≠ 2 ∧ (s.quire q).inFrame = false ∧ (s.quire q).window = none :=
  ⟨0, 0, .hspi, [0], quired 3 { Quire.init with nextK := some 9 }, passes_of (by decide +kernel), by decide +kernel, by decide +kernel, by decide +kernel, by decide +kernel, by decide +kernel⟩

theorem quireModes_2 : ∃ (q : Nat) (s : State), q < 16 ∧ s.quireState q = 4 ∧ (s.quire q).inFrame = false ∧ (s.quire q).window = none ∧ (s.quire q).latched = none :=
  ⟨0, quired 4 { Quire.init with target := 2 }, by decide +kernel⟩

theorem pixelFrames_1 : ∃ (st : Nat) (k : Nat) (u : State) (s : State), st < 256 ∧ (s.quire (st / 16)).nextK = some k ∧ s.pixelsRun (st / 16) = true ∧ s.strandOn st = true ∧ (s.strand st).sentK ≠ some k ∧ s.power.requested = false ∧ s.twin.quenchBerm = false ∧ (u = if s.quireState (st / 16) = 3 then (s.oweGain st).sendBroadcasts (st / 16) else s) ∧ u.tbNow ≤ u.frameStartAt st (u.latchAt (st / 16) k) :=
  ⟨0, 1, _, quired 3 { Quire.init with nextK := some 1 }, by decide +kernel, by decide +kernel, by decide +kernel, by decide +kernel, by decide +kernel, by decide +kernel, by decide +kernel, rfl, by decide +kernel⟩

theorem pixelFrames_1b : ∃ (st : Nat) (k : Nat) (u : State) (s : State), st < 256 ∧ (s.quire (st / 16)).nextK = some k ∧ s.pixelsRun (st / 16) = true ∧ s.strandOn st = true ∧ (s.strand st).sentK ≠ some k ∧ s.power.requested = false ∧ s.twin.quenchBerm = false ∧ (u = if s.quireState (st / 16) = 3 then (s.oweGain st).sendBroadcasts (st / 16) else s) ∧ u.frameStartAt st (u.latchAt (st / 16) k) < u.tbNow :=
  ⟨0, 0, _, quired 4 { Quire.init with nextK := some 0, inFrame := true }, by decide +kernel, by decide +kernel, by decide +kernel, by decide +kernel, by decide +kernel, by decide +kernel, by decide +kernel, rfl, by decide +kernel⟩

theorem pixelFrames_2 : ∃ (q : Nat) (k : Nat) (s : State), q < 16 ∧ (s.quire q).nextK = some k ∧ s.quireState q = 1 :=
  ⟨0, 1, quired 1 { Quire.init with nextK := some 1 }, by decide +kernel⟩

theorem pixelFrames_3 : ∃ (q : Nat) (k : Nat) (s : State) (u : State) (v : State), q < 16 ∧ (s.quire q).nextK = some k ∧ u = s.advanceTb (s.latchAt q k : Rat) ∧ v = u.frameLatched q k ∧ (s.quireState q = 3 ∨ s.quireState q = 4) ∧ s.berm = false :=
  ⟨0, 1, quired 3 { Quire.init with nextK := some 1, inFrame := true }, _, _, by decide +kernel, by decide +kernel, rfl, rfl, by decide +kernel, by decide +kernel⟩

theorem pixelFrames_3b : ∃ (q : Nat) (k : Nat) (s : State) (u : State) (v : State), q < 16 ∧ (s.quire q).nextK = some k ∧ u = s.advanceTb (s.latchAt q k : Rat) ∧ v = u.frameLatched q k ∧ (s.quireState q = 3 ∨ s.quireState q = 4) ∧ s.berm = false :=
  ⟨0, 1, quired 4 { Quire.init with nextK := some 1, inFrame := true }, _, _, by decide +kernel, by decide +kernel, rfl, rfl, by decide +kernel, by decide +kernel⟩

theorem returnCommands_1 : ∃ (st : Nat) (late : Nat) (stalls : Nat) (k : Nat) (b : BitVec 40) (u : State) (s : State), st < 256 ∧ u = s.beginPhase (st / 16) ∧ k = rrIndex b ∧ u.inWindow st k late = false :=
  ⟨0, 0, 0, _, 0#40, _, quired 3 Quire.init, by decide +kernel, rfl, rfl, by decide +kernel⟩

theorem returnCommands_2 : ∃ (st : Nat) (late : Nat) (stalls : Nat) (k : Nat) (b : BitVec 40) (u : State) (s : State), st < 256 ∧ u = s.beginPhase (st / 16) ∧ k = rrIndex b ∧ u.inWindow st k late = true ∧ rrOk b = true :=
  ⟨0, 0, 0, _, aRecord 2 100, _, windowed, by decide +kernel, rfl, rfl, by decide +kernel, by decide +kernel⟩

theorem returnCommands_2b : ∃ (st : Nat) (late : Nat) (stalls : Nat) (k : Nat) (b : BitVec 40) (u : State) (s : State), st < 256 ∧ u = s.beginPhase (st / 16) ∧ k = rrIndex b ∧ u.inWindow st k late = true ∧ rrOk b = false :=
  ⟨0, 0, 0, _, aRecord 2 100 ^^^ 1#40, _, windowed, by decide +kernel, rfl, rfl, by decide +kernel, by decide +kernel⟩

theorem returnCommands_3 : ∃ (q : Nat) (k : Nat) (s : State), q < 16 ∧ (s.quire q).window = some (k, true) :=
  ⟨0, 1, windowed, by decide +kernel⟩

theorem returnCommands_4 : ∃ (q : Nat) (j : Nat) (r : Request) (rs : List Request) (s : State), q < 16 ∧ (s.quire q).window = some (j, false) ∧ s.quireState q = 2 ∧ (s.quire q).requests = r :: rs ∧ r.sent = true ∧ r.enum = false ∧ r.phase < 3 :=
  ⟨0, 0, aRequest, [], quired 2 { Quire.init with window := some (0, false), requests := [aRequest] }, by decide +kernel⟩

theorem requestCommands_1 : ∃ (v : List Byte) (o : Origin) (x : Row) (q : Nat) (h : Nat) (s : State), Passes s o 0x240400 0 (fun d => rowOf d v) x ∧ q = x.getD 0 0 ∧ s.requestsFull q = true :=
  ⟨[0, 0, 1, 4, 0, 0, 0, 0, 0, 0, 0, 0], .hspi, [0, 1, 4, 0, 0, 0, 0], _, 1088, quired 2 { Quire.init with requests := List.replicate 16 aRequest }, passes_of (by decide +kernel), rfl, by decide +kernel⟩

theorem requestCommands_1b : ∃ (v : List Byte) (o : Origin) (x : Row) (q : Nat) (h : Nat) (s : State), Passes s o 0x240400 0 (fun d => rowOf d v) x ∧ q = x.getD 0 0 ∧ s.requestsFull q = false ∧ NewHandle s h ∧ s.quireState q = 0 :=
  ⟨[0, 0, 1, 4, 0, 0, 0, 0, 0, 0, 0, 0], .hspi, [0, 1, 4, 0, 0, 0, 0], _, 1088, quired 0 Quire.init, passes_of (by decide +kernel), rfl, by decide +kernel, newHandle_of (by decide +kernel), by decide +kernel⟩

theorem requestCommands_1c : ∃ (v : List Byte) (o : Origin) (x : Row) (q : Nat) (h : Nat) (s : State), Passes s o 0x240400 0 (fun d => rowOf d v) x ∧ q = x.getD 0 0 ∧ s.requestsFull q = false ∧ NewHandle s h ∧ s.quireState q = 2 ∧ legacy (s.qRate q) = false ∧ (x.getD 3 0 = 0 ∨ x.getD 2 0 = 1 ∨ s.val oShareBase ≠ 0) :=
  ⟨[0, 0, 1, 4, 0, 0, 0, 0, 0, 0, 0, 0], .hspi, [0, 1, 4, 0, 0, 0, 0], _, 1088, quired 2 Quire.init, passes_of (by decide +kernel), rfl, by decide +kernel, newHandle_of (by decide +kernel), by decide +kernel, by decide +kernel, by decide +kernel⟩

theorem requestCommands_1d : ∃ (v : List Byte) (o : Origin) (x : Row) (q : Nat) (h : Nat) (s : State), Passes s o 0x240400 0 (fun d => rowOf d v) x ∧ q = x.getD 0 0 ∧ s.requestsFull q = false ∧ NewHandle s h ∧ s.quireState q = 3 ∧ x.getD 3 0 = 1 :=
  ⟨[0, 0, 1, 4, 1, 0, 0, 0, 0, 0, 0, 0], .hspi, [0, 1, 4, 1, 0, 0, 0], _, 1088, quired 3 Quire.init, passes_of (by decide +kernel), rfl, by decide +kernel, newHandle_of (by decide +kernel), by decide +kernel, by decide +kernel⟩

theorem requestCommands_2 : ∃ (v : List Byte) (o : Origin) (x : Row) (q : Nat) (h : Nat) (s : State), Passes s o 0x240500 0 (fun d => rowOf d v) x ∧ q = x.getD 0 0 ∧ s.requestsFull q = true :=
  ⟨[0, 0, 0, 1], .hspi, [0, 0, 1], _, 1088, quired 2 { Quire.init with requests := List.replicate 16 aRequest }, passes_of (by decide +kernel), rfl, by decide +kernel⟩

theorem requestCommands_2b : ∃ (v : List Byte) (o : Origin) (x : Row) (q : Nat) (h : Nat) (s : State), Passes s o 0x240500 0 (fun d => rowOf d v) x ∧ q = x.getD 0 0 ∧ s.requestsFull q = false ∧ NewHandle s h ∧ s.quireState q = 2 ∧ legacy (s.qRate q) = false :=
  ⟨[0, 0, 0, 1], .hspi, [0, 0, 1], _, 1088, quired 2 Quire.init, passes_of (by decide +kernel), rfl, by decide +kernel, newHandle_of (by decide +kernel), by decide +kernel, by decide +kernel⟩

theorem requestCommands_2c : ∃ (v : List Byte) (o : Origin) (x : Row) (q : Nat) (h : Nat) (s : State), Passes s o 0x240500 0 (fun d => rowOf d v) x ∧ q = x.getD 0 0 ∧ s.requestsFull q = false ∧ NewHandle s h ∧ s.quireState q ≠ 2 :=
  ⟨[0, 0, 0, 1], .hspi, [0, 0, 1], _, 1088, quired 3 Quire.init, passes_of (by decide +kernel), rfl, by decide +kernel, newHandle_of (by decide +kernel), by decide +kernel⟩

theorem requestCommands_3 : ∃ (q : Nat) (r : Request) (rs : List Request) (s : State), q < 16 ∧ (s.quire q).requests = r :: rs ∧ s.handleLive r.handle = true ∧ s.quireState q = 2 ∧ r.phase = 3 :=
  ⟨0, { aRequest with phase := 3 }, [], tasked (quired 2 { Quire.init with requests := [{ aRequest with phase := 3 }] }), by decide +kernel⟩

theorem requestCommands_4 : ∃ (q : Nat) (r : Request) (rs : List Request) (s : State), q < 16 ∧ (s.quire q).requests = r :: rs ∧ s.handleLive r.handle = true ∧ s.quireState q = 2 ∧ r.phase = 0 ∧ r.sent = true ∧ r.enum = false ∧ (s.quire q).selectOwed = false :=
  ⟨0, aRequest, [], tasked (quired 2 { Quire.init with requests := [aRequest] }), by decide +kernel⟩

theorem requestCommands_4b : ∃ (q : Nat) (r : Request) (rs : List Request) (s : State), q < 16 ∧ (s.quire q).requests = r :: rs ∧ s.handleLive r.handle = true ∧ s.quireState q = 2 ∧ r.phase = 0 ∧ r.sent = true ∧ r.enum = false ∧ (s.quire q).selectOwed = false ∧ r.ret = false ∧ (s.quire q).broadcasts = [] :=
  ⟨0, { aRequest with ret := false }, [], tasked (quired 2 { Quire.init with requests := [{ aRequest with ret := false }] }), by decide +kernel, by decide +kernel, by decide +kernel, by decide +kernel, by decide +kernel, (by decide +kernel), by decide +kernel, by decide +kernel, by decide +kernel, by decide +kernel⟩

theorem returnCommands_4b : ∃ (q : Nat) (j : Nat) (r : Request) (rs : List Request) (s : State), q < 16 ∧ (s.quire q).window = some (j, false) ∧ s.quireState q = 2 ∧ (s.quire q).requests = r :: rs ∧ r.sent = true ∧ r.enum = false ∧ r.phase < 3 ∧ r.ret = false ∧ (s.quire q).broadcasts = [] :=
  ⟨0, 0, { aRequest with ret := false }, [], quired 2 { Quire.init with window := some (0, false), requests := [{ aRequest with ret := false }] }, by decide +kernel, by decide +kernel, by decide +kernel, by decide +kernel, by decide +kernel, (by decide +kernel), by decide +kernel, by decide +kernel, by decide +kernel⟩

theorem requestCommands_5 : ∃ (q : Nat) (r : Request) (rs : List Request) (s : State), q < 16 ∧ (s.quire q).requests = r :: rs ∧ s.handleLive r.handle = true ∧ s.quireState q = 3 ∧ r.enum = false ∧ r.perDriver = false ∧ (∀ st, st ∈ s.requestStrands q r.mask → (s.gapSlot st r.at_).isSome = true) :=
  ⟨0, aRequest, [], tasked (quired 3 { Quire.init with requests := [aRequest], nextK := some 1 }), by decide +kernel⟩

theorem fadeWrites_1 : ∃ (f : Nat) (v : List Byte) (o : Origin) (x : Row) (s : State), Passes s o 0x250000 f (fun d => rowOf d v) x ∧ fadeRowOk x = false :=
  ⟨0, joinFields fadeFlds (aFade 1 32 5000 1), .hspi, aFade 1 32 5000 1, full, passes_of (by decide +kernel), by decide +kernel⟩

theorem fadeWrites_1b : ∃ (f : Nat) (v : List Byte) (o : Origin) (x : Row) (s : State), Passes s o 0x250000 f (fun d => rowOf d v) x ∧ fadeRowOk x = true ∧ (s.fadeState f = 0 ∨ s.fadeState f = 3) :=
  ⟨0, joinFields fadeFlds (aFade 2 0 5000 1), .hspi, aFade 2 0 5000 1, full, passes_of (by decide +kernel), by decide +kernel, by decide +kernel⟩

theorem fadeWrites_1c : ∃ (f : Nat) (v : List Byte) (o : Origin) (x : Row) (s : State), Passes s o 0x250000 f (fun d => rowOf d v) x ∧ fadeRowOk x = true ∧ s.fadeState f = 1 ∧ s.now < fdStartTick x ∧ s.now < fdEndTick x :=
  ⟨0, joinFields fadeFlds (aFade 2 0 5000 1), .hspi, aFade 2 0 5000 1, faded 0 1 (aUnit (aFade 2 0 9000 5)) full, passes_of (by decide +kernel), by decide +kernel, by decide +kernel, by decide +kernel, by decide +kernel⟩

theorem fadeWrites_1d : ∃ (f : Nat) (v : List Byte) (o : Origin) (x : Row) (s : State), Passes s o 0x250000 f (fun d => rowOf d v) x ∧ fadeRowOk x = true ∧ s.fadeState f = 2 ∧ s.now < fdEndTick (s.fade f).row :=
  ⟨0, joinFields fadeFlds (aFade 2 0 5000 1), .hspi, aFade 2 0 5000 1, faded 0 2 { aUnit (aFade 2 0 0 5) with bound := true } full, passes_of (by decide +kernel), by decide +kernel, by decide +kernel, by decide +kernel⟩

theorem fadeWrites_1e : ∃ (f : Nat) (v : List Byte) (o : Origin) (x : Row) (s : State), Passes s o 0x250000 f (fun d => rowOf d v) x ∧ fadeRowOk x = true ∧ s.fadeState f = 4 :=
  ⟨0, joinFields fadeFlds (aFade 2 0 5000 1), .hspi, aFade 2 0 5000 1, faded 0 4 (aUnit (aFade 2 0 0 5)) full, passes_of (by decide +kernel), by decide +kernel, by decide +kernel⟩

theorem fadeWrites_2 : ∃ (f : Nat) (o : Origin) (x : Row) (s : State), Passes s o 0x250100 f (fun d => numRow d 1) x ∧ (s.fadeState f = 0 ∨ s.fadeState f = 3) ∧ s.now < fdStartTick (s.row oFade f) ∧ s.now < fdEndTick (s.row oFade f) :=
  ⟨0, .hspi, [1], full.setRow oFade 0 (aFade 2 0 5000 1), passes_of (by decide +kernel), by decide +kernel, by decide +kernel, by decide +kernel⟩

theorem fadeWrites_2b : ∃ (f : Nat) (o : Origin) (x : Row) (s : State), Passes s o 0x250100 f (fun d => numRow d 1) x ∧ (s.fadeState f = 0 ∨ s.fadeState f = 3) ∧ fdEndTick (s.row oFade f) ≤ s.now :=
  ⟨0, .hspi, [1], full.setRow oFade 0 (aFade 2 0 0 0), passes_of (by decide +kernel), by decide +kernel, by decide +kernel⟩

theorem fadeWrites_2c : ∃ (f : Nat) (o : Origin) (x : Row) (s : State), Passes s o 0x250100 f (fun d => numRow d 1) x ∧ (s.fadeState f = 1 ∨ (s.fadeState f = 2 ∧ s.now < fdEndTick (s.fade f).row)) :=
  ⟨0, .hspi, [1], (faded 0 1 (aUnit (aFade 2 0 9000 5)) full).setRow oFade 0 (aFade 2 0 9000 5), passes_of (by decide +kernel), by decide +kernel⟩

theorem fadeWrites_2d : ∃ (f : Nat) (o : Origin) (x : Row) (s : State), Passes s o 0x250100 f (fun d => numRow d 1) x ∧ s.fadeState f = 4 :=
  ⟨0, .hspi, [1], (faded 0 4 (aUnit (aFade 2 0 0 5)) full).setRow oFade 0 (aFade 2 0 0 5), passes_of (by decide +kernel), by decide +kernel⟩

theorem fadeWrites_3 : ∃ (f : Nat) (o : Origin) (x : Row) (s : State), Passes s o 0x250100 f (fun d => numRow d 0) x ∧ s.fadeState f = 1 :=
  ⟨0, .hspi, [0], tasked (faded 0 1 (aUnit (aFade 2 0 9000 5)) full), passes_of (by decide +kernel), by decide +kernel⟩

theorem fadeWrites_3b : ∃ (f : Nat) (o : Origin) (x : Row) (s : State), Passes s o 0x250100 f (fun d => numRow d 0) x ∧ s.fadeState f = 2 ∧ s.now < fdEndTick (s.fade f).row ∧ (s.fade f).latched = none :=
  ⟨0, .hspi, [0], tasked (faded 0 2 { aUnit (aFade 2 0 0 5) with bound := true } full), passes_of (by decide +kernel), by decide +kernel, by decide +kernel, by decide +kernel⟩

theorem fadeWrites_3c : ∃ (f : Nat) (o : Origin) (x : Row) (s : State), Passes s o 0x250100 f (fun d => numRow d 0) x ∧ s.fadeState f = 4 :=
  ⟨0, .hspi, [0], faded 0 4 (aUnit (aFade 2 0 0 5)) full, passes_of (by decide +kernel), by decide +kernel⟩

theorem fadeWrites_3d : ∃ (f : Nat) (o : Origin) (x : Row) (s : State), Passes s o 0x250100 f (fun d => numRow d 0) x ∧ (s.fadeState f = 0 ∨ s.fadeState f = 3) :=
  ⟨0, .hspi, [0], full, passes_of (by decide +kernel), by decide +kernel⟩

theorem fadeInstants_1 : ∃ (f : Nat) (v : Row) (u : State) (s : State), s.fadeState f = 1 ∧ v = (s.fade f).row ∧ u = s.advanceTo (fdStartTick v) ∧ fdDur v ≠ 0 ∧ u.outbid f (tickUp u.now) v = true :=
  ⟨0, _, _, faded 1 1 (aUnit (aFade 2 0 5000 9)) (faded 0 1 (aUnit (aFade 2 0 5000 1)) full), by decide +kernel, rfl, rfl, by decide +kernel⟩

theorem fadeInstants_2 : ∃ (f : Nat) (v : Row) (u : State) (s : State), s.fadeState f = 1 ∧ v = (s.fade f).row ∧ u = s.advanceTo (fdStartTick v) ∧ fdDur v ≠ 0 ∧ u.outbid f (tickUp u.now) v = false ∧ s.boundUnit (fdKind v) (fdIndex v) = none :=
  ⟨0, _, _, faded 0 1 (aUnit (aFade 2 0 5000 1)) full, by decide +kernel, rfl, rfl, by decide +kernel⟩

theorem fadeInstants_3 : ∃ (f : Nat) (v : Row) (u : State) (s : State) (h : Nat), s.fadeState f = 1 ∧ v = (s.fade f).row ∧ u = s.advanceTo (fdStartTick v) ∧ fdDur v ≠ 0 ∧ u.outbid f (tickUp u.now) v = false ∧ s.boundUnit (fdKind v) (fdIndex v) = some h ∧ h ≠ f ∧ tickUp u.now < fdEndTick (s.fade h).row ∧ ((s.fade h).boundAt ≠ tickUp u.now ∨ h < f) :=
  ⟨0, _, _, faded 1 2 { aUnit (aFade 2 0 0 9) with bound := true } (faded 0 1 (aUnit (aFade 2 0 5000 1)) full), 1, by decide +kernel, rfl, rfl, by decide +kernel⟩

theorem fadeInstants_4 : ∃ (f : Nat) (v : Row) (s : State), s.fadeState f = 2 ∧ v = (s.fade f).row ∧ fdNotify v = true ∧ 1 ≤ fdKind v ∧ fdKind v ≤ 4 :=
  ⟨0, _, tasked (faded 0 2 { aUnit (aFade 2 0 0 1) with bound := true } full), by decide +kernel, rfl, by decide +kernel, by decide +kernel, by decide +kernel⟩

theorem gaugeSamples_1 : ∃ (x : GaugeCode) (c : Nat) (code : Int) (ppm : Int) (s : State) (y : Rat), s.full = true ∧ c < 48 ∧ x.channel = c ∧ code = clampI (-8388607) 8388607 x.code ∧ ppm.natAbs ≤ 20000 ∧ s.fld oGauge c 0 ≠ 0 ∧ (s.gaugeCh c).settle = 0 ∧ code.natAbs ≠ 8388607 ∧ s.gaugeEng c (s.gaugeRange c) code = some y ∧ (s.fld oGauge c 0 ≠ 1 ∨ s.fld oGauge c 1 ≠ 4) :=
  ⟨⟨3, 1000⟩, 3, 1000, 0, gauging 2 GaugeCh.init, _, by decide +kernel, by decide +kernel, by decide +kernel, by decide +kernel, by decide +kernel, (by decide +kernel), by decide +kernel, by decide +kernel, rfl, by decide +kernel⟩

theorem gaugeSamples_1b : ∃ (x : GaugeCode) (c : Nat) (code : Int) (ppm : Int) (s : State) (y : Rat), s.full = true ∧ c < 48 ∧ x.channel = c ∧ code = clampI (-8388607) 8388607 x.code ∧ ppm.natAbs ≤ 20000 ∧ s.fld oGauge c 0 ≠ 0 ∧ (s.gaugeCh c).settle = 0 ∧ code.natAbs ≠ 8388607 ∧ s.gaugeEng c (s.gaugeRange c) code = some y ∧ (s.fld oGauge c 0 ≠ 1 ∨ s.fld oGauge c 1 ≠ 4) :=
  ⟨⟨3, -8388606⟩, 3, -8388606, 20000, gauging 4 GaugeCh.init, _, by decide +kernel, by decide +kernel, by decide +kernel, by decide +kernel, by decide +kernel, (by decide +kernel), by decide +kernel, by decide +kernel, rfl, by decide +kernel⟩

theorem gaugeSamples_2 : ∃ (x : GaugeCode) (c : Nat) (code : Int) (ppm : Int) (s : State), s.full = true ∧ c < 48 ∧ x.channel = c ∧ code = clampI (-8388607) 8388607 x.code ∧ ppm.natAbs ≤ 20000 ∧ s.fld oGauge c 0 ≠ 0 ∧ (s.gaugeCh c).settle = 0 ∧ code.natAbs ≠ 8388607 ∧ s.gaugeEng c (s.gaugeRange c) code = none ∧ (s.gaugeCh c).noValue = false :=
  ⟨⟨3, 0⟩, 3, 0, 0, gauging 3 GaugeCh.init, by decide +kernel, by decide +kernel, by decide +kernel, by decide +kernel, by decide +kernel, (by decide +kernel), by decide +kernel, by decide +kernel, by decide +kernel, by decide +kernel⟩

theorem gaugeSamples_3 : ∃ (x : GaugeCode) (c : Nat) (code : Int) (ppm : Int) (s : State), s.full = true ∧ c < 48 ∧ x.channel = c ∧ code = clampI (-8388607) 8388607 x.code ∧ ppm.natAbs ≤ 20000 ∧ s.fld oGauge c 0 ≠ 0 ∧ (s.gaugeCh c).settle = 0 ∧ code.natAbs = 8388607 ∧ (s.gaugeCh c).ovr = false :=
  ⟨⟨3, 9000000⟩, 3, 8388607, 0, gauging 2 GaugeCh.init, by decide +kernel, by decide +kernel, by decide +kernel, by decide +kernel, by decide +kernel, (by decide +kernel), by decide +kernel, by decide +kernel, by decide +kernel⟩

theorem gaugeSamples_3b : ∃ (x : GaugeCode) (c : Nat) (code : Int) (ppm : Int) (s : State), s.full = true ∧ c < 48 ∧ x.channel = c ∧ code = clampI (-8388607) 8388607 x.code ∧ ppm.natAbs ≤ 20000 ∧ s.fld oGauge c 0 ≠ 0 ∧ (s.gaugeCh c).settle = 0 ∧ code.natAbs = 8388607 ∧ (s.gaugeCh c).ovr = false :=
  ⟨⟨3, -9000000⟩, 3, -8388607, 0, gauging 3 GaugeCh.init, by decide +kernel, by decide +kernel, by decide +kernel, by decide +kernel, by decide +kernel, (by decide +kernel), by decide +kernel, by decide +kernel, by decide +kernel⟩

theorem gaugeSamples_4 : ∃ (x : GaugeCode) (c : Nat) (code : Int) (ppm : Int) (s : State) (n : Nat), s.full = true ∧ c < 48 ∧ x.channel = c ∧ code = clampI (-8388607) 8388607 x.code ∧ ppm.natAbs ≤ 20000 ∧ s.fld oGauge c 0 ≠ 0 ∧ (s.gaugeCh c).settle = n + 1 :=
  ⟨⟨3, 5⟩, 3, 5, 0, gauging 2 { GaugeCh.init with settle := 2 }, 1, by decide +kernel⟩

theorem gaugeSamples_5 : ∃ (x : GaugeCode) (c : Nat) (code : Int) (ppm : Int) (s : State), s.full = true ∧ c < 48 ∧ x.channel = c ∧ code = clampI (-8388607) 8388607 x.code ∧ ppm.natAbs ≤ 20000 ∧ s.fld oGauge c 0 = 0 :=
  ⟨⟨3, 5⟩, 3, 5, 0, full, by decide +kernel⟩

theorem gaugeSamples_6 : ∃ (x : GaugeCode) (c : Nat) (code : Int) (ppm : Int) (s : State), s.full = true ∧ c < 48 ∧ x.channel = c ∧ code = clampI (-8388607) 8388607 x.code ∧ 20000 < ppm.natAbs ∧ s.light.refFault = false :=
  ⟨⟨3, 5⟩, 3, 5, 20001, gauging 2 GaugeCh.init, by decide +kernel, by decide +kernel, by decide +kernel, by decide +kernel, by decide +kernel, by decide +kernel⟩

theorem testAndFaultCommands_1 : ∃ (mask : Nat) (h : Nat) (o : Origin) (x : Row) (s : State), Passes s o 0x256000 0 (fun d => numRow d mask) x ∧ ((1 : Nat).testBit 0 = true ∧ s.quireState 0 ≠ 0 ∧ s.quireState 0 ≠ 2) :=
  ⟨1, 0, .hspi, [1], quired 3 Quire.init, passes_of (by decide +kernel), by decide +kernel⟩

theorem testAndFaultCommands_1b : ∃ (mask : Nat) (h : Nat) (o : Origin) (x : Row) (s : State), Passes s o 0x256000 0 (fun d => numRow d mask) x ∧ (∀ q, q < 16 → mask.testBit q = true → s.quireState q = 0 ∨ s.quireState q = 2) ∧ ((∀ q, q < 16 → mask.testBit q = true → s.quireState q = 0 ∨ s.quireState q = 2)) ∧ (s.light.test ≠ none) :=
  ⟨1, 0, .hspi, [1], { quired 2 Quire.init with light := { (quired 2 Quire.init).light with test := some (2, 64) } }, passes_of (by decide +kernel), by decide +kernel, fun q hq _ => (by decide +kernel : ∀ q ∈ List.range 16, { quired 2 Quire.init with light := { (quired 2 Quire.init).light with test := some (2, 64) } }.quireState q = 0 ∨ { quired 2 Quire.init with light := { (quired 2 Quire.init).light with test := some (2, 64) } }.quireState q = 2) q (List.mem_range.mpr hq), by decide +kernel⟩

theorem testAndFaultCommands_1c : ∃ (mask : Nat) (h : Nat) (o : Origin) (x : Row) (s : State), Passes s o 0x256000 0 (fun d => numRow d mask) x ∧ (∀ q, q < 16 → mask.testBit q = true → s.quireState q = 0 ∨ s.quireState q = 2) ∧ ((∀ q, q < 16 → mask.testBit q = true → s.quireState q = 0 ∨ s.quireState q = 2)) ∧ (s.light.test = none) ∧ (NewHandle s h) :=
  ⟨65535, 1088, .hspi, [65535], (quired 2 Quire.init), passes_of (by decide +kernel), by decide +kernel, fun q hq _ => (by decide +kernel : ∀ q ∈ List.range 16, (quired 2 Quire.init).quireState q = 0 ∨ (quired 2 Quire.init).quireState q = 2) q (List.mem_range.mpr hq), by decide +kernel, newHandle_of (by decide +kernel)⟩

theorem testAndFaultCommands_2 : ∃ (mask : Nat) (h : Nat) (high : List (Nat × Nat)) (stuck : List Nat) (s : State), s.light.test = some (mask, h) ∧ s.handleLive h = true ∧ (s.adjacent 0 1 = true ∧ s.pinTestable 1 = true ∧ s.rowCount oShortResult = 0 ∧ s.light.shortMore = []) :=
  ⟨1, 1088, [(0, 1)], [], tasked { quired 2 Quire.init with light := { (quired 2 Quire.init).light with test := some (1, 1088) } }, by decide +kernel, by decide +kernel, by decide +kernel⟩

theorem testAndFaultCommands_3 : ∃ (v : Nat) (o : Origin) (x : Row) (s : State), Passes s o 0x257100 0 (fun d => numRow d v) x ∧ v = 1 :=
  ⟨1, .hspi, [1], full, passes_of (by decide +kernel), by decide +kernel⟩

theorem testAndFaultCommands_3b : ∃ (v : Nat) (o : Origin) (x : Row) (s : State), Passes s o 0x257100 0 (fun d => numRow d v) x ∧ v = 0 :=
  ⟨0, .hspi, [0], full, passes_of (by decide +kernel), by decide +kernel⟩

theorem testAndFaultCommands_4 : ∃ (r : Nat) (v : Nat) (o : Origin) (x : Row) (s : State), Passes s o 0x254400 r (fun d => numRow d v) x ∧ v = 1 :=
  ⟨255, 1, .hspi, [1], full, passes_of (by decide +kernel), by decide +kernel⟩

theorem testAndFaultCommands_4b : ∃ (r : Nat) (v : Nat) (o : Origin) (x : Row) (s : State), Passes s o 0x254400 r (fun d => numRow d v) x ∧ v ≠ 1 :=
  ⟨0, 0, .hspi, [0], full, passes_of (by decide +kernel), by decide +kernel⟩

theorem reftAndStore_1 : ∃ (ppm : Int) (s : State), s.timeRuns = true ∧ s.reftPresent ≠ decide (ppm.natAbs ≤ 100) ∧ ppm.natAbs ≤ 100 :=
  ⟨100, full, by decide +kernel, by decide +kernel, by decide +kernel⟩

theorem reftAndStore_1b : ∃ (ppm : Int) (s : State), s.timeRuns = true ∧ s.reftPresent ≠ decide (ppm.natAbs ≤ 100) ∧ 100 < ppm.natAbs :=
  ⟨-101, full.setFld oReft 0 0 1, by decide +kernel, by decide +kernel, by decide +kernel⟩

theorem reftAndStore_2 : ∃ (ppm : Int) (s : State), s.timeRuns = true ∧ s.reftPresent = decide (ppm.natAbs ≤ 100) :=
  ⟨0, full.setFld oReft 0 0 1, by decide +kernel⟩

theorem reftAndStore_3 : ∃ (s : State), s.full = true ∧ s.cal.running = none ∧ s.reftPresent = true :=
  ⟨full.setFld oReft 0 0 1, by decide +kernel⟩

theorem reftAndStore_4 : ∃ (s : State), s.full = true ∧ s.cal.running = none ∧ s.reftPresent = false :=
  ⟨full, by decide +kernel⟩

theorem reftAndStore_5 : ∃ (n : Nat) (start : Nat) (ref : Nat) (bins : List Nat) (s : State), s.cal.running = some (start, ref) ∧ 0 < n ∧ ref ≠ 0 :=
  ⟨40000000, 5, 7, [1, 2, 3], calibrated { Cal.init with running := some (5, 7) }, by decide +kernel, by decide +kernel, by decide +kernel⟩

theorem reftAndStore_6 : ∃ (v : Nat) (o : Origin) (x : Row) (s : State), Passes s o 0x263100 0 (fun d => numRow d v) x ∧ v = 1 :=
  ⟨1, .hspi, [1], full, passes_of (by decide +kernel), by decide +kernel⟩

theorem reftAndStore_6b : ∃ (v : Nat) (o : Origin) (x : Row) (s : State), Passes s o 0x263100 0 (fun d => numRow d v) x ∧ v = 0 :=
  ⟨0, .hspi, [0], full, passes_of (by decide +kernel), by decide +kernel⟩

theorem reftAndStore_7 : ∃ (ok : Bool) (s : State), s.full = true ∧ s.cal.writing = true ∧ s.holdCal = false ∧ s.calUnreadable = false ∧ ok = true :=
  ⟨true, calibrated { Cal.init with writing := true }, by decide +kernel⟩

theorem reftAndStore_8 : ∃ (ok : Bool) (s : State), s.full = true ∧ s.cal.writing = true ∧ s.holdCal = false ∧ s.calUnreadable = false ∧ ok = false :=
  ⟨false, calibrated { Cal.init with writing := true }, by decide +kernel⟩

theorem reftAndStore_9 : ∃ (ok : Bool) (s : State), s.full = true ∧ s.cal.writing = true ∧ s.holdCal = true :=
  ⟨true, trialing (calibrated { Cal.init with writing := true }), by decide +kernel⟩

theorem reftAndStore_10 : ∃ (ok : Bool) (s : State), s.full = true ∧ s.cal.writing = true ∧ s.holdCal = false ∧ s.calUnreadable = true :=
  ⟨true, let s := calibrated { Cal.init with writing := true }; { s with flash := { s.flash with slotA := .empty, cal := ({ s.flash.cal with format := 5 } : CalStore).sealed } }, by decide +kernel⟩

theorem calibrationCommands_1 : ∃ (q : Nat) (ms : List PinMeasure) (xs : List PinMeasure) (m : PinMeasure) (tr : Rat) (tf : Rat) (r : EdgeMeasure) (f : EdgeMeasure) (s : State), s.full = true ∧ q < 16 ∧ legacy (s.qRate q) = false ∧ (s.quireState q = 2 ∨ s.quireState q = 3) ∧ xs = s.passMeasures q ms ∧ m ∈ xs ∧ tr = maxOf (xs.map (fun m => (edgeMeasure s.cal m.d0Rise m.d63Rise (toI 16 (s.fld oCalPin m.pin 2))).e)) ∧ tf = maxOf (xs.map (fun m => (edgeMeasure s.cal m.d0Fall m.d63Fall (toI 16 (s.fld oCalPin m.pin 3))).e)) ∧ r = edgeMeasure s.cal m.d0Rise m.d63Rise (toI 16 (s.fld oCalPin m.pin 2)) ∧ f = edgeMeasure s.cal m.d0Fall m.d63Fall (toI 16 (s.fld oCalPin m.pin 3)) ∧ 0 < r.tap ∧ 0 < f.tap ∧ pinAutoEdge (s.row oCalPin m.pin) = true :=
  ⟨0, [aPin], _, aPin, _, _, _, _, calibrated Cal.init, by decide +kernel, by decide +kernel, by decide +kernel, by decide +kernel, rfl, by decide +kernel, rfl, rfl, rfl, rfl, by decide +kernel, by decide +kernel, by decide +kernel⟩

theorem calibrationCommands_2 : ∃ (q : Nat) (s : State), ((s.quire q).inFrame = true ∨ (s.quire q).window ≠ none) :=
  ⟨0, quired 4 { Quire.init with inFrame := true }, by decide +kernel⟩

theorem calibrationCommands_3 : ∃ (q : Nat) (p : Nat) (v : Row) (s : State), s.full = true ∧ q < 16 ∧ p / 16 = q ∧ (s.quire q).inFrame = false ∧ (s.quire q).window = none ∧ (s.quire q).requests = [] ∧ (s.quire q).nextK = none ∧ tfind s.cal.staged p = some v ∧ tget 0 s.cal.stagedAt p + 3 ≤ s.clk.elapsed :=
  ⟨0, 0, [1, 2, 17, 8], let s := quired 2 Quire.init; { s with cal := { s.cal with staged := [(0, [1, 2, 17, 8])] }, clk := { s.clk with elapsed := 3 } }, by decide +kernel⟩

theorem referenceSessions_1 : ∃ (v : List Byte) (o : Origin) (x : Row) (h : Nat) (s : State), Passes s o 0x262000 0 (fun d => rowOf d v) x ∧ sessionInRange x = false :=
  ⟨joinFields sessionFlds (aSessionRow 0 0), .hspi, aSessionRow 0 0, 1088, gauging 1 GaugeCh.init, passes_of (by decide +kernel), by decide +kernel⟩

theorem referenceSessions_1b : ∃ (v : List Byte) (o : Origin) (x : Row) (h : Nat) (s : State), Passes s o 0x262000 0 (fun d => rowOf d v) x ∧ sessionInRange x = true ∧ s.sessionReady x = false :=
  ⟨joinFields sessionFlds (aSessionRow 0 1), .hspi, aSessionRow 0 1, 1088, gauging 2 GaugeCh.init, passes_of (by decide +kernel), by decide +kernel, by decide +kernel⟩

theorem referenceSessions_1c : ∃ (v : List Byte) (o : Origin) (x : Row) (h : Nat) (s : State), Passes s o 0x262000 0 (fun d => rowOf d v) x ∧ sessionInRange x = true ∧ s.sessionReady x = true ∧ s.cal.session ≠ none :=
  ⟨joinFields sessionFlds (aSessionRow 0 1), .hspi, aSessionRow 0 1, 1088, measuring (aRef 0 1), passes_of (by decide +kernel), by decide +kernel, by decide +kernel, by decide +kernel⟩

theorem referenceSessions_1d : ∃ (v : List Byte) (o : Origin) (x : Row) (h : Nat) (s : State), Passes s o 0x262000 0 (fun d => rowOf d v) x ∧ sessionInRange x = true ∧ s.sessionReady x = true ∧ s.cal.session = none ∧ NewHandle s h :=
  ⟨joinFields sessionFlds (aSessionRow 0 1), .hspi, aSessionRow 0 1, 1088, gauging 1 GaugeCh.init, passes_of (by decide +kernel), by decide +kernel, by decide +kernel, by decide +kernel, newHandle_of (by decide +kernel)⟩

theorem referenceSessions_2 : ∃ (v : Nat) (o : Origin) (x : Row) (s : State), Passes s o 0x262100 0 (fun d => numRow d v) x ∧ s.cal.session = none :=
  ⟨0x3F800000, .hspi, [0x3F800000], full, passes_of (by decide +kernel), by decide +kernel⟩

theorem referenceSessions_2b : ∃ (v : Nat) (o : Origin) (x : Row) (s : State), Passes s o 0x262100 0 (fun d => numRow d v) x ∧ (s.cal.session = some (aRef 0 1) ∧ rsMeter (aRef 0 1).row = false) :=
  ⟨0x3F800000, .hspi, [0x3F800000], measuring (aRef 0 1), passes_of (by decide +kernel), by decide +kernel⟩

theorem referenceSessions_2c : ∃ (v : Nat) (o : Origin) (x : Row) (s : State), Passes s o 0x262100 0 (fun d => numRow d v) x ∧ (s.cal.session = some (aRef 1 1) ∧ rsMeter (aRef 1 1).row = true ∧ (aRef 1 1).ended = false) :=
  ⟨0x3F800000, .hspi, [0x3F800000], measuring (aRef 1 1), passes_of (by decide +kernel), by decide +kernel⟩

theorem referenceSessions_3 : ∃ (v : Nat) (o : Origin) (x : Row) (s : State), Passes s o 0x262200 0 (fun d => numRow d v) x ∧ v = 0 :=
  ⟨0, .hspi, [0], measuring (aRef 0 1), passes_of (by decide +kernel), by decide +kernel⟩

theorem referenceSessions_3b : ∃ (v : Nat) (o : Origin) (x : Row) (s : State), Passes s o 0x262200 0 (fun d => numRow d v) x ∧ (s.cal.session = some (aRef 0 1) ∧ s.handleLive (aRef 0 1).handle = true) :=
  ⟨1, .hspi, [1], measuring (aRef 0 1), passes_of (by decide +kernel), by decide +kernel⟩

theorem referenceSessions_4 : ∃ (y : RefSession) (m : Rat) (g : Rat) (s : State), s.cal.session = some y ∧ y.ended = false ∧ s.handleLive y.handle = true ∧ (m = if y.count = 0 then 0 else y.sum / (y.count : Rat)) ∧ (g = if m = 0 then 0 else rsReference y.row / m) ∧ y.fault = true :=
  ⟨{ aRef 0 1 with fault := true }, _, _, measuring { aRef 0 1 with fault := true }, by decide +kernel, by decide +kernel, by decide +kernel, rfl, rfl, by decide +kernel⟩

theorem referenceSessions_5 : ∃ (y : RefSession) (m : Rat) (g : Rat) (s : State), s.cal.session = some y ∧ y.ended = false ∧ s.handleLive y.handle = true ∧ (m = if y.count = 0 then 0 else y.sum / (y.count : Rat)) ∧ (g = if m = 0 then 0 else rsReference y.row / m) ∧ y.fault = false ∧ rsMeter y.row = true ∧ y.reading = none :=
  ⟨aRef 1 1, _, _, measuring (aRef 1 1), by decide +kernel, by decide +kernel, by decide +kernel, rfl, rfl, by decide +kernel⟩

theorem referenceSessions_6 : ∃ (y : RefSession) (m : Rat) (g : Rat) (s : State), s.cal.session = some y ∧ y.ended = false ∧ s.handleLive y.handle = true ∧ (m = if y.count = 0 then 0 else y.sum / (y.count : Rat)) ∧ (g = if m = 0 then 0 else rsReference y.row / m) ∧ y.fault = false ∧ rsMeter y.row = false ∧ 1 / 10 ≤ g ∧ g ≤ 10 :=
  ⟨aRef 0 1, _, _, measuring (aRef 0 1), by decide +kernel, by decide +kernel, by decide +kernel, rfl, rfl, by decide +kernel⟩

theorem referenceSessions_6b : ∃ (y : RefSession) (m : Rat) (g : Rat) (s : State), s.cal.session = some y ∧ y.ended = false ∧ s.handleLive y.handle = true ∧ (m = if y.count = 0 then 0 else y.sum / (y.count : Rat)) ∧ (g = if m = 0 then 0 else rsReference y.row / m) ∧ y.fault = false ∧ rsMeter y.row = false ∧ 1 / 10 ≤ g ∧ g ≤ 10 :=
  ⟨aRef 0 10, _, _, measuring (aRef 0 10), by decide +kernel, by decide +kernel, by decide +kernel, rfl, rfl, by decide +kernel⟩

theorem referenceSessions_7 : ∃ (y : RefSession) (m : Rat) (g : Rat) (s : State), s.cal.session = some y ∧ y.ended = false ∧ s.handleLive y.handle = true ∧ (m = if y.count = 0 then 0 else y.sum / (y.count : Rat)) ∧ (g = if m = 0 then 0 else rsReference y.row / m) ∧ y.fault = false ∧ rsMeter y.row = false ∧ (g < 1 / 10 ∨ 10 < g) :=
  ⟨aRef 0 11, _, _, measuring (aRef 0 11), by decide +kernel, by decide +kernel, by decide +kernel, rfl, rfl, by decide +kernel⟩

theorem referenceSessions_7b : ∃ (y : RefSession) (m : Rat) (g : Rat) (s : State), s.cal.session = some y ∧ y.ended = false ∧ s.handleLive y.handle = true ∧ (m = if y.count = 0 then 0 else y.sum / (y.count : Rat)) ∧ (g = if m = 0 then 0 else rsReference y.row / m) ∧ y.fault = false ∧ rsMeter y.row = false ∧ (g < 1 / 10 ∨ 10 < g) :=
  ⟨{ aRef 0 1 with count := 0 }, _, _, measuring { aRef 0 1 with count := 0 }, by decide +kernel, by decide +kernel, by decide +kernel, rfl, rfl, by decide +kernel⟩

theorem referenceSessions_8 : ∃ (y : RefSession) (s : State), s.cal.session = some y ∧ rsMeter y.row = true ∧ y.reading = none ∧ s.handleLive y.handle = true :=
  ⟨{ aRef 1 1 with ended := true }, measuring { aRef 1 1 with ended := true }, by decide +kernel⟩

theorem referenceSessions_9 : ∃ (y : RefSession) (s : State), s.cal.session = some y ∧ (rsMeter y.row = false ∨ y.reading ≠ none) :=
  ⟨aRef 0 1, measuring (aRef 0 1), by decide +kernel⟩

theorem referenceSessions_10 : ∃ (k : Nat) (v : Nat) (o : Origin) (x : Row) (s : State), Passes s o 0x262400 k (fun d => numRow d v) x ∧ v = 1 :=
  ⟨287, 1, .hspi, [1], full, passes_of (by decide +kernel), by decide +kernel⟩

theorem referenceSessions_10b : ∃ (k : Nat) (v : Nat) (o : Origin) (x : Row) (s : State), Passes s o 0x262400 k (fun d => numRow d v) x ∧ v ≠ 1 :=
  ⟨3, 0, .hspi, [0], full, passes_of (by decide +kernel), by decide +kernel⟩

theorem twinPaths_1 : ∃ (u : State) (s : State), s.timeRuns = true ∧ s.twinEnabled = true ∧ u = s.advanceTo s.twin.nextBeat :=
  ⟨_, twins 1 full.twin, by decide +kernel, by decide +kernel, rfl⟩

theorem twinPaths_2 : ∃ (u : State) (s : State), s.timeRuns = true ∧ s.twinEnabled = true ∧ u = s.advanceTo s.twin.nextHeart ∧ s.val 0x12100E = 0xFF ∧ s.portState 2 = 1 ∧ (∀ n, n ≤ 6 → s.grant 22 n = n) ∧ (s.val 0x12100E = 0xFF ∧ s.portState 2 = 1) ∧ (∀ n, n ≤ 6 → s.grant 22 n = n) :=
  ⟨_, twins 1 full.twin, by decide +kernel, by decide +kernel, rfl, by decide +kernel, by decide +kernel, by decide +kernel, by decide +kernel, fun n h => (by decide +kernel : ∀ n ∈ List.range 7, (twins 1 full.twin).grant 22 n = n) n (List.mem_range.mpr (Nat.lt_succ_of_le h))⟩

set_option maxRecDepth 100000 in
theorem twinPaths_3 : ∃ (a : Nat) (bs : List Byte) (s : State), s.booting = true ∧ bs.length = 152 ∧ crc32c (bs.take 148) = beatByte bs 148 4 ∧ beatByte bs 0 1 = 1 :=
  ⟨9, aBeat 2, State.reset, by decide +kernel⟩

theorem twinPaths_4 : ∃ (a : Nat) (bs : List Byte) (u : State) (s : State), u = s.advanceTo a ∧ s.timeRuns = true ∧ (bs.length ≠ 152 ∨ crc32c (bs.take 148) ≠ beatByte bs 148 4 ∨ beatByte bs 0 1 ≠ 1) :=
  ⟨9, [], _, twins 1 full.twin, rfl, by decide +kernel⟩

set_option maxRecDepth 100000 in
theorem twinPaths_4b : ∃ (a : Nat) (bs : List Byte) (u : State) (s : State), u = s.advanceTo a ∧ s.timeRuns = true ∧ (bs.length ≠ 152 ∨ crc32c (bs.take 148) ≠ beatByte bs 148 4 ∨ beatByte bs 0 1 ≠ 1) :=
  ⟨9, (aBeat 2).set 147 1#8, _, twins 1 full.twin, rfl, by decide +kernel⟩

set_option maxRecDepth 100000 in
theorem twinPaths_5 : ∃ (a : Nat) (bs : List Byte) (u : State) (s : State), u = s.advanceTo a ∧ s.timeRuns = true ∧ bs.length = 152 ∧ crc32c (bs.take 148) = beatByte bs 148 4 ∧ beatByte bs 0 1 = 1 ∧ s.twinEnabled = true ∧ beatByte bs 1 1 = s.val 0x121002 ∧ s.full = true ∧ s.twinState = 0 ∧ beatByte bs 2 1 = 2 ∧ beatByte bs 4 1 ≠ s.rank ∧ (∀ q, q < 16 → (s.quire q).sigs = []) ∧ (s.full = true ∧ s.twinEnabled = true ∧ beatByte bs 1 1 = s.val 0x121002 ∧ s.twinState = 0 ∧ beatByte bs 2 1 = 2 ∧ beatByte bs 4 1 ≠ s.rank) ∧ ((∀ q, q < 16 → (s.quire q).sigs = [])) :=
  ⟨9, aBeat 2, _, twins 0 full.twin, rfl, by decide +kernel, by decide +kernel, by decide +kernel, by decide +kernel, by decide +kernel, (by decide +kernel), by decide +kernel, by decide +kernel, by decide +kernel, by decide +kernel, by decide +kernel, (by decide +kernel), fun q hq => (by decide +kernel : ∀ q ∈ List.range 16, ((twins 0 full.twin).quire q).sigs = []) q (List.mem_range.mpr hq)⟩

theorem twinPaths_6 : ∃ (m : EopMsg) (u : State) (s : State), Passes5 s 0x20 m u ∧ 2 ≤ m.port ∧ (u.val 0x12100E = 0xFF ∨ isSealed m = true) ∧ u.twinEnabled = true ∧ beatByte m.payload 0 1 = 1 ∧ beatByte m.payload 1 1 = u.val 0x121002 ∧ u.chainUp = false :=
  ⟨{ aMsg (beatBody 2) with session := 0xFFFF }, after ({ aMsg (beatBody 2) with session := 0xFFFF }) (twins 1 full.twin), twins 1 full.twin, passes5_of (by decide +kernel), by decide +kernel, by decide +kernel, by decide +kernel, by decide +kernel, by decide +kernel, by decide +kernel⟩

theorem twinPaths_7 : ∃ (m : EopMsg) (u : State) (s : State), Passes5 s 0x20 m u ∧ 2 ≤ m.port ∧ (u.val 0x12100E = 0xFF ∨ isSealed m = true) ∧ u.twinEnabled = false :=
  ⟨{ aMsg (beatBody 2) with session := 0xFFFF }, after ({ aMsg (beatBody 2) with session := 0xFFFF }) ((twins 1 full.twin).setVal 0x121001 0), (twins 1 full.twin).setVal 0x121001 0, passes5_of (by decide +kernel), by decide +kernel⟩

theorem twinPaths_8 : ∃ (s : State), s.timeRuns = true ∧ s.dike ≠ 2 ∧ s.full = true ∧ s.twinEnabled = true ∧ (s.twinState = 1 ∨ s.twinState = 2) :=
  ⟨(twins 1 full.twin).setFld oTwin 0 4 1, by decide +kernel, by decide +kernel, by decide +kernel, by decide +kernel, by decide +kernel⟩

theorem twinPaths_9 : ∃ (s : State), s.timeRuns = true ∧ s.dike ≠ 0 ∧ s.full = true ∧ s.twinEnabled = true ∧ s.chainUp = false ∧ (s.twinState = 1 ∨ s.twinState = 2) :=
  ⟨(twins 1 full.twin).setFld oTwin 0 4 1, by decide +kernel, by decide +kernel, by decide +kernel, by decide +kernel, by decide +kernel, by decide +kernel⟩

theorem twinPaths_10 : ∃ (s : State) (b : Nat), s.timeRuns = true ∧ s.twin.beatAt = some b ∧ s.dike = 1 ∧ s.full = true ∧ s.twinEnabled = true ∧ s.chainUp = false ∧ (s.twinState = 1 ∨ s.twinState = 2) :=
  ⟨(twins 2 { full.twin with beatAt := some 5 }).setFld oTwin 0 4 1, 5, by decide +kernel, by decide +kernel, by decide +kernel, by decide +kernel, by decide +kernel, by decide +kernel, by decide +kernel⟩

theorem twinPaths_11 : ∃ (s : State) (b : Nat), s.timeRuns = true ∧ s.twin.heartAt = some b ∧ s.chainUp = true ∧ s.full = true ∧ s.twinEnabled = true ∧ s.dike = 0 ∧ (s.twinState = 1 ∨ s.twinState = 2) :=
  ⟨(twins 2 { full.twin with heartAt := some 5 }).setFld oTwin 0 5 1, 5, by decide +kernel, by decide +kernel, by decide +kernel, by decide +kernel, by decide +kernel, by decide +kernel, by decide +kernel⟩

theorem twinTransitions_1 : ∃ (b : Nat) (s : State), s.full = true ∧ s.timeRuns = true ∧ s.twinEnabled = true ∧ s.twinState = 4 ∧ s.twin.outSince = some b ∧ s.partnerIn = false :=
  ⟨5, twins 4 { full.twin with outSince := some 5 }, by decide +kernel⟩

theorem twinTransitions_2 : ∃ (u : State) (s : State), s.full = true ∧ s.timeRuns = true ∧ s.twinEnabled = true ∧ s.twinState = 4 ∧ u = s.advanceTo (s.twin.since + s.val 0x12100B * 1000000000) ∧ s.partnerIn = true ∧ u.joinReady = true :=
  ⟨_, (twins 4 { full.twin with hearSince := some 0, partner := some { state := 1, crest := 0, rank := 3, flags := 0, handoverAt := 0 } }).setFld oTwin 0 4 1, by decide +kernel, by decide +kernel, by decide +kernel, by decide +kernel, rfl, by decide +kernel⟩

theorem twinTransitions_3 : ∃ (u : State) (s : State), s.full = true ∧ s.timeRuns = true ∧ s.twinEnabled = true ∧ s.twinState = 4 ∧ u = s.advanceTo (s.twin.since + s.val 0x12100B * 1000000000) ∧ (s.partnerIn = true → u.joinReady = false) ∧ s.twin.outSince = none ∧ (s.partnerState = 4 → s.rank ≤ s.partnerRank) :=
  ⟨_, twins 4 full.twin, by decide +kernel, by decide +kernel, by decide +kernel, by decide +kernel, rfl, by decide +kernel⟩

theorem twinTransitions_4 : ∃ (u : State) (s : State) (recent : List Nat), s.full = true ∧ s.twinEnabled = true ∧ s.twinState = 3 ∧ (s.twin.reason = 6 ∨ s.twin.reason = 9) ∧ u = s.advanceTo (s.twin.since + s.val 0x12100D * 1000000000) ∧ recent = s.twin.rejoins.filter (fun x => decide (u.now ≤ x + 3600000000000) && decide (x < u.now)) ∧ recent.length < 3 ∧ s.partnerPresent = false ∧ 0 < s.val 0x12100B :=
  ⟨_, twins 3 { full.twin with reason := 6 }, _, by decide +kernel, by decide +kernel, by decide +kernel, by decide +kernel, rfl, rfl, by decide +kernel⟩

theorem twinTransitions_5 : ∃ (u : State) (s : State) (recent : List Nat), s.full = true ∧ s.twinEnabled = true ∧ s.twinState = 3 ∧ (s.twin.reason = 6 ∨ s.twin.reason = 9) ∧ u = s.advanceTo (s.twin.since + s.val 0x12100D * 1000000000) ∧ recent = s.twin.rejoins.filter (fun x => decide (u.now ≤ x + 3600000000000) && decide (x < u.now)) ∧ 3 ≤ recent.length :=
  ⟨_, twins 3 { full.twin with reason := 9, rejoins := [1, 2, 3] }, _, by decide +kernel, by decide +kernel, by decide +kernel, by decide +kernel, rfl, rfl, by decide +kernel⟩

theorem twinTransitions_6 : ∃ (s : State), s.full = true ∧ s.timeRuns = true ∧ s.twinEnabled = true ∧ s.twinState = 2 ∧ s.val 0x121004 = 1 ∧ s.val 0x120002 ≤ 8 :=
  ⟨(twins 2 full.twin).setVal 0x121004 1, by decide +kernel⟩

theorem twinTransitions_7 : ∃ (a : Nat) (b : Option Nat) (u : State) (s : State), s.twin.handover = some (a, b, true) ∧ u = s.advanceTo a ∧ s.full = true ∧ s.timeRuns = true ∧ s.twinEnabled = true ∧ (s.twinState = 1 ∨ s.twinState = 2) ∧ s.partnerOut = false ∧ (∀ x, s.twin.beatAt = some x → s.dike = 1 → u.now < x + 1000000) ∧ (∀ x, s.twin.heartAt = some x → s.chainUp = true → u.now < x + s.val 0x121008 * s.val 0x121007 * 1000000) :=
  ⟨300000000, some 0, _, (twins 1 { full.twin with handover := some (300000000, some 0, true), beatAt := some 299999999, partner := some { state := 2, crest := 0, rank := 3, flags := 0, handoverAt := 0 } }).setFld oTwin 0 4 1, by decide +kernel, rfl, by decide +kernel⟩

theorem twinTransitions_8 : ∃ (a : Nat) (b : Option Nat) (u : State) (s : State) (x : Nat), s.twin.handover = some (a, b, true) ∧ u = s.advanceTo a ∧ s.full = true ∧ s.timeRuns = true ∧ s.twinEnabled = true ∧ (s.twinState = 1 ∨ s.twinState = 2) ∧ s.twin.beatAt = some x ∧ s.dike = 1 ∧ s.chainUp = false ∧ x + 1000000 ≤ u.now :=
  ⟨300000000, some 0, _, (twins 1 { full.twin with handover := some (300000000, some 0, true), beatAt := some 299000000, partner := some { state := 2, crest := 0, rank := 3, flags := 0, handoverAt := 0 } }).setFld oTwin 0 4 1, 299000000, by decide +kernel, rfl, by decide +kernel⟩

theorem twinTransitions_9 : ∃ (a : Nat) (b : Option Nat) (s : State), s.twin.handover = some (a, b, false) ∧ s.twinState = 1 :=
  ⟨300000000, some 0, twins 1 { full.twin with handover := some (300000000, some 0, false) }, by decide +kernel⟩

theorem twinCommands_1 : ∃ (v : Nat) (o : Origin) (x : Row) (s : State), Passes s o 0x502000 0 (fun d => numRow d v) x ∧ v = 1 ∧ s.twinEnabled = true ∧ (¬(s.twinState = 3 ∧ s.twin.reason = 8)) :=
  ⟨1, .hspi, [1], twins 1 full.twin, passes_of (by decide +kernel), by decide +kernel, by decide +kernel, by decide +kernel⟩

theorem twinCommands_1b : ∃ (v : Nat) (o : Origin) (x : Row) (s : State), Passes s o 0x502000 0 (fun d => numRow d v) x ∧ (v = 0 ∨ s.twinEnabled = false) :=
  ⟨0, .hspi, [0], twins 1 full.twin, passes_of (by decide +kernel), by decide +kernel⟩

theorem twinCommands_1c : ∃ (v : Nat) (o : Origin) (x : Row) (s : State), Passes s o 0x502000 0 (fun d => numRow d v) x ∧ s.twinState = 3 ∧ s.twin.reason = 8 :=
  ⟨1, .hspi, [1], twins 3 { full.twin with reason := 8 }, passes_of (by decide +kernel), by decide +kernel, by decide +kernel⟩

theorem twinCommands_2 : ∃ (v : List Byte) (o : Origin) (x : Row) (s : State), Passes s o 0x502100 0 (fun d => rowOf d v) x ∧ s.twinState ≠ 1 :=
  ⟨joinFields [fPt] [nsPt 300000000], .hspi, [nsPt 300000000], twins 2 full.twin, passes_of (by decide +kernel), by decide +kernel⟩

theorem twinCommands_2b : ∃ (v : List Byte) (o : Origin) (x : Row) (s : State), Passes s o 0x502100 0 (fun d => rowOf d v) x ∧ s.twinState = 1 ∧ ptNs (x.headD 0) < s.now + 200000000 :=
  ⟨joinFields [fPt] [nsPt 199999999], .hspi, [nsPt 199999999], twins 1 full.twin, passes_of (by decide +kernel), by decide +kernel, by decide +kernel⟩

theorem twinCommands_2c : ∃ (v : List Byte) (o : Origin) (x : Row) (s : State), Passes s o 0x502100 0 (fun d => rowOf d v) x ∧ s.twinState = 1 ∧ s.now + 200000000 ≤ ptNs (x.headD 0) ∧ s.diverged = true :=
  ⟨joinFields [fPt] [nsPt 200000000], .hspi, [nsPt 200000000], (twins 1 full.twin).setFld oTwin 0 6 1, passes_of (by decide +kernel), by decide +kernel, by decide +kernel, by decide +kernel⟩

theorem twinCommands_2d : ∃ (v : List Byte) (o : Origin) (x : Row) (s : State), Passes s o 0x502100 0 (fun d => rowOf d v) x ∧ s.twinState = 1 ∧ s.now + 200000000 ≤ ptNs (x.headD 0) ∧ s.diverged = false :=
  ⟨joinFields [fPt] [nsPt 200000000], .hspi, [nsPt 200000000], twins 1 full.twin, passes_of (by decide +kernel), by decide +kernel, by decide +kernel, by decide +kernel⟩

theorem twinCommands_2e : ∃ (v : List Byte) (o : Origin) (x : Row) (s : State), Passes s o 0x502100 0 (fun d => rowOf d v) x ∧ s.twinState = 1 ∧ s.now + 200000000 ≤ ptNs (x.headD 0) ∧ s.diverged = false :=
  ⟨joinFields [fPt] [nsPt 200000000], .hspi, [nsPt 200000000], twins 1 { full.twin with handover := some (300000000, none, false) }, passes_of (by decide +kernel), by decide +kernel, by decide +kernel, by decide +kernel⟩

theorem twinCommands_3 : ∃ (v : Nat) (o : Origin) (x : Row) (s : State), Passes s o 0x502200 0 (fun d => numRow d v) x ∧ v = 1 ∧ s.twinEnabled = true ∧ s.twinState = 3 ∧ s.twin.reason ≠ 8 ∧ s.partnerPresent = false ∧ 0 < s.val 0x12100B :=
  ⟨1, .hspi, [1], twins 3 { full.twin with reason := 7 }, passes_of (by decide +kernel), by decide +kernel, by decide +kernel, by decide +kernel, by decide +kernel, by decide +kernel, by decide +kernel⟩

theorem twinCommands_3b : ∃ (v : Nat) (o : Origin) (x : Row) (s : State), Passes s o 0x502200 0 (fun d => numRow d v) x ∧ (v = 0 ∨ s.twinEnabled = false ∨ s.twinState ≠ 3 ∨ s.twin.reason = 8) :=
  ⟨1, .hspi, [1], twins 3 { full.twin with reason := 8 }, passes_of (by decide +kernel), by decide +kernel⟩

theorem taskInstants_1 : ∃ (slot : Nat) (k : Task) (u : State) (s : State), k = s.task slot ∧ (k.state ≠ 1 ∨ k.counter ≠ 0) :=
  ⟨64, _, full, full, rfl, by decide +kernel⟩

theorem taskInstants_2 : ∃ (slot : Nat) (k : Task) (u : State) (s : State), k = s.task slot ∧ k.state = 1 ∧ k.counter = 0 ∧ (u = if k.timed = true then s.advanceTo (tickUp (ptNs k.gate)) else s) ∧ k.fenced = true ∧ reached (u.fenceSeen k.fence u.tbUnits) k.fenceVal = false :=
  ⟨64, _, _, full.setTask 64 ({ aTask 0 0 [] with state := 1, flags := 2, fenceVal := 9 }), rfl, by decide +kernel, by decide +kernel, rfl, by decide +kernel⟩

theorem taskInstants_3 : ∃ (slot : Nat) (k : Task) (u : State) (s : State), k = s.task slot ∧ k.state = 1 ∧ k.counter = 0 ∧ (u = if k.timed = true then s.advanceTo (tickUp (ptNs k.gate)) else s) ∧ (k.fenced = false ∨ reached (u.fenceSeen k.fence u.tbUnits) k.fenceVal = true) ∧ (k.bounded = false ∨ u.now < k.deadTick) :=
  ⟨64, _, _, full.setTask 64 ({ aTask 0 0 [] with state := 1, flags := 0, gate := nsPt 50, deadline := nsPt 0 }), rfl, by decide +kernel, by decide +kernel, rfl, by decide +kernel⟩

theorem taskInstants_3b : ∃ (slot : Nat) (k : Task) (u : State) (s : State), k = s.task slot ∧ k.state = 1 ∧ k.counter = 0 ∧ (u = if k.timed = true then s.advanceTo (tickUp (ptNs k.gate)) else s) ∧ (k.fenced = false ∨ reached (u.fenceSeen k.fence u.tbUnits) k.fenceVal = true) ∧ (k.bounded = false ∨ u.now < k.deadTick) :=
  ⟨64, _, _, full.setTask 64 ({ aTask 0 0 [] with state := 1, flags := 5, gate := nsPt 50, deadline := nsPt 60 }), rfl, by decide +kernel, by decide +kernel, rfl, by decide +kernel⟩

theorem taskInstants_4 : ∃ (slot : Nat) (k : Task) (u : State) (s : State), k = s.task slot ∧ k.state = 1 ∧ k.counter = 0 ∧ (u = if k.timed = true then s.advanceTo (tickUp (ptNs k.gate)) else s) ∧ (k.fenced = false ∨ reached (u.fenceSeen k.fence u.tbUnits) k.fenceVal = true) ∧ k.bounded = true ∧ k.deadTick ≤ u.now ∧ u.cancelComes k.handle = true :=
  ⟨64, _, _, { full.setTask 64 ({ aTask 0 0 [] with state := 1, flags := 5, gate := nsPt 50, deadline := nsPt 49 }) with pending := [.cancel { aMsg [] with id := 1088 }] }, rfl, by decide +kernel, by decide +kernel, rfl, by decide +kernel⟩

theorem taskInstants_5 : ∃ (slot : Nat) (k : Task) (u : State) (s : State), k = s.task slot ∧ k.state = 1 ∧ k.counter = 0 ∧ (u = if k.timed = true then s.advanceTo (tickUp (ptNs k.gate)) else s) ∧ (k.fenced = false ∨ reached (u.fenceSeen k.fence u.tbUnits) k.fenceVal = true) ∧ k.bounded = true ∧ k.deadTick ≤ u.now ∧ u.cancelComes k.handle = false ∧ s.handleLive k.handle = true :=
  ⟨64, _, _, full.setTask 64 ({ aTask 0 0 [] with state := 1, flags := 5, gate := nsPt 50, deadline := nsPt 49 }), rfl, by decide +kernel, by decide +kernel, rfl, by decide +kernel⟩

theorem taskInstants_6 : ∃ (slot : Nat) (k : Task) (s : State), k = s.task slot ∧ (k.bounded = false ∨ k.waits = false) :=
  ⟨64, _, full, rfl, by decide +kernel⟩

theorem taskInstants_7 : ∃ (slot : Nat) (k : Task) (s : State), k = s.task slot ∧ k.bounded = true ∧ k.waits = true ∧ s.timeRuns = true ∧ (s.advanceTo k.deadTick).cancelComes k.handle = false ∧ s.handleLive k.handle = true :=
  ⟨64, _, full.setTask 64 ({ aTask 0 0 [] with state := 1, flags := 4, gate := nsPt 50, deadline := nsPt 60 }), rfl, by decide +kernel⟩

theorem taskInstants_8 : ∃ (slot : Nat) (st : Nat) (k : Task) (r : WRes) (s : State), k = s.task slot ∧ k.state = 3 ∧ k.cls = 0 ∧ s.weir.cores.any (fun e => e.2.handle == k.handle) = true ∧ s.handleLive k.handle = true ∧ st = stInternal :=
  ⟨64, _, _, done full, onCore [], rfl, by decide +kernel, by decide +kernel, by decide +kernel, by decide +kernel, rfl⟩

theorem taskInstants_9 : ∃ (slot : Nat) (st : Nat) (k : Task) (r : WRes) (s : State), k = s.task slot ∧ k.state = 3 ∧ k.cls = 0 ∧ s.weir.cores.any (fun e => e.2.handle == k.handle) = true ∧ s.handleLive k.handle = true ∧ st ≠ stInternal ∧ r = writeObj k.who (k.nat 2 2 * 256 + k.byte 4) 0 (fun d => rowOf d ((k.params.drop 8).take (k.byte 5))) s ∧ r.status ≠ stAccepted ∧ r.st.handleLive k.handle = true :=
  ⟨64, 0, _, _, onCore [0#8, 1#8, 0x12#8, 0x10#8, 10#8, 2#8, 0#8, 0#8, 0#8, 120#8], rfl, by decide +kernel, by decide +kernel, by decide +kernel, by decide +kernel, by decide +kernel, rfl, by decide +kernel⟩

theorem taskInstants_10 : ∃ (slot : Nat) (st : Nat) (k : Task) (r : WRes) (s : State), k = s.task slot ∧ k.state = 3 ∧ k.cls = 0 ∧ s.weir.cores.any (fun e => e.2.handle == k.handle) = true ∧ s.handleLive k.handle = true ∧ st ≠ stInternal ∧ r = writeObj k.who (k.nat 2 2 * 256 + k.byte 4) 0 (fun d => rowOf d ((k.params.drop 8).take (k.byte 5))) s ∧ r.status = stAccepted :=
  ⟨64, 0, _, _, onCore [0#8, 1#8, 0x25#8, 0x60#8, 0#8, 2#8, 0#8, 0#8, 0#8, 1#8], rfl, by decide +kernel, by decide +kernel, by decide +kernel, by decide +kernel, by decide +kernel, rfl, by decide +kernel⟩

theorem taskInstants_11 : ∃ (m : EopMsg) (i : Nat) (h : Nat) (r : List Byte) (u : State) (s : State), OnSession s 0x06 m i u ∧ storedAnswer (u.session i).answers m.id = none ∧ u.full = true ∧ m.payload = [1#8, 1#8, 0#8, 0#8, 0#8, 0#8, 0#8, 0#8] ++ r ∧ r.length = 48 ∧ recordOk r = true ∧ coreObject r = stOk ∧ coreAccess (originCritical (msgWho m i).origin) r = stOk ∧ (rB r 3).testBit 2 = false ∧ NewHandle u h :=
  ⟨aMsg aGraph, 0, 1088, List.replicate 48 0#8, onZero (aMsg aGraph) talking, talking, onSession_of (by decide +kernel) (by decide +kernel), by decide +kernel, by decide +kernel, rfl, by decide +kernel, by decide +kernel, by decide +kernel, by decide +kernel, by decide +kernel, newHandle_of (by decide +kernel)⟩

theorem taskInstants_12 : ∃ (m : EopMsg) (i : Nat) (st : Nat) (part : Nat) (u : State) (s : State), OnSession s 0x06 m i u ∧ storedAnswer (u.session i).answers m.id = none ∧ u.full = true ∧ (u.bump oWeirCnt 0 0).graphBad (originCritical (msgWho m i).origin) m.payload = some (st, part) :=
  ⟨aMsg [1#8, 0#8, 0#8, 0#8, 0#8, 0#8, 0#8, 0#8], 0, stRange, 0xFFFF, onZero (aMsg [1#8, 0#8, 0#8, 0#8, 0#8, 0#8, 0#8, 0#8]) talking, talking, onSession_of (by decide +kernel) (by decide +kernel), by decide +kernel⟩

theorem taskDispatch_1 : ∃ (c : Nat) (slot : Nat) (k : Task) (v : State) (s : State), v = s.overdue ∧ v.nextTask c = none :=
  ⟨6, 0, Task.init, _, full, rfl, by decide +kernel⟩

theorem taskDispatch_2 : ∃ (c : Nat) (slot : Nat) (k : Task) (v : State) (s : State) (i : Nat), v = s.overdue ∧ v.nextTask c = some (slot, k) ∧ c = 0 ∧ v.idleCore = some i ∧ k = v.task slot ∧ k.nat 0 2 = 0 ∧ v.handleLive k.handle = true :=
  ⟨0, 64, aTask 0 0 [], _, full.setTask 64 (aTask 0 0 []), 0, rfl, by decide +kernel⟩

theorem taskDispatch_3 : ∃ (c : Nat) (slot : Nat) (k : Task) (v : State) (s : State) (i : Nat), v = s.overdue ∧ v.nextTask c = some (slot, k) ∧ c = 0 ∧ v.idleCore = some i ∧ k = v.task slot ∧ k.nat 0 2 ≠ 0 :=
  ⟨0, 64, aTask 0 0 [0#8, 1#8], _, full.setTask 64 (aTask 0 0 [0#8, 1#8]), 0, rfl, by decide +kernel⟩

theorem taskDispatch_4 : ∃ (c : Nat) (slot : Nat) (k : Task) (v : State) (s : State), v = s.overdue ∧ v.nextTask c = some (slot, k) ∧ c = 0 ∧ v.idleCore = none ∧ (k.prio < v.val 0x300003 ∨ v.victim k.prio = none) :=
  ⟨0, 64, aTask 0 5 [0#8, 1#8], _, busyCores (aTask 0 5 [0#8, 1#8]), rfl, by decide +kernel⟩

theorem taskDispatch_4b : ∃ (c : Nat) (slot : Nat) (k : Task) (v : State) (s : State), v = s.overdue ∧ v.nextTask c = some (slot, k) ∧ c = 0 ∧ v.idleCore = none ∧ (k.prio < v.val 0x300003 ∨ v.victim k.prio = none) :=
  ⟨0, 64, aTask 0 0 [0#8, 1#8], _, (busyCores (aTask 0 0 [0#8, 1#8])).setVal 0x300003 1, rfl, by decide +kernel⟩

theorem taskDispatch_5 : ∃ (c : Nat) (slot : Nat) (k : Task) (v : State) (s : State) (e : Nat × CoreRun), v = s.overdue ∧ v.nextTask c = some (slot, k) ∧ c = 0 ∧ v.idleCore = none ∧ v.val 0x300003 ≤ k.prio ∧ v.victim k.prio = some e ∧ k = v.task slot ∧ e.2.handle % 1024 ≠ slot ∧ k.nat 0 2 ≠ 0 :=
  ⟨0, 64, aTask 0 7 [0#8, 1#8], _, busyCores (aTask 0 7 [0#8, 1#8]), (0, aRun 0), rfl, by decide +kernel⟩

theorem taskDispatch_6 : ∃ (c : Nat) (slot : Nat) (k : Task) (v : State) (s : State), v = s.overdue ∧ v.nextTask c = some (slot, k) ∧ c = 3 ∧ k.byte 1 = 1 ∧ k.byte 2 = 0 ∧ (v.fadeState (k.byte 0) = 0 ∨ v.fadeState (k.byte 0) = 3) ∧ v.now < fdStartTick (v.row oFade (k.byte 0)) ∧ v.now < fdEndTick (v.row oFade (k.byte 0)) :=
  ⟨3, 64, aTask 3 0 [0#8, 1#8], _, (full.setTask 64 (aTask 3 0 [0#8, 1#8])).setRow oFade 0 (aFade 2 0 5000 1), rfl, by decide +kernel⟩

theorem taskDispatch_7 : ∃ (c : Nat) (slot : Nat) (k : Task) (v : State) (s : State), v = s.overdue ∧ v.nextTask c = some (slot, k) ∧ c = 5 ∧ k.byte 12 = 1 ∧ k.handle ≠ 0 ∧ k.byte 0 < 16 ∧ v.requestsFull (k.byte 0) = false ∧ v.quireState (k.byte 0) = 2 ∧ legacy (v.qRate (k.byte 0)) = false :=
  ⟨5, 64, aTask 5 0 [0#8, 0#8, 0#8, 1#8, 0#8, 0#8, 0#8, 0#8, 0#8, 0#8, 0#8, 0#8, 1#8], _, (quired 2 Quire.init).setTask 64 (aTask 5 0 [0#8, 0#8, 0#8, 1#8, 0#8, 0#8, 0#8, 0#8, 0#8, 0#8, 0#8, 0#8, 1#8]), rfl, by decide +kernel⟩

theorem taskDispatch_8 : ∃ (c : Nat) (slot : Nat) (k : Task) (v : State) (s : State), v = s.overdue ∧ v.nextTask c = some (slot, k) ∧ c = 6 ∧ k.byte 0 = 0 ∧ v.twinEnabled = true ∧ v.twinState ≠ 3 ∧ v.twin.handoverTask = none ∧ k = v.task slot ∧ v.handleLive k.handle = true :=
  ⟨6, 64, aTask 6 0 [0#8], _, (twins 1 full.twin).setTask 64 (aTask 6 0 [0#8]), rfl, by decide +kernel⟩

theorem integrityCommands_1 : ∃ (mem : Nat) (page : Nat) (base : Nat) (rank : Nat) (words : List WordFlips) (checks : List (Nat × Nat)) (x : PageFind) (s : State), s.power.inReset = false ∧ s.integ.failed = none ∧ mem ≤ 1 ∧ s.pageAt mem page = some base ∧ x = pageFind (words.filter (fun w => s.wordValid mem page w.word)) checks ∧ x.ok = true :=
  ⟨0, 0, 0x10000000, 1, [⟨0, 1#64, 0#8⟩], [], _, { full with integ := { full.integ with vvalid := [(0, true), (1, true)] } }, by decide +kernel, by decide +kernel, by decide +kernel, rfl, rfl, by decide +kernel⟩

theorem integrityCommands_1b : ∃ (mem : Nat) (page : Nat) (base : Nat) (rank : Nat) (words : List WordFlips) (checks : List (Nat × Nat)) (x : PageFind) (s : State), s.power.inReset = false ∧ s.integ.failed = none ∧ mem ≤ 1 ∧ s.pageAt mem page = some base ∧ x = pageFind (words.filter (fun w => s.wordValid mem page w.word)) checks ∧ x.ok = true ∧ x.decodes = true :=
  ⟨0, 0, 0x10000000, 1, [⟨0, 3#64, 0#8⟩], [(63, 5)], _, { full with integ := { full.integ with vvalid := [(0, true), (1, true)] } }, by decide +kernel, by decide +kernel, by decide +kernel, rfl, rfl, by decide +kernel, by decide +kernel⟩

theorem integrityCommands_2 : ∃ (mem : Nat) (page : Nat) (base : Nat) (rank : Nat) (words : List WordFlips) (checks : List (Nat × Nat)) (x : PageFind) (s : State), s.power.inReset = false ∧ s.integ.failed = none ∧ mem ≤ 1 ∧ s.pageAt mem page = some base ∧ x = pageFind (words.filter (fun w => s.wordValid mem page w.word)) checks ∧ x.ok = false ∧ (¬(s.power.recording = true ∧ s.aon.cause = 4)) :=
  ⟨0, 0, 0x10000000, 1, ((List.range 9).map (fun i => ⟨i, 3#64, 0#8⟩)), [], _, { full with integ := { full.integ with vvalid := (List.range 9).map (fun i => (i, true)) } }, by decide +kernel, by decide +kernel, by decide +kernel, rfl, rfl, by decide +kernel⟩

theorem integrityCommands_3 : ∃ (mem : Nat) (page : Nat) (rank : Nat) (words : List WordFlips) (checks : List (Nat × Nat)) (s : State), s.integ.failed.isSome = true :=
  ⟨0, 0, 1, [], [], { full with integ := { full.integ with failed := some (0, 5) } }, by decide +kernel⟩

theorem integrityCommands_4 : ∃ (mem : Nat) (base : Nat) (words : List WordFlips) (checks : List (Nat × Nat)) (x : PageFind) (s : State), s.full = true ∧ s.integ.failed = none ∧ mem ≤ 1 ∧ (s.scrub mem).running = true ∧ s.pageAt mem (s.fld oScrub mem 0) = some base ∧ (mem = 0 ∨ s.pageValid (s.fld oScrub mem 0) = true) ∧ x = pageFind (words.filter (fun w => s.wordValid mem (s.fld oScrub mem 0) w.word)) checks ∧ x.ok = true ∧ s.fld oScrub mem 0 + 1 < (s.scrub mem).pages :=
  ⟨0, 0x10000000, [], [], _, scrubbing 0 49152, by decide +kernel, by decide +kernel, by decide +kernel, by decide +kernel, by decide +kernel, by decide +kernel, rfl, by decide +kernel, by decide +kernel⟩

theorem integrityCommands_4b : ∃ (mem : Nat) (base : Nat) (words : List WordFlips) (checks : List (Nat × Nat)) (x : PageFind) (s : State), s.full = true ∧ s.integ.failed = none ∧ mem ≤ 1 ∧ (s.scrub mem).running = true ∧ s.pageAt mem (s.fld oScrub mem 0) = some base ∧ (mem = 0 ∨ s.pageValid (s.fld oScrub mem 0) = true) ∧ x = pageFind (words.filter (fun w => s.wordValid mem (s.fld oScrub mem 0) w.word)) checks ∧ x.ok = true ∧ (s.scrub mem).pages ≤ s.fld oScrub mem 0 + 1 :=
  ⟨0, 0x10000000 + 512 * 49151, [], [], _, (scrubbing 0 49152).setFld oScrub 0 0 49151, by decide +kernel, by decide +kernel, by decide +kernel, by decide +kernel, by decide +kernel, by decide +kernel, rfl, by decide +kernel, by decide +kernel⟩

theorem integrityCommands_5 : ∃ (v : Nat) (o : Origin) (x : Row) (s : State), Passes s o 0x311100 0 (fun d => numRow d v) x ∧ v = 1 :=
  ⟨1, .hspi, [1], full, passes_of (by decide +kernel), by decide +kernel⟩

theorem integrityCommands_5b : ∃ (v : Nat) (o : Origin) (x : Row) (s : State), Passes s o 0x311100 0 (fun d => numRow d v) x ∧ v ≠ 1 :=
  ⟨0, .hspi, [0], full, passes_of (by decide +kernel), by decide +kernel⟩

theorem integrityCommands_6 : ∃ (n : Nat) (ds : List Demand) (ws : List Demand) (s : State), s.full = true ∧ ws = giveWays n ds ∧ ws = [] :=
  ⟨1000000, [⟨8, 0, 100⟩], _, full, by decide +kernel, rfl, rfl⟩

theorem integrityCommands_7 : ∃ (n : Nat) (ds : List Demand) (ws : List Demand) (s : State), s.full = true ∧ ws = giveWays n ds ∧ ws ≠ [] ∧ (ws = [⟨8, 0, 100⟩] ∧ (s.head 0).wback.busy.isSome = true ∧ s.rasterRuns 0 = true) :=
  ⟨0, [⟨8, 0, 100⟩], _, capturing 1 { Writeback.init with busy := some (0, 5) }, by decide +kernel, rfl, by decide +kernel, by decide +kernel⟩

theorem transferCommands_1 : ∃ (v : List Byte) (o : Origin) (x : Row) (h : Nat) (s : State), Passes s o 0x320100 0 (fun d => rowOf d v) x ∧ (s.updateIdle = false ∨ s.flash.boot.pending ≠ 0xFF) :=
  ⟨joinFields [fUk 4 (fun x => x != 0) 0, fU 2 2 14336 0, fB 0] [7, 2, 0], .hspi, [7, 2, 0], 1088, updating 2 (some aTransfer), passes_of (by decide +kernel), by decide +kernel⟩

theorem transferCommands_1b : ∃ (v : List Byte) (o : Origin) (x : Row) (h : Nat) (s : State), Passes s o 0x320100 0 (fun d => rowOf d v) x ∧ s.updateIdle = true ∧ s.flash.boot.pending = 0xFF ∧ NewHandle s h :=
  ⟨joinFields [fUk 4 (fun x => x != 0) 0, fU 2 2 14336 0, fB 0] [7, 2, 0], .hspi, [7, 2, 0], 1088, full, passes_of (by decide +kernel), by decide +kernel, by decide +kernel, newHandle_of (by decide +kernel)⟩

theorem transferCommands_2 : ∃ (x : Transfer) (s : State), s.update.transfer = some x ∧ s.timeRuns = true ∧ s.update.state = 1 :=
  ⟨aTransfer, updating 1 (some aTransfer), by decide +kernel⟩

theorem transferCommands_3 : ∃ (x : Transfer) (s : State), s.update.transfer = some x ∧ s.timeRuns = true ∧ s.update.state = 1 ∧ s.handleLive x.handle = true :=
  ⟨aTransfer, updating 1 (some aTransfer), by decide +kernel⟩

set_option maxRecDepth 100000 in
theorem transferCommands_4 : ∃ (m : EopMsg) (f : Fragment) (u : State) (s : State), Passes5 s 0x21 m u ∧ m.payload.length = 1064 ∧ f = readFragment m.payload ∧ u.update.transfer = none :=
  ⟨aFragment 0 0 zeroSha, readFragment (aFragment 0 0 zeroSha).payload, after (aFragment 0 0 zeroSha) (updating 0 none), updating 0 none, passes5_of (by decide +kernel), by decide +kernel, rfl, by decide +kernel⟩

set_option maxRecDepth 100000 in
theorem transferCommands_5 : ∃ (m : EopMsg) (f : Fragment) (u : State) (s : State) (x : Transfer), Passes5 s 0x21 m u ∧ m.payload.length = 1064 ∧ f = readFragment m.payload ∧ u.update.transfer = some x ∧ x.id = f.id ∧ f.block < x.blocks ∧ f.frag < 4 ∧ u.update.state = 2 ∧ x.last + 60000000000 ≤ u.now ∧ u.handleLive x.handle = true :=
  ⟨{ aFragment 1 0 zeroSha with at_ := 60000000000 }, readFragment ({ aFragment 1 0 zeroSha with at_ := 60000000000 }).payload, after ({ aFragment 1 0 zeroSha with at_ := 60000000000 }) (updating 2 (some aTransfer)), updating 2 (some aTransfer), aTransfer, passes5_of (by decide +kernel), by decide +kernel, rfl, by decide +kernel⟩

set_option maxRecDepth 100000 in
theorem transferCommands_6 : ∃ (m : EopMsg) (f : Fragment) (u : State) (s : State) (x : Transfer), Passes5 s 0x21 m u ∧ m.payload.length = 1064 ∧ f = readFragment m.payload ∧ u.update.transfer = some x ∧ x.id = f.id ∧ f.block < x.blocks ∧ f.frag < 4 ∧ u.update.state = 2 ∧ u.now < x.last + 60000000000 ∧ (f.block ∈ x.held ∨ (tfind x.programming f.block).isSome = true) :=
  ⟨aFragment 1 3 zeroSha, readFragment (aFragment 1 3 zeroSha).payload, after (aFragment 1 3 zeroSha) (updating 2 (some { aTransfer with held := [1] })), updating 2 (some { aTransfer with held := [1] }), { aTransfer with held := [1] }, passes5_of (by decide +kernel), by decide +kernel, rfl, by decide +kernel⟩

set_option maxRecDepth 100000 in
theorem transferCommands_7 : ∃ (m : EopMsg) (f : Fragment) (u : State) (s : State) (x : Transfer), Passes5 s 0x21 m u ∧ m.payload.length = 1064 ∧ f = readFragment m.payload ∧ u.update.transfer = some x ∧ x.id = f.id ∧ f.block < x.blocks ∧ f.frag < 4 ∧ u.update.state = 2 ∧ u.now < x.last + 60000000000 ∧ f.block ∉ x.held ∧ tfind x.programming f.block = none ∧ tfind x.partials f.block = none ∧ x.partials.length < 64 :=
  ⟨aFragment 1 0 zeroSha, readFragment (aFragment 1 0 zeroSha).payload, after (aFragment 1 0 zeroSha) (updating 2 (some aTransfer)), updating 2 (some aTransfer), aTransfer, passes5_of (by decide +kernel), by decide +kernel, rfl, by decide +kernel⟩

theorem beBytes_length (n v : Nat) : (beBytes n v).length = n := by
  have h : ∀ n v, (leBytes n v).length = n := fun n => by
    induction n with
    | zero => exact fun _ => rfl
    | succ n ih => exact fun v => by simp [leBytes, ih]
  simp [beBytes, h]

theorem sha_blocks_length (n : Nat) (hash : List Sha.s256.Word) (bs : List Byte) (h : hash.length = 8) :
    (Sha.s256.blocks n hash bs).length = 8 := by
  induction n generalizing hash bs with
  | zero => exact h
  | succ n ih => exact ih _ _ (by simp [Sha.block, h])

/-- A digest has 32 bytes, whatever it is of. -/
theorem sha256_length (m : List Byte) : (sha256 m).length = 32 := by
  have h : (Sha.s256.start).length = 8 := by decide +kernel
  simp only [sha256, Sha.digest, List.length_flatMap, beBytes_length, List.map_const', List.sum_replicate, sha_blocks_length _ _ _ h]
  rfl

/-- The SHA-256 a fragment of this form carries is the one it was built with. -/
theorem aFragment_sha (sha : List Byte) (h : sha.length = 32) : (readFragment (aFragment 0 3 sha).payload).sha = sha := by
  show (sha ++ List.replicate 1024 0#8).take 32 = sha
  exact List.take_left' h

set_option maxRecDepth 100000 in
theorem transferCommands_8 : ∃ (m : EopMsg) (f : Fragment) (u : State) (s : State) (x : Transfer) (p : Tbl (List Byte)), Passes5 s 0x21 m u ∧ m.payload.length = 1064 ∧ f = readFragment m.payload ∧ u.update.transfer = some x ∧ x.id = f.id ∧ f.block < x.blocks ∧ f.frag < 4 ∧ u.update.state = 2 ∧ u.now < x.last + 60000000000 ∧ f.block ∉ x.held ∧ tfind x.programming f.block = none ∧ tfind x.partials f.block = some (f.sha, p) ∧ (tins p f.frag f.data).length = 4 ∧ sha256 (joinFragments (tins p f.frag f.data)) = f.sha :=
  have e := aFragment_sha blockSha (sha256_length _)
  ⟨aFragment 0 3 blockSha, readFragment (aFragment 0 3 blockSha).payload, after (aFragment 0 3 blockSha) (updating 2 (some { aTransfer with partials := [(0, blockSha, threeFragments)] })), updating 2 (some { aTransfer with partials := [(0, blockSha, threeFragments)] }), { aTransfer with partials := [(0, blockSha, threeFragments)] }, threeFragments, passes5_of (by decide +kernel), by decide +kernel, rfl, rfl, by decide +kernel, by decide +kernel, by decide +kernel, by decide +kernel, by decide +kernel, by decide +kernel, by decide +kernel, by rw [e]; rfl, by decide +kernel, by rw [e]; exact congrArg sha256 (by decide +kernel)⟩

set_option maxRecDepth 100000 in
theorem transferCommands_9 : ∃ (b : Nat) (fails : Nat) (data : List Byte) (x : Transfer) (s : State), s.update.transfer = some x ∧ s.timeRuns = true ∧ s.update.state = 2 ∧ tfind x.programming b = some (data, fails) ∧ x.held.length + 1 < x.blocks :=
  ⟨1, 0, List.replicate 4096 0#8, { aTransfer with programming := [(1, List.replicate 4096 0#8, 0)] }, updating 2 (some { aTransfer with programming := [(1, List.replicate 4096 0#8, 0)] }), by decide +kernel⟩

set_option maxRecDepth 100000 in
theorem transferCommands_10 : ∃ (b : Nat) (fails : Nat) (data : List Byte) (x : Transfer) (s : State), s.update.transfer = some x ∧ s.timeRuns = true ∧ s.update.state = 2 ∧ tfind x.programming b = some (data, fails) ∧ x.blocks ≤ x.held.length + 1 ∧ s.handleLive x.handle = true :=
  ⟨1, 0, List.replicate 4096 0#8, { aTransfer with held := [0], programming := [(1, List.replicate 4096 0#8, 0)] }, updating 2 (some { aTransfer with held := [0], programming := [(1, List.replicate 4096 0#8, 0)] }), by decide +kernel⟩

set_option maxRecDepth 100000 in
theorem transferCommands_11 : ∃ (b : Nat) (fails : Nat) (data : List Byte) (x : Transfer) (s : State), s.update.transfer = some x ∧ s.timeRuns = true ∧ s.update.state = 2 ∧ tfind x.programming b = some (data, fails) ∧ fails = 0 :=
  ⟨1, 0, List.replicate 4096 0#8, { aTransfer with held := [0], programming := [(1, List.replicate 4096 0#8, 0)] }, updating 2 (some { aTransfer with held := [0], programming := [(1, List.replicate 4096 0#8, 0)] }), by decide +kernel⟩

set_option maxRecDepth 100000 in
theorem transferCommands_12 : ∃ (b : Nat) (fails : Nat) (data : List Byte) (x : Transfer) (s : State), s.update.transfer = some x ∧ s.timeRuns = true ∧ s.update.state = 2 ∧ tfind x.programming b = some (data, fails) ∧ 1 ≤ fails ∧ s.handleLive x.handle = true :=
  ⟨1, 1, List.replicate 4096 0#8, { aTransfer with programming := [(1, List.replicate 4096 0#8, 1)] }, updating 2 (some { aTransfer with programming := [(1, List.replicate 4096 0#8, 1)] }), by decide +kernel⟩

theorem transferCommands_13 : ∃ (x : Transfer) (s : State), s.update.transfer = some x ∧ s.timeRuns = true ∧ s.update.state = 2 ∧ s.handleLive x.handle = true :=
  ⟨aTransfer, updating 2 (some aTransfer), by decide +kernel⟩

theorem verifyAndCommit_1 : ∃ (v : Nat) (h : Nat) (o : Origin) (x : Row) (s : State), Passes s o 0x320200 0 (fun d => numRow d v) x ∧ v = 0 :=
  ⟨0, 1088, .hspi, [0], full, passes_of (by decide +kernel), by decide +kernel⟩

theorem verifyAndCommit_1b : ∃ (v : Nat) (h : Nat) (o : Origin) (x : Row) (s : State), Passes s o 0x320200 0 (fun d => numRow d v) x ∧ v = 1 ∧ s.updateIdle = false :=
  ⟨1, 1088, .hspi, [1], updating 4 none, passes_of (by decide +kernel), by decide +kernel, by decide +kernel⟩

theorem verifyAndCommit_1c : ∃ (v : Nat) (h : Nat) (o : Origin) (x : Row) (s : State), Passes s o 0x320200 0 (fun d => numRow d v) x ∧ v = 1 ∧ s.updateIdle = true ∧ NewHandle s h :=
  ⟨1, 1088, .hspi, [1], full, passes_of (by decide +kernel), by decide +kernel, by decide +kernel, newHandle_of (by decide +kernel)⟩

theorem verifyAndCommit_2 : ∃ (r : Nat × Nat) (s : State), s.timeRuns = true ∧ s.update.state = 4 ∧ r = verifySlot s.flash.otpFloor (s.slot s.inactive) ∧ s.handleLive s.update.verifyHandle = true ∧ r.1 ≠ 0 :=
  ⟨_, let s := updating 4 none; { s with update := { s.update with verifyHandle := 1088 } }, by decide +kernel, by decide +kernel, rfl, by decide +kernel, by decide +kernel⟩

theorem verifyAndCommit_2b : ∃ (r : Nat × Nat) (s : State), s.timeRuns = true ∧ s.update.state = 4 ∧ r = verifySlot s.flash.otpFloor (s.slot s.inactive) ∧ s.handleLive s.update.verifyHandle = true ∧ r.1 = 0 :=
  ⟨_, let s := updating 4 none; { s with update := { s.update with verifyHandle := 1088 }, flash := { s.flash with slotB := .delivered } }, by decide +kernel, by decide +kernel, rfl, by decide +kernel, by decide +kernel⟩

theorem verifyAndCommit_3 : ∃ (v : List Byte) (o : Origin) (x : Row) (s : State), Passes s o 0x320400 0 (fun d => rowOf d v) x ∧ s.update.state = 5 ∧ x.getD 0 0 = s.update.verifiedVersion ∧ (x.getD 1 0 = 0 ∨ s.now + 5000000000 ≤ ptNs (x.getD 1 0)) :=
  ⟨joinFields [u32 0, fPt] ([9, 0]), .hspi, [9, 0], { full with update := { full.update with state := 5, verifiedVersion := 9 } }, passes_of (by decide +kernel), by decide +kernel, by decide +kernel, by decide +kernel⟩

theorem verifyAndCommit_3b : ∃ (v : List Byte) (o : Origin) (x : Row) (s : State), Passes s o 0x320400 0 (fun d => rowOf d v) x ∧ s.update.state = 5 ∧ x.getD 0 0 = s.update.verifiedVersion ∧ (x.getD 1 0 = 0 ∨ s.now + 5000000000 ≤ ptNs (x.getD 1 0)) :=
  ⟨joinFields [u32 0, fPt] ([9, nsPt 5000000000]), .hspi, [9, nsPt 5000000000], { full with update := { full.update with state := 5, verifiedVersion := 9 } }, passes_of (by decide +kernel), by decide +kernel, by decide +kernel, by decide +kernel⟩

theorem verifyAndCommit_3c : ∃ (v : List Byte) (o : Origin) (x : Row) (s : State), Passes s o 0x320400 0 (fun d => rowOf d v) x ∧ (s.update.state ≠ 5 ∨ x.getD 0 0 ≠ s.update.verifiedVersion ∨ (x.getD 1 0 ≠ 0 ∧ ptNs (x.getD 1 0) < s.now + 5000000000)) :=
  ⟨joinFields [u32 0, fPt] ([9, nsPt 4999999999]), .hspi, [9, nsPt 4999999999], { full with update := { full.update with state := 5, verifiedVersion := 9 } }, passes_of (by decide +kernel), by decide +kernel⟩

theorem verifyAndCommit_3d : ∃ (v : List Byte) (o : Origin) (x : Row) (s : State), Passes s o 0x320400 0 (fun d => rowOf d v) x ∧ (s.update.state ≠ 5 ∨ x.getD 0 0 ≠ s.update.verifiedVersion ∨ (x.getD 1 0 ≠ 0 ∧ ptNs (x.getD 1 0) < s.now + 5000000000)) :=
  ⟨joinFields [u32 0, fPt] ([8, 0]), .hspi, [8, 0], { full with update := { full.update with state := 5, verifiedVersion := 9 } }, passes_of (by decide +kernel), by decide +kernel⟩

theorem verifyAndCommit_4 : ∃ (v : Nat) (o : Origin) (x : Row) (s : State), Passes s o 0x320500 0 (fun d => numRow d v) x ∧ v = 1 ∧ s.update.state = 6 :=
  ⟨1, .hspi, [1], updating 6 none, passes_of (by decide +kernel), by decide +kernel, by decide +kernel⟩

theorem verifyAndCommit_4b : ∃ (v : Nat) (o : Origin) (x : Row) (s : State), Passes s o 0x320500 0 (fun d => numRow d v) x ∧ v = 1 ∧ s.update.state ≠ 6 :=
  ⟨1, .hspi, [1], updating 5 none, passes_of (by decide +kernel), by decide +kernel, by decide +kernel⟩

theorem verifyAndCommit_4c : ∃ (v : Nat) (o : Origin) (x : Row) (s : State), Passes s o 0x320500 0 (fun d => numRow d v) x ∧ v = 0 :=
  ⟨0, .hspi, [0], updating 6 none, passes_of (by decide +kernel), by decide +kernel⟩

theorem verifyAndCommit_5 : ∃ (v : Nat) (o : Origin) (x : Row) (s : State), Passes s o 0x320600 0 (fun d => numRow d v) x ∧ v = 1 ∧ (s.update.state = 6 ∨ s.update.state = 7 ∨ s.update.state = 8) :=
  ⟨1, .hspi, [1], updating 8 none, passes_of (by decide +kernel), by decide +kernel, by decide +kernel⟩

theorem verifyAndCommit_5b : ∃ (v : Nat) (o : Origin) (x : Row) (s : State), Passes s o 0x320600 0 (fun d => numRow d v) x :=
  ⟨1, .hspi, [1], updating 2 (some aTransfer), passes_of (by decide +kernel)⟩

theorem verifyAndCommit_5c : ∃ (v : Nat) (o : Origin) (x : Row) (s : State), Passes s o 0x320600 0 (fun d => numRow d v) x ∧ v = 1 ∧ s.update.state = 5 ∧ s.update.trial = 1 :=
  ⟨1, .hspi, [1], let s := updating 5 none; { s with update := { s.update with trial := 1 } }, passes_of (by decide +kernel), by decide +kernel, by decide +kernel, by decide +kernel⟩

theorem verifyAndCommit_5d : ∃ (v : Nat) (o : Origin) (x : Row) (s : State), Passes s o 0x320600 0 (fun d => numRow d v) x ∧ v = 1 ∧ s.update.state = 5 ∧ s.update.trial ≠ 1 :=
  ⟨1, .hspi, [1], updating 5 none, passes_of (by decide +kernel), by decide +kernel, by decide +kernel, by decide +kernel⟩

theorem verifyAndCommit_5e : ∃ (v : Nat) (o : Origin) (x : Row) (s : State), Passes s o 0x320600 0 (fun d => numRow d v) x ∧ v = 0 :=
  ⟨0, .hspi, [0], full, passes_of (by decide +kernel), by decide +kernel⟩

theorem activationAndTrial_1 : ∃ (s : State), (s.full = true ∨ (s.berm = true ∧ s.update.commitNow = true)) ∧ s.update.state = 7 ∧ (s.full = false ∨ s.twinEnabled = false ∨ s.twinState ≠ 1) ∧ (s.power.state = .run ∨ s.power.state = .berm) ∧ s.power.recording = false :=
  ⟨updating 7 none, by decide +kernel, by decide +kernel, by decide +kernel, by decide +kernel, by decide +kernel⟩

theorem activationAndTrial_1c : ∃ (s : State), (s.full = true ∨ (s.berm = true ∧ s.update.commitNow = true)) ∧ s.update.state = 7 ∧ (s.full = false ∨ s.twinEnabled = false ∨ s.twinState ≠ 1) ∧ (s.power.state = .run ∨ s.power.state = .berm) ∧ s.power.recording = false :=
  ⟨{ berm with update := { berm.update with state := 7, commitNow := true } }, by decide +kernel, by decide +kernel, by decide +kernel, by decide +kernel, by decide +kernel⟩

theorem activationAndTrial_1b : ∃ (s : State), (s.full = true ∨ (s.berm = true ∧ s.update.commitNow = true)) ∧ s.update.state = 7 ∧ (s.full = false ∨ s.twinEnabled = false ∨ s.twinState ≠ 1) ∧ (s.power.state = .run ∨ s.power.state = .berm) ∧ s.power.recording = false :=
  ⟨let s := twins 2 full.twin; { s with update := { s.update with state := 7 } }, by decide +kernel, by decide +kernel, by decide +kernel, by decide +kernel, by decide +kernel⟩

theorem activationAndTrial_2 : ∃ (s : State), (s.full = true ∨ (s.berm = true ∧ s.update.commitNow = true)) ∧ s.update.state = 7 ∧ s.full = true ∧ s.twinEnabled = true ∧ s.twinState = 1 :=
  ⟨let s := twins 1 full.twin; { s with update := { s.update with state := 7 } }, by decide +kernel⟩

theorem activationAndTrial_3 : ∃ (a : Nat) (s : State), s.update.deferAt = some a ∧ s.full = true ∧ s.update.state = 8 :=
  ⟨9, let s := twins 1 full.twin; { s with update := { s.update with state := 8, deferAt := some 9 } }, by decide +kernel⟩

theorem activationAndTrial_4 : ∃ (v : Nat) (o : Origin) (x : Row) (s : State), Passes s o 0x320700 0 (fun d => numRow d v) x ∧ v = 1 ∧ s.trialOpen = true :=
  ⟨1, .hspi, [1], onTrial, passes_of (by decide +kernel), by decide +kernel, by decide +kernel⟩

theorem activationAndTrial_4b : ∃ (v : Nat) (o : Origin) (x : Row) (s : State), Passes s o 0x320700 0 (fun d => numRow d v) x ∧ v = 1 ∧ s.trialOpen = false :=
  ⟨1, .hspi, [1], full, passes_of (by decide +kernel), by decide +kernel, by decide +kernel⟩

theorem activationAndTrial_4c : ∃ (v : Nat) (o : Origin) (x : Row) (s : State), Passes s o 0x320700 0 (fun d => numRow d v) x ∧ v = 0 :=
  ⟨0, .hspi, [0], onTrial, passes_of (by decide +kernel), by decide +kernel⟩

theorem activationAndTrial_5 : ∃ (s : State), s.full = true ∧ s.update.trial = 1 ∧ (s.power.state = .run ∨ s.power.state = .berm) ∧ s.power.recording = false :=
  ⟨onTrial, by decide +kernel, by decide +kernel, by decide +kernel, by decide +kernel⟩

theorem activationAndTrial_6 : ∃ (u : State) (s : State), s.full = true ∧ s.update.trial = 1 ∧ s.confirmAuto = true ∧ s.twinEnabled = false ∧ u = s.advanceTo (s.update.serviceAt + s.val 0x320900 * 1000000000) ∧ u.trialOpen = true :=
  ⟨_, onTrial, by decide +kernel, by decide +kernel, by decide +kernel, by decide +kernel, rfl, by decide +kernel⟩

theorem activationAndTrial_7 : ∃ (u : State) (s : State), s.full = true ∧ s.update.trial = 1 ∧ s.confirmAuto = true ∧ s.twinEnabled = true ∧ s.twinState = 0 ∧ u = s.advanceTo (s.twin.since + s.val 0x320900 * 1000000000) ∧ u.trialOpen = true :=
  ⟨_, let s := twins 0 full.twin; { s with update := onTrial.update }, by decide +kernel, by decide +kernel, by decide +kernel, by decide +kernel, by decide +kernel, rfl, by decide +kernel⟩

theorem activationAndTrial_8 : ∃ (u : State) (s : State), s.full = true ∧ s.update.trial = 1 ∧ s.confirmAuto = true ∧ s.twinEnabled = true ∧ s.twinState ≠ 0 :=
  ⟨onTrial, let s := twins 2 full.twin; { s with update := onTrial.update }, by decide +kernel⟩

theorem timeTimeouts_1b : ∃ (d : Nat) (e : Nat) (s : State), s.timeRuns = true ∧ d ≤ 1 ∧ (s.servo d).expected = some e ∧ s.servoState d = 3 ∧ 3 ≤ (s.servo d).missed :=
  ⟨0, 4000, served 3 { Servo.init with expected := some 4000, missed := 3 }, by decide +kernel, by decide +kernel, by decide +kernel, by decide +kernel, by decide +kernel⟩

theorem timeTimeouts_2b : ∃ (d : Nat) (p : Nat) (a : PortAnnounce) (s : State), s.timeRuns = true ∧ d ≤ 1 ∧ (s.servo d).best = [(p, a)] ∧ s.sourcePort d = p ∧ s.servoState d = 3 :=
  ⟨0, 0, { data := anAnnounce, dom := 0, l2 := false, at_ := 5 }, served 3 { Servo.init with best := [(0, { data := anAnnounce, dom := 0, l2 := false, at_ := 5 })] }, by decide +kernel, by decide +kernel, by decide +kernel, by decide +kernel, by decide +kernel⟩

theorem pulsesAndCaptures_1c : ∃ (r : Nat) (v : List Byte) (o : Origin) (x : Row) (s : State), Passes s o 0x131000 r (fun d => rowOf d v) x ∧ pulseOk x = true ∧ s.pulseState r ≠ 2 ∧ s.pulseState r ≠ 5 ∧ (s.pulse r).task = none ∧ pMode x = 1 ∧ pStart x < s.now + 2000 :=
  ⟨0, joinFields pulseFlds [1, 0, nsPt 1999, 0, 0, 100, 0, 0], .hspi, [1, 0, nsPt 1999, 0, 0, 100, 0, 0], full, passes_of (by decide +kernel), by decide +kernel, by decide +kernel, by decide +kernel, by decide +kernel, by decide +kernel, by decide +kernel⟩

theorem pulsesAndCaptures_5b : ∃ (r : Nat) (s : State), s.pulseState r = 2 ∧ pMode (s.pulse r).row = 2 ∧ (s.pulse r).active = true ∧ (s.pulse r).task = none ∧ pCount (s.pulse r).row = (s.pulse r).emitted + 1 ∧ (s.pulse r).waiting = false :=
  ⟨0, (full.setRow oPulse 0 (rput ([2, 0, nsPt 5000, 1000, 1, 100, 5, 0]) 7 2)).setPulse 0 { Pulse.init with row := [2, 0, nsPt 5000, 1000, 1, 100, 5, 0], active := true, emitted := 4 }, by decide +kernel, by decide +kernel, by decide +kernel, by decide +kernel, by decide +kernel, by decide +kernel⟩

theorem pulsesAndCaptures_5c : ∃ (r : Nat) (s : State), s.pulseState r = 2 ∧ pMode (s.pulse r).row = 2 ∧ (s.pulse r).active = true ∧ (s.pulse r).task = none ∧ pCount (s.pulse r).row = 0 :=
  ⟨0, (full.setRow oPulse 0 (rput ([2, 0, nsPt 5000, 1000, 1, 100, 0, 0]) 7 2)).setPulse 0 { Pulse.init with row := [2, 0, nsPt 5000, 1000, 1, 100, 0, 0], active := true }, by decide +kernel, by decide +kernel, by decide +kernel, by decide +kernel, by decide +kernel⟩

theorem keyAndSettingsCommands_4b : ∃ (key : List Byte) (o : Origin) (x : Row) (s : State), Passes s o 0x111100 0 (fun d => rowOf d key) x ∧ s.flash.otpKey ≠ [] :=
  ⟨List.replicate 32 5#8, .hspi, [pNat (List.replicate 32 5#8) 0 32], { full with flash := { full.flash with otpKey := List.replicate 32 1#8 } }, passes_of (by decide +kernel), by decide +kernel⟩

theorem keyAndSettingsCommands_7b : ∃ (n : Nat) (s : State), s.eop.saveDue = some n ∧ s.timeRuns = true ∧ s.holdSettings = true :=
  ⟨2000, let s := full; { s with eop := { s.eop with saveDue := some 2000, dirty := [0x110003] }, update := { s.update with running := 1, trial := 1 }, flash := { s.flash with slotA := .empty, slotB := .blocks 1 [(0, List.replicate 15 0#8 ++ [5#8] ++ List.replicate 1008 0#8)] } }, by decide +kernel, by decide +kernel, by decide +kernel⟩

theorem frameTransmission_2b : ∃ (p : Nat) (q : Nat) (k : Packet) (ks : List Packet) (f : TxFrame) (s : State), p < 4 ∧ s.portState p ≠ 0 ∧ (p < 2 → s.linkUp p = true) ∧ (s.port p).pauseTx = [] ∧ s.pausedNow p = false ∧ s.nextTx p = some q ∧ s.queue q = k :: ks ∧ k.tx = some f ∧ k.aborted = true :=
  ⟨3, 30, { cells := 1, place := [5], bytes := [], tx := some anArp, flow := 0, rxAt := 0, aborted := true }, [], anArp, (cabled full).setQueue 30 [{ cells := 1, place := [5], bytes := [], tx := some anArp, flow := 0, rxAt := 0, aborted := true }], by decide +kernel, by decide +kernel, fun _ => by decide +kernel, by decide +kernel, by decide +kernel, by decide +kernel, by decide +kernel, by decide +kernel, by decide +kernel⟩

theorem portCommands_1c : ∃ (p : Nat) (v : Nat) (o : Origin) (x : Row) (s : State), Passes s o 0x141100 p (fun d => numRow d v) x ∧ ((∀ h ∈ s.eop.held, h.port ≠ p) ∨ overEop o = false) ∧ s.portState p = 2 :=
  ⟨3, 1, .hspi, [1], (cabled full).setFld oPortState 3 0 2, passes_of (by decide +kernel), by decide +kernel, by decide +kernel⟩

theorem portCommands_2b : ∃ (p : Nat) (s : State), p < 4 ∧ s.portState p = 2 ∧ (s.port p).latched = true ∧ s.txEmpty p = false :=
  ⟨3, ((cabled full).setFld oPortState 3 0 2).setPort 3 { Port.init with latched := true } |>.setQueue 30 [{ cells := 1, place := [5], bytes := [], tx := some anArp, flow := 0, rxAt := 0, aborted := true }], by decide +kernel, by decide +kernel, by decide +kernel, by decide +kernel⟩

theorem flowCommands_1c : ∃ (r : Nat) (v : Nat) (o : Origin) (x : Row) (s : State), Passes s o 0x140100 r (fun d => numRow d v) x ∧ s.flowState r = 0 ∧ v = 1 ∧ s.flowReason r = 0 :=
  ⟨8, 1, .hspi, [1], (flowing 2).setFlowState 8 0 false, passes_of (by decide +kernel), by decide +kernel, by decide +kernel, by decide +kernel⟩

theorem flowCommands_1d : ∃ (r : Nat) (v : Nat) (o : Origin) (x : Row) (s : State), Passes s o 0x140100 r (fun d => numRow d v) x ∧ s.flowState r = 0 ∧ v = 1 ∧ s.flowReason r ≠ 0 :=
  ⟨8, 1, .hspi, [1], ((flowing 1).setFld oFlow 8 1 3).setFlowState 8 0 false, passes_of (by decide +kernel), by decide +kernel, by decide +kernel, by decide +kernel⟩

theorem flowCommands_1e : ∃ (r : Nat) (v : Nat) (o : Origin) (x : Row) (s : State), Passes s o 0x140100 r (fun d => numRow d v) x ∧ s.flowState r = 1 ∧ v = 0 ∧ (fwType (s.flowRow r) ≠ 1 ∨ (s.flow r).frame ≠ none) :=
  ⟨8, 0, .hspi, [0], flowing 2, passes_of (by decide +kernel), by decide +kernel, by decide +kernel, by decide +kernel⟩

theorem flowCommands_1f : ∃ (r : Nat) (v : Nat) (o : Origin) (x : Row) (s : State), Passes s o 0x140100 r (fun d => numRow d v) x ∧ s.flowState r = 2 :=
  ⟨8, 1, .hspi, [1], (flowing 1).setFlowState 8 2 false, passes_of (by decide +kernel), by decide +kernel⟩

theorem videoCommands_6b : ∃ (r : Nat) (f : Nat) (fs : List Nat) (s : State), (s.flow r).advances = f :: fs ∧ s.fld oVideo (fwIndex (s.flowRow r)) 10 = 1 :=
  ⟨8, 7, [], ((flowing 1).setFld oVideo 0 10 1).setFlow 8 { Flow.init with advances := [7] }, by decide +kernel, by decide +kernel⟩

theorem sacnCommands_1b : ∃ (r : Nat) (u : Nat) (p : SacnPacket) (s : State), s.full = true ∧ 8 ≤ r ∧ s.flowState r ≠ 0 ∧ fwType (s.flowRow r) = 2 ∧ u = fwIndex (s.flowRow r) ∧ s.flowAborted r = false ∧ sacnOk p = true ∧ p.terminated = false ∧ (s.uni u).sources = [] ∧ p.syncAddr ≠ 0 ∧ s.fld oUniverse u 2 ≠ 0 ∧ p.forceSync = false :=
  ⟨8, _, { aSacn 1 9 with syncAddr := 77 }, (flowing 2).setFld oUniverse 0 2 1, by decide +kernel, by decide +kernel, by decide +kernel, by decide +kernel, rfl, by decide +kernel, by decide +kernel, by decide +kernel, by decide +kernel, by decide +kernel, by decide +kernel, by decide +kernel⟩

theorem sacnCommands_6b : ∃ (r : Nat) (at_ : Nat) (a : Nat) (s : State), s.full = true ∧ 8 ≤ r ∧ s.flowState r ≠ 0 ∧ fwType (s.flowRow r) = 2 ∧ s.flowAborted r = false ∧ (s.ingest.universes.map Prod.fst).Nodup ∧ ((s.syncAddr a).lost = true ∨ (s.advanceTo at_).syncLost a = true) :=
  ⟨8, 0, 77, (flowing 2).setSyncAddr 77 { last := some 0, lost := true }, by decide +kernel, by decide +kernel, by decide +kernel, by decide +kernel, by decide +kernel, by decide +kernel, by decide +kernel⟩

theorem sacnCommands_7b : ∃ (u : Nat) (y : Source) (s : State), (s.uni u).sources = [y] ∧ s.fld oUniStatus u 1 ≠ 1 :=
  ⟨0, aSource 1, (hearing [aSource 1]).setFld oUniStatus 0 1 0, by decide +kernel, by decide +kernel⟩

theorem eventRaised_2 : ∃ (e : Nat) (s : State), e < 128 :=
  ⟨127, full, by decide +kernel⟩

theorem eventRaised_3 : ∃ (e : Nat) (s : State), e < 128 :=
  ⟨127, full, by decide +kernel⟩

theorem eventRaised_4 : ∃ (e : Nat) (s : State), e < 128 :=
  ⟨127, full, by decide +kernel⟩

/-! ## Values the spec states -/

/-- The check vectors of R16. -/
theorem test_crc8 : crc8 ((List.range 9).map (fun i => BitVec.ofNat 8 (0x31 + i))) = 0xDF := by decide +kernel
theorem test_crc16 : crc16 ((List.range 9).map (fun i => BitVec.ofNat 8 (0x31 + i))) = 0x29B1 := by decide +kernel
theorem test_crc32c : crc32c ((List.range 9).map (fun i => BitVec.ofNat 8 (0x31 + i))) = 0xE3069283 := by decide +kernel

/-- The worked example of the light code (14_memory_integrity.md, after R536). -/
theorem test_light_check : lightCheck 0x8000000000000011 = 0xCD := by decide +kernel

/-- SHA-256 of three bytes, the example of FIPS 180-4 (R15). -/
theorem test_sha256 : (sha256 [0x61#8, 0x62#8, 0x63#8]).take 4 = [0xBA#8, 0x78#8, 0x16#8, 0xBF#8] := by decide +kernel

/-- The worked example of R67: 1001/60000 s; ticks 1, 2 and 3, and the fractions reported. -/
theorem test_cadence_ticks : [1, 2, 3].map (Cadence.mk 0 1001 60000).tick = [16683334, 33366668, 50050000] := by decide +kernel
theorem test_cadence_fractions : [0, 1, 2, 3].map (Cadence.mk 0 1001 60000).frac = [0, 0x5555, 0xAAAA, 0] := by decide +kernel

/-- The worked example of R67: rising edges of a 48 kHz word clock. -/
theorem test_word_clock : [1, 2, 3].map (Cadence.mk 0 1 48000).tick = [20834, 41668, 62500] := by decide +kernel

/-- The example of R23: set 1 of strand 200. -/
theorem test_strand_buffer : strandBuf 1 200 = 0xE40000 := by decide +kernel

/-- The worked example of R278: the line resumes IDLE 744,401.25 ns after L, E being 332,718.75 ns before it (T = 40 ns, N = 4096,
d = 16, D = 8190). -/
theorem test_window : windowCells 4096 16 8190 * 4000 = 74440125 + 33271875 := by decide +kernel

/-! ## What reset leaves, and one step -/

theorem test_reset_cause : State.reset.evt.cause = 0 := by decide
theorem test_reset_pending : State.reset.pending = [] := by decide
/-- R511: a cause bit is cleared by writing 1 to it, and no other is. -/
theorem test_cause_clear : ∃ t, exec (.causeClear .core 0 1) { full with evt := { full.evt with cause := 3 } } = .next t ∧
    t.evt.cause = 2 := ⟨_, rfl, by decide +kernel⟩
theorem test_decode_none : ∀ n w, decodeTableWord n w = none := fun _ _ => rfl

/-! ## Ill-formed commands, one for each check of `Instr.wf` -/

/-- A message whose fields all fit. -/
def fitMsg : EopMsg :=
  { port := 0, at_ := 0, srcMac := 1, vid := 0xFFFF, srcIp := 1, srcUdp := 1, broadcast := false, magic := 0x4556, version := 1, flags := 0,
    session := 0, id := 0, counter := 0, length := 0, keySlot := 0xFF, reserved := 0, payload := [], tag := [] }

/-- A reading of 256 edges in one bin. -/
def fitReading : TdcReading := ⟨1, [256]⟩

/-- A measurement that fits, of one pin. -/
def fitPin : PinMeasure := ⟨0, fitReading, fitReading, fitReading, fitReading, [], []⟩

theorem test_wf_message_fits : Instr.wf (.read fitMsg) = true := by decide

/-- One field too wide each. -/
theorem test_wf_message :
    [Instr.read { fitMsg with port := 4 },
     Instr.read { fitMsg with srcMac := 2 ^ 48 },
     Instr.read { fitMsg with vid := 2 ^ 16 },
     Instr.read { fitMsg with srcIp := 2 ^ 32 },
     Instr.read { fitMsg with srcUdp := 2 ^ 16 },
     Instr.read { fitMsg with magic := 2 ^ 16 },
     Instr.read { fitMsg with version := 256 },
     Instr.read { fitMsg with flags := 2 ^ 16 },
     Instr.read { fitMsg with session := 2 ^ 16 },
     Instr.read { fitMsg with id := 2 ^ 32 },
     Instr.read { fitMsg with counter := 2 ^ 64 },
     Instr.read { fitMsg with length := 2 ^ 16 },
     Instr.read { fitMsg with keySlot := 256 },
     Instr.read { fitMsg with reserved := 256 }].all (fun c => !Instr.wf c) = true := by decide +kernel

theorem test_wf_message_rows :
    [Instr.write { fitMsg with port := 4 },
     .readRow { fitMsg with port := 4 },
     .writeRow { fitMsg with port := 4 },
     .exec { fitMsg with port := 4 },
     .submit { fitMsg with port := 4 },
     .cancel { fitMsg with port := 4 },
     .hello { fitMsg with port := 4 },
     .heartbeat { fitMsg with port := 4 },
     .imageBlock { fitMsg with port := 4 }].all (fun c => !Instr.wf c) = true := by decide +kernel

theorem test_wf_rows_1 :
    [Instr.railWarning 9,
     .brownout 9,
     .clock 4,
     .hibernate (2 ^ 32) .weir,
     .aonReset 256 .core,
     .pulse 8 [] .weir,
     .pulseEdge 8,
     .tsiEdge 0 0 65536 false 0,
     .sessionIdleTimeout 64,
     .eventSend 64,
     .checkpointStore 8 false,
     .key 8 [] 0 false,
     .unknownOpcode (some 256),
     .culvAddrWrite .core 32 0,
     .culvDataRead .core 32,
     .culvDataWrite .core 32 0,
     .flowEnable 4096 0 .weir,
     .flowDrainDone 4096,
     .fence 256 0 .weir,
     .videoPacket 4096 ⟨0, 0, 0, false, 0, 0, [], [], false⟩,
     .arrivalWindowEnd 4096,
     .fenceAdvance 4096,
     .sacnData 4096 ⟨0, 0, 0, 0, 0, 0, 0, 0, 0, 0, false, false, false, 0, 0, 0, 0, []⟩,
     .sacnSync 4096 0 0 0 0,
     .sourceTimeout 256 0,
     .frameStart 256,
     .returnRecord 256 0 ⟨0, 0⟩,
     .fade 256 [] .weir,
     .fadeArm 256 .weir,
     .fadeStop 256 .weir].all (fun c => !Instr.wf c) = true := by decide +kernel

theorem test_wf_rows_2 :
    [Instr.fadeStart 256,
     .fadeEnd 256,
     .regionReset 256 0 .weir,
     .sensorGainReset 288 0 .weir,
     .taskReady 1024,
     .taskDispatch 8,
     .taskDeadline 1024,
     .taskComplete 1024 0,
     .blockProgramDone 65536 false,
     .refreshRateChange 3].all (fun c => !Instr.wf c) = true := by decide +kernel

theorem test_wf_bytes :
    [Instr.sync 256 ⟨0, false⟩ 0 0 false 0 0 0,
     .followUp 256 ⟨0, false⟩ 0 0 0 0 0,
     .announce 256 ⟨0, false⟩ 0 ⟨0, 0, 0, 0, 0, 0, 0, 0, 0, 0⟩,
     .delayResp 256 ⟨0, false⟩ 0 0 0].all (fun c => !Instr.wf c) = true := by decide +kernel

theorem test_wf_ports :
    [Instr.sync 0 ⟨4, false⟩ 0 0 false 0 0 0,
     .followUp 0 ⟨4, false⟩ 0 0 0 0 0,
     .announce 0 ⟨4, false⟩ 0 ⟨0, 0, 0, 0, 0, 0, 0, 0, 0, 0⟩,
     .delayResp 0 ⟨4, false⟩ 0 0 0,
     .announceTimeout 0 4,
     .tsiEdge 4 0 0 false 0,
     .causeClear .core 4 0,
     .frameReceive 4 ⟨0, [], true, true⟩,
     .frameTransmit 4,
     .linkChange 4 false 0,
     .pauseFrame 4 0 0,
     .pauseWindowEnd 4,
     .pauseRepeat 4,
     .arpRequest 4 0 0 0 0,
     .portEnable 4 0 .weir,
     .portDrainDone 4].all (fun c => !Instr.wf c) = true := by decide +kernel

theorem test_wf_heads :
    [Instr.delayReqSend 2,
     .syncMissed 2,
     .announceTimeout 2 0,
     .holdoverExpiry 2,
     .headEnable 2 0 .weir,
     .headDrainDone 2,
     .commitArm 2 false false,
     .cutLine 2,
     .vblankStart 2,
     .lineZero 2,
     .lineMatch 2 0,
     .underrun 2 0 0,
     .egressEnable 2 0 .weir,
     .egressPacket 2 0 0,
     .writebackEnable 2 0 .weir,
     .writebackDone 2,
     .collateEntry 2,
     .sampleLate 2,
     .scrubVisit 2 [] [],
     .pageDecode 2 0 [] [] 0,
     .frameDone 2].all (fun c => !Instr.wf c) = true := by decide +kernel

theorem test_wf_quires :
    [Instr.sumClear .core 16 0,
     .quireMode 16 0 .weir,
     .quireDrainDone 16,
     .quireLatch 16,
     .returnWindowEnd 16,
     .camegRequestDone 16,
     .calibrationPass 16 [],
     .tapApply 16].all (fun c => !Instr.wf c) = true := by decide +kernel

theorem test_wf_operands :
    [Instr.provisionKey (List.replicate 31 0#8) .weir,
     .unknownOpcode (some 0xA1),
     .unknownOpcode (some 0xA2),
     .unknownOpcode (some 0xA5),
     .videoPacket 0 ⟨0, 0, 0, false, 2 ^ 32, 0, [], [], false⟩,
     .videoPacket 0 ⟨0, 0, 0, false, 0, 2 ^ 32, [], [], false⟩,
     .sacnData 0 ⟨0, 0, 0, 0, 0, 0, 0, 0, 0, 0, false, false, false, 0, 0, 0, 0, List.replicate 513 0#8⟩,
     .gaugeSample [⟨48, 0⟩] 0,
     .reftMeasurementDone 0 (List.replicate 127 0),
     .reftMeasurementDone 0 (List.replicate 128 0),
     .dikeBeat 0 []].all (fun c => !Instr.wf c) = true := by decide +kernel

theorem test_wf_pins :
    [Instr.calibrationPass 0 [{ fitPin with pin := 256 }],
     .calibrationPass 0 [{ fitPin with d0Rise := ⟨1, [255]⟩ }],
     .calibrationPass 0 [{ fitPin with d63Rise := ⟨1, [255]⟩ }],
     .calibrationPass 0 [{ fitPin with d0Fall := ⟨1, [255]⟩ }],
     .calibrationPass 0 [{ fitPin with d63Fall := ⟨1, [255]⟩ }],
     .calibrationPass 0 [{ fitPin with d0Rise := ⟨1, 256 :: List.replicate 128 0⟩ }]].all (fun c => !Instr.wf c) = true := by decide +kernel

end Sys2Proof.Tests
end

section
/-! SUPPORT. LINK STANDBY, HIBERNATE and waking (R29 to R32, R617, R618, R632, R634): what the commands, the end of an entry and each
source of a wake leave in the power logic and in the AON registers. -/

namespace Sys2Proof.Machine

/-! ## Power, AON and the clock through the shared operations -/

@[simp] theorem raise_power (s : State) (e : Nat) : (s.raise e).power = s.power := (State.raise_keeps s e).power_eq (by decide)

@[simp] theorem saveCome_power (s : State) : s.saveCome.power = s.power := (State.saveCome_keeps s).power_eq (by decide)

@[simp] theorem saveCome_aon (s : State) : s.saveCome.aon = s.aon := (State.saveCome_keeps s).aon_eq (by decide)

@[simp] theorem saveCome_clk (s : State) : s.saveCome.clk = s.clk := (State.saveCome_keeps s).clk_eq (by decide)

@[simp] theorem advanceElapsed_power (s : State) (e : Nat) : (s.advanceElapsed e).power = s.power :=
  (State.advanceElapsed_keeps s e).power_eq (by decide)

theorem advanceElapsed_elapsed (s : State) (e : Nat) : (s.advanceElapsed e).clk.elapsed = max s.clk.elapsed e := by
  unfold State.advanceElapsed
  split
  · omega
  · simp only [State.pass]
    omega

/-- The power logic as a write command leaves it: answering and the ports add nothing to the chapter's effect. -/
theorem Settled.power {r : WRes} {t : State} (h : Settled r t) : t.power = r.st.power := h.keeps.power_eq (by decide)

/-! ## The commands (R632) -/

/-- An entry requested with none in progress is in progress at the answer, which raises event 2. -/
theorem Settled.entry {s t : State} {e : Entry}
    (h : Settled (done ((if s.power.entry.isSome then s else s.setPower { s.power with entry := some e }).raise 2)) t)
    (hs : s.power.entry = none) : Answers t stOk 0 ∧ t.power.entry = some e ∧ t.raised 2 = true := by
  refine ⟨h.ans, ?_, h.evs 2 (raised_raise_self _ 2 (by decide))⟩
  rw [h.power]
  simp [done, hs, State.setPower]

theorem standby_settles {o : Origin} {x : Row} {s : State} (h : Passes s o 0x500200 0 (fun d => numRow d 1) x)
    (hs : s.power.entry = none) :
    ∃ t, exec (.standby 1 o) s = .next t ∧ Answers t stOk 0 ∧ t.power.entry = some .standby ∧ t.raised 2 = true := by
  obtain rfl := passes_num h rfl rfl rfl
  exact ⟨_, rfl, (request_of h hook_500200).entry (e := .standby) hs⟩

theorem hibernate_settles {n : Nat} {o : Origin} {x : Row} {s : State} (h : Passes s o 0x500300 0 (fun d => numRow d n) x)
    (hs : s.power.entry = none) :
    ∃ t, exec (.hibernate n o) s = .next t ∧ Answers t stOk 0 ∧ t.raised 2 = true ∧
      t.power.entry = some (.hibernate (if n = 0 then none else some n)) := by
  obtain rfl := passes_num h rfl rfl rfl
  obtain ⟨hans, hentry, hevent⟩ := (request_of h hook_500300).entry (e := .hibernate (if n = 0 then none else some n)) hs
  exact ⟨_, rfl, hans, hevent, hentry⟩

/-! ## The end of an entry (R30, R617, R632, R633) -/

theorem railsOff_power (s : State) (st : PowerState) (link : Bool) : (s.railsOff st link).power =
    { s.power with
      state := st, service := .bootRom, inReset := true, requested := false, recording := false, pwrEn := false, linkEn := link,
      entry := none, quenched := true, driven := 0, dikeOverride := true, warned := false } := by
  simp [State.railsOff, State.setPower, State.resetValues, State.quench]

@[simp] theorem railsOff_aon (s : State) (st : PowerState) (link : Bool) : (s.railsOff st link).aon = s.aon := by
  simp [State.railsOff, State.setPower, State.resetValues, State.quench]

@[simp] theorem railsOff_flash (s : State) (st : PowerState) (link : Bool) : (s.railsOff st link).flash = s.saveCome.flash := rfl

@[simp] theorem railsOff_elapsed (s : State) (st : PowerState) (link : Bool) : (s.railsOff st link).clk.elapsed = s.clk.elapsed := by
  simp [State.railsOff, State.setPower, State.resetValues, State.quench]

/-- Every entry ends with the main rails off, the strands quenched and Crest dropped; the retention latch stays. -/
theorem enterSleep_off (s : State) (e : Entry) :
    (s.enterSleep e).power.pwrEn = false ∧ (s.enterSleep e).power.quenched = true ∧ (s.enterSleep e).power.dikeOverride = true ∧
      (s.enterSleep e).aon.retain = s.aon.retain ∧ (s.enterSleep e).flash = s.saveCome.flash := by
  cases e with
  | standby => simp [State.enterSleep, railsOff_power]
  | hibernate timer => cases timer <;> simp [State.enterSleep, State.setWakeTimer, State.setPower, railsOff_power]
  | brownout n => simp [State.enterSleep, State.setWakeTimer, State.setPower, railsOff_power]

theorem enterSleep_standby (s : State) :
    (s.enterSleep .standby).power.state = .standby ∧ (s.enterSleep .standby).power.linkEn = true ∧
      (s.enterSleep .standby).aon.entry = 1 ∧ (s.enterSleep .standby).power.detector = s.wakePatterns := by
  simp [State.enterSleep, railsOff_power]

theorem enterSleep_hibernate (s : State) (n : Option Nat) :
    (s.enterSleep (.hibernate n)).power.state = .hibernate ∧ (s.enterSleep (.hibernate n)).power.linkEn = false ∧
      (s.enterSleep (.hibernate n)).aon.entry = 1 ∧
      ∀ k, n = some k → (s.enterSleep (.hibernate n)).power.wakeTimer = some (s.clk.elapsed + k * 1000000000) := by
  cases n <;> simp [State.enterSleep, State.setWakeTimer, State.setPower, railsOff_power]

theorem enterSleep_brownout (s : State) (n : Nat) :
    (s.enterSleep (.brownout n)).power.state = .hibernate ∧ (s.enterSleep (.brownout n)).power.linkEn = false ∧
      (s.enterSleep (.brownout n)).aon.entry = 2 ∧
      (s.enterSleep (.brownout n)).power.wakeTimer = some (s.clk.elapsed + n * 1000000000) := by
  simp [State.enterSleep, State.setWakeTimer, State.setPower, railsOff_power]

/-- An entry ends as `enterSleep` says when no reset has come in its way and no wake has been latched during it. -/
theorem execPowerEntry_eq {s : State} {e : Entry} (he : s.power.entry = some e) (hreq : s.power.requested = false)
    (hres : s.power.inReset = false) (hw : s.power.wakeLatch = none) : execPowerEntry s = s.enterSleep e := by
  simp [execPowerEntry, he, hreq, hres, hw]

/-! ## Waking (R29, R32, R634) -/

theorem wakeUp_aon (s : State) (w : WakeSource) : (s.wakeUp w).aon =
    { s.aon with cause := 7, also := 0, wakeFrom := if s.power.state = .standby then 1 else 2, wakeSource := w.code,
                 memory := 0, source := 0, addr := 0 } := rfl

theorem wakeUp_power (s : State) (w : WakeSource) : (s.wakeUp w).power =
    { s.power with
      state := .berm, service := .bootRom, inReset := true, recording := true, requested := false, pwrEn := true, linkEn := true,
      pwrEnAt := s.clk.elapsed, wakeLatch := none, wakeTimer := none, detector := [], quenched := true, driven := 0,
      dikeOverride := true } := rfl

@[simp] theorem wakeUp_clk (s : State) (w : WakeSource) : (s.wakeUp w).clk = s.clk := rfl

/-- A trigger wakes a node that is asleep. -/
theorem trigger_asleep {s : State} (w : WakeSource) (ha : s.asleep = true) (he : s.power.entry = none) : s.trigger w = s.wakeUp w := by
  simp [State.trigger, ha, he]

/-- During an entry the first trigger is latched. -/
theorem trigger_entering {s : State} (w : WakeSource) (he : s.power.entry.isSome = true) (hw : s.power.wakeLatch = none) :
    (s.trigger w).power.wakeLatch = some w := by
  simp [State.trigger, he, hw, State.setPower]

/-- The wake timer expires at the first AON tick at or after its instant. -/
theorem execWakeTimer_eq {s : State} {e : Nat} (hs : s.power.state = .hibernate) (ht : s.power.wakeTimer = some e) :
    execWakeTimer s = (s.advanceElapsed (aonTick e)).wakeUp .timer := by
  simp [execWakeTimer, hs, ht]

theorem wakeUp_timer {s : State} (hs : s.power.state = .hibernate) :
    (s.wakeUp .timer).aon.cause = 7 ∧ (s.wakeUp .timer).aon.wakeFrom = 2 ∧ (s.wakeUp .timer).aon.wakeSource = 2 ∧
      (s.wakeUp .timer).power.pwrEn = true ∧ (s.wakeUp .timer).power.wakeTimer = none ∧
      (s.wakeUp .timer).clk.elapsed = s.clk.elapsed := by
  simp [wakeUp_aon, wakeUp_power, WakeSource.code, hs]

theorem execWakeTimer_wakes {s : State} {e : Nat} (hs : s.power.state = .hibernate) (ht : s.power.wakeTimer = some e) :
    (execWakeTimer s).aon.cause = 7 ∧ (execWakeTimer s).aon.wakeFrom = 2 ∧ (execWakeTimer s).aon.wakeSource = 2 ∧
      (execWakeTimer s).power.pwrEn = true ∧ (execWakeTimer s).power.wakeTimer = none ∧
      (execWakeTimer s).clk.elapsed = max s.clk.elapsed (aonTick e) := by
  rw [execWakeTimer_eq hs ht, ← advanceElapsed_elapsed]
  exact wakeUp_timer (by rw [advanceElapsed_power, hs])

/-- A frame that a copied pattern matches wakes a node in LINK STANDBY. -/
theorem execWakePatternMatch_eq {f : EthFrame} {both : Bool} {v : Row} {s : State} (hs : s.power.state = .standby)
    (he : s.power.entry = none) (hv : s.power.detector.find? (wakeMatch f) = some v) :
    execWakePatternMatch f both s = s.wakeUp (if both then .pin else .pattern (v.headD 0)) := by
  have ha : s.asleep = true := by simp [State.asleep, hs]
  simp [execWakePatternMatch, hs, hv, trigger_asleep _ ha he]

/-! ## The clauses, and the obligation -/

theorem powerEntry_enters {e : Entry} {s : State} (he : s.power.entry = some e) (hreq : s.power.requested = false)
    (hres : s.power.inReset = false) (hw : s.power.wakeLatch = none) : ∃ t, exec .powerEntry s = .next t ∧
      t.power.pwrEn = false ∧ t.power.quenched = true ∧ t.power.dikeOverride = true ∧ t.aon.retain = s.aon.retain ∧
      t.flash = s.saveCome.flash ∧
      (e = .standby → t.power.state = .standby ∧ t.power.linkEn = true ∧ t.aon.entry = 1 ∧ t.power.detector = s.wakePatterns) ∧
      (∀ n, e = .hibernate n → t.power.state = .hibernate ∧ t.power.linkEn = false ∧ t.aon.entry = 1 ∧
        (∀ k, n = some k → t.power.wakeTimer = some (s.clk.elapsed + k * 1000000000))) ∧
      (∀ n, e = .brownout n → t.power.state = .hibernate ∧ t.power.linkEn = false ∧ t.aon.entry = 2 ∧
        t.power.wakeTimer = some (s.clk.elapsed + n * 1000000000)) := by
  obtain ⟨hpwr, hquench, hdike, hretain, hflash⟩ := enterSleep_off s e
  refine ⟨_, rfl, ?_⟩
  rw [execPowerEntry_eq he hreq hres hw]
  refine ⟨hpwr, hquench, hdike, hretain, hflash, ?_, ?_, ?_⟩
  · rintro rfl
    exact enterSleep_standby s
  · rintro n rfl
    exact enterSleep_hibernate s n
  · rintro n rfl
    exact enterSleep_brownout s n

theorem wake_wakes (s : State) : ∃ t, exec .wake s = .next t ∧
    (s.asleep = true → s.power.entry = none → t.aon.cause = 7 ∧ t.aon.wakeFrom = (if s.power.state = .standby then 1 else 2) ∧
      t.aon.wakeSource = 1 ∧ t.aon.entry = s.aon.entry ∧ t.power.pwrEn = true ∧ t.power.linkEn = true ∧
      t.power.pwrEnAt = s.clk.elapsed ∧ t.power.inReset = true) ∧
    (s.power.entry.isSome = true → s.power.wakeLatch = none → t.power.wakeLatch = some .pin) := by
  refine ⟨_, rfl, fun ha he => ?_, trigger_entering .pin⟩
  rw [execWake, trigger_asleep _ ha he]
  simp [wakeUp_aon, wakeUp_power, WakeSource.code]

theorem wakeTimer_wakes {e : Nat} {s : State} (hs : s.power.state = .hibernate) (ht : s.power.wakeTimer = some e) :
    ∃ t, exec .wakeTimer s = .next t ∧ t.aon.cause = 7 ∧ t.aon.wakeFrom = 2 ∧ t.aon.wakeSource = 2 ∧ t.power.pwrEn = true ∧
      t.power.wakeTimer = none ∧ t.clk.elapsed = max s.clk.elapsed (aonTick e) := by
  have h := execWakeTimer_wakes hs ht
  have hexec : exec .wakeTimer s = ans s (execWakeTimer s) := rfl
  rw [hexec]
  -- The kernel must not compute the state in which the timer has expired, with its arithmetic on instants.
  generalize execWakeTimer s = u at h ⊢
  exact ⟨_, rfl, h⟩

theorem wakePatternMatch_wakes {f : EthFrame} {both : Bool} {v : Row} {s : State} (hs : s.power.state = .standby)
    (he : s.power.entry = none) (hv : s.power.detector.find? (wakeMatch f) = some v) :
    ∃ t, exec (.wakePatternMatch f both) s = .next t ∧ t.aon.cause = 7 ∧ t.aon.wakeFrom = 1 ∧
      t.aon.wakeSource = (if both then 1 else 4 + v.headD 0) ∧ t.power.pwrEn = true := by
  refine ⟨_, rfl, ?_⟩
  rw [execWakePatternMatch_eq hs he hv]
  cases both <;> simp [wakeUp_aon, wakeUp_power, WakeSource.code, hs]

/-- Settles O11: the two commands by what a settled write keeps of its chapter's effect, the end of an entry by cases on the entry, and
each source of a wake by what `wakeUp` records. -/
theorem sleepCommands : Obligations.SleepCommands :=
  ⟨fun _ _ _ => standby_settles, fun _ _ _ _ => hibernate_settles, fun _ _ => powerEntry_enters, wake_wakes, fun _ _ => wakeTimer_wakes,
    fun _ _ _ _ => wakePatternMatch_wakes⟩

end Sys2Proof.Machine
end

section
/-! SUPPORT. Missed Syncs, Announce timeouts, the end of holdover and domain switches (R48, R50, R59 to R61): what time passing, an event
and a change of the domain selection leave of the two servos, and what a servo's change of state brings. -/

namespace Sys2Proof.Machine

/-- A command's answer has what its effect has, unless that is about the waiting commands. -/
theorem ans_next {s u : State} {P : State → Prop} (hq : ∀ u q, P u → P { u with pending := q }) (h : P u) :
    ∃ t, ans s u = .next t ∧ P t := ⟨_, rfl, hq _ _ h⟩

/-! ## What a state shows depends on the part it stands in

Facts about an update rest on these and not on a computation, so that the kernel never compares the states themselves. -/

theorem State.now_congr {s t : State} (h : t.clk = s.clk) : t.now = s.now := congrArg (·.node / 65536) h

theorem State.pulse_congr {s t : State} {r : Nat} (h : t.time = s.time) : t.pulse r = s.pulse r :=
  congrArg (fun x : Time => tget Pulse.init x.pulses r) h

theorem State.captures_congr {s t : State} {i : Nat} (h : t.time.captures = s.time.captures) : t.captures i = s.captures i :=
  congrArg (tget [] · i) h

theorem State.raised_congr {s t : State} {e : Nat} (h : t.evt = s.evt) : t.raised e = s.raised e := congrArg (·.cause.getLsbD e) h

theorem State.fld_congr {s t : State} {o r c : Nat} (h : t.od = s.od) : t.fld o r c = s.fld o r c :=
  congrArg (fun x => (tget (dfltRow o r) (tget [] x o) r).getD c 0) h

/-! ## Time passes until an instant -/

section
variable (s : State) (pt : Nat)

@[simp] theorem advanceTo_od : (s.advanceTo pt).od = s.od := by
  unfold State.advanceTo
  split <;> rfl

@[simp] theorem advanceTo_fld (o r c : Nat) : (s.advanceTo pt).fld o r c = s.fld o r c := State.fld_congr (advanceTo_od s pt)

@[simp] theorem advanceTo_val (o : Nat) : (s.advanceTo pt).val o = s.val o := advanceTo_fld ..

@[simp] theorem advanceTo_power : (s.advanceTo pt).power = s.power := (State.advanceTo_keeps s pt).power_eq (by decide)

theorem advanceTo_time : (s.advanceTo pt).time = { s.time with toSlew := (s.advanceTo pt).time.toSlew } := by
  unfold State.advanceTo
  split <;> rfl

@[simp] theorem advanceTo_servo (d : Nat) : (s.advanceTo pt).servo d = s.servo d := by
  unfold State.servo
  rw [advanceTo_time]

@[simp] theorem advanceTo_switchAt : (s.advanceTo pt).time.switchAt = s.time.switchAt := by rw [advanceTo_time]

@[simp] theorem advanceTo_servoState (d : Nat) : (s.advanceTo pt).servoState d = s.servoState d := advanceTo_val ..

@[simp] theorem advanceTo_sourcePort (d : Nat) : (s.advanceTo pt).sourcePort d = s.sourcePort d := advanceTo_val ..

@[simp] theorem advanceTo_selected : (s.advanceTo pt).selected = s.selected := advanceTo_val ..

@[simp] theorem advanceTo_syncInterval (d : Nat) : (s.advanceTo pt).syncInterval d = s.syncInterval d := by simp [State.syncInterval]

/-- The instant has come. -/
theorem le_now_advanceTo : pt ≤ (s.advanceTo pt).now := by
  unfold State.advanceTo State.now
  split
  · exact (Nat.le_div_iff_mul_le (by decide)).mpr ‹_›
  · simp

end

/-- An instant that has come already brings nothing. -/
theorem advanceTo_of_le_now {s : State} {pt : Nat} (h : pt ≤ s.now) : s.advanceTo pt = s :=
  if_pos ((Nat.le_div_iff_mul_le (by decide)).mp h)

/-! ## Objects and parts after a raise -/

section
variable (s : State) (e : Nat)

@[simp] theorem raise_clk : (s.raise e).clk = s.clk := (State.raise_keeps s e).clk_eq (by decide)

@[simp] theorem raise_time : (s.raise e).time = s.time := (State.raise_keeps s e).time_eq (by decide)

@[simp] theorem raise_now : (s.raise e).now = s.now := State.now_congr (raise_clk s e)

@[simp] theorem raise_servo (d : Nat) : (s.raise e).servo d = s.servo d := by simp [State.servo]

/-- A raise writes no object but its counts. -/
theorem raise_row {o : Nat} (r : Nat) (h : o ≠ 0x400000) : (s.raise e).row o r = s.row o r := by
  unfold State.raise
  extract_lets evt s1 s2
  have h2 : s2.row o r = s.row o r := row_setRow_of_ne s1 _ (fun k => h k.1)
  split <;> exact h2

theorem raise_fld {o : Nat} (r c : Nat) (h : o ≠ 0x400000) : (s.raise e).fld o r c = s.fld o r c :=
  congrArg (·.getD c 0) (raise_row s e r h)

theorem raise_val {o : Nat} (h : o ≠ 0x400000) : (s.raise e).val o = s.val o := raise_fld s e 0 0 h

end

/-! ## The objects of a domain -/

@[simp] theorem oDomain_inj {d c c' : Nat} : oDomain d c' = oDomain d c ↔ c' = c := by
  unfold oDomain
  split <;> omega

/-- Another object of the same domain is left alone. -/
theorem val_setDomain (s : State) (d c c' v : Nat) :
    (s.setVal (oDomain d c) v).val (oDomain d c') = if c' = c then v else s.val (oDomain d c') := by simp [val_setVal]

theorem val_setDomain_of_other (s : State) {o d c : Nat} (v : Nat) (hc : c < 256) (ho : o / 256 ≠ 0x1301 ∧ o / 256 ≠ 0x1302) :
    (s.setVal o v).val (oDomain d c) = s.val (oDomain d c) := by
  rw [val_setVal, if_neg]
  unfold oDomain
  split <;> omega

section
variable (s : State) (d : Nat) (x : Servo)

@[simp] theorem servo_setServo_self : (s.setServo d x).servo d = x := by
  unfold State.setServo State.servo
  split <;> rfl

@[simp] theorem setServo_od : (s.setServo d x).od = s.od := by
  unfold State.setServo
  split <;> rfl

@[simp] theorem setServo_val (o : Nat) : (s.setServo d x).val o = s.val o := State.fld_congr (setServo_od s d x)

@[simp] theorem setServo_servoState (i : Nat) : (s.setServo d x).servoState i = s.servoState i := setServo_val ..

@[simp] theorem setServo_sourcePort (i : Nat) : (s.setServo d x).sourcePort i = s.sourcePort i := setServo_val ..

@[simp] theorem setServo_clk : (s.setServo d x).clk = s.clk := (State.setServo_keeps s d x).clk_eq (by decide)

@[simp] theorem setVal_servo (o v i : Nat) : (s.setVal o v).servo i = s.servo i := rfl

@[simp] theorem setVal_clk (o v : Nat) : (s.setVal o v).clk = s.clk := rfl

@[simp] theorem setVal_time (o v : Nat) : (s.setVal o v).time = s.time := rfl

end

/-! ## Node time's state -/

/-- Between s and t the rates at which time passes may change, and nothing else that the time chapter shows. -/
structure RatesOnly (s t : State) : Prop where
  od : t.od = s.od
  evt : t.evt = s.evt
  node : t.clk.node = s.clk.node
  servo : ∀ d, t.servo d = s.servo d
  switchAt : t.time.switchAt = s.time.switchAt

/-- Node time's state is what it was, or its object is written and event 112 raised; the rates may follow. -/
theorem updateNode_cases (s : State) : s.updateNode = s ∨
    ∃ n u, RatesOnly s u ∧ s.updateNode = (u.setVal oNodeState n).raise 112 := by
  unfold State.updateNode
  extract_lets n s1
  split
  · exact .inl rfl
  · refine .inr ⟨n, s1, ?_, rfl⟩
    simp only [s1]
    split
    · exact ⟨rfl, rfl, rfl, fun _ => rfl, rfl⟩
    · split <;> exact ⟨rfl, rfl, rfl, fun _ => rfl, rfl⟩

/-! ## Node time's state and the domain selection leave the servos alone -/

/-- A later state of the same instant, in which both servos and the objects of both domains are as they were. -/
structure SameServos (s t : State) : Prop where
  servo : ∀ d, t.servo d = s.servo d
  obj : ∀ d c, c < 256 → t.val (oDomain d c) = s.val (oDomain d c)
  node : t.clk.node = s.clk.node
  evs : ∀ e, s.raised e = true → t.raised e = true

namespace SameServos

variable {s t u : State}

theorem now (h : SameServos s t) : t.now = s.now := congrArg (· / 65536) h.node

theorem refl (s : State) : SameServos s s := ⟨fun _ => rfl, fun _ _ _ => rfl, rfl, fun _ h => h⟩

theorem trans (h : SameServos s t) (k : SameServos t u) : SameServos s u where
  servo d := (k.servo d).trans (h.servo d)
  obj d c hc := (k.obj d c hc).trans (h.obj d c hc)
  node := k.node.trans h.node
  evs e x := k.evs e (h.evs e x)

theorem ite {c : Prop} [Decidable c] (ht : SameServos s t) (hu : SameServos s u) : SameServos s (if c then t else u) := by
  split <;> assumption

theorem raise (s : State) (e : Nat) : SameServos s (s.raise e) where
  servo := raise_servo s e
  obj d c hc := by
    have hg : oDomain d c / 4096 = 0x130 := oDomain_group hc
    exact raise_val s e (by omega)
  node := by rw [raise_clk]
  evs a := raised_raise s e a

theorem setVal (s : State) {o : Nat} (v : Nat) (ho : o / 256 ≠ 0x1301 ∧ o / 256 ≠ 0x1302) : SameServos s (s.setVal o v) where
  servo _ := rfl
  obj _ _ hc := val_setDomain_of_other s v hc ho
  node := rfl
  evs _ h := h

/-- A switch is counted. -/
theorem countSwitch (s : State) : SameServos s (s.bump32 0x413002 0 0) where
  servo _ := rfl
  obj d c hc := by
    unfold State.val State.bump32
    rw [fld_setFld, if_neg]
    unfold oDomain
    split <;> omega
  node := rfl
  evs _ h := h

/-- A part that is neither a servo, an object, node time nor a cause bit has changed. -/
theorem of_rest (hs : ∀ d, t.servo d = s.servo d) (ho : t.od = s.od) (hn : t.clk.node = s.clk.node) (he : t.evt = s.evt) :
    SameServos s t where
  servo := hs
  obj _ _ _ := State.fld_congr ho
  node := hn
  evs _ h := (State.raised_congr he).trans h

theorem trackPreferred (s : State) : SameServos s s.trackPreferred := of_rest (fun _ => rfl) rfl rfl rfl

theorem touchSettings (s : State) : SameServos s s.touchSettings := by
  unfold State.touchSettings
  split <;> exact of_rest (fun _ => rfl) rfl rfl rfl

theorem updateNode (s : State) : SameServos s s.updateNode := by
  obtain h | ⟨n, u, hu, h⟩ := updateNode_cases s <;> rw [h]
  · exact .refl s
  · exact ((of_rest hu.servo hu.od hu.node hu.evt).trans (.setVal u n (by decide))).trans (.raise ..)

theorem follow (s : State) (d : Nat) : SameServos s (s.follow d) := by
  unfold State.follow
  extract_lets s1 clk time s2
  have h1 : SameServos s s1 := (SameServos.setVal s d (by decide)).trans (.countSwitch _)
  have h2 : SameServos s s2 := .ite h1 (h1.trans (of_rest (fun _ => rfl) rfl rfl rfl))
  exact h2.trans (.updateNode _)

theorem switchTo (s : State) (d : Nat) : SameServos s (s.switchTo d) := (follow s d).trans (.raise ..)

theorem timedTest (s : State) (target : Nat) : SameServos s (s.timedTest target) := by
  unfold State.timedTest
  extract_lets time s0 m s1 s2
  have h0 : SameServos s s0 := of_rest (fun _ => rfl) rfl rfl rfl
  have h1 : SameServos s s1 := .ite h0 (h0.trans (.follow ..))
  have h2 : SameServos s s2 := (h1.trans (.setVal _ _ (by decide))).trans (.touchSettings _)
  exact .ite (((h2.trans (.setVal _ 2 (by decide))).trans (.trackPreferred _)).trans (.raise ..))
    ((h0.trans (.setVal _ 3 (by decide))).trans (.raise ..))

theorem timedFirst (s : State) : SameServos s s.timedFirst := by
  unfold State.timedFirst
  split
  · exact .refl s
  · exact .ite (.timedTest ..) (.refl s)

theorem autoSwitch (s : State) : SameServos s s.autoSwitch := by
  unfold State.autoSwitch
  extract_lets s1
  exact .ite (.ite ((timedFirst s).trans (.switchTo ..)) (.timedFirst s)) (.refl s)

end SameServos

/-! ## A servo changes state -/

/-- What the change of servo d from another state to st brings, and what it leaves. -/
structure Entered (d st : Nat) (s t : State) : Prop where
  state : t.servoState d = st
  event : t.raised 112 = true
  source : t.sourcePort d = s.sourcePort d
  best : (t.servo d).best = (s.servo d).best
  expected : (t.servo d).expected = (s.servo d).expected
  now : t.now = s.now

theorem SameServos.entered {d st : Nat} {s u t : State} (h : Entered d st s u) (k : SameServos u t) : Entered d st s t where
  state := (k.obj d 6 (by decide)).trans h.state
  event := k.evs 112 h.event
  source := (k.obj d 0x0B (by decide)).trans h.source
  best := (congrArg Servo.best (k.servo d)).trans h.best
  expected := (congrArg Servo.expected (k.servo d)).trans h.expected
  now := k.now.trans h.now

theorem setServoState_enters {s0 : State} {d st : Nat} (h : s0.servoState d ≠ st) : Entered d st s0 (s0.setServoState d st) := by
  unfold State.setServoState
  rw [if_neg h]
  extract_lets s x fz x1 s1 clk time1 s2 time2 s3
  have hdiff : s.sourcePort d = s0.sourcePort d := (SameServos.setVal s0 s0.diffNow (by decide)).obj d 0x0B (by decide)
  have hsource : s1.val (oDomain d 0x0B) = s0.sourcePort d := by
    simp only [s1, val_setDomain, setServo_val]
    exact hdiff
  have hstate : s1.val (oDomain d 6) = st := by simp [s1, val_setDomain]
  have hservo : s1.servo d = x1 := servo_setServo_self s d x1
  have hnow : s1.now = s0.now := by simp [s1, s, State.now, State.updateDiff]
  have h2 : SameServos s1 s2 := .ite (.of_rest (fun _ => rfl) rfl rfl rfl) (.refl s1)
  have h3 : SameServos s1 s3 := h2.trans (.ite (.of_rest (fun _ => rfl) rfl rfl rfl) (.refl s2))
  have h4 := h3.trans (.raise s3 112)
  refine SameServos.entered (u := s3.raise 112) ?_ (((SameServos.trackPreferred _).trans (.updateNode _)).trans (.autoSwitch _))
  exact {
    state := (h4.obj d 6 (by decide)).trans hstate
    event := raised_raise_self _ _ (by decide)
    source := (h4.obj d 0x0B (by decide)).trans hsource
    best := by rw [h4.servo, hservo]; rfl
    expected := by rw [h4.servo, hservo]; rfl
    now := h4.now.trans hnow }

/-! ## A servo without a master (R48, R50) -/

/-- Servo d has no Announce, expects no Sync and has no source port. -/
structure Masterless (d : Nat) (s : State) : Prop where
  best : (s.servo d).best = []
  expected : (s.servo d).expected = none
  source : s.sourcePort d = 0xFF

/-- A servo that has dropped its Announces and its expectation, and whose source port is none. -/
theorem masterless_setServo (s : State) (d : Nat) (x : Servo) (hb : x.best = []) (he : x.expected = none) :
    Masterless d ((s.setServo d x).setVal (oDomain d 0x0B) 0xFF) where
  best := by simp [hb]
  expected := by simp [he]
  source := by simp [State.sourcePort, val_setDomain]

theorem Masterless.entered {d st : Nat} {s t : State} (h : Masterless d s) (k : Entered d st s t) : Masterless d t :=
  ⟨k.best.trans h.best, k.expected.trans h.expected, k.source.trans h.source⟩

/-- With no Announce left, selecting a port only leaves ACQUIRING. -/
theorem Masterless.reselect {d : Nat} {s : State} (h : Masterless d s) :
    Masterless d (s.reselect d) ∧ (s.reselect d).servoState d = if s.servoState d = 2 then 1 else s.servoState d := by
  have hsel : s.reselect d = s.noMaster d := by simp [State.reselect, h.best, pickPort]
  rw [hsel]
  unfold State.noMaster
  extract_lets s1
  have h1 : Masterless d s1 := ⟨h.best, h.expected, by simp [s1, State.sourcePort, val_setDomain]⟩
  have hst : s1.servoState d = s.servoState d := by simp [s1, State.servoState, val_setDomain]
  rw [← hst]
  split
  · have h2 : Entered d 1 s1 (s1.setServoState d 1) := setServoState_enters (by omega)
    exact ⟨h1.entered h2, h2.state⟩
  · exact ⟨h1, rfl⟩

/-! ## A domain switch (R60, R61) -/

theorem updateNode_val {s : State} {o : Nat} (hn : o ≠ oNodeState) (he : o ≠ 0x400000) : s.updateNode.val o = s.val o := by
  obtain h | ⟨n, u, hu, h⟩ := updateNode_cases s <;> rw [h]
  rw [raise_val _ _ he, val_setVal, if_neg hn]
  exact State.fld_congr hu.od

/-- Following a domain changes which one is selected, and of the other objects only node time's state and two counts. -/
theorem follow_val (s : State) (d : Nat) {o : Nat} (hn : o ≠ oNodeState) (he : o ≠ 0x400000) (hc : o ≠ 0x413002) :
    (s.follow d).val o = if o = oSelected then d else s.val o := by
  unfold State.follow
  extract_lets s1 clk time s2
  have h1 : s1.val o = if o = oSelected then d else s.val o := by
    have hb : s1.val o = (s.setVal oSelected d).val o := by
      unfold State.val
      exact (fld_setFld ..).trans (if_neg fun k => hc k.1)
    rw [hb, val_setVal]
  have h2 : s2.val o = s1.val o := by
    simp only [s2]
    split <;> rfl
  rw [updateNode_val hn he, h2, h1]

theorem follow_selected (s : State) (d : Nat) : (s.follow d).selected = d := follow_val s d (by decide) (by decide) (by decide)

@[simp] theorem updateNode_switchAt (s : State) : s.updateNode.time.switchAt = s.time.switchAt := by
  obtain h | ⟨n, u, hu, h⟩ := updateNode_cases s <;> rw [h]
  rw [raise_time, setVal_time, hu.switchAt]

@[simp] theorem follow_switchAt (s : State) (d : Nat) : (s.follow d).time.switchAt = s.time.switchAt := by
  unfold State.follow
  extract_lets s1 clk time s2
  have h2 : s2.time.switchAt = s.time.switchAt := by
    simp only [s2]
    split <;> rfl
  rw [updateNode_switchAt, h2]

theorem switchTo_selected (s : State) (d : Nat) : (s.switchTo d).selected = d :=
  (raise_val _ 113 (by decide)).trans (follow_selected s d)

theorem switchTo_raised (s : State) (d : Nat) : (s.switchTo d).raised 113 = true := raised_raise_self _ _ (by decide)

@[simp] theorem touchSettings_val (s : State) (o : Nat) : s.touchSettings.val o = s.val o := by
  unfold State.touchSettings
  split <;> rfl

@[simp] theorem touchSettings_time (s : State) : s.touchSettings.time = s.time := by
  unfold State.touchSettings
  split <;> rfl

/-- A change of the preferred servo's time in LOCKED writes no object. -/
@[simp] theorem trackPreferred_val (s : State) (o : Nat) : s.trackPreferred.val o = s.val o := rfl

@[simp] theorem trackPreferred_switchAt (s : State) : s.trackPreferred.time.switchAt = s.time.switchAt := rfl

theorem timedTest_done (s : State) (target : Nat) :
    (s.timedTest target).time.switchAt = none ∧ (s.timedTest target).raised 113 = true ∧ (s.timedTest target).now = s.now := by
  refine ⟨?_, ?_, (SameServos.timedTest s target).now⟩ <;> unfold State.timedTest <;> extract_lets time s0 m s1 s2
  · have h1 : s1.time.switchAt = none := by
      simp only [s1]
      split
      · rfl
      · exact follow_switchAt s0 target
    split
    · simp [s2, h1]
    · rw [raise_time]
      rfl
  · split <;> exact raised_raise_self _ _ (by decide)

/-- A timed switch to a servo that is LOCKED is made. -/
theorem timedTest_locked {s : State} {target : Nat} (h : s.servoState target = 3) :
    (s.timedTest target).selected = target ∧ (s.timedTest target).val oSwitchResult = 2 ∧
      (s.timedTest target).val oDomainMode = if s.val oDomainMode < 2 then target else 2 + target := by
  unfold State.timedTest
  extract_lets time s0 m s1 s2
  have h1 : s1.selected = target := by
    simp only [s1]
    split
    · assumption
    · exact follow_selected s0 target
  have h2 : s2.selected = target := by
    simp only [s2, State.selected, touchSettings_val]
    rw [val_setVal, if_neg (by decide)]
    exact h1
  have hm : s2.val oDomainMode = if m < 2 then target else 2 + target := by simp [s2, val_setVal]
  rw [if_pos (show s0.servoState target = 3 from h)]
  unfold State.selected at h2 ⊢
  have hv : ∀ o, o ≠ 0x400000 → (((s2.setVal oSwitchResult 2).trackPreferred).raise 113).val o =
      if o = oSwitchResult then 2 else s2.val o := fun o ho => by rw [raise_val _ _ ho, trackPreferred_val, val_setVal]
  exact ⟨(hv oSelected (by decide)).trans h2, hv oSwitchResult (by decide), (hv oDomainMode (by decide)).trans hm⟩

/-- A timed switch to a servo that is not is refused. -/
theorem timedTest_unlocked {s : State} {target : Nat} (h : s.servoState target ≠ 3) :
    (s.timedTest target).selected = s.selected ∧ (s.timedTest target).val oSwitchResult = 3 ∧
      (s.timedTest target).val oDomainMode = s.val oDomainMode := by
  unfold State.timedTest
  extract_lets time s0 m s1 s2
  rw [if_neg (show s0.servoState target ≠ 3 from h)]
  have hv : ∀ o, o ≠ 0x400000 → ((s0.setVal oSwitchResult 3).raise 113).val o = if o = oSwitchResult then 3 else s.val o :=
    fun o ho => by rw [raise_val _ _ ho, val_setVal]; rfl
  exact ⟨hv oSelected (by decide), hv oSwitchResult (by decide), hv oDomainMode (by decide)⟩

/-! ## The clauses, and the obligation -/

theorem syncMissed_counts {d e : Nat} {s : State} (hrun : s.timeRuns = true) (hd : d ≤ 1) (he : (s.servo d).expected = some e) :
    ∃ t, exec (.syncMissed d) s = .next t ∧
      (s.servoState d ≠ 3 ∨ (s.servo d).missed < 3 → (t.servo d).missed = (s.servo d).missed + 1 ∧
        (t.servo d).expected = some (e + s.syncInterval d) ∧ t.servoState d = s.servoState d) ∧
      (s.servoState d = 3 → 3 ≤ (s.servo d).missed → t.servoState d = 4 ∧ t.raised 112 = true) := by
  refine ans_next (u := execSyncMissed d s) (fun _ _ h => h) ?_
  unfold execSyncMissed
  simp -zeta only [hd, hrun, he, decide_true, Bool.and_self, if_true]
  extract_lets s1 x s2
  have hx : x = s.servo d := advanceTo_servo ..
  have hst : s2.servoState d = s.servoState d := by simp [s2, s1]
  have hservo : s2.servo d = { x with missed := x.missed + 1, expected := some (e + s1.syncInterval d) } := servo_setServo_self ..
  rw [hst, hx]
  constructor
  · intro h
    rw [if_neg (by omega), hservo, hx, advanceTo_syncInterval]
    exact ⟨rfl, rfl, hst⟩
  · intro h3 hm
    have h4 : Entered d 4 s2 (s2.setServoState d 4) := setServoState_enters (by omega)
    rw [if_pos ⟨h3, by omega⟩]
    exact ⟨h4.state, h4.event⟩

theorem announceTimeout_drops {d p : Nat} {a : PortAnnounce} {s : State} (hrun : s.timeRuns = true) (hd : d ≤ 1)
    (hb : (s.servo d).best = [(p, a)]) (hp : s.sourcePort d = p) : ∃ t, exec (.announceTimeout d p) s = .next t ∧
      (t.servo d).best = [] ∧ t.sourcePort d = 0xFF ∧ (t.servo d).expected = none ∧
      (s.servoState d = 3 → t.servoState d = 4) ∧ (s.servoState d = 2 → t.servoState d = 1) := by
  refine ans_next (u := execAnnounceTimeout d p s) (fun _ _ h => h) ?_
  have hfind : tfind (s.servo d).best p = some a := by simp [hb, tfind]
  unfold execAnnounceTimeout
  simp -zeta only [hd, hrun, hfind, decide_true, Bool.and_self, if_true]
  extract_lets s1 x s2 servo s3
  rw [if_pos (show s1.sourcePort d = p by rw [advanceTo_sourcePort, hp])]
  have hservo : servo.best = [] := by simp [servo, s2, x, s1, hb, tdel]
  have h3 : Masterless d s3 := masterless_setServo _ _ _ hservo rfl
  have hst : s3.servoState d = s.servoState d := by simp [s3, s2, s1, State.servoState, val_setDomain]
  rw [hst]
  split
  case isTrue hlocked =>
    have h4 : Entered d 4 s3 (s3.setServoState d 4) := setServoState_enters (by omega)
    obtain ⟨hnone, hstate⟩ := (h3.entered h4).reselect
    rw [h4.state] at hstate
    exact ⟨hnone.best, hnone.source, hnone.expected, fun _ => hstate, fun h => by omega⟩
  case isFalse hlocked =>
    obtain ⟨hnone, hstate⟩ := h3.reselect
    rw [hst] at hstate
    exact ⟨hnone.best, hnone.source, hnone.expected, fun h => absurd h hlocked, fun h => hstate.trans (if_pos h)⟩

theorem holdoverExpiry_listens {d : Nat} {s : State} (hd : d ≤ 1) (hs : s.servoState d = 4) :
    ∃ t, exec (.holdoverExpiry d) s = .next t ∧ t.servoState d = 1 ∧ t.sourcePort d = 0xFF ∧ (t.servo d).best = [] ∧
      s.holdoverDue d ≤ t.now ∧ t.raised 112 = true := by
  refine ans_next (u := execHoldoverExpiry d s) (fun _ _ h => h) ?_
  unfold execHoldoverExpiry State.holdoverEnd
  rw [if_pos ⟨hd, hs⟩, if_pos ((advanceTo_servoState ..).trans hs)]
  extract_lets servo s1
  have h2 : Masterless d (s1.setVal (oDomain d 0x0B) 0xFF) := masterless_setServo _ _ _ rfl rfl
  have hst : (s1.setVal (oDomain d 0x0B) 0xFF).servoState d = 4 := by simp [s1, State.servoState, val_setDomain, ← hs]
  have h3 : Entered d 1 _ ((s1.setVal (oDomain d 0x0B) 0xFF).setServoState d 1) := setServoState_enters (by omega)
  have hnow : (s1.setVal (oDomain d 0x0B) 0xFF).now = (s.advanceTo (s.holdoverDue d)).now := by simp [s1, State.now]
  refine ⟨h3.state, (h2.entered h3).source, (h2.entered h3).best, ?_, h3.event⟩
  rw [h3.now, hnow]
  exact le_now_advanceTo ..

theorem domainRevert_prefers {at_ : Nat} {s : State} (hsince : s.time.preferSince = some at_) (hauto : 2 ≤ s.val oDomainMode)
    (hrev : s.val 0x130006 = 1) (hsel : s.selected ≠ modeDomain (s.val oDomainMode))
    (hlocked : s.servoState (modeDomain (s.val oDomainMode)) = 3) (hnone : s.time.switchAt = none) :
    ∃ t, exec .domainRevert s = .next t ∧ t.selected = modeDomain (s.val oDomainMode) ∧ t.raised 113 = true ∧
      at_ + s.val 0x130007 * 1000000000 ≤ t.now := by
  refine ans_next (u := execDomainRevert s) (fun _ _ h => h) ?_
  unfold execDomainRevert
  simp -zeta only [hsince]
  rw [if_pos ⟨hauto, hrev, hsel⟩]
  extract_lets s1 d
  have h1 : s1 = s.advanceTo (at_ + s.val 0x130007 * 1000000000) := by simp [s1, State.timedFirst, hnone]
  have hd : d = modeDomain (s.val oDomainMode) := by simp [d, h1]
  rw [if_neg (by simp [hd, h1, hsel, hlocked]), switchTo_selected, (SameServos.switchTo s1 d).now, h1]
  exact ⟨hd, switchTo_raised .., le_now_advanceTo ..⟩

theorem switchAt_settles {v : List Byte} {o : Origin} {x : Row} {s : State} (h : Passes s o 0x130009 0 (fun d => rowOf d v) x)
    (hlater : s.now < ptNs (x.getD 1 0)) : ∃ t, exec (.switchAt v o) s = .next t ∧ Answers t stOk 0 ∧
      t.time.switchAt = some (x.headD 0, ptNs (x.getD 1 0)) ∧ t.val oSwitchResult = 1 := by
  refine ans_next (u := s.request o 0x130009 0 (fun d => rowOf d v)) (fun _ _ h => h) ?_
  have k := request_of h hook_130009
  have htime := k.keeps.time_eq (by decide)
  have hval := k.keeps.objs oSwitchResult 0 (by decide)
  simp only [done, writeSwitchAt] at htime hval
  rw [if_neg (by omega)] at htime hval
  exact ⟨k.ans, by rw [htime]; rfl, by rw [State.val, State.fld, hval]; simp [State.setVal]⟩

theorem timedSwitch_tests {target at_ : Nat} {s : State} (h : s.time.switchAt = some (target, at_)) :
    ∃ t, exec .timedSwitch s = .next t ∧ t.time.switchAt = none ∧ t.raised 113 = true ∧ tickUp at_ ≤ t.now ∧
      (s.servoState target = 3 → t.selected = target ∧ t.val oSwitchResult = 2 ∧
        t.val oDomainMode = (if s.val oDomainMode < 2 then target else 2 + target)) ∧
      (s.servoState target ≠ 3 → t.selected = s.selected ∧ t.val oSwitchResult = 3 ∧ t.val oDomainMode = s.val oDomainMode) := by
  refine ans_next (u := execTimedSwitch s) (fun _ _ h => h) ?_
  have hexec : execTimedSwitch s = (s.advanceTo (tickUp at_)).timedTest target := by simp only [execTimedSwitch, h]
  rw [hexec, ← advanceTo_servoState s (tickUp at_), ← advanceTo_selected s (tickUp at_), ← advanceTo_val s (tickUp at_)]
  obtain ⟨hnone, hevent, hnow⟩ := timedTest_done (s.advanceTo (tickUp at_)) target
  exact ⟨hnone, hevent, (le_now_advanceTo ..).trans_eq hnow.symm, timedTest_locked, timedTest_unlocked⟩

/-- Settles O13: a missed Sync, an Announce timeout and the end of holdover by what a servo's change of state brings and what losing its
master leaves, the two switches by what following a domain selects. That the end of holdover discards the Announces held is the choice of
log entry 78, SOURCE_PORT 0xFF at an Announce timeout that of entry 52. -/
theorem timeTimeouts : Obligations.TimeTimeouts :=
  ⟨fun _ _ _ => syncMissed_counts, fun _ _ _ _ => announceTimeout_drops, fun _ _ => holdoverExpiry_listens,
    fun _ _ => domainRevert_prefers, fun _ _ _ _ => switchAt_settles, fun _ _ _ => timedSwitch_tests⟩

end Sys2Proof.Machine
end

section
/-! SUPPORT. Pulse outputs and capture inputs (R70 to R81): a row written and armed, the edges of an output, and an edge captured. -/

namespace Sys2Proof.Machine

/-! ## Rows and running states of the outputs -/

section
variable (s : State) (r : Nat)

@[simp] theorem advanceTo_pulse (pt : Nat) : (s.advanceTo pt).pulse r = s.pulse r := by
  unfold State.pulse
  rw [advanceTo_time]

@[simp] theorem advanceTo_pulseState (pt : Nat) : (s.advanceTo pt).pulseState r = s.pulseState r := advanceTo_fld ..

@[simp] theorem raise_pulse (e : Nat) : (s.raise e).pulse r = s.pulse r := State.pulse_congr (raise_time s e)

@[simp] theorem raise_pulseState (e : Nat) : (s.raise e).pulseState r = s.pulseState r := raise_fld s e r 7 (by decide)

@[simp] theorem pulse_setPulse (x : Pulse) : (s.setPulse r x).pulse r = x := tget_tset_self ..

@[simp] theorem pulseState_setPulse (x : Pulse) : (s.setPulse r x).pulseState r = s.pulseState r := State.fld_congr rfl

@[simp] theorem now_setPulse (x : Pulse) : (s.setPulse r x).now = s.now := State.now_congr rfl

@[simp] theorem raised_setPulse (x : Pulse) (e : Nat) : (s.setPulse r x).raised e = s.raised e := State.raised_congr rfl

@[simp] theorem pulse_setPulseState (st : Nat) : (s.setPulseState r st).pulse r = s.pulse r := State.pulse_congr rfl

@[simp] theorem pulseState_setPulseState (st : Nat) : (s.setPulseState r st).pulseState r = st := by
  simp [State.pulseState, State.setPulseState, fld_setFld]

@[simp] theorem now_setPulseState (st : Nat) : (s.setPulseState r st).now = s.now := State.now_congr rfl

@[simp] theorem raised_setPulseState (st e : Nat) : (s.setPulseState r st).raised e = s.raised e := State.raised_congr rfl

@[simp] theorem pulse_bump32 (o i c : Nat) : (s.bump32 o i c).pulse r = s.pulse r := State.pulse_congr rfl

@[simp] theorem now_bump32 (o i c : Nat) : (s.bump32 o i c).now = s.now := State.now_congr rfl

theorem pulseState_bump32 {o : Nat} (i c : Nat) (h : oPulse ≠ o) : (s.bump32 o i c).pulseState r = s.pulseState r :=
  (fld_setFld ..).trans (if_neg fun k => h k.1)

@[simp] theorem completeOpt_none (st : Nat) : s.completeOpt none st = s := by rw [State.completeOpt]

end

/-! ## Edges (R71 to R75) -/

section
variable {r : Nat} {s : State}

theorem execPulseEdge_oneshotRise (hst : s.pulseState r = 1) (hm : pMode (s.pulse r).row = 1) (ha : (s.pulse r).active = false)
    (ht : (s.pulse r).task = none) : execPulseEdge r s =
      (((s.advanceTo (tickUp (pStart (s.pulse r).row))).setPulse r { s.pulse r with active := true, task := none }).setPulseState r
        2).raise 114 := by
  simp [execPulseEdge, hst, hm, ha, ht]

theorem execPulseEdge_oneshotFall (hst : s.pulseState r = 2) (hm : pMode (s.pulse r).row = 1) (ha : (s.pulse r).active = true) :
    execPulseEdge r s =
      ((s.advanceTo (tickUp (pStart (s.pulse r).row + pWidth (s.pulse r).row))).setPulse r
        { s.pulse r with active := false }).setPulseState r 3 := by
  simp [execPulseEdge, hst, hm, ha]

theorem execPulseEdge_periodicRise (hst : ¬(s.pulseState r = 0 ∨ s.pulseState r = 3 ∨ s.pulseState r = 4))
    (hm : pMode (s.pulse r).row = 2) (ha : (s.pulse r).active = false) (he : ¬(s.pulseState r = 5 ∨ (s.pulse r).waiting = true)) :
    execPulseEdge r s =
      ((s.advanceTo (pulseRise (s.pulse r).row (s.pulse r).k)).setPulse r { s.pulse r with active := true }).setPulseState r 2 := by
  simp [execPulseEdge, hst, hm, ha, he]

/-- The output of a periodic row after the falling edge of a period: the edge is counted. -/
def Pulse.fallen (x : Pulse) : Pulse := { x with active := false, k := x.k + 1, emitted := x.emitted + 1 }

/-- A falling edge of a periodic row: its last one raises event 114 and, unless a row waits or the output drains, ends the row. -/
theorem execPulseEdge_periodicFall {u : State} (hu : u = s.advanceTo (pulseFall (s.pulse r).row (s.pulse r).k))
    (hst : ¬(s.pulseState r = 0 ∨ s.pulseState r = 3 ∨ s.pulseState r = 4)) (hm : pMode (s.pulse r).row = 2)
    (ha : (s.pulse r).active = true) (ht : (s.pulse r).task = none) : execPulseEdge r s =
      if pCount (s.pulse r).row = (s.pulse r).emitted + 1 then
        if s.pulseState r = 2 ∧ (s.pulse r).waiting = false then
          (((u.setPulse r (s.pulse r).fallen).raise 114).setPulse r (s.pulse r).fallen).setPulseState r 3
        else (u.setPulse r (s.pulse r).fallen).raise 114
      else u.setPulse r (s.pulse r).fallen := by
  subst hu
  by_cases hc : pCount (s.pulse r).row = (s.pulse r).emitted + 1 <;> simp [execPulseEdge, hst, hm, ha, ht, hc, Pulse.fallen]

/-- At the end of a period of a periodic row, a row that waits is armed, and a row that drains ends. -/
theorem execPulseEdge_periodEnd (hst : ¬(s.pulseState r = 0 ∨ s.pulseState r = 3 ∨ s.pulseState r = 4))
    (hm : pMode (s.pulse r).row = 2) (ha : (s.pulse r).active = false) (he : s.pulseState r = 5 ∨ (s.pulse r).waiting = true) :
    execPulseEdge r s =
      if (s.pulse r).waiting = true then
        (s.advanceTo (pulseRise (s.pulse r).row (s.pulse r).k)).armPulse r (s.pulse r).task
          (pStart (s.pulse r).row * pDen (s.pulse r).row + (s.pulse r).k * pNum (s.pulse r).row * 1000000000) (pDen (s.pulse r).row)
      else ((s.advanceTo (pulseRise (s.pulse r).row (s.pulse r).k)).setPulse r Pulse.init).setPulseState r 0 := by
  simp [execPulseEdge, hst, hm, ha, he]

/-! ## A row written (R70, R74, R75) -/

theorem armPulse_off (h : pMode (s.row oPulse r) = 0) (n m : Nat) :
    s.armPulse r none n m = (s.setPulse r Pulse.init).setPulseState r 0 := by simp [State.armPulse, h]

theorem armPulse_oneshot (h : pMode (s.row oPulse r) = 1) (n m : Nat) :
    s.armPulse r none n m =
      if pStart (s.row oPulse r) * m < n + 2000 * m then
        (((s.setPulse r Pulse.init).setPulseState r 4).bump32 0x413004 0 0).raise 114
      else (s.setPulse r { Pulse.init with row := s.row oPulse r }).setPulseState r 1 := by
  simp [State.armPulse, h, Pulse.init]

/-- Arming for no task leaves none, and takes no time. -/
theorem armPulse_none (n m : Nat) : ((s.armPulse r none n m).pulse r).task = none ∧ (s.armPulse r none n m).now = s.now := by
  unfold State.armPulse
  extract_lets v init idle c x s1
  split
  · simp [Pulse.init]
  · split <;> simp [idle, init, Pulse.init]
  · have h1 : (s1.pulse r).task = none ∧ s1.now = s.now := by simp [s1, x]
    split <;> exact h1

/-- The edge that is due by now takes no time, and completes no task where there is none. -/
theorem pulseCome_none (ht : (s.pulse r).task = none) : ((s.pulseCome r).pulse r).task = none ∧ (s.pulseCome r).now = s.now := by
  unfold State.pulseCome
  extract_lets x st
  split
  · exact ⟨ht, rfl⟩
  next hrun =>
    obtain ⟨hst, hm⟩ : ¬(st = 0 ∨ st = 3 ∨ st = 4) ∧ pMode x.row = 2 := by omega
    cases ha : x.active with
    | true =>
      rw [if_pos rfl]
      split
      · next hdue =>
        rw [execPulseEdge_periodicFall rfl hst hm ha ht, advanceTo_of_le_now hdue]
        split
        · split <;> simp [Pulse.fallen, ht]
        · simp [Pulse.fallen, ht]
      · exact ⟨ht, rfl⟩
    | false =>
      rw [if_neg Bool.false_ne_true]
      split
      · next hdue =>
        by_cases he : st = 5 ∨ x.waiting = true
        · rw [execPulseEdge_periodEnd hst hm ha he, advanceTo_of_le_now hdue, ht]
          split
          · exact armPulse_none ..
          · simp [Pulse.init]
        · rw [execPulseEdge_periodicRise hst hm ha he, advanceTo_of_le_now hdue]
          simp [ht]
      · exact ⟨ht, rfl⟩

/-- A row written while the output neither runs nor drains is armed at once. -/
theorem pulseWritten_arms (h2 : s.pulseState r ≠ 2) (h5 : s.pulseState r ≠ 5) (ht : (s.pulse r).task = none) :
    s.pulseWritten r none = s.armPulse r none s.now 1 := by
  simp [State.pulseWritten, h2, h5, ht]

/-- Edges that are due when such a row is written come first. -/
theorem writePulseRow_arms {x : Row} (h2 : x.getD 7 0 ≠ 2) (h5 : x.getD 7 0 ≠ 5) (ht : (s.pulse r).task = none) :
    ∃ u : State, s.writePulseRow r x none = u.armPulse r none s.now 1 ∧ u.row oPulse r = x := by
  obtain ⟨ht1, hn1⟩ := pulseCome_none ht
  obtain ⟨ht2, hn2⟩ := pulseCome_none ht1
  rw [hn1] at hn2
  unfold State.writePulseRow
  generalize (s.pulseCome r).pulseCome r = u at ht2 hn2 ⊢
  refine ⟨u.setRow oPulse r x, ?_, row_setRow_self ..⟩
  have hst : (u.setRow oPulse r x).pulseState r = x.getD 7 0 := (fld_setRow ..).trans (if_pos ⟨rfl, rfl⟩)
  rw [← hn2]
  exact pulseWritten_arms (by rwa [hst]) (by rwa [hst]) ht2

/-- A field that the device ignores is held as it was. -/
theorem mergeRow_getD_ro {fs : List Fld} {old new : Row} {c : Nat} {f : Fld} (hf : fs[c]? = some f) (hro : f.ro = true) :
    (mergeRow fs old new).getD c 0 = old.getD c f.dflt := by
  induction fs generalizing old new c with
  | nil => simp at hf
  | cons g fs ih =>
    cases c with
    | zero =>
      obtain rfl : g = f := by simpa using hf
      cases old <;> simp [mergeRow, hro]
    | succ c =>
      have hc := ih (old := old.tail) (new := new.tail) (c := c) (by simpa using hf)
      cases old <;> simpa [mergeRow] using hc

/-- STATE is such a field. -/
theorem pulseRow_state {v : List Byte} {o : Origin} {x : Row} (h : Passes s o 0x131000 r (fun d => rowOf d v) x) :
    x.getD 7 0 = s.pulseState r := by
  obtain ⟨-, rfl⟩ := passes_row h (d := oTbl "PULSE" .rw 8 pulseFlds) rfl
  exact mergeRow_getD_ro (f := (u8 0).asRo) rfl rfl

/-! ## The clauses of the outputs -/

theorem pulse_arms {v : List Byte} {o : Origin} {x : Row} (h : Passes s o 0x131000 r (fun d => rowOf d v) x) (hok : pulseOk x = true)
    (h2 : s.pulseState r ≠ 2) (h5 : s.pulseState r ≠ 5) (ht : (s.pulse r).task = none) :
    ∃ t, exec (.pulse r v o) s = .next t ∧ Answers t stOk 0 ∧
      (pMode x = 0 → t.pulseState r = 0) ∧
      (pMode x = 1 → s.now + 2000 ≤ pStart x → t.pulseState r = 1 ∧ (t.pulse r).row = x) ∧
      (pMode x = 1 → pStart x < s.now + 2000 → t.pulseState r = 4 ∧ t.raised 114 = true) := by
  refine ans_next (u := s.request o 0x131000 r (fun d => rowOf d v)) (fun _ _ h => h) ?_
  have hx := pulseRow_state h
  obtain ⟨u, hu, hrow⟩ := writePulseRow_arms (x := x) (hx ▸ h2) (hx ▸ h5) ht
  have k := request_of h hook_131000
  simp only [writePulse, hok, if_true, done, hu] at k
  generalize s.request o 0x131000 r (fun d => rowOf d v) = t at k
  have hpulse : t.pulse r = (u.armPulse r none s.now 1).pulse r := by rw [State.pulse, k.keeps.time_eq (by decide)]; rfl
  have hstate : t.pulseState r = (u.armPulse r none s.now 1).pulseState r := congrArg (·.getD 7 0) (k.keeps.objs oPulse r (by decide))
  refine ⟨k.ans, fun hm => ?_, fun hm hlater => ?_, fun hm hlate => ?_⟩
  · rw [hstate, armPulse_off (by rwa [hrow]), pulseState_setPulseState]
  · rw [hstate, hpulse, armPulse_oneshot (by rwa [hrow]), hrow, if_neg (by omega)]
    simp
  · have harm := armPulse_oneshot (s := u) (r := r) (by rwa [hrow]) s.now 1
    rw [hrow, if_pos (by omega)] at harm
    refine ⟨?_, k.evs 114 ?_⟩
    · rw [hstate, harm, raise_pulseState, pulseState_bump32 _ _ _ _ (by decide), pulseState_setPulseState]
    · exact harm ▸ raised_raise_self _ _ (by decide)

theorem pulseEdge_oneshotRise (hst : s.pulseState r = 1) (hm : pMode (s.pulse r).row = 1) (ha : (s.pulse r).active = false)
    (ht : (s.pulse r).task = none) : ∃ t, exec (.pulseEdge r) s = .next t ∧
      t.pulseState r = 2 ∧ (t.pulse r).active = true ∧ t.raised 114 = true ∧ tickUp (pStart (s.pulse r).row) ≤ t.now := by
  refine ans_next (u := execPulseEdge r s) (fun _ _ h => h) ?_
  rw [execPulseEdge_oneshotRise hst hm ha ht]
  simp [le_now_advanceTo]

theorem pulseEdge_oneshotFall (hst : s.pulseState r = 2) (hm : pMode (s.pulse r).row = 1) (ha : (s.pulse r).active = true) :
    ∃ t, exec (.pulseEdge r) s = .next t ∧
      t.pulseState r = 3 ∧ (t.pulse r).active = false ∧ tickUp (pStart (s.pulse r).row + pWidth (s.pulse r).row) ≤ t.now := by
  refine ans_next (u := execPulseEdge r s) (fun _ _ h => h) ?_
  rw [execPulseEdge_oneshotFall hst hm ha]
  simp [le_now_advanceTo]

theorem pulseEdge_periodicRise (hst : s.pulseState r = 1 ∨ s.pulseState r = 2) (hm : pMode (s.pulse r).row = 2)
    (ha : (s.pulse r).active = false) (hw : (s.pulse r).waiting = false) : ∃ t, exec (.pulseEdge r) s = .next t ∧
      t.pulseState r = 2 ∧ (t.pulse r).active = true ∧ pulseRise (s.pulse r).row (s.pulse r).k ≤ t.now := by
  refine ans_next (u := execPulseEdge r s) (fun _ _ h => h) ?_
  have he : ¬(s.pulseState r = 5 ∨ (s.pulse r).waiting = true) := by
    rw [hw]
    rintro (h | h)
    · omega
    · contradiction
  rw [execPulseEdge_periodicRise (by omega) hm ha he]
  simp [le_now_advanceTo]

theorem pulseEdge_periodicFall (hst : s.pulseState r = 2) (hm : pMode (s.pulse r).row = 2) (ha : (s.pulse r).active = true)
    (ht : (s.pulse r).task = none) : ∃ t, exec (.pulseEdge r) s = .next t ∧
      (t.pulse r).active = false ∧ (t.pulse r).k = (s.pulse r).k + 1 ∧ (t.pulse r).emitted = (s.pulse r).emitted + 1 ∧
      pulseFall (s.pulse r).row (s.pulse r).k ≤ t.now ∧
      (pCount (s.pulse r).row = (s.pulse r).emitted + 1 → (s.pulse r).waiting = false → t.pulseState r = 3 ∧ t.raised 114 = true) ∧
      (pCount (s.pulse r).row = 0 → t.pulseState r = 2) := by
  refine ans_next (u := execPulseEdge r s) (fun _ _ h => h) ?_
  rw [execPulseEdge_periodicFall rfl (by omega) hm ha ht]
  by_cases hc : pCount (s.pulse r).row = (s.pulse r).emitted + 1
  · by_cases hw : (s.pulse r).waiting = false
    · simp [hc, hw, hst, Pulse.fallen, le_now_advanceTo]
    · simp [hc, hw, Pulse.fallen, le_now_advanceTo]
  · simp [hc, hst, Pulse.fallen, le_now_advanceTo]

end

/-! ## Capture inputs (R77 to R81) -/

section
variable {i at_ frac w : Nat} {fall : Bool} {s : State}

@[simp] theorem advanceTo_full (pt : Nat) : (s.advanceTo pt).full = s.full := by simp [State.full]

@[simp] theorem advanceTo_captures (pt : Nat) : (s.advanceTo pt).captures i = s.captures i := by
  unfold State.captures
  rw [advanceTo_time]

@[simp] theorem advanceTo_glitch (pt : Nat) : (s.advanceTo pt).time.glitch = s.time.glitch := by rw [advanceTo_time]

@[simp] theorem captures_setCaptures (xs : List Row) : (s.setCaptures i xs).captures i = xs := tget_tset_self ..

@[simp] theorem raise_captures (e : Nat) : (s.raise e).captures i = s.captures i := by simp [State.captures]

/-- Note whether the level that begins at this edge of input i is shorter than 8 ns (R78). -/
def State.setGlitch (s : State) (i : Nat) (b : Bool) : State :=
  { s with time := { s.time with glitch := tset false s.time.glitch i b } }

@[simp] theorem setGlitch_captures (j : Nat) (b : Bool) : (s.setGlitch j b).captures i = s.captures i := State.captures_congr rfl

@[simp] theorem setGlitch_fld (j : Nat) (b : Bool) (o r c : Nat) : (s.setGlitch j b).fld o r c = s.fld o r c := State.fld_congr rfl

@[simp] theorem setGlitch_val (j : Nat) (b : Bool) (o : Nat) : (s.setGlitch j b).val o = s.val o := setGlitch_fld ..

@[simp] theorem glitch_setGlitch (b : Bool) : tget false (s.setGlitch i b).time.glitch i = b := tget_tset_self ..

@[simp] theorem bump32_captures (o r c : Nat) : (s.bump32 o r c).captures i = s.captures i := State.captures_congr rfl

@[simp] theorem bump32_time (o r c : Nat) : (s.bump32 o r c).time = s.time := setFld_time ..

/-- An edge that begins a level shorter than 8 ns is counted, and nothing is captured. -/
theorem execTsiEdge_short (hf : s.full = true) (hi : i < 4) (hw : w < 8) :
    execTsiEdge i at_ frac fall w s = ((s.advanceTo at_).setGlitch i true).bump32 0x413006 0 0 := by
  simp [execTsiEdge, hf, Nat.not_le.mpr hi, hw, State.setGlitch]

/-- An edge between two levels of 8 ns or more is captured where its polarity is enabled, and lost when the queue is full. -/
theorem execTsiEdge_enabled {u : State} (hu : u = (s.advanceTo at_).setGlitch i false) (hf : s.full = true) (hi : i < 4) (hw : 8 ≤ w)
    (hg : tget false s.time.glitch i = false) (he : (s.fld 0x132000 i 0).testBit (b2n fall) = true) :
    execTsiEdge i at_ frac fall w s =
      if 16 ≤ (s.captures i).length then (u.bump32 0x413005 0 0).raise 115
      else if (s.captures i).isEmpty then
        (u.setCaptures i (s.captures i ++ [[nsPt at_, frac % 65536, b2n fall, s.val oNodeState]])).raise 115
      else u.setCaptures i (s.captures i ++ [[nsPt at_, frac % 65536, b2n fall, s.val oNodeState]]) := by
  have hlong : decide (w < 8) = false := decide_eq_false (by omega)
  have hcap : u.captures i = s.captures i := by simp [hu]
  have hval : u.val oNodeState = s.val oNodeState := by simp [hu]
  have hfld : u.fld 0x132000 i 0 = s.fld 0x132000 i 0 := by simp [hu]
  unfold execTsiEdge
  rw [if_neg (by simp [hf, hi])]
  extract_lets after time v xs t
  have hv : v = u := by
    rw [hu, ← hlong]
    rfl
  have hafter : ¬after = true := by simp [after, hg]
  rw [if_neg (by omega), if_neg hafter, hv, hfld, if_pos he]
  simp only [t, xs, hv, hcap, hval]

theorem tsiEdge_captures (hf : s.full = true) (hi : i < 4) (hw : 8 ≤ w) (hg : tget false s.time.glitch i = false)
    (he : (s.fld 0x132000 i 0).testBit (b2n fall) = true) : ∃ t, exec (.tsiEdge i at_ frac fall w) s = .next t ∧
      ((s.captures i).length < 16 →
        t.captures i = s.captures i ++ [[nsPt at_, frac % 65536, b2n fall, s.val oNodeState]] ∧
        (s.captures i = [] → t.raised 115 = true)) ∧
      (16 ≤ (s.captures i).length → t.captures i = s.captures i ∧ t.raised 115 = true) := by
  refine ans_next (u := execTsiEdge i at_ frac fall w s) (fun _ _ h => h) ?_
  rw [execTsiEdge_enabled rfl hf hi hw hg he]
  by_cases hfull : 16 ≤ (s.captures i).length
  · simp [hfull]
  · by_cases hempty : s.captures i = []
    · simp [hempty]
    · simp [hfull, hempty]

theorem tsiEdge_short (hf : s.full = true) (hi : i < 4) (hw : w < 8) : ∃ t, exec (.tsiEdge i at_ frac fall w) s = .next t ∧
    t.captures i = s.captures i ∧ tget false t.time.glitch i = true := by
  refine ans_next (u := execTsiEdge i at_ frac fall w s) (fun _ _ h => h) ?_
  rw [execTsiEdge_short hf hi hw]
  simp

end

/-- Settles O14: a written row by what arming it does, each edge of an output by the equation of its case, and an edge of an input by
whether a level shorter than 8 ns touches it. That a periodic row reaches its COUNT at the inactive edge of its last pulse is the choice of
log entry 78. -/
theorem pulsesAndCaptures : Obligations.PulsesAndCaptures :=
  ⟨fun _ _ _ _ _ => pulse_arms, fun _ _ => pulseEdge_oneshotRise, fun _ _ => pulseEdge_oneshotFall, fun _ _ => pulseEdge_periodicRise,
    fun _ _ => pulseEdge_periodicFall, fun _ _ _ _ _ _ => tsiEdge_captures, fun _ _ _ _ _ _ => tsiEdge_short⟩

end Sys2Proof.Machine
end

section
/-! SUPPORT. The ingest layer (R84 to R132): what the readers of flows, universes and fences depend on, and what the updates of the
ingest chapter leave of them. -/

namespace Sys2Proof.Machine

variable {s t : State} {m r c o : Nat}

/-! ## What a reader depends on -/

theorem Keeps.fld_eq (h : Keeps m s t) (ho : m.testBit (32 + o / 4096) = true) (r c : Nat) : t.fld o r c = s.fld o r c :=
  congrArg (·.getD c 0) (h.objs o r ho)

theorem State.row_congr (h : t.od = s.od) (o r : Nat) : t.row o r = s.row o r :=
  congrArg (fun x => tget (dfltRow o r) (tget [] x o) r) h

theorem State.flow_congr (h : t.ingest.flows = s.ingest.flows) (r : Nat) : t.flow r = s.flow r := congrArg (tget Flow.init · r) h

theorem State.uni_congr (h : t.ingest.universes = s.ingest.universes) (u : Nat) : t.uni u = s.uni u :=
  congrArg (tget Universe_.init · u) h

theorem State.syncAddr_congr (h : t.ingest.syncs = s.ingest.syncs) (a : Nat) : t.syncAddr a = s.syncAddr a :=
  congrArg (tget SyncAddr.init · a) h

theorem State.flowState_congr (hr : 8 ≤ r) (h : t.fld oFlowState r 0 = s.fld oFlowState r 0) : t.flowState r = s.flowState r := by
  simp only [State.flowState, if_neg (Nat.not_lt.mpr hr), h]

theorem State.seeking_congr (h : t.fld oFlowState r 0 = s.fld oFlowState r 0) : t.seeking r = s.seeking r := congrArg (·.testBit 4) h

theorem State.flowRow_congr (hr : 8 ≤ r) (hf : (t.flow r).held = (s.flow r).held) (ho : t.row oFlow r = s.row oFlow r) :
    t.flowRow r = s.flowRow r := by
  simp only [State.flowRow, State.flowShown, if_neg (Nat.not_lt.mpr hr), hf, ho]

/-! ## What the updates leave -/

section
variable (s) (r)

@[simp] theorem flow_setFlow_self (x : Flow) : (s.setFlow r x).flow r = x := tget_tset_self ..

@[simp] theorem uni_setUni_self (u : Nat) (x : Universe_) : (s.setUni u x).uni u = x := tget_tset_self ..

@[simp] theorem syncAddr_setSyncAddr_self (a : Nat) (x : SyncAddr) : (s.setSyncAddr a x).syncAddr a = x := tget_tset_self ..

@[simp] theorem setFlow_row (x : Flow) (o i : Nat) : (s.setFlow r x).row o i = s.row o i := State.row_congr rfl o i

@[simp] theorem setFlow_fld (x : Flow) (o i c : Nat) : (s.setFlow r x).fld o i c = s.fld o i c := State.fld_congr rfl

@[simp] theorem writeContext_row (o i : Nat) : (s.writeContext r).row o i = s.row o i := State.row_congr rfl o i

@[simp] theorem writeContext_fld (o i c : Nat) : (s.writeContext r).fld o i c = s.fld o i c := State.fld_congr rfl

@[simp] theorem setFld_flow (o i c v : Nat) : (s.setFld o i c v).flow r = s.flow r := State.flow_congr rfl r

@[simp] theorem setRow_flow (o i : Nat) (v : Row) : (s.setRow o i v).flow r = s.flow r := State.flow_congr rfl r

@[simp] theorem raise_ingest (e : Nat) : (s.raise e).ingest = s.ingest := (State.raise_keeps s e).ingest_eq (by decide)

@[simp] theorem raise_flow (e : Nat) : (s.raise e).flow r = s.flow r := by simp [State.flow]

@[simp] theorem raise_seeking (e : Nat) : (s.raise e).seeking r = s.seeking r := State.seeking_congr (raise_fld s e r 0 (by decide))

@[simp] theorem raise_flowState (e : Nat) (hr : 8 ≤ r) : (s.raise e).flowState r = s.flowState r :=
  State.flowState_congr hr (raise_fld s e r 0 (by decide))

theorem flowState_setFlowState {n : Nat} (hr : 8 ≤ r) (hn : n < 4) (b : Bool) : (s.setFlowState r n b).flowState r = n := by
  rw [State.flowState, if_neg (Nat.not_lt.mpr hr), State.setFlowState, fld_setFld, if_pos ⟨rfl, rfl, rfl⟩]
  cases b <;> simp only [b2n, if_true, if_false, Bool.false_eq_true] <;> omega

theorem seeking_setFlowState {n : Nat} (hn : n < 4) (b : Bool) : (s.setFlowState r n b).seeking r = b := by
  rw [State.seeking, State.setFlowState, fld_setFld, if_pos ⟨rfl, rfl, rfl⟩, Nat.testBit_eq_decide_div_mod_eq]
  cases b <;> simp only [b2n, if_true, if_false, Bool.false_eq_true, decide_eq_false_iff_not, decide_eq_true_eq] <;> omega

/-- A change of a flow's state is of one object. -/
theorem row_setFlowState {o : Nat} (i n : Nat) (b : Bool) (ho : o ≠ oFlowState) : (s.setFlowState r n b).row o i = s.row o i :=
  row_setRow_of_ne s _ (fun h => ho h.1)

end

end Sys2Proof.Machine
end

section
/-! SUPPORT. Flow rows and fences (R89 to R97): an enable that passes or is refused, a disable and its drain, and a fence written. -/

namespace Sys2Proof.Machine

/-! ## A settled write, as ingest reads it -/

section
variable {w : WRes} {t : State}

theorem Settled.flow (k : Settled w t) (r : Nat) : t.flow r = w.st.flow r :=
  State.flow_congr (congrArg Ingest.flows (k.keeps.ingest_eq (by decide))) r

theorem Settled.flowState (k : Settled w t) {r : Nat} (hr : 8 ≤ r) : t.flowState r = w.st.flowState r :=
  State.flowState_congr hr (k.keeps.fld_eq (by decide) r 0)

theorem Settled.seeking (k : Settled w t) (r : Nat) : t.seeking r = w.st.seeking r :=
  State.seeking_congr (k.keeps.fld_eq (by decide) r 0)

theorem Settled.producer (k : Settled w t) (f : Nat) : t.producer f = w.st.producer f := k.keeps.fld_eq (by decide) f 0

theorem Settled.fence (k : Settled w t) (f : Nat) : t.fence f = w.st.fence f := k.keeps.fld_eq (by decide) f 0

end

/-! ## Enables (R89, R93, R95, R132) -/

section
variable {r : Nat} {s : State}

/-- An enable that no reason refuses: the flow is ENABLED, a VIDEO flow SEEKING and the producer of its fence, with its counters from 0. -/
theorem tryEnableFlow_passes (hr : 8 ≤ r) (h : s.flowReason r = 0) :
    (s.tryEnableFlow r).flowState r = 1 ∧ (s.tryEnableFlow r).seeking r = (fwType (s.flowRow r) == 1) ∧
      (s.tryEnableFlow r).raised 67 = true ∧ (s.tryEnableFlow r).row oFlowCnt r = dfltRow oFlowCnt r ∧
      (fwType (s.flowRow r) = 1 → (s.tryEnableFlow r).producer (s.ringFence (s.flowRing r)) = 1) := by
  unfold State.tryEnableFlow
  extract_lets n s1 video x s2 s3
  rw [if_pos (show n = 0 from h)]
  have h3 : ∀ o i, o ≠ oProducer → s3.row o i = s2.row o i := by
    intro o i ho
    simp only [s3]
    split
    · exact row_setRow_of_ne _ _ (fun k => ho k.1)
    · rfl
  have hstate : ((s3.writeContext r).raise 67).fld oFlowState r 0 = s2.fld oFlowState r 0 := by
    rw [raise_fld _ _ _ _ (by decide), writeContext_fld]
    exact congrArg (·.getD 0 0) (h3 oFlowState r (by decide))
  refine ⟨?_, ?_, raised_raise_self _ _ (by decide), ?_, fun hv => ?_⟩
  · rw [State.flowState_congr hr hstate]
    exact flowState_setFlowState _ _ hr (by decide) _
  · rw [State.seeking_congr hstate]
    exact seeking_setFlowState _ _ (by decide) _
  · rw [raise_row _ _ _ (by decide), writeContext_row, h3 oFlowCnt r (by decide)]
    exact (row_setFlowState _ _ _ _ _ (by decide)).trans (row_setRow_self ..)
  · have hvideo : video = true := beq_iff_eq.mpr hv
    rw [State.producer, raise_fld _ _ _ _ (by decide), writeContext_fld]
    simp [s3, hvideo, fld_setFld]

/-- A refused enable: the flow stays DISABLED and holds the reason. -/
theorem tryEnableFlow_refused (hr : 8 ≤ r) (h : s.flowReason r ≠ 0) :
    (s.tryEnableFlow r).flowState r = 0 ∧ (s.tryEnableFlow r).fld oFlowReason r 0 = s.flowReason r ∧
      (s.tryEnableFlow r).raised 67 = true ∧ (s.tryEnableFlow r).fld oFlowEnable r 0 = s.fld oFlowEnable r 0 := by
  unfold State.tryEnableFlow
  extract_lets n s1 video x s2 s3
  rw [if_neg (show ¬n = 0 from h)]
  have hrow : ∀ o, o ≠ 0x400000 → o ≠ oFlowState → ((s1.setFlowState r 0 false).raise 67).fld o r 0 = s1.fld o r 0 := by
    intro o he ho
    rw [raise_fld _ _ _ _ he]
    exact congrArg (·.getD 0 0) (row_setFlowState _ _ _ _ _ ho)
  refine ⟨?_, ?_, raised_raise_self _ _ (by decide), ?_⟩
  · rw [raise_flowState _ _ _ hr]
    exact flowState_setFlowState _ _ hr (by decide) _
  · rw [hrow _ (by decide) (by decide)]
    exact (fld_setFld ..).trans (if_pos ⟨rfl, rfl, rfl⟩)
  · rw [hrow _ (by decide) (by decide)]
    exact (fld_setFld ..).trans (if_neg fun k => absurd k.1 (by decide))

/-! ## Drains (R90, R91, R95) -/

/-- The drain of a flow with no enable latched ends in DISABLED: no frame is open, and its fence is the host's again. -/
theorem flowDisabled_ends (hr : 8 ≤ r) (hl : (s.flow r).latched = false) :
    (s.flowDisabled r).flowState r = 0 ∧ (s.flowDisabled r).raised 67 = true ∧ ((s.flowDisabled r).flow r).frame = none ∧
      (fwType (s.flowRow r) = 1 → (s.flowDisabled r).producer (s.ringFence (s.flowRing r)) = 0) := by
  unfold State.flowDisabled
  extract_lets x s1 s2
  rw [if_neg (by simp [x, hl])]
  refine ⟨?_, raised_raise_self _ _ (by decide), ?_, fun hv => ?_⟩
  · rw [raise_flowState _ _ _ hr]
    exact flowState_setFlowState _ _ hr (by decide) _
  · simp [s2, State.setFlowState]
  · rw [State.producer, raise_fld _ _ _ _ (by decide)]
    refine (congrArg (·.getD 0 0) (row_setFlowState (o := oProducer) _ _ _ _ _ (by decide))).trans ?_
    simp only [setFlow_row, s1, if_pos hv]
    exact (fld_setFld ..).trans (if_pos ⟨rfl, rfl, rfl⟩)

/-- A flow that is to drain: DRAINING, its row, ring and frame as they were. -/
def State.draining (s : State) (r : Nat) : State := (s.setFlowState r 2 (s.seeking r)).raise 67

theorem draining_fld {o : Nat} (i c : Nat) (he : o ≠ 0x400000) (ho : o ≠ oFlowState) : (s.draining r).fld o i c = s.fld o i c :=
  (raise_fld _ _ _ _ he).trans (congrArg (·.getD c 0) (row_setFlowState _ _ _ _ _ ho))

theorem draining_flow : (s.draining r).flow r = s.flow r := State.flow_congr (congrArg Ingest.flows (raise_ingest ..)) r

theorem draining_flowRow (hr : 8 ≤ r) : (s.draining r).flowRow r = s.flowRow r :=
  State.flowRow_congr hr (by rw [draining_flow])
    ((raise_row _ _ _ (by decide)).trans (row_setFlowState _ _ _ _ _ (by decide)))

theorem draining_ringFence (hr : 8 ≤ r) : (s.draining r).ringFence ((s.draining r).flowRing r) = s.ringFence (s.flowRing r) := by
  simp only [State.ringFence, State.ringFolio, State.flowRing, draining_flowRow hr]
  repeat rw [draining_fld _ _ (by decide) (by decide)]

/-- A VIDEO flow with no open frame is DISABLED at once. -/
theorem drainFlow_ends (hv : fwType (s.flowRow r) = 1) (hf : (s.flow r).frame = none) :
    s.drainFlow r = (s.draining r).flowDisabled r := if_pos ⟨hv, by simp [hf]⟩

/-- Any other flow drains. -/
theorem drainFlow_waits (h : fwType (s.flowRow r) ≠ 1 ∨ (s.flow r).frame ≠ none) : s.drainFlow r = s.draining r :=
  if_neg fun k => h.elim (absurd k.1) (absurd (by simpa using k.2))

/-! ## The chapter's answer to a write of FLOW_ENABLE -/

theorem writeFlowEnableRow_enables (h0 : s.flowState r = 0) (hn : s.flowReason r = 0) :
    writeFlowEnableRow r [1] s = done ((s.tryEnableFlow r).setRow oFlowEnable r [1]) := by
  simp [writeFlowEnableRow, writeFlowEnable, h0, hn, reasonStatus, done]

theorem reasonStatus_ne {n : Nat} (hn : n ≠ 0) : reasonStatus n ≠ stOk := by
  unfold reasonStatus
  rw [if_neg hn]
  split <;> decide

theorem writeFlowEnableRow_refused (h0 : s.flowState r = 0) (hn : s.flowReason r ≠ 0) :
    writeFlowEnableRow r [1] s = { status := reasonStatus (s.flowReason r), handle := 0, st := s.tryEnableFlow r } := by
  simp [writeFlowEnableRow, writeFlowEnable, h0, reasonStatus_ne hn]

theorem writeFlowEnableRow_drains (h1 : s.flowState r = 1) :
    writeFlowEnableRow r [0] s = done ((s.drainFlow r).setRow oFlowEnable r [0]) := by
  simp [writeFlowEnableRow, writeFlowEnable, h1, done]

theorem writeFlowEnableRow_latches (h2 : s.flowState r = 2) (v : Nat) :
    writeFlowEnableRow r [v] s = done ((s.setFlow r { s.flow r with latched := v == 1 }).setRow oFlowEnable r [v]) := by
  simp [writeFlowEnableRow, writeFlowEnable, h2, done]

/-- Storing FLOW_ENABLE changes no other object. -/
theorem fld_storeEnable {o : Nat} (x : Row) (i c : Nat) (ho : o ≠ oFlowEnable) : (s.setRow oFlowEnable r x).fld o i c = s.fld o i c :=
  congrArg (·.getD c 0) (row_setRow_of_ne s x fun k => ho k.1)

theorem flowState_storeEnable (hr : 8 ≤ r) (x : Row) : (s.setRow oFlowEnable r x).flowState r = s.flowState r :=
  State.flowState_congr hr (fld_storeEnable x r 0 (by decide))

/-! ## The clauses, and the obligation -/

section
variable {t : State}

theorem Settled.enabled (k : Settled (done ((s.tryEnableFlow r).setRow oFlowEnable r [1])) t) (hr : 8 ≤ r) (hn : s.flowReason r = 0) :
    Answers t stOk 0 ∧ t.flowState r = 1 ∧ t.seeking r = (fwType (s.flowRow r) == 1) ∧ t.raised 67 = true ∧
      t.row oFlowCnt r = dfltRow oFlowCnt r ∧ t.fld oFlowEnable r 0 = 1 ∧
      (fwType (s.flowRow r) = 1 → t.producer (s.ringFence (s.flowRing r)) = 1) := by
  obtain ⟨hstate, hseek, hevent, hcnt, hproducer⟩ := tryEnableFlow_passes hr hn
  refine ⟨k.ans, ?_, ?_, k.evs 67 hevent, ?_, ?_, fun hv => ?_⟩
  · rw [k.flowState hr, done, flowState_storeEnable hr, hstate]
  · rw [k.seeking, done, State.seeking_congr (fld_storeEnable _ r 0 (by decide)), hseek]
  · rw [k.keeps.objs oFlowCnt r (by decide), done, row_setRow_of_ne _ _ (fun h => absurd h.1 (by decide)), hcnt]
  · rw [k.keeps.fld_eq (by decide), done, fld_setRow, if_pos ⟨rfl, rfl⟩]
    rfl
  · rw [k.producer, done, State.producer, fld_storeEnable _ _ _ (by decide)]
    exact hproducer hv

theorem Settled.refused (k : Settled { status := reasonStatus (s.flowReason r), handle := 0, st := s.tryEnableFlow r } t) (hr : 8 ≤ r)
    (hn : s.flowReason r ≠ 0) :
    Answers t (reasonStatus (s.flowReason r)) 0 ∧ t.flowState r = 0 ∧ t.fld oFlowReason r 0 = s.flowReason r ∧ t.raised 67 = true ∧
      t.fld oFlowEnable r 0 = s.fld oFlowEnable r 0 := by
  obtain ⟨hstate, hreason, hevent, henable⟩ := tryEnableFlow_refused hr hn
  exact ⟨k.ans, (k.flowState hr).trans hstate, (k.keeps.fld_eq (by decide) r 0).trans hreason, k.evs 67 hevent,
    (k.keeps.fld_eq (by decide) r 0).trans henable⟩

theorem Settled.disabled (k : Settled (done ((s.drainFlow r).setRow oFlowEnable r [0])) t) (hr : 8 ≤ r)
    (hv : fwType (s.flowRow r) = 1) (hf : (s.flow r).frame = none) (hl : (s.flow r).latched = false) :
    Answers t stOk 0 ∧ t.flowState r = 0 ∧ t.raised 67 = true ∧ t.producer (s.ringFence (s.flowRing r)) = 0 := by
  rw [drainFlow_ends hv hf] at k
  obtain ⟨hstate, hevent, -, hproducer⟩ := flowDisabled_ends (s := s.draining r) hr (by rw [draining_flow, hl])
  rw [draining_flowRow hr, draining_ringFence hr] at hproducer
  refine ⟨k.ans, ?_, k.evs 67 hevent, ?_⟩
  · rw [k.flowState hr, done, flowState_storeEnable hr, hstate]
  · rw [k.producer, done, State.producer, fld_storeEnable _ _ _ (by decide)]
    exact hproducer hv

theorem Settled.drains (k : Settled (done ((s.drainFlow r).setRow oFlowEnable r [0])) t) (hr : 8 ≤ r)
    (h : fwType (s.flowRow r) ≠ 1 ∨ (s.flow r).frame ≠ none) : Answers t stOk 0 ∧ t.flowState r = 2 ∧ t.raised 67 = true := by
  rw [drainFlow_waits h] at k
  refine ⟨k.ans, ?_, k.evs 67 (raised_raise_self _ _ (by decide))⟩
  rw [k.flowState hr, done, flowState_storeEnable hr, State.draining, raise_flowState _ _ _ hr]
  exact flowState_setFlowState _ _ hr (by decide) _

theorem Settled.latches {v : Nat}
    (k : Settled (done ((s.setFlow r { s.flow r with latched := v == 1 }).setRow oFlowEnable r [v])) t) (hr : 8 ≤ r)
    (h2 : s.flowState r = 2) : Answers t stOk 0 ∧ t.flowState r = 2 ∧ (t.flow r).latched = decide (v = 1) := by
  refine ⟨k.ans, ?_, ?_⟩
  · rw [k.flowState hr, done, flowState_storeEnable hr, State.flowState_congr hr (setFlow_fld ..), h2]
  · rw [k.flow, done, setRow_flow, flow_setFlow_self]
    rfl

end

theorem flowEnable_settles {v : Nat} {o : Origin} {x : Row} (h : Passes s o 0x140100 r (fun d => numRow d v) x) :
    ∃ t, exec (.flowEnable r v o) s = .next t ∧
      (s.flowState r = 0 → v = 1 → s.flowReason r = 0 → Answers t stOk 0 ∧ t.flowState r = 1 ∧
        t.seeking r = (fwType (s.flowRow r) == 1) ∧ t.raised 67 = true ∧ t.row oFlowCnt r = dfltRow oFlowCnt r ∧
        t.fld oFlowEnable r 0 = 1 ∧ (fwType (s.flowRow r) = 1 → t.producer (s.ringFence (s.flowRing r)) = 1)) ∧
      (s.flowState r = 0 → v = 1 → s.flowReason r ≠ 0 → Answers t (reasonStatus (s.flowReason r)) 0 ∧ t.flowState r = 0 ∧
        t.fld oFlowReason r 0 = s.flowReason r ∧ t.raised 67 = true ∧ t.fld oFlowEnable r 0 = s.fld oFlowEnable r 0) ∧
      (s.flowState r = 1 → v = 0 → fwType (s.flowRow r) = 1 → (s.flow r).frame = none → (s.flow r).latched = false →
        Answers t stOk 0 ∧ t.flowState r = 0 ∧ t.raised 67 = true ∧ t.producer (s.ringFence (s.flowRing r)) = 0) ∧
      (s.flowState r = 1 → v = 0 → (fwType (s.flowRow r) ≠ 1 ∨ (s.flow r).frame ≠ none) →
        Answers t stOk 0 ∧ t.flowState r = 2 ∧ t.raised 67 = true) ∧
      (s.flowState r = 2 → Answers t stOk 0 ∧ t.flowState r = 2 ∧ (t.flow r).latched = decide (v = 1)) := by
  -- Rows 0 to 7 are the device's, and no one may write them (R703).
  have hr : 8 ≤ r := by
    obtain ⟨-, -, -, hbarred, -⟩ := h
    exact Nat.not_lt.mp (of_decide_eq_false hbarred)
  obtain rfl := passes_num h rfl rfl rfl
  refine ans_next (u := s.request o 0x140100 r (fun d => numRow d v)) (fun _ _ h => h) ?_
  have k := request_of h hook_140100
  generalize s.request o 0x140100 r (fun d => numRow d v) = t at k
  refine ⟨?_, ?_, ?_, ?_, fun h2 => ?_⟩
  · rintro h0 rfl hn
    rw [writeFlowEnableRow_enables h0 hn] at k
    exact k.enabled hr hn
  · rintro h0 rfl hn
    rw [writeFlowEnableRow_refused h0 hn] at k
    exact k.refused hr hn
  · rintro h1 rfl
    rw [writeFlowEnableRow_drains h1] at k
    exact k.disabled hr
  · rintro h1 rfl
    rw [writeFlowEnableRow_drains h1] at k
    exact k.drains hr
  · rw [writeFlowEnableRow_latches h2] at k
    exact k.latches hr h2

theorem flowDrainDone_disables (hr : 8 ≤ r) (h2 : s.flowState r = 2) (hd : s.flowDrained r = true) (hl : (s.flow r).latched = false) :
    ∃ t, exec (.flowDrainDone r) s = .next t ∧ t.flowState r = 0 ∧ t.raised 67 = true ∧ (t.flow r).frame = none ∧
      (fwType (s.flowRow r) = 1 → t.producer (s.ringFence (s.flowRing r)) = 0) := by
  refine ans_next (u := execFlowDrainDone r s) (fun _ _ h => h) ?_
  rw [execFlowDrainDone, if_pos ⟨hr, h2, hd⟩]
  exact flowDisabled_ends hr hl

end

/-- A fence set has its value, and no other fence changes. -/
theorem fence_setFence (s : State) (f v g : Nat) : (s.setFence f v).fence g = if g = f then v else s.fence g := by
  have h : (s.setFence f v).fence g = if oFence = oFence ∧ g = f ∧ 0 = 0 then v else s.fence g := fld_setFld ..
  simpa using h

theorem fence_settles {f v : Nat} {o : Origin} {x : Row} {s : State} (h : Passes s o 0x201000 f (fun d => numRow d v) x) :
    ∃ t, exec (.fence f v o) s = .next t ∧ Answers t (fenceCheck s f v) 0 ∧
      (fenceCheck s f v = stOk → t.fence f = v) ∧ (fenceCheck s f v ≠ stOk → t.fence f = s.fence f) := by
  obtain rfl := passes_num h rfl rfl rfl
  refine ans_next (u := s.request o 0x201000 f (fun d => numRow d v)) (fun _ _ h => h) ?_
  have k : Settled (writeFence f v s) _ := request_of h hook_201000
  generalize s.request o 0x201000 f (fun d => numRow d v) = t at k
  by_cases hc : fenceCheck s f v = stOk
  · rw [writeFence, if_pos hc] at k
    refine ⟨hc ▸ k.ans, fun _ => ?_, absurd hc⟩
    rw [k.fence, done, fence_setFence, if_pos rfl]
  · rw [writeFence, if_neg hc] at k
    exact ⟨k.ans, fun h => absurd h hc, fun _ => k.fence f⟩

/-- Settles O34: a write of FLOW_ENABLE by the chapter's answer in each state of the flow, the end of a drain by what it leaves, and a
write of a fence by its check. -/
theorem flowCommands : Obligations.FlowCommands :=
  ⟨fun _ _ _ _ _ => flowEnable_settles, fun _ _ => flowDrainDone_disables, fun _ _ _ _ _ => fence_settles⟩

end Sys2Proof.Machine
end

section
/-! SUPPORT. Bytes read back from DRAM and the Vault (R22, R109, R534): a run of bytes reads as it was written, and the check bytes of
integrity pages lie in the shadow, above all other data. -/

namespace Sys2Proof.Machine

/-! ## Byte memories -/

theorem mgets_congr {m m' : Mem} {a n : Nat} (h : ∀ i, i < n → mget m (a + i) = mget m' (a + i)) : mgets m a n = mgets m' a n := by
  induction n generalizing a with
  | zero => rfl
  | succ n ih =>
    have h0 : mget m a = mget m' a := h 0 (by omega)
    have hrest : mgets m (a + 1) n = mgets m' (a + 1) n := ih fun i hi => by
      have hi' := h (i + 1) (by omega)
      rwa [show a + (i + 1) = a + 1 + i by omega] at hi'
    rw [mgets, mgets, h0, hrest]

/-- A run of bytes reads as it was written. -/
theorem mgets_msets_self (m : Mem) (a : Nat) (bs : List Byte) : mgets (msets m a bs) a bs.length = bs := by
  induction bs generalizing m a with
  | nil => rfl
  | cons b bs ih =>
    have hb : mget (msets (mset m a b) (a + 1) bs) a = b := by rw [mget_msets_of_outside (by omega), mget_mset, if_pos rfl]
    rw [List.length_cons, msets, mgets, hb, ih]

/-! ## The Vault -/

section
variable {s : State}

theorem vaultPut_vault (s : State) (a : Nat) (bs : List Byte) : (s.vaultPut a bs).vault = msets s.vault a bs := rfl

/-- A byte of the Vault depends on the part it lies in. -/
theorem vaultByte_congr {t : State} {a : Nat} (hcells : t.net.cells = s.net.cells) (hsaved : t.weir.saved = s.weir.saved)
    (hcontexts : vFlowCtx ≤ a → mget t.ingest.contexts.bytes (a - vFlowCtx) = mget s.ingest.contexts.bytes (a - vFlowCtx))
    (hrest : mget t.vault a = mget s.vault a) : t.vaultByte a = s.vaultByte a := by
  unfold State.vaultByte State.ramAt
  split
  · rw [hcells]
  split
  · rw [hsaved]
  split
  case isTrue hflow => exact hcontexts hflow.1
  case isFalse => exact hrest

end

/-! ## DRAM -/

section
variable {s : State}

/-- The shadow's place depends on the size of DRAM alone. -/
theorem State.shadowBase_congr {t : State} (ht : t.integ.training = s.integ.training) (hg : t.integ.gib = s.integ.gib) :
    t.shadowBase = s.shadowBase := by
  unfold State.shadowBase State.installed
  rw [ht, hg]

theorem setPageValid_shadowBase (s : State) (p : Nat) : (s.setPageValid p).shadowBase = s.shadowBase := by
  unfold State.setPageValid
  split
  · rfl
  · exact State.shadowBase_congr rfl rfl

theorem touchPages_shadowBase (s : State) (a n : Nat) : (s.touchPages a n).shadowBase = s.shadowBase := by
  unfold State.touchPages
  split
  · rfl
  · refine List.foldlRecOn (motive := fun u : State => u.shadowBase = s.shadowBase) _ _ rfl fun u hu i _ => ?_
    dsimp only
    split
    · rw [setPageValid_shadowBase, hu]
    · exact hu

/-- The check bytes of a word lie in the shadow. -/
theorem mget_shadowWord {c : Nat} (hc : c < s.shadowBase) (m : Mem) (w x y : Nat) : mget (s.shadowWord m w x y) c = mget m c := by
  unfold State.shadowWord
  split
  · rfl
  split
  · rfl
  extract_lets base i checks
  rw [mget_msets_of_outside (.inl (by omega)), mget_msets_of_outside (.inl (by omega))]

/-- Below the shadow, a write into DRAM is a write of its bytes. -/
theorem dramByte_dramPut {c : Nat} (hc : c < s.shadowBase) (a : Nat) (bs : List Byte) :
    (s.dramPut a bs).dramByte c = mget (msets s.dram a bs) c := by
  unfold State.dramPut State.dramByte
  extract_lets s1 mem word change
  have hdram : s1.dram = s.dram := (State.touchPages_keeps ..).dram_eq (by decide)
  have hc1 : c < s1.shadowBase := by rwa [touchPages_shadowBase]
  rw [← hdram]
  refine List.foldlRecOn (motive := fun m : Mem => mget m c = mget mem c) _ _ rfl fun m hm i _ => ?_
  rw [mget_shadowWord hc1, hm]

theorem dramByte_dramPut_of_outside {a c : Nat} {bs : List Byte} (hc : c < s.shadowBase) (h : c < a ∨ a + bs.length ≤ c) :
    (s.dramPut a bs).dramByte c = s.dramByte c := (dramByte_dramPut hc a bs).trans (mget_msets_of_outside h)

theorem dramGet_dramPut {a : Nat} {bs : List Byte} (h : a + bs.length ≤ s.shadowBase) : (s.dramPut a bs).dramGet a bs.length = bs :=
  (mgets_congr fun i hi => dramByte_dramPut (by omega) a bs).trans (mgets_msets_self s.dram a bs)

end

end Sys2Proof.Machine
end

section
/-! SUPPORT. A packet of a flow comes and is taken from its queue (R132, R580): the clock, the cell pool with its ports, and the events
move, and nothing else that ingest reads. -/

namespace Sys2Proof.Machine

/-! ## The cells of the pool stay when a queue changes -/

section
variable (s : State)

@[simp] theorem raise_net (e : Nat) : (s.raise e).net = s.net := (State.raise_keeps s e).net_eq (by decide)

@[simp] theorem raiseMs_net (e : Nat) : (s.raiseMs e).net = s.net := (State.raiseMs_keeps s e).net_eq (by decide)

theorem pauseGen_cells (p : Nat) : (s.pauseGen p).net.cells = s.net.cells := by
  unfold State.pauseGen
  extract_lets free x on q
  split
  · rw [State.portEvent, raise_net]
    rfl
  split
  · rw [State.portEvent, raise_net]
    rfl
  · rfl

theorem setQueue_cells (q : Nat) (ps : List Packet) : (s.setQueue q ps).net.cells = s.net.cells := by
  unfold State.setQueue State.pauseGenAll
  extract_lets wasLow net s1 s2 s3
  refine List.foldlRecOn (motive := fun u : State => u.net.cells = s.net.cells) _ _ ?_ fun u hu p _ => (pauseGen_cells u p).trans hu
  simp only [s3]
  split
  · rw [raiseMs_net]
    rfl
  · rfl

theorem consumeFlow_cells (r : Nat) : (s.consumeFlow r).net.cells = s.net.cells := by
  unfold State.consumeFlow
  split
  · rfl
  · rw [State.bump, State.add, setFld_net]
    exact setQueue_cells ..

end

/-! ## A packet comes and leaves its queue -/

/-- What ingest reads when a packet comes: all but the clock, the pool with its ports, and the events. -/
abbrev arrivalMask : Nat := 0x5000000000000000000000000000000000000000000000000000f00ff005e00000000000000000000000000000000000000000000000000000000000700070003000000000000000000000000000000000000000f00db00010001000f0007000f0000000000000000000000000000000000000000000000010007000300070001000000000000000000000000000000000000000000000000000000000000000001ffacfd

section
variable (s : State) (r pt : Nat)

/-- The state in which the packet of flow r that reached the pin at `pt` has left its queue. -/
def State.arrive : State := (s.advanceTo pt).consumeFlow r

theorem arrive_keeps : Keeps arrivalMask s (s.arrive r pt) :=
  Keeps.step (State.consumeFlow_keeps ..) (by decide) ((State.advanceTo_keeps s pt).weaken (by decide))

@[simp] theorem arrive_ingest : (s.arrive r pt).ingest = s.ingest := (arrive_keeps s r pt).ingest_eq (by decide)

theorem arrive_now : (s.arrive r pt).now = (s.advanceTo pt).now :=
  State.now_congr ((State.consumeFlow_keeps ..).clk_eq (by decide))

@[simp] theorem writeContext_clk : (s.writeContext r).clk = s.clk := rfl

@[simp] theorem writeContext_net : (s.writeContext r).net = s.net := rfl

theorem arrive_cells : (s.arrive r pt).net.cells = s.net.cells :=
  (consumeFlow_cells ..).trans (congrArg Net.cells ((State.advanceTo_keeps s pt).net_eq (by decide)))

/-- The packet is taken by its flow: its context is written, and it counts in PACKETS (R132). -/
def State.taken : State := ((s.arrive r pt).writeContext r).bump oFlowCnt r 0

/-- What ingest reads when a packet has been taken: also its own part and its counters have moved. -/
abbrev takenMask : Nat := 0x5000000000000000000000000000000000000000000000000000f00ff004e00000000000000000000000000000000000000000000000000000000000700070003000000000000000000000000000000000000000f00db00010001000f0007000f0000000000000000000000000000000000000000000000010007000300070001000000000000000000000000000000000000000000000000000000000000000001fdacfd

theorem taken_keeps : Keeps takenMask s (s.taken r pt) :=
  Keeps.bump (by decide) (Keeps.step (State.writeContext_keeps ..) (by decide) ((arrive_keeps s r pt).weaken (by decide)))

variable {r}

theorem taken_ingest : (s.taken r pt).ingest = (s.writeContext r).ingest := by
  have h : (s.taken r pt).ingest = ((s.arrive r pt).writeContext r).ingest := rfl
  rw [h, State.writeContext, State.writeContext, arrive_ingest]

theorem taken_row {o : Nat} (ho : takenMask.testBit (32 + o / 4096) = true) (i : Nat) : (s.taken r pt).row o i = s.row o i :=
  (taken_keeps s r pt).objs o i ho

theorem taken_fld {o : Nat} (ho : takenMask.testBit (32 + o / 4096) = true) (i c : Nat) : (s.taken r pt).fld o i c = s.fld o i c :=
  (taken_keeps s r pt).fld_eq ho i c

theorem taken_count (c : Nat) :
    (s.taken r pt).fld oFlowCnt r c = if c = 0 then (s.fld oFlowCnt r 0 + 1) % 2 ^ 64 else s.fld oFlowCnt r c := by
  have h : ∀ c, ((s.arrive r pt).writeContext r).fld oFlowCnt r c = s.fld oFlowCnt r c := fun c =>
    (writeContext_fld ..).trans ((arrive_keeps s r pt).fld_eq (by decide) r c)
  simp only [State.taken, State.bump, State.add, fld_setFld, h, true_and]

@[simp] theorem taken_flow (i : Nat) : (s.taken r pt).flow i = s.flow i := State.flow_congr (congrArg Ingest.flows (taken_ingest ..)) i

@[simp] theorem taken_uni (u : Nat) : (s.taken r pt).uni u = s.uni u := State.uni_congr (congrArg Ingest.universes (taken_ingest ..)) u

@[simp] theorem taken_syncAddr (a : Nat) : (s.taken r pt).syncAddr a = s.syncAddr a :=
  State.syncAddr_congr (congrArg Ingest.syncs (taken_ingest ..)) a

@[simp] theorem taken_now : (s.taken r pt).now = (s.advanceTo pt).now :=
  (State.now_congr (by rw [State.taken, State.bump, State.add, setFld_clk, writeContext_clk])).trans (arrive_now s r pt)

@[simp] theorem taken_dram : (s.taken r pt).dram = s.dram := (taken_keeps s r pt).dram_eq (by decide)

@[simp] theorem taken_vault : (s.taken r pt).vault = s.vault := (taken_keeps s r pt).vault_eq (by decide)

@[simp] theorem taken_integ : (s.taken r pt).integ = s.integ := (taken_keeps s r pt).integ_eq (by decide)

@[simp] theorem taken_disp : (s.taken r pt).disp = s.disp := (taken_keeps s r pt).disp_eq (by decide)

@[simp] theorem taken_weir : (s.taken r pt).weir = s.weir := (taken_keeps s r pt).weir_eq (by decide)

theorem taken_cells : (s.taken r pt).net.cells = s.net.cells := by
  rw [State.taken, State.bump, State.add, setFld_net, writeContext_net, arrive_cells]

@[simp] theorem taken_seeking : (s.taken r pt).seeking r = s.seeking r := State.seeking_congr (taken_fld s pt (by decide) r 0)

theorem taken_flowState (hr : 8 ≤ r) : (s.taken r pt).flowState r = s.flowState r :=
  State.flowState_congr hr (taken_fld s pt (by decide) r 0)

theorem taken_flowRow (hr : 8 ≤ r) : (s.taken r pt).flowRow r = s.flowRow r :=
  State.flowRow_congr hr (by rw [taken_flow]) (taken_row s pt (by decide) r)

end

/-! ## Before the packet is taken -/

section
variable (s : State) (pt : Nat)

@[simp] theorem advanceTo_row (o i : Nat) : (s.advanceTo pt).row o i = s.row o i := State.row_congr (advanceTo_od s pt) o i

@[simp] theorem advanceTo_ingest : (s.advanceTo pt).ingest = s.ingest := (State.advanceTo_keeps s pt).ingest_eq (by decide)

@[simp] theorem advanceTo_flow (r : Nat) : (s.advanceTo pt).flow r = s.flow r := State.flow_congr (by rw [advanceTo_ingest]) r

@[simp] theorem advanceTo_uni (u : Nat) : (s.advanceTo pt).uni u = s.uni u := State.uni_congr (by rw [advanceTo_ingest]) u

@[simp] theorem advanceTo_syncAddr (a : Nat) : (s.advanceTo pt).syncAddr a = s.syncAddr a :=
  State.syncAddr_congr (by rw [advanceTo_ingest]) a

@[simp] theorem advanceTo_flowAborted (r : Nat) : (s.advanceTo pt).flowAborted r = s.flowAborted r := by
  rw [State.flowAborted, State.flowPacket, (State.advanceTo_keeps s pt).net_eq (by decide)]
  rfl

variable {r : Nat} (hr : 8 ≤ r)
include hr

theorem advanceTo_flowState : (s.advanceTo pt).flowState r = s.flowState r := State.flowState_congr hr (advanceTo_fld ..)

theorem advanceTo_flowRow : (s.advanceTo pt).flowRow r = s.flowRow r :=
  State.flowRow_congr hr (by rw [advanceTo_flow]) (advanceTo_row ..)

end

/-! ## A packet dropped (R131) -/

section
variable (s : State) (r c : Nat)

theorem flowDrop_ingest : (s.flowDrop r c).ingest = s.ingest := (State.flowDrop_keeps s r c).ingest_eq (by decide)

@[simp] theorem flowDrop_flow (i : Nat) : (s.flowDrop r c).flow i = s.flow i :=
  State.flow_congr (congrArg Ingest.flows (flowDrop_ingest ..)) i

@[simp] theorem flowDrop_uni (u : Nat) : (s.flowDrop r c).uni u = s.uni u :=
  State.uni_congr (congrArg Ingest.universes (flowDrop_ingest ..)) u

@[simp] theorem flowDrop_dram : (s.flowDrop r c).dram = s.dram := (State.flowDrop_keeps s r c).dram_eq (by decide)

@[simp] theorem flowDrop_vault : (s.flowDrop r c).vault = s.vault := (State.flowDrop_keeps s r c).vault_eq (by decide)

theorem raiseMs_fld {o : Nat} (e i c : Nat) (ho : o ≠ 0x400000) : (s.raiseMs e).fld o i c = s.fld o i c := by
  unfold State.raiseMs State.raiseOnce
  split
  · rfl
  · exact raise_fld _ _ _ _ ho

/-- The drop counts in its column. -/
theorem flowDrop_count : (s.flowDrop r c).fld oFlowCnt r c = (s.fld oFlowCnt r c + 1) % 2 ^ 64 := by
  rw [State.flowDrop, State.ingestDrop, raiseMs_fld _ _ _ _ (by decide)]
  exact (fld_setFld ..).trans (if_pos ⟨rfl, rfl, rfl⟩)

end

end Sys2Proof.Machine
end

section
/-! SUPPORT. Video packets (R105 to R118): the state that takes a packet, the pixels of a sample row in its Folio, a frame opened, filled
and closed, and its fence advanced. -/

namespace Sys2Proof.Machine

/-! ## The pixels of a sample row (R107, R109) -/

/-- The bytes that a sample row of video row v puts into its Folio. -/
def srdBytes (v : Row) (d : Srd) (bs : List Byte) : List Byte :=
  ((chunk (groupOctets (v.getD 2 0)) (d.length / groupOctets (v.getD 2 0)) bs).flatMap (groupWords v)).flatMap (leBytes 4)

theorem length_chunk {n k : Nat} {bs : List Byte} (h : n * k ≤ bs.length) : (chunk n k bs).length = k := by
  induction k generalizing bs with
  | zero => rfl
  | succ k ih =>
    rw [Nat.mul_succ] at h
    rw [chunk, if_neg (by omega), List.length_cons, ih (by rw [List.length_drop]; omega)]

theorem length_groupWords (v : Row) (g : List Byte) : (groupWords v g).length = groupPixels (v.getD 2 0) := by
  unfold groupWords groupPixels
  split <;> simp

theorem length_leBytes (n v : Nat) : (leBytes n v).length = n := by
  induction n generalizing v with
  | zero => rfl
  | succ n ih => simp [leBytes, ih]

/-- Each pixel takes a word. -/
theorem length_srdBytes (v : Row) {d : Srd} {bs : List Byte} (h : d.length ≤ bs.length) :
    (srdBytes v d bs).length = 4 * srdPixels (v.getD 2 0) d := by
  have hk : (chunk (groupOctets (v.getD 2 0)) (d.length / groupOctets (v.getD 2 0)) bs).length = d.length / groupOctets (v.getD 2 0) :=
    length_chunk ((Nat.mul_div_le ..).trans h)
  simp only [srdBytes, List.length_flatMap, length_groupWords, length_leBytes, List.map_const', List.sum_replicate, hk, srdPixels,
    smul_eq_mul]
  omega

/-- Where a sample row lies in Folio row f. -/
def State.srdBase (s : State) (f : Nat) (d : Srd) : Nat :=
  (s.row oFolio f).getD 0 0 + d.line * (s.row oFolio f).getD 1 0 + d.offset * 4

theorem writeSrd_eq (s : State) (v : Row) (f : Nat) (d : Srd) (bs : List Byte) :
    s.writeSrd v f d bs = s.dramPut (s.srdBase f d) (srdBytes v d bs) := rfl

section
variable (s : State) (v : Row) (f : Nat) (ds : List Srd) (bs : List Byte)

theorem writeSrds_ingest : (s.writeSrds v f ds bs).ingest = s.ingest := (State.writeSrds_keeps s v f ds bs).ingest_eq (by decide)

@[simp] theorem writeSrds_flow (r : Nat) : (s.writeSrds v f ds bs).flow r = s.flow r :=
  State.flow_congr (congrArg Ingest.flows (writeSrds_ingest ..)) r

end

/-! ## The packet is taken (R114, R115) -/

section
variable {r : Nat} {p : VideoPacket} {s : State}

theorem windowEnd_advanceTo (pt : Nat) (f : VFrame) (hr : 8 ≤ r) : (s.advanceTo pt).windowEnd r f = s.windowEnd r f := by
  simp only [State.windowEnd, advanceTo_flowRow s pt hr, advanceTo_row]

/-- A packet within the arrival window of the open frame closes nothing. -/
theorem windowCheck_within {t : Nat} (h : ∀ f, (s.flow r).frame = some f → t < s.windowEnd r f) : s.windowCheck r t = s := by
  unfold State.windowCheck
  split
  · rfl
  next f hf => exact if_neg (Nat.not_le.mpr (h f hf))

/-- An ENABLED VIDEO flow in full service, its next packet whole and the arrival window of its open frame still running. -/
structure TakesVideo (s : State) (r : Nat) (p : VideoPacket) : Prop where
  full : s.full = true
  row : 8 ≤ r
  state : s.flowState r = 1
  video : fwType (s.flowRow r) = 1
  whole : p.aborted = false
  queued : s.flowAborted r = false
  within : ∀ f, (s.flow r).frame = some f → p.at_ < s.windowEnd r f

/-- It is malformed, or the flow seeks, or it is a packet of a frame. -/
theorem execVideoPacket_taken (h : TakesVideo s r p) : execVideoPacket r p s =
    if videoMalformed (s.row oVideo (fwIndex (s.flowRow r))) p then (s.taken r p.at_).flowDrop r 1
    else if s.seeking r then (s.taken r p.at_).seekPacket r p else (s.taken r p.at_).timedPacket r p := by
  obtain ⟨hf, hr, hst, hv, hp, hq, hw⟩ := h
  unfold execVideoPacket
  extract_lets s1 v aborted s2
  have hv1 : v = s.flowRow r := advanceTo_flowRow s _ hr
  have hst1 : s1.flowState r = 1 := (advanceTo_flowState s _ hr).trans hst
  have hwin : s1.windowCheck r p.at_ = s1 :=
    windowCheck_within fun f hff => (windowEnd_advanceTo _ _ hr).symm ▸ hw f (by rwa [advanceTo_flow] at hff)
  have hs2 : s2 = s.taken r p.at_ := by
    simp only [s2, hwin]
    rfl
  have hab : aborted = false := by simp [aborted, s1, hp, hq]
  rw [if_neg (by simp [s1, hf, hst1, hv1, hv, Nat.not_lt.mpr hr]), if_neg (by simp [hab]), hs2, hv1,
    if_neg (by rw [taken_flowState s _ hr, hst]; decide), taken_row s _ (by decide), taken_seeking]

/-! ## A frame opens and takes packets (R103, R105, R114, R116) -/

/-- A frame as it opens, filling entry k of its ring. -/
def VFrame.new (ts t k : Nat) : VFrame :=
  { ts := ts, firstAt := t, lastAt := t, seqs := [], marker := none, entry := some k, pixels := 0 }

/-- A frame after packet p, by video row v. -/
def VFrame.received (f : VFrame) (p : VideoPacket) (v : Row) : VFrame :=
  { f with
    lastAt := p.at_, seqs := p.seq :: f.seqs, marker := if p.marker then some p.seq else f.marker
    pixels := f.pixels + (p.srds.map (srdPixels (v.getD 2 0))).sum }

/-- The state in which frame f is open on flow r. -/
def State.withFrame (s : State) (r : Nat) (f : VFrame) : State := s.setFlow r { s.flow r with frame := some f }

/-- The state in which frame f of flow r, in Folio row i, has received packet p, by video row v. -/
def State.filled (s : State) (r : Nat) (f : VFrame) (i : Nat) (p : VideoPacket) (v : Row) : State :=
  (s.withFrame r (f.received p v)).writeSrds v i p.srds p.data

theorem openFrame_selected {ts t k : Nat} (h : s.selectEntry (s.flowRing r) = some k) :
    s.openFrame r ts t = (s.withFrame r (.new ts t k)).takeEntry (s.flowRing r) k := by
  simp only [State.openFrame, h]
  rfl

/-- Where no more is to come of it, the frame closes. -/
theorem framePacket_received {f : VFrame} {k : Nat} {v : Row} (hv : v = s.row oVideo (fwIndex (s.flowRow r))) (hq : p.seq ∉ f.seqs)
    (hk : f.entry = some k) : s.framePacket r f p =
      if (f.received p v).complete (s.flow r).nextSeq v then
        ((s.filled r f (s.ringFolio (s.flowRing r) k) p v).closeComplete r (f.received p v) k).drainAfterClose r
      else if (f.received p v).allIn (s.flow r).nextSeq then (s.filled r f (s.ringFolio (s.flowRing r) k) p v).closeFrame r
      else s.filled r f (s.ringFolio (s.flowRing r) k) p v := by
  subst hv
  unfold State.framePacket
  rw [if_neg (by simpa using hq)]
  extract_lets v f1 s1
  split
  next hnone => rw [hk] at hnone; contradiction
  next j hj =>
    obtain rfl : k = j := Option.some.inj (hk.symm.trans hj)
    rfl

/-- Without the marker packet more is to come of a frame. -/
theorem VFrame.more {f : VFrame} (h : f.marker = none) (n : Option Nat) (v : Row) : f.complete n v = false ∧ f.allIn n = false := by
  simp [VFrame.complete, VFrame.allIn, h]

section
variable {f : VFrame}

@[simp] theorem withFrame_flow : (s.withFrame r f).flow r = { s.flow r with frame := some f } := flow_setFlow_self ..

@[simp] theorem withFrame_row (o i : Nat) : (s.withFrame r f).row o i = s.row o i := setFlow_row ..

@[simp] theorem setFlow_dram (x : Flow) : (s.setFlow r x).dram = s.dram := rfl

@[simp] theorem withFrame_dram : (s.withFrame r f).dram = s.dram := rfl

@[simp] theorem withFrame_shadowBase : (s.withFrame r f).shadowBase = s.shadowBase := State.shadowBase_congr rfl rfl

@[simp] theorem takeEntry_flow (g k : Nat) : (s.takeEntry g k).flow r = s.flow r := State.flow_congr rfl r

theorem takeEntry_row {o : Nat} (g k i : Nat) (ho : o ≠ oHistory) : (s.takeEntry g k).row o i = s.row o i :=
  (row_setRow_of_ne _ _ fun h => ho h.1).trans (State.row_congr rfl o i)

@[simp] theorem takeEntry_history (g k : Nat) : (s.takeEntry g k).row oHistory (4 * g + k) = [0, 0, 0, 0, 0] := row_setRow_self ..

@[simp] theorem takeEntry_dram (g k : Nat) : (s.takeEntry g k).dram = s.dram := rfl

@[simp] theorem takeEntry_shadowBase (g k : Nat) : (s.takeEntry g k).shadowBase = s.shadowBase := State.shadowBase_congr rfl rfl

variable {i : Nat} {v : Row}

@[simp] theorem filled_flow : (s.filled r f i p v).flow r = { s.flow r with frame := some (f.received p v) } :=
  (writeSrds_flow ..).trans withFrame_flow

/-- The mask of what a write of pixels leaves: all but DRAM, its page-valid bits and the check storage. -/
abbrev pixelsMask : Nat := 0x5000000000000000000000000000000000000000000000000000f00ff007e00010000000000000000000000000000000000000000000000000000000700070003000000000000000000000000000000000000000f00db00010001000f0007000f00000000000000000000000000000000000000000000000b0007000300070001000000000000000000000000000000000000000000000000000000000000000001ff7fe7

theorem filled_row {o : Nat} (j : Nat) (ho : pixelsMask.testBit (32 + o / 4096) = true) : (s.filled r f i p v).row o j = s.row o j :=
  ((State.writeSrds_keeps ..).objs o j ho).trans (withFrame_row ..)

theorem filled_fld {o : Nat} (j c : Nat) (ho : pixelsMask.testBit (32 + o / 4096) = true) :
    (s.filled r f i p v).fld o j c = s.fld o j c := congrArg (·.getD c 0) (filled_row j ho)

end

/-! ## The rows that a flow works by -/

/-- From s to t, flow r, its video row, its ring and the Folios read the same. -/
structure SameRows (r : Nat) (s t : State) : Prop where
  flowRow : t.flowRow r = s.flowRow r
  video : ∀ i, t.row oVideo i = s.row oVideo i
  folio : ∀ i, t.row oFolio i = s.row oFolio i
  ring : ∀ i, t.row oRing i = s.row oRing i

namespace SameRows

variable {t u : State} (h : SameRows r s t)
include h

theorem trans (k : SameRows r t u) : SameRows r s u :=
  ⟨k.flowRow.trans h.flowRow, fun i => (k.video i).trans (h.video i), fun i => (k.folio i).trans (h.folio i),
    fun i => (k.ring i).trans (h.ring i)⟩

theorem videoRow : t.row oVideo (fwIndex (t.flowRow r)) = s.row oVideo (fwIndex (s.flowRow r)) := by rw [h.flowRow, h.video]

theorem flowRing : t.flowRing r = s.flowRing r := congrArg (·.getD 6 0) h.videoRow

theorem ringFolio (g k : Nat) : t.ringFolio g k = s.ringFolio g k := congrArg (·.getD (1 + k) 0) (h.ring g)

theorem ringFence (g : Nat) : t.ringFence g = s.ringFence g := by
  rw [State.ringFence, State.ringFence, h.ringFolio]
  exact congrArg (·.getD 5 0) (h.folio _)

theorem srdBase (f : Nat) (d : Srd) : t.srdBase f d = s.srdBase f d := by rw [State.srdBase, State.srdBase, h.folio]

end SameRows

theorem taken_sameRows (pt : Nat) (hr : 8 ≤ r) : SameRows r s (s.taken r pt) :=
  ⟨taken_flowRow s pt hr, taken_row s pt (by decide), taken_row s pt (by decide), taken_row s pt (by decide)⟩

theorem withFrame_sameRows (f : VFrame) (hr : 8 ≤ r) : SameRows r s (s.withFrame r f) :=
  ⟨State.flowRow_congr hr (by rw [withFrame_flow]) (withFrame_row ..), withFrame_row _, withFrame_row _, withFrame_row _⟩

theorem takeEntry_sameRows (g k : Nat) (hr : 8 ≤ r) : SameRows r s (s.takeEntry g k) :=
  ⟨State.flowRow_congr hr (by rw [takeEntry_flow]) (takeEntry_row _ _ _ (by decide)), fun i => takeEntry_row _ _ i (by decide),
    fun i => takeEntry_row _ _ i (by decide), fun i => takeEntry_row _ _ i (by decide)⟩

theorem filled_sameRows (f : VFrame) (i : Nat) (v : Row) (hr : 8 ≤ r) : SameRows r s (s.filled r f i p v) :=
  ⟨State.flowRow_congr hr (by rw [filled_flow]) (filled_row _ (by decide)), fun j => filled_row j (by decide),
    fun j => filled_row j (by decide), fun j => filled_row j (by decide)⟩

/-- The entry that a new frame fills is chosen as before the packet came. -/
theorem taken_selectEntry (pt g : Nat) : (s.taken r pt).selectEntry g = s.selectEntry g := by
  have hring := fun i c => taken_fld (r := r) s pt (o := oRing) (by decide) i c
  have hhistory := fun i c => taken_fld (r := r) s pt (o := oHistory) (by decide) i c
  have hlayer := fun i c => taken_fld (r := r) s pt (o := 0x210200) (by decide) i c
  have hlast : (s.taken r pt).ingest.ringLast = s.ingest.ringLast := by
    rw [taken_ingest]
    rfl
  simp only [State.selectEntry, State.folioHeld, State.heldBy, State.newest, State.ringComplete, State.ringCount, State.ringFolio, hring,
    hhistory, hlayer, hlast, taken_disp]

@[simp] theorem taken_shadowBase (pt : Nat) : (s.taken r pt).shadowBase = s.shadowBase :=
  State.shadowBase_congr (by rw [taken_integ]) (by rw [taken_integ])

/-! ## A packet of a frame (R114) -/

theorem timedPacket_same {f : VFrame} (hf : (s.flow r).frame = some f) (ht : f.ts = p.timestamp) :
    s.timedPacket r p = s.framePacket r f p := by simp [State.timedPacket, hf, ht]

theorem timedPacket_first {k : Nat} (hf : (s.flow r).frame = none)
    (hc : ∀ c, (s.flow r).closedTs = some c → reached p.timestamp c = true ∧ p.timestamp ≠ c)
    (hk : s.selectEntry (s.flowRing r) = some k) : s.timedPacket r p =
      ((s.withFrame r (.new p.timestamp p.at_ k)).takeEntry (s.flowRing r) k).framePacket r (.new p.timestamp p.at_ k) p := by
  cases hts : (s.flow r).closedTs with
  | none => simp [State.timedPacket, hf, hts, openFrame_selected hk]
  | some c =>
    obtain ⟨hreach, hne⟩ := hc c hts
    simp [State.timedPacket, hf, hts, openFrame_selected hk, hreach, hne]

/-! ## The first packet of a frame, of one sample row -/

theorem filled_single {f : VFrame} {i : Nat} {v : Row} {d : Srd} (h : p.srds = [d]) : s.filled r f i p v =
    (s.withFrame r (f.received p v)).dramPut (s.srdBase i d) (srdBytes v d (p.data.take d.length)) := by
  rw [State.filled, h, State.writeSrds, State.writeSrds, writeSrd_eq, State.srdBase, withFrame_row]
  rfl

/-- A packet that is not malformed carries the bytes of its sample row. -/
theorem length_srdBytes_of_ok {v : Row} {d : Srd} (hm : videoMalformed v p = false) (h : p.srds = [d]) :
    (srdBytes v d (p.data.take d.length)).length = 4 * srdPixels (v.getD 2 0) d := by
  refine length_srdBytes v ?_
  have hlen : d.length ≤ p.data.length := by
    simp only [videoMalformed, h, Bool.or_eq_false_iff, decide_eq_false_iff_not, List.map_cons, List.map_nil, List.sum_cons,
      List.sum_nil] at hm
    omega
  rw [List.length_take]
  omega

theorem videoPacket_opens {k : Nat} {d : Srd} {v x : Row} {base : Nat} (hf : s.full = true) (hr : 8 ≤ r) (hst : s.flowState r = 1)
    (ht : fwType (s.flowRow r) = 1) (hseek : s.seeking r = false) (hv : v = s.row oVideo (fwIndex (s.flowRow r)))
    (hm : videoMalformed v p = false) (hp : p.aborted = false) (hq : s.flowAborted r = false) (hmark : p.marker = false)
    (hd : p.srds = [d]) (hnone : (s.flow r).frame = none)
    (hnew : ∀ c, (s.flow r).closedTs = some c → reached p.timestamp c = true ∧ p.timestamp ≠ c)
    (hk : s.selectEntry (s.flowRing r) = some k) (hx : x = s.row oFolio (s.ringFolio (s.flowRing r) k))
    (hbase : base = x.getD 0 0 + d.line * x.getD 1 0 + d.offset * 4) (hroom : base + 4 * srdPixels (v.getD 2 0) d ≤ s.shadowBase) :
    ∃ t, exec (.videoPacket r p) s = .next t ∧
      (t.flow r).frame = some (VFrame.mk p.timestamp p.at_ p.at_ [p.seq] none (some k) (srdPixels (v.getD 2 0) d)) ∧
      t.row oHistory (4 * s.flowRing r + k) = [0, 0, 0, 0, 0] ∧ t.fld oFlowCnt r 0 = (s.fld oFlowCnt r 0 + 1) % 2 ^ 64 ∧
      t.dramGet base (4 * srdPixels (v.getD 2 0) d) =
        ((chunk (groupOctets (v.getD 2 0)) (d.length / groupOctets (v.getD 2 0)) (p.data.take d.length)).flatMap
          (groupWords v)).flatMap (leBytes 4) ∧
      ∀ a, a < s.shadowBase → (a < base ∨ base + 4 * srdPixels (v.getD 2 0) d ≤ a) → t.dramByte a = s.dramByte a := by
  refine ans_next (u := execVideoPacket r p s) (fun _ _ h => h) ?_
  rw [execVideoPacket_taken ⟨hf, hr, hst, ht, hp, hq, fun f h => absurd (hnone.symm.trans h) nofun⟩, ← hv, if_neg (by simp [hm]),
    if_neg (by simp [hseek])]
  have hrows := taken_sameRows (s := s) p.at_ hr
  have hring := hrows.flowRing
  rw [timedPacket_first (k := k) (by rw [taken_flow, hnone]) (by rw [taken_flow]; exact hnew) (by rw [taken_selectEntry, hring, hk]), hring]
  have hopen := ((hrows.trans (withFrame_sameRows (.new p.timestamp p.at_ k) hr)).trans (takeEntry_sameRows (s.flowRing r) k hr))
  obtain ⟨hcomplete, hall⟩ := VFrame.more (f := (VFrame.new p.timestamp p.at_ k).received p v)
    (by simp [VFrame.received, VFrame.new, hmark])
    ((((s.taken r p.at_).withFrame r (.new p.timestamp p.at_ k)).takeEntry (s.flowRing r) k).flow r).nextSeq v
  rw [framePacket_received (hv.trans hopen.videoRow.symm) (by simp [VFrame.new]) rfl, if_neg (by rw [hcomplete]; decide),
    if_neg (by rw [hall]; decide), hopen.flowRing, hopen.ringFolio]
  have hlen := length_srdBytes_of_ok hm hd
  have hat : base = s.srdBase (s.ringFolio (s.flowRing r) k) d := by rw [hbase, hx, State.srdBase]
  refine ⟨?_, ?_, ?_, ?_, fun a ha hout => ?_⟩
  · rw [filled_flow]
    simp [VFrame.received, VFrame.new, hmark, hd]
  · rw [filled_row _ (by decide), takeEntry_history]
  · rw [filled_fld _ _ (by decide), State.fld, takeEntry_row _ _ _ (by decide), withFrame_row]
    exact taken_count ..
  · rw [filled_single hd, hopen.srdBase, ← hat, ← hlen]
    exact dramGet_dramPut (by simpa [hlen] using hroom)
  · rw [filled_single hd, hopen.srdBase, ← hat, dramByte_dramPut_of_outside (by simpa using ha) (by rwa [hlen])]
    simp [State.dramByte]

/-! ## A frame closes (R105, R117, R118) -/

section
variable (s) (r)

@[simp] theorem bump_flow (o i c : Nat) : (s.bump o i c).flow r = s.flow r := State.flow_congr rfl r

@[simp] theorem add_flow (o i c n : Nat) : (s.add o i c n).flow r = s.flow r := State.flow_congr rfl r

theorem bump_row {o' : Nat} (o i c j : Nat) (ho : o' ≠ o) : (s.bump o i c).row o' j = s.row o' j :=
  row_setRow_of_ne _ _ fun h => ho h.1

theorem bump_fld (o i c o' i' c' : Nat) : (s.bump o i c).fld o' i' c' =
    if o' = o ∧ i' = i ∧ c' = c then (s.fld o i c + 1) % 2 ^ 64 else s.fld o' i' c' := fld_setFld ..

theorem bump_fld_of_ne {o' : Nat} (o i c i' c' : Nat) (ho : o' ≠ o) : (s.bump o i c).fld o' i' c' = s.fld o' i' c' :=
  congrArg (·.getD c' 0) (bump_row s o i c i' ho)

theorem add_fld (o i c n o' i' c' : Nat) : (s.add o i c n).fld o' i' c' =
    if o' = o ∧ i' = i ∧ c' = c then (s.fld o i c + n) % 2 ^ 64 else s.fld o' i' c' := fld_setFld ..

end

section
variable (s) (r) (f : VFrame) (k : Nat)

theorem closeComplete_flow : (s.closeComplete r f k).flow r =
    { s.flow r with
      frame := none, closedTs := some f.ts, nextSeq := f.marker.map (fun m => (m + 1) % 2 ^ 32)
      advances := (s.flow r).advances ++ [s.ringFence (s.flowRing r)] } := by
  simp [State.closeComplete]

theorem closeComplete_history : (s.closeComplete r f k).row oHistory (4 * s.flowRing r + k) =
    [1, (s.fence (s.ringFence (s.flowRing r)) + (s.flow r).advances.length + 1) % 2 ^ 32, f.ts, nsPt f.firstAt, nsPt f.lastAt] := by
  unfold State.closeComplete
  extract_lets ring fence x val s1 s2
  rw [bump_row _ _ _ _ _ (by decide), bump_row _ _ _ _ _ (by decide), setFlow_row]
  exact row_setRow_self ..

theorem closeComplete_count : (s.closeComplete r f k).fld oFlowCnt r 6 = (s.fld oFlowCnt r 6 + 1) % 2 ^ 64 := by
  unfold State.closeComplete
  extract_lets ring fence x val s1 s2
  rw [bump_fld_of_ne _ _ _ _ _ _ (by decide), bump_fld, if_pos ⟨rfl, rfl, rfl⟩, setFlow_fld]
  exact congrArg (fun x : Row => (x.getD 6 0 + 1) % 2 ^ 64) (row_setRow_of_ne s _ fun h => absurd h.1 (by decide))

/-- The fence of a complete frame is to advance, and does not yet. -/
theorem closeComplete_fence (g : Nat) : (s.closeComplete r f k).fence g = s.fence g :=
  (State.closeComplete_keeps ..).fld_eq (by decide) g 0

theorem closeComplete_flowState : (s.closeComplete r f k).fld oFlowState r 0 = s.fld oFlowState r 0 :=
  (State.closeComplete_keeps ..).fld_eq (by decide) r 0

end

/-- The drain of a flow that does not drain does not end. -/
theorem drainAfterClose_of_ne (h : s.flowState r ≠ 2) : s.drainAfterClose r = s := if_neg h

theorem videoPacket_completes {k : Nat} {f g : VFrame} {v : Row} (hf : s.full = true) (hr : 8 ≤ r) (hst : s.flowState r = 1)
    (ht : fwType (s.flowRow r) = 1) (hseek : s.seeking r = false) (hv : v = s.row oVideo (fwIndex (s.flowRow r)))
    (hm : videoMalformed v p = false) (hp : p.aborted = false) (hq : s.flowAborted r = false) (hopen : (s.flow r).frame = some f)
    (hts : f.ts = p.timestamp) (hfresh : p.seq ∉ f.seqs) (hk : f.entry = some k) (hin : p.at_ < s.windowEnd r f)
    (hg : g = { f with lastAt := p.at_, seqs := p.seq :: f.seqs, marker := if p.marker = true then some p.seq else f.marker,
                       pixels := f.pixels + (p.srds.map (srdPixels (v.getD 2 0))).sum })
    (hdone : g.complete (s.flow r).nextSeq v = true) :
    ∃ t, exec (.videoPacket r p) s = .next t ∧ (t.flow r).frame = none ∧ (t.flow r).closedTs = some f.ts ∧
      (t.flow r).advances = (s.flow r).advances ++ [s.ringFence (s.flowRing r)] ∧
      t.row oHistory (4 * s.flowRing r + k) = [1, (s.fence (s.ringFence (s.flowRing r)) + (s.flow r).advances.length + 1) % 2 ^ 32, f.ts,
        nsPt f.firstAt, nsPt p.at_] ∧
      t.fld oFlowCnt r 6 = (s.fld oFlowCnt r 6 + 1) % 2 ^ 64 ∧
      t.fence (s.ringFence (s.flowRing r)) = s.fence (s.ringFence (s.flowRing r)) := by
  obtain rfl : g = f.received p v := hg
  refine ans_next (u := execVideoPacket r p s) (fun _ _ h => h) ?_
  rw [execVideoPacket_taken ⟨hf, hr, hst, ht, hp, hq, fun e he => Option.some.inj (hopen.symm.trans he) ▸ hin⟩, ← hv,
    if_neg (by simp [hm]), if_neg (by simp [hseek]), timedPacket_same (by rw [taken_flow, hopen]) hts]
  have hrows := taken_sameRows (s := s) p.at_ hr
  rw [framePacket_received (hv.trans hrows.videoRow.symm) hfresh hk, if_pos (by rw [taken_flow]; exact hdone)]
  generalize hu : (s.taken r p.at_).filled r f ((s.taken r p.at_).ringFolio ((s.taken r p.at_).flowRing r) k) p v = u
  have hflow : u.flow r = { s.flow r with frame := some (f.received p v) } := by rw [← hu, filled_flow, taken_flow]
  have hrow := hrows.trans (hu ▸ filled_sameRows f _ v hr)
  have hfld : ∀ o i c, pixelsMask.testBit (32 + o / 4096) = true → u.fld o i c = (s.taken r p.at_).fld o i c := fun o i c ho =>
    hu ▸ filled_fld i c ho
  have hfence : ∀ e, u.fence e = s.fence e := fun e => (hfld oFence e 0 (by decide)).trans (taken_fld s _ (by decide) e 0)
  have hstate : u.fld oFlowState r 0 = s.fld oFlowState r 0 := (hfld _ r 0 (by decide)).trans (taken_fld s _ (by decide) r 0)
  rw [drainAfterClose_of_ne
    (by rw [State.flowState_congr hr ((closeComplete_flowState ..).trans hstate), hst]; decide)]
  have hhistory := closeComplete_history r u (f.received p v) k
  rw [hrow.flowRing, hrow.ringFence, hfence, hflow] at hhistory
  refine ⟨?_, ?_, ?_, hhistory, ?_, ?_⟩
  · rw [closeComplete_flow]
  · rw [closeComplete_flow]
    rfl
  · rw [closeComplete_flow, hflow, hrow.flowRing, hrow.ringFence]
  · rw [closeComplete_count, hfld _ _ _ (by decide), taken_count]
    rfl
  · rw [closeComplete_fence, hfence]

/-! ## Malformed packets and a flow that seeks (R108, R113) -/

/-- A marker ends SEEKING: the next frame begins after it. -/
theorem seekPacket_marker (hmark : p.marker = true) : s.seekPacket r p =
    (((s.flowDrop r 2).setFlow r { s.flow r with
      closedTs := some (newerTs (s.flow r).closedTs p.timestamp), nextSeq := some ((p.seq + 1) % 2 ^ 32) }).setFlowState r
      (s.flowState r) false).raise 67 := by
  simp only [State.seekPacket, if_pos hmark, flowDrop_flow]

theorem videoPacket_dropped {v : Row} (hf : s.full = true) (hr : 8 ≤ r) (hst : s.flowState r = 1) (ht : fwType (s.flowRow r) = 1)
    (hv : v = s.row oVideo (fwIndex (s.flowRow r))) (hp : p.aborted = false) (hq : s.flowAborted r = false)
    (hnone : (s.flow r).frame = none) :
    (videoMalformed v p = true → ∃ t, exec (.videoPacket r p) s = .next t ∧ (t.flow r).frame = none ∧
      t.fld oFlowCnt r 1 = (s.fld oFlowCnt r 1 + 1) % 2 ^ 64 ∧ t.dram = s.dram) ∧
    (videoMalformed v p = false → s.seeking r = true → p.marker = true → ∃ t, exec (.videoPacket r p) s = .next t ∧
      t.flowState r = 1 ∧ t.seeking r = false ∧ t.raised 67 = true ∧ (t.flow r).nextSeq = some ((p.seq + 1) % 2 ^ 32) ∧
      (t.flow r).closedTs = some (newerTs (s.flow r).closedTs p.timestamp) ∧ t.dram = s.dram) := by
  have hexec := execVideoPacket_taken (s := s) (p := p)
    ⟨hf, hr, hst, ht, hp, hq, fun f h => absurd (hnone.symm.trans h) nofun⟩
  rw [← hv] at hexec
  constructor
  · intro hm
    refine ans_next (u := execVideoPacket r p s) (fun _ _ h => h) ?_
    rw [hexec, if_pos hm]
    refine ⟨by rw [flowDrop_flow, taken_flow, hnone], ?_, by rw [flowDrop_dram, taken_dram]⟩
    rw [flowDrop_count, taken_count]
    rfl
  · intro hm hseek hmark
    refine ans_next (u := execVideoPacket r p s) (fun _ _ h => h) ?_
    rw [hexec, if_neg (by simp [hm]), if_pos hseek, seekPacket_marker hmark, taken_flowState s _ hr, hst, taken_flow]
    refine ⟨?_, ?_, raised_raise_self _ _ (by decide), ?_, ?_, ?_⟩
    · rw [raise_flowState _ _ _ hr]
      exact flowState_setFlowState _ _ hr (by decide) _
    · rw [raise_seeking]
      exact seeking_setFlowState _ _ (by decide) _
    · simp [State.setFlowState]
    · simp [State.setFlowState]
    · rw [(State.raise_keeps ..).dram_eq (by decide), State.setFlowState, setFld_dram, setFlow_dram, flowDrop_dram, taken_dram]

/-! ## The end of an arrival window (R115, R118) -/

/-- A frame that fills an entry closes incomplete: it is counted, with its missing packets, and event 65 is raised. -/
theorem closeIncomplete_filling {f : VFrame} {k : Nat} (hk : f.entry = some k) : s.closeIncomplete r f =
    (((((s.setFlow r { s.flow r with
      frame := none, closedTs := some f.ts, nextSeq := f.marker.map (fun m => (m + 1) % 2 ^ 32) }).flowBad r).add oFlowCnt r 5
        (f.missing (s.flow r).nextSeq)).bump oFlowCnt r 7).bump 0x420002 0 0).raise 65 := by
  simp [State.closeIncomplete, hk]

@[simp] theorem setFlow_fence (x : Flow) (f : Nat) : (s.setFlow r x).fence f = s.fence f := setFlow_fld ..

@[simp] theorem flowBad_fld (o i c : Nat) : (s.flowBad r).fld o i c = s.fld o i c := setFlow_fld ..

theorem flowBad_flow : (s.flowBad r).flow r = { s.flow r with badAt := some s.now } := flow_setFlow_self ..

/-- A flow does not drain where its row of FLOW_STATE stays; a device row never does. -/
theorem flowState_ne_two {t : State} (h : t.fld oFlowState r 0 = s.fld oFlowState r 0) (hs : s.flowState r ≠ 2) :
    t.flowState r ≠ 2 := by
  by_cases hr : 8 ≤ r
  · rwa [State.flowState_congr hr h]
  · rw [State.flowState, if_pos (Nat.lt_of_not_le hr), b2n]
    split <;> decide

theorem closeFrame_open {f : VFrame} (h : (s.flow r).frame = some f) : s.closeFrame r = (s.closeIncomplete r f).drainAfterClose r := by
  simp only [State.closeFrame, h]

theorem execArrivalWindowEnd_open {f : VFrame} (h : (s.flow r).frame = some f) :
    execArrivalWindowEnd r s = (s.advanceTo (s.windowEnd r f)).closeFrame r := by
  unfold execArrivalWindowEnd
  generalize s.windowEnd r = w
  rw [h]

/-- What a frame that filled an entry leaves when it closes incomplete. -/
theorem closeIncomplete_leaves {f : VFrame} {k : Nat} (hk : f.entry = some k) :
    ((s.closeIncomplete r f).flow r).frame = none ∧ ((s.closeIncomplete r f).flow r).closedTs = some f.ts ∧
      (s.closeIncomplete r f).raised 65 = true ∧ (s.closeIncomplete r f).fld oFlowCnt r 7 = (s.fld oFlowCnt r 7 + 1) % 2 ^ 64 := by
  rw [closeIncomplete_filling hk]
  refine ⟨?_, ?_, raised_raise_self _ _ (by decide), ?_⟩
  · simp [flowBad_flow]
  · simp [flowBad_flow]
  · rw [raise_fld _ _ _ _ (by decide), bump_fld_of_ne _ _ _ _ _ _ (by decide), bump_fld, if_pos ⟨rfl, rfl, rfl⟩, add_fld,
      if_neg (fun h => absurd h.2.2 (by decide)), flowBad_fld, setFlow_fld]

theorem arrivalWindowEnd_closes {k : Nat} {f : VFrame} (hopen : (s.flow r).frame = some f) (hk : f.entry = some k)
    (hst : s.flowState r = 1) : ∃ t, exec (.arrivalWindowEnd r) s = .next t ∧ (t.flow r).frame = none ∧ (t.flow r).closedTs = some f.ts ∧
      t.raised 65 = true ∧ t.fld oFlowCnt r 7 = (s.fld oFlowCnt r 7 + 1) % 2 ^ 64 ∧ s.windowEnd r f ≤ t.now ∧
      t.fence (s.ringFence (s.flowRing r)) = s.fence (s.ringFence (s.flowRing r)) := by
  refine ans_next (u := execArrivalWindowEnd r s) (fun _ _ h => h) ?_
  have hle := le_now_advanceTo s (s.windowEnd r f)
  have hfld := advanceTo_fld s (s.windowEnd r f)
  rw [execArrivalWindowEnd_open hopen, closeFrame_open ((advanceTo_flow ..).symm ▸ hopen)]
  generalize s.advanceTo (s.windowEnd r f) = u at hle hfld
  have hkeeps := State.closeIncomplete_keeps u r f
  have hstate : (u.closeIncomplete r f).fld oFlowState r 0 = s.fld oFlowState r 0 := (hkeeps.fld_eq (by decide) r 0).trans (hfld ..)
  obtain ⟨hframe, hclosed, hevent, hcount⟩ := closeIncomplete_leaves (s := u) (r := r) hk
  have hnow : (u.closeIncomplete r f).now = u.now := State.now_congr (hkeeps.clk_eq (by decide))
  rw [hfld] at hcount
  rw [drainAfterClose_of_ne (flowState_ne_two hstate (by rw [hst]; decide)), hnow]
  exact ⟨hframe, hclosed, hevent, hcount, hle, (hkeeps.fld_eq (by decide) _ 0).trans (hfld ..)⟩

/-! ## The fence of a complete frame (R117) -/

theorem fenceAdvance_advances {f : Nat} {fs : List Nat} (h : (s.flow r).advances = f :: fs) : ∃ t, exec (.fenceAdvance r) s = .next t ∧
    t.fence f = (s.fence f + 1) % 2 ^ 32 ∧ (t.flow r).advances = fs ∧ (∀ g, g ≠ f → t.fence g = s.fence g) ∧
    (s.fld oVideo (fwIndex (s.flowRow r)) 10 = 1 → t.raised 64 = true) := by
  refine ans_next (u := execFenceAdvance r s) (fun _ _ h => h) ?_
  unfold execFenceAdvance
  simp -zeta only [h]
  extract_lets x s1
  have hfence : ∀ g, s1.fence g = if g = f then (s.fence f + 1) % 2 ^ 32 else s.fence g := fun g => by
    simp only [s1, State.advanceFence, fence_setFence, setFlow_fence]
  have hflow : s1.flow r = { s.flow r with advances := fs } :=
    (State.flow_congr rfl r).trans (flow_setFlow_self s r { s.flow r with advances := fs })
  have hraise : ∀ g, (s1.raise 64).fence g = s1.fence g := fun g => raise_fld _ _ _ _ (by decide)
  split
  · exact ⟨by rw [hraise, hfence, if_pos rfl], by rw [raise_flow, hflow], fun g hg => by rw [hraise, hfence, if_neg hg],
      fun _ => raised_raise_self _ _ (by decide)⟩
  next hno => exact ⟨by rw [hfence, if_pos rfl], by rw [hflow], fun g hg => by rw [hfence, if_neg hg], fun h => absurd h hno⟩

end

/-- Settles O35: each packet by the state that takes it and the one thing it then does, the end of an arrival window by what closing
incomplete leaves, and a fence by its one change. That a malformed packet of a SEEKING flow counts under MALFORMED, and which packets
PACKETS counts, are the choices of log entry 79. -/
theorem videoCommands : Obligations.VideoCommands :=
  ⟨fun _ _ _ _ _ _ _ _ => videoPacket_opens, fun _ _ _ _ _ _ _ => videoPacket_completes, fun _ _ _ _ => videoPacket_dropped,
    fun _ _ _ _ => arrivalWindowEnd_closes, fun _ _ _ _ => fenceAdvance_advances⟩

end Sys2Proof.Machine
end

section
/-! SUPPORT. sACN universes (R120 to R130): the source that a universe follows, a packet's slots in the back copy, a synchronisation
packet that flips what is staged, and the timeouts. -/

namespace Sys2Proof.Machine

/-! ## Universes through the updates -/

section
variable (s : State) (u : Nat)

@[simp] theorem setUni_fld (x : Universe_) (o i c : Nat) : (s.setUni u x).fld o i c = s.fld o i c := State.fld_congr rfl

@[simp] theorem setUni_vault (x : Universe_) : (s.setUni u x).vault = s.vault := rfl

@[simp] theorem setUni_contexts (x : Universe_) : (s.setUni u x).ingest.contexts = s.ingest.contexts := rfl

@[simp] theorem vaultPut_ingest (a : Nat) (bs : List Byte) : (s.vaultPut a bs).ingest = s.ingest := rfl

@[simp] theorem setFld_uni (o i c v : Nat) : (s.setFld o i c v).uni u = s.uni u := State.uni_congr rfl u

@[simp] theorem raise_uni (e : Nat) : (s.raise e).uni u = s.uni u := by simp [State.uni]

theorem raise_syncAddr (e a : Nat) : (s.raise e).syncAddr a = s.syncAddr a := by simp [State.syncAddr]

theorem setSyncAddr_now (a : Nat) (x : SyncAddr) : (s.setSyncAddr a x).now = s.now := State.now_congr rfl

@[simp] theorem raise_vault (e : Nat) : (s.raise e).vault = s.vault := (State.raise_keeps s e).vault_eq (by decide)

@[simp] theorem vaultPut_uni (a : Nat) (bs : List Byte) : (s.vaultPut a bs).uni u = s.uni u := State.uni_congr rfl u

theorem vaultPut_raised (a : Nat) (bs : List Byte) (e : Nat) : (s.vaultPut a bs).raised e = s.raised e := State.raised_congr rfl

@[simp] theorem vaultPut_fld (a : Nat) (bs : List Byte) (o i c : Nat) : (s.vaultPut a bs).fld o i c = s.fld o i c := State.fld_congr rfl

@[simp] theorem raise_uniFld (e i c : Nat) : (s.raise e).fld oUniStatus i c = s.fld oUniStatus i c := raise_fld _ _ _ _ (by decide)

/-- A field of a universe's status. -/
@[simp] theorem fld_setUniFld (i c j c' v : Nat) :
    (s.setFld oUniStatus i c v).fld oUniStatus j c' = if j = i ∧ c' = c then v else s.fld oUniStatus j c' := by
  rw [fld_setFld]
  simp only [true_and]

end

/-! ## The source that a universe follows (R125, R130) -/

section
variable {s : State} {u : Nat}

/-- The state in which universe u follows source x: its status shows it. -/
def State.following (s : State) (u : Nat) (x : Source) : State :=
  ((s.setFld oUniStatus u 1 0).setFld oUniStatus u 2 x.cid).setFld oUniStatus u 3 x.prio

theorem followOf_single (cur : Nat) (x : Source) : followOf cur [x] = some x := by
  cases h : x.cid == cur <;> simp [followOf, h]

/-- The only live source is followed; a change of the followed source is noted and raises event 68. -/
theorem refollow_single {x : Source} (h : (s.uni u).sources = [x]) : s.refollow u =
    if s.fld oUniStatus u 1 == 1 || s.fld oUniStatus u 2 != x.cid then ((s.following u x).uniChanged u).raise 68
    else s.following u x := by
  simp only [State.refollow, h, followOf_single]
  rfl

/-- With no live source a universe enters LOSS, and goes dark where its row asks for that. -/
theorem refollow_none (h : (s.uni u).sources = []) (hl : s.fld oUniStatus u 1 ≠ 1) : s.refollow u =
    let t := ((((s.uniChanged u).setFld oUniStatus u 1 1).setFld oUniStatus u 2 0).setFld oUniStatus u 3 0).raise 68
    if s.fld oUniverse u 1 = 1 then t.vaultPut (uniCopy u (t.fld oUniStatus u 0)) (slots512 [] 0) else t := by
  have hnone : followOf (s.fld oUniStatus u 2) [] = none := rfl
  simp only [State.refollow, h, hnone, beq_iff_eq, if_neg hl]

/-- From s to t universe u has come to follow its only source x; its copies and the Vault are as they were. -/
structure Followed (u : Nat) (x : Source) (s t : State) : Prop where
  sources : (t.uni u).sources = [x]
  copy : t.fld oUniStatus u 0 = s.fld oUniStatus u 0
  loss : t.fld oUniStatus u 1 = 0
  cid : t.fld oUniStatus u 2 = x.cid
  prio : t.fld oUniStatus u 3 = x.prio
  vault : t.vault = s.vault
  contexts : t.ingest.contexts = s.ingest.contexts

theorem refollow_follows {x : Source} (h : (s.uni u).sources = [x]) : Followed u x s (s.refollow u) := by
  rw [refollow_single h]
  split <;> constructor <;> simp [State.following, State.uniChanged, h]

/-! ## A packet's slots (R126, R127) -/

theorem length_slots512 (bs : List Byte) (n : Nat) : (slots512 bs n).length = 512 := by
  simp only [slots512, List.length_append, List.length_take, List.length_replicate]
  omega

/-- The slots go into the back copy, and the status shows the synchronisation address. -/
theorem applyUni_leaves (p : SacnPacket) :
    ((s.applyUni u p).uni u).sources = (s.uni u).sources ∧
      (∀ c, c ≠ 0 → c ≠ 4 → (s.applyUni u p).fld oUniStatus u c = s.fld oUniStatus u c) ∧
      (s.applyUni u p).fld oUniStatus u 4 = p.syncAddr ∧
      (s.applyUni u p).vault = msets s.vault (uniCopy u (1 - s.fld oUniStatus u 0)) (slots512 p.slots (p.propCount - 1)) ∧
      (s.applyUni u p).ingest.contexts = s.ingest.contexts := by
  unfold State.applyUni
  extract_lets s1 x
  split <;> simp +contextual [s1, x, State.writeBack, State.flipUni, vaultPut_vault, slotCount]

/-- Without a synchronisation address, or where its row takes none, the copies flip at once. -/
theorem applyUni_flips {p : SacnPacket} (h : p.syncAddr = 0 ∨ s.fld oUniverse u 2 = 0) :
    (s.applyUni u p).fld oUniStatus u 0 = 1 - s.fld oUniStatus u 0 ∧ ((s.applyUni u p).uni u).staged = none := by
  unfold State.applyUni
  extract_lets s1 x
  rw [if_pos (h.imp_right .inl)]
  simp [s1, State.writeBack, State.flipUni]

/-- Else the back copy waits for its synchronisation packet. -/
theorem applyUni_stages {p : SacnPacket} (ha : p.syncAddr ≠ 0) (hu : s.fld oUniverse u 2 ≠ 0) (hforce : p.forceSync = false) :
    (s.applyUni u p).fld oUniStatus u 0 = s.fld oUniStatus u 0 ∧ ((s.applyUni u p).uni u).staged = some p.syncAddr := by
  unfold State.applyUni
  extract_lets s1 x
  rw [if_neg (by simp [ha, hu, hforce])]
  simp [s1, State.writeBack]

/-! ## A packet of a universe is taken (R122 to R127) -/

/-- An ENABLED or DRAINING SACN flow in full service, its next packet whole. -/
structure TakesSacn (s : State) (r : Nat) : Prop where
  full : s.full = true
  row : 8 ≤ r
  live : s.flowState r ≠ 0
  sacn : fwType (s.flowRow r) = 2
  queued : s.flowAborted r = false

/-- Where every source is live at this instant, none is lost. -/
theorem pruneSources_live (h : ∀ y ∈ (s.uni u).sources, y.live s.now = true) : s.pruneSources u = s := by
  rw [State.pruneSources]
  exact if_pos (List.all_eq_true.mpr h)

/-- A source as packet p shows it at an instant. -/
def sourceOf (p : SacnPacket) (now : Nat) : Source := { cid := p.cid, prio := p.priority, seq := p.seq, last := now }

/-- The state in which source x is the only one of universe u, and followed. -/
def State.onlySource (s : State) (u : Nat) (x : Source) : State := (s.setUni u { s.uni u with sources := [x] }).refollow u

theorem onlySource_follows (s : State) (u : Nat) (x : Source) : Followed u x s (s.onlySource u x) := by
  have h := refollow_follows (s := s.setUni u { s.uni u with sources := [x] }) (congrArg Universe_.sources (uni_setUni_self ..))
  exact ⟨h.sources, h.copy.trans (setUni_fld ..), h.loss, h.cid, h.prio, h.vault, h.contexts⟩

/-- What a packet that its flow takes does: it is counted as malformed, late or of a fifth source, or it is the first of its source. -/
theorem execSacnData_taken {r : Nat} {p : SacnPacket} (h : TakesSacn s r) (hu : u = fwIndex (s.flowRow r))
    (hlive : ∀ y ∈ (s.uni u).sources, y.live (s.advanceTo p.at_).now = true) :
    (sacnOk p = false → execSacnData r p s = (s.taken r p.at_).flowDrop r 1) ∧
      (∀ y, sacnOk p = true → (s.uni u).sources.find? (fun z => z.cid == p.cid) = some y → sacnLate p.seq y.seq = true →
        execSacnData r p s = (s.taken r p.at_).flowDrop r 4) ∧
      (sacnOk p = true → 4 ≤ (s.uni u).sources.length → (s.uni u).sources.find? (fun z => z.cid == p.cid) = none →
        execSacnData r p s = (s.taken r p.at_).flowDrop r 10) ∧
      (sacnOk p = true → p.terminated = false → (s.uni u).sources = [] → execSacnData r p s =
        ((s.taken r p.at_).onlySource u (sourceOf p (s.advanceTo p.at_).now)).applyUni u p) := by
  obtain ⟨hf, hr, hst, ht, hq⟩ := h
  unfold execSacnData
  extract_lets s1 v u' s2 x mine again first
  have hv : v = s.flowRow r := advanceTo_flowRow s _ hr
  have hst1 : s1.flowState r ≠ 0 := (advanceTo_flowState s _ hr).trans_ne hst
  have hu' : u' = u := by rw [hu, ← hv]
  have hs2 : s2 = s.taken r p.at_ := by
    simp only [s2, hu']
    exact pruneSources_live (s := s.taken r p.at_) (by simpa using hlive)
  have hx : x = s.uni u := by simp only [x, hs2, hu', taken_uni]
  have hmine : mine = sourceOf p (s.advanceTo p.at_).now := by simp only [mine, hs2, taken_now, sourceOf]
  rw [if_neg (by simp [s1, hq]), if_neg (by simp [s1, hf, hst1, hv, ht, Nat.not_lt.mpr hr])]
  refine ⟨fun hok => ?_, fun y hok hy hlate => ?_, fun hok hmany hy => ?_, fun hok hterm hnone => ?_⟩
  · rw [if_pos (by simp [hok]), hs2]
  · rw [if_neg (by simp [hok])]
    simp only [hx, hy, hlate, if_true, hs2]
  · rw [if_neg (by simp [hok])]
    simp only [hx, hy, hmany, if_true, hs2]
  · rw [if_neg (by simp [hok])]
    have hfirst : first = (s.taken r p.at_).onlySource u (sourceOf p (s.advanceTo p.at_).now) := by
      simp only [first, hs2, hu', hx, hmine, hnone, List.nil_append, State.onlySource, taken_uni]
    have hcid : first.fld oUniStatus u' 2 = p.cid := by
      rw [hfirst, hu']
      exact (onlySource_follows ..).cid
    simp only [hx, hnone, List.find?_nil, List.length_nil]
    rw [if_neg (by decide), if_neg (by simp [hterm]), if_pos hcid, hfirst, hu']

/-- A packet that ends in an ABORT cell is as never received (R580). -/
theorem execSacnData_aborted {r : Nat} {p : SacnPacket} (hq : s.flowAborted r = true) : execSacnData r p s = s.arrive r p.at_ := by
  unfold execSacnData State.arrive
  extract_lets s1
  exact if_pos (by simp [s1, hq])

/-! ## Where the slots go (R22, R120, R126) -/

/-- What the updates of a universe leave: all but the Vault with its check storage, ingest, the status of universes and the events. -/
abbrev universeMask : Nat := 0x5000000000000000000000000000000000000000000000000000f00ff007e00000000000000000000000000000000000000000000000000000000000700070003000000000000000000000000000000000000000f00db00010001000f0007000700000000000000000000000000000000000000000000000b0007000300070001000000000000000000000000000000000000000000000000000000000000000001fd6def

theorem firstSource_keeps (s : State) (u : Nat) (x : Source) (p : SacnPacket) :
    Keeps universeMask s ((s.onlySource u x).applyUni u p) :=
  Keeps.step (State.applyUni_keeps ..) (by decide)
    (Keeps.step (State.refollow_keeps ..) (by decide) ((State.setUni_keeps ..).weaken (by decide)))

/-- Writing a flow's context changes no byte of another. -/
theorem mget_writeContext {r b : Nat} (h : b < 64 * r ∨ 64 * r + 64 ≤ b) :
    mget (s.writeContext r).ingest.contexts.bytes b = mget s.ingest.contexts.bytes b :=
  mget_msets_of_outside (by simpa using h)

/-- Of a packet's slots, no byte of the Vault shows but those of the back copy and of the flow's context. -/
theorem firstSource_vaultByte {r pt a : Nat} {x : Source} {p : SacnPacket}
    (hcopy : a < uniCopy u (1 - s.fld oUniStatus u 0) ∨ uniCopy u (1 - s.fld oUniStatus u 0) + 512 ≤ a)
    (hctx : a < vFlowCtx + 64 * r ∨ vFlowCtx + 64 * r + 64 ≤ a) :
    (((s.taken r pt).onlySource u x).applyUni u p).vaultByte a = s.vaultByte a := by
  have hkeeps := firstSource_keeps (s.taken r pt) u x p
  have hfollow := onlySource_follows (s.taken r pt) u x
  obtain ⟨-, -, -, hvault, hcontexts⟩ := applyUni_leaves (s := (s.taken r pt).onlySource u x) (u := u) p
  rw [hfollow.copy, hfollow.vault, taken_vault, taken_fld s pt (by decide)] at hvault
  refine vaultByte_congr ?_ ?_ (fun ha => ?_) ?_
  · rw [hkeeps.net_eq (by decide), taken_cells]
  · rw [hkeeps.weir_eq (by decide), taken_weir]
  · rw [hcontexts, hfollow.contexts, taken_ingest, mget_writeContext (by omega)]
  · rw [hvault, mget_msets_of_outside (by rwa [length_slots512])]

/-! ## Synchronisation (R128, R129) -/

/-- The state in which universe u has flipped, and nothing of it is staged. -/
def State.released (s : State) (u : Nat) : State := (s.flipUni u).setUni u { s.uni u with staged := none }

theorem released_copy (s : State) (u v : Nat) :
    (s.released u).fld oUniStatus v 0 = if v = u then 1 - s.fld oUniStatus u 0 else s.fld oUniStatus v 0 := by
  simp [State.released, State.flipUni]

theorem released_uni (s : State) (u v : Nat) : (s.released u).uni v = if v = u then { s.uni u with staged := none } else s.uni v :=
  tget_tset ..

/-- Each of a list of universes flips once, and no other changes. -/
theorem releaseAll_leaves {us : List Nat} (hus : us.Nodup) (s : State) :
    (∀ u ∈ us, (us.foldl State.released s).fld oUniStatus u 0 = 1 - s.fld oUniStatus u 0 ∧
      ((us.foldl State.released s).uni u).staged = none) ∧
    ∀ u ∉ us, (us.foldl State.released s).fld oUniStatus u 0 = s.fld oUniStatus u 0 ∧
      (us.foldl State.released s).uni u = s.uni u := by
  induction us generalizing s with
  | nil => simp
  | cons v us ih =>
    obtain ⟨hv, hus⟩ := List.nodup_cons.mp hus
    obtain ⟨hin, hout⟩ := ih hus (s.released v)
    constructor
    · rintro u hu
      obtain rfl | hu := List.mem_cons.mp hu
      · obtain ⟨hcopy, huni⟩ := hout u hv
        rw [released_copy, if_pos rfl] at hcopy
        rw [released_uni, if_pos rfl] at huni
        exact ⟨hcopy, congrArg Universe_.staged huni⟩
      · have hne : u ≠ v := fun h => hv (h ▸ hu)
        simpa [released_copy, hne] using hin u hu
    · intro u hu
      obtain ⟨hne, hu⟩ := not_or.mp (mt List.mem_cons.mpr hu)
      simpa [released_copy, released_uni, hne] using hout u hu

theorem tfind_mem {α : Type} {m : Tbl α} {i : Nat} {x : α} (h : tfind m i = some x) : (i, x) ∈ m := by
  induction m with
  | nil => contradiction
  | cons e m ih =>
    by_cases hi : e.1 = i
    · rw [tfind, if_pos hi] at h
      obtain rfl := Option.some.inj h
      exact hi ▸ List.mem_cons_self
    · rw [tfind, if_neg hi] at h
      exact List.mem_cons_of_mem _ (ih h)

theorem tfind_of_mem {α : Type} {m : Tbl α} (hm : (m.map Prod.fst).Nodup) {e : Nat × α} (h : e ∈ m) : tfind m e.1 = some e.2 := by
  induction m with
  | nil => contradiction
  | cons f m ih =>
    obtain ⟨hf, hm⟩ := List.nodup_cons.mp hm
    obtain rfl | h := List.mem_cons.mp h
    · rw [tfind, if_pos rfl]
    · have hne : f.1 ≠ e.1 := fun k => hf (k ▸ List.mem_map_of_mem h)
      rw [tfind, if_neg hne, ih hm h]

/-- The universes staged on a synchronisation address. -/
def State.stagedOn (s : State) (a : Nat) : List Nat := (s.ingest.universes.filter (fun e => e.2.staged == some a)).map (fun e => e.1)

theorem releaseSync_eq (s : State) (a : Nat) : s.releaseSync a = (s.stagedOn a).foldl State.released s := rfl

theorem stagedOn_nodup (h : (s.ingest.universes.map Prod.fst).Nodup) (a : Nat) : (s.stagedOn a).Nodup :=
  h.sublist (List.filter_sublist.map _)

theorem mem_stagedOn (h : (s.ingest.universes.map Prod.fst).Nodup) {a : Nat} : u ∈ s.stagedOn a ↔ (s.uni u).staged = some a := by
  simp only [State.stagedOn, List.mem_map, List.mem_filter, beq_iff_eq]
  constructor
  · rintro ⟨e, ⟨hmem, hstaged⟩, rfl⟩
    rw [State.uni, tget, tfind_of_mem h hmem]
    exact hstaged
  · intro hstaged
    rw [State.uni, tget] at hstaged
    cases hfind : tfind s.ingest.universes u with
    | none => simp [hfind, Universe_.init] at hstaged
    | some x => exact ⟨(u, x), ⟨tfind_mem hfind, by simpa [hfind] using hstaged⟩, rfl⟩

theorem releaseSync_syncAddr (s : State) (a b : Nat) : (s.releaseSync a).syncAddr b = s.syncAddr b := by
  rw [releaseSync_eq]
  exact List.foldlRecOn (motive := fun t : State => t.syncAddr b = s.syncAddr b) _ _ rfl
    fun t ht u _ => (State.syncAddr_congr rfl b).trans ht

theorem syncLost_congr {t : State} {a : Nat} (ha : t.syncAddr a = s.syncAddr a) (hn : t.now = s.now) : t.syncLost a = s.syncLost a := by
  rw [State.syncLost, State.syncLost, ha, hn]

/-- What a synchronisation packet does: a loss of the address that has not been noticed is reported, the address is heard again and what
is staged on it flips, and a return from a loss is reported. -/
theorem execSacnSync_taken {r at_ a : Nat} (h : TakesSacn s r) : ∃ t v : State,
    t = (s.taken r at_).raiseIf (!(s.syncAddr a).lost && (s.advanceTo at_).syncLost a) 69 ∧
      v = (t.setSyncAddr a { last := some t.now, lost := false }).releaseSync a ∧
      execSacnSync r at_ a 8 1 s = v.raiseIf ((s.syncAddr a).lost || (s.advanceTo at_).syncLost a) 69 := by
  obtain ⟨hf, hr, hst, ht, hq⟩ := h
  refine ⟨_, _, rfl, rfl, ?_⟩
  have hlost : (s.taken r at_).syncLost a = (s.advanceTo at_).syncLost a := syncLost_congr (by simp) (by simp)
  unfold execSacnSync
  extract_lets s1 v s2 wasLost s3 s4
  have hv : v = s.flowRow r := advanceTo_flowRow s _ hr
  have hst1 : s1.flowState r ≠ 0 := (advanceTo_flowState s _ hr).trans_ne hst
  have hs2 : s2 = s.taken r at_ := rfl
  have hwas : wasLost = (s.syncAddr a).lost := by simp only [wasLost, hs2, taken_syncAddr]
  rw [if_neg (by simp [s1, hq]), if_neg (by simp [s1, hf, hst1, hv, ht, Nat.not_lt.mpr hr]), if_pos ⟨rfl, rfl⟩]
  simp only [s4, s3, hwas, hs2, hlost]

/-! ## The loss of the only source (R123, R130) -/

/-- A source is not live from the end of its 2.5 s on. -/
theorem Source.not_live {y : Source} {now : Nat} (h : y.last + 2500000000 ≤ now) : y.live now = false := by
  simp only [Source.live, decide_eq_false_iff_not, not_lt]
  exact h

/-- When its only source is lost, a universe has none left. -/
theorem pruneSources_last {y : Source} (h : (s.uni u).sources = [y]) (hy : y.live s.now = false) :
    s.pruneSources u = (s.setUni u { s.uni u with sources := [] }).refollow u := by
  simp [State.pruneSources, h, hy]

/-- From s to t universe u has entered LOSS: it follows no source and, where its row asks for that, its front copy is dark. -/
structure Lost (u : Nat) (s t : State) : Prop where
  sources : (t.uni u).sources = []
  loss : t.fld oUniStatus u 1 = 1
  cid : t.fld oUniStatus u 2 = 0
  prio : t.fld oUniStatus u 3 = 0
  event : t.raised 68 = true
  vault : t.vault = if s.fld oUniverse u 1 = 1 then msets s.vault (uniCopy u (s.fld oUniStatus u 0)) (slots512 [] 0) else s.vault
  contexts : t.ingest.contexts = s.ingest.contexts

theorem refollow_loses (h : (s.uni u).sources = []) (hl : s.fld oUniStatus u 1 ≠ 1) : Lost u s (s.refollow u) := by
  rw [refollow_none h hl]
  extract_lets t
  have hevent : t.raised 68 = true := raised_raise_self _ _ (by decide)
  have hcopy : t.fld oUniStatus u 0 = s.fld oUniStatus u 0 := by simp [t, State.uniChanged]
  split
  next hdark =>
    rw [hcopy]
    exact ⟨by simp [t, State.uniChanged, h], by simp [t], by simp [t], by simp [t],
      (vaultPut_raised ..).trans hevent, by simp [t, hdark, vaultPut_vault, State.uniChanged], by simp [t, State.uniChanged]⟩
  next hdark =>
    exact ⟨by simp [t, State.uniChanged, h], by simp [t], by simp [t], by simp [t], hevent, by simp [t, hdark, State.uniChanged],
      by simp [t, State.uniChanged]⟩

/-- A universe that is in LOSS already stays as it is. -/
theorem refollow_lost (h : (s.uni u).sources = []) (hl : s.fld oUniStatus u 1 = 1) : s.refollow u = s := by
  have hnone : followOf (s.fld oUniStatus u 2) [] = none := rfl
  simp [State.refollow, h, hnone, hl]

/-! ## The clauses, and the obligation -/

theorem sacnData_first {r : Nat} {p : SacnPacket} (hf : s.full = true) (hr : 8 ≤ r) (hst : s.flowState r ≠ 0)
    (ht : fwType (s.flowRow r) = 2) (hu : u = fwIndex (s.flowRow r)) (hq : s.flowAborted r = false) (hok : sacnOk p = true)
    (hterm : p.terminated = false) (hnone : (s.uni u).sources = []) :
    ∃ t, exec (.sacnData r p) s = .next t ∧
      (t.uni u).sources = [{ cid := p.cid, prio := p.priority, seq := p.seq, last := (s.advanceTo p.at_).now }] ∧
      t.fld oUniStatus u 1 = 0 ∧ t.fld oUniStatus u 2 = p.cid ∧ t.fld oUniStatus u 3 = p.priority ∧ t.fld oUniStatus u 4 = p.syncAddr ∧
      t.vaultGet (uniCopy u (1 - s.fld oUniStatus u 0)) 512 = slots512 p.slots (p.propCount - 1) ∧
      (∀ a, (a < uniCopy u (1 - s.fld oUniStatus u 0) ∨ uniCopy u (1 - s.fld oUniStatus u 0) + 512 ≤ a) →
        (a < vFlowCtx + 64 * r ∨ vFlowCtx + 64 * r + 64 ≤ a) → t.vaultByte a = s.vaultByte a) ∧
      ((p.syncAddr = 0 ∨ s.fld oUniverse u 2 = 0) → t.fld oUniStatus u 0 = 1 - s.fld oUniStatus u 0 ∧ (t.uni u).staged = none) ∧
      (p.syncAddr ≠ 0 → s.fld oUniverse u 2 ≠ 0 → p.forceSync = false →
        t.fld oUniStatus u 0 = s.fld oUniStatus u 0 ∧ (t.uni u).staged = some p.syncAddr) := by
  refine ans_next (u := execSacnData r p s) (fun _ _ h => h) ?_
  obtain ⟨-, -, -, hfirst⟩ := execSacnData_taken (p := p) ⟨hf, hr, hst, ht, hq⟩ hu (by simp [hnone])
  rw [hfirst hok hterm hnone]
  have hfollow := onlySource_follows (s.taken r p.at_) u (sourceOf p (s.advanceTo p.at_).now)
  have hcopy := hfollow.copy.trans (taken_fld s _ (by decide) u 0)
  have hsync : ((s.taken r p.at_).onlySource u (sourceOf p (s.advanceTo p.at_).now)).fld oUniverse u 2 = s.fld oUniverse u 2 :=
    ((State.refollow_keeps ..).fld_eq (by decide) u 2).trans (taken_fld s _ (by decide) u 2)
  obtain ⟨hsources, hstatus, haddr, hvault, -⟩ :=
    applyUni_leaves (s := (s.taken r p.at_).onlySource u (sourceOf p (s.advanceTo p.at_).now)) (u := u) p
  rw [hcopy] at hvault
  refine ⟨hsources.trans hfollow.sources, (hstatus 1 (by decide) (by decide)).trans hfollow.loss,
    (hstatus 2 (by decide) (by decide)).trans hfollow.cid, (hstatus 3 (by decide) (by decide)).trans hfollow.prio, haddr, ?_,
    fun a => firstSource_vaultByte, fun hnow => ?_, fun ha hlater hforce => ?_⟩
  · have h512 := mgets_msets_self (s.vault) (uniCopy u (1 - s.fld oUniStatus u 0)) (slots512 p.slots (p.propCount - 1))
    rw [length_slots512] at h512
    rw [State.vaultGet, hvault, hfollow.vault, taken_vault, h512]
  · obtain ⟨hflip, hstaged⟩ := applyUni_flips (hnow.imp_right hsync.trans)
    exact ⟨hflip.trans (congrArg (1 - ·) hcopy), hstaged⟩
  · obtain ⟨hstay, hstaged⟩ := applyUni_stages ha (hsync.trans_ne hlater) hforce
    exact ⟨hstay.trans hcopy, hstaged⟩

/-- A packet that is dropped counts, and leaves the universe and the Vault's bytes as they were. -/
theorem drop_leaves {r pt c : Nat} (hc : c ≠ 0) : ((s.taken r pt).flowDrop r c).fld oFlowCnt r c = (s.fld oFlowCnt r c + 1) % 2 ^ 64 ∧
    ((s.taken r pt).flowDrop r c).uni u = s.uni u ∧ ((s.taken r pt).flowDrop r c).vault = s.vault := by
  refine ⟨?_, by simp, by simp⟩
  rw [flowDrop_count, taken_count, if_neg hc]

theorem sacnData_dropped {r : Nat} {p : SacnPacket} (hf : s.full = true) (hr : 8 ≤ r) (hst : s.flowState r ≠ 0)
    (ht : fwType (s.flowRow r) = 2) (hu : u = fwIndex (s.flowRow r)) :
    (s.flowAborted r = true → ∃ t, exec (.sacnData r p) s = .next t ∧ t.uni u = s.uni u ∧ t.vault = s.vault) ∧
    (s.flowAborted r = false → (∀ y ∈ (s.uni u).sources, y.live (s.advanceTo p.at_).now = true) →
    (sacnOk p = false → ∃ t, exec (.sacnData r p) s = .next t ∧ t.fld oFlowCnt r 1 = (s.fld oFlowCnt r 1 + 1) % 2 ^ 64 ∧
      t.uni u = s.uni u ∧ t.vault = s.vault) ∧
    (∀ y, sacnOk p = true → (s.uni u).sources.find? (fun z => z.cid == p.cid) = some y → sacnLate p.seq y.seq = true →
      ∃ t, exec (.sacnData r p) s = .next t ∧ t.fld oFlowCnt r 4 = (s.fld oFlowCnt r 4 + 1) % 2 ^ 64 ∧ t.uni u = s.uni u ∧
        t.vault = s.vault) ∧
    (sacnOk p = true → 4 ≤ (s.uni u).sources.length → (s.uni u).sources.find? (fun z => z.cid == p.cid) = none →
      ∃ t, exec (.sacnData r p) s = .next t ∧ t.fld oFlowCnt r 10 = (s.fld oFlowCnt r 10 + 1) % 2 ^ 64 ∧ t.uni u = s.uni u ∧
        t.vault = s.vault)) := by
  refine ⟨fun hq => ?_, fun hq hlive => ?_⟩
  · refine ans_next (u := execSacnData r p s) (fun _ _ h => h) ?_
    rw [execSacnData_aborted hq]
    exact ⟨State.uni_congr (by rw [arrive_ingest]) u, (arrive_keeps ..).vault_eq (by decide)⟩
  obtain ⟨hbad, hlate, hfifth, -⟩ := execSacnData_taken (p := p) ⟨hf, hr, hst, ht, hq⟩ hu hlive
  refine ⟨fun hok => ?_, fun y hok hy hl => ?_, fun hok hmany hy => ?_⟩ <;>
    refine ans_next (u := execSacnData r p s) (fun _ _ h => h) ?_
  · rw [hbad hok]
    exact drop_leaves (by decide)
  · rw [hlate y hok hy hl]
    exact drop_leaves (by decide)
  · rw [hfifth hok hmany hy]
    exact drop_leaves (by decide)

theorem sacnSync_releases {r at_ a : Nat} (hf : s.full = true) (hr : 8 ≤ r) (hst : s.flowState r ≠ 0) (ht : fwType (s.flowRow r) = 2)
    (hq : s.flowAborted r = false) (hkeys : (s.ingest.universes.map Prod.fst).Nodup) :
    ∃ t, exec (.sacnSync r at_ a 8 1) s = .next t ∧
      t.syncAddr a = { last := some (s.advanceTo at_).now, lost := false } ∧
      (((s.syncAddr a).lost = true ∨ (s.advanceTo at_).syncLost a = true) → t.raised 69 = true) ∧
      (∀ u, (s.uni u).staged = some a → t.fld oUniStatus u 0 = 1 - s.fld oUniStatus u 0 ∧ (t.uni u).staged = none) ∧
      (∀ u, (s.uni u).staged ≠ some a → t.fld oUniStatus u 0 = s.fld oUniStatus u 0 ∧ t.uni u = s.uni u) ∧ t.vault = s.vault := by
  refine ans_next (u := execSacnSync r at_ a 8 1 s) (fun _ _ h => h) ?_
  obtain ⟨t, v, htv, hv, hexec⟩ := execSacnSync_taken (at_ := at_) (a := a) ⟨hf, hr, hst, ht, hq⟩
  rw [hexec]
  -- t: the packet has been taken, and perhaps a loss reported.
  have hkt := State.raiseIf_keeps (s.taken r at_) (!(s.syncAddr a).lost && (s.advanceTo at_).syncLost a) 69
  rw [← htv] at hkt
  have hingest : t.ingest = (s.writeContext r).ingest := (hkt.ingest_eq (by decide)).trans (taken_ingest ..)
  have hnow : t.now = (s.advanceTo at_).now := (State.now_congr (hkt.clk_eq (by decide))).trans (taken_now ..)
  have hcopy : ∀ u, t.fld oUniStatus u 0 = s.fld oUniStatus u 0 := fun u =>
    (hkt.fld_eq (by decide) u 0).trans (taken_fld s _ (by decide) u 0)
  -- w: the address has been heard; what is staged on it is what was.
  generalize hw : t.setSyncAddr a { last := some t.now, lost := false } = w at hv
  have huniverses : w.ingest.universes = s.ingest.universes := by
    rw [← hw, State.setSyncAddr, hingest]
    rfl
  have huni : ∀ u, w.uni u = s.uni u := State.uni_congr huniverses
  have hkeys' : (w.ingest.universes.map Prod.fst).Nodup := by rwa [huniverses]
  have hcopy' : ∀ u, w.fld oUniStatus u 0 = s.fld oUniStatus u 0 := fun u => by
    rw [← hw]
    exact (State.fld_congr rfl).trans (hcopy u)
  obtain ⟨hin, hout⟩ := releaseAll_leaves (stagedOn_nodup hkeys' a) w
  rw [← releaseSync_eq, ← hv] at hin hout
  -- The last report leaves all of it.
  have hkv := State.raiseIf_keeps v ((s.syncAddr a).lost || (s.advanceTo at_).syncLost a) 69
  have hlast : ∀ u, (v.raiseIf ((s.syncAddr a).lost || (s.advanceTo at_).syncLost a) 69).uni u = v.uni u :=
    State.uni_congr (by rw [hkv.ingest_eq (by decide)])
  refine ⟨?_, fun hlost => ?_, fun u hu => ?_, fun u hu => ?_, ?_⟩
  · rw [State.syncAddr_congr (congrArg Ingest.syncs (hkv.ingest_eq (by decide))), hv, releaseSync_syncAddr, ← hw,
      syncAddr_setSyncAddr_self, hnow]
  · rw [State.raiseIf, if_pos (by simpa using hlost)]
    exact raised_raise_self _ _ (by decide)
  · obtain ⟨hflip, hstaged⟩ := hin u ((mem_stagedOn hkeys').mpr (by rwa [huni]))
    rw [hkv.fld_eq (by decide), hlast, hflip, hcopy']
    exact ⟨rfl, hstaged⟩
  · obtain ⟨hstay, hsame⟩ := hout u (mt (mem_stagedOn hkeys').mp (by rwa [huni]))
    rw [hkv.fld_eq (by decide), hlast, hstay, hcopy', hsame]
    exact ⟨rfl, huni u⟩
  · rw [hkv.vault_eq (by decide), hv, (State.releaseSync_keeps ..).vault_eq (by decide), ← hw]
    exact (hkt.vault_eq (by decide)).trans (taken_vault ..)

/-- The copies of a universe without slots are dark. -/
theorem slots512_nil : slots512 [] 0 = List.replicate 512 0#8 := by
  simp only [slots512, List.take_nil, List.length_nil, Nat.sub_zero, List.nil_append]

/-- A universe that has entered LOSS shows it, and no byte of the Vault has changed but in its front copy. -/
theorem Lost.shows {t : State} (h : Lost u s t) (hcells : t.net.cells = s.net.cells) (hsaved : t.weir.saved = s.weir.saved) :
    (s.fld oUniverse u 1 = 1 → t.vaultGet (uniCopy u (s.fld oUniStatus u 0)) 512 = List.replicate 512 0#8) ∧
      ∀ a, a < uniCopy u (s.fld oUniStatus u 0) ∨ uniCopy u (s.fld oUniStatus u 0) + 512 ≤ a → t.vaultByte a = s.vaultByte a := by
  constructor
  · intro hdark
    have h512 := mgets_msets_self s.vault (uniCopy u (s.fld oUniStatus u 0)) (slots512 [] 0)
    rw [length_slots512, slots512_nil] at h512
    rw [State.vaultGet, h.vault, if_pos hdark, slots512_nil, h512]
  · intro a ha
    refine vaultByte_congr hcells hsaved (fun _ => by rw [h.contexts]) ?_
    rw [h.vault]
    split
    · exact mget_msets_of_outside (by rwa [length_slots512])
    · rfl

/-- The end of a source's 2.5 s. -/
theorem execSourceTimeout_single {y : Source} (h : (s.uni u).sources = [y]) :
    execSourceTimeout u y.cid s = (s.advanceTo (y.last + 2500000000)).pruneSources u := by
  unfold execSourceTimeout
  generalize 2500000000 = life
  simp [h]

/-- Losing its only source, a universe enters LOSS unless it is in it already. -/
theorem pruneSources_loses {y : Source} (h : (s.uni u).sources = [y]) (hy : y.live s.now = false) :
    ((s.pruneSources u).uni u).sources = [] ∧ (s.pruneSources u).now = s.now ∧
      (s.fld oUniStatus u 1 ≠ 1 → Lost u s (s.pruneSources u)) := by
  rw [pruneSources_last h hy]
  have hnone : ((s.setUni u { s.uni u with sources := [] }).uni u).sources = [] := congrArg Universe_.sources (uni_setUni_self ..)
  refine ⟨?_, State.now_congr ((State.refollow_keeps ..).clk_eq (by decide)), fun hl => ?_⟩
  · by_cases hl : s.fld oUniStatus u 1 = 1
    · rw [refollow_lost hnone (by rw [setUni_fld, hl]), hnone]
    · exact (refollow_loses hnone (by rwa [setUni_fld])).sources
  · have hlost := refollow_loses hnone (by rwa [setUni_fld])
    exact ⟨hlost.sources, hlost.loss, hlost.cid, hlost.prio, hlost.event, by simpa using hlost.vault, hlost.contexts⟩

/-- What passing time leaves of a universe and of the Vault. -/
theorem Lost.of_advanceTo {t : State} {pt : Nat} (h : Lost u (s.advanceTo pt) t) : Lost u s t :=
  ⟨h.sources, h.loss, h.cid, h.prio, h.event,
    by rw [h.vault, advanceTo_fld, advanceTo_fld, (State.advanceTo_keeps s pt).vault_eq (by decide)],
    h.contexts.trans (congrArg Ingest.contexts (advanceTo_ingest s pt))⟩

theorem sourceTimeout_loses {y : Source} (h : (s.uni u).sources = [y]) : ∃ t, exec (.sourceTimeout u y.cid) s = .next t ∧
    (t.uni u).sources = [] ∧ y.last + 2500000000 ≤ t.now ∧
    (s.fld oUniStatus u 1 ≠ 1 → t.fld oUniStatus u 1 = 1 ∧ t.fld oUniStatus u 2 = 0 ∧ t.fld oUniStatus u 3 = 0 ∧ t.raised 68 = true ∧
      (s.fld oUniverse u 1 = 1 → t.vaultGet (uniCopy u (s.fld oUniStatus u 0)) 512 = List.replicate 512 0#8) ∧
      (∀ a, a < uniCopy u (s.fld oUniStatus u 0) ∨ uniCopy u (s.fld oUniStatus u 0) + 512 ≤ a → t.vaultByte a = s.vaultByte a)) := by
  refine ans_next (u := execSourceTimeout u y.cid s) (fun _ _ h => h) ?_
  rw [execSourceTimeout_single h]
  have hle := le_now_advanceTo s (y.last + 2500000000)
  obtain ⟨hsources, hnow, hlost⟩ := pruneSources_loses (s := s.advanceTo (y.last + 2500000000)) (by rw [advanceTo_uni, h])
    (Source.not_live hle)
  refine ⟨hsources, hle.trans_eq hnow.symm, fun hl => ?_⟩
  have hloss := (hlost (by rwa [advanceTo_fld])).of_advanceTo
  have hkt := State.advanceTo_keeps s (y.last + 2500000000)
  generalize s.advanceTo (y.last + 2500000000) = v at hloss hkt ⊢
  have hkp := State.pruneSources_keeps v u
  obtain ⟨hdark, hrest⟩ := hloss.shows (by rw [hkp.net_eq (by decide), hkt.net_eq (by decide)])
    (by rw [hkp.weir_eq (by decide), hkt.weir_eq (by decide)])
  exact ⟨hloss.loss, hloss.cid, hloss.prio, hloss.event, hdark, hrest⟩

theorem syncTimeout_loses {a l : Nat} (hl : (s.syncAddr a).last = some l) (h : (s.syncAddr a).lost = false) :
    ∃ t, exec (.syncTimeout a) s = .next t ∧ t.syncAddr a = { last := some l, lost := true } ∧ t.raised 69 = true ∧
      l + 2500000000 ≤ t.now := by
  refine ans_next (u := execSyncTimeout a s) (fun _ _ h => h) ?_
  have hexec : execSyncTimeout a s =
      ((s.advanceTo (l + 2500000000)).setSyncAddr a { last := some l, lost := true }).raise 69 := by
    unfold execSyncTimeout
    generalize 2500000000 = life
    simp [hl, h]
  have hle := le_now_advanceTo s (l + 2500000000)
  rw [hexec]
  generalize s.advanceTo (l + 2500000000) = v at hle
  refine ⟨?_, raised_raise_self _ _ (by decide), ?_⟩
  · rw [raise_syncAddr, syncAddr_setSyncAddr_self]
  · rw [raise_now, setSyncAddr_now]
    exact hle

end

/-- Settles O36: a packet by the state that takes it, its universe by what following an only source and losing it leave, and a
synchronisation packet by induction over the universes staged on its address. That a DRAINING flow obeys one, CID and priority 0 in LOSS
and the synchronisation address that a universe's status shows are the choices of log entry 79. -/
theorem sacnCommands : Obligations.SacnCommands :=
  ⟨fun _ _ _ _ => sacnData_first, fun _ _ _ _ => sacnData_dropped, fun _ _ _ _ => sacnSync_releases,
    fun _ _ _ => sourceTimeout_loses, fun _ _ _ => syncTimeout_loses⟩

end Sys2Proof.Machine
end

section
/-! SUPPORT. The heads (R137 to R212): what a reader of a head depends on, and what the updates of the heads' chapters leave of it. -/

namespace Sys2Proof.Machine

variable {s t : State} {m h : Nat}

/-! ## What a reader depends on -/

theorem State.head_congr (hd : t.disp.heads = s.disp.heads) (h : Nat) : t.head h = s.head h := congrArg (tget Head.init · h) hd

theorem Keeps.head_eq (k : Keeps m s t) (hm : m.testBit 18 = true) (h : Nat) : t.head h = s.head h :=
  State.head_congr (congrArg Heads.heads (k.disp_eq hm)) h

/-- Another object's row is left alone by a write of one field. -/
theorem row_setFld_of_ne (s : State) {o o' : Nat} (r c r' v : Nat) (ho : o' ≠ o) : (s.setFld o r c v).row o' r' = s.row o' r' :=
  row_setRow_of_ne s _ fun k => ho k.1

/-- A write of a row changes no field of another object. -/
theorem fld_setRow_of_ne (s : State) {o o' : Nat} (r r' c' : Nat) (v : Row) (ho : o' ≠ o) : (s.setRow o r v).fld o' r' c' = s.fld o' r' c' :=
  congrArg (·.getD c' 0) (row_setRow_of_ne s v fun k => ho k.1)

theorem fld_setFld_self (s : State) (o r c v : Nat) : (s.setFld o r c v).fld o r c = v := by simp [fld_setFld]

theorem fld_setFld_of_ne (s : State) {o o' : Nat} (r c r' c' v : Nat) (ho : o' ≠ o) : (s.setFld o r c v).fld o' r' c' = s.fld o' r' c' :=
  fld_setRow_of_ne s r r' c' _ ho

/-! ## What the updates leave -/

section
variable (s) (h)

@[simp] theorem head_setHead_self (x : Head) : (s.setHead h x).head h = x := tget_tset_self ..

@[simp] theorem setHead_row (x : Head) (o i : Nat) : (s.setHead h x).row o i = s.row o i := State.row_congr rfl o i

@[simp] theorem setHead_fld (x : Head) (o i c : Nat) : (s.setHead h x).fld o i c = s.fld o i c := State.fld_congr rfl

@[simp] theorem setHead_raised (x : Head) (e : Nat) : (s.setHead h x).raised e = s.raised e := State.raised_congr rfl

@[simp] theorem setFld_head (o i c v : Nat) : (s.setFld o i c v).head h = s.head h := State.head_congr rfl h

@[simp] theorem setRow_head (o i : Nat) (v : Row) : (s.setRow o i v).head h = s.head h := State.head_congr rfl h

@[simp] theorem fire_head (i off : Nat) : (s.fire i off).head h = s.head h := (State.fire_keeps ..).head_eq (by decide) h

/-- An event of a head writes no object but the events' counts. -/
theorem fire_row {o : Nat} (off r : Nat) (ho : o ≠ 0x400000) : (s.fire h off).row o r = s.row o r := raise_row _ _ _ ho

theorem fire_fld {o : Nat} (off r c : Nat) (ho : o ≠ 0x400000) : (s.fire h off).fld o r c = s.fld o r c := raise_fld _ _ _ _ ho

theorem fire_raised_self {off : Nat} (hh : h < 2) (hoff : off < 16) : (s.fire h off).raised (32 + 16 * h + off) = true :=
  raised_raise_self _ _ (by omega)

theorem fire_raised {off e : Nat} (he : s.raised e = true) : (s.fire h off).raised e = true := raised_raise _ _ _ he

@[simp] theorem headCount_head (i c : Nat) : (s.headCount i c).head h = s.head h := State.head_congr rfl h

theorem headCount_row {o : Nat} (c r : Nat) (ho : o ≠ oHeadCnt) : (s.headCount h c).row o r = s.row o r := row_setFld_of_ne s _ _ _ _ ho

theorem headCount_fld {o : Nat} (c r k : Nat) (ho : o ≠ oHeadCnt) : (s.headCount h c).fld o r k = s.fld o r k :=
  fld_setFld_of_ne s _ _ _ _ _ ho

/-- What is counted and raised on a condition leaves the heads alone. -/
@[simp] theorem countFire_head (p : Prop) [Decidable p] (c off : Nat) :
    (if p then (s.headCount h c).fire h off else s).head h = s.head h := by
  split
  · rw [fire_head, headCount_head]
  · rfl

theorem countFire_fld {o : Nat} (p : Prop) [Decidable p] (c off r k : Nat) (ho : o ≠ 0x400000) (hc : o ≠ oHeadCnt) :
    (if p then (s.headCount h c).fire h off else s).fld o r k = s.fld o r k := by
  split
  · rw [fire_fld _ _ _ _ _ ho, headCount_fld _ _ _ _ _ hc]
  · rfl

theorem headCount_fld_self (c : Nat) : (s.headCount h c).fld oHeadCnt h c = (s.fld oHeadCnt h c + 1) % 2 ^ 64 := fld_setFld_self ..

theorem advanceTb_od (at_ : Rat) : (s.advanceTb at_).od = s.od := by
  unfold State.advanceTb
  extract_lets target units sl d tb
  split <;> rfl

@[simp] theorem advanceTb_row (at_ : Rat) (o i : Nat) : (s.advanceTb at_).row o i = s.row o i := State.row_congr (advanceTb_od s at_) o i

@[simp] theorem advanceTb_fld (at_ : Rat) (o i c : Nat) : (s.advanceTb at_).fld o i c = s.fld o i c := State.fld_congr (advanceTb_od s at_)

@[simp] theorem advanceTb_head (at_ : Rat) : (s.advanceTb at_).head h = s.head h := (State.advanceTb_keeps s at_).head_eq (by decide) h

end

theorem Settled.head {w : WRes} (k : Settled w t) (h : Nat) : t.head h = w.st.head h := k.keeps.head_eq (by decide) h

end Sys2Proof.Machine
end

section
/-! SUPPORT. A frame offered to a transmit queue (R592, R604 to R607): stored whole behind those that wait, or dropped at a port that is not
ENABLED. -/

namespace Sys2Proof.Machine

section
variable (s : State) (q : Nat)

theorem State.queue_congr {s t : State} (h : t.net.queues = s.net.queues) (q : Nat) : t.queue q = s.queue q := congrArg (tget [] · q) h

theorem pauseGen_queues (p : Nat) : (s.pauseGen p).net.queues = s.net.queues := by
  unfold State.pauseGen
  extract_lets free x on q
  split
  · rw [State.portEvent, raise_net]
    rfl
  split
  · rw [State.portEvent, raise_net]
    rfl
  · rfl

theorem setQueue_queue_self (ps : List Packet) : (s.setQueue q ps).queue q = ps := by
  unfold State.setQueue State.pauseGenAll
  extract_lets wasLow net s1 s2 s3
  have h3 : s3.net.queues = tset [] s.net.queues q ps := by
    simp only [s3]
    split
    · rw [raiseMs_net]
      rfl
    · rfl
  have hall : ([0, 1, 2, 3].foldl State.pauseGen s3).net.queues = s3.net.queues :=
    List.foldlRecOn (motive := fun u : State => u.net.queues = s3.net.queues) _ _ rfl fun u hu p _ => (pauseGen_queues u p).trans hu
  exact (congrArg (tget [] · q) (hall.trans h3)).trans (tget_tset_self ..)

theorem fillCells_queues (p : Packet) : (s.fillCells p).net.queues = s.net.queues := rfl

theorem cellsTaken_queues (n : Nat) : (s.cellsTaken n).net.queues = s.net.queues := rfl

theorem append_queue_self (p : Packet) : (s.append q p).queue q = s.queue q ++ [s.placed p] :=
  (State.queue_congr ((cellsTaken_queues ..).trans (fillCells_queues ..)) q).trans (setQueue_queue_self ..)

/-- A packet whose cells are all granted stands at the tail of its queue. -/
theorem enqueue_stores {p : Packet} (hg : s.grant q p.cells = p.cells) (ha : p.aborted = false) :
    (s.enqueue q p).2.queue q = s.queue q ++ [s.placed p] := by
  have h : s.enqueue q p = (.stored, (s.append q p).bump oPoolCnt q 0) := by simp [State.enqueue, hg, ha]
  rw [h, State.bump, State.add]
  exact (State.queue_congr (congrArg Net.queues (setFld_net ..)) q).trans (append_queue_self ..)

variable {s}
variable {p k : Nat} {f : TxFrame}

/-- A port that is not ENABLED drops the frame and counts it. -/
theorem offer_drops (hp : s.portState p ≠ 1) : s.offer p k f = s.portErr p 19 := if_pos hp

/-- An ENABLED port whose link is up stores a frame that is granted its cells. -/
theorem offer_stores (hp : s.portState p = 1) (hl : p < 2 → s.linkUp p = true)
    (hg : s.grant (8 * p + k) (cdiv f.stored 256) = cdiv f.stored 256) :
    (s.offer p k f).queue (8 * p + k) = s.queue (8 * p + k) ++ [s.placed (s.txPacket p f)] := by
  have hup : ¬(p < 2 ∧ (!s.linkUp p) = true) := fun ⟨h2, hn⟩ => by simp [hl h2] at hn
  rw [State.offer, if_neg (not_not.mpr hp), if_neg hup]
  exact enqueue_stores s _ hg rfl

end

/-! ## The length of an egress packet (R202) -/

theorem length_beBytes (n x : Nat) : (beBytes n x).length = n := (List.length_reverse ..).trans (length_leBytes ..)

theorem length_pack10 (xs : List Nat) : (pack10 xs).length = xs.length * 10 / 8 := length_beBytes ..

/-- Octets of a pixel group of egress: those of four samples of ten bits, of three of eight, and of twelve of ten. -/
def egressOctets (sampling : Nat) : Nat := match sampling with
  | 0 => 5
  | 1 => 3
  | _ => 15

theorem length_egressGroup (s : State) (h : Nat) (v : Row) (pad i j : Nat) :
    (s.egressGroup h v pad i j).length = egressOctets (egSampling v) := by
  unfold State.egressGroup egressOctets
  extract_lets at_
  generalize egSampling v = m
  match m with
  | 0 => exact (length_pack10 _).trans (by simp)
  | 1 => rfl
  | _ + 2 =>
    have h3 : ∀ k, (if egW v ≤ i + k then List.replicate 3 (pad % 1024)
        else [egCode v 10 0 (at_ k).1, egCode v 10 1 (at_ k).2.1, egCode v 10 2 (at_ k).2.2]).length = 3 := by
      intro k
      split <;> rfl
    refine (length_pack10 _).trans ?_
    rw [List.length_flatMap]
    simp only [h3]
    rfl

/-- The groups of a packet fill at most 1200 octets. -/
theorem egressOctets_le (sampling w : Nat) :
    cdiv (min (egPixels sampling) w) (groupPixels sampling) * egressOctets sampling ≤ 1200 := by
  unfold egPixels groupPixels egressOctets cdiv
  match sampling with
  | 0 => show (min 480 w + 2 - 1) / 2 * 5 ≤ 1200; omega
  | 1 => show (min 400 w + 1 - 1) / 1 * 3 ≤ 1200; omega
  | _ + 2 => show (min 320 w + 4 - 1) / 4 * 15 ≤ 1200; omega

/-- An egress packet fits six cells. -/
theorem egressFrame_cells (s : State) (h : Nat) (v : Row) (pad line offset : Nat) :
    cdiv (s.egressFrame h v pad line offset).stored 256 ≤ 6 := by
  have hdata := egressOctets_le (egSampling v) (egW v - offset)
  have hbytes : (s.egressFrame h v pad line offset).bytes.length ≤ 1220 := by
    simp only [State.egressFrame, List.length_append, length_beBytes, List.length_flatMap, length_egressGroup, List.map_const',
      List.sum_replicate, List.length_range, smul_eq_mul]
    omega
  have hhead : (s.egressFrame h v pad line offset).headLen ≤ 46 := by
    unfold TxFrame.headLen
    split
    · omega
    · split <;> split <;> omega
  unfold cdiv TxFrame.stored
  omega

end Sys2Proof.Machine
end

section
/-! SUPPORT. Egress and writeback (R95, R105, R201 to R211): enabled and turned off, a packet that leaves or is dropped, and a frame that
becomes readable. -/

namespace Sys2Proof.Machine

variable {s t : State} {h : Nat}

/-! ## The sinks through the updates -/

section
variable (s) (h)

@[simp] theorem head_setEgress (e : Egress) : (s.setEgress h e).head h = { s.head h with egress := e } := head_setHead_self ..

@[simp] theorem setEgress_row (e : Egress) (o i : Nat) : (s.setEgress h e).row o i = s.row o i := setHead_row ..

@[simp] theorem setEgress_fld (e : Egress) (o i c : Nat) : (s.setEgress h e).fld o i c = s.fld o i c := setHead_fld ..

@[simp] theorem head_setWback (w : Writeback) : (s.setWback h w).head h = { s.head h with wback := w } := head_setHead_self ..

@[simp] theorem setWback_row (w : Writeback) (o i : Nat) : (s.setWback h w).row o i = s.row o i := setHead_row ..

@[simp] theorem setWback_fld (w : Writeback) (o i c : Nat) : (s.setWback h w).fld o i c = s.fld o i c := setHead_fld ..

end

/-- Of head h nothing has changed but its writeback. -/
def OnlyWback (s t : State) (h : Nat) : Prop := ∃ w, t.head h = { s.head h with wback := w }

theorem OnlyWback.refl (s : State) (h : Nat) : OnlyWback s s h := ⟨_, rfl⟩

theorem OnlyWback.trans {u : State} (a : OnlyWback s t h) (b : OnlyWback t u h) : OnlyWback s u h := by
  obtain ⟨v, hv⟩ := a
  obtain ⟨w, hw⟩ := b
  exact ⟨w, by rw [hw, hv]⟩

theorem OnlyWback.of_head (e : t.head h = s.head h) : OnlyWback s t h := ⟨_, e⟩

theorem OnlyWback.setWback (s : State) (h : Nat) (w : Writeback) : OnlyWback s (s.setWback h w) h := ⟨w, head_setWback ..⟩

/-! ## Turned on and off (R95, R208, R211) -/

/-- Writeback turned on changes no object but its state and the producer of its fence. -/
theorem wbackOn_row (s : State) (h : Nat) {o : Nat} (r : Nat) (hs : o ≠ oWbackState) (hp : o ≠ oProducer) :
    (s.wbackOn h).2.row o r = s.row o r := by
  unfold State.wbackOn
  extract_lets fence
  split
  · show State.row (State.setFld _ _ _ _ _) o r = _
    rw [row_setFld_of_ne _ _ _ _ _ hp, row_setFld_of_ne _ _ _ _ _ hs, setWback_row]
  · rfl

theorem wbackOff_row (s : State) (h : Nat) {o : Nat} (r : Nat) (hs : o ≠ oWbackState) (hp : o ≠ oProducer) :
    (s.wbackOff h).row o r = s.row o r := by
  unfold State.wbackOff
  extract_lets w fence s1
  have h1 : s1.row o r = s.row o r := by rw [row_setFld_of_ne _ _ _ _ _ hp, row_setFld_of_ne _ _ _ _ _ hs, setWback_row]
  split
  · rw [wbackOn_row _ _ _ hs hp, h1]
  · exact h1

theorem wbackOn_head (s : State) (h : Nat) :
    (s.wbackOn h).2.head h = s.head h ∨ (s.wbackOn h).2.head h = { s.head h with wback := Writeback.init } := by
  unfold State.wbackOn
  extract_lets fence
  split
  · exact .inr ((setFld_head ..).trans ((setFld_head ..).trans (head_setWback ..)))
  · exact .inl rfl

/-- Writeback turned off holds no frame, and nothing else of the head has changed. -/
theorem wbackOff_head (s : State) (h : Nat) : (s.wbackOff h).head h = { s.head h with wback := Writeback.init } := by
  unfold State.wbackOff
  extract_lets w fence s1
  have h1 : s1.head h = { s.head h with wback := Writeback.init } := by simp [s1]
  split
  · obtain e | e := wbackOn_head s1 h
    · rw [e, h1]
    · rw [e, h1]
  · exact h1

theorem OnlyWback.wbackOff (s : State) (h : Nat) : OnlyWback s (s.wbackOff h) h := ⟨_, wbackOff_head s h⟩

@[simp] theorem wbackOff_raised (s : State) (h e : Nat) : (s.wbackOff h).raised e = s.raised e :=
  State.raised_congr ((State.wbackOff_keeps s h).evt_eq (by decide))

/-- A drain that ends, or goes on. -/
theorem wbackOff_ite (p : Prop) [Decidable p] (s : State) (h : Nat) : OnlyWback s (if p then s.wbackOff h else s) h := by
  split
  · exact .wbackOff s h
  · exact .refl s h

theorem wbackOff_ite_row (p : Prop) [Decidable p] (s : State) (h : Nat) {o : Nat} (r : Nat) (hs : o ≠ oWbackState) (hp : o ≠ oProducer) :
    (if p then s.wbackOff h else s).row o r = s.row o r := by
  split
  · exact wbackOff_row s h r hs hp
  · rfl

/-! ## A written frame becomes readable (R105, R209) -/

theorem OnlyWback.wbackComplete (s : State) (h : Nat) : OnlyWback s (s.wbackComplete h) h := by
  unfold State.wbackComplete
  split
  · exact .refl s h
  · rename_i k first hb
    extract_lets r fence s1 s2 s3
    exact ((OnlyWback.of_head (t := s2) (State.head_congr rfl h)).trans (.setWback s2 h _)).trans (.of_head (headCount_head ..))

theorem wbackComplete_holds_none {k first : Nat} (hb : (s.head h).wback.busy = some (k, first)) :
    ((s.wbackComplete h).head h).wback.busy = none := by
  simp [State.wbackComplete, hb]

section
variable {k first : Nat} (hb : (s.head h).wback.busy = some (k, first))
include hb

theorem wbackComplete_fence :
    (s.wbackComplete h).fence (s.ringFence (s.fld oWback h 0)) = (s.fence (s.ringFence (s.fld oWback h 0)) + 1) % 2 ^ 32 := by
  unfold State.wbackComplete
  rw [hb]
  dsimp only
  rw [State.fence, headCount_fld _ _ _ _ _ (by decide), setWback_fld, fld_setRow_of_ne _ _ _ _ _ (by decide)]
  exact (fence_setFence ..).trans (if_pos rfl)

theorem wbackComplete_history :
    (s.wbackComplete h).row oHistory (4 * s.fld oWback h 0 + k) =
      [1, (s.fence (s.ringFence (s.fld oWback h 0)) + 1) % 2 ^ 32, 0, nsPt first, s.nowPt] := by
  unfold State.wbackComplete
  rw [hb]
  dsimp only
  rw [headCount_row _ _ _ _ (by decide), setWback_row, row_setRow_self, State.advanceFence, fence_setFence, if_pos rfl]
  rfl

theorem wbackComplete_counts : (s.wbackComplete h).fld oHeadCnt h 10 = (s.fld oHeadCnt h 10 + 1) % 2 ^ 64 := by
  unfold State.wbackComplete
  rw [hb]
  dsimp only
  rw [headCount_fld_self, setWback_fld, fld_setRow_of_ne _ _ _ _ _ (by decide)]
  exact congrArg (fun n => (n + 1) % 2 ^ 64) (fld_setFld_of_ne _ _ _ _ _ _ (by decide))

theorem writebackDone_completes {r e : Nat} (hh : h < 2) (hs : (s.head h).stopped = false) (hw : (s.head h).wback.written = true)
    (hr : r = s.fld oWback h 0) (he : e = s.ringFence r) : ∃ t, exec (.writebackDone h) s = .next t ∧
      t.fence e = (s.fence e + 1) % 2 ^ 32 ∧ t.row oHistory (4 * r + k) = [1, (s.fence e + 1) % 2 ^ 32, 0, nsPt first, s.nowPt] ∧
      (t.head h).wback.busy = none ∧ t.raised (32 + 16 * h + 12) = true ∧
      t.fld oHeadCnt h 10 = (s.fld oHeadCnt h 10 + 1) % 2 ^ 64 := by
  subst he hr
  refine ans_next (u := execWritebackDone h s) (fun _ _ h => h) ?_
  unfold execWritebackDone
  extract_lets x s1
  rw [if_neg (by simp [x, hs, hb, hw, hh])]
  have hrow : ∀ o i, o ≠ 0x400000 → o ≠ oWbackState → o ≠ oProducer →
      (if s1.fld oWbackState h 0 = 2 then s1.wbackOff h else s1).row o i = (s.wbackComplete h).row o i := fun o i h0 hst hp =>
    (wbackOff_ite_row _ _ _ _ hst hp).trans (fire_row _ _ _ _ h0)
  refine ⟨?_, ?_, ?_, ?_, ?_⟩
  · exact (congrArg (·.getD 0 0) (hrow oFence _ (by decide) (by decide) (by decide))).trans (wbackComplete_fence hb)
  · exact (hrow _ _ (by decide) (by decide) (by decide)).trans (wbackComplete_history hb)
  · split
    · rw [wbackOff_head]
      rfl
    · rw [fire_head, wbackComplete_holds_none hb]
  · have hevent : s1.raised (32 + 16 * h + 12) = true := fire_raised_self _ _ hh (by decide)
    split
    · rw [wbackOff_raised, hevent]
    · exact hevent
  · exact (congrArg (·.getD 10 0) (hrow oHeadCnt h (by decide) (by decide) (by decide))).trans (wbackComplete_counts hb)

end

end Sys2Proof.Machine
end

section
/-! SUPPORT. The clauses of egress and writeback (R95, R201 to R211): the chapters' answers to an enable, and a packet sent or dropped. -/

namespace Sys2Proof.Machine

variable {s t : State} {h : Nat}

/-! ## Egress enabled (R204, R206) -/

theorem writeEgressEnable_enables (h0 : s.fld oEgressState h 0 = 0) (hf : s.egressFits h = true) :
    writeEgressEnable h 1 s = done (((s.setEgress h Egress.init).setFld oEgressState h 0 1).setFld oEgressEnable h 0 1) := by
  simp [writeEgressEnable, State.egressOn, h0, hf]

theorem writeEgressEnable_refused (h0 : s.fld oEgressState h 0 = 0) (hf : s.egressFits h = false) :
    writeEgressEnable h 1 s = refuse s stResource := by
  simp [writeEgressEnable, State.egressOn, h0, hf, stResource, stOk]

theorem writeEgressEnable_drains (h1 : s.fld oEgressState h 0 = 1) (hs : (s.head h).egress.sending = true) :
    writeEgressEnable h 0 s = done ((s.setFld oEgressState h 0 2).setFld oEgressEnable h 0 0) := by
  simp [writeEgressEnable, h1, hs]

theorem writeEgressEnable_disables (h1 : s.fld oEgressState h 0 = 1) (hs : (s.head h).egress.sending = false)
    (hl : (s.head h).egress.latched = false) :
    writeEgressEnable h 0 s = done (((s.setEgress h Egress.init).setFld oEgressState h 0 0).setFld oEgressEnable h 0 0) := by
  simp [writeEgressEnable, State.egressOff, h1, hs, hl]

theorem egressEnable_settles {v : Nat} {o : Origin} {x : Row} (hp : Passes s o 0x222100 h (fun d => numRow d v) x) :
    ∃ t, exec (.egressEnable h v o) s = .next t ∧
      (s.fld oEgressState h 0 = 0 → v = 1 → s.egressFits h = true → Answers t stOk 0 ∧ t.fld oEgressState h 0 = 1 ∧
        (t.head h).egress = Egress.init) ∧
      (s.fld oEgressState h 0 = 0 → v = 1 → s.egressFits h = false → Answers t stResource 0 ∧ t.fld oEgressState h 0 = 0) ∧
      (s.fld oEgressState h 0 = 1 → v = 0 → (s.head h).egress.sending = true → Answers t stOk 0 ∧ t.fld oEgressState h 0 = 2) ∧
      (s.fld oEgressState h 0 = 1 → v = 0 → (s.head h).egress.sending = false → (s.head h).egress.latched = false →
        Answers t stOk 0 ∧ t.fld oEgressState h 0 = 0) := by
  obtain rfl := passes_num hp rfl rfl rfl
  refine ans_next (u := s.request o 0x222100 h (fun d => numRow d v)) (fun _ _ h => h) ?_
  have k : Settled (writeEgressEnable h v s) _ := request_of hp hook_222100
  generalize s.request o 0x222100 h (fun d => numRow d v) = t at k
  have hstate : t.fld oEgressState h 0 = (writeEgressEnable h v s).st.fld oEgressState h 0 := k.keeps.fld_eq (by decide) h 0
  -- Storing the enable leaves the state that the chapter gives.
  have hkept : ∀ (u : State) (n : Nat), ((u.setFld oEgressState h 0 n).setFld oEgressEnable h 0 v).fld oEgressState h 0 = n :=
    fun u n => (fld_setFld_of_ne _ _ _ _ _ _ (by decide)).trans (fld_setFld_self ..)
  refine ⟨?_, ?_, ?_, ?_⟩
  · rintro h0 rfl hf
    rw [writeEgressEnable_enables h0 hf] at k hstate
    refine ⟨k.ans, hstate.trans (hkept ..), ?_⟩
    rw [k.head, done, setFld_head, setFld_head, head_setEgress]
  · rintro h0 rfl hf
    rw [writeEgressEnable_refused h0 hf] at k hstate
    exact ⟨k.ans, hstate.trans h0⟩
  · rintro h1 rfl hs
    rw [writeEgressEnable_drains h1 hs] at k hstate
    exact ⟨k.ans, hstate.trans (hkept ..)⟩
  · rintro h1 rfl hs hl
    rw [writeEgressEnable_disables h1 hs hl] at k hstate
    exact ⟨k.ans, hstate.trans (hkept ..)⟩

/-! ## Writeback enabled (R95, R208, R211) -/

theorem writeWbackEnable_enables (h0 : s.fld oWbackState h 0 = 0) (hr : s.wbackReady h = true) :
    writeWbackEnable h 1 s = done ((((s.setWback h Writeback.init).setFld oWbackState h 0 1).setFld oProducer
      (s.ringFence (s.fld oWback h 0)) 0 (wbProducer h)).setFld oWbackEnable h 0 1) := by
  simp [writeWbackEnable, State.wbackOn, h0, hr]

theorem writeWbackEnable_refused (h0 : s.fld oWbackState h 0 = 0) (hr : s.wbackReady h = false) :
    writeWbackEnable h 1 s = refuse s stState := by
  simp [writeWbackEnable, State.wbackOn, h0, hr, stState, stOk]

theorem writeWbackEnable_drains (h1 : s.fld oWbackState h 0 = 1) (hb : (s.head h).wback.busy ≠ none) :
    writeWbackEnable h 0 s = done ((s.setFld oWbackState h 0 2).setFld oWbackEnable h 0 0) := by
  simp [writeWbackEnable, h1, Option.isSome_iff_ne_none.mpr hb]

theorem writeWbackEnable_disables (h1 : s.fld oWbackState h 0 = 1) (hb : (s.head h).wback.busy = none)
    (hl : (s.head h).wback.latched = false) :
    writeWbackEnable h 0 s = done ((((s.setWback h Writeback.init).setFld oWbackState h 0 0).setFld oProducer
      (s.ringFence (s.fld oWback h 0)) 0 0).setFld oWbackEnable h 0 0) := by
  simp [writeWbackEnable, State.wbackOff, h1, hb, hl]

theorem writebackEnable_settles {v : Nat} {o : Origin} {x : Row} (hp : Passes s o 0x223100 h (fun d => numRow d v) x) :
    ∃ t, exec (.writebackEnable h v o) s = .next t ∧
      (s.fld oWbackState h 0 = 0 → v = 1 → s.wbackReady h = true → Answers t stOk 0 ∧ t.fld oWbackState h 0 = 1 ∧
        t.producer (s.ringFence (s.fld oWback h 0)) = wbProducer h) ∧
      (s.fld oWbackState h 0 = 0 → v = 1 → s.wbackReady h = false → Answers t stState 0 ∧ t.fld oWbackState h 0 = 0) ∧
      (s.fld oWbackState h 0 = 1 → v = 0 → (s.head h).wback.busy ≠ none → Answers t stOk 0 ∧ t.fld oWbackState h 0 = 2) ∧
      (s.fld oWbackState h 0 = 1 → v = 0 → (s.head h).wback.busy = none → (s.head h).wback.latched = false → Answers t stOk 0 ∧
        t.fld oWbackState h 0 = 0 ∧ t.producer (s.ringFence (s.fld oWback h 0)) = 0) := by
  obtain rfl := passes_num hp rfl rfl rfl
  refine ans_next (u := s.request o 0x223100 h (fun d => numRow d v)) (fun _ _ h => h) ?_
  have k : Settled (writeWbackEnable h v s) _ := request_of hp hook_223100
  generalize s.request o 0x223100 h (fun d => numRow d v) = t at k
  have hstate : t.fld oWbackState h 0 = (writeWbackEnable h v s).st.fld oWbackState h 0 := k.keeps.fld_eq (by decide) h 0
  -- Storing the enable leaves the state and the producer that the chapter gives.
  have hturned : ∀ (u : State) (f n p : Nat),
      (((u.setFld oWbackState h 0 n).setFld oProducer f 0 p).setFld oWbackEnable h 0 v).fld oWbackState h 0 = n ∧
        (((u.setFld oWbackState h 0 n).setFld oProducer f 0 p).setFld oWbackEnable h 0 v).producer f = p := fun u f n p =>
    ⟨(fld_setFld_of_ne _ _ _ _ _ _ (by decide)).trans ((fld_setFld_of_ne _ _ _ _ _ _ (by decide)).trans (fld_setFld_self ..)),
      (fld_setFld_of_ne _ _ _ _ _ _ (by decide)).trans (fld_setFld_self ..)⟩
  refine ⟨?_, ?_, ?_, ?_⟩
  · rintro h0 rfl hr
    rw [writeWbackEnable_enables h0 hr] at k hstate
    exact ⟨k.ans, hstate.trans (hturned _ _ _ _).1, (k.producer _).trans (hturned _ _ _ _).2⟩
  · rintro h0 rfl hr
    rw [writeWbackEnable_refused h0 hr] at k hstate
    exact ⟨k.ans, hstate.trans h0⟩
  · rintro h1 rfl hb
    rw [writeWbackEnable_drains h1 hb] at k hstate
    exact ⟨k.ans, hstate.trans ((fld_setFld_of_ne _ _ _ _ _ _ (by decide)).trans (fld_setFld_self ..))⟩
  · rintro h1 rfl hb hl
    rw [writeWbackEnable_disables h1 hb hl] at k hstate
    exact ⟨k.ans, hstate.trans (hturned _ _ _ _).1, (k.producer _).trans (hturned _ _ _ _).2⟩

/-! ## A packet is sent or dropped (R202 to R206) -/

/-- A port has taken a frame whole: the last packet of its queue is new and not abandoned. -/
def State.tookWhole (s sent : State) (q : Nat) : Bool :=
  decide ((s.queue q).length < (sent.queue q).length) && ((sent.queue q).getLast?.map (fun k => !k.aborted)).getD false

theorem tookWhole_of_append {q : Nat} {c : Packet} (hq : t.queue q = s.queue q ++ [c]) (hc : c.aborted = false) :
    s.tookWhole t q = true := by
  simp [State.tookWhole, hq, hc]

theorem tookWhole_of_same {q : Nat} (hq : t.queue q = s.queue q) : s.tookWhole t q = false := by
  simp [State.tookWhole, hq]

/-- What an offered packet leaves: u is the state in which it is offered, `sent` what its port makes of it. -/
structure EgressTaken (s u sent t : State) (h q : Nat) : Prop where
  od : u.od = s.od
  net : u.net = s.net
  queues : t.net.queues = sent.net.queues
  seq : (t.head h).egress.seq = ((s.head h).egress.seq + 1) % 2 ^ 32
  fault : (t.head h).egress.fault = ((s.head h).egress.fault || !u.tookWhole sent q)
  counts : u.tookWhole sent q = false → t.fld oHeadCnt h 9 = (s.fld oHeadCnt h 9 + 1) % 2 ^ 64
  event : u.tookWhole sent q = false → (s.head h).egress.fault = false → t.raised (32 + 16 * h + 11) = true

/-- Grants depend on the queues and their limits. -/
theorem State.grant_congr {u : State} (hod : u.od = s.od) (hnet : u.net = s.net) (q n : Nat) : u.grant q n = s.grant q n := by
  have hcount : ∀ q, u.qCount q = s.qCount q := fun q =>
    congrArg qCells (State.queue_congr (congrArg Net.queues hnet) q)
  have hfld : ∀ c, ∀ q, u.fld oPoolQueue q c = s.fld oPoolQueue q c := fun _ _ => State.fld_congr hod
  simp only [State.grant, State.sharedFree, hcount, hfld]

section
variable {line offset p k : Nat} {v : Row} (hh : h < 2) (hv : v = s.row oEgress h) (hp : p = v.getD 0 0) (hk : k = v.getD 16 0)
  (h1 : s.fld oEgressState h 0 = 1) (hs : (s.head h).egress.sending = true) (hr : s.scanning h = true) (hl : line < egH v)
  (hc : offset < egW v) (ho : offset % egPixels (egSampling v) = 0)
include hh hv hp hk h1 hs hr hl hc ho

/-- A packet that is due in the frame being scanned is offered to its port once it has left the Spine. -/
theorem egressPacket_takes :
    ∃ u pad, EgressTaken s u (u.offer p k (u.egressFrame h v pad line offset)) (execEgressPacket h line offset s) h (8 * p + k) := by
  subst hv hp hk
  unfold execEgressPacket
  extract_lets v e tm n passed s1 p q
  rw [if_neg (by simp [hh, h1, hs, hr, hl, hc, ho, e, v])]
  generalize hdraw : s1.drawNat = d
  obtain ⟨pad, u⟩ := d
  dsimp -zeta only
  extract_lets f sent stored e1 s2 s3 s4
  have hs1 : s1 = s.advanceTb passed := if_pos hr
  have hdrawn := State.drawNat_keeps' s1 hdraw
  have hod : u.od = s.od := (congrArg (fun x => x.2.od) hdraw).symm.trans ((congrArg State.od hs1).trans (advanceTb_od ..))
  have hnet : u.net = s.net :=
    (hdrawn.net_eq (by decide)).trans ((congrArg State.net hs1).trans ((State.advanceTb_keeps s passed).net_eq (by decide)))
  have hsent := State.offer_keeps u p (v.getD 16 0) f
  have hobj : ∀ o c, o = oEgressState ∨ o = oHeadCnt ∨ o = oHeadState → sent.fld o h c = s.fld o h c := by
    rintro o c (rfl | rfl | rfl)
    · exact (hsent.fld_eq (by decide) h c).trans (State.fld_congr hod)
    · exact (hsent.fld_eq (by decide) h c).trans (State.fld_congr hod)
    · exact (hsent.fld_eq (by decide) h c).trans (State.fld_congr hod)
  have hhead : sent.head h = s.head h := by
    rw [hsent.head_eq (by decide), hdrawn.head_eq (by decide), hs1, advanceTb_head]
  have hs3 : s3.head h = { s.head h with egress := e1 } := by
    simp only [s3, s2]
    split
    · rw [head_setEgress, hhead]
    · rw [headCount_head, head_setEgress, hhead]
  have hs3fld : ∀ o, o = oEgressState ∨ o = oHeadState → s3.fld o h 0 = s.fld o h 0 := by
    intro o ho
    have hsink : s2.fld o h 0 = s.fld o h 0 := (setEgress_fld ..).trans (hobj o 0 (by tauto))
    simp only [s3]
    split
    · exact hsink
    · exact (headCount_fld _ _ _ _ _ (by obtain rfl | rfl := ho <;> decide)).trans hsink
  have hruns : s3.rasterRuns h = true := by
    have hscan := hr
    simp only [State.scanning, Bool.and_eq_true, Bool.or_eq_true] at hscan
    simp only [State.rasterRuns, State.headState, hs3, hs3fld oHeadState (.inr rfl), Bool.and_eq_true, Bool.or_eq_true]
    exact ⟨hscan.1.1.imp_left .inr, hscan.1.2⟩
  have hs4 : s4.head h = { s.head h with egress := e1 } := by
    simp only [s4]
    split
    · rw [fire_head, hs3]
    · exact hs3
  have hlast : (if (!e1.sending) = true ∧ s4.fld oEgressState h 0 = 2 then s4.egressOff h else s4) = s4 := by
    refine if_neg fun k => ?_
    have h4 : s4.fld oEgressState h 0 = 1 := by
      simp only [s4]
      split
      · rw [fire_fld _ _ _ _ _ (by decide), hs3fld _ (.inl rfl), h1]
      · rw [hs3fld _ (.inl rfl), h1]
    omega
  rw [hlast]
  refine ⟨u, pad, hod, hnet, ?_, ?_, ?_, fun hdrop => ?_, fun hdrop hfault => ?_⟩
  · have h3 : s3.net = sent.net := by
      simp only [s3]
      split <;> rfl
    simp only [s4]
    split
    · rw [State.fire, raise_net, h3]
    · rw [h3]
  · rw [hs4]
  · rw [hs4]
    rfl
  · have hcount : s3.fld oHeadCnt h 9 = (s.fld oHeadCnt h 9 + 1) % 2 ^ 64 := by
      have h3 : s3 = s2.headCount h 9 := if_neg (by rw [show stored = false from hdrop]; decide)
      rw [h3, headCount_fld_self, setEgress_fld, hobj oHeadCnt 9 (.inr (.inl rfl))]
    simp only [s4]
    split
    · rw [fire_fld _ _ _ _ _ (by decide), hcount]
    · exact hcount
  · have h4 : s4 = s3.fire h 11 := if_pos (by simp [show stored = false from hdrop, show e.fault = false from hfault, hruns])
    rw [h4]
    exact fire_raised_self _ _ hh (by decide)

/-- A packet that its port drops is counted and is a fault of its frame; no queue changes. -/
theorem egressPacket_dropped (hd : s.portState p ≠ 1) :
    ∃ t, exec (.egressPacket h line offset) s = .next t ∧
      t.fld oHeadCnt h 9 = (s.fld oHeadCnt h 9 + 1) % 2 ^ 64 ∧ ((s.head h).egress.fault = false → t.raised (32 + 16 * h + 11) = true) ∧
      (t.head h).egress.seq = ((s.head h).egress.seq + 1) % 2 ^ 32 ∧ t.net.queues = s.net.queues := by
  refine ans_next (u := execEgressPacket h line offset s) (fun _ _ h => h) ?_
  obtain ⟨u, pad, a⟩ := egressPacket_takes hh hv hp hk h1 hs hr hl hc ho
  have hnet : (u.offer p k (u.egressFrame h v pad line offset)).net = u.net := by
    rw [offer_drops (by rwa [State.portState, State.fld_congr a.od])]
    exact (State.portErr_keeps ..).net_eq (by decide)
  have hdrop := tookWhole_of_same (State.queue_congr (congrArg Net.queues hnet) (8 * p + k))
  exact ⟨a.counts hdrop, a.event hdrop, a.seq, a.queues.trans (congrArg Net.queues (hnet.trans a.net))⟩

/-- A packet that its port stores stands in its queue as R201 to R203 make it. -/
theorem egressPacket_leaves (hd : s.portState p = 1)
    (hup : p < 2 → s.linkUp p = true) (hg : ∀ n, n ≤ 6 → s.grant (8 * p + k) n = n) :
    ∃ t c f, exec (.egressPacket h line offset) s = .next t ∧ t.queue (8 * p + k) = s.queue (8 * p + k) ++ [c] ∧ c.tx = some f ∧
      f.kind = .egress ∧ f.dstIp = v.getD 10 0 ∧ f.dstUdp = v.getD 12 0 ∧ f.dstMac = egressMac v ∧
      (t.head h).egress.seq = ((s.head h).egress.seq + 1) % 2 ^ 32 ∧ (t.head h).egress.fault = (s.head h).egress.fault := by
  obtain ⟨u, pad, a⟩ := egressPacket_takes hh hv hp hk h1 hs hr hl hc ho
  have hqueue : u.queue (8 * p + k) = s.queue (8 * p + k) := State.queue_congr (congrArg Net.queues a.net) _
  have hstored := offer_stores (s := u) (f := u.egressFrame h v pad line offset) (k := k)
    (by rwa [State.portState, State.fld_congr a.od]) (fun h2 => by rw [State.linkUp, State.fld_congr a.od]; exact hup h2)
    (by rw [State.grant_congr a.od a.net]; exact hg _ (egressFrame_cells ..))
  refine ⟨_, u.placed (u.txPacket p (u.egressFrame h v pad line offset)), u.egressFrame h v pad line offset, rfl, ?_, rfl, rfl, rfl, rfl, rfl,
    a.seq, ?_⟩
  · exact (State.queue_congr a.queues _).trans (hqueue ▸ hstored)
  · refine a.fault.trans ?_
    rw [tookWhole_of_append hstored rfl]
    simp

end

/-- Settles O39: a written enable by the chapter's answer in each state, a packet by what its port makes of it, and a written frame by what
completing it leaves. That a history entry holds the frame's and the completion's PT is the choice of log entry 16. -/
theorem egressAndWritebackCommands : Obligations.EgressAndWritebackCommands :=
  ⟨fun _ _ _ _ _ => egressEnable_settles,
    fun _ _ _ _ _ _ _ hh hv hp hk h1 hs hr hl hc ho =>
      ⟨egressPacket_dropped hh hv hp hk h1 hs hr hl hc ho, egressPacket_leaves hh hv hp hk h1 hs hr hl hc ho⟩,
    fun _ _ _ _ _ => writebackEnable_settles,
    fun _ _ _ _ _ _ hh hs hb hw hr he => writebackDone_completes hb hh hs hw hr he⟩

end Sys2Proof.Machine
end

section
/-! SUPPORT. Heads enabled, disabled and drained, and commits armed (R165, R178 to R190, R216, R217). -/

namespace Sys2Proof.Machine

variable {s t : State} {h : Nat}

theorem Settled.headState {w : WRes} (k : Settled w t) (h : Nat) : t.headState h = w.st.headState h := k.keeps.fld_eq (by decide) h 0

theorem Settled.commitStatus {w : WRes} (k : Settled w t) (h c : Nat) : t.fld oCommitStatus h c = w.st.fld oCommitStatus h c :=
  k.keeps.fld_eq (by decide) h c

/-- A row that may be written of an object with two rows is a head's. -/
theorem head_of_passes {o : Origin} {n : Nat} {v : ObjDef → Option Row} {x : Row} {d : ObjDef} (hp : Passes s o n h v x)
    (hd : objDef n = some d) (hs : d.shape = .rows 2) : h < 2 := by
  obtain ⟨-, -, -, -, d', y, hd', -, -, hgrow, -⟩ := hp
  obtain rfl : d = d' := Option.some.inj (hd ▸ hd')
  rw [growOk, hs, ObjDef.room, hs] at hgrow
  exact of_decide_eq_true hgrow

/-! ## Commits accepted and rejected (R139, R165, R185, R186) -/

section
variable (s) (h) (c : Commit)

/-- What is counted of an accepted commit stands in no object of the heads (R186). -/
theorem acceptCommit_status :
    (s.acceptCommit h c).fld oCommitStatus h 1 = c.id ∧ (s.acceptCommit h c).fld oCommitStatus h 3 = 0 := by
  unfold State.acceptCommit
  extract_lets s1 s2
  have h2 : ∀ k, s2.fld oCommitStatus h k = s1.fld oCommitStatus h k := by
    intro k
    simp only [s2]
    split
    · exact fld_setFld_of_ne _ _ _ _ _ _ (by split <;> decide)
    · rfl
  have hdisp : ∀ k, State.fld { s2 with disp := { s2.disp with alphaPending := c.layers.foldl (fun m e => tdel m e.1) s2.disp.alphaPending } }
      oCommitStatus h k = s2.fld oCommitStatus h k := fun _ => State.fld_congr rfl
  rw [hdisp, hdisp, h2, h2]
  simp [s1, fld_setFld]

/-- A rejected commit leaves the heads as they were, shows its reason and raises COMMIT_REJECTED. -/
theorem rejectCommit_shows (r : Nat) (hh : h < 2) :
    (s.rejectCommit h r).head h = s.head h ∧ (s.rejectCommit h r).headState h = s.headState h ∧
      (s.rejectCommit h r).fld oHeadEnable h 0 = s.fld oHeadEnable h 0 ∧
      (s.rejectCommit h r).fld oCommitStatus h 3 = r ∧ (s.rejectCommit h r).raised (32 + 16 * h + 7) = true := by
  unfold State.rejectCommit
  extract_lets s1 s2
  have hhead : s2.head h = s1.head h := by
    simp only [s2]
    split
    · exact setFld_head ..
    · rfl
  have hfld : ∀ o c, o ≠ oLayerRejects → s2.fld o h c = s1.fld o h c := by
    intro o c ho
    simp only [s2]
    split
    · exact fld_setFld_of_ne _ _ _ _ _ _ ho
    · rfl
  refine ⟨?_, ?_, ?_, ?_, fire_raised_self _ _ hh (by decide)⟩
  · rw [fire_head, hhead]
    simp [s1]
  · rw [State.headState, fire_fld _ _ _ _ _ (by decide), hfld _ _ (by decide), headCount_fld _ _ _ _ _ (by decide),
      fld_setFld_of_ne _ _ _ _ _ _ (by decide), State.headState]
  · rw [fire_fld _ _ _ _ _ (by decide), hfld _ _ (by decide), headCount_fld _ _ _ _ _ (by decide),
      fld_setFld_of_ne _ _ _ _ _ _ (by decide)]
  · rw [fire_fld _ _ _ _ _ (by decide), hfld _ _ (by decide), headCount_fld _ _ _ _ _ (by decide), fld_setFld_self]

end

/-! ## Arming (R184, R185, R189) -/

/-- An arm answers the lowest reason of the commit made now. -/
theorem armCommit_reason (ovr : Bool) (task : Option Nat) : (s.armCommit h ovr task).1 = s.validate h (s.makeCommit h task) ovr false := by
  unfold State.armCommit
  extract_lets c s0 r x late s1
  split
  · rfl
  · exact (not_not.mp (by assumption) : r = 0).symm

theorem armCommit_accepted {ovr : Bool} {task : Option Nat} (hr : s.validate h (s.makeCommit h task) ovr false = 0) :
    ((s.armCommit h ovr task).2.head h).queue = (s.head h).queue ++ [s.makeCommit h task] ∧
      (s.armCommit h ovr task).2.fld oCommitStatus h 1 = (s.makeCommit h task).id ∧ (s.armCommit h ovr task).2.fld oCommitStatus h 3 = 0 := by
  unfold State.armCommit
  extract_lets c s0 r x late s1
  rw [if_neg (not_not.mpr hr)]
  obtain ⟨hid, hreason⟩ := acceptCommit_status s0 h c
  refine ⟨?_, ?_, ?_⟩
  · exact congrArg Head.queue ((countFire_head s1 h (late = true) 2 6).trans (head_setHead_self ..))
  · rw [countFire_fld _ _ _ _ _ _ _ (by decide) (by decide), setHead_fld, hid]
  · rw [countFire_fld _ _ _ _ _ _ _ (by decide) (by decide), setHead_fld, hreason]

theorem armCommit_rejected {ovr : Bool} {task : Option Nat} {r : Nat} (hh : h < 2)
    (hr : s.validate h (s.makeCommit h task) ovr false = r) (hn : r ≠ 0) :
    (s.armCommit h ovr task).2.head h = s.head h ∧ (s.armCommit h ovr task).2.fld oCommitStatus h 3 = r ∧
      (s.armCommit h ovr task).2.raised (32 + 16 * h + 7) = true := by
  subst hr
  unfold State.armCommit
  extract_lets c s0 r x late s1
  rw [if_pos hn]
  obtain ⟨hhead, -, -, hreason, hevent⟩ := rejectCommit_shows s0 h r hh
  exact ⟨hhead.trans (setFld_head ..), hreason, hevent⟩

/-- A write of COMMIT_ARM settles: the commit is queued, or refused with its reason. -/
theorem commitArm_settles {ovr : Bool} {x : Row} {r : Nat} (hp : Passes s .hspi 0x220400 h (fun d => numRow d (b2n ovr)) x)
    (hr : s.validate h (s.makeCommit h none) ovr false = r) : ∃ t, exec (.commitArm h ovr false) s = .next t ∧
      (r = 0 → Answers t stOk 0 ∧ (t.head h).queue = (s.head h).queue ++ [s.makeCommit h none] ∧
        t.fld oCommitStatus h 1 = (s.makeCommit h none).id ∧ t.fld oCommitStatus h 3 = 0) ∧
      (r ≠ 0 → Answers t (if r = 20 then stResource else stState) 0 ∧ (t.head h).queue = (s.head h).queue ∧
        t.fld oCommitStatus h 3 = r ∧ t.raised (32 + 16 * h + 7) = true) := by
  have hh : h < 2 := head_of_passes hp rfl rfl
  obtain rfl := passes_num hp rfl rfl rfl
  refine ans_next (u := s.request .hspi 0x220400 h (fun d => numRow d (b2n ovr))) (fun _ _ h => h) ?_
  have k : Settled (writeCommitArm h (b2n ovr) s) _ := request_of hp hook_220400
  generalize s.request .hspi 0x220400 h (fun d => numRow d (b2n ovr)) = t at k
  have hbit : (b2n ovr).testBit 0 = ovr := by cases ovr <;> rfl
  have harm := armCommit_reason (s := s) (h := h) ovr none
  rw [hr] at harm
  rw [writeCommitArm, hbit] at k
  extract_lets a at k
  refine ⟨fun h0 => ?_, fun hn => ?_⟩
  · rw [if_pos (harm.trans h0)] at k
    obtain ⟨hqueue, hid, hreason⟩ := armCommit_accepted (hr.trans h0)
    exact ⟨k.ans, (congrArg Head.queue (k.head h)).trans hqueue, (k.commitStatus h 1).trans hid, (k.commitStatus h 3).trans hreason⟩
  · rw [if_neg (harm ▸ hn)] at k
    obtain ⟨hhead, hreason, hevent⟩ := armCommit_rejected hh hr hn
    refine ⟨?_, congrArg Head.queue ((k.head h).trans hhead), (k.commitStatus h 3).trans hreason, k.evs _ hevent⟩
    rw [← harm]
    exact k.ans

/-! ## The head's register (R216, R217) -/

/-- A core's write of a head's COMMIT_ARM that reaches the register arms a commit. -/
theorem coreWrite_commitArm (hh : h < 2) (hf : s.integ.failed = none) (ovr : Bool) :
    s.coreWrite (regAddr (12 + h) 0x20) (wd (1 + 2 * b2n ovr)) = registerArm h ovr s := by
  have hlost : ∀ a, s.pageLost a = false := fun a => by rw [State.pageLost, hf]
  have hwrite : s.writeReg .core (12 + h) 0x20 (wd (1 + 2 * b2n ovr)) = some (registerArm h ovr s) := by
    obtain rfl | rfl : h = 0 ∨ h = 1 := by omega
    · cases ovr <;> rfl
    · cases ovr <;> rfl
  have haddr : (regAddr (12 + h) 0x20).toNat % 4 = 0 ∧ regOf (regAddr (12 + h) 0x20).toNat = some (12 + h, 0x20) := by
    obtain rfl | rfl : h = 0 ∨ h = 1 := by omega
    · decide
    · decide
  have hwait : s.waitPending (12 + h) 0x20 = s := if_neg fun k => absurd k.1 (by decide)
  simp only [State.coreWrite, haddr.1, haddr.2, hlost, hwait, hwrite, ne_eq, not_true_eq_false, if_false, Bool.false_eq_true]

theorem registerArm_takes {ovr : Bool} {r : Nat} (hs : Reaches s .core (12 + h)) (hh : h < 2)
    (hr : s.validate h (s.makeCommit h none) ovr false = r) :
    ∃ t, exec (.commitArm h ovr true) s = .next t ∧
      (r = 0 → (t.head h).result = (s.makeCommit h none).id * 65536 + 1 ∧ (t.head h).queue = (s.head h).queue ++ [s.makeCommit h none]) ∧
      (r ≠ 0 → (t.head h).result = r * 256 + 1 ∧ (t.head h).queue = (s.head h).queue ∧ t.raised (32 + 16 * h + 7) = true) := by
  obtain ⟨hpowered, -, hfailed, -, -⟩ := hs
  have harm : s.armByCommand h ovr true = registerArm h ovr s := by
    simp only [State.armByCommand, State.accessWrite, hpowered, Nat.mod_eq_of_lt hh, Bool.not_true, Bool.false_eq_true, if_true, if_false]
    exact coreWrite_commitArm hh hfailed ovr
  refine ans_next (u := s.armByCommand h ovr true) (fun _ _ h => h) ?_
  have hreason : (s.armCommit h ovr none).1 = r := (armCommit_reason ovr none).trans hr
  rw [harm, registerArm, head_setHead_self, setHead_raised, hreason]
  refine ⟨fun h0 => ?_, fun hn => ?_⟩
  · obtain ⟨hqueue, hid, -⟩ := armCommit_accepted (hr.trans h0)
    simp [h0, hqueue, hid]
  · obtain ⟨hhead, -, hevent⟩ := armCommit_rejected hh hr hn
    simp [hn, hhead, hevent]

/-! ## Enabling (R179, R297) -/

/-- A staged row that validates starts the head on it; RUNs that waited for the head leave its part alone. -/
theorem startHead_accepts (hr : s.validate h (s.makeCommit h none) false true = 0) :
    (s.startHead h).1 = 0 ∧ (s.startHead h).2.headState h = 1 ∧ ((s.startHead h).2.head h).enable = some (s.makeCommit h none) ∧
      ((s.startHead h).2.head h).queue = [] ∧ (s.startHead h).2.fld oCommitStatus h 1 = (s.makeCommit h none).id := by
  unfold State.startHead
  extract_lets c s0 r k x b x1 s1
  rw [if_neg (not_not.mpr hr)]
  have hruns := State.pendingRuns_keeps s1 h
  have hhead : (s1.pendingRuns h).head h = x1 := (hruns.head_eq (by decide) h).trans (by simp [s1])
  refine ⟨rfl, ?_, congrArg Head.enable hhead, congrArg Head.queue hhead, ?_⟩
  · exact (hruns.fld_eq (by decide) h 0).trans (fld_setFld_self ..)
  · refine (hruns.fld_eq (by decide) h 1).trans ?_
    rw [fld_setFld_of_ne _ _ _ _ _ _ (by decide), setHead_fld]
    exact (acceptCommit_status s0 h c).1

theorem startHead_rejects {r : Nat} (hh : h < 2) (hr : s.validate h (s.makeCommit h none) false true = r) (hn : r ≠ 0) :
    (s.startHead h).1 ≠ 0 ∧ (s.startHead h).2.headState h = s.headState h ∧ (s.startHead h).2.fld oCommitStatus h 3 = r ∧
      (s.startHead h).2.raised (32 + 16 * h + 7) = true ∧ (s.startHead h).2.fld oHeadEnable h 0 = s.fld oHeadEnable h 0 := by
  subst hr
  unfold State.startHead
  extract_lets c s0 r k x b x1 s1
  rw [if_pos hn]
  obtain ⟨-, hstate, henable, hreason, hevent⟩ := rejectCommit_shows s0 h r hh
  refine ⟨hn, hstate.trans ?_, hreason, hevent, henable.trans ?_⟩
  · exact fld_setFld_of_ne _ _ _ _ _ _ (by decide)
  · exact fld_setFld_of_ne _ _ _ _ _ _ (by decide)

/-! ## Disabling and draining (R180, R181) -/

/-- The queue is empty, and nothing else of the head has changed. -/
theorem discardQueue_head : (s.discardQueue h).head h = { s.head h with queue := [] } := by
  unfold State.discardQueue
  extract_lets q s1
  refine List.foldlRecOn (motive := fun u : State => u.head h = _) _ _ (head_setHead_self ..) fun u hu c _ => ?_
  exact ((State.completeOpt_keeps ..).head_eq (by decide) h).trans ((headCount_head ..).trans hu)

/-- A head without a latched enable is DISABLED. -/
theorem headDisabled_ends (hl : (s.head h).latched = false) : (s.headDisabled h).headState h = 0 ∧ ((s.headDisabled h).head h).stopped = false := by
  unfold State.headDisabled
  extract_lets x s1
  rw [if_neg (by simp [x, hl])]
  have hkept : Keeps _ _ s1 := State.drainCheck_keeps _
  have hhead := (hkept.head_eq (by decide) h).trans (setFld_head ..)
  rw [head_setHead_self] at hhead
  exact ⟨(hkept.fld_eq (by decide) h 0).trans (fld_setFld_self ..), congrArg Head.stopped hhead⟩

/-- The end of a drain: writeback's last frame is readable, and the head is DISABLED. -/
theorem headDrainDone_disables (hh : h < 2) (h3 : s.headState h = 3) (hs : (s.head h).stopped = true) (hl : (s.head h).latched = false) :
    ∃ t, exec (.headDrainDone h) s = .next t ∧ t.headState h = 0 ∧ (t.head h).stopped = false ∧
      (∀ k first, (s.head h).wback.busy = some (k, first) →
        t.fence (s.ringFence (s.fld oWback h 0)) = (s.fence (s.ringFence (s.fld oWback h 0)) + 1) % 2 ^ 32) := by
  refine ans_next (u := execHeadDrainDone h s) (fun _ _ h => h) ?_
  unfold execHeadDrainDone
  rw [if_neg (by simp [hh, h3, hs])]
  extract_lets s1 s2
  obtain ⟨w, hw⟩ : OnlyWback s s2 h := (OnlyWback.wbackComplete s h).trans (wbackOff_ite _ s1 h)
  obtain ⟨hstate, hstopped⟩ := headDisabled_ends (s := s2) (h := h) (by rw [hw]; exact hl)
  refine ⟨hstate, hstopped, fun k first hb => ?_⟩
  calc (s2.headDisabled h).fence (s.ringFence (s.fld oWback h 0))
      = s2.fence _ := (State.headDisabled_keeps s2 h).fld_eq (by decide) _ 0
    _ = s1.fence _ := congrArg (·.getD 0 0) (wbackOff_ite_row _ s1 h _ (by decide) (by decide))
    _ = _ := wbackComplete_fence hb

/-! ## The chapter's answer to a write of HEAD_ENABLE -/

theorem writeHeadEnable_enables (h0 : s.headState h = 0) (hr : (s.startHead h).1 = 0) :
    writeHeadEnable h 1 s = done ((s.startHead h).2.setFld oHeadEnable h 0 1) := by
  simp [writeHeadEnable, h0, hr]

theorem writeHeadEnable_rejected (h0 : s.headState h = 0) (hr : (s.startHead h).1 ≠ 0) :
    writeHeadEnable h 1 s = { status := stState, handle := 0, st := (s.startHead h).2 } := by
  simp [writeHeadEnable, h0, hr, refuse]

theorem writeHeadEnable_drains (h2 : s.headState h = 2) (hf : s.feeds h = false) (hb : (s.head h).inBlank = false) :
    writeHeadEnable h 0 s = done (((s.discardQueue h).setFld oHeadEnable h 0 0).setFld oHeadState h 0 3) := by
  simp [writeHeadEnable, h2, hf, hb]

/-- A head that feeds strands is not disabled (R182). -/
theorem writeHeadEnable_refused (h2 : s.headState h = 2) (hf : s.feeds h = true) : writeHeadEnable h 0 s = refuse s stState := by
  simp [writeHeadEnable, h2, hf]

theorem writeHeadEnable_latches (h3 : s.headState h = 3) (v : Nat) :
    writeHeadEnable h v s = done ((s.setHead h { s.head h with latched := decide (v = 1) }).setFld oHeadEnable h 0 v) := by
  by_cases hv : v = 1 <;> simp [writeHeadEnable, h3, hv]

theorem headEnable_settles {v : Nat} {o : Origin} {x : Row} (hp : Passes s o 0x220200 h (fun d => numRow d v) x) :
    ∃ t, exec (.headEnable h v o) s = .next t ∧
      (s.headState h = 0 → v = 1 → s.validate h (s.makeCommit h none) false true = 0 → Answers t stOk 0 ∧ t.headState h = 1 ∧
        (t.head h).enable = some (s.makeCommit h none) ∧ (t.head h).queue = [] ∧ t.fld oHeadEnable h 0 = 1 ∧
        t.fld oCommitStatus h 1 = (s.makeCommit h none).id) ∧
      (∀ r, s.headState h = 0 → v = 1 → s.validate h (s.makeCommit h none) false true = r → r ≠ 0 → Answers t stState 0 ∧
        t.headState h = 0 ∧ t.fld oCommitStatus h 3 = r ∧ t.raised (32 + 16 * h + 7) = true ∧
        t.fld oHeadEnable h 0 = s.fld oHeadEnable h 0) ∧
      (s.headState h = 2 → v = 0 → s.feeds h = false → (s.head h).inBlank = false → Answers t stOk 0 ∧ t.headState h = 3 ∧
        (t.head h).queue = [] ∧ t.fld oHeadEnable h 0 = 0) ∧
      (s.headState h = 2 → v = 0 → s.feeds h = true → Answers t stState 0 ∧ t.headState h = 2 ∧ t.head h = s.head h) ∧
      (s.headState h = 3 → Answers t stOk 0 ∧ t.headState h = 3 ∧ (t.head h).latched = decide (v = 1)) := by
  have hh : h < 2 := head_of_passes hp rfl rfl
  obtain rfl := passes_num hp rfl rfl rfl
  refine ans_next (u := s.request o 0x220200 h (fun d => numRow d v)) (fun _ _ h => h) ?_
  have k : Settled (writeHeadEnable h v s) _ := request_of hp hook_220200
  generalize s.request o 0x220200 h (fun d => numRow d v) = t at k
  have henable : t.fld oHeadEnable h 0 = (writeHeadEnable h v s).st.fld oHeadEnable h 0 := k.keeps.fld_eq (by decide) h 0
  refine ⟨?_, ?_, ?_, ?_, fun h3 => ?_⟩
  · rintro h0 rfl hr
    obtain ⟨hreason, hstate, hcommit, hqueue, hid⟩ := startHead_accepts hr
    rw [writeHeadEnable_enables h0 hreason] at k henable
    have hhead := (k.head h).trans (setFld_head ..)
    exact ⟨k.ans, (k.headState h).trans ((fld_setFld_of_ne _ _ _ _ _ _ (by decide)).trans hstate), (congrArg Head.enable hhead).trans hcommit,
      (congrArg Head.queue hhead).trans hqueue, henable.trans (fld_setFld_self ..),
      (k.commitStatus h 1).trans ((fld_setFld_of_ne _ _ _ _ _ _ (by decide)).trans hid)⟩
  · rintro r h0 rfl hr hn
    obtain ⟨hreason, hstate, hshown, hevent, hstays⟩ := startHead_rejects hh hr hn
    rw [writeHeadEnable_rejected h0 hreason] at k henable
    exact ⟨k.ans, (k.headState h).trans (hstate.trans h0), (k.commitStatus h 3).trans hshown, k.evs _ hevent, henable.trans hstays⟩
  · rintro h2 rfl hf hb
    rw [writeHeadEnable_drains h2 hf hb] at k henable
    refine ⟨k.ans, (k.headState h).trans (fld_setFld_self ..), ?_, ?_⟩
    · rw [k.head, done, setFld_head, setFld_head, discardQueue_head]
    · exact henable.trans ((fld_setFld_of_ne _ _ _ _ _ _ (by decide)).trans (fld_setFld_self ..))
  · rintro h2 rfl hf
    rw [writeHeadEnable_refused h2 hf] at k
    exact ⟨k.ans, (k.headState h).trans h2, k.head h⟩
  · rw [writeHeadEnable_latches h3] at k
    refine ⟨k.ans, (k.headState h).trans ?_, ?_⟩
    · exact (fld_setFld_of_ne _ _ _ _ _ _ (by decide)).trans ((setHead_fld ..).trans h3)
    · rw [k.head, done, setFld_head, head_setHead_self]

/-- Settles O37: a written enable by the chapter's answer in each state of the head, an arm by the reason that its commit has, from the
object and from the register alike, and the end of a drain by what completing the last frame and disabling leave. -/
theorem headCommands : Obligations.HeadCommands :=
  ⟨fun _ _ _ _ _ => headEnable_settles, fun _ _ => headDrainDone_disables, fun _ _ _ _ _ => commitArm_settles,
    fun _ _ _ _ => registerArm_takes⟩

end Sys2Proof.Machine
end

section
/-! SUPPORT. What completing tasks and fades leaves (R306 to R315, R413, R433, R582): every event raised still stands, and of the layers
only the alphas change. -/

namespace Sys2Proof.Machine

variable {s t u : State} {m : Nat}

/-- Every event that s has raised stands in t. -/
structure EventsStand (s t : State) : Prop where
  stands : ∀ e, s.raised e = true → t.raised e = true

namespace EventsStand

theorem refl (s : State) : EventsStand s s := ⟨fun _ h => h⟩

theorem trans (a : EventsStand s t) (b : EventsStand t u) : EventsStand s u :=
  ⟨fun e h => b.stands e (a.stands e h)⟩

theorem of_evt (h : t.evt = s.evt) : EventsStand s t := ⟨fun _ k => (State.raised_congr h).trans k⟩

theorem of_keeps (k : Keeps m s t) (hm : m.testBit 9 = true) : EventsStand s t := of_evt (k.evt_eq hm)

theorem raise (s : State) (e : Nat) : EventsStand s (s.raise e) := ⟨fun a => raised_raise s e a⟩

theorem andRaise (h : EventsStand s t) (e : Nat) : EventsStand s (t.raise e) := h.trans (raise t e)

theorem setFld (s : State) (o r c v : Nat) : EventsStand s (s.setFld o r c v) := of_evt (setFld_evt ..)

theorem bump (s : State) (o r c : Nat) : EventsStand s (s.bump o r c) := setFld ..

theorem ite {c : Prop} [Decidable c] {a b : State} (ha : EventsStand s a) (hb : EventsStand s b) : EventsStand s (if c then a else b) := by
  split <;> assumption

theorem foldl {α : Type} {f : State → α → State} (hf : ∀ s a, EventsStand s (f s a)) (l : List α) (s : State) :
    EventsStand s (l.foldl f s) := by
  induction l generalizing s with
  | nil => exact refl s
  | cons a l ih => exact (hf s a).trans (ih _)

/-! ## The pool and the ports (R582, R592, R610, R620) -/

theorem raiseOnce (s : State) (e key w : Nat) : EventsStand s (s.raiseOnce e key w) := by
  have hnoted : EventsStand s { s with evt := { s.evt with windows := tset 0 s.evt.windows key (w + 1) } } := ⟨fun _ h => h⟩
  exact ite (refl s) (hnoted.andRaise e)

theorem andRaiseOnce (h : EventsStand s t) (e key w : Nat) : EventsStand s (t.raiseOnce e key w) := h.trans (raiseOnce t e key w)

theorem portErr (s : State) (p c : Nat) : EventsStand s (s.portErr p c) := 
  (setFld ..).trans (raiseOnce ..)

theorem pauseGen (s : State) (p : Nat) : EventsStand s (s.pauseGen p) := by
  have hturn : ∀ n x, EventsStand s (((s.setFld oPortState p 3 n).setPort p x).portEvent p) := fun n x =>
    ((setFld ..).trans (of_keeps (State.setPort_keeps ..) (by decide))).trans (raise ..)
  unfold State.pauseGen
  extract_lets free x on q
  exact ite (hturn ..) (ite (hturn ..) (refl s))

theorem setQueue (s : State) (q : Nat) (ps : List Packet) : EventsStand s (s.setQueue q ps) := by
  unfold State.setQueue
  extract_lets wasLow net s1 s2 s3
  have h2 : EventsStand s s2 := of_evt rfl
  exact (ite (h2.trans (raiseOnce ..)) h2 : EventsStand s s3).trans (foldl pauseGen _ _)

theorem append (s : State) (q : Nat) (p : Packet) : EventsStand s (s.append q p) := by
  unfold State.append
  extract_lets k
  exact ((setQueue ..).trans (of_keeps (State.fillCells_keeps ..) (by decide))).trans (of_keeps (State.cellsTaken_keeps ..) (by decide))

theorem poolFault (s : State) (k q : Nat) : EventsStand s (s.poolFault k q) := by
  unfold State.poolFault State.raiseMs
  extract_lets s1 x
  have h1 : EventsStand s { s1 with net := { x with lastFault := some (k, q), poolDrops := (s1.net.poolDrops + 1) % 2 ^ 64 } } :=
    (bump s oPoolCnt q (2 + k)).trans (of_evt rfl)
  exact h1.andRaiseOnce _ _ _

theorem enqueue (s : State) (q : Nat) (p : Packet) : EventsStand s (s.enqueue q p).2 := by
  unfold State.enqueue
  extract_lets g lim part s1 s2
  have happend : EventsStand s (s.append q p) := append ..
  have h1 : EventsStand s s1 := ite (bump ..) (refl s)
  have h2 : EventsStand s s2 := h1.trans (append ..)
  clear_value s2
  split
  · split
    · dsimp only
      exact ite happend (happend.trans (setQueue (s.append q p) q (s.queue q)))
    · exact happend.trans (bump (s.append q p) oPoolCnt q 0)
  · split
    · exact poolFault s 0 q
    split
    · exact h2.trans (poolFault s2 2 q)
    · dsimp only
      exact (h2.trans (setQueue ..)).trans (poolFault ..)

theorem offer (s : State) (p k : Nat) (f : TxFrame) : EventsStand s (s.offer p k f) :=
  ite (portErr ..) (ite (portErr ..) (enqueue ..))

/-! ## Completions (R413, R433 to R435) -/

theorem sendMsg (s : State) (d : Dest) (k : Nat) (kind : TxKind) (op flags session id : Nat) (sl : Option Nat) (payload : List Byte)
    (task : Nat) : EventsStand s (s.sendMsg d k kind op flags session id sl payload task) := by
  unfold State.sendMsg
  cases sl with
  | none => exact offer ..
  | some slot => exact ite (of_evt rfl) ((of_evt rfl : EventsStand s (s.setTx slot _)).trans (offer ..))

theorem sendComplete (s : State) (slot sid handle status : Nat) (result : List Byte) :
    EventsStand s (s.sendComplete slot sid handle status result) := by
  unfold State.sendComplete
  extract_lets x payload
  exact ite ((sendMsg ..).trans (of_evt rfl)) (refl s)

theorem cqPush (s : State) (h st : Nat) : EventsStand s (s.cqPush h st) := by
  have hweir : ∀ w, EventsStand s { s with weir := w } := fun w => of_evt rfl
  unfold State.cqPush
  extract_lets w s1
  split
  · exact ((hweir _).trans (bump ..)).andRaise _
  split
  · exact (hweir _).andRaise _
  · exact hweir _

theorem deliverCompletion (s : State) (x : Task) (st : Nat) (result : List Byte) : EventsStand s (s.deliverCompletion x st result) := by
  unfold State.deliverCompletion
  extract_lets notify s1
  have h1 : EventsStand s s1 := ite (sendComplete ..) (refl s)
  exact ite (h1.trans (cqPush ..)) h1

theorem finishOne (s : State) (h st : Nat) (result : List Byte) : EventsStand s (s.finishOne h st result).2 := by
  unfold State.finishOne
  extract_lets slot x s1 w s2 s3 s4 s5
  split
  · have h1 : EventsStand s s1 := of_keeps (State.setTask_keeps ..) (by decide)
    have h2 : EventsStand s s2 := ite (h1.trans (of_evt rfl)) h1
    have h3 : EventsStand s s3 := (h2.trans (of_keeps (State.freeCore_keeps ..) (by decide))).trans (bump ..)
    have h4 : EventsStand s s4 := ite (h3.trans (raise ..)) h3
    exact (h4.trans (deliverCompletion ..)).trans (of_keeps (State.actEdges_keeps ..) (by decide))
  · exact refl s

theorem finishAll (n : Nat) (w : List (Nat × Nat)) (s : State) : EventsStand s (State.finishAll n w s) := by
  induction n generalizing w s with
  | zero => exact refl s
  | succ n ih =>
    cases w with
    | nil => exact refl s
    | cons x w => exact (finishOne ..).trans (ih _ _)

theorem completeOpt (s : State) (h : Option Nat) (st : Nat) : EventsStand s (s.completeOpt h st) := by
  cases h with
  | none => exact refl s
  | some x => exact finishAll ..

end EventsStand

/-! ## Layers -/

/-- Every event raised still stands, and of the layers' status and of the rows in force only the alphas have changed. -/
structure AlphasOnly (s t : State) : Prop where
  evs : EventsStand s t
  status : ∀ l c, c ≠ 2 → t.fld oLayerStatus l c = s.fld oLayerStatus l c
  active : ∀ l c, c ≠ 20 → t.fld oLayerActive l c = s.fld oLayerActive l c

namespace AlphasOnly

theorem refl (s : State) : AlphasOnly s s := ⟨.refl s, fun _ _ _ => rfl, fun _ _ _ => rfl⟩

theorem trans (a : AlphasOnly s t) (b : AlphasOnly t u) : AlphasOnly s u :=
  ⟨a.evs.trans b.evs, fun l c h => (b.status l c h).trans (a.status l c h), fun l c h => (b.active l c h).trans (a.active l c h)⟩

theorem of_evs (k : Keeps m s t) (h : EventsStand s t) (hm : m.testBit (32 + 0x210) = true) : AlphasOnly s t :=
  ⟨h, fun l c _ => k.fld_eq hm l c, fun l c _ => k.fld_eq hm l c⟩

theorem of_keeps (k : Keeps m s t) (he : m.testBit 9 = true) (hm : m.testBit (32 + 0x210) = true) : AlphasOnly s t :=
  of_evs k (.of_keeps k he) hm

theorem ite {c : Prop} [Decidable c] {a b : State} (ha : AlphasOnly s a) (hb : AlphasOnly s b) : AlphasOnly s (if c then a else b) := by
  split <;> assumption

theorem foldl {α : Type} {f : State → α → State} (hf : ∀ s a, AlphasOnly s (f s a)) (l : List α) (s : State) :
    AlphasOnly s (l.foldl f s) := by
  induction l generalizing s with
  | nil => exact refl s
  | cons a l ih => exact (hf s a).trans (ih _)

theorem raise (s : State) (e : Nat) : AlphasOnly s (s.raise e) := of_evs (State.raise_keeps s e) (.raise s e) (by decide)

theorem completeOpt (s : State) (h : Option Nat) (st : Nat) : AlphasOnly s (s.completeOpt h st) :=
  of_evs (State.completeOpt_keeps s h st) (.completeOpt s h st) (by decide)

/-- A write of another object. -/
theorem setRow (s : State) {o : Nat} (r : Nat) (v : Row) (hs : o ≠ oLayerStatus) (ha : o ≠ oLayerActive) : AlphasOnly s (s.setRow o r v) :=
  ⟨.of_evt rfl, fun _ _ _ => fld_setRow_of_ne _ _ _ _ _ (Ne.symm hs), fun _ _ _ => fld_setRow_of_ne _ _ _ _ _ (Ne.symm ha)⟩

theorem setFld (s : State) {o : Nat} (r c v : Nat) (hs : o ≠ oLayerStatus) (ha : o ≠ oLayerActive) : AlphasOnly s (s.setFld o r c v) :=
  setRow s r _ hs ha

/-! ## Fades (R306 to R315) -/

theorem setFade (s : State) (f : Nat) (x : Fade) : AlphasOnly s (s.setFade f x) := of_keeps (State.setFade_keeps s f x) (by decide) (by decide)

theorem setFadeStatus (s : State) (f st result : Nat) : AlphasOnly s (s.setFadeStatus f st result) := setRow s f _ (by decide) (by decide)

theorem setFadeBase (s : State) (kind i v : Nat) : AlphasOnly s (s.setFadeBase kind i v) := by
  have hsaved : ∀ u : State, AlphasOnly u u.touchSettings := fun u => of_keeps (State.touchSettings_keeps u) (by decide) (by decide)
  unfold State.setFadeBase
  split
  · refine ⟨.of_evt rfl, fun _ _ _ => fld_setFld_of_ne _ _ _ _ _ _ (by decide), fun l c hc => ?_⟩
    exact (fld_setFld ..).trans (if_neg fun h => hc h.2.2)
  · exact (setFld _ _ _ _ (by decide) (by decide)).trans (hsaved _)
  · exact (setFld _ _ _ _ (by decide) (by decide)).trans (hsaved _)
  · exact (setFld _ _ _ _ (by decide) (by decide)).trans (hsaved _)
  · exact refl s

theorem fadeDone (s : State) (f result out status : Nat) : AlphasOnly s (s.fadeDone f result out status) := by
  unfold State.fadeDone
  extract_lets x left s1 s2
  have h1 : AlphasOnly s s1 := ((setFadeStatus ..).trans (setFld _ _ _ _ (by decide) (by decide))).trans (setFade ..)
  exact (ite (h1.trans (raise ..)) h1 : AlphasOnly s s2).trans (completeOpt ..)

theorem fadeEnds (s : State) (f : Nat) : AlphasOnly s (s.fadeEnds f) := by
  unfold State.fadeEnds
  extract_lets v s1
  exact ((setFadeBase ..).trans (setFld _ _ _ _ (by decide) (by decide)) : AlphasOnly s s1).trans (fadeDone ..)

theorem fadeSuperseded (s : State) (f out : Nat) : AlphasOnly s (s.fadeSuperseded f out) :=
  ((setFld s (o := oLightCnt) _ _ _ (by decide) (by decide)).trans (raise ..)).trans (fadeDone ..)

theorem fadeUnbound (s : State) (f : Nat) : AlphasOnly s (s.fadeUnbound f) := (setFadeStatus ..).trans (fadeSuperseded ..)

theorem fadeSettle (s : State) (f tick : Nat) : AlphasOnly s (s.fadeSettle f tick) := ite (fadeEnds ..) (refl s)

theorem fadeBegins (s : State) (f : Nat) : AlphasOnly s (s.fadeBegins f) := by
  unfold State.fadeBegins
  extract_lets v tick s0 x holder same under src start
  have h0 : AlphasOnly s s0 := by
    simp only [s0]
    split
    · exact fadeSettle ..
    · exact refl s
  have hstart : ∀ a, AlphasOnly a (start a) := fun a =>
    ((setFade a f _).trans (setFadeStatus ..)).trans (setFld _ _ _ _ (by decide) (by decide))
  split
  · exact h0.trans (fadeEnds ..)
  split
  · exact h0.trans (fadeSuperseded ..)
  clear_value start src under same holder
  cases holder with
  | none => exact h0.trans (hstart _)
  | some b =>
    have hloser : AlphasOnly s (if same = true then s0.fadeUnbound b else s0.fadeSuperseded b (s0.fadeOut b)) :=
      ite (h0.trans (fadeUnbound ..)) (h0.trans (fadeSuperseded ..))
    exact ite (h0.trans (fadeSuperseded ..)) (hloser.trans (hstart _))

theorem fadeArmed (s : State) (f : Nat) (task : Option Nat) : AlphasOnly s (s.fadeArmed f task) := by
  unfold State.fadeArmed
  extract_lets v x s1 s2
  have h1 : AlphasOnly s s1 := (setFade ..).trans (setFadeStatus ..)
  have h2 : AlphasOnly s s2 := h1.trans ((setFld s1 _ _ _ (by decide) (by decide)).trans (setFld _ _ _ _ (by decide) (by decide)))
  exact ite (h2.trans (fadeEnds s2 f)) (ite (h2.trans (fadeBegins s2 f)) h2)

theorem fadeDrained (s : State) (f : Nat) : AlphasOnly s (s.fadeDrained f) := by
  unfold State.fadeDrained
  extract_lets x s1
  have h1 : AlphasOnly s s1 := (setFadeStatus ..).trans (setFade ..)
  split
  · exact h1
  · exact h1.trans (fadeArmed ..)

/-- A sampling of a target. -/
theorem sampled (s : State) (kind i : Nat) : AlphasOnly s (s.sampled kind i) := foldl fadeDrained _ s

/-- The last running consumer of a target has stopped. -/
theorem drainCheck (s : State) : AlphasOnly s s.drainCheck := foldl fadeDrained _ s

end AlphasOnly

end Sys2Proof.Machine
end

section
/-! SUPPORT. The instants of a head's picture (R143, R144, R187, R192 to R194, R196, R209, R212): the cut line, a line that matches or runs
under, and the last active pixel. -/

namespace Sys2Proof.Machine

variable {s t : State} {h : Nat}

/-! ## The cut line (R143, R144, R187) -/

/-- The timing row in force and the cut instant depend on the objects and on the head. -/
theorem State.timing_congr (hod : t.od = s.od) (hx : t.head h = s.head h) : t.timing h = s.timing h := by
  simp only [State.timing, State.headState, State.fld_congr hod, State.row_congr hod, hx]

theorem State.cutAt_congr (hod : t.od = s.od) (hx : t.head h = s.head h) : t.cutAt h = s.cutAt h := by
  simp only [State.cutAt, State.lineTime, State.timing_congr hod hx, hx]

@[simp] theorem advanceTb_cutAt (s : State) (at_ : Rat) (h : Nat) : (s.advanceTb at_).cutAt h = s.cutAt h :=
  State.cutAt_congr (advanceTb_od ..) (advanceTb_head ..)

section
variable {c : Commit} {at_ : Rat}

/-- A commit armed at the cut instant or after it waits for the next one (R189). -/
theorem walk_late (hle : at_ ≤ c.armedAt) : s.walk h at_ [c] = ([c], false) := if_pos hle

theorem walk_fixes (hlt : c.armedAt < at_) (hf : c.fixed = false) (hr : s.commitReady h at_ c = true) :
    s.walk h at_ [c] = ([s.fixCommit h c], false) := by
  simp [State.walk, not_le.mpr hlt, hf, hr]

theorem walk_holds (hlt : c.armedAt < at_) (hf : c.fixed = false) (hr : s.commitReady h at_ c = false) :
    s.walk h at_ [c] = ([c], true) := by
  simp [State.walk, not_le.mpr hlt, hf, hr]

end

/-- A walk of the queue of a head without an enable commit: the cut line has passed, and a commit held is counted and is an event. -/
theorem cutNow_walks {q : List Commit} {held : Bool} (hh : h < 2) (he : (s.head h).enable = none)
    (hw : s.walk h (s.cutAt h) (s.head h).queue = (q, held)) :
    (s.cutNow h).head h = { s.head h with queue := q, cutPast := true } ∧
      (held = true → (s.cutNow h).raised (32 + 16 * h + 8) = true ∧
        (s.cutNow h).fld oHeadCnt h 3 = (s.fld oHeadCnt h 3 + 1) % 2 ^ 64) := by
  have hwait : (s.head h).waiting = (s.head h).queue := by rw [Head.waiting, he]; rfl
  have hcut : s.cutNow h = if held then ((s.setHead h { s.head h with queue := q, cutPast := true }).headCount h 3).fire h 8
      else s.setHead h { s.head h with queue := q, cutPast := true } := by
    unfold State.cutNow
    simp only [he, hwait, hw]
  rw [hcut]
  refine ⟨(countFire_head ..).trans (head_setHead_self ..), fun hheld => ?_⟩
  rw [if_pos hheld]
  exact ⟨fire_raised_self _ _ hh (by decide), (fire_fld _ _ _ _ _ (by decide)).trans ((headCount_fld_self ..).trans (by rw [setHead_fld]))⟩

theorem cutLine_walks {c : Commit} {u : State} (hh : h < 2) (hb : s.beforeCut h = true) (he : (s.head h).enable = none)
    (hq : (s.head h).queue = [c]) (hf : c.fixed = false) (hu : u = s.advanceTb (s.cutAt h)) :
    ∃ t, exec (.cutLine h) s = .next t ∧ (t.head h).cutPast = true ∧
      (s.cutAt h ≤ c.armedAt → (t.head h).queue = [c]) ∧
      (c.armedAt < s.cutAt h → u.commitReady h (s.cutAt h) c = true → (t.head h).queue = [u.fixCommit h c]) ∧
      (c.armedAt < s.cutAt h → u.commitReady h (s.cutAt h) c = false → (t.head h).queue = [c] ∧ t.raised (32 + 16 * h + 8) = true ∧
        t.fld oHeadCnt h 3 = (s.fld oHeadCnt h 3 + 1) % 2 ^ 64) := by
  refine ans_next (u := execCutLine h s) (fun _ _ h => h) ?_
  have hexec : execCutLine h s = u.cutNow h := by
    rw [execCutLine, if_neg (by simp [hb, hh]), hu]
  have hhead : u.head h = s.head h := by rw [hu, advanceTb_head]
  have hcut : u.cutAt h = s.cutAt h := by rw [hu, advanceTb_cutAt]
  have hcnt : u.fld oHeadCnt h 3 = s.fld oHeadCnt h 3 := by rw [hu, advanceTb_fld]
  have hwalk : ∀ q held, u.walk h (s.cutAt h) [c] = (q, held) → ((u.cutNow h).head h).cutPast = true ∧ ((u.cutNow h).head h).queue = q ∧
      (held = true → (u.cutNow h).raised (32 + 16 * h + 8) = true ∧
        (u.cutNow h).fld oHeadCnt h 3 = (s.fld oHeadCnt h 3 + 1) % 2 ^ 64) := by
    intro q held hw
    obtain ⟨hx, hheld⟩ := cutNow_walks (q := q) (held := held) hh (hhead ▸ he) (by rw [hcut, hhead, hq, hw])
    exact ⟨by rw [hx], by rw [hx], hcnt ▸ hheld⟩
  rw [hexec]
  by_cases hle : s.cutAt h ≤ c.armedAt
  · obtain ⟨hpast, hqueue, -⟩ := hwalk _ _ (walk_late hle)
    exact ⟨hpast, fun _ => hqueue, fun hlt => absurd hle (not_le.mpr hlt), fun hlt => absurd hle (not_le.mpr hlt)⟩
  · have hlt := not_le.mp hle
    cases hr : u.commitReady h (s.cutAt h) c with
    | true =>
      obtain ⟨hpast, hqueue, -⟩ := hwalk _ _ (walk_fixes hlt hf hr)
      exact ⟨hpast, fun k => absurd k hle, fun _ _ => hqueue, fun _ k => absurd k (by decide)⟩
    | false =>
      obtain ⟨hpast, hqueue, hheld⟩ := hwalk _ _ (walk_holds hlt hf hr)
      exact ⟨hpast, fun k => absurd k hle, fun _ k => absurd k (by decide), fun _ _ => ⟨hqueue, hheld rfl⟩⟩

/-! ## Lines (R192 to R194) -/

theorem lineMatch_begins {l : Nat} {at_ : Rat} (hh : h < 2) (hr : s.rasterRuns h = true) (hl : s.lineStart h l = some at_)
    (hlt : (s.head h).lineAt < at_) : ∃ t, exec (.lineMatch h l) s = .next t ∧ (t.head h).lineAt = at_ ∧
      (bit (s.head h).match0 15 = true → bits (s.head h).match0 12 0 = l → t.raised (32 + 16 * h + 1) = true) ∧
      (bit (s.head h).match1 15 = true → bits (s.head h).match1 12 0 = l → t.raised (32 + 16 * h + 2) = true) := by
  refine ans_next (u := execLineMatch h l s) (fun _ _ h => h) ?_
  unfold execLineMatch
  rw [if_neg (by simp [hh, hr]), hl]
  dsimp -zeta only
  rw [if_neg (not_le.mpr hlt)]
  extract_lets u x v hit w
  have hv : v.head h = { s.head h with lineAt := at_ } := by simp [v, x, u]
  have hw : w.head h = v.head h := by
    simp only [w]
    split
    · exact fire_head ..
    · rfl
  refine ⟨?_, fun h0 h1 => ?_, fun h0 h1 => ?_⟩
  · split
    · rw [fire_head, hw, hv]
    · rw [hw, hv]
  · have hev : w.raised (32 + 16 * h + 1) = true := by
      have hhit : hit (v.head h).match0 = true := by simp [hit, hv, h0, h1]
      simp only [w, if_pos hhit]
      exact fire_raised_self _ _ hh (by decide)
    split
    · exact fire_raised _ _ hev
    · exact hev
  · rw [if_pos (by simp [hit, hv, h0, h1])]
    exact fire_raised_self _ _ hh (by decide)

theorem underrun_shows {l col : Nat} (hh : h < 2) (hs : s.scanning h = true) (hl : l < tmVActive (s.timing h))
    (hc : col < tmHActive (s.timing h)) :
    ∃ t, exec (.underrun h l col) s = .next t ∧ (t.head h).underruns = (s.head h).underruns ++ [(l, col)] ∧
      ((s.head h).underruns = [] → t.raised (32 + 16 * h + 4) = true ∧ t.fld oHeadCnt h 6 = (s.fld oHeadCnt h 6 + 1) % 2 ^ 64) := by
  refine ans_next (u := execUnderrun h l col s) (fun _ _ h => h) ?_
  unfold execUnderrun
  extract_lets tm u x v w
  rw [if_neg (by simp [tm, hh, hs, hl, hc])]
  have hx : x = s.head h := advanceTb_head ..
  have hw : w.head h = v.head h := by
    simp only [w]
    split
    · rfl
    · exact headCount_head ..
  have hv : (v.head h).underruns = (s.head h).underruns ++ [(l, col)] := by simp [v, hx]
  refine ⟨?_, fun hn => ?_⟩
  · split
    · rw [fire_head, hw, hv]
    · rw [hw, hv]
  · have hcount : w = v.headCount h 6 := if_neg (by simp [hx, hn])
    rw [if_pos (by simp [hx, hn])]
    refine ⟨fire_raised_self _ _ hh (by decide), ?_⟩
    rw [fire_fld _ _ _ _ _ (by decide), hcount, headCount_fld_self, setHead_fld, advanceTb_fld]

/-! ## The last active pixel (R196, R209, R212) -/

theorem dramPut_shadowBase (s : State) (a : Nat) (bs : List Byte) : (s.dramPut a bs).shadowBase = s.shadowBase := by
  unfold State.dramPut
  extract_lets s1 mem word change
  exact (State.shadowBase_congr (s := s1) rfl rfl).trans (touchPages_shadowBase s a bs.length)

/-- Lines written one after another leave every byte below the shadow that lies in none of them. -/
theorem dramByte_putLines {a : Nat} (ha : a < s.shadowBase) (base : Nat → Nat) (line : Nat → List Byte) (js : List Nat)
    (hout : ∀ j ∈ js, a < base j ∨ base j + (line j).length ≤ a) :
    (js.foldl (fun u j => u.dramPut (base j) (line j)) s).dramByte a = s.dramByte a := by
  have hall := List.foldlRecOn (motive := fun u : State => u.shadowBase = s.shadowBase ∧ u.dramByte a = s.dramByte a) js
    (fun u j => u.dramPut (base j) (line j)) ⟨rfl, rfl⟩ fun u ⟨hbase, hbyte⟩ j hj =>
      ⟨(dramPut_shadowBase ..).trans hbase, (dramByte_dramPut_of_outside (ha.trans_eq hbase.symm) (hout j hj)).trans hbyte⟩
  exact hall.2

theorem writeBackFrame_idle (hb : (s.head h).wback.busy = none) : s.writeBackFrame h = s := by
  simp [State.writeBackFrame, hb]

section
variable {k first : Nat} (hb : (s.head h).wback.busy = some (k, first))
include hb

theorem writeBackFrame_written : ((s.writeBackFrame h).head h).wback.written = true := by
  unfold State.writeBackFrame
  rw [hb]
  dsimp only
  rw [head_setHead_self]

/-- The frame's pixels go into the lines of its Folio's region and nowhere else. -/
theorem writeBackFrame_outside {a : Nat} {f : Row} (ha : a < s.shadowBase) (hf : f = s.row oFolio (s.ringFolio (s.fld oWback h 0) k))
    (hout : ∀ j, j < f.getD 3 0 → a < f.getD 0 0 + j * f.getD 1 0 ∨ f.getD 0 0 + j * f.getD 1 0 + 4 * f.getD 2 0 ≤ a) :
    (s.writeBackFrame h).dramByte a = s.dramByte a := by
  subst hf
  unfold State.writeBackFrame
  rw [hb]
  generalize hd : s.drawNat = d
  obtain ⟨pad, u⟩ := d
  dsimp -zeta only
  extract_lets v f line s2 x
  have hu : u = s.drawNat.2 := by rw [hd]
  have hlen : ∀ j, (line j).length = 4 * f.getD 2 0 := fun j => by
    simp only [line, List.length_flatMap, length_leBytes, List.map_const', List.sum_replicate, List.length_range, smul_eq_mul]
    exact Nat.mul_comm ..
  have hbase : u.shadowBase = s.shadowBase := hu ▸ State.shadowBase_congr (s := s) rfl rfl
  have h2 : s2.dramByte a = u.dramByte a := dramByte_putLines (ha.trans_eq hbase.symm) (fun j => f.getD 0 0 + j * f.getD 1 0) line _ fun j hj => by
    rw [hlen]
    exact hout j (List.mem_range.mp hj)
  calc _ = s2.dramByte a := rfl
    _ = u.dramByte a := h2
    _ = s.dramByte a := by rw [hu]; rfl

end

theorem frameDone_places (hh : h < 2) (hs : s.scanning h = true) (hd : (s.head h).frameDone = false) :
    ∃ t, exec (.frameDone h) s = .next t ∧
    (t.head h).frameDone = true ∧ t.raised (32 + 16 * h + 3) = true ∧ ((s.head h).wback.busy = none → t.dram = s.dram) ∧
    ∀ k first f, (s.head h).wback.busy = some (k, first) → f = s.row oFolio (s.ringFolio (s.fld oWback h 0) k) →
      (t.head h).wback.written = true ∧ ∀ a, a < s.shadowBase →
        (∀ j, j < f.getD 3 0 → a < f.getD 0 0 + j * f.getD 1 0 ∨ f.getD 0 0 + j * f.getD 1 0 + 4 * f.getD 2 0 ≤ a) →
        t.dramByte a = s.dramByte a := by
  refine ans_next (u := execFrameDone h s) (fun _ _ h => h) ?_
  unfold execFrameDone
  rw [if_neg (by simp [hh, hs, hd])]
  extract_lets tm at_
  generalize hv : (s.advanceTb at_).countFetched h = v
  have hkeep : Keeps _ (s.advanceTb at_) v := hv ▸ State.countFetched_keeps ..
  have hhead : v.head h = s.head h := (hkeep.head_eq (by decide) h).trans (advanceTb_head ..)
  have hdram : v.dram = s.dram := (hkeep.dram_eq (by decide)).trans ((State.advanceTb_keeps s at_).dram_eq (by decide))
  have hrow : ∀ o r, o = oFolio ∨ o = oRing ∨ o = oWback → v.row o r = s.row o r := by
    rintro o r (rfl | rfl | rfl)
    · exact (hkeep.objs _ _ (by decide)).trans (advanceTb_row ..)
    · exact (hkeep.objs _ _ (by decide)).trans (advanceTb_row ..)
    · exact (hkeep.objs _ _ (by decide)).trans (advanceTb_row ..)
  have hinteg : v.integ = s.integ := (hkeep.integ_eq (by decide)).trans ((State.advanceTb_keeps s at_).integ_eq (by decide))
  unfold State.frameDoneNow
  rw [hv]
  extract_lets w x
  have hdone : ∀ y, (((w.setHead h y).fire h 3).dram = w.dram) := fun y => (State.fire_keeps ..).dram_eq (by decide)
  refine ⟨?_, fire_raised_self _ _ hh (by decide), fun hb => ?_, fun k first f hb hf => ⟨?_, fun a ha hout => ?_⟩⟩
  · rw [fire_head, head_setHead_self]
  · rw [hdone]
    simp only [w]
    rw [writeBackFrame_idle (hhead ▸ hb), hdram]
  · rw [fire_head, head_setHead_self]
    exact writeBackFrame_written (hhead ▸ hb)
  · have hshadow : v.shadowBase = s.shadowBase := State.shadowBase_congr (by rw [hinteg]) (by rw [hinteg])
    have hfolio : f = v.row oFolio (v.ringFolio (v.fld oWback h 0) k) := by
      rw [hf, hrow _ _ (.inl rfl), State.ringFolio, State.ringFolio, State.fld, State.fld, State.fld, State.fld,
        hrow _ _ (.inr (.inl rfl)), hrow _ _ (.inr (.inr rfl))]
    calc _ = w.dramByte a := congrArg (mget · a) (hdone _)
      _ = v.dramByte a := writeBackFrame_outside (hhead ▸ hb) (ha.trans_eq hshadow.symm) hfolio hout
      _ = s.dramByte a := congrArg (mget · a) hdram

end Sys2Proof.Machine
end

section
/-! SUPPORT. The start of vertical blanking (R138, R139, R163, R164, R172, R176, R188, R197): the frame counted, a fixed commit applied, and
what the cadence lock, the alphas and the freeze regions leave of it. -/

namespace Sys2Proof.Machine

variable {s t u : State} {h m : Nat}

/-! ## What the rest of a start of blanking leaves -/

/-- Of what a start of blanking shows of head h nothing has changed but the alphas. -/
structure BlankStays (s t : State) (h : Nat) : Prop where
  alphas : AlphasOnly s t
  state : t.headState h = s.headState h
  status : ∀ c, t.fld oCommitStatus h c = s.fld oCommitStatus h c
  timing : t.row oTimingActive h = s.row oTimingActive h
  compose : t.row oComposeActive h = s.row oComposeActive h
  inBlank : (t.head h).inBlank = (s.head h).inBlank
  queue : (t.head h).queue = (s.head h).queue

namespace BlankStays

theorem refl (s : State) (h : Nat) : BlankStays s s h := ⟨.refl s, rfl, fun _ => rfl, rfl, rfl, rfl, rfl⟩

theorem trans (a : BlankStays s t h) (b : BlankStays t u h) : BlankStays s u h where
  alphas := a.alphas.trans b.alphas
  state := b.state.trans a.state
  status c := (b.status c).trans (a.status c)
  timing := b.timing.trans a.timing
  compose := b.compose.trans a.compose
  inBlank := b.inBlank.trans a.inBlank
  queue := b.queue.trans a.queue

theorem foldl {α : Type} {f : State → α → State} (hf : ∀ s a, BlankStays s (f s a) h) (l : List α) (s : State) :
    BlankStays s (l.foldl f s) h := by
  induction l generalizing s with
  | nil => exact refl s h
  | cons a l ih => exact (hf s a).trans (ih _)

theorem of_keeps (k : Keeps m s t) (ha : AlphasOnly s t) (hd : m.testBit 18 = true) (h0 : m.testBit (32 + 0x220) = true)
    (h1 : m.testBit (32 + 0x211) = true) : BlankStays s t h where
  alphas := ha
  state := k.fld_eq h0 h 0
  status := k.fld_eq h0 h
  timing := k.objs _ h h0
  compose := k.objs _ h h1
  inBlank := congrArg Head.inBlank (k.head_eq hd h)
  queue := congrArg Head.queue (k.head_eq hd h)

theorem setHead {x : Head} (hb : x.inBlank = (s.head h).inBlank) (hq : x.queue = (s.head h).queue) : BlankStays s (s.setHead h x) h where
  alphas := ⟨.of_evt rfl, fun _ _ _ => setHead_fld .., fun _ _ _ => setHead_fld ..⟩
  state := setHead_fld ..
  status _ := setHead_fld ..
  timing := setHead_row ..
  compose := setHead_row ..
  inBlank := (congrArg Head.inBlank (head_setHead_self ..)).trans hb
  queue := (congrArg Head.queue (head_setHead_self ..)).trans hq

theorem setCadenceLock (s : State) (h : Nat) (v : Row) : BlankStays s (s.setRow oCadenceLock h v) h where
  alphas := .setRow s h v (by decide) (by decide)
  state := fld_setRow_of_ne _ _ _ _ _ (by decide)
  status _ := fld_setRow_of_ne _ _ _ _ _ (by decide)
  timing := row_setRow_of_ne _ _ fun k => absurd k.1 (by decide)
  compose := row_setRow_of_ne _ _ fun k => absurd k.1 (by decide)
  inBlank := congrArg Head.inBlank (setRow_head ..)
  queue := congrArg Head.queue (setRow_head ..)

theorem fire (s : State) (h off : Nat) : BlankStays s (s.fire h off) h :=
  of_keeps (State.fire_keeps ..) (.raise ..) (by decide) (by decide) (by decide)

theorem headCount (s : State) (h c : Nat) : BlankStays s (s.headCount h c) h :=
  of_keeps (State.headCount_keeps ..) (.setFld _ _ _ _ (by decide) (by decide)) (by decide) (by decide) (by decide)

theorem lockFrame (s : State) (h : Nat) : BlankStays s (s.lockFrame h) h := by
  unfold State.lockFrame
  extract_lets x tm b k locked was zero s1 s2
  have h1 : BlankStays s s1 h := setCadenceLock ..
  have hx : s1.head h = x := setRow_head ..
  have h2 : BlankStays s s2 h := h1.trans (setHead (by rw [hx]) (by rw [hx]))
  clear_value s2
  split
  · exact h2.trans ((headCount s2 h 7).trans (fire _ h 10))
  · exact h2

/-- The alphas of the coming frame are sampled, and stand in the layers' status. -/
theorem takeAlphas (s : State) (h : Nat) : BlankStays s (s.takeAlphas h) h := by
  have hreport : ∀ (v : State) (l n : Nat), AlphasOnly v (v.setFld oLayerStatus l 2 n) := fun v l n =>
    ⟨.of_evt rfl, fun _ _ hc => (fld_setFld ..).trans (if_neg fun k => hc k.2.2), fun _ _ _ => fld_setFld_of_ne _ _ _ _ _ _ (by decide)⟩
  exact of_keeps (State.takeAlphas_keeps s h) (.foldl (fun v l => (hreport v l _).trans (.sampled ..)) _ s)
    (by decide) (by decide) (by decide)

/-- A freeze region's update is counted and raised when it changes (R197). -/
theorem freezeOne_evs (s : State) (h i : Nat) : EventsStand s (s.freezeOne h i) := by
  unfold State.freezeOne
  extract_lets r v old adv was
  split
  · exact .refl s
  split
  · exact .refl s
  extract_lets c frozen s1 s2
  have h1 : EventsStand s s1 := .of_evt rfl
  have h2 : EventsStand s s2 := .ite (h1.trans (.of_keeps (State.headCount_keeps ..) (by decide))) h1
  exact .ite (h2.trans (.raise ..)) h2

theorem freezeOne (s : State) (h i : Nat) : BlankStays s (s.freezeOne h i) h :=
  of_keeps (State.freezeOne_keeps s h i) (.of_evs (State.freezeOne_keeps s h i) (freezeOne_evs s h i) (by decide))
    (by decide) (by decide) (by decide)

theorem freezeAll (s : State) (h : Nat) : BlankStays s (s.freezeAll h) h := by
  unfold State.freezeAll
  extract_lets s1
  have h1 : BlankStays s s1 h := foldl (f := fun u i => u.freezeOne h i) (freezeOne · h ·) (List.range 8) s
  clear_value s1
  exact h1.trans (setHead rfl rfl)

theorem drainCheck (s : State) (h : Nat) : BlankStays s s.drainCheck h :=
  of_keeps (State.drainCheck_keeps s) (.drainCheck s) (by decide) (by decide) (by decide)

theorem keepTail (s : State) (h : Nat) : BlankStays s (s.keepTail h) h := by
  unfold State.keepTail
  extract_lets n
  split
  · exact setHead rfl rfl
  · exact .refl s h

theorem collBlanked (s : State) (h : Nat) (unlocked : Bool) : BlankStays s (s.collBlanked h unlocked) h :=
  of_keeps (State.collBlanked_keeps ..) (.of_keeps (State.collBlanked_keeps s h unlocked) (by decide) (by decide)) (by decide) (by decide) (by decide)

end BlankStays

end Sys2Proof.Machine
end

section
/-! SUPPORT. A start of vertical blanking of a running head (R138, R139, R188): the frame is counted, and a fixed commit applied. -/

namespace Sys2Proof.Machine

variable {s t u : State} {h : Nat}

/-! ## A commit applies (R138, R139, R188) -/

section
variable (s) (h) (c : Commit)

/-- A layer that comes onto head h with a Folio of its own. -/
theorem applyLayer_status {l : Nat} {v : Row} (hv : lyHead v = h + 1) (hm : lyRingMode v = false) :
    (s.applyLayer h c (l, v)).fld oLayerStatus l 0 = h + 1 ∧ (s.applyLayer h c (l, v)).fld oLayerStatus l 1 = lyFolio v := by
  unfold State.applyLayer
  extract_lets i x on folio cost old
  have hon : on = true := by simp [on, hv]
  have hfolio : folio = lyFolio v := by simp [folio, hon, hm]
  rw [State.fld, State.fld, hon, hfolio, row_setRow_self]
  simp only [getD_rput]
  exact ⟨rfl, rfl⟩

theorem applyLayer_active (l : Nat) (v : Row) {i : Nat} (hi : i ≠ 20) : (s.applyLayer h c (l, v)).fld oLayerActive l i = v.getD i 0 := by
  unfold State.applyLayer
  extract_lets l' x on folio cost old
  have hx : x.getD i 0 = v.getD i 0 := by
    simp only [x]
    split
    · rfl
    · simp [List.getD_eq_getElem?_getD, List.getElem?_set_ne (Ne.symm hi)]
  rw [fld_setRow_of_ne _ _ _ _ _ (by decide), State.fld, row_setRow_self, hx]

end

section
variable {c : Commit} (hc : c.task = none)
include hc

/-- Without a task a commit's last step writes rows only. -/
theorem applyCommit_row {o : Nat} (r : Nat) (ho : o ≠ oComposeActive) (ht : o ≠ oTimingActive) (hf : o ≠ oFetch) (hs : o ≠ oCommitStatus)
    (hn : o ≠ oHeadCnt) : (s.applyCommit h c).row o r = (c.layers.foldl (fun st e => st.applyLayer h c e) s).row o r := by
  unfold State.applyCommit
  extract_lets s1 s2 s3
  rw [hc, State.completeOpt, headCount_row _ _ _ _ hn, row_setFld_of_ne _ _ _ _ _ hs, row_setFld_of_ne _ _ _ _ _ hf,
    row_setFld_of_ne _ _ _ _ _ hf, row_setRow_of_ne _ _ fun k => ht k.1, row_setRow_of_ne _ _ fun k => ho k.1]

theorem applyCommit_timing : (s.applyCommit h c).row oTimingActive h = c.timing := by
  unfold State.applyCommit
  extract_lets s1 s2 s3
  rw [hc, State.completeOpt, headCount_row _ _ _ _ (by decide), row_setFld_of_ne _ _ _ _ _ (by decide),
    row_setFld_of_ne _ _ _ _ _ (by decide), row_setFld_of_ne _ _ _ _ _ (by decide), row_setRow_self]

theorem applyCommit_compose : (s.applyCommit h c).row oComposeActive h = c.compose := by
  unfold State.applyCommit
  extract_lets s1 s2 s3
  rw [hc, State.completeOpt, headCount_row _ _ _ _ (by decide), row_setFld_of_ne _ _ _ _ _ (by decide),
    row_setFld_of_ne _ _ _ _ _ (by decide), row_setFld_of_ne _ _ _ _ _ (by decide), row_setRow_of_ne _ _ fun k => absurd k.1 (by decide),
    row_setRow_self]

/-- The commit's number is the head's applied one. -/
theorem applyCommit_applied : (s.applyCommit h c).fld oCommitStatus h 2 = c.id := by
  unfold State.applyCommit
  extract_lets s1 s2 s3
  rw [hc, State.completeOpt, headCount_fld _ _ _ _ _ (by decide), fld_setFld_self]

end

@[simp] theorem applyCommit_head (s : State) (h i : Nat) (c : Commit) : (s.applyCommit h c).head i = s.head i :=
  (State.applyCommit_keeps s h c).head_eq (by decide) i

theorem applyCommits_head (s : State) (h : Nat) (due : List Commit) : (due.foldl (fun st c => st.applyCommit h c) s).head h = s.head h := by
  induction due generalizing s with
  | nil => rfl
  | cons c due ih => exact (ih _).trans (applyCommit_head s h h c)

/-! ## The frame is counted (R188, R213) -/

theorem countFrame_row (s : State) (h : Nat) {o : Nat} (r : Nat) (he : o ≠ 0x400000) (hn : o ≠ oHeadCnt) (hs : o ≠ oCommitStatus) :
    (s.countFrame h).row o r = s.row o r :=
  (fire_row _ _ _ _ he).trans ((headCount_row _ _ _ _ hn).trans (row_setFld_of_ne _ _ _ _ _ hs))

/-- Of the commits' status only FRAME has changed. -/
theorem countFrame_status (s : State) (h c : Nat) :
    (s.countFrame h).fld oCommitStatus h c = if c = 4 then (s.fld oCommitStatus h 4 + 1) % 2 ^ 32 else s.fld oCommitStatus h c := by
  unfold State.countFrame
  rw [fire_fld _ _ _ _ _ (by decide), headCount_fld _ _ _ _ _ (by decide), fld_setFld]
  simp

/-- What a start of blanking does once the queue has been emptied of the commits due: it applies them and counts the frame. -/
def State.blankCounts (s : State) (h : Nat) (due : List Commit) : State :=
  let s1 := ((due.foldl (fun st c => st.applyCommit h c) s).setFld oHeadState h 0 2).countFrame h
  if due.isEmpty then s1 else s1.fire h 5

section
variable (s) (h) (due : List Commit)

theorem blankCounts_row {o : Nat} (r : Nat) (he : o ≠ 0x400000) (hn : o ≠ oHeadCnt) (hs : o ≠ oCommitStatus) (hd : o ≠ oHeadState) :
    (s.blankCounts h due).row o r = (due.foldl (fun st c => st.applyCommit h c) s).row o r := by
  unfold State.blankCounts
  extract_lets s1
  have h1 : s1.row o r = _ := (countFrame_row _ h r he hn hs).trans (row_setFld_of_ne _ _ _ _ _ hd)
  split
  · exact h1
  · exact (fire_row _ _ _ _ he).trans h1

theorem blankCounts_status (c : Nat) : (s.blankCounts h due).fld oCommitStatus h c =
    if c = 4 then ((due.foldl (fun st c => st.applyCommit h c) s).fld oCommitStatus h 4 + 1) % 2 ^ 32
    else (due.foldl (fun st c => st.applyCommit h c) s).fld oCommitStatus h c := by
  unfold State.blankCounts
  extract_lets s1
  have h1 : s1.fld oCommitStatus h c = _ := countFrame_status _ h c
  rw [fld_setFld_of_ne _ _ _ _ _ _ (by decide), fld_setFld_of_ne _ _ _ _ _ _ (by decide)] at h1
  split
  · exact h1
  · exact (fire_fld _ _ _ _ _ (by decide)).trans h1

theorem blankCounts_state : (s.blankCounts h due).headState h = 2 := by
  unfold State.blankCounts
  extract_lets s1
  have h1 : s1.headState h = 2 :=
    (congrArg (·.getD 0 0) (countFrame_row _ h h (by decide) (by decide) (by decide))).trans (fld_setFld_self ..)
  split
  · exact h1
  · exact (fire_fld _ _ _ _ _ (by decide)).trans h1

theorem blankCounts_head : (s.blankCounts h due).head h = s.head h := by
  unfold State.blankCounts
  extract_lets s1
  have h1 : s1.head h = s.head h := by
    simp only [s1, State.countFrame, fire_head, headCount_head, setFld_head, applyCommits_head]
  split
  · exact h1
  · exact (fire_head ..).trans h1

theorem blankCounts_starts (hh : h < 2) : (s.blankCounts h due).raised (32 + 16 * h) = true := by
  unfold State.blankCounts
  extract_lets s1
  have h1 : s1.raised (32 + 16 * h) = true := fire_raised_self _ _ hh (by decide)
  split
  · exact h1
  · exact fire_raised _ _ h1

/-- A commit that applies is an event (R188). -/
theorem blankCounts_applies (hh : h < 2) (hd : due ≠ []) : (s.blankCounts h due).raised (32 + 16 * h + 5) = true := by
  unfold State.blankCounts
  extract_lets s1
  rw [if_neg (by simpa using hd)]
  exact fire_raised_self _ _ hh (by decide)

end

/-! ## The start of blanking (R172, R188) -/

theorem keepTail_waiting (s : State) (h : Nat) : ((s.keepTail h).head h).waiting = (s.head h).waiting := by
  unfold State.keepTail
  extract_lets n
  split
  · rw [head_setHead_self]
    rfl
  · rfl

/-- The commits due leave the queue, the head is in blanking, they apply and the frame is counted; the rest leaves all that as it is. -/
theorem blankRuns_counts (s : State) (h : Nat) : ∃ u : State, (u.head h).inBlank = true ∧
    (u.head h).queue = (s.head h).queue.filter (fun c => !c.fixed) ∧ (∀ c, u.fld oCommitStatus h c = s.fld oCommitStatus h c) ∧
    u.row oTimingActive h = s.row oTimingActive h ∧ u.row oComposeActive h = s.row oComposeActive h ∧
    BlankStays (u.blankCounts h ((s.head h).waiting.filter (fun c => c.fixed))) (s.blankRuns h) h := by
  have htail := BlankStays.keepTail s h
  have hwait := keepTail_waiting s h
  unfold State.blankRuns
  extract_lets s0 x due v lk s1 s2 s3 s4
  have hdue : due = (s.head h).waiting.filter (fun c => c.fixed) := congrArg (List.filter _) hwait
  have hblank : BlankStays v s1 h := .collBlanked ..
  have hv : v.head h = { x with enable := none, queue := x.queue.filter (fun c => !c.fixed), inBlank := true } := head_setHead_self ..
  have hcount : s4 = s1.blankCounts h due := rfl
  refine ⟨s1, ?_, ?_, fun c => ?_, ?_, ?_, ?_⟩
  · rw [hblank.inBlank, hv]
  · rw [hblank.queue, hv]
    exact congrArg (List.filter _) htail.queue
  · exact (hblank.status c).trans ((setHead_fld ..).trans (htail.status c))
  · exact hblank.timing.trans ((setHead_row ..).trans htail.timing)
  · exact hblank.compose.trans ((setHead_row ..).trans htail.compose)
  · rw [← hdue, ← hcount]
    exact (((BlankStays.lockFrame s4 h).trans (.takeAlphas _ h)).trans (.freezeAll _ h)).trans (.drainCheck _ h)

theorem blankNow_runs (hs : s.headState h = 2) : s.blankNow h = s.blankRuns h := by
  unfold State.blankNow
  rw [hs]
  rfl

section
variable (hh : h < 2) (hs : s.headState h = 2) (hx : (s.head h).stopped = false) (hb : (s.head h).inBlank = false)
  (hp : (s.head h).cutPast = true) (hd : (s.head h).frameDone = true)
include hh hs hx hb hp hd

/-- Past the cut line and the end of the picture, only the start of blanking is left. -/
theorem execVblankStart_runs : execVblankStart h s = (s.advanceTb (s.head h).nextBlank).blankRuns h := by
  unfold execVblankStart
  extract_lets x sa sb
  rw [if_neg (by simp [x, hh, hs, hx, hb])]
  have ha : sa = s := if_neg (by simp [State.beforeCut, hp])
  have hsb : sb = s := by simp [sb, ha, hd]
  rw [hsb]
  exact blankNow_runs ((advanceTb_fld ..).trans hs)

variable (he : (s.head h).enable = none)
include he

theorem vblankStart_counts (hq : (s.head h).queue = []) :
    ∃ t, exec (.vblankStart h) s = .next t ∧ t.headState h = 2 ∧ (t.head h).inBlank = true ∧
      t.fld oCommitStatus h 4 = (s.fld oCommitStatus h 4 + 1) % 2 ^ 32 ∧ t.raised (32 + 16 * h) = true ∧
      t.row oTimingActive h = s.row oTimingActive h ∧ t.row oComposeActive h = s.row oComposeActive h := by
  refine ans_next (u := execVblankStart h s) (fun _ _ h => h) ?_
  rw [execVblankStart_runs hh hs hx hb hp hd]
  obtain ⟨u, hin, -, hst, htm, hcp, hstays⟩ := blankRuns_counts (s.advanceTb (s.head h).nextBlank) h
  rw [advanceTb_head, Head.waiting, he, hq] at hstays
  replace hstays : BlankStays (u.blankCounts h []) _ h := hstays
  refine ⟨?_, ?_, ?_, ?_, ?_, ?_⟩
  · rw [hstays.state, blankCounts_state]
  · rw [hstays.inBlank, blankCounts_head, hin]
  · rw [hstays.status, blankCounts_status, if_pos rfl, List.foldl_nil, hst, advanceTb_fld]
  · exact hstays.alphas.evs.stands _ (blankCounts_starts _ _ _ hh)
  · rw [hstays.timing, blankCounts_row _ _ _ _ (by decide) (by decide) (by decide) (by decide), List.foldl_nil, htm, advanceTb_row]
  · rw [hstays.compose, blankCounts_row _ _ _ _ (by decide) (by decide) (by decide) (by decide), List.foldl_nil, hcp, advanceTb_row]

theorem vblankStart_applies {c : Commit} (hq : (s.head h).queue = [c]) (hf : c.fixed = true) (hc : c.task = none) :
    ∃ t, exec (.vblankStart h) s = .next t ∧ t.headState h = 2 ∧
      (t.head h).inBlank = true ∧ (t.head h).queue = [] ∧ t.fld oCommitStatus h 2 = c.id ∧ t.raised (32 + 16 * h) = true ∧
      t.raised (32 + 16 * h + 5) = true ∧ t.row oTimingActive h = c.timing ∧ t.row oComposeActive h = c.compose ∧
      ∀ l v, c.layers = [(l, v)] → lyHead v = h + 1 → lyRingMode v = false → t.fld oLayerStatus l 0 = h + 1 ∧
        t.fld oLayerStatus l 1 = lyFolio v ∧ ∀ i, i ≠ 20 → t.fld oLayerActive l i = v.getD i 0 := by
  refine ans_next (u := execVblankStart h s) (fun _ _ h => h) ?_
  rw [execVblankStart_runs hh hs hx hb hp hd]
  obtain ⟨u, hin, hqueue, -, -, -, hstays⟩ := blankRuns_counts (s.advanceTb (s.head h).nextBlank) h
  have hdue : ((s.advanceTb (s.head h).nextBlank).head h).waiting.filter (fun c => c.fixed) = [c] := by
    simp [Head.waiting, he, hq, hf]
  rw [hdue] at hstays
  generalize (s.advanceTb (s.head h).nextBlank).blankRuns h = t at hstays ⊢
  refine ⟨?_, ?_, ?_, ?_, ?_, ?_, ?_, ?_, fun l v hl hv hm => ?_⟩
  · rw [hstays.state, blankCounts_state]
  · rw [hstays.inBlank, blankCounts_head, hin]
  · rw [hstays.queue, blankCounts_head, hqueue, advanceTb_head, hq]
    simp [hf]
  · rw [hstays.status, blankCounts_status, if_neg (by decide)]
    exact applyCommit_applied hc
  · exact hstays.alphas.evs.stands _ (blankCounts_starts _ _ _ hh)
  · exact hstays.alphas.evs.stands _ (blankCounts_applies _ _ _ hh (List.cons_ne_nil c []))
  · rw [hstays.timing, blankCounts_row _ _ _ _ (by decide) (by decide) (by decide) (by decide)]
    exact applyCommit_timing hc
  · rw [hstays.compose, blankCounts_row _ _ _ _ (by decide) (by decide) (by decide) (by decide)]
    exact applyCommit_compose hc
  · have hrow : ∀ o r, o = oLayerStatus ∨ o = oLayerActive → (u.blankCounts h [c]).row o r = (u.applyLayer h c (l, v)).row o r := by
      intro o r ho
      have hn : o ≠ 0x400000 ∧ o ≠ oHeadCnt ∧ o ≠ oCommitStatus ∧ o ≠ oHeadState ∧ o ≠ oComposeActive ∧ o ≠ oTimingActive ∧ o ≠ oFetch := by
        rcases ho with rfl | rfl <;> decide
      obtain ⟨h0, h1, h2, h3, h4, h5, h6⟩ := hn
      rw [blankCounts_row _ _ _ _ h0 h1 h2 h3]
      refine (applyCommit_row hc r h4 h5 h6 h2 h1).trans ?_
      rw [hl]
      rfl
    obtain ⟨hhead, hfolio⟩ := applyLayer_status u h c (l := l) hv hm
    refine ⟨?_, ?_, fun i hi => ?_⟩
    · rw [hstays.alphas.status _ _ (by decide), State.fld, hrow _ _ (.inl rfl)]
      exact hhead
    · rw [hstays.alphas.status _ _ (by decide), State.fld, hrow _ _ (.inl rfl)]
      exact hfolio
    · rw [hstays.alphas.active _ _ hi, State.fld, hrow _ _ (.inr rfl)]
      exact applyLayer_active u h c l v hi

end

end Sys2Proof.Machine
end

section
/-! SUPPORT. Line 0 (R102, R103, R172, R206, R209, R223, R234): a frame begins, egress sends it, and writeback takes an entry of its ring or
overruns. -/

namespace Sys2Proof.Machine

variable {s t : State} {h r : Nat}

/-! ## The entry that a frame fills (R102, R103) -/

/-- The Folios of a head's commits and those of the layers on it. -/
theorem State.heldBy_eq (s : State) (h : Nat) : s.heldBy h =
    (s.head h).waiting.flatMap (fun c => c.folios ++ c.chosen.map (fun e => e.2)) ++
      ((List.range 32).filter (fun l => s.fld 0x210200 l 0 == h + 1)).map (fun l => s.fld 0x210200 l 1) := by
  unfold State.heldBy State.head tget
  cases tfind s.disp.heads h with
  | none => rfl
  | some x => rfl

/-- Which entry a new frame fills depends on the objects, on the rings' last entries and on the commits that wait. -/
theorem State.selectEntry_congr (hod : t.od = s.od) (hi : t.ingest = s.ingest) (hw : ∀ i, (t.head i).waiting = (s.head i).waiting) (r : Nat) :
    t.selectEntry r = s.selectEntry r := by
  simp only [State.selectEntry, State.folioHeld, State.heldBy_eq, hw, State.newest, State.ringComplete, State.ringCount, State.ringFolio,
    State.fld_congr hod, hi]

theorem waiting_setHead {x : Head} (hx : x.waiting = (s.head h).waiting) (i : Nat) : ((s.setHead h x).head i).waiting = (s.head i).waiting := by
  by_cases hi : i = h
  · rw [hi, head_setHead_self, hx]
  · exact congrArg Head.waiting (tget_tset_of_ne _ _ _ _ hi)

theorem setHead_selectEntry {x : Head} (hx : x.waiting = (s.head h).waiting) (r : Nat) : (s.setHead h x).selectEntry r = s.selectEntry r :=
  State.selectEntry_congr (s := s) (t := s.setHead h x) rfl rfl (waiting_setHead hx) r

theorem advanceTb_selectEntry (s : State) (at_ : Rat) (r : Nat) : (s.advanceTb at_).selectEntry r = s.selectEntry r :=
  State.selectEntry_congr (advanceTb_od ..) ((State.advanceTb_keeps s at_).ingest_eq (by decide))
    (fun i => congrArg Head.waiting (advanceTb_head s i at_)) r

/-! ## Egress (R206) -/

theorem egressLineZero_row (s : State) (h o i : Nat) : (s.egressLineZero h).row o i = s.row o i := by
  unfold State.egressLineZero
  split
  · exact setEgress_row ..
  · rfl

theorem egressLineZero_fld (s : State) (h o i c : Nat) : (s.egressLineZero h).fld o i c = s.fld o i c :=
  congrArg (·.getD c 0) (egressLineZero_row s h o i)

theorem egressLineZero_selectEntry (s : State) (h r : Nat) : (s.egressLineZero h).selectEntry r = s.selectEntry r := by
  unfold State.egressLineZero State.setEgress
  split
  · apply setHead_selectEntry
    rfl
  · rfl

/-- Of head h nothing has changed but its egress. -/
theorem egressLineZero_head (s : State) (h : Nat) : ∃ e, (s.egressLineZero h).head h = { s.head h with egress := e } := by
  unfold State.egressLineZero
  split
  · exact ⟨_, head_setEgress ..⟩
  · exact ⟨_, rfl⟩

theorem egressLineZero_sends (hs : s.fld oEgressState h 0 = 1) : ((s.egressLineZero h).head h).egress.sending = true := by
  unfold State.egressLineZero
  rw [if_pos hs, head_setEgress]

/-! ## Writeback (R209, R210) -/

theorem OnlyWback.wbackOverrun (s : State) (h : Nat) : OnlyWback s (s.wbackOverrun h) h :=
  .of_head ((fire_head ..).trans (headCount_head ..))

theorem OnlyWback.wbackAbandon (s : State) (h : Nat) : OnlyWback s (s.wbackAbandon h) h := by
  unfold State.wbackAbandon
  extract_lets w s1
  exact (OnlyWback.setWback s h _ : OnlyWback s s1 h).trans (wbackOff_ite _ _ _)

theorem OnlyWback.wbackLineZero (s : State) (h : Nat) : OnlyWback s (s.wbackLineZero h) h := by
  unfold State.wbackLineZero
  extract_lets s1 r
  have h1 : OnlyWback s s1 h := by
    simp only [s1]
    split
    · exact (OnlyWback.wbackOverrun s h).trans (.wbackAbandon ..)
    · exact .refl s h
  clear_value s1
  split
  · exact h1
  split
  · exact h1.trans (.wbackOverrun ..)
  · rename_i k _
    have htake : OnlyWback s1 (s1.takeEntry r k) h := .of_head (State.head_congr (s := s1) (t := s1.takeEntry r k) rfl h)
    exact (h1.trans htake).trans (.setWback ..)

section
variable (hs : s.fld oWbackState h 0 = 1) (hb : (s.head h).wback.busy = none)
include hs hb

/-- No entry of the ring is free: the frame is an overrun. -/
theorem wbackLineZero_overruns (hk : s.selectEntry (s.fld oWback h 0) = none) : s.wbackLineZero h = s.wbackOverrun h := by
  simp [State.wbackLineZero, hb, hs, hk]

theorem wbackLineZero_takes {k : Nat} (hk : s.selectEntry (s.fld oWback h 0) = some k) :
    ((s.wbackLineZero h).head h).wback.busy.map Prod.fst = some k := by
  simp [State.wbackLineZero, hb, hs, hk]

end

/-! ## The Collator (R223, R224, R234) -/

namespace EventsStand

theorem mapSwitchDue (s : State) (h : Nat) : EventsStand s (s.mapSwitchDue h) := by
  have hswitch : EventsStand s (s.mapSwitch h) := by
    unfold State.mapSwitch
    extract_lets c s1 qs
    have h1 : EventsStand s s1 := of_evt rfl
    exact (h1.trans (foldl (fun u q => of_keeps (State.setQuire_keeps u q _) (by decide)) qs s1)).trans (raise ..)
  unfold State.mapSwitchDue
  split
  · exact ite hswitch (refl s)
  · exact refl s

theorem sampled (s : State) (kind i : Nat) : EventsStand s (s.sampled kind i) := (AlphasOnly.sampled s kind i).evs

theorem snapshotTaken (s : State) (h : Nat) (p : Snapshot) : EventsStand s (s.snapshotTaken h p) := by
  unfold State.snapshotTaken
  extract_lets mine s1 s2
  have h1 : EventsStand s s1 := foldl (f := fun st e => st.setRow oMasterEff e.1 e.2) (fun u e => of_evt rfl) mine s
  have h2 : EventsStand s1 s2 := foldl (fun u q => (sampled u 2 q).trans (foldl (fun v i => sampled v 3 (16 * q + i)) _ _)) _ _
  exact (h1.trans h2).trans (foldl (fun u r => sampled u 4 r) _ _)

/-- The sets that wait for line 0 are cleared, and the Collator's frame begins: no event of the head is lost. -/
theorem collLineZero (s : State) (h : Nat) (z b : Rat) : EventsStand s (s.collLineZero h z b) := by
  unfold State.collLineZero
  extract_lets s0 qs p s1 s2 fr c
  have h1 : EventsStand s s1 := (mapSwitchDue s h).trans (snapshotTaken ..)
  have h2 : EventsStand s1 s2 := foldl (fun u q => of_keeps (State.clearDue_keeps u q) (by decide)) _ s1
  exact (h1.trans h2).trans (of_keeps (State.setColl_keeps ..) (by decide))

end EventsStand

/-! ## Line 0 of a head (R172, R198) -/

theorem lineZero_begins (hh : h < 2) (hs : s.headState h = 2) (hb : (s.head h).inBlank = true) :
    ∃ t, exec (.lineZero h) s = .next t ∧
    (t.head h).inBlank = false ∧ (t.head h).cutPast = false ∧ (t.head h).frameDone = false ∧ (t.head h).underruns = [] ∧
    (s.fld oEgressState h 0 = 1 → (t.head h).egress.sending = true) ∧
    (s.fld oWbackState h 0 = 1 → (s.head h).wback.busy = none → s.selectEntry (s.fld oWback h 0) = none →
      t.raised (32 + 16 * h + 13) = true ∧ t.fld oHeadCnt h 11 = (s.fld oHeadCnt h 11 + 1) % 2 ^ 64) ∧
    (∀ k, s.fld oWbackState h 0 = 1 → (s.head h).wback.busy = none → s.selectEntry (s.fld oWback h 0) = some k →
      (t.head h).wback.busy.map Prod.fst = some k) := by
  refine ans_next (u := execLineZero h s) (fun _ _ h => h) ?_
  unfold execLineZero
  rw [if_neg (by simp [hh, hs, hb])]
  extract_lets z u x v
  have hx : x = s.head h := advanceTb_head ..
  have hv : v.head h = { x with inBlank := false, cutPast := false, frameDone := false, underruns := [],
                                shot := some { od := u.od, dram := u.dram } } := head_setHead_self ..
  have hfld : ∀ o c, (v.egressLineZero h).fld o h c = s.fld o h c := fun o c =>
    (egressLineZero_fld ..).trans ((setHead_fld ..).trans (advanceTb_fld ..))
  have hbegun : ∀ r, v.selectEntry r = u.selectEntry r := by
    apply setHead_selectEntry
    rfl
  have hsel : ∀ r, (v.egressLineZero h).selectEntry r = s.selectEntry r := fun r =>
    (egressLineZero_selectEntry ..).trans ((hbegun r).trans (advanceTb_selectEntry ..))
  obtain ⟨e, he⟩ := egressLineZero_head v h
  obtain ⟨w, hw⟩ := OnlyWback.wbackLineZero (v.egressLineZero h) h
  have hbusy : (s.head h).wback.busy = none → ((v.egressLineZero h).head h).wback.busy = none := fun k => by rw [he, hv, hx]; exact k
  generalize hcoll : ((v.egressLineZero h).wbackLineZero h).collLineZero h z x.nextBlank = t
  have hkeep : Keeps _ ((v.egressLineZero h).wbackLineZero h) t := hcoll ▸ State.collLineZero_keeps ..
  have hstand : EventsStand ((v.egressLineZero h).wbackLineZero h) t := hcoll ▸ .collLineZero ..
  have hhead : t.head h = { v.head h with egress := e, wback := w } := by rw [hkeep.head_eq (by decide), hw, he]
  refine ⟨?_, ?_, ?_, ?_, fun hon => ?_, fun hon hn hk => ?_, fun k hon hn hk => ?_⟩
  · rw [hhead, hv]
  · rw [hhead, hv]
  · rw [hhead, hv]
  · rw [hhead, hv]
  · rw [hkeep.head_eq (by decide), hw]
    exact egressLineZero_sends (((setHead_fld ..).trans (advanceTb_fld ..)).trans hon)
  · have hover := wbackLineZero_overruns (s := v.egressLineZero h) (h := h) ((hfld ..).trans hon) (hbusy hn)
      (by rw [hsel, hfld, hk])
    rw [hover] at hkeep hstand
    refine ⟨hstand.stands _ (fire_raised_self _ _ hh (by decide)), ?_⟩
    rw [hkeep.fld_eq (by decide), State.wbackOverrun, fire_fld _ _ _ _ _ (by decide), headCount_fld_self, hfld]
  · rw [hkeep.head_eq (by decide)]
    exact wbackLineZero_takes ((hfld ..).trans hon) (hbusy hn) (by rw [hsel, hfld, hk])

/-- Settles O38, instant by instant: the walk of the queue at the cut line, the start of blanking as the applied commits, the frame's
count and what leaves both alone, and line 0 as egress, writeback and the Collator in turn. -/
theorem frameCommands : Obligations.FrameCommands :=
  ⟨fun _ _ _ _ => cutLine_walks,
    fun _ _ hh hs hx hb hp hd he => ⟨vblankStart_counts hh hs hx hb hp hd he, fun _ => vblankStart_applies hh hs hx hb hp hd he⟩,
    fun _ _ => lineZero_begins, fun _ _ _ _ => lineMatch_begins, fun _ _ _ _ => underrun_shows, fun _ _ => frameDone_places⟩

end Sys2Proof.Machine
end

section
/-! SUPPORT. A run of bytes written into the Vault outside the cells and contexts (R22, R23, R531). -/

namespace Sys2Proof.Machine

variable {a : Nat} {bs : List Byte} {s t u : State}

/-- The parts that a byte of the Vault is read from: the Vault's own bytes, the contexts of Weir and of flows, and the cells. -/
abbrev vaultMask : Nat := 0x26010

/-- From s to t the bytes bs have been written into the Vault at a, and no byte of its other parts. -/
structure VaultWritten (a : Nat) (bs : List Byte) (s t : State) : Prop where
  vault : t.vault = msets s.vault a bs
  cells : t.net.cells = s.net.cells
  saved : t.weir.saved = s.weir.saved
  contexts : t.ingest.contexts = s.ingest.contexts

namespace VaultWritten

theorem vaultPut (s : State) (a : Nat) (bs : List Byte) : VaultWritten a bs s (s.vaultPut a bs) := ⟨rfl, rfl, rfl, rfl⟩

theorem after (k : Keeps vaultMask s t) (w : VaultWritten a bs t u) : VaultWritten a bs s u where
  vault := by rw [w.vault, k.vault_eq (by decide)]
  cells := by rw [w.cells, k.net_eq (by decide)]
  saved := by rw [w.saved, k.weir_eq (by decide)]
  contexts := by rw [w.contexts, k.ingest_eq (by decide)]

theorem followed (w : VaultWritten a bs s t) (k : Keeps vaultMask t u) : VaultWritten a bs s u where
  vault := by rw [k.vault_eq (by decide), w.vault]
  cells := by rw [k.net_eq (by decide), w.cells]
  saved := by rw [k.weir_eq (by decide), w.saved]
  contexts := by rw [k.ingest_eq (by decide), w.contexts]

/-- The run reads as it was written, and every other byte of the Vault as before. -/
theorem shows (w : VaultWritten a bs s t) :
    t.vaultGet a bs.length = bs ∧ ∀ b, (b < a ∨ a + bs.length ≤ b) → t.vaultByte b = s.vaultByte b := by
  refine ⟨?_, fun b hb => vaultByte_congr w.cells w.saved (fun _ => by rw [w.contexts]) ?_⟩
  · rw [State.vaultGet, w.vault, mgets_msets_self]
  · rw [w.vault, mget_msets_of_outside hb]

end VaultWritten

end Sys2Proof.Machine
end

section
/-! SUPPORT. The Collator's entries (R229 to R233): what reading, counting and a share leave, an entry without fault and one that its
deadline has passed. -/

namespace Sys2Proof.Machine

variable {s t : State} {h i : Nat} {f : CollFrame} {e : MapEntry}

/-! ## The frame that passes (R229, R231) -/

/-- Once its last entry has been processed a frame no longer passes; until then it does. -/
theorem Coll.passing_pass (c : Coll) (g : CollFrame) : (c.pass g).passing = if g.done then (c.pass g).frame else some g := by
  unfold Coll.pass Coll.passing
  by_cases hprev : c.prev.any (fun f => !f.done) = true
  · cases hg : g.done <;> simp [hprev, hg]
  · cases hg : g.done <;> simp [hprev]

@[simp] theorem collOf_setColl_self (s : State) (h : Nat) (x : Coll) : (s.setColl h x).collOf h = x := tget_tset_self ..

@[simp] theorem setColl_fld (s : State) (h : Nat) (x : Coll) (o r c : Nat) : (s.setColl h x).fld o r c = s.fld o r c := State.fld_congr rfl

@[simp] theorem setColl_raised (s : State) (h : Nat) (x : Coll) (e : Nat) : (s.setColl h x).raised e = s.raised e := State.raised_congr rfl

/-! ## What an entry is read from -/

/-- Map entries stand in DRAM, in the active segment. -/
theorem State.mapEntry_congr (hd : t.dram = s.dram) (ho : t.od = s.od) (h i : Nat) : t.mapEntry h i = s.mapEntry h i := by
  simp only [State.mapEntry, State.dramWord, State.dramGet, hd, State.fld_congr ho]

@[simp] theorem advanceTb_mapEntry (s : State) (at_ : Rat) (h i : Nat) : (s.advanceTb at_).mapEntry h i = s.mapEntry h i :=
  State.mapEntry_congr ((State.advanceTb_keeps s at_).dram_eq (by decide)) (advanceTb_od s at_) h i

/-- Where the share of an entry goes: into the back set of its strand (R23, R224). -/
abbrev State.shareAt (s : State) (e : MapEntry) : Nat := strandBuf (1 - s.frontSet (e.strand / 16)) e.strand + e.offset

theorem advanceTb_shareAt (s : State) (at_ : Rat) (e : MapEntry) : (s.advanceTb at_).shareAt e = s.shareAt e := by
  simp only [State.shareAt, State.frontSet, advanceTb_fld]

theorem putShare_written (s : State) (e : MapEntry) (bs : List Byte) :
    VaultWritten (s.shareAt e) bs s (s.putShare e.strand e.offset bs) := .vaultPut ..

theorem putShare_fld (s : State) (st offset : Nat) (bs : List Byte) (o r c : Nat) :
    (s.putShare st offset bs).fld o r c = s.fld o r c := vaultPut_fld ..

/-! ## Counts (R247, R541) -/

theorem raiseIf_fld (s : State) (b : Bool) {o : Nat} (e r c : Nat) (ho : o ≠ 0x400000) : (s.raiseIf b e).fld o r c = s.fld o r c := by
  cases b
  · rfl
  · exact raise_fld s e r c ho

/-- Reading DRAM counts no more than the unwritten words. -/
theorem dramRead_fld (s : State) (x n : Nat) {o : Nat} (r c : Nat) (ho : o ≠ 0x431000) : (s.dramRead x n).fld o r c = s.fld o r c := by
  unfold State.dramRead
  extract_lets bad k
  split
  · rfl
  · exact fld_setFld_of_ne s _ _ _ _ _ ho

/-- Clips are counted in their own column. -/
theorem countClips_entries (s : State) (h : Nat) (f : CollFrame) (n : Nat) :
    (s.countClips h f n).2.fld oCollCnt h 0 = s.fld oCollCnt h 0 := by
  unfold State.countClips
  extract_lets total ovr
  rw [raiseIf_fld _ _ _ _ _ (by decide), add_fld, if_neg (by simp)]

/-! ## An entry without fault (R229, R230, R233) -/

/-- The state in which entry i of head h's map has been read, with its calibration record where it is of the CANVAS, and counted. -/
def State.entryRead (s : State) (h i : Nat) : State :=
  let read := s.dramRead (s.fld oMapActive h 0 + 16 * i) 16
  (if (s.mapEntry h i).kind = 1 then read.dramRead (s.fld oMapActive h 1 + 24 * i) 24 else read).bump oCollCnt h 0

theorem entryRead_keeps (s : State) (h i : Nat) : Keeps vaultMask s (s.entryRead h i) := by
  have hread : Keeps vaultMask s (s.dramRead (s.fld oMapActive h 0 + 16 * i) 16) := (State.dramRead_keeps ..).weaken (by decide)
  exact Keeps.bump (by decide) (.ite (.step (State.dramRead_keeps ..) (by decide) hread) hread)

/-- Of the objects but the unwritten words' counts, reading an entry counts it. -/
theorem entryRead_fld (s : State) (h i : Nat) {o : Nat} (r c : Nat) (ho : o ≠ 0x431000) : (s.entryRead h i).fld o r c =
    if o = oCollCnt ∧ r = h ∧ c = 0 then (s.fld oCollCnt h 0 + 1) % 2 ^ 64 else s.fld o r c := by
  unfold State.entryRead
  extract_lets read
  have hread : ∀ p r c, p ≠ 0x431000 →
      (if (s.mapEntry h i).kind = 1 then read.dramRead (s.fld oMapActive h 1 + 24 * i) 24 else read).fld p r c = s.fld p r c := by
    intro p r c hp
    split <;> simp only [read, dramRead_fld _ _ _ _ _ hp]
  rw [bump_fld, hread o r c ho, hread oCollCnt h 0 (by decide)]

theorem entryRead_shareAt (s : State) (h i : Nat) (e : MapEntry) : (s.entryRead h i).shareAt e = s.shareAt e := by
  rw [State.shareAt, State.frontSet, entryRead_fld _ _ _ _ _ (by decide), if_neg fun k => absurd k.1 (by decide)]
  rfl

/-- An entry without fault: it is counted, and its share is written into the back set of its strand. -/
theorem collateOne_shares {bs : List Byte} (he : e = s.mapEntry h i) (hk : e.kind ≠ 0) (hf : s.entryFault h f e = .none)
    (hq : f.fills (e.strand / 16) = true) (hbs : bs = (s.entryShare h i { f with runMax := max f.runMax e.key } e).1) :
    (s.collateOne h f i).1.cursor = f.cursor ∧
      (s.collateOne h f i).2.fld oCollCnt h 0 = (s.fld oCollCnt h 0 + 1) % 2 ^ 64 ∧
      VaultWritten (s.shareAt e) bs s (s.collateOne h f i).2 := by
  subst he
  unfold State.collateOne
  extract_lets e q zeroed read s0 f0 bad r s1 s2 f1 s3
  rw [if_neg hk]
  simp only [show s.entryFault h f e = .none from hf]
  have hs1 : s1 = (s.entryRead h i).putShare e.strand e.offset bs := (if_pos hq).trans (by rw [hbs]; rfl)
  have hput : VaultWritten (s.shareAt e) bs s s1 := by
    rw [hs1, ← entryRead_shareAt s h i]
    exact (putShare_written ..).after (entryRead_keeps ..)
  have hrest : Keeps vaultMask s1 (s3.countClips h f1 r.2).2 := by
    have h2 : Keeps vaultMask s1 s2 := .step (State.raiseIf_keeps ..) (by decide) (.add (by decide) .refl)
    exact .step (State.countClips_keeps ..) (by decide) (.ite (.step (State.setColl_keeps ..) (by decide) h2) h2)
  have hcount : s3.fld oCollCnt h 0 = s1.fld oCollCnt h 0 := by
    have h2 : s2.fld oCollCnt h 0 = s1.fld oCollCnt h 0 := by
      rw [raiseIf_fld _ _ _ _ _ (by decide), add_fld, if_neg (by simp)]
    simp only [s3]
    split
    · rw [setColl_fld, h2]
    · exact h2
  refine ⟨rfl, ?_, hput.followed hrest⟩
  rw [countClips_entries, hcount, hs1, putShare_fld, entryRead_fld _ _ _ _ _ (by decide), if_pos ⟨rfl, rfl, rfl⟩]

theorem collateEntry_shares {n : Nat} {bs : List Byte} {u : State} (hp : (s.collOf h).passing = some f) (hd : f.done = false)
    (hn : n = s.fld oMapActive h 2) (hc : f.cursor < n) (he : e = s.mapEntry h f.cursor) (hk : e.kind ≠ 0)
    (hlate : s.tbNow < entryDeadline f e) (hu : u = s.advanceTb (entryTime f e)) (hf : u.entryFault h f e = .none)
    (hq : f.fills (e.strand / 16) = true) (hbs : bs = (u.entryShare h f.cursor { f with runMax := max f.runMax e.key } e).1) :
    ∃ t, exec (.collateEntry h) s = .next t ∧ ∃ g, (t.collOf h).passing = (if n ≤ f.cursor + 1 then (t.collOf h).frame else some g) ∧
      (f.cursor + 1 < n → g.cursor = f.cursor + 1) ∧ t.fld oCollCnt h 0 = (s.fld oCollCnt h 0 + 1) % 2 ^ 64 ∧
      t.vaultGet (s.shareAt e) bs.length = bs ∧
      ∀ a, (a < s.shareAt e ∨ s.shareAt e + bs.length ≤ a) → t.vaultByte a = s.vaultByte a := by
  refine ans_next (u := execCollateEntry h s) (fun _ _ h => h) ?_
  have heu : e = u.mapEntry h f.cursor := by rw [hu, advanceTb_mapEntry, he]
  obtain ⟨hcursor, hcount, hwritten⟩ := collateOne_shares heu hk hf hq hbs
  rw [hu, advanceTb_shareAt, ← hu] at hwritten
  have hexec : execCollateEntry h s = (u.collateOne h f f.cursor).2.setColl h
      (((u.collateOne h f f.cursor).2.collOf h).pass ((u.collateOne h f f.cursor).1.next n)) := by
    unfold execCollateEntry
    simp only [hp, ← he, ← hn, if_neg hk, ← hu]
    rw [if_neg (by simp [hd, hc]), if_neg fun k => absurd k.2.2 (not_le.mpr hlate)]
  rw [hexec]
  generalize u.collateOne h f f.cursor = r at hcursor hcount hwritten
  have hshare : VaultWritten (s.shareAt e) bs s (r.2.setColl h ((r.2.collOf h).pass (r.1.next n))) :=
    (hwritten.after (hu ▸ (State.advanceTb_keeps ..).weaken (by decide))).followed ((State.setColl_keeps ..).weaken (by decide))
  refine ⟨r.1.next n, ?_, fun _ => congrArg (· + 1) hcursor, ?_, hshare.shows⟩
  · rw [collOf_setColl_self, Coll.passing_pass]
    simp only [CollFrame.next, hcursor, decide_eq_true_eq]
  · rw [setColl_fld, hcount, hu, advanceTb_fld]

/-! ## An entry that its deadline has passed (R231) -/

/-- The state in which entry e of frame f has got zero codes at its deadline and is counted as late. -/
def State.entryLate (s : State) (h : Nat) (f : CollFrame) (e : MapEntry) : State :=
  ((((s.advanceTb (entryDeadline f e)).putShare e.strand e.offset (List.replicate (shareBytes (f.snap.layout e.layout)) 0#8)).bump
    oCollCnt h 0).bump oCollCnt h 8).raiseIf (!f.late) 75

theorem execSampleLate_late {n : Nat} (hp : (s.collOf h).passing = some f) (hd : f.done = false) (hn : n = s.fld oMapActive h 2)
    (hc : f.cursor < n) (he : e = s.mapEntry h f.cursor) (hk : e.kind ≠ 0) (horder : f.runMax ≤ e.key)
    (hstate : s.quireState (e.strand / 16) ≠ 0) (hhead : s.qHead (e.strand / 16) = h)
    (hfits : e.offset + shareBytes (f.snap.layout e.layout) ≤ payloadLen (s.row oStrand e.strand))
    (hq : f.fills (e.strand / 16) = true) :
    ∃ g, execSampleLate h s = (s.entryLate h f e).setColl h (((s.entryLate h f e).collOf h).pass g) := by
  unfold execSampleLate
  simp only [hp, ← he, ← hn]
  rw [if_neg (by simp [hd, hc, hk, horder]), if_pos (by
    simp only [State.quireState, State.qHead, advanceTb_fld, advanceTb_row] at hstate hhead ⊢
    simp [hstate, hhead, hfits, hq])]
  exact ⟨_, rfl⟩

theorem entryLate_written (s : State) (h : Nat) (f : CollFrame) (e : MapEntry) :
    VaultWritten (s.shareAt e) (List.replicate (shareBytes (f.snap.layout e.layout)) 0#8) s (s.entryLate h f e) := by
  rw [← advanceTb_shareAt s (entryDeadline f e)]
  exact ((putShare_written ..).after ((State.advanceTb_keeps ..).weaken (by decide))).followed
    (.step (State.raiseIf_keeps ..) (by decide) (.bump (by decide) (.bump (by decide) .refl)))

/-- A late entry counts as an entry, and as late. -/
theorem entryLate_counts (s : State) (f : CollFrame) (e : MapEntry) {c : Nat} (hc : c = 0 ∨ c = 8) :
    (s.entryLate h f e).fld oCollCnt h c = (s.fld oCollCnt h c + 1) % 2 ^ 64 := by
  rw [State.entryLate, raiseIf_fld _ _ _ _ _ (by decide)]
  obtain rfl | rfl := hc <;> simp [bump_fld, putShare_fld]

/-- The first late entry of a frame raises event 75. -/
theorem entryLate_raised (s : State) (h : Nat) (e : MapEntry) (hl : f.late = false) : (s.entryLate h f e).raised 75 = true := by
  rw [State.entryLate, hl]
  exact raised_raise_self _ _ (by decide)

theorem sampleLate_zeroes {n b : Nat} (hp : (s.collOf h).passing = some f) (hd : f.done = false) (hn : n = s.fld oMapActive h 2)
    (hc : f.cursor < n) (he : e = s.mapEntry h f.cursor) (hk : e.kind ≠ 0) (horder : f.runMax ≤ e.key)
    (hstate : s.quireState (e.strand / 16) ≠ 0) (hhead : s.qHead (e.strand / 16) = h) (hb : b = shareBytes (f.snap.layout e.layout))
    (hfits : e.offset + b ≤ payloadLen (s.row oStrand e.strand)) (hq : f.fills (e.strand / 16) = true) :
    ∃ t, exec (.sampleLate h) s = .next t ∧ t.fld oCollCnt h 0 = (s.fld oCollCnt h 0 + 1) % 2 ^ 64 ∧
      t.fld oCollCnt h 8 = (s.fld oCollCnt h 8 + 1) % 2 ^ 64 ∧ (f.late = false → t.raised 75 = true) ∧
      t.vaultGet (s.shareAt e) b = List.replicate b 0#8 ∧
      ∀ a, (a < s.shareAt e ∨ s.shareAt e + b ≤ a) → t.vaultByte a = s.vaultByte a := by
  refine ans_next (u := execSampleLate h s) (fun _ _ h => h) ?_
  subst hb
  obtain ⟨g, hexec⟩ := execSampleLate_late hp hd hn hc he hk horder hstate hhead hfits hq
  rw [hexec]
  have hzeroes := (entryLate_written s h f e).followed
    ((State.setColl_keeps _ h (((s.entryLate h f e).collOf h).pass g)).weaken (by decide))
  exact ⟨(setColl_fld ..).trans (entryLate_counts s f e (.inl rfl)), (setColl_fld ..).trans (entryLate_counts s f e (.inr rfl)),
    fun hl => (setColl_raised ..).trans (entryLate_raised s h e hl), by simpa using hzeroes.shows⟩

/-- Settles O40: both commands end in one write into the back set, which leaves the rest of the Vault; what stands before and after it
is the reading, the counts, the events and the frame's cursor. -/
theorem collationCommands : Obligations.CollationCommands :=
  ⟨fun _ _ _ _ _ _ _ hp hd hn hc he hk _ hlate hu hf hq hbs =>
      have ⟨t, ht, g, hg⟩ := collateEntry_shares hp hd hn hc he hk hlate hu hf hq hbs
      ⟨t, g, ht, hg⟩,
    fun _ _ _ _ _ _ => sampleLate_zeroes⟩

end Sys2Proof.Machine
end

section
/-! SUPPORT. A command of SETUP completes while one of the device's own frames waits (R267, R270, R274, R298, R301): both frames are
counted. -/

namespace Sys2Proof.Machine

/-- A request in SETUP whose one command frame, without a return window, is on the lines. -/
def sentRequest : Request := { Request.fresh 1024 0 with sent := true, ret := false }

/-- The state after reset, but Quire 0 is in SETUP with that request, and a wiring trim for strand 0 waits until its frame has left. -/
def trimWaits : State :=
  ((State.reset.setFld oQuireState 0 0 2).setTask 0 { Task.init with handle := 1024, state := 3 }).setQuire 0
    { Quire.init with requests := [sentRequest], broadcasts := [{ at_ := 0, strand := 0, opcode := 3, arg := 0 }] }

/-- What a command answers has the objects of its effect. -/
theorem fld_of_ans {s t u : State} (h : ans s u = .next t) (o r c : Nat) : t.fld o r c = u.fld o r c := by
  rw [← Host.Outcome.next.inj h]
  exact State.fld_congr rfl

/-- The trim goes out as the request's frame ends, so that two frames are counted under COMMANDS. -/
theorem trimWaits_counts_both : (execCamegRequestDone 0 trimWaits).fld oQuireCnt 0 1 = 2 := by decide +kernel

/-- Refutes O44, in its clause of a command frame that has been sent: where one of the device's own frames waits, COMMANDS counts that one
as well, and not the request's alone. -/
theorem not_requestCommands : ¬ Obligations.RequestCommands := by
  rintro ⟨-, -, hdone⟩
  obtain ⟨-, hsent, -⟩ := hdone 0 sentRequest [] trimWaits (by decide) (by decide +kernel) (by decide +kernel)
  obtain ⟨t, ht, -, -, -, hcount, -⟩ := hsent (by decide +kernel) rfl rfl rfl (by decide +kernel)
  have htwo : t.fld oQuireCnt 0 1 = 2 := (fld_of_ans ht oQuireCnt 0 1).trans trimWaits_counts_both
  have hzero : trimWaits.fld oQuireCnt 0 1 = 0 := by decide +kernel
  rw [htwo, hzero] at hcount
  exact absurd hcount (by decide)

end Sys2Proof.Machine
end

section
/-! SUPPORT. Quires and strands (R292 to R302): what a reader of either depends on, and what the shared operations leave of a Quire's
course and of a strand's frame. -/

namespace Sys2Proof.Machine

variable {s t u : State} {m q : Nat}

/-! ## One Quire, one strand -/

theorem Keeps.quire_eq (k : Keeps m s t) (hm : m.testBit 20 = true) (q : Nat) : t.quire q = s.quire q :=
  congrArg (tget Quire.init · q) (k.quires_eq hm)

theorem Keeps.strand_eq (k : Keeps m s t) (hm : m.testBit 21 = true) (st : Nat) : t.strand st = s.strand st :=
  congrArg (tget Strand.init · st) (k.strands_eq hm)

theorem quire_setQuire (s : State) (q r : Nat) (x : Quire) : (s.setQuire q x).quire r = if r = q then x else s.quire r := tget_tset ..

@[simp] theorem quire_setQuire_self (s : State) (q : Nat) (x : Quire) : (s.setQuire q x).quire q = x := tget_tset_self ..

theorem strand_setStrand (s : State) (i j : Nat) (x : Strand) : (s.setStrand i x).strand j = if j = i then x else s.strand j := tget_tset ..

@[simp] theorem strand_setStrand_self (s : State) (i : Nat) (x : Strand) : (s.setStrand i x).strand i = x := tget_tset_self ..

/-- What a step of a fold sets, and every step leaves, holds after the fold. -/
theorem foldl_sets {α : Type} {P : State → Prop} {f : State → α → State} {l : List α} {a : α} (ha : a ∈ l) (hset : ∀ u, P (f u a))
    (hkeep : ∀ u b, P u → P (f u b)) (s : State) : P (l.foldl f s) := by
  induction l generalizing s with
  | nil => cases ha
  | cons b l ih =>
    rcases List.mem_cons.mp ha with rfl | hl
    · exact List.foldlRecOn l f (hset s) fun u hu b _ => hkeep u b hu
    · exact ih hl _

/-! ## The course of a Quire -/

/-- A Quire without its summary causes, the frames of the device that wait in it, its signatures, what its buffer sets wait for, and the
time of its taps. -/
def Quire.course (x : Quire) : Quire :=
  { x with sum := 0, broadcasts := [], sigs := [], clearBack := false, clearFront := false, tapAt := 0 }

/-- Every Quire is where it was in its course, and no summary cause is lost. -/
structure SameCourse (s t : State) : Prop where
  course : ∀ q, (t.quire q).course = (s.quire q).course
  sum : ∀ q b, (s.quire q).sum.testBit b = true → (t.quire q).sum.testBit b = true

namespace SameCourse

theorem refl (s : State) : SameCourse s s := ⟨fun _ => rfl, fun _ _ h => h⟩

theorem trans (a : SameCourse s t) (b : SameCourse t u) : SameCourse s u :=
  ⟨fun q => (b.course q).trans (a.course q), fun q i h => b.sum q i (a.sum q i h)⟩

theorem of_quires (h : t.quires = s.quires) : SameCourse s t := by
  have hq : ∀ q, t.quire q = s.quire q := fun q => congrArg (tget Quire.init · q) h
  exact ⟨fun q => by rw [hq], fun q b k => by rwa [hq]⟩

theorem of_keeps (k : Keeps m s t) (hm : m.testBit 20 = true) : SameCourse s t := of_quires (k.quires_eq hm)

theorem ite {c : Prop} [Decidable c] {a b : State} (ha : SameCourse s a) (hb : SameCourse s b) : SameCourse s (if c then a else b) := by
  split <;> assumption

theorem foldl {α : Type} {f : State → α → State} (hf : ∀ s a, SameCourse s (f s a)) (l : List α) (s : State) :
    SameCourse s (l.foldl f s) := List.foldlRecOn l f (refl s) fun _ hu a _ => hu.trans (hf _ a)

theorem setQuire {x : Quire} (hc : x.course = (s.quire q).course) (hs : ∀ b, (s.quire q).sum.testBit b = true → x.sum.testBit b = true) :
    SameCourse s (s.setQuire q x) where
  course r := by
    rw [quire_setQuire]
    split
    case isTrue h => rw [h, hc]
    case isFalse => rfl
  sum r b h := by
    rw [quire_setQuire]
    split
    case isTrue e => exact hs b (e ▸ h)
    case isFalse => exact h

theorem quireSum (s : State) (q b : Nat) : SameCourse s (s.quireSum q b) := by
  unfold State.quireSum
  extract_lets x
  have hset : SameCourse s (s.setQuire q { x with sum := setBit x.sum b }) := setQuire rfl fun i hi => by
    have hi : x.sum.testBit i = true := hi
    simp [setBit, hi]
  exact ite (refl s) (hset.trans (of_keeps (State.raise_keeps ..) (by decide)))

theorem setQuireState (s : State) (q n : Nat) : SameCourse s (s.setQuireState q n) :=
  ite (refl s) ((of_quires (setFld_quires ..)).trans (quireSum ..))

theorem requestDone (s : State) (q : Nat) (r : Request) (n : Nat) : SameCourse s (s.requestDone q r n) :=
  (of_keeps (State.completeTask_keeps ..) (by decide)).trans (quireSum ..)

end SameCourse

end Sys2Proof.Machine
end

section
/-! SUPPORT. A Quire enters a state (R243, R295, R296, R311, R322, R359): what it keeps, the pins it drives, the gain it owes. -/

namespace Sys2Proof.Machine

variable {s t u : State} {m q n : Nat}

/-! ## The state and its summary cause (R301) -/

theorem setQuireState_state (s : State) (q n : Nat) : (s.setQuireState q n).quireState q = n := by
  unfold State.setQuireState
  split
  · assumption
  · exact ((State.quireSum_keeps ..).fld_eq (by decide) q 0).trans (fld_setFld_self ..)

theorem setQuireState_row {o : Nat} (i : Nat) (ho : o ≠ oQuireState) (he : o / 4096 = 0x240) : (s.setQuireState q n).row o i = s.row o i := by
  unfold State.setQuireState
  split
  · rfl
  · exact ((State.quireSum_keeps ..).objs o i (by rw [he]; decide)).trans (row_setFld_of_ne _ _ _ _ _ ho)

theorem quireSum_sum (s : State) (q b : Nat) : ((s.quireSum q b).quire q).sum.testBit b = true := by
  unfold State.quireSum
  extract_lets x
  split
  · assumption
  · rw [(State.raise_keeps ..).quire_eq (by decide), quire_setQuire_self]
    simp [setBit]

theorem setQuireState_sum (h : s.quireState q ≠ n) : ((s.setQuireState q n).quire q).sum.testBit 0 = true := by
  rw [State.setQuireState, if_neg h]
  exact quireSum_sum ..

theorem setQuireState_power (s : State) (q n : Nat) : (s.setQuireState q n).power = s.power := (State.setQuireState_keeps ..).power_eq (by decide)

/-! ## Entering -/

/-- The objects of Quires and strands. -/
abbrev quireObjs : Nat := 0x100000000000000000000000000000000000000000000000000000000000000000000000000000000000000000000000000000000000000000000000000000000000000000000000000000000

/-- Those objects, and what a strand is beyond them. -/
abbrev strandParts : Nat := 0x100000000000000000000000000000000000000000000000000000000000000000000000000000000000000000000000000000000000000000000000000000000000000000000000000200000

theorem SameCourse.clearBoth (s : State) (q : Nat) : SameCourse s (s.clearBoth q) := by
  unfold State.clearBoth
  extract_lets s1
  have h1 : SameCourse s s1 := (of_keeps (State.clearSet_keeps ..) (by decide)).trans (of_keeps (State.clearSet_keeps ..) (by decide))
  exact h1.trans (setQuire rfl fun _ h => h)

theorem SameCourse.applyTaps (s : State) (q c : Nat) : SameCourse s (s.applyTaps q c) := by
  unfold State.applyTaps
  extract_lets todo one s1
  have hone : ∀ u p, SameCourse u (one u p) := fun u p => by
    simp only [one]
    split
    · exact refl u
    · exact of_quires rfl
  have h1 : SameCourse s s1 := (foldl hone todo s).trans (of_quires rfl)
  exact ite (refl s) (h1.trans (setQuire rfl fun _ h => h))

/-- The requests are gone, and nothing else of the course. -/
theorem dropRequests_course (s : State) (q : Nat) :
    SameCourse (s.setQuire q { s.quire q with requests := [] }) (s.dropRequests q) := .foldl (fun u r => .requestDone u q r _) _ _

/-- What goes before the change of state: the regions' cycles end, and the requests complete. -/
def State.quireLeft (s : State) (q n : Nat) : State :=
  let s1 := if s.quireState q = 3 ∧ n ≠ 3 then s.leaveRunning q else s
  if (s.quireState q = 2 ∧ n ≠ 2) ∨ n = 0 then s1.dropRequests q else s1

/-- A Quire that enters state n, with IDLE from `idle` on. -/
def Quire.entering (x : Quire) (n idle : Nat) : Quire :=
  { x with idleFrom := idle, nextK := if n = 1 ∨ n = 3 ∨ n = 4 then x.nextK else none, frames := if n = 3 ∨ n = 4 then x.frames else 0,
           inFrame := if n = 4 then x.inFrame else false, window := if n = 4 then x.window else none,
           broadcasts := if n = 4 then x.broadcasts else [] }

/-- What follows the change of state from `old` to n: a Quire that is enabled opens its pins and clears its sets, unless it is held by
the quench, and one that is OFF takes its taps. -/
def State.quireSettled (s : State) (q old n : Nat) (quench : Bool) : State :=
  let s1 := if old = 0 ∧ n ≠ 0 then ((if quench then s else s.driveQuire q).clearBoth q).bindFrames q else s
  if n = 0 then (s1.drainCheck).applyTaps q (strandCycle s1.clk.elapsed + 1) else s1

theorem quireTo_eq (s : State) (q n : Nat) : ∃ idle, s.quireTo q n =
    (((s.quireLeft q n).setQuire q (((s.quireLeft q n).quire q).entering n idle)).setQuireState q n).quireSettled q (s.quireState q) n
      s.twin.quenchBerm := ⟨_, rfl⟩

theorem quireLeft_keeps (s : State) (q n : Nat) : Keeps quireObjs s (s.quireLeft q n) := by
  unfold State.quireLeft
  extract_lets s1
  have h1 : Keeps quireObjs s s1 := .ite ((State.leaveRunning_keeps ..).weaken (by decide)) .refl
  exact .ite (.step (State.dropRequests_keeps ..) (by decide) h1) h1

/-- Of the course only the requests have changed. -/
theorem quireLeft_course (s : State) (q n : Nat) :
    ∃ rs, ((s.quireLeft q n).quire q).course = ({ s.quire q with requests := rs } : Quire).course := by
  unfold State.quireLeft
  extract_lets s1
  have h1 : s1.quire q = s.quire q :=
    (Keeps.ite ((State.leaveRunning_keeps ..).weaken (by decide)) .refl : Keeps 0x100000 s s1).quire_eq (by decide) q
  split
  · exact ⟨[], by rw [(dropRequests_course s1 q).course, quire_setQuire_self, h1]⟩
  · exact ⟨(s.quire q).requests, congrArg Quire.course h1⟩

theorem quireSettled_course (s : State) (q old n : Nat) (quench : Bool) : SameCourse s (s.quireSettled q old n quench) := by
  unfold State.quireSettled
  extract_lets s1
  have hpins : SameCourse s (if quench then s else s.driveQuire q) := .ite (.refl _) (.of_keeps (State.driveQuire_keeps ..) (by decide))
  have h1 : SameCourse s s1 :=
    .ite ((hpins.trans (.clearBoth ..)).trans (.of_keeps (State.bindFrames_keeps ..) (by decide))) (.refl _)
  exact .ite ((h1.trans (.of_keeps (State.drainCheck_keeps ..) (by decide))).trans (.applyTaps ..)) h1

/-- Strands and their objects are left alone. -/
theorem quireSettled_keeps (s : State) (q old n : Nat) (quench : Bool) : Keeps strandParts s (s.quireSettled q old n quench) := by
  unfold State.quireSettled
  extract_lets s1
  have hpins : Keeps strandParts s (if quench then s else s.driveQuire q) := .ite .refl ((State.driveQuire_keeps ..).weaken (by decide))
  have h1 : Keeps strandParts s s1 :=
    .ite (.step (State.bindFrames_keeps ..) (by decide) (.step (State.clearBoth_keeps ..) (by decide) hpins)) .refl
  exact .ite (.step (State.applyTaps_keeps ..) (by decide) (.step (State.drainCheck_keeps ..) (by decide) h1)) h1

/-- Quire q has entered state n: of its objects only the state is new, and it keeps what a drain and a latched mode go by. -/
structure QuireEnters (q n : Nat) (s t : State) : Prop where
  state : t.quireState q = n
  rows : ∀ o i, o ≠ oQuireState → o / 4096 = 0x240 → t.row o i = s.row o i
  changed : s.quireState q ≠ n → (t.quire q).sum.testBit 0 = true
  target : (t.quire q).target = (s.quire q).target
  latched : (t.quire q).latched = (s.quire q).latched
  frames : n = 3 ∨ n = 4 → (t.quire q).frames = (s.quire q).frames

theorem quireTo_enters (s : State) (q n : Nat) : QuireEnters q n s (s.quireTo q n) := by
  obtain ⟨idle, heq⟩ := quireTo_eq s q n
  obtain ⟨rs, hleft⟩ := quireLeft_course s q n
  rw [heq]
  generalize hx : (s.quireLeft q n).quire q = x at hleft ⊢
  have hobjs : Keeps quireObjs s ((s.quireLeft q n).setQuire q (x.entering n idle)) :=
    .step (State.setQuire_keeps ..) (by decide) (quireLeft_keeps ..)
  have hq : ((s.quireLeft q n).setQuire q (x.entering n idle)).quire q = x.entering n idle := quire_setQuire_self ..
  generalize (s.quireLeft q n).setQuire q (x.entering n idle) = u at hobjs hq ⊢
  have hend := quireSettled_course (u.setQuireState q n) q (s.quireState q) n s.twin.quenchBerm
  have hkeep := quireSettled_keeps (u.setQuireState q n) q (s.quireState q) n s.twin.quenchBerm
  generalize (u.setQuireState q n).quireSettled q (s.quireState q) n s.twin.quenchBerm = t at hend hkeep ⊢
  have hcourse : (t.quire q).course = (x.entering n idle).course := hq ▸ ((SameCourse.setQuireState u q n).trans hend).course q
  have htarget : x.target = (s.quire q).target := (congrArg Quire.target hleft :)
  have hlatched : x.latched = (s.quire q).latched := (congrArg Quire.latched hleft :)
  have hframes : x.frames = (s.quire q).frames := (congrArg Quire.frames hleft :)
  refine ⟨(hkeep.fld_eq (by decide) q 0).trans (setQuireState_state ..), fun o i ho he => ?_, fun h => ?_, ?_, ?_, fun h => ?_⟩
  · rw [hkeep.objs o i (by rw [he]; decide), setQuireState_row _ ho he, hobjs.objs o i (by rw [he]; decide)]
  · exact hend.sum q 0 (setQuireState_sum fun k => h (k ▸ (hobjs.fld_eq (by decide) q 0).symm))
  · exact (congrArg Quire.target hcourse :).trans htarget
  · exact (congrArg Quire.latched hcourse :).trans hlatched
  · exact ((congrArg Quire.frames hcourse :).trans (if_pos h)).trans hframes

/-- A Quire that is enabled drives its pins, unless the quench of Berm holds them (R631). -/
theorem quireTo_drives (h : s.quireState q = 0) (hn : n ≠ 0) : (s.quireTo q n).power.driven =
    if s.twin.quenchBerm = true then s.power.driven else s.power.driven ||| (65535 * 2 ^ (16 * q)) := by
  obtain ⟨idle, heq⟩ := quireTo_eq s q n
  have hleft : s.quireLeft q n = s := by simp [State.quireLeft, h, hn]
  have hopens : ∀ u : State, u.quireSettled q 0 n s.twin.quenchBerm =
      ((if s.twin.quenchBerm then u else u.driveQuire q).clearBoth q).bindFrames q := fun u =>
    (if_neg hn).trans (if_pos (And.intro rfl hn))
  rw [heq, hleft, h, hopens, (State.bindFrames_keeps ..).power_eq (by decide), (State.clearBoth_keeps ..).power_eq (by decide)]
  have hpower : ((s.setQuire q ((s.quire q).entering n idle)).setQuireState q n).power = s.power :=
    (setQuireState_power ..).trans ((State.setQuire_keeps ..).power_eq (by decide))
  split
  · rw [hpower]
  · rw [← hpower]
    rfl

/-- A Quire that leaves RUNNING owes each of its strands its gain (R322). -/
theorem quireTo_owes (h : s.quireState q = 3) (hn : n ≠ 3) {i : Nat} (hi : i < 16) :
    ((s.quireTo q n).strand (16 * q + i)).gainOwed = true := by
  obtain ⟨idle, heq⟩ := quireTo_eq s q n
  have howes : ((s.leaveRunning q).strand (16 * q + i)).gainOwed = true := by
    unfold State.leaveRunning
    extract_lets s1
    have h1 : (s1.strand (16 * q + i)).gainOwed = true :=
      foldl_sets (P := fun u => (u.strand (16 * q + i)).gainOwed = true) (List.mem_range.mpr hi)
        (fun u => by rw [strand_setStrand_self]) (fun u j hu => by
          rw [strand_setStrand]
          split
          · rfl
          · exact hu) s
    exact List.foldlRecOn (motive := fun u : State => (u.strand (16 * q + i)).gainOwed = true) _ _ h1 fun u hu r _ => by
      rwa [(State.regionCut_keeps ..).strand_eq (by decide)]
  have hleft : Keeps 0x200000 (s.leaveRunning q) (s.quireLeft q n) := by
    rw [State.quireLeft, if_pos (show s.quireState q = 3 ∧ n ≠ 3 from ⟨h, hn⟩)]
    exact .ite ((State.dropRequests_keeps ..).weaken (by decide)) .refl
  rw [heq, (quireSettled_keeps ..).strand_eq (by decide), (State.setQuireState_keeps ..).strand_eq (by decide),
    (State.setQuire_keeps ..).strand_eq (by decide), hleft.strand_eq (by decide), howes]

end Sys2Proof.Machine
end

section
/-! SUPPORT. Quire modes (R295 to R297, R301, R340): what a written mode comes to in each state, and the end of a drain. -/

namespace Sys2Proof.Machine

variable {s t u : State} {q v : Nat} {w : Bool}

/-! ## RUN pending (R297) -/

theorem setRunPending_pending (s : State) (q : Nat) (b : Bool) : (s.setRunPending q b).fld oQuireStatus q 3 = b2n b := fld_setFld_self ..

@[simp] theorem setRunPending_state (s : State) (q r : Nat) (b : Bool) : (s.setRunPending q b).quireState r = s.quireState r :=
  fld_setFld_of_ne _ _ _ _ _ _ (by decide)

theorem setRunPending_mode (s : State) (q r : Nat) (b : Bool) : (s.setRunPending q b).fld oQuireMode r 0 = s.fld oQuireMode r 0 :=
  fld_setFld_of_ne _ _ _ _ _ _ (by decide)

@[simp] theorem setRunPending_quire (s : State) (q r : Nat) (b : Bool) : (s.setRunPending q b).quire r = s.quire r :=
  (State.setRunPending_keeps ..).quire_eq (by decide) r

/-! ## What a written mode comes to (R295 to R297) -/

section
variable (w)

theorem quireModeTo_latches (h : s.quireState q = 4) (v : Nat) :
    s.quireModeTo q v w = (true, s.setQuire q { s.quire q with latched := some v }) := if_pos h

/-- Without a head the Quire waits in SETUP, RUN pending. -/
theorem quireModeTo_pends (h : s.quireState q = 0) (hh : s.headState (s.qHead q) = 0 ∨ s.headState (s.qHead q) = 3) :
    s.quireModeTo q 2 w = (true, (s.setRunPending q true).quireTo q 2) := by
  simp [State.quireModeTo, State.quireRun, h, hh]

section
variable (h : s.quireState q = 0 ∨ s.quireState q = 2) (hh : s.headState (s.qHead q) = 1 ∨ s.headState (s.qHead q) = 2)
include h hh

theorem quireModeTo_runs : s.quireModeTo q 2 w = s.quireRun q w := by
  rw [State.quireModeTo, if_neg (by omega), if_pos rfl]

theorem quireModeTo_starts (hc : s.headCheck q = true) : s.quireModeTo q 2 w = (true, s.quireStart q) := by
  rw [quireModeTo_runs w h hh, State.quireRun, if_neg (by omega), if_neg (by omega), if_pos hc]

theorem quireModeTo_refuses (hc : s.headCheck q = false) : s.quireModeTo q 2 true = (false, s) := by
  rw [quireModeTo_runs true h hh, State.quireRun, if_neg (by omega), if_neg (by omega), hc]
  rfl

end

theorem quireModeTo_setup (h : s.quireState q = 0) : s.quireModeTo q 1 w = (true, (s.setRunPending q false).quireTo q 2) := by
  simp [State.quireModeTo, h]

theorem quireModeTo_stays (h : s.quireState q = 2) : s.quireModeTo q 1 w = (true, s.setRunPending q false) := by
  simp [State.quireModeTo, h]

theorem quireModeTo_off (h : s.quireState q = 1) : s.quireModeTo q 0 w = (true, (s.setRunPending q false).quireTo q 0) := by
  simp [State.quireModeTo, h]

theorem quireModeTo_leaves (h : s.quireState q = 2) : s.quireModeTo q 0 w = (true, (s.setRunPending q false).quireDrain q 0) := by
  simp [State.quireModeTo, h]

theorem quireModeTo_drains (h : s.quireState q = 3) (hv : v ≠ 2) :
    s.quireModeTo q v w = (true, (s.setRunPending q false).quireDrain q (if v = 1 then 2 else 0)) := by
  rw [State.quireModeTo, h, if_neg (by decide), if_neg hv]
  split <;> simp [*]

end

/-! ## A drain begins (R295) -/

theorem quireDrain_setup (h : s.quireState q = 2) (hr : (s.quire q).requests = []) (n : Nat) : s.quireDrain q n =
    if s.clk.elapsed < (s.quire q).freeAt then (s.setQuire q { s.quire q with target := n }).quireTo q 4 else s.quireTo q n := by
  simp [State.quireDrain, h, hr]

theorem quireDrain_waits (h : s.quireState q = 3) (hf : (s.quire q).inFrame = true ∨ (s.quire q).window ≠ none) (n : Nat) :
    s.quireDrain q n = (s.setQuire q { s.quire q with target := n }).quireTo q 4 := by
  have hbusy : ((s.quire q).inFrame || (s.quire q).window.isSome) = true := by simpa [Option.isSome_iff_ne_none] using hf
  rw [State.quireDrain, h, if_neg (by decide)]
  exact if_pos hbusy

theorem quireDrain_atOnce (h : s.quireState q = 3) (hf : (s.quire q).inFrame = false) (hw : (s.quire q).window = none) (n : Nat) :
    s.quireDrain q n = s.quireTo q n := by
  simp [State.quireDrain, h, hf, hw]

/-! ## The write (R340, R447) -/

/-- The write of mode v to Quire q has been answered OK, over the state u that the mode brings: of the objects of Quires and strands
only the mode is new. -/
structure ModeSet (q v : Nat) (u t : State) : Prop where
  ans : Answers t stOk 0
  mode : t.fld oQuireMode q 0 = v
  objs : ∀ o i, o ≠ oQuireMode → o / 4096 = 0x240 → t.row o i = u.row o i
  quire : t.quire q = u.quire q
  strand : ∀ i, t.strand i = u.strand i
  power : t.power = u.power

theorem ModeSet.state (k : ModeSet q v u t) : t.quireState q = u.quireState q :=
  congrArg (·.getD 0 0) (k.objs oQuireState q (by decide) rfl)

theorem ModeSet.pending (k : ModeSet q v u t) : t.fld oQuireStatus q 3 = u.fld oQuireStatus q 3 :=
  congrArg (·.getD 3 0) (k.objs oQuireStatus q (by decide) rfl)

theorem Settled.modeSet (k : Settled (done (u.setFld oQuireMode q 0 v)) t) : ModeSet q v u t where
  ans := k.ans
  mode := (k.keeps.fld_eq (by decide) q 0).trans (fld_setFld_self ..)
  objs o i ho he := (k.keeps.objs o i (by rw [he]; decide)).trans (row_setFld_of_ne _ _ _ _ _ ho)
  quire := k.keeps.quire_eq (by decide) q
  strand := k.keeps.strand_eq (by decide)
  power := k.keeps.power_eq (by decide)

theorem writeQuireMode_tested (h : s.underTest q = true) (v : Nat) :
    writeQuireMode q v s = done ((s.setQuire q { s.quire q with latched := some v }).setFld oQuireMode q 0 v) := if_pos h

theorem writeQuireMode_done (h : s.underTest q = false) (hm : s.quireModeTo q v true = (true, u)) :
    writeQuireMode q v s = done (u.setFld oQuireMode q 0 v) := by
  simp [writeQuireMode, h, hm]

theorem writeQuireMode_refused (h : s.underTest q = false) (hm : s.quireModeTo q v true = (false, u)) :
    writeQuireMode q v s = refuse s stState := by
  simp [writeQuireMode, h, hm]

/-- A mode latched leaves the state as it is. -/
theorem setQuire_state (s : State) (q r : Nat) (x : Quire) : (s.setQuire q x).quireState r = s.quireState r := State.fld_congr rfl

/-! ## The clauses, and the obligation -/

/-- A write by which the Quire enters state n, once RUN pending has been set. -/
theorem ModeSet.entered {n : Nat} {b : Bool} (k : ModeSet q v ((s.setRunPending q b).quireTo q n) t) :
    t.quireState q = n ∧ t.fld oQuireStatus q 3 = b2n b ∧ (s.quireState q ≠ n → (t.quire q).sum.testBit 0 = true) := by
  have henters := quireTo_enters (s.setRunPending q b) q n
  refine ⟨k.state.trans henters.state, ?_, fun h => ?_⟩
  · have hrow := henters.rows oQuireStatus q (by decide) rfl
    exact k.pending.trans ((congrArg (·.getD 3 0) hrow).trans (setRunPending_pending ..))
  · rw [k.quire]
    exact henters.changed (by rwa [setRunPending_state])

theorem quireStart_enters (s : State) (q : Nat) : (s.quireStart q).quireState q = 1 ∧ (s.quireStart q).fld oQuireStatus q 3 = 0 ∧
    ((s.quireStart q).quire q).nextK = some ((s.quireCadence q).first (s.tbNow.ceil.toNat + 10000000)) ∧
    (s.quireState q ≠ 1 → ((s.quireStart q).quire q).sum.testBit 0 = true) := by
  have henters := quireTo_enters (s.setRunPending q false) q 1
  have hrow := henters.rows oQuireStatus q (by decide) rfl
  unfold State.quireStart
  extract_lets k s1
  refine ⟨(setQuire_state ..).trans henters.state, ?_, ?_, fun h => ?_⟩
  · exact (State.fld_congr rfl).trans ((congrArg (·.getD 3 0) hrow).trans (setRunPending_pending s q false))
  · rw [quire_setQuire_self]
  · rw [quire_setQuire_self]
    exact henters.changed (by rwa [setRunPending_state])

theorem quireMode_settles {o : Origin} {x : Row} (h : Passes s o 0x240200 q (fun d => numRow d v) x) :
    ∃ t, exec (.quireMode q v o) s = .next t ∧
      (s.underTest q = true → Answers t stOk 0 ∧ (t.quire q).latched = some v ∧ t.quireState q = s.quireState q) ∧
      (s.underTest q = false → s.quireState q = 4 → Answers t stOk 0 ∧ (t.quire q).latched = some v ∧ t.quireState q = 4) ∧
      (s.underTest q = false → s.quireState q = 0 → v = 1 → Answers t stOk 0 ∧ t.quireState q = 2 ∧ t.fld oQuireMode q 0 = 1 ∧
        t.fld oQuireStatus q 3 = 0 ∧ (t.quire q).sum.testBit 0 = true ∧
        t.power.driven = if s.twin.quenchBerm = true then s.power.driven else s.power.driven ||| (65535 * 2 ^ (16 * q))) ∧
      (s.underTest q = false → s.quireState q = 0 → v = 2 → (s.headState (s.qHead q) = 0 ∨ s.headState (s.qHead q) = 3) →
        Answers t stOk 0 ∧ t.quireState q = 2 ∧ t.fld oQuireMode q 0 = 2 ∧ t.fld oQuireStatus q 3 = 1) ∧
      (s.underTest q = false → (s.quireState q = 0 ∨ s.quireState q = 2) → v = 2 →
        (s.headState (s.qHead q) = 1 ∨ s.headState (s.qHead q) = 2) → s.headCheck q = true → Answers t stOk 0 ∧ t.quireState q = 1 ∧
        (t.quire q).nextK = some ((s.quireCadence q).first (s.tbNow.ceil.toNat + 10000000)) ∧ (t.quire q).sum.testBit 0 = true ∧
        t.fld oQuireStatus q 3 = 0) ∧
      (s.underTest q = false → (s.quireState q = 0 ∨ s.quireState q = 2) → v = 2 →
        (s.headState (s.qHead q) = 1 ∨ s.headState (s.qHead q) = 2) → s.headCheck q = false → Answers t stState 0 ∧
        t.quireState q = s.quireState q ∧ t.fld oQuireMode q 0 = s.fld oQuireMode q 0) ∧
      (s.underTest q = false → s.quireState q = 1 → v = 0 → Answers t stOk 0 ∧ t.quireState q = 0) ∧
      (s.underTest q = false → s.quireState q = 2 → v = 1 → Answers t stOk 0 ∧ t.quireState q = 2) ∧
      (s.underTest q = false → s.quireState q = 2 → v = 0 → (s.quire q).requests = [] → Answers t stOk 0 ∧
        t.quireState q = if s.clk.elapsed < (s.quire q).freeAt then 4 else 0) ∧
      (s.underTest q = false → s.quireState q = 3 → v ≠ 2 → ((s.quire q).inFrame = true ∨ (s.quire q).window ≠ none) →
        Answers t stOk 0 ∧ t.quireState q = 4 ∧ (t.quire q).target = if v = 1 then 2 else 0) ∧
      (s.underTest q = false → s.quireState q = 3 → v ≠ 2 → (s.quire q).inFrame = false → (s.quire q).window = none →
        Answers t stOk 0 ∧ (t.quireState q = if v = 1 then 2 else 0) ∧ ∀ i, i < 16 → (t.strand (16 * q + i)).gainOwed = true) := by
  obtain rfl := passes_num h rfl rfl rfl
  refine ans_next (u := s.request o 0x240200 q (fun d => numRow d v)) (fun _ _ h => h) ?_
  have k : Settled (writeQuireMode q v s) _ := request_of h hook_240200
  generalize s.request o 0x240200 q (fun d => numRow d v) = t at k
  have hset : ∀ {u}, s.underTest q = false → s.quireModeTo q v true = (true, u) → ModeSet q v u t := fun hu hm =>
    Settled.modeSet (writeQuireMode_done hu hm ▸ k)
  have hpend : (s.setRunPending q false).quireState q = s.quireState q := setRunPending_state ..
  refine ⟨fun hu => ?_, fun hu h4 => ?_, ?_, ?_, ?_, ?_, ?_, ?_, ?_, fun hu h3 hv hf => ?_, fun hu h3 hv hf hw => ?_⟩
  · rw [writeQuireMode_tested hu] at k
    exact ⟨k.ans, by rw [k.modeSet.quire, quire_setQuire_self], k.modeSet.state.trans (setQuire_state ..)⟩
  · have m := hset hu (quireModeTo_latches true h4 v)
    exact ⟨m.ans, by rw [m.quire, quire_setQuire_self], m.state.trans ((setQuire_state ..).trans h4)⟩
  · rintro hu h0 rfl
    have m := hset hu (quireModeTo_setup true h0)
    obtain ⟨hstate, hpending, hsum⟩ := m.entered
    exact ⟨m.ans, hstate, m.mode, hpending, hsum (by rw [h0]; decide),
      (congrArg Power.driven m.power).trans (quireTo_drives (hpend.trans h0) (by decide))⟩
  · rintro hu h0 rfl hh
    have m := hset hu (quireModeTo_pends true h0 hh)
    obtain ⟨hstate, hpending, -⟩ := m.entered
    exact ⟨m.ans, hstate, m.mode, hpending⟩
  · rintro hu h0 rfl hh hc
    have m := hset hu (quireModeTo_starts true h0 hh hc)
    obtain ⟨hstate, hpending, hnext, hsum⟩ := quireStart_enters s q
    exact ⟨m.ans, m.state.trans hstate, by rw [m.quire, hnext], by rw [m.quire, hsum (by omega)], m.pending.trans hpending⟩
  · rintro hu h0 rfl hh hc
    rw [writeQuireMode_refused hu (quireModeTo_refuses h0 hh hc)] at k
    exact ⟨k.ans, k.keeps.fld_eq (by decide) q 0, k.keeps.fld_eq (by decide) q 0⟩
  · rintro hu h1 rfl
    have m := hset hu (quireModeTo_off true h1)
    obtain ⟨hstate, -, -⟩ := m.entered
    exact ⟨m.ans, hstate⟩
  · rintro hu h2 rfl
    have m := hset hu (quireModeTo_stays true h2)
    exact ⟨m.ans, m.state.trans (hpend.trans h2)⟩
  · rintro hu h2 rfl hr
    have m := hset hu (quireModeTo_leaves true h2)
    have hclk : (s.setRunPending q false).clk = s.clk := (State.setRunPending_keeps ..).clk_eq (by decide)
    rw [quireDrain_setup (hpend.trans h2) (by rwa [setRunPending_quire]), setRunPending_quire, hclk] at m
    refine ⟨m.ans, m.state.trans ?_⟩
    split
    · exact (quireTo_enters ..).state
    · exact (quireTo_enters ..).state
  · have m := hset hu (quireModeTo_drains true h3 hv)
    rw [quireDrain_waits (hpend.trans h3) (by rwa [setRunPending_quire])] at m
    refine ⟨m.ans, m.state.trans (quireTo_enters ..).state, ?_⟩
    rw [m.quire, (quireTo_enters ..).target, quire_setQuire_self]
  · have m := hset hu (quireModeTo_drains true h3 hv)
    rw [quireDrain_atOnce (hpend.trans h3) (by rwa [setRunPending_quire]) (by rwa [setRunPending_quire])] at m
    refine ⟨m.ans, m.state.trans (quireTo_enters ..).state, fun i hi => ?_⟩
    rw [m.strand]
    exact quireTo_owes (hpend.trans h3) (by split <;> decide) hi

theorem advanceElapsed_state (s : State) (e q : Nat) : (s.advanceElapsed e).quireState q = s.quireState q :=
  (State.advanceElapsed_keeps ..).fld_eq (by decide) q 0

theorem quireDrainDone_enters (h4 : s.quireState q = 4) (hf : (s.quire q).inFrame = false) (hw : (s.quire q).window = none)
    (hl : (s.quire q).latched = none) : ∃ t, exec (.quireDrainDone q) s = .next t ∧ t.quireState q = (s.quire q).target := by
  refine ans_next (u := execQuireDrainDone q s) (fun _ _ h => h) ?_
  have hexec : execQuireDrainDone q s = ((s.advanceElapsed (s.quire q).freeAt).quireTo q (s.quire q).target).quireLatched q := by
    simp [execQuireDrainDone, h4, hf, hw]
  have henters := quireTo_enters (s.advanceElapsed (s.quire q).freeAt) q (s.quire q).target
  have hlatched := henters.latched
  rw [(State.advanceElapsed_keeps ..).quire_eq (by decide), hl] at hlatched
  rw [hexec, State.quireLatched, hlatched]
  exact henters.state

/-- Settles O41: a write by the mode that the chapter comes to in each state, each but a latched one by what entering a state brings; the
end of a drain enters its target. -/
theorem quireModes : Obligations.QuireModes :=
  ⟨fun _ _ _ _ _ => quireMode_settles, fun _ _ _ => quireDrainDone_enters⟩

end Sys2Proof.Machine
end

section
/-! SUPPORT. Frames that the Girum sends of its own (R268 to R271, R292, R322): what they leave of a strand's pixel frame. -/

namespace Sys2Proof.Machine

variable {s t u : State} {m q i k : Nat}

/-- Every strand has the pixel frame it last began, and the records of its window. -/
structure SameFrames (s t : State) : Prop where
  sentK : ∀ i, (t.strand i).sentK = (s.strand i).sentK
  payload : ∀ i, (t.strand i).payload = (s.strand i).payload
  got : ∀ i, (t.strand i).got = (s.strand i).got

namespace SameFrames

theorem refl (s : State) : SameFrames s s := ⟨fun _ => rfl, fun _ => rfl, fun _ => rfl⟩

theorem trans (a : SameFrames s t) (b : SameFrames t u) : SameFrames s u :=
  ⟨fun i => (b.sentK i).trans (a.sentK i), fun i => (b.payload i).trans (a.payload i), fun i => (b.got i).trans (a.got i)⟩

theorem of_strands (h : t.strands = s.strands) : SameFrames s t := by
  have hst : ∀ i, t.strand i = s.strand i := fun i => congrArg (tget Strand.init · i) h
  exact ⟨fun i => by rw [hst], fun i => by rw [hst], fun i => by rw [hst]⟩

theorem of_keeps (k : Keeps m s t) (hm : m.testBit 21 = true) : SameFrames s t := of_strands (k.strands_eq hm)

theorem ite {c : Prop} [Decidable c] {a b : State} (ha : SameFrames s a) (hb : SameFrames s b) : SameFrames s (if c then a else b) := by
  split <;> assumption

theorem foldl {α : Type} {f : State → α → State} (hf : ∀ s a, SameFrames s (f s a)) (l : List α) (s : State) :
    SameFrames s (l.foldl f s) := List.foldlRecOn l f (refl s) fun _ hu a _ => hu.trans (hf _ a)

theorem setStrand {x : Strand} (hk : x.sentK = (s.strand i).sentK) (hp : x.payload = (s.strand i).payload)
    (hg : x.got = (s.strand i).got) : SameFrames s (s.setStrand i x) := by
  have hst : ∀ j, (s.setStrand i x).strand j = if j = i then x else s.strand j := fun j => strand_setStrand s i j x
  refine ⟨fun j => ?_, fun j => ?_, fun j => ?_⟩ <;> rw [hst] <;> split
  case refine_1.isTrue h => rw [h, hk]
  case refine_2.isTrue h => rw [h, hp]
  case refine_3.isTrue h => rw [h, hg]
  all_goals rfl

theorem putFrame (s : State) (i : Nat) (f : CamegFrame) : SameFrames s (s.putFrame i f) := setStrand rfl rfl rfl

theorem gapFrame (s : State) (i e : Nat) (f : CamegFrame) : SameFrames s (s.gapFrame i e f) := by
  unfold State.gapFrame
  extract_lets s1
  exact (putFrame s i f).trans (setStrand rfl rfl rfl)

theorem sendBroadcast (s : State) (b : Broadcast) : SameFrames s (s.sendBroadcast b) := by
  unfold State.sendBroadcast
  extract_lets q s1
  have h1 : SameFrames s s1 := ite (of_strands rfl) (refl s)
  split
  · exact (h1.trans (gapFrame ..)).trans (of_strands rfl)
  · exact of_strands rfl

theorem sendSelect (s : State) (q : Nat) : SameFrames s (s.sendSelect q) := by
  unfold State.sendSelect
  extract_lets one
  have hone : ∀ u i, SameFrames u (one u i) := fun u i => by
    simp only [one]
    split
    · exact (gapFrame ..).trans (of_strands rfl)
    · exact refl u
  exact ite ((foldl hone ..).trans (of_strands rfl)) (refl s)

theorem sendBroadcasts (s : State) (q : Nat) : SameFrames s (s.sendBroadcasts q) := by
  unfold State.sendBroadcasts
  extract_lets bs
  have h0 : SameFrames s (s.setQuire q { s.quire q with broadcasts := [] }) := of_strands rfl
  exact (h0.trans (foldl sendBroadcast bs _)).trans (sendSelect ..)

theorem oweGain (s : State) (i : Nat) : SameFrames s (s.oweGain i) := by
  unfold State.oweGain
  extract_lets x
  have hset : SameFrames s (s.setStrand i { x with gainOwed := false, gainAge := 0 }) := setStrand rfl rfl rfl
  exact ite (hset.trans (of_strands rfl)) (refl s)

end SameFrames

/-! ## A pixel frame begins (R273) -/

/-- The frame of strand i for latch index k goes out in state v. -/
def State.frameBegun (v : State) (i k : Nat) : State :=
  let s1 := v.putFrame i (v.pixelFrame i k)
  let s2 := s1.setStrand i { s1.strand i with sentK := some k, payload := v.nextPayload i }
  s2.setQuire (i / 16) { s2.quire (i / 16) with inFrame := true }

theorem frameBegun_strand (v : State) (i k : Nat) : (v.frameBegun i k).strand i =
    { v.strand i with header := (v.pixelFrame i k).header, cells := (v.pixelFrame i k).cells, sentK := some k, payload := v.nextPayload i } := by
  have hput : (v.putFrame i (v.pixelFrame i k)).strand i =
      { v.strand i with header := (v.pixelFrame i k).header, cells := (v.pixelFrame i k).cells } := strand_setStrand_self ..
  have hset : ∀ w : State, (w.setStrand i { w.strand i with sentK := some k, payload := v.nextPayload i }).strand i =
      { w.strand i with sentK := some k, payload := v.nextPayload i } := fun w => strand_setStrand_self ..
  refine ((State.setQuire_keeps ..).strand_eq (by decide) i).trans ((hset _).trans ?_)
  rw [hput]

theorem frameStart_begins (hk : (s.quire (i / 16)).nextK = some k) (hrun : s.pixelsRun (i / 16) = true) (hon : s.strandOn i = true)
    (hsent : (s.strand i).sentK ≠ some k) (hreq : s.power.requested = false) (hquench : s.twin.quenchBerm = false)
    (hu : u = if s.quireState (i / 16) = 3 then (s.oweGain i).sendBroadcasts (i / 16) else s) :
    ∃ t, exec (.frameStart i) s = .next t ∧
      (u.tbNow ≤ u.frameStartAt i (u.latchAt (i / 16) k) → (t.strand i).sentK = some k ∧ (t.quire (i / 16)).inFrame = true ∧
        (t.strand i).payload = (u.advanceTb (u.frameStartAt i (u.latchAt (i / 16) k))).nextPayload i ∧
        (t.strand i).header = ((u.advanceTb (u.frameStartAt i (u.latchAt (i / 16) k))).pixelFrame i k).header ∧
        (t.strand i).cells = ((u.advanceTb (u.frameStartAt i (u.latchAt (i / 16) k))).pixelFrame i k).cells) ∧
      (u.frameStartAt i (u.latchAt (i / 16) k) < u.tbNow → (t.strand i).sentK = (s.strand i).sentK ∧
        (t.strand i).payload = (s.strand i).payload) := by
  refine ans_next (u := execFrameStart i s) (fun _ _ h => h) ?_
  have hexec : execFrameStart i s = if u.tbNow ≤ u.frameStartAt i (u.latchAt (i / 16) k) then
      (u.advanceTb (u.frameStartAt i (u.latchAt (i / 16) k))).frameBegun i k else u := by
    unfold execFrameStart
    extract_lets q
    have hdue : s.pixelsRun q = true ∧ s.strandOn i = true ∧ (s.strand i).sentK ≠ some k ∧ (!s.power.requested) = true ∧
      (!s.twin.quenchBerm) = true := ⟨hrun, hon, hsent, by rw [hreq]; rfl, by rw [hquench]; rfl⟩
    rw [show (s.quire q).nextK = some k from hk]
    refine (if_pos hdue).trans ?_
    rw [hu]
    rfl
  have howed : SameFrames s u := hu ▸ .ite ((SameFrames.oweGain ..).trans (.sendBroadcasts ..)) (.refl s)
  rw [hexec]
  refine ⟨fun h => ?_, fun h => ?_⟩
  · rw [if_pos h, frameBegun_strand]
    exact ⟨rfl, congrArg Quire.inFrame (quire_setQuire_self ..), rfl, rfl, rfl⟩
  · rw [if_neg (not_le.mpr h)]
    exact ⟨howed.sentK i, howed.payload i⟩

end Sys2Proof.Machine
end

section
/-! SUPPORT. Light at a latch instant (R320 to R323, R326 to R331): derating and the colour loop leave the Quires in their course, the
counts of their frames as they are, and every event raised. -/

namespace Sys2Proof.Machine

variable {s t u : State}

/-- The objects of Quires and strands, of what the Collator gives each Quire, and the counts of frames. -/
abbrev latchObjs : Nat := 0x1000000000000000000000000000000000000000000000000000000000000000000000000000000000000000000000000000000000000000000000000100010001000000000000000000000000000000000000000000000000000000000000000000000000000000000000000000000000000000000000000000000000000000000000000000000000

/-- A part of a latch instant that leaves the Quires in their course, and every event raised. -/
structure LatchStays (s t : State) : Prop where
  course : SameCourse s t
  evs : EventsStand s t
  keeps : Keeps latchObjs s t

namespace LatchStays

theorem refl (s : State) : LatchStays s s := ⟨.refl s, .refl s, .refl⟩

theorem trans (a : LatchStays s t) (b : LatchStays t u) : LatchStays s u :=
  ⟨a.course.trans b.course, a.evs.trans b.evs, .step b.keeps (by decide) a.keeps⟩

theorem foldl {α : Type} {f : State → α → State} (hf : ∀ s a, LatchStays s (f s a)) (l : List α) (s : State) :
    LatchStays s (l.foldl f s) := List.foldlRecOn l f (refl s) fun _ hu a _ => hu.trans (hf _ a)

end LatchStays

/-! ## Derating (R320 to R323) -/

theorem SameCourse.broadcast (s : State) (st op arg : Nat) : SameCourse s (s.broadcast st op arg) := by
  unfold State.broadcast
  extract_lets x
  exact setQuire rfl fun _ h => h

namespace EventsStand

theorem setRow (s : State) (o r : Nat) (v : Row) : EventsStand s (s.setRow o r v) := of_evt (setRow_evt ..)

theorem raiseIf (s : State) (b : Bool) (e : Nat) : EventsStand s (s.raiseIf b e) := by
  cases b
  · exact refl s
  · exact raise s e

end EventsStand

theorem LatchStays.derateStep (s : State) (at_ st : Nat) : LatchStays s (s.derateStep at_ st) := by
  refine ⟨?_, ?_, (State.derateStep_keeps ..).weaken (by decide)⟩
  all_goals
    unfold State.derateStep
    extract_lets v x theta th target ramp g gain sent due s1 s2 s3 s4 changed s5
  · have h1 : SameCourse s s1 := .of_keeps (State.setStrand_keeps ..) (by decide)
    have h2 : SameCourse s s2 := h1.trans (.of_quires (setRow_quires ..))
    have h3 : SameCourse s s3 := .ite (h2.trans (.of_quires (setFld_quires ..))) h2
    have h4 : SameCourse s s4 := .ite ((h3.trans (.of_quires (setFld_quires ..))).trans (.broadcast ..)) h3
    exact (h4.trans (.of_keeps (State.raiseIf_keeps ..) (by decide))).trans (.of_keeps (State.raiseIf_keeps ..) (by decide))
  · have h1 : EventsStand s s1 := .of_keeps (State.setStrand_keeps ..) (by decide)
    have h2 : EventsStand s s2 := h1.trans (.setRow ..)
    have h3 : EventsStand s s3 := .ite (h2.trans (.bump ..)) h2
    have h4 : EventsStand s s4 := .ite ((h3.trans (.bump ..)).trans (.of_keeps (State.broadcast_keeps ..) (by decide))) h3
    exact (h4.trans (.raiseIf ..)).trans (.raiseIf ..)

/-! ## The colour loop (R326 to R331) -/

namespace EventsStand

theorem setRegionState (s : State) (r st reason : Nat) : EventsStand s (s.setRegionState r st reason) :=
  ite (refl s) ((setRow ..).trans (raise ..))

theorem tracks (s : State) (r : Nat) : EventsStand s (s.tracks r) := setRegionState ..

theorem regionUpdate (s : State) (r : Nat) (resp : List Rat) : EventsStand s (s.regionUpdate r resp) := by
  unfold State.regionUpdate
  extract_lets v tr s1 v1 last due cs atBound reached row s2 traced s3
  have h1 : EventsStand s s1 := setRow ..
  have h2 : EventsStand s s2 := (h1.trans (setRow ..)).trans (bump ..)
  have h3 : EventsStand s s3 := (h2.trans (setFld ..)).trans (raiseIf ..)
  have htaken : ∀ u : State, EventsStand u (u.touchSettings.traceTaken r) := fun u =>
    (of_keeps (State.touchSettings_keeps ..) (by decide)).trans (of_keeps (State.traceTaken_keeps ..) (by decide))
  clear_value s1 s2 s3
  split
  · exact ((h1.trans (setRow ..)).trans (htaken _)).trans (tracks ..)
  split
  · exact (h3.trans (of_keeps (State.calTouched_keeps ..) (by decide))).trans (tracks ..)
  · exact h1.trans (tracks ..)

theorem regionJudge (s : State) (r : Nat) : EventsStand s (s.regionJudge r) := by
  unfold State.regionJudge
  extract_lets x resp f1 f2
  split
  · exact (bump ..).trans (setRegionState ..)
  · exact (of_keeps (State.setRegion_keeps ..) (by decide)).trans (regionUpdate ..)

theorem regionCycle (s : State) (r k : Nat) : EventsStand s (s.regionCycle r k) := by
  have hbegins : ∀ u : State, EventsStand u (u.regionBegins r) := fun u => ite (setRegionState ..) (setRegionState ..)
  unfold State.regionCycle
  extract_lets x s1
  have h1 : EventsStand s s1 := of_keeps (State.setRegion_keeps ..) (by decide)
  exact ite (h1.trans (hbegins s1)) h1

theorem regionLatch (s : State) (k : Nat) (seen : Option (List Nat)) (r : Nat) : EventsStand s (s.regionLatch k seen r) := by
  have hlit : ∀ u : State, EventsStand u (u.regionLit seen r) := fun u => of_keeps (State.regionLit_keeps ..) (by decide)
  unfold State.regionLatch
  extract_lets v s1
  have h1 : EventsStand s s1 := by
    simp only [s1]
    split
    · exact regionCycle ..
    · exact ite ((regionJudge ..).trans (regionCycle ..)) (refl s)
  exact ite (hlit s) ((h1.trans (of_keeps (State.regionTest_keeps ..) (by decide))).trans (hlit _))

end EventsStand

theorem LatchStays.regionLatch (s : State) (k : Nat) (seen : Option (List Nat)) (r : Nat) : LatchStays s (s.regionLatch k seen r) :=
  ⟨.of_keeps (State.regionLatch_keeps ..) (by decide), .regionLatch .., (State.regionLatch_keeps ..).weaken (by decide)⟩

end Sys2Proof.Machine
end

section
/-! SUPPORT. Latch instants (R36, R244, R278, R295, R301, R388): the frame that ends, the buffer sets that swap or the set sent again, and
the Quire's status. -/

namespace Sys2Proof.Machine

variable {s t u : State} {q k : Nat}

/-! ## The frame that ends (R278, R301) -/

/-- What a Quire is beyond its objects, and the counts of frames. -/
abbrev frameParts : Nat := 0x1000000000000000000000000000000000000000000000000000000000000000000000000000000000000000000000000000000000000000000000000000000000000000000000000000000000000000000000000000000000000000000000000000000000000000000000000000000000000000000000000000000000000000000000000000100000

theorem SameCourse.keepSignature (s : State) (q k : Nat) : SameCourse s (s.keepSignature q k) := by
  unfold State.keepSignature
  extract_lets body x e
  have hset : SameCourse s (s.setQuire q { x with sigs := (e :: x.sigs).take 16 }) := setQuire rfl fun _ h => h
  exact hset.trans (of_keeps (State.compareQuire_keeps ..) (by decide))

/-- Strands of Quire q whose frame for latch index k has gone out. -/
abbrev State.sentFor (s : State) (q k : Nat) : List Nat := (s.strandsOf q).filter (fun st => (s.strand st).sentK == some k)

section
variable (s) (q) (k)

/-- The Quire is no longer in a frame, and where a strand has sent one it counts. -/
theorem frameLatched_ends : ((s.frameLatched q k).quire q).inFrame = false ∧
    ((s.frameLatched q k).quire q).frames = (s.quire q).frames ∧
    (s.frameLatched q k).fld oQuireCnt q 0 =
      if (s.sentFor q k).isEmpty then s.fld oQuireCnt q 0 else (s.fld oQuireCnt q 0 + 1) % 2 ^ 64 := by
  unfold State.frameLatched
  extract_lets on sent missed ret x first s1 s2 s3 s4 open_ s5
  have h1 : SameCourse s s1 := .ite (.refl s) (.of_quires (setFld_quires ..))
  have hmissed : SameCourse s1 ((s1.add oQuireCnt q 4 missed.length).quireSum q 10) :=
    (SameCourse.of_quires (setFld_quires ..)).trans (.quireSum ..)
  have h2 : SameCourse s s2 := .ite h1 (h1.trans hmissed)
  have h3 : SameCourse s s3 := .ite h2 (h2.trans (.keepSignature ..))
  have hquench : Keeps frameParts s3 (if s.twin.quenchBerm then s3.undriveQuire q else s3) :=
    .ite ((State.undriveQuire_keeps ..).weaken (by decide)) .refl
  have h4 : Keeps frameParts s3 s4 := .foldl (fun _ _ h => .step (State.listenAnew_keeps ..) (by decide) h) hquench
  have h5 : Keeps frameParts s3 s5 :=
    .foldl (fun _ _ h => .step (State.storeAges_keeps ..) (by decide) (.step (State.setStrand_keeps ..) (by decide) h)) h4
  have hcnt1 : s1.fld oQuireCnt q 0 = if sent.isEmpty then s.fld oQuireCnt q 0 else (s.fld oQuireCnt q 0 + 1) % 2 ^ 64 := by
    simp only [s1]
    split
    · rfl
    · exact fld_setFld_self ..
  have hcnt2 : s2.fld oQuireCnt q 0 = s1.fld oQuireCnt q 0 := by
    simp only [s2]
    split
    · rfl
    · rw [(State.quireSum_keeps ..).fld_eq (by decide), add_fld, if_neg (by simp)]
  have hcnt3 : s3.fld oQuireCnt q 0 = s2.fld oQuireCnt q 0 :=
    (Keeps.ite .refl ((State.keepSignature_keeps ..).weaken (by decide)) : Keeps latchObjs s2 s3).fld_eq (by decide) q 0
  have hframes : (s5.quire q).frames = (s.quire q).frames := by
    rw [h5.quire_eq (by decide)]
    exact (congrArg Quire.frames (h3.course q) :)
  refine ⟨?_, ?_, ?_⟩
  · rw [quire_setQuire_self]
  · rw [quire_setQuire_self]
    exact hframes
  · rw [(State.setQuire_keeps ..).fld_eq (by decide), h5.fld_eq (by decide), hcnt3, hcnt2, hcnt1]

end

/-! ## The sets at a latch (R244) -/

/-- The frame that has every entry for Quire q's latch instant k, if one has. -/
abbrev State.latchFrame (s : State) (q k : Nat) : Option CollFrame :=
  ((s.collOf (s.qHead q)).qualified q k).filter (fun f => s.entriesDone (s.qHead q) q f)

/-- The front set of Quire q is sent again, and the frames of its head no longer fill it for latch index k. -/
def State.sendsAgain (s : State) (q k : Nat) : State :=
  (s.setQuire q { s.quire q with repeated := true }).collMissed (s.qHead q) q k

/-- A frame is missed for Quire q: it is counted with its instant, and is an event. -/
def State.frameMissed (s : State) (q : Nat) : State :=
  let s1 := s.bump32 oLeadMiss q 0
  (s1.setFld oQuireColl q 2 s1.nowPt).raise 72

theorem collLatch_swaps {f : CollFrame} (hf : s.latchFrame q k = some f) : s.collLatch q k =
    (s.setRow oQuireColl q [1 - s.frontSet q, f.frame, s.fld oQuireColl q 2]).setQuire q
      { s.quire q with frontMarks := f.marks, repeated := false, clearBack := (s.quire q).clearFront, clearFront := (s.quire q).clearBack } := by
  unfold State.collLatch
  extract_lets h c x
  rw [show (c.qualified q k).filter (fun f => s.entriesDone h q f) = some f from hf]

theorem collLatch_repeats (hf : s.latchFrame q k = none) : s.collLatch q k =
    if s.headState (s.qHead q) = 1 then s.sendsAgain q k else (s.sendsAgain q k).frameMissed q := by
  unfold State.collLatch
  extract_lets h c x
  rw [show (c.qualified q k).filter (fun f => s.entriesDone h q f) = none from hf]
  rfl

theorem sendsAgain_quire (s : State) (q k : Nat) : (s.sendsAgain q k).quire q = { s.quire q with repeated := true } :=
  ((State.collMissed_keeps ..).quire_eq (by decide) q).trans (quire_setQuire_self ..)

theorem frameMissed_quire (s : State) (q : Nat) : (s.frameMissed q).quire q = s.quire q := (State.raise_keeps ..).quire_eq (by decide) q

/-- Only the marks of the Quire's front set, and what its sets wait for, have changed. -/
theorem collLatch_quire (s : State) (q k : Nat) : ∃ marks again back front, (s.collLatch q k).quire q =
    { s.quire q with frontMarks := marks, repeated := again, clearBack := back, clearFront := front } := by
  cases hf : s.latchFrame q k with
  | some f => exact ⟨_, _, _, _, by rw [collLatch_swaps hf]; exact quire_setQuire_self ..⟩
  | none =>
    refine ⟨(s.quire q).frontMarks, true, (s.quire q).clearBack, (s.quire q).clearFront, ?_⟩
    rw [collLatch_repeats hf]
    split
    · exact sendsAgain_quire ..
    · exact (frameMissed_quire ..).trans (sendsAgain_quire ..)

theorem collLatch_swapped {f : CollFrame} (hf : s.latchFrame q k = some f) : (s.collLatch q k).fld oQuireColl q 0 = 1 - s.fld oQuireColl q 0 ∧
    (s.collLatch q k).fld oQuireColl q 1 = f.frame ∧ ((s.collLatch q k).quire q).repeated = false := by
  have hrow : (s.collLatch q k).row oQuireColl q = [1 - s.frontSet q, f.frame, s.fld oQuireColl q 2] := by
    rw [collLatch_swaps hf, (State.setQuire_keeps ..).objs oQuireColl q (by decide), row_setRow_self]
  refine ⟨by rw [State.fld, hrow]; rfl, by rw [State.fld, hrow]; rfl, ?_⟩
  rw [collLatch_swaps hf, quire_setQuire_self]

theorem collLatch_repeated (hf : s.latchFrame q k = none) : (s.collLatch q k).fld oQuireColl q 0 = s.fld oQuireColl q 0 ∧
    ((s.collLatch q k).quire q).repeated = true ∧ (s.headState (s.qHead q) ≠ 1 → (s.collLatch q k).raised 72 = true) := by
  have hset : (s.sendsAgain q k).fld oQuireColl q 0 = s.fld oQuireColl q 0 :=
    ((State.collMissed_keeps ..).fld_eq (by decide) q 0).trans (State.fld_congr rfl)
  rw [collLatch_repeats hf]
  split
  case isTrue h => exact ⟨hset, by rw [sendsAgain_quire], fun k => absurd h k⟩
  case isFalse h =>
    refine ⟨?_, by rw [frameMissed_quire, sendsAgain_quire], fun _ => raised_raise_self _ _ (by decide)⟩
    unfold State.frameMissed
    extract_lets s1
    rw [raise_fld _ _ _ _ (by decide), fld_setFld, if_neg (by simp)]
    exact (fld_setFld_of_ne _ _ _ _ _ _ (by decide)).trans hset

end Sys2Proof.Machine
end

section
/-! SUPPORT. The latch instant as a whole (R36, R244, R295, R301, R320, R326), from the start of a Quire and of a frame that ends. -/

namespace Sys2Proof.Machine

variable {s t u : State} {q k : Nat}

/-- What a latch instant leaves of the state c in which the sets have swapped: the Quire has one frame more and its next latch instant, and
its status is that of the latch. -/
structure LatchEnds (q k pt : Nat) (next : Option Nat) (c t : State) : Prop where
  state : t.quireState q = c.quireState q
  next : (t.quire q).nextK = next
  frames : (t.quire q).frames = (c.quire q).frames + 1
  inFrame : (t.quire q).inFrame = (c.quire q).inFrame
  repeated : (t.quire q).repeated = (c.quire q).repeated
  sum : ∀ b, (c.quire q).sum.testBit b = true → (t.quire q).sum.testBit b = true
  index : t.fld oQuireStatus q 0 = k % 65536
  pt : t.fld oQuireStatus q 1 = pt
  counts : t.fld oQuireCnt q 0 = c.fld oQuireCnt q 0
  sets : ∀ i, t.fld oQuireColl q i = c.fld oQuireColl q i
  evs : EventsStand c t

theorem LatchStays.ends {pt gap pend : Nat} {next : Option Nat} {c w : State}
    (h : LatchStays (c.setRow oQuireStatus q [k % 65536, pt, gap, pend]) w) :
    LatchEnds q k pt next c (w.setQuire q { w.quire q with frames := (w.quire q).frames + 1, nextK := next }) := by
  have hq : (c.setRow oQuireStatus q [k % 65536, pt, gap, pend]).quire q = c.quire q := congrArg (tget Quire.init · q) (setRow_quires ..)
  have hcourse : (w.quire q).course = (c.quire q).course := (h.course.course q).trans (congrArg Quire.course hq)
  have hset : ∀ x, Keeps latchObjs w (w.setQuire q x) := fun x => (State.setQuire_keeps ..).weaken (by decide)
  have hfld : ∀ x o i, latchObjs.testBit (32 + o / 4096) = true → (w.setQuire q x).fld o q i =
      (c.setRow oQuireStatus q [k % 65536, pt, gap, pend]).fld o q i := fun x o i ho =>
    ((hset x).fld_eq ho q i).trans (h.keeps.fld_eq ho q i)
  have hstatus : ∀ x i, (w.setQuire q x).fld oQuireStatus q i = [k % 65536, pt, gap, pend].getD i 0 := fun x i => by
    rw [hfld x _ _ (by decide), State.fld, row_setRow_self]
  have hevs : EventsStand c (c.setRow oQuireStatus q [k % 65536, pt, gap, pend]) := .setRow ..
  refine ⟨?_, ?_, ?_, ?_, ?_, fun b hb => ?_, hstatus _ 0, hstatus _ 1, ?_, fun i => ?_, ?_⟩
  · exact (hfld _ _ _ (by decide)).trans (fld_setRow_of_ne _ _ _ _ _ (by decide))
  · rw [quire_setQuire_self]
  · rw [quire_setQuire_self]
    exact congrArg (· + 1) (congrArg Quire.frames hcourse :)
  · rw [quire_setQuire_self]
    exact (congrArg Quire.inFrame hcourse :)
  · rw [quire_setQuire_self]
    exact (congrArg Quire.repeated hcourse :)
  · rw [quire_setQuire_self]
    exact h.course.sum q b (by rw [hq, hb])
  · exact (hfld _ _ _ (by decide)).trans (fld_setRow_of_ne _ _ _ _ _ (by decide))
  · exact (hfld _ _ _ (by decide)).trans (fld_setRow_of_ne _ _ _ _ _ (by decide))
  · exact (hevs.trans h.evs).trans (.of_keeps (State.setQuire_keeps ..) (by decide))

/-- A Quire that starts runs at its first latch instant; one that runs or drains ends its frame there. -/
def State.latchTurns (s : State) (q st k : Nat) : State := if st = 1 then s.quireTo q 3 else s.frameLatched q k

/-- The sets at that instant: in Berm service none swaps. -/
def State.latchSets (s b : State) (q k : Nat) : State := if s.berm then b else b.collLatch q k

theorem execQuireLatch_ends (hk : (s.quire q).nextK = some k) (hs : s.quireState q = 1 ∨ s.quireState q = 3 ∨ s.quireState q = 4)
    (hu : u = s.advanceTb (s.latchAt q k : Rat)) :
    LatchEnds q k (u.latchPt q k) (if s.quireState q = 4 then none else some (k + 1))
      (u.latchSets (u.latchTurns q (s.quireState q) k) q k) (execQuireLatch q s) := by
  have hlatches : ¬(s.quireState q ≠ 1 ∧ s.quireState q ≠ 3 ∧ s.quireState q ≠ 4) := by omega
  generalize ht : execQuireLatch q s = t
  unfold execQuireLatch at ht
  extract_lets st at ht
  split at ht
  case h_1 hnone => rw [hk] at hnone; contradiction
  case h_2 j hj =>
    obtain rfl : k = j := Option.some.inj (hk.symm.trans hj)
    rw [if_neg hlatches] at ht
    extract_lets v b c gaps gap s3 s4a seen s4 x at ht
    have h3 : LatchStays s3 s4 := by
      simp only [s4]
      split
      · exact .refl s3
      · exact (LatchStays.foldl (fun w i => .derateStep w v.now (16 * q + i)) (List.range 16) s3).trans
          (.foldl (fun w r => .regionLatch w k seen r) _ _)
    rw [← ht, hu]
    exact h3.ends

/-! ## The clauses, and the obligation -/

/-- The objects of Quires and strands, and the counts of their frames. -/
abbrev quireCounts : Nat := 0x1000000000000000000000000000000000000000000000000000000000000000000000000000000000000000000000000000000000000000000000000100000000000000000000000000000000000000000000000000000000000000000000000000000000000000000000000000000000000000000000000000000000000000000000000000000000

/-- Those objects, those of heads, and what the Collator gives each Quire. -/
abbrev latchHeads : Nat := 0x100010001000000000000000000000000000000000000000000000000000000000000000000000000000000000000000000000000000000000000000000000000000000000000000000000000

theorem latchSets_keeps (s b : State) (q k : Nat) : Keeps quireCounts b (s.latchSets b q k) :=
  .ite .refl ((State.collLatch_keeps ..).weaken (by decide))

theorem latchSets_quire (s b : State) (q k : Nat) : ((s.latchSets b q k).quire q).frames = (b.quire q).frames ∧
    ((s.latchSets b q k).quire q).inFrame = (b.quire q).inFrame ∧ ((s.latchSets b q k).quire q).sum = (b.quire q).sum := by
  unfold State.latchSets
  split
  · exact ⟨rfl, rfl, rfl⟩
  · obtain ⟨_, _, _, _, hquire⟩ := collLatch_quire b q k
    rw [hquire]
    exact ⟨rfl, rfl, rfl⟩

theorem quireLatch_starts (hk : (s.quire q).nextK = some k) (h1 : s.quireState q = 1) :
    ∃ t, exec (.quireLatch q) s = .next t ∧ t.quireState q = 3 ∧ (t.quire q).nextK = some (k + 1) ∧
      (t.quire q).frames = (s.quire q).frames + 1 ∧ (t.quire q).sum.testBit 0 = true ∧ t.fld oQuireStatus q 0 = k % 65536 := by
  refine ans_next (u := execQuireLatch q s) (fun _ _ h => h) ?_
  have hends := execQuireLatch_ends hk (.inl h1) rfl
  generalize execQuireLatch q s = t at hends ⊢
  rw [h1] at hends
  generalize hu : s.advanceTb (s.latchAt q k : Rat) = u at hends
  have hadvance := State.advanceTb_keeps s (s.latchAt q k : Rat)
  rw [hu] at hadvance
  have hturns : u.latchTurns q 1 k = u.quireTo q 3 := by rw [State.latchTurns, if_pos rfl]
  rw [hturns] at hends
  have henters := quireTo_enters u q 3
  have hchanged : u.quireState q ≠ 3 := by
    rw [State.quireState, hadvance.fld_eq (by decide)]
    exact h1.trans_ne (by decide)
  obtain ⟨hframes, -, hsum⟩ := latchSets_quire u (u.quireTo q 3) q k
  refine ⟨?_, hends.next.trans (if_neg (by decide)), ?_, hends.sum 0 ?_, hends.index⟩
  · exact hends.state.trans (((latchSets_keeps ..).fld_eq (by decide) q 0).trans henters.state)
  · rw [hends.frames, hframes, henters.frames (.inl rfl), hadvance.quire_eq (by decide)]
  · rw [hsum]
    exact henters.changed hchanged

/-- A strand in use that has sent its frame is among those that have. -/
theorem sentFor_ne_nil {st : Nat} (hst : st ∈ s.strandsOf q) (hk : (s.strand st).sentK = some k) : (s.sentFor q k).isEmpty = false := by
  rw [List.isEmpty_eq_false_iff_exists_mem]
  exact ⟨st, List.mem_filter.mpr ⟨hst, by simp [hk]⟩⟩

theorem State.strandsOf_congr (ho : t.od = s.od) (hp : t.power = s.power) (q : Nat) : t.strandsOf q = s.strandsOf q := by
  have hon : ∀ i, t.strandOn i = s.strandOn i := fun i => by
    unfold State.strandOn State.berm
    rw [hp]
    simp only [State.fld_congr ho]
  simp only [State.strandsOf, hon]

theorem advanceTb_sentFor (s : State) (at_ : Rat) (q k : Nat) : (s.advanceTb at_).sentFor q k = s.sentFor q k := by
  have hadvance := State.advanceTb_keeps s at_
  simp only [State.sentFor, State.strandsOf_congr (advanceTb_od s at_) (hadvance.power_eq (by decide)), hadvance.strand_eq (by decide)]

section
variable {v : State} (hk : (s.quire q).nextK = some k) (hu : u = s.advanceTb (s.latchAt q k : Rat)) (hv : v = u.frameLatched q k)
  (hs : s.quireState q = 3 ∨ s.quireState q = 4)
include hk hu hv hs

theorem quireLatch_latches :
    ∃ t, exec (.quireLatch q) s = .next t ∧ t.quireState q = s.quireState q ∧
      ((t.quire q).nextK = if s.quireState q = 3 then some (k + 1) else none) ∧ (t.quire q).inFrame = false ∧
      (t.quire q).frames = (s.quire q).frames + 1 ∧ t.fld oQuireStatus q 0 = k % 65536 ∧ t.fld oQuireStatus q 1 = u.latchPt q k ∧
      (∀ st, st ∈ s.strandsOf q → (s.strand st).sentK = some k → t.fld oQuireCnt q 0 = (s.fld oQuireCnt q 0 + 1) % 2 ^ 64) ∧
      (s.berm = false → (∀ f, ((v.collOf (v.qHead q)).qualified q k).filter (fun f => v.entriesDone (v.qHead q) q f) = some f →
        t.fld oQuireColl q 0 = 1 - s.fld oQuireColl q 0 ∧ t.fld oQuireColl q 1 = f.frame ∧ (t.quire q).repeated = false) ∧
        (((v.collOf (v.qHead q)).qualified q k).filter (fun f => v.entriesDone (v.qHead q) q f) = none →
          t.fld oQuireColl q 0 = s.fld oQuireColl q 0 ∧ (t.quire q).repeated = true ∧
          (s.headState (s.qHead q) ≠ 1 → t.raised 72 = true))) := by
  refine ans_next (u := execQuireLatch q s) (fun _ _ h => h) ?_
  have hends := execQuireLatch_ends hk (.inr hs) hu
  generalize execQuireLatch q s = t at hends ⊢
  have hadvance := State.advanceTb_keeps s (s.latchAt q k : Rat)
  rw [← hu] at hadvance
  have hsent : u.sentFor q k = s.sentFor q k := hu ▸ advanceTb_sentFor ..
  have hlatched : Keeps latchHeads u v := hv ▸ (State.frameLatched_keeps ..).weaken (by decide)
  have hfld : ∀ o i j, latchHeads.testBit (32 + o / 4096) = true → v.fld o i j = s.fld o i j := fun o i j ho =>
    (hlatched.fld_eq ho i j).trans (by rw [hu, advanceTb_fld])
  obtain ⟨hframe, hframes, hcount⟩ := frameLatched_ends u q k
  rw [← hv] at hframe hframes hcount
  have hturns : u.latchTurns q (s.quireState q) k = v := by rw [State.latchTurns, if_neg (by omega), hv]
  rw [hturns] at hends
  obtain ⟨hsetFrames, hsetFrame, -⟩ := latchSets_quire u v q k
  refine ⟨?_, ?_, ?_, ?_, hends.index, hends.pt, fun st hst hst' => ?_, fun hberm => ?_⟩
  · exact hends.state.trans (((latchSets_keeps ..).fld_eq (by decide) q 0).trans (hfld _ _ _ (by decide)))
  · rw [hends.next]
    rcases hs with hs | hs <;> rw [hs] <;> rfl
  · rw [hends.inFrame, hsetFrame, hframe]
  · rw [hends.frames, hsetFrames, hframes, hadvance.quire_eq (by decide)]
  · rw [hends.counts, (latchSets_keeps ..).fld_eq (by decide), hcount, hsent, sentFor_ne_nil hst hst', hadvance.fld_eq (by decide)]
    rfl
  · have hsets : u.latchSets v q k = v.collLatch q k := by
      rw [State.latchSets, State.berm, hadvance.power_eq (by decide)]
      exact if_neg (by rw [← State.berm, hberm]; decide)
    rw [hsets] at hends
    refine ⟨fun f hf => ?_, fun hf => ?_⟩
    · obtain ⟨hset, hnumber, hagain⟩ := collLatch_swapped hf
      exact ⟨by rw [hends.sets, hset, hfld _ _ _ (by decide)], (hends.sets 1).trans hnumber, hends.repeated.trans hagain⟩
    · obtain ⟨hset, hagain, hmissed⟩ := collLatch_repeated hf
      refine ⟨by rw [hends.sets, hset, hfld _ _ _ (by decide)], hends.repeated.trans hagain, fun hh => hends.evs.stands 72 (hmissed ?_)⟩
      rwa [State.headState, State.qHead, hfld _ _ _ (by decide), hfld _ _ _ (by decide)]

end

/-- Settles O42: a frame that begins by the state in which it goes out, a latch instant by what ends or starts there and by the swap of the
sets, which the status and the light after them leave. -/
theorem pixelFrames : Obligations.PixelFrames :=
  ⟨fun _ _ _ _ _ => frameStart_begins,
    fun _ _ _ _ hk => ⟨quireLatch_starts hk, fun _ _ => quireLatch_latches hk⟩⟩

end Sys2Proof.Machine
end

section
/-! SUPPORT. Return records (R256, R278 to R280, R303, R557): what filing a record under its driver leaves of the counts, of the strands and
of DRAM outside the driver's telemetry row. -/

namespace Sys2Proof.Machine

variable {s t u : State} {m i j k : Nat}

/-! ## A write into DRAM leaves the store's arbitration -/

theorem touchPages_bulkHeld (s : State) (a n : Nat) : (s.touchPages a n).integ.bulkHeld = s.integ.bulkHeld := by
  have hset : ∀ (u : State) p, (u.setPageValid p).integ.bulkHeld = u.integ.bulkHeld := fun u p => by
    unfold State.setPageValid
    split
    · rfl
    · rfl
  unfold State.touchPages
  split
  · rfl
  · refine List.foldlRecOn (motive := fun u : State => u.integ.bulkHeld = s.integ.bulkHeld) _ _ rfl fun u hu i _ => ?_
    dsimp only
    split
    · rw [hset, hu]
    · exact hu

theorem dramPut_bulkHeld (s : State) (a : Nat) (bs : List Byte) : (s.dramPut a bs).integ.bulkHeld = s.integ.bulkHeld := by
  unfold State.dramPut
  exact touchPages_bulkHeld s a bs.length

/-! ## The telemetry row of a driver (R303) -/

/-- DRAM and its arbitration, strands, the objects of Quires and strands, and the counts of their frames. -/
abbrev teleParts : Nat := 0x1000000000000000000000000000000000000000000000000000000000000000000000000000000000000000000000000000000000000000000000000100000000000000000000000000000000000000000000000000000000000000000000000000000000000000000000000000000000000000000000000000000000000000000000000000208008

/-- Strands, the objects of Quires and strands, and the counts of their frames. -/
abbrev storeParts : Nat := 0x1000000000000000000000000000000000000000000000000000000000000000000000000000000000000000000000000000000000000000000000000100000000000000000000000000000000000000000000000000000000000000000000000000000000000000000000000000000000000000000000000000000000000000000000000000200000

/-- From s to t nothing is written below the shadow but the telemetry row j, and nothing at all while the store has given way; every strand
keeps its frame and its records, and the counts of stalls and of records stand. -/
structure TeleOnly (j : Nat) (s t : State) : Prop where
  frames : SameFrames s t
  stalls : ∀ i, t.fld oQuireCnt i 3 = s.fld oQuireCnt i 3
  records : ∀ i, t.fld oStrandCnt i 0 = s.fld oStrandCnt i 0
  place : t.val oTeleBase = s.val oTeleBase
  shadow : t.shadowBase = s.shadowBase
  held : t.integ.bulkHeld = s.integ.bulkHeld
  bytes : ∀ a, a < s.shadowBase → (s.val oTeleBase = 0 ∨ a < s.val oTeleBase + 16 * j ∨ s.val oTeleBase + 16 * j + 16 ≤ a) →
    t.dramByte a = s.dramByte a
  store : s.integ.bulkHeld = true → t.dram = s.dram

namespace TeleOnly

theorem refl (s : State) : TeleOnly j s s :=
  ⟨.refl s, fun _ => rfl, fun _ => rfl, rfl, rfl, rfl, fun _ _ _ => rfl, fun _ => rfl⟩

theorem trans (a : TeleOnly j s t) (b : TeleOnly j t u) : TeleOnly j s u where
  frames := a.frames.trans b.frames
  stalls i := (b.stalls i).trans (a.stalls i)
  records i := (b.records i).trans (a.records i)
  place := b.place.trans a.place
  shadow := b.shadow.trans a.shadow
  held := b.held.trans a.held
  bytes c hc ho := (b.bytes c (by rwa [a.shadow]) (by rwa [a.place])).trans (a.bytes c hc ho)
  store h := (b.store (by rwa [a.held])).trans (a.store h)

theorem ite {c : Prop} [Decidable c] {a b : State} (ha : TeleOnly j s a) (hb : TeleOnly j s b) : TeleOnly j s (if c then a else b) := by
  split <;> assumption

/-- A part that leaves DRAM, the strands and all those objects alone. -/
theorem of_keeps (h : Keeps m s t) (hm : teleParts &&& m = teleParts) : TeleOnly j s t := by
  have k : Keeps teleParts s t := h.weaken hm
  have hinteg : t.integ = s.integ := k.integ_eq (by decide)
  have hdram : t.dram = s.dram := k.dram_eq (by decide)
  exact ⟨.of_keeps k (by decide), fun i => k.fld_eq (by decide) i 3, fun i => k.fld_eq (by decide) i 0, k.fld_eq (by decide) 0 0,
    State.shadowBase_congr (by rw [hinteg]) (by rw [hinteg]), by rw [hinteg], fun a _ _ => congrArg (mget · a) hdram, fun _ => hdram⟩

theorem setStrand {x : Strand} (hk : x.sentK = (s.strand i).sentK) (hp : x.payload = (s.strand i).payload)
    (hg : x.got = (s.strand i).got) : TeleOnly j s (s.setStrand i x) where
  frames := .setStrand hk hp hg
  stalls _ := State.fld_congr rfl
  records _ := State.fld_congr rfl
  place := State.fld_congr rfl
  shadow := State.shadowBase_congr rfl rfl
  held := rfl
  bytes _ _ _ := rfl
  store _ := rfl

/-- The other counts of a strand. -/
theorem add (s : State) (i n : Nat) {c : Nat} (hc : c ≠ 0) : TeleOnly j s (s.add oStrandCnt i c n) where
  frames := .of_strands (setFld_strands ..)
  stalls _ := fld_setFld_of_ne _ _ _ _ _ _ (by decide)
  records r := (add_fld ..).trans (if_neg fun h => hc h.2.2.symm)
  place := fld_setFld_of_ne _ _ _ _ _ _ (by decide)
  shadow := State.shadowBase_congr rfl rfl
  held := rfl
  bytes _ _ _ := rfl
  store _ := rfl

theorem storeTele (s : State) (i k offset n v : Nat) (hn : offset + n ≤ 16) : TeleOnly (4096 * i + k) s (s.storeTele i k offset n v) := by
  unfold State.storeTele
  extract_lets base
  split
  case isTrue => exact refl s
  case isFalse h =>
    have hbase : s.val oTeleBase ≠ 0 ∧ s.integ.bulkHeld = false := by simpa using h
    have hput : Keeps storeParts s (s.dramPut (base + 16 * (4096 * i + k) + offset) (leBytes n v)) :=
      (State.dramPut_keeps ..).weaken (by decide)
    refine ⟨.of_keeps hput (by decide), fun r => hput.fld_eq (by decide) r 3, fun r => hput.fld_eq (by decide) r 0,
      hput.fld_eq (by decide) 0 0, dramPut_shadowBase .., dramPut_bulkHeld .., fun a ha ho => dramByte_dramPut_of_outside ha ?_, fun hheld => ?_⟩
    · rw [length_leBytes]
      have hrow := ho.resolve_left hbase.1
      have hplace : base = s.val oTeleBase := rfl
      omega
    · rw [hbase.2] at hheld
      contradiction

theorem onRequest (s : State) (q : Nat) (f : Request → Request) : TeleOnly j s (s.onRequest q f) :=
  of_keeps (State.onRequest_keeps ..) (by decide)

theorem quireSum (s : State) (q b : Nat) : TeleOnly j s (s.quireSum q b) := of_keeps (State.quireSum_keeps ..) (by decide)

end TeleOnly

/-- What a record brings, of whichever type it is (R279). -/
theorem recordTyped_only (s : State) (i k ty v : Nat) : TeleOnly (4096 * i + k) s (s.recordTyped i k ty v) := by
  unfold State.recordTyped
  extract_lets q x known4 fresh4 open_ known5 fresh5 short supply pulled sel y selected
  have hopen : TeleOnly (4096 * i + k) s open_ :=
    (TeleOnly.storeTele s i k 4 1 (v % 256) (by decide)).trans (.of_keeps (State.emitterReport_keeps ..) (by decide))
  have hshort : TeleOnly (4096 * i + k) s short :=
    (TeleOnly.storeTele s i k 5 1 (v % 256) (by decide)).trans (.of_keeps (State.emitterReport_keeps ..) (by decide))
  have hsupply : TeleOnly (4096 * i + k) s supply :=
    (TeleOnly.storeTele s i k 8 2 v (by decide)).trans (.add _ i (v % 256) (by decide))
  have hpulled : TeleOnly (4096 * i + k) s pulled := .ite hsupply (hsupply.trans (.quireSum ..))
  have hselected : TeleOnly (4096 * i + k) s selected := by
    have hset : TeleOnly (4096 * i + k) pulled (pulled.setStrand i { y with input := sel }) := .setStrand rfl rfl rfl
    exact hpulled.trans hset
  have htemps : TeleOnly (4096 * i + k) s (s.setStrand i { x with temps := tset (0, 0) x.temps k (v + 1, s.now) }) :=
    .setStrand rfl rfl rfl
  split
  case h_1 => exact .onRequest ..
  case h_2 => exact htemps.trans (.storeTele _ i k 0 2 v (by decide))
  case h_3 => exact .storeTele _ i k 2 2 v (by decide)
  case h_4 => exact .ite (hopen.trans (.quireSum ..)) hopen
  case h_5 => exact .ite (hshort.trans (.quireSum ..)) hshort
  case h_6 => exact (TeleOnly.storeTele s i k 6 2 v (by decide)).trans (.of_keeps (State.photoRecord_keeps ..) (by decide))
  case h_7 => exact .ite (.ite hselected ((hselected.trans (.add _ i 1 (by decide))).trans (.quireSum ..))) hpulled
  case h_8 => exact .onRequest ..
  case h_9 => exact .refl s

end Sys2Proof.Machine
end

section
/-! SUPPORT. A return record comes (R256, R278 to R280, R303, R557): it is filed, counted for its wrong CRC, or ignored. -/

namespace Sys2Proof.Machine

variable {s t u v : State} {i k late stalls : Nat} {b : BitVec 40}

/-- The clock, DRAM and its arbitration, what a Quire is beyond its objects, and the objects of Quires and strands. -/
abbrev takenParts : Nat := 0x10000000000000000000000000000000000000000000000000000000000000000000000000000000000000000000000000000000000000000000000000000000000000000000000000010800a

/-! ## A record is filed (R279, R280, R557) -/

/-- Strand i is x with a record more, which is counted. -/
def State.recordTaken (s : State) (i : Nat) (x : Strand) : State := (s.setStrand i x).bump oStrandCnt i 0

/-- A record that waits for the telemetry store. -/
def State.recordWaits (s : State) (j : Nat) (v : List Nat) : State :=
  { s with integ := { s.integ with teleWait := tins s.integ.teleWait j v } }

theorem recordWaits_only (s : State) (j : Nat) (v : List Nat) : TeleOnly j s (s.recordWaits j v) where
  frames := .of_strands rfl
  stalls _ := State.fld_congr rfl
  records _ := State.fld_congr rfl
  place := State.fld_congr rfl
  shadow := State.shadowBase_congr rfl rfl
  held := rfl
  bytes _ _ _ := rfl
  store _ := rfl

/-- Its type has its effect on the strand that has taken it; then the record waits, or the driver's age starts anew. -/
theorem recordFiled_eq (s : State) (i : Nat) (b : BitVec 40) (late : Nat) : ∃ x : Strand, ∃ w : List Nat,
    x.got = rrIndex b :: (s.strand i).got ∧
    s.recordFiled i b late = if s.integ.bulkHeld then
        ((s.recordTaken i x).recordTyped i (rrIndex b) (rrType b) (rrValue b)).recordWaits (4096 * i + rrIndex b) w
      else ((s.recordTaken i x).recordTyped i (rrIndex b) (rrType b) (rrValue b)).storeTele i (rrIndex b) 10 2 0 := by
  unfold State.recordFiled
  extract_lets k y far s1 s2 s3
  cases s.integ.bulkHeld
  · exact ⟨{ y with got := k :: y.got, far := far, heard := tset 0 y.heard k (y.aged + 1) }, [], rfl, rfl⟩
  · exact ⟨{ y with got := k :: y.got, far := far }, [y.aged + 1, rrType b, rrValue b], rfl, rfl⟩

/-- Beyond the strand's taking it, and beyond what its type brings, a record writes nothing but its driver's telemetry row. -/
theorem recordFiled_files (s : State) (i : Nat) (b : BitVec 40) (late : Nat) : ∃ x : Strand, x.got = rrIndex b :: (s.strand i).got ∧
    TeleOnly (4096 * i + rrIndex b) (s.recordTaken i x) (s.recordFiled i b late) ∧
    Keeps 0x300000 ((s.recordTaken i x).recordTyped i (rrIndex b) (rrType b) (rrValue b)) (s.recordFiled i b late) ∧
    (s.integ.bulkHeld = false → s.recordFiled i b late =
      ((s.recordTaken i x).recordTyped i (rrIndex b) (rrType b) (rrValue b)).storeTele i (rrIndex b) 10 2 0) := by
  obtain ⟨x, w, hx, heq⟩ := recordFiled_eq s i b late
  refine ⟨x, hx, ?_, ?_, fun h => by rw [heq, h]; rfl⟩
  all_goals rw [heq]
  · exact (recordTyped_only ..).trans (.ite (recordWaits_only ..) (.storeTele _ i (rrIndex b) 10 2 0 (by decide)))
  · exact .ite (.set_integ (by decide) .refl) ((State.storeTele_keeps ..).weaken (by decide))

/-- A TEMP record is its driver's latest. -/
theorem recordTyped_temp (s : State) (i k v : Nat) :
    tget (0, 0) ((s.recordTyped i k 2 v).strand i).temps k = (v + 1, s.now) := by
  have hset : ∀ w : State, (w.storeTele i k 0 2 v).strand i = w.strand i := fun w => (State.storeTele_keeps ..).strand_eq (by decide) i
  refine (congrArg (fun y : Strand => tget (0, 0) y.temps k) ((hset _).trans (strand_setStrand_self ..))).trans ?_
  exact tget_tset_self (0, 0) (s.strand i).temps k (v + 1, s.now)

/-- The value of a TEMP record stands at the start of its driver's row. -/
theorem recordTyped_value (s : State) (i k v : Nat) (hb : s.integ.bulkHeld = false) (h0 : s.val oTeleBase ≠ 0)
    (hr : s.val oTeleBase + 16 * (4096 * i + k) + 16 ≤ s.shadowBase) :
    (s.recordTyped i k 2 v).dramGet (s.val oTeleBase + 16 * (4096 * i + k)) 2 = leBytes 2 v := by
  have hstore : ∀ w : State, w.val oTeleBase = s.val oTeleBase → w.integ = s.integ →
      (w.storeTele i k 0 2 v).dramGet (s.val oTeleBase + 16 * (4096 * i + k)) 2 = leBytes 2 v := fun w hw hi => by
    have hshadow : w.shadowBase = s.shadowBase := State.shadowBase_congr (by rw [hi]) (by rw [hi])
    rw [State.storeTele, hw, hi, hb, if_neg (by simp [h0])]
    exact dramGet_dramPut (bs := leBytes 2 v) (by rw [length_leBytes, hshadow]; omega)
  exact hstore _ (State.fld_congr rfl) rfl

/-- The age, at offset 10 of a driver's row, leaves the value at its start. -/
theorem storeTele_leaves (hs : t.shadowBase = s.shadowBase) (hp : t.val oTeleBase = s.val oTeleBase)
    (hr : s.val oTeleBase + 16 * (4096 * i + k) + 16 ≤ s.shadowBase) : (t.storeTele i k 10 2 0).dramGet
      (s.val oTeleBase + 16 * (4096 * i + k)) 2 = t.dramGet (s.val oTeleBase + 16 * (4096 * i + k)) 2 := by
  unfold State.storeTele
  extract_lets base
  have hbase : base = s.val oTeleBase := hp
  split
  · rfl
  · exact mgets_congr fun n hn => dramByte_dramPut_of_outside (by omega) (.inl (by omega))

/-- An ENUM record without OVERFLOW adds its driver to those that the oldest request has found. -/
theorem recordTyped_found {r : Request} {rs : List Request} {n : Nat} (hv : bit n 14 = false) (hr : (s.quire (i / 16)).requests = r :: rs) :
    ((s.recordTyped i k 1 n).quire (i / 16)).requests = { r with found := (4096 * i + k) :: r.found } :: rs := by
  have htyped : s.recordTyped i k 1 n = s.onRequest (i / 16) (fun r =>
      if bit n 14 then { r with ovr := i :: r.ovr } else { r with found := (4096 * i + k) :: r.found }) := rfl
  rw [htyped, State.onRequest, hr]
  refine (congrArg Quire.requests (quire_setQuire_self ..)).trans ?_
  rw [hv]
  rfl

/-! ## The clauses (R256, R278, R280) -/

theorem ans_of_pending (h : u.pending = s.pending) : ans s u = .next u := by rw [ans, ← h]

theorem recordTaken_keeps (s : State) (i : Nat) (x : Strand) : Keeps takenParts s (s.recordTaken i x) :=
  .bump (by decide) ((State.setStrand_keeps ..).weaken (by decide))

theorem recordTaken_strand (s : State) (i : Nat) (x : Strand) : (s.recordTaken i x).strand i = x :=
  (congrArg (tget Strand.init · i) (setFld_strands ..)).trans (strand_setStrand_self ..)

/-- Taking a record counts it, and nothing else. -/
theorem recordTaken_counts (s : State) (i : Nat) (x : Strand) (o r c : Nat) : (s.recordTaken i x).fld o r c =
    if o = oStrandCnt ∧ r = i ∧ c = 0 then (s.fld oStrandCnt i 0 + 1) % 2 ^ 64 else s.fld o r c := bump_fld ..

/-- A record with a right CRC, in the state v whose stalls are counted. -/
theorem recordFiled_shows (v : State) (i : Nat) (b : BitVec 40) (late : Nat) (ht : t = v.recordFiled i b late) :
    t.fld oQuireCnt (i / 16) 3 = v.fld oQuireCnt (i / 16) 3 ∧ t.fld oStrandCnt i 0 = (v.fld oStrandCnt i 0 + 1) % 2 ^ 64 ∧
    (t.strand i).got = rrIndex b :: (v.strand i).got ∧
    (rrType b = 2 → tget (0, 0) (t.strand i).temps (rrIndex b) = (rrValue b + 1, v.now)) ∧
    (rrType b = 1 → bit (rrValue b) 14 = false → ∀ r rs, (v.quire (i / 16)).requests = r :: rs →
      (t.quire (i / 16)).requests = { r with found := (4096 * i + rrIndex b) :: r.found } :: rs) ∧
    (∀ a, a < v.shadowBase → (v.val oTeleBase = 0 ∨ a < v.val oTeleBase + 16 * (4096 * i + rrIndex b) ∨
      v.val oTeleBase + 16 * (4096 * i + rrIndex b) + 16 ≤ a) → t.dramByte a = v.dramByte a) ∧
    (v.integ.bulkHeld = true → t.dram = v.dram) ∧
    (v.integ.bulkHeld = false → rrType b = 2 → v.val oTeleBase ≠ 0 →
      v.val oTeleBase + 16 * (4096 * i + rrIndex b) + 16 ≤ v.shadowBase →
      t.dramGet (v.val oTeleBase + 16 * (4096 * i + rrIndex b)) 2 = leBytes 2 (rrValue b)) := by
  obtain ⟨x, hx, honly, hkeep, hstored⟩ := recordFiled_files v i b late
  rw [← ht] at honly hkeep hstored
  have htaken := recordTaken_keeps v i x
  have hplace : (v.recordTaken i x).val oTeleBase = v.val oTeleBase := htaken.fld_eq (by decide) 0 0
  have hinteg : (v.recordTaken i x).integ = v.integ := htaken.integ_eq (by decide)
  have hshadow : (v.recordTaken i x).shadowBase = v.shadowBase := State.shadowBase_congr (by rw [hinteg]) (by rw [hinteg])
  have hdram : (v.recordTaken i x).dram = v.dram := htaken.dram_eq (by decide)
  have hquire : (v.recordTaken i x).quire (i / 16) = v.quire (i / 16) := htaken.quire_eq (by decide) _
  have hnow : (v.recordTaken i x).now = v.now := State.now_congr (htaken.clk_eq (by decide))
  have hstrand := recordTaken_strand v i x
  have hcounts := recordTaken_counts v i x
  generalize v.recordTaken i x = w at *
  refine ⟨?_, ?_, ?_, fun h2 => ?_, fun h1 hv r rs hr => ?_, fun a ha ho => ?_, fun hb => ?_, fun hb h2 h0 hr => ?_⟩
  · rw [honly.stalls, hcounts, if_neg fun h => absurd h.1 (by decide)]
  · rw [honly.records, hcounts, if_pos ⟨rfl, rfl, rfl⟩]
  · rw [honly.frames.got, hstrand, hx]
  · rw [hkeep.strand_eq (by decide), h2, recordTyped_temp, hnow]
  · rw [hkeep.quire_eq (by decide), h1, recordTyped_found hv (hquire ▸ hr)]
  · exact (honly.bytes a (by rwa [hshadow]) (by rwa [hplace])).trans (congrArg (mget · a) hdram)
  · rw [honly.store (by rwa [hinteg]), hdram]
  · have hvalue := recordTyped_value w i (rrIndex b) (rrValue b) (by rwa [hinteg]) (by rwa [hplace]) (by rwa [hplace, hshadow])
    have hsame := recordTyped_only w i (rrIndex b) 2 (rrValue b)
    rw [hstored hb, h2, ← hplace]
    refine Eq.trans (storeTele_leaves hsame.shadow hsame.place ?_) hvalue
    rwa [hplace, hshadow]

end Sys2Proof.Machine
end

section
/-! SUPPORT. The clauses of a return record, from the Quire's frame in progress (R256, R278, R280). -/

namespace Sys2Proof.Machine

variable {s t u v : State} {i k late stalls : Nat} {b : BitVec 40}

theorem returnRecord_ignored (hu : u = s.beginPhase (i / 16)) (hk : k = rrIndex b) (hw : u.inWindow i k late = false) :
    exec (.returnRecord i b ⟨late, stalls⟩) s = .next u := by
  have hexec : execReturnRecord i b late stalls s = u := by
    unfold execReturnRecord
    extract_lets v
    rw [show v = u from hu.symm, ← hk, hw]
    rfl
  rw [← ans_of_pending (s := s) (u := u) (hu ▸ (State.beginPhase_keeps ..).pending_eq (by decide)), ← hexec]
  rfl

/-- A record with a wrong CRC: one more on strand i, and counted. -/
def State.recordBad (s : State) (i : Nat) : State :=
  (s.setStrand i { s.strand i with bad := (s.strand i).bad + 1 }).bump oStrandCnt i 1

/-- In its window: the stalls are counted, then the record is filed or found bad. -/
theorem execReturnRecord_eq (hu : u = s.beginPhase (i / 16)) (hk : k = rrIndex b) (hw : u.inWindow i k late = true)
    (hv : v = u.add oQuireCnt (i / 16) 3 stalls) : execReturnRecord i b late stalls s =
      if rrOk b then v.recordFiled i b late
      else v.recordBad i := by
  unfold execReturnRecord
  extract_lets w v1
  have hwu : w = u := hu.symm
  have hv1 : v1 = v := by rw [hv, ← hwu]
  clear_value v1
  subst hv1
  rw [hwu, ← hk, hw]
  rfl

theorem returnRecord_counted (hu : u = s.beginPhase (i / 16)) (hk : k = rrIndex b) (hw : u.inWindow i k late = true) :
    ∃ t, exec (.returnRecord i b ⟨late, stalls⟩) s = .next t ∧
      t.fld oQuireCnt (i / 16) 3 = (u.fld oQuireCnt (i / 16) 3 + stalls) % 2 ^ 64 ∧
      (rrOk b = false → t.fld oStrandCnt i 1 = (u.fld oStrandCnt i 1 + 1) % 2 ^ 64 ∧ (t.strand i).bad = (u.strand i).bad + 1 ∧
        (t.strand i).got = (u.strand i).got ∧ t.dram = s.dram) ∧
      (rrOk b = true → t.fld oStrandCnt i 0 = (u.fld oStrandCnt i 0 + 1) % 2 ^ 64 ∧ (t.strand i).got = k :: (u.strand i).got ∧
        (rrType b = 2 → tget (0, 0) (t.strand i).temps k = (rrValue b + 1, u.now)) ∧
        (rrType b = 1 → bit (rrValue b) 14 = false → ∀ r rs, (u.quire (i / 16)).requests = r :: rs →
          (t.quire (i / 16)).requests = { r with found := (4096 * i + k) :: r.found } :: rs) ∧
        (∀ a, a < s.shadowBase → (s.val oTeleBase = 0 ∨ a < s.val oTeleBase + 16 * (4096 * i + k) ∨
          s.val oTeleBase + 16 * (4096 * i + k) + 16 ≤ a) → t.dramByte a = s.dramByte a) ∧
        (s.integ.bulkHeld = true → t.dram = s.dram) ∧
        (s.integ.bulkHeld = false → rrType b = 2 → s.val oTeleBase ≠ 0 → s.val oTeleBase + 16 * (4096 * i + k) + 16 ≤ s.shadowBase →
          t.dramGet (s.val oTeleBase + 16 * (4096 * i + k)) 2 = leBytes 2 (rrValue b))) := by
  refine ans_next (u := execReturnRecord i b late stalls s) (fun _ _ h => h) ?_
  generalize hv : u.add oQuireCnt (i / 16) 3 stalls = v
  have hexec := execReturnRecord_eq hu hk hw hv.symm
  generalize execReturnRecord i b late stalls s = t at hexec ⊢
  have hbegan := State.beginPhase_keeps s (i / 16)
  rw [← hu] at hbegan
  have hfld : ∀ o r c, v.fld o r c = if o = oQuireCnt ∧ r = i / 16 ∧ c = 3 then (u.fld oQuireCnt (i / 16) 3 + stalls) % 2 ^ 64
      else u.fld o r c := fun o r c => hv ▸ add_fld ..
  have hinteg : v.integ = s.integ := (hv ▸ setFld_integ .. : v.integ = u.integ).trans (hbegan.integ_eq (by decide))
  have hdram : v.dram = s.dram := (hv ▸ setFld_dram .. : v.dram = u.dram).trans (hbegan.dram_eq (by decide))
  have hquires : v.quires = u.quires := hv ▸ setFld_quires ..
  have hstrand : v.strand i = u.strand i := congrArg (tget Strand.init · i) (hv ▸ setFld_strands .. : v.strands = u.strands)
  have hnow : v.now = u.now := State.now_congr (hv ▸ setFld_clk ..)
  have hplace : v.val oTeleBase = s.val oTeleBase :=
    ((hfld oTeleBase 0 0).trans (if_neg fun h => absurd h.1 (by decide))).trans (hbegan.fld_eq (by decide) 0 0)
  have hshadow : v.shadowBase = s.shadowBase := State.shadowBase_congr (by rw [hinteg]) (by rw [hinteg])
  have hstalls : v.fld oQuireCnt (i / 16) 3 = (u.fld oQuireCnt (i / 16) 3 + stalls) % 2 ^ 64 := (hfld ..).trans (if_pos ⟨rfl, rfl, rfl⟩)
  have hrecords : ∀ c, v.fld oStrandCnt i c = u.fld oStrandCnt i c := fun c => (hfld ..).trans (if_neg fun h => absurd h.1 (by decide))
  cases hok : rrOk b
  · rw [hexec, hok, if_neg (by decide)]
    have hbad : (v.recordBad i).strand i = { v.strand i with bad := (v.strand i).bad + 1 } :=
      (congrArg (tget Strand.init · i) (setFld_strands ..)).trans (strand_setStrand_self ..)
    have hcounts : ∀ o r c, (v.recordBad i).fld o r c =
        if o = oStrandCnt ∧ r = i ∧ c = 1 then (v.fld oStrandCnt i 1 + 1) % 2 ^ 64 else v.fld o r c := fun o r c => bump_fld ..
    refine ⟨?_, fun _ => ⟨?_, ?_, ?_, ?_⟩, fun h => Bool.noConfusion h⟩
    · rw [hcounts, if_neg fun h => absurd h.1 (by decide), hstalls]
    · rw [hcounts, if_pos ⟨rfl, rfl, rfl⟩, hrecords]
    · rw [hbad, hstrand]
    · rw [hbad, hstrand]
    · exact (setFld_dram ..).trans hdram
  · rw [hok, if_pos rfl] at hexec
    obtain ⟨hcount, hrecord, hgot, htemp, hfound, hbytes, hheld, hvalue⟩ := recordFiled_shows v i b late hexec
    rw [hstalls] at hcount
    rw [hrecords] at hrecord
    rw [hstrand, ← hk] at hgot
    have hquire : v.quire (i / 16) = u.quire (i / 16) := congrArg (tget Quire.init · (i / 16)) hquires
    have hbyte : ∀ a, v.dramByte a = s.dramByte a := fun a => congrArg (mget · a) hdram
    rw [hnow, ← hk] at htemp
    rw [hquire, ← hk] at hfound
    simp only [hplace, hshadow, hbyte, ← hk] at hbytes
    rw [hinteg, hdram] at hheld
    rw [hinteg, hplace, hshadow, ← hk] at hvalue
    exact ⟨hcount, fun h => Bool.noConfusion h, fun _ => ⟨hrecord, hgot, htemp, hfound, hbytes, hheld, hvalue⟩⟩

end Sys2Proof.Machine
end

section
/-! SUPPORT. The end of a pixel frame's return window (R274, R278 to R280): every strand counts the records it has missed. -/

namespace Sys2Proof.Machine

variable {s t u : State} {k i j q : Nat}

/-! ## The wiring trim (R274) -/

theorem wireUpdate_row (s : State) (i : Nat) {o : Nat} (ho : o / 4096 = 0x240) (hw : o ≠ oWire) (r : Nat) :
    (s.wireUpdate i).row o r = s.row o r := by
  have hset : ∀ v, (s.setFld oWire i 1 v).row o r = s.row o r := fun v => row_setFld_of_ne _ _ _ _ _ hw
  unfold State.wireUpdate
  extract_lets q v
  split
  case h_1 => rfl
  case h_2 =>
    extract_lets s1 n d1
    split
    · exact hset _
    · refine ((State.quireSum_keeps ..).objs o r (by rw [ho]; decide)).trans ?_
      split
      · exact ((State.broadcast_keeps ..).objs o r (by rw [ho]; decide)).trans (hset _)
      · exact hset _

/-! ## The records that are absent (R280) -/

/-- Records that strand i has missed in the window of latch index k. -/
def State.absent (s : State) (k i : Nat) : Nat := ((reporters ((s.strandCfg i).getD 0 0) (2 ^ s.fld oQuire (i / 16) 3) (k % 65536)).filter
  (fun n => !(s.strand i).got.contains n)).length

theorem State.absent_congr (hs : t.strands = s.strands) (hp : t.power = s.power) (hr : ∀ r, t.row oQuire r = s.row oQuire r)
    (hl : ∀ r, t.row oSafeLook r = s.row oSafeLook r) (hc : ∀ r, t.row oStrand r = s.row oStrand r) : t.absent k i = s.absent k i := by
  have hst : t.strand i = s.strand i := congrArg (tget Strand.init · i) hs
  have hberm : t.berm = s.berm := by rw [State.berm, State.berm, hp]
  have hcfg : t.strandCfg i = s.strandCfg i := by rw [State.strandCfg, State.strandCfg, hberm, hl, hc]
  rw [State.absent, State.absent, State.fld, State.fld, hst, hcfg, hr]

theorem windowJudge_absent (s : State) (k j k' i : Nat) : (s.windowJudge k j).absent k' i = s.absent k' i := by
  have hjudge := State.windowJudge_keeps s k j
  have hrow : ∀ o, o / 4096 = 0x240 → o ≠ oWire → ∀ r, (s.windowJudge k j).row o r = s.row o r := fun o ho hw r =>
    (wireUpdate_row (s.add oStrandCnt j 2 (s.absent k j)) j ho hw r).trans
      (row_setFld_of_ne _ _ _ _ _ fun h => absurd (h ▸ ho) (by decide))
  exact State.absent_congr (hjudge.strands_eq (by decide)) (hjudge.power_eq (by decide)) (hrow oQuire (by decide) (by decide))
    (fun r => hjudge.objs oSafeLook r (by decide)) (hrow oStrand (by decide) (by decide))

theorem windowJudge_counts (s : State) (k j i : Nat) : (s.windowJudge k j).fld oStrandCnt i 2 =
    if i = j then (s.fld oStrandCnt j 2 + s.absent k j) % 2 ^ 64 else s.fld oStrandCnt i 2 := by
  have hadd : (s.add oStrandCnt j 2 (s.absent k j)).fld oStrandCnt i 2 = _ := add_fld ..
  refine ((State.wireUpdate_keeps (s.add oStrandCnt j 2 (s.absent k j)) j).fld_eq (by decide) i 2).trans (hadd.trans ?_)
  simp

/-- Each strand of a list without repetitions counts its own. -/
theorem foldl_windowJudge_counts {l : List Nat} (hl : l.Nodup) (hi : i ∈ l) (s : State) :
    (l.foldl (fun u j => u.windowJudge k j) s).fld oStrandCnt i 2 = (s.fld oStrandCnt i 2 + s.absent k i) % 2 ^ 64 := by
  induction l generalizing s with
  | nil => cases hi
  | cons j l ih =>
    obtain ⟨hj, hl⟩ := List.nodup_cons.mp hl
    rcases List.mem_cons.mp hi with rfl | hi
    · have hrest : (l.foldl (fun u j => u.windowJudge k j) (s.windowJudge k i)).fld oStrandCnt i 2 = (s.windowJudge k i).fld oStrandCnt i 2 :=
        List.foldlRecOn (motive := fun u : State => u.fld oStrandCnt i 2 = (s.windowJudge k i).fld oStrandCnt i 2) l _ rfl
          fun u hu j hm => by rw [windowJudge_counts, if_neg (ne_of_mem_of_not_mem hm hj).symm, hu]
      rw [List.foldl_cons, hrest, windowJudge_counts, if_pos rfl]
    · rw [List.foldl_cons, ih hl hi, windowJudge_counts, if_neg (ne_of_mem_of_not_mem hi hj), windowJudge_absent]

theorem strandsOf_nodup (s : State) (q : Nat) : (s.strandsOf q).Nodup :=
  (List.nodup_range.map fun a b h => by simpa using h).filter _

theorem mem_strandsOf (h : i ∈ s.strandsOf q) : i / 16 = q := by
  obtain ⟨n, hn, rfl⟩ := List.mem_map.mp (List.mem_filter.mp h).1
  have := List.mem_range.mp hn
  omega

theorem listenAnew_strand (s : State) (i : Nat) : (s.listenAnew i).strand i = { s.strand i with got := [], bad := 0, far := none } :=
  strand_setStrand_self ..

theorem listenAnew_got (s : State) (j : Nat) (h : (s.strand i).got = []) : ((s.listenAnew j).strand i).got = [] := by
  unfold State.listenAnew
  rw [strand_setStrand]
  split
  · rfl
  · exact h

/-! ## The clause -/

theorem returnWindowEnd_pixels (hw : (s.quire q).window = some (k, true)) : ∃ t, exec (.returnWindowEnd q) s = .next t ∧
    (t.quire q).window = none ∧ t.dram = s.dram ∧ ∀ st, st ∈ s.strandsOf q → (s.strand st).sentK = some k → (t.strand st).got = [] ∧
      t.fld oStrandCnt st 2 = (s.fld oStrandCnt st 2 + ((reporters ((s.strandCfg st).getD 0 0) (2 ^ s.fld oQuire q 3)
        (k % 65536)).filter (fun i => !(s.strand st).got.contains i)).length) % 2 ^ 64 := by
  refine ans_next (u := execReturnWindowEnd q s) (fun _ _ h => h) ?_
  have hexec : execReturnWindowEnd q s = s.pixelWindowEnd q k := by rw [execReturnWindowEnd, hw]
  rw [hexec]
  refine ⟨?_, (State.pixelWindowEnd_keeps ..).dram_eq (by decide), fun st hst hsent => ?_⟩
  · unfold State.pixelWindowEnd
    extract_lets on ends v s1 s2 s3 margin s4
    rw [quire_setQuire_self]
  · have hon : st ∈ (s.strandsOf q).filter (fun st => (s.strand st).sentK == some k) := List.mem_filter.mpr ⟨hst, by simp [hsent]⟩
    have hq : st / 16 = q := mem_strandsOf hst
    have hnodup : ((s.strandsOf q).filter (fun st => (s.strand st).sentK == some k)).Nodup := (strandsOf_nodup s q).filter _
    unfold State.pixelWindowEnd
    extract_lets on ends v s1 s2 s3 margin s4
    have hv := State.advanceTb_keeps s (ends.foldl maxR 0)
    have hcount : s1.fld oStrandCnt st 2 = (v.fld oStrandCnt st 2 + v.absent k st) % 2 ^ 64 := foldl_windowJudge_counts hnodup hon v
    have habsent : v.absent k st = s.absent k st := State.absent_congr (hv.strands_eq (by decide)) (hv.power_eq (by decide))
      (fun r => hv.objs oQuire r (by decide)) (fun r => hv.objs oSafeLook r (by decide)) (fun r => hv.objs oStrand r (by decide))
    have hrest : Keeps quireCounts s1 s4 := by
      have h2 : Keeps quireCounts s1 s2 := .ite ((State.quireSum_keeps ..).weaken (by decide)) .refl
      have h3 : Keeps quireCounts s1 s3 := .foldl (fun _ _ h => .step (State.listenAnew_keeps ..) (by decide) h) h2
      exact .foldl (fun _ _ h => .step (State.setStrand_keeps ..) (by decide) h) h3
    have hgot : (s4.strand st).got = [] := by
      have h3 : (s3.strand st).got = [] :=
        foldl_sets (P := fun u => (u.strand st).got = []) hon (fun u => by rw [listenAnew_strand]) (fun u j hu => listenAnew_got u j hu) s2
      exact List.foldlRecOn (motive := fun u : State => (u.strand st).got = []) _ _ h3 fun u hu j _ => by
        simp only [margin]
        rw [strand_setStrand]
        split
        case isTrue h => exact h ▸ hu
        case isFalse => exact hu
    refine ⟨?_, ?_⟩
    · exact ((State.setQuire_keeps ..).strand_eq (by decide) st).symm ▸ hgot
    · rw [(State.setQuire_keeps ..).fld_eq (by decide), hrest.fld_eq (by decide), hcount, habsent, hv.fld_eq (by decide), State.absent, hq]

end Sys2Proof.Machine
end

section
/-! SUPPORT. The end of a return window in SETUP (R267, R268, R270, R278): the frame of the oldest request is over, and the trims that wait
go out. -/

namespace Sys2Proof.Machine

variable {s t u : State} {q j : Nat} {r : Request} {rs : List Request} {on : List Nat}

/-! ## The trims (R270) -/

theorem SameCourse.sendBroadcast (s : State) (b : Broadcast) : SameCourse s (s.sendBroadcast b) := by
  unfold State.sendBroadcast
  extract_lets q s1
  have h1 : SameCourse s s1 := ite (of_quires (setFld_quires ..)) (refl s)
  split
  case h_1 d _ =>
    have hframe : Keeps 0x100000 s1 (s1.gapFrame b.strand d (s1.commandFrame b.strand b.opcode b.arg 0)).drawNat.2 :=
      .step (State.drawNat_keeps ..) (by decide) ((State.gapFrame_keeps ..).weaken (by decide))
    exact (h1.trans (of_keeps hframe (by decide))).trans (of_quires (setFld_quires ..))
  case h_2 => exact setQuire rfl fun _ h => h

theorem setupTrims_of_none (h : (s.quire q).broadcasts = []) (on : List Nat) : s.setupTrims q on = s := by
  rw [State.setupTrims, h]
  rfl

theorem le_foldl_max (l : List Nat) (n : Nat) : n ≤ l.foldl max n :=
  List.foldlRecOn (motive := fun m => n ≤ m) l max (le_refl n) fun _ hm _ _ => le_max_of_le_left hm

/-- Trims that go out leave the requests and the window, and the lines are not free before. -/
theorem setupTrims_leaves (s : State) (q : Nat) (on : List Nat) : ((s.setupTrims q on).quire q).requests = (s.quire q).requests ∧
    ((s.setupTrims q on).quire q).window = (s.quire q).window ∧ (s.quire q).freeAt ≤ ((s.setupTrims q on).quire q).freeAt := by
  unfold State.setupTrims
  extract_lets bs mark x s1
  split
  · exact ⟨rfl, rfl, le_refl _⟩
  · have hset : SameCourse s (s.setQuire q { s.quire q with broadcasts := [] }) := .setQuire rfl fun _ h => h
    have hmark : ∀ u i, SameCourse u (mark u i) := fun u i => .of_keeps (State.setStrand_keeps ..) (by decide)
    have h1 : SameCourse s s1 := (hset.trans (.foldl hmark ..)).trans (.foldl .sendBroadcast ..)
    have hcourse := h1.course q
    have hfree : (s1.quire q).freeAt = (s.quire q).freeAt := (congrArg Quire.freeAt hcourse :)
    rw [quire_setQuire_self]
    refine ⟨(congrArg Quire.requests hcourse :), (congrArg Quire.window hcourse :), ?_⟩
    exact hfree ▸ le_foldl_max ..

/-! ## The frame of a request is over (R267, R278) -/

theorem allAcked_congr (h : ∀ i, t.fld oStrand i 0 = s.fld oStrand i 0) (r : Request) (i : Nat) : t.allAcked r i = s.allAcked r i := by
  rw [State.allAcked, State.allAcked, h]

/-- Request r of Quire q when its one frame is over. -/
def State.requestOver (s : State) (q : Nat) (r : Request) : Request :=
  { r with phase := 3, sent := false, acks := [], acked := r.acked && (!r.ret || (s.phaseStrands q r).all (fun i => s.allAcked r i)) }

/-- What goes before: the frame is counted, and its return window, if it has one, is judged. -/
def State.phaseJudged (s : State) (q : Nat) (r : Request) : State :=
  let s1 := (s.advanceElapsed (s.phaseEnd q r)).bump oQuireCnt q 1
  (s.phaseStrands q r).foldl State.listenAnew (if r.ret then s1.setupWindowEnd q (s.phaseStrands q r) else s1)

theorem phaseJudged_quire (hret : r.ret = false) : (s.phaseJudged q r).quire q = s.quire q := by
  unfold State.phaseJudged
  extract_lets s1
  have h1 : s1.quires = s.quires := (setFld_quires ..).trans ((State.advanceElapsed_keeps ..).quires_eq (by decide))
  have hkeep : Keeps 0x100000 s1 ((s.phaseStrands q r).foldl State.listenAnew s1) :=
    .foldl (fun _ _ h => .step (State.listenAnew_keeps ..) (by decide) h) .refl
  rw [hret]
  exact (hkeep.quire_eq (by decide) q).trans (congrArg (tget Quire.init · q) h1)

theorem beginPhase_of_sent (hr : (s.quire q).requests = r :: rs) (hsent : r.sent = true) : s.beginPhase q = s := by
  rw [State.beginPhase, hr]
  exact if_pos (.inr (.inl hsent))

theorem finishPhase_eq (hs : s.quireState q = 2) (hr : (s.quire q).requests = r :: rs) (hsent : r.sent = true) (henum : r.enum = false)
    (hphase : r.phase < 3) : s.finishPhase q = ((s.phaseJudged q r).setQuire q { (s.phaseJudged q r).quire q with
      requests := s.requestOver q r :: rs, freeAt := s.phaseEnd q r, window := none }).setupTrims q (s.phaseStrands q r) := by
  have hgoes : ¬(s.quireState q ≠ 2 ∨ 3 ≤ r.phase) := by omega
  have hacked : (s.phaseStrands q r).all (fun i => (s.advanceElapsed (s.phaseEnd q r)).allAcked r i) =
      (s.phaseStrands q r).all (fun i => s.allAcked r i) := by
    have hn : ∀ i, (s.advanceElapsed (s.phaseEnd q r)).fld oStrand i 0 = s.fld oStrand i 0 := fun i =>
      (State.advanceElapsed_keeps ..).fld_eq (by decide) i 0
    simp only [allAcked_congr hn]
  unfold State.finishPhase
  extract_lets sb
  have hsb : sb = s := beginPhase_of_sent hr hsent
  rw [hsb, hr]
  refine (if_neg hgoes).trans ?_
  rw [State.requestOver, State.phaseJudged, ← hacked, henum]
  simp only [Bool.false_and, Bool.false_eq_true, if_false, Bool.or_false]
  rfl

/-! ## The clause, and the obligation -/

theorem returnWindowEnd_setup (hw : (s.quire q).window = some (j, false)) (hs : s.quireState q = 2) (hr : (s.quire q).requests = r :: rs)
    (hsent : r.sent = true) (henum : r.enum = false) (hphase : r.phase < 3) : ∃ t, exec (.returnWindowEnd q) s = .next t ∧
    (t.quire q).window = none ∧ s.phaseEnd q r ≤ (t.quire q).freeAt ∧
    (r.ret = false → (s.quire q).broadcasts = [] → (t.quire q).freeAt = s.phaseEnd q r) ∧
    (t.quire q).requests = { r with phase := 3, sent := false, acks := [],
                                    acked := r.acked && (!r.ret || (s.phaseStrands q r).all (fun st => s.allAcked r st)) } :: rs := by
  refine ans_next (u := execReturnWindowEnd q s) (fun _ _ h => h) ?_
  have hexec : execReturnWindowEnd q s = s.finishPhase q := by rw [execReturnWindowEnd, hw, ← hs, if_pos rfl]
  rw [hexec, finishPhase_eq hs hr hsent henum hphase]
  have hnone := fun h : r.ret = false => phaseJudged_quire (s := s) (q := q) h
  generalize s.phaseJudged q r = w at hnone ⊢
  have hq : (w.setQuire q { w.quire q with requests := s.requestOver q r :: rs, freeAt := s.phaseEnd q r, window := none }).quire q =
      { w.quire q with requests := s.requestOver q r :: rs, freeAt := s.phaseEnd q r, window := none } := quire_setQuire_self ..
  generalize w.setQuire q { w.quire q with requests := s.requestOver q r :: rs, freeAt := s.phaseEnd q r, window := none } = v at hq ⊢
  obtain ⟨hrequests, hwindow, hfree⟩ := setupTrims_leaves v q (s.phaseStrands q r)
  rw [hq] at hrequests hwindow hfree
  refine ⟨hwindow, hfree, fun hret hb => ?_, hrequests⟩
  have hwaits : (v.quire q).broadcasts = [] := by
    rw [hq, hnone hret]
    exact hb
  rw [setupTrims_of_none hwaits, hq]

/-- Settles O43: a record by the window it begins in and the one telemetry row it may write, the end of a window by the records each strand
has missed, or by the request whose frame is over. -/
theorem returnCommands : Obligations.ReturnCommands :=
  ⟨fun _ _ _ _ _ _ _ _ hu hk => ⟨returnRecord_ignored hu hk, returnRecord_counted hu hk⟩,
    fun _ _ _ _ => returnWindowEnd_pixels, fun _ _ _ _ _ _ => returnWindowEnd_setup⟩

end Sys2Proof.Machine
end

section
/-! SUPPORT. A task completes (R406, R413, R433): its handle is retained with its status, and what completes later leaves it so. -/

namespace Sys2Proof.Machine

variable {s t u : State} {h k st slot m : Nat}

theorem Completed.congr (hc : Completed s h st) (ht : t.task (h % 1024) = s.task (h % 1024)) : Completed t h st := by
  unfold Completed State.handleRetained
  rw [ht]
  exact hc

/-- Every handle retained in s is retained in t with the same status. -/
structure ResultsStand (s t : State) : Prop where
  stands : ∀ h st, Completed s h st → Completed t h st

namespace ResultsStand

theorem refl (s : State) : ResultsStand s s := ⟨fun _ _ h => h⟩

theorem trans (a : ResultsStand s t) (b : ResultsStand t u) : ResultsStand s u := ⟨fun h st c => b.stands h st (a.stands h st c)⟩

theorem of_slots (hs : t.weir.slots = s.weir.slots) : ResultsStand s t :=
  ⟨fun h _ c => c.congr (congrArg (tget Task.init · (h % 1024)) hs)⟩

theorem of_keeps (k : Keeps m s t) (hm : m.testBit 13 = true) : ResultsStand s t := of_slots (congrArg Weir.slots (k.weir_eq hm))

theorem ite {c : Prop} [Decidable c] {a b : State} (ha : ResultsStand s a) (hb : ResultsStand s b) :
    ResultsStand s (if c then a else b) := by split <;> assumption

theorem foldl {α : Type} {f : State → α → State} (hf : ∀ s a, ResultsStand s (f s a)) (l : List α) (s : State) :
    ResultsStand s (l.foldl f s) := List.foldlRecOn l f (refl s) fun _ hu a _ => hu.trans (hf _ a)

/-- A slot whose task is live holds no retained handle. -/
theorem setTask (hl : (s.task slot).state ≠ 0) (x : Task) : ResultsStand s (s.setTask slot x) where
  stands h st c := by
    have hne : h % 1024 ≠ slot := by
      rintro rfl
      simp [Completed, State.handleRetained, hl] at c
    exact c.congr (tget_tset_of_ne _ _ _ _ hne)

theorem raise (s : State) (e : Nat) : ResultsStand s (s.raise e) := of_keeps (State.raise_keeps s e) (by decide)

theorem cqPush (s : State) (h st : Nat) : ResultsStand s (s.cqPush h st) := by
  unfold State.cqPush
  extract_lets w s1
  have h1 : ResultsStand s s1 := of_slots rfl
  exact ite (trans (by exact of_slots rfl) (raise ..)) (ite (h1.trans (raise ..)) h1)

theorem deliverCompletion (s : State) (x : Task) (st : Nat) (result : List Byte) : ResultsStand s (s.deliverCompletion x st result) := by
  unfold State.deliverCompletion
  extract_lets notify s1
  have h1 : ResultsStand s s1 := ite (of_keeps (State.sendComplete_keeps ..) (by decide)) (refl s)
  exact ite (h1.trans (cqPush ..)) h1

end ResultsStand

theorem handleLive_state (hl : s.handleLive h = true) : (s.task (h % 1024)).state ≠ 0 := by
  simp [State.handleLive] at hl
  exact hl.2

namespace ResultsStand

theorem actEdge (s : State) (st : Nat) (e : Edge) : ResultsStand s (s.actEdge st e).2 := by
  unfold State.actEdge
  split
  next hl =>
    split
    · exact setTask (handleLive_state hl) _
    split
    · exact setTask (handleLive_state hl) _
    · exact refl s
  · exact refl s

theorem actEdges (s : State) (st : Nat) (es : List Edge) : ResultsStand s (s.actEdges st es).2 := by
  induction es generalizing s with
  | nil => exact refl s
  | cons e es ih => exact (actEdge s st e).trans (ih _)

end ResultsStand

/-- Task t as it completes with a status at an instant. -/
def Task.finished (t : Task) (st at_ : Nat) : Task := { t with state := 0, status := st, doneAt := at_, edges := [], counter := 0 }

/-- What follows once the task of a live handle has its status. -/
theorem finishOne_rest (hl : s.handleLive h = true) (st : Nat) (r : List Byte) :
    ResultsStand (s.setTask (h % 1024) ((s.task (h % 1024)).finished st s.nowPt)) (s.finishOne h st r).2 := by
  unfold State.finishOne
  rw [if_pos hl]
  extract_lets slot x s1 w s2 s3 s4 s5
  have h2 : ResultsStand s1 s2 := .ite (.of_slots rfl) (.refl s1)
  have h3 : ResultsStand s2 s3 := .of_slots rfl
  have h4 : ResultsStand s3 s4 := .ite (.of_keeps (State.raise_keeps ..) (by decide)) (.refl s3)
  exact ((h2.trans h3).trans h4).trans ((ResultsStand.deliverCompletion ..).trans (.actEdges ..))

theorem finishOne_completes (hl : s.handleLive h = true) (st : Nat) (r : List Byte) : Completed (s.finishOne h st r).2 h st := by
  refine (finishOne_rest hl st r).stands h st ?_
  have hself := hl
  simp only [State.handleLive, Bool.and_eq_true] at hself
  obtain ⟨⟨hne, heq⟩, -⟩ := hself
  have htask : (s.setTask (h % 1024) ((s.task (h % 1024)).finished st s.nowPt)).task (h % 1024) =
      (s.task (h % 1024)).finished st s.nowPt := tget_tset_self ..
  unfold Completed State.handleRetained
  rw [htask]
  simp [Task.finished, hne, heq]

namespace ResultsStand

theorem finishOne (s : State) (h st : Nat) (r : List Byte) : ResultsStand s (s.finishOne h st r).2 := by
  by_cases hl : s.handleLive h = true
  · exact (setTask (handleLive_state hl) _).trans (finishOne_rest hl st r)
  · rw [State.finishOne, if_neg hl]
    exact refl s

theorem finishAll (n : Nat) (w : List (Nat × Nat)) (s : State) : ResultsStand s (State.finishAll n w s) := by
  induction n generalizing w s with
  | zero => exact refl s
  | succ n ih =>
    cases w with
    | nil => exact refl s
    | cons x w => exact (finishOne ..).trans (ih _ _)

theorem completeTask (s : State) (h st : Nat) : ResultsStand s (s.completeTask h st) := finishAll ..

theorem completeOpt (s : State) (h : Option Nat) (st : Nat) : ResultsStand s (s.completeOpt h st) := by
  cases h with
  | none => exact refl s
  | some x => exact completeTask ..

end ResultsStand

/-- A live task that completes has its status (R406, R413). -/
theorem completeTask_completes (hl : s.handleLive h = true) (st : Nat) : Completed (s.completeTask h st) h st :=
  (ResultsStand.finishAll 5119 _ (s.finishOne h st []).2).stands h st (finishOne_completes hl st [])

theorem completeOpt_completes (hl : s.handleLive h = true) (st : Nat) : Completed (s.completeOpt (some h) st) h st :=
  completeTask_completes hl st

theorem State.handleLive_congr (hs : t.weir.slots = s.weir.slots) (h : Nat) : t.handleLive h = s.handleLive h :=
  congrArg (fun w : Tbl Task => h != 0 && (tget Task.init w (h % 1024)).handle == h && (tget Task.init w (h % 1024)).state != 0) hs

end Sys2Proof.Machine
end

section
/-! SUPPORT. Fade units (R304 to R315): what a reader of a unit depends on, and a unit that becomes DONE. -/

namespace Sys2Proof.Machine

variable {s t u : State} {f g h m : Nat}

/-! ## One unit -/

theorem State.fade_congr (hl : t.light.fades = s.light.fades) (f : Nat) : t.fade f = s.fade f := congrArg (tget Fade.init · f) hl

theorem Keeps.fade_eq (k : Keeps m s t) (hm : m.testBit 22 = true) (f : Nat) : t.fade f = s.fade f :=
  State.fade_congr (congrArg Light.fades (k.light_eq hm)) f

theorem State.boundUnit_congr (hl : t.light.fades = s.light.fades) (kind i : Nat) : t.boundUnit kind i = s.boundUnit kind i := by
  unfold State.boundUnit
  rw [hl]

theorem State.fadeBase_congr (hf : ∀ o r c, o = oLayerActive ∨ o = oQuireMaster ∨ o = oStrandMaster ∨ o = oRegionGain → t.fld o r c = s.fld o r c)
    (kind i : Nat) : t.fadeBase kind i = s.fadeBase kind i := by
  unfold State.fadeBase
  split
  · exact hf _ _ _ (by simp)
  · exact hf _ _ _ (by simp)
  · exact hf _ _ _ (by simp)
  · exact hf _ _ _ (by simp)
  · rfl

theorem Keeps.fadeBase_eq (k : Keeps m s t) (h0 : m.testBit (32 + 0x210) = true) (h1 : m.testBit (32 + 0x251) = true)
    (h2 : m.testBit (32 + 0x254) = true) (kind i : Nat) : t.fadeBase kind i = s.fadeBase kind i := by
  refine State.fadeBase_congr (fun o r c ho => ?_) kind i
  rcases ho with rfl | rfl | rfl | rfl
  · exact k.fld_eq h0 r c
  · exact k.fld_eq h1 r c
  · exact k.fld_eq h1 r c
  · exact k.fld_eq h2 r c

theorem fade_setFade (s : State) (f g : Nat) (x : Fade) : (s.setFade f x).fade g = if g = f then x else s.fade g := tget_tset ..

@[simp] theorem fade_setFade_self (s : State) (f : Nat) (x : Fade) : (s.setFade f x).fade f = x := tget_tset_self ..

@[simp] theorem setFade_fld (s : State) (f : Nat) (x : Fade) (o r c : Nat) : (s.setFade f x).fld o r c = s.fld o r c := rfl

@[simp] theorem setFade_row (s : State) (f : Nat) (x : Fade) (o r : Nat) : (s.setFade f x).row o r = s.row o r := rfl

@[simp] theorem setFld_fade (s : State) (o r c v : Nat) : (s.setFld o r c v).fade f = s.fade f := rfl

@[simp] theorem bump_fade (s : State) (o r c : Nat) : (s.bump o r c).fade f = s.fade f := rfl

@[simp] theorem raise_fade (s : State) (e : Nat) : (s.raise e).fade f = s.fade f := (State.raise_keeps s e).fade_eq (by decide) f

@[simp] theorem advanceTo_fade (s : State) (pt : Nat) : (s.advanceTo pt).fade f = s.fade f := (State.advanceTo_keeps s pt).fade_eq (by decide) f

@[simp] theorem setFadeStatus_fade (s : State) (f st result : Nat) : (s.setFadeStatus f st result).fade g = s.fade g := rfl

theorem setFadeStatus_fld (s : State) (f st result g c : Nat) : (s.setFadeStatus f st result).fld oFadeStatus g c =
    if g = f then if c = 1 then result else if c = 0 then st else s.fld oFadeStatus g c else s.fld oFadeStatus g c := by
  unfold State.setFadeStatus
  rw [fld_setRow]
  by_cases hg : g = f
  · subst hg
    simp only [true_and, if_true, getD_rput]
    rfl
  · rw [if_neg fun k => hg k.2, if_neg hg]

theorem setFadeStatus_state (s : State) (f st result : Nat) : (s.setFadeStatus f st result).fld oFadeStatus f 0 = st := by
  simp [setFadeStatus_fld]

theorem setFadeStatus_result (s : State) (f st result : Nat) : (s.setFadeStatus f st result).fld oFadeStatus f 1 = result := by
  simp [setFadeStatus_fld]

theorem setFadeStatus_fld_of_ne (s : State) {o : Nat} (f st result r c : Nat) (ho : o ≠ oFadeStatus) :
    (s.setFadeStatus f st result).fld o r c = s.fld o r c := fld_setRow_of_ne _ _ _ _ _ ho

/-! ## Base values (R308) -/

theorem setFadeBase_fld (s : State) (kind i v : Nat) (r c : Nat) {o : Nat} (hg : o / 4096 = 0x250 ∨ o / 4096 = 0x425) :
    (s.setFadeBase kind i v).fld o r c = s.fld o r c := by
  refine (State.setFadeBase_keeps s kind i v).fld_eq ?_ r c
  rcases hg with hg | hg <;> rw [hg] <;> decide

theorem fadeBase_setFadeBase (s : State) {kind : Nat} (i v : Nat) (h1 : 1 ≤ kind) (h4 : kind ≤ 4) :
    (s.setFadeBase kind i v).fadeBase kind i = v := by
  have hsaved : ∀ (x : State) (o r : Nat), x.touchSettings.fld o r 0 = x.fld o r 0 := fun x o r =>
    State.fld_congr (by unfold State.touchSettings; split <;> rfl)
  obtain rfl | rfl | rfl | rfl : kind = 1 ∨ kind = 2 ∨ kind = 3 ∨ kind = 4 := by omega
  · exact fld_setFld_self ..
  · exact (hsaved ..).trans (fld_setFld_self ..)
  · exact (hsaved ..).trans (fld_setFld_self ..)
  · exact (hsaved ..).trans (fld_setFld_self ..)

@[simp] theorem setFadeBase_fade (s : State) (kind i v : Nat) : (s.setFadeBase kind i v).fade f = s.fade f :=
  (State.setFadeBase_keeps s kind i v).fade_eq (by decide) f

/-! ## DONE (R307, R314, R315) -/

section
variable {α : Type} {e : Nat × α} {i : Nat} {l : Tbl α}

theorem mem_tins_of_ne (hne : e.1 ≠ i) (x : α) (he : e ∈ l) : e ∈ tins l i x := by
  induction l with
  | nil => cases he
  | cons a l ih =>
    unfold tins
    rcases List.mem_cons.mp he with rfl | he
    · split_ifs with hlt heq
      · simp
      · exact absurd heq.symm hne
      · simp
    · split_ifs <;> simp [he, ih he]

theorem mem_tdel_of_ne (hne : e.1 ≠ i) (he : e ∈ l) : e ∈ tdel l i := by
  induction l with
  | nil => cases he
  | cons a l ih =>
    unfold tdel
    rcases List.mem_cons.mp he with rfl | he
    · rw [if_neg hne]
      exact List.mem_cons_self
    · split_ifs <;> simp [ih he]

/-- An entry of another key stays when a key of a table is written. -/
theorem mem_tset_of_ne [DecidableEq α] {d x : α} (hne : e.1 ≠ i) (he : e ∈ l) : e ∈ tset d l i x := by
  unfold tset
  split
  · exact mem_tdel_of_ne hne he
  · exact mem_tins_of_ne hne x he

end

/-- Unit f is DONE with a result and an output, and every other unit is as it was. -/
structure FadeDone (f result out : Nat) (s t : State) : Prop where
  state : t.fadeState f = 3
  result : t.fld oFadeStatus f 1 = result
  output : t.fld oFadeStatus f 2 = out
  unbound : (t.fade f).bound = false
  fades : ∀ g, g ≠ f → t.fade g = s.fade g
  states : ∀ g c, g ≠ f → t.fld oFadeStatus g c = s.fld oFadeStatus g c
  entries : ∀ e, e ∈ s.light.fades → e.1 ≠ f → e ∈ t.light.fades

/-- The units and their objects. -/
abbrev unitParts : Nat := 0x1000000000000000000000000000000000000000000000000000000000000000000000000000000000000000000000000000000000000000000000000000000000000000000000000000000400000

/-- The objects of base values. -/
abbrev baseObjs : Nat := 0x12000000000000000100000000000000000000000000000000000000000000000000000000000000000000000000000000000000000000000000000000000000000000000000000000000000000000

/-- What precedes the change of state leaves the units alone. -/
theorem FadeDone.of_before {result out : Nat} (h : FadeDone f result out t u) (hl : t.light.fades = s.light.fades)
    (hst : ∀ g c, g ≠ f → t.fld oFadeStatus g c = s.fld oFadeStatus g c) : FadeDone f result out s u where
  state := h.state
  result := h.result
  output := h.output
  unbound := h.unbound
  fades g hg := (h.fades g hg).trans (State.fade_congr hl g)
  states g c hg := (h.states g c hg).trans (hst g c hg)
  entries e he := h.entries e (hl ▸ he)

theorem fadeDone_done (s : State) (f result out status : Nat) : FadeDone f result out s (s.fadeDone f result out status) := by
  unfold State.fadeDone
  extract_lets x left s1 s2
  have hk : Keeps unitParts s1 (s2.completeOpt x.task status) :=
    .step (State.completeOpt_keeps ..) (by decide) (.ite ((State.raise_keeps ..).weaken (by decide)) .refl)
  generalize s2.completeOpt x.task status = t at hk
  have hf : ∀ g, t.fade g = if g = f then { x with bound := false, task := none, lastOut := left } else s.fade g := fun g =>
    (hk.fade_eq (by decide) g).trans (fade_setFade ..)
  have hst : ∀ g c, t.fld oFadeStatus g c = (s.setFadeStatus f 3 result |>.setFld oFadeStatus f 2 out).fld oFadeStatus g c := fun g c =>
    hk.fld_eq (by decide) g c
  refine ⟨?_, ?_, ?_, ?_, fun g hg => ?_, fun g c hg => ?_, fun e he hne => ?_⟩
  · exact (hst f 0).trans (((fld_setFld ..).trans (if_neg (by omega))).trans (setFadeStatus_state ..))
  · exact (hst f 1).trans (((fld_setFld ..).trans (if_neg (by omega))).trans (setFadeStatus_result ..))
  · exact (hst f 2).trans (fld_setFld_self ..)
  · rw [hf, if_pos rfl]
  · rw [hf, if_neg hg]
  · rw [hst, fld_setFld, if_neg fun k => hg k.2.1, setFadeStatus_fld, if_neg hg]
  · rw [hk.light_eq (by decide)]
    exact mem_tset_of_ne hne he

theorem fadeDone_evs (s : State) (f result out status : Nat) : EventsStand s (s.fadeDone f result out status) :=
  (AlphasOnly.fadeDone s f result out status).evs

theorem fadeDone_notifies (result out status : Nat) (hn : fdNotify (s.fade f).row = true) :
    (s.fadeDone f result out status).raised 96 = true := by
  unfold State.fadeDone
  extract_lets x left s1 s2
  refine (EventsStand.completeOpt ..).stands 96 ?_
  simp only [s2, x, hn, if_true]
  exact raised_raise_self _ _ (by decide)

theorem fadeDone_completes {k : Nat} (result out status : Nat) (ht : (s.fade f).task = some k) (hl : s.handleLive k = true) :
    Completed (s.fadeDone f result out status) k status := by
  unfold State.fadeDone
  extract_lets x left s1 s2
  simp only [x, ht]
  have hw : Keeps (0x2000) s s2 := by
    have h1 : Keeps (0x2000) s s1 := .step (State.setFade_keeps ..) (by decide) (.setFld (by decide) (.setRow (by decide) .refl))
    exact .ite (.step (State.raise_keeps ..) (by decide) h1) h1
  exact completeOpt_completes ((State.handleLive_congr (congrArg Weir.slots (hw.weir_eq (by decide))) k).trans hl) status

/-! ## The end of a unit (R307) -/

theorem fadeEnds_done (s : State) (f : Nat) : FadeDone f 1 (fdTo (s.fade f).row) s (s.fadeEnds f) := by
  unfold State.fadeEnds
  extract_lets v s1
  refine (fadeDone_done s1 f 1 (fdTo v) stOk).of_before ?_ fun g c _ => ?_
  · exact congrArg Light.fades ((State.setFadeBase_keeps s (fdKind v) (fdIndex v) (fdTo v)).light_eq (by decide))
  · exact (fld_setFld_of_ne _ _ _ _ _ _ (by decide)).trans (setFadeBase_fld _ _ _ _ _ _ (.inl rfl))

theorem fadeEnds_counted (s : State) (f : Nat) : (s.fadeEnds f).fld oLightCnt 0 0 = (s.fld oLightCnt 0 0 + 1) % 2 ^ 64 := by
  unfold State.fadeEnds
  extract_lets v s1
  rw [(State.fadeDone_keeps ..).fld_eq (by decide)]
  refine (fld_setFld_self ..).trans ?_
  rw [setFadeBase_fld _ _ _ _ _ _ (.inr rfl)]

theorem fadeEnds_base (h1 : 1 ≤ fdKind (s.fade f).row) (h4 : fdKind (s.fade f).row ≤ 4) :
    (s.fadeEnds f).fadeBase (fdKind (s.fade f).row) (fdIndex (s.fade f).row) = fdTo (s.fade f).row := by
  unfold State.fadeEnds
  extract_lets v s1
  rw [(State.fadeDone_keeps ..).fadeBase_eq (by decide) (by decide) (by decide)]
  refine Eq.trans ?_ (fadeBase_setFadeBase s (fdIndex v) (fdTo v) h1 h4)
  exact (Keeps.bump (m := baseObjs) (by decide) .refl).fadeBase_eq (by decide) (by decide)
    (by decide) _ _

theorem fadeEnds_notifies (hn : fdNotify (s.fade f).row = true) : (s.fadeEnds f).raised 96 = true := by
  unfold State.fadeEnds
  extract_lets v s1
  refine fadeDone_notifies _ _ _ ?_
  rwa [bump_fade, setFadeBase_fade]

theorem fadeEnds_completes {k : Nat} (ht : (s.fade f).task = some k) (hl : s.handleLive k = true) :
    Completed (s.fadeEnds f) k stOk := by
  unfold State.fadeEnds
  extract_lets v s1
  refine fadeDone_completes _ _ _ (by rwa [bump_fade, setFadeBase_fade]) ?_
  have hw : Keeps (0x2000) s s1 := .bump (by decide) ((State.setFadeBase_keeps ..).weaken (by decide))
  exact (State.handleLive_congr (congrArg Weir.slots (hw.weir_eq (by decide))) k).trans hl

/-! ## A unit that is superseded (R314) -/

theorem fadeSuperseded_done (s : State) (f out : Nat) : FadeDone f 3 out s (s.fadeSuperseded f out) := by
  refine (fadeDone_done _ f 3 out stCancelled).of_before (congrArg Light.fades ?_) fun g c _ => ?_
  · exact (State.raise_keeps ..).light_eq (by decide)
  · exact (raise_fld _ _ _ _ (by decide)).trans (fld_setFld_of_ne _ _ _ _ _ _ (by decide))

theorem fadeSuperseded_raised (s : State) (f out : Nat) : (s.fadeSuperseded f out).raised 97 = true :=
  (fadeDone_evs ..).stands 97 (raised_raise_self _ _ (by decide))

theorem fadeSuperseded_counted (s : State) (f out : Nat) :
    (s.fadeSuperseded f out).fld oLightCnt 0 1 = (s.fld oLightCnt 0 1 + 1) % 2 ^ 64 := by
  unfold State.fadeSuperseded
  rw [(State.fadeDone_keeps ..).fld_eq (by decide), raise_fld _ _ _ _ (by decide)]
  exact fld_setFld_self ..

theorem fadeSuperseded_completes {k : Nat} (out : Nat) (ht : (s.fade f).task = some k) (hl : s.handleLive k = true) :
    Completed (s.fadeSuperseded f out) k stCancelled := by
  refine fadeDone_completes _ _ _ (by rwa [raise_fade, bump_fade]) ?_
  have hw : Keeps (0x2000) s ((s.bump oLightCnt 0 1).raise 97) := .step (State.raise_keeps ..) (by decide) (.bump (by decide) .refl)
  exact (State.handleLive_congr (congrArg Weir.slots (hw.weir_eq (by decide))) k).trans hl

end Sys2Proof.Machine
end

section
/-! SUPPORT. The instants of a fade (R305 to R308, R314, R315): how a unit's window begins where its target is free, held or sought by a
higher unit, and how it ends. -/

namespace Sys2Proof.Machine

variable {s t u : State} {f h tick : Nat} {v : Row}

/-! ## A window begins (R306, R308, R314) -/

/-- Unit f has entered its window with what it had, x: it holds its target from a tick on, over the value `under`, and fades from `src`. -/
def State.fadeStarted (s : State) (f : Nat) (x : Fade) (v : Row) (src tick under : Nat) : State :=
  ((s.setFade f { x with row := rput v 4 src, bound := fdKind v != 0, boundAt := tick, under := under }).setFadeStatus f 2 0).setFld
    oFadeStatus f 3 src

/-- A higher unit that seeks the target goes on seeking it when the window of another unit ends in this tick. -/
theorem outbid_fadeSettle (h at_ : Nat) (hb : s.outbid f tick v = true) : (s.fadeSettle h at_).outbid f tick v = true := by
  unfold State.fadeSettle
  split
  next hh =>
    have hdone := fadeEnds_done s h
    simp only [State.outbid, Bool.and_eq_true, List.any_eq_true] at hb ⊢
    obtain ⟨hkind, e, he, ⟨⟨⟨⟨hlt, hst⟩, hek⟩, hei⟩, het⟩, hed⟩ := hb
    have hne : e.1 ≠ h := by
      rintro rfl
      rw [hh.1] at hst
      contradiction
    exact ⟨hkind, e, hdone.entries e he hne, ⟨⟨⟨⟨hlt, by rwa [State.fadeState, hdone.states _ _ hne]⟩, hek⟩, hei⟩, het⟩, hed⟩
  · exact hb

theorem fadeBegins_outbid (hd : fdDur (s.fade f).row ≠ 0) (hb : s.outbid f (tickUp s.now) (s.fade f).row = true) :
    ∃ (w : State) (out : Nat), s.fadeBegins f = w.fadeSuperseded f out := by
  unfold State.fadeBegins
  extract_lets v tick w x holder same under src start
  have hw : w.outbid f tick v = true := by
    simp only [w]
    split
    · exact outbid_fadeSettle _ _ hb
    · exact hb
  exact ⟨w, x.lastOut, (if_neg hd).trans (if_pos hw)⟩

theorem fadeBegins_free (hd : fdDur (s.fade f).row ≠ 0) (hb : s.outbid f (tickUp s.now) (s.fade f).row = false)
    (hn : s.boundUnit (fdKind (s.fade f).row) (fdIndex (s.fade f).row) = none) : s.fadeBegins f =
      s.fadeStarted f (s.fade f) (s.fade f).row
        (if fdCurrent (s.fade f).row = true then s.fadeBase (fdKind (s.fade f).row) (fdIndex (s.fade f).row) else fdFrom (s.fade f).row)
        (tickUp s.now) (s.fadeBase (fdKind (s.fade f).row) (fdIndex (s.fade f).row)) := by
  unfold State.fadeBegins
  simp only [hn, hd, hb, if_false, Bool.false_eq_true]
  rfl

/-- The unit that holds the target of f, and whose window has not ended, gives way. -/
theorem fadeBegins_supersedes (hd : fdDur (s.fade f).row ≠ 0) (hb : s.outbid f (tickUp s.now) (s.fade f).row = false)
    (hh : s.boundUnit (fdKind (s.fade f).row) (fdIndex (s.fade f).row) = some h) (hw : tickUp s.now < fdEndTick (s.fade h).row)
    (hlow : (s.fade h).boundAt ≠ tickUp s.now ∨ h < f) : ∃ src under, s.fadeBegins f =
      (if (s.fade h).boundAt = tickUp s.now then s.fadeUnbound h else s.fadeSuperseded h (s.fadeOut h)).fadeStarted f (s.fade f)
        (s.fade f).row src (tickUp s.now) under := by
  have hsettle : s.fadeSettle h (tickUp s.now) = s := if_neg fun k => absurd k.2 (by omega)
  have hyields : ¬((s.fade h).boundAt = tickUp s.now ∧ f < h) := by omega
  unfold State.fadeBegins
  simp only [hh, hsettle, hd, hb, if_false, Bool.false_eq_true, Option.any_some, Bool.and_eq_true, beq_iff_eq, decide_eq_true_eq, hyields]
  exact ⟨_, _, rfl⟩

theorem fadeStarted_state (s : State) (f : Nat) (x : Fade) (v : Row) (src tick under : Nat) :
    (s.fadeStarted f x v src tick under).fadeState f = 2 := by
  simp [State.fadeStarted, State.fadeState, fld_setFld, setFadeStatus_fld]

theorem fadeStarted_source (s : State) (f : Nat) (x : Fade) (v : Row) (src tick under : Nat) :
    (s.fadeStarted f x v src tick under).fld oFadeStatus f 3 = src := fld_setFld_self ..

theorem fadeStarted_fade (s : State) (f g : Nat) (x : Fade) (v : Row) (src tick under : Nat) :
    (s.fadeStarted f x v src tick under).fade g =
      if g = f then { x with row := rput v 4 src, bound := fdKind v != 0, boundAt := tick, under := under } else s.fade g :=
  fade_setFade ..

/-- Another unit's status is left alone, and every other object. -/
theorem fadeStarted_fld (s : State) (f : Nat) (x : Fade) (v : Row) (src tick under : Nat) {o r : Nat} (c : Nat)
    (hne : o ≠ oFadeStatus ∨ r ≠ f) : (s.fadeStarted f x v src tick under).fld o r c = s.fld o r c := by
  refine ((fld_setFld ..).trans (if_neg ?_)).trans ((fld_setRow ..).trans (if_neg ?_))
  · exact fun k => hne.elim (· k.1) (· k.2.1)
  · exact fun k => hne.elim (· k.1) (· k.2)

theorem fadeStarted_results (s : State) (f : Nat) (x : Fade) (v : Row) (src tick under : Nat) :
    ResultsStand s (s.fadeStarted f x v src tick under) := .of_slots rfl

theorem fadeStarted_evs (s : State) (f : Nat) (x : Fade) (v : Row) (src tick under : Nat) :
    EventsStand s (s.fadeStarted f x v src tick under) := .of_evt rfl

/-! ## A holder gives way (R314) -/

/-- Unit h has been superseded: it is DONE with result 3, counted and raised, and its task is CANCELLED. -/
structure GivesWay (h : Nat) (s t : State) : Prop where
  done : ∃ out, FadeDone h 3 out s t
  raised : t.raised 97 = true
  counted : t.fld oLightCnt 0 1 = (s.fld oLightCnt 0 1 + 1) % 2 ^ 64
  cancels : ∀ k, (s.fade h).task = some k → s.handleLive k = true → Completed t k stCancelled

theorem fadeSuperseded_givesWay (s : State) (h out : Nat) : GivesWay h s (s.fadeSuperseded h out) :=
  ⟨⟨out, fadeSuperseded_done ..⟩, fadeSuperseded_raised .., fadeSuperseded_counted .., fun _ => fadeSuperseded_completes out⟩

theorem fadeUnbound_givesWay (s : State) (h : Nat) : GivesWay h s (s.fadeUnbound h) where
  done := ⟨_, (fadeSuperseded_done (s.setFadeStatus h 1 0) h _).of_before rfl fun g c hg => (setFadeStatus_fld ..).trans (if_neg hg)⟩
  raised := fadeSuperseded_raised ..
  counted := by rw [State.fadeUnbound, fadeSuperseded_counted, setFadeStatus_fld_of_ne _ _ _ _ _ _ (by decide)]
  cancels _ ht hl := fadeSuperseded_completes _ ht hl

/-! ## The clauses, and the obligation -/

theorem fadeStart_superseded (hst : s.fadeState f = 1) (hv : v = (s.fade f).row) (hu : u = s.advanceTo (fdStartTick v)) (hd : fdDur v ≠ 0)
    (hb : u.outbid f (tickUp u.now) v = true) : ∃ t, exec (.fadeStart f) s = .next t ∧ t.fadeState f = 3 ∧ t.fld oFadeStatus f 1 = 3 ∧
      t.raised 97 = true := by
  refine ans_next (u := execFadeStart f s) (fun _ _ h => h) ?_
  subst hv
  rw [execFadeStart, if_pos hst, ← hu]
  have hf : u.fade f = s.fade f := hu ▸ advanceTo_fade ..
  rw [← hf] at hd hb
  obtain ⟨w, out, heq⟩ := fadeBegins_outbid hd hb
  rw [heq]
  have hdone := fadeSuperseded_done w f out
  exact ⟨hdone.state, hdone.result, fadeSuperseded_raised ..⟩

theorem fadeStart_binds (hst : s.fadeState f = 1) (hv : v = (s.fade f).row) (hu : u = s.advanceTo (fdStartTick v)) (hd : fdDur v ≠ 0)
    (hb : u.outbid f (tickUp u.now) v = false) (hn : s.boundUnit (fdKind v) (fdIndex v) = none) :
    ∃ t, exec (.fadeStart f) s = .next t ∧ t.fadeState f = 2 ∧ (t.fade f).bound = (fdKind v != 0) ∧
      (t.fade f).row = rput v 4 (if fdCurrent v = true then u.fadeBase (fdKind v) (fdIndex v) else fdFrom v) ∧
      t.fld oFadeStatus f 3 = if fdCurrent v = true then u.fadeBase (fdKind v) (fdIndex v) else fdFrom v := by
  refine ans_next (u := execFadeStart f s) (fun _ _ h => h) ?_
  subst hv
  rw [execFadeStart, if_pos hst, ← hu]
  have hf : u.fade f = s.fade f := hu ▸ advanceTo_fade ..
  have hl : u.light = s.light := hu ▸ (State.advanceTo_keeps ..).light_eq (by decide)
  rw [← State.boundUnit_congr (congrArg Light.fades hl)] at hn
  rw [← hf] at hd hb hn ⊢
  rw [fadeBegins_free hd hb hn, fadeStarted_fade, if_pos rfl]
  exact ⟨fadeStarted_state .., rfl, rfl, fadeStarted_source ..⟩

theorem fadeStart_supersedes (hst : s.fadeState f = 1) (hv : v = (s.fade f).row) (hu : u = s.advanceTo (fdStartTick v)) (hd : fdDur v ≠ 0)
    (hb : u.outbid f (tickUp u.now) v = false) (hh : s.boundUnit (fdKind v) (fdIndex v) = some h) (hne : h ≠ f)
    (hw : tickUp u.now < fdEndTick (s.fade h).row) (hlow : (s.fade h).boundAt ≠ tickUp u.now ∨ h < f) :
    ∃ t, exec (.fadeStart f) s = .next t ∧ t.fadeState f = 2 ∧ t.fadeState h = 3 ∧
      t.fld oFadeStatus h 1 = 3 ∧ (t.fade h).bound = false ∧ t.raised 97 = true ∧
      t.fld oLightCnt 0 1 = (s.fld oLightCnt 0 1 + 1) % 2 ^ 64 ∧
      ∀ k, (s.fade h).task = some k → s.handleLive k = true → Completed t k stCancelled := by
  refine ans_next (u := execFadeStart f s) (fun _ _ h => h) ?_
  subst hv
  rw [execFadeStart, if_pos hst, ← hu]
  have hf : ∀ g, u.fade g = s.fade g := fun g => hu ▸ advanceTo_fade ..
  have hk := State.advanceTo_keeps s (fdStartTick (s.fade f).row)
  rw [← hu] at hk
  rw [← State.boundUnit_congr (congrArg Light.fades (hk.light_eq (by decide)))] at hh
  rw [← hf f] at hd hb hh
  rw [← hf h] at hw hlow ⊢
  rw [← hk.fld_eq (by decide) 0 1]
  obtain ⟨src, under, heq⟩ := fadeBegins_supersedes hd hb hh hw hlow
  rw [heq]
  have hway : GivesWay h u (if (u.fade h).boundAt = tickUp u.now then u.fadeUnbound h else u.fadeSuperseded h (u.fadeOut h)) := by
    split
    · exact fadeUnbound_givesWay ..
    · exact fadeSuperseded_givesWay ..
  generalize (if (u.fade h).boundAt = tickUp u.now then u.fadeUnbound h else u.fadeSuperseded h (u.fadeOut h)) = w at hway
  obtain ⟨⟨out, hdone⟩, hraised, hcounted, hcancels⟩ := hway
  refine ⟨fadeStarted_state .., ?_, ?_, ?_, (fadeStarted_evs ..).stands 97 hraised, ?_, fun k ht hl => ?_⟩
  · exact (fadeStarted_fld _ _ _ _ _ _ _ _ (.inr hne)).trans hdone.state
  · exact (fadeStarted_fld _ _ _ _ _ _ _ _ (.inr hne)).trans hdone.result
  · rw [fadeStarted_fade, if_neg hne, hdone.unbound]
  · exact (fadeStarted_fld _ _ _ _ _ _ _ _ (.inl (by decide))).trans hcounted
  · refine (fadeStarted_results ..).stands k _ (hcancels k ht ?_)
    rwa [State.handleLive_congr (congrArg Weir.slots (hk.weir_eq (by decide)))]

theorem fadeEnd_ends (hst : s.fadeState f = 2) (hv : v = (s.fade f).row) : ∃ t, exec (.fadeEnd f) s = .next t ∧ t.fadeState f = 3 ∧
    t.fld oFadeStatus f 1 = 1 ∧ t.fld oFadeStatus f 2 = fdTo v ∧ (t.fade f).bound = false ∧
    t.fld oLightCnt 0 0 = (s.fld oLightCnt 0 0 + 1) % 2 ^ 64 ∧ (fdNotify v = true → t.raised 96 = true) ∧
    (1 ≤ fdKind v → fdKind v ≤ 4 → t.fadeBase (fdKind v) (fdIndex v) = fdTo v) ∧
    ∀ k, (s.fade f).task = some k → s.handleLive k = true → Completed t k stOk := by
  refine ans_next (u := execFadeEnd f s) (fun _ _ h => h) ?_
  subst hv
  rw [execFadeEnd, if_pos hst]
  have hk := State.advanceTo_keeps s (fdEndTick (s.fade f).row)
  generalize s.advanceTo (fdEndTick (s.fade f).row) = u at hk
  rw [← hk.fade_eq (by decide) f, ← hk.fld_eq (by decide) 0 0]
  have hdone := fadeEnds_done u f
  refine ⟨hdone.state, hdone.result, hdone.output, hdone.unbound, fadeEnds_counted .., fadeEnds_notifies, fadeEnds_base, fun k ht hl => ?_⟩
  refine fadeEnds_completes ht ?_
  rwa [State.handleLive_congr (congrArg Weir.slots (hk.weir_eq (by decide)))]

/-- Settles O46: the start of a window by who holds and who seeks the target, the end by what a unit that is DONE leaves. -/
theorem fadeInstants : Obligations.FadeInstants :=
  ⟨fun _ _ _ _ hst hv hu hd => ⟨fadeStart_superseded hst hv hu hd, fadeStart_binds hst hv hu hd, fun _ => fadeStart_supersedes hst hv hu hd⟩,
    fun _ _ _ => fadeEnd_ends⟩

end Sys2Proof.Machine
end

section
/-! SUPPORT. Fade units written, armed and stopped (R304, R310 to R313): what OD 0x2500 and 0x2501 come to in each state of a unit. -/

namespace Sys2Proof.Machine

variable {s t u : State} {f n : Nat} {v : Row}

theorem fadeSettle_of_state (h : s.fadeState f ≠ 2) (n : Nat) : s.fadeSettle f n = s := if_neg fun k => h k.1

theorem fadeSettle_of_open (h : n < fdEndTick (s.fade f).row) : s.fadeSettle f n = s := if_neg fun k => absurd k.2 (by omega)

/-! ## A row written (R304, R312, R313) -/

theorem writeFade_range (hok : fadeRowOk v = false) : writeFade f v s = refuse s stRange := by simp [writeFade, hok]

theorem writeFade_idle (hok : fadeRowOk v = true) (hst : s.fadeState f = 0 ∨ s.fadeState f = 3) :
    writeFade f v s = done (s.setRow oFade f v) := by
  have hsettle : s.fadeSettle f s.now = s := fadeSettle_of_state (by omega) _
  rcases hst with hst | hst <;> simp [writeFade, hsettle, hok, hst]

theorem writeFade_armed (hok : fadeRowOk v = true) (hst : s.fadeState f = 1) (hs : s.now < fdStartTick v) (he : s.now < fdEndTick v) :
    writeFade f v s = done ((((s.setRow oFade f v).setFade f { s.fade f with row := v }).setFld oFadeStatus f 3 (fdFrom v)).setFld
      oFadeStatus f 4 (v.getD 6 0)) := by
  have hsettle : s.fadeSettle f s.now = s := fadeSettle_of_state (by omega) _
  simp [writeFade, hsettle, hok, hst, Nat.not_le.mpr hs, Nat.not_le.mpr he]

theorem writeFade_running (hok : fadeRowOk v = true) (hst : s.fadeState f = 2) (he : s.now < fdEndTick (s.fade f).row) :
    writeFade f v s =
      if fdKind v = fdKind (s.fade f).row ∧ fdIndex v = fdIndex (s.fade f).row ∧ fdCurrent v = true then
        done ((s.setRow oFade f v).fadeRetarget f v)
      else refuse s stState := by
  have hsettle : s.fadeSettle f s.now = s := fadeSettle_of_open he
  simp [writeFade, hsettle, hok, hst]

theorem writeFade_draining (hok : fadeRowOk v = true) (hst : s.fadeState f = 4) : writeFade f v s = refuse s stState := by
  have hsettle : s.fadeSettle f s.now = s := fadeSettle_of_state (by omega) _
  simp [writeFade, hsettle, hok, hst]

/-! ## Arming (R310) -/

/-- Unit f has taken its row, before START and the end of its window are looked at. -/
def State.fadeLoaded (s : State) (f : Nat) (task : Option Nat) : State :=
  (((s.setFade f { Fade.init with row := s.row oFade f, task := task, lastOut := (s.fade f).lastOut }).setFadeStatus f 1 0).setFld
    oFadeStatus f 3 (fdFrom (s.row oFade f))).setFld oFadeStatus f 4 ((s.row oFade f).getD 6 0)

theorem fadeLoaded_fade (s : State) (f : Nat) (task : Option Nat) : (s.fadeLoaded f task).fade f =
    { Fade.init with row := s.row oFade f, task := task, lastOut := (s.fade f).lastOut } := by
  rw [State.fadeLoaded, setFld_fade, setFld_fade, setFadeStatus_fade, fade_setFade_self]

theorem fadeLoaded_state (s : State) (f : Nat) (task : Option Nat) : (s.fadeLoaded f task).fadeState f = 1 := by
  simp [State.fadeLoaded, State.fadeState, fld_setFld, setFadeStatus_fld]

theorem fadeArmed_waits (hs : s.now < fdStartTick (s.row oFade f)) (he : s.now < fdEndTick (s.row oFade f)) (task : Option Nat) :
    s.fadeArmed f task = s.fadeLoaded f task := (if_neg (Nat.not_le.mpr he)).trans (if_neg (Nat.not_le.mpr hs))

theorem fadeArmed_ends (he : fdEndTick (s.row oFade f) ≤ s.now) (task : Option Nat) :
    s.fadeArmed f task = (s.fadeLoaded f task).fadeEnds f := if_pos he

theorem armFade_arms (hst : s.fadeState f = 0 ∨ s.fadeState f = 3) (task : Option Nat) :
    armFade f task s = done (s.fadeArmed f task) := by
  have hsettle : s.fadeSettle f s.now = s := fadeSettle_of_state (by omega) _
  rcases hst with hst | hst <;> simp [armFade, hsettle, hst]

theorem armFade_refused (hst : s.fadeState f = 1 ∨ (s.fadeState f = 2 ∧ s.now < fdEndTick (s.fade f).row)) (task : Option Nat) :
    armFade f task s = refuse s stState := by
  rcases hst with hst | ⟨hst, he⟩
  · simp [armFade, fadeSettle_of_state (show s.fadeState f ≠ 2 by omega), hst]
  · simp [armFade, fadeSettle_of_open he, hst]

/-- An arm written while the unit drains is latched (R311). -/
theorem armFade_latches (hst : s.fadeState f = 4) (task : Option Nat) : ∃ old,
    armFade f task s = done ((s.setFade f { s.fade f with latched := some task }).completeOpt old stCancelled) := by
  have hsettle : s.fadeSettle f s.now = s := fadeSettle_of_state (by omega) _
  simp only [armFade, hsettle, hst]
  exact ⟨_, rfl⟩

/-! ## Stopping (R311) -/

/-- Unit f has been stopped while it ran: its output is its target's base value, and it drains. -/
def State.fadeStopped (s : State) (f : Nat) : State :=
  let x := s.fade f
  let out := fadeOutput x.row (tickUp s.now)
  ((((s.setFadeBase (fdKind x.row) (fdIndex x.row) out).setFade f { x with bound := false, task := none }).setFadeStatus f 4 2).setFld
    oFadeStatus f 2 out).completeOpt x.task stCancelled

theorem stopFade_armed (hst : s.fadeState f = 1) : stopFade f s =
    done (((s.setFadeStatus f 0 2).setFade f { s.fade f with task := none }).completeOpt (s.fade f).task stCancelled) := by
  simp [stopFade, fadeSettle_of_state (show s.fadeState f ≠ 2 by omega), hst]

theorem stopFade_running (hst : s.fadeState f = 2) (he : s.now < fdEndTick (s.fade f).row) : stopFade f s =
    done (if s.consumer (fdKind (s.fade f).row) (fdIndex (s.fade f).row) = true then s.fadeStopped f
      else (s.fadeStopped f).fadeDrained f) := by
  simp only [stopFade, fadeSettle_of_open he, hst]
  rfl

theorem stopFade_draining (hst : s.fadeState f = 4) : ∃ old,
    stopFade f s = done ((s.setFade f { s.fade f with latched := none }).completeOpt old stCancelled) := by
  simp only [stopFade, fadeSettle_of_state (show s.fadeState f ≠ 2 by omega), hst]
  split
  · exact ⟨none, by rw [completeOpt_none]⟩
  · exact ⟨_, rfl⟩

theorem stopFade_idle (hst : s.fadeState f = 0 ∨ s.fadeState f = 3) : stopFade f s = done s := by
  have hsettle : s.fadeSettle f s.now = s := fadeSettle_of_state (by omega) _
  rcases hst with hst | hst <;> simp [stopFade, hsettle, hst]

/-- What a unit stopped at an output shows: its status, its target free, and the output as the base value. -/
structure FadeAt (f kind i out : Nat) (t : State) : Prop where
  result : t.fld oFadeStatus f 1 = 2
  output : t.fld oFadeStatus f 2 = out
  unbound : (t.fade f).bound = false
  base : 1 ≤ kind → kind ≤ 4 → t.fadeBase kind i = out

/-- The parts of a state that a unit shows. -/
abbrev fadeParts : Nat := 0x13000000000000000100000000000000000000000000000000000000000000000000000000000000000000000000000000000000000000000000000000000000000000000000000000000000400000

theorem FadeAt.of_keeps {kind i out : Nat} (a : FadeAt f kind i out s) (k : Keeps fadeParts s t) : FadeAt f kind i out t where
  result := (k.fld_eq (by decide) f 1).trans a.result
  output := (k.fld_eq (by decide) f 2).trans a.output
  unbound := (congrArg Fade.bound (k.fade_eq (by decide) f)).trans a.unbound
  base h1 h4 := (k.fadeBase_eq (by decide) (by decide) (by decide) kind i).trans (a.base h1 h4)

/-- A stopped unit drains, with the arm that it had latched. -/
theorem fadeStopped_drains (s : State) (f : Nat) : (s.fadeStopped f).fadeState f = 4 ∧ ((s.fadeStopped f).fade f).latched = (s.fade f).latched ∧
    FadeAt f (fdKind (s.fade f).row) (fdIndex (s.fade f).row) (fadeOutput (s.fade f).row (tickUp s.now)) (s.fadeStopped f) := by
  unfold State.fadeStopped
  extract_lets x out
  generalize hu : ((s.setFadeBase (fdKind x.row) (fdIndex x.row) out).setFade f { x with bound := false, task := none }).setFadeStatus f 4 2 = u
  have hk : Keeps fadeParts (u.setFld oFadeStatus f 2 out) ((u.setFld oFadeStatus f 2 out).completeOpt x.task stCancelled) :=
    (State.completeOpt_keeps ..).weaken (by decide)
  have hfade : u.fade f = { x with bound := false, task := none } := by rw [← hu, setFadeStatus_fade, fade_setFade_self]
  have hstatus : u.fadeState f = 4 ∧ u.fld oFadeStatus f 1 = 2 := hu ▸ ⟨setFadeStatus_state .., setFadeStatus_result ..⟩
  have hbase : 1 ≤ fdKind x.row → fdKind x.row ≤ 4 → (u.setFld oFadeStatus f 2 out).fadeBase (fdKind x.row) (fdIndex x.row) = out := by
    intro h1 h4
    refine Eq.trans (State.fadeBase_congr (fun o r c ho => ?_) _ _) (fadeBase_setFadeBase s (fdIndex x.row) out h1 h4)
    have hne : o ≠ oFadeStatus := by rcases ho with rfl | rfl | rfl | rfl <;> decide
    rw [fld_setFld_of_ne _ _ _ _ _ _ hne, ← hu, setFadeStatus_fld_of_ne _ _ _ _ _ _ hne, setFade_fld]
  obtain ⟨hstate, hresult⟩ := hstatus
  refine ⟨(hk.fld_eq (by decide) f 0).trans ?_, (congrArg Fade.latched (hk.fade_eq (by decide) f)).trans ?_, FadeAt.of_keeps ⟨?_, ?_, ?_, hbase⟩ hk⟩
  · exact (fld_setFld ..).trans ((if_neg (by omega)).trans hstate)
  · rw [setFld_fade, hfade]
  · exact (fld_setFld ..).trans ((if_neg (by omega)).trans hresult)
  · exact fld_setFld_self ..
  · rw [setFld_fade, hfade]

/-- A drain that ends without a latched arm leaves the unit IDLE at its output. -/
theorem fadeDrained_idle {kind i out : Nat} (hl : (s.fade f).latched = none) (a : FadeAt f kind i out s) :
    (s.fadeDrained f).fadeState f = 0 ∧ FadeAt f kind i out (s.fadeDrained f) := by
  unfold State.fadeDrained
  extract_lets x s1
  rw [show x.latched = none from hl]
  change s1.fadeState f = 0 ∧ FadeAt f kind i out s1
  have hfld : ∀ o r c, s1.fld o r c = (s.setFadeStatus f 0 2).fld o r c := fun _ _ _ => setFade_fld ..
  have hfade : s1.fade f = { x with latched := none, lastOut := s.fld oFadeStatus f 2 } := fade_setFade_self ..
  clear_value s1
  refine ⟨(hfld _ _ _).trans (setFadeStatus_state ..), (hfld _ _ _).trans (setFadeStatus_result ..), ?_, ?_, fun h1 h4 => ?_⟩
  · simp [hfld, setFadeStatus_fld, a.output]
  · rw [hfade]
    exact a.unbound
  · refine (State.fadeBase_congr (fun o r c ho => (hfld o r c).trans ?_) kind i).trans (a.base h1 h4)
    exact setFadeStatus_fld_of_ne _ _ _ _ _ _ (by rcases ho with rfl | rfl | rfl | rfl <;> decide)

/-! ## OD 0x2501 -/

theorem writeFadeArm_done {a : Nat} (h : (if a = 1 then armFade f none s else stopFade f s) = done u) :
    writeFadeArm f [a] s = done (u.setRow 0x250100 f [a]) := by
  simp [writeFadeArm, h, done]

theorem writeFadeArm_refused (h : armFade f none s = refuse s stState) : writeFadeArm f [1] s = refuse s stState := by
  rw [writeFadeArm]
  simp only [List.headD_cons, if_true, h]
  rfl

/-- The tasks, the units, and the objects of base values. -/
abbrev armParts : Nat := 0x12000000000000000100000000000000000000000000000000000000000000000000000000000000000000000000000000000000000000000000000000000000000000000000000000000000402000

/-- What an arm or a stop that is answered OK leaves of the unit's state u. -/
structure ArmAnswered (f a : Nat) (u t : State) : Prop where
  ans : Answers t stOk 0
  arm : t.fld 0x250100 f 0 = a
  keeps : Keeps armParts u t
  status : ∀ g c, t.fld oFadeStatus g c = u.fld oFadeStatus g c

theorem Settled.armAnswered {a : Nat} (k : Settled (done (u.setRow 0x250100 f [a])) t) : ArmAnswered f a u t where
  ans := k.ans
  arm := (k.keeps.fld_eq (by decide) f 0).trans (congrArg (·.getD 0 0) (row_setRow_self ..))
  keeps := .step k.keeps (by decide) (.setRow (by decide) .refl)
  status g c := (k.keeps.fld_eq (by decide) g c).trans (fld_setRow_of_ne _ _ _ _ _ (by decide))

theorem ArmAnswered.fadeAt {a kind i out : Nat} (k : ArmAnswered f a u t) (h : FadeAt f kind i out u) : FadeAt f kind i out t where
  result := (k.status f 1).trans h.result
  output := (k.status f 2).trans h.output
  unbound := (congrArg Fade.bound (k.keeps.fade_eq (by decide) f)).trans h.unbound
  base h1 h4 := (k.keeps.fadeBase_eq (by decide) (by decide) (by decide) kind i).trans (h.base h1 h4)

/-! ## The clauses, and the obligation -/

theorem fade_written {bs : List Byte} {o : Origin} {x : Row} (h : Passes s o 0x250000 f (fun d => rowOf d bs) x) :
    ∃ t, exec (.fade f bs o) s = .next t ∧
      (fadeRowOk x = false → Answers t stRange 0 ∧ t.row oFade f = s.row oFade f) ∧
      (fadeRowOk x = true → (s.fadeState f = 0 ∨ s.fadeState f = 3) → Answers t stOk 0 ∧ t.row oFade f = x ∧ t.fadeState f = s.fadeState f) ∧
      (fadeRowOk x = true → s.fadeState f = 1 → s.now < fdStartTick x → s.now < fdEndTick x → Answers t stOk 0 ∧ t.row oFade f = x ∧
        (t.fade f).row = x ∧ t.fadeState f = 1) ∧
      (fadeRowOk x = true → s.fadeState f = 2 → s.now < fdEndTick (s.fade f).row →
        (fdKind x = fdKind (s.fade f).row ∧ fdIndex x = fdIndex (s.fade f).row ∧ fdCurrent x = true → Answers t stOk 0 ∧ t.fadeState f = 2 ∧
          (t.fade f).row = rput (rput x 4 (fadeOutput (s.fade f).row (tickUp s.now))) 6 (nsPt (max (fdStart x) (tickUp s.now)))) ∧
        (¬(fdKind x = fdKind (s.fade f).row ∧ fdIndex x = fdIndex (s.fade f).row ∧ fdCurrent x = true) → Answers t stState 0 ∧
          t.fade f = s.fade f ∧ t.row oFade f = s.row oFade f)) ∧
      (fadeRowOk x = true → s.fadeState f = 4 → Answers t stState 0 ∧ t.row oFade f = s.row oFade f) := by
  refine ans_next (u := s.request o 0x250000 f (fun d => rowOf d bs)) (fun _ _ h => h) ?_
  have k := request_of h hook_250000
  generalize s.request o 0x250000 f (fun d => rowOf d bs) = t at k
  have hfade := k.keeps.fade_eq (by decide) f
  have hrow := k.keeps.objs oFade f (by decide)
  have hstate : t.fadeState f = (writeFade f x s).st.fadeState f := k.keeps.fld_eq (by decide) f 0
  have hans := k.ans
  clear k
  refine ⟨fun hok => ?_, fun hok hst => ?_, fun hok hst hs he => ?_, fun hok hst he => ⟨fun hsame => ?_, fun hother => ?_⟩, fun hok hst => ?_⟩
  · rw [writeFade_range hok] at hrow hans
    exact ⟨hans, hrow⟩
  · rw [writeFade_idle hok hst] at hrow hans hstate
    exact ⟨hans, hrow.trans (row_setRow_self ..), hstate.trans (fld_setRow_of_ne _ _ _ _ _ (by decide))⟩
  · rw [writeFade_armed hok hst hs he] at hrow hans hstate hfade
    refine ⟨hans, hrow.trans ?_, (congrArg Fade.row hfade).trans (congrArg Fade.row (fade_setFade_self ..)), hstate.trans ?_⟩
    · refine ((row_setFld_of_ne _ _ _ _ _ (by decide)).trans (row_setFld_of_ne _ _ _ _ _ (by decide))).trans ?_
      rw [setFade_row, row_setRow_self]
    · simpa [State.fadeState, done, fld_setFld] using (fld_setRow_of_ne _ _ _ _ _ (by decide)).trans hst
  · rw [writeFade_running hok hst he, if_pos hsame] at hans hstate hfade
    refine ⟨hans, hstate.trans ?_, (congrArg Fade.row hfade).trans (congrArg Fade.row (fade_setFade_self ..))⟩
    simpa [State.fadeState, done, State.fadeRetarget, fld_setFld] using (fld_setRow_of_ne _ _ _ _ _ (by decide)).trans hst
  · rw [writeFade_running hok hst he, if_neg hother] at hans hrow hfade
    exact ⟨hans, hfade, hrow⟩
  · rw [writeFade_draining hok hst] at hrow hans
    exact ⟨hans, hrow⟩

theorem fadeArm_answered {o : Origin} {x : Row} (h : Passes s o 0x250100 f (fun d => numRow d 1) x) :
    ∃ t, exec (.fadeArm f o) s = .next t ∧
      ((s.fadeState f = 0 ∨ s.fadeState f = 3) → s.now < fdStartTick (s.row oFade f) → s.now < fdEndTick (s.row oFade f) →
        Answers t stOk 0 ∧ t.fadeState f = 1 ∧ (t.fade f).row = s.row oFade f ∧ t.fld 0x250100 f 0 = 1) ∧
      ((s.fadeState f = 0 ∨ s.fadeState f = 3) → fdEndTick (s.row oFade f) ≤ s.now → Answers t stOk 0 ∧ t.fadeState f = 3 ∧
        t.fld oFadeStatus f 1 = 1 ∧ t.fld oFadeStatus f 2 = fdTo (s.row oFade f)) ∧
      ((s.fadeState f = 1 ∨ (s.fadeState f = 2 ∧ s.now < fdEndTick (s.fade f).row)) → Answers t stState 0 ∧
        t.fadeState f = s.fadeState f ∧ t.fade f = s.fade f) ∧
      (s.fadeState f = 4 → Answers t stOk 0 ∧ t.fadeState f = 4 ∧ (t.fade f).latched = some none) := by
  obtain rfl := passes_num h rfl rfl rfl
  refine ans_next (u := s.request o 0x250100 f (fun d => numRow d 1)) (fun _ _ h => h) ?_
  have k := request_of h hook_250100
  generalize s.request o 0x250100 f (fun d => numRow d 1) = t at k
  refine ⟨fun hst hs he => ?_, fun hst he => ?_, fun hst => ?_, fun hst => ?_⟩
  · rw [writeFadeArm_done ((if_pos rfl).trans (armFade_arms hst none)), fadeArmed_waits hs he] at k
    obtain ⟨hans, harm, hk, hstatus⟩ := k.armAnswered
    exact ⟨hans, (hstatus f 0).trans (fadeLoaded_state ..),
      (congrArg Fade.row (hk.fade_eq (by decide) f)).trans (congrArg Fade.row (fadeLoaded_fade ..)), harm⟩
  · rw [writeFadeArm_done ((if_pos rfl).trans (armFade_arms hst none)), fadeArmed_ends he] at k
    obtain ⟨hans, -, -, hstatus⟩ := k.armAnswered
    have hdone := fadeEnds_done (s.fadeLoaded f none) f
    refine ⟨hans, (hstatus f 0).trans hdone.state, (hstatus f 1).trans hdone.result, (hstatus f 2).trans (hdone.output.trans ?_)⟩
    rw [fadeLoaded_fade]
  · rw [writeFadeArm_refused (armFade_refused hst none)] at k
    exact ⟨k.ans, k.keeps.fld_eq (by decide) f 0, k.keeps.fade_eq (by decide) f⟩
  · obtain ⟨old, hold⟩ := armFade_latches hst none
    rw [writeFadeArm_done ((if_pos rfl).trans hold)] at k
    obtain ⟨hans, -, hk, hstatus⟩ := k.armAnswered
    have hc := State.completeOpt_keeps (s.setFade f { s.fade f with latched := some none }) old stCancelled
    refine ⟨hans, (hstatus f 0).trans ((hc.fld_eq (by decide) f 0).trans ((setFade_fld ..).trans hst)), ?_⟩
    rw [hk.fade_eq (by decide), hc.fade_eq (by decide), fade_setFade_self]

theorem fadeStop_answered {o : Origin} {x : Row} (h : Passes s o 0x250100 f (fun d => numRow d 0) x) :
    ∃ t, exec (.fadeStop f o) s = .next t ∧
      (s.fadeState f = 1 → Answers t stOk 0 ∧ t.fadeState f = 0 ∧ t.fld oFadeStatus f 1 = 2 ∧
        ∀ h, (s.fade f).task = some h → s.handleLive h = true → Completed t h stCancelled) ∧
      (s.fadeState f = 2 → s.now < fdEndTick (s.fade f).row → (s.fade f).latched = none → Answers t stOk 0 ∧
        (t.fadeState f = if s.consumer (fdKind (s.fade f).row) (fdIndex (s.fade f).row) = true then 4 else 0) ∧
        t.fld oFadeStatus f 1 = 2 ∧ t.fld oFadeStatus f 2 = fadeOutput (s.fade f).row (tickUp s.now) ∧ (t.fade f).bound = false ∧
        (1 ≤ fdKind (s.fade f).row → fdKind (s.fade f).row ≤ 4 →
          t.fadeBase (fdKind (s.fade f).row) (fdIndex (s.fade f).row) = fadeOutput (s.fade f).row (tickUp s.now))) ∧
      (s.fadeState f = 4 → Answers t stOk 0 ∧ t.fadeState f = 4 ∧ (t.fade f).latched = none) ∧
      ((s.fadeState f = 0 ∨ s.fadeState f = 3) → Answers t stOk 0 ∧ t.fadeState f = s.fadeState f ∧ t.fade f = s.fade f) := by
  obtain rfl := passes_num h rfl rfl rfl
  refine ans_next (u := s.request o 0x250100 f (fun d => numRow d 0)) (fun _ _ h => h) ?_
  have k := request_of h hook_250100
  generalize s.request o 0x250100 f (fun d => numRow d 0) = t at k
  have hstops : ∀ {u}, stopFade f s = done u → ArmAnswered f 0 u t := fun hu => by
    rw [writeFadeArm_done ((if_neg (by decide)).trans hu)] at k
    exact k.armAnswered
  clear k
  refine ⟨fun hst => ?_, fun hst he hl => ?_, fun hst => ?_, fun hst => ?_⟩
  · obtain ⟨hans, -, hk, hstatus⟩ := hstops (stopFade_armed hst)
    generalize hu : (s.setFadeStatus f 0 2).setFade f { s.fade f with task := none } = u at hk hstatus
    have hc := State.completeOpt_keeps u (s.fade f).task stCancelled
    have hshown : ∀ c, t.fld oFadeStatus f c = (s.setFadeStatus f 0 2).fld oFadeStatus f c := fun c => by
      rw [hstatus, hc.fld_eq (by decide), ← hu, setFade_fld]
    refine ⟨hans, (hshown 0).trans (setFadeStatus_state ..), (hshown 1).trans (setFadeStatus_result ..), fun j ht hlive => ?_⟩
    rw [ht] at hk
    refine (ResultsStand.of_keeps hk (by decide)).stands j _ (completeOpt_completes ?_ _)
    rwa [← hu]
  · obtain ⟨hstate, hlatched, hat⟩ := fadeStopped_drains s f
    have k := hstops (stopFade_running hst he)
    by_cases hc : s.consumer (fdKind (s.fade f).row) (fdIndex (s.fade f).row) = true
    · rw [if_pos hc] at k ⊢
      obtain ⟨hresult, hout, hbound, hbase⟩ := k.fadeAt hat
      exact ⟨k.ans, (k.status f 0).trans hstate, hresult, hout, hbound, hbase⟩
    · rw [if_neg hc] at k ⊢
      obtain ⟨hidle, hat'⟩ := fadeDrained_idle (hlatched.trans hl) hat
      obtain ⟨hresult, hout, hbound, hbase⟩ := k.fadeAt hat'
      exact ⟨k.ans, (k.status f 0).trans hidle, hresult, hout, hbound, hbase⟩
  · obtain ⟨old, hold⟩ := stopFade_draining hst
    obtain ⟨hans, -, hk, hstatus⟩ := hstops hold
    have hc := State.completeOpt_keeps (s.setFade f { s.fade f with latched := none }) old stCancelled
    refine ⟨hans, (hstatus f 0).trans ((hc.fld_eq (by decide) f 0).trans ((setFade_fld ..).trans hst)), ?_⟩
    rw [hk.fade_eq (by decide), hc.fade_eq (by decide), fade_setFade_self]
  · obtain ⟨hans, -, hk, hstatus⟩ := hstops (stopFade_idle hst)
    exact ⟨hans, hstatus f 0, hk.fade_eq (by decide) f⟩

/-- Settles O45: a row, an arm and a stop by what each comes to in the state of its unit, none of which the ports' answer changes. -/
theorem fadeWrites : Obligations.FadeWrites :=
  ⟨fun _ _ _ _ _ => fade_written, fun _ _ _ _ => fadeArm_answered, fun _ _ _ _ => fadeStop_answered⟩

end Sys2Proof.Machine
end

section
/-! SUPPORT. Gauge conversions (R332 to R337): what a reader of a channel depends on, and what a code delivered on one comes to by the state
of the channel. -/

namespace Sys2Proof.Machine

variable {s t u : State} {c m : Nat}

/-! ## One channel -/

theorem State.gaugeCh_congr (hl : t.light.gauge = s.light.gauge) (c : Nat) : t.gaugeCh c = s.gaugeCh c := congrArg (tget GaugeCh.init · c) hl

theorem gaugeCh_setGaugeCh (s : State) (c : Nat) (x : GaugeCh) : (s.setGaugeCh c x).gaugeCh c = x := tget_tset_self ..

/-- The objects of the Gauge and of the sensor gains. -/
abbrev gaugeObjs : Nat := 0x50000000000000000000000000000000000000000000000000000000000000000000000000000000000000000000000000000000000000000000000000000000000000000000000000000000000000000

/-- Those objects, and the Gauge's counts. -/
abbrev gaugeRows : Nat := 0x4000000000000000000000000000000000000000000000000000000000000000000000000000000000000000000000000000000000000000050000000000000000000000000000000000000000000000000000000000000000000000000000000000000000000000000000000000000000000000000000000000000000000000000000000000000000

theorem Keeps.gaugeEng_eq (k : Keeps m s t) (hg : m.testBit (32 + 0x260) = true) (hs : m.testBit (32 + 0x262) = true) (range : Nat) (code : Int) :
    t.gaugeEng c range code = s.gaugeEng c range code := by
  unfold State.gaugeEng State.val
  rw [k.objs oGauge c hg, k.fld_eq (o := oGaRef) hg, k.fld_eq (o := oSensorGain) hs]

/-! ## Regions (R327, R330) -/

/-- Of light control only the cycles of regions have changed. -/
structure RegionsOnly (s t : State) : Prop where
  light : t.light = { s.light with regions := t.light.regions }

namespace RegionsOnly

theorem refl (s : State) : RegionsOnly s s := ⟨rfl⟩

theorem trans (a : RegionsOnly s t) (b : RegionsOnly t u) : RegionsOnly s u := ⟨by rw [b.light, a.light]⟩

theorem of_light (h : t.light = s.light) : RegionsOnly s t := ⟨by rw [h]⟩

theorem foldl {α : Type} {f : State → α → State} (hf : ∀ s a, RegionsOnly s (f s a)) (l : List α) (s : State) :
    RegionsOnly s (l.foldl f s) := List.foldlRecOn l f (refl s) fun _ hu a _ => hu.trans (hf _ a)

theorem gauge (h : RegionsOnly s t) : t.light.gauge = s.light.gauge := by rw [h.light]

theorem refFault (h : RegionsOnly s t) : t.light.refFault = s.light.refFault := by rw [h.light]

theorem gaugeSpoils (s : State) (c : Nat) : RegionsOnly s (s.gaugeSpoils c) :=
  foldl (f := fun st r => st.regionFault r 3) (fun u r => by
    unfold State.regionFault
    extract_lets x
    split
    · exact refl u
    · exact ⟨rfl⟩) _ s

theorem gaugeUse (s : State) (c from_ : Nat) (y raw : Rat) : RegionsOnly s (s.gaugeUse c from_ y raw) := by
  unfold State.gaugeUse
  extract_lets rs add s1
  have hadd : ∀ u r, RegionsOnly u (add u r) := fun u r => by
    simp only [add]
    split
    · exact refl u
    split
    · split
      · exact ⟨rfl⟩
      · exact refl u
    · exact refl u
  have h1 : RegionsOnly s s1 := foldl hadd rs s
  split
  · split
    · exact h1.trans (of_light rfl)
    · exact h1
  · exact h1

end RegionsOnly

/-! ## AUTO and the alarm (R335, R336) -/

theorem gaugeSpoils_evs (s : State) (c : Nat) : EventsStand s (s.gaugeSpoils c) := .of_keeps (State.gaugeSpoils_keeps s c) (by decide)

theorem gaugeRangeTo_evs (s : State) (c n : Nat) : EventsStand s (s.gaugeRangeTo c n) := by
  have hset : ∀ x, EventsStand s ((s.setGaugeCh c x).bump oGaugeCnt c 2) := fun _ => .of_evt rfl
  exact ((hset _).andRaise 104).trans (gaugeSpoils_evs ..)

theorem gaugeAuto_evs (s : State) (c : Nat) (code : Int) : EventsStand s (s.gaugeAuto c code) := by
  unfold State.gaugeAuto
  extract_lets r low
  exact .ite (.ite (gaugeRangeTo_evs ..) (.ite (gaugeRangeTo_evs ..) (.of_evt rfl))) (.refl s)

/-- A change of range counts in column 2. -/
theorem gaugeRangeTo_count (s : State) (c n : Nat) {k : Nat} (hk : k ≠ 2) : (s.gaugeRangeTo c n).fld oGaugeCnt c k = s.fld oGaugeCnt c k := by
  unfold State.gaugeRangeTo
  rw [(State.gaugeSpoils_keeps ..).fld_eq (by decide), raise_fld _ _ _ _ (by decide)]
  exact (fld_setFld ..).trans (if_neg fun h => hk h.2.2)

theorem gaugeAuto_count (s : State) (c : Nat) (code : Int) {k : Nat} (hk : k ≠ 2) :
    (s.gaugeAuto c code).fld oGaugeCnt c k = s.fld oGaugeCnt c k := by
  unfold State.gaugeAuto
  extract_lets r low
  split_ifs
  · exact gaugeRangeTo_count _ _ _ hk
  · exact gaugeRangeTo_count _ _ _ hk
  · rfl
  · rfl

/-- AUTO concerns the PHOTO channels that have it. -/
theorem gaugeAuto_of_fixed (code : Int) (h : s.fld oGauge c 0 ≠ 1 ∨ s.fld oGauge c 1 ≠ 4) : s.gaugeAuto c code = s :=
  if_neg fun k => h.elim (· k.1) (· k.2.1)

theorem gaugeAlarm_count (s : State) (c : Nat) (mean : Rat) {k : Nat} (hk : k ≠ 3) :
    (s.gaugeAlarm c mean).fld oGaugeCnt c k = s.fld oGaugeCnt c k := by
  unfold State.gaugeAlarm
  extract_lets v out g
  split
  · rw [raise_fld _ _ _ _ (by decide)]
    exact (fld_setFld ..).trans (if_neg fun h => hk h.2.2)
  · rfl

theorem gaugeAlarm_hist (s : State) (c : Nat) (mean : Rat) : ((s.gaugeAlarm c mean).gaugeCh c).hist = (s.gaugeCh c).hist := by
  unfold State.gaugeAlarm
  extract_lets v out g
  split
  · rw [State.gaugeCh_congr (congrArg Light.gauge ((State.raise_keeps ..).light_eq (by decide)))]
    exact congrArg GaugeCh.hist (a₂ := { g with alarmed := out }) (gaugeCh_setGaugeCh ..)
  · rfl

/-! ## A code is counted, and has a range (R333, R335) -/

/-- Channel c as a code finds it, the code counted: a range is in use from the first code on. -/
def State.gaugeCounted (s : State) (c : Nat) : State :=
  (if (s.gaugeCh c).range = 0 then s.setGaugeCh c { s.gaugeCh c with range := 4 } else s).bump oGaugeCnt c 0

theorem gaugeCounted_ch (s : State) (c : Nat) : (s.gaugeCounted c).gaugeCh c =
    { s.gaugeCh c with range := if (s.gaugeCh c).range = 0 then 4 else (s.gaugeCh c).range } := by
  have hbump : ∀ u : State, (u.bump oGaugeCnt c 0).gaugeCh c = u.gaugeCh c := fun _ => rfl
  rw [State.gaugeCounted, hbump]
  split
  · exact gaugeCh_setGaugeCh ..
  · rfl

theorem gaugeCounted_fld (s : State) (c r k : Nat) {o : Nat} (ho : o ≠ oGaugeCnt) : (s.gaugeCounted c).fld o r k = s.fld o r k := by
  refine (fld_setFld_of_ne _ _ _ _ _ _ ho).trans ?_
  split <;> rfl

theorem gaugeCounted_count (s : State) (c k : Nat) : (s.gaugeCounted c).fld oGaugeCnt c k =
    if k = 0 then (s.fld oGaugeCnt c 0 + 1) % 2 ^ 64 else s.fld oGaugeCnt c k := by
  have hsame : ∀ k, (if (s.gaugeCh c).range = 0 then s.setGaugeCh c { s.gaugeCh c with range := 4 } else s).fld oGaugeCnt c k =
      s.fld oGaugeCnt c k := fun k => by split <;> rfl
  refine (fld_setFld ..).trans ?_
  rw [hsame, hsame]
  by_cases hk : k = 0
  · rw [if_pos ⟨rfl, rfl, hk⟩, if_pos hk]
  · rw [if_neg fun h => hk h.2.2, if_neg hk]

theorem gaugeCounted_range (s : State) (c : Nat) : (s.gaugeCounted c).gaugeRange c = s.gaugeRange c := by
  unfold State.gaugeRange
  rw [gaugeCounted_ch, gaugeCounted_fld _ _ _ _ (by decide)]
  by_cases hr : (s.gaugeCh c).range = 0 <;> simp [hr]

theorem gaugeCounted_eng (s : State) (c range : Nat) (code : Int) : (s.gaugeCounted c).gaugeEng c range code = s.gaugeEng c range code := by
  have hset : Keeps gaugeObjs s (if (s.gaugeCh c).range = 0 then s.setGaugeCh c { s.gaugeCh c with range := 4 } else s) :=
    .ite ((State.setGaugeCh_keeps ..).weaken (by decide)) .refl
  exact (Keeps.bump (o := oGaugeCnt) (by decide) hset).gaugeEng_eq (by decide) (by decide) range code

/-! ## What a code comes to (R333 to R336) -/

/-- A sample after a change of range is discarded (R335). -/
def State.gaugeDiscard (s : State) (c : Nat) (code : Int) : State :=
  (s.setGaugeCh c { s.gaugeCh c with settle := (s.gaugeCh c).settle - 1 }).setRow oGaugeValue c
    (rput (rput (s.row oGaugeValue c) 0 (ofI 32 code)) 4 4)

/-- A channel has been over range since the last conversion. -/
def State.overNoted (s : State) : State := { s with light := { s.light with overAny := true } }

@[simp] theorem overNoted_fld (s : State) (o r k : Nat) : s.overNoted.fld o r k = s.fld o r k := rfl

@[simp] theorem overNoted_raised (s : State) (e : Nat) : s.overNoted.raised e = s.raised e := rfl

/-- A code at full scale (R334): event 104 at the first, state OVER, and an NTC channel has no value. -/
def State.gaugeFull (s : State) (c : Nat) (code : Int) : State :=
  let g := s.gaugeCh c
  let s1 := (s.setGaugeCh c { g with ovr := true }).bump oGaugeCnt c 1
  let s2 := if g.ovr then s1 else s1.raise 104
  let s3 := if s.fld oGauge c 0 = 3 ∧ !g.noValue then
      ((s2.setGaugeCh c { s2.gaugeCh c with noValue := true }).bump oGaugeCnt c 4).raise 106 else s2
  let s4 := (s3.setRow oGaugeValue c (rput (rput (s3.row oGaugeValue c) 0 (ofI 32 code)) 4 2)).gaugeSpoils c
  let s5 := if s4.sessionOn c then s4.sessionFault else s4
  s5.overNoted

/-- An NTC channel has no value for the code (R334). -/
def State.gaugeNone (s : State) (c : Nat) (code : Int) : State :=
  let s1 := s.setGaugeCh c { s.gaugeCh c with noValue := true, ovr := false }
  let s2 := s1.setRow oGaugeValue c (rput (rput (s1.row oGaugeValue c) 0 (ofI 32 code)) 4 0)
  if (s.gaugeCh c).noValue then s2 else (s2.bump oGaugeCnt c 4).raise 106

theorem gaugeOne_off {x : GaugeCode} {from_ : Nat} (hx : x.channel = c) (hm : s.fld oGauge c 0 = 0) : s.gaugeOne from_ x = s := by
  unfold State.gaugeOne
  exact if_pos (.inr (hx ▸ hm))

/-- A code on a channel that is not OFF. -/
theorem gaugeOne_eq {x : GaugeCode} {code : Int} (from_ : Nat) (hx : x.channel = c) (hc : c < 48)
    (hcode : code = clampI (-8388607) 8388607 x.code) (hm : s.fld oGauge c 0 ≠ 0) : s.gaugeOne from_ x =
      if 0 < ((s.gaugeCounted c).gaugeCh c).settle then (s.gaugeCounted c).gaugeDiscard c code
      else if code.natAbs = 8388607 then ((s.gaugeCounted c).gaugeFull c code).gaugeAuto c code
      else ((s.gaugeCounted c).gaugeEng c ((s.gaugeCounted c).gaugeRange c) code).elim ((s.gaugeCounted c).gaugeNone c code)
        (fun y => ((s.gaugeCounted c).gaugeDeliver c from_ code y).gaugeAuto c code) := by
  subst hx
  unfold State.gaugeOne
  refine (if_neg (by omega)).trans ?_
  extract_lets +onlyGivenNames n g0 w
  have hw : w = s.gaugeCounted x.channel := rfl
  have hn : n = code := hcode.symm
  rw [← hw]
  clear_value w n
  subst hn
  refine if_congr Iff.rfl rfl (if_congr Iff.rfl ?_ ?_)
  · dsimp only [State.gaugeFull, State.overNoted]
  · cases w.gaugeEng x.channel (w.gaugeRange x.channel) n
    · dsimp only [Option.elim]
      rfl
    · dsimp only [Option.elim]

/-- What a reader of channel c sees of its last code and its state. -/
structure GaugeShows (c raw st : Nat) (t : State) : Prop where
  raw : t.fld oGaugeValue c 0 = raw
  state : t.fld oGaugeValue c 4 = st

theorem GaugeShows.of_keeps {raw st : Nat} (h : GaugeShows c raw st s) (k : Keeps m s t) (hm : m.testBit (32 + 0x260) = true) :
    GaugeShows c raw st t := ⟨(k.fld_eq hm c 0).trans h.raw, (k.fld_eq hm c 4).trans h.state⟩

theorem gaugeShows_setRow (s : State) (c raw st : Nat) (r : Row) :
    GaugeShows c raw st (s.setRow oGaugeValue c (rput (rput r 0 raw) 4 st)) := by
  constructor <;> rw [fld_setRow, if_pos ⟨rfl, rfl⟩] <;> simp only [getD_rput] <;> rfl

theorem gaugeDiscard_shows (s : State) (c : Nat) (code : Int) : GaugeShows c (ofI 32 code) 4 (s.gaugeDiscard c code) := gaugeShows_setRow ..

theorem gaugeDiscard_ch (s : State) (c : Nat) (code : Int) : (s.gaugeDiscard c code).gaugeCh c =
    { s.gaugeCh c with settle := (s.gaugeCh c).settle - 1 } := gaugeCh_setGaugeCh ..

theorem gaugeFull_shows (s : State) (c : Nat) (code : Int) : GaugeShows c (ofI 32 code) 2 ((s.gaugeFull c code).gaugeAuto c code) := by
  refine GaugeShows.of_keeps ?_ (State.gaugeAuto_keeps ..) (by decide)
  unfold State.gaugeFull
  extract_lets g s1 s2 y s3 s4 s5
  have h4 : GaugeShows c (ofI 32 code) 2 s4 :=
    (gaugeShows_setRow s3 c (ofI 32 code) 2 _).of_keeps (State.gaugeSpoils_keeps _ c) (by decide)
  have h5 : GaugeShows c (ofI 32 code) 2 s5 := by
    simp only [s5]
    split
    · exact h4.of_keeps (State.sessionFault_keeps ..) (by decide)
    · exact h4
  exact ⟨(overNoted_fld ..).trans h5.raw, (overNoted_fld ..).trans h5.state⟩

theorem gaugeFull_count (s : State) (c : Nat) (code : Int) :
    ((s.gaugeFull c code).gaugeAuto c code).fld oGaugeCnt c 1 = (s.fld oGaugeCnt c 1 + 1) % 2 ^ 64 := by
  rw [gaugeAuto_count _ _ _ (by decide)]
  unfold State.gaugeFull
  extract_lets g s1 s2 y s3 s4 s5
  have h1 : s1.fld oGaugeCnt c 1 = (s.fld oGaugeCnt c 1 + 1) % 2 ^ 64 := fld_setFld_self ..
  have h2 : s2.fld oGaugeCnt c 1 = s1.fld oGaugeCnt c 1 := by
    simp only [s2]
    split
    · rfl
    · exact raise_fld _ _ _ _ (by decide)
  have h3 : s3.fld oGaugeCnt c 1 = s2.fld oGaugeCnt c 1 := by
    simp only [s3]
    split
    · rw [raise_fld _ _ _ _ (by decide)]
      exact (fld_setFld ..).trans (if_neg (by omega))
    · rfl
  have h4 : s4.fld oGaugeCnt c 1 = s3.fld oGaugeCnt c 1 :=
    ((State.gaugeSpoils_keeps ..).fld_eq (by decide) c 1).trans (fld_setRow_of_ne _ _ _ _ _ (by decide))
  have h5 : s5.fld oGaugeCnt c 1 = s4.fld oGaugeCnt c 1 :=
    (Keeps.ite (State.sessionFault_keeps ..) .refl).fld_eq (by decide) c 1
  rw [overNoted_fld, h5, h4, h3, h2, h1]

theorem gaugeFull_raises (code : Int) (ho : (s.gaugeCh c).ovr = false) : ((s.gaugeFull c code).gaugeAuto c code).raised 104 = true := by
  refine (gaugeAuto_evs ..).stands 104 ?_
  unfold State.gaugeFull
  extract_lets g s1 s2 y s3 s4 s5
  have h2 : s2.raised 104 = true := by
    simp only [s2, g, ho]
    exact raised_raise_self _ _ (by decide)
  have hcount : ∀ u x, EventsStand u ((u.setGaugeCh c x).bump oGaugeCnt c 4) := fun _ _ => .of_evt rfl
  have h3 : EventsStand s2 s3 := .ite ((hcount s2 _).andRaise 106) (.refl s2)
  have h4 : EventsStand s3 s4 := (EventsStand.setRow ..).trans (gaugeSpoils_evs ..)
  have h5 : EventsStand s4 s5 := .ite (.of_keeps (State.sessionFault_keeps s4) (by decide)) (.refl s4)
  exact (overNoted_raised ..).trans ((h4.trans h5).stands 104 (h3.stands 104 h2))

theorem gaugeNone_shows (s : State) (c : Nat) (code : Int) : GaugeShows c (ofI 32 code) 0 (s.gaugeNone c code) := by
  unfold State.gaugeNone
  extract_lets g s1 s2
  have h2 : GaugeShows c (ofI 32 code) 0 s2 := gaugeShows_setRow ..
  have hcount : Keeps gaugeObjs s2 (s2.bump oGaugeCnt c 4) := .bump (by decide) .refl
  split
  · exact h2
  · exact (h2.of_keeps hcount (by decide)).of_keeps (State.raise_keeps ..) (by decide)

theorem gaugeNone_count (s : State) (c : Nat) (code : Int) : (s.gaugeNone c code).fld oGaugeCnt c 0 = s.fld oGaugeCnt c 0 := by
  unfold State.gaugeNone
  extract_lets g s1 s2
  have h2 : s2.fld oGaugeCnt c 0 = s.fld oGaugeCnt c 0 := fld_setRow_of_ne _ _ _ _ _ (by decide)
  split
  · exact h2
  · rw [raise_fld _ _ _ _ (by decide)]
    exact ((fld_setFld ..).trans (if_neg (by omega))).trans h2

theorem gaugeNone_raises (code : Int) (hn : (s.gaugeCh c).noValue = false) : (s.gaugeNone c code).raised 106 = true := by
  unfold State.gaugeNone
  extract_lets g s1 s2
  rw [hn]
  exact raised_raise_self _ _ (by decide)

/-- A value delivered is in the history and shown with the mean of it (R333, R334). -/
structure GaugeDelivered (c : Nat) (code : Int) (y : Rat) (s t : State) : Prop where
  hist : (t.gaugeCh c).hist = (y :: (s.gaugeCh c).hist).take (s.fld oGauge c 2)
  shown : t.row oGaugeValue c =
    [ofI 32 code, toF32 y, toF32 ((t.gaugeCh c).hist.sum / ((t.gaugeCh c).hist.length : Rat)), s.gaugeRange c, 1]
  count : t.fld oGaugeCnt c 0 = s.fld oGaugeCnt c 0
  mode : ∀ k, t.fld oGauge c k = s.fld oGauge c k

theorem gaugeDeliver_delivers (s : State) (c from_ : Nat) (code : Int) (y : Rat) :
    GaugeDelivered c code y s (s.gaugeDeliver c from_ code y) := by
  unfold State.gaugeDeliver
  extract_lets g hist mean s1 s2
  generalize hr : codeX code * fullScale (s.gaugeRange c) = raw
  have huse := State.gaugeUse_keeps s2 c from_ y raw
  have hch : (s2.gaugeUse c from_ y raw).gaugeCh c = { g with hist := hist, mean := mean, at_ := s.now, noValue := false, ovr := false } :=
    (State.gaugeCh_congr (RegionsOnly.gaugeUse s2 c from_ y raw).gauge c).trans (gaugeCh_setGaugeCh ..)
  generalize s2.gaugeUse c from_ y raw = u at huse hch
  have hhist : ((u.gaugeAlarm c mean).gaugeCh c).hist = hist := by rw [gaugeAlarm_hist, hch]
  refine ⟨hhist, ?_, ?_, fun k => ?_⟩
  · rw [hhist, (State.gaugeAlarm_keeps ..).objs _ _ (by decide), huse.objs _ _ (by decide)]
    exact row_setRow_self ..
  · rw [gaugeAlarm_count _ _ _ (by decide), huse.fld_eq (by decide)]
    exact fld_setRow_of_ne _ _ _ _ _ (by decide)
  · rw [(State.gaugeAlarm_keeps ..).fld_eq (by decide), huse.fld_eq (by decide)]
    exact fld_setRow_of_ne _ _ _ _ _ (by decide)

/-! ## A conversion (R332, R337) -/

/-- The instant of the next conversion. -/
def State.gaugeDue (s : State) : Nat := if s.light.gaugeAt ≤ s.now then (s.now / 1000000 + 1) * 1000000 else s.light.gaugeAt

/-- The reference has been judged, and the next conversion is due 1 ms on. -/
def State.gaugeJudged (s : State) (due : Nat) (bad : Bool) : State :=
  { s with light := { s.light with gaugeAt := due + 1000000, refFault := bad, overAny := false } }

/-- A conversion with the reference in tolerance or not, before its codes. -/
def State.gaugeConverts (s : State) (bad : Bool) : State :=
  ((s.advanceTo s.gaugeDue).gaugeJudged s.gaugeDue bad).raiseIf (bad != s.light.refFault) 107

theorem execGaugeSample_eq (x : GaugeCode) (ppm : Int) (hf : s.full = true) : execGaugeSample [x] ppm s =
    if 20000 < ppm.natAbs then
      (List.range 48).foldl (fun st c => (st.setFld oGaugeValue c 4 0).gaugeSpoils c) (s.gaugeConverts true).sessionFault
    else (s.gaugeConverts false).gaugeOne (s.gaugeDue - 1000000) x := by
  unfold execGaugeSample
  rw [hf]
  by_cases hp : 20000 < ppm.natAbs
  · simp [hp, State.gaugeConverts, State.gaugeJudged, State.gaugeDue]
  · simp [hp, State.gaugeConverts, State.gaugeJudged, State.gaugeDue]

theorem gaugeConverts_gauge (s : State) (bad : Bool) : (s.gaugeConverts bad).light.gauge = s.light.gauge := by
  have hjudged : ∀ u : State, (u.gaugeJudged s.gaugeDue bad).light.gauge = u.light.gauge := fun _ => rfl
  rw [State.gaugeConverts, (State.raiseIf_keeps ..).light_eq (by decide), hjudged, (State.advanceTo_keeps ..).light_eq (by decide)]

theorem gaugeConverts_refFault (s : State) (bad : Bool) : (s.gaugeConverts bad).light.refFault = bad := by
  rw [State.gaugeConverts, (State.raiseIf_keeps ..).light_eq (by decide)]
  rfl

theorem gaugeConverts_keeps (s : State) (bad : Bool) : Keeps gaugeRows s (s.gaugeConverts bad) :=
  .step (State.raiseIf_keeps ..) (by decide) (.set_light (by decide) ((State.advanceTo_keeps ..).weaken (by decide)))

theorem gaugeConverts_ch (s : State) (bad : Bool) (c : Nat) : (s.gaugeConverts bad).gaugeCh c = s.gaugeCh c :=
  State.gaugeCh_congr (gaugeConverts_gauge s bad) c

theorem gaugeConverts_range (s : State) (bad : Bool) (c : Nat) : (s.gaugeConverts bad).gaugeRange c = s.gaugeRange c := by
  unfold State.gaugeRange
  rw [gaugeConverts_ch, (gaugeConverts_keeps ..).fld_eq (by decide)]

/-! ## The clauses, and the obligation -/

section
variable {x : GaugeCode} {code ppm : Int}

/-- Channel c as a code of a conversion with the reference in tolerance finds it, the code counted. -/
structure GaugeReady (c : Nat) (s u : State) : Prop where
  ch : u.gaugeCh c = { s.gaugeCh c with range := if (s.gaugeCh c).range = 0 then 4 else (s.gaugeCh c).range }
  mode : ∀ k, u.fld oGauge c k = s.fld oGauge c k
  range : u.gaugeRange c = s.gaugeRange c
  eng : ∀ range code, u.gaugeEng c range code = s.gaugeEng c range code
  count : ∀ k, u.fld oGaugeCnt c k = if k = 0 then (s.fld oGaugeCnt c 0 + 1) % 2 ^ 64 else s.fld oGaugeCnt c k

theorem gaugeCounted_ready (s : State) (c : Nat) : GaugeReady c s ((s.gaugeConverts false).gaugeCounted c) where
  ch := by rw [gaugeCounted_ch, gaugeConverts_ch]
  mode k := by rw [gaugeCounted_fld _ _ _ _ (by decide), (gaugeConverts_keeps ..).fld_eq (by decide)]
  range := by rw [gaugeCounted_range, gaugeConverts_range]
  eng range code := by rw [gaugeCounted_eng, (gaugeConverts_keeps ..).gaugeEng_eq (by decide) (by decide)]
  count k := by rw [gaugeCounted_count, (gaugeConverts_keeps ..).fld_eq (by decide), (gaugeConverts_keeps ..).fld_eq (by decide)]

/-- A conversion of one channel that is not OFF, with the reference in tolerance. -/
theorem gaugeSample_takes (hf : s.full = true) (hc : c < 48) (hx : x.channel = c) (hcode : code = clampI (-8388607) 8388607 x.code)
    (hp : ppm.natAbs ≤ 20000) (hm : s.fld oGauge c 0 ≠ 0) : ∃ u, GaugeReady c s u ∧ execGaugeSample [x] ppm s =
      if 0 < (u.gaugeCh c).settle then u.gaugeDiscard c code
      else if code.natAbs = 8388607 then (u.gaugeFull c code).gaugeAuto c code
      else (u.gaugeEng c (u.gaugeRange c) code).elim (u.gaugeNone c code)
        (fun y => (u.gaugeDeliver c (s.gaugeDue - 1000000) code y).gaugeAuto c code) := by
  refine ⟨_, gaugeCounted_ready s c, ?_⟩
  rw [execGaugeSample_eq x ppm hf, if_neg (by omega)]
  refine gaugeOne_eq _ hx hc hcode ?_
  rwa [(gaugeConverts_keeps ..).fld_eq (by decide)]

theorem gaugeSample_value {y : Rat} (hf : s.full = true) (hc : c < 48) (hx : x.channel = c) (hcode : code = clampI (-8388607) 8388607 x.code)
    (hp : ppm.natAbs ≤ 20000) (hm : s.fld oGauge c 0 ≠ 0) (hs : (s.gaugeCh c).settle = 0) (hn : code.natAbs ≠ 8388607)
    (hy : s.gaugeEng c (s.gaugeRange c) code = some y) (ha : s.fld oGauge c 0 ≠ 1 ∨ s.fld oGauge c 1 ≠ 4) :
    ∃ t, exec (.gaugeSample [x] ppm) s = .next t ∧ t.fld oGaugeValue c 0 = ofI 32 code ∧ t.fld oGaugeValue c 1 = toF32 y ∧
      (t.gaugeCh c).hist = (y :: (s.gaugeCh c).hist).take (s.fld oGauge c 2) ∧
      t.fld oGaugeValue c 2 = toF32 ((t.gaugeCh c).hist.sum / ((t.gaugeCh c).hist.length : Rat)) ∧
      t.fld oGaugeValue c 3 = s.gaugeRange c ∧ t.fld oGaugeValue c 4 = 1 ∧
      t.fld oGaugeCnt c 0 = (s.fld oGaugeCnt c 0 + 1) % 2 ^ 64 := by
  refine ans_next (u := execGaugeSample [x] ppm s) (fun _ _ h => h) ?_
  obtain ⟨u, hu, heq⟩ := gaugeSample_takes hf hc hx hcode hp hm
  have hsettle : ¬0 < (u.gaugeCh c).settle := by simp [hu.ch, hs]
  rw [heq, if_neg hsettle, if_neg hn, hu.range, hu.eng, hy, Option.elim_some]
  have hd := gaugeDeliver_delivers u c (s.gaugeDue - 1000000) code y
  rw [gaugeAuto_of_fixed code (by rwa [hd.mode, hd.mode, hu.mode, hu.mode])]
  generalize u.gaugeDeliver c (s.gaugeDue - 1000000) code y = t at hd
  have hshown : ∀ k, t.fld oGaugeValue c k = _ := fun k => congrArg (·.getD k 0) hd.shown
  refine ⟨hshown 0, hshown 1, ?_, hshown 2, (hshown 3).trans hu.range, hshown 4, ?_⟩
  · rw [hd.hist, hu.mode, hu.ch]
  · rw [hd.count, hu.count, if_pos rfl]

theorem gaugeSample_none (hf : s.full = true) (hc : c < 48) (hx : x.channel = c) (hcode : code = clampI (-8388607) 8388607 x.code)
    (hp : ppm.natAbs ≤ 20000) (hm : s.fld oGauge c 0 ≠ 0) (hs : (s.gaugeCh c).settle = 0) (hn : code.natAbs ≠ 8388607)
    (hy : s.gaugeEng c (s.gaugeRange c) code = none) : ∃ t, exec (.gaugeSample [x] ppm) s = .next t ∧ t.fld oGaugeValue c 4 = 0 ∧
      t.fld oGaugeCnt c 0 = (s.fld oGaugeCnt c 0 + 1) % 2 ^ 64 ∧ ((s.gaugeCh c).noValue = false → t.raised 106 = true) := by
  refine ans_next (u := execGaugeSample [x] ppm s) (fun _ _ h => h) ?_
  obtain ⟨u, hu, heq⟩ := gaugeSample_takes hf hc hx hcode hp hm
  have hsettle : ¬0 < (u.gaugeCh c).settle := by simp [hu.ch, hs]
  rw [heq, if_neg hsettle, if_neg hn, hu.range, hu.eng, hy, Option.elim_none]
  refine ⟨(gaugeNone_shows ..).state, ?_, fun hv => gaugeNone_raises code (by rw [hu.ch, hv])⟩
  rw [gaugeNone_count, hu.count, if_pos rfl]

theorem gaugeSample_over (hf : s.full = true) (hc : c < 48) (hx : x.channel = c) (hcode : code = clampI (-8388607) 8388607 x.code)
    (hp : ppm.natAbs ≤ 20000) (hm : s.fld oGauge c 0 ≠ 0) (hs : (s.gaugeCh c).settle = 0) (hn : code.natAbs = 8388607) :
    ∃ t, exec (.gaugeSample [x] ppm) s = .next t ∧ t.fld oGaugeValue c 0 = ofI 32 code ∧ t.fld oGaugeValue c 4 = 2 ∧
      t.fld oGaugeCnt c 1 = (s.fld oGaugeCnt c 1 + 1) % 2 ^ 64 ∧ ((s.gaugeCh c).ovr = false → t.raised 104 = true) := by
  refine ans_next (u := execGaugeSample [x] ppm s) (fun _ _ h => h) ?_
  obtain ⟨u, hu, heq⟩ := gaugeSample_takes hf hc hx hcode hp hm
  have hsettle : ¬0 < (u.gaugeCh c).settle := by simp [hu.ch, hs]
  rw [heq, if_neg hsettle, if_pos hn]
  obtain ⟨hraw, hstate⟩ := gaugeFull_shows u c code
  refine ⟨hraw, hstate, ?_, fun ho => gaugeFull_raises code (by rw [hu.ch, ho])⟩
  rw [gaugeFull_count, hu.count, if_neg (by decide)]

theorem gaugeSample_discards {n : Nat} (hf : s.full = true) (hc : c < 48) (hx : x.channel = c)
    (hcode : code = clampI (-8388607) 8388607 x.code) (hp : ppm.natAbs ≤ 20000) (hm : s.fld oGauge c 0 ≠ 0)
    (hs : (s.gaugeCh c).settle = n + 1) : ∃ t, exec (.gaugeSample [x] ppm) s = .next t ∧ t.fld oGaugeValue c 0 = ofI 32 code ∧
      t.fld oGaugeValue c 4 = 4 ∧ (t.gaugeCh c).settle = n ∧ (t.gaugeCh c).hist = (s.gaugeCh c).hist := by
  refine ans_next (u := execGaugeSample [x] ppm s) (fun _ _ h => h) ?_
  obtain ⟨u, hu, heq⟩ := gaugeSample_takes hf hc hx hcode hp hm
  have hsettle : (u.gaugeCh c).settle = n + 1 := by rw [hu.ch, hs]
  rw [heq, if_pos (hsettle ▸ Nat.succ_pos n)]
  obtain ⟨hraw, hstate⟩ := gaugeDiscard_shows u c code
  rw [gaugeDiscard_ch, hsettle, hu.ch]
  exact ⟨hraw, hstate, rfl, rfl⟩

theorem gaugeSample_off (hf : s.full = true) (hx : x.channel = c) (hp : ppm.natAbs ≤ 20000) (hm : s.fld oGauge c 0 = 0) :
    ∃ t, exec (.gaugeSample [x] ppm) s = .next t ∧ t.row oGaugeValue c = s.row oGaugeValue c := by
  refine ans_next (u := execGaugeSample [x] ppm s) (fun _ _ h => h) ?_
  have hk := gaugeConverts_keeps s false
  rw [execGaugeSample_eq x ppm hf, if_neg (by omega), gaugeOne_off hx ((hk.fld_eq (by decide) c 0).trans hm)]
  exact hk.objs _ _ (by decide)

/-- With the reference out of tolerance no channel has a value (R337). -/
theorem gaugeSample_refFault (hf : s.full = true) (hc : c < 48) (hp : 20000 < ppm.natAbs) :
    ∃ t, exec (.gaugeSample [x] ppm) s = .next t ∧ t.fld oGaugeValue c 4 = 0 ∧ t.light.refFault = true ∧
      (s.light.refFault = false → t.raised 107 = true) := by
  refine ans_next (u := execGaugeSample [x] ppm s) (fun _ _ h => h) ?_
  rw [execGaugeSample_eq x ppm hf, if_pos hp]
  have hkeep : ∀ (u : State) (b : Nat), ((u.setFld oGaugeValue b 4 0).gaugeSpoils b).fld oGaugeValue c 4 =
      if c = b then 0 else u.fld oGaugeValue c 4 := fun u b => by
    rw [(State.gaugeSpoils_keeps ..).fld_eq (by decide), fld_setFld]
    simp
  have hfault : (s.gaugeConverts true).sessionFault.light.refFault = true := by
    rw [(State.sessionFault_keeps ..).light_eq (by decide), gaugeConverts_refFault]
  have hraised : s.light.refFault = false → (s.gaugeConverts true).sessionFault.raised 107 = true := fun h => by
    have hraise : s.gaugeConverts true = ((s.advanceTo s.gaugeDue).gaugeJudged s.gaugeDue true).raise 107 := by
      rw [State.gaugeConverts, h]
      exact if_pos rfl
    rw [State.raised_congr ((State.sessionFault_keeps ..).evt_eq (by decide)), hraise, raised_raise_self _ _ (by decide)]
  generalize (s.gaugeConverts true).sessionFault = v at hfault hraised
  have hlight := RegionsOnly.foldl (f := fun st c => (st.setFld oGaugeValue c 4 0).gaugeSpoils c)
    (fun u b => (RegionsOnly.of_light (setFld_light ..)).trans (.gaugeSpoils ..)) (List.range 48) v
  have hevs := EventsStand.foldl (f := fun st c => (st.setFld oGaugeValue c 4 0).gaugeSpoils c)
    (fun u b => (EventsStand.setFld ..).trans (gaugeSpoils_evs ..)) (List.range 48) v
  refine ⟨?_, hlight.refFault.trans hfault, fun h => hevs.stands 107 (hraised h)⟩
  refine foldl_sets (P := fun u => u.fld oGaugeValue c 4 = 0) (List.mem_range.mpr hc) (fun u => ?_) (fun u b hu => ?_) v
  · rw [hkeep, if_pos rfl]
  · rw [hkeep, hu, ite_self]

end

/-- Settles O47: the channel as a code finds it, and what the code comes to there; the mean that slides over the last samples is the choice
of log entry 68. -/
theorem gaugeSamples : Obligations.GaugeSamples := fun _ _ _ _ _ hf hc hx hcode =>
  ⟨fun hp hm hs hn => ⟨fun _ => gaugeSample_value hf hc hx hcode hp hm hs hn, gaugeSample_none hf hc hx hcode hp hm hs hn⟩,
    gaugeSample_over hf hc hx hcode, fun _ => gaugeSample_discards hf hc hx hcode, gaugeSample_off hf hx, gaugeSample_refFault hf hc⟩

end Sys2Proof.Machine
end

section
/-! SUPPORT. What the modes latched during a short test leave of it when they are acted on (R295, R311, R330, R341): the results of the
test's task and every event raised stand, and no test begins. -/

namespace Sys2Proof.Machine

variable {s t u : State} {f m q : Nat}

/-- Every event raised and every task's status still stand, and a short test runs in t where it ran in s. -/
structure TestStands (s t : State) : Prop where
  evs : EventsStand s t
  results : ResultsStand s t
  test : t.light.test = s.light.test

namespace TestStands

theorem refl (s : State) : TestStands s s := ⟨.refl s, .refl s, rfl⟩

theorem trans (a : TestStands s t) (b : TestStands t u) : TestStands s u :=
  ⟨a.evs.trans b.evs, a.results.trans b.results, b.test.trans a.test⟩

theorem ite {c : Prop} [Decidable c] {a b : State} (ha : TestStands s a) (hb : TestStands s b) : TestStands s (if c then a else b) := by
  split <;> assumption

theorem foldl {α : Type} {f : State → α → State} (hf : ∀ s a, TestStands s (f s a)) (l : List α) (s : State) :
    TestStands s (l.foldl f s) := List.foldlRecOn l f (refl s) fun _ hu a _ => hu.trans (hf _ a)

theorem of_keeps (k : Keeps m s t) (he : m.testBit 9 = true) (hw : m.testBit 13 = true) (hl : m.testBit 22 = true) : TestStands s t :=
  ⟨.of_keeps k he, .of_keeps k hw, congrArg Light.test (k.light_eq hl)⟩

theorem setRow (s : State) (o r : Nat) (v : Row) : TestStands s (s.setRow o r v) := ⟨.setRow .., .of_slots rfl, rfl⟩

theorem setFld (s : State) (o r c v : Nat) : TestStands s (s.setFld o r c v) := setRow ..

theorem bump (s : State) (o r c : Nat) : TestStands s (s.bump o r c) := setRow ..

theorem raise (s : State) (e : Nat) : TestStands s (s.raise e) :=
  ⟨.raise s e, .raise s e, congrArg Light.test ((State.raise_keeps s e).light_eq (by decide))⟩

theorem completeTask (s : State) (h st : Nat) : TestStands s (s.completeTask h st) :=
  ⟨.finishAll .., .completeTask .., congrArg Light.test ((State.completeTask_keeps s h st).light_eq (by decide))⟩

theorem completeOpt (s : State) (h : Option Nat) (st : Nat) : TestStands s (s.completeOpt h st) :=
  ⟨.completeOpt .., .completeOpt .., congrArg Light.test ((State.completeOpt_keeps s h st).light_eq (by decide))⟩

/-! ## Fades (R306 to R315) -/

theorem setFade (s : State) (f : Nat) (x : Fade) : TestStands s (s.setFade f x) := ⟨.of_evt rfl, .of_slots rfl, rfl⟩

theorem setFadeStatus (s : State) (f st result : Nat) : TestStands s (s.setFadeStatus f st result) := setRow ..

theorem setFadeBase (s : State) (kind i v : Nat) : TestStands s (s.setFadeBase kind i v) :=
  of_keeps (State.setFadeBase_keeps s kind i v) (by decide) (by decide) (by decide)

theorem fadeDone (s : State) (f result out status : Nat) : TestStands s (s.fadeDone f result out status) := by
  unfold State.fadeDone
  extract_lets x left s1 s2
  have h1 : TestStands s s1 := ((setFadeStatus ..).trans (setFld ..)).trans (setFade ..)
  exact (ite (h1.trans (raise ..)) h1 : TestStands s s2).trans (completeOpt ..)

theorem fadeEnds (s : State) (f : Nat) : TestStands s (s.fadeEnds f) := by
  unfold State.fadeEnds
  extract_lets v s1
  exact ((setFadeBase ..).trans (bump ..) : TestStands s s1).trans (fadeDone ..)

theorem fadeSuperseded (s : State) (f out : Nat) : TestStands s (s.fadeSuperseded f out) :=
  ((bump s oLightCnt 0 1).trans (raise ..)).trans (fadeDone ..)

theorem fadeUnbound (s : State) (f : Nat) : TestStands s (s.fadeUnbound f) := (setFadeStatus ..).trans (fadeSuperseded ..)

theorem fadeSettle (s : State) (f tick : Nat) : TestStands s (s.fadeSettle f tick) := ite (fadeEnds ..) (refl s)

theorem fadeStarted (s : State) (f : Nat) (x : Fade) (v : Row) (src tick under : Nat) :
    TestStands s (s.fadeStarted f x v src tick under) := ((setFade ..).trans (setFadeStatus ..)).trans (setFld ..)

theorem fadeBegins (s : State) (f : Nat) : TestStands s (s.fadeBegins f) := by
  unfold State.fadeBegins
  extract_lets v tick s0 x holder same under src start
  have h0 : TestStands s s0 := by
    simp only [s0]
    split
    · exact fadeSettle ..
    · exact refl s
  have hstart : ∀ a, TestStands a (start a) := fun a => fadeStarted a f x v src tick under
  split
  · exact h0.trans (fadeEnds ..)
  split
  · exact h0.trans (fadeSuperseded ..)
  clear_value start src under same holder
  cases holder with
  | none => exact h0.trans (hstart _)
  | some b =>
    have hloser : TestStands s (if same = true then s0.fadeUnbound b else s0.fadeSuperseded b (s0.fadeOut b)) :=
      ite (h0.trans (fadeUnbound ..)) (h0.trans (fadeSuperseded ..))
    exact ite (h0.trans (fadeSuperseded ..)) (hloser.trans (hstart _))

theorem fadeLoaded (s : State) (f : Nat) (task : Option Nat) : TestStands s (s.fadeLoaded f task) :=
  ((setFade ..).trans (setFadeStatus ..)).trans ((setFld ..).trans (setFld ..))

theorem fadeArmed (s : State) (f : Nat) (task : Option Nat) : TestStands s (s.fadeArmed f task) :=
  ite ((fadeLoaded s f task).trans (fadeEnds ..)) (ite ((fadeLoaded s f task).trans (fadeBegins ..)) (fadeLoaded s f task))

theorem fadeDrained (s : State) (f : Nat) : TestStands s (s.fadeDrained f) := by
  unfold State.fadeDrained
  extract_lets x s1
  have h1 : TestStands s s1 := (setFadeStatus ..).trans (setFade ..)
  split
  · exact h1
  · exact h1.trans (fadeArmed ..)

theorem drainCheck (s : State) : TestStands s s.drainCheck := foldl fadeDrained _ s

/-! ## Quires (R295 to R297) -/

theorem setQuire (s : State) (q : Nat) (x : Quire) : TestStands s (s.setQuire q x) :=
  of_keeps (State.setQuire_keeps s q x) (by decide) (by decide) (by decide)

theorem quireSum (s : State) (q b : Nat) : TestStands s (s.quireSum q b) := ite (refl s) ((setQuire ..).trans (raise ..))

theorem requestDone (s : State) (q : Nat) (r : Request) (status : Nat) : TestStands s (s.requestDone q r status) :=
  (completeTask ..).trans (quireSum ..)

theorem dropRequests (s : State) (q : Nat) : TestStands s (s.dropRequests q) :=
  (setQuire ..).trans (foldl (fun u r => requestDone u q r stCancelled) _ _)

theorem setRegionState (s : State) (r st reason : Nat) : TestStands s (s.setRegionState r st reason) :=
  ite (refl s) ((setRow ..).trans (raise ..))

theorem setRegion (s : State) (r : Nat) (x : Region) : TestStands s (s.setRegion r x) := ⟨.of_evt rfl, .of_slots rfl, rfl⟩

theorem regionCut (s : State) (r : Nat) : TestStands s (s.regionCut r) := by
  unfold State.regionCut
  extract_lets s1
  have h1 : TestStands s s1 := (bump ..).trans (setRegionState ..)
  exact ite (refl s) (h1.trans (setRegion ..))

theorem leaveRunning (s : State) (q : Nat) : TestStands s (s.leaveRunning q) := by
  unfold State.leaveRunning
  extract_lets s1
  have h1 : TestStands s s1 :=
    foldl (fun u i => of_keeps (State.setStrand_keeps u (16 * q + i) _) (by decide) (by decide) (by decide)) _ s
  exact h1.trans (foldl regionCut _ s1)

theorem quireLeft (s : State) (q n : Nat) : TestStands s (s.quireLeft q n) := by
  unfold State.quireLeft
  extract_lets s1
  have h1 : TestStands s s1 := ite (leaveRunning ..) (refl s)
  exact ite (h1.trans (dropRequests ..)) h1

theorem setQuireState (s : State) (q n : Nat) : TestStands s (s.setQuireState q n) := ite (refl s) ((setFld ..).trans (quireSum ..))

theorem quireSettled (s : State) (q old n : Nat) (quench : Bool) : TestStands s (s.quireSettled q old n quench) := by
  unfold State.quireSettled
  extract_lets s1
  have hpins : TestStands s (if quench then s else s.driveQuire q) :=
    ite (refl s) (of_keeps (State.driveQuire_keeps ..) (by decide) (by decide) (by decide))
  have hsets : ∀ u : State, TestStands u ((u.clearBoth q).bindFrames q) := fun u =>
    (of_keeps (State.clearBoth_keeps u q) (by decide) (by decide) (by decide)).trans
      (of_keeps (State.bindFrames_keeps (u.clearBoth q) q) (by decide) (by decide) (by decide))
  have h1 : TestStands s s1 := ite (hpins.trans (hsets _)) (refl s)
  exact ite ((h1.trans (drainCheck s1)).trans (of_keeps (State.applyTaps_keeps ..) (by decide) (by decide) (by decide))) h1

theorem quireTo (s : State) (q n : Nat) : TestStands s (s.quireTo q n) := by
  obtain ⟨idle, heq⟩ := quireTo_eq s q n
  rw [heq]
  exact ((quireLeft s q n).trans (setQuire ..)).trans ((setQuireState ..).trans (quireSettled ..))

theorem setRunPending (s : State) (q : Nat) (b : Bool) : TestStands s (s.setRunPending q b) := setFld ..

theorem quireStart (s : State) (q : Nat) : TestStands s (s.quireStart q) :=
  ((setRunPending s q false).trans (quireTo ..)).trans (setQuire ..)

theorem quireRun (s : State) (q : Nat) (written : Bool) : TestStands s (s.quireRun q written).2 := by
  have hpends : ∀ b, TestStands s (if (s.setRunPending q b).quireState q = 0 then (s.setRunPending q b).quireTo q 2 else s.setRunPending q b) :=
    fun b => ite ((setRunPending s q b).trans (quireTo ..)) (setRunPending s q b)
  unfold State.quireRun
  extract_lets hs s1 s2 s3
  split
  · exact refl s
  split
  · exact hpends true
  split
  · exact quireStart ..
  split
  · exact refl s
  · exact (hpends false).trans (quireSum ..)

theorem quireDrain (s : State) (q target : Nat) : TestStands s (s.quireDrain q target) := by
  have hdrains : ∀ x, TestStands s ((s.setQuire q x).quireTo q 4) := fun x => (setQuire ..).trans (quireTo ..)
  unfold State.quireDrain
  extract_lets x
  split
  · split
    · exact ite (hdrains _) (ite (hdrains _) (quireTo ..))
    · exact ite (hdrains _) (quireTo ..)
  · exact ite (hdrains _) (quireTo ..)

theorem quireModeTo (s : State) (q m : Nat) (written : Bool) : TestStands s (s.quireModeTo q m written).2 := by
  have hnone := setRunPending s q false
  unfold State.quireModeTo
  extract_lets st s1
  split
  · exact setQuire ..
  split
  · exact quireRun ..
  split
  · exact ite (hnone.trans (quireTo ..)) (ite (hnone.trans (quireDrain ..)) hnone)
  · exact ite (hnone.trans (quireTo ..)) (ite (hnone.trans (quireDrain ..)) hnone)

theorem quireLatched (s : State) (q : Nat) : TestStands s (s.quireLatched q) := by
  unfold State.quireLatched
  split
  · exact refl s
  · exact (setQuire ..).trans (quireModeTo ..)

end TestStands

end Sys2Proof.Machine
end

section
/-! SUPPORT. The short test (R339 to R342): what starts one, and the one fault that its end records and quarantines. -/

namespace Sys2Proof.Machine

variable {s t u : State} {mask h a b p kind n : Nat} {high : List (Nat × Nat)} {stuck : List Nat}

theorem clearObj_row_self (s : State) (o r : Nat) : (s.clearObj o).row o r = dfltRow o r := by
  unfold State.clearObj State.setRows State.row
  rw [tget_tset_self, tget_nil]

/-- A growing table that is cleared holds no row (R445). -/
theorem clearObj_rowCount (s : State) (o : Nat) : (s.clearObj o).rowCount o = 0 := by
  rw [State.rowCount, State.fld, clearObj_row_self, dfltRow, if_pos rfl]
  rfl

/-! ## A test starts (R340, R342) -/

/-- An operation that no task carries takes a new handle (R407). -/
theorem accept_new {w : Who} (hw : w.task = 0) (hn : NewHandle s h) (start : Nat → State → State) : ∃ u,
    accept s w start = { status := stAccepted, handle := h, st := start h u } ∧ u.light = s.light ∧ u.clk = s.clk := by
  obtain ⟨slot, v, hslot, -, rfl⟩ := hn
  unfold accept
  rw [if_neg (not_not.mpr hw)]
  have halloc : ∀ x, ∃ u, s.allocTask x = some (nextGen ((s.task slot).handle / 1024) * 1024 + slot, u) := fun x => by
    unfold State.allocTask
    rw [hslot]
    exact ⟨_, rfl⟩
  obtain ⟨u, hu⟩ := halloc _
  rw [hu]
  exact ⟨u, rfl, (State.allocTask_keeps s _ hu).light_eq (by decide), (State.allocTask_keeps s _ hu).clk_eq (by decide)⟩

/-- Every masked Quire is OFF or in SETUP. -/
theorem maskTestable_iff : (List.range 16).all (fun q => !mask.testBit q || s.quireState q == 0 || s.quireState q == 2) = true ↔
    ∀ q, q < 16 → mask.testBit q = true → s.quireState q = 0 ∨ s.quireState q = 2 := by
  simp only [List.all_eq_true, List.mem_range, Bool.or_eq_true, Bool.not_eq_true', beq_iff_eq]
  refine forall₂_congr fun q _ => ?_
  cases mask.testBit q <;> simp

theorem writeShortTest_state {w : Who} {q : Nat} (hq : q < 16) (hm : mask.testBit q = true) (h0 : s.quireState q ≠ 0)
    (h2 : s.quireState q ≠ 2) : writeShortTest w mask s = refuse s stState := by
  unfold writeShortTest
  refine if_pos ?_
  rw [Bool.not_eq_true', Bool.eq_false_iff, ne_eq, maskTestable_iff]
  exact fun hall => (hall q hq hm).elim h0 h2

theorem writeShortTest_busy {w : Who} (hall : ∀ q, q < 16 → mask.testBit q = true → s.quireState q = 0 ∨ s.quireState q = 2)
    (ht : s.light.test ≠ none) : writeShortTest w mask s = refuse s stBusy := by
  unfold writeShortTest
  rw [maskTestable_iff.mpr hall]
  exact if_pos (Option.isSome_iff_ne_none.mpr ht)

/-- A test of the masked Quires has begun as handle h, its pins skipped counted. -/
def State.shortTestBegun (s : State) (mask h skipped : Nat) : State :=
  ({ s.clearObj oShortResult with
      light := { s.light with test := some (mask, h), testAt := s.clk.elapsed, shortMore := [] } }).add oLightCnt 0 7 skipped

theorem shortTestBegun_light (s : State) (mask h skipped : Nat) : (s.shortTestBegun mask h skipped).light =
    { s.light with test := some (mask, h), testAt := s.clk.elapsed, shortMore := [] } := rfl

theorem shortTestBegun_rowCount (s : State) (mask h skipped : Nat) : (s.shortTestBegun mask h skipped).rowCount oShortResult = 0 :=
  (fld_setFld_of_ne _ _ _ _ _ _ (by decide)).trans (clearObj_rowCount s oShortResult)

theorem writeShortTest_starts {w : Who} (hw : w.task = 0)
    (hall : ∀ q, q < 16 → mask.testBit q = true → s.quireState q = 0 ∨ s.quireState q = 2) (ht : s.light.test = none)
    (hn : NewHandle s h) : ∃ (u : State) (skipped : Nat), writeShortTest w mask s =
      { status := stAccepted, handle := h, st := u.shortTestBegun mask h skipped } ∧ u.clk = s.clk := by
  unfold writeShortTest
  rw [maskTestable_iff.mpr hall, ht]
  simp only [Bool.not_true, Bool.false_eq_true, if_false, Option.isSome_none]
  obtain ⟨u, hu, -, hclk⟩ := accept_new hw hn _
  exact ⟨u, _, hu, hclk⟩

/-! ## A result (R342) -/

/-- Result 0 is the only one, and where AUTO_QUARANTINE is on its pins are quarantined. -/
structure OneResult (a b kind : Nat) (on : Prop) (t : State) : Prop where
  count : t.rowCount oShortResult = 1
  row : t.row oShortResult 0 = [a, b, kind]
  first : on → t.fld oQuarantine a 0 = 1
  second : on → kind = 1 → t.fld oQuarantine b 0 = 1

theorem shortResult_one (hn : s.rowCount oShortResult = 0) (hm : s.light.shortMore = []) (a b kind : Nat) :
    OneResult a b kind (s.val 0x256300 = 1) (s.shortResult a b kind) := by
  have hfresh : ¬(((List.range 0).any fun i => s.row oShortResult i == [a, b, kind]) || ([] : List Row).contains [a, b, kind]) = true := by simp
  unfold State.shortResult
  extract_lets n l s1 s2
  have hn' : n = 0 := hn
  rw [hn', hm, if_neg hfresh]
  have h1 : s1 = (s.setRowCount oShortResult 1).setRow oShortResult 0 [a, b, kind] := by simp [s1, hn']
  have hcount : s1.rowCount oShortResult = 1 := by
    rw [h1, State.rowCount, fld_setRow, if_neg (by decide)]
    exact congrArg (·.getD 0 0) (row_setRow_self ..)
  have hrow : s1.row oShortResult 0 = [a, b, kind] := h1 ▸ row_setRow_self ..
  clear_value s1
  have hset : ∀ v : State, v.rowCount oShortResult = 1 → v.row oShortResult 0 = [a, b, kind] → ∀ p,
      (v.setFld oQuarantine p 0 1).rowCount oShortResult = 1 ∧ (v.setFld oQuarantine p 0 1).row oShortResult 0 = [a, b, kind] := fun v hc hr p =>
    ⟨(fld_setFld_of_ne _ _ _ _ _ _ (by decide)).trans hc, (row_setFld_of_ne _ _ _ _ _ (by decide)).trans hr⟩
  obtain ⟨hcount2, hrow2⟩ := hset s1 hcount hrow a
  by_cases hq : s.val 0x256300 = 1
  · have ha : s2.fld oQuarantine a 0 = 1 := fld_setFld_self ..
    rw [if_pos hq]
    by_cases hk : kind = 1
    · rw [if_pos hk]
      obtain ⟨hcount3, hrow3⟩ := hset s2 hcount2 hrow2 b
      refine ⟨hcount3, hrow3, fun _ => ?_, fun _ _ => fld_setFld_self ..⟩
      rw [fld_setFld, ha, ite_self]
    · rw [if_neg hk]
      exact ⟨hcount2, hrow2, fun _ => ha, fun _ hk' => absurd hk' hk⟩
  · rw [if_neg hq]
    exact ⟨hcount, hrow, fun h => absurd h hq, fun h => absurd h hq⟩

/-! ## The one fault of a test (R341) -/

/-- Of a fold over the numbers below n only one step does anything. -/
theorem foldl_range_one {f : State → Nat → State} (hp : p < n) (hf : ∀ u i, i ≠ p → f u i = u) (s : State) :
    (List.range n).foldl f s = f s p := by
  have hskip : ∀ (l : List Nat) (u : State), p ∉ l → l.foldl f u = u := fun l u hl =>
    List.foldlRecOn (motive := fun v => v = u) l f rfl fun v hv i hi => (hf v i fun k => hl (k ▸ hi)).trans hv
  obtain ⟨l, r, hlr⟩ := List.append_of_mem (List.mem_range.mpr hp)
  have hnodup := hlr ▸ List.nodup_range (n := n)
  obtain ⟨-, hr, hdisj⟩ := List.nodup_append.mp hnodup
  have hl : p ∉ l := fun k => hdisj p k p List.mem_cons_self rfl
  rw [hlr, List.foldl_append, hskip l s hl, List.foldl_cons, hskip r _ (List.nodup_cons.mp hr).1]

/-- Only the step of aggressor p finds anything. -/
theorem maskPins_foldl (hp : p < 256) (hm : mask.testBit (p / 16) = true)
    (hskip : ∀ (u : State) (i : Nat), i ≠ p → u.shortStep high stuck i = u) (s : State) :
    (maskPins mask).foldl (fun u i => u.shortStep high stuck i) s = s.shortStep high stuck p := by
  rw [maskPins, List.foldl_filter, foldl_range_one hp]
  · exact if_pos hm
  · intro u i hi
    rw [hskip u i hi, ite_self]

theorem shortStep_pair_of_ne {i : Nat} (hi : i ≠ p) (u : State) : u.shortStep [(p, b)] [] i = u := by
  have hnone : ∀ x, ([(p, b)] : List (Nat × Nat)).contains (i, x) = false := by simp [hi]
  unfold State.shortStep
  simp [hi]

theorem shortStep_pair (hb : b < 256) (ha : s.adjacent p b = true) (ht : s.pinTestable b = true) :
    s.shortStep [(p, b)] [] p = s.shortResult (min p b) (max p b) 1 := by
  unfold State.shortStep
  extract_lets found s1
  refine (if_neg (by simp)).trans ?_
  simp only [s1, found, List.foldl_filter]
  rw [foldl_range_one hb]
  · simp [ha, ht]
  · intro u i hi
    simp [hi]

theorem shortStep_stuck (s : State) (p i : Nat) : s.shortStep [] [p] i = if i = p then s.shortResult p 0xFF 2 else s := by
  unfold State.shortStep
  by_cases hi : i = p <;> simp [hi]

/-! ## The end of a test (R341) -/

/-- The objects of the short test. -/
abbrev testObjs : Nat := 0x40000000000000000000000000000000000000000000000000000000000000000000000000000000000000000000000000000000000000000000000000000000000000000000000000000000000000

/-- No test runs any more. -/
def State.testEnded (s : State) : State := { s with light := { s.light with test := none } }

/-- The pins of the masked Quires have been aggressors in turn. -/
def State.testRun (s : State) (mask : Nat) (high : List (Nat × Nat)) (stuck : List Nat) : State :=
  (maskPins mask).foldl (fun u p => u.shortStep high stuck p) (s.advanceElapsed (s.light.testAt + 4000 * (maskPins mask).length))

theorem execShortTestDone_eq (ht : s.light.test = some (mask, h)) : execShortTestDone high stuck s =
    ((List.range 16).filter (fun q => mask.testBit q)).foldl (fun u q => u.quireLatched q)
      (((s.testRun mask high stuck).testEnded.completeTask h stOk).raise 103) := by
  unfold execShortTestDone
  rw [ht]
  rfl

/-- What the end of a test leaves: no test, its task OK, event 103, and the results as the aggressors left them. -/
structure TestEnds (h : Nat) (u t : State) : Prop where
  test : t.light.test = none
  task : Completed t h stOk
  raised : t.raised 103 = true
  rows : ∀ o r, o / 4096 = 0x256 → t.row o r = u.row o r

theorem shortTestDone_ends (ht : s.light.test = some (mask, h)) (hl : s.handleLive h = true) :
    TestEnds h (s.testRun mask high stuck) (execShortTestDone high stuck s) := by
  rw [execShortTestDone_eq ht]
  have hweir : Keeps 0x2000 s (s.testRun mask high stuck) :=
    .foldl (fun _ _ hk => .step (State.shortStep_keeps ..) (by decide) hk) ((State.advanceElapsed_keeps ..).weaken (by decide))
  have hlive : (s.testRun mask high stuck).testEnded.handleLive h = true :=
    (State.handleLive_congr (congrArg Weir.slots (hweir.weir_eq (by decide))) h).trans hl
  generalize s.testRun mask high stuck = u at hlive
  have hends : TestStands u.testEnded ((u.testEnded.completeTask h stOk).raise 103) := (TestStands.completeTask ..).trans (.raise ..)
  have hkeeps : Keeps testObjs u.testEnded ((u.testEnded.completeTask h stOk).raise 103) :=
    .step (State.raise_keeps ..) (by decide) ((State.completeTask_keeps ..).weaken (by decide))
  have hdone : Completed ((u.testEnded.completeTask h stOk).raise 103) h stOk :=
    (ResultsStand.raise ..).stands h _ (completeTask_completes hlive stOk)
  have hraised : ((u.testEnded.completeTask h stOk).raise 103).raised 103 = true := raised_raise_self _ _ (by decide)
  generalize (u.testEnded.completeTask h stOk).raise 103 = w at hends hkeeps hdone hraised
  have hmodes := TestStands.foldl (f := fun v q => v.quireLatched q) TestStands.quireLatched
    ((List.range 16).filter fun q => mask.testBit q) w
  have hrows : Keeps testObjs w (((List.range 16).filter fun q => mask.testBit q).foldl (fun v q => v.quireLatched q) w) :=
    .foldl (fun _ _ hk => .step (State.quireLatched_keeps ..) (by decide) hk) .refl
  refine ⟨hmodes.test.trans hends.test, hmodes.results.stands h _ hdone, hmodes.evs.stands 103 hraised, fun o r ho => ?_⟩
  exact (hrows.objs o r (by rw [ho]; decide)).trans (hkeeps.objs o r (by rw [ho]; decide))

theorem TestEnds.oneResult {on : Prop} (e : TestEnds h u t) (r : OneResult a b kind on u) : OneResult a b kind on t where
  count := (congrArg (·.getD 0 0) (e.rows _ _ rfl)).trans r.count
  row := (e.rows _ _ rfl).trans r.row
  first k := (congrArg (·.getD 0 0) (e.rows _ _ rfl)).trans (r.first k)
  second k k1 := (congrArg (·.getD 0 0) (e.rows _ _ rfl)).trans (r.second k k1)

theorem advanceElapsed_od (s : State) (e : Nat) : (s.advanceElapsed e).od = s.od := by
  unfold State.advanceElapsed
  split <;> rfl

theorem State.adjacent_congr (ho : t.od = s.od) (a b : Nat) : t.adjacent a b = s.adjacent a b := by
  unfold State.adjacent State.rowCount
  simp only [State.fld_congr ho]

/-- The test finds one pin stuck high next to an aggressor. -/
theorem testRun_pair (hp : p < 256) (hb : b < 256) (hm : mask.testBit (p / 16) = true) (ha : s.adjacent p b = true)
    (ht : s.pinTestable b = true) (hn : s.rowCount oShortResult = 0) (hmore : s.light.shortMore = []) :
    OneResult (min p b) (max p b) 1 (s.val 0x256300 = 1) (s.testRun mask [(p, b)] []) := by
  unfold State.testRun
  have hk := State.advanceElapsed_keeps s (s.light.testAt + 4000 * (maskPins mask).length)
  have ho := advanceElapsed_od s (s.light.testAt + 4000 * (maskPins mask).length)
  generalize s.advanceElapsed (s.light.testAt + 4000 * (maskPins mask).length) = u at hk ho
  rw [maskPins_foldl hp hm (fun v i hi => shortStep_pair_of_ne hi v), shortStep_pair hb ((State.adjacent_congr ho p b).trans ha)]
  · have := shortResult_one (s := u) ((hk.fld_eq (by decide) _ _).trans hn) ((congrArg Light.shortMore (hk.light_eq (by decide))).trans hmore)
      (min p b) (max p b) 1
    rwa [State.val, hk.fld_eq (by decide)] at this
  · rw [← ht]
    unfold State.pinTestable State.quireState
    rw [State.fld_congr ho]

/-- The test finds one aggressor stuck low. -/
theorem testRun_stuck (hp : p < 256) (hm : mask.testBit (p / 16) = true) (hn : s.rowCount oShortResult = 0) (hmore : s.light.shortMore = []) :
    OneResult p 0xFF 2 (s.val 0x256300 = 1) (s.testRun mask [] [p]) := by
  unfold State.testRun
  have hk := State.advanceElapsed_keeps s (s.light.testAt + 4000 * (maskPins mask).length)
  generalize s.advanceElapsed (s.light.testAt + 4000 * (maskPins mask).length) = u at hk
  rw [maskPins_foldl hp hm (fun v i hi => (shortStep_stuck ..).trans (if_neg hi)), shortStep_stuck, if_pos rfl]
  have := shortResult_one (s := u) ((hk.fld_eq (by decide) _ _).trans hn) ((congrArg Light.shortMore (hk.light_eq (by decide))).trans hmore)
    p 0xFF 2
  rwa [State.val, hk.fld_eq (by decide)] at this

/-! ## The clauses -/

theorem shortTest_answered {o : Origin} {x : Row} (hp : Passes s o 0x256000 0 (fun d => numRow d mask) x) :
    ∃ t, exec (.shortTest mask o) s = .next t ∧
      (∀ q, q < 16 → mask.testBit q = true → s.quireState q ≠ 0 → s.quireState q ≠ 2 → Answers t stState 0 ∧ t.light.test = s.light.test) ∧
      ((∀ q, q < 16 → mask.testBit q = true → s.quireState q = 0 ∨ s.quireState q = 2) →
        (s.light.test ≠ none → Answers t stBusy 0 ∧ t.light.test = s.light.test) ∧
        (s.light.test = none → NewHandle s h → Answers t stAccepted h ∧ t.light.test = some (mask, h) ∧
          t.light.testAt = s.clk.elapsed ∧ t.rowCount oShortResult = 0)) := by
  obtain rfl := passes_num hp rfl rfl rfl
  refine ans_next (u := s.request o 0x256000 0 (fun d => numRow d mask)) (fun _ _ h => h) ?_
  have k := request_of hp hook_256000
  generalize s.request o 0x256000 0 (fun d => numRow d mask) = t at k
  have hlight := k.keeps.light_eq (by decide)
  have hcount : t.rowCount oShortResult = (writeShortTest (Who.of o) mask s).st.rowCount oShortResult := k.keeps.fld_eq (by decide) _ _
  have hans := k.ans
  clear k
  refine ⟨fun q hq hm h0 h2 => ?_, fun hall => ⟨fun ht => ?_, fun ht hn => ?_⟩⟩
  · have heq : writeShortTest (Who.of o) (v1 [mask]) s = refuse s stState := writeShortTest_state hq hm h0 h2
    rw [heq] at hans hlight
    exact ⟨hans, congrArg Light.test hlight⟩
  · have heq : writeShortTest (Who.of o) (v1 [mask]) s = refuse s stBusy := writeShortTest_busy hall ht
    rw [heq] at hans hlight
    exact ⟨hans, congrArg Light.test hlight⟩
  · obtain ⟨u, skipped, heq, hclk⟩ := writeShortTest_starts (w := Who.of o) rfl hall ht hn
    have heq' : writeShortTest (Who.of o) (v1 [mask]) s = { status := stAccepted, handle := h, st := u.shortTestBegun mask h skipped } := heq
    rw [heq'] at hans hlight
    rw [heq] at hcount
    refine ⟨hans, congrArg Light.test hlight, (congrArg Light.testAt hlight).trans ?_, hcount.trans (shortTestBegun_rowCount ..)⟩
    rw [shortTestBegun_light, hclk]

theorem shortTestDone_records (ht : s.light.test = some (mask, h)) (hl : s.handleLive h = true) :
    ∃ t, exec (.shortTestDone high stuck) s = .next t ∧ t.light.test = none ∧ Completed t h stOk ∧ t.raised 103 = true ∧
      (∀ p b, high = [(p, b)] → stuck = [] → p < 256 → b < 256 → mask.testBit (p / 16) = true → s.adjacent p b = true →
        s.pinTestable b = true → s.rowCount oShortResult = 0 → s.light.shortMore = [] → t.rowCount oShortResult = 1 ∧
        t.row oShortResult 0 = [min p b, max p b, 1] ∧
        (s.val 0x256300 = 1 → t.fld oQuarantine p 0 = 1 ∧ t.fld oQuarantine b 0 = 1)) ∧
      (∀ p, high = [] → stuck = [p] → p < 256 → mask.testBit (p / 16) = true → s.rowCount oShortResult = 0 → s.light.shortMore = [] →
        t.rowCount oShortResult = 1 ∧ t.row oShortResult 0 = [p, 0xFF, 2] ∧ (s.val 0x256300 = 1 → t.fld oQuarantine p 0 = 1)) := by
  refine ans_next (u := execShortTestDone high stuck s) (fun _ _ h => h) ?_
  have e := shortTestDone_ends (high := high) (stuck := stuck) ht hl
  generalize execShortTestDone high stuck s = t at e
  refine ⟨e.test, e.task, e.raised, ?_, ?_⟩
  · rintro p b rfl rfl hp hb hm ha hpin hn hmore
    obtain ⟨hcount, hrow, hfirst, hsecond⟩ := e.oneResult (testRun_pair hp hb hm ha hpin hn hmore)
    refine ⟨hcount, hrow, fun hq => ?_⟩
    have hmin := hfirst hq
    have hmax := hsecond hq rfl
    rcases le_total p b with hle | hle
    · rw [min_eq_left hle] at hmin
      rw [max_eq_right hle] at hmax
      exact ⟨hmin, hmax⟩
    · rw [min_eq_right hle] at hmin
      rw [max_eq_left hle] at hmax
      exact ⟨hmax, hmin⟩
  · rintro p rfl rfl hp hm hn hmore
    obtain ⟨hcount, hrow, hfirst, -⟩ := e.oneResult (testRun_stuck hp hm hn hmore)
    exact ⟨hcount, hrow, hfirst⟩

end Sys2Proof.Machine
end

section
/-! SUPPORT. The emitter fault list cleared, and a region's corrections set to 1.0 (R331, R338), with the obligation of light's commands. -/

namespace Sys2Proof.Machine

variable {s t : State} {r v : Nat}

theorem faultClear_answered {o : Origin} {x : Row} (hp : Passes s o 0x257100 0 (fun d => numRow d v) x) :
    ∃ t, exec (.faultClear v o) s = .next t ∧ Answers t stOk 0 ∧
      (v = 1 → t.rowCount oFaults = 0 ∧ t.light.faultFull = false) ∧
      (v = 0 → (∀ r, t.row oFaults r = s.row oFaults r) ∧ t.light.faultFull = s.light.faultFull) := by
  obtain rfl := passes_num hp rfl rfl rfl
  refine ans_next (u := s.request o 0x257100 0 (fun d => numRow d v)) (fun _ _ h => h) ?_
  have k := request_of hp hook_257100
  generalize s.request o 0x257100 0 (fun d => numRow d v) = t at k
  have hlight := k.keeps.light_eq (by decide)
  have hrow := fun r => k.keeps.objs oFaults r (by decide)
  refine ⟨k.ans, ?_, ?_⟩
  · rintro rfl
    refine ⟨(congrArg (·.getD 0 0) (hrow cntRow)).trans (clearObj_rowCount s oFaults), congrArg Light.faultFull hlight⟩
  · rintro rfl
    exact ⟨hrow, congrArg Light.faultFull hlight⟩

/-- A change of a region's state or reason leaves its corrections (R331). -/
theorem setRegionState_fld (s : State) (r st reason : Nat) {i c : Nat} (hc : 2 ≤ c) :
    (s.setRegionState r st reason).fld oRegionStatus i c = s.fld oRegionStatus i c := by
  unfold State.setRegionState
  split
  · rfl
  · rw [raise_fld _ _ _ _ (by decide), fld_setRow]
    split
    next hi =>
      obtain ⟨-, rfl⟩ := hi
      rw [getD_rput, getD_rput, if_neg (by omega), if_neg (by omega)]
      rfl
    · rfl

theorem retrack_fld (s : State) (r : Nat) {i c : Nat} (hc : 2 ≤ c) : (s.retrack r).fld oRegionStatus i c = s.fld oRegionStatus i c := by
  unfold State.retrack State.tracks
  split
  · exact setRegionState_fld _ _ _ _ hc
  · rfl

theorem writeRegionReset_one (s : State) (r : Nat) {i : Nat} (hi : i < 3) :
    (writeRegionReset r 1 s).st.fld oRegionStatus r (2 + i) = toF32 1 := by
  unfold writeRegionReset
  rw [if_pos rfl]
  extract_lets one v bound reached s1
  have h1 : s1.fld oRegionStatus r (2 + i) = one := by
    refine (congrArg (·.getD (2 + i) 0) (row_setRow_self ..)).trans ?_
    simp only [getD_rput]
    interval_cases i <;> rfl
  refine (((State.calTouched_keeps ..).fld_eq (by decide) r (2 + i)).trans (retrack_fld _ _ (by omega))).trans (Eq.trans ?_ h1)
  unfold State.raiseIf
  split
  · exact raise_fld _ _ _ _ (by decide)
  · rfl

theorem regionReset_answered {o : Origin} {x : Row} (hp : Passes s o 0x254400 r (fun d => numRow d v) x) :
    ∃ t, exec (.regionReset r v o) s = .next t ∧ Answers t stOk 0 ∧
      (v = 1 → ∀ i, i < 3 → t.fld oRegionStatus r (2 + i) = toF32 1) ∧
      (v ≠ 1 → ∀ i, t.fld oRegionStatus r i = s.fld oRegionStatus r i) := by
  obtain rfl := passes_num hp rfl rfl rfl
  refine ans_next (u := s.request o 0x254400 r (fun d => numRow d v)) (fun _ _ h => h) ?_
  have k := request_of hp hook_254400
  generalize s.request o 0x254400 r (fun d => numRow d v) = t at k
  have hfld := k.keeps.fld_eq (o := oRegionStatus) (by decide) r
  have hans : Answers t stOk 0 := by
    have ha := k.ans
    by_cases hv : v = 1
    · subst hv
      exact ha
    · rwa [show v1 [v] = v from rfl, writeRegionReset, if_neg hv] at ha
  refine ⟨hans, ?_, fun hv i => (hfld i).trans ?_⟩
  · rintro rfl i hi
    exact (hfld _).trans (writeRegionReset_one s r hi)
  · rw [show v1 [v] = v from rfl, writeRegionReset, if_neg hv]
    rfl

/-- Settles O48: a test by what its start finds and its end records, a cleared list, and corrections at 1.0. That a second test is BUSY and
that the results stand until the next start are the choices of log entries 20 and 67. -/
theorem testAndFaultCommands : Obligations.TestAndFaultCommands :=
  ⟨fun _ _ _ _ _ => shortTest_answered, fun _ _ _ _ _ => shortTestDone_records, fun _ _ _ _ => faultClear_answered,
    fun _ _ _ _ _ => regionReset_answered⟩

end Sys2Proof.Machine
end

section
/-! SUPPORT. REFT and the calibration store (R350 to R352, R366 to R368, R662): the presence of REFT, a measurement that starts and ends,
and a save asked for and made. -/

namespace Sys2Proof.Machine

variable {s t u : State} {ppm : Int} {n v : Nat} {bins : List Nat} {ok : Bool}

/-! ## The CAL block through the shared operations -/

@[simp] theorem advanceTo_cal (s : State) (pt : Nat) : (s.advanceTo pt).cal = s.cal := (State.advanceTo_keeps s pt).cal_eq (by decide)

@[simp] theorem raise_cal (s : State) (e : Nat) : (s.raise e).cal = s.cal := (State.raise_keeps s e).cal_eq (by decide)

@[simp] theorem setCal_cal (s : State) (x : Cal) : (s.setCal x).cal = x := rfl

@[simp] theorem setCal_now (s : State) (x : Cal) : (s.setCal x).now = s.now := State.now_congr rfl

theorem setCal_raised {e : Nat} (x : Cal) (h : s.raised e = true) : (s.setCal x).raised e = true := (State.raised_congr rfl).trans h

@[simp] theorem setCal_fld (s : State) (x : Cal) (o r c : Nat) : (s.setCal x).fld o r c = s.fld o r c := State.fld_congr rfl

/-- A write command that settles leaves the CAL block as its chapter does. -/
theorem Settled.cal {r : WRes} (k : Settled r t) : t.cal = r.st.cal := k.keeps.cal_eq (by decide)

/-! ## The presence of REFT (R350) -/

theorem State.reftPresent_congr (h : t.fld oReft 0 0 = s.fld oReft 0 0) : t.reftPresent = s.reftPresent := congrArg (· == 1) h

@[simp] theorem advanceTo_reftPresent (s : State) (pt : Nat) : (s.advanceTo pt).reftPresent = s.reftPresent :=
  State.reftPresent_congr (advanceTo_fld ..)

theorem setFld_reftPresent (s : State) (b : Bool) : (s.setFld oReft 0 0 (b2n b)).reftPresent = b := by
  rw [State.reftPresent, fld_setFld_self]
  cases b <;> rfl

theorem raise_reftPresent (s : State) (e : Nat) : (s.raise e).reftPresent = s.reftPresent :=
  State.reftPresent_congr (raise_fld s e 0 0 (by decide))

theorem setCal_reftPresent (s : State) (x : Cal) : (s.setCal x).reftPresent = s.reftPresent := State.reftPresent_congr (setCal_fld ..)

theorem reftPresence_turns (ht : s.timeRuns = true) (hne : s.reftPresent ≠ decide (ppm.natAbs ≤ 100)) :
    ∃ t, exec (.reftPresence ppm) s = .next t ∧ t.reftPresent = decide (ppm.natAbs ≤ 100) ∧ t.raised 109 = true ∧
      (ppm.natAbs ≤ 100 → t.cal.nextAt = t.now) ∧ (100 < ppm.natAbs → t.cal.running = none) := by
  refine ans_next (u := execReftPresence ppm s) (fun _ _ h => h) ?_
  unfold execReftPresence
  rw [ht]
  extract_lets u on s1
  have hturns : ¬on = u.reftPresent := fun h => hne ((advanceTo_reftPresent s _).symm.trans h.symm)
  rw [if_neg (by decide), if_neg hturns]
  have hon : s1.reftPresent = on := (raise_reftPresent ..).trans (setFld_reftPresent ..)
  have hraised : s1.raised 109 = true := raised_raise_self _ _ (by decide)
  by_cases hp : ppm.natAbs ≤ 100
  · rw [if_pos (decide_eq_true hp)]
    exact ⟨(setCal_reftPresent ..).trans hon, setCal_raised _ hraised, fun _ => (setCal_now ..).symm, fun h => absurd hp (Nat.not_le.mpr h)⟩
  · rw [if_neg (by simpa [on] using hp)]
    exact ⟨(setCal_reftPresent ..).trans hon, setCal_raised _ hraised, fun h => absurd h hp, fun _ => rfl⟩

theorem reftPresence_stays (ht : s.timeRuns = true) (heq : s.reftPresent = decide (ppm.natAbs ≤ 100)) :
    ∃ t, exec (.reftPresence ppm) s = .next t ∧ t.reftPresent = s.reftPresent ∧ t.cal = s.cal := by
  refine ans_next (u := execReftPresence ppm s) (fun _ _ h => h) ?_
  unfold execReftPresence
  rw [ht, if_neg (by decide)]
  extract_lets u on s1
  rw [if_pos (heq.symm.trans (advanceTo_reftPresent s _).symm)]
  exact ⟨advanceTo_reftPresent .., advanceTo_cal ..⟩

/-! ## A measurement (R351, R352) -/

theorem reftMeasurement_starts (hf : s.full = true) (hn : s.cal.running = none) (hp : s.reftPresent = true) :
    ∃ t, exec .reftMeasurement s = .next t ∧ t.cal.running = some (t.now, s.fld oReftDecl 0 0) ∧ t.cal.nextAt = t.now + 60000000000 := by
  refine ans_next (u := execReftMeasurement s) (fun _ _ h => h) ?_
  unfold execReftMeasurement
  rw [hf, hn, hp]
  extract_lets u
  refine ⟨?_, rfl⟩
  show some (u.now, u.fld oReftDecl 0 0) = some ((u.setCal _).now, s.fld oReftDecl 0 0)
  rw [setCal_now, advanceTo_fld]

theorem reftMeasurement_absent (hp : s.reftPresent = false) : exec .reftMeasurement s = .next s := by
  have hnone : execReftMeasurement s = s := by simp [execReftMeasurement, hp]
  show ans s (execReftMeasurement s) = .next s
  rw [hnone]
  rfl

/-- The CAL block with a measurement of `n` STRAND periods and its bin counts in use, stamped with a reference's REF_ID. -/
def Cal.measured (x : Cal) (ref n : Nat) (bins : List Nat) : Cal :=
  { x with running := none, cycles := some n, bins := bins, traced := ref, changed := true }

theorem measured_periodPs (x : Cal) (ref : Nat) (bins : List Nat) (hn : 0 < n) :
    (x.measured ref n bins).periodPs = 100000000000 / (n : Rat) := if_neg (Nat.pos_iff_ne_zero.mp hn)

theorem measured_tdcTrace (x : Cal) {ref : Nat} (n : Nat) (bins : List Nat) (hr : ref ≠ 0) :
    (x.measured ref n bins).tdcTrace = (2, ref) := by
  unfold Cal.tdcTrace Cal.measured
  simp [hr]

theorem execReftMeasurementDone_eq {start ref : Nat} (hr : s.cal.running = some (start, ref)) : ∃ u : State, u.od = s.od ∧
    execReftMeasurementDone n bins s = ((u.setCal (s.cal.measured ref n bins)).setRow oReft 0
      [s.fld oReft 0 0, ofI 32 (xinPpb n), ref, u.nowPt]).bump oCalCnt 0 4 := by
  refine ⟨s.advanceTo (start + reftNs), advanceTo_od .., ?_⟩
  unfold execReftMeasurementDone
  rw [hr, ← advanceTo_cal s (start + reftNs), ← advanceTo_fld s (start + reftNs)]
  rfl

theorem reftMeasurementDone_measures {start ref : Nat} (hr : s.cal.running = some (start, ref)) :
    ∃ t, exec (.reftMeasurementDone n bins) s = .next t ∧ t.cal.running = none ∧ t.cal.cycles = some n ∧
      (0 < n → t.cal.periodPs = 100000000000 / (n : Rat)) ∧
      t.cal.widths = bins.map (fun (b : Nat) => (b : Rat) * t.cal.periodPs / ((bins.sum : Nat) : Rat)) ∧
      (ref ≠ 0 → t.cal.tdcTrace = (2, ref)) ∧ t.fld oReft 0 0 = s.fld oReft 0 0 ∧ t.fld oReft 0 1 = ofI 32 (xinPpb n) ∧
      t.fld oReft 0 2 = ref ∧ t.cal.changed = true ∧ t.fld oCalCnt 0 4 = (s.fld oCalCnt 0 4 + 1) % 2 ^ 64 := by
  refine ans_next (u := execReftMeasurementDone n bins s) (fun _ _ h => h) ?_
  obtain ⟨u, ho, heq⟩ := execReftMeasurementDone_eq (n := n) (bins := bins) hr
  have hcal : (execReftMeasurementDone n bins s).cal = s.cal.measured ref n bins := heq ▸ rfl
  have hrow : (execReftMeasurementDone n bins s).row oReft 0 = [s.fld oReft 0 0, ofI 32 (xinPpb n), ref, u.nowPt] :=
    heq ▸ (bump_row _ _ _ _ _ (by decide)).trans (row_setRow_self ..)
  have hcount : (execReftMeasurementDone n bins s).fld oCalCnt 0 4 = (s.fld oCalCnt 0 4 + 1) % 2 ^ 64 := by
    rw [heq, bump_fld, if_pos ⟨rfl, rfl, rfl⟩, fld_setRow_of_ne _ _ _ _ _ (by decide), setCal_fld, State.fld_congr ho]
  generalize execReftMeasurementDone n bins s = t at hcal hrow hcount
  refine ⟨?_, ?_, ?_, ?_, ?_, congrArg (·.getD 0 0) hrow, congrArg (·.getD 1 0) hrow, congrArg (·.getD 2 0) hrow, ?_, hcount⟩
  all_goals rw [hcal]
  · rfl
  · rfl
  · exact measured_periodPs _ _ _
  · rfl
  · exact measured_tdcTrace _ _ _
  · rfl

/-! ## The store (R366 to R368, R662) -/

theorem calStoreSave_answered {o : Origin} {x : Row} (hp : Passes s o 0x263100 0 (fun d => numRow d v) x) :
    ∃ t, exec (.calStoreSave v o) s = .next t ∧ Answers t stOk 0 ∧ (v = 1 → t.cal.changed = true ∧ t.cal.writing = true) ∧
      (v = 0 → t.cal = s.cal) := by
  obtain rfl := passes_num hp rfl rfl rfl
  refine ans_next (u := s.request o 0x263100 0 (fun d => numRow d v)) (fun _ _ h => h) ?_
  have k := request_of hp hook_263100
  generalize s.request o 0x263100 0 (fun d => numRow d v) = t at k
  have hcal := k.cal
  refine ⟨k.ans, ?_, ?_⟩
  · rintro rfl
    rw [hcal]
    exact ⟨rfl, rfl⟩
  · rintro rfl
    exact hcal

/-- The CAL block once a write of the store is over at an instant: the next automatic write is an hour later (R367). -/
def Cal.written (x : Cal) (at_ : Nat) : Cal := { x with writing := false, writeAt := at_ + 3600000000000 }

/-- The record of the present calibration, as the store keeps it (R366). -/
def State.calSnapshot (s : State) : CalStore :=
  CalStore.sealed { crc := 0, format := s.calFormat, vals := s.calVals,
                    reft := s.cal.cycles.map (fun n => (n, s.cal.bins, s.cal.traced)) }

theorem sealed_valid (c : CalStore) : c.sealed.valid = true := beq_self_eq_true _

theorem execCalStoreWrite_saved (hf : s.full = true) (hw : s.cal.writing = true) (hh : s.holdCal = false) (hu : s.calUnreadable = false) :
    execCalStoreWrite true s =
      ({ s.setCal { s.cal.written s.now with changed := false } with flash := { s.flash with cal := s.calSnapshot } }.setRow oCalStore 0
        [s.calFormat, 0, s.nowPt]).bump oCalCnt 0 7 := by
  unfold execCalStoreWrite State.calStoreWritten
  simp only [hf, hw, hh, hu, Bool.not_true, Bool.and_false, Bool.false_and, Bool.false_eq_true, if_false, if_true]
  rfl

theorem execCalStoreWrite_failed (hf : s.full = true) (hw : s.cal.writing = true) (hh : s.holdCal = false) (hu : s.calUnreadable = false) :
    execCalStoreWrite false s = ((s.setCal (s.cal.written s.now)).bump oCalCnt 0 8).raise 111 := by
  unfold execCalStoreWrite State.calStoreWritten
  simp only [hf, hw, hh, hu, Bool.not_true, Bool.and_false, Bool.false_and, Bool.false_eq_true, if_false, if_true]
  rfl

theorem execCalStoreWrite_held (hf : s.full = true) (hw : s.cal.writing = true) (hh : s.holdCal = true) :
    execCalStoreWrite ok s = { s.setCal (s.cal.written s.now) with update := { s.update with heldCal := true } } := by
  unfold execCalStoreWrite State.calStoreWritten
  simp only [hf, hw, hh, Bool.not_true, Bool.and_false, Bool.false_eq_true, if_false, if_true]
  rfl

theorem execCalStoreWrite_foreign (hf : s.full = true) (hw : s.cal.writing = true) (hh : s.holdCal = false) (hu : s.calUnreadable = true) :
    execCalStoreWrite ok s = s.setCal (s.cal.written s.now) := by
  unfold execCalStoreWrite State.calStoreWritten
  simp only [hf, hw, hh, hu, Bool.not_true, Bool.not_false, Bool.and_true, Bool.and_false, Bool.false_eq_true, if_false, if_true]
  rfl

theorem calStoreWrite_saves (hf : s.full = true) (hw : s.cal.writing = true) (hh : s.holdCal = false) (hu : s.calUnreadable = false) :
    ∃ t, exec (.calStoreWrite true) s = .next t ∧ t.flash.cal.valid = true ∧
      t.flash.cal.format = s.calFormat ∧ t.flash.cal.vals = s.calVals ∧
      t.flash.cal.reft = s.cal.cycles.map (fun n => (n, s.cal.bins, s.cal.traced)) ∧ t.cal.changed = false ∧ t.cal.writing = false ∧
      t.row oCalStore 0 = [s.calFormat, 0, s.nowPt] ∧ t.fld oCalCnt 0 7 = (s.fld oCalCnt 0 7 + 1) % 2 ^ 64 := by
  refine ans_next (u := execCalStoreWrite true s) (fun _ _ h => h) ?_
  rw [execCalStoreWrite_saved hf hw hh hu]
  refine ⟨sealed_valid _, rfl, rfl, rfl, rfl, rfl, (bump_row _ _ _ _ _ (by decide)).trans (row_setRow_self ..), ?_⟩
  rw [bump_fld, if_pos ⟨rfl, rfl, rfl⟩, fld_setRow_of_ne _ _ _ _ _ (by decide)]
  exact congrArg (fun n => (n + 1) % 2 ^ 64) (State.fld_congr rfl)

theorem calStoreWrite_fails (hf : s.full = true) (hw : s.cal.writing = true) (hh : s.holdCal = false) (hu : s.calUnreadable = false) :
    ∃ t, exec (.calStoreWrite false) s = .next t ∧ t.flash = s.flash ∧ t.cal.writing = false ∧ t.cal.changed = s.cal.changed ∧
      t.cal.writeAt = s.now + 3600000000000 ∧ t.raised 111 = true ∧ t.fld oCalCnt 0 8 = (s.fld oCalCnt 0 8 + 1) % 2 ^ 64 := by
  refine ans_next (u := execCalStoreWrite false s) (fun _ _ h => h) ?_
  rw [execCalStoreWrite_failed hf hw hh hu]
  have hcal : (((s.setCal (s.cal.written s.now)).bump oCalCnt 0 8).raise 111).cal = s.cal.written s.now := raise_cal ..
  refine ⟨(State.raise_keeps ..).flash_eq (by decide), ?_, ?_, ?_, raised_raise_self _ _ (by decide), ?_⟩
  · rw [hcal]
    rfl
  · rw [hcal]
    rfl
  · rw [hcal]
    rfl
  · rw [raise_fld _ _ _ _ (by decide), bump_fld, if_pos ⟨rfl, rfl, rfl⟩, setCal_fld]

theorem calStoreWrite_holds (hf : s.full = true) (hw : s.cal.writing = true) (hh : s.holdCal = true) :
    ∃ t, exec (.calStoreWrite ok) s = .next t ∧ t.flash = s.flash ∧ t.update.heldCal = true ∧ t.cal.writing = false := by
  refine ans_next (u := execCalStoreWrite ok s) (fun _ _ h => h) ?_
  rw [execCalStoreWrite_held hf hw hh]
  exact ⟨rfl, rfl, rfl⟩

theorem calStoreWrite_leaves (hf : s.full = true) (hw : s.cal.writing = true) (hh : s.holdCal = false) (hu : s.calUnreadable = true) :
    ∃ t, exec (.calStoreWrite ok) s = .next t ∧ t.flash = s.flash ∧ t.cal.writing = false := by
  refine ans_next (u := execCalStoreWrite ok s) (fun _ _ h => h) ?_
  rw [execCalStoreWrite_foreign hf hw hh hu]
  exact ⟨rfl, rfl⟩

/-! ## The obligation -/

/-- Settles O49: REFT by whether a window changes its presence, a measurement by what its start and its end bring, and the store by what a
write finds. That the first measurement comes at once and the next 60 s after the start of the last is the choice of log entry 26, and that a
write leaves a store it cannot read is the choice of log entry 82. -/
theorem reftAndStore : Obligations.ReftAndStore :=
  ⟨fun _ _ ht => ⟨reftPresence_turns ht, reftPresence_stays ht⟩, fun _ hf hn => ⟨reftMeasurement_starts hf hn, reftMeasurement_absent⟩,
    fun _ _ _ _ _ => reftMeasurementDone_measures, fun _ _ _ _ => calStoreSave_answered,
    fun _ _ hf hw => ⟨by rintro hh hu rfl; exact calStoreWrite_saves hf hw hh hu, by rintro hh hu rfl; exact calStoreWrite_fails hf hw hh hu,
      calStoreWrite_holds hf hw, calStoreWrite_leaves hf hw⟩⟩

end Sys2Proof.Machine
end

section
/-! SUPPORT. A calibration pass (R353 to R360): what taking one pin's results leaves of its row and stages for it, and what it leaves of every
other pin. -/

namespace Sys2Proof.Machine

variable {s t u : State} {p q : Nat} {tr tf : Rat} {m : PinMeasure}

/-! ## Measurements (R353, R355) -/

/-- A direction is measured with the STRAND period and the bin widths of the last REFT measurement alone. -/
theorem edgeMeasure_congr {x y : Cal} (hc : y.cycles = x.cycles) (hb : y.bins = x.bins) (d0 d63 : TdcReading) (offset : Int) :
    edgeMeasure y d0 d63 offset = edgeMeasure x d0 d63 offset := by
  unfold edgeMeasure Cal.delay Cal.widths Cal.periodPs
  rw [hc, hb]

/-- With a positive tap size the edge tap is no free value. -/
theorem edgeTap_of_pos {e : EdgeMeasure} (he : 0 < e.tap) (target : Rat) (free : Nat) : edgeTap target e free = edgeTap target e 0 := by
  simp only [edgeTap, if_neg (not_le.mpr he)]

/-- The rising edge of a pin as a pass measures it. -/
def State.pinRise (s : State) (m : PinMeasure) : EdgeMeasure := edgeMeasure s.cal m.d0Rise m.d63Rise (toI 16 (s.fld oCalPin m.pin 2))

/-- The falling edge of a pin as a pass measures it. -/
def State.pinFall (s : State) (m : PinMeasure) : EdgeMeasure := edgeMeasure s.cal m.d0Fall m.d63Fall (toI 16 (s.fld oCalPin m.pin 3))

/-! ## One pin's results (R355 to R358) -/

/-- Every row of the pins, what is staged, and the count of passes are as they were. -/
structure PinRowsStand (s t : State) : Prop where
  cal : t.cal = s.cal
  settings : ∀ i, t.row oCalPin i = s.row oCalPin i
  status : ∀ i, t.row oCalStatus i = s.row oCalStatus i
  passes : t.fld oCalCnt 0 0 = s.fld oCalCnt 0 0

namespace PinRowsStand

theorem of_od (ho : t.od = s.od) (hc : t.cal = s.cal) : PinRowsStand s t :=
  ⟨hc, State.row_congr ho _, State.row_congr ho _, State.fld_congr ho⟩

theorem trans (a : PinRowsStand s t) (b : PinRowsStand t u) : PinRowsStand s u :=
  ⟨b.cal.trans a.cal, fun i => (b.settings i).trans (a.settings i), fun i => (b.status i).trans (a.status i), b.passes.trans a.passes⟩

theorem ite {c : Prop} [Decidable c] {a b : State} (ha : PinRowsStand s a) (hb : PinRowsStand s b) : PinRowsStand s (if c then a else b) := by
  split <;> assumption

theorem raise (s : State) (e : Nat) : PinRowsStand s (s.raise e) :=
  ⟨raise_cal s e, fun i => raise_row s e i (by decide), fun i => raise_row s e i (by decide), raise_fld s e 0 0 (by decide)⟩

theorem bump (s : State) {c : Nat} (hc : c ≠ 0) : PinRowsStand s (s.bump oCalCnt 0 c) :=
  ⟨rfl, fun i => bump_row s _ _ _ i (by decide), fun i => bump_row s _ _ _ i (by decide),
    (bump_fld ..).trans (if_neg fun h => hc h.2.2.symm)⟩

end PinRowsStand

/-- The row of OD 0x2611 that a pass leaves: the taps in force, tap sizes, residuals, LIMIT, and then the trace. -/
def passRow (old : Row) (r f : EdgeMeasure) (er ef : Nat × Bool × Int) (trace : Row) : Row :=
  taps4 old ++ ([toF32 r.tap, toF32 f.tap, satI 16 er.2.2, satI 16 ef.2.2, b2n (er.2.1 || ef.2.1)] ++ trace)

/-- Pin p has a new row, and `taps` staged when `on`; no other pin's row nor what is staged for it has changed, nor any measurement. -/
structure PinTaken (p : Nat) (row taps : Row) (on : Bool) (s t : State) : Prop where
  cycles : t.cal.cycles = s.cal.cycles
  bins : t.cal.bins = s.cal.bins
  settings : ∀ i, t.row oCalPin i = s.row oCalPin i
  status : ∀ i, t.row oCalStatus i = if i = p then row else s.row oCalStatus i
  staged : ∀ i, tfind t.cal.staged i = if i = p ∧ on = true then some taps else tfind s.cal.staged i
  passes : t.fld oCalCnt 0 0 = s.fld oCalCnt 0 0

theorem stageTaps_od (s : State) (p : Nat) (v : Row) : (s.stageTaps p v).od = s.od := rfl

theorem stageTaps_scale (s : State) (p : Nat) (v : Row) :
    (s.stageTaps p v).cal.cycles = s.cal.cycles ∧ (s.stageTaps p v).cal.bins = s.cal.bins := by
  unfold State.stageTaps
  extract_lets x y
  have hy : y.cycles = x.cycles ∧ y.bins = x.bins := by
    simp only [y]
    split
    · split <;> exact ⟨rfl, rfl⟩
    · exact ⟨rfl, rfl⟩
  exact hy

theorem stageTaps_staged (s : State) (p : Nat) (v : Row) (i : Nat) :
    tfind (s.stageTaps p v).cal.staged i = if i = p then some v else tfind s.cal.staged i := by
  show tfind (tins s.cal.staged p v) i = _
  split
  case isTrue h => rw [h, tfind_tins_self]
  case isFalse h => exact tfind_tins_of_ne _ _ h

/-- A pin's new row is in place, and its taps are staged where one of its directions is on AUTO. -/
theorem PinTaken.of_stand {row taps : Row} {on : Bool} (h : PinRowsStand (s.setRow oCalStatus p row) u) :
    PinTaken p row taps on s (if on = true then u.stageTaps p taps else u) := by
  have hsettings : ∀ i, u.row oCalPin i = s.row oCalPin i := fun i => (h.settings i).trans (row_setRow_of_ne _ _ (by simp [oCalPin, oCalStatus]))
  have hstatus : ∀ i, u.row oCalStatus i = if i = p then row else s.row oCalStatus i := fun i => by rw [h.status, row_setRow]; simp
  have hpasses : u.fld oCalCnt 0 0 = s.fld oCalCnt 0 0 := h.passes.trans (fld_setRow_of_ne _ _ _ _ _ (by decide))
  have hcal : u.cal = s.cal := h.cal
  cases on
  · exact ⟨by rw [← hcal]; rfl, by rw [← hcal]; rfl, hsettings, hstatus, fun i => by rw [← hcal]; simp, hpasses⟩
  · obtain ⟨hcycles, hbins⟩ := stageTaps_scale u p taps
    refine ⟨hcycles.trans (by rw [hcal]), hbins.trans (by rw [hcal]), fun i => (State.row_congr (stageTaps_od u p taps) _ i).trans (hsettings i),
      fun i => (State.row_congr (stageTaps_od u p taps) _ i).trans (hstatus i), fun i => ?_,
      (State.fld_congr (stageTaps_od u p taps)).trans hpasses⟩
    simp only [if_true, stageTaps_staged, hcal, and_true]

/-- A pin with its edges on AUTO has its edge taps staged. -/
def EdgesStaged (v taps : Row) (on : Bool) (a b : Nat) : Prop := pinAutoEdge v = true → on = true ∧ taps.getD 0 0 = a ∧ taps.getD 1 0 = b

theorem passPin_taken (s : State) (q : Nat) (tr tf : Rat) (m : PinMeasure) : ∃ (n k : Nat) (trace taps : Row) (on : Bool),
    EdgesStaged (s.row oCalPin m.pin) taps on (edgeTap tr (s.pinRise m) n).1 (edgeTap tf (s.pinFall m) k).1 ∧
    PinTaken m.pin (passRow (s.row oCalStatus m.pin) (s.pinRise m) (s.pinFall m) (edgeTap tr (s.pinRise m) n) (edgeTap tf (s.pinFall m) k) trace)
      taps on s (s.passPin q tr tf m) := by
  unfold State.passPin
  dsimp -zeta only
  extract_lets p v r f er ef limit old was trace auto row sa sb sc t t1 rx t2 sd
  have hb : PinRowsStand sa sb := .ite (.raise ..) (.of_od rfl rfl)
  have hc : PinRowsStand sa sc := .ite (hb.trans (.bump _ (by decide))) hb
  have hd : PinRowsStand sa sd := .ite (hc.trans (.bump _ (by decide))) hc
  have ha : PinRowsStand (s.setRow oCalStatus p row) sa := .of_od rfl rfl
  refine ⟨_, _, _, t2, auto || rx, fun hauto => ?_, .of_stand (ha.trans hd)⟩
  have h1 : t1 = rput (rput t 0 er.1) 1 ef.1 := if_pos hauto
  have h2 : ∀ c, c < 2 → t2.getD c 0 = t1.getD c 0 := fun c hc => by
    simp only [t2]
    split
    · rw [getD_rput, getD_rput, if_neg (by omega), if_neg (by omega)]
    · rfl
  refine ⟨by simp [auto, v, p, hauto], ?_, ?_⟩
  · rw [h2 0 (by decide), h1, getD_rput, getD_rput]
    rfl
  · rw [h2 1 (by decide), h1, getD_rput]
    rfl

/-! ## The other pins of the pass (R354) -/

/-- Every measurement stays, and of pin p its row and what is staged for it. -/
structure PinStands (p : Nat) (s t : State) : Prop where
  cycles : t.cal.cycles = s.cal.cycles
  bins : t.cal.bins = s.cal.bins
  settings : ∀ i, t.row oCalPin i = s.row oCalPin i
  status : t.row oCalStatus p = s.row oCalStatus p
  staged : tfind t.cal.staged p = tfind s.cal.staged p
  passes : t.fld oCalCnt 0 0 = s.fld oCalCnt 0 0

namespace PinStands

theorem refl (p : Nat) (s : State) : PinStands p s s := ⟨rfl, rfl, fun _ => rfl, rfl, rfl, rfl⟩

theorem trans (a : PinStands p s t) (b : PinStands p t u) : PinStands p s u :=
  ⟨b.cycles.trans a.cycles, b.bins.trans a.bins, fun i => (b.settings i).trans (a.settings i), b.status.trans a.status,
    b.staged.trans a.staged, b.passes.trans a.passes⟩

theorem of_pins (h : PinRowsStand s t) (p : Nat) : PinStands p s t :=
  ⟨by rw [h.cal], by rw [h.cal], h.settings, h.status p, by rw [h.cal], h.passes⟩

theorem passPin (s : State) (q : Nat) (tr tf : Rat) (hp : p ≠ m.pin) : PinStands p s (s.passPin q tr tf m) := by
  obtain ⟨n, k, trace, taps, on, -, h⟩ := passPin_taken s q tr tf m
  exact ⟨h.cycles, h.bins, h.settings, (h.status p).trans (if_neg hp), (h.staged p).trans (if_neg fun e => hp e.1), h.passes⟩

theorem passPins (q : Nat) (tr tf : Rat) {xs : List PinMeasure} (hp : p ∉ xs.map PinMeasure.pin) (s : State) :
    PinStands p s (xs.foldl (fun v m => v.passPin q tr tf m) s) := by
  refine List.foldlRecOn xs _ (refl p s) fun v hv m hm => hv.trans (passPin v q tr tf ?_)
  rintro rfl
  exact hp (List.mem_map_of_mem hm)

theorem pinRise (h : PinStands p s t) (m : PinMeasure) : t.pinRise m = s.pinRise m := by
  unfold State.pinRise State.fld
  rw [edgeMeasure_congr h.cycles h.bins, h.settings]

theorem pinFall (h : PinStands p s t) (m : PinMeasure) : t.pinFall m = s.pinFall m := by
  unfold State.pinFall State.fld
  rw [edgeMeasure_congr h.cycles h.bins, h.settings]

end PinStands

/-- A pass takes one measurement for each pin at most. -/
theorem passMeasures_nodup (s : State) (q : Nat) (ms : List PinMeasure) : ((s.passMeasures q ms).map PinMeasure.pin).Nodup := by
  have hsub : ∀ l : List Nat, ((l.filterMap fun p => ms.find? fun m => m.pin == p).map PinMeasure.pin).Sublist l := by
    intro l
    induction l with
    | nil => exact List.Sublist.refl _
    | cons p l ih =>
      cases hfind : ms.find? fun m => m.pin == p with
      | none => simpa only [List.filterMap_cons, hfind] using ih.cons p
      | some m =>
        have hpin : m.pin = p := by simpa using List.find?_some hfind
        simpa only [List.filterMap_cons, hfind, List.map_cons, hpin] using ih.cons_cons p
  exact (hsub _).nodup (strandsOf_nodup s q)

/-- What a pass leaves of pin p, whose measurement gave edges r and f with tap and residual er and ef. -/
structure PinPassed (m : PinMeasure) (er ef : Nat × Bool × Int) (s t : State) : Prop where
  status : ∃ trace, t.row oCalStatus m.pin = passRow (s.row oCalStatus m.pin) (s.pinRise m) (s.pinFall m) er ef trace
  staged : pinAutoEdge (s.row oCalPin m.pin) = true → ∃ v, tfind t.cal.staged m.pin = some v ∧ v.getD 0 0 = er.1 ∧ v.getD 1 0 = ef.1
  passes : t.fld oCalCnt 0 0 = s.fld oCalCnt 0 0

theorem passPin_passed (q : Nat) (tr tf : Rat) (hr : 0 < (s.pinRise m).tap) (hf : 0 < (s.pinFall m).tap) :
    PinPassed m (edgeTap tr (s.pinRise m) 0) (edgeTap tf (s.pinFall m) 0) s (s.passPin q tr tf m) := by
  obtain ⟨n, k, trace, taps, on, hauto, h⟩ := passPin_taken s q tr tf m
  rw [edgeTap_of_pos hr, edgeTap_of_pos hf] at hauto h
  refine ⟨⟨trace, (h.status _).trans (if_pos rfl)⟩, fun ha => ?_, h.passes⟩
  obtain ⟨hon, h0, h1⟩ := hauto ha
  exact ⟨taps, (h.staged _).trans (if_pos ⟨rfl, hon⟩), h0, h1⟩

/-- In a pass each pin is passed once, and no other pin's results touch it. -/
theorem passPins_passed (q : Nat) (tr tf : Rat) {xs : List PinMeasure} (hx : (xs.map PinMeasure.pin).Nodup) (hm : m ∈ xs)
    (hr : 0 < (s.pinRise m).tap) (hf : 0 < (s.pinFall m).tap) :
    PinPassed m (edgeTap tr (s.pinRise m) 0) (edgeTap tf (s.pinFall m) 0) s (xs.foldl (fun v m => v.passPin q tr tf m) s) := by
  obtain ⟨l, r, rfl⟩ := List.append_of_mem hm
  rw [List.map_append, List.map_cons] at hx
  obtain ⟨-, hmr, hdisj⟩ := List.nodup_append.mp hx
  have hl : m.pin ∉ l.map PinMeasure.pin := fun h => hdisj _ h _ List.mem_cons_self rfl
  rw [List.foldl_append, List.foldl_cons]
  have hbefore := PinStands.passPins q tr tf hl s
  generalize l.foldl (fun v m => v.passPin q tr tf m) s = u at hbefore
  have hafter := PinStands.passPins q tr tf (List.nodup_cons.mp hmr).1 (u.passPin q tr tf m)
  have hself := passPin_passed (s := u) (m := m) q tr tf (by rwa [hbefore.pinRise]) (by rwa [hbefore.pinFall])
  rw [hbefore.pinRise, hbefore.pinFall] at hself
  obtain ⟨⟨trace, hstatus⟩, hstaged, hpasses⟩ := hself
  refine ⟨⟨trace, hafter.status.trans ?_⟩, fun ha => ?_, hafter.passes.trans (hpasses.trans hbefore.passes)⟩
  · rw [hstatus, hbefore.pinRise, hbefore.pinFall, hbefore.status]
  · rw [hafter.staged]
    exact hstaged (by rwa [hbefore.settings])

/-! ## The pass (R353 to R355) -/

/-- The latest of the effective delays that `e` gives for the pins of a pass (R355). -/
def passTarget (xs : List PinMeasure) (e : PinMeasure → EdgeMeasure) : Rat := maxOf (xs.map fun m => (e m).e)

/-- A pass whose pins' results are taken is over. -/
def State.passOver (s : State) (q : Nat) : State := ((s.setQuire q { s.quire q with passAt := s.now }).bump oCalCnt 0 0).calChanged

theorem passOver_now (s : State) (q : Nat) : (s.passOver q).now = s.now := State.now_congr rfl

theorem passOver_quire (s : State) (q : Nat) : (s.passOver q).quire q = { s.quire q with passAt := s.now } := by
  have hquires : (s.passOver q).quires = (s.setQuire q { s.quire q with passAt := s.now }).quires := rfl
  exact (congrArg (tget Quire.init · q) hquires).trans (quire_setQuire_self ..)

theorem passOver_passAt (s : State) (q : Nat) : ((s.passOver q).quire q).passAt = s.now := by rw [passOver_quire]

theorem passOver_passes (s : State) (q : Nat) : (s.passOver q).fld oCalCnt 0 0 = (s.fld oCalCnt 0 0 + 1) % 2 ^ 64 := by
  refine (setCal_fld ..).trans ((bump_fld ..).trans ((if_pos ⟨rfl, rfl, rfl⟩).trans ?_))
  exact congrArg (fun n => (n + 1) % 2 ^ 64) (State.fld_congr rfl)

theorem passOver_status (s : State) (q p : Nat) : (s.passOver q).row oCalStatus p = s.row oCalStatus p := by
  refine Eq.trans (State.row_congr rfl _ _) ((bump_row _ _ _ _ _ (by decide)).trans (State.row_congr rfl _ _))

/-- The results of a pass of Quire q are taken, and it is over. -/
def State.passTaken (s : State) (q : Nat) (ms : List PinMeasure) : State :=
  ((s.passMeasures q ms).foldl (fun v m => v.passPin q (passTarget (s.passMeasures q ms) s.pinRise)
    (passTarget (s.passMeasures q ms) s.pinFall) m) s).passOver q

theorem execCalibrationPass_eq (hs : s.full = true) (hq : q < 16) (hl : legacy (s.qRate q) = false)
    (hst : s.quireState q = 2 ∨ s.quireState q = 3) (ms : List PinMeasure) :
    ∃ pt, execCalibrationPass q ms s = (s.advanceTo pt).passTaken q ms := by
  have hst' : (s.quireState q == 2 || s.quireState q == 3) = true := by simpa using hst
  unfold execCalibrationPass
  rw [if_neg (by simp [hs, hq, hl, hst'])]
  exact ⟨_, rfl⟩

theorem passMeasures_congr (ho : t.od = s.od) (hp : t.power = s.power) (q : Nat) (ms : List PinMeasure) :
    t.passMeasures q ms = s.passMeasures q ms := by
  unfold State.passMeasures
  rw [State.strandsOf_congr ho hp]

theorem calibrationPass_reports {ms xs : List PinMeasure} {r f : EdgeMeasure} (hs : s.full = true) (hq : q < 16)
    (hl : legacy (s.qRate q) = false) (hst : s.quireState q = 2 ∨ s.quireState q = 3) (hx : xs = s.passMeasures q ms) (hm : m ∈ xs)
    (htr : tr = passTarget xs s.pinRise) (htf : tf = passTarget xs s.pinFall) (hr : r = s.pinRise m) (hf : f = s.pinFall m)
    (hr0 : 0 < r.tap) (hf0 : 0 < f.tap) :
    ∃ t, exec (.calibrationPass q ms) s = .next t ∧ t.fld oCalStatus m.pin 4 = toF32 r.tap ∧ t.fld oCalStatus m.pin 5 = toF32 f.tap ∧
      t.fld oCalStatus m.pin 6 = satI 16 (edgeTap tr r 0).2.2 ∧ t.fld oCalStatus m.pin 7 = satI 16 (edgeTap tf f 0).2.2 ∧
      t.fld oCalStatus m.pin 8 = b2n ((edgeTap tr r 0).2.1 || (edgeTap tf f 0).2.1) ∧
      (∀ j, j < 4 → t.fld oCalStatus m.pin j = s.fld oCalStatus m.pin j) ∧
      (pinAutoEdge (s.row oCalPin m.pin) = true → ∃ v, tfind t.cal.staged m.pin = some v ∧ v.getD 0 0 = (edgeTap tr r 0).1 ∧
        v.getD 1 0 = (edgeTap tf f 0).1) ∧
      t.fld oCalCnt 0 0 = (s.fld oCalCnt 0 0 + 1) % 2 ^ 64 ∧ (t.quire q).passAt = t.now := by
  subst hx hr hf
  refine ans_next (u := execCalibrationPass q ms s) (fun _ _ h => h) ?_
  obtain ⟨pt, heq⟩ := execCalibrationPass_eq hs hq hl hst ms
  have hu : PinStands m.pin s (s.advanceTo pt) := .of_pins (.of_od (advanceTo_od ..) (advanceTo_cal ..)) _
  have hx := passMeasures_congr (advanceTo_od s pt) (advanceTo_power s pt) q ms
  rw [heq]
  generalize s.advanceTo pt = u at hu hx
  have hpass := passPins_passed (s := u) q tr tf (passMeasures_nodup s q ms) hm (by rwa [hu.pinRise]) (by rwa [hu.pinFall])
  rw [hu.pinRise, hu.pinFall] at hpass
  unfold State.passTaken
  rw [hx, funext hu.pinRise, funext hu.pinFall, ← htr, ← htf]
  generalize (s.passMeasures q ms).foldl (fun v m => v.passPin q tr tf m) u = w at hpass
  obtain ⟨⟨trace, hstatus⟩, hstaged, hpasses⟩ := hpass
  have hcol : ∀ c, (w.passOver q).fld oCalStatus m.pin c = (passRow (s.row oCalStatus m.pin) (s.pinRise m) (s.pinFall m)
      (edgeTap tr (s.pinRise m) 0) (edgeTap tf (s.pinFall m) 0) trace).getD c 0 := fun c => by
    rw [State.fld, passOver_status, hstatus, hu.status, hu.pinRise, hu.pinFall]
  refine ⟨hcol 4, hcol 5, hcol 6, hcol 7, hcol 8, fun j hj => (hcol j).trans ?_, fun ha => hstaged (by rwa [hu.settings]), ?_, ?_⟩
  · interval_cases j <;> rfl
  · rw [passOver_passes, hpasses, hu.passes]
  · rw [passOver_passAt, passOver_now]

end Sys2Proof.Machine
end

section
/-! SUPPORT. Staged taps come into force in an idle gap (R359, R360). -/

namespace Sys2Proof.Machine

variable {s t u : State} {p q c i : Nat} {v : Row}

/-! ## One pin's taps come into force -/

/-- What was staged for a pin before STRAND cycle c is in force. -/
def State.pinApplied (s : State) (c p : Nat) : State :=
  match s.tapsBefore p c with
  | none => s
  | some v => { s.setRow oCalStatus p (taps4 v ++ (s.row oCalStatus p).drop 4) with cal := s.cal.applied p c }

theorem applyTaps_of_staged (h : p ∈ s.stagedPins q c) : ∃ x, s.applyTaps q c =
    (((s.stagedPins q c).foldl (fun u i => u.pinApplied c i) s).bump oCalCnt 0 2).setQuire q x := by
  have hne : (s.stagedPins q c).isEmpty = false := List.isEmpty_eq_false_iff_exists_mem.mpr ⟨p, h⟩
  unfold State.applyTaps
  extract_lets todo one s1
  have hone : one = fun u i => u.pinApplied c i := rfl
  have htodo : todo.isEmpty = false := hne
  rw [if_neg (by simp [htodo]), ← hone]
  exact ⟨_, rfl⟩

/-- The taps of pin p in force, those staged for it, and the instant of their staging are as they were. -/
structure TapsStand (p : Nat) (s t : State) : Prop where
  status : t.row oCalStatus p = s.row oCalStatus p
  staged : tfind t.cal.staged p = tfind s.cal.staged p
  at_ : tget 0 t.cal.stagedAt p = tget 0 s.cal.stagedAt p

namespace TapsStand

theorem refl (p : Nat) (s : State) : TapsStand p s s := ⟨rfl, rfl, rfl⟩

theorem trans (a : TapsStand p s t) (b : TapsStand p t u) : TapsStand p s u :=
  ⟨b.status.trans a.status, b.staged.trans a.staged, b.at_.trans a.at_⟩

theorem pinApplied (s : State) (c : Nat) (hi : p ≠ i) : TapsStand p s (s.pinApplied c i) := by
  unfold State.pinApplied
  split
  · exact refl p s
  next v _ =>
    have hrow : (s.setRow oCalStatus i (taps4 v ++ (s.row oCalStatus i).drop 4)).row oCalStatus p = s.row oCalStatus p :=
      row_setRow_of_ne _ _ fun h => hi h.2
    have hcal : tfind (s.cal.applied i c).staged p = tfind s.cal.staged p ∧
        tget 0 (s.cal.applied i c).stagedAt p = tget 0 s.cal.stagedAt p := by
      unfold Cal.applied
      extract_lets y
      split
      · exact ⟨tfind_tdel_of_ne _ hi, congrArg (·.getD 0) (tfind_tdel_of_ne _ hi)⟩
      · exact ⟨rfl, rfl⟩
    exact ⟨(State.row_congr rfl _ _).trans hrow, hcal.1, hcal.2⟩

theorem pinsApplied (c : Nat) {l : List Nat} (hp : p ∉ l) (s : State) : TapsStand p s (l.foldl (fun u i => u.pinApplied c i) s) :=
  List.foldlRecOn l _ (refl p s) fun u hu _ hi => hu.trans (pinApplied u c (ne_of_mem_of_not_mem hi hp).symm)

end TapsStand

/-- The taps of pin p are those staged, and none are staged any more. -/
structure TapsApplied (p : Nat) (v : Row) (s t : State) : Prop where
  status : t.row oCalStatus p = taps4 v ++ (s.row oCalStatus p).drop 4
  staged : tfind t.cal.staged p = none

theorem pinApplied_applied (hv : tfind s.cal.staged p = some v) (hc : strandCycle (tget 0 s.cal.stagedAt p) < c) :
    TapsApplied p v s (s.pinApplied c p) := by
  have hbefore : s.tapsBefore p c = some v := by
    unfold State.tapsBefore
    rw [hv]
    exact if_pos hc
  unfold State.pinApplied
  rw [hbefore]
  refine ⟨(State.row_congr rfl _ _).trans (row_setRow_self ..), ?_⟩
  show tfind (s.cal.applied p c).staged p = none
  unfold Cal.applied
  rw [if_pos hc]
  exact tfind_tdel_self ..

theorem pinApplied_count (s : State) (c i : Nat) : (s.pinApplied c i).fld oCalCnt 0 2 = s.fld oCalCnt 0 2 := by
  unfold State.pinApplied
  split
  · rfl
  · exact (State.fld_congr rfl).trans (fld_setRow_of_ne _ _ _ _ _ (by decide))

/-! ## A Quire's staged taps (R360) -/

theorem stagedPins_nodup (s : State) (q c : Nat) : (s.stagedPins q c).Nodup :=
  (List.nodup_range.map fun a b h => by simpa using h).filter _

theorem mem_quirePins : p ∈ (List.range 16).map (fun i => 16 * q + i) ↔ p / 16 = q := by
  simp only [List.mem_map, List.mem_range]
  constructor
  · rintro ⟨i, hi, rfl⟩
    omega
  · exact fun h => ⟨p % 16, by omega, by omega⟩

theorem pinsApplied_applied {l : List Nat} (hl : l.Nodup) (hp : p ∈ l) (hv : tfind s.cal.staged p = some v)
    (hc : strandCycle (tget 0 s.cal.stagedAt p) < c) : TapsApplied p v s (l.foldl (fun u i => u.pinApplied c i) s) := by
  obtain ⟨a, b, rfl⟩ := List.append_of_mem hp
  obtain ⟨-, hb, hdisj⟩ := List.nodup_append.mp hl
  rw [List.foldl_append, List.foldl_cons]
  have hbefore := TapsStand.pinsApplied c (fun h => hdisj _ h _ List.mem_cons_self rfl : p ∉ a) s
  generalize a.foldl (fun u i => u.pinApplied c i) s = u at hbefore
  have hself := pinApplied_applied (s := u) (hbefore.staged.trans hv) (by rwa [hbefore.at_])
  have hafter := TapsStand.pinsApplied c (List.nodup_cons.mp hb).1 (u.pinApplied c p)
  exact ⟨by rw [hafter.status, hself.status, hbefore.status], hafter.staged.trans hself.staged⟩

/-- The taps staged for a pin before STRAND cycle c come into force, and the application is counted. -/
theorem applyTaps_applied (hp : p / 16 = q) (hv : tfind s.cal.staged p = some v) (hc : strandCycle (tget 0 s.cal.stagedAt p) < c) :
    TapsApplied p v s (s.applyTaps q c) ∧ (s.applyTaps q c).fld oCalCnt 0 2 = (s.fld oCalCnt 0 2 + 1) % 2 ^ 64 := by
  have hmem : p ∈ s.stagedPins q c := by
    refine List.mem_filter.mpr ⟨mem_quirePins.mpr hp, ?_⟩
    unfold State.tapsBefore
    simp [hv, hc]
  obtain ⟨x, heq⟩ := applyTaps_of_staged hmem
  have happlied := pinsApplied_applied (stagedPins_nodup s q c) hmem hv hc
  have hcount : ((s.stagedPins q c).foldl (fun u i => u.pinApplied c i) s).fld oCalCnt 0 2 = s.fld oCalCnt 0 2 :=
    List.foldlRecOn (motive := fun u => u.fld oCalCnt 0 2 = s.fld oCalCnt 0 2) _ _ rfl fun u hu i _ => (pinApplied_count u c i).trans hu
  rw [heq]
  generalize (s.stagedPins q c).foldl (fun u i => u.pinApplied c i) s = w at happlied hcount
  refine ⟨⟨?_, happlied.staged⟩, ?_⟩
  · exact (State.row_congr rfl _ _).trans ((bump_row _ _ _ _ _ (by decide)).trans happlied.status)
  · exact (State.fld_congr rfl).trans ((bump_fld ..).trans ((if_pos ⟨rfl, rfl, rfl⟩).trans (by rw [hcount])))

theorem TapsApplied.taps (h : TapsApplied p v s t) {j : Nat} (hj : j < 4) : t.fld oCalStatus p j = v.getD j 0 := by
  rw [State.fld, h.status]
  interval_cases j <;> rfl

theorem TapsApplied.rest (h : TapsApplied p v s t) {j : Nat} (hj : 4 ≤ j) : t.fld oCalStatus p j = s.fld oCalStatus p j := by
  have hlen : (taps4 v).length = 4 := rfl
  rw [State.fld, h.status, List.getD_append_right _ _ _ _ (by omega), hlen, List.getD_eq_getElem?_getD, List.getElem?_drop,
    Nat.add_sub_cancel' hj, ← List.getD_eq_getElem?_getD]
  rfl

/-! ## The idle gap (R359) -/

theorem tapFrom_busy (h : (s.quire q).inFrame = true ∨ (s.quire q).window ≠ none) : s.tapFrom q = none := by
  refine if_pos ?_
  rcases h with h | h
  · simp [h]
  · simp [Option.isSome_iff_ne_none.mpr h]

theorem tapApply_waits (h : (s.quire q).inFrame = true ∨ (s.quire q).window ≠ none) : exec (.tapApply q) s = .next s := by
  have hnone : execTapApply q s = s := by
    unfold execTapApply
    rw [tapFrom_busy h]
  show ans s (execTapApply q s) = .next s
  rw [hnone]
  rfl

/-- No frame is to come: what is staged need not wait for a later gap. -/
theorem nextFrame_none (hr : (s.quire q).requests = []) (hk : (s.quire q).nextK = none) : s.nextFrame q = none := by
  unfold State.nextFrame
  simp only [hk, hr]
  rfl

theorem execTapApply_idle (hf : s.full = true) (hq : q < 16) (hp : p / 16 = q) (hi : (s.quire q).inFrame = false)
    (hw : (s.quire q).window = none) (hr : (s.quire q).requests = []) (hk : (s.quire q).nextK = none)
    (hv : tfind s.cal.staged p = some v) :
    ∃ e, execTapApply q s = (s.advanceElapsed e).applyTaps q (strandCycle (s.advanceElapsed e).clk.elapsed) := by
  have hfrom : s.tapFrom q = some (s.idleSince q + s.cellsNs q 64) := if_neg (by simp [hi, hw, hr])
  have hpins : (((List.range 16).map fun i => 16 * q + i).filter fun i => (tfind s.cal.staged i).isSome).isEmpty = false :=
    List.isEmpty_eq_false_iff_exists_mem.mpr ⟨p, List.mem_filter.mpr ⟨mem_quirePins.mpr hp, by simp [hv]⟩⟩
  unfold execTapApply
  rw [hfrom, nextFrame_none hr hk]
  dsimp -zeta only
  extract_lets ps _ _ at_ room
  rw [if_neg]
  · exact ⟨at_, rfl⟩
  · have hps : ps.isEmpty = false := hpins
    have hroom : room = true := rfl
    simp [hf, hq, hps, hroom]

theorem tapApply_applies (hf : s.full = true) (hq : q < 16) (hp : p / 16 = q) (hi : (s.quire q).inFrame = false)
    (hw : (s.quire q).window = none) (hr : (s.quire q).requests = []) (hk : (s.quire q).nextK = none)
    (hv : tfind s.cal.staged p = some v) (he : tget 0 s.cal.stagedAt p + 3 ≤ s.clk.elapsed) :
    ∃ t, exec (.tapApply q) s = .next t ∧ (∀ j, j < 4 → t.fld oCalStatus p j = v.getD j 0) ∧
      (∀ j, 4 ≤ j → t.fld oCalStatus p j = s.fld oCalStatus p j) ∧ tfind t.cal.staged p = none ∧
      t.fld oCalCnt 0 2 = (s.fld oCalCnt 0 2 + 1) % 2 ^ 64 := by
  refine ans_next (u := execTapApply q s) (fun _ _ h => h) ?_
  obtain ⟨e, heq⟩ := execTapApply_idle hf hq hp hi hw hr hk hv
  rw [heq]
  have hod := advanceElapsed_od s e
  have hcal : (s.advanceElapsed e).cal = s.cal := (State.advanceElapsed_keeps s e).cal_eq (by decide)
  have hcycle : strandCycle (tget 0 s.cal.stagedAt p) < strandCycle (s.advanceElapsed e).clk.elapsed := by
    have := advanceElapsed_elapsed s e
    unfold strandCycle
    omega
  generalize s.advanceElapsed e = u at hod hcal hcycle
  obtain ⟨happlied, hcount⟩ := applyTaps_applied (s := u) (c := strandCycle u.clk.elapsed) hp (by rwa [hcal]) (by rwa [hcal])
  exact ⟨fun j hj => happlied.taps hj, fun j hj => (happlied.rest hj).trans (State.fld_congr hod), happlied.staged,
    hcount.trans (by rw [State.fld_congr hod])⟩

/-! ## The obligation -/

/-- Settles O50: a pass by what one pin's results leave of its row and stage for it, which no other pin's results touch, and an application of
taps by the gap that it finds. -/
theorem calibrationCommands : Obligations.CalibrationCommands :=
  ⟨fun _ _ _ _ _ _ _ _ _ => calibrationPass_reports, fun _ _ => tapApply_waits, fun _ _ _ _ => tapApply_applies⟩

end Sys2Proof.Machine
end

section
/-! SUPPORT. Reference sessions (R361 to R363): how one starts and holds its sensor's regions, and how one is over. -/

namespace Sys2Proof.Machine

variable {s t u : State} {h k r v : Nat} {x : Row} {y : RefSession}

/-- The objects of regions and of sensor gains. -/
abbrev sensorObjs : Nat := 0x40010000000000000000000000000000000000000000000000000000000000000000000000000000000000000000000000000000000000000000000000000000000000000000000000000000000000000

/-- A write command that settles leaves the results of the tasks that its chapter completed. -/
theorem Settled.results {w : WRes} (c : Settled w t) : ResultsStand w.st t := .of_keeps c.keeps (by decide)

/-! ## A session starts (R361, R362) -/

theorem setRegionState_sets (s : State) (r st reason : Nat) :
    (s.setRegionState r st reason).fld oRegionStatus r 0 = st ∧ (s.setRegionState r st reason).fld oRegionStatus r 1 = reason := by
  unfold State.setRegionState
  split
  · assumption
  · rw [raise_fld _ _ _ _ (by decide), raise_fld _ _ _ _ (by decide), fld_setRow, fld_setRow, if_pos ⟨rfl, rfl⟩, if_pos ⟨rfl, rfl⟩, getD_rput,
      getD_rput, getD_rput]
    exact ⟨rfl, rfl⟩

theorem setRegionState_fld_of_ne (s : State) {r i : Nat} (st reason c : Nat) (hi : i ≠ r) :
    (s.setRegionState r st reason).fld oRegionStatus i c = s.fld oRegionStatus i c := by
  unfold State.setRegionState
  split
  · rfl
  · rw [raise_fld _ _ _ _ (by decide), fld_setRow, if_neg fun e => hi e.2]

theorem regionFault_fld (s : State) (r reason i c : Nat) : (s.regionFault r reason).fld oRegionStatus i c = s.fld oRegionStatus i c :=
  (State.regionFault_keeps ..).fld_eq (by decide) i c

/-- Region r is in HOLD with reason 6: a reference session has its sensor (R331). -/
def HeldBySession (r : Nat) (s : State) : Prop := s.fld oRegionStatus r 0 = 3 ∧ s.fld oRegionStatus r 1 = 6

theorem sessionHolds6_held (hr : r < 256) (hon : rgOn (s.row oRegion r) = true) (hs : s.sessionHolds r = true) :
    HeldBySession r s.sessionHolds6 := by
  have hmem : r ∈ (List.range 256).filter fun i => rgOn (s.row oRegion i) && s.sessionHolds i :=
    List.mem_filter.mpr ⟨List.mem_range.mpr hr, by simp [hon, hs]⟩
  refine foldl_sets (P := HeldBySession r) (f := fun u i => (u.regionFault i 6).setRegionState i 3 6) hmem
    (fun u => setRegionState_sets ..) (fun u i hu => ?_) s
  by_cases hi : r = i
  · exact hi ▸ setRegionState_sets ..
  · unfold HeldBySession at hu ⊢
    rwa [setRegionState_fld_of_ne _ _ _ _ hi, setRegionState_fld_of_ne _ _ _ _ hi, regionFault_fld, regionFault_fld]

/-- What a new handle's slot leaves of the regions and of the clock (R407). -/
abbrev slotParts : Nat := 0x10000000000000000000000000000000000000000000000000000000000000000000000000000000000000000000000000000000000000000000000000000000000000000000000000000000000002

/-- An operation that no task carries takes a new handle, and starts from a state in which only tasks have changed (R407). -/
theorem accept_starts {w : Who} (hw : w.task = 0) (hn : NewHandle s h) (start : Nat → State → State) : ∃ u, Keeps slotParts s u ∧
    accept s w start = { status := stAccepted, handle := h, st := start h u } := by
  obtain ⟨slot, v, hslot, -, rfl⟩ := hn
  have halloc : ∀ z, ∃ u, s.allocTask z = some (nextGen ((s.task slot).handle / 1024) * 1024 + slot, u) := fun z => by
    unfold State.allocTask
    rw [hslot]
    exact ⟨_, rfl⟩
  unfold accept
  rw [if_neg (not_not.mpr hw)]
  obtain ⟨u, hu⟩ := halloc _
  rw [hu]
  exact ⟨u, (State.allocTask_keeps s _ hu).weaken (by decide), rfl⟩

/-- A reference session as it begins. -/
def RefSession.begun (x : Row) (h at_ : Nat) : RefSession :=
  { row := x, handle := h, startAt := at_, sum := 0, count := 0, fault := false, reading := none, ended := false }

/-- A session on row x has started as handle h, at the instant of s. -/
structure SessionStarted (x : Row) (h : Nat) (s t : State) : Prop where
  session : t.cal.session = some (.begun x h s.now)
  held : ∀ r, r < 256 → rgOn (s.row oRegion r) = true → rgPhoto (s.row oRegion r) = false → rsPhoto x = false → x.getD 1 0 = 0 →
    s.fld oRegion r 3 = rsIndex x → HeldBySession r t

/-- A session of a Gauge channel holds each region that reads the channel (R362). -/
theorem sessionHolds_gauge (hs : s.cal.session = some y) (h1 : y.row.getD 1 0 = 0) (hp : rgPhoto (s.row oRegion r) = false)
    (hi : s.fld oRegion r 3 = rsIndex y.row) : s.sessionHolds r = true := by
  have hi' : (s.row oRegion r).getD 3 0 = y.row.getD 2 0 := hi
  unfold State.sessionHolds
  simp only [hs, h1, hp, hi']
  simp

theorem writeRefSession_starts {w : Who} (hw : w.task = 0) (hr : sessionInRange x = true) (hy : s.sessionReady x = true)
    (hs : s.cal.session = none) (hn : NewHandle s h) : ∃ u, writeRefSession w x s = { status := stAccepted, handle := h, st := u } ∧
    SessionStarted x h s u := by
  unfold writeRefSession
  rw [hr, hy, hs]
  simp only [Bool.not_true, Bool.false_eq_true, if_false, Option.isSome_none]
  obtain ⟨u, hu, heq⟩ := accept_starts hw hn _
  refine ⟨_, heq, ?_, fun r hr hon hp _ h1 hi => sessionHolds6_held hr ?_ (sessionHolds_gauge rfl h1 ?_ ?_)⟩
  · rw [(State.sessionHolds6_keeps _).cal_eq (by decide), setCal_cal, State.now_congr (hu.clk_eq (by decide))]
    rfl
  all_goals
    have hrow : ∀ z, (u.setCal z).row oRegion r = s.row oRegion r := fun z => (State.row_congr rfl _ _).trans (hu.objs oRegion r (by decide))
  · rwa [hrow]
  · rwa [hrow]
  · rwa [State.fld, hrow]

theorem writeRefSession_range {w : Who} (hr : sessionInRange x = false) : writeRefSession w x s = refuse s stRange := by
  unfold writeRefSession
  rw [hr]
  rfl

theorem writeRefSession_state {w : Who} (hr : sessionInRange x = true) (hy : s.sessionReady x = false) :
    writeRefSession w x s = refuse s stState := by
  unfold writeRefSession
  rw [hr, hy]
  rfl

theorem writeRefSession_busy {w : Who} (hr : sessionInRange x = true) (hy : s.sessionReady x = true) (hs : s.cal.session ≠ none) :
    writeRefSession w x s = refuse s stBusy := by
  unfold writeRefSession
  rw [hr, hy]
  exact if_pos (Option.isSome_iff_ne_none.mpr hs)

theorem refSession_answered {bs : List Byte} {o : Origin} (hp : Passes s o 0x262000 0 (fun d => rowOf d bs) x) :
    ∃ t, exec (.refSession bs o) s = .next t ∧
      (sessionInRange x = false → Answers t stRange 0 ∧ t.cal = s.cal) ∧
      (sessionInRange x = true → s.sessionReady x = false → Answers t stState 0 ∧ t.cal = s.cal) ∧
      (sessionInRange x = true → s.sessionReady x = true → s.cal.session ≠ none → Answers t stBusy 0 ∧ t.cal = s.cal) ∧
      (sessionInRange x = true → s.sessionReady x = true → s.cal.session = none → NewHandle s h → Answers t stAccepted h ∧
        t.cal.session = some { row := x, handle := h, startAt := s.now, sum := 0, count := 0, fault := false, reading := none,
                               ended := false } ∧
        ∀ r, r < 256 → rgOn (s.row oRegion r) = true → rgPhoto (s.row oRegion r) = false → rsPhoto x = false → x.getD 1 0 = 0 →
          s.fld oRegion r 3 = rsIndex x → t.fld oRegionStatus r 0 = 3 ∧ t.fld oRegionStatus r 1 = 6) := by
  refine ans_next (u := s.request o 0x262000 0 (fun d => rowOf d bs)) (fun _ _ h => h) ?_
  have c := request_of hp hook_262000
  generalize s.request o 0x262000 0 (fun d => rowOf d bs) = t at c
  have hans := c.ans
  have hcal := c.cal
  have hfld := fun r => c.keeps.fld_eq (o := oRegionStatus) (by decide) r
  clear c
  refine ⟨fun hr => ?_, fun hr hy => ?_, fun hr hy hs => ?_, fun hr hy hs hn => ?_⟩
  · rw [writeRefSession_range hr] at hans hcal
    exact ⟨hans, hcal⟩
  · rw [writeRefSession_state hr hy] at hans hcal
    exact ⟨hans, hcal⟩
  · rw [writeRefSession_busy hr hy hs] at hans hcal
    exact ⟨hans, hcal⟩
  · obtain ⟨u, heq, hstart⟩ := writeRefSession_starts (w := Who.of o) rfl hr hy hs hn
    rw [heq] at hans hcal hfld
    refine ⟨hans, (congrArg Cal.session hcal).trans hstart.session, fun r h256 hon hph hx h1 hi => ?_⟩
    obtain ⟨h3, h6⟩ := hstart.held r h256 hon hph hx h1 hi
    exact ⟨(hfld r 0).trans h3, (hfld r 1).trans h6⟩

/-! ## A session is over (R363) -/

/-- A session with handle h is over with a status: no session is left, its task has completed, and event 110 is raised. -/
structure SessionOver (h status : Nat) (s t : State) : Prop where
  cal : t.cal = { s.cal with session := none }
  task : Completed t h status
  raised : t.raised 110 = true
  count : t.fld oCalCnt 0 (if status = stOk then 5 else 6) = (s.fld oCalCnt 0 (if status = stOk then 5 else 6) + 1) % 2 ^ 64
  rows : Keeps sensorObjs s t

theorem sessionDone_over (hl : s.handleLive y.handle = true) (status : Nat) : SessionOver y.handle status s (s.sessionDone y status) := by
  have hrows : Keeps sensorObjs s (s.sessionDone y status) := (State.sessionDone_keeps ..).weaken (by decide)
  revert hrows
  unfold State.sessionDone
  extract_lets c s1
  intro hrows
  have hc := State.completeTask_keeps (s1.raise 110) y.handle status
  have hcal : (s1.raise 110).cal = { s.cal with session := none } := raise_cal ..
  have hlive : (s1.raise 110).handleLive y.handle = true := 
    (State.handleLive_congr (congrArg Weir.slots ((State.raise_keeps s1 110).weir_eq (by decide))) _).trans hl
  refine ⟨(hc.cal_eq (by decide)).trans hcal, completeTask_completes hlive status,
    (EventsStand.finishAll ..).stands 110 (raised_raise_self _ _ (by decide)), ?_, hrows⟩
  rw [hc.fld_eq (by decide), raise_fld _ _ _ _ (by decide), bump_fld, if_pos ⟨rfl, rfl, rfl⟩, setCal_fld]

theorem SessionOver.session {st : Nat} (o : SessionOver h st s t) : t.cal.session = none := congrArg Cal.session o.cal

/-- A session that is over for the chapter is over when its write has settled. -/
theorem SessionOver.settled {st : Nat} {w : WRes} (o : SessionOver h st s w.st) (c : Settled w t) : SessionOver h st s t where
  cal := c.cal.trans o.cal
  task := c.results.stands h st o.task
  raised := c.evs 110 o.raised
  count := (c.keeps.fld_eq (by decide) _ _).trans o.count
  rows := .step c.keeps (by decide) o.rows

theorem refCancel_answered {o : Origin} (hp : Passes s o 0x262200 0 (fun d => numRow d v) x) :
    ∃ t, exec (.refCancel v o) s = .next t ∧ Answers t stOk 0 ∧ (v = 0 → t.cal = s.cal) ∧
      ∀ y, v = 1 → s.cal.session = some y → s.handleLive y.handle = true → t.cal.session = none ∧ Completed t y.handle stCancelled ∧
        t.raised 110 = true ∧ t.fld oCalCnt 0 6 = (s.fld oCalCnt 0 6 + 1) % 2 ^ 64 := by
  obtain rfl := passes_num hp rfl rfl rfl
  refine ans_next (u := s.request o 0x262200 0 (fun d => numRow d v)) (fun _ _ h => h) ?_
  have c := request_of hp hook_262200
  generalize s.request o 0x262200 0 (fun d => numRow d v) = t at c
  rw [show v1 [v] = v from rfl] at c
  unfold writeRefCancel at c
  cases hs : s.cal.session with
  | none =>
    rw [hs] at c
    exact ⟨c.ans, fun _ => c.cal, fun _ _ h => nomatch h⟩
  | some y =>
    rw [hs] at c
    refine ⟨c.ans, ?_, ?_⟩
    · rintro rfl
      exact c.cal
    · rintro _ rfl hy hl
      obtain rfl := Option.some.inj hy
      have hover := (sessionDone_over (s := s) hl stCancelled).settled c
      exact ⟨hover.session, hover.task, hover.raised, hover.count⟩

/-! ## The reading of a METER session (R362) -/

theorem refReading_answered {o : Origin} (hp : Passes s o 0x262100 0 (fun d => numRow d v) x) :
    ∃ t, exec (.refReading v o) s = .next t ∧
      (s.cal.session = none → Answers t stState 0) ∧
      (∀ y, s.cal.session = some y → rsMeter y.row = false → Answers t stState 0 ∧ t.cal = s.cal) ∧
      (∀ y, s.cal.session = some y → rsMeter y.row = true → y.ended = false → Answers t stOk 0 ∧
        t.cal.session = some { y with reading := some v }) := by
  obtain rfl := passes_num hp rfl rfl rfl
  refine ans_next (u := s.request o 0x262100 0 (fun d => numRow d v)) (fun _ _ h => h) ?_
  have c := request_of hp hook_262100
  generalize s.request o 0x262100 0 (fun d => numRow d v) = t at c
  rw [show v1 [v] = v from rfl] at c
  unfold writeRefReading at c
  refine ⟨fun hs => ?_, fun y hs hm => ?_, fun y hs hm he => ?_⟩
  · rw [hs] at c
    exact c.ans
  · simp only [hs, hm, Bool.not_false, if_true] at c
    exact ⟨c.ans, c.cal⟩
  · simp only [hs, hm, Bool.not_true, Bool.false_eq_true, if_false, if_neg (ne_true_of_eq_false he)] at c
    exact ⟨c.ans, congrArg Cal.session c.cal⟩

end Sys2Proof.Machine
end

section
/-! SUPPORT. The gain of a sensor, and the outcome of a reference session (R362 to R365). -/

namespace Sys2Proof.Machine

variable {s t u : State} {k r v : Nat} {x row : Row} {y : RefSession} {ref : Rat}

/-! ## A gain is stored (R363, R365) -/

theorem mem_regionsOfSensor (hr : r < 256) (hk : sensorRow r (s.row oRegion r) = k) : r ∈ s.regionsOfSensor k :=
  List.mem_filter.mpr ⟨List.mem_range.mpr hr, beq_iff_eq.mpr hk⟩

/-- A region whose targets and corrections are UNTRACED rests on no REF_ID (R364). -/
theorem untraced_fld (h : s.row oRegionTrace r = [0, 0, 0]) (j : Nat) : s.fld oRegionTrace r j = 0 := by
  rw [State.fld, h]
  match j with
  | 0 | 1 | 2 | _ + 3 => rfl

/-- Sensor k has a new row, and the targets and corrections of its regions are UNTRACED. -/
structure GainStored (k : Nat) (row : Row) (s t : State) : Prop where
  gain : t.row oSensorGain k = row
  traces : ∀ r, r < 256 → sensorRow r (s.row oRegion r) = k → ∀ j, t.fld oRegionTrace r j = 0

theorem setGain_stored (s : State) (k : Nat) (row : Row) : GainStored k row s (s.setGain k row) := by
  unfold State.setGain
  refine ⟨?_, fun r hr hk j => ?_⟩
  · refine List.foldlRecOn (motive := fun u : State => u.row oSensorGain k = row) _ _ ?_ fun u hu r _ => ?_
    · exact (State.row_congr rfl _ _).trans (row_setRow_self ..)
    · exact (row_setRow_of_ne _ _ (by simp [oSensorGain, oRegionTrace])).trans hu
  · refine untraced_fld (foldl_sets (P := fun u => u.row oRegionTrace r = [0, 0, 0]) (mem_regionsOfSensor hr hk)
      (fun u => row_setRow_self ..) (fun u i hu => ?_) _) j
    rw [row_setRow]
    split
    · rfl
    · exact hu

theorem setGain_cal (s : State) (k : Nat) (row : Row) : (s.setGain k row).cal = { s.cal with changed := true } :=
  List.foldlRecOn (motive := fun u : State => u.cal = { s.cal with changed := true }) _ _ rfl fun _ hu _ _ => hu

theorem GainStored.of_keeps (g : GainStored k row s t) (c : Keeps sensorObjs t u) : GainStored k row s u where
  gain := (c.objs oSensorGain k (by decide)).trans g.gain
  traces r hr hk j := (c.fld_eq (by decide) r j).trans (g.traces r hr hk j)

/-- The gain of a sensor, its level and its REF_ID. -/
theorem GainStored.fields {a b c : Nat} {rest : Row} (g : GainStored k (a :: b :: c :: rest) s t) :
    t.fld oSensorGain k 0 = a ∧ t.fld oSensorGain k 1 = b ∧ t.fld oSensorGain k 2 = c := by
  unfold State.fld
  rw [g.gain]
  exact ⟨rfl, rfl, rfl⟩

theorem gainReset_answered {o : Origin} (hp : Passes s o 0x262400 k (fun d => numRow d v) x) :
    ∃ t, exec (.sensorGainReset k v o) s = .next t ∧ Answers t stOk 0 ∧
      (v = 1 → t.fld oSensorGain k 0 = toF32 1 ∧ t.fld oSensorGain k 1 = 0 ∧ t.fld oSensorGain k 2 = 0 ∧
        ∀ r, r < 256 → sensorRow r (s.row oRegion r) = k → ∀ j, t.fld oRegionTrace r j = 0) ∧
      (v ≠ 1 → (∀ i, t.row oSensorGain i = s.row oSensorGain i) ∧ t.cal = s.cal) := by
  obtain rfl := passes_num hp rfl rfl rfl
  refine ans_next (u := s.request o 0x262400 k (fun d => numRow d v)) (fun _ _ h => h) ?_
  have c := request_of hp hook_262400
  generalize s.request o 0x262400 k (fun d => numRow d v) = t at c
  rw [show v1 [v] = v from rfl] at c
  unfold writeGainReset at c
  refine ⟨c.ans, ?_, fun hv => ?_⟩
  · rintro rfl
    rw [if_pos rfl] at c
    have hstored := (setGain_stored s k [toF32 1, 0, 0, 0, s.nowPt]).of_keeps (c.keeps.weaken (by decide))
    obtain ⟨hgain, hlevel, href⟩ := hstored.fields
    exact ⟨hgain, hlevel, href, hstored.traces⟩
  · rw [if_neg hv] at c
    exact ⟨fun i => c.keeps.objs oSensorGain i (by decide), c.cal⟩

/-! ## The outcome of a session (R363) -/

/-- The mean of a session's samples, 0 without one. -/
def RefSession.mean (y : RefSession) : Rat := if y.count = 0 then 0 else y.sum / (y.count : Rat)

/-- The gain that a session gives its sensor for a reference value, 0 where it has no mean. -/
def RefSession.gain (y : RefSession) (ref : Rat) : Rat := if y.mean = 0 then 0 else ref / y.mean

theorem sessionGain_range (hf : y.fault = false) (hg : y.gain ref < 1 / 10 ∨ 10 < y.gain ref) :
    s.sessionGain y ref = s.sessionDone y stRange := by
  have hout : ¬(1 / 10 ≤ y.gain ref ∧ y.gain ref ≤ 10) := fun h => hg.elim (not_lt.mpr h.1) (not_lt.mpr h.2)
  unfold State.sessionGain
  rw [if_neg (ne_true_of_eq_false hf)]
  exact if_neg hout

/-- A sensor has the gain of a session, TRACED to the session's reference, and a write of the store is asked for. -/
structure GainTaken (y : RefSession) (g : Rat) (s t : State) : Prop where
  ends : t.cal.session = none ∧ Completed t y.handle stOk ∧ t.raised 110 = true
  row : ∃ at_, GainStored (rsSensor y.row) [toF32 g, 2, y.row.getD 5 0, y.row.getD 6 0, at_] s t
  save : t.cal.changed = true ∧ t.cal.writing = true

theorem sessionGain_taken (hl : s.handleLive y.handle = true) (hf : y.fault = false) (h0 : 1 / 10 ≤ y.gain ref) (h1 : y.gain ref ≤ 10) :
    GainTaken y (y.gain ref) s (s.sessionGain y ref) := by
  have heq : s.sessionGain y ref = (s.setGain (rsSensor y.row)
      [toF32 (y.gain ref), 2, y.row.getD 5 0, y.row.getD 6 0, s.nowPt]).calStoreDue.sessionDone y stOk := by
    unfold State.sessionGain
    rw [if_neg (ne_true_of_eq_false hf)]
    exact if_pos ⟨h0, h1⟩
  have hstored := setGain_stored s (rsSensor y.row) [toF32 (y.gain ref), 2, y.row.getD 5 0, y.row.getD 6 0, s.nowPt]
  have hkeeps := State.setGain_keeps s (rsSensor y.row) [toF32 (y.gain ref), 2, y.row.getD 5 0, y.row.getD 6 0, s.nowPt]
  rw [heq]
  generalize s.setGain (rsSensor y.row) [toF32 (y.gain ref), 2, y.row.getD 5 0, y.row.getD 6 0, s.nowPt] = u at hstored hkeeps
  have hlive : u.calStoreDue.handleLive y.handle = true :=
    (State.handleLive_congr (congrArg Weir.slots (hkeeps.weir_eq (by decide))) _).trans hl
  have hover := sessionDone_over hlive stOk
  have hdue : Keeps sensorObjs u u.calStoreDue := (State.calStoreDue_keeps u).weaken (by decide)
  refine ⟨⟨hover.session, hover.task, hover.raised⟩, ⟨_, (hstored.of_keeps hdue).of_keeps hover.rows⟩, ?_, ?_⟩
  · exact congrArg Cal.changed hover.cal
  · exact congrArg Cal.writing hover.cal

/-! ## The end of a session's window, and 600 s without a reading (R362, R363) -/

theorem sessionEnds_fault (hf : y.fault = true) : s.sessionEnds y = s.sessionDone y stTimeout := if_pos hf

theorem sessionEnds_waits (hf : y.fault = false) (hm : rsMeter y.row = true) (hr : y.reading = none) :
    s.sessionEnds y = s.setCal { s.cal with session := some { y with ended := true } } := by
  unfold State.sessionEnds
  rw [if_neg (ne_true_of_eq_false hf), if_pos hm, hr]

theorem sessionEnds_gain (hf : y.fault = false) (hm : rsMeter y.row = false) : s.sessionEnds y = s.sessionGain y (rsReference y.row) := by
  unfold State.sessionEnds
  rw [if_neg (ne_true_of_eq_false hf), if_neg (ne_true_of_eq_false hm)]

theorem execRefSessionEnd_eq (hs : s.cal.session = some y) (he : y.ended = false) :
    execRefSessionEnd s = (s.advanceTo y.windowEnd).sessionEnds y := by
  unfold execRefSessionEnd
  rw [hs]
  exact if_neg (ne_true_of_eq_false he)

theorem advanceTo_handleLive (s : State) (pt h : Nat) : (s.advanceTo pt).handleLive h = s.handleLive h :=
  State.handleLive_congr (congrArg Weir.slots ((State.advanceTo_keeps s pt).weir_eq (by decide))) h

theorem refSessionEnd_ends {m g : Rat} (hs : s.cal.session = some y) (he : y.ended = false) (hl : s.handleLive y.handle = true)
    (hm : m = y.mean) (hg : g = if m = 0 then 0 else rsReference y.row / m) :
    (y.fault = true → ∃ t, exec .refSessionEnd s = .next t ∧ t.cal.session = none ∧ Completed t y.handle stTimeout ∧ t.raised 110 = true) ∧
    (y.fault = false → rsMeter y.row = true → y.reading = none → ∃ t, exec .refSessionEnd s = .next t ∧
      t.cal.session = some { y with ended := true }) ∧
    (y.fault = false → rsMeter y.row = false → 1 / 10 ≤ g → g ≤ 10 → ∃ t, exec .refSessionEnd s = .next t ∧ t.cal.session = none ∧
      Completed t y.handle stOk ∧ t.raised 110 = true ∧ t.fld oSensorGain (rsSensor y.row) 0 = toF32 g ∧
      t.fld oSensorGain (rsSensor y.row) 1 = 2 ∧ t.fld oSensorGain (rsSensor y.row) 2 = y.row.getD 5 0 ∧
      (∀ r, r < 256 → sensorRow r (s.row oRegion r) = rsSensor y.row → ∀ j, t.fld oRegionTrace r j = 0) ∧
      t.cal.changed = true ∧ t.cal.writing = true) ∧
    (y.fault = false → rsMeter y.row = false → (g < 1 / 10 ∨ 10 < g) → ∃ t, exec .refSessionEnd s = .next t ∧ t.cal.session = none ∧
      Completed t y.handle stRange ∧ t.raised 110 = true ∧ ∀ k, t.row oSensorGain k = s.row oSensorGain k) := by
  have hgain : g = y.gain (rsReference y.row) := by rw [hg, hm]; rfl
  rw [hgain]
  have hnext : ∀ P : State → Prop, (∀ u q, P u → P { u with pending := q }) → P ((s.advanceTo y.windowEnd).sessionEnds y) →
      ∃ t, exec .refSessionEnd s = .next t ∧ P t := fun P hq h => ans_next hq (execRefSessionEnd_eq hs he ▸ h)
  have hlive := (advanceTo_handleLive s y.windowEnd y.handle).trans hl
  have hrow := State.row_congr (advanceTo_od s y.windowEnd)
  generalize s.advanceTo y.windowEnd = u at hnext hlive hrow
  refine ⟨fun hf => ?_, fun hf hm hr => ?_, fun hf hm h0 h1 => ?_, fun hf hm hout => ?_⟩
  · refine hnext _ (fun _ _ h => h) ?_
    have hover := sessionDone_over hlive stTimeout
    rw [sessionEnds_fault hf]
    exact ⟨hover.session, hover.task, hover.raised⟩
  · refine hnext _ (fun _ _ h => h) ?_
    rw [sessionEnds_waits hf hm hr, setCal_cal]
  · refine hnext _ (fun _ _ h => h) ?_
    rw [sessionEnds_gain hf hm]
    obtain ⟨⟨hsession, htask, hraised⟩, ⟨at_, hstored⟩, hchanged, hwriting⟩ := sessionGain_taken hlive hf h0 h1
    obtain ⟨hgain, hlevel, href⟩ := hstored.fields
    exact ⟨hsession, htask, hraised, hgain, hlevel, href, fun r hr hk => hstored.traces r hr (by rwa [hrow]), hchanged, hwriting⟩
  · refine hnext _ (fun _ _ h => h) ?_
    rw [sessionEnds_gain hf hm, sessionGain_range hf hout]
    have hover := sessionDone_over hlive stRange
    exact ⟨hover.session, hover.task, hover.raised, fun k => (hover.rows.objs oSensorGain k (by decide)).trans (hrow ..)⟩

theorem refSessionTimeout_times (hs : s.cal.session = some y) :
    (rsMeter y.row = true → y.reading = none → s.handleLive y.handle = true → ∃ t, exec .refSessionTimeout s = .next t ∧
      t.cal.session = none ∧ Completed t y.handle stTimeout ∧ t.raised 110 = true) ∧
    ((rsMeter y.row = false ∨ y.reading ≠ none) → exec .refSessionTimeout s = .next s) := by
  have heq : execRefSessionTimeout s =
      if rsMeter y.row = true ∧ y.reading.isNone = true then (s.advanceTo (y.startAt + 600000000000)).sessionDone y stTimeout else s := by
    unfold execRefSessionTimeout
    rw [hs]
  refine ⟨fun hm hr hl => ?_, fun hn => ?_⟩
  · refine ans_next (u := execRefSessionTimeout s) (fun _ _ h => h) ?_
    rw [heq, if_pos ⟨hm, Option.isNone_iff_eq_none.mpr hr⟩]
    have hover := sessionDone_over (s := s.advanceTo (y.startAt + 600000000000)) ((advanceTo_handleLive ..).trans hl) stTimeout
    exact ⟨hover.session, hover.task, hover.raised⟩
  · have hwaits : ¬(rsMeter y.row = true ∧ y.reading.isNone = true) := fun ⟨hm, hr⟩ =>
      hn.elim (fun h => Bool.false_ne_true (h.symm.trans hm)) fun h => h (Option.isNone_iff_eq_none.mp hr)
    rw [if_neg hwaits] at heq
    show ans s (execRefSessionTimeout s) = .next s
    rw [heq]
    rfl

/-! ## The obligation -/

/-- Settles O51: a session by what its start holds, by each way in which it is over, and by the gain that its sensor gets. That a session
without a sample ends with RANGE is the choice of log entry 28, and that a cancel without a session is answered OK that of log entry 69; that a
reading without a METER session is answered STATE is the model's own choice, which R361 to R363 do not make. -/
theorem referenceSessions : Obligations.ReferenceSessions :=
  ⟨fun _ _ _ _ _ => refSession_answered, fun _ _ _ _ => refReading_answered, fun _ _ _ _ => refCancel_answered,
    fun _ _ _ _ => refSessionEnd_ends, fun _ _ => refSessionTimeout_times, fun _ _ _ _ _ => gainReset_answered⟩

end Sys2Proof.Machine
end

section
/-! SUPPORT. What the shared operations leave of the work under way: every event raised still stands, every result retained stays, the
mailbox runs nothing new, and no time passes. -/

namespace Sys2Proof.Machine

variable {s t u : State} {m : Nat}

/-! ## The mailbox (R481) -/

/-- The mailbox is as busy in t as it is in s. -/
structure MailboxStays (s t : State) : Prop where
  busy : t.eop.hostBusy = s.eop.hostBusy

namespace MailboxStays

theorem refl (s : State) : MailboxStays s s := ⟨rfl⟩

theorem trans (a : MailboxStays s t) (b : MailboxStays t u) : MailboxStays s u := ⟨b.busy.trans a.busy⟩

theorem of_eop (h : t.eop = s.eop) : MailboxStays s t := ⟨congrArg Eop.hostBusy h⟩

theorem of_keeps (k : Keeps m s t) (hm : m.testBit 12 = true) : MailboxStays s t := of_eop (k.eop_eq hm)

theorem setFld (s : State) (o r c v : Nat) : MailboxStays s (s.setFld o r c v) := of_eop (setFld_eop ..)

theorem bump (s : State) (o r c : Nat) : MailboxStays s (s.bump o r c) := setFld ..

theorem ite {c : Prop} [Decidable c] {a b : State} (ha : MailboxStays s a) (hb : MailboxStays s b) :
    MailboxStays s (if c then a else b) := by split <;> assumption

theorem foldl {α : Type} {f : State → α → State} (hf : ∀ s a, MailboxStays s (f s a)) (l : List α) (s : State) :
    MailboxStays s (l.foldl f s) := List.foldlRecOn l f (refl s) fun _ hu a _ => hu.trans (hf _ a)

theorem raise (s : State) (e : Nat) : MailboxStays s (s.raise e) := by
  unfold State.raise
  extract_lets evt s1 s2
  exact ite ⟨rfl⟩ ⟨rfl⟩

theorem raiseOnce (s : State) (e key w : Nat) : MailboxStays s (s.raiseOnce e key w) := by
  have hnoted : MailboxStays s { s with evt := { s.evt with windows := tset 0 s.evt.windows key (w + 1) } } := of_eop rfl
  exact ite (refl s) (hnoted.trans (raise ..))

theorem portErr (s : State) (p c : Nat) : MailboxStays s (s.portErr p c) := (bump ..).trans (raiseOnce ..)

theorem pauseGen (s : State) (p : Nat) : MailboxStays s (s.pauseGen p) := by
  have hturn : ∀ n x, MailboxStays s (((s.setFld oPortState p 3 n).setPort p x).portEvent p) := fun n x =>
    ((setFld ..).trans (of_keeps (State.setPort_keeps ..) (by decide))).trans (raise ..)
  unfold State.pauseGen
  extract_lets free x on q
  exact ite (hturn ..) (ite (hturn ..) (refl s))

theorem setQueue (s : State) (q : Nat) (ps : List Packet) : MailboxStays s (s.setQueue q ps) := by
  unfold State.setQueue
  extract_lets wasLow net s1 s2 s3
  have h2 : MailboxStays s s2 := of_eop rfl
  exact (ite (h2.trans (raiseOnce ..)) h2 : MailboxStays s s3).trans (foldl pauseGen _ _)

theorem consume (s : State) (q : Nat) : MailboxStays s (s.consume q) := by
  unfold State.consume State.dequeue
  split
  · exact refl s
  · exact (setQueue ..).trans (bump ..)

theorem append (s : State) (q : Nat) (p : Packet) : MailboxStays s (s.append q p) := by
  unfold State.append
  extract_lets k
  exact ((setQueue ..).trans (of_keeps (State.fillCells_keeps ..) (by decide))).trans (of_keeps (State.cellsTaken_keeps ..) (by decide))

theorem poolFault (s : State) (k q : Nat) : MailboxStays s (s.poolFault k q) := by
  unfold State.poolFault State.raiseMs
  extract_lets s1 x
  have h1 : MailboxStays s { s1 with net := { x with lastFault := some (k, q), poolDrops := (s1.net.poolDrops + 1) % 2 ^ 64 } } :=
    (bump s oPoolCnt q (2 + k)).trans (of_eop rfl)
  exact h1.trans (raiseOnce ..)

theorem enqueue (s : State) (q : Nat) (p : Packet) : MailboxStays s (s.enqueue q p).2 := by
  unfold State.enqueue
  extract_lets g lim part s1 s2
  have happend : MailboxStays s (s.append q p) := append ..
  have h1 : MailboxStays s s1 := ite (bump ..) (refl s)
  have h2 : MailboxStays s s2 := h1.trans (append ..)
  clear_value s2
  split
  · split
    · dsimp only
      exact ite happend (happend.trans (setQueue (s.append q p) q (s.queue q)))
    · exact happend.trans (bump (s.append q p) oPoolCnt q 0)
  · split
    · exact poolFault s 0 q
    split
    · exact h2.trans (poolFault s2 2 q)
    · dsimp only
      exact (h2.trans (setQueue ..)).trans (poolFault ..)

theorem offer (s : State) (p k : Nat) (f : TxFrame) : MailboxStays s (s.offer p k f) :=
  ite (portErr ..) (ite (portErr ..) (enqueue ..))

/-! ## Completions (R413, R433 to R435) -/

theorem sendMsg (s : State) (d : Dest) (k : Nat) (kind : TxKind) (op flags session id : Nat) (sl : Option Nat) (payload : List Byte)
    (task : Nat) : MailboxStays s (s.sendMsg d k kind op flags session id sl payload task) := by
  unfold State.sendMsg
  cases sl with
  | none => exact offer ..
  | some slot =>
    have hcount : ∀ n, MailboxStays s (s.setTx slot n) := fun _ => ⟨rfl⟩
    exact ite ⟨rfl⟩ ((hcount _).trans (offer ..))

theorem sendComplete (s : State) (slot sid handle status : Nat) (result : List Byte) :
    MailboxStays s (s.sendComplete slot sid handle status result) := by
  unfold State.sendComplete
  extract_lets x payload
  exact ite ((sendMsg ..).trans (bump ..)) (refl s)

theorem cqPush (s : State) (h st : Nat) : MailboxStays s (s.cqPush h st) := by
  have hweir : ∀ w, MailboxStays s { s with weir := w } := fun w => of_eop rfl
  unfold State.cqPush
  extract_lets w s1
  exact ite (((hweir _).trans (bump ..)).trans (raise ..)) (ite ((hweir _).trans (raise ..)) (hweir _))

theorem deliverCompletion (s : State) (x : Task) (st : Nat) (result : List Byte) :
    MailboxStays s (s.deliverCompletion x st result) := by
  unfold State.deliverCompletion
  extract_lets notify s1
  have h1 : MailboxStays s s1 := ite (sendComplete ..) (refl s)
  exact ite (h1.trans (cqPush ..)) h1

theorem finishOne (s : State) (h st : Nat) (result : List Byte) : MailboxStays s (s.finishOne h st result).2 := by
  unfold State.finishOne
  extract_lets slot x s1 w s2 s3 s4 s5
  split
  · have h2 : MailboxStays s s2 := ite (of_eop rfl) (of_eop rfl)
    have h3 : MailboxStays s s3 := h2.trans ((of_keeps (State.freeCore_keeps ..) (by decide)).trans (bump ..))
    have h4 : MailboxStays s s4 := ite (h3.trans (raise ..)) h3
    exact (h4.trans (deliverCompletion ..)).trans (of_keeps (State.actEdges_keeps ..) (by decide))
  · exact refl s

theorem finishAll (n : Nat) (w : List (Nat × Nat)) (s : State) : MailboxStays s (State.finishAll n w s) := by
  induction n generalizing w s with
  | zero => exact refl s
  | succ n ih =>
    cases w with
    | nil => exact refl s
    | cons x w => exact (finishOne ..).trans (ih _ _)

theorem completeOpt (s : State) (h : Option Nat) (st : Nat) : MailboxStays s (s.completeOpt h st) := by
  cases h with
  | none => exact refl s
  | some x => exact finishAll ..

/-! ## The ports take up their rows (R591 to R594) -/

theorem portTurn (s : State) (p : Nat) : MailboxStays s (s.portTurn p) := by
  have hturn : ∀ x n, MailboxStays s ((s.setPort p x).setPortState p n) := fun x n =>
    (of_keeps (State.setPort_keeps ..) (by decide)).trans ((setFld ..).trans (raise ..))
  unfold State.portTurn
  extract_lets w
  split
  · exact hturn ..
  · exact hturn ..
  · exact ite (refl s) (of_keeps (State.setPort_keeps ..) (by decide))
  · exact refl s

theorem portsSettle (s : State) : MailboxStays s s.portsSettle := foldl (fun s p => ite (refl s) (portTurn s p)) _ s

end MailboxStays

/-! ## The work under way -/

/-- At the same instant, every event that s has raised stands in t, every result it retains is retained, and its mailbox is as busy. -/
structure WorkStands (s t : State) : Prop where
  evs : EventsStand s t
  results : ResultsStand s t
  mailbox : MailboxStays s t
  now : t.now = s.now

namespace WorkStands

theorem refl (s : State) : WorkStands s s := ⟨.refl s, .refl s, .refl s, rfl⟩

theorem trans (a : WorkStands s t) (b : WorkStands t u) : WorkStands s u :=
  ⟨a.evs.trans b.evs, a.results.trans b.results, a.mailbox.trans b.mailbox, b.now.trans a.now⟩

theorem of_keeps (k : Keeps m s t) (he : m.testBit 9 = true) (hw : m.testBit 13 = true) (hm : m.testBit 12 = true)
    (hc : m.testBit 1 = true) : WorkStands s t :=
  ⟨.of_keeps k he, .of_keeps k hw, .of_keeps k hm, State.now_congr (k.clk_eq hc)⟩

theorem setRow (s : State) (o r : Nat) (v : Row) : WorkStands s (s.setRow o r v) := ⟨.of_evt rfl, .of_slots rfl, .of_eop rfl, rfl⟩

theorem setTwin (s : State) (x : Twin) : WorkStands s (s.setTwin x) := ⟨.of_evt rfl, .of_slots rfl, .of_eop rfl, rfl⟩

theorem raise (s : State) (e : Nat) : WorkStands s (s.raise e) := ⟨.raise s e, .raise s e, .raise s e, raise_now s e⟩

theorem completeOpt (s : State) (h : Option Nat) (st : Nat) : WorkStands s (s.completeOpt h st) :=
  ⟨.completeOpt .., .completeOpt .., .completeOpt .., State.now_congr ((State.completeOpt_keeps s h st).clk_eq (by decide))⟩

end WorkStands

end Sys2Proof.Machine
end

section
/-! SUPPORT. The twins (R373 to R400): what a reader of the twin state depends on, and what the updates of the twins' chapter leave of the
partner's paths and reports. -/

namespace Sys2Proof.Machine

variable {s t u : State} {m : Nat}

theorem State.partnerState_congr (h : t.twin = s.twin) : t.partnerState = s.partnerState := by simp only [State.partnerState, h]

theorem State.partnerRank_congr (h : t.twin = s.twin) : t.partnerRank = s.partnerRank := by simp only [State.partnerRank, h]

/-! ## Time passes until an instant -/

section
variable (s : State) (pt : Nat)

@[simp] theorem advanceTo_twin : (s.advanceTo pt).twin = s.twin := (State.advanceTo_keeps s pt).twin_eq (by decide)

@[simp] theorem advanceTo_timeRuns : (s.advanceTo pt).timeRuns = s.timeRuns := by simp [State.timeRuns, State.berm]

@[simp] theorem advanceTo_booting : (s.advanceTo pt).booting = s.booting := by simp [State.booting]

@[simp] theorem advanceTo_twinEnabled : (s.advanceTo pt).twinEnabled = s.twinEnabled := by simp [State.twinEnabled]

@[simp] theorem advanceTo_rank : (s.advanceTo pt).rank = s.rank := advanceTo_val ..

@[simp] theorem advanceTo_twinState : (s.advanceTo pt).twinState = s.twinState := advanceTo_fld ..

@[simp] theorem advanceTo_dike : (s.advanceTo pt).dike = s.dike := advanceTo_fld ..

@[simp] theorem advanceTo_chainUp : (s.advanceTo pt).chainUp = s.chainUp := by simp [State.chainUp]

@[simp] theorem advanceTo_partnerPresent : (s.advanceTo pt).partnerPresent = s.partnerPresent := by simp [State.partnerPresent]

@[simp] theorem advanceTo_partnerState : (s.advanceTo pt).partnerState = s.partnerState := State.partnerState_congr (advanceTo_twin ..)

@[simp] theorem advanceTo_partnerRank : (s.advanceTo pt).partnerRank = s.partnerRank := State.partnerRank_congr (advanceTo_twin ..)

@[simp] theorem advanceTo_partnerOut : (s.advanceTo pt).partnerOut = s.partnerOut := by simp [State.partnerOut]

@[simp] theorem advanceTo_partnerIn : (s.advanceTo pt).partnerIn = s.partnerIn := by simp [State.partnerIn]

end

/-! ## The twin block and its row -/

@[simp] theorem setTwin_twin (s : State) (x : Twin) : (s.setTwin x).twin = x := rfl

@[simp] theorem setTwin_fld (s : State) (x : Twin) (o r c : Nat) : (s.setTwin x).fld o r c = s.fld o r c := State.fld_congr rfl

@[simp] theorem raise_twin (s : State) (e : Nat) : (s.raise e).twin = s.twin := (State.raise_keeps s e).twin_eq (by decide)

@[simp] theorem twinCount_twin (s : State) (c : Nat) : (s.twinCount c).twin = s.twin := setFld_twin ..

@[simp] theorem setTwinCol_twin (s : State) (c v : Nat) : (s.setTwinCol c v).twin = s.twin := setFld_twin ..

theorem setTwinCol_fld (s : State) (c v d : Nat) :
    (s.setTwinCol c v).fld oTwin 0 d = if d = c then v else s.fld oTwin 0 d := by simp [State.setTwinCol, fld_setFld]

@[simp] theorem setTwinCol_cnt (s : State) (c v d : Nat) : (s.setTwinCol c v).fld oTwinCnt 0 d = s.fld oTwinCnt 0 d :=
  fld_setFld_of_ne s 0 c 0 d v (by decide)

theorem twinCount_cnt (s : State) (c d : Nat) :
    (s.twinCount c).fld oTwinCnt 0 d = if d = c then (s.fld oTwinCnt 0 c + 1) % 2 ^ 64 else s.fld oTwinCnt 0 d := by
  simp [State.twinCount, State.bump, State.add, fld_setFld]

@[simp] theorem twinCount_fld (s : State) (c d : Nat) : (s.twinCount c).fld oTwin 0 d = s.fld oTwin 0 d :=
  fld_setFld_of_ne s 0 c 0 d _ (by decide)

@[simp] theorem raise_status (s : State) (e c : Nat) : (s.raise e).fld oTwin 0 c = s.fld oTwin 0 c := raise_fld s e 0 c (by decide)

@[simp] theorem raise_cnt (s : State) (e c : Nat) : (s.raise e).fld oTwinCnt 0 c = s.fld oTwinCnt 0 c := raise_fld s e 0 c (by decide)

/-! ## The partner's paths and reports -/

/-- What the partner has said last, and when on which path. -/
def Twin.heard (x : Twin) : Option Partner × Option Nat × Option Nat × Option Nat := (x.partner, x.beatAt, x.heartAt, x.partnerMac)

/-- The work under way stands, the paths are as they were, and so is what the partner has said. -/
structure PathsKept (s t : State) : Prop extends WorkStands s t where
  status : ∀ c, c = 1 ∨ c = 3 ∨ c = 4 ∨ c = 5 → t.fld oTwin 0 c = s.fld oTwin 0 c
  counts : ∀ c, 0 < c → c < 5 → t.fld oTwinCnt 0 c = s.fld oTwinCnt 0 c
  heard : t.twin.heard = s.twin.heard

namespace PathsKept

theorem refl (s : State) : PathsKept s s := ⟨.refl s, fun _ _ => rfl, fun _ _ _ => rfl, rfl⟩

theorem trans (a : PathsKept s t) (b : PathsKept t u) : PathsKept s u where
  toWorkStands := a.toWorkStands.trans b.toWorkStands
  status c h := (b.status c h).trans (a.status c h)
  counts c h k := (b.counts c h k).trans (a.counts c h k)
  heard := b.heard.trans a.heard

theorem ite {c : Prop} [Decidable c] {a b : State} (ha : PathsKept s a) (hb : PathsKept s b) : PathsKept s (if c then a else b) := by
  split <;> assumption

theorem foldl {α : Type} {f : State → α → State} (hf : ∀ s a, PathsKept s (f s a)) (l : List α) (s : State) :
    PathsKept s (l.foldl f s) := List.foldlRecOn l f (refl s) fun _ hu a _ => hu.trans (hf _ a)

theorem setTwin (s : State) {x : Twin} (h : x.heard = s.twin.heard) : PathsKept s (s.setTwin x) :=
  ⟨.setTwin s x, fun _ _ => rfl, fun _ _ _ => rfl, h⟩

theorem setTwinCol (s : State) {c : Nat} (v : Nat) (h : ¬(c = 1 ∨ c = 3 ∨ c = 4 ∨ c = 5)) : PathsKept s (s.setTwinCol c v) where
  toWorkStands := .setRow ..
  status d hd := (setTwinCol_fld s c v d).trans (if_neg (by rintro rfl; exact h hd))
  counts d _ _ := setTwinCol_cnt s c v d
  heard := rfl

theorem twinCount (s : State) {c : Nat} (h : c = 0 ∨ 5 ≤ c) : PathsKept s (s.twinCount c) where
  toWorkStands := .setRow ..
  status d _ := twinCount_fld s c d
  counts d h0 h5 := (twinCount_cnt s c d).trans (if_neg (by omega))
  heard := rfl

theorem setCompareRow (s : State) (q : Nat) (v : Row) : PathsKept s (s.setRow oCompare q v) where
  toWorkStands := .setRow ..
  status c _ := fld_setRow_of_ne s q 0 c v (by decide)
  counts c _ _ := fld_setRow_of_ne s q 0 c v (by decide)
  heard := rfl

theorem setCompare (s : State) (q : Nat) (x : Compare) : PathsKept s (s.setCompare q x) := setTwin s rfl

theorem raise (s : State) (e : Nat) : PathsKept s (s.raise e) :=
  ⟨.raise s e, fun c _ => raise_status s e c, fun c _ _ => raise_cnt s e c, congrArg Twin.heard (raise_twin s e)⟩

theorem completeOpt (s : State) (h : Option Nat) (st : Nat) : PathsKept s (s.completeOpt h st) where
  toWorkStands := .completeOpt ..
  status c _ := (State.completeOpt_keeps s h st).fld_eq (by decide) 0 c
  counts c _ _ := (State.completeOpt_keeps s h st).fld_eq (by decide) 0 c
  heard := congrArg Twin.heard ((State.completeOpt_keeps s h st).twin_eq (by decide))

theorem dike (h : PathsKept s t) : t.dike = s.dike := h.status 4 (by decide)

theorem chainUp (h : PathsKept s t) : t.chainUp = s.chainUp := congrArg (· == 1) (h.status 5 (by decide))

theorem partner (h : PathsKept s t) : t.twin.partner = s.twin.partner := congrArg Prod.fst h.heard

theorem beatAt (h : PathsKept s t) : t.twin.beatAt = s.twin.beatAt := congrArg (·.2.1) h.heard

theorem heartAt (h : PathsKept s t) : t.twin.heartAt = s.twin.heartAt := congrArg (·.2.2.1) h.heard

theorem partnerMac (h : PathsKept s t) : t.twin.partnerMac = s.twin.partnerMac := congrArg (·.2.2.2) h.heard

theorem partnerPresent (h : PathsKept s t) : t.partnerPresent = s.partnerPresent := by
  simp only [State.partnerPresent, h.dike, h.chainUp]

theorem partnerState (h : PathsKept s t) : t.partnerState = s.partnerState := by simp only [State.partnerState, h.partner]

theorem partnerRank (h : PathsKept s t) : t.partnerRank = s.partnerRank := by simp only [State.partnerRank, h.partner]

theorem partnerOut (h : PathsKept s t) : t.partnerOut = s.partnerOut := by
  simp only [State.partnerOut, h.partnerPresent, h.partnerState]

theorem partnerIn (h : PathsKept s t) : t.partnerIn = s.partnerIn := by
  simp only [State.partnerIn, h.partnerPresent, h.partnerState]

/-! ## A change of state and what comes with it (R393, R400) -/

theorem enterTwin (s : State) (st reason : Nat) : PathsKept s (s.enterTwin st reason) := by
  unfold State.enterTwin
  extract_lets x out s1 s2 s3 s3a s4 s5
  have h1 : PathsKept s s1 := setTwin s rfl
  have h2 : PathsKept s1 s2 := ((setTwinCol _ _ (by decide)).trans (setTwinCol _ _ (by decide))).trans (setTwinCol _ _ (by decide))
  have h3 : PathsKept s2 s3 := (setTwinCol _ _ (by decide)).trans (setTwinCol _ _ (by decide))
  have h3a : PathsKept s3 s3a := ite ((twinCount s3 (by decide)).trans (raise ..)) (refl s3)
  have h4 : PathsKept s3a s4 := ite (twinCount s3a (by decide)) (refl s3a)
  have h5 : PathsKept s4 s5 := (twinCount s4 (by decide)).trans (raise ..)
  have hend := (((h1.trans h2).trans h3).trans h3a).trans (h4.trans h5)
  exact ite (hend.trans (((twinCount s5 (by decide)).trans (raise ..)).trans (completeOpt ..))) (hend.trans (completeOpt ..))

theorem trackOut (s : State) : PathsKept s s.trackOut := by
  unfold State.trackOut
  extract_lets x
  split
  · split <;> exact setTwin s rfl
  · exact setTwin s rfl

theorem splitCheck (s : State) (rx : Bool) : PathsKept s (s.splitCheck rx) := by
  unfold State.splitCheck
  extract_lets on s1
  have h1 : PathsKept s s1 := ite ((twinCount s (by decide)).trans (raise ..)) (refl s)
  exact h1.trans (setTwin s1 rfl)

theorem twinEval (rx : Bool) (n : Nat) (s : State) : PathsKept s (State.twinEval rx n s) := by
  induction n generalizing s with
  | zero => exact refl s
  | succ n ih =>
    unfold State.twinEval
    split
    · exact ((splitCheck s rx).trans (enterTwin ..)).trans (ih _)
    · exact (splitCheck s rx).trans (trackOut _)

/-! ## Signatures and the handshake (R388 to R392, R396) -/

theorem evaluateRun (s : State) (run : List Compared) : PathsKept s (s.evaluateRun run) := by
  unfold State.evaluateRun
  extract_lets own other clear s1 acts
  have hclear : PathsKept s (clear s) := foldl (fun u q => (setCompareRow u q _).trans (setCompare ..)) _ s
  have h1 : PathsKept s s1 := (hclear.trans (twinCount _ (by decide))).trans (raise ..)
  exact ite (ite (h1.trans (enterTwin ..)) h1) (ite (h1.trans (setTwinCol s1 1 (by decide))) h1)

theorem divergedCheck (s : State) : PathsKept s s.divergedCheck := ite (setTwinCol s 0 (by decide)) (refl s)

theorem compareQuire (s : State) (q : Nat) : PathsKept s (s.compareQuire q) := by
  unfold State.compareQuire
  extract_lets x
  split
  · exact refl s
  split
  · exact refl s
  extract_lets same mm' mm run s1 s2 s3
  have h2 : PathsKept s s2 := ((setCompare ..).trans (setCompareRow s1 q _)).trans (twinCount _ (by decide))
  have h3 : PathsKept s s3 := ite (h2.trans (divergedCheck s2)) (h2.trans (twinCount s2 (by decide)))
  split
  · split
    · exact (h3.trans (enterTwin ..)).trans (evaluateRun ..)
    · exact h3.trans (evaluateRun ..)
  · exact h3

theorem withdraw (s : State) : PathsKept s s.withdraw := by
  unfold State.withdraw
  extract_lets x s1
  have h1 : PathsKept s s1 := (setTwin s (x := { x with handover := none, handoverTask := none }) rfl).trans (setTwinCol _ 0 (by decide))
  exact ((h1.trans (twinCount s1 (by decide))).trans (raise ..)).trans (completeOpt ..)

theorem handshake (s : State) (p : Partner) : PathsKept s (s.handshake p) := by
  have hset : ∀ {x : Twin} (v : Nat), x.heard = s.twin.heard → PathsKept s ((s.setTwin x).setTwinCol 9 v) := fun v hx =>
    (setTwin s hx).trans (setTwinCol _ v (by decide))
  unfold State.handshake
  extract_lets x running th
  split
  · split
    · exact ite (hset _ rfl) (refl s)
    · split
      · have hdrop := hset (x := { x with handover := none }) 0 rfl
        exact ite ((hdrop.trans (twinCount (c := 10) _ (by decide))).trans (raise ..)) (refl s)
      · exact refl s
  · split
    · split
      · exact ite (withdraw s) (ite (setTwin s rfl) (refl s))
      · exact refl s
      · exact ite (hset _ rfl) (refl s)
    · exact refl s

end PathsKept

end Sys2Proof.Machine
end

section
/-! SUPPORT. What follows a command of the twins (R395, R658, R660): the pins of Berm service, a trial that confirms and the watch of a
deferred Leader leave what the twins show. -/

namespace Sys2Proof.Machine

variable {s t u : State} {m : Nat}

/-- The twin block but for the quench of R395. -/
def Twin.unquenched (x : Twin) : Twin := { x with quenchBerm := false }

/-- The work under way stands, the rows and counts of the twins read as they did, and so does the twin block but for the quench of R395. -/
structure TwinShown (s t : State) : Prop extends WorkStands s t where
  objs : ∀ o, o / 4096 = 0x121 ∨ o / 4096 = 0x412 → ∀ r c, t.fld o r c = s.fld o r c
  twin : t.twin.unquenched = s.twin.unquenched

namespace TwinShown

theorem refl (s : State) : TwinShown s s := ⟨.refl s, fun _ _ _ _ => rfl, rfl⟩

theorem trans (a : TwinShown s t) (b : TwinShown t u) : TwinShown s u where
  toWorkStands := a.toWorkStands.trans b.toWorkStands
  objs o h r c := (b.objs o h r c).trans (a.objs o h r c)
  twin := b.twin.trans a.twin

theorem ite {c : Prop} [Decidable c] {a b : State} (ha : TwinShown s a) (hb : TwinShown s b) : TwinShown s (if c then a else b) := by
  split <;> assumption

/-- What the rows of the twins and their counters stand in is kept, and the twin block. -/
theorem of_objs (hw : WorkStands s t) (k : Keeps m s t) (hs : m.testBit (32 + 0x121) = true) (hc : m.testBit (32 + 0x412) = true)
    (ht : m.testBit 24 = true) : TwinShown s t where
  toWorkStands := hw
  objs _ ho r c := k.fld_eq (ho.elim (fun h => h ▸ hs) (fun h => h ▸ hc)) r c
  twin := congrArg Twin.unquenched (k.twin_eq ht)

theorem status (h : TwinShown s t) (c : Nat) : t.fld oTwin 0 c = s.fld oTwin 0 c := h.objs oTwin (by decide) 0 c

theorem counts (h : TwinShown s t) (c : Nat) : t.fld oTwinCnt 0 c = s.fld oTwinCnt 0 c := h.objs oTwinCnt (by decide) 0 c

theorem twinState (h : TwinShown s t) : t.twinState = s.twinState := h.status 0

theorem paths (h : TwinShown s t) : PathsKept s t where
  toWorkStands := h.toWorkStands
  status c _ := h.status c
  counts c _ _ := h.counts c
  heard := show t.twin.unquenched.heard = s.twin.unquenched.heard from congrArg Twin.heard h.twin

/-! ## The pins of Berm service (R395, R640) -/

/-- What quenching or lighting pins leaves. -/
abbrev pinsMask : Nat := 0x5000000000000000000000000000000000000000000000000000f00ef007e00010000000000000000000000000000000000000000000000000000000700070003000000000000000000000000000000000000000f00db00010001000f0007000f00000000000000000000000000000000000000000000000b0007000300070001000000000000000000000000000000000000000000000000000000000000000001dfffdb

theorem bermQuench (s : State) : TwinShown s s.bermQuench := by
  unfold State.bermQuench
  extract_lets old new x s1
  have h1 : TwinShown s s1 := ⟨.setTwin .., fun _ _ _ _ => rfl, rfl⟩
  have hpins : ∀ v, Keeps pinsMask s1 v → TwinShown s v := fun v k =>
    h1.trans (.of_objs (.of_keeps k (by decide) (by decide) (by decide) (by decide)) k (by decide) (by decide) (by decide))
  have hundrive : ∀ v q, Keeps pinsMask s1 v → Keeps pinsMask s1 (if (v.quire q).inFrame then v else v.undriveQuire q) := fun v q k =>
    .ite k (Keeps.step (State.undriveQuire_keeps v q) (by decide) k)
  have hlight : ∀ v q, Keeps pinsMask s1 v → Keeps pinsMask s1 (v.safeLookSteps q) := fun v q k =>
    Keeps.step (State.safeLookSteps_keeps v q) (by decide) k
  exact ite (hpins _ (.foldl hundrive .refl)) (ite (hpins _ (.foldl hlight .refl)) h1)

end TwinShown

/-! ## A trial confirms (R660, R662), and the watch of a deferred Leader (R658) -/

namespace WorkStands

theorem ite {c : Prop} [Decidable c] {a b : State} (ha : WorkStands s a) (hb : WorkStands s b) : WorkStands s (if c then a else b) := by
  split <;> assumption

/-- Neither an event, nor a task, nor the mailbox, nor the clock has changed. -/
theorem of_rest (he : t.evt = s.evt) (hw : t.weir = s.weir) (hm : t.eop.hostBusy = s.eop.hostBusy) (hc : t.clk = s.clk) :
    WorkStands s t := ⟨.of_evt he, .of_slots (congrArg Weir.slots hw), ⟨hm⟩, State.now_congr hc⟩

theorem saveSettings (s : State) : WorkStands s s.saveSettings := by
  have hset : ∀ (u : State) (o v : Nat), WorkStands u (u.setVal o v) := fun u o v => setRow u o 0 [v]
  unfold State.saveSettings
  extract_lets eop s0 up seq c
  have h0 : WorkStands s s0 := of_rest rfl rfl rfl rfl
  have hupdate : ∀ x, WorkStands s { s0 with update := x } := fun _ => h0.trans (of_rest rfl rfl rfl rfl)
  have hflash : ∀ f, WorkStands s { s0 with flash := f } := fun _ => h0.trans (of_rest rfl rfl rfl rfl)
  exact ite ((hupdate _).trans (hset ..)) (((hflash _).trans (hset ..)).trans (hset ..))

/-- A write of the store that the confirmation of a trial makes at once. -/
theorem calStoreWritten (h : s.cal.writing = true) : WorkStands s (State.calStoreWritten true true s) := by
  unfold State.calStoreWritten
  rw [h, if_pos rfl]
  extract_lets u cal held up s1 record flash s2
  refine ite (refl s) (ite (refl s) (ite (of_rest rfl rfl rfl rfl) (ite (of_rest rfl rfl rfl rfl) ?_)))
  rw [if_pos rfl]
  exact ((of_rest rfl rfl rfl rfl : WorkStands s s2).trans (setRow ..)).trans (setRow ..)

theorem writeHeld (s : State) : WorkStands s s.writeHeld := by
  unfold State.writeHeld
  extract_lets u s1 s2
  have h1 : WorkStands s s1 := of_rest rfl rfl rfl rfl
  have h2 : WorkStands s s2 := ite (h1.trans (saveSettings ..)) h1
  have h3 : WorkStands s2 (s2.setCal { s2.cal with writing := true }) := of_rest rfl rfl rfl rfl
  exact ite ((h2.trans h3).trans (calStoreWritten rfl)) h2

theorem confirmTrial (s : State) : WorkStands s s.confirmTrial := by
  unfold State.confirmTrial
  extract_lets slot boot s1 e flash s2 up
  have h2 : WorkStands s s2 := of_rest rfl rfl rfl rfl
  have hupdate : ∀ x, WorkStands s2 (s2.setUpdate x) := fun _ => of_rest rfl rfl rfl rfl
  exact ((h2.trans (hupdate _)).trans (writeHeld ..)).trans (raise ..)

theorem afterTwin (before s : State) : WorkStands s (State.afterTwin before s) := by
  unfold State.afterTwin
  extract_lets s1
  have h1 : WorkStands s s1 := ite (confirmTrial s) (refl s)
  exact h1.trans (of_keeps (State.deferWatch_keeps s1) (by decide) (by decide) (by decide) (by decide))

end WorkStands

theorem afterTwin_twin (before s : State) : (State.afterTwin before s).twin = s.twin :=
  (State.afterTwin_keeps before s).twin_eq (by decide)

theorem TwinShown.afterTwin (before s : State) : TwinShown s (State.afterTwin before s) :=
  .of_objs (.afterTwin before s) (State.afterTwin_keeps before s) (by decide) (by decide) (by decide)

/-- A write command that settles leaves what its chapter shows of the twins. -/
theorem Settled.twinShown {r : WRes} (k : Settled r t) (c : Nat) : t.fld oTwin 0 c = r.st.fld oTwin 0 c :=
  k.keeps.fld_eq (by decide) 0 c

end Sys2Proof.Machine
end

section
/-! SUPPORT. A twin changes its state (R393, R394, R400): what the change brings, which transition is due, and how the evaluation that
makes one transition after another ends. -/

namespace Sys2Proof.Machine

variable {s t u : State} {m st reason : Nat} {rx : Bool}

/-! ## A change of state (R393, R397, R400) -/

/-- What the change of s to a state with a reason has brought in t, and what it leaves. -/
structure TwinEntered (st r : Nat) (s t : State) : Prop extends PathsKept s t where
  state : t.twinState = st
  why : t.fld oTwin 0 7 = r
  crest : t.fld oTwin 0 2 = crestFor st s.rank
  event : t.raised 24 = true
  config : ∀ o, o ≠ oTwin → o / 4096 = 0x121 → t.val o = s.val o
  since : t.twin.since = s.now
  reason : t.twin.reason = r
  handover : t.twin.handover = none
  rejoins : t.twin.rejoins = s.twin.rejoins
  out : st = 4 → s.partnerOut = true → t.twin.outSince = some s.now
  demoted : st = 3 → t.fld oTwinCnt 0 8 = (s.fld oTwinCnt 0 8 + 1) % 2 ^ 64
  made : r = 5 → t.raised 29 = true ∧ t.fld oTwinCnt 0 9 = (s.fld oTwinCnt 0 9 + 1) % 2 ^ 64
  dropped : s.twin.handover ≠ none → r ≠ 5 → t.raised 29 = true ∧ t.fld oTwinCnt 0 10 = (s.fld oTwinCnt 0 10 + 1) % 2 ^ 64
  task : ∀ k, s.twin.handoverTask = some k → s.handleLive k = true → Completed t k (if r = 5 then stOk else stCancelled)

/-- The twin block as the change leaves it. -/
def State.enteredTwin (s : State) (st reason : Nat) : Twin :=
  { s.twin with since := s.now, outSince := if st = 4 ∧ s.partnerOut then some s.now else none, hearSince := none, handover := none,
                handoverTask := none, revertReq := false, reason := reason, splitOn := false }

/-- The twin block and its row as the change leaves them: what comes with it are counts, events and a task that completes. -/
def State.enteredRow (s : State) (st reason : Nat) : State :=
  ((((((s.setTwin (s.enteredTwin st reason)).setTwinCol 0 st).setTwinCol 7 reason).setTwinCol 8 s.nowPt).setTwinCol 2
    (crestFor st s.rank)).setTwinCol 9 0)

/-- A handover that does not bring the change is counted as dropped, a demotion is counted, and so is the change. -/
def State.enteredCounts (s : State) (dropped : Bool) (st : Nat) : State :=
  let s1 := if dropped then (s.twinCount 10).raise 29 else s
  ((if st = 3 then s1.twinCount 8 else s1).twinCount 0).raise 24

/-- The handover is over: made, or dropped with its task. -/
def State.handoverOver (s : State) (task : Option Nat) (reason : Nat) : State :=
  if reason = 5 then ((s.twinCount 9).raise 29).completeOpt task stOk else s.completeOpt task stCancelled

theorem enterTwin_eq (s : State) (st reason : Nat) : s.enterTwin st reason =
    ((s.enteredRow st reason).enteredCounts (decide (s.twin.handover.isSome ∧ reason ≠ 5)) st).handoverOver s.twin.handoverTask reason := by
  unfold State.enterTwin State.enteredCounts State.handoverOver
  simp only [decide_eq_true_eq]
  rfl

/-- What counting a change leaves. -/
abbrev countedMask : Nat := 0x200000000000000000000000000000000000000000000000000000000000000000000000001002002

/-- What ending a handover leaves: the clock, the twin block and its rows. -/
abbrev overMask : Nat := 0x200000000000000000000000000000000000000000000000000000000000000000000000001000002

section
variable (s : State)

theorem enteredRow_status (st r c : Nat) : (s.enteredRow st r).fld oTwin 0 c =
    if c = 9 then 0 else if c = 2 then crestFor st s.rank else if c = 8 then s.nowPt else if c = 7 then r else if c = 0 then st
    else s.fld oTwin 0 c := by simp [State.enteredRow, setTwinCol_fld]

theorem enteredRow_twin (st r : Nat) : (s.enteredRow st r).twin = s.enteredTwin st r := rfl

theorem enteredRow_weir (st r : Nat) : (s.enteredRow st r).weir = s.weir := by
  simp only [State.enteredRow, State.setTwinCol, setFld_weir, State.setTwin]

theorem enteredRow_cnt (st r c : Nat) : (s.enteredRow st r).fld oTwinCnt 0 c = s.fld oTwinCnt 0 c := by simp [State.enteredRow]

theorem enteredRow_val (st r : Nat) {o : Nat} (ho : o ≠ oTwin) : (s.enteredRow st r).val o = s.val o := by
  simp [State.enteredRow, State.setTwinCol, State.val, fld_setFld, ho]

theorem enteredCounts_keeps (b : Bool) (st : Nat) : Keeps countedMask s (s.enteredCounts b st) := by
  have hcount : ∀ {v} c e, Keeps countedMask s v → Keeps countedMask s ((v.twinCount c).raise e) := fun _ _ k =>
    Keeps.step (State.raise_keeps ..) (by decide) (Keeps.step (State.twinCount_keeps ..) (by decide) k)
  unfold State.enteredCounts
  extract_lets s1
  have h1 : Keeps countedMask s s1 := .ite (hcount 10 29 .refl) .refl
  exact hcount 0 24 (.ite (Keeps.step (State.twinCount_keeps ..) (by decide) h1) h1)

theorem enteredCounts_event (b : Bool) (st : Nat) : (s.enteredCounts b st).raised 24 = true := raised_raise_self _ _ (by decide)

theorem enteredCounts_demoted (b : Bool) : (s.enteredCounts b 3).fld oTwinCnt 0 8 = (s.fld oTwinCnt 0 8 + 1) % 2 ^ 64 := by
  cases b <;> simp [State.enteredCounts, twinCount_cnt]

theorem enteredCounts_made (b : Bool) (st : Nat) : (s.enteredCounts b st).fld oTwinCnt 0 9 = s.fld oTwinCnt 0 9 := by
  cases b <;> by_cases h : st = 3 <;> simp [State.enteredCounts, h, twinCount_cnt]

theorem enteredCounts_dropped (st : Nat) : (s.enteredCounts true st).raised 29 = true ∧
    (s.enteredCounts true st).fld oTwinCnt 0 10 = (s.fld oTwinCnt 0 10 + 1) % 2 ^ 64 := by
  have hraised : ((s.twinCount 10).raise 29).raised 29 = true := raised_raise_self _ _ (by decide)
  have hlater : EventsStand ((s.twinCount 10).raise 29) (s.enteredCounts true st) :=
    (EventsStand.ite (.bump ..) (.refl _)).trans ((EventsStand.bump ..).trans (.raise ..))
  refine ⟨hlater.stands 29 hraised, ?_⟩
  by_cases h : st = 3 <;> simp [State.enteredCounts, h, twinCount_cnt]

variable (task : Option Nat) (r : Nat)

theorem handoverOver_keeps : Keeps overMask s (s.handoverOver task r) := by
  have hdone : ∀ {v st}, Keeps overMask s v → Keeps overMask s (v.completeOpt task st) := fun k =>
    Keeps.step (State.completeOpt_keeps ..) (by decide) k
  exact .ite (hdone (Keeps.step (State.raise_keeps ..) (by decide) ((State.twinCount_keeps s 9).weaken (by decide)))) (hdone .refl)

theorem handoverOver_events : EventsStand s (s.handoverOver task r) :=
  .ite ((EventsStand.bump ..).trans ((EventsStand.raise ..).trans (.completeOpt ..))) (.completeOpt ..)

theorem handoverOver_cnt (c : Nat) : (s.handoverOver task r).fld oTwinCnt 0 c =
    if c = 9 ∧ r = 5 then (s.fld oTwinCnt 0 9 + 1) % 2 ^ 64 else s.fld oTwinCnt 0 c := by
  have hdone : ∀ (v : State) (st : Nat), (v.completeOpt task st).fld oTwinCnt 0 c = v.fld oTwinCnt 0 c := fun v st =>
    (State.completeOpt_keeps v task st).fld_eq (by decide) 0 c
  unfold State.handoverOver
  by_cases h : r = 5 <;> simp [h, hdone, twinCount_cnt]

theorem handoverOver_made : (s.handoverOver task 5).raised 29 = true :=
  (EventsStand.completeOpt ..).stands 29 (raised_raise_self _ _ (by decide))

variable {s} in
theorem handoverOver_completes {k : Nat} (hl : s.handleLive k = true) :
    Completed (s.handoverOver (some k) r) k (if r = 5 then stOk else stCancelled) := by
  unfold State.handoverOver
  split
  · have hlive := State.handleLive_congr (s := s) (t := (s.twinCount 9).raise 29)
      (congrArg Weir.slots (((State.raise_keeps ..).weir_eq (by decide)).trans rfl)) k
    exact completeOpt_completes (hlive.trans hl) stOk
  · exact completeOpt_completes hl stCancelled

end

theorem enterTwin_enters (s : State) (st r : Nat) : TwinEntered st r s (s.enterTwin st r) := by
  have hpaths := PathsKept.enterTwin s st r
  rw [enterTwin_eq] at hpaths ⊢
  generalize hd : decide (s.twin.handover.isSome ∧ r ≠ 5) = b at hpaths ⊢
  have hcounts := enteredCounts_keeps (s.enteredRow st r) b st
  have hover := handoverOver_keeps ((s.enteredRow st r).enteredCounts b st) s.twin.handoverTask r
  have hevents := handoverOver_events ((s.enteredRow st r).enteredCounts b st) s.twin.handoverTask r
  have hcnt := handoverOver_cnt ((s.enteredRow st r).enteredCounts b st) s.twin.handoverTask r
  have hrow := fun c => (hover.fld_eq (o := oTwin) (by decide) 0 c).trans
    ((hcounts.fld_eq (by decide) 0 c).trans (enteredRow_status s st r c))
  have htwin := ((hover.twin_eq (by decide)).trans (hcounts.twin_eq (by decide))).trans (enteredRow_twin s st r)
  refine { toPathsKept := hpaths, state := hrow 0, why := hrow 7, crest := hrow 2, event := ?_, config := ?_, since := ?_, reason := ?_,
           handover := ?_, rejoins := ?_, out := ?_, demoted := ?_, made := ?_, dropped := ?_, task := ?_ }
  · exact hevents.stands 24 (enteredCounts_event ..)
  · intro o ho hg
    have hbit : ∀ {m : Nat}, m.testBit (32 + 0x121) = true → m.testBit (32 + o / 4096) = true := fun h => hg ▸ h
    exact (hover.fld_eq (hbit (by decide)) 0 0).trans ((hcounts.fld_eq (hbit (by decide)) 0 0).trans (enteredRow_val s st r ho))
  · rw [htwin]; rfl
  · rw [htwin]; rfl
  · rw [htwin]; rfl
  · rw [htwin]; rfl
  · intro h4 hout
    rw [htwin]
    exact if_pos ⟨h4, hout⟩
  · rintro rfl
    rw [hcnt, if_neg (by simp), enteredCounts_demoted, enteredRow_cnt]
  · rintro rfl
    exact ⟨handoverOver_made .., by rw [hcnt, if_pos ⟨rfl, rfl⟩, enteredCounts_made, enteredRow_cnt]⟩
  · intro hh hr
    obtain rfl : true = b := by rw [← hd]; simp [hr, Option.isSome_iff_ne_none.mpr hh]
    obtain ⟨hraised, hdropped⟩ := enteredCounts_dropped (s.enteredRow st r) st
    exact ⟨hevents.stands 29 hraised, by rw [hcnt, if_neg (by simp), hdropped, enteredRow_cnt]⟩
  · intro k hk hl
    have hweir := (hcounts.weir_eq (by decide)).trans (enteredRow_weir s st r)
    rw [hk]
    exact handoverOver_completes r ((State.handleLive_congr (congrArg Weir.slots hweir) k).trans hl)

end Sys2Proof.Machine
end

section
/-! SUPPORT. Which transition of R393 is due, and how the evaluation that makes one after another ends (R385, R394). -/

namespace Sys2Proof.Machine

variable {s t u : State} {m st r : Nat} {rx : Bool}

/-! ## The transition that is due (R393) -/

/-- The partner has been out of service for 2 s, by what REJOINING has marked. -/
def State.outLong (s : State) : Bool := s.twin.outSince.any (fun t => decide (t + 2000000000 ≤ s.now))

theorem outLong_none (h : s.twin.outSince = none) : s.outLong = false := by rw [State.outLong, h, Option.any_none]

theorem outLong_some {a : Nat} (h : s.twin.outSince = some a) : s.outLong = decide (a + 2000000000 ≤ s.now) := by
  rw [State.outLong, h, Option.any_some]

theorem twinDueHigh_eq : s.twinDueHigh rx =
    if !s.twinEnabled || !s.full then none
    else if s.twinState = 4 ∧ s.partnerIn ∧ s.joinReady then some (2, 1)
    else if s.twinState = 4 ∧ s.outLong then some (0, 4)
    else if s.twinState = 4 ∧ (s.twin.partner.isSome && s.partnerPresent) ∧ s.partnerState = 4 ∧ s.partnerRank < s.rank then some (0, 4)
    else if s.twinState = 4 ∧ s.twin.since + s.val 0x12100B * 1000000000 ≤ s.now then some (3, 9)
    else if (s.twinState = 1 ∨ s.twinState = 2) ∧ s.partnerOut then some (0, s.lossReason)
    else if s.twinState = 0 ∧ rx ∧ (s.twin.partner.isSome && s.partnerPresent) ∧ s.partnerState = 2 then some (1, 1)
    else if (s.twinState = 1 ∨ s.twinState = 2) ∧ s.handoverDue then some (swapRole s.twinState, 5)
    else none := rfl

section
variable (he : s.twinEnabled = true) (hf : s.full = true)
include he hf

theorem due_joined (hst : s.twinState = 4) (hin : s.partnerIn = true) (hj : s.joinReady = true) : s.twinDueHigh rx = some (2, 1) := by
  simp [twinDueHigh_eq, he, hf, hst, hin, hj]

theorem due_partnerOut {b : Nat} (hst : s.twinState = 4) (hin : s.partnerIn = false) (hout : s.twin.outSince = some b)
    (hnow : b + 2000000000 ≤ s.now) : s.twinDueHigh rx = some (0, 4) := by
  have hlong : s.outLong = true := (outLong_some hout).trans (decide_eq_true hnow)
  simp [twinDueHigh_eq, he, hf, hst, hin, hlong]

theorem due_joinTimeout (hst : s.twinState = 4) (hj : s.partnerIn = true → s.joinReady = false) (hout : s.twin.outSince = none)
    (hrank : s.partnerState = 4 → s.rank ≤ s.partnerRank) (hnow : s.twin.since + s.val 0x12100B * 1000000000 ≤ s.now) :
    s.twinDueHigh rx = some (3, 9) := by
  have hin : ¬(s.partnerIn = true ∧ s.joinReady = true) := fun ⟨h, k⟩ => Bool.false_ne_true ((hj h).symm.trans k)
  have hlower : ¬(s.partnerState = 4 ∧ s.partnerRank < s.rank) := fun ⟨h, k⟩ => absurd (hrank h) (Nat.not_le.mpr k)
  simp [twinDueHigh_eq, he, hf, hst, hin, hlower, outLong_none hout, hnow]

theorem due_lost (hst : s.twinState = 1 ∨ s.twinState = 2) (hout : s.partnerOut = true) : s.twinDueHigh rx = some (0, s.lossReason) := by
  have h4 : s.twinState ≠ 4 := by omega
  simp [twinDueHigh_eq, he, hf, hst, h4, hout]

theorem due_handover (hst : s.twinState = 1 ∨ s.twinState = 2) (hout : s.partnerOut = false) (hdue : s.handoverDue = true) :
    s.twinDueHigh rx = some (swapRole s.twinState, 5) := by
  have h4 : s.twinState ≠ 4 := by omega
  have h0 : s.twinState ≠ 0 := by omega
  simp [twinDueHigh_eq, he, hf, hst, h4, h0, hout, hdue]

theorem due_leads (hst : s.twinState = 0) (hp : s.twin.partner.isSome = true) (hpresent : s.partnerPresent = true)
    (hstate : s.partnerState = 2) : s.twinDueHigh true = some (1, 1) := by
  simp [twinDueHigh_eq, he, hf, hst, hp, hpresent, hstate]

end

/-- A transition is due in DEMOTED only by the host or by a later beat of the partner. -/
theorem not_due_demoted (hst : s.twinState = 3) : s.twinDueHigh rx = none := by simp [twinDueHigh_eq, hst]

theorem not_due_alone (hst : s.twinState = 0) : s.twinDueHigh false = none := by simp [twinDueHigh_eq, hst]

theorem not_due_role (hst : s.twinState = 1 ∨ s.twinState = 2) (hout : s.partnerOut = false) (hh : s.handoverDue = false) :
    s.twinDueHigh rx = none := by
  have h4 : s.twinState ≠ 4 := by omega
  have h0 : s.twinState ≠ 0 := by omega
  simp [twinDueHigh_eq, h4, h0, hout, hh]

theorem not_due_joining {a : Nat} (hst : s.twinState = 4) (hp : s.partnerPresent = false) (hout : s.twin.outSince = some a)
    (ha : s.now < a + 2000000000) (hsince : s.now < s.twin.since + s.val 0x12100B * 1000000000) : s.twinDueHigh rx = none := by
  have hlong : s.outLong = false := (outLong_some hout).trans (decide_eq_false (Nat.not_le.mpr ha))
  simp [twinDueHigh_eq, State.partnerIn, hst, hp, hlong, Nat.not_le.mpr hsince]

/-- A twin is never demoted for its rank by what it knows without a beat (R375). -/
theorem dueHigh_reason_ne (h : s.twinDueHigh rx = some (st, r)) : r ≠ 8 := by
  have hloss : s.lossReason ≠ 8 := by
    unfold State.lossReason
    split_ifs <;> decide
  rintro rfl
  rw [twinDueHigh_eq] at h
  split_ifs at h <;> simp [hloss] at h

theorem twinDue_false : s.twinDue false = s.twinDueHigh false := by
  unfold State.twinDue
  cases s.twinDueHigh false <;> simp

theorem twinDue_of_high {x : Nat × Nat} (h : s.twinDueHigh rx = some x) : s.twinDue rx = some x := by simp [State.twinDue, h]

/-- A LEADER that hears a FOLLOWER of another rank stays. -/
theorem not_due_heard (hhigh : s.twinDueHigh true = none) (hstate : 1 < s.partnerState) (hrank : s.partnerRank ≠ s.rank) :
    s.twinDue true = none := by
  simp [State.twinDue, hhigh, hrank, Nat.not_le.mpr hstate]

/-! ## The marks that an evaluation leaves (R387, R394) -/

/-- The twin block with other marks of a split, of the partner out of service and of the beats heard. -/
def State.marked (s : State) (split : Bool) (out hear : Option Nat) : State :=
  s.setTwin { s.twin with splitOn := split, outSince := out, hearSince := hear }

theorem PathsKept.marked (s : State) (split : Bool) (out hear : Option Nat) : PathsKept s (s.marked split out hear) := .setTwin s rfl

theorem marked_due (split : Bool) : (s.marked split s.twin.outSince s.twin.hearSince).twinDue rx = s.twinDue rx := rfl

/-- An evaluation that no beat brings, or in which the partner does not lead, raises nothing for a split. -/
theorem splitCheck_marks (h : rx = false ∨ 1 < s.partnerState) :
    ∃ b, s.splitCheck rx = s.marked b s.twin.outSince s.twin.hearSince := by
  unfold State.splitCheck
  extract_lets on s1 x
  have hquiet : (rx && on && !s.twin.splitOn) = false := by
    obtain rfl | h := h
    · rfl
    · simp [on, Nat.not_le.mpr h]
  have h1 : s1 = s := if_neg (by rw [hquiet]; decide)
  have hx : x = s.twin := congrArg State.twin h1
  rw [h1, hx]
  exact ⟨on && (rx || s.twin.splitOn), rfl⟩

/-- In REJOINING the partner is out of service since the instant that was marked first. -/
def State.KeepsOut (s : State) (out : Option Nat) : Prop :=
  s.twinState = 4 → s.partnerOut = true → ∀ a, s.twin.outSince = some a → out = some a

theorem trackOut_marks (s : State) (b : Bool) : ∃ o h,
    (s.marked b s.twin.outSince s.twin.hearSince).trackOut = s.marked b o h ∧ s.KeepsOut o := by
  unfold State.trackOut
  extract_lets y x
  have hstate : (s.marked b s.twin.outSince s.twin.hearSince).twinState = s.twinState := rfl
  have hpartner : (s.marked b s.twin.outSince s.twin.hearSince).partnerOut = s.partnerOut := rfl
  rw [hstate, hpartner]
  split
  · split
    next hnone => exact ⟨_, _, rfl, fun _ _ a ha => absurd (ha.symm.trans hnone) nofun⟩
    next a hsome => exact ⟨_, _, rfl, fun _ _ a ha => ha⟩
  next hn => exact ⟨_, _, rfl, fun h4 hout => absurd ⟨h4, hout⟩ hn⟩

theorem twinEval_ends (hq : rx = false ∨ 1 < s.partnerState) (hdue : s.twinDue rx = none) (n : Nat) :
    ∃ b o h, State.twinEval rx (n + 1) s = s.marked b o h ∧ s.KeepsOut o := by
  obtain ⟨b, hb⟩ := splitCheck_marks hq
  obtain ⟨o, h, ho, hk⟩ := trackOut_marks s b
  refine ⟨b, o, h, ?_, hk⟩
  rw [State.twinEval, hb, marked_due, hdue]
  exact ho

theorem twinEval_goes (hq : rx = false ∨ 1 < s.partnerState) (hdue : s.twinDue rx = some (st, r)) (n : Nat) :
    ∃ b, State.twinEval rx (n + 1) s = State.twinEval rx n ((s.marked b s.twin.outSince s.twin.hearSince).enterTwin st r) := by
  obtain ⟨b, hb⟩ := splitCheck_marks hq
  refine ⟨b, ?_⟩
  rw [State.twinEval, hb, marked_due, hdue]

/-! ## A change of state through the evaluation -/

/-- The change does not depend on the marks of the evaluation that makes it. -/
theorem TwinEntered.of_marked {b : Bool} {o h : Option Nat} (k : TwinEntered st r (s.marked b o h) t) : TwinEntered st r s t where
  toPathsKept := (PathsKept.marked s b o h).trans k.toPathsKept
  state := k.state
  why := k.why
  crest := k.crest
  event := k.event
  config := k.config
  since := k.since
  reason := k.reason
  handover := k.handover
  rejoins := k.rejoins
  out := k.out
  demoted := k.demoted
  made := k.made
  dropped := k.dropped
  task := k.task

theorem TwinEntered.marked (k : TwinEntered st r s t) {b : Bool} {o h : Option Nat} (ho : t.KeepsOut o) :
    TwinEntered st r s (t.marked b o h) where
  toPathsKept := k.toPathsKept.trans (.marked ..)
  state := k.state
  why := k.why
  crest := k.crest
  event := k.event
  config := k.config
  since := k.since
  reason := k.reason
  handover := k.handover
  rejoins := k.rejoins
  out h4 hout := ho (k.state.trans h4) (k.partnerOut.trans hout) _ (k.out h4 hout)
  demoted := k.demoted
  made := k.made
  dropped := k.dropped
  task := k.task

/-- The change stands when the evaluation goes on and nothing more is due. -/
theorem TwinEntered.eval (k : TwinEntered st r s t) (hq : rx = false ∨ 1 < s.partnerState) (hdue : t.twinDue rx = none) (n : Nat) :
    TwinEntered st r s (State.twinEval rx (n + 1) t) := by
  obtain ⟨b, o, h, heval, hk⟩ := twinEval_ends (s := t) (hq.imp id fun h => by rwa [k.partnerState]) hdue n
  rw [heval]
  exact k.marked hk

/-- One transition is due, and none after it. -/
theorem twinEval_enters (hq : rx = false ∨ 1 < s.partnerState) (hdue : s.twinDue rx = some (st, r))
    (hlast : ∀ t, TwinEntered st r s t → t.twinDue rx = none) (n : Nat) : TwinEntered st r s (State.twinEval rx (n + 2) s) := by
  obtain ⟨b, heval⟩ := twinEval_goes hq hdue (n + 1)
  have k := (enterTwin_enters (s.marked b s.twin.outSince s.twin.hearSince) st r).of_marked
  rw [heval]
  exact k.eval hq (hlast _ k) n

/-- The same without a beat. -/
theorem twinSettle_enters (hdue : s.twinDueHigh false = some (st, r)) (hlast : ∀ t, TwinEntered st r s t → t.twinDueHigh false = none) :
    TwinEntered st r s s.twinSettle :=
  twinEval_enters (.inl rfl) (twinDue_of_high hdue) (fun t k => twinDue_false.trans (hlast t k)) 2

theorem twinSettle_marks (hdue : s.twinDueHigh false = none) : ∃ b o h, s.twinSettle = s.marked b o h ∧ s.KeepsOut o :=
  twinEval_ends (.inl rfl) (twinDue_false.trans hdue) 3

/-! ## Nothing is due after it -/

theorem TwinEntered.alone (k : TwinEntered 0 r s t) : t.twinDueHigh false = none := not_due_alone k.state

theorem TwinEntered.handoverDue (k : TwinEntered st r s t) : t.handoverDue = false := by simp [State.handoverDue, k.handover]

theorem TwinEntered.inRole (k : TwinEntered st r s t) (hst : st = 1 ∨ st = 2) (hout : s.partnerOut = false) : t.twinDueHigh rx = none :=
  not_due_role (by rwa [k.state]) (k.partnerOut.trans hout) k.handoverDue

/-- A node that rejoins without a partner waits for it. -/
theorem TwinEntered.joining (k : TwinEntered 4 r s t) (hp : s.partnerPresent = false) (hmax : 0 < s.val 0x12100B) :
    t.twinDueHigh rx = none := by
  have hout := k.out rfl (by simp [State.partnerOut, hp])
  refine not_due_joining k.state (k.partnerPresent.trans hp) hout (by rw [k.now]; omega) ?_
  rw [k.since, k.now, k.config _ (by decide) (by decide)]
  omega

end Sys2Proof.Machine
end

section
/-! SUPPORT. The paths between twins turn up or down (R381, R384, R385, R400), and what a loss of the partner makes of a LEADER or a
FOLLOWER (R393, R394). -/

namespace Sys2Proof.Machine

variable {s t u : State} {m st r d : Nat} {rx : Bool}

/-! ## A path turns -/

/-- At the same instant only the columns and counts of the two paths, and events, have changed. -/
structure LineTurned (s t : State) : Prop where
  evs : EventsStand s t
  status : ∀ c, c ≠ 4 → c ≠ 5 → t.fld oTwin 0 c = s.fld oTwin 0 c
  counts : ∀ c, 3 < c → t.fld oTwinCnt 0 c = s.fld oTwinCnt 0 c
  config : ∀ o, o ≠ oTwin → o / 4096 = 0x121 → t.val o = s.val o
  clk : t.clk = s.clk
  power : t.power = s.power
  weir : t.weir = s.weir
  mailbox : MailboxStays s t
  twin : t.twin = s.twin

namespace LineTurned

theorem refl (s : State) : LineTurned s s :=
  ⟨.refl s, fun _ _ _ => rfl, fun _ _ => rfl, fun _ _ _ => rfl, rfl, rfl, rfl, .refl s, rfl⟩

theorem trans (a : LineTurned s t) (b : LineTurned t u) : LineTurned s u where
  evs := a.evs.trans b.evs
  status c h4 h5 := (b.status c h4 h5).trans (a.status c h4 h5)
  counts c h := (b.counts c h).trans (a.counts c h)
  config o h k := (b.config o h k).trans (a.config o h k)
  clk := b.clk.trans a.clk
  power := b.power.trans a.power
  weir := b.weir.trans a.weir
  mailbox := a.mailbox.trans b.mailbox
  twin := b.twin.trans a.twin

theorem ite {c : Prop} [Decidable c] {a b : State} (ha : LineTurned s a) (hb : LineTurned s b) : LineTurned s (if c then a else b) := by
  split <;> assumption

theorem raise (s : State) (e : Nat) : LineTurned s (s.raise e) where
  evs := .raise s e
  status c _ _ := raise_status s e c
  counts c _ := raise_cnt s e c
  config o _ hg := raise_val s e (by rintro rfl; exact absurd hg (by decide))
  clk := raise_clk s e
  power := raise_power s e
  weir := (State.raise_keeps s e).weir_eq (by decide)
  mailbox := .raise s e
  twin := raise_twin s e

theorem twinCount (s : State) {c : Nat} (h : c ≤ 3) : LineTurned s (s.twinCount c) where
  evs := .bump ..
  status d _ _ := twinCount_fld s c d
  counts d hd := (twinCount_cnt s c d).trans (if_neg (by omega))
  config o _ hg := fld_setFld_of_ne s 0 c 0 0 _ (by rintro rfl; exact absurd hg (by decide))
  clk := rfl
  power := rfl
  weir := rfl
  mailbox := .bump ..
  twin := rfl

theorem setTwinCol (s : State) {c : Nat} (v : Nat) (h : c = 4 ∨ c = 5) : LineTurned s (s.setTwinCol c v) where
  evs := .setFld ..
  status d h4 h5 := (setTwinCol_fld s c v d).trans (if_neg (by omega))
  counts d _ := setTwinCol_cnt s c v d
  config o ho _ := fld_setFld_of_ne s 0 c 0 0 v ho
  clk := rfl
  power := rfl
  weir := rfl
  mailbox := .setFld ..
  twin := rfl

theorem setDike (s : State) (d : Nat) : LineTurned s (s.setDike d) := by
  unfold State.setDike
  extract_lets s1 s2
  have h1 : LineTurned s s1 := ite (twinCount s (by decide)) (refl s)
  have h2 : LineTurned s s2 := (h1.trans (setTwinCol s1 d (by decide))).trans (raise ..)
  exact ite (refl s) (ite (h2.trans ((twinCount s2 (by decide)).trans (raise ..))) h2)

theorem setChain (s : State) (up : Bool) : LineTurned s (s.setChain up) :=
  ite (refl s) (((ite (refl s) (twinCount s (by decide)) : LineTurned s (if up then s else s.twinCount 3)).trans
    (setTwinCol _ _ (by decide))).trans (raise ..))

theorem now (h : LineTurned s t) : t.now = s.now := State.now_congr h.clk

theorem full (h : LineTurned s t) : t.full = s.full := congrArg (fun p : Power => p.service == .full && !p.inReset) h.power

theorem twinEnabled (h : LineTurned s t) : t.twinEnabled = s.twinEnabled := congrArg (· == 1) (h.config 0x121001 (by decide) (by decide))

theorem twinState (h : LineTurned s t) : t.twinState = s.twinState := h.status 0 (by decide) (by decide)

theorem handleLive (h : LineTurned s t) (k : Nat) : t.handleLive k = s.handleLive k :=
  State.handleLive_congr (congrArg Weir.slots h.weir) k

end LineTurned

section
variable (s : State) (d : Nat)

theorem setDike_same (h : s.dike = d) : s.setDike d = s := if_pos h

theorem setDike_dike : (s.setDike d).dike = d := by
  by_cases h : s.dike = d
  · rw [setDike_same s d h, h]
  · have hcol : ∀ v : State, (v.setTwinCol 4 d).dike = d := fun v => (setTwinCol_fld v 4 d 4).trans (if_pos rfl)
    unfold State.setDike
    rw [if_neg h]
    extract_lets s1 s2
    have h2 : s2.dike = d := (raise_status ..).trans (hcol s1)
    split
    · exact (raise_status ..).trans ((twinCount_fld ..).trans h2)
    · exact h2

theorem setDike_chainUp : (s.setDike d).chainUp = s.chainUp := by
  unfold State.setDike State.chainUp
  split_ifs <;> simp [setTwinCol_fld]

theorem setDike_event (h : s.dike ≠ d) : (s.setDike d).raised 26 = true := by
  unfold State.setDike
  rw [if_neg h]
  extract_lets s1 s2
  have h2 : s2.raised 26 = true := raised_raise_self _ _ (by decide)
  split
  · exact raised_raise _ _ _ ((EventsStand.bump s2 oTwinCnt 0 1).stands 26 h2)
  · exact h2

theorem setDike_dropped (h : s.dike ≠ 2) : (s.setDike 2).raised 25 = true ∧
    (s.setDike 2).fld oTwinCnt 0 1 = (s.fld oTwinCnt 0 1 + 1) % 2 ^ 64 := by
  unfold State.setDike
  rw [if_neg h]
  refine ⟨raised_raise_self _ _ (by decide), ?_⟩
  by_cases h1 : s.dike = 1 <;> simp [h1, twinCount_cnt]

theorem setDike_down (h : s.dike = 1) : (s.setDike 0).fld oTwinCnt 0 2 = (s.fld oTwinCnt 0 2 + 1) % 2 ^ 64 := by
  simp [State.setDike, h, twinCount_cnt]

theorem setChain_chainUp (up : Bool) : (s.setChain up).chainUp = up := by
  unfold State.setChain
  split_ifs <;> cases up <;> simp_all [State.chainUp, setTwinCol_fld, b2n]

theorem setChain_event (up : Bool) (h : s.chainUp ≠ up) : (s.setChain up).raised 27 = true := by
  unfold State.setChain
  rw [if_neg h]
  exact raised_raise_self _ _ (by decide)

theorem setChain_down (h : s.chainUp = true) : (s.setChain false).dike = s.dike ∧
    (s.setChain false).fld oTwinCnt 0 3 = (s.fld oTwinCnt 0 3 + 1) % 2 ^ 64 := by
  simp [State.setChain, State.dike, h, twinCount_cnt, setTwinCol_fld]

end

/-! ## The loss of the partner (R393, R394) -/

/-- With its partner lost a LEADER or a FOLLOWER is ALONE. -/
theorem lost_alone (k : LineTurned s t) (hf : s.full = true) (he : s.twinEnabled = true) (hst : s.twinState = 1 ∨ s.twinState = 2)
    (hp : t.partnerPresent = false) : TwinEntered 0 (if t.dike = 2 then 3 else 2) t t.twinSettle := by
  have hreason : t.lossReason = if t.dike = 2 then 3 else 2 := by simp [State.lossReason, hp]
  rw [← hreason]
  exact twinSettle_enters (due_lost (k.twinEnabled.trans he) (k.full.trans hf) (by rwa [k.twinState]) (by simp [State.partnerOut, hp]))
    fun _ h => h.alone

theorem partnerPresent_dropped (h : s.dike = 2) : s.partnerPresent = false := by simp [State.partnerPresent, h]

theorem partnerPresent_down (h : s.dike = 0) (hc : s.chainUp = false) : s.partnerPresent = false := by simp [State.partnerPresent, h, hc]

end Sys2Proof.Machine
end

section
/-! SUPPORT. The timed changes of a twin's state, and the handover at its instant or withdrawn (R393, R394, R396 to R400). -/

namespace Sys2Proof.Machine

variable {s t u : State} {m st r d a : Nat} {b : Option Nat} {rx : Bool}

/-! ## After the command -/

/-- What a command of the twins brings stands once the update has seen to it. -/
theorem afterTwin_next (s u : State) : ∃ t, ans s (State.afterTwin s u) = .next t ∧ TwinShown u t ∧ t.twin = u.twin :=
  ans_next (fun _ _ ⟨h, k⟩ => ⟨⟨⟨⟨h.evs.stands⟩, ⟨h.results.stands⟩, ⟨h.mailbox.busy⟩, h.now⟩, h.objs, h.twin⟩, k⟩)
    ⟨.afterTwin s u, afterTwin_twin s u⟩

theorem TwinEntered.shown (k : TwinEntered st r s t) (h : TwinShown t u) : TwinEntered st r s u where
  toPathsKept := k.toPathsKept.trans h.paths
  state := h.twinState.trans k.state
  why := (h.status 7).trans k.why
  crest := (h.status 2).trans k.crest
  event := h.evs.stands 24 k.event
  config o ho hg := (h.objs o (.inl hg) 0 0).trans (k.config o ho hg)
  since := (congrArg Twin.since h.twin).trans k.since
  reason := (congrArg Twin.reason h.twin).trans k.reason
  handover := (congrArg Twin.handover h.twin).trans k.handover
  rejoins := (congrArg Twin.rejoins h.twin).trans k.rejoins
  out h4 hout := (congrArg Twin.outSince h.twin).trans (k.out h4 hout)
  demoted h3 := (h.counts 8).trans (k.demoted h3)
  made h5 := ⟨h.evs.stands 29 (k.made h5).1, (h.counts 9).trans (k.made h5).2⟩
  dropped hh hr := ⟨h.evs.stands 29 (k.dropped hh hr).1, (h.counts 10).trans (k.dropped hh hr).2⟩
  task i hi hl := h.results.stands _ _ (k.task i hi hl)

/-! ## REJOINING and DEMOTED (R393) -/

theorem partnerOut_alone (hf : s.full = true) (he : s.twinEnabled = true) (hst : s.twinState = 4) {b : Nat}
    (hout : s.twin.outSince = some b) (hin : s.partnerIn = false) : ∃ t, exec .partnerOut s = .next t ∧ t.twinState = 0 ∧
      t.fld oTwin 0 7 = 4 ∧ b + 2000000000 ≤ t.now ∧ t.fld oTwin 0 2 = crestFor 0 s.rank ∧ t.raised 24 = true := by
  have hexec : execPartnerOut s = (s.advanceTo (b + 2000000000)).twinSettle := by
    simp only [execPartnerOut, hout]
    exact if_pos ⟨hf, he, hst⟩
  have hnow := le_now_advanceTo s (b + 2000000000)
  have hk := twinSettle_enters (s := s.advanceTo (b + 2000000000)) (due_partnerOut ((advanceTo_twinEnabled ..).trans he)
    ((advanceTo_full ..).trans hf) ((advanceTo_twinState ..).trans hst) ((advanceTo_partnerIn ..).trans hin)
    ((congrArg Twin.outSince (advanceTo_twin ..)).trans hout) hnow) fun _ h => h.alone
  obtain ⟨t, ht, hshown, -⟩ := afterTwin_next s (execPartnerOut s)
  rw [hexec] at hshown
  have k := hk.shown hshown
  exact ⟨t, ht, k.state, k.why, hnow.trans_eq k.now.symm, k.crest.trans (by rw [advanceTo_rank]), k.event⟩

/-- JOIN_TIMEOUT evaluates at the instant at which joining has taken too long. -/
theorem execJoinTimeout_eq (hf : s.full = true) (he : s.twinEnabled = true) (hst : s.twinState = 4) :
    execJoinTimeout s = (s.advanceTo (s.twin.since + s.val 0x12100B * 1000000000)).twinSettle := if_pos ⟨hf, he, hst⟩

theorem joinTimeout_follows (hf : s.full = true) (he : s.twinEnabled = true) (hst : s.twinState = 4)
    (hu : u = s.advanceTo (s.twin.since + s.val 0x12100B * 1000000000)) (hin : s.partnerIn = true) (hj : u.joinReady = true) :
    ∃ t, exec .joinTimeout s = .next t ∧ t.twinState = 2 ∧ t.fld oTwin 0 7 = 1 := by
  subst hu
  have hout : s.partnerOut = false := by
    simp only [State.partnerIn, Bool.and_eq_true, decide_eq_true_eq] at hin
    obtain ⟨hp, hle⟩ := hin
    simp only [State.partnerOut, hp, Bool.not_true, Bool.false_or, Bool.or_eq_false_iff, beq_eq_false_iff_ne]
    omega
  have hk := twinSettle_enters (due_joined ((advanceTo_twinEnabled ..).trans he) ((advanceTo_full ..).trans hf)
    ((advanceTo_twinState ..).trans hst) ((advanceTo_partnerIn ..).trans hin) hj)
    fun _ h => h.inRole (.inr rfl) ((advanceTo_partnerOut ..).trans hout)
  obtain ⟨t, ht, hshown, -⟩ := afterTwin_next s (execJoinTimeout s)
  rw [execJoinTimeout_eq hf he hst] at hshown
  have k := hk.shown hshown
  exact ⟨t, ht, k.state, k.why⟩

theorem joinTimeout_demotes (hf : s.full = true) (he : s.twinEnabled = true) (hst : s.twinState = 4)
    (hu : u = s.advanceTo (s.twin.since + s.val 0x12100B * 1000000000)) (hj : s.partnerIn = true → u.joinReady = false)
    (hout : s.twin.outSince = none) (hrank : s.partnerState = 4 → s.rank ≤ s.partnerRank) :
    ∃ t, exec .joinTimeout s = .next t ∧ t.twinState = 3 ∧ t.fld oTwin 0 7 = 9 ∧ t.fld oTwin 0 2 = 0 ∧
      s.twin.since + s.val 0x12100B * 1000000000 ≤ t.now ∧ t.fld oTwinCnt 0 8 = (s.fld oTwinCnt 0 8 + 1) % 2 ^ 64 := by
  subst hu
  have hnow := le_now_advanceTo s (s.twin.since + s.val 0x12100B * 1000000000)
  obtain ⟨t, ht, hshown, -⟩ := afterTwin_next s (execJoinTimeout s)
  rw [execJoinTimeout_eq hf he hst] at hshown
  generalize hu : s.advanceTo (s.twin.since + s.val 0x12100B * 1000000000) = u at hnow hj hshown
  have hk := twinSettle_enters (s := u) (due_joinTimeout (by rw [← hu, advanceTo_twinEnabled, he]) (by rw [← hu, advanceTo_full, hf])
    (by rw [← hu, advanceTo_twinState, hst]) (by rwa [← hu, advanceTo_partnerIn, hu]) (by rw [← hu, advanceTo_twin, hout])
    (by rwa [← hu, advanceTo_partnerState, advanceTo_rank, advanceTo_partnerRank])
    (by rw [← hu, advanceTo_twin, advanceTo_val, hu]; exact hnow)) fun _ h => not_due_demoted h.state
  have k := hk.shown hshown
  have hcnt : u.fld oTwinCnt 0 8 = s.fld oTwinCnt 0 8 := by rw [← hu, advanceTo_fld]
  exact ⟨t, ht, k.state, k.why, k.crest, hnow.trans_eq k.now.symm, by rw [k.demoted rfl, hcnt]⟩

section
variable {recent : List Nat} (hf : s.full = true) (he : s.twinEnabled = true) (hst : s.twinState = 3)
  (hreason : s.twin.reason = 6 ∨ s.twin.reason = 9) (hu : u = s.advanceTo (s.twin.since + s.val 0x12100D * 1000000000))
  (hrecent : recent = s.twin.rejoins.filter (fun x => decide (u.now ≤ x + 3600000000000) && decide (x < u.now)))
include hf he hst hreason hu hrecent

theorem execHoldElapsed_eq : execHoldElapsed s = if recent.length < 3 then
    ((u.setTwin { u.twin with rejoins := u.now :: recent }).enterTwin 4 10).twinSettle else u := by
  have htwin : u.twin.rejoins = s.twin.rejoins := by rw [hu, advanceTo_twin]
  unfold execHoldElapsed
  rw [if_pos ⟨hf, he, hst, hreason⟩, ← hu]
  extract_lets v marks
  have hmarks : marks = recent := by rw [hrecent, ← htwin]
  rw [hmarks]

theorem holdElapsed_rejoins (hlen : recent.length < 3) (hp : s.partnerPresent = false) (hmax : 0 < s.val 0x12100B) :
    ∃ t, exec .holdElapsed s = .next t ∧ t.twinState = 4 ∧ t.fld oTwin 0 7 = 10 ∧ t.twin.rejoins = u.now :: recent ∧
      t.twin.outSince = some u.now := by
  obtain ⟨t, ht, hshown, -⟩ := afterTwin_next s (execHoldElapsed s)
  rw [execHoldElapsed_eq hf he hst hreason hu hrecent, if_pos hlen] at hshown
  have hlost : u.partnerPresent = false := by rw [hu, advanceTo_partnerPresent, hp]
  have hval : u.val 0x12100B = s.val 0x12100B := by rw [hu, advanceTo_val]
  have hk := enterTwin_enters (u.setTwin { u.twin with rejoins := u.now :: recent }) 4 10
  have hnone := hk.joining (rx := false) hlost (hval ▸ hmax)
  have k := (hk.eval (.inl rfl) (twinDue_false.trans hnone) 3).shown hshown
  have hout : u.partnerOut = true := by simp [State.partnerOut, hlost]
  exact ⟨t, ht, k.state, k.why, k.rejoins, k.out rfl hout⟩

theorem holdElapsed_stays (hlen : 3 ≤ recent.length) : ∃ t, exec .holdElapsed s = .next t ∧ t.twinState = 3 := by
  obtain ⟨t, ht, hshown, -⟩ := afterTwin_next s (execHoldElapsed s)
  rw [execHoldElapsed_eq hf he hst hreason hu hrecent, if_neg (by omega)] at hshown
  exact ⟨t, ht, hshown.twinState.trans (by rw [hu, advanceTo_twinState, hst])⟩

end

end Sys2Proof.Machine
end

section
/-! SUPPORT. The request to revert and the handover, at its instant or withdrawn (R396 to R400). -/

namespace Sys2Proof.Machine

variable {s t u : State} {m st r d a : Nat} {b : Option Nat}

/-! ## The request to revert (R398) -/

theorem revertReq_asks (hf : s.full = true) (he : s.twinEnabled = true) (hst : s.twinState = 2) (hmode : s.val 0x121004 = 1)
    (hsvc : s.val 0x120002 ≤ 8) : ∃ t, exec .revertReq s = .next t ∧ t.twin.revertReq = true ∧
      s.twin.since + s.val 0x12100C * 1000000000 ≤ t.now := by
  obtain ⟨t, ht, hshown, htwin⟩ := afterTwin_next s (execRevertReq s)
  have hexec : execRevertReq s = (s.advanceTo (s.twin.since + s.val 0x12100C * 1000000000)).setTwin
      { (s.advanceTo (s.twin.since + s.val 0x12100C * 1000000000)).twin with revertReq := true } :=
    if_pos ⟨hf, he, hst, hmode, hsvc⟩
  rw [hexec] at hshown htwin
  refine ⟨t, ht, by rw [htwin, setTwin_twin], ?_⟩
  exact (le_now_advanceTo s _).trans_eq (((WorkStands.setTwin ..).trans hshown.toWorkStands).now.symm)

/-! ## The handover at its instant (R394, R396, R397) -/

theorem pathsDue_current (hbeat : ∀ x, u.twin.beatAt = some x → u.dike = 1 → u.now < x + 1000000)
    (hheart : ∀ x, u.twin.heartAt = some x → u.chainUp = true → u.now < x + u.val 0x121008 * u.val 0x121007 * 1000000) :
    u.pathsDue = u.twinSettle.bermQuench := by
  have hcurrent : ∀ {p q : Prop}, (p → ¬q) → ¬(p ∧ q) := fun h ⟨hp, hq⟩ => h hp hq
  have h1 : (match u.twin.beatAt with
      | some t => if u.dike = 1 ∧ t + 1000000 ≤ u.now then u.setDike 0 else u
      | none => u) = u := by
    split
    next x hx => exact if_neg (hcurrent fun h => Nat.not_le.mpr (hbeat x hx h))
    next => rfl
  unfold State.pathsDue
  extract_lets s1 s2
  have hs1 : s1 = u := h1
  have h2 : s2 = u := by
    simp only [s2, hs1]
    split
    next x hx => exact if_neg (hcurrent fun h => Nat.not_le.mpr (hheart x hx h))
    next => rfl
  rw [h2]

/-- The Dike is silent and the chain is down: what is left is the loss of the Dike. -/
theorem pathsDue_silent {x : Nat} (hx : u.twin.beatAt = some x) (hd : u.dike = 1) (hc : u.chainUp = false) (hnow : x + 1000000 ≤ u.now) :
    u.pathsDue = (u.setDike 0).twinSettle.bermQuench := by
  have hchain : (u.setDike 0).chainUp = false := (setDike_chainUp u 0).trans hc
  unfold State.pathsDue
  simp only [hx, if_pos (And.intro hd hnow), hchain, Bool.false_eq_true, false_and, if_false]
  split <;> rfl

section
variable (hh : s.twin.handover = some (a, b, true)) (hu : u = s.advanceTo a) (hf : s.full = true) (he : s.twinEnabled = true)
  (hst : s.twinState = 1 ∨ s.twinState = 2)
include hh hu hf he hst

theorem handover_swaps (hout : s.partnerOut = false) (hbeat : ∀ x, s.twin.beatAt = some x → s.dike = 1 → u.now < x + 1000000)
    (hheart : ∀ x, s.twin.heartAt = some x → s.chainUp = true → u.now < x + s.val 0x121008 * s.val 0x121007 * 1000000) :
    ∃ t, exec .handover s = .next t ∧ t.twinState = swapRole s.twinState ∧ t.fld oTwin 0 7 = 5 ∧
      t.fld oTwin 0 2 = crestFor (swapRole s.twinState) s.rank ∧ t.twin.handover = none ∧ t.raised 29 = true ∧
      t.fld oTwinCnt 0 9 = (s.fld oTwinCnt 0 9 + 1) % 2 ^ 64 ∧
      ∀ k, s.twin.handoverTask = some k → s.handleLive k = true → Completed t k stOk := by
  have htwin : u.twin = s.twin := by rw [hu, advanceTo_twin]
  have hstate : u.twinState = s.twinState := by rw [hu, advanceTo_twinState]
  have hnow : a ≤ u.now := hu ▸ le_now_advanceTo s a
  have hpaths : execHandover s = u.twinSettle.bermQuench := by
    simp only [execHandover, hh]
    rw [← hu]
    refine pathsDue_current (fun x hx hd => hbeat x (htwin ▸ hx) ?_) fun x hx hc => ?_
    · rwa [hu, advanceTo_dike] at hd
    · rw [hu, advanceTo_chainUp] at hc
      rw [htwin] at hx
      have hvals : ∀ o, u.val o = s.val o := fun o => by rw [hu, advanceTo_val]
      rw [hvals, hvals]
      exact hheart x hx hc
  have hdue : u.handoverDue = true := by simp [State.handoverDue, htwin, hh, hnow]
  have houtu : u.partnerOut = false := by rw [hu, advanceTo_partnerOut, hout]
  have hswap : swapRole s.twinState = 1 ∨ swapRole s.twinState = 2 := by rcases hst with h | h <;> simp [h, swapRole]
  have hduehigh := due_handover (rx := false) (by rw [hu, advanceTo_twinEnabled, he]) (by rw [hu, advanceTo_full, hf]) (hstate ▸ hst)
    houtu hdue
  rw [hstate] at hduehigh
  have hk := twinSettle_enters hduehigh fun _ h => h.inRole hswap houtu
  obtain ⟨t, ht, hshown, -⟩ := afterTwin_next s (execHandover s)
  rw [hpaths] at hshown
  have k := hk.shown ((TwinShown.bermQuench _).trans hshown)
  obtain ⟨hmade, hcount⟩ := k.made rfl
  refine ⟨t, ht, k.state, k.why, ?_, k.handover, hmade, ?_, fun n hn hl => k.task n (htwin ▸ hn) ?_⟩
  · rw [k.crest, hu, advanceTo_rank]
  · rw [hcount, hu, advanceTo_fld]
  · rw [hu, advanceTo_handleLive, hl]

theorem handover_lost {x : Nat} (hx : s.twin.beatAt = some x) (hd : s.dike = 1) (hc : s.chainUp = false) (hdue : x + 1000000 ≤ u.now) :
    ∃ t, exec .handover s = .next t ∧ t.twinState = 0 ∧ t.fld oTwin 0 7 = 2 ∧ t.twin.handover = none ∧ t.raised 29 = true ∧
      t.fld oTwinCnt 0 10 = (s.fld oTwinCnt 0 10 + 1) % 2 ^ 64 ∧
      ∀ k, s.twin.handoverTask = some k → s.handleLive k = true → Completed t k stCancelled := by
  have htwin : u.twin = s.twin := by rw [hu, advanceTo_twin]
  have hcu : u.chainUp = false := by rw [hu, advanceTo_chainUp, hc]
  have hpaths : execHandover s = (u.setDike 0).twinSettle.bermQuench := by
    simp only [execHandover, hh]
    rw [← hu]
    exact pathsDue_silent (htwin ▸ hx) (by rw [hu, advanceTo_dike, hd]) hcu hdue
  have hline := LineTurned.setDike u 0
  have hdike := setDike_dike u 0
  have hk := lost_alone hline (by rw [hu, advanceTo_full, hf]) (by rw [hu, advanceTo_twinEnabled, he])
    (by rwa [hu, advanceTo_twinState]) (partnerPresent_down hdike ((setDike_chainUp u 0).trans hcu))
  rw [hdike] at hk
  obtain ⟨t, ht, hshown, -⟩ := afterTwin_next s (execHandover s)
  rw [hpaths] at hshown
  have k := hk.shown ((TwinShown.bermQuench _).trans hshown)
  obtain ⟨hraised, hcount⟩ := k.dropped (by rw [hline.twin, htwin, hh]; simp) (by decide)
  refine ⟨t, ht, k.state, k.why, k.handover, hraised, ?_, fun n hn hl => k.task n (by rw [hline.twin, htwin, hn]) ?_⟩
  · rw [hcount, hline.counts 10 (by decide), hu, advanceTo_fld]
  · rw [hline.handleLive, hu, advanceTo_handleLive, hl]

end

/-! ## The handover withdrawn (R396) -/

/-- What withdrawing the handover of s has brought in t, and what it leaves. -/
structure Withdrawn (s t : State) : Prop extends PathsKept s t where
  handover : t.twin.handover = none
  instant : t.fld oTwin 0 9 = 0
  state : t.twinState = s.twinState
  event : t.raised 29 = true
  dropped : t.fld oTwinCnt 0 10 = (s.fld oTwinCnt 0 10 + 1) % 2 ^ 64
  task : ∀ k, s.twin.handoverTask = some k → s.handleLive k = true → Completed t k stCancelled

theorem withdraw_withdraws (s : State) : Withdrawn s s.withdraw := by
  have hpaths := PathsKept.withdraw s
  unfold State.withdraw
  extract_lets x s1
  have hcol : ∀ c, s1.fld oTwin 0 c = if c = 9 then 0 else s.fld oTwin 0 c := fun c => setTwinCol_fld _ 9 0 c
  have hend := fun v : State => State.completeOpt_keeps v s.twin.handoverTask stCancelled
  have hstatus : ∀ c, ((((s1.twinCount 10).raise 29)).completeOpt s.twin.handoverTask stCancelled).fld oTwin 0 c = s1.fld oTwin 0 c :=
    fun c => ((hend _).fld_eq (by decide) 0 c).trans ((raise_status ..).trans (twinCount_fld ..))
  refine { toPathsKept := hpaths, handover := ?_, instant := ?_, state := ?_, event := ?_, dropped := ?_, task := ?_ }
  · rw [(hend _).twin_eq (by decide), raise_twin, twinCount_twin]
    rfl
  · exact (hstatus 9).trans (hcol 9)
  · exact (hstatus 0).trans (hcol 0)
  · exact (EventsStand.completeOpt ..).stands 29 (raised_raise_self _ _ (by decide))
  · rw [(hend _).fld_eq (by decide) 0 10, raise_cnt, twinCount_cnt, if_pos rfl]
    exact congrArg (fun n => (n + 1) % 2 ^ 64) (setTwinCol_cnt ..)
  · intro k hk hl
    have hweir : s1.weir = s.weir := by simp only [s1, State.setTwinCol, setFld_weir, State.setTwin]
    have hlive := State.handleLive_congr (s := s) (t := (s1.twinCount 10).raise 29)
      (congrArg Weir.slots (((State.raise_keeps ..).weir_eq (by decide)).trans ((setFld_weir ..).trans hweir))) k
    rw [hk]
    exact completeOpt_completes (hlive.trans hl) stCancelled

theorem Withdrawn.shown (k : Withdrawn s t) (h : TwinShown t u) : Withdrawn s u where
  toPathsKept := k.toPathsKept.trans h.paths
  handover := (congrArg Twin.handover h.twin).trans k.handover
  instant := (h.status 9).trans k.instant
  state := h.twinState.trans k.state
  event := h.evs.stands 29 k.event
  dropped := (h.counts 10).trans k.dropped
  task n hn hl := h.results.stands _ _ (k.task n hn hl)

theorem handoverWithdraw_withdraws (hh : s.twin.handover = some (a, b, false)) (hst : s.twinState = 1) :
    ∃ t, exec .handoverWithdraw s = .next t ∧ t.twin.handover = none ∧ t.twinState = 1 ∧ t.fld oTwin 0 9 = 0 ∧ t.raised 29 = true ∧
      t.fld oTwinCnt 0 10 = (s.fld oTwinCnt 0 10 + 1) % 2 ^ 64 ∧
      ∀ k, s.twin.handoverTask = some k → s.handleLive k = true → Completed t k stCancelled := by
  have hexec : execHandoverWithdraw s = (s.advanceTo (a - 100000000)).withdraw := by
    simp only [execHandoverWithdraw, hh]
    exact if_pos hst
  obtain ⟨t, ht, hshown, -⟩ := afterTwin_next s (execHandoverWithdraw s)
  rw [hexec] at hshown
  have k := (withdraw_withdraws _).shown hshown
  refine ⟨t, ht, k.handover, ?_, k.instant, k.event, ?_, fun n hn hl => k.task n ?_ ?_⟩
  · rw [k.state, advanceTo_twinState, hst]
  · rw [k.dropped, advanceTo_fld]
  · rw [advanceTo_twin, hn]
  · rw [advanceTo_handleLive, hl]

/-- Settles O53: each evaluation has one transition due and none after it; what the change of state brings stands through what follows a
command of the twins. A handover dropped by the loss of the partner is cancelled with event 29, counted, and its task is CANCELLED by
the model's choice (log entry 81). -/
theorem twinTransitions : Obligations.TwinTransitions := by
  refine ⟨fun _ _ hf _ he hst hout hin => partnerOut_alone hf he hst hout hin, fun _ _ hf _ he hst hu =>
    ⟨joinTimeout_follows hf he hst hu, joinTimeout_demotes hf he hst hu⟩, fun _ _ _ hf he hst hreason hu hrecent =>
    ⟨holdElapsed_rejoins hf he hst hreason hu hrecent, holdElapsed_stays hf he hst hreason hu hrecent⟩,
    fun _ hf _ he hst hmode hsvc => revertReq_asks hf he hst hmode hsvc, fun _ _ _ _ hh hu hf _ he hst =>
    ⟨handover_swaps hh hu hf he hst, fun _ => handover_lost hh hu hf he hst⟩, fun _ _ _ hh hst => handoverWithdraw_withdraws hh hst⟩

end Sys2Proof.Machine
end

section
/-! SUPPORT. The commands of a twin: DEMOTE, HANDOVER_AT and REJOIN (R375, R393, R399). -/

namespace Sys2Proof.Machine

variable {s t u : State} {st r v : Nat} {x : Row} {o : Origin}

/-! ## What is left of a write of the twins -/

/-- The answer to a write of the twins, and what of its result stands. -/
structure TwinAnswered (w : WRes) (t : State) : Prop where
  ans : Answers t w.status w.handle
  evs : EventsStand w.st t
  results : ResultsStand w.st t
  status : ∀ c, t.fld oTwin 0 c = w.st.fld oTwin 0 c
  counts : ∀ c, t.fld oTwinCnt 0 c = w.st.fld oTwinCnt 0 c
  twin : t.twin = w.st.twin

theorem twin_answered {ob k : Nat} {f : Hook} {row : ObjDef → Option Row} (h : Passes s o ob k row x) (hk : hookOf ob = twinHook f) :
    TwinAnswered (f (Who.of o) k x s) (s.request o ob k row) := by
  have c := request_of h hk
  have hshown := TwinShown.afterTwin s (f (Who.of o) k x s).st
  exact ⟨c.ans, hshown.evs.trans ⟨c.evs⟩, hshown.results.trans (.of_slots (congrArg Weir.slots (c.keeps.weir_eq (by decide)))),
    fun d => (c.twinShown d).trans (hshown.status d), fun d => (c.keeps.fld_eq (by decide) 0 d).trans (hshown.counts d),
    (c.keeps.twin_eq (by decide)).trans (afterTwin_twin ..)⟩

namespace TwinAnswered

/-- A write that does nothing. -/
theorem idle (c : TwinAnswered (done s) t) : t.twinState = s.twinState ∧ t.twin = s.twin := ⟨c.status 0, c.twin⟩

theorem refused {n : Nat} (c : TwinAnswered (refuse s n) t) : Answers t n 0 ∧ t.twin = s.twin := ⟨c.ans, c.twin⟩

theorem entered (c : TwinAnswered (done u) t) (k : TwinEntered st r s u) : t.twinState = st ∧ t.fld oTwin 0 7 = r ∧ t.raised 24 = true :=
  ⟨(c.status 0).trans k.state, (c.status 7).trans k.why, c.evs.stands 24 k.event⟩

end TwinAnswered

/-! ## DEMOTE (R375, R393) -/

/-- What is due by now never demotes a twin for its rank. -/
theorem twinEval_not_rank (n : Nat) (h : ¬(s.twinState = 3 ∧ s.twin.reason = 8)) :
    ¬((State.twinEval false n s).twinState = 3 ∧ (State.twinEval false n s).twin.reason = 8) := by
  induction n generalizing s with
  | zero => exact h
  | succ n ih =>
    cases hdue : s.twinDue false with
    | none =>
      obtain ⟨b, out, hear, heval, -⟩ := twinEval_ends (s := s) (.inl rfl) hdue n
      rw [heval]
      exact h
    | some e =>
      obtain ⟨b, heval⟩ := twinEval_goes (s := s) (st := e.1) (r := e.2) (.inl rfl) hdue n
      rw [heval]
      refine ih fun ⟨_, hrank⟩ => ?_
      exact dueHigh_reason_ne (twinDue_false.symm.trans hdue) ((enterTwin_enters ..).reason.symm.trans hrank)

theorem demoted_stays (hst : s.twinState = 3) (hr : s.twin.reason = 8) : ∃ b out hear, (writeDemote v s = done (s.marked b out hear)) ∨
    writeDemote v s = done s := by
  obtain ⟨b, out, hear, hsettle, -⟩ := twinSettle_marks (s := s) (not_due_demoted hst)
  refine ⟨b, out, hear, ?_⟩
  unfold writeDemote
  rw [hsettle]
  split
  · exact .inl (congrArg done (if_pos ⟨hst, hr⟩))
  · exact .inr rfl

theorem demote_answered (hp : Passes s o 0x502000 0 (fun d => numRow d v) x) :
    ∃ t, exec (.demote v o) s = .next t ∧ Answers t stOk 0 ∧
      (v = 1 → s.twinEnabled = true → ¬(s.twinState = 3 ∧ s.twin.reason = 8) → t.twinState = 3 ∧ t.fld oTwin 0 7 = 7 ∧ t.raised 24 = true ∧
        (s.twinDueHigh false = none → t.fld oTwinCnt 0 8 = (s.fld oTwinCnt 0 8 + 1) % 2 ^ 64)) ∧
      (s.twinState = 3 → s.twin.reason = 8 → t.twinState = 3 ∧ t.twin.reason = 8 ∧ t.fld oTwin 0 7 = s.fld oTwin 0 7) ∧
      ((v = 0 ∨ s.twinEnabled = false) → t.twinState = s.twinState ∧ t.twin = s.twin) := by
  obtain rfl := passes_num hp rfl rfl rfl
  refine ans_next (u := s.request o 0x502000 0 (fun d => numRow d v)) (fun _ _ h => h) ?_
  have c : TwinAnswered (writeDemote v s) _ := twin_answered hp hook_502000
  generalize s.request o 0x502000 0 (fun d => numRow d v) = t at c
  have hans : Answers t stOk 0 := by
    have h := c.ans
    unfold writeDemote at h
    split at h <;> exact h
  refine ⟨hans, fun hv he hn => ?_, fun hst hr => ?_, fun h => ?_⟩
  · have hwrite : writeDemote v s = done (s.twinSettle.enterTwin 3 7) := by
      unfold writeDemote
      have hsettled : ¬(s.twinSettle.twinState = 3 ∧ s.twinSettle.twin.reason = 8) := twinEval_not_rank 4 hn
      rw [if_pos ⟨he, hv⟩, if_neg hsettled]
    rw [hwrite] at c
    have k := enterTwin_enters s.twinSettle 3 7
    obtain ⟨hstate, hwhy, hevent⟩ := c.entered k
    refine ⟨hstate, hwhy, hevent, fun hdue => ?_⟩
    obtain ⟨b, out, hear, hsettle, -⟩ := twinSettle_marks hdue
    have hcnt : s.twinSettle.fld oTwinCnt 0 8 = s.fld oTwinCnt 0 8 := by
      rw [hsettle]
      rfl
    exact (c.counts 8).trans ((k.demoted rfl).trans (by rw [hcnt]))
  · obtain ⟨b, out, hear, hwrite | hwrite⟩ := demoted_stays (v := v) hst hr <;> rw [hwrite] at c <;>
      exact ⟨(c.status 0).trans hst, (congrArg Twin.reason c.twin).trans hr, c.status 7⟩
  · have hwrite : writeDemote v s = done s := by
      refine if_neg fun ⟨he, hv⟩ => ?_
      rcases h with h | h
      · omega
      · exact Bool.false_ne_true (h.symm.trans he)
    rw [hwrite] at c
    exact c.idle

/-! ## HANDOVER_AT (R399) -/

/-- The write before its new proposal: an earlier one gives way. -/
def State.proposalFree (s : State) : State := if s.twin.handover.isSome then s.withdraw else s

/-- The proposal of a LEADER at the PTP time of its value, for the task that runs the write. -/
def State.proposed (s : State) (w : Who) (n : Nat) : State :=
  (s.setTwin { s.twin with handover := some (ptNs n, none, false), handoverTask := if w.task = 0 then none else some w.task }).setTwinCol 9 n

theorem handoverAt_proposes {w : Who} {n : Nat} (hst : s.twinState = 1) (hn : s.now + 200000000 ≤ ptNs n) (hd : s.diverged = false) :
    writeHandoverAt w n s = done (s.proposalFree.proposed w n) := by
  unfold writeHandoverAt
  rw [if_neg (not_not.mpr hst), if_neg (Nat.not_lt.mpr hn), if_neg (ne_true_of_eq_false hd)]
  rfl

theorem proposed_cnt (w : Who) (n c : Nat) : (s.proposed w n).fld oTwinCnt 0 c = s.fld oTwinCnt 0 c := setTwinCol_cnt _ 9 n c

theorem proposed_stands (w : Who) (n : Nat) : WorkStands s (s.proposed w n) := (WorkStands.setTwin s _).trans (.setRow ..)

theorem handoverAt_answered {bs : List Byte} (hp : Passes s o 0x502100 0 (fun d => rowOf d bs) x) :
    ∃ t, exec (.handoverAt bs o) s = .next t ∧
      (s.twinState ≠ 1 → Answers t stState 0 ∧ t.twin = s.twin) ∧
      (s.twinState = 1 → ptNs (x.headD 0) < s.now + 200000000 → Answers t stRange 0 ∧ t.twin = s.twin) ∧
      (s.twinState = 1 → s.now + 200000000 ≤ ptNs (x.headD 0) → s.diverged = true → Answers t stState 0 ∧
        t.twin = s.twin) ∧
      (s.twinState = 1 → s.now + 200000000 ≤ ptNs (x.headD 0) → s.diverged = false → Answers t stOk 0 ∧
        t.twin.handover = some (ptNs (x.headD 0), none, false) ∧ t.fld oTwin 0 9 = x.headD 0 ∧
        (s.twin.handover ≠ none → t.raised 29 = true ∧ t.fld oTwinCnt 0 10 = (s.fld oTwinCnt 0 10 + 1) % 2 ^ 64 ∧
          ∀ k, s.twin.handoverTask = some k → s.handleLive k = true → Completed t k stCancelled)) := by
  refine ans_next (u := s.request o 0x502100 0 (fun d => rowOf d bs)) (fun _ _ h => h) ?_
  have c : TwinAnswered (writeHandoverAt (Who.of o) (x.headD 0) s) _ := twin_answered hp hook_502100
  generalize s.request o 0x502100 0 (fun d => rowOf d bs) = t at c
  refine ⟨fun hst => ?_, fun hst hn => ?_, fun hst hn hd => ?_, fun hst hn hd => ?_⟩
  · rw [writeHandoverAt, if_pos hst] at c
    exact c.refused
  · rw [writeHandoverAt, if_neg (not_not.mpr hst), if_pos hn] at c
    exact c.refused
  · rw [writeHandoverAt, if_neg (not_not.mpr hst), if_neg (Nat.not_lt.mpr hn), if_pos hd] at c
    exact c.refused
  · rw [handoverAt_proposes hst hn hd] at c
    refine ⟨c.ans, congrArg Twin.handover c.twin, (c.status 9).trans ((setTwinCol_fld ..).trans (if_pos rfl)), fun hh => ?_⟩
    have hfree : s.proposalFree = s.withdraw := if_pos (Option.isSome_iff_ne_none.mpr hh)
    rw [hfree] at c
    have k := withdraw_withdraws s
    have hstands := proposed_stands (s := s.withdraw) (Who.of o) (x.headD 0)
    exact ⟨c.evs.stands 29 (hstands.evs.stands 29 k.event), (c.counts 10).trans ((proposed_cnt ..).trans k.dropped),
      fun n hn hl => c.results.stands _ _ (hstands.results.stands _ _ (k.task n hn hl))⟩

/-! ## REJOIN (R393) -/

theorem rejoin_answered (hp : Passes s o 0x502200 0 (fun d => numRow d v) x) :
    ∃ t, exec (.rejoin v o) s = .next t ∧ Answers t stOk 0 ∧
      (v = 1 → s.twinEnabled = true → s.twinState = 3 → s.twin.reason ≠ 8 → s.partnerPresent = false → 0 < s.val 0x12100B →
        t.twinState = 4 ∧ t.fld oTwin 0 7 = 7 ∧ t.raised 24 = true) ∧
      ((v = 0 ∨ s.twinEnabled = false ∨ s.twinState ≠ 3 ∨ s.twin.reason = 8) → t.twinState = s.twinState ∧ t.twin = s.twin) := by
  obtain rfl := passes_num hp rfl rfl rfl
  refine ans_next (u := s.request o 0x502200 0 (fun d => numRow d v)) (fun _ _ h => h) ?_
  have c : TwinAnswered (writeRejoin v s) _ := twin_answered hp hook_502200
  generalize s.request o 0x502200 0 (fun d => numRow d v) = t at c
  by_cases h : s.twinEnabled = true ∧ v = 1 ∧ s.twinState = 3 ∧ s.twin.reason ≠ 8
  · rw [writeRejoin, if_pos h] at c
    obtain ⟨he, hv, hst, hr⟩ := h
    refine ⟨c.ans, fun _ _ _ _ hlost hmax => ?_, fun hno => ?_⟩
    · have hnone := (enterTwin_enters s 4 7).joining (rx := false) hlost hmax
      exact c.entered ((enterTwin_enters s 4 7).eval (.inl rfl) (twinDue_false.trans hnone) 3)
    · simp [hv, he, hst, hr] at hno
  · rw [writeRejoin, if_neg h] at c
    exact ⟨c.ans, fun hv he hst hr _ _ => absurd ⟨he, hv, hst, hr⟩ h, fun _ => c.idle⟩

/-- Settles O54: a write of the twins leaves what its hook made of the twins, and the evaluation that follows makes no further change. By
the model's choice DEMOTE gives a node DEMOTED for another reason than RANK the reason COMMAND (log entry 49), a handover while DIVERGED
is refused STATE (log entries 70 and 81), and a handover already proposed gives way to a new one (log entry 81). -/
theorem twinCommands : Obligations.TwinCommands :=
  ⟨fun _ _ _ _ => demote_answered, fun _ _ _ _ => handoverAt_answered, fun _ _ _ _ => rejoin_answered⟩

end Sys2Proof.Machine
end

section
/-! SUPPORT. Beats and heartbeats sent (R383, R384): a frame offered to a port leaves the other queues, and a heartbeat fits one cell. -/

namespace Sys2Proof.Machine

variable {s t u : State} {p k q r : Nat}

/-! ## The queues a frame does not go to -/

/-- Queue r holds what it held. -/
structure QueueKept (r : Nat) (s t : State) : Prop where
  same : t.queue r = s.queue r

namespace QueueKept

theorem refl (s : State) : QueueKept r s s := ⟨rfl⟩

theorem trans (a : QueueKept r s t) (b : QueueKept r t u) : QueueKept r s u := ⟨b.same.trans a.same⟩

theorem of_queues (h : t.net.queues = s.net.queues) : QueueKept r s t := ⟨State.queue_congr h r⟩

theorem ite {c : Prop} [Decidable c] {a b : State} (ha : QueueKept r s a) (hb : QueueKept r s b) : QueueKept r s (if c then a else b) := by
  split <;> assumption

theorem bump (s : State) (o i c : Nat) : QueueKept r s (s.bump o i c) := of_queues (congrArg Net.queues (setFld_net ..))

theorem raiseMs (s : State) (e : Nat) : QueueKept r s (s.raiseMs e) := of_queues (congrArg Net.queues (raiseMs_net s e))

theorem portErr (s : State) (p c : Nat) : QueueKept r s (s.portErr p c) :=
  of_queues (congrArg Net.queues ((State.portErr_keeps s p c).net_eq (by decide)))

theorem setQueue (s : State) (ps : List Packet) (h : r ≠ q) : QueueKept r s (s.setQueue q ps) := by
  unfold State.setQueue State.pauseGenAll
  extract_lets wasLow net s1 s2 s3
  have h2 : QueueKept r s s2 := ⟨tget_tset_of_ne [] [] s.net.queues ps h⟩
  have h3 : QueueKept r s s3 := ite (h2.trans (raiseMs ..)) h2
  exact List.foldlRecOn (motive := QueueKept r s) _ _ h3 fun u hu p _ => hu.trans (of_queues (pauseGen_queues u p))

theorem append (s : State) (x : Packet) (h : r ≠ q) : QueueKept r s (s.append q x) := by
  unfold State.append
  extract_lets y
  exact (setQueue s _ h).trans (of_queues ((cellsTaken_queues ..).trans (fillCells_queues ..)))

theorem poolFault (s : State) (k q : Nat) : QueueKept r s (s.poolFault k q) := by
  unfold State.poolFault
  extract_lets s1 x
  have h1 : QueueKept r s { s1 with net := { x with lastFault := some (k, q), poolDrops := (s1.net.poolDrops + 1) % 2 ^ 64 } } :=
    (bump s oPoolCnt q (2 + k)).trans (of_queues rfl)
  exact h1.trans (raiseMs ..)

theorem enqueue (s : State) (x : Packet) (h : r ≠ q) : QueueKept r s (s.enqueue q x).2 := by
  unfold State.enqueue
  extract_lets g lim part s1 s2
  have hstored : QueueKept r s (s.append q x) := append s x h
  have h1 : QueueKept r s s1 := ite (bump ..) (refl s)
  have h2 : QueueKept r s s2 := h1.trans (append s1 part h)
  clear_value s2
  split
  · split
    · dsimp only
      exact ite hstored (hstored.trans (setQueue (s.append q x) (s.queue q) h))
    · exact hstored.trans (bump (s.append q x) oPoolCnt q 0)
  · split
    · exact poolFault s 0 q
    split
    · exact h2.trans (poolFault s2 2 q)
    · dsimp only
      exact (h2.trans (setQueue s2 (s.queue q) h)).trans (poolFault ..)

theorem offer (s : State) (f : TxFrame) (h : r ≠ 8 * p + k) : QueueKept r s (s.offer p k f) :=
  ite (portErr ..) (ite (portErr ..) (enqueue s _ h))

end QueueKept

/-! ## The length of a heartbeat (R383, R384) -/

theorem length_beatEntry (s : State) (q : Nat) : (s.beatEntry q).length = 8 := by
  unfold State.beatEntry
  split <;> simp only [List.length_append, length_beBytes]

theorem length_beatBytes (s : State) : s.beatBytes.length = 148 := by
  simp only [State.beatBytes, List.length_append, length_beBytes, List.length_flatMap, length_beatEntry, List.map_const', List.sum_replicate,
    List.length_range, smul_eq_mul]

theorem TxFrame.headLen_le (f : TxFrame) : f.headLen ≤ 46 := by
  unfold TxFrame.headLen
  split
  · omega
  · split <;> split <;> omega

theorem length_eopHeader (op flags session id counter len slot : Nat) : (eopHeader op flags session id counter len slot).length = 24 := by
  simp only [eopHeader, List.length_append, length_beBytes, List.length_singleton]

/-- The frame of an unsealed heartbeat with a body. -/
def State.heartFrame (s : State) (d : Dest) (body : List Byte) : TxFrame :=
  eopFrame s d .heartbeat (eopHeader 0x20 0 0xFFFF 0 0 body.length 0xFF ++ body)

theorem heartFrame_cells (s : State) (d : Dest) {body : List Byte} (h : body.length = 148) : cdiv (s.heartFrame d body).stored 256 ≤ 6 := by
  have hbytes : (s.heartFrame d body).bytes.length = 172 := by
    simp only [State.heartFrame, eopFrame, List.length_append, length_eopHeader, h]
  have hhead := TxFrame.headLen_le (s.heartFrame d body)
  unfold cdiv TxFrame.stored
  omega

/-! ## The two sends -/

theorem stamped_beatSeq (x : Twin) (n : Nat) : (x.stamped n).beatSeq = x.beatSeq := by
  unfold Twin.stamped
  split <;> rfl

theorem sends_of {s : State} (hr : s.timeRuns = true) (he : s.twinEnabled = true) : (s.timeRuns && s.twinEnabled) = true := by rw [hr, he]; rfl

theorem beatSend_sends (hr : s.timeRuns = true) (he : s.twinEnabled = true) (hu : u = s.advanceTo s.twin.nextBeat) :
    ∃ t, exec .beatSend s = .next t ∧ t.twin.lastBeat = u.beatBytes ++ beBytes 4 (crc32c u.beatBytes) ∧
      t.twin.beatSeq = (s.twin.beatSeq + 1) % 65536 ∧ t.twin.nextBeat = u.now + 250000 := by
  refine ans_next (u := execBeatSend s) (fun _ _ h => h) ?_
  unfold execBeatSend
  rw [if_pos (sends_of hr he), ← hu]
  refine ⟨rfl, ?_, rfl⟩
  rw [setTwin_twin, stamped_beatSeq, hu, advanceTo_twin]

/-- What is addressed to the partner's port p. -/
def State.heartDest (s : State) (p : Nat) : Dest :=
  { port := p, mac := s.twin.partnerMac.getD 0xFFFFFFFFFFFF, vid := s.ctlVid p, ip := s.val 0x121006, udp := s.val 0x110001 }

/-- The two unsealed heartbeats of the node. -/
def State.heartsSent (s : State) : State :=
  let s1 := s.offer 2 6 (s.heartFrame (s.heartDest 2) s.beatBytes)
  s1.offer 3 6 (s1.heartFrame (s.heartDest 3) s.beatBytes)

theorem heartsSent_stores (hp : s.portState 2 = 1) (hg : ∀ n, n ≤ 6 → s.grant 22 n = n) :
    ∃ c f, s.heartsSent.queue 22 = s.queue 22 ++ [c] ∧ c.tx = some f ∧ f.kind = .heartbeat := by
  have hcells := hg _ (heartFrame_cells s (s.heartDest 2) (length_beatBytes s))
  have hstored := offer_stores (k := 6) (f := s.heartFrame (s.heartDest 2) s.beatBytes) hp (fun h => absurd h (by decide)) hcells
  exact ⟨_, _, (QueueKept.offer (r := 22) _ _ (by decide)).same.trans hstored, rfl, rfl⟩

theorem heartbeatSend_sends (hr : s.timeRuns = true) (he : s.twinEnabled = true) (hu : u = s.advanceTo s.twin.nextHeart) :
    ∃ t, exec .heartbeatSend s = .next t ∧ t.twin.nextHeart = u.now + s.val 0x121007 * 1000000 ∧
      (s.val 0x12100E = 0xFF → s.portState 2 = 1 → (∀ n, n ≤ 6 → s.grant 22 n = n) →
        ∃ c f, t.queue 22 = s.queue 22 ++ [c] ∧ c.tx = some f ∧ f.kind = .heartbeat) := by
  have hval : ∀ o, u.val o = s.val o := fun o => by rw [hu, advanceTo_val]
  refine ans_next (u := execHeartbeatSend s) (fun _ _ h => h) ?_
  unfold execHeartbeatSend
  rw [if_pos (sends_of hr he), ← hu]
  extract_lets v body slot key put s1 x
  refine ⟨congrArg (fun n => u.now + n * 1000000) (hval _), fun hslot hp hg => ?_⟩
  have hkey : key = none := if_pos ((hval _).trans hslot)
  have hsent : s1 = u.heartsSent := by
    simp only [s1, put, hkey]
    rfl
  have hnet : u.net = s.net := by rw [hu]; exact (State.advanceTo_keeps s _).net_eq (by decide)
  obtain ⟨c, f, hqueue, htx⟩ := heartsSent_stores (s := u) (by rw [hu, State.portState, advanceTo_fld, ← State.portState, hp])
    fun n hn => by rw [State.grant_congr (by rw [hu, advanceTo_od]) hnet, hg n hn]
  refine ⟨c, f, ?_, htx⟩
  have hqueues : u.queue 22 = s.queue 22 := State.queue_congr (congrArg Net.queues hnet) 22
  rw [← hqueues, ← hqueue, ← hsent]
  rfl

end Sys2Proof.Machine
end

section
/-! SUPPORT. The ways in which a path between twins is lost (R381, R384, R385), and the loss of the partner with it (R393). -/

namespace Sys2Proof.Machine

variable {s t u v : State} {b : Nat}

/-- Time runs only after the Boot ROM. -/
theorem booting_of_timeRuns (h : s.timeRuns = true) : s.booting = false := by
  unfold State.timeRuns State.full State.berm at h
  unfold State.booting
  cases hs : s.power.service <;> simp_all

/-- A path has turned, and what follows of it has been seen to: the path stands as it turned. -/
theorem turned_next (s v : State) : ∃ t, ans s (State.afterTwin s v.twinSettle.bermQuench) = .next t ∧ PathsKept v t ∧
    TwinShown v.twinSettle.bermQuench t := by
  obtain ⟨t, ht, hshown, -⟩ := afterTwin_next s v.twinSettle.bermQuench
  exact ⟨t, ht, (PathsKept.twinEval false 4 v).trans ((TwinShown.bermQuench _).trans hshown).paths, hshown⟩

/-- A LEADER or a FOLLOWER whose partner is lost with the path is ALONE. -/
theorem lost_follows (k : LineTurned u v) (h : TwinShown v.twinSettle.bermQuench t) (hf : u.full = true) (he : u.twinEnabled = true)
    (hst : u.twinState = 1 ∨ u.twinState = 2) (hp : v.partnerPresent = false) :
    t.twinState = 0 ∧ t.fld oTwin 0 7 = if v.dike = 2 then 3 else 2 := by
  have hk := (lost_alone k hf he hst hp).shown ((TwinShown.bermQuench _).trans h)
  exact ⟨hk.state, hk.why⟩

theorem dikeDropped_drops (hr : s.timeRuns = true) : ∃ t, exec .dikeDropped s = .next t ∧ t.dike = 2 ∧
    (s.dike ≠ 2 → t.raised 25 = true ∧ t.raised 26 = true ∧ t.fld oTwinCnt 0 1 = (s.fld oTwinCnt 0 1 + 1) % 2 ^ 64) ∧
    (s.full = true → s.twinEnabled = true → (s.twinState = 1 ∨ s.twinState = 2) → t.twinState = 0 ∧ t.fld oTwin 0 7 = 3) := by
  have hexec : execDikeDropped s = (s.setDike 2).twinSettle.bermQuench := by
    simp [execDikeDropped, booting_of_timeRuns hr, hr]
  have hdike := setDike_dike s 2
  obtain ⟨t, ht, k, hshown⟩ := turned_next s (s.setDike 2)
  rw [← hexec] at ht
  refine ⟨t, ht, k.dike.trans hdike, fun hd => ?_, fun hf he hst => ?_⟩
  · obtain ⟨hdropped, hcount⟩ := setDike_dropped s hd
    exact ⟨k.evs.stands 25 hdropped, k.evs.stands 26 (setDike_event s 2 hd), (k.counts 1 (by decide) (by decide)).trans hcount⟩
  · have hlost := lost_follows (.setDike s 2) hshown hf he hst (partnerPresent_dropped hdike)
    rwa [if_pos hdike] at hlost

theorem dikeDown_downs (hr : s.timeRuns = true) : ∃ t, exec .dikeDown s = .next t ∧ t.dike = 0 ∧ (s.dike ≠ 0 → t.raised 26 = true) ∧
    (s.full = true → s.twinEnabled = true → s.chainUp = false → (s.twinState = 1 ∨ s.twinState = 2) →
      t.twinState = 0 ∧ t.fld oTwin 0 7 = 2) := by
  have hexec : execDikeDown s = (s.setDike 0).twinSettle.bermQuench := by
    simp [execDikeDown, booting_of_timeRuns hr, hr]
  have hdike := setDike_dike s 0
  obtain ⟨t, ht, k, hshown⟩ := turned_next s (s.setDike 0)
  rw [← hexec] at ht
  refine ⟨t, ht, k.dike.trans hdike, fun hd => k.evs.stands 26 (setDike_event s 0 hd), fun hf he hc hst => ?_⟩
  have hlost := lost_follows (.setDike s 0) hshown hf he hst (partnerPresent_down hdike ((setDike_chainUp s 0).trans hc))
  rwa [hdike] at hlost

theorem dikeBeatTimeout_downs (hr : s.timeRuns = true) (hb : s.twin.beatAt = some b) (hd : s.dike = 1) :
    ∃ t, exec .dikeBeatTimeout s = .next t ∧ t.dike = 0 ∧ b + 1000000 ≤ t.now ∧ t.raised 26 = true ∧
      t.fld oTwinCnt 0 2 = (s.fld oTwinCnt 0 2 + 1) % 2 ^ 64 ∧
      (s.full = true → s.twinEnabled = true → s.chainUp = false → (s.twinState = 1 ∨ s.twinState = 2) →
        t.twinState = 0 ∧ t.fld oTwin 0 7 = 2) := by
  have hexec : execDikeBeatTimeout s = ((s.advanceTo (b + 1000000)).setDike 0).twinSettle.bermQuench := by
    simp only [execDikeBeatTimeout, hb]
    exact if_pos ⟨hr, hd⟩
  have hnow := le_now_advanceTo s (b + 1000000)
  obtain ⟨t, ht, k, hshown⟩ := turned_next s ((s.advanceTo (b + 1000000)).setDike 0)
  rw [← hexec] at ht
  generalize hu : s.advanceTo (b + 1000000) = u at hnow k hshown
  have hdu : u.dike = 1 := by rw [← hu, advanceTo_dike, hd]
  have hline := LineTurned.setDike u 0
  have hdike := setDike_dike u 0
  refine ⟨t, ht, k.dike.trans hdike, hnow.trans_eq (k.now.trans hline.now).symm, k.evs.stands 26 (setDike_event u 0 (by omega)), ?_,
    fun hf he hc hst => ?_⟩
  · rw [k.counts 2 (by decide) (by decide), setDike_down u hdu, ← hu, advanceTo_fld]
  · have hlost := lost_follows hline hshown (by rw [← hu, advanceTo_full, hf]) (by rw [← hu, advanceTo_twinEnabled, he])
      (by rwa [← hu, advanceTo_twinState])
      (partnerPresent_down hdike ((setDike_chainUp u 0).trans (by rw [← hu, advanceTo_chainUp, hc])))
    rwa [hdike] at hlost

theorem chainTimeout_downs (hr : s.timeRuns = true) (hb : s.twin.heartAt = some b) (hc : s.chainUp = true) :
    ∃ t, exec .chainTimeout s = .next t ∧ t.chainUp = false ∧ t.raised 27 = true ∧
      b + s.val 0x121008 * s.val 0x121007 * 1000000 ≤ t.now ∧ t.fld oTwinCnt 0 3 = (s.fld oTwinCnt 0 3 + 1) % 2 ^ 64 ∧
      (s.full = true → s.twinEnabled = true → s.dike = 0 → (s.twinState = 1 ∨ s.twinState = 2) →
        t.twinState = 0 ∧ t.fld oTwin 0 7 = 2) := by
  generalize ha : b + s.val 0x121008 * s.val 0x121007 * 1000000 = a
  have hexec : execChainTimeout s = ((s.advanceTo a).setChain false).twinSettle.bermQuench := by
    simp only [execChainTimeout, hb, ha]
    exact if_pos ⟨hr, hc⟩
  have hnow := le_now_advanceTo s a
  obtain ⟨t, ht, k, hshown⟩ := turned_next s ((s.advanceTo a).setChain false)
  rw [← hexec] at ht
  generalize hu : s.advanceTo a = u at hnow k hshown
  have hcu : u.chainUp = true := by rw [← hu, advanceTo_chainUp, hc]
  have hline := LineTurned.setChain u false
  have hchain := setChain_chainUp u false
  obtain ⟨hdike, hcount⟩ := setChain_down u hcu
  refine ⟨t, ht, k.chainUp.trans hchain, k.evs.stands 27 (setChain_event u false (by simp [hcu])),
    hnow.trans_eq (k.now.trans hline.now).symm, ?_, fun hf he hd hst => ?_⟩
  · rw [k.counts 3 (by decide) (by decide), hcount, ← hu, advanceTo_fld]
  · have hdown : (u.setChain false).dike = 0 := by rw [hdike, ← hu, advanceTo_dike, hd]
    have hlost := lost_follows hline hshown (by rw [← hu, advanceTo_full, hf]) (by rw [← hu, advanceTo_twinEnabled, he])
      (by rwa [← hu, advanceTo_twinState]) (partnerPresent_down hdown hchain)
    rwa [hdown] at hlost

end Sys2Proof.Machine
end

section
/-! SUPPORT. What a valid beat or heartbeat of the partner brings (R383 to R390), and the beats of the Dike (R381, R395). -/

namespace Sys2Proof.Machine

variable {s t u v : State} {a : Nat} {bs : List Byte}

/-! ## What the partner says of itself -/

/-- The partner as the bytes of a beat or heartbeat show it. -/
def partnerOf (bs : List Byte) : Partner :=
  { state := beatByte bs 2 1, crest := beatByte bs 3 1, rank := beatByte bs 4 1, flags := beatByte bs 5 1, handoverAt := beatByte bs 8 10 }

/-- The twin block once the partner has told of itself, heard of since now or before. -/
def Twin.heardFrom (x : Twin) (p : Partner) (now : Nat) : Twin :=
  { x with partner := some p, hearSince := some (x.hearSince.getD now) }

/-- A change of the partner's state is an event, and what it tells is noted. -/
def State.told (s : State) (p : Partner) : State :=
  let s1 := s.raiseIf (s.twin.partner.isSome && s.partnerState != p.state) 30
  ((s1.setTwin (s1.twin.heardFrom p s.now)).setTwinCol 1 p.state).setTwinCol 3 p.crest

/-- Quire q's entry of a beat, noted beside the node's own. -/
def State.entryNoted (bs : List Byte) (s : State) (q : Nat) : State :=
  s.setCompare q { s.compare q with seq := beatByte bs (20 + 8 * q) 2, valid := beatByte bs (20 + 8 * q + 2) 1,
                                    marks := beatByte bs (20 + 8 * q + 3) 1, sig := beatByte bs (20 + 8 * q + 4) 4 }

/-- Every Quire's entry noted and compared. -/
def State.entriesCompared (s : State) (bs : List Byte) : State :=
  (List.range 16).foldl (fun u q => (u.entryNoted bs q).compareQuire q) s

theorem partnerHeard_eq (s : State) (bs : List Byte) : s.partnerHeard bs =
    (((s.told (partnerOf bs)).entriesCompared bs).handshake (partnerOf bs)).twinReceives.bermQuench := rfl

/-- The partner p has told of itself: its row and its entry in the twin block, and an event at most. -/
structure PartnerTold (p : Partner) (s t : State) : Prop extends WorkStands s t where
  status : ∀ c, c ≠ 1 → c ≠ 3 → t.fld oTwin 0 c = s.fld oTwin 0 c
  state : t.fld oTwin 0 1 = p.state
  crest : t.fld oTwin 0 3 = p.crest
  config : ∀ o, o ≠ oTwin → o / 4096 = 0x121 → t.val o = s.val o
  power : t.power = s.power
  heard : t.twin.heard = (some p, s.twin.heard.2)
  quires : t.quires = s.quires

theorem told_tells (s : State) (p : Partner) : PartnerTold p s (s.told p) := by
  unfold State.told
  extract_lets s1
  have k1 : LineTurned s s1 := .ite (.raise ..) (.refl s)
  have h1 : PathsKept s s1 := .ite (.raise ..) (.refl s)
  have hquires : s1.quires = s.quires := by
    simp only [s1, State.raiseIf]
    split
    · exact (State.raise_keeps ..).quires_eq (by decide)
    · rfl
  have hcols : ∀ c, (((s1.setTwin (s1.twin.heardFrom p s.now)).setTwinCol 1 p.state).setTwinCol 3 p.crest).fld oTwin 0 c =
      if c = 3 then p.crest else if c = 1 then p.state else s1.fld oTwin 0 c := fun c => by
    simp only [setTwinCol_fld, setTwin_fld]
  refine { toWorkStands := ?_, status := ?_, state := hcols 1, crest := hcols 3, config := ?_, power := ?_, heard := ?_, quires := ?_ }
  · exact (h1.toWorkStands.trans (.setTwin s1 _)).trans ((WorkStands.setRow ..).trans (.setRow ..))
  · intro c h h3
    rw [hcols, if_neg h3, if_neg h]
    by_cases h4 : c = 4 ∨ c = 5
    · exact h1.status c (by omega)
    · exact k1.status c (by omega) (by omega)
  · intro o ho hg
    rw [← k1.config o ho hg]
    simp [State.setTwinCol, State.val, fld_setFld, ho]
  · exact k1.power
  · rw [← k1.twin]
    rfl
  · exact hquires

namespace PartnerTold

variable {p : Partner}

theorem full (h : PartnerTold p s t) : t.full = s.full := congrArg (fun p : Power => p.service == .full && !p.inReset) h.power

theorem twinEnabled (h : PartnerTold p s t) : t.twinEnabled = s.twinEnabled := congrArg (· == 1) (h.config 0x121001 (by decide) (by decide))

theorem rank (h : PartnerTold p s t) : t.rank = s.rank := h.config 0x121003 (by decide) (by decide)

theorem twinState (h : PartnerTold p s t) : t.twinState = s.twinState := h.status 0 (by decide) (by decide)

theorem dike (h : PartnerTold p s t) : t.dike = s.dike := h.status 4 (by decide) (by decide)

theorem chainUp (h : PartnerTold p s t) : t.chainUp = s.chainUp := congrArg (· == 1) (h.status 5 (by decide) (by decide))

theorem partner (h : PartnerTold p s t) : t.twin.partner = some p := congrArg Prod.fst h.heard

theorem lines (h : PartnerTold p s t) : t.twin.beatAt = s.twin.beatAt ∧ t.twin.heartAt = s.twin.heartAt ∧
    t.twin.partnerMac = s.twin.partnerMac :=
  ⟨congrArg (·.2.1) h.heard, congrArg (·.2.2.1) h.heard, congrArg (·.2.2.2) h.heard⟩

theorem partnerState (h : PartnerTold p s t) : t.partnerState = p.state := by simp only [State.partnerState, h.partner]

theorem partnerRank (h : PartnerTold p s t) : t.partnerRank = p.rank := by simp only [State.partnerRank, h.partner]

theorem partnerPresent (h : PartnerTold p s t) (hd : s.dike = 1) : t.partnerPresent = true := by simp [State.partnerPresent, h.dike, hd]

end PartnerTold

theorem entriesCompared_keeps (s : State) (bs : List Byte) : PathsKept s (s.entriesCompared bs) :=
  .foldl (fun u q => (PathsKept.setCompare u q _).trans (.compareQuire _ q)) _ s

/-- The partner has told of itself, and the paths stand through what follows of it. -/
theorem partnerHeard_keeps (s : State) (bs : List Byte) : PathsKept (s.told (partnerOf bs)) (s.partnerHeard bs) := by
  rw [partnerHeard_eq]
  exact (((entriesCompared_keeps ..).trans (.handshake ..)).trans (.twinEval true 4 _)).trans (TwinShown.bermQuench _).paths

/-! ## A FOLLOWER is heard in ALONE (R393) -/

/-- Of the twin block nothing has changed but what the Quires compare. -/
def OnlyCompared (s t : State) : Prop := ∃ y, t = s.setTwin { s.twin with quires := y }

theorem OnlyCompared.same (h : OnlyCompared s t) : t.full = s.full ∧ t.twinEnabled = s.twinEnabled ∧ t.rank = s.rank ∧
    t.twinState = s.twinState ∧ t.partnerPresent = s.partnerPresent ∧ t.twin.partner = s.twin.partner := by
  obtain ⟨y, rfl⟩ := h
  exact ⟨rfl, rfl, rfl, rfl, rfl, rfl⟩

/-- Without a signature of its own the node compares nothing. -/
theorem entriesCompared_none (h : ∀ q, q < 16 → (s.quire q).sigs = []) : OnlyCompared s (s.entriesCompared bs) := by
  refine List.foldlRecOn (motive := OnlyCompared s) _ _ ⟨s.twin.quires, rfl⟩ fun u hu q hq => ?_
  obtain ⟨y, rfl⟩ := hu
  generalize hn : (s.setTwin { s.twin with quires := y }).entryNoted bs q = n
  have hsigs : (n.quire q).sigs = [] := by
    rw [← hn]
    exact h q (List.mem_range.mp hq)
  have hid : n.compareQuire q = n := by
    unfold State.compareQuire
    rw [hsigs]
    rfl
  rw [hid, ← hn]
  exact ⟨_, rfl⟩

theorem handshake_alone {p : Partner} (h : s.twinState = 0) : s.handshake p = s := by
  unfold State.handshake
  extract_lets x running th
  rw [if_neg (by omega), if_neg (by omega)]

theorem partnerHeard_leads (hf : s.full = true) (he : s.twinEnabled = true) (hst : s.twinState = 0) (hd : s.dike = 1)
    (hp : beatByte bs 2 1 = 2) (hr : beatByte bs 4 1 ≠ s.rank) (hs : ∀ q, q < 16 → (s.quire q).sigs = []) :
    ∃ w, w.rank = s.rank ∧ TwinEntered 1 1 w (s.partnerHeard bs) := by
  have k := told_tells s (partnerOf bs)
  have hnone := entriesCompared_none (s := s.told (partnerOf bs)) (bs := bs) fun q hq => by
    rw [show (s.told (partnerOf bs)).quire q = s.quire q from congrArg (tget Quire.init · q) k.quires, hs q hq]
  obtain ⟨hfull, hen, hrank, hstate, hpresent, hpartner⟩ := hnone.same
  replace hrank := hrank.trans k.rank
  replace hstate := hstate.trans (k.twinState.trans hst)
  replace hpresent := hpresent.trans (k.partnerPresent hd)
  replace hpartner := hpartner.trans k.partner
  rw [partnerHeard_eq]
  generalize (s.told (partnerOf bs)).entriesCompared bs = w at hfull hen hrank hstate hpresent hpartner
  have hin : w.partnerState = 2 := by simp only [State.partnerState, hpartner, partnerOf, hp]
  have hother : w.partnerRank ≠ w.rank := by simpa only [State.partnerRank, hpartner, partnerOf, hrank] using hr
  have hout : w.partnerOut = false := by simp [State.partnerOut, hpresent, hin]
  have hdue := due_leads (hen.trans (k.twinEnabled.trans he)) (hfull.trans (k.full.trans hf)) hstate (congrArg Option.isSome hpartner)
    hpresent hin
  have hlast : ∀ t, TwinEntered 1 1 w t → t.twinDue true = none := fun t e => by
    refine not_due_heard (e.inRole (.inl rfl) hout) (by rw [e.partnerState, hin]; decide) ?_
    rw [e.partnerRank, show t.rank = w.rank from e.config 0x121003 (by decide) (by decide)]
    exact hother
  have e := twinEval_enters (.inr (by rw [hin]; decide)) (twinDue_of_high hdue) hlast 2
  rw [handshake_alone hstate]
  exact ⟨w, hrank, e.shown (.bermQuench _)⟩

/-! ## DIKE_BEAT (R381, R383, R395) -/

/-- A beat that is not one of R383: another length, a wrong CRC or another version. -/
abbrev BeatBad (bs : List Byte) : Prop := bs.length ≠ 152 ∨ crc32c (bs.take 148) ≠ beatByte bs 148 4 ∨ beatByte bs 0 1 ≠ 1

/-- A beat before Berm service is kept. -/
def State.bootTaken (s : State) (bs : List Byte) : State :=
  (s.setTwin { s.twin with beatAt := some s.now, bootBeat := bs.take 148 }).setDike 1

/-- A beat is received. -/
def State.beatTaken (s : State) : State := (s.setTwin { s.twin with beatAt := some s.now }).setDike 1

/-- A beat is the partner's: it names the node that the twin is configured with. -/
abbrev State.beatOfPartner (s : State) (bs : List Byte) : Prop := s.twinEnabled = true ∧ beatByte bs 1 1 = s.val 0x121002

theorem not_beatBad (hl : bs.length = 152) (hc : crc32c (bs.take 148) = beatByte bs 148 4) (h1 : beatByte bs 0 1 = 1) : ¬BeatBad bs := by
  rintro (h | h | h)
  · exact h hl
  · exact h hc
  · exact h h1

theorem execDikeBeat_boot (hb : s.booting = true) (hv : ¬BeatBad bs) : execDikeBeat a bs s = (s.advanceTo a).bootTaken bs := by
  unfold execDikeBeat
  rw [if_pos (by rw [advanceTo_booting, hb]), if_neg hv]
  rfl

section
variable (hr : s.timeRuns = true)
include hr

theorem execDikeBeat_runs : execDikeBeat a bs s = if BeatBad bs then (s.advanceTo a).twinCount 4
    else if (s.advanceTo a).beatTaken.beatOfPartner bs then (s.advanceTo a).beatTaken.partnerHeard bs
    else (s.advanceTo a).beatTaken.twinSettle := by
  unfold execDikeBeat
  rw [if_neg (by rw [advanceTo_booting, booting_of_timeRuns hr]; decide), if_neg (by rw [advanceTo_timeRuns, hr]; decide)]
  rfl

theorem execDikeBeat_bad (hv : BeatBad bs) : execDikeBeat a bs s = (s.advanceTo a).twinCount 4 :=
  (execDikeBeat_runs hr).trans (if_pos hv)

theorem execDikeBeat_partner (hv : ¬BeatBad bs) (h : (s.advanceTo a).beatTaken.beatOfPartner bs) :
    execDikeBeat a bs s = (s.advanceTo a).beatTaken.partnerHeard bs := ((execDikeBeat_runs hr).trans (if_neg hv)).trans (if_pos h)

theorem execDikeBeat_other (hv : ¬BeatBad bs) (h : ¬(s.advanceTo a).beatTaken.beatOfPartner bs) :
    execDikeBeat a bs s = (s.advanceTo a).beatTaken.twinSettle := ((execDikeBeat_runs hr).trans (if_neg hv)).trans (if_neg h)

end

theorem bootTaken_takes (s : State) (bs : List Byte) : (s.bootTaken bs).dike = 1 ∧ (s.bootTaken bs).twin.bootBeat = bs.take 148 ∧
    (s.bootTaken bs).twinState = s.twinState :=
  have k := LineTurned.setDike (s.setTwin { s.twin with beatAt := some s.now, bootBeat := bs.take 148 }) 1
  ⟨setDike_dike _ 1, congrArg Twin.bootBeat k.twin, k.twinState⟩

theorem dikeBeat_boots (hb : s.booting = true) (hv : ¬BeatBad bs) : ∃ t, exec (.dikeBeat a bs) s = .next t ∧ t.dike = 1 ∧
    t.twin.bootBeat = bs.take 148 ∧ t.twinState = s.twinState := by
  obtain ⟨t, ht, hshown, htwin⟩ := afterTwin_next s (execDikeBeat a bs s)
  rw [execDikeBeat_boot hb hv] at hshown htwin
  obtain ⟨hdike, hbeat, hstate⟩ := bootTaken_takes (s.advanceTo a) bs
  exact ⟨t, ht, (hshown.status 4).trans hdike, (congrArg Twin.bootBeat htwin).trans hbeat,
    (hshown.twinState.trans hstate).trans (advanceTo_twinState ..)⟩

theorem dikeBeat_malformed (hr : s.timeRuns = true) (hv : BeatBad bs) : ∃ t, exec (.dikeBeat a bs) s = .next t ∧
    t.fld oTwinCnt 0 4 = (s.fld oTwinCnt 0 4 + 1) % 2 ^ 64 ∧ t.twinState = s.twinState ∧ t.twin = s.twin := by
  obtain ⟨t, ht, hshown, htwin⟩ := afterTwin_next s (execDikeBeat a bs s)
  rw [execDikeBeat_bad hr hv] at hshown htwin
  refine ⟨t, ht, ?_, ?_, ?_⟩
  · rw [hshown.counts 4, twinCount_cnt, if_pos rfl, advanceTo_fld]
  · exact hshown.twinState.trans ((twinCount_fld ..).trans (advanceTo_twinState ..))
  · rw [htwin, twinCount_twin, advanceTo_twin]

/-! ### A valid beat -/

section
variable (s)

theorem beatTaken_turned : LineTurned (s.setTwin { s.twin with beatAt := some s.now }) s.beatTaken := .setDike ..

theorem beatTaken_dike : s.beatTaken.dike = 1 := setDike_dike _ 1

theorem beatTaken_beatAt : s.beatTaken.twin.beatAt = some s.now := congrArg Twin.beatAt (beatTaken_turned s).twin

theorem beatTaken_config : s.beatTaken.full = s.full ∧ s.beatTaken.twinEnabled = s.twinEnabled ∧ s.beatTaken.rank = s.rank ∧
    s.beatTaken.val 0x121002 = s.val 0x121002 ∧ s.beatTaken.twinState = s.twinState :=
  have k := beatTaken_turned s
  ⟨k.full, k.twinEnabled, k.config 0x121003 (by decide) (by decide), k.config 0x121002 (by decide) (by decide), k.twinState⟩

theorem beatTaken_quires : s.beatTaken.quires = s.quires := (State.setDike_keeps _ 1).quires_eq (by decide)

theorem beatOfPartner_iff : (s.advanceTo a).beatTaken.beatOfPartner bs ↔ s.beatOfPartner bs := by
  obtain ⟨-, hen, -, hid, -⟩ := beatTaken_config (s.advanceTo a)
  rw [State.beatOfPartner, hen, hid, advanceTo_twinEnabled, advanceTo_val]

end

/-- What a valid beat of the partner leaves. -/
structure BeatHeard (bs : List Byte) (s t : State) : Prop where
  dike : t.dike = 1
  beatAt : t.twin.beatAt = some s.now
  partner : t.twin.partner = some (partnerOf bs)
  state : t.fld oTwin 0 1 = beatByte bs 2 1
  crest : t.fld oTwin 0 3 = beatByte bs 3 1

theorem beatTaken_heard (k : PathsKept (s.beatTaken.told (partnerOf bs)) t) : BeatHeard bs s t := by
  have h := told_tells s.beatTaken (partnerOf bs)
  obtain ⟨hbeat, -, -⟩ := h.lines
  exact ⟨k.dike.trans (h.dike.trans (beatTaken_dike s)), k.beatAt.trans (hbeat.trans (beatTaken_beatAt s)), k.partner.trans h.partner,
    (k.status 1 (by decide)).trans h.state, (k.status 3 (by decide)).trans h.crest⟩

section
variable (hu : u = s.advanceTo a) (hr : s.timeRuns = true) (hv : ¬BeatBad bs)
include hu hr hv

theorem dikeBeat_other (h : ¬s.beatOfPartner bs) : ∃ t, exec (.dikeBeat a bs) s = .next t ∧ t.dike = 1 ∧ t.twin.beatAt = some u.now := by
  obtain ⟨t, ht, hshown, -⟩ := afterTwin_next s (execDikeBeat a bs s)
  rw [execDikeBeat_other hr hv (mt (beatOfPartner_iff s).mp h), ← hu] at hshown
  have k := (PathsKept.twinEval false 4 u.beatTaken).trans hshown.paths
  exact ⟨t, ht, k.dike.trans (beatTaken_dike u), k.beatAt.trans (beatTaken_beatAt u)⟩

theorem dikeBeat_partner (h : s.beatOfPartner bs) : ∃ t, exec (.dikeBeat a bs) s = .next t ∧ BeatHeard bs u t ∧
    (s.full = true → s.twinState = 0 → beatByte bs 2 1 = 2 → beatByte bs 4 1 ≠ s.rank → (∀ q, q < 16 → (s.quire q).sigs = []) →
      t.twinState = 1 ∧ t.fld oTwin 0 7 = 1 ∧ t.fld oTwin 0 2 = crestFor 1 s.rank ∧ t.raised 24 = true) := by
  obtain ⟨t, ht, hshown, -⟩ := afterTwin_next s (execDikeBeat a bs s)
  rw [execDikeBeat_partner hr hv ((beatOfPartner_iff s).mpr h), ← hu] at hshown
  refine ⟨t, ht, beatTaken_heard ((partnerHeard_keeps ..).trans hshown.paths), fun hf hst hp hrank hs => ?_⟩
  obtain ⟨hfull, hen, hrk, -, hstate⟩ := beatTaken_config u
  have hrk : u.beatTaken.rank = s.rank := by rw [hrk, hu, advanceTo_rank]
  have hquires : u.beatTaken.quires = s.quires := by
    rw [beatTaken_quires, hu]
    exact (State.advanceTo_keeps s a).quires_eq (by decide)
  obtain ⟨w, hw, e⟩ := partnerHeard_leads (s := u.beatTaken) (bs := bs) (by rw [hfull, hu, advanceTo_full, hf])
    (by rw [hen, hu, advanceTo_twinEnabled, h.1]) (by rw [hstate, hu, advanceTo_twinState, hst]) (beatTaken_dike u) hp (by rwa [hrk])
    fun q hq => by rw [show u.beatTaken.quire q = s.quire q from congrArg (tget Quire.init · q) hquires, hs q hq]
  have k := e.shown hshown
  exact ⟨k.state, k.why, k.crest.trans (by rw [hw, hrk]), k.event⟩

/-- A valid beat is taken, and what it tells of the partner is noted. -/
theorem dikeBeat_taken : ∃ t, exec (.dikeBeat a bs) s = .next t ∧ t.dike = 1 ∧ t.twin.beatAt = some u.now ∧
    (s.twinEnabled = true → beatByte bs 1 1 = s.val 0x121002 → (∃ p, t.twin.partner = some p ∧ p.state = beatByte bs 2 1 ∧
      p.rank = beatByte bs 4 1 ∧ p.handoverAt = beatByte bs 8 10) ∧ t.fld oTwin 0 1 = beatByte bs 2 1 ∧ t.fld oTwin 0 3 = beatByte bs 3 1) ∧
    (s.full = true → s.twinEnabled = true → beatByte bs 1 1 = s.val 0x121002 → s.twinState = 0 → beatByte bs 2 1 = 2 →
      beatByte bs 4 1 ≠ s.rank → (∀ q, q < 16 → (s.quire q).sigs = []) → t.twinState = 1 ∧ t.fld oTwin 0 7 = 1 ∧
      t.fld oTwin 0 2 = crestFor 1 s.rank ∧ t.raised 24 = true) := by
  by_cases h : s.beatOfPartner bs
  · obtain ⟨t, ht, k, hleads⟩ := dikeBeat_partner hu hr hv h
    exact ⟨t, ht, k.dike, k.beatAt, fun _ _ => ⟨⟨_, k.partner, rfl, rfl, rfl⟩, k.state, k.crest⟩, fun hf _ _ => hleads hf⟩
  · obtain ⟨t, ht, hdike, hbeat⟩ := dikeBeat_other hu hr hv h
    exact ⟨t, ht, hdike, hbeat, fun he hid => absurd ⟨he, hid⟩ h, fun _ he hid => absurd ⟨he, hid⟩ h⟩

end

end Sys2Proof.Machine
end

section
/-! SUPPORT. A heartbeat of the partner, received as an EOP message on C0 or C1 (R384, R451, R454). -/

namespace Sys2Proof.Machine

variable {s t u v : State} {m : EopMsg} {op : Nat}

/-! ## The ports and the queue of a message leave what the twins show -/

theorem TwinShown.portsSettle (s : State) : TwinShown s s.portsSettle :=
  have k := State.portsSettle_keeps s
  .of_objs ⟨⟨(Later.portsSettle s).evs⟩, .of_slots (congrArg Weir.slots (k.weir_eq (by decide))), .portsSettle s,
    State.now_congr (k.clk_eq (by decide))⟩ k (by decide) (by decide) (by decide)

theorem consume_events (s : State) (q : Nat) : EventsStand s (s.consume q) := by
  unfold State.consume State.dequeue
  split
  · exact .refl s
  · exact (EventsStand.setQueue ..).trans (.bump ..)

theorem TwinShown.consume (s : State) (q : Nat) : TwinShown s (s.consume q) :=
  have k := State.consume_keeps s q
  .of_objs ⟨consume_events s q, .of_slots (congrArg Weir.slots (k.weir_eq (by decide))), .consume s q,
    State.now_congr (k.clk_eq (by decide))⟩ k (by decide) (by decide) (by decide)

/-! ## A message that passes steps 1 to 5 (R454) -/

theorem advanceTo_eopHears (s : State) (m : EopMsg) : (s.advanceTo m.at_).eopHears m = s.eopHears m := by
  simp [State.eopHears, State.eopPorts, State.portState, State.berm]

/-- The checks of a sealed message that goes on leave the mailbox. -/
theorem checkSeal_mailbox (h : s.checkSeal op m = (true, u)) : MailboxStays s u := by
  have hno : ∀ {x : State}, (false, x) ≠ (true, u) := fun e => Bool.false_ne_true (congrArg Prod.fst e)
  unfold State.checkSeal at h
  extract_lets k high s1 at h
  split_ifs at h
  · exact absurd h hno
  · exact absurd h hno
  · exact absurd h hno
  · exact absurd h hno
  · obtain rfl := (congrArg Prod.snd h).symm
    exact ⟨rfl⟩

theorem PassesSeal.mailbox (h : PassesSeal s op m u) : MailboxStays s u := by
  obtain ⟨-, rfl⟩ | ⟨-, hseal⟩ := h
  · exact .refl _
  · exact checkSeal_mailbox hseal

theorem passes5_idle (h : Passes5 s op m u) : u.eop.hostBusy = false := by
  obtain ⟨-, -, hbusy, hseal⟩ := h
  have hadvance : (s.advanceTo m.at_).eop = s.eop := (State.advanceTo_keeps s m.at_).eop_eq (by decide)
  have hstays := ((MailboxStays.of_eop hadvance).trans (.bump ..)).trans hseal.mailbox
  exact hstays.busy.trans hbusy

/-- It goes on to its operation, by its slot where it is sealed. -/
theorem eopReceive_goes (h : Passes5 s op m u) :
    s.eopReceive op m = (u.eopGoesOn op m (if isSealed m then some m.keySlot else none)).portsSettle := by
  obtain ⟨hhears, hformed, -, hseal⟩ := h
  have hruns : s.timeRuns = true := by
    simp only [State.eopHears, Bool.and_eq_true] at hhears
    exact hhears.1.1.1.1
  have hboot : ¬((s.advanceTo m.at_).booting = true ∧ op = 0x20) := by simp [booting_of_timeRuns hruns]
  unfold State.eopReceive
  extract_lets v v1 r
  rw [if_neg hboot, if_neg (by rw [advanceTo_eopHears, hhears]; decide), if_neg (by rw [hformed]; decide)]
  obtain ⟨hopen, rfl⟩ | ⟨hsealed, hcheck⟩ := hseal
  · simp [hopen, v1, v]
  · have hr : r = (true, u) := hcheck
    simp [hsealed, hr]

/-- Nothing new runs in the mailbox where the operation leaves it alone. -/
theorem received_goes (h : Passes5 s op m u) (hv : u.eopGoesOn op m (if isSealed m then some m.keySlot else none) = v)
    (hm : MailboxStays u v) : s.received op m = v.portsSettle.consume (s.eopQueue m) := by
  have hstays := (hm.trans (.portsSettle v)).trans (.consume v.portsSettle (s.eopQueue m))
  unfold State.received State.mailboxRun
  rw [eopReceive_goes h, hv, hstays.busy, passes5_idle h]
  rfl

/-! ## HEARTBEAT (R384) -/

/-- The chain path is UP, and its partner's address is known. -/
def State.heartTaken (s : State) (mac : Nat) : State :=
  (s.setTwin { s.twin with heartAt := some s.now, partnerMac := some mac }).setChain true

theorem heartTaken_turned (s : State) (mac : Nat) :
    LineTurned (s.setTwin { s.twin with heartAt := some s.now, partnerMac := some mac }) (s.heartTaken mac) := .setChain ..

/-- A heartbeat that C0 or C1 brings, sealed where the node asks for it, is taken. -/
theorem heartbeat_next (h : Passes5 s 0x20 m u) (hp : 2 ≤ m.port) (hk : u.val 0x12100E = 0xFF ∨ isSealed m = true)
    (hm : MailboxStays u (u.heartbeatHeard m.srcMac m.payload)) : ∃ t, exec (.heartbeat m) s = .next t ∧
      TwinShown (u.heartbeatHeard m.srcMac m.payload) t ∧ t.twin = (u.heartbeatHeard m.srcMac m.payload).twin := by
  have htaken : ¬(m.port < 2 ∨ (u.val 0x12100E ≠ 0xFF ∧ (!isSealed m) = true)) := by
    rintro (hlow | ⟨hslot, hopen⟩)
    · omega
    · rcases hk with hk | hk
      · exact hslot hk
      · simp [hk] at hopen
  have hgoes : ∀ sl, u.eopGoesOn 0x20 m sl = State.afterTwin u (u.heartbeatHeard m.srcMac m.payload) := fun _ => if_neg htaken
  generalize u.heartbeatHeard m.srcMac m.payload = w at hm hgoes
  have hafter := TwinShown.afterTwin u w
  have hreceived := received_goes h (hgoes _) (hm.trans hafter.mailbox)
  generalize hv : State.afterTwin u w = v at hafter hreceived
  refine ans_next (u := s.received 0x20 m) (fun _ _ ⟨k, htwin⟩ => ⟨⟨⟨⟨k.evs.stands⟩, ⟨k.results.stands⟩, ⟨k.mailbox.busy⟩, k.now⟩,
    k.objs, k.twin⟩, htwin⟩) ?_
  rw [hreceived]
  refine ⟨hafter.trans ((TwinShown.portsSettle v).trans (.consume ..)), ?_⟩
  rw [(State.consume_keeps ..).twin_eq (by decide), (State.portsSettle_keeps ..).twin_eq (by decide), ← hv, afterTwin_twin]

theorem heartbeatHeard_partner (he : u.twinEnabled = true) (hv : beatByte m.payload 0 1 = 1)
    (hid : beatByte m.payload 1 1 = u.val 0x121002) :
    u.heartbeatHeard m.srcMac m.payload = (u.heartTaken m.srcMac).partnerHeard m.payload := if_pos ⟨he, hv, hid⟩

theorem heartTaken_mailbox (s : State) (mac : Nat) : MailboxStays s (s.heartTaken mac) :=
  (WorkStands.setTwin s { s.twin with heartAt := some s.now, partnerMac := some mac }).mailbox.trans (heartTaken_turned s mac).mailbox

theorem heartbeat_partner (h : Passes5 s 0x20 m u) (hp : 2 ≤ m.port) (hk : u.val 0x12100E = 0xFF ∨ isSealed m = true)
    (he : u.twinEnabled = true) (hv : beatByte m.payload 0 1 = 1) (hid : beatByte m.payload 1 1 = u.val 0x121002) :
    ∃ t, exec (.heartbeat m) s = .next t ∧ t.chainUp = true ∧ t.twin.heartAt = some u.now ∧ t.twin.partnerMac = some m.srcMac ∧
      t.fld oTwin 0 1 = beatByte m.payload 2 1 ∧ (u.chainUp = false → t.raised 27 = true) := by
  have hheard := heartbeatHeard_partner he hv hid
  have hline := heartTaken_turned u m.srcMac
  have htold := told_tells (u.heartTaken m.srcMac) (partnerOf m.payload)
  have hkept := partnerHeard_keeps (u.heartTaken m.srcMac) m.payload
  obtain ⟨t, ht, hshown, -⟩ := heartbeat_next h hp hk
    (hheard ▸ ((heartTaken_mailbox u m.srcMac).trans htold.mailbox).trans hkept.mailbox)
  rw [hheard] at hshown
  have k := hkept.trans hshown.paths
  obtain ⟨-, hheart, hmac⟩ := htold.lines
  refine ⟨t, ht, ?_, ?_, ?_, (k.status 1 (by decide)).trans htold.state, fun hdown => ?_⟩
  · exact k.chainUp.trans (htold.chainUp.trans (setChain_chainUp _ true))
  · exact k.heartAt.trans (hheart.trans (congrArg Twin.heartAt hline.twin))
  · exact k.partnerMac.trans (hmac.trans (congrArg Twin.partnerMac hline.twin))
  · have hevent : (u.heartTaken m.srcMac).raised 27 = true := setChain_event _ true (ne_true_of_eq_false hdown)
    exact k.evs.stands 27 (htold.evs.stands 27 hevent)

/-- A node whose twin is not enabled takes no heartbeat. -/
theorem heartbeat_disabled (h : Passes5 s 0x20 m u) (hp : 2 ≤ m.port) (hk : u.val 0x12100E = 0xFF ∨ isSealed m = true)
    (he : u.twinEnabled = false) : ∃ t, exec (.heartbeat m) s = .next t ∧ t.twin = u.twin ∧ t.chainUp = u.chainUp := by
  have hnone : u.heartbeatHeard m.srcMac m.payload = u := if_neg fun ⟨hen, _⟩ => Bool.false_ne_true (he.symm.trans hen)
  obtain ⟨t, ht, hshown, htwin⟩ := heartbeat_next h hp hk (hnone.symm ▸ .refl u)
  rw [hnone] at hshown htwin
  exact ⟨t, ht, htwin, hshown.paths.chainUp⟩

/-- Settles O52: a path turns, the partner tells of itself, and what follows leaves the paths and its word as they stand; with its partner
lost a LEADER or a FOLLOWER is ALONE. A beat before Berm service is kept (log entry 70), and a keyed heartbeat is taken under any verified
seal (log entry 53), by the model's choice. -/
theorem twinPaths : Obligations.TwinPaths :=
  ⟨fun _ _ hr he => ⟨beatSend_sends hr he, heartbeatSend_sends hr he⟩,
    fun _ _ _ hb hl hc h1 => dikeBeat_boots hb (not_beatBad hl hc h1),
    fun _ _ _ _ hu hr => ⟨dikeBeat_malformed hr, fun hl hc h1 => dikeBeat_taken hu hr (not_beatBad hl hc h1)⟩,
    fun _ _ _ h hp hk => ⟨heartbeat_partner h hp hk, heartbeat_disabled h hp hk⟩,
    fun _ hr => ⟨dikeDropped_drops hr, dikeDown_downs hr, fun _ hb => dikeBeatTimeout_downs hr hb, fun _ hb => chainTimeout_downs hr hb⟩⟩

end Sys2Proof.Machine
end

section
/-! SUPPORT. The completion queue (R434, R435): an entry joins it, or is discarded and counted. -/

namespace Sys2Proof.Machine

variable {s : State}

/-- Fewer than 256 entries are held: the new one joins them. -/
theorem cqPush_joins (h st : Nat) (hlen : s.weir.cq.length < 256) : (s.cqPush h st).weir.cq = s.weir.cq ++ [(h, st)] ∧
    (s.cqPush h st).weir.cqOverflow = s.weir.cqOverflow ∧ (s.cqPush h st).fld oWeirCnt 0 10 = s.fld oWeirCnt 0 10 := by
  unfold State.cqPush
  rw [if_neg (by omega)]
  extract_lets w s1
  have hweir : ∀ e, (s1.raise e).weir = s1.weir := fun e => (State.raise_keeps s1 e).weir_eq (by decide)
  have hflag : s1.weir.cqOverflow = s.weir.cqOverflow := rfl
  have hfld : ∀ e, (s1.raise e).fld oWeirCnt 0 10 = s.fld oWeirCnt 0 10 := fun e => (raise_fld s1 e 0 10 (by decide)).trans rfl
  split
  · exact ⟨congrArg Weir.cq (hweir 122), (congrArg Weir.cqOverflow (hweir 122)).trans hflag, hfld 122⟩
  · exact ⟨rfl, rfl, rfl⟩

/-- 256 entries are held: the new one is discarded and counted. -/
theorem cqPush_discards (h st : Nat) (hlen : 256 ≤ s.weir.cq.length) : (s.cqPush h st).weir.cq = s.weir.cq ∧
    (s.cqPush h st).weir.cqOverflow = true ∧ (s.cqPush h st).fld oWeirCnt 0 10 = (s.fld oWeirCnt 0 10 + 1) % 2 ^ 64 := by
  unfold State.cqPush
  rw [if_pos hlen]
  generalize hs1 : ({ s with weir := { s.weir with cqOverflow := true } } : State) = s1
  have hweir : ((s1.bump oWeirCnt 0 10).raise 123).weir = s1.weir := (State.raise_keeps _ 123).weir_eq (by decide)
  have hcount : ((s1.bump oWeirCnt 0 10).raise 123).fld oWeirCnt 0 10 = (s1.fld oWeirCnt 0 10 + 1) % 2 ^ 64 :=
    (raise_fld _ 123 0 10 (by decide)).trans ((fld_setFld ..).trans (if_pos ⟨rfl, rfl, rfl⟩))
  rw [hweir, hcount, ← hs1]
  exact ⟨rfl, rfl, rfl⟩

/-- Settles O16: an entry joins the queue below 256 entries, and is discarded, counted and flagged at 256. -/
theorem completionQueueHolds256 : Obligations.CompletionQueueHolds256 :=
  fun h st _ => ⟨cqPush_joins h st, cqPush_discards h st⟩

end Sys2Proof.Machine
end

section
/-! SUPPORT. Registers that take an action when written (R43, R301, R439, R492 to R500): a write of one word over any path that reaches
its register. -/

namespace Sys2Proof.Machine

variable {s u : State} {p : Path} {b off : Nat} {v : Word}

theorem regAddr_toNat (hb : b ≤ 23) (ho : off < 65536) : (regAddr b off).toNat = 0x20000000 + b * 65536 + off := by
  unfold regAddr wd
  rw [BitVec.toNat_ofNat]
  exact Nat.mod_eq_of_lt (by omega)

theorem regOf_regAddr (hb : b ≤ 23) (ho : off < 65536) : regOf (regAddr b off).toNat = some (b, off) := by
  rw [regAddr_toNat hb ho, regOf, if_pos (by omega)]
  exact congrArg some (Prod.ext (by dsimp only; omega) (by dsimp only; omega))

/-- No access waits for a register outside the Culvert window. -/
theorem waitPending_plain (s : State) (b : Nat) (ho : off < 0xFFF8) : s.waitPending b off = s := if_neg fun h => by omega

theorem pageLost_none (hf : s.integ.failed = none) (a : Nat) : s.pageLost a = false := by rw [State.pageLost, hf]

/-- A write burst of one word makes the register's write and leaves the port idle (R493 to R498). -/
theorem writeBurst_makes (hr : Reaches s .hspi b) (hb : b ≤ 23) (h4 : off % 4 = 0) (ho : off < 0xFFF8) (hl : b ≠ 23)
    (hw : ∀ x q, { s with hspi := x }.writeReg q b off v = some { u with hspi := x }) :
    execWriteBurst (regAddr b off) [v] s = { u with hspi := portAfter .hspi s.hspi } := by
  obtain ⟨hpowered, -, hfailed, hport, -⟩ := hr
  obtain ⟨hready, hbusy, hfetch, hposted⟩ := hport rfl
  have haddr := regAddr_toNat hb (show off < 65536 by omega)
  have halign : (regAddr b off).toNat % 4 = 0 := by omega
  have hplain : ∀ w : State, w.isPosted b off = false := fun w => by
    simp only [State.isPosted, Bool.or_eq_false_iff, Bool.and_eq_false_iff, beq_eq_false_iff_ne, decide_eq_false_iff_not]
    exact ⟨.inl (.inl hl), .inl (.inl (by omega))⟩
  have hput : ∀ x, { s with hspi := x }.hspiPut (regAddr b off).toNat v = some { u with hspi := x } := fun x => by
    rw [State.hspiPut, pageLost_none (by exact hfailed), regOf_regAddr hb (by omega)]
    exact hw x .hspi
  unfold execWriteBurst
  rw [if_neg (by simp [State.hspiOn, hpowered, hready]), if_neg (by simp [hbusy])]
  extract_lets s0 x s1
  rw [if_neg (by simp [halign])]
  have hs1 : s1 = { s with hspi := s1.hspi } := rfl
  have hone : (Burst.write { st := s1, addr := (regAddr b off).toNat, out := [], late := false } v).st = { u with hspi := s1.hspi } := by
    unfold Burst.write
    simp only [regOf_regAddr hb (show off < 65536 by omega), hplain]
    rw [hs1, hput]
    rfl
  show ((Burst.write { st := s1, addr := (regAddr b off).toNat, out := [], late := false } v).st).hspiSettle = _
  rw [hone]
  simp [State.hspiSettle, State.setHspi, portAfter, s1, x, s0, State.hspiBegin, hfetch, hposted]

/-- A write over a path that reaches its register makes it, and of the port leaves what a burst leaves. -/
theorem accessWrite_makes (hr : Reaches s p b) (hb : b ≤ 23) (h4 : off % 4 = 0) (ho : off < 0xFFF8) (hl : b ≠ 23)
    (hw : ∀ x q, { s with hspi := x }.writeReg q b off v = some { u with hspi := x }) :
    s.accessWrite p (regAddr b off) v = { u with hspi := portAfter p s.hspi } := by
  have hreg := regOf_regAddr hb (show off < 65536 by omega)
  have halign : (regAddr b off).toNat % 4 = 0 := by rw [regAddr_toNat hb (by omega)]; omega
  have hdirect : ∀ q, s.writeReg q b off v = some { u with hspi := s.hspi } := hw s.hspi
  cases p with
  | hspi => exact writeBurst_makes hr hb h4 ho hl hw
  | core =>
    obtain ⟨hpowered, -, hfailed, -, -⟩ := hr
    simp only [State.accessWrite, State.coreWrite, hpowered, halign, pageLost_none hfailed, hreg, waitPending_plain s b ho, hdirect,
      Bool.not_true, Bool.false_eq_true, if_false, ne_eq, not_true_eq_false]
    rfl
  | coreOther => exact absurd rfl hr.2.1
  | window =>
    obtain ⟨hpowered, -, -, -, -⟩ := hr
    simp only [State.accessWrite, State.windowWrite, hpowered, halign, hreg, waitPending_plain s b ho, hdirect,
      Bool.not_true, Bool.or_false, ne_eq, not_true_eq_false, decide_false, Bool.false_eq_true, if_false]
    rfl

/-- The completion queue's pop and its overflow flag (R439). -/
theorem popCq_eq (s : State) (v : Word) : s.popCq v = { s with
    weir := { s.weir with
      cq := if v.getLsbD 0 = true then s.weir.cq.tail else s.weir.cq
      cqOverflow := s.weir.cqOverflow && !v.getLsbD 1 } } := by
  unfold State.popCq
  cases v.getLsbD 0 <;> cases v.getLsbD 1 <;> simp

theorem accessWrite_cqPop (hr : Reaches s p 2) (v : Word) :
    s.accessWrite p (regAddr 2 0x28) v = { s.popCq v with hspi := portAfter p s.hspi } :=
  accessWrite_makes hr (by decide) (by decide) (by decide) (by decide) fun x q => by
    rw [popCq_eq]
    exact congrArg some (popCq_eq { s with hspi := x } v)

theorem snapWrite_eq (v : Word) (s : State) : snapWrite v s = { s with
    time := { s.time with snap := if v.getLsbD 0 = true then s.clk.node else s.time.snap } } := by
  unfold snapWrite
  split <;> rfl

theorem accessWrite_snapGo (hr : Reaches s p 11) (v : Word) :
    s.accessWrite p (regAddr 11 0x20) v = { snapWrite v s with hspi := portAfter p s.hspi } :=
  accessWrite_makes hr (by decide) (by decide) (by decide) (by decide) fun x q => by
    rw [snapWrite_eq]
    exact congrArg some (snapWrite_eq v { s with hspi := x })

/-! ## The summary of a Quire (R301) -/

/-- A Quire's summary with the bits of v cleared. -/
def Quire.sumCleared (x : Quire) (v : Word) : Quire := { x with sum := x.sum - (x.sum &&& v.toNat) }

/-- Of n without the bits it shares with m, those remain that m does not have. -/
theorem testBit_sub_and (n m i : Nat) : (n - (n &&& m)).testBit i = (n.testBit i && !m.testBit i) := by
  have hle : n &&& m ≤ n := Nat.and_le_left
  have hmod : (n &&& m) % 2 = 1 ↔ n % 2 = 1 ∧ m % 2 = 1 := Nat.and_mod_two_eq_one
  induction i generalizing n m with
  | zero =>
    simp only [Nat.testBit_zero, ← decide_not, ← Bool.decide_and, decide_eq_decide]
    omega
  | succ i ih =>
    have hhalf : (n - (n &&& m)) / 2 = n / 2 - (n / 2 &&& m / 2) := by
      have hdiv : (n &&& m) / 2 = n / 2 &&& m / 2 := Nat.and_div_two
      omega
    simp only [Nat.testBit_succ, hhalf]
    exact ih _ _ Nat.and_le_left Nat.and_mod_two_eq_one

theorem accessWrite_sumClear {q : Nat} (hr : Reaches s p 16) (hq : q < 16) (v : Word) :
    s.accessWrite p (regAddr 16 (0x100 + 4 * q)) v =
      { s.setQuire q ((s.quire q).sumCleared v) with hspi := portAfter p s.hspi } := by
  refine accessWrite_makes hr (by decide) (by omega) (by omega) (by decide) fun x r => ?_
  have hrow : (0x100 + 4 * q - 0x100) / 4 = q := by omega
  have hin : 0x100 ≤ 0x100 + 4 * q ∧ 0x100 + 4 * q < 0x140 := by omega
  have hread : ∀ w : State, (w.readPlain 16 (0x100 + 4 * q)).isSome = true := fun w => by
    show (w.readQuireReg (0x100 + 4 * q)).isSome = true
    unfold State.readQuireReg
    rw [if_neg (by omega), if_neg (by omega), if_pos (by omega)]
    rfl
  have hwrite : ∀ w : State, w.writePlain 16 (0x100 + 4 * q) v = w.setQuire q ((w.quire q).sumCleared v) := fun w => by
    refine (if_pos hin).trans ?_
    rw [hrow]
    rfl
  unfold State.writeReg
  rw [if_neg (by decide), if_neg (by omega), if_neg (by omega), if_neg (by omega), if_neg (by simp [State.counterAt]), if_pos (hread _),
    hwrite]
  rfl

/-- The bits written are cleared, the rest of the Quire stays, and so does every other Quire. -/
theorem sumClear_clears {q : Nat} (hr : Reaches s p 16) (hq : q < 16) (v : Word) :
    ∃ t, exec (.sumClear p q v) s = .next t ∧ t = { s with quires := t.quires, hspi := portAfter p s.hspi } ∧
      t.quire q = (s.quire q).sumCleared v ∧ ∀ r, r ≠ q → t.quire r = s.quire r := by
  have hexec : exec (.sumClear p q v) s = ans s (s.accessWrite p (regAddr 16 (0x100 + 4 * q)) v) :=
    congrArg (fun i => ans s (s.accessWrite p (regAddr 16 (0x100 + 4 * i)) v)) (Nat.mod_eq_of_lt hq)
  rw [hexec, accessWrite_sumClear hr hq]
  exact ⟨_, rfl, rfl, quire_setQuire_self s q _, fun r hne => (quire_setQuire s q r _).trans (if_neg hne)⟩

/-- Settles O21: a write over any path that reaches its register makes the register's action and nothing else but the port's flags. -/
theorem actionRegisterWrites : Obligations.ActionRegisterWrites := by
  refine ⟨fun p v s hr c hc => ?_, fun p v s hr => ?_, fun p q v s hr hq => ?_⟩
  · have hpop : exec c s = ans s (s.accessWrite p (regAddr 2 0x28) v) := by obtain rfl | rfl := hc <;> rfl
    rw [hpop, accessWrite_cqPop hr, popCq_eq]
    rfl
  · show ans s (s.accessWrite p (regAddr 11 0x20) v) = _
    rw [accessWrite_snapGo hr, snapWrite_eq]
    rfl
  · obtain ⟨t, ht, hframe, hclear, hrest⟩ := sumClear_clears hr hq v
    refine ⟨t, ht, hframe, fun i => ?_, by rw [hclear]; rfl, hrest⟩
    rw [hclear, ← BitVec.testBit_toNat]
    exact testBit_sub_and ..

end Sys2Proof.Machine
end

section
/-! SUPPORT. A task leaves its list (R416 to R421): which one it is, its slot as it begins to run, and the cores. -/

namespace Sys2Proof.Machine

variable {s t u v : State} {c h slot st : Nat} {k : Task}

/-! ## One slot -/

theorem task_setTask (s : State) (slot j : Nat) (x : Task) : (s.setTask slot x).task j = if j = slot then x else s.task j := tget_tset ..

@[simp] theorem task_setTask_self (s : State) (slot : Nat) (x : Task) : (s.setTask slot x).task slot = x := tget_tset_self ..

theorem task_setTask_of_ne (s : State) {slot j : Nat} (x : Task) (hj : j ≠ slot) : (s.setTask slot x).task j = s.task j :=
  (task_setTask ..).trans (if_neg hj)

theorem State.task_congr (hs : t.weir.slots = s.weir.slots) (j : Nat) : t.task j = s.task j := congrArg (tget Task.init · j) hs

/-- A live handle stays live where its slot keeps the handle and is not free. -/
theorem handleLive_of_task (hl : s.handleLive h = true) (hh : (t.task (h % 1024)).handle = (s.task (h % 1024)).handle)
    (hs : (t.task (h % 1024)).state ≠ 0) : t.handleLive h = true := by
  simp only [State.handleLive, Bool.and_eq_true, bne_iff_ne, beq_iff_eq] at hl ⊢
  exact ⟨⟨hl.1.1, hh.trans hl.1.2⟩, hs⟩

/-! ## RUNNING (R416) -/

/-- Task t as it is dispatched. -/
def Task.begun (t : Task) : Task := { t with state := 3, dispatched := true }

theorem running_weir (s : State) (slot : Nat) : (s.running slot).weir = (s.setTask slot (s.task slot).begun).weir := by
  unfold State.running
  extract_lets x s1
  split <;> rfl

theorem running_task (s : State) (slot j : Nat) : (s.running slot).task j = if j = slot then (s.task slot).begun else s.task j :=
  (State.task_congr (congrArg Weir.slots (running_weir s slot)) j).trans (task_setTask ..)

theorem running_live (slot : Nat) (hl : s.handleLive h = true) : (s.running slot).handleLive h = true := by
  have htask := running_task s slot (h % 1024)
  by_cases hs : h % 1024 = slot
  · rw [if_pos hs] at htask
    exact handleLive_of_task hl (by rw [htask, hs]; rfl) (by rw [htask]; exact (by decide : (3 : Nat) ≠ 0))
  · rw [if_neg hs] at htask
    exact handleLive_of_task hl (by rw [htask]) (by rw [htask]; exact handleLive_state hl)

/-- Of the counts, the first dispatch is the only one that changes. -/
theorem running_cnt (s : State) (slot : Nat) {d : Nat} (hd : d ≠ 3) : (s.running slot).fld oWeirCnt 0 d = s.fld oWeirCnt 0 d := by
  unfold State.running
  extract_lets x s1
  split
  · rfl
  · exact (fld_setFld ..).trans (if_neg fun k => hd k.2.2)

/-! ## The ready lists (R417) -/

/-- A task leaves the list of its own class. -/
theorem nextTask_cls (hn : s.nextTask c = some (slot, k)) : k.cls = c := by
  have hlisted : ∀ o, o = s.nextTask c → ∀ e, o = some e → e.2.cls = c := by
    rintro _ rfl
    unfold State.nextTask
    refine List.foldlRecOn (motive := fun o : Option (Nat × Task) => ∀ e, o = some e → e.2.cls = c) _ _ nofun fun o ho e he => ?_
    have hcls : e.2.cls = c := by
      have hready := (List.mem_filter.mp he).2
      simp only [Bool.and_eq_true, beq_iff_eq] at hready
      exact hready.1.2
    rintro x hx
    split at hx
    · exact Option.some.inj hx ▸ hcls
    · split at hx
      · exact Option.some.inj hx ▸ hcls
      · exact ho x hx
  exact hlisted _ rfl _ hn

theorem execTaskDispatch_none (hv : v = s.overdue) (hn : v.nextTask c = none) : execTaskDispatch c s = v := by
  subst hv
  simp only [execTaskDispatch, hn]

theorem execTaskDispatch_core (hv : v = s.overdue) (hn : v.nextTask 0 = some (slot, k)) : execTaskDispatch 0 s = v.dispatchCore slot k := by
  subst hv
  simp only [execTaskDispatch, hn, if_true]

theorem execTaskDispatch_engine (hv : v = s.overdue) (hn : v.nextTask c = some (slot, k)) (hc : c ≠ 0) :
    execTaskDispatch c s = (v.running slot).engineTakes k := by
  subst hv
  simp only [execTaskDispatch, hn, hc, if_false]

/-- With the deadlines seen to nothing more happens. -/
theorem taskDispatch_rests (hv : v = s.overdue) (hu : execTaskDispatch c s = v) : exec (.taskDispatch c) s = .next v := by
  have hpending : v.pending = s.pending := hv ▸ (State.overdue_keeps s).pending_eq (by decide)
  show ans s (execTaskDispatch c s) = .next v
  rw [hu, ans, ← hpending]

/-! ## Cores (R419, R420, R429) -/

/-- Core i holds the task k in slot `slot`, which has been dispatched. -/
structure CoreRuns (i slot : Nat) (k : Task) (t : State) : Prop where
  state : (t.task slot).state = 3
  dispatched : (t.task slot).dispatched = true
  core : ∃ run, tfind t.weir.cores i = some run ∧ run.handle = k.handle ∧ run.prio = k.prio

theorem coreTakes_runs (i : Nat) (hk : k = s.task slot) (hop : k.nat 0 2 ≠ 0) : CoreRuns i slot k (s.coreTakes i slot) := by
  subst hk
  unfold State.coreTakes
  extract_lets x s1
  rw [if_neg hop]
  have hslot : s1.task slot = x.begun := (running_task s slot slot).trans (if_pos rfl)
  exact ⟨by rw [hslot]; rfl, by rw [hslot]; rfl, _, tfind_tins_self .., rfl, rfl⟩

theorem coreTakes_cnt (i : Nat) (hop : (s.task slot).nat 0 2 ≠ 0) {d : Nat} (hd : d ≠ 3) :
    (s.coreTakes i slot).fld oWeirCnt 0 d = s.fld oWeirCnt 0 d := by
  unfold State.coreTakes
  extract_lets x s1
  rw [if_neg hop]
  exact running_cnt s slot hd

theorem coreTakes_task (i : Nat) (hop : (s.task slot).nat 0 2 ≠ 0) {j : Nat} (hj : j ≠ slot) : (s.coreTakes i slot).task j = s.task j := by
  unfold State.coreTakes
  extract_lets x s1
  rw [if_neg hop]
  exact (running_task s slot j).trans (if_neg hj)

/-- OP 0 does nothing: the task is OK as soon as a core takes it (R429). -/
theorem coreTakes_completes (i : Nat) (hk : k = s.task slot) (hop : k.nat 0 2 = 0) (hl : s.handleLive k.handle = true) :
    Completed (s.coreTakes i slot) k.handle stOk := by
  subst hk
  unfold State.coreTakes
  extract_lets x s1
  rw [if_pos hop]
  have hlive : s1.handleLive x.handle = (s.running slot).handleLive x.handle := State.handleLive_congr rfl _
  exact completeTask_completes (hlive.trans (running_live slot hl)) stOk

theorem dispatchCore_idle {i : Nat} (hi : s.idleCore = some i) : s.dispatchCore slot k = s.coreTakes i slot := by
  simp only [State.dispatchCore, hi]

theorem dispatchCore_waits (hi : s.idleCore = none) (hno : k.prio < s.val 0x300003 ∨ s.victim k.prio = none) :
    s.dispatchCore slot k = s := by
  simp only [State.dispatchCore, hi]
  split
  · rfl
  next hp => rw [hno.resolve_left hp]

theorem dispatchCore_displaces {e : Nat × CoreRun} (hi : s.idleCore = none) (hp : s.val 0x300003 ≤ k.prio)
    (he : s.victim k.prio = some e) : s.dispatchCore slot k = (s.preempt e).coreTakes e.1 slot := by
  simp only [State.dispatchCore, hi, he, Nat.not_lt.mpr hp, if_false]

/-- The task that gives way is READY again, and of the slots it alone changes. -/
theorem preempt_task (s : State) (e : Nat × CoreRun) :
    ((s.preempt e).task (e.2.handle % 1024)).state = 2 ∧ ∀ j, j ≠ e.2.handle % 1024 → (s.preempt e).task j = s.task j :=
  ⟨congrArg Task.state (task_setTask_self ..), fun _ hj => (task_setTask_of_ne _ _ hj).trans rfl⟩

theorem preempt_cnt (s : State) (e : Nat × CoreRun) : (s.preempt e).fld oWeirCnt 0 4 = (s.fld oWeirCnt 0 4 + 1) % 2 ^ 64 :=
  (fld_setFld ..).trans (if_pos ⟨rfl, rfl, rfl⟩)

end Sys2Proof.Machine
end

section
/-! SUPPORT. Engines take their tasks (R416, R421, R429): a fade armed, an enumeration requested, a demotion; with the obligation of
dispatch. -/

namespace Sys2Proof.Machine

variable {s t u v : State} {c h slot st f n : Nat} {k : Task}

/-! ## FADE (R416, R429) -/

theorem engineFade_arms (h1 : k.byte 1 = 1) (h2 : k.byte 2 = 0) (hst : s.fadeState (k.byte 0) = 0 ∨ s.fadeState (k.byte 0) = 3)
    (hs : s.now < fdStartTick (s.row oFade (k.byte 0))) (he : s.now < fdEndTick (s.row oFade (k.byte 0))) :
    s.engineFade k = (s.fadeLoaded (k.byte 0) (some k.handle)).setRow 0x250100 (k.byte 0) [1] := by
  have hsettle : s.fadeSettle (k.byte 0) s.now = s := fadeSettle_of_state (by omega) _
  have harm : armFade (k.byte 0) (some k.handle) s = done (s.fadeLoaded (k.byte 0) (some k.handle)) :=
    (armFade_arms hst _).trans (congrArg done (fadeArmed_waits hs he _))
  have hfree : ¬(s.fadeState (k.byte 0) = 1 ∨ s.fadeState (k.byte 0) = 2) := by omega
  have hok : accepted stOk = true := by decide
  simp only [State.engineFade, h1, h2, harm, done, hok, hsettle, hfree, State.orRefused, Bool.not_true, Bool.false_eq_true, if_false,
    if_true, Nat.one_ne_zero, Nat.zero_ne_one]

/-! ## CAMEG (R298, R421) -/

/-- The first of a task's parameter bytes, as the first field of a row of one byte. -/
theorem beNat_take_params (k : Task) (n : Nat) : beNat ((k.params.take (n + 1)).take 1) = k.byte 0 := by
  unfold Task.byte
  cases k.params with
  | nil => rfl
  | cons b bs => simp [beNat]

/-- Request r stands at the end of Quire q's line. -/
def State.requestQueued (s : State) (q : Nat) (r : Request) : State :=
  s.setQuire q { s.quire q with requests := (s.quire q).requests ++ [r] }

theorem putRequest_enum {q : Nat} {r : Request} (hr : r.enum = true) (hst : s.quireState q = 2) (hrate : legacy (s.qRate q) = false) :
    s.putRequest q r = s.requestQueued q { r with at_ := s.clk.elapsed } := if_neg (by simp [hr, hst, hrate])

/-- An operation that runs as a task keeps the task's handle (R407). -/
theorem accept_carried {w : Who} (hw : w.task ≠ 0) (start : Nat → State → State) :
    accept s w start = { status := stAccepted, handle := w.task, st := start w.task s } := if_pos hw

theorem engineCameg_requests (hb : k.byte 12 = 1) (hh : k.handle ≠ 0) (hfull : s.requestsFull (k.byte 0) = false)
    (hst : s.quireState (k.byte 0) = 2) (hrate : legacy (s.qRate (k.byte 0)) = false) :
    ∃ r, s.engineCameg k = s.requestQueued (k.byte 0) r ∧ r.handle = k.handle ∧ r.enum = true := by
  obtain ⟨row, hrow⟩ : ∃ row, row = splitFields ((objDef 0x240500).map (fun d => d.flds) |>.getD []) (k.params.take 4) := ⟨_, rfl⟩
  have hq : row.getD 0 0 = k.byte 0 := hrow ▸ beNat_take_params k 3
  obtain ⟨r, hr⟩ : ∃ r, r = { Request.fresh k.handle (row.getD 2 0) with enum := true } := ⟨_, rfl⟩
  have henum : r.enum = true := by rw [hr]
  have hwrite : writeEnumerate k.who row s = { status := stAccepted, handle := k.handle, st := s.putRequest (k.byte 0) r } := by
    unfold writeEnumerate
    rw [hq]
    extract_lets q
    rw [if_neg (ne_true_of_eq_false hfull), accept_carried hh, hr]
    rfl
  have hacc : accepted stAccepted = true := by decide
  refine ⟨{ r with at_ := s.clk.elapsed }, ?_, congrArg Request.handle hr, henum⟩
  simp only [State.engineCameg, hb, Nat.one_ne_zero, if_false, ← hrow, hwrite, State.orRefused, hacc, if_true]
  exact putRequest_enum henum hst hrate

/-! ## TWIN (R393) -/

/-- A change of state with no task behind a handover completes none. -/
theorem enterTwin_noTask (hh : s.twin.handoverTask = none) (st r : Nat) :
    (s.enterTwin st r).weir = s.weir ∧ (s.enterTwin st r).twin.handoverTask = none := by
  rw [enterTwin_eq, hh]
  generalize decide (s.twin.handover.isSome ∧ r ≠ 5) = b
  have hcounts := enteredCounts_keeps (s.enteredRow st r) b st
  have htwin := (handoverOver_keeps ((s.enteredRow st r).enteredCounts b st) none r).twin_eq (by decide)
  refine ⟨?_, congrArg Twin.handoverTask ((htwin.trans (hcounts.twin_eq (by decide))).trans (enteredRow_twin s st r))⟩
  have hover : ∀ w : State, (w.handoverOver none r).weir = w.weir := fun w => by
    unfold State.handoverOver
    split
    · rw [completeOpt_none]
      exact ((State.raise_keeps ..).weir_eq (by decide)).trans ((State.twinCount_keeps w 9).weir_eq (by decide))
    · rw [completeOpt_none]
  exact (hover _).trans ((hcounts.weir_eq (by decide)).trans (enteredRow_weir s st r))

theorem twinEval_noTask (n : Nat) (hh : s.twin.handoverTask = none) :
    (State.twinEval false n s).weir = s.weir ∧ (State.twinEval false n s).twin.handoverTask = none := by
  induction n generalizing s with
  | zero => exact ⟨rfl, hh⟩
  | succ n ih =>
    cases hdue : s.twinDue false with
    | none =>
      obtain ⟨b, out, hear, heval, -⟩ := twinEval_ends (s := s) (.inl rfl) hdue n
      rw [heval]
      exact ⟨rfl, hh⟩
    | some e =>
      obtain ⟨b, heval⟩ := twinEval_goes (s := s) (st := e.1) (r := e.2) (.inl rfl) hdue n
      obtain ⟨hweir, htask⟩ := enterTwin_noTask (s := s.marked b s.twin.outSince s.twin.hearSince) hh e.1 e.2
      rw [heval]
      exact ⟨(ih htask).1.trans hweir, (ih htask).2⟩

/-- What follows the demotion leaves it as it stands, and the task is OK. -/
theorem engineTwin_demotes (h0 : k.byte 0 = 0) (he : s.twinEnabled = true) (hn : s.twinState ≠ 3) (hh : s.twin.handoverTask = none)
    (hl : s.handleLive k.handle = true) :
    (s.engineTwin k).twinState = 3 ∧ (s.engineTwin k).fld oTwin 0 7 = 7 ∧ Completed (s.engineTwin k) k.handle stOk := by
  have hwrite : writeDemote 1 s = done (s.twinSettle.enterTwin 3 7) := by
    have hrank : ¬(s.twinSettle.twinState = 3 ∧ s.twinSettle.twin.reason = 8) := twinEval_not_rank 4 fun h => hn h.1
    unfold writeDemote
    rw [if_pos ⟨he, rfl⟩, if_neg hrank]
  have hengine : s.engineTwin k = (State.afterTwin s (s.twinSettle.enterTwin 3 7)).completeTask k.handle stOk := by
    simp only [State.engineTwin, h0, hwrite, done]
  have hentered := enterTwin_enters s.twinSettle 3 7
  obtain ⟨hsettled, hnone⟩ := twinEval_noTask (s := s) 4 hh
  have hslots := (enterTwin_noTask (s := s.twinSettle) hnone 3 7).1.trans hsettled
  generalize s.twinSettle.enterTwin 3 7 = d at hengine hentered hslots
  have hshown := TwinShown.afterTwin s d
  have hafter : (State.afterTwin s d).weir = d.weir := (State.afterTwin_keeps s d).weir_eq (by decide)
  have hlive : (State.afterTwin s d).handleLive k.handle = true :=
    (State.handleLive_congr (congrArg Weir.slots (hafter.trans hslots)) _).trans hl
  have hstatus : ∀ c, (s.engineTwin k).fld oTwin 0 c = d.fld oTwin 0 c := fun c => by
    rw [hengine]
    exact ((State.completeTask_keeps ..).fld_eq (by decide) 0 c).trans (hshown.status c)
  exact ⟨(hstatus 0).trans hentered.state, (hstatus 7).trans hentered.why, hengine ▸ completeTask_completes hlive stOk⟩

/-! ## The clauses, and the obligation -/

theorem taskDispatch_core {i : Nat} (hv : v = s.overdue) (hn : v.nextTask 0 = some (slot, k)) (hi : v.idleCore = some i)
    (hk : k = v.task slot) :
    (k.nat 0 2 = 0 → v.handleLive k.handle = true → ∃ t, exec (.taskDispatch 0) s = .next t ∧ Completed t k.handle stOk) ∧
    (k.nat 0 2 ≠ 0 → ∃ t run, exec (.taskDispatch 0) s = .next t ∧ (t.task slot).state = 3 ∧ (t.task slot).dispatched = true ∧
      tfind t.weir.cores i = some run ∧ run.handle = k.handle ∧ run.prio = k.prio) := by
  have hexec : exec (.taskDispatch 0) s = ans s (v.coreTakes i slot) :=
    congrArg (ans s) ((execTaskDispatch_core hv hn).trans (dispatchCore_idle hi))
  rw [hexec]
  refine ⟨fun hop hl => ans_next (fun _ _ h => h) (coreTakes_completes i hk hop hl), fun hop => ?_⟩
  obtain ⟨hstate, hdispatched, run, hrun⟩ := coreTakes_runs i hk hop
  exact ⟨_, run, rfl, hstate, hdispatched, hrun⟩

theorem taskDispatch_displaces {e : Nat × CoreRun} (hv : v = s.overdue) (hn : v.nextTask 0 = some (slot, k)) (hi : v.idleCore = none)
    (hp : v.val 0x300003 ≤ k.prio) (he : v.victim k.prio = some e) (hk : k = v.task slot) (hne : e.2.handle % 1024 ≠ slot)
    (hop : k.nat 0 2 ≠ 0) : ∃ t run, exec (.taskDispatch 0) s = .next t ∧ tfind t.weir.cores e.1 = some run ∧ run.handle = k.handle ∧
      (t.task slot).state = 3 ∧ (t.task (e.2.handle % 1024)).state = 2 ∧ t.fld oWeirCnt 0 4 = (v.fld oWeirCnt 0 4 + 1) % 2 ^ 64 := by
  have hexec : exec (.taskDispatch 0) s = ans s ((v.preempt e).coreTakes e.1 slot) :=
    congrArg (ans s) ((execTaskDispatch_core hv hn).trans (dispatchCore_displaces hi hp he))
  obtain ⟨hready, hrest⟩ := preempt_task v e
  have hk' : k = (v.preempt e).task slot := hk.trans (hrest slot hne.symm).symm
  obtain ⟨hstate, -, run, hrun, hhandle, -⟩ := coreTakes_runs e.1 hk' hop
  have hop' : ((v.preempt e).task slot).nat 0 2 ≠ 0 := hk' ▸ hop
  rw [hexec]
  refine ⟨_, run, rfl, hrun, hhandle, hstate, ?_, ?_⟩
  · exact (congrArg Task.state (coreTakes_task e.1 hop' hne)).trans hready
  · exact (coreTakes_cnt e.1 hop' (by decide)).trans (preempt_cnt v e)

section
variable (hv : v = s.overdue) (hn : v.nextTask c = some (slot, k))
include hv hn

theorem taskDispatch_fade (hc : c = 3) (h1 : k.byte 1 = 1) (h2 : k.byte 2 = 0)
    (hst : v.fadeState (k.byte 0) = 0 ∨ v.fadeState (k.byte 0) = 3) (hs : v.now < fdStartTick (v.row oFade (k.byte 0)))
    (he : v.now < fdEndTick (v.row oFade (k.byte 0))) : ∃ t, exec (.taskDispatch c) s = .next t ∧ (t.task slot).state = 3 ∧
      t.fadeState (k.byte 0) = 1 ∧ (t.fade (k.byte 0)).task = some k.handle ∧ (t.fade (k.byte 0)).row = v.row oFade (k.byte 0) := by
  have hkeeps := State.running_keeps v slot
  have hrow : (v.running slot).row oFade (k.byte 0) = v.row oFade (k.byte 0) := hkeeps.objs _ _ (by decide)
  have hnow : (v.running slot).now = v.now := State.now_congr (hkeeps.clk_eq (by decide))
  have hstate : (v.running slot).fadeState (k.byte 0) = v.fadeState (k.byte 0) := hkeeps.fld_eq (by decide) _ 0
  have hslot : (v.running slot).task slot = (v.task slot).begun := (running_task v slot slot).trans (if_pos rfl)
  have htakes : (v.running slot).engineTakes k = (v.running slot).engineFade k := by
    simp only [State.engineTakes, nextTask_cls hn, hc]
  have hexec : exec (.taskDispatch c) s = ans s ((v.running slot).engineFade k) :=
    congrArg (ans s) ((execTaskDispatch_engine hv hn (by omega)).trans htakes)
  rw [hexec]
  clear hexec htakes hkeeps
  generalize v.running slot = w at *
  have harms := engineFade_arms (s := w) h1 h2 (by rwa [hstate])
    (hnow.trans_lt (hs.trans_eq (congrArg fdStartTick hrow.symm))) (hnow.trans_lt (he.trans_eq (congrArg fdEndTick hrow.symm)))
  have hfade : ((w.fadeLoaded (k.byte 0) (some k.handle)).setRow 0x250100 (k.byte 0) [1]).fade (k.byte 0) = _ :=
    (State.fade_congr rfl _).trans (fadeLoaded_fade w (k.byte 0) (some k.handle))
  rw [harms]
  refine ans_next (fun _ _ h => h) ⟨?_, ?_, ?_, ?_⟩
  · exact (congrArg Task.state (State.task_congr rfl slot)).trans (congrArg Task.state hslot)
  · exact (fld_setRow_of_ne _ _ _ _ _ (by decide)).trans (fadeLoaded_state ..)
  · rw [hfade]
  · rw [hfade]
    exact hrow

theorem taskDispatch_cameg (hc : c = 5) (hb : k.byte 12 = 1) (hh : k.handle ≠ 0) (hfull : v.requestsFull (k.byte 0) = false)
    (hst : v.quireState (k.byte 0) = 2) (hrate : legacy (v.qRate (k.byte 0)) = false) :
    ∃ t r, exec (.taskDispatch c) s = .next t ∧ (t.task slot).state = 3 ∧
      (t.quire (k.byte 0)).requests = (v.quire (k.byte 0)).requests ++ [r] ∧ r.handle = k.handle ∧ r.enum = true := by
  have hkeeps := State.running_keeps v slot
  have hquire : (v.running slot).quire (k.byte 0) = v.quire (k.byte 0) := hkeeps.quire_eq (by decide) _
  have hstate : (v.running slot).quireState (k.byte 0) = v.quireState (k.byte 0) := hkeeps.fld_eq (by decide) _ 0
  have hslot : (v.running slot).task slot = (v.task slot).begun := (running_task v slot slot).trans (if_pos rfl)
  have htakes : (v.running slot).engineTakes k = (v.running slot).engineCameg k := by
    simp only [State.engineTakes, nextTask_cls hn, hc]
  have hsame : (v.running slot).qRate (k.byte 0) = v.qRate (k.byte 0) := by
    have hberm : (v.running slot).berm = v.berm := by rw [State.berm, hkeeps.power_eq (by decide)]; rfl
    rw [State.qRate, hberm, hkeeps.fld_eq (o := oQuire) (by decide)]
    rfl
  obtain ⟨r, hr, hhandle, henum⟩ := engineCameg_requests (s := v.running slot) hb hh
    (by rwa [State.requestsFull, hquire]) (by rwa [hstate]) (by rwa [hsame])
  have hexec : exec (.taskDispatch c) s = ans s ((v.running slot).requestQueued (k.byte 0) r) :=
    congrArg (ans s) ((execTaskDispatch_engine hv hn (by omega)).trans (htakes.trans hr))
  rw [hexec]
  refine ⟨_, r, rfl, ?_, ?_, hhandle, henum⟩
  · exact (congrArg Task.state (State.task_congr rfl slot)).trans (congrArg Task.state hslot)
  · exact (congrArg Quire.requests (quire_setQuire_self ..)).trans (by rw [hquire])

theorem taskDispatch_demotes (hc : c = 6) (h0 : k.byte 0 = 0) (he : v.twinEnabled = true) (hst : v.twinState ≠ 3)
    (hh : v.twin.handoverTask = none) (hl : v.handleLive k.handle = true) :
    ∃ t, exec (.taskDispatch c) s = .next t ∧ t.twinState = 3 ∧ t.fld oTwin 0 7 = 7 ∧ Completed t k.handle stOk := by
  have hkeeps := State.running_keeps v slot
  have htwin : (v.running slot).twin = v.twin := hkeeps.twin_eq (by decide)
  have hstate : (v.running slot).twinState = v.twinState := hkeeps.fld_eq (by decide) 0 0
  have henabled : (v.running slot).twinEnabled = v.twinEnabled := congrArg (· == 1) (hkeeps.fld_eq (by decide) 0 0)
  have htakes : (v.running slot).engineTakes k = (v.running slot).engineTwin k := by
    simp only [State.engineTakes, nextTask_cls hn, hc]
  have hexec : exec (.taskDispatch c) s = ans s ((v.running slot).engineTwin k) :=
    congrArg (ans s) ((execTaskDispatch_engine hv hn (by omega)).trans htakes)
  rw [hexec]
  exact ans_next (fun _ _ h => h)
    (engineTwin_demotes h0 (henabled.trans he) (hstate ▸ hst) (by rwa [htwin]) (running_live slot hl))

end

/-- Settles O56: the deadlines are seen to first; the task that then leaves its list runs on a core or has its engine's effect. -/
theorem taskDispatch : Obligations.TaskDispatch := by
  refine fun c slot k v s hv => ⟨fun hn => taskDispatch_rests hv (execTaskDispatch_none hv hn), fun hn => ⟨?_, ?_, ?_, ?_⟩⟩
  · rintro rfl
    exact ⟨fun i hi hk => taskDispatch_core hv hn hi hk,
      fun hi hno => taskDispatch_rests hv ((execTaskDispatch_core hv hn).trans (dispatchCore_waits hi hno)),
      fun e hi hp he hk hne hop => taskDispatch_displaces hv hn hi hp he hk hne hop⟩
  · exact fun hc h1 h2 hst hs he => taskDispatch_fade hv hn hc h1 h2 hst hs he
  · exact fun hc hb hh _ hfull hst hrate => taskDispatch_cameg hv hn hc hb hh hfull hst hrate
  · exact fun hc h0 he hst hh _ hl => taskDispatch_demotes hv hn hc h0 he hst hh hl

end Sys2Proof.Machine
end

section
/-! SUPPORT. What completing a task counts (R413, R433): its own column of OD 0x4300, and for the successors that fail with it that of
PRED_FAILED. -/

namespace Sys2Proof.Machine

variable {s t u : State} {h st d : Nat}

/-- The counts of completions, but for those that PRED_FAILED and a full completion queue add to. -/
abbrev PlainCount (d : Nat) : Prop := d ≠ 7 ∧ d ≠ 10

theorem bump_cnt (s : State) (c d : Nat) :
    (s.bump oWeirCnt 0 c).fld oWeirCnt 0 d = if d = c then (s.fld oWeirCnt 0 c + 1) % 2 ^ 64 else s.fld oWeirCnt 0 d := by
  simp [State.bump, State.add, fld_setFld]

theorem cqPush_cnt (h st : Nat) (hd : d ≠ 10) : (s.cqPush h st).fld oWeirCnt 0 d = s.fld oWeirCnt 0 d := by
  unfold State.cqPush
  extract_lets w s1
  split
  · exact (raise_fld _ 123 0 d (by decide)).trans ((bump_cnt ..).trans (if_neg hd))
  split
  · exact raise_fld _ 122 0 d (by decide)
  · rfl

theorem deliverCompletion_cnt (x : Task) (st : Nat) (r : List Byte) (hd : d ≠ 10) :
    (s.deliverCompletion x st r).fld oWeirCnt 0 d = s.fld oWeirCnt 0 d := by
  unfold State.deliverCompletion
  extract_lets notify s1
  have h1 : s1.fld oWeirCnt 0 d = s.fld oWeirCnt 0 d := by
    simp only [s1]
    split
    · exact (State.sendComplete_keeps ..).fld_eq (by decide) 0 d
    · rfl
  split
  · exact (cqPush_cnt _ _ hd).trans h1
  · exact h1

theorem finishOne_cnt (hl : s.handleLive h = true) (r : List Byte) (hd : d ≠ 10) : (s.finishOne h st r).2.fld oWeirCnt 0 d =
    if d = completionCol st then (s.fld oWeirCnt 0 d + 1) % 2 ^ 64 else s.fld oWeirCnt 0 d := by
  unfold State.finishOne
  rw [if_pos hl]
  extract_lets slot x s1 w s2 s3 s4 s5
  have h2 : ∀ c, s2.fld oWeirCnt 0 c = s.fld oWeirCnt 0 c := fun c => by
    simp only [s2]
    split <;> rfl
  have h3 : s3.fld oWeirCnt 0 d = if d = completionCol st then (s.fld oWeirCnt 0 d + 1) % 2 ^ 64 else s.fld oWeirCnt 0 d := by
    refine (bump_cnt (s2.freeCore h) (completionCol st) d).trans ?_
    split
    next hc => rw [← hc]; exact congrArg (fun n => (n + 1) % 2 ^ 64) (h2 d)
    next => exact h2 d
  have h4 : s4.fld oWeirCnt 0 d = s3.fld oWeirCnt 0 d := by
    simp only [s4]
    split
    · exact raise_fld _ 123 0 d (by decide)
    · rfl
  exact ((State.actEdges_keeps ..).fld_eq (by decide) 0 d).trans ((deliverCompletion_cnt x st r hd).trans (h4.trans h3))

/-- Tasks that complete with other statuses, and the successors that fail with them, leave a count. -/
theorem finishAll_cnt (n : Nat) {w : List (Nat × Nat)} (hd : PlainCount d) (hw : ∀ e ∈ w, d ≠ completionCol e.2) :
    (State.finishAll n w s).fld oWeirCnt 0 d = s.fld oWeirCnt 0 d := by
  induction n generalizing w s with
  | zero => rfl
  | succ n ih =>
    cases w with
    | nil => rfl
    | cons e w =>
      have hone : (s.finishOne e.1 e.2 []).2.fld oWeirCnt 0 d = s.fld oWeirCnt 0 d := by
        by_cases hl : s.handleLive e.1 = true
        · exact (finishOne_cnt hl [] hd.2).trans (if_neg (hw e List.mem_cons_self))
        · rw [State.finishOne, if_neg hl]
      refine (ih fun x hx => ?_).trans hone
      rcases List.mem_append.mp hx with hx | hx
      · exact hw x (List.mem_cons_of_mem _ hx)
      · obtain ⟨y, -, rfl⟩ := List.mem_map.mp hx
        exact hd.1

/-- A live task that completes counts once in the column of its status. -/
theorem completeTask_counts (hl : s.handleLive h = true) (hd : PlainCount (completionCol st)) :
    (s.completeTask h st).fld oWeirCnt 0 (completionCol st) = (s.fld oWeirCnt 0 (completionCol st) + 1) % 2 ^ 64 := by
  have hrest := finishAll_cnt (s := (s.finishOne h st []).2) (w := [] ++ (s.finishOne h st []).1.map fun x => (x, stPredFailed)) 5119 hd
    fun e he => by
      obtain ⟨y, -, rfl⟩ := List.mem_map.mp he
      exact hd.1
  exact hrest.trans ((finishOne_cnt hl [] hd.2).trans (if_pos rfl))

/-- A task that completes INTERNAL raises event 123 (R435). -/
theorem completeTask_internal (hl : s.handleLive h = true) : (s.completeTask h stInternal).raised 123 = true := by
  refine (EventsStand.finishAll 5119 _ (s.finishOne h stInternal []).2).stands 123 ?_
  unfold State.finishOne
  rw [if_pos hl]
  extract_lets slot x s1 w s2 s3 s4 s5
  have h4 : s4.raised 123 = true := raised_raise_self s3 123 (by decide)
  have h5 : s5.raised 123 = true := (EventsStand.deliverCompletion ..).stands 123 h4
  exact (EventsStand.of_keeps (State.actEdges_keeps s5 stInternal x.edges) (by decide)).stands 123 h5

end Sys2Proof.Machine
end

section
/-! SUPPORT. The instants of a task (R409 to R411, R416, R424): READY, its deadline, and the end of a core's work. -/

namespace Sys2Proof.Machine

variable {s t u : State} {slot st : Nat} {k : Task}

/-! ## READY (R409, R411) -/

/-- The state at the gate of task k. -/
def State.atGate (s : State) (k : Task) : State := if k.timed = true then s.advanceTo (tickUp (ptNs k.gate)) else s

theorem atGate_keeps (s : State) (k : Task) : Keeps 0x2001 s (s.atGate k) := by
  unfold State.atGate
  split
  · exact (State.advanceTo_keeps ..).weaken (by decide)
  · exact .refl

/-- The fence of task k has reached its value, where it waits for one. -/
def State.fencePassed (s : State) (k : Task) : Prop := k.fenced = false ∨ reached (s.fenceSeen k.fence s.tbUnits) k.fenceVal = true

theorem taskReady_waits (hk : k = s.task slot) (hno : k.state ≠ 1 ∨ k.counter ≠ 0 ∨ ¬(s.atGate k).fencePassed k) :
    exec (.taskReady slot) s = .next s := by
  subst hk
  have hexec : execTaskReady slot s = s := by
    refine if_neg fun ⟨hstate, hcounter, hfence⟩ => ?_
    rcases hno with hno | hno | hno
    · exact hno hstate
    · exact hno hcounter
    · refine hno (hfence.imp (fun h => ?_) id)
      simpa using h
  exact congrArg (ans s) hexec

theorem taskReady_makes (hk : k = s.task slot) (hstate : k.state = 1) (hcounter : k.counter = 0) (hfence : (s.atGate k).fencePassed k) :
    exec (.taskReady slot) s = ans s ((s.atGate k).makeReady slot) := by
  subst hk
  have hexec : execTaskReady slot s = (s.atGate (s.task slot)).makeReady slot :=
    if_pos ⟨hstate, hcounter, hfence.imp (fun h => by simp [h]) id⟩
  exact congrArg (ans s) hexec

/-- Task k in its slot at an instant at which it is READY. -/
structure ReadyAt (slot : Nat) (k : Task) (at_ n : Nat) (s t : State) : Prop where
  state : (t.task slot).state = 2
  readyAt : (t.task slot).readyAt = at_
  rseq : (t.task slot).rseq = readyBase + n
  next : t.weir.rseq = n + 1
  handle : (t.task slot).handle = k.handle
  others : ∀ j, j ≠ slot → t.task j = s.task j

theorem makeReady_ready (hk : k = s.task slot) (hd : k.bounded = false ∨ s.now < k.deadTick) :
    ReadyAt slot k s.nowPt s.weir.rseq s (s.makeReady slot) := by
  subst hk
  have hopen : ¬((s.task slot).bounded = true ∧ (s.task slot).deadTick ≤ s.now) := by
    rintro ⟨hb, hlate⟩
    rcases hd with hd | hd
    · exact Bool.false_ne_true (hd.symm.trans hb)
    · omega
  unfold State.makeReady
  extract_lets x w s1
  rw [if_neg hopen]
  have hslot : ∀ y, (s1.setTask slot y).task slot = y := task_setTask_self s1 slot
  exact ⟨by rw [hslot], by rw [hslot], by rw [hslot], rfl, by rw [hslot], fun j hj => (task_setTask_of_ne s1 _ hj).trans (State.task_congr rfl j)⟩

theorem makeReady_late (hk : k = s.task slot) (hb : k.bounded = true) (hd : k.deadTick ≤ s.now) :
    s.makeReady slot = if s.cancelComes k.handle then s else s.completeTask k.handle stTimeout := by
  subst hk
  exact if_pos ⟨hb, hd⟩

theorem taskReady_ready (hk : k = s.task slot) (hstate : k.state = 1) (hcounter : k.counter = 0) (hfence : (s.atGate k).fencePassed k)
    (hd : k.bounded = false ∨ (s.atGate k).now < k.deadTick) :
    ∃ t, exec (.taskReady slot) s = .next t ∧ ReadyAt slot k (s.atGate k).nowPt s.weir.rseq s t := by
  have hweir : (s.atGate k).weir = s.weir := (atGate_keeps s k).weir_eq (by decide)
  have htask : ∀ j, (s.atGate k).task j = s.task j := State.task_congr (congrArg Weir.slots hweir)
  obtain ⟨h1, h2, h3, h4, h5, h6⟩ := makeReady_ready (s := s.atGate k) (hk.trans (htask slot).symm) hd
  rw [taskReady_makes hk hstate hcounter hfence]
  rw [hweir] at h3 h4
  exact ans_next (fun _ _ ⟨a, b, c, d, e, f⟩ => ⟨a, b, c, d, e, f⟩) ⟨h1, h2, h3, h4, h5, fun j hj => (h6 j hj).trans (htask j)⟩

section
variable (hk : k = s.task slot) (hstate : k.state = 1) (hcounter : k.counter = 0) (hfence : (s.atGate k).fencePassed k)
  (hb : k.bounded = true) (hd : k.deadTick ≤ (s.atGate k).now)
include hk hstate hcounter hfence hb hd

theorem taskReady_late : exec (.taskReady slot) s =
    ans s (if (s.atGate k).cancelComes k.handle then s.atGate k else (s.atGate k).completeTask k.handle stTimeout) := by
  have htask : (s.atGate k).task slot = s.task slot := State.task_congr (congrArg Weir.slots ((atGate_keeps s k).weir_eq (by decide))) slot
  rw [taskReady_makes hk hstate hcounter hfence, makeReady_late (hk.trans htask.symm) hb hd]

theorem taskReady_cancelled (hc : (s.atGate k).cancelComes k.handle = true) : exec (.taskReady slot) s = .next (s.atGate k) := by
  rw [taskReady_late hk hstate hcounter hfence hb hd, if_pos hc]
  exact ans_of_pending ((atGate_keeps s k).pending_eq (by decide))

theorem taskReady_timesOut (hc : (s.atGate k).cancelComes k.handle = false) (hl : s.handleLive k.handle = true) :
    ∃ t, exec (.taskReady slot) s = .next t ∧ Completed t k.handle stTimeout := by
  have hlive : (s.atGate k).handleLive k.handle = true :=
    (State.handleLive_congr (congrArg Weir.slots ((atGate_keeps s k).weir_eq (by decide))) _).trans hl
  rw [taskReady_late hk hstate hcounter hfence hb hd, if_neg (ne_true_of_eq_false hc)]
  exact ans_next (fun _ _ h => h) (completeTask_completes hlive stTimeout)

end

/-! ## The deadline (R411) -/

theorem taskDeadline_waits (hk : k = s.task slot) (hno : k.bounded = false ∨ k.waits = false) : exec (.taskDeadline slot) s = .next s := by
  subst hk
  have hexec : execTaskDeadline slot s = s := by
    refine if_neg fun ⟨hb, hw⟩ => ?_
    rcases hno with hno | hno
    · exact Bool.false_ne_true (hno.symm.trans hb)
    · exact Bool.false_ne_true (hno.symm.trans hw)
  exact congrArg (ans s) hexec

theorem taskDeadline_ends (hk : k = s.task slot) (hb : k.bounded = true) (hw : k.waits = true)
    (hc : (s.advanceTo k.deadTick).cancelComes k.handle = false) (hl : s.handleLive k.handle = true) :
    ∃ t, exec (.taskDeadline slot) s = .next t ∧ Completed t k.handle stTimeout ∧ k.deadTick ≤ t.now ∧
      t.fld oWeirCnt 0 8 = (s.fld oWeirCnt 0 8 + 1) % 2 ^ 64 := by
  subst hk
  generalize hk : s.task slot = k at *
  have hexec : execTaskDeadline slot s = (s.advanceTo k.deadTick).completeTask k.handle stTimeout := by
    unfold execTaskDeadline
    rw [hk]
    exact (if_pos ⟨hb, hw⟩).trans (if_neg (ne_true_of_eq_false hc))
  have hlive : (s.advanceTo k.deadTick).handleLive k.handle = true := (advanceTo_handleLive ..).trans hl
  have hnow : ((s.advanceTo k.deadTick).completeTask k.handle stTimeout).now = (s.advanceTo k.deadTick).now :=
    State.now_congr ((State.completeTask_keeps ..).clk_eq (by decide))
  have hcount := completeTask_counts (st := stTimeout) hlive (by decide)
  rw [advanceTo_fld] at hcount
  refine ans_next (u := execTaskDeadline slot s) (fun _ _ h => h) ?_
  rw [hexec]
  exact ⟨completeTask_completes hlive stTimeout, (le_now_advanceTo s k.deadTick).trans_eq hnow.symm, hcount⟩

/-! ## A core has done its task (R416) -/

/-- The write of a CORE task. -/
def State.coreWrites (s : State) (k : Task) : WRes :=
  writeObj k.who (k.nat 2 2 * 256 + k.byte 4) 0 (fun d => rowOf d ((k.params.drop 8).take (k.byte 5))) s

/-- A core holds task k, which runs. -/
structure OnCore (s : State) (slot : Nat) (k : Task) : Prop where
  task : k = s.task slot
  runs : k.state = 3
  cls : k.cls = 0
  core : s.weir.cores.any (fun e => e.2.handle == k.handle) = true

theorem execTaskComplete_of (hk : OnCore s slot k) (st : Nat) : execTaskComplete slot st s =
    if st = stInternal then s.completeTask k.handle stInternal
    else if (s.coreWrites k).status = stAccepted then (s.coreWrites k).st.freeCore k.handle
    else (s.coreWrites k).st.completeTask k.handle (s.coreWrites k).status := by
  obtain ⟨rfl, hruns, hcls, hcore⟩ := hk
  exact if_pos ⟨hruns, hcls, hcore⟩

theorem taskComplete_fails (hk : OnCore s slot k) (hl : s.handleLive k.handle = true) :
    ∃ t, exec (.taskComplete slot stInternal) s = .next t ∧ Completed t k.handle stInternal ∧ t.raised 123 = true := by
  refine ans_next (u := execTaskComplete slot stInternal s) (fun _ _ h => h) ?_
  rw [execTaskComplete_of hk, if_pos rfl]
  exact ⟨completeTask_completes hl stInternal, completeTask_internal hl⟩

theorem taskComplete_writes (hk : OnCore s slot k) (hst : st ≠ stInternal) (hno : (s.coreWrites k).status ≠ stAccepted)
    (hl : (s.coreWrites k).st.handleLive k.handle = true) :
    ∃ t, exec (.taskComplete slot st) s = .next t ∧ Completed t k.handle (s.coreWrites k).status := by
  refine ans_next (u := execTaskComplete slot st s) (fun _ _ h => h) ?_
  rw [execTaskComplete_of hk, if_neg hst, if_neg hno]
  exact completeTask_completes hl _

/-- The core is free of the task that goes on elsewhere. -/
theorem taskComplete_goesOn (hk : OnCore s slot k) (hst : st ≠ stInternal) (hacc : (s.coreWrites k).status = stAccepted) :
    ∃ t, exec (.taskComplete slot st) s = .next t ∧ t.weir.cores.any (fun e => e.2.handle == k.handle) = false := by
  refine ans_next (u := execTaskComplete slot st s) (fun _ _ h => h) ?_
  rw [execTaskComplete_of hk, if_neg hst, if_pos hacc]
  simp [State.freeCore]

end Sys2Proof.Machine
end

section
/-! SUPPORT. What frames sent, events raised and ports turned leave of the answers: the last one, and those that a session keeps for a
repeat of its request (R459). -/

namespace Sys2Proof.Machine

variable {s t u : State} {m : Nat}

/-- The last answer, the answers that each session keeps, and whether the mailbox is busy stand in t as in s. -/
structure AnswersStand (s t : State) : Prop where
  last : t.eop.lastAnswer = s.eop.lastAnswer
  kept : ∀ i, (t.session i).answers = (s.session i).answers
  busy : t.eop.hostBusy = s.eop.hostBusy

/-- A view that every value of a table keeps is kept of what a key reads. -/
theorem tget_tmap_view {α β : Type} (g : α → β) {f : α → α} (hf : ∀ x, g (f x) = g x) (d : α) (m : Tbl α) (i : Nat) :
    g (tget d (tmap f m) i) = g (tget d m i) := by
  induction m with
  | nil => rfl
  | cons e m ih =>
    obtain ⟨k, x⟩ := e
    by_cases hk : k = i
    · simpa [tmap, tget, tfind, hk] using hf x
    · simpa [tmap, tget, tfind, hk] using ih

theorem deliver_answers (x : Session) (e now : Nat) : (x.deliver e now).answers = x.answers := by
  unfold Session.deliver
  split_ifs <;> rfl

namespace AnswersStand

theorem refl (s : State) : AnswersStand s s := ⟨rfl, fun _ => rfl, rfl⟩

theorem trans (a : AnswersStand s t) (b : AnswersStand t u) : AnswersStand s u :=
  ⟨b.last.trans a.last, fun i => (b.kept i).trans (a.kept i), b.busy.trans a.busy⟩

theorem of_eop (h : t.eop = s.eop) : AnswersStand s t :=
  ⟨congrArg Eop.lastAnswer h, fun i => congrArg (fun e : Eop => (tget Session.closed e.sessions i).answers) h,
    congrArg Eop.hostBusy h⟩

theorem mailbox (h : AnswersStand s t) : MailboxStays s t := ⟨h.busy⟩

theorem of_keeps (k : Keeps m s t) (hm : m.testBit 12 = true) : AnswersStand s t := of_eop (k.eop_eq hm)

theorem bump (s : State) (o r c : Nat) : AnswersStand s (s.bump o r c) := of_eop (setFld_eop ..)

theorem ite {c : Prop} [Decidable c] {a b : State} (ha : AnswersStand s a) (hb : AnswersStand s b) :
    AnswersStand s (if c then a else b) := by split <;> assumption

theorem foldl {α : Type} {f : State → α → State} (hf : ∀ s a, AnswersStand s (f s a)) (l : List α) (s : State) :
    AnswersStand s (l.foldl f s) := List.foldlRecOn l f (refl s) fun _ hu a _ => hu.trans (hf _ a)

theorem notify (s : State) (e : Nat) : AnswersStand s (s.notify e) :=
  ⟨rfl, tget_tmap_view Session.answers (fun x => deliver_answers x e s.now) _ _, rfl⟩

theorem raise (s : State) (e : Nat) : AnswersStand s (s.raise e) := by
  unfold State.raise
  extract_lets evt s1 s2
  have h2 : AnswersStand s s2 := of_eop rfl
  exact ite (h2.trans (notify ..)) h2

theorem raiseOnce (s : State) (e key w : Nat) : AnswersStand s (s.raiseOnce e key w) := by
  have hnoted : AnswersStand s { s with evt := { s.evt with windows := tset 0 s.evt.windows key (w + 1) } } := of_eop rfl
  exact ite (refl s) (hnoted.trans (raise ..))

/-! ## Packets and the pool (R575 to R585) -/

theorem pauseGen (s : State) (p : Nat) : AnswersStand s (s.pauseGen p) := by
  have hturn : ∀ n x, AnswersStand s (((s.setFld oPortState p 3 n).setPort p x).portEvent p) := fun n x =>
    ((of_eop (setFld_eop ..)).trans (of_keeps (State.setPort_keeps ..) (by decide))).trans (raise ..)
  unfold State.pauseGen
  extract_lets free x on q
  exact ite (hturn ..) (ite (hturn ..) (refl s))

theorem setQueue (s : State) (q : Nat) (ps : List Packet) : AnswersStand s (s.setQueue q ps) := by
  unfold State.setQueue
  extract_lets wasLow net s1 s2 s3
  have h2 : AnswersStand s s2 := of_eop rfl
  exact (ite (h2.trans (raiseOnce ..)) h2 : AnswersStand s s3).trans (foldl pauseGen _ _)

theorem append (s : State) (q : Nat) (p : Packet) : AnswersStand s (s.append q p) := by
  unfold State.append
  extract_lets k
  exact ((setQueue ..).trans (of_keeps (State.fillCells_keeps ..) (by decide))).trans (of_keeps (State.cellsTaken_keeps ..) (by decide))

theorem poolFault (s : State) (k q : Nat) : AnswersStand s (s.poolFault k q) := by
  unfold State.poolFault State.raiseMs
  extract_lets s1 x
  have h1 : AnswersStand s { s1 with net := { x with lastFault := some (k, q), poolDrops := (s1.net.poolDrops + 1) % 2 ^ 64 } } :=
    (bump s oPoolCnt q (2 + k)).trans (of_eop rfl)
  exact h1.trans (raiseOnce ..)

theorem enqueue (s : State) (q : Nat) (p : Packet) : AnswersStand s (s.enqueue q p).2 := by
  have happend : AnswersStand s (s.append q p) := append ..
  unfold State.enqueue
  extract_lets g lim part s1 s2
  have h2 : AnswersStand s s2 := (ite (bump ..) (refl s) : AnswersStand s s1).trans (append ..)
  clear_value s2
  split
  · split
    · dsimp only
      exact ite happend (happend.trans (setQueue (s.append q p) q (s.queue q)))
    · exact happend.trans (bump (s.append q p) oPoolCnt q 0)
  split
  · exact poolFault s 0 q
  split
  · exact h2.trans (poolFault s2 2 q)
  · dsimp only
    exact (h2.trans (setQueue ..)).trans (poolFault ..)

theorem consume (s : State) (q : Nat) : AnswersStand s (s.consume q) := by
  unfold State.consume State.dequeue
  split
  · exact refl s
  · exact (setQueue ..).trans (bump ..)

theorem taskPut (s : State) (q key : Nat) (bytes : List Byte) : AnswersStand s (s.taskPut q key bytes) :=
  ite (refl s) (enqueue ..)

theorem taskDrop (s : State) (q : Nat) (keys : Nat → Bool) : AnswersStand s (s.taskDrop q keys) :=
  ite (refl s) ((setQueue ..).trans (of_eop (setFld_eop ..)))

theorem answerKept (s : State) (i id : Nat) (a : Answer) (xs : List (Nat × Answer)) : AnswersStand s (s.answerKept i id a xs) :=
  (taskPut ..).trans (taskDrop ..)

/-! ## Messages and ports -/

theorem offer (s : State) (p k : Nat) (f : TxFrame) : AnswersStand s (s.offer p k f) := by
  have herr : ∀ c, AnswersStand s (s.portErr p c) := fun c => (bump ..).trans (raiseOnce ..)
  exact ite (herr 19) (ite (herr 18) (enqueue ..))

theorem sendMsg (s : State) (d : Dest) (k : Nat) (kind : TxKind) (op flags session id : Nat) (sl : Option Nat) (payload : List Byte)
    (task : Nat) : AnswersStand s (s.sendMsg d k kind op flags session id sl payload task) := by
  unfold State.sendMsg
  cases sl with
  | none => exact offer ..
  | some slot =>
    have hcount : ∀ n, AnswersStand s (s.setTx slot n) := fun _ => ⟨rfl, fun _ => rfl, rfl⟩
    exact ite ⟨rfl, fun _ => rfl, rfl⟩ ((hcount _).trans (offer ..))

theorem deviceDone (s : State) (h : Nat) : AnswersStand s (s.deviceDone h) := ite (of_eop rfl) (refl s)

theorem reply (s : State) (d : Dest) (op flags session id : Nat) (sl : Option Nat) (payload : List Byte) :
    AnswersStand s (s.reply d op flags session id sl payload) := by
  unfold State.reply
  split
  · exact sendMsg ..
  · next i _ =>
    have hsent : ∀ x h, AnswersStand s ((s.setTask i x).sendMsg d 6 .eop op flags session id sl payload h) := fun x h =>
      (of_eop rfl : AnswersStand s (s.setTask i x)).trans (sendMsg ..)
    exact ite (hsent ..) ((hsent ..).trans (deviceDone ..))

theorem portsSettle (s : State) : AnswersStand s s.portsSettle := by
  have hturn : ∀ (u : State) (p : Nat) x n, AnswersStand u ((u.setPort p x).setPortState p n) := fun u p x n =>
    (of_eop rfl : AnswersStand u (u.setPort p x)).trans ((of_eop (setFld_eop ..)).trans (raise ..))
  refine foldl (fun u p => ite (refl u) ?_) _ s
  unfold State.portTurn
  extract_lets w
  split
  · exact hturn ..
  · exact hturn ..
  · exact ite (refl u) (of_eop rfl)
  · exact refl u

end AnswersStand

end Sys2Proof.Machine
end

section
/-! SUPPORT. A request on a session that is carried out (R456 to R459): its operation's state, with the answer recorded and kept, and with
the tasks that the operation left. -/

namespace Sys2Proof.Machine

variable {s t u v : State} {m : EopMsg} {op i : Nat}

/-- A REPLY task takes a device slot that is free. -/
theorem deviceSlot_free {i : Nat} (hi : s.deviceSlot = some i) : i < 64 ∧ (s.task i).state = 0 := by
  have hfree := List.find?_some hi
  have hmem := List.mem_of_find?_eq_some hi
  exact ⟨List.mem_range.mp hmem, by simpa using hfree⟩

theorem deviceDone_task {h j : Nat} (hj : j ≠ h % 1024) : (s.deviceDone h).task j = s.task j := by
  unfold State.deviceDone
  split
  · exact task_setTask_of_ne _ _ hj
  · rfl

theorem sendMsg_task (s : State) (d : Dest) (k : Nat) (kind : TxKind) (op flags session id : Nat) (sl : Option Nat) (payload : List Byte)
    (h j : Nat) : (s.sendMsg d k kind op flags session id sl payload h).task j = s.task j :=
  State.task_congr (congrArg Weir.slots ((State.sendMsg_keeps ..).weir_eq (by decide))) j

/-- An answer sent as a REPLY task leaves the host's tasks, and the tasks at work. -/
theorem reply_task (d : Dest) (op flags session id : Nat) (sl : Option Nat) (payload : List Byte) {j : Nat}
    (hj : 64 ≤ j ∨ (s.task j).state ≠ 0) : (s.reply d op flags session id sl payload).task j = s.task j := by
  unfold State.reply
  split
  · exact sendMsg_task ..
  next i hi =>
    obtain ⟨hlt, hfree⟩ := deviceSlot_free hi
    have hne : j ≠ i := by
      rintro rfl
      exact hj.elim (fun h => by omega) fun h => h hfree
    have hslot : ∀ g, (g * 1024 + i) % 1024 = i := fun g => by omega
    extract_lets h x0 x s1
    have hsent : s1.task j = s.task j := (sendMsg_task ..).trans (task_setTask_of_ne s x hne)
    split
    · exact hsent
    · exact (deviceDone_task ((hslot _).symm ▸ hne)).trans hsent

theorem answered_weir (s : State) (a : Answer) : (s.answered a).weir = s.weir := rfl

theorem answered_fld (s : State) (a : Answer) (o r c : Nat) : (s.answered a).fld o r c = s.fld o r c := rfl

theorem answered_session (s : State) (a : Answer) (i : Nat) : (s.answered a).session i = s.session i := rfl

/-- The state of a request carried out on session i: its answer is recorded, and kept. -/
def OpRes.kept (r : OpRes) (op i id : Nat) : State :=
  let x := r.st.session i
  let xs := keepAnswer x.answers id (r.answer op)
  ((r.st.setSession i { x with answers := xs }).answerKept i id (r.answer op) xs).answered (r.answer op)

theorem kept_last (r : OpRes) (op i id : Nat) : (r.kept op i id).eop.lastAnswer = r.answer op := rfl

theorem kept_answers (r : OpRes) (op i id : Nat) : ((r.kept op i id).session i).answers.head? = some (id, r.answer op) := by
  have hset : ∀ x, (r.st.setSession i x).session i = x := tget_tset_self Session.closed _ i
  unfold OpRes.kept
  extract_lets x xs
  rw [answered_session, (AnswersStand.answerKept ..).kept, hset]
  rfl

theorem kept_mailbox (r : OpRes) (op i id : Nat) : MailboxStays r.st (r.kept op i id) := by
  have hset : ∀ x, MailboxStays r.st (r.st.setSession i x) := fun _ => ⟨rfl⟩
  have hnoted : ∀ w : State, MailboxStays w (w.answered (r.answer op)) := fun _ => ⟨rfl⟩
  unfold OpRes.kept
  extract_lets x xs
  exact ((hset _).trans (AnswersStand.answerKept ..).mailbox).trans (hnoted _)

theorem kept_weir (r : OpRes) (op i id : Nat) : (r.kept op i id).weir = r.st.weir := by
  unfold OpRes.kept
  extract_lets x xs
  rw [answered_weir, (State.answerKept_keeps ..).weir_eq (by decide), (State.setSession_keeps ..).weir_eq (by decide)]

theorem kept_cnt (r : OpRes) (op i id d : Nat) : (r.kept op i id).fld oWeirCnt 0 d = r.st.fld oWeirCnt 0 d := by
  unfold OpRes.kept
  extract_lets x xs
  rw [answered_fld, (State.answerKept_keeps ..).fld_eq (by decide), (State.setSession_keeps ..).fld_eq (by decide)]

/-- Request id has been answered with a on session i; the tasks and the counts of its operation, which left state s, stand. -/
structure AnsweredOn (i id : Nat) (a : Answer) (s t : State) : Prop where
  replies : Replies t i id a
  tasks : ∀ j, 64 ≤ j ∨ (s.task j).state ≠ 0 → t.task j = s.task j
  counts : ∀ d, t.fld oWeirCnt 0 d = s.fld oWeirCnt 0 d

/-- What becomes of an answer once it is queued: the ports take up their rows, and the request leaves its queue. -/
def State.replied (s : State) (m : EopMsg) (q : Nat) (sl : Option Nat) (a : Answer) : State :=
  ((s.reply (msgDest m) 0x10 (flResponse + 0) m.session m.id sl (ackPayload a)).portsSettle).consume q

theorem replied_stands (s : State) (m : EopMsg) (q : Nat) (sl : Option Nat) (a : Answer) : AnswersStand s (s.replied m q sl a) :=
  ((AnswersStand.reply ..).trans (.portsSettle _)).trans (.consume ..)

theorem replied_task (q : Nat) (sl : Option Nat) (a : Answer) {j : Nat} (hj : 64 ≤ j ∨ (s.task j).state ≠ 0) :
    (s.replied m q sl a).task j = s.task j := by
  have hsettled : ∀ w : State, (w.portsSettle.consume q).weir = w.weir := fun w =>
    ((State.consume_keeps ..).weir_eq (by decide)).trans ((State.portsSettle_keeps ..).weir_eq (by decide))
  exact (State.task_congr (congrArg Weir.slots (hsettled _)) j).trans (reply_task _ _ _ _ _ _ _ hj)

theorem replied_cnt (s : State) (m : EopMsg) (q : Nat) (sl : Option Nat) (a : Answer) (d : Nat) :
    (s.replied m q sl a).fld oWeirCnt 0 d = s.fld oWeirCnt 0 d :=
  ((State.consume_keeps ..).fld_eq (by decide) 0 d).trans (((State.portsSettle_keeps ..).fld_eq (by decide) 0 d).trans
    ((State.reply_keeps ..).fld_eq (by decide) 0 d))

theorem kept_replied (r : OpRes) (op q : Nat) (sl : Option Nat) :
    AnsweredOn i m.id (r.answer op) r.st ((r.kept op i m.id).replied m q sl (r.answer op)) where
  replies := by
    have hstands := replied_stands (r.kept op i m.id) m q sl (r.answer op)
    exact ⟨hstands.last.trans (kept_last ..), (congrArg List.head? (hstands.kept i)).trans (kept_answers ..)⟩
  tasks j hj := by
    have htask : (r.kept op i m.id).task j = r.st.task j := State.task_congr (congrArg Weir.slots (kept_weir ..)) j
    exact (replied_task q sl _ (htask.symm ▸ hj)).trans htask
  counts d := (replied_cnt ..).trans (kept_cnt ..)

/-- A message with one sender that is well-formed is answered. -/
theorem eopSilent_false (h20 : op ≠ 0x20) (h21 : op ≠ 0x21) (hf : eopMalformed op m = false) : eopSilent op m = false := by
  cases hb : m.broadcast <;> simp_all [eopMalformed, eopSilent]

/-- Operations that a session carries out (R457). -/
abbrev SessionOp (op : Nat) : Prop := op ≠ 0x20 ∧ op ≠ 0x21 ∧ op ≠ 0x30

theorem eopGoesOn_session (ho : SessionOp op) (sl : Option Nat) : u.eopGoesOn op m sl = u.bySession op m sl := by
  obtain ⟨h20, h21, h30⟩ := ho
  rw [State.eopGoesOn, if_neg h30, if_neg h20, if_neg h21]

/-- A session that is open and whose window has not ended stays so. -/
theorem expireSession_live (hl : s.sessionLive i = true) : s.expireSession i = s := if_neg (by simp [hl])

theorem boundSession_bound (hi : m.session % 64 = i) (ho : (s.session i).open_ = true) (hid : (s.session i).sid i = m.session)
    (hip : (s.session i).ip = m.srcIp) (hudp : (s.session i).udp = m.srcUdp) : s.boundSession m = some i := by
  subst hi
  exact if_pos (by simp [ho, hid, hip, hudp])

/-- A request that the session has not answered before is carried out, and its answer is kept (R456, R459). -/
theorem onSession_operates {r : OpRes} (hu : u = v.setSession i ((v.session i).heard m v.now)) (hs : eopSilent op m = false)
    (hn : storedAnswer (u.session i).answers m.id = none)
    (hr : u.operate op (msgWho m i) m.flags m.id (eopLimit m.port) m.payload = r) (sl : Option Nat) : v.onSession op m sl i =
      (r.kept op i m.id).reply (msgDest m) 0x10 (flResponse + 0) m.session m.id sl (ackPayload (r.answer op)) := by
  unfold State.onSession
  extract_lets s1
  have hs1 : s1 = u := hu.symm
  clear_value s1
  subst hs1 hr
  rw [hn]
  dsimp only
  rw [State.ack, hs]
  rfl

/-- A request on a session that is carried out for the first time: its operation comes to r. -/
theorem received_answers {r : OpRes} (ho : SessionOp op) (h : OnSession s op m i u) (hn : storedAnswer (u.session i).answers m.id = none)
    (hr : u.operate op (msgWho m i) m.flags m.id (eopLimit m.port) m.payload = r) (hm : MailboxStays u r.st) :
    AnsweredOn i m.id (r.answer op) r.st (s.received op m) := by
  obtain ⟨hi, v, hv, hlive, hid, hip, hudp, hslot, hu⟩ := h
  have hopen : (v.session i).open_ = true := ((Bool.and_eq_true _ _).mp hlive).1
  have hsilent : eopSilent op m = false := eopSilent_false ho.1 ho.2.1 hv.2.1
  have hgoes : ∀ sl, v.eopGoesOn op m sl =
      (r.kept op i m.id).reply (msgDest m) 0x10 (flResponse + 0) m.session m.id sl (ackPayload (r.answer op)) := fun sl => by
    rw [eopGoesOn_session ho, State.bySession, hi, expireSession_live hlive, boundSession_bound hi hopen hid hip hudp]
    dsimp only
    rw [if_neg (not_not.mpr hslot), onSession_operates hu hsilent hn hr]
  have hheard : MailboxStays v u := hu ▸ ⟨rfl⟩
  rw [received_goes hv (hgoes _) (((hheard.trans hm).trans (kept_mailbox ..)).trans (AnswersStand.reply ..).mailbox)]
  exact kept_replied ..

end Sys2Proof.Machine
end

section
/-! SUPPORT. SUBMIT (R426 to R432): a graph that is refused, and a graph of one record. -/

namespace Sys2Proof.Machine

variable {s t u : State} {m : EopMsg} {i h : Nat} {p r : List Byte}

/-! ## The graph's checks read the Weir alone (R431) -/

theorem State.graphBad_congr (hw : t.weir = s.weir) (critical : Bool) (p : List Byte) : t.graphBad critical p = s.graphBad critical p := by
  have hread : t.graphBad critical p = { s with weir := t.weir }.graphBad critical p := rfl
  rw [hread, hw]

theorem NewHandle.congr (hw : t.weir = s.weir) (hn : NewHandle s h) : NewHandle t h := by
  obtain ⟨slot, w, htake, hlt, hh⟩ := hn
  exact ⟨slot, w, hw ▸ htake, hlt, hh.trans (by rw [State.task_congr (congrArg Weir.slots hw.symm)])⟩

/-- A handle that is taken finds a free slot. -/
theorem NewHandle.hostFree (hn : NewHandle s h) : 1 ≤ s.hostFree := by
  obtain ⟨slot, w, htake, -, -⟩ := hn
  unfold Weir.takeSlot at htake
  unfold State.hostFree
  split at htake
  · omega
  cases hfreed : s.weir.freed with
  | nil => simp [hfreed] at htake
  | cons x xs => exact Nat.le_add_left ..

theorem nextGen_pos (g : Nat) : 1 ≤ nextGen g := by
  unfold nextGen
  split <;> omega

/-- The task that an allocation makes stands in the slot of its handle. -/
theorem allocTask_new (hn : NewHandle s h) (x : Task) : ∃ (t : State) (q : Nat), s.allocTask x = some (h, t) ∧ h ≠ 0 ∧
    t.task (h % 1024) = { x with handle := h, seq := q } ∧ t.eop = s.eop := by
  obtain ⟨slot, w, htake, hlt, hh⟩ := hn
  have hgen := nextGen_pos ((s.task slot).handle / 1024)
  have hslot : h % 1024 = slot := by omega
  rw [State.allocTask, htake]
  subst hh
  refine ⟨_, w.seq, rfl, by omega, ?_, rfl⟩
  rw [hslot]
  exact task_setTask_self ..

/-! ## A graph of one record -/

/-- The header of a graph of one record and no edge (R427). -/
abbrev oneRecord : List Byte := [1#8, 1#8, 0#8, 0#8, 0#8, 0#8, 0#8, 0#8]

theorem readGraph_one (hr : r.length = 48) : readGraph (oneRecord ++ r) = { tasks := [r], edges := [] } := by
  have htake : r.take 48 = r := List.take_of_length_le hr.le
  have hread : readGraph (oneRecord ++ r) = { tasks := [r.take 48], edges := [] } := rfl
  rw [hread, htake]

theorem firstBad_one (f : List Byte → Nat) (hr : f r = stOk) : firstBad f 0 [r] = none := if_pos hr

/-- It passes the checks where its record does and a slot is free. -/
theorem graphBad_one {critical : Bool} (hlen : r.length = 48) (hok : recordOk r = true) (ho : coreObject r = stOk)
    (ha : coreAccess critical r = stOk) (hfree : 1 ≤ s.hostFree) : s.graphBad critical (oneRecord ++ r) = none := by
  have hsize : (oneRecord ++ r).length = 56 := by simp [hlen]
  have hversion : rB (oneRecord ++ r) 0 = 1 := rfl
  have htasks : graphN (oneRecord ++ r) = 1 := rfl
  have hedges : graphE (oneRecord ++ r) = 0 := rfl
  have hzero : rN (oneRecord ++ r) 4 4 = 0 := rfl
  have hroom : ¬(s.hostFree < 1 ∨ 4096 - s.edgesUsed < s.edgesNeeded { tasks := [r], edges := [] }) := by
    have hneeded : s.edgesNeeded { tasks := [r], edges := [] } = 0 := rfl
    omega
  have hrange : firstBad (fun r => rangeOf (recordOk r)) 0 [r] = none := firstBad_one _ (by rw [hok]; rfl)
  rw [State.graphBad, if_neg (by omega), if_neg (by omega), readGraph_one hlen]
  dsimp only
  rw [hrange, firstBad_one _ ho, firstBad_one _ ha]
  exact if_neg hroom

/-- The task of the record, WAITING without a predecessor, is all that an accepted graph of one record creates. -/
theorem createGraph_one (w : Who) (hn : NewHandle s h) (hb : (rB r 3).testBit 2 = false) :
    ∃ (t : State) (q : Nat), s.createGraph w { tasks := [r], edges := [] } = ([h], t) ∧ h ≠ 0 ∧
      t.task (h % 1024) = { recordTask s w 0 r with handle := h, seq := q } ∧ t.eop = s.eop := by
  obtain ⟨t, q, halloc, hne, htask, heop⟩ := allocTask_new hn (recordTask s w 0 r)
  have hmade : s.createTasks w [] 0 [r] = ([h], t) := by
    have hpreds : predsOf [] 0 = 0 := rfl
    simp only [State.createTasks, hpreds, halloc]
  have hlate : t.lateTask h = t := by
    have hbounded : (t.task (h % 1024)).bounded = false := by rw [htask]; exact hb
    exact if_neg fun ⟨_, hbd, _⟩ => Bool.false_ne_true (hbounded.symm.trans hbd)
  refine ⟨t, q, ?_, hne, htask, heop⟩
  unfold State.createGraph
  extract_lets r0 s1 s2
  have hr0 : r0 = ([h], t) := hmade
  exact Prod.ext (by rw [hr0]) (by simp [s2, s1, hr0, hlate])

/-! ## The operation (R457, R567) -/

theorem operate_submit (hf : u.full = true) (w : Who) (fl id lim : Nat) (p : List Byte) : u.operate 0x06 w fl id lim p = u.opSubmit w p := by
  simp [State.operate, opLengthOk, hf]

/-- SUBMIT as its graph is read: the payload takes cells, and the count of graphs goes up. -/
def State.submitted (s : State) (p : List Byte) : State := (s.taskPut 48 0 p).bump oWeirCnt 0 0

theorem submitted_weir (s : State) (p : List Byte) : (s.submitted p).weir = s.weir :=
  (setFld_weir ..).trans ((State.taskPut_keeps ..).weir_eq (by decide))

theorem submitted_mailbox (s : State) (p : List Byte) : MailboxStays s (s.submitted p) :=
  (AnswersStand.taskPut ..).mailbox.trans (.bump ..)

/-- SUBMIT's payload leaves its cells. -/
def State.submitOver (s : State) : State := s.taskDrop 48 fun _ => true

theorem submitOver_task (s : State) (j : Nat) : s.submitOver.task j = s.task j :=
  State.task_congr (congrArg Weir.slots ((State.taskDrop_keeps ..).weir_eq (by decide))) j

theorem submitOver_mailbox (s : State) : MailboxStays s s.submitOver := (AnswersStand.taskDrop ..).mailbox

section
variable {w : Who}

theorem submitGraph_refused {st part : Nat} (hbad : (s.bump oWeirCnt 0 0).graphBad (originCritical w.origin) p = some (st, part)) :
    s.submitGraph w p = (st, 0, beBytes 2 part, (s.bump oWeirCnt 0 0).bump oWeirCnt 0 1) := by
  unfold State.submitGraph
  extract_lets b
  rw [show b.graphBad _ _ = _ from hbad]

theorem submitGraph_creates (hok : (s.bump oWeirCnt 0 0).graphBad (originCritical w.origin) p = none)
    (hg : (s.bump oWeirCnt 0 0).createGraph w (readGraph p) = ([h], t)) : s.submitGraph w p = (stAccepted, h, beBytes 4 h, t) := by
  unfold State.submitGraph
  extract_lets b q
  have hq : q = ([h], t) := hg
  rw [show b.graphBad _ _ = _ from hok, hq]
  simp

theorem opSubmit_refused {st part : Nat} (hbad : (u.bump oWeirCnt 0 0).graphBad (originCritical w.origin) p = some (st, part)) :
    u.opSubmit w p = { status := st, handle := 0, data := beBytes 2 part, st := ((u.submitted p).bump oWeirCnt 0 1).submitOver } := by
  have hread : (u.submitted p).graphBad (originCritical w.origin) p = some (st, part) :=
    (State.graphBad_congr ((submitted_weir u p).trans (setFld_weir ..).symm) _ _).trans hbad
  rw [State.opSubmit, submitGraph_refused hread]
  rfl

theorem opSubmit_creates (hok : (u.submitted p).graphBad (originCritical w.origin) p = none)
    (hg : (u.submitted p).createGraph w (readGraph p) = ([h], t)) :
    u.opSubmit w p = { status := stAccepted, handle := h, data := beBytes 4 h, st := t.submitOver } := by
  rw [State.opSubmit, submitGraph_creates hok hg]
  rfl

end

/-! ## A graph that is refused creates nothing -/

theorem submit_refused {st part : Nat} (h : OnSession s 0x06 m i u) (hn : storedAnswer (u.session i).answers m.id = none)
    (hf : u.full = true) (hbad : (u.bump oWeirCnt 0 0).graphBad (originCritical (msgWho m i).origin) m.payload = some (st, part)) :
    ∃ t, exec (.submit m) s = .next t ∧ Replies t i m.id { op := 0x06, status := st, handle := 0, data := beBytes 2 part } ∧
      (∀ k, 64 ≤ k → t.task k = u.task k) ∧ t.fld oWeirCnt 0 1 = (u.fld oWeirCnt 0 1 + 1) % 2 ^ 64 := by
  have hop := (operate_submit hf (msgWho m i) m.flags m.id (eopLimit m.port) m.payload).trans (opSubmit_refused hbad)
  have hmail : MailboxStays u ((u.submitted m.payload).bump oWeirCnt 0 1).submitOver :=
    ((submitted_mailbox ..).trans (.bump ..)).trans (submitOver_mailbox ..)
  have hon := received_answers ⟨by decide, by decide, by decide⟩ h hn hop hmail
  have htask : ∀ k, ((u.submitted m.payload).bump oWeirCnt 0 1).submitOver.task k = u.task k := fun k =>
    (submitOver_task ..).trans (State.task_congr (congrArg Weir.slots ((setFld_weir ..).trans (submitted_weir ..))) k)
  have hcount : ((u.submitted m.payload).bump oWeirCnt 0 1).submitOver.fld oWeirCnt 0 1 = (u.fld oWeirCnt 0 1 + 1) % 2 ^ 64 := by
    have hfirst : (u.submitted m.payload).fld oWeirCnt 0 1 = u.fld oWeirCnt 0 1 :=
      ((bump_cnt ..).trans (if_neg (by decide))).trans ((State.taskPut_keeps ..).fld_eq (by decide) 0 1)
    rw [State.submitOver, (State.taskDrop_keeps ..).fld_eq (by decide), bump_cnt, if_pos rfl, hfirst]
  exact ans_next (u := s.received 0x06 m) (fun _ _ h => h)
    ⟨hon.replies, fun k hk => (hon.tasks k (.inl hk)).trans (htask k), (hon.counts 1).trans hcount⟩

/-! ## A graph of one record creates its task -/

theorem submit_creates (ho : OnSession s 0x06 m i u) (hn : storedAnswer (u.session i).answers m.id = none) (hf : u.full = true)
    (hp : m.payload = oneRecord ++ r) (hlen : r.length = 48) (hok : recordOk r = true) (hobj : coreObject r = stOk)
    (hacc : coreAccess (originCritical (msgWho m i).origin) r = stOk) (hb : (rB r 3).testBit 2 = false) (hnew : NewHandle u h) :
    ∃ t, exec (.submit m) s = .next t ∧ Replies t i m.id { op := 0x06, status := stAccepted, handle := h, data := beBytes 4 h } ∧
      t.handleLive h = true ∧ (t.task (h % 1024)).state = 1 ∧ (t.task (h % 1024)).counter = 0 ∧ (t.task (h % 1024)).cls = rB r 0 ∧
      (t.task (h % 1024)).prio = rB r 1 ∧ (t.task (h % 1024)).domain = rB r 2 ∧ (t.task (h % 1024)).params = r.drop 32 := by
  have hnew' : NewHandle (u.submitted m.payload) h := hnew.congr (submitted_weir ..)
  have hread : readGraph m.payload = { tasks := [r], edges := [] } := hp ▸ readGraph_one hlen
  have hgood : (u.submitted m.payload).graphBad (originCritical (msgWho m i).origin) m.payload = none :=
    (congrArg _ hp).trans (graphBad_one hlen hok hobj hacc hnew'.hostFree)
  obtain ⟨v, q, hmade, hne, htask, heop⟩ := createGraph_one (msgWho m i) hnew' hb
  have hop := (operate_submit hf (msgWho m i) m.flags m.id (eopLimit m.port) m.payload).trans
    (opSubmit_creates hgood ((congrArg _ hread).trans hmade))
  have hmail : MailboxStays u v.submitOver := ((submitted_mailbox ..).trans (.of_eop heop)).trans (submitOver_mailbox v)
  have hon := received_answers ⟨by decide, by decide, by decide⟩ ho hn hop hmail
  have hover : v.submitOver.task (h % 1024) = _ := (submitOver_task ..).trans htask
  have hstands := (hon.tasks (h % 1024) (.inr (by rw [hover]; exact Nat.one_ne_zero))).trans hover
  refine ans_next (u := s.received 0x06 m) (fun _ _ h => h) ⟨hon.replies, ?_⟩
  rw [State.handleLive, hstands]
  simp [hne, recordTask]

/-! ## The obligation -/

/-- A task that waits for its gates and its fence, in one of the three ways that an instant at which it looks can go. -/
theorem taskReady_instant {slot : Nat} {k : Task} (hk : k = s.task slot) (hstate : k.state = 1) (hcounter : k.counter = 0)
    (hu : u = s.atGate k) :
    (k.fenced = true → reached (u.fenceSeen k.fence u.tbUnits) k.fenceVal = false → exec (.taskReady slot) s = .next s) ∧
    (u.fencePassed k →
      ((k.bounded = false ∨ u.now < k.deadTick) → ∃ t, exec (.taskReady slot) s = .next t ∧
        ReadyAt slot k u.nowPt s.weir.rseq s t) ∧
      (k.bounded = true → k.deadTick ≤ u.now → u.cancelComes k.handle = true → exec (.taskReady slot) s = .next u) ∧
      (k.bounded = true → k.deadTick ≤ u.now → u.cancelComes k.handle = false → s.handleLive k.handle = true →
        ∃ t, exec (.taskReady slot) s = .next t ∧ Completed t k.handle stTimeout)) := by
  subst hu
  refine ⟨fun hfenced hfar => taskReady_waits hk (.inr (.inr ?_)), fun hfence => ⟨fun hd => ?_, fun hb hd hc => ?_, fun hb hd hc hl => ?_⟩⟩
  · rintro (hno | hreached)
    · exact Bool.false_ne_true (hno.symm.trans hfenced)
    · exact Bool.false_ne_true (hfar.symm.trans hreached)
  · exact taskReady_ready hk hstate hcounter hfence hd
  · exact taskReady_cancelled hk hstate hcounter hfence hb hd hc
  · exact taskReady_timesOut hk hstate hcounter hfence hb hd hc hl

/-- Settles O55: a task by what its gate, its fence and its deadline come to at the instant it looks, a core's task by the answer of its
write, and a SUBMIT by what the graph's checks find. That a CORE task makes its write at TASK_COMPLETE is the choice of log entry 71, and that
a cancel still waiting for this cycle comes before the deadline that of log entry 75. -/
theorem taskInstants : Obligations.TaskInstants := by
  refine ⟨fun slot k u s hk => ⟨fun hno => ?_, fun hstate hcounter hu => ?_⟩, fun slot k s hk => ⟨taskDeadline_waits hk, ?_⟩,
    fun slot st k r s hk hruns hcls hcore hl => ?_, fun _ _ _ _ _ _ => submit_creates, fun _ _ _ _ _ _ => submit_refused⟩
  · exact taskReady_waits hk (hno.imp_right .inl)
  · obtain ⟨hfar, hopen⟩ := taskReady_instant hk hstate hcounter hu
    refine ⟨hfar, fun hfence => ⟨fun hd => ?_, (hopen hfence).2⟩⟩
    obtain ⟨t, ht, ⟨h1, h2, h3, h4, h5, h6⟩⟩ := (hopen hfence).1 hd
    exact ⟨t, ht, h1, h2, h3, h4, h5, h6⟩
  · exact fun hb hw _ hc hl => taskDeadline_ends hk hb hw hc hl
  · have hon : OnCore s slot k := ⟨hk, hruns, hcls, hcore⟩
    refine ⟨fun hst => ?_, fun hst hr => ⟨fun hno hl' => ?_, fun hacc => ?_⟩⟩
    · exact hst ▸ taskComplete_fails hon hl
    · subst hr
      exact taskComplete_writes hon hst hno hl'
    · subst hr
      exact taskComplete_goesOn hon hst hacc

end Sys2Proof.Machine
end
